-- ==== Sys2Proof/Word.lean ====
section
/-!
DEFINITION. The machine word and NaV (R4, R6, R432).
-/

namespace Sys2Proof

/-- An engine word or a register word: 32-bit two's complement (R4, R432). -/
abbrev Word := BitVec 32

/-- A byte of DRAM or of a frame. -/
abbrev Byte := BitVec 8

/-- NaV, not a value (R6). -/
def nav : Word := 0x80000000#32

/-- The port from which an access comes (R404, R417): the host port or the service port. -/
inductive Port | host | svc
  deriving DecidableEq, Repr

end Sys2Proof
end

