-- ==== Sys2Proof/Operand.lean ====
section
/-!
DEFINITION. The operand types of the commands.
-/

namespace Sys2Proof

/-- The three memories of a cell (R91). -/
inductive CellMem | coef | st | bun
  deriving DecidableEq, Repr

/-- What a rotor tick takes from outside its own state, as Q3.28 words: the gains that the spec names and does not give, of the
second-order generalised integrators (R41, R60), and of the notch at 2ω (R43); the inverter current, from which a group without sensed output
current estimates it (R41); and the capacitor voltage (R46). Log 65 (DESIGN CHOICE). -/
structure TickMeas where
  kSogi : Word
  kNotch : Word
  iInvA : Word
  iInvB : Word
  iInv0 : Word
  vcA : Word
  vcB : Word
  vc0 : Word
  deriving DecidableEq, Repr

/-- What a converter finds at one conversion (R184, R194, R195, R197): a raw code, an input beyond full scale by sign, one beyond
twice full scale, or a failed check of its reference or its completion. -/
inductive Sampled | code (v : BitVec 16) | over (neg : Bool) | clamp (neg : Bool) | failed
  deriving DecidableEq, Repr

/-- Why a boot phase fails (R423): its limit passes, the check of the ROM, the lock of a PLL, the training of the converter link or of
a drive status link, or of the memory channel. -/
inductive BootFault | limit | rom | pll (p : Fin 3) | converter | drive (d : Fin 4) | memory
  deriving DecidableEq, Repr

end Sys2Proof
end

