-- ==== Sys2Proof/Syntax.lean ====
section
/-!
DEFINITION. The commands of the block: one constructor per row of the opcode table, in its order. Commands from a host or service
port carry the port; events of a group, cell, context, leg, die, channel, converter or queue carry its number; what analog
circuits, pins, other modules and the sensors of the chip contribute to an event is an operand of it.
-/

namespace Sys2Proof

/-- The commands. -/
inductive Instr
  /-- REGISTER_WRITE (R157): A write to a register with no row of its own: D fields go to their shadows and I fields take effect.
  -/
  | registerWrite (p : Port) (a : Fin 0x4000) (v : Word)
  /-- CHART_LO_READ (R11): A read of SYS_CHART_LO latches bits [63:32] of the same instant into this port's SYS_CHART_HI. -/
  | chartLoRead (p : Port)
  /-- SNAP_LO_READ (R55): A read of GFM_G[g]_SNAP_LO latches the live registers of group g and the chart time of the latch. -/
  | snapLoRead (p : Port) (g : Fin 8)
  /-- RTC_LO_READ (R393): A read of SEC_RTC_LO latches SEC_RTC_HI. -/
  | rtcLoRead (p : Port)
  /-- E_EXP_LO_READ (R403): A read of SEC_TALLY_G[g] E_EXP_LO latches every Tally field of the group. -/
  | eExpLoRead (p : Port) (g : Fin 8)
  /-- EXPERT_CELL_WRITE (R170): An expert direct write to a cell memory lands whole, at once and unstaged. -/
  | expertCellWrite (p : Port) (o : Fin 0x40000) (w : Word)
  /-- CONVERTER_RESULT_ITEM (R189): A converter result item crosses into domain C and is delivered to its destinations, ADC_RES,
  Contour, the Tally and its stream. -/
  | converterResultItem (c : Fin 32) (parity : Bool)
  /-- DLINK_CLOCK_LOSS (R22): A drive die sees no link clock edge for 0.8 to 1.2 us, turns off all 16 legs and latches LINKF. -/
  | dlinkClockLoss (d : Fin 4)
  /-- DRVEN_LOW (R23): DRVENn goes low and every leg of drive die n turns off. -/
  | drvenLow (d : Fin 4)
  /-- DRVEN_RISE (R252): DRVENn rises after at least 2 us low, clearing the die's latched faults and locking the bootstrap
  lockouts. -/
  | drvenRise (d : Fin 4) (link : Bool) (hot : Bool)
  /-- UPDATE_POINT (R213): A carrier period start or peak of a leg or group loads compare values and drives schedule starts,
  UPDATE triggers and commit instants. -/
  | updatePoint (unit : Fin 72)
  /-- CARRIER_ORIGIN (R212): All carriers start at the carrier origin after arming begins. -/
  | carrierOrigin
  /-- ROTOR_TICK (R38): The rotor tick integrates the swing equation and runs the trackers, governors, droop, limiter and mode
  checks of a group. -/
  | rotorTick (g : Fin 8) (m : TickMeas)
  /-- ILIM_SHORT_TERM_EXPIRY (R64): The limiter has bound for a total of TST and I_lim starts falling to ICONT. -/
  | ilimShortTermExpiry (g : Fin 8)
  /-- ILIM_RESTORE (R64): The current has stayed at or below ICONT for TREC and the IST allowance is restored. -/
  | ilimRestore (g : Fin 8)
  /-- DC_BUS_LOW_TIMEOUT (R66): The DC bus has stayed below 0.5 x VDC_MIN for 10 ms and the fault action for source 0x09 runs. -/
  | dcBusLowTimeout (g : Fin 8)
  /-- ZERO_VOLTAGE_TIMEOUT (R70): The zero-voltage time in RIDE reaches TZ and the fault action for source 0x03 runs. -/
  | zeroVoltageTimeout (g : Fin 8)
  /-- RIDE_TIMEOUT (R70): The ride time reaches TL and the fault action for source 0x04 runs. -/
  | rideTimeout (g : Fin 8)
  /-- RIDE_EXIT (R71): A TEXIT interval of good voltage without binding ends and the group leaves RIDE. -/
  | rideExit (g : Fin 8)
  /-- BLACK_START_FLUX_TIMEOUT (R75): Flux holds total more than TRAMP: BSFAIL_S is set and the fault action for source 0x05 runs.
  -/
  | blackStartFluxTimeout (g : Fin 8)
  /-- BLACK_START_SETTLED (R76): V+ has stayed in range for TSETTLE with E at target and the group enters ISLAND. -/
  | blackStartSettled (g : Fin 8)
  /-- GRID_RETURNED (R80): Channel G has held its windows for TQUAL, GRIDRET_S is set and SYNCING may begin. -/
  | gridReturned (g : Fin 8)
  /-- SYNC_CLOSE_ASSERT (R82): TDWELL of continuous window ends: SYNC_CLOSE goes high and CLOSE_S, CLOSE_CNT and CLOSE_STAMP are
  recorded. -/
  | syncCloseAssert (g : Fin 8)
  /-- SYNC_CLOSE_PULSE_END (R83): In PULSE mode SYNC_CLOSE falls after PULSE x 10 ms. -/
  | syncClosePulseEnd (g : Fin 8)
  /-- CLOSE_WAIT_TIMEOUT (R84): The breaker has not read closed within TCLOSE + TDEB + 50 ms: CLOSEFAIL_S is set and SYNC_CLOSE
  falls. -/
  | closeWaitTimeout (g : Fin 8)
  /-- BREAKER_STATE_CHANGE (R78): A breaker state change that has held for TDEB takes effect. -/
  | breakerStateChange (g : Fin 8)
  /-- STOP_WAIT_TIMEOUT (R86): A controlled stop proceeds after 30 s of waiting for low power. -/
  | stopWaitTimeout (g : Fin 8)
  /-- STOP_LEGS_OFF (R86): At the next carrier boundary the stopping group's legs turn off, the flux is stored and MODE becomes
  OFF. -/
  | stopLegsOff (g : Fin 8)
  /-- GROUP_START (R51): A write of 1 to GFM_G[g]_CTRL.EN starts the group from live terminals or by black start. -/
  | groupStart (p : Port) (g : Fin 8)
  /-- GROUP_STOP (R86): A write of 0 to GFM_G[g]_CTRL.EN begins a controlled stop. -/
  | groupStop (p : Port) (g : Fin 8)
  /-- SETPOINT_WRITE (R53): A write to PSET, QSET, FSET or VSET is range-checked and becomes the governor target. -/
  | setpointWrite (p : Port) (g : Fin 8) (k : Fin 4) (v : Word)
  /-- SEC_OFFSET_WRITE (R54): A write to SEC_DF or SEC_DV is accepted only from the source that SEC_SRC selects. -/
  | secOffsetWrite (p : Option Port) (g : Fin 8) (dv : Bool) (v : Word)
  /-- SYNC_ARM (R80): A write of 1 to SYNC_CTRL.ARM requests resynchronisation once the grid has returned. -/
  | syncArm (p : Port) (g : Fin 8)
  /-- SYNC_DISARM (R83): A write of 0 to ARM while AUTO is 0 drives SYNC_CLOSE low and returns SYNCING to ISLAND. -/
  | syncDisarm (p : Port) (g : Fin 8)
  /-- GRT_TIMER_TICK (R108): An engine timer ticks and makes its TIMER contexts ready. -/
  | grtTimerTick (k : Fin 8)
  /-- GRT_KICK (R107): A write to GRT_KICK triggers a HOST context. -/
  | grtKick (p : Port) (n : Fin 128)
  /-- CONTEXT_DISPATCH (R111): A free cell dispatches the chosen ready context, snapshotting its input ports. -/
  | contextDispatch (c : Fin 32)
  /-- CONTEXT_PREEMPT (R112): At the next bundle boundary a higher-level ready context pre-empts the running one. -/
  | contextPreempt (c : Fin 32)
  /-- DEADLINE_EXPIRY (R117): An execution misses its deadline: late outputs are discarded, DLMISS_S is set and DL_CNT and
  MISS_RUN are incremented. -/
  | deadlineExpiry (n : Fin 256)
  /-- TRIGGER_WATCHDOG (R119): No trigger has arrived within 1.5 x TICK_NOM: TRGLOST_S is set and misses are counted. -/
  | triggerWatchdog (n : Fin 128)
  /-- CONTEXT_ENABLE (R110): A write of 1 to GRT_CTX[n]_CTRL.EN reloads the context's initial state and clears MISS_RUN. -/
  | contextEnable (p : Port) (n : Fin 128)
  /-- CONTEXT_DISABLE (R110): A write of 0 to EN stops dispatch and drops any pending trigger. -/
  | contextDisable (p : Port) (n : Fin 128)
  /-- NOP (R102): Engine operation that does nothing. -/
  | opNop (c : Fin 32)
  /-- LDC (R102): Loads a coefficient word into a register as raw bits. -/
  | opLdc (c : Fin 32)
  /-- LDS (R102): Loads a state word into a register. -/
  | opLds (c : Fin 32)
  /-- STS (R102): Writes a register back to a state word. -/
  | opSts (c : Fin 32)
  /-- IN (R109): Reads an input port into a register. -/
  | opIn (c : Fin 32)
  /-- OUT (R109): Delivers a register to an output port and through the crossbar to its destinations. -/
  | opOut (c : Fin 32)
  /-- ADD (R99): Adds two registers with symmetric saturation. -/
  | opAdd (c : Fin 32)
  /-- SUB (R99): Subtracts two registers with symmetric saturation. -/
  | opSub (c : Fin 32)
  /-- NEG (R99): Negates a register with saturation. -/
  | opNeg (c : Fin 32)
  /-- ABS (R99): Takes the absolute value of a register with saturation. -/
  | opAbs (c : Fin 32)
  /-- MIN (R102): Takes the minimum of two registers. -/
  | opMin (c : Fin 32)
  /-- MAX (R102): Takes the maximum of two registers. -/
  | opMax (c : Fin 32)
  /-- LIMIT (R100): Clamps a register to plus or minus a bound; a negative bound yields NaV. -/
  | opLimit (c : Fin 32)
  /-- SEL (R100): Writes reg[B] to reg[D] when the condition is not negative. -/
  | opSel (c : Fin 32)
  /-- SHIFT (R102): Scales a register by a signed power of two with rounding and saturation. -/
  | opShift (c : Fin 32)
  /-- CLR (R102): Clears an accumulator and its NaV flag. -/
  | opClr (c : Fin 32)
  /-- MUL (R97): Sets an accumulator to the product of two registers. -/
  | opMul (c : Fin 32)
  /-- MAC (R97): Adds the product of two registers to an accumulator. -/
  | opMac (c : Fin 32)
  /-- MSU (R97): Subtracts the product of two registers from an accumulator. -/
  | opMsu (c : Fin 32)
  /-- MAC2 (R97): Accumulates two register products into ACC0 and ACC1. -/
  | opMac2 (c : Fin 32)
  /-- MULC (R97): Sets an accumulator to a register times an aligned coefficient. -/
  | opMulc (c : Fin 32)
  /-- MACC (R97): Adds a register times a coefficient to an accumulator. -/
  | opMacc (c : Fin 32)
  /-- MSUC (R97): Subtracts a register times a coefficient from an accumulator. -/
  | opMsuc (c : Fin 32)
  /-- MACC2 (R97): Accumulates two register-coefficient products into ACC0 and ACC1. -/
  | opMacc2 (c : Fin 32)
  /-- RND (R98): Rounds an accumulator into a saturated word of the selected format. -/
  | opRnd (c : Fin 32)
  /-- WRAP (R102): Wraps a register into [-pi, +pi). -/
  | opWrap (c : Fin 32)
  /-- SINCOS (R102): Writes the sine and cosine of a register angle. -/
  | opSincos (c : Fin 32)
  /-- DIV (R102): Divides two registers with rounding and saturation; a zero divisor yields NaV. -/
  | opDiv (c : Fin 32)
  /-- SQRT (R102): Takes the rounded square root; a negative operand yields NaV. -/
  | opSqrt (c : Fin 32)
  /-- REP (R105): Repeats the next A + 1 operations with stepped addresses. -/
  | opRep (c : Fin 32)
  /-- FLAG (R102): Sets a bit of the context's status destination when a register is nonzero. -/
  | opFlag (c : Fin 32)
  /-- FETCH (R123): Starts a DMA read of 1 to 32 words into state memory. -/
  | opFetch (c : Fin 32)
  /-- WAITF (R123): Waits until every FETCH of the execution has completed. -/
  | opWaitf (c : Fin 32)
  /-- END (R116): Ends an execution and judges it on time or late. -/
  | opEnd (c : Fin 32)
  /-- FETCH_COMPLETE (R123): A fetch completes and a waiting context becomes ready again. -/
  | fetchComplete (c : Fin 32)
  /-- ECC_WRITEBACK (R94): A corrected cell-memory word is written back in the next free memory cycle. -/
  | eccWriteback (c : Fin 32) (m : CellMem) (stg : Bool) (ix : Fin 1024)
  /-- MIRROR_REPAIR (R95): The housekeeping core rewrites a poisoned coefficient or bundle word from its DRAM mirror bank; `poisoned`:
  this read of the mirror word meets an uncorrectable soft error of the DRAM. -/
  | mirrorRepair (c : Fin 32) (bun : Bool) (stg : Bool) (ix : Fin 1024) (poisoned : Bool)
  /-- CELL_SWEEP_READ (R95): The sweep reads a cell-memory word in a free cycle, correcting and counting errors. -/
  | cellSweepRead (c : Fin 32) (m : CellMem) (stg : Bool) (ix : Fin 1024)
  /-- IMAGE_VERIFY (R149): A write of STG_ATL_CTRL.VERIFY = 1 starts checking the image in SLOT. -/
  | imageVerify (p : Port) (slot : Fin 4)
  /-- IMAGE_VERIFY_DONE (R149): Verification ends with the image STAGED, or failed with RESULT, SHEET and FAIL_S. -/
  | imageVerifyDone
  /-- IMAGE_DISCARD (R151): A write of STG_ATL_CTRL.DISCARD = 1 discards the staged image. -/
  | imageDiscard (p : Port)
  /-- SWAP_COMPLETE (R153): The last old-image execution ends, the old copies become staging copies and SWAP_S is set. -/
  | swapComplete
  /-- SURVEY (R164): A write of STG_CTRL.SURVEY = 1 starts a survey and locks the shadow bank. -/
  | survey (p : Port)
  /-- COMMIT_GO (R165): A write of STG_CTRL.GO = 1 starts a survey that leads to a commit. -/
  | commitGo (p : Port)
  /-- SURVEY_DONE (R164): A survey passes or fails, writing its result and fixing the commit instant for GO. -/
  | surveyDone
  /-- DRAFT_DISCARD (R161): A write of STG_CTRL.DISCARD = 1 discards the drafts or cancels a pending commit. -/
  | draftDiscard (p : Port)
  /-- CDRAFT_APPEND (R162): A write to STG_CDRAFT_DATA appends a drafted coefficient entry. -/
  | cdraftAppend (p : Port) (w : Word)
  /-- CDRAFT_CLEAR (R162): A write of STG_CTRL.CDRAFT_CLR = 1 empties the coefficient draft. -/
  | cdraftClear (p : Port)
  /-- COMMIT_APPLY (R168): At the commit instant domain C applies the drafts, flips the cell copies and sends the commit strobes.
  -/
  | commitApply
  /-- COMMIT_DOMAIN_APPLY (R167): A commit strobe reaches another domain, which loads its held values. -/
  | commitDomainApply (d : Fin 6)
  /-- COMMIT_DMA_TIMEOUT (R169): The 50 us DMA wait ends without completion and the commit is deferred with DEFER_S. -/
  | commitDmaTimeout
  /-- SCHEDULE_START (R180): A regular converter sequence pass starts OFFSET after an update point. -/
  | scheduleStart (c : Fin 32)
  /-- INJECT_REQUEST (R183): A timer tick or ADC_INJ_KICK write requests an injected sequence, or merges with one pending. -/
  | injectRequest (p : Option Port) (m : Word)
  /-- INJECTED_START (R183): A pending injected sequence starts at a slot boundary where it fits before the next regular start. -/
  | injectedStart (c : Fin 32)
  /-- CONVERSION_COMPLETE (R184): A slot's conversion completes and its code enters the entry's sum; a complete entry is averaged
  and calibrated. -/
  | conversionComplete (c : Fin 32) (x : Sampled)
  /-- CAL_ZERO (R206): ADC_CAL_CMD START with POINT ZERO measures the zero point of an input. -/
  | calZero (p : Port) (ix : Fin 128) (n : Fin 8)
  /-- CAL_SPAN (R206): ADC_CAL_CMD START with POINT SPAN measures the span point of an input. -/
  | calSpan (p : Port) (ix : Fin 128) (n : Fin 8)
  /-- CAL_MEASURE_DONE (R206): A calibration measurement ends, writing M0 or M1 and CALDONE_S, or failing. -/
  | calMeasureDone
  /-- CAL_COMPUTE (R207): ADC_CAL_CMD START with POINT COMPUTE drafts OFS and G for an input. -/
  | calCompute (p : Port) (ix : Fin 128) (n : Fin 8)
  /-- POLARITY_CHECK (R208): ADC_POL_CFG START begins a correlation polarity check of an input. -/
  | polarityCheck (p : Port) (ix : Fin 128) (kind : Bool) (ref : Fin 128) (w : Fin 16)
  /-- POLARITY_DONE (R208): The polarity check ends after 2^W ticks with CORR, its verdict and POLDONE_S. -/
  | polarityDone
  /-- SOFTWARE_TRIP (R225): A write of 1 to a TRP_SW bit activates a software trip source for one C-cycle. -/
  | softwareTrip (p : Port) (m : Fin 16)
  /-- TRIP_SOURCE_LATCH (R231): An active trip source latches, forces its zones' legs to safe levels and records the trip. -/
  | tripSourceLatch (k : Fin 84) (on : Bool)
  /-- TRIP_CLEAR (R232): A write of 1 to a TRP_CLR bit clears an inactive source's latch, or is refused with CLRREF_S. -/
  | tripClear (p : Port) (k : Fin 3) (m : Word)
  /-- GATE_TURN_ON (R245): A turn-on command edge reaches the drive die and waits for gate confirmation. -/
  | gateTurnOn (n : Fin 64) (high : Bool) (clear : Bool)
  /-- GATE_CONFIRMED (R245): The opposite gate falls below 2.0 V and the waiting turn-on begins 20 ns later. -/
  | gateConfirmed (n : Fin 64) (high : Bool)
  /-- GATE_CONFIRM_TIMEOUT (R245): The gate-confirm wait expires: the turn-on is abandoned and GSTUCK is latched. -/
  | gateConfirmTimeout (n : Fin 64) (high : Bool)
  /-- GATE_LOW_TIMEOUT (R246): A switch's gate has not passed 7.0 V within GCW: it turns off and GLOW is latched. -/
  | gateLowTimeout (n : Fin 64) (high : Bool)
  /-- BOOTSTRAP_UNLOCK (R242): The bootstrap voltage rises through 8.6 V and the high-side lockout unlocks. -/
  | bootstrapUnlock (n : Fin 64)
  /-- BSUV_TIMEOUT (R243): The lockout stays locked for BSUV_T after a bootstrap undervoltage and UVLAT latches. -/
  | bsuvTimeout (n : Fin 64)
  /-- SW_EDGE_MEASURED (R247): The edge timer times a switch-node transition and credits it to a strength code. -/
  | swEdgeMeasured (n : Fin 64) (rising : Bool) (q : Fin 65536)
  /-- ADAPT_STEP (R248): After 2^AVG credited edges a strength code is raised, lowered or kept. -/
  | adaptStep (n : Fin 64) (k : Fin 4)
  /-- SHORT_CIRCUIT (R250): The shunt voltage reaches SC_THR: soft turn-off, SC latched and trip source 16 + n active. -/
  | shortCircuit (n : Fin 64) (on : Bool)
  /-- DRV_VUV (R251): VDRVd falls below 8.8 V after once exceeding 9.4 V and VUV latches on the die. -/
  | drvVuv (d : Fin 4)
  /-- DRV_OT (R251): The drive die temperature exceeds 150 C and OT latches. -/
  | drvOt (d : Fin 4)
  /-- LEG_RELEASE (R255): A leg is released to RELEASED once both of its commands are off. -/
  | legRelease (n : Fin 64)
  /-- REFERENCE_LOSS (R271): The reference becomes invalid by a gap or an out-of-range frequency. -/
  | referenceLoss (refKhz : Fin 65536) (kKhz : Fin 65536)
  /-- REFERENCE_VALID (R260): The reference becomes valid again after 64 good periods. -/
  | referenceValid (refKhz : Fin 65536) (kKhz : Fin 65536)
  /-- PLL_LOSS_OF_LOCK (R271): A PLL loses lock, sets its LOL flag and counter, and acts per domain. -/
  | pllLossOfLock (p : Fin 3) (byRef : Bool)
  /-- PLL_LOCK (R271): A PLL locks by fast hop or band search. -/
  | pllLock (p : Fin 3) (band : Fin 64) (coarse : Fin 1024) (temp : Fin 256)
  /-- FAST_HOP_TIMEOUT (R266): A fast hop has not locked within 5 us: HOPFAIL_S is set and the band entry is invalidated. The
  temperature as the time runs out comes with it; the entry is the one that the hop loaded as it began. -/
  | fastHopTimeout (p : Fin 3) (temp : Fin 256)
  /-- HOLDOVER_EXPIRY (R272): The 2 ms holdover window ends without lock: PLL-C goes FREE, HOLDX_S is set and source 0x06 actions
  run. -/
  | holdoverExpiry
  /-- DOMAIN_A_SWITCHOVER (R273): Domain A changes to the C-derived clock at the next slot boundary after PLL-A loses lock. -/
  | domainASwitchover
  /-- DOMAIN_A_SWITCHBACK (R273): Domain A changes back to PLL-A at a slot boundary 1 us after lock. -/
  | domainASwitchback
  /-- MEM_SELF_REFRESH_ENTRY (R274): After PLL-M loss the bursts in flight end, the DRAM enters self-refresh and the M clock
  stops. -/
  | memSelfRefreshEntry
  /-- MEM_SELF_REFRESH_EXIT (R274): After PLL-M relocks the DRAM leaves self-refresh and DMA resumes. -/
  | memSelfRefreshExit
  /-- SPREAD_STEP (R268): Every 400 C-cycles the profile generator recomputes the commanded ratio of PLL-C. -/
  | spreadStep
  /-- SPREAD_PROFILE_RESTART (R269): A committed spreading change applies at the old profile's next q = 0. -/
  | spreadProfileRestart
  /-- BAND_TABLE_CLEAR (R266): A write of CLK_BAND_CTRL.CLEAR invalidates every band table entry unless armed. -/
  | bandTableClear (p : Port)
  /-- QUEUE_ERROR (R278): A pointer-copy mismatch resets a dual-clock queue and records QERR. -/
  | queueError (q : Fin 45) (lost : Bool)
  /-- MEM_INIT_DONE (R286): The initial DRAM fill completes and INIT_DONE and MEM_UP become 1. -/
  | memInitDone (lost : Option (Fin 10))
  /-- DIE_CE_WINDOW (R287): At the end of a 1 s window a die whose corrections reach THR is marked lost, or LOST2 is set. -/
  | dieCeWindow
  /-- DIE_MARK (R287): A write of MEM_DIE_CTRL.MARK marks a die lost. -/
  | dieMark (p : Port) (d : Fin 16)
  /-- DIE_UNMARK (R287): A write of MEM_DIE_CTRL.UNMARK removes the die marking. -/
  | dieUnmark (p : Port)
  /-- SCRUB_READ (R291): Patrol scrub reads a DRAM block and judges it. -/
  | scrubRead
  /-- ERRATA_ADD (R293): A write of MEM_ERRATA_CTRL.ADD starts moving a block to a spare block. -/
  | errataAdd (p : Port) (b : Fin 0x80000)
  /-- ERRATA_REMOVE (R293): A write of MEM_ERRATA_CTRL.REMOVE moves a block back and frees its entry. -/
  | errataRemove (p : Port) (b : Fin 0x80000)
  /-- ERRATA_MOVE_DONE (R293): An errata move ends, the entry becomes valid and ERRADD_S is set. -/
  | errataMoveDone
  /-- CHECKER_INJECT (R294): A write of MEM_INJ_CTRL.GO rewrites a block with one beat corrupted by the mask. -/
  | checkerInject (p : Port)
  /-- CHECKER_INJECT_DONE (R294): The checker write completes and INJ_S is set. -/
  | checkerInjectDone
  /-- DMA_REQUEST_ACCEPT (R302): A DMA request takes a tracker entry when its class bounds allow. -/
  | dmaRequestAccept (r : Fin 34)
  /-- DMA_REQUEST_COMPLETE (R284): A DMA request's beats complete, each read beat judged by the decoder. -/
  | dmaRequestComplete (r : Fin 34)
  /-- DMA_TIMEOUT (R306): A request has no completion within TMO and the channel faults with cause TIMEOUT. -/
  | dmaTimeout (c : Fin 32)
  /-- COPY_START (R296): A write of DMA_CH[c]_CTRL.START starts a COPY chain. -/
  | copyStart (p : Port) (c : Fin 32)
  /-- COPY_DESCRIPTOR_DONE (R298): A COPY descriptor completes and DONE_CNT is incremented. -/
  | copyDescriptorDone (c : Fin 32)
  /-- DMA_RESUME (R307): A write of DMA_CH[c]_CTRL.RESUME resumes a halted channel. -/
  | dmaResume (p : Port) (c : Fin 32)
  /-- DMA_AUTO_RESUME (R307): A channel with ARES resumes by itself 1 ms after a TIMEOUT or QERR fault. -/
  | dmaAutoResume (c : Fin 32)
  /-- STREAM_RECORD_WRITE (R297): A STREAM channel's record write completes and WPTR advances, with laps in OVERWRITE mode. -/
  | streamRecordWrite (c : Fin 32)
  /-- ENVELOPE_WINDOW_END (R318): An envelope window ends and the min and max are written with an envelope record. -/
  | envelopeWindowEnd
  /-- SEQ_WITHIN_TIMEOUT (R321): A WITHIN state is not left within TIME and the sequencer returns to state 0. -/
  | seqWithinTimeout (k : Fin 4)
  /-- SEQ_HOLD_OCCURRENCE (R321): A HOLD condition has held for TIME and counts an occurrence. -/
  | seqHoldOccurrence (k : Fin 4)
  /-- RECORDER_ARM (R322): A write of CTR_SEQ[s]_CTRL.ARM puts the recorder in ARMED. -/
  | recorderArm (p : Port) (k : Fin 4)
  /-- RECORDER_FORCE (R322): A write of FORCE in ARMED triggers the recorder at once. -/
  | recorderForce (p : Port) (k : Fin 4)
  /-- RECORDER_POST_END (R322): POST us after the trigger the recorder stops writing. -/
  | recorderPostEnd (k : Fin 4)
  /-- RECORDER_MEASURE_START (R322): Once the last record has completed the recorder copies END_WPTR and enters MEASURING. -/
  | recorderMeasureStart (k : Fin 4)
  /-- RECORDER_MEASURE_DONE (R323): The housekeeping measurement ends with its results and the recorder enters DONE. -/
  | recorderMeasureDone (k : Fin 4)
  /-- INJECTION_UPDATE (R325): Every 400 C-cycles the generator writes INJ_A and INJ_B. -/
  | injectionUpdate (g : Fin 8)
  /-- BURST_START (R327): After PERIOD and a random delay the generator begins a Sounding burst. -/
  | burstStart (g : Fin 8)
  /-- BURST_END (R328): A burst of TB ends and Contour's correlations give Z_k and Q_k per tone. -/
  | burstEnd (g : Fin 8)
  /-- SOUNDING_FIT (R329): The housekeeping core fits R and X over accepted tones and computes retune targets. -/
  | soundingFit (g : Fin 8)
  /-- RETUNE_APPLY (R330): The retuned pair takes effect at a rotor tick boundary at least 1 ms after the fit. -/
  | retuneApply (g : Fin 8)
  /-- TUNE_START (R331): A write of SND_G[g]_TUNE.GO starts a tuning measurement. -/
  | tuneStart (p : Port) (g : Fin 8)
  /-- TUNE_END (R331): A tuning measurement ends with H_k and TUNE_S. -/
  | tuneEnd (g : Fin 8)
  /-- TUNE_ABORT (R331): A write of TUNE.ABORT ends tuning and sets ABORT_S. -/
  | tuneAbort (p : Port) (g : Fin 8)
  /-- BEARING_FRAME_RECEIVED (R335): A decoded Bearing frame is checked and acts by its type. -/
  | bearingFrameReceived (g : Fin 8) (w : BitVec 80)
  /-- BEARING_TX_GO (R337): A write of TX_CTRL.GO queues the frame in TX_HDR and TX_DATA. -/
  | bearingTxGo (p : Port) (g : Fin 8)
  /-- BEARING_TX_CANCEL (R337): A write of TX_CTRL.CANCEL removes a waiting frame and sets TXFAIL_S. -/
  | bearingTxCancel (p : Port) (g : Fin 8)
  /-- BEARING_TX_START (R336): After idle sensing and backoff a queued frame begins to be sent. -/
  | bearingTxStart (g : Fin 8)
  /-- BEARING_TX_DONE (R336): A frame's last bit is sent and TXDONE_S is set. -/
  | bearingTxDone (g : Fin 8)
  /-- BEARING_ACK_SEND (R336): An ACK is sent 160 ms after an accepted unicast SEC frame. -/
  | bearingAckSend (g : Fin 8)
  /-- BEARING_ACK_TIMEOUT (R336): No ACK arrives within 9 s and the frame is retried or TXFAIL_S is set. -/
  | bearingAckTimeout (g : Fin 8)
  /-- BEARING_STATE_PERIOD (R337): Every STATE_PER seconds a broadcast STATE frame is queued. -/
  | bearingStatePeriod (g : Fin 8)
  /-- LEADER_EVALUATION (R338): Every LPERIOD the leader computes new secondary offsets and broadcasts them. -/
  | leaderEvaluation (g : Fin 8)
  /-- LEADER_OFFSET_APPLY (R338): The leader writes each offset to its own group 100 ms after the frame ends. -/
  | leaderOffsetApply (g : Fin 8)
  /-- TWIN_FRAME_CUT (R347): Every 25 us each paired module captures state and sends a twin frame. -/
  | twinFrameCut (delay : Fin 401) (frac : Fin 32)
  /-- TWIN_FRAME_RECEIVED (R352): A received twin frame is checked and the standby applies its group block and corrections. -/
  | twinFrameReceived (words : List Word) (comma : BitVec 64) (frac : Fin 32)
  /-- HEARTBEAT_EXPIRY (R357): No good twin frame ends for HB_T frames and the standby reads TWIN_ACT. -/
  | heartbeatExpiry
  /-- TWIN_ACT_ONESHOT_EXPIRY (R345): The TWIN_ACT driver releases the line 30 to 40 us after the last frame start. -/
  | twinActOneshotExpiry
  /-- PEER_WAIT_TIMEOUT (R346): A waiting SECONDARY finds TWIN_ACT still high after PEER_WAIT and becomes ACTIVE. -/
  | peerWaitTimeout
  /-- ACTIVE_SETTLE_END (R346): 200 us after becoming ACTIVE without a conflict the legs become DRIVING. -/
  | activeSettleEnd
  /-- HANDOVER_REQUEST (R359): A write of TWN_CTRL.HANDOVER announces a hand-over instant. -/
  | handoverRequest (p : Port)
  /-- HANDOVER_CANCEL (R359): No acknowledgement 100 us before T_h, or peer not READY: the hand-over is cancelled with HOFAIL_S.
  -/
  | handoverCancel
  /-- HANDOVER_EDGE (R360): A leg's first turn-off edge at or after T_h moves the leg to the incoming module. -/
  | handoverEdge (n : Fin 64)
  /-- HANDOVER_FORCED_EDGE (R360): A leg without a turn-off edge within HO_T gets one made at its next period start. -/
  | handoverForcedEdge (n : Fin 64)
  /-- SAFE_INPUT_CHANGE (R368): SAFE_IN1 or SAFE_IN2 changes level and its demand or disagreement timing starts or ends. -/
  | safeInputChange (pin : Fin 3) (high : Bool)
  /-- SAFE_DEMAND (R368): An input stays low for IF_T: both lines assert, the coil opens and STATE becomes SAFE. -/
  | safeDemand (ix : Fin 2)
  /-- DISCREPANCY_FAULT (R370): The discrepancy count reaches DISC and the DISC fault latches. -/
  | discrepancyFault
  /-- FEEDBACK_FAULT (R371): SAFE_FB fails its check within FB_T or in RUN and FBOPEN or FBCLOSE latches. -/
  | feedbackFault
  /-- NODE_CHECK_FAULT (R372): A coil node fails its readback across a tick and COIL_HS or COIL_LS latches. -/
  | nodeCheckFault (k : Fin 3)
  /-- COIL_TEST_RUN (R372): Every TP_PER a coil switch is turned off for TP_W with freewheel on. -/
  | coilTestRun
  /-- COIL_TEST_END (R372): At the end of TP_W the node is judged, passing with TEST_CNT or latching a fault. -/
  | coilTestEnd (pass : Bool)
  /-- SDC_RESET (R375): A write of SDC_CTRL.RESET runs the path and closing tests and enters RUN. -/
  | sdcReset (p : Port)
  /-- SDC_CLOCK_CHECK (R373): Each 32,768 S-cycles a channel checks its tick count and latches CLK if out of range. -/
  | sdcClockCheck (n : Fin 65536)
  /-- SDC_PARAM_CHECK (R373): Once per second each channel recomputes the parameter check value and latches PARAM on a mismatch.
  -/
  | sdcParamCheck (ch : Fin 2) (upset : BitVec 384)
  /-- UNCONFIRMED_RUN_EXPIRY (R377): An unconfirmed stay in RUN reaches 8 hours and the PX8 enters SAFE with UNCONF_S. -/
  | unconfirmedRunExpiry
  /-- PROVISION (R385): Signed command 0x0001 provisions an empty key slot. -/
  | provision (p : Port) (bad : Option (Fin 1024))
  /-- REVOKE (R385): Signed command 0x0002 revokes a provisioned key slot. -/
  | revoke (p : Port) (bad : Option (Fin 1024))
  /-- ADVANCE (R387): Signed command 0x0003 blows anti-rollback fuses up to the target count. -/
  | advance (p : Port) (bad : Option (Fin 1024))
  /-- CLEAR_TAMPER (R385): Signed command 0x0004 clears TAMPERED and logs the clearing. -/
  | clearTamper (p : Port)
  /-- PATCH_LOAD (R389): A write of SEC_PATCH_CTRL.LOAD verifies a patch and stores it. -/
  | patchLoad (p : Port)
  /-- ATTEST_REPORT (R390): A write of SEC_ATT_CTRL.GO writes a signed attestation report. -/
  | attestReport (p : Port)
  /-- RTC_SET (R393): A write of SEC_RTC_CTRL.SET loads the RTC and logs an RTC_SET entry. -/
  | rtcSet (p : Port)
  /-- RTC_TRIM_APPLY (R393): Every 32 s the RTC rate correction is applied. -/
  | rtcTrimApply
  /-- TAMPER_SAMPLE (R395): Every 250 ms the island samples the four tamper inputs. -/
  | tamperSample (pins : BitVec 4)
  /-- VBAT_LOW (R392): VBAT falls below 2.2 V and VBAT_LOW is set. -/
  | vbatLow (low : Bool)
  /-- TALLY_RETENTION_COPY (R398): Every 250 ms the Tally counters are copied into retention RAM. -/
  | tallyRetentionCopy
  /-- TALLY_PERIODIC_DUE (R400): Every SEAL_H hours of chart time a periodic seal falls due. -/
  | tallyPeriodicDue
  /-- SEAL_NOW (R400): A write of SEC_TALLY_CTRL.SEAL_NOW requests a seal with cause REQUEST. -/
  | sealNow (p : Port)
  /-- TALLY_SEAL (R400): A due seal runs when no other security operation is busy and writes a signed chained seal. -/
  | tallySeal
  /-- HOST_WRITE (R406): A WRITE frame writes N words at ascending addresses. -/
  | hostWrite (p : Port) (addr : Word) (words : List Word) (crc : BitVec 16)
  /-- HOST_WRITE_FIXED (R406): A WRITE_FIXED frame writes N words to one address in order. -/
  | hostWriteFixed (p : Port) (addr : Word) (words : List Word) (crc : BitVec 16)
  /-- HOST_NOP (R406): A NOP frame does nothing and returns the status byte. -/
  | hostNop (p : Port) (cmd : BitVec 8) (len : BitVec 8) (addr : Word) (crc : BitVec 16)
  /-- HOST_READ (R406): A READ frame returns N words with a poison mask. -/
  | hostRead (p : Port) (addr : Word) (n : Fin 64) (crc : BitVec 16)
  /-- FRAME_CUT_SHORT (R410): HCS_N rises before a frame completes and the frame is discarded or abandoned. -/
  | frameCutShort (abandoned : Bool)
  /-- HOST_DRAM_REQUEST_TIMEOUT (R410): A DRAM window request takes no tracker entry within 100 us and is withdrawn as ABORTED. -/
  | hostDramRequestTimeout (p : Port)
  /-- HOST_SILENCE_EXPIRY (R414): SIL_MS passes without a good host frame: HOSTSIL_S is set, the claim released and SIL_ACT run.
  -/
  | hostSilenceExpiry
  /-- SERVICE_REQUEST_TIMEOUT (R416): A gap over 1 ms within a service request discards it and sets SVCERR_S. -/
  | serviceRequestTimeout
  /-- PORT_CLAIM (R417): A write to SYS_PORT.OWNER claims or releases the registers for a port. -/
  | portClaim (p : Port) (o : Fin 4)
  /-- SERVICE_CLAIM_LAPSE (R417): A service claim lapses after 10 s without a good service frame. -/
  | serviceClaimLapse
  /-- POWER_ON_RESET (R420): A supply below threshold or RESET_N low resets everything but the always-on island. -/
  | powerOnReset
  /-- WARM_RESET (R421): A write of SYS_RESET with KEY 0x5A and WARM resets all but the memory controller and kept state. -/
  | warmReset (p : Port) (key : BitVec 8)
  /-- WATCHDOG_RESET (R421): The housekeeping watchdog is not serviced for 1 s and a WARM-like reset follows. -/
  | watchdogReset
  /-- BOOT_PHASE_COMPLETE (R422): A boot phase finishes its work and the boot moves to the next phase, committing and beginning to
  arm after VERIFY. -/
  | bootPhaseComplete
  /-- BOOT_PHASE_TIMEOUT (R423): A boot phase exceeds its limit and the boot stops in FAILED. -/
  | bootPhaseTimeout (f : BootFault)
  /-- BOOT_START (R424): A write of SYS_BOOT_CTRL.START moves the boot from LOAD to VERIFY. -/
  | bootStart (p : Port) (slot : Fin 4)
  /-- ARMING_COMPLETE (R425): Every named entry has delivered its first result, the timers start and PHASE becomes ARMED. -/
  | armingComplete
  /-- STANDBY_ENTER (R426): A write of SYS_STBY_CTRL.ENTER seals, disarms, puts DRAM in self-refresh and drives WAKE low. -/
  | standbyEnter (p : Port)
  /-- STANDBY_CANCEL (R426): A write of SYS_STBY_CTRL.CANCEL drives WAKE high and starts a WARM reset. -/
  | standbyCancel (p : Port)
  /-- WAKE_ALARM (R427): The RTC matches SYS_STBY_ALARM with WAKE_RTC set and the island drives WAKE high. -/
  | wakeAlarm
  /-- POWER_ON_RESET_RELEASE (R420): The control die leaves power-on reset once RESET_N and every supply have stayed valid for 10
  ms, and chart time starts at 0. -/
  | powerOnResetRelease (strap : Bool) (xtal : Bool) (retOk : Bool)
  /-- ISLAND_POWER_UP (R393): The always-on island powers up from dead and the RTC starts at 0. -/
  | islandPowerUp
  /-- DRV_SUPPLY_RISE (R251): VDRVd rises above 9.4 V, so a drive die leaves its unlatched hold of every gate low and arms its VUV
  check. -/
  | drvSupplyRise (d : Fin 4)
  /-- BOOTSTRAP_LOCK (R242): The bootstrap voltage falls below 8.0 V and the high-side lockout locks, raising a bootstrap
  undervoltage if the high side is on. -/
  | bootstrapLock (n : Fin 64)
  /-- GATE_TURN_OFF (R239): A turn-off command edge reaches the drive die, which sinks the gate at its sink code and then holds it
  at code 15 below 2.0 V. -/
  | gateTurnOff (n : Fin 64) (high : Bool)
  /-- TWIN_ACT_LINE_CHANGE (R346): The shared TWIN_ACT line changes level: a waiting SECONDARY becomes STANDBY on low, and an
  ACTIVE module reading high sets LINEF_S. -/
  | twinActLineChange (high : Bool)
  /-- BEARING_SYNC_DETECTED (R334): At a 10 ms window phase the last 16 decoded bits equal SYNC, reception of a frame begins and
  RXBUSY is set. -/
  | bearingSyncDetected (g : Fin 8)
  /-- POLARITY_SAMPLE (R208): Every 25 us during a polarity check the PX8 takes x and r, accumulating them or restarting the count
  on an invalid value. -/
  | polaritySample
  deriving DecidableEq, Repr

end Sys2Proof
end

