-- ==== Sys2Proof/Config.lean ====
section
/-!
DEFINITION. What an implementation fixes and the values the spec leaves open. Every constant here is opaque: nothing can
evaluate it, so a statement holds whatever it is.
-/

namespace Sys2Proof.Config

/-- A word of the security block's random number generator: the n-th draw (R438, R403). Log 10 (DESIGN CHOICE). -/
opaque random : Nat → BitVec 32

/-- A field that is fixed at manufacture (R438, "Per part"), by the field's key. Log 10 (DESIGN CHOICE). -/
opaque perPart : Nat → Nat

/-- A free value: what the n-th undefined or unstated result reads as. Log 5 (DESIGN CHOICE). -/
opaque freeWord : Nat → BitVec 32

/-- The error of SINCOS for an operand word (R102): `which` is 0 for the sine and 1 for the cosine. The machine folds it
into the bound that R102 states. -/
opaque sincosDev : Nat → Nat → BitVec 32

/-- How the decoder takes an error pattern over two or more symbols of a beat (R284), whose syndrome depends on a generator that
the spec does not give: the machine reads from it uncorrectable, or a correction of one symbol, or (from three symbols on)
clean. Log 104 (DESIGN CHOICE). -/
opaque rsAlias : Nat → Nat

/-- SHA-384 of a sequence of bytes (FIPS 180-4), as a number whose low byte is the first byte of the digest. Log 88 (DESIGN CHOICE). -/
opaque sha384 : List Nat → Nat

/-- SHA-256 of what a digest of R351 covers, as a number whose low byte is the first byte of the digest. Log 88 (DESIGN CHOICE). -/
opaque sha256 : List Nat → Nat

/-- Whether an ECDSA P-384 signature (96 bytes) over a message verifies under a public key (97 bytes), by FIPS 186-5.
Log 88 (DESIGN CHOICE). -/
opaque ecdsaOk : List Nat → List Nat → List Nat → Bool

/-- Whether an LMS signature (1,612 bytes) over a message verifies under a public key (56 bytes), by RFC 8554. Log 88 (DESIGN CHOICE). -/
opaque lmsOk : List Nat → List Nat → List Nat → Bool

/-- The identity key's ECDSA signature of a message, 96 bytes as a number (R390, R400). Log 88 (DESIGN CHOICE). -/
opaque ecdsaSign : List Nat → Nat

/-- The LMS signature of a message with an index, 1,612 bytes as a number (R390). Log 88 (DESIGN CHOICE). -/
opaque lmsSign : Nat → List Nat → Nat

/-- The bytes of the identity public key (97), and from 128 on of the LMS attestation public key (56), where R383 does not state them.
Log 88 (DESIGN CHOICE). -/
opaque identity : Nat → Nat

/-- Whether the reservation fuse of a block of indices does not read blown after programming (R391). Log 174 (DESIGN CHOICE). -/
opaque fuseFails : Nat → Bool

/-- C-cycles from the turn-off of a gate (leg, high side, instant) until it has passed 2.0 V (R239), where no confirmation tells it.
Log 194 (DESIGN CHOICE). -/
opaque gateFall : Nat → Bool → Nat → Nat

end Sys2Proof.Config
end

