-- ==== Sys2Proof/Machine/Arith.lean ====
section
/-!
DEFINITION. Saturation and the exact-then-round arithmetic that the Q-format values of the spec use (R3, R4, R5, R98),
with the bit-field, sign and square-root helpers of the meanings.
-/

namespace Sys2Proof.Machine

/-- The ceiling of saturation (R5). -/
def satCeiling : Int := 0x7FFFFFFF

/-- The floor of saturation (R5). Log 14 (DEDUCED). -/
def satFloor : Int := -0x7FFFFFFF

/-- Symmetric saturation of an exact value in units of the word's least significant bit (R5). Log 14 (DEDUCED). -/
def clampInt (i : Int) : Int :=
  if satCeiling ≤ i then satCeiling else if i ≤ satFloor then satFloor else i

/-- The word of an exact value, saturated (R5). -/
def satWord (i : Int) : Word := BitVec.ofInt 32 (clampInt i)

/-- Whether saturation changed the exact value's word: the value lies at or beyond a limit it does not equal. -/
def satActs (i : Int) : Bool := decide (satCeiling < i) || decide (i < satFloor)

/-- Division of an exact integer by a positive natural, rounded to nearest with ties away from zero (R98). -/
def roundDiv (n : Int) (d : Nat) : Int :=
  if 0 ≤ n then ((2 * n.natAbs + d) / (2 * d) : Nat) else -(((2 * n.natAbs + d) / (2 * d) : Nat) : Int)

/-- Right shift of an exact integer with rounding to nearest, ties away from zero (R98). -/
def roundShift (n : Int) (k : Nat) : Int := roundDiv n (2 ^ k)

/-- The bit `k` of a natural as a Bool. -/
def bitOf (n k : Nat) : Bool := n / 2 ^ k % 2 == 1

/-- A Bool as a one-bit register value. -/
def asNat (b : Bool) : Nat := if b then 1 else 0

/-- `n` with bit `k` set. -/
def setBit (n k : Nat) : Nat := if bitOf n k then n else n + 2 ^ k

/-- `n` with bit `k` cleared. -/
def clearBit (n k : Nat) : Nat := if bitOf n k then n - 2 ^ k else n

/-- The signed value of a `w`-bit two's complement natural. -/
def signedOf (w n : Nat) : Int := if n < 2 ^ (w - 1) then (n : Int) else (n : Int) - (2 ^ w : Nat)

/-- The natural below `2 ^ w` that spells the integer in two's complement. -/
def unsignedOf (w : Nat) (i : Int) : Nat := (i % ((2 ^ w : Nat) : Int)).toNat

/-- One bit of the integer square root: tries the bits of `fuel` downward. -/
def isqrtGo (n : Nat) : Nat → Nat → Nat
  | 0, acc => acc
  | fuel + 1, acc =>
    let t := acc + 2 ^ fuel
    isqrtGo n fuel (if t * t ≤ n then t else acc)

/-- The integer square root of a natural below `2 ^ 160`. -/
def isqrt (n : Nat) : Nat := isqrtGo n 80 0

/-- The square root rounded to nearest: `r + 1` where the exact root is `r + 1/2` or more. -/
def roundSqrt (n : Nat) : Nat :=
  let r := isqrt n
  if n ≤ r * r + r then r else r + 1

/-- One half of the scaled circle constant: π in Q3.28, rounded to nearest (R3). -/
def piQ28 : Int := 0x3243F6A9

/-- The wrap of an angle in Q3.28 into [−π, +π) (R3). -/
def wrapAngle (i : Int) : Int := (i + piQ28) % (2 * piQ28) - piQ28

/-- A rational stand-in for π, exact to 1 part in 10^30, for coefficients that R57 rounds once. -/
def piNum : Nat := 3141592653589793238462643383279

/-- The denominator of `piNum`. -/
def piDen : Nat := 1000000000000000000000000000000

/-- A chart-time limit or duration in C-cycles for a number of milliseconds at 400 MHz (chapter on scope). -/
def msCycles (ms : Nat) : Nat := ms * 400000

/-- A duration in C-cycles for a number of microseconds at 400 MHz. -/
def usCycles (us : Nat) : Nat := us * 400

end Sys2Proof.Machine
end

