-- ==== Sys2Proof/Machine/Tab.lean ====
section
/-!
DEFINITION. Sparse tables: a list of (key, value) pairs with rising keys in which no entry equals what an unlisted key
reads as. Register fields, engine state words, DRAM bytes and every indexed group of records are held so, which makes
equal contents equal data.
-/

namespace Sys2Proof.Machine

/-- A sparse table of values of type `α`: (key, value) pairs with strictly rising keys. -/
abbrev Tab (α : Type) := List (Nat × α)

/-- The value listed at a key, if one is. -/
def tabFind {α : Type} : Tab α → Nat → Option α
  | [], _ => none
  | (k, v) :: m, n => if k = n then some v else tabFind m n

/-- The table without the entry of a key. -/
def tabDel {α : Type} : Tab α → Nat → Tab α
  | [], _ => []
  | (k, v) :: m, n => if k = n then tabDel m n else (k, v) :: tabDel m n

/-- Insertion before the first larger key. -/
def tabIns {α : Type} : Tab α → Nat → α → Tab α
  | [], n, x => [(n, x)]
  | (k, v) :: m, n, x => if n < k then (n, x) :: (k, v) :: m else (k, v) :: tabIns m n x

/-- The table with a key's entry replaced. -/
def tabPut {α : Type} (m : Tab α) (n : Nat) (x : α) : Tab α := tabIns (tabDel m n) n x

/-- Reading with a default for an unlisted key. -/
def tabGet {α : Type} (d : α) (m : Tab α) (n : Nat) : α := (tabFind m n).getD d

/-- Writing that lists no entry equal to the default, so that equal contents are equal tables. -/
def tabSet {α : Type} [DecidableEq α] (d : α) (m : Tab α) (n : Nat) (x : α) : Tab α :=
  if x = d then tabDel m n else tabPut m n x

/-- Whether the keys rise strictly. -/
def tabRises {α : Type} : Tab α → Bool
  | [] => true
  | [_] => true
  | (k, _) :: (k', v) :: m => decide (k < k') && tabRises ((k', v) :: m)

/-- The canonical form: rising keys and no entry equal to the default. -/
def tabWf {α : Type} [DecidableEq α] (d : α) (m : Tab α) : Bool :=
  tabRises m && m.all fun e => decide (e.2 ≠ d)

/-- `f` applied to every index below `n`, folded over a value. -/
def forIdx {σ : Type} (n : Nat) (f : Nat → σ → σ) (s : σ) : σ :=
  (List.range n).foldl (fun t k => f k t) s

/-- The first index below `n` that satisfies a test. -/
def firstIdx (n : Nat) (p : Nat → Bool) : Option Nat := (List.range n).find? p

/-- Whether an index below `n` satisfies a test. -/
def anyIdx (n : Nat) (p : Nat → Bool) : Bool := (List.range n).any p

/-- Whether every index below `n` satisfies a test. -/
def allIdx (n : Nat) (p : Nat → Bool) : Bool := (List.range n).all p

/-- The natural whose bit `k` is `p k`, for the indexes below `n`. -/
def bitsOf (n : Nat) (p : Nat → Bool) : Nat :=
  (List.range n).foldl (fun a k => if p k then a + 2 ^ k else a) 0

end Sys2Proof.Machine
end

