-- ==== Sys2Proof/Machine/Fld.lean ====
section
/-!
DEFINITION. What a register field is: its place, and the row the field tables of the spec give it (R12 to R18, R435,
R437, R438).
-/

namespace Sys2Proof.Machine

/-- One field of one register: byte address of the word, lowest bit, width. -/
structure Fld where
  addr : Nat
  lo : Nat
  width : Nat
  deriving DecidableEq, Repr

/-- The key under which a field is held: words lie at multiples of 4, so distinct fields have distinct keys. -/
def Fld.key (f : Fld) : Nat := f.addr * 8 + f.lo

/-- The access codes of R12; `cnt` is an RW counter, which R17 treats in its own way. -/
inductive Access | rw | ro | w1c | wo | cnt
  deriving DecidableEq, Repr

/-- The domain in which a D field takes effect at a commit (R167, R437). `pwm` is domain C at the next period start,
`drv` domain C and then the drive status link, `clk` domain C with spreading from its next q = 0. -/
inductive Dom | c | a | m | h | k | t | pwm | drv | clk
  deriving DecidableEq, Repr

/-- The stage of a field (R13): at once, or staged for a commit in a domain. -/
inductive Stage | i | d (dom : Dom)
  deriving DecidableEq, Repr

/-- The Reset column of a field table with its special entries (R438). -/
inductive Rst
  | const (v : Nat)
  | perIndex (vs : List Nat)
  | plusIndex (base : Nat)
  | perPart
  | random
  deriving DecidableEq, Repr

/-- The values a field may take: any, a stated range with 0 beside it where `zero` (the Meaning column), the multiples of a number in a
range, or an encoding whose other values are reserved (R15). -/
inductive Range | any | upTo (lo hi : Nat) (zero : Bool) | steps (lo hi k : Nat) | codes (lo hi : Nat)
  deriving DecidableEq, Repr

/-- Whether a value is within a field's range. -/
def Range.admits : Range → Nat → Bool
  | .any, _ => true
  | .upTo lo hi z, v => (decide (lo ≤ v) && decide (v ≤ hi)) || (z && v == 0)
  | .steps lo hi k, v => decide (lo ≤ v) && decide (v ≤ hi) && v % k == 0
  | .codes lo hi, v => decide (lo ≤ v) && decide (v ≤ hi)

/-- One row of a field table: an array of `n1 × n2` instances of a field at strides `s1` and `s2`. -/
structure Row where
  base : Nat
  lo : Nat
  width : Nat
  n1 : Nat
  s1 : Nat
  n2 : Nat
  s2 : Nat
  acc : Access
  rst : Rst
  stage : Stage
  expert : Bool
  range : Range
  deriving DecidableEq, Repr

/-- The instance (first and second index) of a row whose word lies at an address, if one does. -/
def Row.instAt (r : Row) (a : Nat) : Option (Nat × Nat) :=
  if a < r.base then none
  else
    let d := a - r.base
    let i := if r.s1 = 0 then 0 else d / r.s1
    let e := if r.s1 = 0 then d else d % r.s1
    let j := if r.s2 = 0 then 0 else e / r.s2
    let z := if r.s2 = 0 then e else e % r.s2
    if i < r.n1 ∧ j < r.n2 ∧ z = 0 then some (i, j) else none

/-- The field that a row gives the word at an address. -/
def Row.fld (r : Row) (a : Nat) : Fld := ⟨a, r.lo, r.width⟩

end Sys2Proof.Machine
end

