-- ==== Sys2Proof/Machine/Reg.lean ====
section
/-!
DEFINITION. The fields of the registers by the names of the spec: REGISTER_FIELD with the instance numbers as arguments; the address, the lowest bit and the width are those of the field tables (R435).
-/

namespace Sys2Proof.Machine

namespace Reg

def SYS_DIE_STATUS_CNV_UP : Fld := ⟨0x40, 0, 1⟩
def SYS_DIE_STATUS_DRV_UP : Fld := ⟨0x40, 1, 4⟩
def SYS_DIE_STATUS_MEM_UP : Fld := ⟨0x40, 5, 1⟩
def SYS_DIE_STATUS_ALINK_S : Fld := ⟨0x40, 8, 1⟩
def SYS_DIE_STATUS_DLINK_S : Fld := ⟨0x40, 9, 4⟩
def SYS_LINK_ERR_CNT_ALINK_ERR_CNT : Fld := ⟨0x44, 0, 16⟩
def SYS_LINK_ERR_CNT_DLINK_ERR_CNT : Fld := ⟨0x44, 16, 16⟩
def GFM_CTRL_EN (i : Nat) : Fld := ⟨0x3000 + 0x200 * i, 0, 1⟩
def GFM_CTRL_SEC_SRC (i : Nat) : Fld := ⟨0x3000 + 0x200 * i, 1, 1⟩
def GFM_CTRL_FF_EN (i : Nat) : Fld := ⟨0x3000 + 0x200 * i, 2, 1⟩
def GFM_CTRL_RETUNE_EN (i : Nat) : Fld := ⟨0x3000 + 0x200 * i, 3, 1⟩
def GFM_CFG_FNOM (i : Nat) : Fld := ⟨0x3004 + 0x200 * i, 0, 1⟩
def GFM_CFG_NEGSEQ (i : Nat) : Fld := ⟨0x3004 + 0x200 * i, 1, 2⟩
def GFM_BASE_V (i : Nat) : Fld := ⟨0x3008 + 0x200 * i, 0, 20⟩
def GFM_BASE_I (i : Nat) : Fld := ⟨0x300c + 0x200 * i, 0, 20⟩
def GFM_BASE_DC (i : Nat) : Fld := ⟨0x3010 + 0x200 * i, 0, 20⟩
def GFM_INERTIA_H_MS (i : Nat) : Fld := ⟨0x3014 + 0x200 * i, 0, 16⟩
def GFM_DAMP_D (i : Nat) : Fld := ⟨0x3018 + 0x200 * i, 0, 16⟩
def GFM_DAMP_TD_MS (i : Nat) : Fld := ⟨0x3018 + 0x200 * i, 16, 16⟩
def GFM_DROOP_MP (i : Nat) : Fld := ⟨0x301c + 0x200 * i, 0, 16⟩
def GFM_DROOP_NQ (i : Nat) : Fld := ⟨0x301c + 0x200 * i, 16, 16⟩
def GFM_FILT_TP (i : Nat) : Fld := ⟨0x3020 + 0x200 * i, 0, 16⟩
def GFM_FILT_TQ (i : Nat) : Fld := ⟨0x3020 + 0x200 * i, 16, 16⟩
def GFM_FLIM_FMIN (i : Nat) : Fld := ⟨0x3024 + 0x200 * i, 0, 16⟩
def GFM_FLIM_FMAX (i : Nat) : Fld := ⟨0x3024 + 0x200 * i, 16, 16⟩
def GFM_ELIM_EMIN (i : Nat) : Fld := ⟨0x3028 + 0x200 * i, 0, 16⟩
def GFM_ELIM_EMAX (i : Nat) : Fld := ⟨0x3028 + 0x200 * i, 16, 16⟩
def GFM_PQMAX_PMAX (i : Nat) : Fld := ⟨0x302c + 0x200 * i, 0, 16⟩
def GFM_PQMAX_QMAX (i : Nat) : Fld := ⟨0x302c + 0x200 * i, 16, 16⟩
def GFM_ZV_P_RV (i : Nat) : Fld := ⟨0x3030 + 0x200 * i, 0, 16⟩
def GFM_ZV_P_XV (i : Nat) : Fld := ⟨0x3030 + 0x200 * i, 16, 16⟩
def GFM_ZV_N_RVN (i : Nat) : Fld := ⟨0x3034 + 0x200 * i, 0, 16⟩
def GFM_ZV_N_XVN (i : Nat) : Fld := ⟨0x3034 + 0x200 * i, 16, 16⟩
def GFM_XV_BOUND_XV_MIN (i : Nat) : Fld := ⟨0x3038 + 0x200 * i, 0, 16⟩
def GFM_XV_BOUND_XV_MAX (i : Nat) : Fld := ⟨0x3038 + 0x200 * i, 16, 16⟩
def GFM_RV_BOUND_RV_MIN (i : Nat) : Fld := ⟨0x303c + 0x200 * i, 0, 16⟩
def GFM_RV_BOUND_RV_MAX (i : Nat) : Fld := ⟨0x303c + 0x200 * i, 16, 16⟩
def GFM_LF_LF (i : Nat) : Fld := ⟨0x3040 + 0x200 * i, 0, 24⟩
def GFM_CF_CF (i : Nat) : Fld := ⟨0x3044 + 0x200 * i, 0, 24⟩
def GFM_LOOP_BW_VBW (i : Nat) : Fld := ⟨0x3048 + 0x200 * i, 0, 16⟩
def GFM_LOOP_BW_CBW (i : Nat) : Fld := ⟨0x3048 + 0x200 * i, 16, 16⟩
def GFM_HARM_LO_ORD (i : Nat) : Fld := ⟨0x304c + 0x200 * i, 0, 32⟩
def GFM_HARM_HI_ORD (i : Nat) : Fld := ⟨0x3050 + 0x200 * i, 0, 16⟩
def GFM_HARM_HI_HGAIN (i : Nat) : Fld := ⟨0x3050 + 0x200 * i, 16, 8⟩
def GFM_SLEW_PQ_RATE_P (i : Nat) : Fld := ⟨0x3054 + 0x200 * i, 0, 16⟩
def GFM_SLEW_PQ_RATE_Q (i : Nat) : Fld := ⟨0x3054 + 0x200 * i, 16, 16⟩
def GFM_SLEW_FV_RATE_F (i : Nat) : Fld := ⟨0x3058 + 0x200 * i, 0, 16⟩
def GFM_SLEW_FV_RATE_V (i : Nat) : Fld := ⟨0x3058 + 0x200 * i, 16, 16⟩
def GFM_ACCEL_PQ_ACC_P (i : Nat) : Fld := ⟨0x305c + 0x200 * i, 0, 16⟩
def GFM_ACCEL_PQ_ACC_Q (i : Nat) : Fld := ⟨0x305c + 0x200 * i, 16, 16⟩
def GFM_ACCEL_FV_ACC_F (i : Nat) : Fld := ⟨0x3060 + 0x200 * i, 0, 16⟩
def GFM_ACCEL_FV_ACC_V (i : Nat) : Fld := ⟨0x3060 + 0x200 * i, 16, 16⟩
def GFM_PSET (i : Nat) : Fld := ⟨0x3080 + 0x200 * i, 0, 32⟩
def GFM_QSET (i : Nat) : Fld := ⟨0x3084 + 0x200 * i, 0, 32⟩
def GFM_FSET (i : Nat) : Fld := ⟨0x3088 + 0x200 * i, 0, 32⟩
def GFM_VSET (i : Nat) : Fld := ⟨0x308c + 0x200 * i, 0, 32⟩
def GFM_SEC_DF (i : Nat) : Fld := ⟨0x3090 + 0x200 * i, 0, 32⟩
def GFM_SEC_DV (i : Nat) : Fld := ⟨0x3094 + 0x200 * i, 0, 32⟩
def GFM_SNAP_LO (i : Nat) : Fld := ⟨0x30a0 + 0x200 * i, 0, 32⟩
def GFM_SNAP_HI (i : Nat) : Fld := ⟨0x30a4 + 0x200 * i, 0, 32⟩
def GFM_GOV_P (i : Nat) : Fld := ⟨0x30a8 + 0x200 * i, 0, 32⟩
def GFM_GOV_Q (i : Nat) : Fld := ⟨0x30ac + 0x200 * i, 0, 32⟩
def GFM_GOV_F (i : Nat) : Fld := ⟨0x30b0 + 0x200 * i, 0, 32⟩
def GFM_GOV_V (i : Nat) : Fld := ⟨0x30b4 + 0x200 * i, 0, 32⟩
def GFM_MEAS_P (i : Nat) : Fld := ⟨0x30b8 + 0x200 * i, 0, 32⟩
def GFM_MEAS_Q (i : Nat) : Fld := ⟨0x30bc + 0x200 * i, 0, 32⟩
def GFM_ROTOR_F (i : Nat) : Fld := ⟨0x30c0 + 0x200 * i, 0, 32⟩
def GFM_ROTOR_TH (i : Nat) : Fld := ⟨0x30c4 + 0x200 * i, 0, 32⟩
def GFM_E_REF (i : Nat) : Fld := ⟨0x30c8 + 0x200 * i, 0, 32⟩
def GFM_RV_EFF (i : Nat) : Fld := ⟨0x30cc + 0x200 * i, 0, 32⟩
def GFM_XV_EFF (i : Nat) : Fld := ⟨0x30d0 + 0x200 * i, 0, 32⟩
def GFM_STATUS_RUN (i : Nat) : Fld := ⟨0x30e0 + 0x200 * i, 0, 1⟩
def GFM_STATUS_SLEWP_S (i : Nat) : Fld := ⟨0x30e0 + 0x200 * i, 1, 1⟩
def GFM_STATUS_SLEWQ_S (i : Nat) : Fld := ⟨0x30e0 + 0x200 * i, 2, 1⟩
def GFM_STATUS_SLEWF_S (i : Nat) : Fld := ⟨0x30e0 + 0x200 * i, 3, 1⟩
def GFM_STATUS_SLEWV_S (i : Nat) : Fld := ⟨0x30e0 + 0x200 * i, 4, 1⟩
def GFM_STATUS_SPLIM_S (i : Nat) : Fld := ⟨0x30e0 + 0x200 * i, 5, 1⟩
def GFM_STATUS_FLIM_S (i : Nat) : Fld := ⟨0x30e0 + 0x200 * i, 6, 1⟩
def GFM_STATUS_ELIM_S (i : Nat) : Fld := ⟨0x30e0 + 0x200 * i, 7, 1⟩
def GFM_STATUS_ILIM_S (i : Nat) : Fld := ⟨0x30e0 + 0x200 * i, 8, 1⟩
def GFM_STATUS_VSAT_S (i : Nat) : Fld := ⟨0x30e0 + 0x200 * i, 9, 1⟩
def GFM_STATUS_RETUNE_S (i : Nat) : Fld := ⟨0x30e0 + 0x200 * i, 10, 1⟩
def GFM_STATUS_HELD_S (i : Nat) : Fld := ⟨0x30e0 + 0x200 * i, 11, 1⟩
def GFM_ILIM_IST (i : Nat) : Fld := ⟨0x3100 + 0x200 * i, 0, 16⟩
def GFM_ILIM_ICONT (i : Nat) : Fld := ⟨0x3100 + 0x200 * i, 16, 16⟩
def GFM_ILIM_T_TST (i : Nat) : Fld := ⟨0x3104 + 0x200 * i, 0, 16⟩
def GFM_ILIM_T_TREC (i : Nat) : Fld := ⟨0x3104 + 0x200 * i, 16, 16⟩
def GFM_FRT_CFG_PRIO (i : Nat) : Fld := ⟨0x3108 + 0x200 * i, 0, 2⟩
def GFM_FRT_CFG_ANGLE (i : Nat) : Fld := ⟨0x3108 + 0x200 * i, 2, 2⟩
def GFM_FRT_CFG_NEGINJ (i : Nat) : Fld := ⟨0x3108 + 0x200 * i, 4, 1⟩
def GFM_FRT_CFG_FRT_EN (i : Nat) : Fld := ⟨0x3108 + 0x200 * i, 5, 1⟩
def GFM_FRT_K_KPOS (i : Nat) : Fld := ⟨0x310c + 0x200 * i, 0, 8⟩
def GFM_FRT_K_KNEG (i : Nat) : Fld := ⟨0x310c + 0x200 * i, 8, 8⟩
def GFM_FRT_K_VDB (i : Nat) : Fld := ⟨0x310c + 0x200 * i, 16, 16⟩
def GFM_FRT_V_VIN (i : Nat) : Fld := ⟨0x3110 + 0x200 * i, 0, 16⟩
def GFM_FRT_V_VOUT (i : Nat) : Fld := ⟨0x3110 + 0x200 * i, 16, 16⟩
def GFM_FRT_T_TZ (i : Nat) : Fld := ⟨0x3114 + 0x200 * i, 0, 16⟩
def GFM_FRT_T_TL (i : Nat) : Fld := ⟨0x3114 + 0x200 * i, 16, 16⟩
def GFM_PREC_PRATE (i : Nat) : Fld := ⟨0x3118 + 0x200 * i, 0, 16⟩
def GFM_PREC_TEXIT (i : Nat) : Fld := ⟨0x3118 + 0x200 * i, 16, 16⟩
def GFM_STEER_KST (i : Nat) : Fld := ⟨0x311c + 0x200 * i, 0, 16⟩
def GFM_STEER_DFMAX (i : Nat) : Fld := ⟨0x311c + 0x200 * i, 16, 16⟩
def GFM_BS_CFG_FLUX_EN (i : Nat) : Fld := ⟨0x3120 + 0x200 * i, 0, 1⟩
def GFM_BS_CFG_RESID_EN (i : Nat) : Fld := ⟨0x3120 + 0x200 * i, 1, 1⟩
def GFM_BS_CFG_VDC_MIN (i : Nat) : Fld := ⟨0x3120 + 0x200 * i, 16, 16⟩
def GFM_BS_RAMP_TRAMP (i : Nat) : Fld := ⟨0x3124 + 0x200 * i, 0, 16⟩
def GFM_BS_RAMP_VSTART (i : Nat) : Fld := ⟨0x3124 + 0x200 * i, 16, 16⟩
def GFM_BS_FLUX_FLUX_MAX (i : Nat) : Fld := ⟨0x3128 + 0x200 * i, 0, 16⟩
def GFM_BS_FLUX_TSETTLE (i : Nat) : Fld := ⟨0x3128 + 0x200 * i, 16, 16⟩
def GFM_RESID_A (i : Nat) : Fld := ⟨0x312c + 0x200 * i, 0, 32⟩
def GFM_RESID_B (i : Nat) : Fld := ⟨0x3130 + 0x200 * i, 0, 32⟩
def GFM_RESID_C (i : Nat) : Fld := ⟨0x3134 + 0x200 * i, 0, 32⟩
def GFM_SYNC_WIN_DF (i : Nat) : Fld := ⟨0x3140 + 0x200 * i, 0, 10⟩
def GFM_SYNC_WIN_DTH (i : Nat) : Fld := ⟨0x3140 + 0x200 * i, 10, 10⟩
def GFM_SYNC_WIN_DV (i : Nat) : Fld := ⟨0x3140 + 0x200 * i, 20, 10⟩
def GFM_SYNC_T_TCLOSE (i : Nat) : Fld := ⟨0x3144 + 0x200 * i, 0, 16⟩
def GFM_SYNC_T_TDWELL (i : Nat) : Fld := ⟨0x3144 + 0x200 * i, 16, 16⟩
def GFM_SYNC_CTRL_ARM (i : Nat) : Fld := ⟨0x3148 + 0x200 * i, 0, 1⟩
def GFM_SYNC_CTRL_AUTO (i : Nat) : Fld := ⟨0x3148 + 0x200 * i, 1, 1⟩
def GFM_SYNC_CTRL_CLOSE_MODE (i : Nat) : Fld := ⟨0x3148 + 0x200 * i, 2, 2⟩
def GFM_SYNC_CTRL_PULSE (i : Nat) : Fld := ⟨0x3148 + 0x200 * i, 8, 8⟩
def GFM_GRID_QUAL_TQUAL (i : Nat) : Fld := ⟨0x314c + 0x200 * i, 0, 16⟩
def GFM_GRID_QUAL_STEER_DF (i : Nat) : Fld := ⟨0x314c + 0x200 * i, 16, 16⟩
def GFM_GRID_VWIN_VG_MIN (i : Nat) : Fld := ⟨0x3150 + 0x200 * i, 0, 16⟩
def GFM_GRID_VWIN_VG_MAX (i : Nat) : Fld := ⟨0x3150 + 0x200 * i, 16, 16⟩
def GFM_GRID_FWIN_FG_MIN (i : Nat) : Fld := ⟨0x3154 + 0x200 * i, 0, 16⟩
def GFM_GRID_FWIN_FG_MAX (i : Nat) : Fld := ⟨0x3154 + 0x200 * i, 16, 16⟩
def GFM_BRK_SRC (i : Nat) : Fld := ⟨0x3158 + 0x200 * i, 0, 2⟩
def GFM_BRK_HOST_CLOSED (i : Nat) : Fld := ⟨0x3158 + 0x200 * i, 2, 1⟩
def GFM_BRK_EXT_IN (i : Nat) : Fld := ⟨0x3158 + 0x200 * i, 8, 6⟩
def GFM_BRK_TDEB (i : Nat) : Fld := ⟨0x3158 + 0x200 * i, 16, 8⟩
def GFM_EVT_STATUS_MODE (i : Nat) : Fld := ⟨0x3180 + 0x200 * i, 0, 3⟩
def GFM_EVT_STATUS_TRK_T (i : Nat) : Fld := ⟨0x3180 + 0x200 * i, 3, 1⟩
def GFM_EVT_STATUS_TRK_G (i : Nat) : Fld := ⟨0x3180 + 0x200 * i, 4, 1⟩
def GFM_EVT_STATUS_REC (i : Nat) : Fld := ⟨0x3180 + 0x200 * i, 5, 1⟩
def GFM_EVT_STATUS_FRT_S (i : Nat) : Fld := ⟨0x3180 + 0x200 * i, 8, 1⟩
def GFM_EVT_STATUS_FRTX_S (i : Nat) : Fld := ⟨0x3180 + 0x200 * i, 9, 1⟩
def GFM_EVT_STATUS_FLUX_S (i : Nat) : Fld := ⟨0x3180 + 0x200 * i, 10, 1⟩
def GFM_EVT_STATUS_BSFAIL_S (i : Nat) : Fld := ⟨0x3180 + 0x200 * i, 11, 1⟩
def GFM_EVT_STATUS_GRIDRET_S (i : Nat) : Fld := ⟨0x3180 + 0x200 * i, 12, 1⟩
def GFM_EVT_STATUS_GRIDLOSS_S (i : Nat) : Fld := ⟨0x3180 + 0x200 * i, 13, 1⟩
def GFM_EVT_STATUS_CLOSE_S (i : Nat) : Fld := ⟨0x3180 + 0x200 * i, 14, 1⟩
def GFM_EVT_STATUS_CLOSEFAIL_S (i : Nat) : Fld := ⟨0x3180 + 0x200 * i, 15, 1⟩
def GFM_EVT_STATUS_UNSYNC_S (i : Nat) : Fld := ⟨0x3180 + 0x200 * i, 16, 1⟩
def GFM_EVT_STATUS_BRKINV_S (i : Nat) : Fld := ⟨0x3180 + 0x200 * i, 17, 1⟩
def GFM_EVT_STATUS_DCLIM_S (i : Nat) : Fld := ⟨0x3180 + 0x200 * i, 18, 1⟩
def GFM_EVT_STATUS_FA_S (i : Nat) : Fld := ⟨0x3180 + 0x200 * i, 19, 1⟩
def GFM_EVT_CNT_FRT_CNT (i : Nat) : Fld := ⟨0x3184 + 0x200 * i, 0, 16⟩
def GFM_EVT_CNT_CLOSE_CNT (i : Nat) : Fld := ⟨0x3184 + 0x200 * i, 16, 16⟩
def GFM_FRT_STAMP_LO (i : Nat) : Fld := ⟨0x3188 + 0x200 * i, 0, 32⟩
def GFM_FRT_STAMP_HI (i : Nat) : Fld := ⟨0x318c + 0x200 * i, 0, 32⟩
def GFM_CLOSE_STAMP_LO (i : Nat) : Fld := ⟨0x3190 + 0x200 * i, 0, 32⟩
def GFM_CLOSE_STAMP_HI (i : Nat) : Fld := ⟨0x3194 + 0x200 * i, 0, 32⟩
def GFM_FA_LAST_ACTION (i : Nat) : Fld := ⟨0x3198 + 0x200 * i, 0, 4⟩
def GFM_FA_LAST_SOURCE (i : Nat) : Fld := ⟨0x3198 + 0x200 * i, 8, 8⟩
def GFM_FA_STAMP_LO (i : Nat) : Fld := ⟨0x319c + 0x200 * i, 0, 32⟩
def GFM_FA_STAMP_HI (i : Nat) : Fld := ⟨0x31a0 + 0x200 * i, 0, 32⟩
def GFM_SYNC_DF (i : Nat) : Fld := ⟨0x31b0 + 0x200 * i, 0, 32⟩
def GFM_SYNC_DTH (i : Nat) : Fld := ⟨0x31b4 + 0x200 * i, 0, 32⟩
def GFM_SYNC_DV (i : Nat) : Fld := ⟨0x31b8 + 0x200 * i, 0, 32⟩
def GFM_TRK_T_F (i : Nat) : Fld := ⟨0x31bc + 0x200 * i, 0, 32⟩
def GFM_TRK_T_V (i : Nat) : Fld := ⟨0x31c0 + 0x200 * i, 0, 32⟩
def GFM_TRK_G_F (i : Nat) : Fld := ⟨0x31c4 + 0x200 * i, 0, 32⟩
def GFM_TRK_G_V (i : Nat) : Fld := ⟨0x31c8 + 0x200 * i, 0, 32⟩
def GFM_ILIM_NOW (i : Nat) : Fld := ⟨0x31cc + 0x200 * i, 0, 32⟩
def GFM_VDC_MEAS (i : Nat) : Fld := ⟨0x31d0 + 0x200 * i, 0, 32⟩
def GRT_CTRL_SWEEP_EN : Fld := ⟨0x4000, 0, 1⟩
def GRT_STATUS_CE_S : Fld := ⟨0x4004, 0, 1⟩
def GRT_STATUS_UE_S : Fld := ⟨0x4004, 1, 1⟩
def GRT_STATUS_TRGAP_S : Fld := ⟨0x4004, 2, 1⟩
def GRT_TICKW : Fld := ⟨0x4008, 0, 32⟩
def GRT_ECC_CNT_CE_CNT : Fld := ⟨0x400c, 0, 16⟩
def GRT_ECC_CNT_UE_CNT : Fld := ⟨0x400c, 16, 16⟩
def GRT_UE_ADDR : Fld := ⟨0x4010, 0, 32⟩
def GRT_TRACE_CFG_DMA_CH : Fld := ⟨0x4014, 0, 5⟩
def GRT_TRACE_CFG_EN : Fld := ⟨0x4014, 8, 1⟩
def GRT_TRACE_CNT_TRDROP_CNT : Fld := ⟨0x4018, 0, 16⟩
def GRT_KICK_CTX : Fld := ⟨0x401c, 0, 7⟩
def GRT_TMR_PERIOD (i : Nat) : Fld := ⟨0x4040 + 0x4 * i, 0, 20⟩
def GRT_TAP_CTX (i : Nat) (j : Nat) : Fld := ⟨0x4200 + 0x10 * i + 0x4 * j, 0, 7⟩
def GRT_TAP_SRC (i : Nat) (j : Nat) : Fld := ⟨0x4200 + 0x10 * i + 0x4 * j, 7, 1⟩
def GRT_TAP_SEL (i : Nat) (j : Nat) : Fld := ⟨0x4200 + 0x10 * i + 0x4 * j, 8, 6⟩
def GRT_TAP_DECIM (i : Nat) (j : Nat) : Fld := ⟨0x4200 + 0x10 * i + 0x4 * j, 16, 8⟩
def GRT_TAP_EN (i : Nat) (j : Nat) : Fld := ⟨0x4200 + 0x10 * i + 0x4 * j, 24, 1⟩
def GRT_CTX_CFG_CELL (i : Nat) : Fld := ⟨0x4400 + 0x10 * i, 0, 5⟩
def GRT_CTX_CFG_PRIO (i : Nat) : Fld := ⟨0x4400 + 0x10 * i, 5, 2⟩
def GRT_CTX_CFG_TRIG (i : Nat) : Fld := ⟨0x4400 + 0x10 * i, 7, 2⟩
def GRT_CTX_CFG_SRC (i : Nat) : Fld := ⟨0x4400 + 0x10 * i, 9, 9⟩
def GRT_CTX_CFG_ENTRY (i : Nat) : Fld := ⟨0x4400 + 0x10 * i, 18, 9⟩
def GRT_CTX_CFG_GROUP (i : Nat) : Fld := ⟨0x4400 + 0x10 * i, 27, 3⟩
def GRT_CTX_CFG_CMP_OUT (i : Nat) : Fld := ⟨0x4400 + 0x10 * i, 30, 1⟩
def GRT_CTX_CFG_DEFINED (i : Nat) : Fld := ⟨0x4400 + 0x10 * i, 31, 1⟩
def GRT_CTX_CTRL_EN (i : Nat) : Fld := ⟨0x4404 + 0x10 * i, 0, 1⟩
def GRT_CTX_CTRL_BUMPLESS (i : Nat) : Fld := ⟨0x4404 + 0x10 * i, 1, 1⟩
def GRT_CTX_CTRL_ESC_N (i : Nat) : Fld := ⟨0x4404 + 0x10 * i, 4, 8⟩
def GRT_CTX_CTRL_DL (i : Nat) : Fld := ⟨0x4404 + 0x10 * i, 12, 20⟩
def GRT_CTX_STATUS_READY (i : Nat) : Fld := ⟨0x4408 + 0x10 * i, 0, 1⟩
def GRT_CTX_STATUS_RUN (i : Nat) : Fld := ⟨0x4408 + 0x10 * i, 1, 1⟩
def GRT_CTX_STATUS_WAITING (i : Nat) : Fld := ⟨0x4408 + 0x10 * i, 2, 1⟩
def GRT_CTX_STATUS_SAT_S (i : Nat) : Fld := ⟨0x4408 + 0x10 * i, 8, 1⟩
def GRT_CTX_STATUS_ASAT_S (i : Nat) : Fld := ⟨0x4408 + 0x10 * i, 9, 1⟩
def GRT_CTX_STATUS_POIS_S (i : Nat) : Fld := ⟨0x4408 + 0x10 * i, 10, 1⟩
def GRT_CTX_STATUS_NAV_S (i : Nat) : Fld := ⟨0x4408 + 0x10 * i, 11, 1⟩
def GRT_CTX_STATUS_DLMISS_S (i : Nat) : Fld := ⟨0x4408 + 0x10 * i, 12, 1⟩
def GRT_CTX_STATUS_OVRN_S (i : Nat) : Fld := ⟨0x4408 + 0x10 * i, 13, 1⟩
def GRT_CTX_STATUS_TRGLOST_S (i : Nat) : Fld := ⟨0x4408 + 0x10 * i, 14, 1⟩
def GRT_CTX_STATUS_TICKW_S (i : Nat) : Fld := ⟨0x4408 + 0x10 * i, 15, 1⟩
def GRT_CTX_STATUS_DMAF_S (i : Nat) : Fld := ⟨0x4408 + 0x10 * i, 16, 1⟩
def GRT_CTX_STATUS_COLLIDE_S (i : Nat) : Fld := ⟨0x4408 + 0x10 * i, 17, 1⟩
def GRT_CTX_STATUS_MISS_RUN (i : Nat) : Fld := ⟨0x4408 + 0x10 * i, 24, 8⟩
def GRT_CTX_CNT_DL_CNT (i : Nat) : Fld := ⟨0x440c + 0x10 * i, 0, 16⟩
def GRT_CTX_CNT_ESC_CNT (i : Nat) : Fld := ⟨0x440c + 0x10 * i, 16, 16⟩
def GRT_CELL_STATUS_BUDGET_PM (i : Nat) : Fld := ⟨0x4c00 + 0x4 * i, 0, 10⟩
def GRT_CELL_STATUS_NEST (i : Nat) : Fld := ⟨0x4c00 + 0x4 * i, 10, 2⟩
def GRT_CELL_STATUS_IDLE (i : Nat) : Fld := ⟨0x4c00 + 0x4 * i, 12, 1⟩
def GRT_CELL_STATUS_CE_S (i : Nat) : Fld := ⟨0x4c00 + 0x4 * i, 13, 1⟩
def GRT_CELL_STATUS_UE_S (i : Nat) : Fld := ⟨0x4c00 + 0x4 * i, 14, 1⟩
def GRT_CELL_STATUS_CFMAP (i : Nat) : Fld := ⟨0x4c00 + 0x4 * i, 24, 8⟩
def GRT_CTX_LEN_WCL (i : Nat) : Fld := ⟨0x4c80 + 0x4 * i, 0, 16⟩
def GRT_CTX_LEN_LAST (i : Nat) : Fld := ⟨0x4c80 + 0x4 * i, 16, 16⟩
def STG_ATL_CTRL_SLOT : Fld := ⟨0x2800, 0, 2⟩
def STG_ATL_CTRL_VERIFY : Fld := ⟨0x2800, 8, 1⟩
def STG_ATL_CTRL_DISCARD : Fld := ⟨0x2800, 9, 1⟩
def STG_ATL_STATUS_STATE : Fld := ⟨0x2804, 0, 3⟩
def STG_ATL_STATUS_ACT_SLOT : Fld := ⟨0x2804, 3, 2⟩
def STG_ATL_STATUS_STG_SLOT : Fld := ⟨0x2804, 5, 2⟩
def STG_ATL_STATUS_RESULT : Fld := ⟨0x2804, 8, 8⟩
def STG_ATL_STATUS_SHEET : Fld := ⟨0x2804, 16, 8⟩
def STG_ATL_STATUS_FAIL_S : Fld := ⟨0x2804, 24, 1⟩
def STG_ATL_STATUS_SWAP_S : Fld := ⟨0x2804, 25, 1⟩
def STG_ATL_STATUS_ABAND_S : Fld := ⟨0x2804, 26, 1⟩
def STG_ATL_ACT_ID_LO : Fld := ⟨0x2808, 0, 32⟩
def STG_ATL_ACT_ID_HI : Fld := ⟨0x280c, 0, 32⟩
def STG_ATL_STG_ID_LO : Fld := ⟨0x2810, 0, 32⟩
def STG_ATL_STG_ID_HI : Fld := ⟨0x2814, 0, 32⟩
def STG_ATL_ACT_VER : Fld := ⟨0x2818, 0, 32⟩
def STG_ATL_ACT_INFO_SEC_VER : Fld := ⟨0x281c, 0, 8⟩
def STG_ATL_ACT_INFO_KEY_SLOT : Fld := ⟨0x281c, 8, 2⟩
def STG_ATL_SWAP_CNT_SWAP_CNT : Fld := ⟨0x2820, 0, 16⟩
def STG_ATL_SWAP_CNT_ABAND_CNT : Fld := ⟨0x2820, 16, 16⟩
def STG_ATL_SWAP_STAMP_LO : Fld := ⟨0x2824, 0, 32⟩
def STG_ATL_SWAP_STAMP_HI : Fld := ⟨0x2828, 0, 32⟩
def STG_CTRL_SURVEY : Fld := ⟨0x2000, 0, 1⟩
def STG_CTRL_GO : Fld := ⟨0x2000, 1, 1⟩
def STG_CTRL_DISCARD : Fld := ⟨0x2000, 2, 1⟩
def STG_CTRL_CDRAFT_CLR : Fld := ⟨0x2000, 3, 1⟩
def STG_STATUS_STATE : Fld := ⟨0x2004, 0, 3⟩
def STG_STATUS_SURVOK_S : Fld := ⟨0x2004, 8, 1⟩
def STG_STATUS_SURVFAIL_S : Fld := ⟨0x2004, 9, 1⟩
def STG_STATUS_COMMIT_S : Fld := ⟨0x2004, 10, 1⟩
def STG_STATUS_DELAY_S : Fld := ⟨0x2004, 11, 1⟩
def STG_STATUS_DEFER_S : Fld := ⟨0x2004, 12, 1⟩
def STG_STATUS_LATE_S : Fld := ⟨0x2004, 13, 1⟩
def STG_COMMIT_CFG_MODE : Fld := ⟨0x2008, 0, 2⟩
def STG_COMMIT_CFG_CGRP : Fld := ⟨0x2008, 2, 3⟩
def STG_COMMIT_AT_LO : Fld := ⟨0x200c, 0, 32⟩
def STG_COMMIT_AT_HI : Fld := ⟨0x2010, 0, 32⟩
def STG_DONE_STAMP_LO : Fld := ⟨0x2014, 0, 32⟩
def STG_DONE_STAMP_HI : Fld := ⟨0x2018, 0, 32⟩
def STG_SURV_RESULT_CODE : Fld := ⟨0x201c, 0, 8⟩
def STG_SURV_RESULT_CELL : Fld := ⟨0x201c, 8, 5⟩
def STG_SURV_RESULT_CTX : Fld := ⟨0x201c, 13, 7⟩
def STG_SURV_RESULT_IMAGE : Fld := ⟨0x201c, 20, 1⟩
def STG_SURV_ADDR : Fld := ⟨0x2020, 0, 32⟩
def STG_PEEK_ADDR_ADDR : Fld := ⟨0x2024, 0, 16⟩
def STG_PEEK_DATA : Fld := ⟨0x2028, 0, 32⟩
def STG_CDRAFT_ADDR : Fld := ⟨0x202c, 0, 32⟩
def STG_CDRAFT_DATA : Fld := ⟨0x2030, 0, 32⟩
def STG_CDRAFT_CNT_CNT : Fld := ⟨0x2034, 0, 9⟩
def STG_CNT_COMMIT_CNT : Fld := ⟨0x2038, 0, 16⟩
def STG_CNT_DEFER_CNT : Fld := ⟨0x2038, 16, 16⟩
def ADC_CTRL_STREAM_EN : Fld := ⟨0x5000, 0, 1⟩
def ADC_STATUS_ORNG_S : Fld := ⟨0x5004, 0, 1⟩
def ADC_STATUS_XTALK_S : Fld := ⟨0x5004, 1, 1⟩
def ADC_STATUS_CLAMP_S : Fld := ⟨0x5004, 2, 1⟩
def ADC_STATUS_OPEN_S : Fld := ⟨0x5004, 3, 1⟩
def ADC_STATUS_SLIP_S : Fld := ⟨0x5004, 4, 1⟩
def ADC_STATUS_GAP_S : Fld := ⟨0x5004, 5, 1⟩
def ADC_STATUS_PLLSW_S : Fld := ⟨0x5004, 6, 1⟩
def ADC_STATUS_INJOVR_S : Fld := ⟨0x5004, 7, 1⟩
def ADC_STATUS_CONVF_S : Fld := ⟨0x5004, 8, 1⟩
def ADC_STATUS_CALDONE_S : Fld := ⟨0x5004, 9, 1⟩
def ADC_STATUS_CALFAIL_S : Fld := ⟨0x5004, 10, 1⟩
def ADC_STATUS_POLDONE_S : Fld := ⟨0x5004, 11, 1⟩
def ADC_CNT_A_ORNG_CNT : Fld := ⟨0x5008, 0, 16⟩
def ADC_CNT_A_CLAMP_CNT : Fld := ⟨0x5008, 16, 16⟩
def ADC_CNT_B_GAP_CNT : Fld := ⟨0x500c, 0, 16⟩
def ADC_CNT_B_SLIP_CNT : Fld := ⟨0x500c, 16, 16⟩
def ADC_CNT_C_INJOVR_CNT : Fld := ⟨0x5010, 0, 16⟩
def ADC_INJ_KICK : Fld := ⟨0x5014, 0, 32⟩
def ADC_OW_CFG_OWDIV : Fld := ⟨0x5018, 0, 4⟩
def ADC_OW_CFG_OW_THR : Fld := ⟨0x5018, 16, 16⟩
def ADC_CAL_CMD_INPUT : Fld := ⟨0x5020, 0, 7⟩
def ADC_CAL_CMD_POINT : Fld := ⟨0x5020, 7, 2⟩
def ADC_CAL_CMD_NLOG : Fld := ⟨0x5020, 9, 3⟩
def ADC_CAL_CMD_START : Fld := ⟨0x5020, 12, 1⟩
def ADC_CAL_REF : Fld := ⟨0x5024, 0, 32⟩
def ADC_CAL_M0 : Fld := ⟨0x5028, 0, 32⟩
def ADC_CAL_M1 : Fld := ⟨0x502c, 0, 32⟩
def ADC_CAL_STAT_STATE : Fld := ⟨0x5030, 0, 2⟩
def ADC_CAL_STAT_FAIL : Fld := ⟨0x5030, 4, 4⟩
def ADC_POL_CFG_INPUT : Fld := ⟨0x5040, 0, 7⟩
def ADC_POL_CFG_REF_KIND : Fld := ⟨0x5040, 7, 1⟩
def ADC_POL_CFG_REF : Fld := ⟨0x5040, 8, 7⟩
def ADC_POL_CFG_W : Fld := ⟨0x5040, 16, 4⟩
def ADC_POL_CFG_START : Fld := ⟨0x5040, 20, 1⟩
def ADC_POL_CORR : Fld := ⟨0x5044, 0, 32⟩
def ADC_POL_STAT_BUSY : Fld := ⟨0x5048, 0, 1⟩
def ADC_POL_STAT_VERDICT : Fld := ⟨0x5048, 1, 2⟩
def ADC_INV (i : Nat) : Fld := ⟨0x5050 + 0x4 * i, 0, 32⟩
def ADC_CLAMP_S (i : Nat) : Fld := ⟨0x5060 + 0x4 * i, 0, 32⟩
def ADC_OPEN_S (i : Nat) : Fld := ⟨0x5070 + 0x4 * i, 0, 32⟩
def ADC_OPEN_NOW (i : Nat) : Fld := ⟨0x5078 + 0x4 * i, 0, 32⟩
def ADC_GAP_S : Fld := ⟨0x5080, 0, 32⟩
def ADC_SLIP_S : Fld := ⟨0x5084, 0, 32⟩
def ADC_CONVF_S : Fld := ⟨0x5088, 0, 32⟩
def ADC_CONVF_NOW : Fld := ⟨0x508c, 0, 32⟩
def ADC_ORNG_S (i : Nat) : Fld := ⟨0x50c0 + 0x4 * i, 0, 32⟩
def ADC_CAL_G (i : Nat) : Fld := ⟨0x5200 + 0x4 * i, 0, 16⟩
def ADC_CAL_OFS (i : Nat) : Fld := ⟨0x5200 + 0x4 * i, 16, 16⟩
def ADC_RES_CODE (i : Nat) : Fld := ⟨0x5800 + 0x4 * i, 0, 16⟩
def ADC_RES_ORNG (i : Nat) : Fld := ⟨0x5800 + 0x4 * i, 16, 1⟩
def ADC_RES_XTALK (i : Nat) : Fld := ⟨0x5800 + 0x4 * i, 17, 1⟩
def ADC_RES_PLLSW (i : Nat) : Fld := ⟨0x5800 + 0x4 * i, 18, 1⟩
def ADC_RES_OPEN (i : Nat) : Fld := ⟨0x5800 + 0x4 * i, 19, 1⟩
def ADC_RES_INVAL (i : Nat) : Fld := ⟨0x5800 + 0x4 * i, 20, 1⟩
def ADC_RES_SEQ (i : Nat) : Fld := ⟨0x5800 + 0x4 * i, 24, 8⟩
def PWM_STATUS_BND_S : Fld := ⟨0x6000, 0, 1⟩
def PWM_STATUS_SHORT_S : Fld := ⟨0x6000, 1, 1⟩
def PWM_STATUS_REFR_S : Fld := ⟨0x6000, 2, 1⟩
def PWM_STATUS_MINCLIP_S : Fld := ⟨0x6000, 3, 1⟩
def PWM_ORIGIN_LO : Fld := ⟨0x6008, 0, 32⟩
def PWM_ORIGIN_HI : Fld := ⟨0x600c, 0, 32⟩
def PWM_RUN (i : Nat) : Fld := ⟨0x6010 + 0x4 * i, 0, 32⟩
def PWM_CG_CFG_SHAPE (i : Nat) : Fld := ⟨0x6100 + 0x20 * i, 0, 1⟩
def PWM_CG_CFG_UPDATE (i : Nat) : Fld := ⟨0x6100 + 0x20 * i, 1, 1⟩
def PWM_CG_CFG_SHORT (i : Nat) : Fld := ⟨0x6100 + 0x20 * i, 2, 2⟩
def PWM_CG_HALF_HALF (i : Nat) : Fld := ⟨0x6104 + 0x20 * i, 0, 18⟩
def PWM_CG_PHASE_PHASE (i : Nat) : Fld := ⟨0x6108 + 0x20 * i, 0, 19⟩
def PWM_CG_DT_DT_H (i : Nat) : Fld := ⟨0x610c + 0x20 * i, 0, 16⟩
def PWM_CG_DT_DT_L (i : Nat) : Fld := ⟨0x610c + 0x20 * i, 16, 16⟩
def PWM_CG_MINP_MINP (i : Nat) : Fld := ⟨0x6110 + 0x20 * i, 0, 16⟩
def PWM_CG_REF_REFW (i : Nat) : Fld := ⟨0x6114 + 0x20 * i, 0, 16⟩
def PWM_CG_REF_REF_K (i : Nat) : Fld := ⟨0x6114 + 0x20 * i, 16, 16⟩
def PWM_CG_CNT_OMIT_CNT (i : Nat) : Fld := ⟨0x6118 + 0x20 * i, 0, 16⟩
def PWM_CG_CNT_REFR_CNT (i : Nat) : Fld := ⟨0x6118 + 0x20 * i, 16, 16⟩
def PWM_LEG_CTRL_SHIFT (i : Nat) : Fld := ⟨0x6400 + 0x10 * i, 0, 19⟩
def PWM_LEG_CTRL_SWAP (i : Nat) : Fld := ⟨0x6400 + 0x10 * i, 19, 1⟩
def PWM_LEG_CTRL_INV_H (i : Nat) : Fld := ⟨0x6400 + 0x10 * i, 20, 1⟩
def PWM_LEG_CTRL_INV_L (i : Nat) : Fld := ⟨0x6400 + 0x10 * i, 21, 1⟩
def PWM_LEG_DUTY (i : Nat) : Fld := ⟨0x6404 + 0x10 * i, 0, 32⟩
def PWM_LEG_STATUS_STATE (i : Nat) : Fld := ⟨0x6408 + 0x10 * i, 0, 2⟩
def PWM_LEG_STATUS_BND_S (i : Nat) : Fld := ⟨0x6408 + 0x10 * i, 8, 1⟩
def PWM_LEG_STATUS_SHORT_S (i : Nat) : Fld := ⟨0x6408 + 0x10 * i, 9, 1⟩
def PWM_LEG_STATUS_MINCLIP_S (i : Nat) : Fld := ⟨0x6408 + 0x10 * i, 10, 1⟩
def PWM_LEG_STATUS_REFR_S (i : Nat) : Fld := ⟨0x6408 + 0x10 * i, 11, 1⟩
def PWM_LEG_CARRY (i : Nat) : Fld := ⟨0x640c + 0x10 * i, 0, 32⟩
def TRP_STATUS_TRIP_S : Fld := ⟨0x8000, 0, 1⟩
def TRP_STATUS_CLRREF_S : Fld := ⟨0x8000, 1, 1⟩
def TRP_STATUS_CYC_S : Fld := ⟨0x8000, 2, 1⟩
def TRP_CNT_TRIP_CNT : Fld := ⟨0x8004, 0, 16⟩
def TRP_CNT_CYC_CNT : Fld := ⟨0x8004, 16, 16⟩
def TRP_FIRST_SRC : Fld := ⟨0x8008, 0, 7⟩
def TRP_FIRST_VALID : Fld := ⟨0x8008, 7, 1⟩
def TRP_FIRST_STAMP_LO : Fld := ⟨0x800c, 0, 32⟩
def TRP_FIRST_STAMP_HI : Fld := ⟨0x8010, 0, 32⟩
def TRP_SW_SET : Fld := ⟨0x8014, 0, 4⟩
def TRP_LATCH (i : Nat) : Fld := ⟨0x8020 + 0x4 * i, 0, 32⟩
def TRP_LIVE (i : Nat) : Fld := ⟨0x8030 + 0x4 * i, 0, 32⟩
def TRP_CLR (i : Nat) : Fld := ⟨0x8040 + 0x4 * i, 0, 32⟩
def TRP_THR (i : Nat) : Fld := ⟨0x8050 + 0x4 * i, 0, 32⟩
def TRP_FORCED (i : Nat) : Fld := ⟨0x8060 + 0x4 * i, 0, 32⟩
def DRV_STATUS_FAULT : Fld := ⟨0x7000, 0, 4⟩
def DRV_STATUS_EN : Fld := ⟨0x7000, 4, 4⟩
def DRV_STATUS_ILK_S : Fld := ⟨0x7000, 8, 1⟩
def DRV_STATUS_BSUV_S : Fld := ⟨0x7000, 9, 1⟩
def DRV_STATUS_GWAIT_S : Fld := ⟨0x7000, 10, 1⟩
def DRV_STATUS_ADLIM_S : Fld := ⟨0x7000, 11, 1⟩
def DRV_STATUS_CLR_S : Fld := ⟨0x7000, 12, 1⟩
def DRV_DIE_CFG_GCW (i : Nat) : Fld := ⟨0x7040 + 0x10 * i, 0, 9⟩
def DRV_DIE_CFG_BSUV_T (i : Nat) : Fld := ⟨0x7040 + 0x10 * i, 9, 7⟩
def DRV_DIE_CFG_SOFT (i : Nat) : Fld := ⟨0x7040 + 0x10 * i, 16, 4⟩
def DRV_DIE_CFG_AVG (i : Nat) : Fld := ⟨0x7040 + 0x10 * i, 20, 3⟩
def DRV_DIE_CFG_BAND (i : Nat) : Fld := ⟨0x7040 + 0x10 * i, 23, 3⟩
def DRV_DIE_STATUS_VUV (i : Nat) : Fld := ⟨0x7044 + 0x10 * i, 0, 1⟩
def DRV_DIE_STATUS_OT (i : Nat) : Fld := ⟨0x7044 + 0x10 * i, 1, 1⟩
def DRV_DIE_STATUS_LINKF (i : Nat) : Fld := ⟨0x7044 + 0x10 * i, 2, 1⟩
def DRV_DIE_STATUS_VUV_NOW (i : Nat) : Fld := ⟨0x7044 + 0x10 * i, 3, 1⟩
def DRV_DIE_CNT_CLR_CNT (i : Nat) : Fld := ⟨0x7048 + 0x10 * i, 0, 16⟩
def DRV_DIE_CNT_FLT_CNT (i : Nat) : Fld := ⟨0x7048 + 0x10 * i, 16, 16⟩
def DRV_LEG_CFG_SC_THR (i : Nat) : Fld := ⟨0x7100 + 0x20 * i, 0, 8⟩
def DRV_LEG_CFG_SC_EN (i : Nat) : Fld := ⟨0x7100 + 0x20 * i, 8, 1⟩
def DRV_LEG_CFG_ADAPT_EN (i : Nat) : Fld := ⟨0x7100 + 0x20 * i, 9, 1⟩
def DRV_LEG_CFG_TSW (i : Nat) : Fld := ⟨0x7100 + 0x20 * i, 16, 7⟩
def DRV_LEG_STR (i : Nat) : Fld := ⟨0x7104 + 0x20 * i, 0, 16⟩
def DRV_LEG_STR_SMIN (i : Nat) : Fld := ⟨0x7104 + 0x20 * i, 16, 4⟩
def DRV_LEG_STR_SMAX (i : Nat) : Fld := ⟨0x7104 + 0x20 * i, 20, 4⟩
def DRV_LEG_EDGE_VLO (i : Nat) : Fld := ⟨0x7108 + 0x20 * i, 0, 8⟩
def DRV_LEG_EDGE_VHI (i : Nat) : Fld := ⟨0x7108 + 0x20 * i, 8, 8⟩
def DRV_LEG_STR_NOW (i : Nat) : Fld := ⟨0x710c + 0x20 * i, 0, 16⟩
def DRV_LEG_EDGE_LAST_RISE (i : Nat) : Fld := ⟨0x7110 + 0x20 * i, 0, 16⟩
def DRV_LEG_EDGE_LAST_FALL (i : Nat) : Fld := ⟨0x7110 + 0x20 * i, 16, 16⟩
def DRV_LEG_STATUS_ROLE (i : Nat) : Fld := ⟨0x7114 + 0x20 * i, 0, 1⟩
def DRV_LEG_STATUS_BSUV_NOW (i : Nat) : Fld := ⟨0x7114 + 0x20 * i, 1, 1⟩
def DRV_LEG_STATUS_SC (i : Nat) : Fld := ⟨0x7114 + 0x20 * i, 2, 1⟩
def DRV_LEG_STATUS_GSTUCK (i : Nat) : Fld := ⟨0x7114 + 0x20 * i, 3, 1⟩
def DRV_LEG_STATUS_GLOW (i : Nat) : Fld := ⟨0x7114 + 0x20 * i, 4, 1⟩
def DRV_LEG_STATUS_UVLAT (i : Nat) : Fld := ⟨0x7114 + 0x20 * i, 5, 1⟩
def DRV_LEG_STATUS_ILK_S (i : Nat) : Fld := ⟨0x7114 + 0x20 * i, 8, 1⟩
def DRV_LEG_STATUS_BSUV_S (i : Nat) : Fld := ⟨0x7114 + 0x20 * i, 9, 1⟩
def DRV_LEG_STATUS_GWAIT_S (i : Nat) : Fld := ⟨0x7114 + 0x20 * i, 10, 1⟩
def DRV_LEG_STATUS_ADLIM_S (i : Nat) : Fld := ⟨0x7114 + 0x20 * i, 11, 1⟩
def DRV_LEG_CNT_ILK_CNT (i : Nat) : Fld := ⟨0x7118 + 0x20 * i, 0, 16⟩
def DRV_LEG_CNT_BSUV_CNT (i : Nat) : Fld := ⟨0x7118 + 0x20 * i, 16, 16⟩
def CLK_REF_CFG_SRC : Fld := ⟨0x1000, 0, 1⟩
def CLK_REF_CFG_FALLBACK : Fld := ⟨0x1000, 1, 1⟩
def CLK_REF_CFG_FREQ_KHZ : Fld := ⟨0x1000, 16, 16⟩
def CLK_STATUS_LOCK_C : Fld := ⟨0x1004, 0, 1⟩
def CLK_STATUS_LOCK_A : Fld := ⟨0x1004, 1, 1⟩
def CLK_STATUS_LOCK_M : Fld := ⟨0x1004, 2, 1⟩
def CLK_STATUS_HOLD : Fld := ⟨0x1004, 3, 1⟩
def CLK_STATUS_A_ALT : Fld := ⟨0x1004, 4, 1⟩
def CLK_STATUS_M_SR : Fld := ⟨0x1004, 5, 1⟩
def CLK_STATUS_REF_OK : Fld := ⟨0x1004, 6, 1⟩
def CLK_STATUS_REF_ACT : Fld := ⟨0x1004, 7, 1⟩
def CLK_STATUS_SPREAD_ON : Fld := ⟨0x1004, 8, 1⟩
def CLK_STATUS_LOL_C_S : Fld := ⟨0x1004, 16, 1⟩
def CLK_STATUS_LOL_A_S : Fld := ⟨0x1004, 17, 1⟩
def CLK_STATUS_LOL_M_S : Fld := ⟨0x1004, 18, 1⟩
def CLK_STATUS_HOLDX_S : Fld := ⟨0x1004, 19, 1⟩
def CLK_STATUS_REFLOSS_S : Fld := ⟨0x1004, 20, 1⟩
def CLK_STATUS_FALLBK_S : Fld := ⟨0x1004, 21, 1⟩
def CLK_STATUS_HOPFAIL_S : Fld := ⟨0x1004, 22, 1⟩
def CLK_STATUS_QERR_S : Fld := ⟨0x1004, 23, 1⟩
def CLK_CNT_LOLC_CNT : Fld := ⟨0x1008, 0, 8⟩
def CLK_CNT_LOLA_CNT : Fld := ⟨0x1008, 8, 8⟩
def CLK_CNT_LOLM_CNT : Fld := ⟨0x1008, 16, 8⟩
def CLK_CNT_QERR_CNT : Fld := ⟨0x1008, 24, 8⟩
def CLK_SPREAD_EN : Fld := ⟨0x100c, 0, 1⟩
def CLK_SPREAD_DEPTH : Fld := ⟨0x100c, 1, 7⟩
def CLK_SPREAD_PERIOD : Fld := ⟨0x100c, 8, 8⟩
def CLK_M_CFG_M_SRC : Fld := ⟨0x1010, 0, 1⟩
def CLK_DITHER_SEED (i : Nat) : Fld := ⟨0x1014 + 0x4 * i, 0, 32⟩
def CLK_PLL_STATUS_BAND (i : Nat) : Fld := ⟨0x1020 + 0x10 * i, 0, 6⟩
def CLK_PLL_STATUS_STATE (i : Nat) : Fld := ⟨0x1020 + 0x10 * i, 8, 3⟩
def CLK_PLL_NINT_NINT (i : Nat) : Fld := ⟨0x1024 + 0x10 * i, 0, 10⟩
def CLK_PLL_NFRAC_NFRAC (i : Nat) : Fld := ⟨0x1028 + 0x10 * i, 0, 24⟩
def CLK_QERR_QNUM : Fld := ⟨0x1050, 0, 6⟩
def CLK_QERR_VALID : Fld := ⟨0x1050, 6, 1⟩
def CLK_QERR_Q0 : Fld := ⟨0x1054, 0, 32⟩
def CLK_QERR_Q1 : Fld := ⟨0x1058, 0, 13⟩
def CLK_REF_MEAS_REF_KHZ : Fld := ⟨0x105c, 0, 16⟩
def CLK_REF_MEAS_K_KHZ : Fld := ⟨0x105c, 16, 16⟩
def CLK_BAND_BAND (i : Nat) : Fld := ⟨0x1080 + 0x4 * i, 0, 6⟩
def CLK_BAND_TEMP (i : Nat) : Fld := ⟨0x1080 + 0x4 * i, 6, 8⟩
def CLK_BAND_COARSE (i : Nat) : Fld := ⟨0x1080 + 0x4 * i, 14, 10⟩
def CLK_BAND_PLL (i : Nat) : Fld := ⟨0x1080 + 0x4 * i, 24, 2⟩
def CLK_BAND_VALID (i : Nat) : Fld := ⟨0x1080 + 0x4 * i, 26, 1⟩
def CLK_BAND_CTRL_CLEAR : Fld := ⟨0x10c0, 0, 1⟩
def MEM_CTRL_SCRUB_EN : Fld := ⟨0x9000, 0, 1⟩
def MEM_CTRL_AUTO_ERR : Fld := ⟨0x9000, 1, 1⟩
def MEM_CTRL_AUTO_LOST : Fld := ⟨0x9000, 2, 1⟩
def MEM_STATUS_INIT_DONE : Fld := ⟨0x9004, 0, 1⟩
def MEM_STATUS_LOST : Fld := ⟨0x9004, 1, 1⟩
def MEM_STATUS_LOST_DIE : Fld := ⟨0x9004, 2, 4⟩
def MEM_STATUS_LOST2 : Fld := ⟨0x9004, 6, 1⟩
def MEM_STATUS_CE_S : Fld := ⟨0x9004, 8, 1⟩
def MEM_STATUS_UE_S : Fld := ⟨0x9004, 9, 1⟩
def MEM_STATUS_LOST_S : Fld := ⟨0x9004, 10, 1⟩
def MEM_STATUS_ERRADD_S : Fld := ⟨0x9004, 11, 1⟩
def MEM_STATUS_ERRFULL_S : Fld := ⟨0x9004, 12, 1⟩
def MEM_STATUS_PLFULL_S : Fld := ⟨0x9004, 13, 1⟩
def MEM_STATUS_MIRUE_S : Fld := ⟨0x9004, 14, 1⟩
def MEM_STATUS_SCRUB_S : Fld := ⟨0x9004, 15, 1⟩
def MEM_STATUS_INJ_S : Fld := ⟨0x9004, 16, 1⟩
def MEM_CE_CNT : Fld := ⟨0x9008, 0, 32⟩
def MEM_UE_CNT : Fld := ⟨0x900c, 0, 32⟩
def MEM_DIE_CE_LO (i : Nat) : Fld := ⟨0x9010 + 0x4 * i, 0, 16⟩
def MEM_DIE_CE_HI (i : Nat) : Fld := ⟨0x9010 + 0x4 * i, 16, 16⟩
def MEM_UE_ADDR : Fld := ⟨0x9024, 0, 32⟩
def MEM_LOST_CFG_THR : Fld := ⟨0x9030, 0, 16⟩
def MEM_DIE_CTRL_DIE : Fld := ⟨0x9034, 0, 4⟩
def MEM_DIE_CTRL_MARK : Fld := ⟨0x9034, 4, 1⟩
def MEM_DIE_CTRL_UNMARK : Fld := ⟨0x9034, 5, 1⟩
def MEM_SCRUB_HOURS : Fld := ⟨0x9040, 0, 8⟩
def MEM_SCRUB_POS_BLOCK : Fld := ⟨0x9044, 6, 26⟩
def MEM_SCRUB_CNT_PASS_CNT : Fld := ⟨0x9048, 0, 16⟩
def MEM_ERRATA_CTRL_BLOCK : Fld := ⟨0x9050, 0, 19⟩
def MEM_ERRATA_CTRL_ADD : Fld := ⟨0x9050, 20, 1⟩
def MEM_ERRATA_CTRL_REMOVE : Fld := ⟨0x9050, 21, 1⟩
def MEM_ERR_THR_THR : Fld := ⟨0x9054, 0, 8⟩
def MEM_ERRATA_BLOCK (i : Nat) : Fld := ⟨0x9080 + 0x4 * i, 0, 19⟩
def MEM_ERRATA_AUTO (i : Nat) : Fld := ⟨0x9080 + 0x4 * i, 30, 1⟩
def MEM_ERRATA_VALID (i : Nat) : Fld := ⟨0x9080 + 0x4 * i, 31, 1⟩
def MEM_FLIP0 : Fld := ⟨0x90c0, 0, 32⟩
def MEM_FLIP1 : Fld := ⟨0x90c4, 0, 32⟩
def MEM_FLIP2_MASK : Fld := ⟨0x90c8, 0, 16⟩
def MEM_INJ_ADDR : Fld := ⟨0x90cc, 0, 32⟩
def MEM_INJ_CTRL_GO : Fld := ⟨0x90d0, 0, 1⟩
def MEM_TRK_A_USED : Fld := ⟨0x90e0, 0, 8⟩
def MEM_TRK_B_USED : Fld := ⟨0x90e0, 8, 8⟩
def MEM_TRK_C_USED : Fld := ⟨0x90e0, 16, 8⟩
def MEM_TRK_CFG_BOUND_B : Fld := ⟨0x90e4, 0, 8⟩
def MEM_TRK_CFG_BOUND_C : Fld := ⟨0x90e4, 8, 8⟩
def MEM_TRK_STALL_CNT_B_STALL : Fld := ⟨0x90e8, 0, 16⟩
def MEM_TRK_STALL_CNT_C_STALL : Fld := ⟨0x90e8, 16, 16⟩
def MEM_PL_CNT_USED : Fld := ⟨0x90ec, 0, 7⟩
def DMA_HALTED : Fld := ⟨0xa000, 0, 32⟩
def DMA_FAULT_S : Fld := ⟨0xa004, 0, 32⟩
def DMA_CNT_ARES_CNT : Fld := ⟨0xa008, 0, 16⟩
def DMA_RGN_SEL_DOM : Fld := ⟨0xa020, 0, 4⟩
def DMA_RGN_SEL_RGN : Fld := ⟨0xa020, 4, 5⟩
def DMA_RGN_DATA0 : Fld := ⟨0xa024, 0, 32⟩
def DMA_RGN_DATA1 : Fld := ⟨0xa028, 0, 32⟩
def DMA_RGN_DATA2 : Fld := ⟨0xa02c, 0, 32⟩
def DMA_RGN_DATA3 : Fld := ⟨0xa030, 0, 32⟩
def DMA_CH_CFG_KIND (i : Nat) : Fld := ⟨0xa100 + 0x40 * i, 0, 2⟩
def DMA_CH_CFG_DOM (i : Nat) : Fld := ⟨0xa100 + 0x40 * i, 2, 4⟩
def DMA_CH_CFG_ARES (i : Nat) : Fld := ⟨0xa100 + 0x40 * i, 6, 1⟩
def DMA_CH_CFG_CTX (i : Nat) : Fld := ⟨0xa100 + 0x40 * i, 8, 8⟩
def DMA_CH_CFG_CLASS (i : Nat) : Fld := ⟨0xa100 + 0x40 * i, 16, 2⟩
def DMA_CH_CTRL_START (i : Nat) : Fld := ⟨0xa104 + 0x40 * i, 0, 1⟩
def DMA_CH_CTRL_RESUME (i : Nat) : Fld := ⟨0xa104 + 0x40 * i, 1, 1⟩
def DMA_CH_CTRL_MODE (i : Nat) : Fld := ⟨0xa104 + 0x40 * i, 2, 1⟩
def DMA_CH_CTRL_TMO (i : Nat) : Fld := ⟨0xa104 + 0x40 * i, 16, 16⟩
def DMA_CH_STATUS_STATE (i : Nat) : Fld := ⟨0xa108 + 0x40 * i, 0, 2⟩
def DMA_CH_STATUS_LAP_S (i : Nat) : Fld := ⟨0xa108 + 0x40 * i, 8, 1⟩
def DMA_CH_BASE (i : Nat) : Fld := ⟨0xa10c + 0x40 * i, 0, 32⟩
def DMA_CH_SIZE (i : Nat) : Fld := ⟨0xa110 + 0x40 * i, 0, 32⟩
def DMA_CH_WPTR (i : Nat) : Fld := ⟨0xa114 + 0x40 * i, 0, 32⟩
def DMA_CH_RPTR (i : Nat) : Fld := ⟨0xa118 + 0x40 * i, 0, 32⟩
def DMA_CH_DESC (i : Nat) : Fld := ⟨0xa11c + 0x40 * i, 0, 32⟩
def DMA_CH_FAULT_ADDR (i : Nat) : Fld := ⟨0xa120 + 0x40 * i, 0, 32⟩
def DMA_CH_FAULT_INFO_CAUSE (i : Nat) : Fld := ⟨0xa124 + 0x40 * i, 0, 4⟩
def DMA_CH_FAULT_INFO_DOM (i : Nat) : Fld := ⟨0xa124 + 0x40 * i, 4, 4⟩
def DMA_CH_FAULT_INFO_BEAT (i : Nat) : Fld := ⟨0xa124 + 0x40 * i, 8, 5⟩
def DMA_CH_FAULT_INFO_CTX (i : Nat) : Fld := ⟨0xa124 + 0x40 * i, 16, 8⟩
def DMA_CH_FAULT_STAMP_LO (i : Nat) : Fld := ⟨0xa128 + 0x40 * i, 0, 32⟩
def DMA_CH_FAULT_STAMP_HI (i : Nat) : Fld := ⟨0xa12c + 0x40 * i, 0, 32⟩
def DMA_CH_CNT_DONE_CNT (i : Nat) : Fld := ⟨0xa130 + 0x40 * i, 0, 16⟩
def DMA_CH_CNT_FLT_CNT (i : Nat) : Fld := ⟨0xa130 + 0x40 * i, 16, 16⟩
def DMA_CH_CNT2_LAP_CNT (i : Nat) : Fld := ⟨0xa134 + 0x40 * i, 0, 16⟩
def CTR_CTRL_EN : Fld := ⟨0xb000, 0, 1⟩
def CTR_CTRL_XCH : Fld := ⟨0xb000, 1, 5⟩
def CTR_STATUS_GAP_S : Fld := ⟨0xb004, 0, 1⟩
def CTR_STATUS_FLAG_S : Fld := ⟨0xb004, 1, 1⟩
def CTR_STATUS_TRIG_S : Fld := ⟨0xb004, 2, 4⟩
def CTR_ENV_CFG_EW : Fld := ⟨0xb008, 0, 20⟩
def CTR_CNT_GAP_CNT : Fld := ⟨0xb00c, 0, 16⟩
def CTR_PROBE_KIND (i : Nat) : Fld := ⟨0xb100 + 0x4 * i, 0, 2⟩
def CTR_PROBE_ID (i : Nat) : Fld := ⟨0xb100 + 0x4 * i, 2, 9⟩
def CTR_PROBE_PORT (i : Nat) : Fld := ⟨0xb100 + 0x4 * i, 11, 5⟩
def CTR_PROBE_EN (i : Nat) : Fld := ⟨0xb100 + 0x4 * i, 16, 1⟩
def CTR_PROBE_ENV (i : Nat) : Fld := ⟨0xb100 + 0x4 * i, 17, 1⟩
def CTR_PROBE_XING (i : Nat) : Fld := ⟨0xb100 + 0x4 * i, 18, 1⟩
def CTR_PROBE_EXCL (i : Nat) : Fld := ⟨0xb100 + 0x4 * i, 19, 1⟩
def CTR_PROBE_HYST (i : Nat) : Fld := ⟨0xb100 + 0x4 * i, 20, 7⟩
def CTR_SEQ_CTRL_ARM (i : Nat) : Fld := ⟨0xb200 + 0x40 * i, 0, 1⟩
def CTR_SEQ_CTRL_FORCE (i : Nat) : Fld := ⟨0xb200 + 0x40 * i, 1, 1⟩
def CTR_SEQ_CTRL_AUTO (i : Nat) : Fld := ⟨0xb200 + 0x40 * i, 2, 1⟩
def CTR_SEQ_CTRL_NSTATE (i : Nat) : Fld := ⟨0xb200 + 0x40 * i, 3, 2⟩
def CTR_SEQ_STATUS_STATE (i : Nat) : Fld := ⟨0xb204 + 0x40 * i, 0, 2⟩
def CTR_SEQ_STATUS_RSTATE (i : Nat) : Fld := ⟨0xb204 + 0x40 * i, 2, 3⟩
def CTR_SEQ_STATUS_COUNT (i : Nat) : Fld := ⟨0xb204 + 0x40 * i, 8, 8⟩
def CTR_SEQ_TRIG_STAMP_LO (i : Nat) : Fld := ⟨0xb208 + 0x40 * i, 0, 32⟩
def CTR_SEQ_TRIG_STAMP_HI (i : Nat) : Fld := ⟨0xb20c + 0x40 * i, 0, 32⟩
def CTR_SEQ_COND_PROBE (i : Nat) (j : Nat) : Fld := ⟨0xb210 + 0x40 * i + 0x8 * j, 0, 5⟩
def CTR_SEQ_COND_COND (i : Nat) (j : Nat) : Fld := ⟨0xb210 + 0x40 * i + 0x8 * j, 5, 3⟩
def CTR_SEQ_COND_COUNTM1 (i : Nat) (j : Nat) : Fld := ⟨0xb210 + 0x40 * i + 0x8 * j, 8, 8⟩
def CTR_SEQ_COND_LEVEL (i : Nat) (j : Nat) : Fld := ⟨0xb210 + 0x40 * i + 0x8 * j, 16, 16⟩
def CTR_SEQ_TIME_TIME (i : Nat) (j : Nat) : Fld := ⟨0xb214 + 0x40 * i + 0x8 * j, 0, 20⟩
def CTR_SEQ_TIME_TMODE (i : Nat) (j : Nat) : Fld := ⟨0xb214 + 0x40 * i + 0x8 * j, 20, 2⟩
def CTR_REC_PROBES (i : Nat) : Fld := ⟨0xb400 + 0x40 * i, 0, 32⟩
def CTR_REC_CFG_DMA_CH (i : Nat) : Fld := ⟨0xb404 + 0x40 * i, 0, 5⟩
def CTR_REC_CFG_MPROBE (i : Nat) : Fld := ⟨0xb404 + 0x40 * i, 5, 5⟩
def CTR_REC_PRE (i : Nat) : Fld := ⟨0xb408 + 0x40 * i, 0, 24⟩
def CTR_REC_POST (i : Nat) : Fld := ⟨0xb40c + 0x40 * i, 0, 24⟩
def CTR_REC_END_WPTR (i : Nat) : Fld := ⟨0xb410 + 0x40 * i, 0, 32⟩
def CTR_REC_MEAS_N (i : Nat) : Fld := ⟨0xb414 + 0x40 * i, 0, 24⟩
def CTR_REC_MEAS_FLAG (i : Nat) : Fld := ⟨0xb414 + 0x40 * i, 24, 8⟩
def CTR_REC_MEAS_MIN (i : Nat) : Fld := ⟨0xb418 + 0x40 * i, 0, 32⟩
def CTR_REC_MEAS_MAX (i : Nat) : Fld := ⟨0xb41c + 0x40 * i, 0, 32⟩
def CTR_REC_MEAS_MEAN (i : Nat) : Fld := ⟨0xb420 + 0x40 * i, 0, 32⟩
def CTR_REC_MEAS_RMS (i : Nat) : Fld := ⟨0xb424 + 0x40 * i, 0, 32⟩
def CTR_REC_MEAS_XCNT (i : Nat) : Fld := ⟨0xb428 + 0x40 * i, 0, 16⟩
def CTR_REC_MEAS_PERIOD (i : Nat) : Fld := ⟨0xb42c + 0x40 * i, 0, 32⟩
def CTR_ENV_MIN (i : Nat) : Fld := ⟨0xb800 + 0x8 * i, 0, 32⟩
def CTR_ENV_MAX (i : Nat) : Fld := ⟨0xb804 + 0x8 * i, 0, 32⟩
def SND_G_CFG_EN (i : Nat) : Fld := ⟨0xc000 + 0x100 * i, 0, 1⟩
def SND_G_CFG_TB (i : Nat) : Fld := ⟨0xc000 + 0x100 * i, 4, 4⟩
def SND_G_CFG_PERIOD (i : Nat) : Fld := ⟨0xc000 + 0x100 * i, 8, 10⟩
def SND_G_CFG_SM (i : Nat) : Fld := ⟨0xc000 + 0x100 * i, 18, 3⟩
def SND_G_TOTAL_RTOT (i : Nat) : Fld := ⟨0xc004 + 0x100 * i, 0, 16⟩
def SND_G_TOTAL_XTOT (i : Nat) : Fld := ⟨0xc004 + 0x100 * i, 16, 16⟩
def SND_G_QUAL_QMIN (i : Nat) : Fld := ⟨0xc008 + 0x100 * i, 0, 8⟩
def SND_G_TUNE_UPROBE (i : Nat) : Fld := ⟨0xc00c + 0x100 * i, 0, 5⟩
def SND_G_TUNE_YPROBE (i : Nat) : Fld := ⟨0xc00c + 0x100 * i, 8, 5⟩
def SND_G_TUNE_GO (i : Nat) : Fld := ⟨0xc00c + 0x100 * i, 16, 1⟩
def SND_G_TUNE_ABORT (i : Nat) : Fld := ⟨0xc00c + 0x100 * i, 17, 1⟩
def SND_G_TONE_FREQ (i : Nat) (j : Nat) : Fld := ⟨0xc010 + 0x100 * i + 0x4 * j, 0, 12⟩
def SND_G_TONE_AMP (i : Nat) (j : Nat) : Fld := ⟨0xc010 + 0x100 * i + 0x4 * j, 16, 8⟩
def SND_G_STATUS_STATE (i : Nat) : Fld := ⟨0xc030 + 0x100 * i, 0, 3⟩
def SND_G_STATUS_DONE_S (i : Nat) : Fld := ⟨0xc030 + 0x100 * i, 8, 1⟩
def SND_G_STATUS_ABORT_S (i : Nat) : Fld := ⟨0xc030 + 0x100 * i, 9, 1⟩
def SND_G_STATUS_LOWQ_S (i : Nat) : Fld := ⟨0xc030 + 0x100 * i, 10, 1⟩
def SND_G_STATUS_TUNE_S (i : Nat) : Fld := ⟨0xc030 + 0x100 * i, 11, 1⟩
def SND_G_CNT_BURST_CNT (i : Nat) : Fld := ⟨0xc034 + 0x100 * i, 0, 16⟩
def SND_G_CNT_ABORT_CNT (i : Nat) : Fld := ⟨0xc034 + 0x100 * i, 16, 16⟩
def SND_G_FIT_R (i : Nat) : Fld := ⟨0xc038 + 0x100 * i, 0, 32⟩
def SND_G_FIT_X (i : Nat) : Fld := ⟨0xc03c + 0x100 * i, 0, 32⟩
def SND_G_Z_RE (i : Nat) (j : Nat) : Fld := ⟨0xc040 + 0x100 * i + 0x10 * j, 0, 32⟩
def SND_G_Z_IM (i : Nat) (j : Nat) : Fld := ⟨0xc044 + 0x100 * i + 0x10 * j, 0, 32⟩
def SND_G_Z_Q (i : Nat) (j : Nat) : Fld := ⟨0xc048 + 0x100 * i + 0x10 * j, 0, 32⟩
def SND_G_INJ_A (i : Nat) : Fld := ⟨0xc0a0 + 0x100 * i, 0, 32⟩
def SND_G_INJ_B (i : Nat) : Fld := ⟨0xc0a4 + 0x100 * i, 0, 32⟩
def SND_G_STAMP_LO (i : Nat) : Fld := ⟨0xc0a8 + 0x100 * i, 0, 32⟩
def SND_G_STAMP_HI (i : Nat) : Fld := ⟨0xc0ac + 0x100 * i, 0, 32⟩
def BRG_CFG_F0 : Fld := ⟨0xc800, 0, 8⟩
def BRG_CFG_F1 : Fld := ⟨0xc800, 8, 8⟩
def BRG_CFG_AMP : Fld := ⟨0xc800, 16, 8⟩
def BRG_CFG_CS_THR : Fld := ⟨0xc800, 24, 8⟩
def BRG_G_CFG_EN (i : Nat) : Fld := ⟨0xc900 + 0x40 * i, 0, 1⟩
def BRG_G_CFG_ADDR (i : Nat) : Fld := ⟨0xc900 + 0x40 * i, 1, 12⟩
def BRG_G_CFG_SEC_FROM (i : Nat) : Fld := ⟨0xc900 + 0x40 * i, 13, 12⟩
def BRG_G_CFG_LEADER (i : Nat) : Fld := ⟨0xc900 + 0x40 * i, 25, 1⟩
def BRG_G_LEAD_KF (i : Nat) : Fld := ⟨0xc904 + 0x40 * i, 0, 8⟩
def BRG_G_LEAD_KV (i : Nat) : Fld := ⟨0xc904 + 0x40 * i, 8, 8⟩
def BRG_G_LEAD_LPERIOD (i : Nat) : Fld := ⟨0xc904 + 0x40 * i, 16, 10⟩
def BRG_G_STATE_PER (i : Nat) : Fld := ⟨0xc908 + 0x40 * i, 0, 12⟩
def BRG_G_TX_HDR_DST (i : Nat) : Fld := ⟨0xc90c + 0x40 * i, 0, 12⟩
def BRG_G_TX_HDR_BC (i : Nat) : Fld := ⟨0xc90c + 0x40 * i, 12, 1⟩
def BRG_G_TX_HDR_TYPE (i : Nat) : Fld := ⟨0xc90c + 0x40 * i, 16, 4⟩
def BRG_G_TX_DATA (i : Nat) : Fld := ⟨0xc910 + 0x40 * i, 0, 32⟩
def BRG_G_TX_CTRL_GO (i : Nat) : Fld := ⟨0xc914 + 0x40 * i, 0, 1⟩
def BRG_G_TX_CTRL_CANCEL (i : Nat) : Fld := ⟨0xc914 + 0x40 * i, 1, 1⟩
def BRG_G_STATUS_TXSTATE (i : Nat) : Fld := ⟨0xc918 + 0x40 * i, 0, 2⟩
def BRG_G_STATUS_RXBUSY (i : Nat) : Fld := ⟨0xc918 + 0x40 * i, 2, 1⟩
def BRG_G_STATUS_TXDONE_S (i : Nat) : Fld := ⟨0xc918 + 0x40 * i, 8, 1⟩
def BRG_G_STATUS_TXFAIL_S (i : Nat) : Fld := ⟨0xc918 + 0x40 * i, 9, 1⟩
def BRG_G_STATUS_RX_S (i : Nat) : Fld := ⟨0xc918 + 0x40 * i, 10, 1⟩
def BRG_G_STATUS_CRC_S (i : Nat) : Fld := ⟨0xc918 + 0x40 * i, 11, 1⟩
def BRG_G_STATUS_REJ_S (i : Nat) : Fld := ⟨0xc918 + 0x40 * i, 12, 1⟩
def BRG_G_STATUS_ADDRDUP_S (i : Nat) : Fld := ⟨0xc918 + 0x40 * i, 13, 1⟩
def BRG_G_RX_HDR_SRC (i : Nat) : Fld := ⟨0xc91c + 0x40 * i, 0, 12⟩
def BRG_G_RX_HDR_BC (i : Nat) : Fld := ⟨0xc91c + 0x40 * i, 12, 1⟩
def BRG_G_RX_HDR_SEQ (i : Nat) : Fld := ⟨0xc91c + 0x40 * i, 13, 3⟩
def BRG_G_RX_HDR_TYPE (i : Nat) : Fld := ⟨0xc91c + 0x40 * i, 16, 4⟩
def BRG_G_RX_DATA (i : Nat) : Fld := ⟨0xc920 + 0x40 * i, 0, 32⟩
def BRG_G_RX_STAMP_LO (i : Nat) : Fld := ⟨0xc924 + 0x40 * i, 0, 32⟩
def BRG_G_RX_STAMP_HI (i : Nat) : Fld := ⟨0xc928 + 0x40 * i, 0, 32⟩
def BRG_G_CNT_A_TX_CNT (i : Nat) : Fld := ⟨0xc92c + 0x40 * i, 0, 16⟩
def BRG_G_CNT_A_RETRY_CNT (i : Nat) : Fld := ⟨0xc92c + 0x40 * i, 16, 16⟩
def BRG_G_CNT_B_RX_CNT (i : Nat) : Fld := ⟨0xc930 + 0x40 * i, 0, 16⟩
def BRG_G_CNT_B_CRC_CNT (i : Nat) : Fld := ⟨0xc930 + 0x40 * i, 16, 16⟩
def BRG_G_CNT_C_REJ_CNT (i : Nat) : Fld := ⟨0xc934 + 0x40 * i, 0, 16⟩
def TWN_CTRL_PAIR_EN : Fld := ⟨0xd000, 0, 1⟩
def TWN_CTRL_HANDOVER : Fld := ⟨0xd000, 8, 1⟩
def TWN_STATUS_ROLE : Fld := ⟨0xd004, 0, 2⟩
def TWN_STATUS_PRIMARY : Fld := ⟨0xd004, 2, 1⟩
def TWN_STATUS_LINK_UP : Fld := ⟨0xd004, 3, 1⟩
def TWN_STATUS_READY : Fld := ⟨0xd004, 4, 1⟩
def TWN_STATUS_PEER_READY : Fld := ⟨0xd004, 5, 1⟩
def TWN_STATUS_ACT_LINE : Fld := ⟨0xd004, 6, 1⟩
def TWN_STATUS_HO_BUSY : Fld := ⟨0xd004, 7, 1⟩
def TWN_STATUS_NRDY : Fld := ⟨0xd004, 8, 4⟩
def TWN_STATUS_HBLOSS_S : Fld := ⟨0xd004, 16, 1⟩
def TWN_STATUS_CLAIM_S : Fld := ⟨0xd004, 17, 1⟩
def TWN_STATUS_HO_S : Fld := ⟨0xd004, 18, 1⟩
def TWN_STATUS_HOFAIL_S : Fld := ⟨0xd004, 19, 1⟩
def TWN_STATUS_DIV_S : Fld := ⟨0xd004, 20, 1⟩
def TWN_STATUS_LINKERR_S : Fld := ⟨0xd004, 21, 1⟩
def TWN_STATUS_LINEF_S : Fld := ⟨0xd004, 22, 1⟩
def TWN_STATUS_STANDDN_S : Fld := ⟨0xd004, 23, 1⟩
def TWN_CFG_HB_T : Fld := ⟨0xd008, 0, 6⟩
def TWN_CFG_DIV_N : Fld := ⟨0xd008, 8, 6⟩
def TWN_CFG_DIV_THR : Fld := ⟨0xd008, 16, 12⟩
def TWN_CFG2_HO_T : Fld := ⟨0xd00c, 0, 8⟩
def TWN_CFG2_PEER_WAIT : Fld := ⟨0xd00c, 8, 16⟩
def TWN_CNT_LINKERR_CNT : Fld := ⟨0xd010, 0, 16⟩
def TWN_CNT_HO_CNT : Fld := ⟨0xd010, 16, 16⟩
def TWN_CNT2_DIV_CNT : Fld := ⟨0xd014, 0, 16⟩
def TWN_CNT2_TAGMIS_CNT : Fld := ⟨0xd014, 16, 16⟩
def TWN_OFS_LO : Fld := ⟨0xd018, 0, 32⟩
def TWN_OFS_HI : Fld := ⟨0xd01c, 0, 32⟩
def TWN_TIMING_FRAC : Fld := ⟨0xd020, 0, 5⟩
def TWN_TIMING_DELAY : Fld := ⟨0xd020, 16, 16⟩
def TWN_HO_STAMP_LO : Fld := ⟨0xd024, 0, 32⟩
def TWN_HO_STAMP_HI : Fld := ⟨0xd028, 0, 32⟩
def SDC_CTRL_RESET : Fld := ⟨0xe000, 0, 1⟩
def SDC_STATUS_STATE : Fld := ⟨0xe004, 0, 3⟩
def SDC_STATUS_IN1 : Fld := ⟨0xe004, 3, 1⟩
def SDC_STATUS_IN2 : Fld := ⟨0xe004, 4, 1⟩
def SDC_STATUS_FB : Fld := ⟨0xe004, 5, 1⟩
def SDC_STATUS_UNCONF : Fld := ⟨0xe004, 6, 1⟩
def SDC_STATUS_DEMAND_S : Fld := ⟨0xe004, 8, 1⟩
def SDC_STATUS_FLT_S : Fld := ⟨0xe004, 9, 1⟩
def SDC_STATUS_RSTREF_S : Fld := ⟨0xe004, 10, 1⟩
def SDC_STATUS_UNCONF_S : Fld := ⟨0xe004, 11, 1⟩
def SDC_FAULT_DISC : Fld := ⟨0xe008, 0, 1⟩
def SDC_FAULT_FBOPEN : Fld := ⟨0xe008, 1, 1⟩
def SDC_FAULT_FBCLOSE : Fld := ⟨0xe008, 2, 1⟩
def SDC_FAULT_COIL_HS : Fld := ⟨0xe008, 3, 1⟩
def SDC_FAULT_COIL_LS : Fld := ⟨0xe008, 4, 1⟩
def SDC_FAULT_PATH : Fld := ⟨0xe008, 5, 1⟩
def SDC_FAULT_CLK : Fld := ⟨0xe008, 6, 1⟩
def SDC_FAULT_PARAM : Fld := ⟨0xe008, 7, 1⟩
def SDC_FAULT_FIRST : Fld := ⟨0xe008, 8, 4⟩
def SDC_DISC_CNT_DISC_CNT : Fld := ⟨0xe00c, 0, 16⟩
def SDC_CNT_DEMAND_CNT : Fld := ⟨0xe010, 0, 16⟩
def SDC_CNT_TEST_CNT : Fld := ⟨0xe010, 16, 16⟩
def SDC_DEMAND_STAMP_LO : Fld := ⟨0xe014, 0, 32⟩
def SDC_DEMAND_STAMP_HI : Fld := ⟨0xe018, 0, 32⟩
def SDC_CHECK : Fld := ⟨0xe01c, 0, 32⟩
def SDC_CONFIRM : Fld := ⟨0xe020, 0, 32⟩
def SDC_PARAM0_DISC : Fld := ⟨0xe024, 0, 16⟩
def SDC_PARAM0_IF_T : Fld := ⟨0xe024, 16, 16⟩
def SDC_PARAM1_FB_T : Fld := ⟨0xe028, 0, 16⟩
def SDC_PARAM1_TP_PER : Fld := ⟨0xe028, 16, 16⟩
def SDC_PARAM2_TP_W : Fld := ⟨0xe02c, 0, 16⟩
def SDC_PARAM2_FB_EN : Fld := ⟨0xe02c, 16, 1⟩
def SDC_PARAM2_COIL_EN : Fld := ⟨0xe02c, 17, 1⟩
def SDC_UNCONF_LEFT_MIN : Fld := ⟨0xe030, 0, 16⟩
def SDC_RESET_CNT : Fld := ⟨0xe034, 0, 32⟩
def SEC_STATUS_OWNED : Fld := ⟨0xf000, 0, 1⟩
def SEC_STATUS_TAMPERED : Fld := ⟨0xf000, 1, 1⟩
def SEC_STATUS_LMS_EXH : Fld := ⟨0xf000, 2, 1⟩
def SEC_STATUS_RET_OK : Fld := ⟨0xf000, 3, 1⟩
def SEC_STATUS_VBAT_LOW : Fld := ⟨0xf000, 4, 1⟩
def SEC_STATUS_EPOCH_EXH : Fld := ⟨0xf000, 5, 1⟩
def SEC_STATUS_CMDOK_S : Fld := ⟨0xf000, 8, 1⟩
def SEC_STATUS_CMDFAIL_S : Fld := ⟨0xf000, 9, 1⟩
def SEC_STATUS_ATTDONE_S : Fld := ⟨0xf000, 10, 1⟩
def SEC_STATUS_TAMP_S : Fld := ⟨0xf000, 11, 1⟩
def SEC_STATUS_SEAL_S : Fld := ⟨0xf000, 12, 1⟩
def SEC_STATUS_CALCHG_S : Fld := ⟨0xf000, 13, 1⟩
def SEC_SLOTS_STATE : Fld := ⟨0xf004, 0, 8⟩
def SEC_SLOTS_ARB : Fld := ⟨0xf004, 8, 7⟩
def SEC_SLOTS_LMS_BLK : Fld := ⟨0xf004, 16, 7⟩
def SEC_SLOTS_EPOCH : Fld := ⟨0xf004, 24, 6⟩
def SEC_LMS_NEXT : Fld := ⟨0xf008, 0, 15⟩
def SEC_LMS_LEFT : Fld := ⟨0xf008, 16, 16⟩
def SEC_NONCE (i : Nat) : Fld := ⟨0xf010 + 0x4 * i, 0, 32⟩
def SEC_CMD_ADDR : Fld := ⟨0xf030, 0, 32⟩
def SEC_CMD_CTRL_GO : Fld := ⟨0xf034, 0, 1⟩
def SEC_CMD_STAT_RESULT : Fld := ⟨0xf038, 0, 8⟩
def SEC_CMD_STAT_BUSY : Fld := ⟨0xf038, 8, 1⟩
def SEC_PATCH_ADDR : Fld := ⟨0xf040, 0, 32⟩
def SEC_PATCH_CTRL_LOAD : Fld := ⟨0xf044, 0, 1⟩
def SEC_PATCH_STAT_RESULT : Fld := ⟨0xf048, 0, 8⟩
def SEC_PATCH_STAT_STORED : Fld := ⟨0xf048, 8, 1⟩
def SEC_PATCH_LEVEL_RUN : Fld := ⟨0xf04c, 0, 16⟩
def SEC_PATCH_LEVEL_STORED : Fld := ⟨0xf04c, 16, 16⟩
def SEC_ROM_LEVEL : Fld := ⟨0xf050, 0, 16⟩
def SEC_ATT_NONCE (i : Nat) : Fld := ⟨0xf060 + 0x4 * i, 0, 32⟩
def SEC_ATT_ADDR : Fld := ⟨0xf080, 0, 32⟩
def SEC_ATT_CTRL_GO : Fld := ⟨0xf084, 0, 1⟩
def SEC_RTC_LO : Fld := ⟨0xf0a0, 0, 32⟩
def SEC_RTC_HI : Fld := ⟨0xf0a4, 0, 32⟩
def SEC_RTC_SET_LO : Fld := ⟨0xf0a8, 0, 32⟩
def SEC_RTC_SET_HI : Fld := ⟨0xf0ac, 0, 32⟩
def SEC_RTC_CTRL_SET : Fld := ⟨0xf0b0, 0, 1⟩
def SEC_RTC_TRIM : Fld := ⟨0xf0b4, 0, 8⟩
def SEC_TAMP_CFG : Fld := ⟨0xf0c0, 0, 16⟩
def SEC_TAMP_STAT_NOW : Fld := ⟨0xf0c4, 0, 4⟩
def SEC_TAMP_TOTAL : Fld := ⟨0xf0c8, 0, 32⟩
def SEC_LOG_SEL_AGE : Fld := ⟨0xf0d0, 0, 5⟩
def SEC_LOG_DATA0 : Fld := ⟨0xf0d4, 0, 32⟩
def SEC_LOG_DATA1 : Fld := ⟨0xf0d8, 0, 32⟩
def SEC_LOG_DATA2 : Fld := ⟨0xf0dc, 0, 32⟩
def SEC_TALLY_CFG_EN : Fld := ⟨0xf100, 0, 8⟩
def SEC_TALLY_CFG_SEAL_H : Fld := ⟨0xf100, 8, 5⟩
def SEC_TALLY_BASE : Fld := ⟨0xf104, 0, 32⟩
def SEC_TALLY_CTRL_SEAL_NOW : Fld := ⟨0xf108, 0, 1⟩
def SEC_TALLY_SEAL_LO : Fld := ⟨0xf10c, 0, 32⟩
def SEC_TALLY_SEAL_HI : Fld := ⟨0xf110, 0, 32⟩
def SEC_TALLY_G_E_EXP_LO (i : Nat) : Fld := ⟨0xf200 + 0x40 * i, 0, 32⟩
def SEC_TALLY_G_E_EXP_HI (i : Nat) : Fld := ⟨0xf204 + 0x40 * i, 0, 32⟩
def SEC_TALLY_G_E_IMP_LO (i : Nat) : Fld := ⟨0xf208 + 0x40 * i, 0, 32⟩
def SEC_TALLY_G_E_IMP_HI (i : Nat) : Fld := ⟨0xf20c + 0x40 * i, 0, 32⟩
def SEC_TALLY_G_Q_POS_LO (i : Nat) : Fld := ⟨0xf210 + 0x40 * i, 0, 32⟩
def SEC_TALLY_G_Q_POS_HI (i : Nat) : Fld := ⟨0xf214 + 0x40 * i, 0, 32⟩
def SEC_TALLY_G_Q_NEG_LO (i : Nat) : Fld := ⟨0xf218 + 0x40 * i, 0, 32⟩
def SEC_TALLY_G_Q_NEG_HI (i : Nat) : Fld := ⟨0xf21c + 0x40 * i, 0, 32⟩
def SEC_TALLY_G_UNMET_MS (i : Nat) : Fld := ⟨0xf220 + 0x40 * i, 0, 32⟩
def SEC_TALLY_G_ORNG_MS (i : Nat) : Fld := ⟨0xf224 + 0x40 * i, 0, 32⟩
def SEC_TALLY_G_CALCHG (i : Nat) : Fld := ⟨0xf228 + 0x40 * i, 0, 32⟩
def SYS_STATE_ARMED : Fld := ⟨0x20, 0, 1⟩
def SYS_STATE_SDC_RUN : Fld := ⟨0x20, 1, 1⟩
def SYS_STATE_TRIP : Fld := ⟨0x20, 2, 1⟩
def SYS_STATE_DRVF : Fld := ⟨0x20, 3, 1⟩
def SYS_STATE_HOLD : Fld := ⟨0x20, 4, 1⟩
def SYS_STATE_DMAH : Fld := ⟨0x20, 5, 1⟩
def SYS_STATE_MEMLOST : Fld := ⟨0x20, 6, 1⟩
def SYS_STATE_GRP_RUN : Fld := ⟨0x20, 8, 8⟩
def SYS_EVENT_WRREJ_S : Fld := ⟨0x24, 0, 1⟩
def SYS_EVENT_FRAME_S : Fld := ⟨0x24, 1, 1⟩
def SYS_EVENT_ABORT_S : Fld := ⟨0x24, 2, 1⟩
def SYS_EVENT_HOSTSIL_S : Fld := ⟨0x24, 3, 1⟩
def SYS_EVENT_PORTCOL_S : Fld := ⟨0x24, 4, 1⟩
def SYS_EVENT_SVCERR_S : Fld := ⟨0x24, 5, 1⟩
def SYS_EVENT_HKACC_S : Fld := ⟨0x24, 6, 1⟩
def SYS_EVSUM_BLK : Fld := ⟨0x28, 0, 16⟩
def SYS_REJ_ADDR : Fld := ⟨0x2c, 0, 32⟩
def SYS_REJ_INFO_PORT : Fld := ⟨0x30, 0, 1⟩
def SYS_REJ_INFO_VALID : Fld := ⟨0x30, 1, 1⟩
def SYS_HOST_CFG_SIL_MS : Fld := ⟨0x80, 0, 16⟩
def SYS_HOST_CFG_SIL_ACT : Fld := ⟨0x80, 16, 2⟩
def SYS_HOST_CNT_FRAMEERR_CNT : Fld := ⟨0x84, 0, 16⟩
def SYS_HOST_CNT_ABANDON_CNT : Fld := ⟨0x84, 16, 16⟩
def SYS_DRAM_PAGE_PAGE : Fld := ⟨0x88, 0, 4⟩
def SYS_PORT_OWNER : Fld := ⟨0x8c, 0, 2⟩
def SYS_SVC_CFG_BAUD : Fld := ⟨0x90, 0, 2⟩
def SYS_SVC_CNT_SVCERR_CNT : Fld := ⟨0x94, 0, 16⟩
def SYS_BOOT_CTRL_SLOT : Fld := ⟨0x100, 0, 2⟩
def SYS_BOOT_CTRL_START : Fld := ⟨0x100, 8, 1⟩
def SYS_BOOT_STATUS_PHASE : Fld := ⟨0x104, 0, 3⟩
def SYS_BOOT_STATUS_FAIL : Fld := ⟨0x104, 8, 4⟩
def SYS_BOOT_STATUS_DETAIL : Fld := ⟨0x104, 16, 9⟩
def SYS_BOOT_STATUS_BOOTFAIL_S : Fld := ⟨0x104, 25, 1⟩
def SYS_RESET_WARM : Fld := ⟨0x108, 0, 1⟩
def SYS_RESET_KEY : Fld := ⟨0x108, 8, 8⟩
def SYS_RESET_CAUSE_KIND : Fld := ⟨0x10c, 0, 2⟩
def SYS_STBY_CTRL_ENTER : Fld := ⟨0x110, 0, 1⟩
def SYS_STBY_CTRL_CANCEL : Fld := ⟨0x110, 1, 1⟩
def SYS_STBY_CTRL_WAKE_RTC : Fld := ⟨0x110, 2, 1⟩
def SYS_STBY_CTRL_WAKE_TAMP : Fld := ⟨0x110, 3, 1⟩
def SYS_STBY_ALARM : Fld := ⟨0x114, 0, 32⟩
def SYS_STBY_STAT_READY : Fld := ⟨0x118, 0, 1⟩
def SYS_STBY_STAT_WCAUSE : Fld := ⟨0x118, 1, 2⟩
def SYS_ID_DEVICE : Fld := ⟨0x0, 0, 32⟩
def SYS_VERSION_CTRL_STEP : Fld := ⟨0x4, 0, 8⟩
def SYS_VERSION_CNV_STEP : Fld := ⟨0x4, 8, 8⟩
def SYS_VERSION_DRV_STEP : Fld := ⟨0x4, 16, 8⟩
def SYS_CAPS_LEGS : Fld := ⟨0x8, 0, 8⟩
def SYS_CAPS_CELLS : Fld := ⟨0x8, 8, 8⟩
def SYS_CAPS_CTX : Fld := ⟨0x8, 16, 8⟩
def SYS_CAPS_CONV : Fld := ⟨0x8, 24, 8⟩
def SYS_SCRATCH_DATA : Fld := ⟨0xc, 0, 32⟩
def SYS_CTRL_EXPERT_EN : Fld := ⟨0x10, 0, 1⟩
def SYS_CHART_LO : Fld := ⟨0x18, 0, 32⟩
def SYS_CHART_HI : Fld := ⟨0x1c, 0, 32⟩

end Reg

end Sys2Proof.Machine
end

