-- ==== Sys2Proof/Machine/RegTableA.lean ====
section
/-!
DEFINITION. The field tables of the register blocks SYS to STG: one row per field of the tables of the spec, in the order of its register index (R435).
-/

namespace Sys2Proof.Machine

/-- Field rows of block SYS (R433, R413, R419, R430, chapter 1), part 0. -/
def rowsSys0 : List Row :=
  [ ⟨0x40, 0, 1, 1, 0x0, 1, 0x0, .ro, (.const 0), .i, false, .any⟩,
    ⟨0x40, 1, 4, 1, 0x0, 1, 0x0, .ro, (.const 0), .i, false, .any⟩,
    ⟨0x40, 5, 1, 1, 0x0, 1, 0x0, .ro, (.const 0), .i, false, .any⟩,
    ⟨0x40, 8, 1, 1, 0x0, 1, 0x0, .w1c, (.const 0), .i, false, .any⟩,
    ⟨0x40, 9, 4, 1, 0x0, 1, 0x0, .w1c, (.const 0), .i, false, .any⟩,
    ⟨0x44, 0, 16, 1, 0x0, 1, 0x0, .cnt, (.const 0), .i, false, .any⟩,
    ⟨0x44, 16, 16, 1, 0x0, 1, 0x0, .cnt, (.const 0), .i, false, .any⟩,
    ⟨0x20, 0, 1, 1, 0x0, 1, 0x0, .ro, (.const 0), .i, false, .any⟩,
    ⟨0x20, 1, 1, 1, 0x0, 1, 0x0, .ro, (.const 0), .i, false, .any⟩,
    ⟨0x20, 2, 1, 1, 0x0, 1, 0x0, .ro, (.const 0), .i, false, .any⟩,
    ⟨0x20, 3, 1, 1, 0x0, 1, 0x0, .ro, (.const 0), .i, false, .any⟩,
    ⟨0x20, 4, 1, 1, 0x0, 1, 0x0, .ro, (.const 0), .i, false, .any⟩,
    ⟨0x20, 5, 1, 1, 0x0, 1, 0x0, .ro, (.const 0), .i, false, .any⟩,
    ⟨0x20, 6, 1, 1, 0x0, 1, 0x0, .ro, (.const 0), .i, false, .any⟩,
    ⟨0x20, 8, 8, 1, 0x0, 1, 0x0, .ro, (.const 0), .i, false, .any⟩,
    ⟨0x24, 0, 1, 1, 0x0, 1, 0x0, .w1c, (.const 0), .i, false, .any⟩,
    ⟨0x24, 1, 1, 1, 0x0, 1, 0x0, .w1c, (.const 0), .i, false, .any⟩,
    ⟨0x24, 2, 1, 1, 0x0, 1, 0x0, .w1c, (.const 0), .i, false, .any⟩,
    ⟨0x24, 3, 1, 1, 0x0, 1, 0x0, .w1c, (.const 0), .i, false, .any⟩,
    ⟨0x24, 4, 1, 1, 0x0, 1, 0x0, .w1c, (.const 0), .i, false, .any⟩ ]

/-- Field rows of block SYS (R433, R413, R419, R430, chapter 1), part 1. -/
def rowsSys1 : List Row :=
  [ ⟨0x24, 5, 1, 1, 0x0, 1, 0x0, .w1c, (.const 0), .i, false, .any⟩,
    ⟨0x24, 6, 1, 1, 0x0, 1, 0x0, .w1c, (.const 0), .i, false, .any⟩,
    ⟨0x28, 0, 16, 1, 0x0, 1, 0x0, .ro, (.const 0), .i, false, .any⟩,
    ⟨0x2c, 0, 32, 1, 0x0, 1, 0x0, .ro, (.const 0), .i, false, .any⟩,
    ⟨0x30, 0, 1, 1, 0x0, 1, 0x0, .ro, (.const 0), .i, false, .any⟩,
    ⟨0x30, 1, 1, 1, 0x0, 1, 0x0, .ro, (.const 0), .i, false, .any⟩,
    ⟨0x80, 0, 16, 1, 0x0, 1, 0x0, .rw, (.const 0), (.d .h), false, (.upTo 10 60000 true)⟩,
    ⟨0x80, 16, 2, 1, 0x0, 1, 0x0, .rw, (.const 0), (.d .h), false, (.codes 0 2)⟩,
    ⟨0x84, 0, 16, 1, 0x0, 1, 0x0, .cnt, (.const 0), .i, false, .any⟩,
    ⟨0x84, 16, 16, 1, 0x0, 1, 0x0, .cnt, (.const 0), .i, false, .any⟩,
    ⟨0x88, 0, 4, 1, 0x0, 1, 0x0, .rw, (.const 0), .i, false, .any⟩,
    ⟨0x8c, 0, 2, 1, 0x0, 1, 0x0, .rw, (.const 0), .i, false, (.codes 0 2)⟩,
    ⟨0x90, 0, 2, 1, 0x0, 1, 0x0, .rw, (.const 0), .i, false, (.codes 0 2)⟩,
    ⟨0x94, 0, 16, 1, 0x0, 1, 0x0, .cnt, (.const 0), .i, false, .any⟩,
    ⟨0x100, 0, 2, 1, 0x0, 1, 0x0, .rw, (.const 0), .i, false, .any⟩,
    ⟨0x100, 8, 1, 1, 0x0, 1, 0x0, .wo, (.const 0), .i, false, .any⟩,
    ⟨0x104, 0, 3, 1, 0x0, 1, 0x0, .ro, (.const 0), .i, false, .any⟩,
    ⟨0x104, 8, 4, 1, 0x0, 1, 0x0, .ro, (.const 0), .i, false, .any⟩,
    ⟨0x104, 16, 9, 1, 0x0, 1, 0x0, .ro, (.const 0), .i, false, .any⟩,
    ⟨0x104, 25, 1, 1, 0x0, 1, 0x0, .w1c, (.const 0), .i, false, .any⟩ ]

/-- Field rows of block SYS (R433, R413, R419, R430, chapter 1), part 2. -/
def rowsSys2 : List Row :=
  [ ⟨0x108, 0, 1, 1, 0x0, 1, 0x0, .wo, (.const 0), .i, false, .any⟩,
    ⟨0x108, 8, 8, 1, 0x0, 1, 0x0, .wo, (.const 0), .i, false, .any⟩,
    ⟨0x10c, 0, 2, 1, 0x0, 1, 0x0, .ro, (.const 0), .i, false, .any⟩,
    ⟨0x110, 0, 1, 1, 0x0, 1, 0x0, .wo, (.const 0), .i, false, .any⟩,
    ⟨0x110, 1, 1, 1, 0x0, 1, 0x0, .wo, (.const 0), .i, false, .any⟩,
    ⟨0x110, 2, 1, 1, 0x0, 1, 0x0, .rw, (.const 0), .i, false, .any⟩,
    ⟨0x110, 3, 1, 1, 0x0, 1, 0x0, .rw, (.const 0), .i, false, .any⟩,
    ⟨0x114, 0, 32, 1, 0x0, 1, 0x0, .rw, (.const 0), .i, false, .any⟩,
    ⟨0x118, 0, 1, 1, 0x0, 1, 0x0, .ro, (.const 0), .i, false, .any⟩,
    ⟨0x118, 1, 2, 1, 0x0, 1, 0x0, .ro, (.const 0), .i, false, .any⟩,
    ⟨0x0, 0, 32, 1, 0x0, 1, 0x0, .ro, (.const 0x80001), .i, false, .any⟩,
    ⟨0x4, 0, 8, 1, 0x0, 1, 0x0, .ro, (.const 1), .i, false, .any⟩,
    ⟨0x4, 8, 8, 1, 0x0, 1, 0x0, .ro, (.const 1), .i, false, .any⟩,
    ⟨0x4, 16, 8, 1, 0x0, 1, 0x0, .ro, (.const 1), .i, false, .any⟩,
    ⟨0x8, 0, 8, 1, 0x0, 1, 0x0, .ro, (.const 0x40), .i, false, .any⟩,
    ⟨0x8, 8, 8, 1, 0x0, 1, 0x0, .ro, (.const 0x20), .i, false, .any⟩,
    ⟨0x8, 16, 8, 1, 0x0, 1, 0x0, .ro, (.const 0x80), .i, false, .any⟩,
    ⟨0x8, 24, 8, 1, 0x0, 1, 0x0, .ro, (.const 0x20), .i, false, .any⟩,
    ⟨0xc, 0, 32, 1, 0x0, 1, 0x0, .rw, (.const 0), .i, false, .any⟩,
    ⟨0x10, 0, 1, 1, 0x0, 1, 0x0, .rw, (.const 0), .i, false, .any⟩ ]

/-- Field rows of block SYS (R433, R413, R419, R430, chapter 1), part 3. -/
def rowsSys3 : List Row :=
  [ ⟨0x18, 0, 32, 1, 0x0, 1, 0x0, .ro, (.const 0), .i, false, .any⟩,
    ⟨0x1c, 0, 32, 1, 0x0, 1, 0x0, .ro, (.const 0), .i, false, .any⟩ ]

/-- Every field row of block SYS (R433, R413, R419, R430, chapter 1). -/
def rowsSys : List Row :=
  rowsSys0 ++ rowsSys1 ++ rowsSys2 ++ rowsSys3

/-- Field rows of block CLK (R282), part 0. -/
def rowsClk0 : List Row :=
  [ ⟨0x1000, 0, 1, 1, 0x0, 1, 0x0, .rw, (.const 0), (.d .clk), false, .any⟩,
    ⟨0x1000, 1, 1, 1, 0x0, 1, 0x0, .rw, (.const 0), (.d .clk), false, .any⟩,
    ⟨0x1000, 16, 16, 1, 0x0, 1, 0x0, .rw, (.const 0x61a8), (.d .clk), false, (.upTo 10000 50000 false)⟩,
    ⟨0x1004, 0, 1, 1, 0x0, 1, 0x0, .ro, (.const 0), .i, false, .any⟩,
    ⟨0x1004, 1, 1, 1, 0x0, 1, 0x0, .ro, (.const 0), .i, false, .any⟩,
    ⟨0x1004, 2, 1, 1, 0x0, 1, 0x0, .ro, (.const 0), .i, false, .any⟩,
    ⟨0x1004, 3, 1, 1, 0x0, 1, 0x0, .ro, (.const 0), .i, false, .any⟩,
    ⟨0x1004, 4, 1, 1, 0x0, 1, 0x0, .ro, (.const 0), .i, false, .any⟩,
    ⟨0x1004, 5, 1, 1, 0x0, 1, 0x0, .ro, (.const 0), .i, false, .any⟩,
    ⟨0x1004, 6, 1, 1, 0x0, 1, 0x0, .ro, (.const 0), .i, false, .any⟩,
    ⟨0x1004, 7, 1, 1, 0x0, 1, 0x0, .ro, (.const 0), .i, false, .any⟩,
    ⟨0x1004, 8, 1, 1, 0x0, 1, 0x0, .ro, (.const 0), .i, false, .any⟩,
    ⟨0x1004, 16, 1, 1, 0x0, 1, 0x0, .w1c, (.const 0), .i, false, .any⟩,
    ⟨0x1004, 17, 1, 1, 0x0, 1, 0x0, .w1c, (.const 0), .i, false, .any⟩,
    ⟨0x1004, 18, 1, 1, 0x0, 1, 0x0, .w1c, (.const 0), .i, false, .any⟩,
    ⟨0x1004, 19, 1, 1, 0x0, 1, 0x0, .w1c, (.const 0), .i, false, .any⟩,
    ⟨0x1004, 20, 1, 1, 0x0, 1, 0x0, .w1c, (.const 0), .i, false, .any⟩,
    ⟨0x1004, 21, 1, 1, 0x0, 1, 0x0, .w1c, (.const 0), .i, false, .any⟩,
    ⟨0x1004, 22, 1, 1, 0x0, 1, 0x0, .w1c, (.const 0), .i, false, .any⟩,
    ⟨0x1004, 23, 1, 1, 0x0, 1, 0x0, .w1c, (.const 0), .i, false, .any⟩ ]

/-- Field rows of block CLK (R282), part 1. -/
def rowsClk1 : List Row :=
  [ ⟨0x1008, 0, 8, 1, 0x0, 1, 0x0, .cnt, (.const 0), .i, false, .any⟩,
    ⟨0x1008, 8, 8, 1, 0x0, 1, 0x0, .cnt, (.const 0), .i, false, .any⟩,
    ⟨0x1008, 16, 8, 1, 0x0, 1, 0x0, .cnt, (.const 0), .i, false, .any⟩,
    ⟨0x1008, 24, 8, 1, 0x0, 1, 0x0, .cnt, (.const 0), .i, false, .any⟩,
    ⟨0x100c, 0, 1, 1, 0x0, 1, 0x0, .rw, (.const 0), (.d .clk), false, .any⟩,
    ⟨0x100c, 1, 7, 1, 0x0, 1, 0x0, .rw, (.const 0xa), (.d .clk), false, (.upTo 5 50 false)⟩,
    ⟨0x100c, 8, 8, 1, 0x0, 1, 0x0, .rw, (.const 0xa), (.d .clk), false, (.upTo 1 50 false)⟩,
    ⟨0x1010, 0, 1, 1, 0x0, 1, 0x0, .rw, (.const 0), (.d .clk), false, .any⟩,
    ⟨0x1014, 0, 32, 3, 0x4, 1, 0x0, .rw, (.plusIndex 0xACE10001), (.d .clk), false, (.codes 1 4294967295)⟩,
    ⟨0x1020, 0, 6, 3, 0x10, 1, 0x0, .ro, (.const 0), .i, false, .any⟩,
    ⟨0x1020, 8, 3, 3, 0x10, 1, 0x0, .ro, (.const 0), .i, false, .any⟩,
    ⟨0x1024, 0, 10, 3, 0x10, 1, 0x0, .ro, (.const 0), .i, false, .any⟩,
    ⟨0x1028, 0, 24, 3, 0x10, 1, 0x0, .ro, (.const 0), .i, false, .any⟩,
    ⟨0x1050, 0, 6, 1, 0x0, 1, 0x0, .ro, (.const 0), .i, false, .any⟩,
    ⟨0x1050, 6, 1, 1, 0x0, 1, 0x0, .ro, (.const 0), .i, false, .any⟩,
    ⟨0x1054, 0, 32, 1, 0x0, 1, 0x0, .w1c, (.const 0), .i, false, .any⟩,
    ⟨0x1058, 0, 13, 1, 0x0, 1, 0x0, .w1c, (.const 0), .i, false, .any⟩,
    ⟨0x105c, 0, 16, 1, 0x0, 1, 0x0, .ro, (.const 0), .i, false, .any⟩,
    ⟨0x105c, 16, 16, 1, 0x0, 1, 0x0, .ro, (.const 0), .i, false, .any⟩,
    ⟨0x1080, 0, 6, 16, 0x4, 1, 0x0, .ro, (.const 0), .i, false, .any⟩ ]

/-- Field rows of block CLK (R282), part 2. -/
def rowsClk2 : List Row :=
  [ ⟨0x1080, 6, 8, 16, 0x4, 1, 0x0, .ro, (.const 0), .i, false, .any⟩,
    ⟨0x1080, 14, 10, 16, 0x4, 1, 0x0, .ro, (.const 0), .i, false, .any⟩,
    ⟨0x1080, 24, 2, 16, 0x4, 1, 0x0, .ro, (.const 0), .i, false, .any⟩,
    ⟨0x1080, 26, 1, 16, 0x4, 1, 0x0, .ro, (.const 0), .i, false, .any⟩,
    ⟨0x10c0, 0, 1, 1, 0x0, 1, 0x0, .wo, (.const 0), .i, false, .any⟩ ]

/-- Every field row of block CLK (R282). -/
def rowsClk : List Row :=
  rowsClk0 ++ rowsClk1 ++ rowsClk2

/-- Field rows of block STG (R156, R175), part 0. -/
def rowsStg0 : List Row :=
  [ ⟨0x2800, 0, 2, 1, 0x0, 1, 0x0, .rw, (.const 0), .i, false, .any⟩,
    ⟨0x2800, 8, 1, 1, 0x0, 1, 0x0, .wo, (.const 0), .i, false, .any⟩,
    ⟨0x2800, 9, 1, 1, 0x0, 1, 0x0, .wo, (.const 0), .i, false, .any⟩,
    ⟨0x2804, 0, 3, 1, 0x0, 1, 0x0, .ro, (.const 0), .i, false, .any⟩,
    ⟨0x2804, 3, 2, 1, 0x0, 1, 0x0, .ro, (.const 0), .i, false, .any⟩,
    ⟨0x2804, 5, 2, 1, 0x0, 1, 0x0, .ro, (.const 0), .i, false, .any⟩,
    ⟨0x2804, 8, 8, 1, 0x0, 1, 0x0, .ro, (.const 0), .i, false, .any⟩,
    ⟨0x2804, 16, 8, 1, 0x0, 1, 0x0, .ro, (.const 0xff), .i, false, .any⟩,
    ⟨0x2804, 24, 1, 1, 0x0, 1, 0x0, .w1c, (.const 0), .i, false, .any⟩,
    ⟨0x2804, 25, 1, 1, 0x0, 1, 0x0, .w1c, (.const 0), .i, false, .any⟩,
    ⟨0x2804, 26, 1, 1, 0x0, 1, 0x0, .w1c, (.const 0), .i, false, .any⟩,
    ⟨0x2808, 0, 32, 1, 0x0, 1, 0x0, .ro, (.const 0), .i, false, .any⟩,
    ⟨0x280c, 0, 32, 1, 0x0, 1, 0x0, .ro, (.const 0), .i, false, .any⟩,
    ⟨0x2810, 0, 32, 1, 0x0, 1, 0x0, .ro, (.const 0), .i, false, .any⟩,
    ⟨0x2814, 0, 32, 1, 0x0, 1, 0x0, .ro, (.const 0), .i, false, .any⟩,
    ⟨0x2818, 0, 32, 1, 0x0, 1, 0x0, .ro, (.const 0), .i, false, .any⟩,
    ⟨0x281c, 0, 8, 1, 0x0, 1, 0x0, .ro, (.const 0), .i, false, .any⟩,
    ⟨0x281c, 8, 2, 1, 0x0, 1, 0x0, .ro, (.const 0), .i, false, .any⟩,
    ⟨0x2820, 0, 16, 1, 0x0, 1, 0x0, .cnt, (.const 0), .i, false, .any⟩,
    ⟨0x2820, 16, 16, 1, 0x0, 1, 0x0, .cnt, (.const 0), .i, false, .any⟩ ]

/-- Field rows of block STG (R156, R175), part 1. -/
def rowsStg1 : List Row :=
  [ ⟨0x2824, 0, 32, 1, 0x0, 1, 0x0, .ro, (.const 0), .i, false, .any⟩,
    ⟨0x2828, 0, 32, 1, 0x0, 1, 0x0, .ro, (.const 0), .i, false, .any⟩,
    ⟨0x2000, 0, 1, 1, 0x0, 1, 0x0, .wo, (.const 0), .i, false, .any⟩,
    ⟨0x2000, 1, 1, 1, 0x0, 1, 0x0, .wo, (.const 0), .i, false, .any⟩,
    ⟨0x2000, 2, 1, 1, 0x0, 1, 0x0, .wo, (.const 0), .i, false, .any⟩,
    ⟨0x2000, 3, 1, 1, 0x0, 1, 0x0, .wo, (.const 0), .i, false, .any⟩,
    ⟨0x2004, 0, 3, 1, 0x0, 1, 0x0, .ro, (.const 0), .i, false, .any⟩,
    ⟨0x2004, 8, 1, 1, 0x0, 1, 0x0, .w1c, (.const 0), .i, false, .any⟩,
    ⟨0x2004, 9, 1, 1, 0x0, 1, 0x0, .w1c, (.const 0), .i, false, .any⟩,
    ⟨0x2004, 10, 1, 1, 0x0, 1, 0x0, .w1c, (.const 0), .i, false, .any⟩,
    ⟨0x2004, 11, 1, 1, 0x0, 1, 0x0, .w1c, (.const 0), .i, false, .any⟩,
    ⟨0x2004, 12, 1, 1, 0x0, 1, 0x0, .w1c, (.const 0), .i, false, .any⟩,
    ⟨0x2004, 13, 1, 1, 0x0, 1, 0x0, .w1c, (.const 0), .i, false, .any⟩,
    ⟨0x2008, 0, 2, 1, 0x0, 1, 0x0, .rw, (.const 0), .i, false, (.codes 0 1)⟩,
    ⟨0x2008, 2, 3, 1, 0x0, 1, 0x0, .rw, (.const 0), .i, false, .any⟩,
    ⟨0x200c, 0, 32, 1, 0x0, 1, 0x0, .rw, (.const 0), .i, false, .any⟩,
    ⟨0x2010, 0, 32, 1, 0x0, 1, 0x0, .rw, (.const 0), .i, false, .any⟩,
    ⟨0x2014, 0, 32, 1, 0x0, 1, 0x0, .ro, (.const 0), .i, false, .any⟩,
    ⟨0x2018, 0, 32, 1, 0x0, 1, 0x0, .ro, (.const 0), .i, false, .any⟩,
    ⟨0x201c, 0, 8, 1, 0x0, 1, 0x0, .ro, (.const 0), .i, false, .any⟩ ]

/-- Field rows of block STG (R156, R175), part 2. -/
def rowsStg2 : List Row :=
  [ ⟨0x201c, 8, 5, 1, 0x0, 1, 0x0, .ro, (.const 0), .i, false, .any⟩,
    ⟨0x201c, 13, 7, 1, 0x0, 1, 0x0, .ro, (.const 0), .i, false, .any⟩,
    ⟨0x201c, 20, 1, 1, 0x0, 1, 0x0, .ro, (.const 0), .i, false, .any⟩,
    ⟨0x2020, 0, 32, 1, 0x0, 1, 0x0, .ro, (.const 0), .i, false, .any⟩,
    ⟨0x2024, 0, 16, 1, 0x0, 1, 0x0, .rw, (.const 0), .i, false, .any⟩,
    ⟨0x2028, 0, 32, 1, 0x0, 1, 0x0, .ro, (.const 0), .i, false, .any⟩,
    ⟨0x202c, 0, 32, 1, 0x0, 1, 0x0, .rw, (.const 0x100000), .i, true, .any⟩,
    ⟨0x2030, 0, 32, 1, 0x0, 1, 0x0, .wo, (.const 0), .i, true, .any⟩,
    ⟨0x2034, 0, 9, 1, 0x0, 1, 0x0, .ro, (.const 0), .i, false, .any⟩,
    ⟨0x2038, 0, 16, 1, 0x0, 1, 0x0, .cnt, (.const 0), .i, false, .any⟩,
    ⟨0x2038, 16, 16, 1, 0x0, 1, 0x0, .cnt, (.const 0), .i, false, .any⟩ ]

/-- Every field row of block STG (R156, R175). -/
def rowsStg : List Row :=
  rowsStg0 ++ rowsStg1 ++ rowsStg2

end Sys2Proof.Machine
end

