-- ==== Sys2Proof/Machine/RegTableB.lean ====
section
/-!
DEFINITION. The field tables of the register blocks GFM to GRT: one row per field of the tables of the spec, in the order of its register index (R435).
-/

namespace Sys2Proof.Machine

/-- Field rows of block GFM (R56, R90), part 0. -/
def rowsGfm0 : List Row :=
  [ ⟨0x3000, 0, 1, 8, 0x200, 1, 0x0, .rw, (.const 0), .i, false, .any⟩,
    ⟨0x3000, 1, 1, 8, 0x200, 1, 0x0, .rw, (.const 0), (.d .c), false, .any⟩,
    ⟨0x3000, 2, 1, 8, 0x200, 1, 0x0, .rw, (.const 1), (.d .c), false, .any⟩,
    ⟨0x3000, 3, 1, 8, 0x200, 1, 0x0, .rw, (.const 0), (.d .c), false, .any⟩,
    ⟨0x3004, 0, 1, 8, 0x200, 1, 0x0, .rw, (.const 0), (.d .c), false, .any⟩,
    ⟨0x3004, 1, 2, 8, 0x200, 1, 0x0, .rw, (.const 0), (.d .c), false, (.codes 0 1)⟩,
    ⟨0x3008, 0, 20, 8, 0x200, 1, 0x0, .rw, (.const 0), (.d .c), false, .any⟩,
    ⟨0x300c, 0, 20, 8, 0x200, 1, 0x0, .rw, (.const 0), (.d .c), false, .any⟩,
    ⟨0x3010, 0, 20, 8, 0x200, 1, 0x0, .rw, (.const 0), (.d .c), false, .any⟩,
    ⟨0x3014, 0, 16, 8, 0x200, 1, 0x0, .rw, (.const 0x1388), (.d .c), false, (.upTo 50 30000 false)⟩,
    ⟨0x3018, 0, 16, 8, 0x200, 1, 0x0, .rw, (.const 0xc8), (.d .c), false, (.upTo 0 4000 false)⟩,
    ⟨0x3018, 16, 16, 8, 0x200, 1, 0x0, .rw, (.const 0x3e8), (.d .c), false, (.upTo 10 10000 false)⟩,
    ⟨0x301c, 0, 16, 8, 0x200, 1, 0x0, .rw, (.const 0x190), (.d .c), false, (.upTo 50 1000 false)⟩,
    ⟨0x301c, 16, 16, 8, 0x200, 1, 0x0, .rw, (.const 0x190), (.d .c), false, (.upTo 50 1000 false)⟩,
    ⟨0x3020, 0, 16, 8, 0x200, 1, 0x0, .rw, (.const 0), (.d .c), false, (.upTo 0 200 false)⟩,
    ⟨0x3020, 16, 16, 8, 0x200, 1, 0x0, .rw, (.const 0xc8), (.d .c), false, (.upTo 50 2000 false)⟩,
    ⟨0x3024, 0, 16, 8, 0x200, 1, 0x0, .rw, (.const 0x1194), (.d .c), false, (.upTo 4500 6600 false)⟩,
    ⟨0x3024, 16, 16, 8, 0x200, 1, 0x0, .rw, (.const 0x19c8), (.d .c), false, (.upTo 4500 6600 false)⟩,
    ⟨0x3028, 0, 16, 8, 0x200, 1, 0x0, .rw, (.const 0x384), (.d .c), false, (.upTo 500 1000 false)⟩,
    ⟨0x3028, 16, 16, 8, 0x200, 1, 0x0, .rw, (.const 0x44c), (.d .c), false, (.upTo 1000 1300 false)⟩ ]

/-- Field rows of block GFM (R56, R90), part 1. -/
def rowsGfm1 : List Row :=
  [ ⟨0x302c, 0, 16, 8, 0x200, 1, 0x0, .rw, (.const 0x3e8), (.d .c), false, (.upTo 0 1500 false)⟩,
    ⟨0x302c, 16, 16, 8, 0x200, 1, 0x0, .rw, (.const 0x3e8), (.d .c), false, (.upTo 0 1500 false)⟩,
    ⟨0x3030, 0, 16, 8, 0x200, 1, 0x0, .rw, (.const 0), (.d .c), false, (.upTo 0 5000 false)⟩,
    ⟨0x3030, 16, 16, 8, 0x200, 1, 0x0, .rw, (.const 0x1f4), (.d .c), false, (.upTo 0 5000 false)⟩,
    ⟨0x3034, 0, 16, 8, 0x200, 1, 0x0, .rw, (.const 0), (.d .c), false, (.upTo 0 20000 false)⟩,
    ⟨0x3034, 16, 16, 8, 0x200, 1, 0x0, .rw, (.const 0x3e8), (.d .c), false, (.upTo 0 20000 false)⟩,
    ⟨0x3038, 0, 16, 8, 0x200, 1, 0x0, .rw, (.const 0x1f4), (.d .c), false, (.upTo 0 5000 false)⟩,
    ⟨0x3038, 16, 16, 8, 0x200, 1, 0x0, .rw, (.const 0x1f4), (.d .c), false, (.upTo 0 5000 false)⟩,
    ⟨0x303c, 0, 16, 8, 0x200, 1, 0x0, .rw, (.const 0), (.d .c), false, (.upTo 0 5000 false)⟩,
    ⟨0x303c, 16, 16, 8, 0x200, 1, 0x0, .rw, (.const 0), (.d .c), false, (.upTo 0 5000 false)⟩,
    ⟨0x3040, 0, 24, 8, 0x200, 1, 0x0, .rw, (.const 0), (.d .c), false, .any⟩,
    ⟨0x3044, 0, 24, 8, 0x200, 1, 0x0, .rw, (.const 0), (.d .c), false, .any⟩,
    ⟨0x3048, 0, 16, 8, 0x200, 1, 0x0, .rw, (.const 0x1f4), (.d .c), false, (.upTo 100 2000 false)⟩,
    ⟨0x3048, 16, 16, 8, 0x200, 1, 0x0, .rw, (.const 0x1388), (.d .c), false, (.upTo 500 20000 false)⟩,
    ⟨0x304c, 0, 32, 8, 0x200, 1, 0x0, .rw, (.const 0), (.d .c), false, .any⟩,
    ⟨0x3050, 0, 16, 8, 0x200, 1, 0x0, .rw, (.const 0), (.d .c), false, .any⟩,
    ⟨0x3050, 16, 8, 8, 0x200, 1, 0x0, .rw, (.const 0x10), (.d .c), false, (.upTo 0 160 false)⟩,
    ⟨0x3054, 0, 16, 8, 0x200, 1, 0x0, .rw, (.const 0x1388), (.d .c), false, (.upTo 1 65535 false)⟩,
    ⟨0x3054, 16, 16, 8, 0x200, 1, 0x0, .rw, (.const 0x1388), (.d .c), false, (.upTo 1 65535 false)⟩,
    ⟨0x3058, 0, 16, 8, 0x200, 1, 0x0, .rw, (.const 0x64), (.d .c), false, (.upTo 1 65535 false)⟩ ]

/-- Field rows of block GFM (R56, R90), part 2. -/
def rowsGfm2 : List Row :=
  [ ⟨0x3058, 16, 16, 8, 0x200, 1, 0x0, .rw, (.const 0x3e8), (.d .c), false, (.upTo 1 65535 false)⟩,
    ⟨0x305c, 0, 16, 8, 0x200, 1, 0x0, .rw, (.const 0), (.d .c), false, .any⟩,
    ⟨0x305c, 16, 16, 8, 0x200, 1, 0x0, .rw, (.const 0), (.d .c), false, .any⟩,
    ⟨0x3060, 0, 16, 8, 0x200, 1, 0x0, .rw, (.const 0), (.d .c), false, .any⟩,
    ⟨0x3060, 16, 16, 8, 0x200, 1, 0x0, .rw, (.const 0), (.d .c), false, .any⟩,
    ⟨0x3080, 0, 32, 8, 0x200, 1, 0x0, .rw, (.const 0), .i, false, .any⟩,
    ⟨0x3084, 0, 32, 8, 0x200, 1, 0x0, .rw, (.const 0), .i, false, .any⟩,
    ⟨0x3088, 0, 32, 8, 0x200, 1, 0x0, .rw, (.const 0x10000000), .i, false, .any⟩,
    ⟨0x308c, 0, 32, 8, 0x200, 1, 0x0, .rw, (.const 0x10000000), .i, false, .any⟩,
    ⟨0x3090, 0, 32, 8, 0x200, 1, 0x0, .rw, (.const 0), .i, false, .any⟩,
    ⟨0x3094, 0, 32, 8, 0x200, 1, 0x0, .rw, (.const 0), .i, false, .any⟩,
    ⟨0x30a0, 0, 32, 8, 0x200, 1, 0x0, .ro, (.const 0), .i, false, .any⟩,
    ⟨0x30a4, 0, 32, 8, 0x200, 1, 0x0, .ro, (.const 0), .i, false, .any⟩,
    ⟨0x30a8, 0, 32, 8, 0x200, 1, 0x0, .ro, (.const 0), .i, false, .any⟩,
    ⟨0x30ac, 0, 32, 8, 0x200, 1, 0x0, .ro, (.const 0), .i, false, .any⟩,
    ⟨0x30b0, 0, 32, 8, 0x200, 1, 0x0, .ro, (.const 0), .i, false, .any⟩,
    ⟨0x30b4, 0, 32, 8, 0x200, 1, 0x0, .ro, (.const 0), .i, false, .any⟩,
    ⟨0x30b8, 0, 32, 8, 0x200, 1, 0x0, .ro, (.const 0), .i, false, .any⟩,
    ⟨0x30bc, 0, 32, 8, 0x200, 1, 0x0, .ro, (.const 0), .i, false, .any⟩,
    ⟨0x30c0, 0, 32, 8, 0x200, 1, 0x0, .ro, (.const 0), .i, false, .any⟩ ]

/-- Field rows of block GFM (R56, R90), part 3. -/
def rowsGfm3 : List Row :=
  [ ⟨0x30c4, 0, 32, 8, 0x200, 1, 0x0, .ro, (.const 0), .i, false, .any⟩,
    ⟨0x30c8, 0, 32, 8, 0x200, 1, 0x0, .ro, (.const 0), .i, false, .any⟩,
    ⟨0x30cc, 0, 32, 8, 0x200, 1, 0x0, .ro, (.const 0), .i, false, .any⟩,
    ⟨0x30d0, 0, 32, 8, 0x200, 1, 0x0, .ro, (.const 0), .i, false, .any⟩,
    ⟨0x30e0, 0, 1, 8, 0x200, 1, 0x0, .ro, (.const 0), .i, false, .any⟩,
    ⟨0x30e0, 1, 1, 8, 0x200, 1, 0x0, .w1c, (.const 0), .i, false, .any⟩,
    ⟨0x30e0, 2, 1, 8, 0x200, 1, 0x0, .w1c, (.const 0), .i, false, .any⟩,
    ⟨0x30e0, 3, 1, 8, 0x200, 1, 0x0, .w1c, (.const 0), .i, false, .any⟩,
    ⟨0x30e0, 4, 1, 8, 0x200, 1, 0x0, .w1c, (.const 0), .i, false, .any⟩,
    ⟨0x30e0, 5, 1, 8, 0x200, 1, 0x0, .w1c, (.const 0), .i, false, .any⟩,
    ⟨0x30e0, 6, 1, 8, 0x200, 1, 0x0, .w1c, (.const 0), .i, false, .any⟩,
    ⟨0x30e0, 7, 1, 8, 0x200, 1, 0x0, .w1c, (.const 0), .i, false, .any⟩,
    ⟨0x30e0, 8, 1, 8, 0x200, 1, 0x0, .w1c, (.const 0), .i, false, .any⟩,
    ⟨0x30e0, 9, 1, 8, 0x200, 1, 0x0, .w1c, (.const 0), .i, false, .any⟩,
    ⟨0x30e0, 10, 1, 8, 0x200, 1, 0x0, .w1c, (.const 0), .i, false, .any⟩,
    ⟨0x30e0, 11, 1, 8, 0x200, 1, 0x0, .w1c, (.const 0), .i, false, .any⟩,
    ⟨0x3100, 0, 16, 8, 0x200, 1, 0x0, .rw, (.const 0x5dc), (.d .c), false, (.upTo 1000 3000 false)⟩,
    ⟨0x3100, 16, 16, 8, 0x200, 1, 0x0, .rw, (.const 0x44c), (.d .c), false, (.upTo 500 1500 false)⟩,
    ⟨0x3104, 0, 16, 8, 0x200, 1, 0x0, .rw, (.const 0x1f4), (.d .c), false, (.upTo 10 5000 false)⟩,
    ⟨0x3104, 16, 16, 8, 0x200, 1, 0x0, .rw, (.const 0x2710), (.d .c), false, (.upTo 100 60000 false)⟩ ]

/-- Field rows of block GFM (R56, R90), part 4. -/
def rowsGfm4 : List Row :=
  [ ⟨0x3108, 0, 2, 8, 0x200, 1, 0x0, .rw, (.const 0), (.d .c), false, (.codes 0 2)⟩,
    ⟨0x3108, 2, 2, 8, 0x200, 1, 0x0, .rw, (.const 0), (.d .c), false, (.codes 0 1)⟩,
    ⟨0x3108, 4, 1, 8, 0x200, 1, 0x0, .rw, (.const 1), (.d .c), false, .any⟩,
    ⟨0x3108, 5, 1, 8, 0x200, 1, 0x0, .rw, (.const 1), (.d .c), false, .any⟩,
    ⟨0x310c, 0, 8, 8, 0x200, 1, 0x0, .rw, (.const 0x14), (.d .c), false, (.upTo 0 60 false)⟩,
    ⟨0x310c, 8, 8, 8, 0x200, 1, 0x0, .rw, (.const 0x14), (.d .c), false, (.upTo 0 60 false)⟩,
    ⟨0x310c, 16, 16, 8, 0x200, 1, 0x0, .rw, (.const 0x64), (.d .c), false, (.upTo 0 200 false)⟩,
    ⟨0x3110, 0, 16, 8, 0x200, 1, 0x0, .rw, (.const 0x352), (.d .c), false, (.upTo 500 950 false)⟩,
    ⟨0x3110, 16, 16, 8, 0x200, 1, 0x0, .rw, (.const 0x384), (.d .c), false, (.upTo 550 1000 false)⟩,
    ⟨0x3114, 0, 16, 8, 0x200, 1, 0x0, .rw, (.const 0x3e8), (.d .c), false, (.upTo 0 5000 false)⟩,
    ⟨0x3114, 16, 16, 8, 0x200, 1, 0x0, .rw, (.const 0x3e8), (.d .c), false, (.upTo 0 6000 false)⟩,
    ⟨0x3118, 0, 16, 8, 0x200, 1, 0x0, .rw, (.const 0xc8), (.d .c), false, (.upTo 10 10000 false)⟩,
    ⟨0x3118, 16, 16, 8, 0x200, 1, 0x0, .rw, (.const 0x14), (.d .c), false, (.upTo 0 1000 false)⟩,
    ⟨0x311c, 0, 16, 8, 0x200, 1, 0x0, .rw, (.const 0xc8), (.d .c), false, (.upTo 10 1000 false)⟩,
    ⟨0x311c, 16, 16, 8, 0x200, 1, 0x0, .rw, (.const 0xc8), (.d .c), false, (.upTo 10 1000 false)⟩,
    ⟨0x3120, 0, 1, 8, 0x200, 1, 0x0, .rw, (.const 1), (.d .c), false, .any⟩,
    ⟨0x3120, 1, 1, 8, 0x200, 1, 0x0, .rw, (.const 1), (.d .c), false, .any⟩,
    ⟨0x3120, 16, 16, 8, 0x200, 1, 0x0, .rw, (.const 0x384), (.d .c), false, (.upTo 500 1200 false)⟩,
    ⟨0x3124, 0, 16, 8, 0x200, 1, 0x0, .rw, (.const 0x7d0), (.d .c), false, (.upTo 10 60000 false)⟩,
    ⟨0x3124, 16, 16, 8, 0x200, 1, 0x0, .rw, (.const 0), (.d .c), false, (.upTo 0 500 false)⟩ ]

/-- Field rows of block GFM (R56, R90), part 5. -/
def rowsGfm5 : List Row :=
  [ ⟨0x3128, 0, 16, 8, 0x200, 1, 0x0, .rw, (.const 0x64), (.d .c), false, (.upTo 10 500 false)⟩,
    ⟨0x3128, 16, 16, 8, 0x200, 1, 0x0, .rw, (.const 0x1f4), (.d .c), false, (.upTo 0 10000 false)⟩,
    ⟨0x312c, 0, 32, 8, 0x200, 1, 0x0, .rw, (.const 0), .i, false, .any⟩,
    ⟨0x3130, 0, 32, 8, 0x200, 1, 0x0, .rw, (.const 0), .i, false, .any⟩,
    ⟨0x3134, 0, 32, 8, 0x200, 1, 0x0, .rw, (.const 0), .i, false, .any⟩,
    ⟨0x3140, 0, 10, 8, 0x200, 1, 0x0, .rw, (.const 0x64), (.d .c), false, (.upTo 1 1000 false)⟩,
    ⟨0x3140, 10, 10, 8, 0x200, 1, 0x0, .rw, (.const 0x1f4), (.d .c), false, (.upTo 10 1000 false)⟩,
    ⟨0x3140, 20, 10, 8, 0x200, 1, 0x0, .rw, (.const 0x1f4), (.d .c), false, (.upTo 10 1000 false)⟩,
    ⟨0x3144, 0, 16, 8, 0x200, 1, 0x0, .rw, (.const 0x1f4), (.d .c), false, (.upTo 0 2000 false)⟩,
    ⟨0x3144, 16, 16, 8, 0x200, 1, 0x0, .rw, (.const 0x64), (.d .c), false, (.upTo 0 1000 false)⟩,
    ⟨0x3148, 0, 1, 8, 0x200, 1, 0x0, .rw, (.const 0), .i, false, .any⟩,
    ⟨0x3148, 1, 1, 8, 0x200, 1, 0x0, .rw, (.const 0), (.d .c), false, .any⟩,
    ⟨0x3148, 2, 2, 8, 0x200, 1, 0x0, .rw, (.const 0), (.d .c), false, (.codes 0 1)⟩,
    ⟨0x3148, 8, 8, 8, 0x200, 1, 0x0, .rw, (.const 0x14), (.d .c), false, (.upTo 1 255 false)⟩,
    ⟨0x314c, 0, 16, 8, 0x200, 1, 0x0, .rw, (.const 0xbb8), (.d .c), false, (.upTo 0 6000 false)⟩,
    ⟨0x314c, 16, 16, 8, 0x200, 1, 0x0, .rw, (.const 0x28), (.d .c), false, (.upTo 10 500 false)⟩,
    ⟨0x3150, 0, 16, 8, 0x200, 1, 0x0, .rw, (.const 0x370), (.d .c), false, (.upTo 500 1000 false)⟩,
    ⟨0x3150, 16, 16, 8, 0x200, 1, 0x0, .rw, (.const 0x44c), (.d .c), false, (.upTo 1000 1300 false)⟩,
    ⟨0x3154, 0, 16, 8, 0x200, 1, 0x0, .rw, (.const 0x26ac), (.d .c), false, (.upTo 9000 10000 false)⟩,
    ⟨0x3154, 16, 16, 8, 0x200, 1, 0x0, .rw, (.const 0x2774), (.d .c), false, (.upTo 10000 11000 false)⟩ ]

/-- Field rows of block GFM (R56, R90), part 6. -/
def rowsGfm6 : List Row :=
  [ ⟨0x3158, 0, 2, 8, 0x200, 1, 0x0, .rw, (.const 0), (.d .c), false, (.codes 0 1)⟩,
    ⟨0x3158, 2, 1, 8, 0x200, 1, 0x0, .rw, (.const 0), .i, false, .any⟩,
    ⟨0x3158, 8, 6, 8, 0x200, 1, 0x0, .rw, (.const 0), (.d .c), false, .any⟩,
    ⟨0x3158, 16, 8, 8, 0x200, 1, 0x0, .rw, (.const 0x14), (.d .c), false, .any⟩,
    ⟨0x3180, 0, 3, 8, 0x200, 1, 0x0, .ro, (.const 0), .i, false, .any⟩,
    ⟨0x3180, 3, 1, 8, 0x200, 1, 0x0, .ro, (.const 0), .i, false, .any⟩,
    ⟨0x3180, 4, 1, 8, 0x200, 1, 0x0, .ro, (.const 0), .i, false, .any⟩,
    ⟨0x3180, 5, 1, 8, 0x200, 1, 0x0, .ro, (.const 0), .i, false, .any⟩,
    ⟨0x3180, 8, 1, 8, 0x200, 1, 0x0, .w1c, (.const 0), .i, false, .any⟩,
    ⟨0x3180, 9, 1, 8, 0x200, 1, 0x0, .w1c, (.const 0), .i, false, .any⟩,
    ⟨0x3180, 10, 1, 8, 0x200, 1, 0x0, .w1c, (.const 0), .i, false, .any⟩,
    ⟨0x3180, 11, 1, 8, 0x200, 1, 0x0, .w1c, (.const 0), .i, false, .any⟩,
    ⟨0x3180, 12, 1, 8, 0x200, 1, 0x0, .w1c, (.const 0), .i, false, .any⟩,
    ⟨0x3180, 13, 1, 8, 0x200, 1, 0x0, .w1c, (.const 0), .i, false, .any⟩,
    ⟨0x3180, 14, 1, 8, 0x200, 1, 0x0, .w1c, (.const 0), .i, false, .any⟩,
    ⟨0x3180, 15, 1, 8, 0x200, 1, 0x0, .w1c, (.const 0), .i, false, .any⟩,
    ⟨0x3180, 16, 1, 8, 0x200, 1, 0x0, .w1c, (.const 0), .i, false, .any⟩,
    ⟨0x3180, 17, 1, 8, 0x200, 1, 0x0, .w1c, (.const 0), .i, false, .any⟩,
    ⟨0x3180, 18, 1, 8, 0x200, 1, 0x0, .w1c, (.const 0), .i, false, .any⟩,
    ⟨0x3180, 19, 1, 8, 0x200, 1, 0x0, .w1c, (.const 0), .i, false, .any⟩ ]

/-- Field rows of block GFM (R56, R90), part 7. -/
def rowsGfm7 : List Row :=
  [ ⟨0x3184, 0, 16, 8, 0x200, 1, 0x0, .cnt, (.const 0), .i, false, .any⟩,
    ⟨0x3184, 16, 16, 8, 0x200, 1, 0x0, .cnt, (.const 0), .i, false, .any⟩,
    ⟨0x3188, 0, 32, 8, 0x200, 1, 0x0, .ro, (.const 0), .i, false, .any⟩,
    ⟨0x318c, 0, 32, 8, 0x200, 1, 0x0, .ro, (.const 0), .i, false, .any⟩,
    ⟨0x3190, 0, 32, 8, 0x200, 1, 0x0, .ro, (.const 0), .i, false, .any⟩,
    ⟨0x3194, 0, 32, 8, 0x200, 1, 0x0, .ro, (.const 0), .i, false, .any⟩,
    ⟨0x3198, 0, 4, 8, 0x200, 1, 0x0, .ro, (.const 0), .i, false, .any⟩,
    ⟨0x3198, 8, 8, 8, 0x200, 1, 0x0, .ro, (.const 0), .i, false, .any⟩,
    ⟨0x319c, 0, 32, 8, 0x200, 1, 0x0, .ro, (.const 0), .i, false, .any⟩,
    ⟨0x31a0, 0, 32, 8, 0x200, 1, 0x0, .ro, (.const 0), .i, false, .any⟩,
    ⟨0x31b0, 0, 32, 8, 0x200, 1, 0x0, .ro, (.const 0), .i, false, .any⟩,
    ⟨0x31b4, 0, 32, 8, 0x200, 1, 0x0, .ro, (.const 0), .i, false, .any⟩,
    ⟨0x31b8, 0, 32, 8, 0x200, 1, 0x0, .ro, (.const 0), .i, false, .any⟩,
    ⟨0x31bc, 0, 32, 8, 0x200, 1, 0x0, .ro, (.const 0), .i, false, .any⟩,
    ⟨0x31c0, 0, 32, 8, 0x200, 1, 0x0, .ro, (.const 0), .i, false, .any⟩,
    ⟨0x31c4, 0, 32, 8, 0x200, 1, 0x0, .ro, (.const 0), .i, false, .any⟩,
    ⟨0x31c8, 0, 32, 8, 0x200, 1, 0x0, .ro, (.const 0), .i, false, .any⟩,
    ⟨0x31cc, 0, 32, 8, 0x200, 1, 0x0, .ro, (.const 0), .i, false, .any⟩,
    ⟨0x31d0, 0, 32, 8, 0x200, 1, 0x0, .ro, (.const 0), .i, false, .any⟩ ]

/-- Every field row of block GFM (R56, R90). -/
def rowsGfm : List Row :=
  rowsGfm0 ++ rowsGfm1 ++ rowsGfm2 ++ rowsGfm3 ++ rowsGfm4 ++ rowsGfm5 ++ rowsGfm6 ++ rowsGfm7

/-- Field rows of block GRT (R129, R130), part 0. -/
def rowsGrt0 : List Row :=
  [ ⟨0x4000, 0, 1, 1, 0x0, 1, 0x0, .rw, (.const 1), (.d .c), false, .any⟩,
    ⟨0x4004, 0, 1, 1, 0x0, 1, 0x0, .w1c, (.const 0), .i, false, .any⟩,
    ⟨0x4004, 1, 1, 1, 0x0, 1, 0x0, .w1c, (.const 0), .i, false, .any⟩,
    ⟨0x4004, 2, 1, 1, 0x0, 1, 0x0, .w1c, (.const 0), .i, false, .any⟩,
    ⟨0x4008, 0, 32, 1, 0x0, 1, 0x0, .ro, (.const 0x10000000), .i, false, .any⟩,
    ⟨0x400c, 0, 16, 1, 0x0, 1, 0x0, .cnt, (.const 0), .i, false, .any⟩,
    ⟨0x400c, 16, 16, 1, 0x0, 1, 0x0, .cnt, (.const 0), .i, false, .any⟩,
    ⟨0x4010, 0, 32, 1, 0x0, 1, 0x0, .ro, (.const 0), .i, false, .any⟩,
    ⟨0x4014, 0, 5, 1, 0x0, 1, 0x0, .rw, (.const 0), (.d .c), false, .any⟩,
    ⟨0x4014, 8, 1, 1, 0x0, 1, 0x0, .rw, (.const 0), .i, false, .any⟩,
    ⟨0x4018, 0, 16, 1, 0x0, 1, 0x0, .cnt, (.const 0), .i, false, .any⟩,
    ⟨0x401c, 0, 7, 1, 0x0, 1, 0x0, .wo, (.const 0), .i, false, .any⟩,
    ⟨0x4040, 0, 20, 8, 0x4, 1, 0x0, .rw, (.const 0), (.d .c), false, (.upTo 400 1000000 true)⟩,
    ⟨0x4200, 0, 7, 32, 0x10, 4, 0x4, .rw, (.const 0), .i, false, .any⟩,
    ⟨0x4200, 7, 1, 32, 0x10, 4, 0x4, .rw, (.const 0), .i, false, .any⟩,
    ⟨0x4200, 8, 6, 32, 0x10, 4, 0x4, .rw, (.const 0), .i, false, (.codes 0 31)⟩,
    ⟨0x4200, 16, 8, 32, 0x10, 4, 0x4, .rw, (.const 0), .i, false, .any⟩,
    ⟨0x4200, 24, 1, 32, 0x10, 4, 0x4, .rw, (.const 0), .i, false, .any⟩,
    ⟨0x4400, 0, 5, 128, 0x10, 1, 0x0, .ro, (.const 0), .i, false, .any⟩,
    ⟨0x4400, 5, 2, 128, 0x10, 1, 0x0, .ro, (.const 0), .i, false, .any⟩ ]

/-- Field rows of block GRT (R129, R130), part 1. -/
def rowsGrt1 : List Row :=
  [ ⟨0x4400, 7, 2, 128, 0x10, 1, 0x0, .ro, (.const 0), .i, false, .any⟩,
    ⟨0x4400, 9, 9, 128, 0x10, 1, 0x0, .ro, (.const 0), .i, false, .any⟩,
    ⟨0x4400, 18, 9, 128, 0x10, 1, 0x0, .ro, (.const 0), .i, false, .any⟩,
    ⟨0x4400, 27, 3, 128, 0x10, 1, 0x0, .ro, (.const 0), .i, false, .any⟩,
    ⟨0x4400, 30, 1, 128, 0x10, 1, 0x0, .ro, (.const 0), .i, false, .any⟩,
    ⟨0x4400, 31, 1, 128, 0x10, 1, 0x0, .ro, (.const 0), .i, false, .any⟩,
    ⟨0x4404, 0, 1, 128, 0x10, 1, 0x0, .rw, (.const 0), .i, true, .any⟩,
    ⟨0x4404, 1, 1, 128, 0x10, 1, 0x0, .rw, (.const 0), (.d .c), false, .any⟩,
    ⟨0x4404, 4, 8, 128, 0x10, 1, 0x0, .rw, (.const 3), (.d .c), false, (.upTo 1 255 false)⟩,
    ⟨0x4404, 12, 20, 128, 0x10, 1, 0x0, .rw, (.const 0), (.d .c), true, .any⟩,
    ⟨0x4408, 0, 1, 128, 0x10, 1, 0x0, .ro, (.const 0), .i, false, .any⟩,
    ⟨0x4408, 1, 1, 128, 0x10, 1, 0x0, .ro, (.const 0), .i, false, .any⟩,
    ⟨0x4408, 2, 1, 128, 0x10, 1, 0x0, .ro, (.const 0), .i, false, .any⟩,
    ⟨0x4408, 8, 1, 128, 0x10, 1, 0x0, .w1c, (.const 0), .i, false, .any⟩,
    ⟨0x4408, 9, 1, 128, 0x10, 1, 0x0, .w1c, (.const 0), .i, false, .any⟩,
    ⟨0x4408, 10, 1, 128, 0x10, 1, 0x0, .w1c, (.const 0), .i, false, .any⟩,
    ⟨0x4408, 11, 1, 128, 0x10, 1, 0x0, .w1c, (.const 0), .i, false, .any⟩,
    ⟨0x4408, 12, 1, 128, 0x10, 1, 0x0, .w1c, (.const 0), .i, false, .any⟩,
    ⟨0x4408, 13, 1, 128, 0x10, 1, 0x0, .w1c, (.const 0), .i, false, .any⟩,
    ⟨0x4408, 14, 1, 128, 0x10, 1, 0x0, .w1c, (.const 0), .i, false, .any⟩ ]

/-- Field rows of block GRT (R129, R130), part 2. -/
def rowsGrt2 : List Row :=
  [ ⟨0x4408, 15, 1, 128, 0x10, 1, 0x0, .w1c, (.const 0), .i, false, .any⟩,
    ⟨0x4408, 16, 1, 128, 0x10, 1, 0x0, .w1c, (.const 0), .i, false, .any⟩,
    ⟨0x4408, 17, 1, 128, 0x10, 1, 0x0, .w1c, (.const 0), .i, false, .any⟩,
    ⟨0x4408, 24, 8, 128, 0x10, 1, 0x0, .ro, (.const 0), .i, false, .any⟩,
    ⟨0x440c, 0, 16, 128, 0x10, 1, 0x0, .cnt, (.const 0), .i, false, .any⟩,
    ⟨0x440c, 16, 16, 128, 0x10, 1, 0x0, .cnt, (.const 0), .i, false, .any⟩,
    ⟨0x4c00, 0, 10, 32, 0x4, 1, 0x0, .ro, (.const 0), .i, false, .any⟩,
    ⟨0x4c00, 10, 2, 32, 0x4, 1, 0x0, .ro, (.const 0), .i, false, .any⟩,
    ⟨0x4c00, 12, 1, 32, 0x4, 1, 0x0, .ro, (.const 1), .i, false, .any⟩,
    ⟨0x4c00, 13, 1, 32, 0x4, 1, 0x0, .w1c, (.const 0), .i, false, .any⟩,
    ⟨0x4c00, 14, 1, 32, 0x4, 1, 0x0, .w1c, (.const 0), .i, false, .any⟩,
    ⟨0x4c00, 24, 8, 32, 0x4, 1, 0x0, .ro, (.const 0x55), .i, false, .any⟩,
    ⟨0x4c80, 0, 16, 128, 0x4, 1, 0x0, .ro, (.const 0), .i, false, .any⟩,
    ⟨0x4c80, 16, 16, 128, 0x4, 1, 0x0, .ro, (.const 0), .i, false, .any⟩ ]

/-- Every field row of block GRT (R129, R130). -/
def rowsGrt : List Row :=
  rowsGrt0 ++ rowsGrt1 ++ rowsGrt2

end Sys2Proof.Machine
end

