-- ==== Sys2Proof/Machine/RegTableC.lean ====
section
/-!
DEFINITION. The field tables of the register blocks ADC to MEM: one row per field of the tables of the spec, in the order of its register index (R435).
-/

namespace Sys2Proof.Machine

/-- Field rows of block ADC (R210), part 0. -/
def rowsAdc0 : List Row :=
  [ ⟨0x5000, 0, 1, 1, 0x0, 1, 0x0, .rw, (.const 0), .i, false, .any⟩,
    ⟨0x5004, 0, 1, 1, 0x0, 1, 0x0, .w1c, (.const 0), .i, false, .any⟩,
    ⟨0x5004, 1, 1, 1, 0x0, 1, 0x0, .w1c, (.const 0), .i, false, .any⟩,
    ⟨0x5004, 2, 1, 1, 0x0, 1, 0x0, .w1c, (.const 0), .i, false, .any⟩,
    ⟨0x5004, 3, 1, 1, 0x0, 1, 0x0, .w1c, (.const 0), .i, false, .any⟩,
    ⟨0x5004, 4, 1, 1, 0x0, 1, 0x0, .w1c, (.const 0), .i, false, .any⟩,
    ⟨0x5004, 5, 1, 1, 0x0, 1, 0x0, .w1c, (.const 0), .i, false, .any⟩,
    ⟨0x5004, 6, 1, 1, 0x0, 1, 0x0, .w1c, (.const 0), .i, false, .any⟩,
    ⟨0x5004, 7, 1, 1, 0x0, 1, 0x0, .w1c, (.const 0), .i, false, .any⟩,
    ⟨0x5004, 8, 1, 1, 0x0, 1, 0x0, .w1c, (.const 0), .i, false, .any⟩,
    ⟨0x5004, 9, 1, 1, 0x0, 1, 0x0, .w1c, (.const 0), .i, false, .any⟩,
    ⟨0x5004, 10, 1, 1, 0x0, 1, 0x0, .w1c, (.const 0), .i, false, .any⟩,
    ⟨0x5004, 11, 1, 1, 0x0, 1, 0x0, .w1c, (.const 0), .i, false, .any⟩,
    ⟨0x5008, 0, 16, 1, 0x0, 1, 0x0, .cnt, (.const 0), .i, false, .any⟩,
    ⟨0x5008, 16, 16, 1, 0x0, 1, 0x0, .cnt, (.const 0), .i, false, .any⟩,
    ⟨0x500c, 0, 16, 1, 0x0, 1, 0x0, .cnt, (.const 0), .i, false, .any⟩,
    ⟨0x500c, 16, 16, 1, 0x0, 1, 0x0, .cnt, (.const 0), .i, false, .any⟩,
    ⟨0x5010, 0, 16, 1, 0x0, 1, 0x0, .cnt, (.const 0), .i, false, .any⟩,
    ⟨0x5014, 0, 32, 1, 0x0, 1, 0x0, .wo, (.const 0), .i, false, .any⟩,
    ⟨0x5018, 0, 4, 1, 0x0, 1, 0x0, .rw, (.const 0), (.d .a), false, (.codes 0 10)⟩ ]

/-- Field rows of block ADC (R210), part 1. -/
def rowsAdc1 : List Row :=
  [ ⟨0x5018, 16, 16, 1, 0x0, 1, 0x0, .rw, (.const 0x400), (.d .a), false, (.upTo 16 16384 false)⟩,
    ⟨0x5020, 0, 7, 1, 0x0, 1, 0x0, .rw, (.const 0), .i, false, .any⟩,
    ⟨0x5020, 7, 2, 1, 0x0, 1, 0x0, .rw, (.const 0), .i, false, (.codes 0 2)⟩,
    ⟨0x5020, 9, 3, 1, 0x0, 1, 0x0, .rw, (.const 0), .i, false, .any⟩,
    ⟨0x5020, 12, 1, 1, 0x0, 1, 0x0, .wo, (.const 0), .i, false, .any⟩,
    ⟨0x5024, 0, 32, 1, 0x0, 1, 0x0, .rw, (.const 0), .i, false, .any⟩,
    ⟨0x5028, 0, 32, 1, 0x0, 1, 0x0, .ro, (.const 0), .i, false, .any⟩,
    ⟨0x502c, 0, 32, 1, 0x0, 1, 0x0, .ro, (.const 0), .i, false, .any⟩,
    ⟨0x5030, 0, 2, 1, 0x0, 1, 0x0, .ro, (.const 0), .i, false, .any⟩,
    ⟨0x5030, 4, 4, 1, 0x0, 1, 0x0, .ro, (.const 0), .i, false, .any⟩,
    ⟨0x5040, 0, 7, 1, 0x0, 1, 0x0, .rw, (.const 0), .i, false, .any⟩,
    ⟨0x5040, 7, 1, 1, 0x0, 1, 0x0, .rw, (.const 0), .i, false, .any⟩,
    ⟨0x5040, 8, 7, 1, 0x0, 1, 0x0, .rw, (.const 0), .i, false, .any⟩,
    ⟨0x5040, 16, 4, 1, 0x0, 1, 0x0, .rw, (.const 0xa), .i, false, (.codes 8 15)⟩,
    ⟨0x5040, 20, 1, 1, 0x0, 1, 0x0, .wo, (.const 0), .i, false, .any⟩,
    ⟨0x5044, 0, 32, 1, 0x0, 1, 0x0, .ro, (.const 0), .i, false, .any⟩,
    ⟨0x5048, 0, 1, 1, 0x0, 1, 0x0, .ro, (.const 0), .i, false, .any⟩,
    ⟨0x5048, 1, 2, 1, 0x0, 1, 0x0, .ro, (.const 0), .i, false, .any⟩,
    ⟨0x5050, 0, 32, 4, 0x4, 1, 0x0, .rw, (.const 0), (.d .a), false, .any⟩,
    ⟨0x5060, 0, 32, 4, 0x4, 1, 0x0, .w1c, (.const 0), .i, false, .any⟩ ]

/-- Field rows of block ADC (R210), part 2. -/
def rowsAdc2 : List Row :=
  [ ⟨0x5070, 0, 32, 2, 0x4, 1, 0x0, .w1c, (.const 0), .i, false, .any⟩,
    ⟨0x5078, 0, 32, 2, 0x4, 1, 0x0, .ro, (.const 0), .i, false, .any⟩,
    ⟨0x5080, 0, 32, 1, 0x0, 1, 0x0, .w1c, (.const 0), .i, false, .any⟩,
    ⟨0x5084, 0, 32, 1, 0x0, 1, 0x0, .w1c, (.const 0), .i, false, .any⟩,
    ⟨0x5088, 0, 32, 1, 0x0, 1, 0x0, .w1c, (.const 0), .i, false, .any⟩,
    ⟨0x508c, 0, 32, 1, 0x0, 1, 0x0, .ro, (.const 0), .i, false, .any⟩,
    ⟨0x50c0, 0, 32, 16, 0x4, 1, 0x0, .w1c, (.const 0), .i, false, .any⟩,
    ⟨0x5200, 0, 16, 128, 0x4, 1, 0x0, .rw, (.const 0), (.d .a), false, .any⟩,
    ⟨0x5200, 16, 16, 128, 0x4, 1, 0x0, .rw, (.const 0), (.d .a), false, .any⟩,
    ⟨0x5800, 0, 16, 512, 0x4, 1, 0x0, .ro, (.const 0x8000), .i, false, .any⟩,
    ⟨0x5800, 16, 1, 512, 0x4, 1, 0x0, .ro, (.const 0), .i, false, .any⟩,
    ⟨0x5800, 17, 1, 512, 0x4, 1, 0x0, .ro, (.const 0), .i, false, .any⟩,
    ⟨0x5800, 18, 1, 512, 0x4, 1, 0x0, .ro, (.const 0), .i, false, .any⟩,
    ⟨0x5800, 19, 1, 512, 0x4, 1, 0x0, .ro, (.const 0), .i, false, .any⟩,
    ⟨0x5800, 20, 1, 512, 0x4, 1, 0x0, .ro, (.const 0), .i, false, .any⟩,
    ⟨0x5800, 24, 8, 512, 0x4, 1, 0x0, .ro, (.const 0), .i, false, .any⟩ ]

/-- Every field row of block ADC (R210). -/
def rowsAdc : List Row :=
  rowsAdc0 ++ rowsAdc1 ++ rowsAdc2

/-- Field rows of block PWM (R236), part 0. -/
def rowsPwm0 : List Row :=
  [ ⟨0x6000, 0, 1, 1, 0x0, 1, 0x0, .w1c, (.const 0), .i, false, .any⟩,
    ⟨0x6000, 1, 1, 1, 0x0, 1, 0x0, .w1c, (.const 0), .i, false, .any⟩,
    ⟨0x6000, 2, 1, 1, 0x0, 1, 0x0, .w1c, (.const 0), .i, false, .any⟩,
    ⟨0x6000, 3, 1, 1, 0x0, 1, 0x0, .w1c, (.const 0), .i, false, .any⟩,
    ⟨0x6008, 0, 32, 1, 0x0, 1, 0x0, .ro, (.const 0), .i, false, .any⟩,
    ⟨0x600c, 0, 32, 1, 0x0, 1, 0x0, .ro, (.const 0), .i, false, .any⟩,
    ⟨0x6010, 0, 32, 2, 0x4, 1, 0x0, .rw, (.const 0), .i, false, .any⟩,
    ⟨0x6100, 0, 1, 8, 0x20, 1, 0x0, .rw, (.const 0), (.d .pwm), false, .any⟩,
    ⟨0x6100, 1, 1, 8, 0x20, 1, 0x0, .rw, (.const 1), (.d .pwm), false, .any⟩,
    ⟨0x6100, 2, 2, 8, 0x20, 1, 0x0, .rw, (.const 0), (.d .pwm), true, (.codes 0 2)⟩,
    ⟨0x6104, 0, 18, 8, 0x20, 1, 0x0, .rw, (.const 0x3e8), (.d .pwm), false, (.upTo 1000 200000 false)⟩,
    ⟨0x6108, 0, 19, 8, 0x20, 1, 0x0, .rw, (.const 0), (.d .pwm), false, .any⟩,
    ⟨0x610c, 0, 16, 8, 0x20, 1, 0x0, .rw, (.const 0x500), (.d .pwm), false, (.upTo 128 6400 false)⟩,
    ⟨0x610c, 16, 16, 8, 0x20, 1, 0x0, .rw, (.const 0x500), (.d .pwm), false, (.upTo 128 6400 false)⟩,
    ⟨0x6110, 0, 16, 8, 0x20, 1, 0x0, .rw, (.const 0x200), (.d .pwm), false, (.upTo 128 12800 false)⟩,
    ⟨0x6114, 0, 16, 8, 0x20, 1, 0x0, .rw, (.const 0xa0), (.d .pwm), false, (.upTo 80 800 false)⟩,
    ⟨0x6114, 16, 16, 8, 0x20, 1, 0x0, .rw, (.const 0xc8), (.d .pwm), false, (.upTo 1 65535 false)⟩,
    ⟨0x6118, 0, 16, 8, 0x20, 1, 0x0, .cnt, (.const 0), .i, false, .any⟩,
    ⟨0x6118, 16, 16, 8, 0x20, 1, 0x0, .cnt, (.const 0), .i, false, .any⟩,
    ⟨0x6400, 0, 19, 64, 0x10, 1, 0x0, .rw, (.const 0), (.d .pwm), false, .any⟩ ]

/-- Field rows of block PWM (R236), part 1. -/
def rowsPwm1 : List Row :=
  [ ⟨0x6400, 19, 1, 64, 0x10, 1, 0x0, .rw, (.const 0), (.d .pwm), false, .any⟩,
    ⟨0x6400, 20, 1, 64, 0x10, 1, 0x0, .rw, (.const 0), (.d .pwm), false, .any⟩,
    ⟨0x6400, 21, 1, 64, 0x10, 1, 0x0, .rw, (.const 0), (.d .pwm), false, .any⟩,
    ⟨0x6404, 0, 32, 64, 0x10, 1, 0x0, .ro, (.const 0), .i, false, .any⟩,
    ⟨0x6408, 0, 2, 64, 0x10, 1, 0x0, .ro, (.const 0), .i, false, .any⟩,
    ⟨0x6408, 8, 1, 64, 0x10, 1, 0x0, .w1c, (.const 0), .i, false, .any⟩,
    ⟨0x6408, 9, 1, 64, 0x10, 1, 0x0, .w1c, (.const 0), .i, false, .any⟩,
    ⟨0x6408, 10, 1, 64, 0x10, 1, 0x0, .w1c, (.const 0), .i, false, .any⟩,
    ⟨0x6408, 11, 1, 64, 0x10, 1, 0x0, .w1c, (.const 0), .i, false, .any⟩,
    ⟨0x640c, 0, 32, 64, 0x10, 1, 0x0, .ro, (.const 0), .i, false, .any⟩ ]

/-- Every field row of block PWM (R236). -/
def rowsPwm : List Row :=
  rowsPwm0 ++ rowsPwm1

/-- Field rows of block DRV (R259), part 0. -/
def rowsDrv0 : List Row :=
  [ ⟨0x7000, 0, 4, 1, 0x0, 1, 0x0, .ro, (.const 0), .i, false, .any⟩,
    ⟨0x7000, 4, 4, 1, 0x0, 1, 0x0, .ro, (.const 0), .i, false, .any⟩,
    ⟨0x7000, 8, 1, 1, 0x0, 1, 0x0, .w1c, (.const 0), .i, false, .any⟩,
    ⟨0x7000, 9, 1, 1, 0x0, 1, 0x0, .w1c, (.const 0), .i, false, .any⟩,
    ⟨0x7000, 10, 1, 1, 0x0, 1, 0x0, .w1c, (.const 0), .i, false, .any⟩,
    ⟨0x7000, 11, 1, 1, 0x0, 1, 0x0, .w1c, (.const 0), .i, false, .any⟩,
    ⟨0x7000, 12, 1, 1, 0x0, 1, 0x0, .w1c, (.const 0), .i, false, .any⟩,
    ⟨0x7040, 0, 9, 4, 0x10, 1, 0x0, .rw, (.const 0x50), (.d .drv), false, (.upTo 20 320 false)⟩,
    ⟨0x7040, 9, 7, 4, 0x10, 1, 0x0, .rw, (.const 0xa), (.d .drv), false, (.upTo 1 100 false)⟩,
    ⟨0x7040, 16, 4, 4, 0x10, 1, 0x0, .rw, (.const 0), (.d .drv), false, .any⟩,
    ⟨0x7040, 20, 3, 4, 0x10, 1, 0x0, .rw, (.const 3), (.d .drv), false, (.codes 0 4)⟩,
    ⟨0x7040, 23, 3, 4, 0x10, 1, 0x0, .rw, (.const 2), (.d .drv), false, (.codes 1 7)⟩,
    ⟨0x7044, 0, 1, 4, 0x10, 1, 0x0, .ro, (.const 0), .i, false, .any⟩,
    ⟨0x7044, 1, 1, 4, 0x10, 1, 0x0, .ro, (.const 0), .i, false, .any⟩,
    ⟨0x7044, 2, 1, 4, 0x10, 1, 0x0, .ro, (.const 0), .i, false, .any⟩,
    ⟨0x7044, 3, 1, 4, 0x10, 1, 0x0, .ro, (.const 1), .i, false, .any⟩,
    ⟨0x7048, 0, 16, 4, 0x10, 1, 0x0, .cnt, (.const 0), .i, false, .any⟩,
    ⟨0x7048, 16, 16, 4, 0x10, 1, 0x0, .cnt, (.const 0), .i, false, .any⟩,
    ⟨0x7100, 0, 8, 64, 0x20, 1, 0x0, .rw, (.const 0x64), (.d .drv), false, (.upTo 20 250 false)⟩,
    ⟨0x7100, 8, 1, 64, 0x20, 1, 0x0, .rw, (.const 1), (.d .drv), false, .any⟩ ]

/-- Field rows of block DRV (R259), part 1. -/
def rowsDrv1 : List Row :=
  [ ⟨0x7100, 9, 1, 64, 0x20, 1, 0x0, .rw, (.const 0), (.d .drv), false, .any⟩,
    ⟨0x7100, 16, 7, 64, 0x20, 1, 0x0, .rw, (.const 0x28), (.d .drv), false, (.upTo 10 120 false)⟩,
    ⟨0x7104, 0, 16, 64, 0x20, 1, 0x0, .rw, (.const 0x7777), (.d .drv), false, .any⟩,
    ⟨0x7104, 16, 4, 64, 0x20, 1, 0x0, .rw, (.const 0), (.d .drv), false, .any⟩,
    ⟨0x7104, 20, 4, 64, 0x20, 1, 0x0, .rw, (.const 0xf), (.d .drv), false, .any⟩,
    ⟨0x7108, 0, 8, 64, 0x20, 1, 0x0, .rw, (.const 0xa), (.d .drv), false, (.upTo 2 148 false)⟩,
    ⟨0x7108, 8, 8, 64, 0x20, 1, 0x0, .rw, (.const 0x5a), (.d .drv), false, (.upTo 2 148 false)⟩,
    ⟨0x710c, 0, 16, 64, 0x20, 1, 0x0, .ro, (.const 0x7777), .i, false, .any⟩,
    ⟨0x7110, 0, 16, 64, 0x20, 1, 0x0, .ro, (.const 0), .i, false, .any⟩,
    ⟨0x7110, 16, 16, 64, 0x20, 1, 0x0, .ro, (.const 0), .i, false, .any⟩,
    ⟨0x7114, 0, 1, 64, 0x20, 1, 0x0, .ro, (.const 0), .i, false, .any⟩,
    ⟨0x7114, 1, 1, 64, 0x20, 1, 0x0, .ro, (.const 0), .i, false, .any⟩,
    ⟨0x7114, 2, 1, 64, 0x20, 1, 0x0, .ro, (.const 0), .i, false, .any⟩,
    ⟨0x7114, 3, 1, 64, 0x20, 1, 0x0, .ro, (.const 0), .i, false, .any⟩,
    ⟨0x7114, 4, 1, 64, 0x20, 1, 0x0, .ro, (.const 0), .i, false, .any⟩,
    ⟨0x7114, 5, 1, 64, 0x20, 1, 0x0, .ro, (.const 0), .i, false, .any⟩,
    ⟨0x7114, 8, 1, 64, 0x20, 1, 0x0, .w1c, (.const 0), .i, false, .any⟩,
    ⟨0x7114, 9, 1, 64, 0x20, 1, 0x0, .w1c, (.const 0), .i, false, .any⟩,
    ⟨0x7114, 10, 1, 64, 0x20, 1, 0x0, .w1c, (.const 0), .i, false, .any⟩,
    ⟨0x7114, 11, 1, 64, 0x20, 1, 0x0, .w1c, (.const 0), .i, false, .any⟩ ]

/-- Field rows of block DRV (R259), part 2. -/
def rowsDrv2 : List Row :=
  [ ⟨0x7118, 0, 16, 64, 0x20, 1, 0x0, .cnt, (.const 0), .i, false, .any⟩,
    ⟨0x7118, 16, 16, 64, 0x20, 1, 0x0, .cnt, (.const 0), .i, false, .any⟩ ]

/-- Every field row of block DRV (R259). -/
def rowsDrv : List Row :=
  rowsDrv0 ++ rowsDrv1 ++ rowsDrv2

/-- Field rows of block TRP (R237), part 0. -/
def rowsTrp0 : List Row :=
  [ ⟨0x8000, 0, 1, 1, 0x0, 1, 0x0, .w1c, (.const 0), .i, false, .any⟩,
    ⟨0x8000, 1, 1, 1, 0x0, 1, 0x0, .w1c, (.const 0), .i, false, .any⟩,
    ⟨0x8000, 2, 1, 1, 0x0, 1, 0x0, .w1c, (.const 0), .i, false, .any⟩,
    ⟨0x8004, 0, 16, 1, 0x0, 1, 0x0, .cnt, (.const 0), .i, false, .any⟩,
    ⟨0x8004, 16, 16, 1, 0x0, 1, 0x0, .cnt, (.const 0), .i, false, .any⟩,
    ⟨0x8008, 0, 7, 1, 0x0, 1, 0x0, .ro, (.const 0), .i, false, .any⟩,
    ⟨0x8008, 7, 1, 1, 0x0, 1, 0x0, .ro, (.const 0), .i, false, .any⟩,
    ⟨0x800c, 0, 32, 1, 0x0, 1, 0x0, .ro, (.const 0), .i, false, .any⟩,
    ⟨0x8010, 0, 32, 1, 0x0, 1, 0x0, .ro, (.const 0), .i, false, .any⟩,
    ⟨0x8014, 0, 4, 1, 0x0, 1, 0x0, .wo, (.const 0), .i, false, .any⟩,
    ⟨0x8020, 0, 32, 3, 0x4, 1, 0x0, .ro, (.const 0), .i, false, .any⟩,
    ⟨0x8030, 0, 32, 3, 0x4, 1, 0x0, .ro, (.const 0), .i, false, .any⟩,
    ⟨0x8040, 0, 32, 3, 0x4, 1, 0x0, .wo, (.const 0), .i, false, .any⟩,
    ⟨0x8050, 0, 32, 4, 0x4, 1, 0x0, .rw, (.const 0xffffffff), (.d .c), false, .any⟩,
    ⟨0x8060, 0, 32, 2, 0x4, 1, 0x0, .ro, (.const 0), .i, false, .any⟩ ]

/-- Every field row of block TRP (R237). -/
def rowsTrp : List Row :=
  rowsTrp0

/-- Field rows of block MEM (R312), part 0. -/
def rowsMem0 : List Row :=
  [ ⟨0x9000, 0, 1, 1, 0x0, 1, 0x0, .rw, (.const 1), (.d .m), false, .any⟩,
    ⟨0x9000, 1, 1, 1, 0x0, 1, 0x0, .rw, (.const 1), (.d .m), false, .any⟩,
    ⟨0x9000, 2, 1, 1, 0x0, 1, 0x0, .rw, (.const 1), (.d .m), false, .any⟩,
    ⟨0x9004, 0, 1, 1, 0x0, 1, 0x0, .ro, (.const 0), .i, false, .any⟩,
    ⟨0x9004, 1, 1, 1, 0x0, 1, 0x0, .ro, (.const 0), .i, false, .any⟩,
    ⟨0x9004, 2, 4, 1, 0x0, 1, 0x0, .ro, (.const 0), .i, false, .any⟩,
    ⟨0x9004, 6, 1, 1, 0x0, 1, 0x0, .ro, (.const 0), .i, false, .any⟩,
    ⟨0x9004, 8, 1, 1, 0x0, 1, 0x0, .w1c, (.const 0), .i, false, .any⟩,
    ⟨0x9004, 9, 1, 1, 0x0, 1, 0x0, .w1c, (.const 0), .i, false, .any⟩,
    ⟨0x9004, 10, 1, 1, 0x0, 1, 0x0, .w1c, (.const 0), .i, false, .any⟩,
    ⟨0x9004, 11, 1, 1, 0x0, 1, 0x0, .w1c, (.const 0), .i, false, .any⟩,
    ⟨0x9004, 12, 1, 1, 0x0, 1, 0x0, .w1c, (.const 0), .i, false, .any⟩,
    ⟨0x9004, 13, 1, 1, 0x0, 1, 0x0, .w1c, (.const 0), .i, false, .any⟩,
    ⟨0x9004, 14, 1, 1, 0x0, 1, 0x0, .w1c, (.const 0), .i, false, .any⟩,
    ⟨0x9004, 15, 1, 1, 0x0, 1, 0x0, .w1c, (.const 0), .i, false, .any⟩,
    ⟨0x9004, 16, 1, 1, 0x0, 1, 0x0, .w1c, (.const 0), .i, false, .any⟩,
    ⟨0x9008, 0, 32, 1, 0x0, 1, 0x0, .cnt, (.const 0), .i, false, .any⟩,
    ⟨0x900c, 0, 32, 1, 0x0, 1, 0x0, .cnt, (.const 0), .i, false, .any⟩,
    ⟨0x9010, 0, 16, 5, 0x4, 1, 0x0, .cnt, (.const 0), .i, false, .any⟩,
    ⟨0x9010, 16, 16, 5, 0x4, 1, 0x0, .cnt, (.const 0), .i, false, .any⟩ ]

/-- Field rows of block MEM (R312), part 1. -/
def rowsMem1 : List Row :=
  [ ⟨0x9024, 0, 32, 1, 0x0, 1, 0x0, .ro, (.const 0), .i, false, .any⟩,
    ⟨0x9030, 0, 16, 1, 0x0, 1, 0x0, .rw, (.const 0x1000), (.d .m), false, (.upTo 64 65535 false)⟩,
    ⟨0x9034, 0, 4, 1, 0x0, 1, 0x0, .rw, (.const 0), .i, false, (.codes 0 9)⟩,
    ⟨0x9034, 4, 1, 1, 0x0, 1, 0x0, .wo, (.const 0), .i, false, .any⟩,
    ⟨0x9034, 5, 1, 1, 0x0, 1, 0x0, .wo, (.const 0), .i, false, .any⟩,
    ⟨0x9040, 0, 8, 1, 0x0, 1, 0x0, .rw, (.const 0x18), (.d .m), false, (.upTo 1 168 false)⟩,
    ⟨0x9044, 6, 26, 1, 0x0, 1, 0x0, .ro, (.const 0), .i, false, .any⟩,
    ⟨0x9048, 0, 16, 1, 0x0, 1, 0x0, .cnt, (.const 0), .i, false, .any⟩,
    ⟨0x9050, 0, 19, 1, 0x0, 1, 0x0, .rw, (.const 0), .i, false, .any⟩,
    ⟨0x9050, 20, 1, 1, 0x0, 1, 0x0, .wo, (.const 0), .i, false, .any⟩,
    ⟨0x9050, 21, 1, 1, 0x0, 1, 0x0, .wo, (.const 0), .i, false, .any⟩,
    ⟨0x9054, 0, 8, 1, 0x0, 1, 0x0, .rw, (.const 4), (.d .m), false, (.upTo 1 128 false)⟩,
    ⟨0x9080, 0, 19, 16, 0x4, 1, 0x0, .ro, (.const 0), .i, false, .any⟩,
    ⟨0x9080, 30, 1, 16, 0x4, 1, 0x0, .ro, (.const 0), .i, false, .any⟩,
    ⟨0x9080, 31, 1, 16, 0x4, 1, 0x0, .ro, (.const 0), .i, false, .any⟩,
    ⟨0x90c0, 0, 32, 1, 0x0, 1, 0x0, .rw, (.const 0), .i, true, .any⟩,
    ⟨0x90c4, 0, 32, 1, 0x0, 1, 0x0, .rw, (.const 0), .i, true, .any⟩,
    ⟨0x90c8, 0, 16, 1, 0x0, 1, 0x0, .rw, (.const 0), .i, true, .any⟩,
    ⟨0x90cc, 0, 32, 1, 0x0, 1, 0x0, .rw, (.const 0x1000000), .i, true, .any⟩,
    ⟨0x90d0, 0, 1, 1, 0x0, 1, 0x0, .wo, (.const 0), .i, true, .any⟩ ]

/-- Field rows of block MEM (R312), part 2. -/
def rowsMem2 : List Row :=
  [ ⟨0x90e0, 0, 8, 1, 0x0, 1, 0x0, .ro, (.const 0), .i, false, .any⟩,
    ⟨0x90e0, 8, 8, 1, 0x0, 1, 0x0, .ro, (.const 0), .i, false, .any⟩,
    ⟨0x90e0, 16, 8, 1, 0x0, 1, 0x0, .ro, (.const 0), .i, false, .any⟩,
    ⟨0x90e4, 0, 8, 1, 0x0, 1, 0x0, .rw, (.const 0x40), (.d .m), false, (.upTo 8 64 false)⟩,
    ⟨0x90e4, 8, 8, 1, 0x0, 1, 0x0, .rw, (.const 0x10), (.d .m), false, (.upTo 4 16 false)⟩,
    ⟨0x90e8, 0, 16, 1, 0x0, 1, 0x0, .cnt, (.const 0), .i, false, .any⟩,
    ⟨0x90e8, 16, 16, 1, 0x0, 1, 0x0, .cnt, (.const 0), .i, false, .any⟩,
    ⟨0x90ec, 0, 7, 1, 0x0, 1, 0x0, .ro, (.const 0), .i, false, .any⟩ ]

/-- Every field row of block MEM (R312). -/
def rowsMem : List Row :=
  rowsMem0 ++ rowsMem1 ++ rowsMem2

end Sys2Proof.Machine
end

