-- ==== Sys2Proof/Machine/RegTableD.lean ====
section
/-!
DEFINITION. The field tables of the register blocks DMA to SEC: one row per field of the tables of the spec, in the order of its register index (R435).
-/

namespace Sys2Proof.Machine

/-- Field rows of block DMA (R312), part 0. -/
def rowsDma0 : List Row :=
  [ ⟨0xa000, 0, 32, 1, 0x0, 1, 0x0, .ro, (.const 0), .i, false, .any⟩,
    ⟨0xa004, 0, 32, 1, 0x0, 1, 0x0, .w1c, (.const 0), .i, false, .any⟩,
    ⟨0xa008, 0, 16, 1, 0x0, 1, 0x0, .cnt, (.const 0), .i, false, .any⟩,
    ⟨0xa020, 0, 4, 1, 0x0, 1, 0x0, .rw, (.const 0), .i, false, .any⟩,
    ⟨0xa020, 4, 5, 1, 0x0, 1, 0x0, .rw, (.const 0), .i, false, .any⟩,
    ⟨0xa024, 0, 32, 1, 0x0, 1, 0x0, .ro, (.const 0), .i, false, .any⟩,
    ⟨0xa028, 0, 32, 1, 0x0, 1, 0x0, .ro, (.const 0), .i, false, .any⟩,
    ⟨0xa02c, 0, 32, 1, 0x0, 1, 0x0, .ro, (.const 0), .i, false, .any⟩,
    ⟨0xa030, 0, 32, 1, 0x0, 1, 0x0, .ro, (.const 0), .i, false, .any⟩,
    ⟨0xa100, 0, 2, 32, 0x40, 1, 0x0, .ro, (.const 0), .i, false, .any⟩,
    ⟨0xa100, 2, 4, 32, 0x40, 1, 0x0, .ro, (.const 0), .i, false, .any⟩,
    ⟨0xa100, 6, 1, 32, 0x40, 1, 0x0, .ro, (.const 0), .i, false, .any⟩,
    ⟨0xa100, 8, 8, 32, 0x40, 1, 0x0, .ro, (.const 0), .i, false, .any⟩,
    ⟨0xa100, 16, 2, 32, 0x40, 1, 0x0, .ro, (.const 0), .i, false, .any⟩,
    ⟨0xa104, 0, 1, 32, 0x40, 1, 0x0, .wo, (.const 0), .i, false, .any⟩,
    ⟨0xa104, 1, 1, 32, 0x40, 1, 0x0, .wo, (.const 0), .i, false, .any⟩,
    ⟨0xa104, 2, 1, 32, 0x40, 1, 0x0, .rw, (.const 0), (.d .m), false, .any⟩,
    ⟨0xa104, 16, 16, 32, 0x40, 1, 0x0, .rw, (.const 0x32), (.d .m), false, (.upTo 1 65535 false)⟩,
    ⟨0xa108, 0, 2, 32, 0x40, 1, 0x0, .ro, (.const 0), .i, false, .any⟩,
    ⟨0xa108, 8, 1, 32, 0x40, 1, 0x0, .w1c, (.const 0), .i, false, .any⟩ ]

/-- Field rows of block DMA (R312), part 1. -/
def rowsDma1 : List Row :=
  [ ⟨0xa10c, 0, 32, 32, 0x40, 1, 0x0, .rw, (.const 0), (.d .m), false, (.steps 0 0xFFFFFFFF 64)⟩,
    ⟨0xa110, 0, 32, 32, 0x40, 1, 0x0, .rw, (.const 0x1000), (.d .m), false, (.steps 4096 268435456 4096)⟩,
    ⟨0xa114, 0, 32, 32, 0x40, 1, 0x0, .ro, (.const 0), .i, false, .any⟩,
    ⟨0xa118, 0, 32, 32, 0x40, 1, 0x0, .rw, (.const 0), .i, false, .any⟩,
    ⟨0xa11c, 0, 32, 32, 0x40, 1, 0x0, .rw, (.const 0), .i, false, .any⟩,
    ⟨0xa120, 0, 32, 32, 0x40, 1, 0x0, .ro, (.const 0), .i, false, .any⟩,
    ⟨0xa124, 0, 4, 32, 0x40, 1, 0x0, .ro, (.const 0), .i, false, .any⟩,
    ⟨0xa124, 4, 4, 32, 0x40, 1, 0x0, .ro, (.const 0), .i, false, .any⟩,
    ⟨0xa124, 8, 5, 32, 0x40, 1, 0x0, .ro, (.const 0), .i, false, .any⟩,
    ⟨0xa124, 16, 8, 32, 0x40, 1, 0x0, .ro, (.const 0xff), .i, false, .any⟩,
    ⟨0xa128, 0, 32, 32, 0x40, 1, 0x0, .ro, (.const 0), .i, false, .any⟩,
    ⟨0xa12c, 0, 32, 32, 0x40, 1, 0x0, .ro, (.const 0), .i, false, .any⟩,
    ⟨0xa130, 0, 16, 32, 0x40, 1, 0x0, .cnt, (.const 0), .i, false, .any⟩,
    ⟨0xa130, 16, 16, 32, 0x40, 1, 0x0, .cnt, (.const 0), .i, false, .any⟩,
    ⟨0xa134, 0, 16, 32, 0x40, 1, 0x0, .cnt, (.const 0), .i, false, .any⟩ ]

/-- Every field row of block DMA (R312). -/
def rowsDma : List Row :=
  rowsDma0 ++ rowsDma1

/-- Field rows of block CTR (R340), part 0. -/
def rowsCtr0 : List Row :=
  [ ⟨0xb000, 0, 1, 1, 0x0, 1, 0x0, .rw, (.const 0), .i, false, .any⟩,
    ⟨0xb000, 1, 5, 1, 0x0, 1, 0x0, .rw, (.const 0), (.d .c), false, .any⟩,
    ⟨0xb004, 0, 1, 1, 0x0, 1, 0x0, .w1c, (.const 0), .i, false, .any⟩,
    ⟨0xb004, 1, 1, 1, 0x0, 1, 0x0, .w1c, (.const 0), .i, false, .any⟩,
    ⟨0xb004, 2, 4, 1, 0x0, 1, 0x0, .w1c, (.const 0), .i, false, .any⟩,
    ⟨0xb008, 0, 20, 1, 0x0, 1, 0x0, .rw, (.const 0x3e8), (.d .c), false, (.upTo 10 1000000 false)⟩,
    ⟨0xb00c, 0, 16, 1, 0x0, 1, 0x0, .cnt, (.const 0), .i, false, .any⟩,
    ⟨0xb100, 0, 2, 32, 0x4, 1, 0x0, .rw, (.const 0), (.d .c), false, (.codes 0 1)⟩,
    ⟨0xb100, 2, 9, 32, 0x4, 1, 0x0, .rw, (.const 0), (.d .c), false, .any⟩,
    ⟨0xb100, 11, 5, 32, 0x4, 1, 0x0, .rw, (.const 0), (.d .c), false, .any⟩,
    ⟨0xb100, 16, 1, 32, 0x4, 1, 0x0, .rw, (.const 0), (.d .c), false, .any⟩,
    ⟨0xb100, 17, 1, 32, 0x4, 1, 0x0, .rw, (.const 0), (.d .c), false, .any⟩,
    ⟨0xb100, 18, 1, 32, 0x4, 1, 0x0, .rw, (.const 0), (.d .c), false, .any⟩,
    ⟨0xb100, 19, 1, 32, 0x4, 1, 0x0, .rw, (.const 0), (.d .c), false, .any⟩,
    ⟨0xb100, 20, 7, 32, 0x4, 1, 0x0, .rw, (.const 0), (.d .c), false, .any⟩,
    ⟨0xb200, 0, 1, 4, 0x40, 1, 0x0, .wo, (.const 0), .i, false, .any⟩,
    ⟨0xb200, 1, 1, 4, 0x40, 1, 0x0, .wo, (.const 0), .i, false, .any⟩,
    ⟨0xb200, 2, 1, 4, 0x40, 1, 0x0, .rw, (.const 0), (.d .c), false, .any⟩,
    ⟨0xb200, 3, 2, 4, 0x40, 1, 0x0, .rw, (.const 0), (.d .c), false, .any⟩,
    ⟨0xb204, 0, 2, 4, 0x40, 1, 0x0, .ro, (.const 0), .i, false, .any⟩ ]

/-- Field rows of block CTR (R340), part 1. -/
def rowsCtr1 : List Row :=
  [ ⟨0xb204, 2, 3, 4, 0x40, 1, 0x0, .ro, (.const 0), .i, false, .any⟩,
    ⟨0xb204, 8, 8, 4, 0x40, 1, 0x0, .ro, (.const 0), .i, false, .any⟩,
    ⟨0xb208, 0, 32, 4, 0x40, 1, 0x0, .ro, (.const 0), .i, false, .any⟩,
    ⟨0xb20c, 0, 32, 4, 0x40, 1, 0x0, .ro, (.const 0), .i, false, .any⟩,
    ⟨0xb210, 0, 5, 4, 0x40, 4, 0x8, .rw, (.const 0), (.d .c), false, .any⟩,
    ⟨0xb210, 5, 3, 4, 0x40, 4, 0x8, .rw, (.const 0), (.d .c), false, (.codes 0 6)⟩,
    ⟨0xb210, 8, 8, 4, 0x40, 4, 0x8, .rw, (.const 0), (.d .c), false, .any⟩,
    ⟨0xb210, 16, 16, 4, 0x40, 4, 0x8, .rw, (.const 0), (.d .c), false, .any⟩,
    ⟨0xb214, 0, 20, 4, 0x40, 4, 0x8, .rw, (.const 0), (.d .c), false, (.upTo 0 1000000 false)⟩,
    ⟨0xb214, 20, 2, 4, 0x40, 4, 0x8, .rw, (.const 0), (.d .c), false, (.codes 0 2)⟩,
    ⟨0xb400, 0, 32, 4, 0x40, 1, 0x0, .rw, (.const 0), (.d .c), false, .any⟩,
    ⟨0xb404, 0, 5, 4, 0x40, 1, 0x0, .rw, (.const 0), (.d .c), false, .any⟩,
    ⟨0xb404, 5, 5, 4, 0x40, 1, 0x0, .rw, (.const 0), (.d .c), false, .any⟩,
    ⟨0xb408, 0, 24, 4, 0x40, 1, 0x0, .rw, (.const 0), (.d .c), false, (.upTo 0 10000000 false)⟩,
    ⟨0xb40c, 0, 24, 4, 0x40, 1, 0x0, .rw, (.const 0x3e8), (.d .c), false, (.upTo 1 10000000 false)⟩,
    ⟨0xb410, 0, 32, 4, 0x40, 1, 0x0, .ro, (.const 0), .i, false, .any⟩,
    ⟨0xb414, 0, 24, 4, 0x40, 1, 0x0, .ro, (.const 0), .i, false, .any⟩,
    ⟨0xb414, 24, 8, 4, 0x40, 1, 0x0, .ro, (.const 0), .i, false, .any⟩,
    ⟨0xb418, 0, 32, 4, 0x40, 1, 0x0, .ro, (.const 0), .i, false, .any⟩,
    ⟨0xb41c, 0, 32, 4, 0x40, 1, 0x0, .ro, (.const 0), .i, false, .any⟩ ]

/-- Field rows of block CTR (R340), part 2. -/
def rowsCtr2 : List Row :=
  [ ⟨0xb420, 0, 32, 4, 0x40, 1, 0x0, .ro, (.const 0), .i, false, .any⟩,
    ⟨0xb424, 0, 32, 4, 0x40, 1, 0x0, .ro, (.const 0), .i, false, .any⟩,
    ⟨0xb428, 0, 16, 4, 0x40, 1, 0x0, .ro, (.const 0), .i, false, .any⟩,
    ⟨0xb42c, 0, 32, 4, 0x40, 1, 0x0, .ro, (.const 0), .i, false, .any⟩,
    ⟨0xb800, 0, 32, 32, 0x8, 1, 0x0, .ro, (.const 0x80000000), .i, false, .any⟩,
    ⟨0xb804, 0, 32, 32, 0x8, 1, 0x0, .ro, (.const 0x80000000), .i, false, .any⟩ ]

/-- Every field row of block CTR (R340). -/
def rowsCtr : List Row :=
  rowsCtr0 ++ rowsCtr1 ++ rowsCtr2

/-- Field rows of block SND and BRG (R341, R342), part 0. -/
def rowsSnd0 : List Row :=
  [ ⟨0xc000, 0, 1, 8, 0x100, 1, 0x0, .rw, (.const 0), (.d .c), false, .any⟩,
    ⟨0xc000, 4, 4, 8, 0x100, 1, 0x0, .rw, (.const 2), (.d .c), false, (.upTo 1 8 false)⟩,
    ⟨0xc000, 8, 10, 8, 0x100, 1, 0x0, .rw, (.const 0x3c), (.d .c), false, (.upTo 2 600 false)⟩,
    ⟨0xc000, 18, 3, 8, 0x100, 1, 0x0, .rw, (.const 1), (.d .c), false, (.upTo 0 4 false)⟩,
    ⟨0xc004, 0, 16, 8, 0x100, 1, 0x0, .rw, (.const 0x258), (.d .c), false, (.upTo 0 5000 false)⟩,
    ⟨0xc004, 16, 16, 8, 0x100, 1, 0x0, .rw, (.const 0x9c4), (.d .c), false, (.upTo 0 10000 false)⟩,
    ⟨0xc008, 0, 8, 8, 0x100, 1, 0x0, .rw, (.const 0xa), (.d .c), false, (.upTo 2 100 false)⟩,
    ⟨0xc00c, 0, 5, 8, 0x100, 1, 0x0, .rw, (.const 0), .i, false, .any⟩,
    ⟨0xc00c, 8, 5, 8, 0x100, 1, 0x0, .rw, (.const 0), .i, false, .any⟩,
    ⟨0xc00c, 16, 1, 8, 0x100, 1, 0x0, .wo, (.const 0), .i, false, .any⟩,
    ⟨0xc00c, 17, 1, 8, 0x100, 1, 0x0, .wo, (.const 0), .i, false, .any⟩,
    ⟨0xc010, 0, 12, 8, 0x100, 6, 0x4, .rw, (.perIndex [115, 285, 385, 515, 735, 1065]), (.d .c), false, (.upTo 20 2500 false)⟩,
    ⟨0xc010, 16, 8, 8, 0x100, 6, 0x4, .rw, (.const 0x1e), (.d .c), false, .any⟩,
    ⟨0xc030, 0, 3, 8, 0x100, 1, 0x0, .ro, (.const 0), .i, false, .any⟩,
    ⟨0xc030, 8, 1, 8, 0x100, 1, 0x0, .w1c, (.const 0), .i, false, .any⟩,
    ⟨0xc030, 9, 1, 8, 0x100, 1, 0x0, .w1c, (.const 0), .i, false, .any⟩,
    ⟨0xc030, 10, 1, 8, 0x100, 1, 0x0, .w1c, (.const 0), .i, false, .any⟩,
    ⟨0xc030, 11, 1, 8, 0x100, 1, 0x0, .w1c, (.const 0), .i, false, .any⟩,
    ⟨0xc034, 0, 16, 8, 0x100, 1, 0x0, .cnt, (.const 0), .i, false, .any⟩,
    ⟨0xc034, 16, 16, 8, 0x100, 1, 0x0, .cnt, (.const 0), .i, false, .any⟩ ]

/-- Field rows of block SND and BRG (R341, R342), part 1. -/
def rowsSnd1 : List Row :=
  [ ⟨0xc038, 0, 32, 8, 0x100, 1, 0x0, .ro, (.const 0), .i, false, .any⟩,
    ⟨0xc03c, 0, 32, 8, 0x100, 1, 0x0, .ro, (.const 0), .i, false, .any⟩,
    ⟨0xc040, 0, 32, 8, 0x100, 6, 0x10, .ro, (.const 0x80000000), .i, false, .any⟩,
    ⟨0xc044, 0, 32, 8, 0x100, 6, 0x10, .ro, (.const 0x80000000), .i, false, .any⟩,
    ⟨0xc048, 0, 32, 8, 0x100, 6, 0x10, .ro, (.const 0), .i, false, .any⟩,
    ⟨0xc0a0, 0, 32, 8, 0x100, 1, 0x0, .ro, (.const 0), .i, false, .any⟩,
    ⟨0xc0a4, 0, 32, 8, 0x100, 1, 0x0, .ro, (.const 0), .i, false, .any⟩,
    ⟨0xc0a8, 0, 32, 8, 0x100, 1, 0x0, .ro, (.const 0), .i, false, .any⟩,
    ⟨0xc0ac, 0, 32, 8, 0x100, 1, 0x0, .ro, (.const 0), .i, false, .any⟩,
    ⟨0xc800, 0, 8, 1, 0x0, 1, 0x0, .rw, (.const 0xe), (.d .k), false, (.upTo 8 200 false)⟩,
    ⟨0xc800, 8, 8, 1, 0x0, 1, 0x0, .rw, (.const 0x12), (.d .k), false, (.upTo 8 200 false)⟩,
    ⟨0xc800, 16, 8, 1, 0x0, 1, 0x0, .rw, (.const 0x32), (.d .k), false, (.upTo 1 50 false)⟩,
    ⟨0xc800, 24, 8, 1, 0x0, 1, 0x0, .rw, (.const 5), (.d .k), false, (.upTo 1 255 false)⟩,
    ⟨0xc900, 0, 1, 8, 0x40, 1, 0x0, .rw, (.const 0), (.d .k), false, .any⟩,
    ⟨0xc900, 1, 12, 8, 0x40, 1, 0x0, .rw, (.const 0), (.d .k), false, .any⟩,
    ⟨0xc900, 13, 12, 8, 0x40, 1, 0x0, .rw, (.const 0), (.d .k), false, .any⟩,
    ⟨0xc900, 25, 1, 8, 0x40, 1, 0x0, .rw, (.const 0), (.d .k), false, .any⟩,
    ⟨0xc904, 0, 8, 8, 0x40, 1, 0x0, .rw, (.const 0x80), (.d .k), false, .any⟩,
    ⟨0xc904, 8, 8, 8, 0x40, 1, 0x0, .rw, (.const 0), (.d .k), false, .any⟩,
    ⟨0xc904, 16, 10, 8, 0x40, 1, 0x0, .rw, (.const 0x3c), (.d .k), false, (.upTo 10 600 false)⟩ ]

/-- Field rows of block SND and BRG (R341, R342), part 2. -/
def rowsSnd2 : List Row :=
  [ ⟨0xc908, 0, 12, 8, 0x40, 1, 0x0, .rw, (.const 0), (.d .k), false, (.upTo 60 3600 true)⟩,
    ⟨0xc90c, 0, 12, 8, 0x40, 1, 0x0, .rw, (.const 0), .i, false, .any⟩,
    ⟨0xc90c, 12, 1, 8, 0x40, 1, 0x0, .rw, (.const 0), .i, false, .any⟩,
    ⟨0xc90c, 16, 4, 8, 0x40, 1, 0x0, .rw, (.const 0), .i, false, .any⟩,
    ⟨0xc910, 0, 32, 8, 0x40, 1, 0x0, .rw, (.const 0), .i, false, .any⟩,
    ⟨0xc914, 0, 1, 8, 0x40, 1, 0x0, .wo, (.const 0), .i, false, .any⟩,
    ⟨0xc914, 1, 1, 8, 0x40, 1, 0x0, .wo, (.const 0), .i, false, .any⟩,
    ⟨0xc918, 0, 2, 8, 0x40, 1, 0x0, .ro, (.const 0), .i, false, .any⟩,
    ⟨0xc918, 2, 1, 8, 0x40, 1, 0x0, .ro, (.const 0), .i, false, .any⟩,
    ⟨0xc918, 8, 1, 8, 0x40, 1, 0x0, .w1c, (.const 0), .i, false, .any⟩,
    ⟨0xc918, 9, 1, 8, 0x40, 1, 0x0, .w1c, (.const 0), .i, false, .any⟩,
    ⟨0xc918, 10, 1, 8, 0x40, 1, 0x0, .w1c, (.const 0), .i, false, .any⟩,
    ⟨0xc918, 11, 1, 8, 0x40, 1, 0x0, .w1c, (.const 0), .i, false, .any⟩,
    ⟨0xc918, 12, 1, 8, 0x40, 1, 0x0, .w1c, (.const 0), .i, false, .any⟩,
    ⟨0xc918, 13, 1, 8, 0x40, 1, 0x0, .w1c, (.const 0), .i, false, .any⟩,
    ⟨0xc91c, 0, 12, 8, 0x40, 1, 0x0, .ro, (.const 0), .i, false, .any⟩,
    ⟨0xc91c, 12, 1, 8, 0x40, 1, 0x0, .ro, (.const 0), .i, false, .any⟩,
    ⟨0xc91c, 13, 3, 8, 0x40, 1, 0x0, .ro, (.const 0), .i, false, .any⟩,
    ⟨0xc91c, 16, 4, 8, 0x40, 1, 0x0, .ro, (.const 0), .i, false, .any⟩,
    ⟨0xc920, 0, 32, 8, 0x40, 1, 0x0, .ro, (.const 0), .i, false, .any⟩ ]

/-- Field rows of block SND and BRG (R341, R342), part 3. -/
def rowsSnd3 : List Row :=
  [ ⟨0xc924, 0, 32, 8, 0x40, 1, 0x0, .ro, (.const 0), .i, false, .any⟩,
    ⟨0xc928, 0, 32, 8, 0x40, 1, 0x0, .ro, (.const 0), .i, false, .any⟩,
    ⟨0xc92c, 0, 16, 8, 0x40, 1, 0x0, .cnt, (.const 0), .i, false, .any⟩,
    ⟨0xc92c, 16, 16, 8, 0x40, 1, 0x0, .cnt, (.const 0), .i, false, .any⟩,
    ⟨0xc930, 0, 16, 8, 0x40, 1, 0x0, .cnt, (.const 0), .i, false, .any⟩,
    ⟨0xc930, 16, 16, 8, 0x40, 1, 0x0, .cnt, (.const 0), .i, false, .any⟩,
    ⟨0xc934, 0, 16, 8, 0x40, 1, 0x0, .cnt, (.const 0), .i, false, .any⟩ ]

/-- Every field row of block SND and BRG (R341, R342). -/
def rowsSnd : List Row :=
  rowsSnd0 ++ rowsSnd1 ++ rowsSnd2 ++ rowsSnd3

/-- Field rows of block TWN (R363), part 0. -/
def rowsTwn0 : List Row :=
  [ ⟨0xd000, 0, 1, 1, 0x0, 1, 0x0, .rw, (.const 0), (.d .t), false, .any⟩,
    ⟨0xd000, 8, 1, 1, 0x0, 1, 0x0, .wo, (.const 0), .i, false, .any⟩,
    ⟨0xd004, 0, 2, 1, 0x0, 1, 0x0, .ro, (.const 0), .i, false, .any⟩,
    ⟨0xd004, 2, 1, 1, 0x0, 1, 0x0, .ro, (.const 0), .i, false, .any⟩,
    ⟨0xd004, 3, 1, 1, 0x0, 1, 0x0, .ro, (.const 0), .i, false, .any⟩,
    ⟨0xd004, 4, 1, 1, 0x0, 1, 0x0, .ro, (.const 0), .i, false, .any⟩,
    ⟨0xd004, 5, 1, 1, 0x0, 1, 0x0, .ro, (.const 0), .i, false, .any⟩,
    ⟨0xd004, 6, 1, 1, 0x0, 1, 0x0, .ro, (.const 0), .i, false, .any⟩,
    ⟨0xd004, 7, 1, 1, 0x0, 1, 0x0, .ro, (.const 0), .i, false, .any⟩,
    ⟨0xd004, 8, 4, 1, 0x0, 1, 0x0, .ro, (.const 1), .i, false, .any⟩,
    ⟨0xd004, 16, 1, 1, 0x0, 1, 0x0, .w1c, (.const 0), .i, false, .any⟩,
    ⟨0xd004, 17, 1, 1, 0x0, 1, 0x0, .w1c, (.const 0), .i, false, .any⟩,
    ⟨0xd004, 18, 1, 1, 0x0, 1, 0x0, .w1c, (.const 0), .i, false, .any⟩,
    ⟨0xd004, 19, 1, 1, 0x0, 1, 0x0, .w1c, (.const 0), .i, false, .any⟩,
    ⟨0xd004, 20, 1, 1, 0x0, 1, 0x0, .w1c, (.const 0), .i, false, .any⟩,
    ⟨0xd004, 21, 1, 1, 0x0, 1, 0x0, .w1c, (.const 0), .i, false, .any⟩,
    ⟨0xd004, 22, 1, 1, 0x0, 1, 0x0, .w1c, (.const 0), .i, false, .any⟩,
    ⟨0xd004, 23, 1, 1, 0x0, 1, 0x0, .w1c, (.const 0), .i, false, .any⟩,
    ⟨0xd008, 0, 6, 1, 0x0, 1, 0x0, .rw, (.const 3), (.d .t), false, (.upTo 2 40 false)⟩,
    ⟨0xd008, 8, 6, 1, 0x0, 1, 0x0, .rw, (.const 8), (.d .t), false, (.upTo 1 63 false)⟩ ]

/-- Field rows of block TWN (R363), part 1. -/
def rowsTwn1 : List Row :=
  [ ⟨0xd008, 16, 12, 1, 0x0, 1, 0x0, .rw, (.const 0x29), (.d .t), false, (.upTo 1 4095 false)⟩,
    ⟨0xd00c, 0, 8, 1, 0x0, 1, 0x0, .rw, (.const 2), (.d .t), false, (.upTo 1 100 false)⟩,
    ⟨0xd00c, 8, 16, 1, 0x0, 1, 0x0, .rw, (.const 0x7d0), (.d .t), false, (.upTo 100 10000 false)⟩,
    ⟨0xd010, 0, 16, 1, 0x0, 1, 0x0, .cnt, (.const 0), .i, false, .any⟩,
    ⟨0xd010, 16, 16, 1, 0x0, 1, 0x0, .cnt, (.const 0), .i, false, .any⟩,
    ⟨0xd014, 0, 16, 1, 0x0, 1, 0x0, .cnt, (.const 0), .i, false, .any⟩,
    ⟨0xd014, 16, 16, 1, 0x0, 1, 0x0, .cnt, (.const 0), .i, false, .any⟩,
    ⟨0xd018, 0, 32, 1, 0x0, 1, 0x0, .ro, (.const 0), .i, false, .any⟩,
    ⟨0xd01c, 0, 32, 1, 0x0, 1, 0x0, .ro, (.const 0), .i, false, .any⟩,
    ⟨0xd020, 0, 5, 1, 0x0, 1, 0x0, .ro, (.const 0), .i, false, .any⟩,
    ⟨0xd020, 16, 16, 1, 0x0, 1, 0x0, .ro, (.const 0), .i, false, .any⟩,
    ⟨0xd024, 0, 32, 1, 0x0, 1, 0x0, .ro, (.const 0), .i, false, .any⟩,
    ⟨0xd028, 0, 32, 1, 0x0, 1, 0x0, .ro, (.const 0), .i, false, .any⟩ ]

/-- Every field row of block TWN (R363). -/
def rowsTwn : List Row :=
  rowsTwn0 ++ rowsTwn1

/-- Field rows of block SDC (R380), part 0. -/
def rowsSdc0 : List Row :=
  [ ⟨0xe000, 0, 1, 1, 0x0, 1, 0x0, .wo, (.const 0), .i, false, .any⟩,
    ⟨0xe004, 0, 3, 1, 0x0, 1, 0x0, .ro, (.const 0), .i, false, .any⟩,
    ⟨0xe004, 3, 1, 1, 0x0, 1, 0x0, .ro, (.const 0), .i, false, .any⟩,
    ⟨0xe004, 4, 1, 1, 0x0, 1, 0x0, .ro, (.const 0), .i, false, .any⟩,
    ⟨0xe004, 5, 1, 1, 0x0, 1, 0x0, .ro, (.const 0), .i, false, .any⟩,
    ⟨0xe004, 6, 1, 1, 0x0, 1, 0x0, .ro, (.const 0), .i, false, .any⟩,
    ⟨0xe004, 8, 1, 1, 0x0, 1, 0x0, .w1c, (.const 0), .i, false, .any⟩,
    ⟨0xe004, 9, 1, 1, 0x0, 1, 0x0, .w1c, (.const 0), .i, false, .any⟩,
    ⟨0xe004, 10, 1, 1, 0x0, 1, 0x0, .w1c, (.const 0), .i, false, .any⟩,
    ⟨0xe004, 11, 1, 1, 0x0, 1, 0x0, .w1c, (.const 0), .i, false, .any⟩,
    ⟨0xe008, 0, 1, 1, 0x0, 1, 0x0, .ro, (.const 0), .i, false, .any⟩,
    ⟨0xe008, 1, 1, 1, 0x0, 1, 0x0, .ro, (.const 0), .i, false, .any⟩,
    ⟨0xe008, 2, 1, 1, 0x0, 1, 0x0, .ro, (.const 0), .i, false, .any⟩,
    ⟨0xe008, 3, 1, 1, 0x0, 1, 0x0, .ro, (.const 0), .i, false, .any⟩,
    ⟨0xe008, 4, 1, 1, 0x0, 1, 0x0, .ro, (.const 0), .i, false, .any⟩,
    ⟨0xe008, 5, 1, 1, 0x0, 1, 0x0, .ro, (.const 0), .i, false, .any⟩,
    ⟨0xe008, 6, 1, 1, 0x0, 1, 0x0, .ro, (.const 0), .i, false, .any⟩,
    ⟨0xe008, 7, 1, 1, 0x0, 1, 0x0, .ro, (.const 0), .i, false, .any⟩,
    ⟨0xe008, 8, 4, 1, 0x0, 1, 0x0, .ro, (.const 0xf), .i, false, .any⟩,
    ⟨0xe00c, 0, 16, 1, 0x0, 1, 0x0, .cnt, (.const 0), .i, false, .any⟩ ]

/-- Field rows of block SDC (R380), part 1. -/
def rowsSdc1 : List Row :=
  [ ⟨0xe010, 0, 16, 1, 0x0, 1, 0x0, .cnt, (.const 0), .i, false, .any⟩,
    ⟨0xe010, 16, 16, 1, 0x0, 1, 0x0, .cnt, (.const 0), .i, false, .any⟩,
    ⟨0xe014, 0, 32, 1, 0x0, 1, 0x0, .ro, (.const 0), .i, false, .any⟩,
    ⟨0xe018, 0, 32, 1, 0x0, 1, 0x0, .ro, (.const 0), .i, false, .any⟩,
    ⟨0xe01c, 0, 32, 1, 0x0, 1, 0x0, .ro, (.const 0), .i, false, .any⟩,
    ⟨0xe020, 0, 32, 1, 0x0, 1, 0x0, .ro, (.const 0), .i, false, .any⟩,
    ⟨0xe024, 0, 16, 1, 0x0, 1, 0x0, .ro, (.const 0), .i, false, .any⟩,
    ⟨0xe024, 16, 16, 1, 0x0, 1, 0x0, .ro, (.const 0), .i, false, .any⟩,
    ⟨0xe028, 0, 16, 1, 0x0, 1, 0x0, .ro, (.const 0), .i, false, .any⟩,
    ⟨0xe028, 16, 16, 1, 0x0, 1, 0x0, .ro, (.const 0), .i, false, .any⟩,
    ⟨0xe02c, 0, 16, 1, 0x0, 1, 0x0, .ro, (.const 0), .i, false, .any⟩,
    ⟨0xe02c, 16, 1, 1, 0x0, 1, 0x0, .ro, (.const 0), .i, false, .any⟩,
    ⟨0xe02c, 17, 1, 1, 0x0, 1, 0x0, .ro, (.const 0), .i, false, .any⟩,
    ⟨0xe030, 0, 16, 1, 0x0, 1, 0x0, .ro, (.const 0), .i, false, .any⟩,
    ⟨0xe034, 0, 32, 1, 0x0, 1, 0x0, .cnt, (.const 0), .i, false, .any⟩ ]

/-- Every field row of block SDC (R380). -/
def rowsSdc : List Row :=
  rowsSdc0 ++ rowsSdc1

/-- Field rows of block SEC (R403), part 0. -/
def rowsSec0 : List Row :=
  [ ⟨0xf000, 0, 1, 1, 0x0, 1, 0x0, .ro, (.const 0), .i, false, .any⟩,
    ⟨0xf000, 1, 1, 1, 0x0, 1, 0x0, .ro, (.const 0), .i, false, .any⟩,
    ⟨0xf000, 2, 1, 1, 0x0, 1, 0x0, .ro, (.const 0), .i, false, .any⟩,
    ⟨0xf000, 3, 1, 1, 0x0, 1, 0x0, .ro, (.const 0), .i, false, .any⟩,
    ⟨0xf000, 4, 1, 1, 0x0, 1, 0x0, .ro, (.const 0), .i, false, .any⟩,
    ⟨0xf000, 5, 1, 1, 0x0, 1, 0x0, .ro, (.const 0), .i, false, .any⟩,
    ⟨0xf000, 8, 1, 1, 0x0, 1, 0x0, .w1c, (.const 0), .i, false, .any⟩,
    ⟨0xf000, 9, 1, 1, 0x0, 1, 0x0, .w1c, (.const 0), .i, false, .any⟩,
    ⟨0xf000, 10, 1, 1, 0x0, 1, 0x0, .w1c, (.const 0), .i, false, .any⟩,
    ⟨0xf000, 11, 1, 1, 0x0, 1, 0x0, .w1c, (.const 0), .i, false, .any⟩,
    ⟨0xf000, 12, 1, 1, 0x0, 1, 0x0, .w1c, (.const 0), .i, false, .any⟩,
    ⟨0xf000, 13, 1, 1, 0x0, 1, 0x0, .w1c, (.const 0), .i, false, .any⟩,
    ⟨0xf004, 0, 8, 1, 0x0, 1, 0x0, .ro, (.const 0), .i, false, .any⟩,
    ⟨0xf004, 8, 7, 1, 0x0, 1, 0x0, .ro, (.const 0), .i, false, .any⟩,
    ⟨0xf004, 16, 7, 1, 0x0, 1, 0x0, .ro, (.const 0), .i, false, .any⟩,
    ⟨0xf004, 24, 6, 1, 0x0, 1, 0x0, .ro, (.const 0), .i, false, .any⟩,
    ⟨0xf008, 0, 15, 1, 0x0, 1, 0x0, .ro, (.const 0), .i, false, .any⟩,
    ⟨0xf008, 16, 16, 1, 0x0, 1, 0x0, .ro, (.const 0), .i, false, .any⟩,
    ⟨0xf010, 0, 32, 8, 0x4, 1, 0x0, .ro, .random, .i, false, .any⟩,
    ⟨0xf030, 0, 32, 1, 0x0, 1, 0x0, .rw, (.const 0x1000000), .i, false, .any⟩ ]

/-- Field rows of block SEC (R403), part 1. -/
def rowsSec1 : List Row :=
  [ ⟨0xf034, 0, 1, 1, 0x0, 1, 0x0, .wo, (.const 0), .i, false, .any⟩,
    ⟨0xf038, 0, 8, 1, 0x0, 1, 0x0, .ro, (.const 0), .i, false, .any⟩,
    ⟨0xf038, 8, 1, 1, 0x0, 1, 0x0, .ro, (.const 0), .i, false, .any⟩,
    ⟨0xf040, 0, 32, 1, 0x0, 1, 0x0, .rw, (.const 0x1000000), .i, false, .any⟩,
    ⟨0xf044, 0, 1, 1, 0x0, 1, 0x0, .wo, (.const 0), .i, false, .any⟩,
    ⟨0xf048, 0, 8, 1, 0x0, 1, 0x0, .ro, (.const 0), .i, false, .any⟩,
    ⟨0xf048, 8, 1, 1, 0x0, 1, 0x0, .ro, (.const 0), .i, false, .any⟩,
    ⟨0xf04c, 0, 16, 1, 0x0, 1, 0x0, .ro, (.const 0), .i, false, .any⟩,
    ⟨0xf04c, 16, 16, 1, 0x0, 1, 0x0, .ro, (.const 0), .i, false, .any⟩,
    ⟨0xf050, 0, 16, 1, 0x0, 1, 0x0, .ro, .perPart, .i, false, .any⟩,
    ⟨0xf060, 0, 32, 8, 0x4, 1, 0x0, .rw, (.const 0), .i, false, .any⟩,
    ⟨0xf080, 0, 32, 1, 0x0, 1, 0x0, .rw, (.const 0x1000000), .i, false, .any⟩,
    ⟨0xf084, 0, 1, 1, 0x0, 1, 0x0, .wo, (.const 0), .i, false, .any⟩,
    ⟨0xf0a0, 0, 32, 1, 0x0, 1, 0x0, .ro, (.const 0), .i, false, .any⟩,
    ⟨0xf0a4, 0, 32, 1, 0x0, 1, 0x0, .ro, (.const 0), .i, false, .any⟩,
    ⟨0xf0a8, 0, 32, 1, 0x0, 1, 0x0, .rw, (.const 0), .i, false, .any⟩,
    ⟨0xf0ac, 0, 32, 1, 0x0, 1, 0x0, .rw, (.const 0), .i, false, .any⟩,
    ⟨0xf0b0, 0, 1, 1, 0x0, 1, 0x0, .wo, (.const 0), .i, false, .any⟩,
    ⟨0xf0b4, 0, 8, 1, 0x0, 1, 0x0, .rw, (.const 0), .i, false, .any⟩,
    ⟨0xf0c0, 0, 16, 1, 0x0, 1, 0x0, .rw, (.const 0), .i, false, .any⟩ ]

/-- Field rows of block SEC (R403), part 2. -/
def rowsSec2 : List Row :=
  [ ⟨0xf0c4, 0, 4, 1, 0x0, 1, 0x0, .ro, (.const 0), .i, false, .any⟩,
    ⟨0xf0c8, 0, 32, 1, 0x0, 1, 0x0, .ro, (.const 0), .i, false, .any⟩,
    ⟨0xf0d0, 0, 5, 1, 0x0, 1, 0x0, .rw, (.const 0), .i, false, .any⟩,
    ⟨0xf0d4, 0, 32, 1, 0x0, 1, 0x0, .ro, (.const 0), .i, false, .any⟩,
    ⟨0xf0d8, 0, 32, 1, 0x0, 1, 0x0, .ro, (.const 0), .i, false, .any⟩,
    ⟨0xf0dc, 0, 32, 1, 0x0, 1, 0x0, .ro, (.const 0), .i, false, .any⟩,
    ⟨0xf100, 0, 8, 1, 0x0, 1, 0x0, .rw, (.const 0), (.d .c), false, .any⟩,
    ⟨0xf100, 8, 5, 1, 0x0, 1, 0x0, .rw, (.const 0x18), (.d .k), false, (.upTo 1 24 false)⟩,
    ⟨0xf104, 0, 32, 1, 0x0, 1, 0x0, .rw, (.const 0x1000000), (.d .k), false, .any⟩,
    ⟨0xf108, 0, 1, 1, 0x0, 1, 0x0, .wo, (.const 0), .i, false, .any⟩,
    ⟨0xf10c, 0, 32, 1, 0x0, 1, 0x0, .ro, (.const 0), .i, false, .any⟩,
    ⟨0xf110, 0, 32, 1, 0x0, 1, 0x0, .ro, (.const 0), .i, false, .any⟩,
    ⟨0xf200, 0, 32, 8, 0x40, 1, 0x0, .ro, (.const 0), .i, false, .any⟩,
    ⟨0xf204, 0, 32, 8, 0x40, 1, 0x0, .ro, (.const 0), .i, false, .any⟩,
    ⟨0xf208, 0, 32, 8, 0x40, 1, 0x0, .ro, (.const 0), .i, false, .any⟩,
    ⟨0xf20c, 0, 32, 8, 0x40, 1, 0x0, .ro, (.const 0), .i, false, .any⟩,
    ⟨0xf210, 0, 32, 8, 0x40, 1, 0x0, .ro, (.const 0), .i, false, .any⟩,
    ⟨0xf214, 0, 32, 8, 0x40, 1, 0x0, .ro, (.const 0), .i, false, .any⟩,
    ⟨0xf218, 0, 32, 8, 0x40, 1, 0x0, .ro, (.const 0), .i, false, .any⟩,
    ⟨0xf21c, 0, 32, 8, 0x40, 1, 0x0, .ro, (.const 0), .i, false, .any⟩ ]

/-- Field rows of block SEC (R403), part 3. -/
def rowsSec3 : List Row :=
  [ ⟨0xf220, 0, 32, 8, 0x40, 1, 0x0, .ro, (.const 0), .i, false, .any⟩,
    ⟨0xf224, 0, 32, 8, 0x40, 1, 0x0, .ro, (.const 0), .i, false, .any⟩,
    ⟨0xf228, 0, 32, 8, 0x40, 1, 0x0, .ro, (.const 0), .i, false, .any⟩ ]

/-- Every field row of block SEC (R403). -/
def rowsSec : List Row :=
  rowsSec0 ++ rowsSec1 ++ rowsSec2 ++ rowsSec3

end Sys2Proof.Machine
end

