-- ==== Sys2Proof/Machine/Types.lean ====
section
/-!
DEFINITION. The records that the state is made of: the content of an Atlas image, and what each group, context and cell
holds while it runs.
-/

namespace Sys2Proof.Machine

/-- A group record of the GROUP sheet (R137). `typ`: 0 3P3W, 1 3P4W, 2 1P, 3 DC. 0xFFFF means no entry. -/
structure GroupRec where
  group : Nat := 0
  typ : Nat := 3
  nPar : Nat := 1
  vtA : Nat := 0xFFFF
  vtB : Nat := 0xFFFF
  vtC : Nat := 0xFFFF
  vgA : Nat := 0xFFFF
  vgB : Nat := 0xFFFF
  vgC : Nat := 0xFFFF
  ioA : Nat := 0xFFFF
  ioB : Nat := 0xFFFF
  ioC : Nat := 0xFFFF
  vdc : Nat := 0xFFFF
  deriving DecidableEq, Repr

/-- A leg record of the GROUP sheet (R138). -/
structure LegRec where
  leg : Nat := 0
  logic : Bool := false
  cgrp : Nat := 0
  used : Bool := false
  group : Nat := 0
  phase : Nat := 0
  deriving DecidableEq, Repr

/-- A context entry of the CONTEXT sheet (R139). -/
structure CtxRec where
  ctx : Nat := 0
  cfg : Nat := 0
  ctrl : Nat := 0
  stateBase : Nat := 0
  stateLen : Nat := 0
  carryFrom : Nat := 0
  carry : Bool := false
  deriving DecidableEq, Repr

/-- A binding record of the CONTEXT sheet (R140). -/
structure BindRec where
  name : Nat := 0
  group : Nat := 0
  leg : Nat := 0
  cell : Nat := 0
  word : Nat := 0
  deriving DecidableEq, Repr

/-- A PROGRAM, COEF or STATE_INIT sheet of a cell (R141); `cfmap` is used by PROGRAM alone. -/
structure CellSheet where
  cell : Nat := 0
  cfmap : Nat := 0x55
  words : List Nat := []
  deriving DecidableEq, Repr

/-- A routing record (R142). -/
structure RouteRec where
  srcKind : Nat := 0
  srcId : Nat := 0
  srcPort : Nat := 0
  dstKind : Nat := 3
  dstId : Nat := 0
  dstPort : Nat := 0
  regAddr : Nat := 0
  deriving DecidableEq, Repr

/-- The check state of one word of cell memory (R94): sound, with a single-bit error, or uncorrectable. Log 110 (DESIGN CHOICE). -/
inductive Ecc | ok | single | bad
  deriving DecidableEq, Repr

/-- One word of cell memory with its check state (R94). Log 110 (DESIGN CHOICE). -/
structure MWord where
  val : Nat := 0
  ecc : Ecc := .ok
  deriving DecidableEq, Repr

/-- A 72-bit accumulator in Q15.56 with its NaV flag (R97). -/
structure Acc where
  val : Int := 0
  nav : Bool := false
  deriving DecidableEq, Repr

/-- Where a context stands (R110 to R113, R123); `again` is ready once more after a WAITF. -/
inductive Phase | idle | ready | running | preempted | waiting | again
  deriving DecidableEq, Repr

/-- A REP in progress (R105): the first word of its body, its length, its step, the pass and the passes in all. -/
structure RepRun where
  start : Nat := 0
  len : Nat := 0
  step : Nat := 0
  pass : Nat := 0
  total : Nat := 0
  deriving DecidableEq, Repr

/-- What a context holds while it runs. Log 6 (DESIGN CHOICE). -/
structure CtxRun where
  phase : Phase := .idle
  /-- Order of becoming ready: chart time (R111). -/
  readyAt : Nat := 0
  /-- Chart time of the trigger of this execution. -/
  trigAt : Nat := 0
  /-- Chart time of the last trigger that arrived, for the watchdog (R119), and the misses it has counted since. -/
  lastTrig : Option Nat := none
  wdMisses : Nat := 0
  /-- One more than the chart time at which an on-time execution cleared MISS_RUN, and what it read (R120). -/
  clrAt : Nat := 0
  clrRun : Nat := 0
  /-- Real-time count at the trigger of the previous execution (R122). -/
  prevReal : Nat := 0
  /-- The next execution is the first after arming, an enable or a swap: its w is 1.0 (R122). -/
  first : Bool := true
  /-- The tick-weight word of this execution (R122). -/
  w : Word := 0x10000000#32
  /-- Position of the next operation in bundle memory. -/
  pc : Nat := 0
  rep : Option RepRun := none
  /-- The next issue starts a bundle (R104). -/
  boundary : Bool := true
  /-- Words issued on output ports by this execution (R94, R109). -/
  written : List Nat := []
  /-- Deadline of this execution in chart time (R115), judged as missed already. -/
  deadline : Nat := 0
  missed : Bool := false
  firstIssue : Option Nat := none
  pausedAt : Nat := 0
  paused : Nat := 0
  /-- A fetch of this execution has faulted (R124). -/
  faulted : Bool := false
  /-- A bumpless step is due at the next dispatch (R173). -/
  bump : Bool := false
  /-- This execution began before a commit and runs on the old copies (R168). -/
  old : Bool := false
  /-- Trigger chart time of the last completed execution (R347). -/
  doneTrig : Nat := 0
  deriving DecidableEq, Repr

/-- One entry of a trace tap's queue (R126). -/
structure TapRec where
  stamp : Nat := 0
  value : Nat := 0
  ctx : Nat := 0
  tap : Nat := 0
  cell : Nat := 0
  gap : Bool := false
  deriving DecidableEq, Repr

/-- The Graticule engine: cell memories in their copies (R91, R92, R153, R168), register banks and accumulators, contexts,
crossbar words (R109), timers (R108), the real-time count (R121) and the trace taps (R125). Words are keyed by
cell × 1024 + word (coefficients), cell × 512 + word (state and bundles), (cell × 4 + level) × 32 + register (banks),
context × 32 + port (ports). Contexts of a retiring image are numbered 128 + n (R153). `coefOld` and `bunOld` hold what executions of a
retiring image use. Log 6 (DESIGN CHOICE), 8 (DESIGN CHOICE), 139 (DEDUCED). -/
structure EngRun where
  coef : Tab MWord := []
  coefStg : Tab MWord := []
  coefOld : Tab MWord := []
  /-- The CFG words of the active image's contexts, and at 128 + n those of a retiring image; the format maps of the cells,
  and at 32 + c those of a retiring image. -/
  cfgs : Tab Nat := []
  cfmaps : Tab Nat := []
  bun : Tab MWord := []
  bunStg : Tab MWord := []
  bunOld : Tab MWord := []
  st : Tab MWord := []
  banks : Tab Nat := []
  accs : Tab Acc := []
  ctx : Tab CtxRun := []
  /-- The context that issues on each cell. -/
  running : Tab (Option Nat) := []
  inPorts : Tab Nat := []
  snap : Tab Nat := []
  outPorts : Tab Nat := []
  /-- State words stored by the engine with the context that stored them, and written by an expert write, in this C-cycle (R174). -/
  stsNow : List (Nat × Nat) := []
  expNow : List Nat := []
  /-- The words in which a read has found an error that stands (R94, R95): host address × 2, and 1 more in the staging copy. -/
  found : List Nat := []
  tapQ : List TapRec := []
  tapGap : Tab Bool := []
  tapCnt : Tab Nat := []
  timerNext : Tab Nat := []
  /-- Real-time count in 2^-24 nominal C-cycles, and ρ with 24 fraction bits (R121). -/
  real : Nat := 0
  rho : Nat := 0x1000000
  deriving DecidableEq, Repr

/-- One slew governor (R49): output and rate with 56 fraction bits, target and previous target in Q3.28. -/
structure Gov where
  y : Int := 0
  v : Int := 0
  target : Int := 0
  prev : Int := 0
  deriving DecidableEq, Repr

/-- A second-order generalised integrator (R41, R60): its band-passed value and the quadrature of it. Log 65 (DESIGN CHOICE). -/
structure Sogi where
  x : Int := 0
  q : Int := 0
  deriving DecidableEq, Repr

/-- A separation of sequences in one rotating frame (R43): what its notch at 2ω takes out of each axis. Log 65 (DESIGN CHOICE). -/
structure Seq2 where
  d : Sogi := {}
  q : Sogi := {}
  deriving DecidableEq, Repr

/-- One resonant term of the voltage controller (R46): its axis (0 α, 1 β, 2 zero), its order, and its state as the demodulated
pair at the centre h · ω. Log 149 (DEDUCED). -/
structure Res where
  axis : Nat := 0
  order : Nat := 1
  c : Int := 0
  s : Int := 0
  deriving DecidableEq, Repr

/-- One channel of a grid tracker (R60): frequency in pu, angle, positive- and negative-sequence magnitude, valid, the integrators
of its two axes, and the negative-sequence vector. -/
structure Trk where
  f : Int := 0x10000000
  th : Int := 0
  v : Int := 0
  vn : Int := 0
  valid : Bool := false
  sa : Sogi := {}
  sb : Sogi := {}
  nA : Int := 0
  nB : Int := 0
  deriving DecidableEq, Repr

/-- What a phase group holds while it runs; quantities are Q3.28 pu, times are in 2^-28 of a nominal rotor tick. Log 6 (DESIGN CHOICE). -/
structure GroupRun where
  omega : Int := 0x10000000
  omegaD : Int := 0x10000000
  theta : Int := 0
  govP : Gov := {}
  govQ : Gov := {}
  govF : Gov := {}
  govV : Gov := {}
  pe : Int := 0
  qf : Int := 0
  pNow : Int := 0
  qNow : Int := 0
  eRef : Int := 0
  rvEff : Int := 0
  xvEff : Int := 0
  /-- Steering offsets in force (R81), with 56 fraction bits. -/
  steerF : Int := 0
  steerV : Int := 0
  trkT : Trk := {}
  trkG : Trk := {}
  /-- The quadrature signals of a 1P group's voltage, current and current reference (R41, R63), and the sequences of the output
  current in the frames at +θ and −θ and of the current reference (R43, R63). -/
  sogV : Sogi := {}
  sogI : Sogi := {}
  sogR : Sogi := {}
  seqP : Seq2 := {}
  seqN : Seq2 := {}
  seqR : Seq2 := {}
  /-- The resonant terms of the voltage controller (R46). -/
  res : List Res := []
  /-- The voltage references (R43) and the bounded current references (R63), in αβ and the zero axis. -/
  vrefA : Int := 0
  vrefB : Int := 0
  vref0 : Int := 0
  irefA : Int := 0
  irefB : Int := 0
  iref0 : Int := 0
  ilim : Int := 0
  derated : Bool := false
  /-- I_lim is on its way down to ICONT, or has reached it (R64). -/
  falling : Bool := false
  bindTime : Nat := 0
  lowTime : Nat := 0
  boundPrev : Bool := false
  rideFrom : Nat := 0
  rideTime : Nat := 0
  zeroTime : Nat := 0
  /-- TZ and TL as the last tick compares them (R70). -/
  tzLim : Nat := 0
  tlLim : Nat := 0
  exitTime : Nat := 0
  omegaEntry : Int := 0
  delta0 : Int := 0
  lastDelta : Int := 0
  rideBound : Bool := false
  recActive : Bool := false
  recBound : Int := 0
  bsHeld : Bool := false
  bsHoldTime : Nat := 0
  settleTime : Nat := 0
  /-- How far the ramp of R74 has run, in 2^-28 ticks. -/
  bsRamp : Nat := 0
  fluxA : Int := 0
  fluxB : Int := 0
  fluxC : Int := 0
  histA : List Int := []
  histB : List Int := []
  histC : List Int := []
  gridTime : Nat := 0
  gridBack : Bool := false
  window : Bool := false
  dwell : Nat := 0
  syncClose : Bool := false
  closeAt : Nat := 0
  closeWait : Bool := false
  pulse : Bool := false
  brkClosed : Bool := false
  brkRaw : Bool := false
  brkSince : Nat := 0
  brkInvalid : Bool := false
  stopPhase : Nat := 0
  stopFrom : Nat := 0
  stopAt : Nat := 0
  stopE : Int := 0
  stopInRide : Bool := false
  /-- The RIDE timers whose expiry has acted (R70). -/
  tzDone : Bool := false
  tlDone : Bool := false
  vdcLow : Option Nat := none
  /-- The time-outs of R66 and R75 that have acted. -/
  vdcDone : Bool := false
  bsDone : Bool := false
  /-- The severity of the actions that have run in this tick, with the instant of the last, and what stood before a DERATE of this
  tick (R89); the stop in progress is one that an action asked for. -/
  faTick : Nat := 0
  faAt : Nat := 0
  stopAct : Bool := false
  derPrev : Option (Bool × Int) := none
  /-- The capacitor voltage of the tick before, in αβ and the zero axis, where it was valid (R41). -/
  vcLast : Option (Int × Int × Int) := none
  /-- The real-time count at the tick before, where one has run (R122). -/
  tickReal : Option Nat := none
  deriving DecidableEq, Repr

/-- A converter record of the SCHEDULE sheet (R202); the slot words are kept as the sheet spells them. -/
structure ConvRec where
  lockCgrp : Nat := 0
  slotCnt : Nat := 0
  injCnt : Nat := 0
  injSrc : Nat := 0
  offset : Nat := 0
  slots : List Nat := []
  inj : List Nat := []
  deriving DecidableEq, Repr

/-- An input record of the SCHEDULE sheet (R203). -/
structure InRec where
  kind : Nat := 0
  group : Nat := 0
  range : Nat := 0
  sens : Nat := 0
  deriving DecidableEq, Repr

/-- An entry record of the SCHEDULE sheet (R204). -/
structure EntRec where
  entry : Nat := 0
  conv : Nat := 0
  nm1 : Nat := 0
  shift : Nat := 0
  stream : Bool := false
  dmaCh : Nat := 0
  deriving DecidableEq, Repr

/-- The SCHEDULE sheet (R201). -/
structure Sched where
  ents : List EntRec := []
  convs : List ConvRec := []
  ins : List InRec := []
  deriving DecidableEq, Repr

/-- One converter-link item on its way through the A-to-C queue (R20, R189, R190). -/
structure Item where
  entry : Nat := 0
  code : Nat := 0x8000
  orng : Bool := false
  xtalk : Bool := false
  pllsw : Bool := false
  opn : Bool := false
  inval : Bool := false
  stamp : Nat := 0
  /-- The scale word of its entry (R188), its input, and whether and through which channel its records stream (R191), as the schedule of its
  pass gives them, and the number of that schedule (R200). -/
  ks : Nat := 0
  input : Option Nat := none
  stream : Bool := false
  ch : Nat := 0
  gen : Nat := 0
  deriving DecidableEq, Repr

/-- A stream record that waits for DMA (R191), or a gap marker (R192): `value` and `code` as the record gives them, its place in
the order of crossing, and its channel. -/
structure StreamRec where
  stamp : Nat := 0
  value : Nat := 0
  code : Nat := 0x8000
  entry : Nat := 0
  tags : Nat := 0
  cross : Nat := 0
  ch : Nat := 0
  deriving DecidableEq, Repr

/-- The collection of an entry's samples (R184, R185). -/
structure EntryRun where
  sum : Int := 0
  cnt : Nat := 0
  invalid : Bool := false
  orng : Bool := false
  xtalk : Bool := false
  pllsw : Bool := false
  opn : Bool := false
  inval : Bool := false
  deriving DecidableEq, Repr

/-- The schedule and the ADC fields under which a pass that a commit meets runs to its end (R200). Log 47 (DEDUCED). -/
structure PassCfg where
  sched : Sched := {}
  gen : Nat := 0
  regs : Tab Nat := []
  deriving DecidableEq, Repr

/-- One converter: a pass in progress and a slipped one (R182), injection (R183), tag runs (R194, R195, R198), the count of
passes for the open-wire test (R196), passed checks (R197), the A-to-C queue, its stream queue and the gap it owes (R192).
Log 6 (DESIGN CHOICE). -/
structure ConvRun where
  busy : Bool := false
  held : Option PassCfg := none
  passStart : Nat := 0
  slot : Nat := 0
  slipped : Bool := false
  injPend : Bool := false
  injRun : Bool := false
  tagLeft : Nat := 0
  swLeft : Nat := 0
  passes : Nat := 0
  okRun : Nat := 0
  queue : List Item := []
  streamQ : List StreamRec := []
  gapCount : Nat := 0
  gapStamp : Nat := 0
  gapEntry : Nat := 0
  gapCh : Nat := 0
  deriving DecidableEq, Repr

/-- A calibration measurement in progress (R206) and a polarity check in progress (R208). -/
structure CalRun where
  input : Nat := 0
  span : Bool := false
  left : Nat := 0
  need : Nat := 0
  total : Int := 0
  shift : Nat := 0
  entry : Nat := 0
  bad : Bool := false
  deriving DecidableEq, Repr

/-- The sums of a polarity check (R208). -/
structure PolRun where
  input : Nat := 0
  refKind : Nat := 0
  ref : Nat := 0
  need : Nat := 0
  next : Nat := 0
  n : Nat := 0
  sx : Int := 0
  sr : Int := 0
  sxx : Int := 0
  srr : Int := 0
  sxr : Int := 0
  deriving DecidableEq, Repr

/-- Sampling and conversion outside the registers. `entryVal` holds the last word each entry delivered (Q3.28), `inLast` the
latest code of each input with bit 16 set once a result exists, `crossed` counts the results that have crossed, `rawLast` the raw code of
the latest normal conversion of
an external input, `delivered` the entries that have delivered a result since arming began (R199). Log 6 (DESIGN CHOICE). -/
structure AdcRun where
  conv : Tab ConvRun := []
  entry : Tab EntryRun := []
  entryVal : Tab Nat := []
  inLast : Tab Nat := []
  rawLast : Tab Nat := []
  cal : Option CalRun := none
  zeroDone : List Nat := []
  spanDone : List Nat := []
  pol : Option PolRun := none
  delivered : List Nat := []
  crossed : Nat := 0
  sched : Sched := {}
  /-- The number of the schedule in force (R200): how many images have been swapped in. -/
  gen : Nat := 0
  deriving DecidableEq, Repr

/-- The layout of a carrier (R211 to R214): its first period start, the start that follows the hold of R212, from which on the
layout is regular, HALF, UPDATE double and SHAPE sawtooth, and the PHASE or SHIFT that placed it. -/
structure Carrier where
  first : Nat := 0
  base : Nat := 2000
  half : Nat := 1000
  double : Bool := true
  saw : Bool := false
  place : Nat := 0
  deriving DecidableEq, Repr

/-- The carrier of a group or leg: the layout in effect, and the one that a commit has placed at its `first` (R212, R214). -/
structure CarRun where
  cur : Carrier := {}
  next : Option Carrier := none
  deriving DecidableEq, Repr

/-- A planned edge of a leg's commands: time in 1/32 C-cycle, high side or low side, on or off (R215 to R217). Log 141 (DESIGN CHOICE). -/
structure Edge where
  at32 : Nat := 0
  high : Bool := true
  on : Bool := false
  deriving DecidableEq, Repr

/-- The pulse generation of one leg outside its registers (R214 to R224). Times ending in 32 are in 1/32 C-cycle.
Log 6 (DESIGN CHOICE), 141 (DESIGN CHOICE). -/
structure LegRun where
  car : CarRun := {}
  /-- The compare shadow, and whether it has received a word that is not NaV (R215, R223). -/
  shadow : Nat := 0
  got : Bool := false
  /-- The CMP in effect for the rising and the falling half, and the carry that the present period applies (R215, R220). -/
  cmpRise : Nat := 0
  cmpFall : Nat := 0
  perCarry : Int := 0
  /-- The part of PWM_LEG_CARRY that the present period's next pulse takes up (R220). -/
  taken : Int := 0
  /-- The carry that PWM_LEG_CARRY still reports while the pulse that takes it up is emitted (R220). Log 148 (DEDUCED). -/
  carryShown : Option Int := none
  /-- The switching function before and after short-pulse handling, as planned so far (R216). -/
  raw : Bool := false
  out : Bool := false
  /-- Effective turn-on of the pulse that is on, and whether it was stretched (R218, R221). -/
  effOn32 : Nat := 0
  stretched : Bool := false
  /-- Periods since a sufficient low-side interval, and whether one has ended in this period (R224). -/
  refCount : Nat := 0
  lowOk : Bool := false
  /-- Planned edges, earliest first, and the commands as they stand after dead time and refresh. -/
  edges : List Edge := []
  hiCmd : Bool := false
  loCmd : Bool := false
  hiOff32 : Nat := 0
  loOff32 : Nat := 0
  loOn32 : Nat := 0
  /-- The end of the refresh in progress (R224, R242). -/
  refEnd32 : Nat := 0
  /-- The references of the leg's controller: its phase current (R36), and the voltage of its leg set (R35, R43). -/
  iRef : Int := 0
  vRef : Int := 0
  deriving DecidableEq, Repr

/-- Pulse generation: the origin of the carriers (R212), the groups' carriers and the legs. -/
structure PwmRun where
  running : Bool := false
  /-- The carrier origin in this module's chart time; before chart 0 where a STANDBY lays on an origin older than its own reset
  (R354), with the fraction in 1/32 C-cycle that the delay line adds. -/
  origin : Int := 0
  frac : Nat := 0
  car : Tab CarRun := []
  leg : Tab LegRun := []
  deriving DecidableEq, Repr

/-- The TRIP sheet (R233): the source words and the leg words. -/
structure TripSheet where
  srcs : List Nat := []
  legs : List Nat := []
  deriving DecidableEq, Repr

/-- The trip matrix (R225 to R232): sources active now, latches set, whether inputs are watched. Log 9 (DESIGN CHOICE). -/
structure TrpRun where
  live : List Nat := []
  latch : List Nat := []
  armed : Bool := false
  deriving DecidableEq, Repr

/-- A gate of a drive die, or a logic pin: off, waiting for confirmation, turned on (R245). -/
inductive Gate | off | waiting | on
  deriving DecidableEq, Repr

/-- The edges credited to one strength code since its last adjustment (R248): count and sum of times. -/
structure Credit where
  cnt : Nat := 0
  sum : Nat := 0
  deriving DecidableEq, Repr

/-- The settings of a drive die that its legs use (R259): GCW, BSUV_T, SOFT, AVG and BAND. -/
structure DieCfg where
  gcw : Nat
  bsuvT : Nat
  soft : Nat
  avg : Nat
  band : Nat
  deriving DecidableEq, Repr

/-- One leg on its drive die outside the registers (R238 to R258). -/
structure DrvLeg where
  hi : Gate := .off
  lo : Gate := .off
  /-- Chart time of the turn-on command edge that waits (R245). -/
  cmdAt : Nat := 0
  /-- Chart times at which the last turn-on of each switch begins and its last turn-off began (R245 to R247). -/
  hiOn : Option Nat := none
  loOn : Option Nat := none
  hiOff : Option Nat := none
  loOff : Option Nat := none
  /-- The strength code at which each gate is driven: the source code while on, the sink code of its turn-off until it has passed
  2.0 V, then 15 (R239, R250). -/
  hiCode : Nat := 15
  loCode : Nat := 15
  /-- The lockout of R242, the first undervoltage of a run, and an overlap in progress (R244). -/
  locked : Bool := true
  bsuvFrom : Option Nat := none
  overlap : Bool := false
  /-- The comparator of R250 reports a short circuit now. -/
  scNow : Bool := false
  /-- Credits of HON, HOFF, LON and LOFF (R247). -/
  credits : List Credit := [{}, {}, {}, {}]
  /-- A release was asked for and waits for the commands (R255). -/
  relPend : Bool := false
  /-- Committed fields of the leg have arrived and wait for its next edge; the settings of its die that it still uses (R249). -/
  cfgDue : Bool := false
  dieOld : Option DieCfg := none
  deriving DecidableEq, Repr

/-- One drive die outside the registers: DRVENd and the instant it fell, the link clock, the supply and temperature as the die
sees them, and whether the supply has once risen (R251, R252). Log 9 (DESIGN CHOICE). -/
structure DrvDie where
  en : Bool := false
  lowAt : Option Nat := some 0
  link : Bool := true
  supply : Bool := false
  risen : Bool := false
  hot : Bool := false
  deriving DecidableEq, Repr

/-- The drive dies. Log 6 (DESIGN CHOICE). -/
structure DrvRun where
  die : Tab DrvDie := []
  leg : Tab DrvLeg := []
  deriving DecidableEq, Repr

/-- What a Contour probe keeps (R318, R319): the valid sample before, whether a rising or falling crossing is armed, and the
envelope of the window. -/
structure ProbeRun where
  prev : Option (Int × Nat) := none
  up : Bool := false
  down : Bool := false
  lo : Option Int := none
  hi : Option Int := none
  tagged : Bool := false
  deriving DecidableEq, Repr

/-- What a sequencer and its recorder keep (R320 to R322). -/
structure SeqRun where
  entered : Nat := 0
  holdFrom : Option Nat := none
  up : Bool := false
  down : Bool := false
  /-- An invalid sample has come since the last valid one (R319, R320). -/
  gap : Bool := false
  trigAt : Nat := 0
  /-- Probes whose first sample at or after the trigger has been recorded, and whether POST has ended (R322). -/
  marked : List Nat := []
  ended : Bool := false
  deriving DecidableEq, Repr

/-- The records that wait for a channel and the gap it owes (R317). -/
structure RecQueue where
  recs : List Nat := []
  gapCount : Nat := 0
  gapStamp : Nat := 0
  deriving DecidableEq, Repr

/-- Contour outside its registers (R314 to R324). Log 6 (DESIGN CHOICE). -/
structure CtrRun where
  probe : Tab ProbeRun := []
  seq : Tab SeqRun := []
  queue : Tab RecQueue := []
  deriving DecidableEq, Repr

/-- Twin operation outside its registers (R343 to R362). Instants ending in 32 are in 1/32 C-cycle.
Log 6 (DESIGN CHOICE), 9 (DESIGN CHOICE), 79 (DEDUCED), 81 (PRESUMED). -/
structure TwnRun where
  /-- TWIN_ROLE as sampled at power-on reset (R344); the module drives TWIN_ACT low; a SECONDARY waits since (R346). -/
  strap : Bool := false
  driving : Bool := false
  waitFrom : Option Nat := none
  /-- A fault action other than LOG and HOLD was met as STANDBY (R353, R355). -/
  faulted : Bool := false
  /-- The module became ACTIVE by a claim (R357). -/
  claimed : Bool := false
  /-- The hand-over instant announced (R359), the frames that announced it, the acknowledgement, the group and action
  code to fall back to where an action asked for it, and the legs that have changed hands (R360). -/
  hoAt : Nat := 0
  hoCuts : Nat := 0
  hoAck : Bool := false
  hoBy : Option (Nat × Nat) := none
  hoLegs : List Nat := []
  /-- The hand-over is of this module as the incoming one. -/
  hoIn : Bool := false
  /-- An action that waits for a commit to end (R359). -/
  hoWait : Option (Nat × Nat) := none
  /-- The end of the 200 µs in which a module that has become ACTIVE keeps its legs OFF (R346), and whether they have not ended. -/
  settleTo : Nat := 0
  settling : Bool := false
  /-- Sending (R347): SEQ, the position of the sweep, the start of the last frame, its words, and the comma instants by SEQ (one more
  than the instant). -/
  seq : Nat := 0
  sweep : Nat := 0
  sentAt : Option Nat := none
  sent : List Nat := []
  comma32 : Tab Nat := []
  /-- What the last cut captured (R350): slow set, fast words from `capPos` on, duties, trigger stamps; and the owned words of the
  contexts in execution as they stood before it. -/
  capSlow : List Nat := []
  capFast : List Nat := []
  capPos : Nat := 0
  capDuty : List Nat := []
  capTrig : List Nat := []
  before : Tab (List Nat) := []
  /-- The last good frame: its SEQ, when its comma came, when it ended, and what it said of the peer (R347, R355). -/
  peerSeq : Nat := 0
  rx32 : Nat := 0
  lastGood : Nat := 0
  peerRole : Nat := 0
  peerPrimary : Bool := false
  peerReady : Bool := false
  peerLineF : Bool := false
  peerHold : Bool := false
  peerStruct : Nat := 0
  peerConf : Nat := 0
  /-- The staging state that the peer last sent. -/
  peerStg : Nat := 0
  /-- No good frame within the heartbeat time (R355); whether the expiry has been met (R357); READY as it was at the last good
  frame. -/
  lost : Bool := true
  hbOver : Bool := true
  readyLast : Bool := false
  /-- Two-way values of the last 64 good frames (R348), in 1/32 C-cycle, newest first, and the offsets of the last second. -/
  ofs : List Int := []
  del : List Int := []
  ofsWin : List (Nat × Int) := []
  /-- The digests as last recomputed (R351): their first 8 bytes. -/
  digStruct : Nat := 0
  digConf : Nat := 0
  /-- How many committed values had not yet taken effect when the digests were formed. -/
  digLeft : Option Nat := none
  /-- The offset on which the carriers were last laid (R354), and whether a complete sweep has followed. -/
  laid : Option Int := none
  /-- PLL-C has relocked after a holdover, and the carriers are to be laid again (R362). -/
  relay : Bool := false
  synced : Bool := false
  /-- The next position of the sweep that is being received, and whether it was met with every condition (R355). -/
  rxSweep : Option Nat := none
  rxClean : Bool := false
  /-- Corrections that wait for their context's execution to end (R352): context, key of the word, value, captured value. -/
  corr : List (Nat × Nat × Nat × Nat) := []
  /-- Frames in a row with, and without, a diverging leg (R356). -/
  divRun : Nat := 0
  divOk : Nat := 0
  diverged : Bool := false
  deriving DecidableEq, Repr

/-- The correlation sums of one tone (R328): voltage, current, and current at the uninjected frequency, real and imaginary, in
2^-56. -/
structure ToneSum where
  vR : Int := 0
  vI : Int := 0
  iR : Int := 0
  iI : Int := 0
  nR : Int := 0
  nI : Int := 0
  deriving DecidableEq, Repr

/-- The generator of a group outside its registers (R325 to R331): since when the group has been in ISLAND or CONNECTED, when WAIT
was entered, the random delay, the real-time count at the start of the injection, the sums, the bits of a Bearing frame, a
burst that awaits its fit with the tones accepted, and a retune that is due. -/
structure SndGen where
  since : Nat := 0
  waitFrom : Nat := 0
  delay : Nat := 0
  /-- When EN took effect, while it is 1 (R327). -/
  enAt : Option Nat := none
  start : Nat := 0
  nV : Nat := 0
  nI : Nat := 0
  sums : List ToneSum := []
  frame : Nat := 0
  fitDue : Bool := false
  endAt : Nat := 0
  accepted : List Nat := []
  retune : Option (Int × Int) := none
  retuneAt : Nat := 0
  deriving DecidableEq, Repr

/-- A Bearing frame that waits or is being sent (R333 to R337). `kind`: 0 the host's, 1 STATE, 2 SEC_DF and 3 SEC_DV of the leader,
4 an ACK. SEQ is given when the frame is first sent. -/
structure TxFrame where
  kind : Nat := 0
  dst : Nat := 0
  bc : Bool := false
  typ : Nat := 0
  payload : Nat := 0
  seq : Option Nat := none
  retries : Nat := 0
  deriving DecidableEq, Repr

/-- A Bearing node outside its registers (R332 to R338). -/
structure BrgNode where
  seq : Nat := 0
  queue : List TxFrame := []
  /-- The real-time count at which the node began to wait for the channel, and the slots of its backoff (R336). -/
  waitFrom : Nat := 0
  slots : Nat := 0
  sending : Option TxFrame := none
  /-- The end of the last unicast SEC frame, while its ACK is awaited. -/
  ackWait : Option Nat := none
  /-- An ACK that falls due: when, and the frame. -/
  ackDue : Option (Nat × TxFrame) := none
  lastDf : Option (Nat × Nat) := none
  lastDv : Option (Nat × Nat) := none
  /-- The real-time count at which the last bit of the frame being received ends. -/
  rxEnd : Nat := 0
  stateFrom : Nat := 0
  ilimSeen : Bool := false
  /-- The leader's means (R338), and the offsets that wait to be written: when, 4 or 5 for SEC_DF or SEC_DV, and the value. -/
  leadFrom : Nat := 0
  sumF : Int := 0
  sumV : Int := 0
  cnt : Nat := 0
  bad : Bool := false
  offsets : List (Nat × Nat × Nat) := []
  deriving DecidableEq, Repr

/-- Sounding and Bearing outside their registers. Log 6 (DESIGN CHOICE). -/
structure SndRun where
  gen : Tab SndGen := []
  node : Tab BrgNode := []
  /-- Frames that wait for the housekeeping core to log them in DRAM, each with 2 × group, and 1 more where it was sent; and how many it
  has logged (R335). -/
  log : List (Nat × Nat) := []
  logged : Nat := 0
  deriving DecidableEq, Repr

/-- What a reset of the safe disconnect has put aside, for the K-cycle in which it was accepted (R375, R379): that K-cycle, SDC_FAULT, FIRST,
UNCONF_S, RESET_CNT, STATE, and the port that asked. -/
structure ResetWas where
  cyc : Nat := 0
  faults : Nat := 0
  first : Nat := 0
  unconf : Nat := 0
  cnt : Nat := 0
  st : Nat := 0
  port : Port := .host
  deriving DecidableEq, Repr

/-- The safe disconnect outside its registers (R364 to R377). Levels are true for high. `fb` is true while SAFE_FB reads closed. Instants
are those of the real-time count, in C-cycles of 2.5 ns. The two channels read the same inputs with the same times, which State holds
once; the outputs, the copies of the parameters and the checks of R373 are each channel's own. Log 9 (DESIGN CHOICE), 176 (DEDUCED). -/
structure SdcRun where
  in1 : Bool := false
  in2 : Bool := false
  low1 : Nat := 0
  low2 : Nat := 0
  watch : Bool := false
  fb : Bool := true
  fbAt : Nat := 0
  /-- When a disagreement began, and whether its fault has latched (R370). -/
  discFrom : Option Nat := none
  discDone : Bool := false
  /-- The disagreement that has ended last: its beginning, the K-cycle of its end, and DISC_CNT before it was counted (R370). -/
  discWas : Option (Nat × Nat × Nat) := none
  /-- The reset that was accepted last (R375). -/
  resetWas : Option ResetWas := none
  /-- When the coil was last de-energised on leaving RUN, while its check is pending (R371); when RUN was entered; whether SAFE_FB
  has read closed since. -/
  leftAt : Option Nat := none
  runAt : Nat := 0
  fbSeen : Bool := false
  /-- The outputs (R366): lines released, coil switches on. -/
  relA : Bool := false
  relB : Bool := false
  coilHs : Bool := false
  coilLs : Bool := false
  /-- The step of a reset (R375), 0 with none, and when it began; the test in RUN in progress, of the high side or not; when the
  last test was due; which comes next. -/
  step : Nat := 0
  stepAt : Nat := 0
  test : Option Bool := none
  testAt : Nat := 0
  nextLow : Bool := false
  /-- Since when the nodes are checked without a break (R372): the entry of RUN, or the end of the last test. -/
  nodeAt : Nat := 0
  /-- For each channel: whether CLK has passed its last window (R375), the S-cycle at which the present one began, and the instant of the last
  check of its parameters (R373). -/
  clkOk : Bool := true
  clkOk2 : Bool := true
  clkFrom : Nat := 0
  clkFrom2 : Nat := 0
  parAt : Nat := 0
  parAt2 : Nat := 0
  /-- The two copies of the parameters (R373, R376), and the check value at load. -/
  copy1 : List Nat := []
  copy2 : List Nat := []
  deriving DecidableEq, Repr

/-- A response of a port (R407): its status byte, the words read, and their poison mask. -/
structure Reply where
  status : Nat := 0
  words : List Nat := []
  mask : Nat := 0
  deriving DecidableEq, Repr

/-- A DRAM window frame that waits for its tracker entries (R410): direction, DRAM address of each word, the words, and the
instant of its request's end; whether its request's stall was counted, and whether its response is no longer awaited (R410). -/
structure WinFrame where
  write : Bool := false
  addrs : List Nat := []
  words : List Nat := []
  asked : Nat := 0
  stalled : Bool := false
  silent : Bool := false
  deriving DecidableEq, Repr

/-- A port: the response last given, where one was, and a window frame in progress (R404 to R418). -/
structure PortRun where
  reply : Option Reply := none
  frame : Option WinFrame := none
  deriving DecidableEq, Repr

/-- The host and service ports outside their registers: the start of the host-silence time while the timer runs (R414), the last good
service frame (R417), and the service frames behind one that is in the tracker (R416). Log 6 (DESIGN CHOICE). -/
structure HostRun where
  port : Tab PortRun := []
  silFrom : Option Nat := none
  svcLast : Nat := 0
  svcQ : List Instr := []
  deriving DecidableEq, Repr

/-- Power-up and boot outside their registers (R420 to R427): held in power-on reset, and for how many C-cycles; the start of the phase and
the time that it has waited for a reference; WAKE; the fraction of an S-cycle that has passed, in 1/400,000,000; the RTC at the last wake by a
tamper event. -/
structure BootRun where
  held : Bool := false
  heldFor : Nat := 0
  phaseAt : Nat := 0
  waited : Nat := 0
  wake : Bool := true
  frac : Nat := 0
  tampAt : Option Nat := none
  deriving DecidableEq, Repr

/-- An Atlas image as its sheets give it (R133 to R144, R201, R233, R308, R376). -/
structure Img where
  ver : Nat := 0
  secVer : Nat := 0
  keySlot : Nat := 0
  flags : Nat := 0
  idLo : Nat := 0
  idHi : Nat := 0
  groups : List GroupRec := []
  legs : List LegRec := []
  ctxs : List CtxRec := []
  binds : List BindRec := []
  progs : List CellSheet := []
  coefs : List CellSheet := []
  inits : List CellSheet := []
  routes : List RouteRec := []
  sched : Sched := {}
  trip : TripSheet := {}
  fault : List Nat := []
  safety : List Nat := []
  dma : List Nat := []
  deriving DecidableEq, Repr

/-- One bumpless pair whose gain a commit changes (R173): context, gain before, gain after where a later commit has come before the
context's next execution (else the word in effect), words of the pair. -/
structure BumpPair where
  ctx : Nat := 0
  gOld : Nat := 0
  gNew : Option Nat := none
  gain : Nat := 0
  integ : Nat := 0
  err : Nat := 0
  limit : Nat := 0
  noLim : Bool := false
  deriving DecidableEq, Repr

/-- A FETCH on its channel (R123, R299): context, trigger time of its execution, byte address, words, first state word, and
words done. -/
structure FetchJob where
  ctx : Nat := 0
  trigAt : Nat := 0
  addr : Nat := 0
  words : Nat := 0
  dest : Nat := 0
  done : Nat := 0
  deriving DecidableEq, Repr

/-- A COPY channel's chain (R298): the descriptor's address and fields, the bytes done of it, what comes next (0 the descriptor's
read, 1 a read of data, 2 its write, 3 the end of the descriptor), and the data read with its poison by byte. -/
structure CopyRun where
  desc : Nat := 0
  src : Nat := 0
  dst : Nat := 0
  len : Nat := 0
  next : Nat := 0
  last : Bool := false
  done : Nat := 0
  phase : Nat := 0
  buf : List Nat := []
  bad : List Bool := []
  deriving DecidableEq, Repr

/-- A request in the tracker (R302): class, entries, chart time of its acceptance, time spent in self-refresh, first virtual byte,
length, direction, physical address and bytes of each beat, the entries not yet served (R303), and for a STREAM write its records
and their producers.
Log 102 (DESIGN CHOICE). -/
structure Flight where
  cls : Nat := 0
  entries : Nat := 0
  takenAt : Nat := 0
  paused : Nat := 0
  vaddr : Nat := 0
  len : Nat := 0
  write : Bool := false
  beats : List (Nat × Nat) := []
  left : Nat := 0
  /-- The entries that the request has yet to take (R302). -/
  want : Nat := 0
  recs : List Nat := []
  srcs : List Nat := []
  /-- What the request moves, for one whose channel a swap has given another record (R310): kind, chain and fetch as it was accepted. -/
  kind : Nat := 0
  copy : Option CopyRun := none
  job : Option FetchJob := none
  deriving DecidableEq, Repr

/-- A DMA channel outside its registers (R296): halted, its fetches or chain, the request in the tracker, whether the stall of the
next one was counted, and the records that a completed STREAM write holds before WPTR advances. Log 102 (DESIGN CHOICE). -/
structure DmaCh where
  halted : Bool := false
  jobs : List FetchJob := []
  copy : Option CopyRun := none
  flight : Option Flight := none
  stalled : Bool := false
  wrote : Nat := 0
  /-- The requests in the tracker of the channel's old records (R310), oldest first. -/
  orphans : List Flight := []
  /-- WPTR has come to stand on RPTR by a write, so that the buffer is full and not empty (R297). -/
  full : Bool := false
  deriving DecidableEq, Repr

/-- An errata move in progress (R293): entry, block, whether it moves back, and the AUTO bit of the entry. Log 103 (DEDUCED). -/
structure Move where
  k : Nat := 0
  block : Nat := 0
  back : Bool := false
  auto : Bool := false
  /-- When it was asked for: the requests in the tracker by then come before it (R311). -/
  at0 : Nat := 0
  deriving DecidableEq, Repr

/-- Protected memory and DMA (R283 to R310). Bytes that a table does not list are 0 (R286). `flips` holds, by beat, the 80-bit
pattern by which a stored codeword differs from the code; `plist` the poison list; `dieWin` the corrections of the present
window by die; `hits` the blocks that the present scrub pass has corrected. Log 6 (DESIGN CHOICE), 7 (DESIGN CHOICE). -/
structure MemRun where
  dram : Tab Nat := []
  flips : Tab Nat := []
  plist : List Nat := []
  moves : List Move := []
  inj : Option (Nat × Nat) := none
  dieWin : Tab Nat := []
  winFrom : Nat := 0
  hits : List Nat := []
  ch : Tab DmaCh := []
  /-- When the DRAM entered self-refresh (R274). -/
  srFrom : Option Nat := none
  /-- The requester after the one that each class served last (R303); when the present scrub pass began (R291); and which mirror
  bank follows the active copies (R95). -/
  rr : Tab Nat := []
  /-- The requesters whose requests wait in the C-to-M queue of each class, head first (R280, R302); and whether the stall of the housekeeping
  core's own request was counted. -/
  reqQ : Tab (List Nat) := []
  coreStalled : Bool := false
  scrubFrom : Nat := 0
  /-- The position of the sweep at `scrubFrom` (R291): 0 but after a reset that keeps it. -/
  scrubPos0 : Nat := 0
  bank : Bool := false
  deriving DecidableEq, Repr

/-- An OTP key slot (R381, R382): 0 EMPTY, 1 PROVISIONED, 2 REVOKED, and its two key hashes. Log 94 (DESIGN CHOICE). -/
structure KeySlot where
  st : Nat := 0
  ecHash : Nat := 0
  lmsHash : Nat := 0
  deriving DecidableEq, Repr

/-- An entry of the island's log (R396). -/
structure LogRec where
  rtc : Nat := 0
  kind : Nat := 0
  input : Nat := 0
  seq : Nat := 0
  detail : Nat := 0
  deriving DecidableEq, Repr

/-- A tamper input (R395): consecutive samples in the tamper state and in the normal state, and whether it is armed. -/
structure TampRun where
  bad : Nat := 0
  good : Nat := 0
  armed : Bool := true
  deriving DecidableEq, Repr

/-- The Tally counters of a group (R397, R399): energies with 32 fraction bits, times in 2^-24 C-cycles. -/
structure TallyRec where
  eExp : Nat := 0
  eImp : Nat := 0
  qPos : Nat := 0
  qNeg : Nat := 0
  unmet : Nat := 0
  orng : Nat := 0
  calchg : Nat := 0
  deriving DecidableEq, Repr

/-- What the retention RAM holds (R394): the tamper log newest first, the Tally counters as last copied, the next LMS index,
TAMPERED and the count of tamper events, and whether its check word is that of its contents. -/
structure RetRam where
  log : List LogRec := []
  tally : Tab TallyRec := []
  lmsNext : Nat := 0
  tampered : Bool := false
  tampTotal : Nat := 0
  valid : Bool := true
  deriving DecidableEq, Repr

/-- A security operation that waits for DRAM (R402): a command block, a patch, or a report with the nonce read at GO. -/
inductive SecOp | command (addr : Nat) (bad : Option Nat) | patch (addr : Nat) | report (addr nonce : Nat)
  deriving DecidableEq, Repr

/-- The security block (R381 to R403) outside the registers: OTP, retention RAM, the RTC in 2^-15 s, tamper inputs, the Tally's
counters at work, seals that wait by cause, the chain with number and digest of the last seal written, the bytes of the patch store, and
level and SEC_VER of the patches stored and in service. -/
structure SecRun where
  slots : List KeySlot := [{}, {}, {}, {}]
  arb : Nat := 0
  lmsBlk : Nat := 0
  epoch : Nat := 0
  ret : RetRam := {}
  rtc : Nat := 0
  rtcSetS : Bool := false
  tamp : List TampRun := [{}, {}, {}, {}]
  tampPend : Bool := false
  tally : Tab TallyRec := []
  sealDue : Nat := 0
  sealNext : Nat := 0
  sealPrev : Nat := 0
  sealLast : Nat := 0
  sealHash : Nat := 0
  sealFrom : Nat := 0
  copyFrom : Nat := 0
  store : List Nat := []
  patch : Option (Nat × Nat) := none
  patchRun : Option (Nat × Nat) := none
  /-- Fuses that did not read blown after programming, by row and place: a later margin read may find them blown (R381). -/
  weak : List (Nat × Nat) := []
  /-- The operation in progress where it waits (R402). -/
  op : Option SecOp := none
  /-- S-cycles since the island came up, those of the last trim with the part of an S-cycle that it still owes, in millionths (R393), and of the
  last sample of the tamper inputs (R395). -/
  scyc : Nat := 0
  trimFrom : Nat := 0
  trimFrac : Nat := 0
  tampFrom : Nat := 0
  deriving DecidableEq, Repr

/-- Draft, survey and commit, and the image store (R147 to R175), outside the registers. Log 38 (DEDUCED), 42 (DEDUCED). -/
structure StgRun where
  /-- The coefficient draft (R162): address and word, oldest first. -/
  cdraft : List (Nat × Nat) := []
  /-- The survey that runs was started by GO (R165); the shadow state to return to. -/
  go : Bool := false
  /-- Commit instant T, or T' of R169, in chart time. -/
  commitAt : Nat := 0
  /-- The commit takes the staged image with it: its survey has judged it (R165). -/
  withImg : Bool := false
  /-- The commit waits for fetches (R169), and the contexts that retire, whose triggers are dropped meanwhile. -/
  waiting : Bool := false
  retire : List Nat := []
  active : Option Img := none
  staged : Option Img := none
  /-- The image that is being loaded (step 8 of R149). -/
  loading : Option Img := none
  /-- How many images have been swapped in: the number of the schedule that goes with the active one (R200). -/
  gen : Nat := 0
  /-- The image whose last executions run out (R153). -/
  retiring : Option Img := none
  /-- The pairs whose bumpless step is due (R173), and those that the survey of the next commit has listed. -/
  bump : List BumpPair := []
  bumpNext : List BumpPair := []
  deriving DecidableEq, Repr

/-- The clocks outside the registers (R260 to R282): whether the crystal oscillates; whether PLL-C has locked since reset; the
instants of its loss, of PLL-M's, and of PLL-A's lock; the fast hops in progress (one more than their start, by PLL); the
start of the spreading profile; whether the ratio is still on its way back to it; the order of the band entries; the seeds
loaded. Log 71 (DESIGN CHOICE). -/
structure ClkRun where
  xtal : Bool := true
  /-- A write of CLK_REF_CFG before the first lock has named the reference (R261). -/
  named : Bool := false
  locked : Bool := false
  holdAt : Nat := 0
  lossM : Option Nat := none
  lockA : Nat := 0
  hop : Tab Nat := []
  profile : Nat := 0
  catching : Bool := false
  bandAt : Tab Nat := []
  /-- The entry of the band table that the hop of each PLL has loaded (R266). -/
  hopEnt : Tab Nat := []
  /-- The seed that the dither register of each PLL has loaded, and when (R267). -/
  seeds : Tab Nat := []
  seedAt : Tab Nat := []
  /-- The reference, kHz, on which PLL-C's ratio is commanded (R263). -/
  ratioKhz : Nat := 25000
  /-- PLL-A has lost its lock, and domain A is to change over (R273). -/
  altDue : Bool := false
  /-- One more than the chart time of the last pointer mismatch of each dual-clock queue (R278). -/
  xqAt : Tab Nat := []
  deriving DecidableEq, Repr

end Sys2Proof.Machine
end

