-- ==== Sys2Proof/Machine/State.lean ====
section
/-!
DEFINITION. The state of the PX8 as plain data: every register field, every queue, buffer, counter, mode and pin of the spec,
the queue of waiting commands, the reasons a step can stop, and the state after reset.
-/

namespace Sys2Proof.Machine

/-- Why a step stops. Log 138 (DESIGN CHOICE). -/
inductive Fault
  /-- Raised by exec for a command whose operands break the checks of WellFormed (a frame that spells no such command).
  Safe: nothing of the machine is changed and no value is invented. -/
  | illFormed
  deriving DecidableEq, Repr

/-- Why a command has no meaning here. -/
inductive Refusal
  /-- Raised by exec for a row of the table that has no meaning yet, by its mnemonic. Safe: nothing follows from it. -/
  | notModelled (mnemonic : String)
  deriving DecidableEq, Repr

/-- The register fields: the values in effect, the committed values that their domain has not yet taken (R167), and the
shadows that differ from the committed values (R157). Keys are `Fld.key`; an unlisted field holds its reset value. -/
structure RegFile where
  eff : Tab Nat := []
  com : Tab Nat := []
  shadow : Tab Nat := []
  deriving DecidableEq, Repr

structure State where
  /-- Commands that wait, first in, first out (DESIGN: the block's queue). -/
  pending : List Instr := []
  /-- Chart time (R10). -/
  chart : BitVec 64 := 0
  regs : RegFile := {}
  /-- Sticky bits set and counters incremented in this C-cycle, by bit number (R16, R17). -/
  evNow : List Nat := []
  /-- The words that the LO reads of a port latched (R11, R55, R403, R409), and its copy of SYS_DRAM_PAGE (R411), by
  port × 65536 + address. -/
  latch : Tab Nat := []
  /-- A write of the frame in progress was refused (R408). -/
  refusedNow : Bool := false
  /-- Register writes of this C-cycle: port and address (R418), and EXPERT_EN as the cycle began (R434). -/
  wrNow : List (Port × Nat) := []
  /-- The model's own field: the commands of this C-cycle that others of it must precede (R27, R159, R168, R174, R414, R418). Log 3 (DEDUCED). -/
  later : List Instr := []
  expertStart : Bool := false
  /-- The model's own field, not the spec's: how many free values have been drawn. -/
  free : Nat := 0
  grid : Tab GroupRun := []
  eng : EngRun := {}
  stg : StgRun := {}
  clk : ClkRun := {}
  adc : AdcRun := {}
  pwm : PwmRun := {}
  drv : DrvRun := {}
  trp : TrpRun := {}
  ctr : CtrRun := {}
  mem : MemRun := {}
  twn : TwnRun := {}
  sec : SecRun := {}
  snd : SndRun := {}
  sdc : SdcRun := {}
  host : HostRun := {}
  boot : BootRun := {}
  deriving DecidableEq, Repr

def State.reset : State := {}

end Sys2Proof.Machine
end

