-- ==== Sys2Proof/Machine/Ops.lean ====
section
/-!
DEFINITION. The operations over the register fields and the clock of the machine: reading and writing a field in each of its
layers, sticky bits, counters, stamps, refusals, and one C-cycle.
-/

namespace Sys2Proof.Machine

/-- The field rows of the block that holds an address (R431). -/
def rowsOfBlock (b : Nat) : List Row :=
  match b with
  | 0 => rowsSys
  | 1 => rowsClk
  | 2 => rowsStg
  | 3 => rowsGfm
  | 4 => rowsGrt
  | 5 => rowsAdc
  | 6 => rowsPwm
  | 7 => rowsDrv
  | 8 => rowsTrp
  | 9 => rowsMem
  | 10 => rowsDma
  | 11 => rowsCtr
  | 12 => rowsSnd
  | 13 => rowsTwn
  | 14 => rowsSdc
  | 15 => rowsSec
  | _ => []

/-- The rows whose word lies at an address. -/
def rowsAt (a : Nat) : List Row := (rowsOfBlock (a / 4096)).filter fun r => (r.instAt a).isSome

/-- Whether a row is of stage D. -/
def Row.isD (r : Row) : Bool := match r.stage with
  | .d _ => true
  | .i => false

/-- The reset value that a row gives its instance (i, j) (R438). Log 10 (DESIGN CHOICE). -/
def Row.resetAt (r : Row) (key i j : Nat) : Nat :=
  match r.rst with
  | .const v => v
  | .perIndex vs => vs.getD (if r.n2 ≤ 1 then i else j) 0
  | .plusIndex b => b + i
  | .perPart => Config.perPart key % 2 ^ r.width
  | .random => (Config.random i).toNat

/-- The reset value of the field held under a key (R438); 0 for a key that no table names. Log 10 (DESIGN CHOICE). -/
def resetOf (key : Nat) : Nat :=
  let a := key / 32 * 4
  match (rowsAt a).find? (fun r => r.lo == key % 32) with
  | none => 0
  | some r =>
    match r.instAt a with
    | none => 0
    | some (i, j) => r.resetAt key i j

/-- The value of a field in effect. -/
def State.fld (s : State) (f : Fld) : Nat := tabGet (resetOf f.key) s.regs.eff f.key

/-- Sets the value of a field in effect. -/
def State.setFld (s : State) (f : Fld) (v : Nat) : State :=
  { s with regs := { s.regs with eff := tabSet (resetOf f.key) s.regs.eff f.key (v % 2 ^ f.width) } }

/-- The value of a field read as two's complement. -/
def State.sfld (s : State) (f : Fld) : Int := signedOf f.width (s.fld f)

/-- Sets a field to the two's complement of an integer. -/
def State.setSfld (s : State) (f : Fld) (v : Int) : State := s.setFld f (unsignedOf f.width v)

/-- Whether a one-bit field is 1. -/
def State.on (s : State) (f : Fld) : Bool := s.fld f == 1

/-- The committed value of a field, whether or not its domain has taken it (R167). -/
def State.comFld (s : State) (f : Fld) : Nat := (tabFind s.regs.com f.key).getD (s.fld f)

/-- The shadow of a field (R157). -/
def State.shadowFld (s : State) (f : Fld) : Nat := (tabFind s.regs.shadow f.key).getD (s.comFld f)

/-- Places a drafted value in a shadow; a shadow that equals the committed value is not listed (R158). -/
def State.draftFld (s : State) (f : Fld) (v : Nat) : State :=
  let w := v % 2 ^ f.width
  { s with regs := { s.regs with
      shadow := if w = s.comFld f then tabDel s.regs.shadow f.key else tabPut s.regs.shadow f.key w } }

/-- Notes that a bit was set, or a counter raised, in this C-cycle (R16, R17). -/
def State.note (s : State) (k : Nat) : State := { s with evNow := if s.evNow.contains k then s.evNow else k :: s.evNow }

/-- Sets bit `b` of a sticky field (R16). -/
def State.raiseBit (s : State) (f : Fld) (b : Nat) : State :=
  (s.setFld f (setBit (s.fld f) b)).note (f.key + b)

/-- Sets a one-bit sticky field (R16). -/
def State.raise (s : State) (f : Fld) : State := s.raiseBit f 0

/-- Raises a counter by one; it stops at all ones (R17). -/
def State.count (s : State) (f : Fld) : State :=
  (s.setFld f (if s.fld f + 1 < 2 ^ f.width then s.fld f + 1 else s.fld f)).note f.key

/-- A counter raised `n` times. -/
def State.countN (s : State) (f : Fld) : Nat → State
  | 0 => s
  | n + 1 => (s.count f).countN f n

/-- A mark of this C-cycle, beside the keys of the registers: what a rule must know to have happened in it. -/
def State.mark (s : State) (k : Nat) : State := s.note (2 ^ 24 + k)

/-- Whether a mark was made in this C-cycle. -/
def State.marked (s : State) (k : Nat) : Bool := s.evNow.contains (2 ^ 24 + k)

/-- The value of a W1C field after a write of `v`: bits set in this C-cycle stay set (R12, R16). -/
def w1cAfter (now : List Nat) (key width old v : Nat) : Nat :=
  bitsOf width fun b => bitOf old b && (!bitOf v b || now.contains (key + b))

/-- The value of a counter after a write of `v` (R17). -/
def cntAfter (now : List Nat) (key old v : Nat) : Nat :=
  if v = 0 then (if now.contains key then 1 else 0) else old

/-- Places a 64-bit stamp in a LO and HI pair of fields. -/
def State.stamp (s : State) (lo hi : Fld) (t : Nat) : State := (s.setFld lo (t % 2 ^ 32)).setFld hi (t / 2 ^ 32)

/-- Chart time as a number (R10). -/
def State.now (s : State) : Nat := s.chart.toNat

/-- Whether a pointer mismatch of a dual-clock queue falls in this C-cycle: a write beside it is discarded (R278, R281). -/
def State.queueClash (s : State) (q : Nat) : Bool := tabGet 0 s.clk.xqAt q == s.now + 1

/-- C-cycles for which the reset of a queue lasts (R278): four cycles of the slower of its two domains, 160 MHz, 400 MHz, the host's clock of
up to 66 MHz, 125 MHz and 48 MHz. Log 95 (DEDUCED). -/
def queueResetTime (q : Nat) : Nat := if q < 32 then 10 else if q < 38 then 4 else if q < 40 then 25 else if q < 42 then 13 else 34

/-- Whether the reset of a dual-clock queue runs: its writer sees it full, its reader empty (R278). -/
def State.queueReset (s : State) (q : Nat) : Bool :=
  let t := tabGet 0 s.clk.xqAt q
  t != 0 && decide (s.now < t - 1 + queueResetTime q)

/-- The code of a port in SYS_REJ_INFO.PORT (R419): host 0, service 1. -/
def Port.code : Port → Nat
  | .host => 0
  | .svc => 1

/-- Records a refused write: WRREJ_S, its address and its port (R15, R418). -/
def State.refuse (s : State) (p : Port) (a : Nat) : State :=
  ((({ s.raise Reg.SYS_EVENT_WRREJ_S with refusedNow := true }.setFld Reg.SYS_REJ_ADDR a).setFld
    Reg.SYS_REJ_INFO_PORT (Port.code p)).setFld Reg.SYS_REJ_INFO_VALID 1)

/-- Whether the claim of SYS_PORT lets a port write (R417). -/
def State.mayWrite (s : State) (p : Port) : Bool :=
  s.fld Reg.SYS_PORT_OWNER == 0 || s.fld Reg.SYS_PORT_OWNER == Port.code p + 1

/-- Notes a register write of this C-cycle; PORTCOL_S where the other port wrote the same register in it (R418). -/
def State.noteWrite (s : State) (p : Port) (a : Nat) : State :=
  let t := if s.wrNow.any fun e => e.1 != p && e.2 == a then s.raise Reg.SYS_EVENT_PORTCOL_S else s
  { t with wrNow := (p, a) :: t.wrNow }

/-- Whether an address answers (R412): before PLL-C first locks only the SYS and CLK blocks do. Log 136 (DEDUCED). -/
def State.answersAt (s : State) (a : Nat) : Bool := s.clk.locked || decide (a < 0x2000)

/-- A write by a port of the register at `a`: refused under the other port's claim (R417), noted (R418), and carried out. A die that is
held in reset takes no write (R420), and nothing is done at an address that does not answer (R412). Log 136 (DEDUCED). -/
def State.portWrite (s : State) (p : Port) (a : Nat) (body : State → State) : State :=
  if s.boot.held || !s.answersAt a then s
  else if s.mayWrite p then body (s.noteWrite p a) else s.refuse p a

/-- A free value: the n-th draw, where n is the state's counter. Log 5 (DESIGN CHOICE). -/
def State.drawFree (s : State) : Word × State := (Config.freeWord s.free, { s with free := s.free + 1 })

/-- What a port's latch holds for an address (R409). -/
def State.latchAt (s : State) (p : Port) (a : Nat) : Nat := tabGet 0 s.latch (Port.code p * 65536 + a)

/-- Sets a port's latch for an address (R409). -/
def State.setLatch (s : State) (p : Port) (a v : Nat) : State :=
  { s with latch := tabSet 0 s.latch (Port.code p * 65536 + a) v }

/-- The address of a key. -/
def keyAddr (k : Nat) : Nat := k / 32 * 4

/-- Whether a key lies in an address range. -/
def keyIn (lo hi k : Nat) : Bool := decide (lo ≤ keyAddr k) && decide (keyAddr k < hi)

/-- Committed values under the keys that a test picks take effect (R167). -/
def State.takeCom (s : State) (p : Nat → Bool) : State :=
  let t := { s with regs := { s.regs with com := s.regs.com.filter fun e => !p e.1 } }
  (s.regs.com.filter fun e => p e.1).foldl (fun t e =>
    { t with regs := { t.regs with eff := tabSet (resetOf e.1) t.regs.eff e.1 e.2 } }) t

end Sys2Proof.Machine
end

