-- ==== Sys2Proof/Machine/DramOps.lean ====
section
/-!
DEFINITION. Protected memory (R283 to R294): beats and their verdicts, the poison list, and reads and writes within one block of DRAM.
-/

namespace Sys2Proof.Machine

/-- A byte of DRAM as it was written. Log 7 (DESIGN CHOICE). -/
def State.dram (s : State) (a : Nat) : Nat := tabGet 0 s.mem.dram a

/-- Sets a byte of DRAM. -/
def MemRun.put (m : MemRun) (a v : Nat) : MemRun := { m with dram := tabSet 0 m.dram a (v % 256) }

/-- The symbol of a die in an error pattern (R283, R294). -/
def symbolOf (mask d : Nat) : Nat := mask / 256 ^ d % 256

/-- The dies whose symbol an error pattern changes. -/
def wrongDies (mask : Nat) : List Nat := (List.range 10).filter fun d => symbolOf mask d != 0

/-- A verdict of the decoder (R284): clean, corrected in a die (with a pattern that stays in the data where the correction is a
wrong one), or uncorrectable. -/
inductive Verdict | clean (left : Nat) | corrected (die left : Nat) | bad
  deriving DecidableEq, Repr

/-- Exclusive or of naturals. -/
def xorN (a b : Nat) : Nat := Nat.xor a b

/-- The verdict on a pattern over two or more symbols. Log 104 (DESIGN CHOICE). -/
def aliasVerdict (mask n : Nat) : Verdict :=
  let a := Config.rsAlias mask % 2552
  if a = 0 then .bad
  else if a = 1 then (if 3 ≤ n then .clean mask else .bad)
  else .corrected ((a - 2) % 10) (xorN mask ((((a - 2) / 10) % 255 + 1) * 256 ^ ((a - 2) % 10)))

/-- The verdict on an error pattern (R284, R287); `lost` is the marked die. Log 104 (DESIGN CHOICE). -/
def verdict (lost : Option Nat) (mask : Nat) : Verdict :=
  let w := wrongDies mask
  match lost with
  | none =>
    (match w with
    | [] => .clean 0
    | [d] => .corrected d 0
    | _ => aliasVerdict mask w.length)
  | some d => if w.all (· == d) then .clean 0 else .bad

/-- The marked die (R287). -/
def State.lostDie (s : State) : Option Nat :=
  if s.on Reg.MEM_STATUS_LOST then some (s.fld Reg.MEM_STATUS_LOST_DIE) else none

/-- The correction counter of a die (R284, R312). -/
def dieCnt (d : Nat) : Fld := if d % 2 = 0 then Reg.MEM_DIE_CE_LO (d / 2) else Reg.MEM_DIE_CE_HI (d / 2)

/-- Counts an error for its die in the present window (R287). -/
def State.countWin (s : State) (d : Nat) : State :=
  { s with mem := { s.mem with dieWin := tabSet 0 s.mem.dieWin d (tabGet 0 s.mem.dieWin d + 1) } }

/-- A corrected beat is recorded (R284). -/
def State.noteCe (s : State) (d : Nat) : State :=
  (((s.raise Reg.MEM_STATUS_CE_S).count Reg.MEM_CE_CNT).count (dieCnt d)).countWin d

/-- An uncorrectable beat is recorded (R284); beside a marked die its errors count for their dies (R287). -/
def State.noteUe (s : State) (b : Nat) : State :=
  let t := ((s.raise Reg.MEM_STATUS_UE_S).count Reg.MEM_UE_CNT).setFld Reg.MEM_UE_ADDR (8 * b)
  match s.lostDie with
  | none => t
  | some d => ((wrongDies (tabGet 0 s.mem.flips b)).filter (· != d)).foldl State.countWin t

/-- The decoder judges beat `b` (R284): its record, and the pattern left in the data with the beat's poison (R288, R289). -/
def State.judge (s : State) (b : Nat) : State × Nat × Bool :=
  let m := tabGet 0 s.mem.flips b
  let listed := s.mem.plist.contains (b / 8)
  match verdict s.lostDie m with
  | .clean l => (s, l, listed)
  | .corrected d l => (s.noteCe d, l, listed)
  | .bad => (s.noteUe b, m, true)

/-- A byte of a beat as it is delivered, where `left` is the pattern left in the beat. -/
def State.dataByte (s : State) (left a : Nat) : Nat := xorN (s.dram a) (symbolOf left (a % 8))

/-- Reads `n` bytes from `a` within one beat: bytes and poison. -/
def State.readBeat (s : State) (a n : Nat) : State × List Nat × Bool :=
  let j := s.judge (a / 8)
  (j.1, (List.range n).map fun i => s.dataByte j.2.1 (a + i), j.2.2)

/-- Reads a list of beats, each an address and a number of bytes: bytes and poison by byte. -/
def State.readBeats (s : State) : List (Nat × Nat) → State × List Nat × List Bool
  | [] => (s, [], [])
  | (a, n) :: bs =>
    let x := s.readBeat a n
    let y := x.1.readBeats bs
    (y.1, x.2.1 ++ y.2.1, List.replicate n x.2.2 ++ y.2.2)

/-- Every beat of a block is judged, and its data stands as delivered, with fresh check symbols: the Bool says that some beat was
uncorrectable. -/
def State.remakeBlock (s : State) (k : Nat) : State × Bool :=
  (List.range 8).foldl (fun (t, bad) i =>
    let b := 8 * k + i
    let m := tabGet 0 t.mem.flips b
    if m = 0 then (t, bad)
    else
      let j := t.judge b
      let mem := (List.range 8).foldl (fun r x => r.put (8 * b + x) (t.dataByte j.2.1 (8 * b + x))) j.1.mem
      ({ j.1 with mem := { mem with flips := tabSet 0 mem.flips b 0 } },
       bad || (match verdict t.lostDie m with | .bad => true | _ => false))) (s, false)

/-- A block enters the poison list (R289), where the list has room. -/
def State.poisonBlock (s : State) (k : Nat) : State :=
  if s.mem.plist.contains k then s
  else { s with mem := { s.mem with plist := k :: s.mem.plist } }.setFld Reg.MEM_PL_CNT_USED (s.mem.plist.length + 1)

/-- A block leaves the poison list (R289). -/
def State.cureBlock (s : State) (k : Nat) : State :=
  let l := s.mem.plist.filter (· != k)
  { s with mem := { s.mem with plist := l } }.setFld Reg.MEM_PL_CNT_USED l.length

/-- Whether a partial write, or a poisoned one, may land in a block: a new entry needs room (R289). -/
def State.mayPoison (s : State) (k : Nat) : Bool := s.mem.plist.contains k || decide (s.mem.plist.length < 64)

/-- Whether a block holds an uncorrectable beat. -/
def State.blockBad (s : State) (k : Nat) : Bool :=
  anyIdx 8 fun i => match verdict s.lostDie (tabGet 0 s.mem.flips (8 * k + i)) with
    | .bad => true
    | _ => false

/-- A write of bytes that lie in one block (R289): full, or by read, modify and write. `poison` says that the data written is
poisoned. None where the poison list has no room. -/
def State.writeBlock (s : State) (a : Nat) (bytes : List Nat) (poison : Bool) : Option State :=
  let k := a / 64
  let full := decide (bytes.length = 64)
  let need := poison || (!full && s.blockBad k)
  if need && !s.mayPoison k then none
  else
    let s1 := if full then (s.cureBlock k) else (s.remakeBlock k).1
    let s2 := if need then s1.poisonBlock k else s1
    let m := (bytes.zip (List.range bytes.length)).foldl (fun r (v, i) => r.put (a + i) v) s2.mem
    let m2 := if full then { m with flips := (List.range 8).foldl (fun f i => tabSet 0 f (8 * k + i) 0) m.flips } else m
    some { s2 with mem := m2 }

/-- The refusal of a write for a full poison list (R289). -/
def State.plFull (s : State) : State := s.raise Reg.MEM_STATUS_PLFULL_S

end Sys2Proof.Machine
end

