-- ==== Sys2Proof/Machine/Order.lean ====
section
/-!
DEFINITION. The order of the commands of one C-cycle, where the rules give one (R27, R153, R159, R168, R174, R414, R418): a command that
comes before one that must act first is put off, and acts once the queue is empty, before the C-cycle ends. Log 3 (DEDUCED).
-/

namespace Sys2Proof

open Machine

/-- The port and the register address of a command that is a write of one register. -/
def Instr.target : Instr → Option (Port × Nat)
  | .registerWrite p a _ => some (p, 4 * a)
  | .expertCellWrite p o _ => some (p, 0x100000 + 4 * o)
  | .groupStart p g | .groupStop p g => some (p, (Reg.GFM_CTRL_EN g).addr)
  | .setpointWrite p g k _ => some (p, (Reg.GFM_PSET g).addr + 4 * k)
  | .secOffsetWrite (some p) g dv _ => some (p, if dv then (Reg.GFM_SEC_DV g).addr else (Reg.GFM_SEC_DF g).addr)
  | .syncArm p g | .syncDisarm p g => some (p, (Reg.GFM_SYNC_CTRL_ARM g).addr)
  | .grtKick p _ => some (p, Reg.GRT_KICK_CTX.addr)
  | .contextEnable p n | .contextDisable p n => some (p, (Reg.GRT_CTX_CTRL_EN n).addr)
  | .imageVerify p _ | .imageDiscard p => some (p, Reg.STG_ATL_CTRL_SLOT.addr)
  | .survey p | .commitGo p | .draftDiscard p | .cdraftClear p => some (p, Reg.STG_CTRL_SURVEY.addr)
  | .cdraftAppend p _ => some (p, Reg.STG_CDRAFT_DATA.addr)
  | .injectRequest (some p) _ => some (p, Reg.ADC_INJ_KICK.addr)
  | .calZero p _ _ | .calSpan p _ _ | .calCompute p _ _ => some (p, Reg.ADC_CAL_CMD_START.addr)
  | .polarityCheck p _ _ _ _ => some (p, Reg.ADC_POL_CFG_START.addr)
  | .softwareTrip p _ => some (p, Reg.TRP_SW_SET.addr)
  | .tripClear p k _ => some (p, (Reg.TRP_CLR k).addr)
  | .bandTableClear p => some (p, Reg.CLK_BAND_CTRL_CLEAR.addr)
  | .dieMark p _ | .dieUnmark p => some (p, Reg.MEM_DIE_CTRL_DIE.addr)
  | .errataAdd p _ | .errataRemove p _ => some (p, Reg.MEM_ERRATA_CTRL_BLOCK.addr)
  | .checkerInject p => some (p, Reg.MEM_INJ_CTRL_GO.addr)
  | .copyStart p c | .dmaResume p c => some (p, (Reg.DMA_CH_CTRL_START c).addr)
  | .recorderArm p k | .recorderForce p k => some (p, (Reg.CTR_SEQ_CTRL_ARM k).addr)
  | .tuneStart p g | .tuneAbort p g => some (p, (Reg.SND_G_TUNE_GO g).addr)
  | .bearingTxGo p g | .bearingTxCancel p g => some (p, (Reg.BRG_G_TX_CTRL_GO g).addr)
  | .handoverRequest p => some (p, Reg.TWN_CTRL_HANDOVER.addr)
  | .sdcReset p => some (p, Reg.SDC_CTRL_RESET.addr)
  | .provision p _ | .revoke p _ | .advance p _ | .clearTamper p => some (p, Reg.SEC_CMD_CTRL_GO.addr)
  | .patchLoad p => some (p, Reg.SEC_PATCH_CTRL_LOAD.addr)
  | .attestReport p => some (p, Reg.SEC_ATT_CTRL_GO.addr)
  | .rtcSet p => some (p, Reg.SEC_RTC_CTRL_SET.addr)
  | .sealNow p => some (p, Reg.SEC_TALLY_CTRL_SEAL_NOW.addr)
  | .portClaim p _ => some (p, Reg.SYS_PORT_OWNER.addr)
  | .warmReset p _ => some (p, Reg.SYS_RESET_WARM.addr)
  | .bootStart p _ => some (p, Reg.SYS_BOOT_CTRL_SLOT.addr)
  | .standbyEnter p | .standbyCancel p => some (p, Reg.SYS_STBY_CTRL_ENTER.addr)
  | _ => none

/-- The words that a command writes: port, address and value, of a frame one after the other. -/
def Instr.writtenWords : Instr → List (Port × Nat × Nat)
  | .hostWrite p a l _ => (List.range l.length).map fun i => (p, a.toNat + 4 * i, (l.getD i 0).toNat)
  | .hostWriteFixed p a l _ => l.map fun w => (p, a.toNat, w.toNat)
  | .registerWrite p a v => [(p, 4 * a, v.toNat)]
  | _ => []

/-- Whether a command writes a register by a port. -/
def Instr.writesReg (i : Instr) (p : Port) (a : Nat) : Bool :=
  i.target == some (p, a) || i.writtenWords.any fun x => x.1 == p && x.2.1 == a

/-- Whether a command asks for SURVEY or GO (R159). -/
def Instr.asksSurvey : Instr → Bool
  | .survey _ | .commitGo _ => true
  | i => i.writtenWords.any fun x => x.2.1 == Reg.STG_CTRL_SURVEY.addr && (bitOf x.2.2 Reg.STG_CTRL_SURVEY.lo || bitOf x.2.2 Reg.STG_CTRL_GO.lo)

/-- Whether a register beside STG_CTRL takes drafts (R157, R162, R207). -/
def draftsAt (a : Nat) : Bool :=
  a == Reg.STG_CDRAFT_DATA.addr || a == Reg.ADC_CAL_CMD_START.addr || (rowsAt a).any Row.isD

/-- Whether a command acts before a trigger of its C-cycle (R168, R174): the commit at T, and the END of an execution. -/
def Instr.beforeTrigger : Instr → Bool
  | .commitApply | .opEnd _ => true
  | _ => false

/-- Whether a command acts before an update point of its C-cycle (R27, R168, R212, R231): outputs, trips, and what acts before a trigger. -/
def Instr.beforeUpdate : Instr → Bool
  | .opOut _ | .carrierOrigin | .commitApply | .opEnd _ => true
  | _ => false

/-- Whether a command acts before a Bearing frame, before tuning and before a burst of a group, where they fall due in one C-cycle (R339);
what gives a rotor tick boundary acts before a retune (R330). -/
def Instr.beforeFrameTx (g : Fin 8) : Instr → Bool
  | .bearingAckSend h => h == g
  | _ => false
def Instr.beforeTune (g : Fin 8) (i : Instr) : Bool := i.beforeFrameTx g || i == .bearingTxStart g
def Instr.beforeBurst (g : Fin 8) (i : Instr) : Bool := i.beforeTune g || i.writesReg .host (Reg.SND_G_TUNE_GO g).addr
  || i.writesReg .svc (Reg.SND_G_TUNE_GO g).addr
def Instr.beforeRetune (g : Fin 8) : Instr → Bool
  | .rotorTick h _ => h == g
  | _ => false

/-- Whether a command acts before an expiry of WITHIN in its C-cycle (R321): all do but other such expiries. -/
def Instr.beforeExpiry : Instr → Bool
  | .seqWithinTimeout _ => false
  | _ => true

/-- Whether a command is a frame of the host port (R414). -/
def Instr.hostFrame : Instr → Bool
  | .hostWrite .host _ _ _ | .hostWriteFixed .host _ _ _ | .hostNop .host _ _ _ _ | .hostRead .host _ _ _ => true
  | _ => false

/-- Whether a command acts before a write of its C-cycle by a port at an address: SURVEY and GO before a D write (R159), the host before the
service port at one register (R418), the commit before an expert write and a kick (R168, R174), and frames of Bearing before tuning
(R339). -/
def Instr.beforeWrite (i : Instr) (p : Port) (a : Nat) : Bool :=
  (p == .svc && i.writesReg .host a)
    || (i.asksSurvey && a != Reg.STG_CTRL_SURVEY.addr && draftsAt a)
    || (decide (0x100000 ≤ a) && i == .commitApply)
    || (a == Reg.GRT_KICK_CTX.addr && i.beforeTrigger)
    || (List.finRange 8).any fun g => a == (Reg.SND_G_TUNE_GO g).addr && i.beforeTune g

/-- Whether a command acts before the words that a frame, or a plain write, of its C-cycle writes: as before each of them, but that a frame
which itself asks for SURVEY or GO stands behind the host's write of STG_CTRL alone, and a host frame that writes STG_CTRL never behind the
service port's SURVEY and GO, which stand behind it. -/
def Instr.beforeFrame (i f : Instr) : Bool :=
  if f.asksSurvey then f.writtenWords.any fun x => x.1 == .svc && i.writesReg .host Reg.STG_CTRL_SURVEY.addr
  else if f.writesReg .host Reg.STG_CTRL_SURVEY.addr && i.writesReg .svc Reg.STG_CTRL_SURVEY.addr then false
  else f.writtenWords.any fun x => i.beforeWrite x.1 x.2.1

end Sys2Proof

namespace Sys2Proof.Machine

/-- Whether a command of this C-cycle that has yet to act has a property. -/
def State.awaits (s : State) (q : Instr → Bool) : Bool := (s.pending ++ s.later).any q

/-- A command is put off to the end of its C-cycle. Log 3 (DEDUCED). -/
def State.putOff (s : State) (c : Instr) : State := { s with later := s.later ++ [c] }

/-- What a command does, after those of its C-cycle that act before it. Log 3 (DEDUCED). -/
def State.inOrder (s : State) (c : Instr) (q : Instr → Bool) (body : State → State) : State :=
  if s.awaits q then s.putOff c else body s

/-- A command that is a write of the register at `a` by a port. Log 3 (DEDUCED). -/
def State.portCmd (s : State) (c : Instr) (p : Port) (a : Nat) (body : State → State) : State :=
  s.inOrder c (fun i => i.beforeWrite p a) fun t => t.portWrite p a body

end Sys2Proof.Machine
end

