-- ==== Sys2Proof/Machine/EngineDecode.lean ====
section
/-!
DEFINITION. The operation word of the Graticule engine: its fields (R101), its codes (R102), an encoder for the image's
programs, and the issue rules of bundles and repetition (R104 to R106).
-/

namespace Sys2Proof.Machine

/-- The fields of an operation word (R101). -/
structure OpWord where
  op : Nat
  d : Nat
  a : Nat
  b : Nat
  eob : Bool
  imm : Nat
  deriving DecidableEq, Repr

/-- The fields that a 32-bit operation word spells (R101). -/
def decodeOp (w : Nat) : OpWord :=
  { op := w / 2 ^ 26 % 64, d := w / 2 ^ 21 % 32, a := w / 2 ^ 16 % 32, b := w / 2 ^ 11 % 32,
    eob := bitOf w 10, imm := w % 1024 }

/-- The 32-bit word of an operation (R101). -/
def encodeOp (o : OpWord) : Nat :=
  o.op * 2 ^ 26 + o.d * 2 ^ 21 + o.a * 2 ^ 16 + o.b * 2 ^ 11 + asNat o.eob * 2 ^ 10 + o.imm

/-- Whether the fields fit their places (R101) and the code is one of R102. -/
def OpWord.wf (o : OpWord) : Bool :=
  decide (o.op ≤ 0x21) && decide (o.d < 32) && decide (o.a < 32) && decide (o.b < 32) && decide (o.imm < 1024)

/-- The operation codes (R102). -/
def opNOP : Nat := 0x00
def opLDC : Nat := 0x01
def opLDS : Nat := 0x02
def opSTS : Nat := 0x03
def opIN : Nat := 0x04
def opOUT : Nat := 0x05
def opADD : Nat := 0x06
def opSUB : Nat := 0x07
def opNEG : Nat := 0x08
def opABS : Nat := 0x09
def opMIN : Nat := 0x0A
def opMAX : Nat := 0x0B
def opLIMIT : Nat := 0x0C
def opSEL : Nat := 0x0D
def opSHIFT : Nat := 0x0E
def opCLR : Nat := 0x0F
def opMUL : Nat := 0x10
def opMAC : Nat := 0x11
def opMSU : Nat := 0x12
def opMAC2 : Nat := 0x13
def opMULC : Nat := 0x14
def opMACC : Nat := 0x15
def opMSUC : Nat := 0x16
def opMACC2 : Nat := 0x17
def opRND : Nat := 0x18
def opWRAP : Nat := 0x19
def opSINCOS : Nat := 0x1A
def opDIV : Nat := 0x1B
def opSQRT : Nat := 0x1C
def opREP : Nat := 0x1D
def opFLAG : Nat := 0x1E
def opFETCH : Nat := 0x1F
def opWAITF : Nat := 0x20
def opEND : Nat := 0x21

/-- The codes whose IMM addresses a REP body steps (R105). -/
def stepsImm (op : Nat) : Bool :=
  [opLDC, opLDS, opSTS, opMULC, opMACC, opMSUC, opMACC2, opFETCH].contains op

/-- Whether an operation yields a boundary by itself (R104). -/
def OpWord.bounds (o : OpWord) : Bool := o.eob || o.op == opEND

/-- The context CFG fields (R132, R139). -/
def cfgCell (w : Nat) : Nat := w % 32
def cfgPrio (w : Nat) : Nat := w / 2 ^ 5 % 4
def cfgTrig (w : Nat) : Nat := w / 2 ^ 7 % 4
def cfgSrc (w : Nat) : Nat := w / 2 ^ 9 % 512
def cfgEntry (w : Nat) : Nat := w / 2 ^ 18 % 512
def cfgGroup (w : Nat) : Nat := w / 2 ^ 27 % 8
def cfgCmpOut (w : Nat) : Bool := bitOf w 30
def cfgDefined (w : Nat) : Bool := bitOf w 31

/-- Where an operation word sends the program position: through a REP body pass by pass, else on (R105). The Bool says
that a boundary follows (R104). Log 30 (DEDUCED). -/
def nextPos (o : OpWord) (pc : Nat) (rep : Option RepRun) : Nat × Option RepRun × Bool :=
  if o.op = opREP then
    (pc + 1, some ⟨pc + 1, o.a + 1, o.b, 0, o.imm % 256 + 1⟩, o.bounds)
  else
    match rep with
    | none => (pc + 1, none, o.bounds)
    | some r =>
      if pc + 1 = r.start + r.len then
        if r.pass + 1 < r.total then (r.start, some { r with pass := r.pass + 1 }, true)
        else (pc + 1, none, true)
      else (pc + 1, some r, o.bounds)

/-- The IMM of an operation with its address step in the pass (R105). -/
def stepImm (o : OpWord) (rep : Option RepRun) : Nat :=
  match rep with
  | none => o.imm
  | some r => if stepsImm o.op then o.imm + r.pass * r.step else o.imm

end Sys2Proof.Machine
end

