-- ==== Sys2Proof/Machine/EngineCore.lean ====
section
/-!
DEFINITION. The operations over cells and contexts: register banks and accumulators (R91, R97), cell memory with its check
bits (R92 to R95), the image's view of a context, and the issue of one operation (R104, R106, R112).
-/

namespace Sys2Proof.Machine

/-- NaV as a register or memory word (R6). -/
def navN : Nat := 0x80000000

/-- Whether a word is NaV (R6). -/
def isNav (w : Nat) : Bool := w == navN

/-- The signed value of a word. -/
def wInt (w : Nat) : Int := signedOf 32 w

/-- The word of an exact value saturated symmetrically (R5). -/
def satN (i : Int) : Nat := unsignedOf 32 (clampInt i)

/-- The run record of a context. -/
def State.ctx (s : State) (n : Nat) : CtxRun := tabGet {} s.eng.ctx n

/-- Sets the run record of a context. -/
def State.setCtx (s : State) (n : Nat) (r : CtxRun) : State :=
  { s with eng := { s.eng with ctx := tabSet {} s.eng.ctx n r } }

/-- The context that issues on a cell. -/
def State.runs (s : State) (c : Nat) : Option Nat := tabGet none s.eng.running c

/-- Sets the context that issues on a cell. -/
def State.setRuns (s : State) (c : Nat) (n : Option Nat) : State :=
  { s with eng := { s.eng with running := tabSet none s.eng.running c n } }

/-- The settings of a context (R107): 0 for one that no image in force defines. -/
def State.cfg (s : State) (n : Nat) : Nat := tabGet 0 s.eng.cfgs n

/-- The priority level of a context. -/
def State.prio (s : State) (n : Nat) : Nat := cfgPrio (s.cfg n)

/-- The cell of a context. -/
def State.cellOf (s : State) (n : Nat) : Nat := cfgCell (s.cfg n)

/-- The group whose fault actions apply to a context. -/
def State.groupOf (s : State) (n : Nat) : Nat := cfgGroup (s.cfg n)

/-- Whether a context is one of a retiring image, which runs on the old copies (R153). -/
def oldCtx (n : Nat) : Bool := decide (128 ≤ n)

/-- The bank key of register `r` of the context's level on its cell (R91). A bank has 32 registers: the second of a pair that begins
at register 31, which no surveyed program names (R103), is register 0 (DESIGN CHOICE). -/
def State.bankKey (s : State) (n r : Nat) : Nat := (s.cellOf n * 4 + s.prio n) * 32 + r % 32

/-- A register of the running context's bank (R102). -/
def State.reg (s : State) (n r : Nat) : Nat := tabGet 0 s.eng.banks (s.bankKey n r) % 2 ^ 32

/-- Writes a register of the running context's bank. -/
def State.setReg (s : State) (n r w : Nat) : State :=
  { s with eng := { s.eng with banks := tabSet 0 s.eng.banks (s.bankKey n r) (w % 2 ^ 32) } }

/-- An accumulator of the running context's bank (R97). -/
def State.acc (s : State) (n i : Nat) : Acc := tabGet {} s.eng.accs ((s.cellOf n * 4 + s.prio n) * 2 + i)

/-- Writes an accumulator of the running context's bank. -/
def State.setAcc (s : State) (n i : Nat) (a : Acc) : State :=
  { s with eng := { s.eng with accs := tabSet {} s.eng.accs ((s.cellOf n * 4 + s.prio n) * 2 + i) a } }

/-- The largest magnitude of an accumulator, 2^15 − 2^−56 in Q15.56 (R97). -/
def accLimit : Int := 2 ^ 71 - 1

/-- An accumulator value bounded as R97 states. -/
def accClamp (v : Int) : Int := if accLimit < v then accLimit else if v < -accLimit then -accLimit else v

/-- The format map of the cell that an execution uses (R93, R153). -/
def State.cfmap (s : State) (n : Nat) : Nat :=
  tabGet 0x55 s.eng.cfmaps (if oldCtx n then 32 + s.cellOf n else s.cellOf n)

/-- The format code of the segment of a coefficient word (R93). -/
def segFormat (cfmap i : Nat) : Nat := cfmap / 4 ^ (i / 256 % 4) % 4

/-- Fraction bits of a format code (R93). -/
def fracBits (code : Nat) : Nat :=
  match code with
  | 0 => 30
  | 1 => 28
  | 2 => 24
  | _ => 16

/-- Whether an execution runs on the old copies (R153, R168). -/
def State.onOld (s : State) (n : Nat) : Bool := oldCtx n || (s.ctx n).old

/-- The copy of coefficient memory that an execution reads (R153, R168). -/
def State.coefWord (s : State) (n i : Nat) : MWord :=
  tabGet {} (if s.onOld n then s.eng.coefOld else s.eng.coef) (s.cellOf n * 1024 + i % 1024)

/-- The copy of bundle memory that an execution issues from. -/
def State.bunWord (s : State) (n i : Nat) : MWord :=
  tabGet {} (if s.onOld n then s.eng.bunOld else s.eng.bun) (s.cellOf n * 512 + i % 512)

/-- A word of state memory. -/
def State.stWord (s : State) (c i : Nat) : MWord := tabGet {} s.eng.st (c * 512 + i % 512)

/-- Writes a word of state memory, which also ends its poison (R95). -/
def State.setSt (s : State) (c i : Nat) (w : MWord) : State :=
  { s with eng := { s.eng with st := tabSet {} s.eng.st (c * 512 + i % 512) w } }

/-- The host address of a coefficient, state or bundle word (R92). -/
def coefAddr (c i : Nat) : Nat := 0x100000 + 0x8000 * c + 4 * i
def stAddr (c i : Nat) : Nat := 0x101000 + 0x8000 * c + 4 * i
def bunAddr (c i : Nat) : Nat := 0x102000 + 0x8000 * c + 4 * i

/-- The record of a word with an error that a read has found (R94, R95): its host address, and whether in the staging copy. -/
def foundId (addr : Nat) (stg : Bool) : Nat := 2 * addr + if stg then 1 else 0

/-- A read has found an error in a word. -/
def State.noteFound (s : State) (addr : Nat) (stg : Bool) : State :=
  if s.eng.found.contains (foundId addr stg) then s
  else { s with eng := { s.eng with found := foundId addr stg :: s.eng.found } }

/-- The DRAM address of the mirror word of a coefficient or bundle word (R95, R285): two banks of one copy each, which exchange their
roles at each flip. Log 161 (DESIGN CHOICE). -/
def State.mirrorAddr (s : State) (c : Nat) (bun stg : Bool) (i : Nat) : Nat :=
  0x00400000 + (if stg != s.mem.bank then 0x30000 else 0)
    + (if bun then 0x20000 + 0x800 * c + 4 * (i % 512) else 0x1000 * c + 4 * (i % 1024))

/-- A write of a coefficient or bundle word rewrites its mirror word: a write of less than a block (R95, R289), which leaves a listed block
listed, lists one that holds an uncorrectable beat, and is refused where the list is full. -/
def State.mirrorWrite (s : State) (c : Nat) (bun stg : Bool) (i : Nat) : State :=
  let k := s.mirrorAddr c bun stg i / 64
  if !s.blockBad k then (s.remakeBlock k).1
  else if s.mayPoison k then (s.remakeBlock k).1.poisonBlock k
  else s.plFull

/-- The record of a word found bad after the copies of its cell have changed places: state memory has one copy. -/
def foundFlip (id : Nat) : Nat :=
  if (id / 2 - 0x100000) % 0x8000 / 0x800 = 2 then id else if id % 2 = 0 then id + 1 else id - 1

/-- The mirror bank of the staging copies is rewritten whole as the copies are filled (R95, R290). -/
def State.mirrorFill (s : State) : State :=
  let a := s.mirrorAddr 0 false true 0
  let l := s.mem.plist.filter fun k => !(decide (a / 64 ≤ k) && decide (k < a / 64 + 0x30000 / 64))
  { s with
    eng := { s.eng with found := s.eng.found.filter fun id => id % 2 == 0 },
    mem := { s.mem with flips := s.mem.flips.filter fun e => !(decide (a / 8 ≤ e.1) && decide (e.1 < a / 8 + 0x30000 / 8)),
                               plist := l } }.setFld Reg.MEM_PL_CNT_USED l.length

/-- What a read of a cell-memory word records (R94): nothing, a correction, or an uncorrectable error; `stg` says that the word stands
in the staging copy. -/
def State.eccRead (s0 : State) (c addr : Nat) (stg : Bool) (w : MWord) : State :=
  let s := s0.noteFound addr stg
  match w.ecc with
  | .ok => s0
  | .single =>
    ((s.count Reg.GRT_ECC_CNT_CE_CNT).raise Reg.GRT_STATUS_CE_S).raise (Reg.GRT_CELL_STATUS_CE_S c)
  | .bad =>
    (((s.count Reg.GRT_ECC_CNT_UE_CNT).raise Reg.GRT_STATUS_UE_S).raise (Reg.GRT_CELL_STATUS_UE_S c)).setFld
      Reg.GRT_UE_ADDR addr

/-- The operand that a read of a word gives an operation: NaV where it is poisoned (R94). -/
def MWord.operand (w : MWord) : Nat := if w.ecc = .bad then navN else w.val

/-- An operation's read of a coefficient word: the operand and the state with the error recorded (R94). -/
def State.readCoef (s : State) (n i : Nat) : Nat × State :=
  let w := s.coefWord n i
  let t := s.eccRead (s.cellOf n) (coefAddr (s.cellOf n) (i % 1024)) (s.onOld n) w
  (w.operand, if w.ecc = .bad then t.raise (Reg.GRT_CTX_STATUS_POIS_S (n % 128)) else t)

/-- An operation's read of a state word (R94). -/
def State.readSt (s : State) (n i : Nat) : Nat × State :=
  let w := s.stWord (s.cellOf n) i
  let t := s.eccRead (s.cellOf n) (stAddr (s.cellOf n) (i % 512)) false w
  (w.operand, if w.ecc = .bad then t.raise (Reg.GRT_CTX_STATUS_POIS_S (n % 128)) else t)

/-- Whether a level's bank on a cell is held by a pre-empted or waiting context (R111, R123). -/
def State.bankHeld (s : State) (c lvl : Nat) : Bool :=
  s.eng.ctx.any fun e => (e.2.phase == .preempted || e.2.phase == .waiting || e.2.phase == .again) && s.cellOf e.1 == c &&
    s.prio e.1 == lvl

/-- Whether a context could start at a higher level than `n` on its cell (R112, R123): triggered, with its level's bank free, or again
after a WAITF. -/
def State.higherReady (s : State) (n : Nat) : Bool :=
  s.eng.ctx.any fun e => ((e.2.phase == .ready && !s.bankHeld (s.cellOf n) (s.prio e.1)) || e.2.phase == .again) &&
    s.cellOf e.1 == s.cellOf n && decide (s.prio e.1 < s.prio n)

/-- The context that may issue on a cell now: the running one, unless it stands at a bundle boundary while a context of a
higher level is ready (R112). -/
def State.issuer (s : State) (c : Nat) : Option Nat :=
  match s.runs c with
  | none => none
  | some n =>
    if (s.ctx n).phase = .running ∧ ¬((s.ctx n).boundary && s.higherReady n) then some n else none

/-- The operation at a context's position (R101). -/
def State.curOp (s : State) (n : Nat) : OpWord := decodeOp (s.bunWord n (s.ctx n).pc).val

/-- Moves a context past the operation at its position (R104, R105). -/
def State.advance (s : State) (n : Nat) : State :=
  let r := s.ctx n
  let p := nextPos (s.curOp n) r.pc r.rep
  s.setCtx n { r with pc := p.1, rep := p.2.1, boundary := p.2.2, firstIssue := some (r.firstIssue.getD s.now) }

/-- Records that a word result saturated (R98, R99). -/
def State.satFlag (s : State) (n : Nat) (b : Bool) : State :=
  if b then s.raise (Reg.GRT_CTX_STATUS_SAT_S (n % 128)) else s

/-- Records that an accumulator saturated (R97). -/
def State.asatFlag (s : State) (n : Nat) (b : Bool) : State :=
  if b then s.raise (Reg.GRT_CTX_STATUS_ASAT_S (n % 128)) else s

/-- Writes an exact result to a register, saturated, with SAT_S where saturation changes it (R99). -/
def State.setSat (s : State) (n d : Nat) (i : Int) : State := (s.setReg n d (satN i)).satFlag n (satActs i)

end Sys2Proof.Machine
end

