-- ==== Sys2Proof/Machine/EngineArith.lean ====
section
/-!
DEFINITION. What each arithmetic operation of the engine computes (R97 to R102), over the running context of a cell. The
issue of an operation is one shared frame; each operation gives its body.
-/

namespace Sys2Proof.Machine

/-- The word of a register or NaV rule for a one-operand result (R99, R100). -/
def State.unary (s : State) (n : Nat) (o : OpWord) (f : Int → Int) : State :=
  if isNav (s.reg n o.a) then s.setReg n o.d navN else s.setSat n o.d (f (wInt (s.reg n o.a)))

/-- A two-operand result with NaV propagation and saturation (R99, R100). -/
def State.binary (s : State) (n : Nat) (o : OpWord) (f : Int → Int → Int) : State :=
  if isNav (s.reg n o.a) || isNav (s.reg n o.b) then s.setReg n o.d navN
  else s.setSat n o.d (f (wInt (s.reg n o.a)) (wInt (s.reg n o.b)))

/-- The shift count of SHIFT, −32 to +31 (R102). -/
def shiftCount (imm : Nat) : Int := signedOf 6 (imm % 64)

/-- The exact result of SHIFT, rounded on a right shift (R102). -/
def shiftExact (v k : Int) : Int := if 0 ≤ k then v * 2 ^ k.toNat else roundShift v (-k).toNat

/-- The quotient of DIV in Q3.28, rounded to nearest with ties away from zero (R102). -/
def divExact (x y : Int) : Int := roundDiv (if 0 ≤ y then x * 2 ^ 28 else -(x * 2 ^ 28)) y.natAbs

/-- The root of SQRT in Q3.28, rounded to nearest (R102). -/
def sqrtExact (x : Nat) : Nat := roundSqrt (x * 2 ^ 28)

/-- A product aligned into Q15.56 for a coefficient of a format code (R97). -/
def alignCoef (x c : Int) (code : Nat) : Int :=
  match code with
  | 0 => (x * c).fdiv 4
  | 1 => x * c
  | 2 => x * c * 2 ^ 4
  | _ => x * c * 2 ^ 12

/-- Adds an aligned product to an accumulator, bounded, with ASAT_S where the bound acts (R97); NaV sets the flag (R100).
Log 113 (DESIGN CHOICE). -/
def State.accumulate (s : State) (n i : Nat) (nav : Bool) (p : Int) : State :=
  let a := s.acc n i
  if nav then s.setAcc n i { a with nav := true }
  else (s.setAcc n i { a with val := accClamp (a.val + p) }).asatFlag n (decide (accClamp (a.val + p) ≠ a.val + p))

/-- Replaces an accumulator by an aligned product (MUL, MULC), which clears the NaV flag unless an operand is NaV (R100).
Log 113 (DESIGN CHOICE). -/
def State.loadAcc (s : State) (n i : Nat) (nav : Bool) (p : Int) : State :=
  (s.setAcc n i { val := if nav then 0 else accClamp p, nav := nav }).asatFlag n (!nav && decide (accClamp p ≠ p))

/-- Whether an operand of a register product is NaV, and the product. -/
def State.regProd (s : State) (n ra rb : Nat) : Bool × Int :=
  (isNav (s.reg n ra) || isNav (s.reg n rb), wInt (s.reg n ra) * wInt (s.reg n rb))

/-- The product of a register and coefficient word `i`, aligned, with the read's record (R94, R97). -/
def State.coefProd (s : State) (n ra i : Nat) : Bool × Int × State :=
  let r := s.readCoef n i
  (isNav (s.reg n ra) || isNav r.1, alignCoef (wInt (s.reg n ra)) (wInt r.1) (segFormat (s.cfmap n) i), r.2)

/-- RND: an accumulator rounded into a format (R98). -/
def State.rnd (s : State) (n d i code : Nat) : State :=
  if (s.acc n i).nav then s.setReg n d navN
  else s.setSat n d (roundShift (s.acc n i).val (56 - fracBits code))

/-- One term of a Taylor series: x^2 times the term over a divisor, in Q60. -/
def taylorTerm (t x2 : Int) (k : Nat) : Int := -((t * x2).fdiv (2 ^ 60 * k))

/-- A Taylor sum of `fuel` terms from the term `t` with divisors (k+1)(k+2), in Q60. -/
def taylorSum (x2 : Int) : Nat → Nat → Int → Int
  | 0, _, _ => 0
  | fuel + 1, k, t => t + taylorSum x2 fuel (k + 2) (taylorTerm t x2 ((k + 1) * (k + 2)))

/-- The sine of an angle in Q3.28, rounded to nearest: a reference far inside the error that R102 allows. Log 112 (DESIGN CHOICE). -/
def sinRef (th : Int) : Int :=
  let x := wrapAngle th * 2 ^ 32
  roundShift (taylorSum ((x * x).fdiv (2 ^ 60)) 14 1 x) 32

/-- The cosine of an angle in Q3.28, rounded to nearest. -/
def cosRef (th : Int) : Int :=
  let x := wrapAngle th * 2 ^ 32
  roundShift (taylorSum ((x * x).fdiv (2 ^ 60)) 14 0 (2 ^ 60)) 32

/-- The largest error of SINCOS in Q3.28 units: 3 × 10^−7, less the reference's own half unit (R102). Log 112 (DESIGN CHOICE). -/
def sincosErr : Int := 79

/-- The free error of SINCOS for an operand, within the bound of R102. Log 112 (DESIGN CHOICE). Log 112 (DESIGN CHOICE). -/
def sincosDev (w : Nat) (which : Nat) : Int := (Config.sincosDev w which).toNat % 159 - sincosErr

/-- Sine and cosine as the engine gives them: the reference and a free error within the bound (R102). -/
def sinOf (w : Nat) : Int := sinRef (wInt w) + sincosDev w 0
def cosOf (w : Nat) : Int := cosRef (wInt w) + sincosDev w 1

end Sys2Proof.Machine
end

