-- ==== Sys2Proof/Machine/SoundCore.lean ====
section
/-!
DEFINITION. What other families ask of a group's injector: the states of its generator (R325, R327, R339), a burst that is abandoned
(R327), a Bearing frame that is stopped (R336), and what a change of mode or a binding limiter means for both.
-/

namespace Sys2Proof.Machine

/-- The records of a generator and of a node. -/
def State.gen (s : State) (g : Nat) : SndGen := tabGet {} s.snd.gen g
def State.setGen (s : State) (g : Nat) (r : SndGen) : State := { s with snd := { s.snd with gen := tabSet {} s.snd.gen g r } }
def State.node (s : State) (g : Nat) : BrgNode := tabGet {} s.snd.node g
def State.setNode (s : State) (g : Nat) (r : BrgNode) : State :=
  { s with snd := { s.snd with node := tabSet {} s.snd.node g r } }

/-- The states of a generator (R341). -/
def gIDLE : Nat := 0
def gWAIT : Nat := 1
def gBURST : Nat := 2
def gTUNE : Nat := 3
def gBEARING : Nat := 4

/-- The state of a generator. -/
def State.genState (s : State) (g : Nat) : Nat := s.fld (Reg.SND_G_STATUS_STATE g)

/-- A polarity check ends WEAK because its generator has left BURST and TUNE (R331). -/
def State.polWeak (s : State) : State :=
  (({ s with adc := { s.adc with pol := none } }.setFld Reg.ADC_POL_STAT_BUSY 0).setFld Reg.ADC_POL_STAT_VERDICT 3).raise
    Reg.ADC_STATUS_POLDONE_S

/-- Whether a polarity check takes its reference from a generator (R208, R331). -/
def State.polUses (s : State) (g : Nat) : Bool :=
  match s.adc.pol with
  | none => false
  | some r => r.refKind == 1 && r.ref == g

/-- A generator changes state. -/
def State.setGenState (s : State) (g st : Nat) : State :=
  let t := s.setFld (Reg.SND_G_STATUS_STATE g) st
  if st ≠ gBURST ∧ st ≠ gTUNE ∧ s.polUses g = true then t.polWeak else t

/-- The random delay of a burst, in C-cycles (R327): 0 to a quarter of PERIOD. -/
def State.drawDelay (s : State) (g : Nat) : Nat × State :=
  let a := s.drawFree
  let b := a.2.drawFree
  ((a.1.toNat * 2 ^ 32 + b.1.toNat) % (s.fld (Reg.SND_G_CFG_PERIOD g) * 100000000 + 1), b.2)

/-- A use of the generator has ended: no injection, and WAIT or IDLE by EN. -/
def State.genRest (s : State) (g : Nat) : State :=
  let t := ((s.setFld (Reg.SND_G_INJ_A g) 0).setFld (Reg.SND_G_INJ_B g) 0)
  (t.setGen g { t.gen g with sums := [], nV := 0, nI := 0 }).setGenState g (if t.on (Reg.SND_G_CFG_EN g) then gWAIT else gIDLE)

/-- A burst has ended or is abandoned (R327): the generator rests, and the count of R327 starts again with a new delay. -/
def State.burstRest (s : State) (g : Nat) : State :=
  if s.on (Reg.SND_G_CFG_EN g) then
    let d := s.drawDelay g
    (d.2.setGen g { d.2.gen g with waitFrom := s.now, delay := d.1 }).genRest g
  else s.genRest g

/-- A burst is abandoned (R327). -/
def State.abandonBurst (s : State) (g : Nat) : State :=
  if s.genState g = gBURST then
    ((s.burstRest g).raise (Reg.SND_G_STATUS_ABORT_S g)).count (Reg.SND_G_CNT_ABORT_CNT g)
  else s

/-- TXSTATE follows the node (R337, R342). -/
def State.noteTx (s : State) (g : Nat) : State :=
  let r := s.node g
  s.setFld (Reg.BRG_G_STATUS_TXSTATE g)
    (if r.sending.isSome then 2 else if r.ackWait.isSome then 3 else if r.queue.isEmpty then 0 else 1)

/-- A node begins to wait for the channel with a backoff of 0 to 15 slots (R336). Log 195 (DESIGN CHOICE). -/
def State.freshWait (s : State) (g : Nat) (r : BrgNode) : State :=
  let d := s.drawFree
  d.2.setNode g { r with waitFrom := s.eng.real, slots := d.1.toNat % 16 }

/-- A frame joins its node's queue; the first begins to wait for the channel (R336). -/
def State.queueTx (s : State) (g : Nat) (f : TxFrame) : State :=
  let r := s.node g
  let q := { r with queue := r.queue ++ [f] }
  (if r.queue.isEmpty then s.freshWait g q else s.setNode g q).noteTx g

/-- A frame takes the head of its node's queue again (R336), behind one whose ACK is awaited. -/
def State.requeueTx (s : State) (g : Nat) (f : TxFrame) : State :=
  let r := s.node g
  let n := if r.ackWait.isSome then 1 else 0
  (s.freshWait g { r with queue := r.queue.take n ++ f :: r.queue.drop n }).noteTx g

/-- A frame that is being sent stops at once (R336): TXFAIL_S, and a unicast frame waits to be sent again, up to three times. -/
def State.stopFrame (s : State) (g : Nat) : State :=
  match (s.node g).sending with
  | none => s
  | some f =>
    let t := ((s.setNode g { s.node g with sending := none }).genRest g).raise (Reg.BRG_G_STATUS_TXFAIL_S g)
    if f.bc || decide (3 ≤ f.retries) then t.noteTx g else t.requeueTx g f

/-- The group comes to ISLAND or CONNECTED from another mode (R327). -/
def State.soundEnter (s : State) (g : Nat) : State := s.setGen g { s.gen g with since := s.now }

/-- The group leaves ISLAND and CONNECTED, or stays outside them (R327, R336). -/
def State.soundLeave (s : State) (g : Nat) : State := (s.abandonBurst g).stopFrame g

/-- The current limiter of the group binds (R327), which a node's next STATE frame reports (R333). -/
def State.soundBound (s : State) (g : Nat) : State :=
  let t := s.abandonBurst g
  if s.on (Reg.BRG_G_CFG_EN g) then t.setNode g { t.node g with ilimSeen := true } else t

end Sys2Proof.Machine
end

