-- ==== Sys2Proof/Machine/SoundTones.lean ====
section
/-!
DEFINITION. The tones of Sounding (R326), the keyed tone of Bearing (R332), and the correlation sums (R328).
-/

namespace Sys2Proof.Machine

/-- One second of the real-time count (R121): 400,000,000 nominal C-cycles of 2^24 units. Log 67 (DEDUCED). -/
def realSecond : Nat := 2 ^ 24 * 400000000

/-- The angle in Q3.28 of a tone of `num / den` Hz after `d` units of real time, less `back` twelfths of a turn. -/
def toneAngle (num den d back : Nat) : Int :=
  let q := realSecond * den
  let x := (12 * (num * d) + (12 - back % 12) * q) % (12 * q)
  roundDiv ((x * 2 * piNum * 2 ^ 28 : Nat) : Int) (12 * q * piDen)

/-- The phase of tone `k` in twelfths of a turn behind (R326): k(k − 1)/12. -/
def toneBack (k : Nat) : Nat := k * (k - 1)

/-- Real time since the start of a generator's injection. Log 67 (DEDUCED). -/
def State.genTime (s : State) (g : Nat) : Nat := s.eng.real - (s.gen g).start

/-- The injection of the tone set (R326), with one axis for a 1P group. -/
def State.toneWords (s : State) (g : Nat) (one : Bool) : Int × Int :=
  let d := s.genTime g
  let sum := (List.range 6).foldl (fun (a : Int × Int) k =>
    let th := toneAngle (s.fld (Reg.SND_G_TONE_FREQ g k)) 1 d (toneBack k)
    let m : Int := s.fld (Reg.SND_G_TONE_AMP g k)
    (a.1 + m * cosRef th, a.2 + m * sinRef th)) (0, 0)
  (roundDiv sum.1 10000, if one then 0 else roundDiv sum.2 10000)

/-- The bit of a Bearing frame that is sent at a time since its start (R332): 80 ms each, bit 0 first. -/
def frameBit (frame d : Nat) : Bool := bitOf frame (min 95 (d / (realSecond * 8 / 100)))

/-- The injection of a Bearing frame (R332): 12.5 Hz × F0 or F1, whose phase is continuous across bits. -/
def State.keyWords (s : State) (g : Nat) (one : Bool) : Int × Int :=
  let d := s.genTime g
  let f := if frameBit (s.gen g).frame d then s.fld Reg.BRG_CFG_F1 else s.fld Reg.BRG_CFG_F0
  let th := toneAngle (25 * f) 2 d 0
  let m : Int := s.fld Reg.BRG_CFG_AMP
  (roundDiv (m * cosRef th) 10000, if one then 0 else roundDiv (m * sinRef th) 10000)

/-- A complex sample times e^(−jθ), with 56 fraction bits. -/
def rotate (x : Int × Int) (th : Int) : Int × Int :=
  (x.1 * cosRef th + x.2 * sinRef th, x.2 * cosRef th - x.1 * sinRef th)

/-- One sample of the voltage side enters the sums of a generator at a real time since its start (R328). -/
def State.corrV (s : State) (g d : Nat) (x : Int × Int) : State :=
  let r := s.gen g
  s.setGen g { r with nV := r.nV + 1, sums := (List.range 6).map fun k =>
    let t := r.sums.getD k {}
    let p := rotate x (toneAngle (s.fld (Reg.SND_G_TONE_FREQ g k)) 1 d 0)
    { t with vR := t.vR + p.1, vI := t.vI + p.2 } }

/-- One sample of the current side (R328): at the tone, and at the uninjected frequency 2/TB above it. -/
def State.corrI (s : State) (g d : Nat) (x : Int × Int) : State :=
  let r := s.gen g
  let tb := s.fld (Reg.SND_G_CFG_TB g)
  s.setGen g { r with nI := r.nI + 1, sums := (List.range 6).map fun k =>
    let t := r.sums.getD k {}
    let f := s.fld (Reg.SND_G_TONE_FREQ g k)
    let p := rotate x (toneAngle f 1 d 0)
    let q := rotate x (toneAngle (f * tb + 2) tb d 0)
    { t with iR := t.iR + p.1, iI := t.iI + p.2, nR := t.nR + q.1, nI := t.nI + q.2 } }

/-- The real-time count at a chart time not later than now, under the present ratio (R121). -/
def State.realAt (s : State) (t : Nat) : Nat := s.eng.real - (s.now - t) * s.eng.rho

/-- A sample of a probe enters the sums of every generator in TUNE that it serves (R331): YPROBE in place of v, UPROBE of i. -/
def State.tuneSample (s : State) (p : Nat) (x : Int) (stamp : Nat) (ok : Bool) : State :=
  if !ok then s
  else forIdx 8 (fun g t =>
    if t.genState g = gTUNE ∧ (t.gen g).start ≤ t.realAt stamp then
      let d := t.realAt stamp - (t.gen g).start
      let u := if t.fld (Reg.SND_G_TUNE_YPROBE g) = p then t.corrV g d (x, 0) else t
      if t.fld (Reg.SND_G_TUNE_UPROBE g) = p then u.corrI g d (x, 0) else u
    else t) s

end Sys2Proof.Machine
end

