-- ==== Sys2Proof/Machine/ContourCore.lean ====
section
/-!
DEFINITION. How Contour takes a sample: envelopes (R318), crossings (R319), trigger sequences (R320, R321), recorders (R322) and
the queues of its records (R316, R317). Results, output words and events all pass through here.
-/

namespace Sys2Proof.Machine

/-- The probe, sequencer and queue records. -/
def State.probe (s : State) (p : Nat) : ProbeRun := tabGet {} s.ctr.probe p
def State.setProbe (s : State) (p : Nat) (r : ProbeRun) : State :=
  { s with ctr := { s.ctr with probe := tabSet {} s.ctr.probe p r } }
def State.seq (s : State) (k : Nat) : SeqRun := tabGet {} s.ctr.seq k
def State.setSeq (s : State) (k : Nat) (r : SeqRun) : State :=
  { s with ctr := { s.ctr with seq := tabSet {} s.ctr.seq k r } }
def State.recQ (s : State) (ch : Nat) : RecQueue := tabGet {} s.ctr.queue ch
def State.setRecQ (s : State) (ch : Nat) (r : RecQueue) : State :=
  { s with ctr := { s.ctr with queue := tabSet {} s.ctr.queue ch r } }

/-- The gap marker that covers what a queue dropped (R316, R317). -/
def gapMarker (q : RecQueue) : Nat := q.gapStamp + q.gapCount % 2 ^ 32 * 2 ^ 64 + 3 * 2 ^ 124

/-- The first record of a queue leaves it; a gap marker that is owed is written, now that there is room (R317). -/
def RecQueue.drop1 (q : RecQueue) : RecQueue :=
  if q.gapCount = 0 then { q with recs := q.recs.drop 1 }
  else { recs := q.recs.drop 1 ++ [gapMarker q], gapCount := 0, gapStamp := 0 }

/-- Queues a record of stamp `t` for a channel; a full queue of 64 drops it (R317). A marker is written as soon as the queue has room again
(`RecQueue.drop1`), so that none is owed while it has. -/
def State.ctrPush (s : State) (ch : Nat) (t r : Nat) : State :=
  let q := s.recQ ch
  if q.recs.length < 64 then s.setRecQ ch { q with recs := q.recs ++ [r] }
  else
    ((s.count Reg.CTR_CNT_GAP_CNT).raise Reg.CTR_STATUS_GAP_S).setRecQ ch
      { q with gapCount := q.gapCount + 1, gapStamp := if q.gapCount = 0 then t else q.gapStamp }

/-- The recorder states (R322). -/
def recIDLE : Nat := 0
def recARMED : Nat := 1
def recPOST : Nat := 2
def recMEASURING : Nat := 3
def recDONE : Nat := 4

/-- The trigger of sequencer `k` (R322): the marker, the stamp, TRIG_S and POST. -/
def State.seqTrigger (s : State) (k : Nat) : State :=
  let s1 := s.ctrPush (s.fld (Reg.CTR_REC_CFG_DMA_CH k)) s.now (s.now + k * 2 ^ 64 + 2 * 2 ^ 124)
  let s2 := (s1.stamp (Reg.CTR_SEQ_TRIG_STAMP_LO k) (Reg.CTR_SEQ_TRIG_STAMP_HI k) s.now).raiseBit Reg.CTR_STATUS_TRIG_S k
  (s2.setFld (Reg.CTR_SEQ_STATUS_RSTATE k) recPOST).setSeq k { s2.seq k with trigAt := s.now, marked := [], ended := false }

/-- Enters state `j` of sequencer `k` with its count cleared. -/
def State.seqEnter (s : State) (k j : Nat) : State :=
  ((s.setFld (Reg.CTR_SEQ_STATUS_STATE k) j).setFld (Reg.CTR_SEQ_STATUS_COUNT k) 0).setSeq k
    { s.seq k with entered := s.now, holdFrom := none, up := false, down := false, gap := false }

/-- One occurrence of the present state's condition (R320): counts, moves on, or triggers out of the last state. -/
def State.seqOccur (s : State) (k : Nat) : State :=
  let j := s.fld (Reg.CTR_SEQ_STATUS_STATE k)
  let n := s.fld (Reg.CTR_SEQ_STATUS_COUNT k) + 1
  if n ≤ s.fld (Reg.CTR_SEQ_COND_COUNTM1 k j) then s.setFld (Reg.CTR_SEQ_STATUS_COUNT k) n
  else if s.fld (Reg.CTR_SEQ_CTRL_NSTATE k) ≤ j then (s.setFld (Reg.CTR_SEQ_STATUS_COUNT k) 0).seqTrigger k
  else s.seqEnter k (j + 1)

/-- The level of a condition: bits [31:16] of a Q3.28 word (R320). -/
def State.seqLevel (s : State) (k j : Nat) : Int := signedOf 16 (s.fld (Reg.CTR_SEQ_COND_LEVEL k j)) * 2 ^ 16

/-- The hysteresis of a probe in Q3.28: HYST × 2^−12 pu (R340). -/
def State.probeHyst (s : State) (p : Nat) : Int := (s.fld (Reg.CTR_PROBE_HYST p) : Int) * 2 ^ 16

/-- What sequencer `k` makes of a sample of probe `p` (R320, R321); RISE and FALL are disarmed by an invalid sample between the two
that would cross (R319). `ok` says that it is valid, `tag` that it is invalid or
tagged whatever EXCL. -/
def State.seqSample (s : State) (k p : Nat) (x : Int) (ok tag : Bool) : State :=
  let j := s.fld (Reg.CTR_SEQ_STATUS_STATE k)
  if s.fld (Reg.CTR_SEQ_STATUS_RSTATE k) ≠ recARMED then s
  else if s.fld (Reg.CTR_SEQ_COND_PROBE k j) ≠ p then s
  else
    let c := s.fld (Reg.CTR_SEQ_COND_COND k j)
    let lv := s.seqLevel k j
    let hy := s.probeHyst p
    let r := s.seq k
    if c = 2 ∨ c = 3 then
      let armed := if c = 2 then r.up else r.down
      let past := if c = 2 then decide (lv < x) else decide (x < lv)
      let back := if c = 2 then decide (x < lv - hy) else decide (lv + hy < x)
      let put (b gap : Bool) := s.setSeq k (if c = 2 then { r with up := b, gap := gap } else { r with down := b, gap := gap })
      if !ok then put armed true
      else if armed && past then (if r.gap then put false false else (put false false).seqOccur k)
      else put (armed || back) false
    else
      let hit := match c with
        | 0 => ok && decide (lv < x)
        | 1 => ok && decide (x < lv)
        | 4 => ok && decide (lv < (x.natAbs : Int))
        | 5 => tag
        | _ => false
      if s.fld (Reg.CTR_SEQ_TIME_TMODE k j) = 1 then
        s.setSeq k { r with holdFrom := if hit then some (r.holdFrom.getD s.now) else none }
      else if hit then s.seqOccur k
      else s

/-- An event of R320 for every sequencer that waits for it. -/
def State.ctrEvent (s : State) (e : Nat) : State :=
  forIdx 4 (fun k t =>
    let j := t.fld (Reg.CTR_SEQ_STATUS_STATE k)
    if t.fld (Reg.CTR_SEQ_STATUS_RSTATE k) = recARMED ∧ t.fld (Reg.CTR_SEQ_COND_COND k j) = 6
        ∧ t.fld (Reg.CTR_SEQ_COND_PROBE k j) = e then t.seqOccur k else t) s

/-- The sample record of R316. -/
def sampleRecord (stamp val p : Nat) (orng xtalk pllsw inval trig : Bool) : Nat :=
  stamp + val * 2 ^ 64 + p * 2 ^ 96 + asNat orng * 2 ^ 101 + asNat xtalk * 2 ^ 102 + asNat pllsw * 2 ^ 103
    + asNat inval * 2 ^ 104 + asNat trig * 2 ^ 105

/-- What recorder `k` makes of a sample: a record in ARMED and POST for the probes it selects (R322). -/
def State.recSample (s : State) (k p stamp val : Nat) (orng xtalk pllsw inval : Bool) : State :=
  let st := s.fld (Reg.CTR_SEQ_STATUS_RSTATE k)
  if (st = recARMED ∨ (st = recPOST ∧ (s.seq k).ended = false)) ∧ bitOf (s.fld (Reg.CTR_REC_PROBES k)) p = true then
    let r := s.seq k
    let first := decide (st = recPOST) && decide (r.trigAt ≤ stamp) && !r.marked.contains p
    let t := if first then s.setSeq k { r with marked := p :: r.marked } else s
    t.ctrPush (s.fld (Reg.CTR_REC_CFG_DMA_CH k)) stamp (sampleRecord stamp val p orng xtalk pllsw inval first)
  else s

/-- The crossing instant in 1/256 C-cycle, truncated toward t0 (R319). -/
def crossingAt (t0 t1 : Nat) (x0 x1 : Int) : Nat :=
  t0 * 256 + (t1 - t0) * 256 * x0.natAbs / (x0.natAbs + x1.natAbs)

/-- A crossing record (R316). -/
def State.crossing (s : State) (p at256 : Nat) (falling : Bool) : State :=
  s.ctrPush (s.fld Reg.CTR_CTRL_XCH) (at256 / 256)
    (at256 / 256 + at256 % 256 * 2 ^ 64 + p * 2 ^ 72 + asNat falling * 2 ^ 77 + 4 * 2 ^ 124)

/-- Crossing detection of a probe with XING = 0 keeps nothing (R319). -/
def State.crossRest (s : State) (p : Nat) : State :=
  let r := s.probe p
  if r.prev.isNone && !r.up && !r.down then s else s.setProbe p { r with prev := none, up := false, down := false }

/-- Crossing detection of a probe with XING = 1 (R319): an invalid sample leaves the next valid one without a valid sample that precedes
it, so that one beyond zero disarms the probe without a crossing. -/
def State.probeCross (s : State) (p : Nat) (x : Int) (stamp : Nat) (ok : Bool) : State :=
  let r := s.probe p
  let hy := s.probeHyst p
  if ok then
    let up := if x < -hy then true else if 0 < x then false else r.up
    let down := if hy < x then true else if x < 0 then false else r.down
    let t := s.setProbe p { r with prev := some (x, stamp), up := up, down := down }
    match r.prev with
    | none => t
    | some (x0, t0) =>
      if r.up && decide (0 < x) then t.crossing p (crossingAt t0 stamp x0 x) false
      else if r.down && decide (x < 0) then t.crossing p (crossingAt t0 stamp x0 x) true
      else t
  else s.setProbe p { r with prev := none }

/-- The envelope of a probe with ENV = 1 takes a sample (R318). -/
def State.probeEnv (s : State) (p : Nat) (x : Int) (ok tag : Bool) : State :=
  let r := s.probe p
  if ok then
    s.setProbe p { r with lo := some (min (r.lo.getD x) x), hi := some (max (r.hi.getD x) x), tagged := r.tagged || tag }
  else s

/-- Probe `p` takes a sample (R314, R315): envelopes, crossings, sequencers, recorders, to which a trigger by this sample is one at or
before it (R316), and a tuning measurement. -/
def State.probeTake (s : State) (p val stamp : Nat) (orng xtalk pllsw bad : Bool) : State :=
  let inval := isNav val || bad
  let tag := orng || xtalk || pllsw
  let ok := !inval && !(tag && s.on (Reg.CTR_PROBE_EXCL p))
  let x := wInt val
  let s1 := if s.on (Reg.CTR_PROBE_ENV p) then s.probeEnv p x ok tag else s
  let s2 := if s.on (Reg.CTR_PROBE_XING p) then s1.probeCross p x stamp ok else s1.crossRest p
  let s3 := forIdx 4 (fun k t => t.seqSample k p x ok (inval || tag)) s2
  (forIdx 4 (fun k t => t.recSample k p stamp val orng xtalk pllsw inval) s3).tuneSample p x stamp ok

/-- Every probe on a source takes a sample (R314): KIND 0 of entry `id`, or KIND 1 of context `id` and port `port`. -/
def State.probeSource (s : State) (kind id port val stamp : Nat) (orng xtalk pllsw bad : Bool) : State :=
  if s.on Reg.CTR_CTRL_EN then
    forIdx 32 (fun p t =>
      if t.on (Reg.CTR_PROBE_EN p) && t.fld (Reg.CTR_PROBE_KIND p) == kind && t.fld (Reg.CTR_PROBE_ID p) == id
          && (kind == 0 || t.fld (Reg.CTR_PROBE_PORT p) == port)
      then t.probeTake p val stamp orng xtalk pllsw bad else t) s
  else s

end Sys2Proof.Machine
end

