-- ==== Sys2Proof/Machine/GroupOps.lean ====
section
/-!
DEFINITION. The operations over phase groups and legs that events of every family share: turning legs off (R77, R88), the
controlled stop (R86), the fault actions and their order (R87 to R89), and the request of a hand-over (R359).
-/

namespace Sys2Proof.Machine

/-- One per-unit in Q3.28. -/
def pu : Int := 0x10000000

/-- A register value in thousandths of a per-unit, in Q3.28. Log 22 (DEDUCED). -/
def milli (n : Nat) : Int := roundDiv ((n : Int) * pu) 1000

/-- A register value in ten-thousandths of a per-unit, in Q3.28. Log 22 (DEDUCED). -/
def tenThou (n : Nat) : Int := roundDiv ((n : Int) * pu) 10000

/-- The run record of a group. -/
def State.grp (s : State) (g : Nat) : GroupRun := tabGet {} s.grid g

/-- Sets the run record of a group. -/
def State.setGrp (s : State) (g : Nat) (r : GroupRun) : State := { s with grid := tabSet {} s.grid g r }

/-- The run record of a leg. -/
def State.leg (s : State) (n : Nat) : LegRun := tabGet {} s.pwm.leg n

/-- Sets the run record of a leg. -/
def State.setLeg (s : State) (n : Nat) (r : LegRun) : State :=
  { s with pwm := { s.pwm with leg := tabSet {} s.pwm.leg n r } }

/-- The record that the active image gives a group (R137). -/
def State.groupRec (s : State) (g : Nat) : Option GroupRec :=
  match s.stg.active with
  | none => none
  | some i => i.groups.find? fun r => r.group == g

/-- The record that the active image gives a leg (R138); unused where it gives none. -/
def State.legRec (s : State) (n : Nat) : LegRec :=
  match s.stg.active with
  | none => {}
  | some i => (i.legs.find? fun r => r.leg == n).getD {}

/-- Whether the active image defines a group with grid-forming control (R34). -/
def State.controlled (s : State) (g : Nat) : Bool :=
  match s.groupRec g with
  | none => false
  | some r => decide (r.typ < 3)

/-- The modes of a group (R58). -/
def mOFF : Nat := 0
def mBLACK : Nat := 1
def mISLAND : Nat := 2
def mSYNCING : Nat := 3
def mCONNECTED : Nat := 4
def mRIDE : Nat := 5
def mSTOPPING : Nat := 6

/-- The mode of a group, as EVT_STATUS reports it (R58). -/
def State.mode (s : State) (g : Nat) : Nat := s.fld (Reg.GFM_EVT_STATUS_MODE g)

/-- Sets the mode of a group, which its generator and its node follow (R327, R336). -/
def State.setMode (s : State) (g m : Nat) : State :=
  let t := s.setFld (Reg.GFM_EVT_STATUS_MODE g) m
  if m = mISLAND ∨ m = mCONNECTED then (if s.mode g = mISLAND ∨ s.mode g = mCONNECTED then t else t.soundEnter g)
  else t.soundLeave g

/-- The states of a leg (R222). -/
def legOFF : Nat := 0
def legPRECHG : Nat := 1
def legACTIVE : Nat := 2
def legFORCED : Nat := 3

/-- A leg's chain turns off: both commands off, carry 0, refresh count 0 (R88, R220, R223); the safe level of a FORCED leg
stays, and a safe turn-on that waits for dead time comes (R228, R230). -/
def State.legOff (s : State) (n : Nat) : State :=
  let r := { s.leg n with perCarry := 0, taken := 0, carryShown := none, refCount := 0, lowOk := false, edges := [], raw := false, out := false,
                          stretched := false }
  let hiOff := if r.hiCmd then s.now * 32 else r.hiOff32
  let loOff := if r.loCmd then s.now * 32 else r.loOff32
  if s.fld (Reg.PWM_LEG_STATUS_STATE n) = legFORCED then
    (s.setLeg n { r with edges := (s.leg n).edges }).setFld (Reg.PWM_LEG_CARRY n) 0
  else
    let t := s.setLeg n { r with hiCmd := false, loCmd := false, hiOff32 := hiOff, loOff32 := loOff }
    (t.setFld (Reg.PWM_LEG_STATUS_STATE n) legOFF).setFld (Reg.PWM_LEG_CARRY n) 0

/-- Whether the active image makes leg `n` a used leg of group `g`. -/
def State.legIn (s : State) (g n : Nat) : Bool := (s.legRec n).used && (s.legRec n).group == g

/-- Every used leg of a group turns off (R88). -/
def State.legsOff (s : State) (g : Nat) : State :=
  forIdx 64 (fun n t => if s.legIn g n then t.legOff n else t) s

/-- Stores the flux estimates as the legs of a group turn off (R77). -/
def State.storeFlux (s : State) (g : Nat) : State :=
  ((s.setSfld (Reg.GFM_RESID_A g) (s.grp g).fluxA).setSfld (Reg.GFM_RESID_B g) (s.grp g).fluxB).setSfld
    (Reg.GFM_RESID_C g) (s.grp g).fluxC

/-- A group comes to OFF: SYNC_CLOSE low, EN, RUN and REC at 0 (R86, R88). Log 27 (DEDUCED). -/
def State.groupRest (s : State) (g : Nat) : State :=
  let r := { s.grp g with syncClose := false, closeWait := false, pulse := false, dwell := 0, stopPhase := 0,
                          stopInRide := false, stopAct := false, recActive := false, steerF := 0, steerV := 0, gridTime := 0, gridBack := false }
  (((((s.setGrp g r).setMode g mOFF).setFld (Reg.GFM_CTRL_EN g) 0).setFld (Reg.GFM_STATUS_RUN g) 0).setFld
    (Reg.GFM_EVT_STATUS_REC g) 0)

/-- GROUP_OFF (R88): every leg off at once, the flux stored where legs were not off (R77), the group OFF. For a DC group, its PWM_RUN bits are cleared
and its legs go off. Log 28 (DEDUCED). -/
def State.groupOff (s : State) (g : Nat) : State :=
  if s.controlled g then (((if s.mode g = mOFF then s else s.storeFlux g).legsOff g)).groupRest g
  else forIdx 64 (fun n t => if s.legIn g n then
      t.setFld (Reg.PWM_RUN (n / 32)) (clearBit (t.fld (Reg.PWM_RUN (n / 32))) (n % 32)) else t) (s.legsOff g)

/-- The controlled stop begins from a mode (R86, step 1). Log 27 (DEDUCED). -/
def State.stopFrom (s : State) (g m : Nat) : State :=
  let r := s.grp g
  (s.setGrp g { r with stopPhase := 1, stopFrom := m, stopAt := s.now, stopInRide := false, stopE := r.eRef,
                       syncClose := if m = mSYNCING then false else r.syncClose,
                       closeWait := if m = mSYNCING then false else r.closeWait }).setMode g mSTOPPING

/-- A controlled stop is asked for (R86): it waits while the group is in RIDE; one in progress goes on. -/
def State.beginStop (s0 : State) (g : Nat) : State :=
  let s := s0.setGrp g { s0.grp g with stopAct := false }
  if s.mode g = mOFF ∨ s.mode g = mSTOPPING then s
  else if s.mode g = mRIDE then s.setGrp g { s.grp g with stopInRide := true }
  else s.stopFrom g (s.mode g)

/-- The reading of a group's breaker (R78): closed or open, or none while its input has no valid code. Log 25 (DEDUCED). -/
def State.brkReading (s : State) (g : Nat) : Option Bool :=
  if s.fld (Reg.GFM_BRK_SRC g) = 0 then some (s.on (Reg.GFM_BRK_HOST_CLOSED g))
  else
    let v := tabGet 0 s.adc.inLast (64 + s.fld (Reg.GFM_BRK_EXT_IN g))
    if v / 0x10000 = 0 ∨ v % 0x10000 = 0x8000 then none
    else some (decide (0x4000 < signedOf 16 (v % 0x10000)))

/-- Whether a group's breaker input reads the invalid code (R78). Log 25 (DEDUCED). -/
def State.brkBad (s : State) (g : Nat) : Bool :=
  s.fld (Reg.GFM_BRK_SRC g) == 1 && tabGet 0 s.adc.inLast (64 + s.fld (Reg.GFM_BRK_EXT_IN g)) == 0x18000

/-- The breaker reading of a group is taken (R78): a change starts its debounce; the invalid code keeps the state, drives
SYNC_CLOSE low and sets BRKINV_S. -/
def State.brkWatch (s : State) (g : Nat) : State :=
  let r := s.grp g
  if s.brkBad g then
    (s.setGrp g { r with brkRaw := r.brkClosed, brkInvalid := true, syncClose := false, pulse := false }).raise
      (Reg.GFM_EVT_STATUS_BRKINV_S g)
  else match s.brkReading g with
    | none => s.setGrp g { r with brkInvalid := false }
    | some b => s.setGrp g { r with brkInvalid := false, brkRaw := b, brkSince := if b = r.brkRaw then r.brkSince else s.now }

/-- Every breaker reading is taken (R78), as a result or a commit may have changed it. -/
def State.brkAll (s : State) : State := forIdx 8 (fun g t => t.brkWatch g) s

/-- A result of external input `x` reaches the breakers that read it (R78). -/
def State.brkResult (s : State) (x : Nat) : State :=
  forIdx 8 (fun g t =>
    if t.fld (Reg.GFM_BRK_SRC g) = 1 ∧ t.fld (Reg.GFM_BRK_EXT_IN g) + 64 = x then t.brkWatch g else t) s

/-- The roles of a twin (R343). -/
def roleSOLO : Nat := 0
def roleACTIVE : Nat := 1
def roleSTANDBY : Nat := 2
def roleLOST : Nat := 3

/-- The role of the module (R343). -/
def State.role (s : State) : Nat := s.fld Reg.TWN_STATUS_ROLE

/-- The offset of the twins' chart times in whole C-cycles (R348). -/
def State.twnOfs (s : State) : Int := signedOf 64 (s.fld Reg.TWN_OFS_LO + 2 ^ 32 * s.fld Reg.TWN_OFS_HI)

/-- An instant of STG_COMMIT_AT in this module's chart time (R354). -/
def State.ownTime (s : State) (t : Nat) : Nat := if s.role = roleSTANDBY then ((t : Int) + s.twnOfs).toNat else t

/-- The staging states (R158). -/
def sIDLE : Nat := 0
def sDRAFTING : Nat := 1
def sSURVEYING : Nat := 2
def sSURVEYED : Nat := 3
def sPENDING : Nat := 4
def sAPPLYING : Nat := 5

/-- The state of the staging process (R158). -/
def State.stgState (s : State) : Nat := s.fld Reg.STG_STATUS_STATE

/-- The first frame cut at or after an instant (R347): cuts fall at PWM_ORIGIN + 10,000 k. -/
def State.cutAfter (s : State) (t : Nat) : Nat :=
  let o := s.pwm.origin
  if (t : Int) ≤ o then o.toNat else (o + ((t : Int) - o + 9999) / 10000 * 10000).toNat

/-- Announces a hand-over for the first cut at least `lead` C-cycles from now (R359). Log 80 (DEDUCED). -/
def State.announceHo (s : State) (lead : Nat) (by_ : Option (Nat × Nat)) : State :=
  { s.setFld Reg.TWN_STATUS_HO_BUSY 1 with
    twn := { s.twn with hoAt := s.cutAfter (s.now + lead), hoCuts := 0, hoAck := false, hoBy := by_, hoWait := none } }

/-- Whether a commit is pending or applying in either module (R359). -/
def State.commitBusy (s : State) : Bool :=
  s.stgState == sPENDING || s.stgState == sAPPLYING || s.twn.peerStg == sPENDING || s.twn.peerStg == sAPPLYING

/-- The severity of an action code (R89), from LOG to ALL_OFF. -/
def severity (code : Nat) : Nat :=
  match code with
  | 0 => 0
  | 1 => 1
  | 2 => 2
  | 3 => 3
  | 6 => 4
  | 7 => 5
  | 4 => 6
  | 5 => 7
  | _ => 0

/-- The severity of the actions that have run in this tick of a group (R89); the tick of a DC group, which has no rotor, is the
C-cycle. Log 28 (DEDUCED). -/
def State.faNow (s : State) (g : Nat) : Nat :=
  if s.controlled g || (s.grp g).faAt == s.now then (s.grp g).faTick else 0

/-- The severity of what a group already has in progress (R89): a stop, or a hand-over that an action asked for, announced or
waiting. -/
def State.inProgress (s : State) (g : Nat) : Nat :=
  let st := if s.mode g = mSTOPPING ∨ (s.grp g).stopInRide = true then 3 else 0
  let ho (x : Option (Nat × Nat)) := match x with
    | some (h, c) => if h = g then severity c else 0
    | none => 0
  max (max st (if s.on Reg.TWN_STATUS_HO_BUSY then ho s.twn.hoBy else 0)) (max (ho s.twn.hoWait) (s.faNow g))

/-- The action that the fault-action sheet assigns to a source of a group (R144); LOG without an image. -/
def State.actionOf (s : State) (g src : Nat) : Nat :=
  match s.stg.active with
  | none => 0
  | some i => i.fault.getD (16 * g + src) 0 % 16

/-- Every group is turned off as GROUP_OFF does (R88, R369). Log 28 (DEDUCED). -/
def State.allGroupsOff (s : State) : State := forIdx 8 (fun g t => t.groupOff g) s

/-- The stop of a group that an action asked for gives way to a hand-over (R89): the group goes on in the mode from which it began, as
the breaker now stands. Log 188 (DEDUCED). -/
def State.undoStop (s : State) (g : Nat) : State :=
  let r := s.grp g
  if r.stopAct = false then s
  else if r.stopInRide then s.setGrp g { r with stopInRide := false, stopAct := false }
  else if s.mode g ≠ mSTOPPING then s
  else
    let back := if r.stopFrom = mBLACK then mBLACK else if r.brkClosed then mCONNECTED
      else if r.stopFrom = mSYNCING then mSYNCING else mISLAND
    (s.setGrp g { r with stopPhase := 0, stopAct := false }).setMode g back

/-- A controlled stop that an action asks for (R86, R88). -/
def State.stopByAction (s : State) (g : Nat) : State :=
  if s.mode g = mOFF ∨ s.mode g = mSTOPPING ∨ (s.grp g).stopInRide = true then s
  else
    let t := s.beginStop g
    t.setGrp g { t.grp g with stopAct := true }

/-- A hand-over that an action asks for (R89, R359): it waits for a commit; the stop that it replaces is undone. -/
def State.askHo (s : State) (g code : Nat) : State :=
  let t := s.undoStop g
  if t.commitBusy then { t with twn := { t.twn with hoWait := some (g, code) } } else t.announceHo 20000 (some (g, code))

/-- Whether a hand-over may be asked for (R359). -/
def State.mayHo (s : State) : Bool := s.role == roleACTIVE && s.on Reg.TWN_STATUS_PEER_READY

/-- What an action code does (R88), its record apart. -/
def State.runAction (s : State) (g code : Nat) : State :=
  match code with
  | 2 =>
    let r := s.grp g
    (s.setGrp g { r with derated := true, ilim := min r.ilim (pu / 2), derPrev := some (r.derated, r.ilim) }).setSfld
      (Reg.GFM_ILIM_NOW g) (min r.ilim (pu / 2))
  | 3 => s.stopByAction g
  | 4 => s.groupOff g
  | 5 => s.allGroupsOff
  | 6 => if s.mayHo then s.askHo g code else s.stopByAction g
  | 7 => if s.mayHo then s.askHo g code else s.groupOff g
  | _ => s

/-- A DERATE of this tick gives way to a more severe action (R89): the level stands as before it. -/
def State.undoDerate (s : State) (g : Nat) : State :=
  match (s.grp g).derPrev with
  | none => s
  | some p => (s.setGrp g { s.grp g with derated := p.1, ilim := p.2, derPrev := none }).setSfld (Reg.GFM_ILIM_NOW g) p.2

/-- A hand-over that a less severe action of the group asked for, announced or waiting, gives way (R89). -/
def State.dropHo (s : State) (g code : Nat) : State :=
  let less (x : Option (Nat × Nat)) := match x with
    | some (h, c) => h == g && decide (severity c < severity code)
    | none => false
  let t := if less s.twn.hoWait then { s with twn := { s.twn with hoWait := none } } else s
  if less t.twn.hoBy && t.on Reg.TWN_STATUS_HO_BUSY && !t.twn.hoIn then
    { t.setFld Reg.TWN_STATUS_HO_BUSY 0 with twn := { t.twn with hoBy := none, hoAck := false, hoLegs := [] } }
  else t

/-- What a more severe action finds in progress gives way to it (R89). -/
def State.giveWay (s : State) (g code : Nat) : State :=
  (if 2 < severity code then s.undoDerate g else s).dropHo g code

/-- The assigned action for a fault source of a group runs (R88): FA_LAST always, FA_S, FA_STAMP and the action unless a
more severe one is in progress or ran in this tick (R89); a STANDBY runs only LOG and HOLD (R353). -/
def State.faultAction (s : State) (g src : Nat) : State :=
  let code := s.actionOf g src
  let s1 := (s.setFld (Reg.GFM_FA_LAST_ACTION g) code).setFld (Reg.GFM_FA_LAST_SOURCE g) src
  if severity code < s.inProgress g then s1
  else
    let s2 := (s1.raise (Reg.GFM_EVT_STATUS_FA_S g)).stamp (Reg.GFM_FA_STAMP_LO g) (Reg.GFM_FA_STAMP_HI g) s.now
    if s.role = roleSTANDBY ∧ 2 ≤ severity code then { s2 with twn := { s2.twn with faulted := true, rxClean := false } }
    else
      let s4 := (s2.ctrEvent 2).giveWay g code
      (s4.setGrp g { s4.grp g with faTick := max (s4.faNow g) (severity code), faAt := s4.now }).runAction g code

/-- The way a hand-over asked for by an action falls back (R359). -/
def State.hoFallback (s : State) (by_ : Option (Nat × Nat)) : State :=
  match by_ with
  | some (g, 6) => s.stopByAction g
  | some (g, 7) => s.groupOff g
  | _ => s

/-- A twin frame that waits in queue 41 is not sent (R280): the last start of a frame, from which the one-shot of TWIN_ACT runs (R345),
is that of the frame before it. -/
def State.unsent (s : State) : State :=
  let back := tabGet 0 s.twn.comma32 ((s.twn.seq + 255) % 256)
  { s with twn := { s.twn with sent := [], sentAt := s.twn.sentAt.map fun t => if s.now < t ∧ 0 < back then (back - 1) / 32 else t } }

end Sys2Proof.Machine
end

