-- ==== Sys2Proof/Machine/CarrierOps.lean ====
section
/-!
DEFINITION. The geometry of carriers: period starts, peaks and update points (R211 to R214), and the layouts that a commit
places (R212, R214).
-/

namespace Sys2Proof.Machine

/-- The carrier period in C-cycles (R211). -/
def Carrier.period (c : Carrier) : Nat := 2 * c.half

/-- Whether chart time `t` is a period start (R211, R212). -/
def Carrier.isStart (c : Carrier) (t : Nat) : Bool :=
  t == c.first || (decide (c.base ≤ t) && (t - c.base) % c.period == 0)

/-- Whether chart time `t` is a peak (R211). -/
def Carrier.isPeak (c : Carrier) (t : Nat) : Bool :=
  t == c.first + c.half || (decide (c.base ≤ t) && (t - c.base) % c.period == c.half)

/-- Whether chart time `t` is an update point (R213). -/
def Carrier.isUpdate (c : Carrier) (t : Nat) : Bool := c.isStart t || (c.double && c.isPeak t)

/-- The first multiple of `p` from `b` on that lies strictly after `t`. -/
def nextMultiple (b p t : Nat) : Nat := if t < b then b else b + ((t - b) / p + 1) * p

/-- The first period start strictly after `t`. -/
def Carrier.nextStart (c : Carrier) (t : Nat) : Nat :=
  if t < c.first then c.first else nextMultiple c.base c.period t

/-- The first update point strictly after `t` (R213). -/
def Carrier.nextUpdate (c : Carrier) (t : Nat) : Nat :=
  if t < c.first then c.first
  else if c.double && decide (t < c.first + c.half) then c.first + c.half
  else nextMultiple c.base (if c.double then c.half else c.period) t

/-- The update period T_u (R213). -/
def Carrier.updatePeriod (c : Carrier) : Nat := if c.double then c.half else c.period

/-- The layout that holds at chart time `t` (R212). -/
def CarRun.at (r : CarRun) (t : Nat) : Carrier :=
  match r.next with
  | none => r.cur
  | some n => if n.first ≤ t then n else r.cur

/-- The first update point strictly after `t`, over a change of layout (R212, R214). -/
def CarRun.nextUpdate (r : CarRun) (t : Nat) : Nat :=
  match r.next with
  | none => r.cur.nextUpdate t
  | some n => if n.first ≤ t then n.nextUpdate t else min (r.cur.nextUpdate t) n.first

/-- The first period start strictly after `t`, over a change of layout. -/
def CarRun.nextStart (r : CarRun) (t : Nat) : Nat :=
  match r.next with
  | none => r.cur.nextStart t
  | some n => if n.first ≤ t then n.nextStart t else min (r.cur.nextStart t) n.first

/-- The record with a layout that has come into effect made the present one. -/
def CarRun.settle (r : CarRun) (t : Nat) : CarRun := { cur := r.at t, next := if r.at t = r.cur then r.next else none }

/-- The first period start at or after `t` (R212). -/
def Carrier.startFrom (c : Carrier) (t : Nat) : Nat := if c.isStart t then t else c.nextStart t

/-- The carrier of a group. -/
def State.gcar (s : State) (g : Nat) : CarRun := tabGet {} s.pwm.car g

/-- Sets the carrier of a group. -/
def State.setGcar (s : State) (g : Nat) (r : CarRun) : State :=
  { s with pwm := { s.pwm with car := tabSet {} s.pwm.car g r } }

/-- The carrier group of a leg (R138). -/
def State.legCg (s : State) (n : Nat) : Nat := (s.legRec n).cgrp

/-- The first instant of a lattice of period `p` from `o` on that a chart time of 0 or more names. -/
def liftTo (p : Nat) (o : Int) : Nat := if 0 ≤ o then o.toNat else (o % (p : Int)).toNat

/-- The layout of group `g` from its committed fields, placed from the origin (R212). -/
def State.freshGroupCar (s : State) (g : Nat) (origin : Int) : Carrier :=
  let half := s.fld (Reg.PWM_CG_HALF_HALF g)
  let ph := s.fld (Reg.PWM_CG_PHASE_PHASE g)
  let first := liftTo (2 * half) (origin + ph)
  { first := first, base := first + 2 * half, half := half, double := s.on (Reg.PWM_CG_CFG_UPDATE g),
    saw := s.on (Reg.PWM_CG_CFG_SHAPE g), place := ph }

/-- The layout of a leg placed from its group's layout (R214). -/
def Carrier.delayed (c : Carrier) (shift : Nat) : Carrier :=
  { c with first := c.first + shift, base := c.base + shift, place := shift }

/-- Starts every carrier at an origin (R212, R214). -/
def State.startCarriers (s : State) (origin : Int) : State :=
  let s1 := forIdx 8 (fun g t => t.setGcar g { cur := t.freshGroupCar g origin }) s
  forIdx 64 (fun n t => t.setLeg n { t.leg n with car :=
    { cur := ((t.gcar (t.legCg n)).cur).delayed (t.fld (Reg.PWM_LEG_CTRL_SHIFT n)) } }) s1

/-- The layout that a commit at `T` gives a group whose fields change: one course from `S`, then the hold Δ (R212). -/
def Carrier.recast (c : Carrier) (T half ph : Nat) (double saw : Bool) : Carrier :=
  let s0 := c.startFrom T
  let p := 2 * half
  let delta := (((ph : Int) - c.place) % (p : Int)).toNat
  { first := s0, base := s0 + p + delta, half := half, double := double, saw := saw, place := ph }

/-- The layout that a commit at `T` gives a leg, from its group's new layout and its own SHIFT (R214). -/
def Carrier.recastLeg (c : Carrier) (T : Nat) (gc : Carrier) (shift : Nat) : Carrier :=
  let s0 := c.startFrom T
  let p := gc.period
  let gap := (((gc.base : Int) + shift - (s0 + p)) % (p : Int)).toNat
  { first := s0, base := s0 + p + gap, half := gc.half, double := gc.double, saw := gc.saw, place := shift }

end Sys2Proof.Machine
end

