-- ==== Sys2Proof/Machine/EngineOut.lean ====
section
/-!
DEFINITION. What leaves a context: routing (R142, R436), delivery and NaV outputs (R7, R109, R215), deadlines and misses
(R115 to R120).
-/

namespace Sys2Proof.Machine

/-- The routing that an execution uses: the active image's, or that of the image that retires (R153). -/
def State.routesOf (s : State) (n : Nat) : List RouteRec :=
  match (if oldCtx n then s.stg.retiring else s.stg.active) with
  | none => []
  | some i => i.routes.filter fun r => r.dstKind != 3

/-- The word of a register as its fields stand (R432). -/
def State.plainWord (s : State) (a : Nat) : Nat :=
  (rowsAt a).foldl (fun w r => w + s.fld (r.fld a) * 2 ^ r.lo) 0

/-- The routes of an output port. -/
def State.portRoutes (s : State) (n port : Nat) : List RouteRec :=
  (s.routesOf n).filter fun r => r.srcKind == 1 && r.srcId == n % 128 && r.srcPort == port

/-- The legs whose compare shadows a context feeds. -/
def State.cmpLegs (s : State) (n : Nat) : List Nat :=
  ((s.routesOf n).filter fun r => r.srcKind == 1 && r.srcId == n % 128 && r.dstKind == 1).map (·.dstId)

/-- Whether update points set the deadline of a context (R115, first case). -/
def State.byUpdate (s : State) (n : Nat) : Bool :=
  cfgCmpOut (s.cfg n) && cfgTrig (s.cfg n) != 3 && !(s.cmpLegs n).isEmpty

/-- The update point that an OUT to the compare shadow of leg `l` serves, for a trigger at `t` (R115). -/
def State.served (s : State) (l t : Nat) : Nat := (s.leg l).car.nextUpdate t

/-- The deadline of an execution triggered at `t` (R115). -/
def State.deadlineOf (s : State) (n t : Nat) : Nat :=
  if s.byUpdate n then ((s.cmpLegs n).map fun l => s.served l t).foldl max 0
  else t + s.fld (Reg.GRT_CTX_CTRL_DL (n % 128))

/-- The deadline of one routed output (R115). -/
def State.routeDeadline (s : State) (n : Nat) (r : RouteRec) : Nat :=
  if s.byUpdate n && r.dstKind == 1 then s.served r.dstId (s.ctx n).trigAt else (s.ctx n).deadline

/-- Whether a context's EN is 1 (R110). A retiring context runs its execution to END as an enabled one does. -/
def State.enabled (s : State) (n : Nat) : Bool := oldCtx n || s.on (Reg.GRT_CTX_CTRL_EN n)

/-- Escalation (R120): MISS_RUN has reached ESC_N. -/
def State.escalate (s : State) (n : Nat) : State :=
  let m := n % 128
  if s.fld (Reg.GRT_CTX_CTRL_ESC_N m) ≤ s.fld (Reg.GRT_CTX_STATUS_MISS_RUN m) ∧ s.fld (Reg.GRT_CTX_CTRL_ESC_N m) ≠ 0 then
    ((s.count (Reg.GRT_CTX_CNT_ESC_CNT m)).setFld (Reg.GRT_CTX_STATUS_MISS_RUN m) 0).faultAction (s.groupOf n) 0x02
  else s

/-- A miss in the C-cycle of an on-time execution that cleared MISS_RUN, where the two would have reached ESC_N: expiry wins, and the
run counts on (R120). -/
def State.unclear (s : State) (n : Nat) : State :=
  let r := s.ctx n
  if r.clrAt = s.now + 1 ∧ s.fld (Reg.GRT_CTX_CTRL_ESC_N (n % 128)) ≤ r.clrRun + 1 then
    s.setFld (Reg.GRT_CTX_STATUS_MISS_RUN (n % 128)) r.clrRun else s

/-- Counts one miss of a context (R117): DLMISS_S, DL_CNT, MISS_RUN, the event of R320, then R120. -/
def State.countMiss (s0 : State) (n : Nat) : State :=
  let s := s0.unclear n
  let m := n % 128
  ((((s.raise (Reg.GRT_CTX_STATUS_DLMISS_S m)).count (Reg.GRT_CTX_CNT_DL_CNT m)).count
    (Reg.GRT_CTX_STATUS_MISS_RUN m)).ctrEvent 4).escalate n

/-- The execution in progress misses its deadline: counted once (R117). Log 31 (DEDUCED). -/
def State.missExec (s : State) (n : Nat) : State :=
  if (s.ctx n).missed then s else (s.setCtx n { s.ctx n with missed := true }).countMiss n

/-- A word reaches the compare shadow of a leg (R215): bounded to [0, 1.0], with BND_S where the bound acts. -/
def State.toShadow (s : State) (l w : Nat) : State :=
  let x := wInt w
  let b := decide (x < 0) || decide (pu < x)
  let v := if x < 0 then 0 else if pu < x then 0x10000000 else w
  let t := s.setLeg l { s.leg l with shadow := v, got := true }
  if b then (t.raise (Reg.PWM_LEG_STATUS_BND_S l)).raise Reg.PWM_STATUS_BND_S else t

/-- A word reaches the destination of a route (R109, R436). -/
def State.toDest (s : State) (r : RouteRec) (w : Nat) : State :=
  match r.dstKind with
  | 0 => { s with eng := { s.eng with inPorts := tabSet navN s.eng.inPorts (r.dstId * 32 + r.dstPort) w } }
  | 1 => s.toShadow r.dstId w
  | 2 => s.setFld ⟨r.regAddr, 0, 32⟩ w
  | _ => s

/-- Whether a route leads to the rotor frequency or the voltage reference of a group, which R39 holds with HELD_S. -/
def RouteRec.held (r : RouteRec) : Option Nat :=
  if r.dstKind = 2 ∧ 0x3000 ≤ r.regAddr ∧ r.regAddr < 0x4000
      ∧ (r.regAddr % 0x200 = 0x0C0 ∨ r.regAddr % 0x200 = 0x0C8) then some ((r.regAddr - 0x3000) / 0x200) else none

/-- NaV has reached an output (R7): NAV_S and the fault action for source 0x01; HELD_S where R39 names the output. Log 15 (DEDUCED). -/
def State.navOut (s : State) (n : Nat) (rs : List RouteRec) : State :=
  let s1 := s.raise (Reg.GRT_CTX_STATUS_NAV_S (n % 128))
  let s2 := rs.foldl (fun t r => match r.held with
    | some g => t.raise (Reg.GFM_STATUS_HELD_S g)
    | none => t) s1
  s2.faultAction (s.groupOf n) 0x01

/-- Marks a port as written by this execution (R94). -/
def State.markPort (s : State) (n port : Nat) : State :=
  let r := s.ctx n
  if r.written.contains port then s else s.setCtx n { r with written := port :: r.written }

/-- A route takes a word, unless the deadline of that output has passed (R116, R117): the Bool says that it was late. -/
def State.routeTake (s : State) (n w : Nat) (r : RouteRec) : State × Bool :=
  if s.enabled n && decide (s.routeDeadline n r < s.now) then (s, true) else (s.toDest r w, false)

/-- A word leaves an output port (R7, R109, R116, R117). NaV is applied to no destination.
Log 15 (DEDUCED), 16 (DESIGN CHOICE), 31 (DEDUCED), 32 (DEDUCED). -/
def State.output (s : State) (n port w : Nat) : State :=
  let rs := s.portRoutes n port
  let s1 := s.markPort n port
  let late := s.enabled n && (if rs.isEmpty then decide ((s.ctx n).deadline < s.now)
    else rs.all fun r => decide (s.routeDeadline n r < s.now))
  let someLate := s.enabled n && (late || rs.any fun r => decide (s.routeDeadline n r < s.now))
  let s2 := if someLate then s1.missExec n else s1
  if late then s2
  else if isNav w then (s2.navOut n rs).probeSource 1 (n % 128) port w s.now false false false true
  else
    let s3 := rs.foldl (fun t r => (t.routeTake n w r).1) s2
    let s4 := { s3 with eng := { s3.eng with outPorts := tabPut s3.eng.outPorts (n * 32 + port) w } }
    s4.probeSource 1 (n % 128) port w s.now false false false false

/-- A bit of the status destination of a context is set by FLAG (R102, R103, R436): only a W1C bit. -/
def State.flagBit (s : State) (n b : Nat) : State :=
  (((s.routesOf n).filter fun r => r.srcKind == 3 && r.srcId == n % 128 && r.dstKind == 2)).foldl (fun t r =>
    match (rowsAt r.regAddr).find? fun q => q.acc == .w1c && decide (q.lo ≤ b) && decide (b < q.lo + q.width) with
    | none => t
    | some q => t.raiseBit (q.fld r.regAddr) (b - q.lo)) s

end Sys2Proof.Machine
end

