-- ==== Sys2Proof/Machine/EngineSched.lean ====
section
/-!
DEFINITION. Triggers, dispatch, pre-emption, the end of an execution and the traces it leaves (R107 to R127).
-/

namespace Sys2Proof.Machine

/-- The update period of a carrier group's present layout (R107, R213). -/
def State.updatePeriod (s : State) (g : Nat) : Nat := ((s.gcar g).at s.now).updatePeriod

/-- The entry record of a schedule entry. -/
def Sched.ent (d : Sched) (e : Nat) : Option EntRec := d.ents.find? fun r => r.entry == e

/-- The carrier group to which the schedule locks an entry (R202, R204). -/
def Sched.lockOf (d : Sched) (e : Nat) : Option Nat := (d.ent e).map fun r => (d.convs.getD r.conv {}).lockCgrp

/-- TICK_NOM of a context (R107); 0 for a HOST context. -/
def State.tickNom (s : State) (n : Nat) : Nat :=
  match cfgTrig (s.cfg n) with
  | 0 => s.fld (Reg.GRT_TMR_PERIOD (cfgSrc (s.cfg n)))
  | 1 =>
    match s.adc.sched.lockOf (cfgSrc (s.cfg n)) with
    | none => 0
    | some g => s.updatePeriod g
  | 2 => s.updatePeriod (cfgSrc (s.cfg n))
  | _ => 0

/-- The tick-weight word of a trigger (R122), with whether it was clamped. -/
def tickWeight (real prev nom : Nat) : Nat × Bool :=
  let w := roundDiv (((real : Int) - prev) * 16) nom
  if 0x40000000 ≤ w then (0x3FFFFFFF, true) else (unsignedOf 32 w, false)

/-- A context becomes ready (R107, R122): the trigger of a new execution. -/
def State.beginReady (s : State) (n : Nat) : State :=
  let r := s.ctx n
  let one := r.first || cfgTrig (s.cfg n) == 3 || s.tickNom n == 0
  let w := if one then (0x10000000, false) else tickWeight s.eng.real r.prevReal (s.tickNom n)
  let t := s.setCtx n { r with phase := .ready, readyAt := s.now, trigAt := s.now, lastTrig := some s.now, wdMisses := 0,
                               prevReal := s.eng.real, first := r.first && cfgTrig (s.cfg n) == 3,
                               w := BitVec.ofNat 32 w.1, missed := false, written := [], faulted := false,
                               deadline := s.deadlineOf n s.now, firstIssue := none, paused := 0 }
  if w.2 then t.raise (Reg.GRT_CTX_STATUS_TICKW_S (n % 128)) else t

/-- A trigger of a context (R107, R110, R118); one of a context that retires is dropped and counted, and
not as a miss (R169): the watchdog goes by it. -/
def State.trigger (s : State) (n : Nat) : State :=
  if !cfgDefined (s.cfg n) || !s.enabled n then s
  else if s.stg.retire.contains n then
    (s.setCtx n { s.ctx n with lastTrig := some s.now, wdMisses := 0 }).count Reg.STG_ATL_SWAP_CNT_ABAND_CNT
  else if (s.ctx n).phase = .idle then s.beginReady n
  else
    let t := s.setCtx n { s.ctx n with lastTrig := some s.now, wdMisses := 0 }
    (t.raise (Reg.GRT_CTX_STATUS_OVRN_S n)).countMiss n

/-- The contexts of the active image whose trigger has a type and source (R107). -/
def State.triggered (s : State) (trig src : Nat) : List Nat :=
  (List.range 128).filter fun n =>
    cfgDefined (s.cfg n) && cfgTrig (s.cfg n) == trig && cfgSrc (s.cfg n) == src

/-- Triggers every context of a type and source, lowest number first. -/
def State.triggerAll (s : State) (trig src : Nat) : State := (s.triggered trig src).foldl State.trigger s

/-- The word that an input port takes at dispatch (R109): NaV for a port that no route feeds. -/
def State.portWord (s : State) (n p : Nat) : Nat :=
  match (s.routesOf n).find? fun r => r.dstKind == 0 && r.dstId == n && r.dstPort == p with
  | none => navN
  | some r => if r.srcKind = 2 then s.plainWord r.regAddr else tabGet navN s.eng.inPorts (n * 32 + p)

/-- The snapshot of the input ports of a context (R109). -/
def State.snapshot (s : State) (n : Nat) : State :=
  forIdx 32 (fun p t => { t with eng := { t.eng with snap := tabSet navN t.eng.snap (n * 32 + p) (t.portWord n p) } }) s

/-- Whether context `a` is chosen before `b` (R111): by level, then by the time of becoming ready, then by number. -/
def State.before (s : State) (a b : Nat) : Bool :=
  let pa := s.prio a
  let pb := s.prio b
  let ta := (s.ctx a).readyAt
  let tb := (s.ctx b).readyAt
  decide (pa < pb) || (pa == pb && (decide (ta < tb) || (ta == tb && decide (a % 128 < b % 128))))

/-- The best of a list of contexts under R111. Log 33 (DEDUCED). -/
def State.best (s : State) (l : List Nat) : Option Nat :=
  l.foldl (fun m n => match m with
    | none => some n
    | some k => if s.before n k then some n else some k) none

/-- The contexts on a cell in a phase. -/
def State.inPhase (s : State) (c : Nat) (p : Phase) : List Nat :=
  (s.eng.ctx.filter fun e => e.2.phase == p && s.cellOf e.1 == c).map (·.1)

/-- The limited value of the integrator of a pair, before and after its clamp (R173). -/
def bumpValue (x e gOld gNew : Int) (code : Nat) (lim : Option Int) : Int × Int :=
  let v := roundShift (x * 2 ^ 28 + alignCoef e (gOld - gNew) code) 28
  let y := clampInt v
  match lim with
  | none => (v, y)
  | some l => (v, if l < y then l else if y < -l then -l else y)

/-- The bumpless step of one pair (R173): X ← clamp(X + (g_old − g_new) · E, −L, +L). -/
def State.bumpOne (s : State) (n : Nat) (b : BumpPair) : State :=
  let c := s.cellOf n
  let gw := s.readCoef n b.gain
  let iw := gw.2.readSt n b.integ
  let ew := iw.2.readSt n b.err
  let lw := if b.noLim then (0, ew.2) else ew.2.readCoef n b.limit
  let t := lw.2
  let g := b.gNew.getD gw.1
  let bad := isNav g || isNav b.gOld || isNav iw.1 || isNav ew.1
  let badL := !b.noLim && (isNav lw.1 || decide (wInt lw.1 < 0))
  if bad || badL then t.setSt c b.integ { val := navN }
  else
    let v := bumpValue (wInt iw.1) (wInt ew.1) (wInt b.gOld) (wInt g) (segFormat (s.cfmap n) b.gain)
      (if b.noLim then none else some (wInt lw.1))
    (t.setSt c b.integ { val := unsignedOf 32 v.2 }).satFlag n (decide (v.1 ≠ v.2))

/-- The bumpless steps due at the first dispatch after a commit (R173). -/
def State.bumpless (s : State) (n : Nat) : State :=
  if (s.ctx n).bump then
    let t := (s.stg.bump.filter fun b => b.ctx == n).foldl (fun u b => u.bumpOne n b) s
    { t.setCtx n { t.ctx n with bump := false } with
      stg := { t.stg with bump := t.stg.bump.filter fun b => b.ctx != n } }
  else s

/-- The state words that a context of the active image owns (R139), by their keys. -/
def State.ownKeys (s : State) (n : Nat) : List Nat :=
  match s.stg.active.bind fun i => i.ctxs.find? fun r => r.ctx == n with
  | none => []
  | some r => (List.range r.stateLen).map fun i => cfgCell r.cfg * 512 + r.stateBase + i

/-- The state word under a key, NaV where it is uncorrectable (R94). -/
def State.stAt (s : State) (k : Nat) : Nat := (tabGet {} s.eng.st k).operand

/-- A paired module keeps what a context's words were before an execution (R350). -/
def State.keepOwn (s : State) (n : Nat) : State :=
  if s.on Reg.TWN_CTRL_PAIR_EN && !oldCtx n then
    { s with twn := { s.twn with before := tabSet [] s.twn.before n ((s.ownKeys n).map s.stAt) } }
  else s

/-- The sum of a correction (R352): x_now + (a − x_cap), saturated under R5; NaV where one of the three is. -/
def corrected (x a cap : Nat) : Nat := if isNav x || isNav a || isNav cap then navN else satN (wInt x + (wInt a - wInt cap))

/-- A correction lands in the state word under a key (R352). -/
def State.correct (s : State) (k a cap : Nat) : State :=
  { s with eng := { s.eng with st := tabSet {} s.eng.st k { val := corrected (s.stAt k) a cap } } }

/-- The corrections that waited for an execution of a context land (R352). Log 57 (DEDUCED). -/
def State.landCorr (s : State) (n : Nat) : State :=
  let t := { s with twn := { s.twn with before := tabDel s.twn.before n,
                                        corr := s.twn.corr.filter fun (c : Nat × Nat × Nat × Nat) => c.1 != n } }
  (s.twn.corr.filter fun (c : Nat × Nat × Nat × Nat) => c.1 == n).foldl
    (fun u (c : Nat × Nat × Nat × Nat) => u.correct c.2.1 c.2.2.1 c.2.2.2) t

/-- A ready context starts on its cell (R109, R114): snapshot, bumpless step, first word of its program. The start of a program is no
boundary at which it gives way (R112). -/
def State.startCtx (s : State) (n : Nat) : State :=
  let s0 := s.setCtx n { s.ctx n with old := false }
  let s1 := ((s0.keepOwn n).snapshot n).bumpless n
  (s1.setCtx n { s1.ctx n with phase := .running, pc := cfgEntry (s1.cfg n), rep := none, boundary := false }).setRuns
    (s1.cellOf n) (some n)

/-- A pre-empted context, or one that is ready again after a WAITF, goes on at its next operation (R112, R123). -/
def State.resumeCtx (s : State) (n : Nat) : State :=
  let r := s.ctx n
  (s.setCtx n { r with phase := .running, paused := r.paused + (s.now - r.pausedAt) }).setRuns (s.cellOf n) (some n)

/-- A free cell starts the context that R111 chooses, or resumes the pre-empted one where no ready context has a higher
level (R112). Log 13 (DESIGN CHOICE), 33 (DEDUCED). -/
def State.dispatch (s : State) (c : Nat) : State :=
  if (s.runs c).isSome then s
  else
    let ready := s.best (((s.inPhase c .ready).filter fun n => !s.bankHeld c (s.prio n)) ++ s.inPhase c .again)
    let go (n : Nat) := if (s.ctx n).phase = .again then s.resumeCtx n else s.startCtx n
    let held := s.best (s.inPhase c .preempted)
    match ready, held with
    | some n, some m => if s.prio n < s.prio m then go n else s.resumeCtx m
    | some n, none => go n
    | none, some m => s.resumeCtx m
    | none, none => s

/-- A running context at a boundary gives way to a ready one of a higher level (R112, R113). Log 13 (DESIGN CHOICE), 33 (DEDUCED). -/
def State.preempt (s : State) (c : Nat) : State :=
  match s.runs c with
  | none => s
  | some n =>
    if (s.ctx n).boundary && s.higherReady n then
      (s.setCtx n { s.ctx n with phase := .preempted, pausedAt := s.now }).setRuns c none
    else s

/-- A cell lets go of a context whose execution ends. -/
def State.release (s : State) (n : Nat) : State :=
  let t := s.setCtx n { s.ctx n with phase := .idle, rep := none, boundary := true, doneTrig := (s.ctx n).trigAt }
  (t.setRuns (s.cellOf n) none).landCorr n

/-- The word a tap records (R125): a register, or the last word delivered on a port; a port that has delivered none has no
stated word. Log 107 (DESIGN CHOICE). -/
def State.tapWord (s : State) (n : Nat) (src sel : Nat) : Nat × State :=
  if src = 0 then (s.reg n (sel % 32), s)
  else match tabFind s.eng.outPorts (n * 32 + sel % 32) with
    | some w => (w, s)
    | none => (s.drawFree.1.toNat, s.drawFree.2)

/-- A tap entry joins its cell's queue, or is dropped (R127). -/
def State.tapPush (s : State) (c k n : Nat) : State :=
  if (s.eng.tapQ.filter fun e => e.cell == c).length < 64 then
    let v := s.tapWord n (s.fld (Reg.GRT_TAP_SRC c k)) (s.fld (Reg.GRT_TAP_SEL c k))
    let e : TapRec := { stamp := (s.ctx n).trigAt, value := v.1, ctx := n % 128, tap := k, cell := c,
                        gap := tabGet false s.eng.tapGap c }
    { v.2 with eng := { v.2.eng with tapQ := v.2.eng.tapQ ++ [e], tapGap := tabSet false v.2.eng.tapGap c false } }
  else
    let t := (s.count Reg.GRT_TRACE_CNT_TRDROP_CNT).raise Reg.GRT_STATUS_TRGAP_S
    { t with eng := { t.eng with tapGap := tabSet false t.eng.tapGap c true } }

/-- The taps of a cell at the END of an execution (R125): every DECIM + 1 executions. Log 107 (DESIGN CHOICE). -/
def State.taps (s : State) (n : Nat) : State :=
  let c := s.cellOf n
  forIdx 4 (fun k t =>
    if t.on Reg.GRT_TRACE_CFG_EN && t.on (Reg.GRT_TAP_EN c k) && t.fld (Reg.GRT_TAP_CTX c k) == n % 128 then
      let i := tabGet 0 t.eng.tapCnt (c * 4 + k) + 1
      if t.fld (Reg.GRT_TAP_DECIM c k) < i then
        { t with eng := { t.eng with tapCnt := tabSet 0 t.eng.tapCnt (c * 4 + k) 0 } }.tapPush c k n
      else { t with eng := { t.eng with tapCnt := tabSet 0 t.eng.tapCnt (c * 4 + k) i } }
    else t) s

/-- Length of an execution whose END issues now (R106): a length beyond the field is a value that the spec does not
state. Log 98 (DESIGN CHOICE). -/
def State.lastLen (s : State) (n : Nat) : Nat × State :=
  let r := s.ctx n
  let l := s.now + 1 - r.firstIssue.getD s.now - r.paused
  if l < 2 ^ 16 then (l, s) else (s.drawFree.1.toNat % 2 ^ 16, s.drawFree.2)

/-- END (R116, R117, R125): the execution is judged, its taps recorded, its cell freed. -/
def State.endExec (s : State) (n : Nat) : State :=
  let m := n % 128
  let judged := s.enabled n
  let s1 := if judged && decide ((s.ctx n).deadline < s.now) then s.missExec n else s
  let s2 := if judged && !(s1.ctx n).missed then
      (s1.setCtx n { s1.ctx n with clrAt := s.now + 1, clrRun := s1.fld (Reg.GRT_CTX_STATUS_MISS_RUN m) }).setFld
        (Reg.GRT_CTX_STATUS_MISS_RUN m) 0 else s1
  let l := s2.lastLen n
  ((l.2.setFld (Reg.GRT_CTX_LEN_LAST m) l.1).taps n).release n

/-- The ports that the OUTs of a context's issue sequence name (R94), from a position on. Log 16 (DESIGN CHOICE). -/
def State.outPortsFrom (s : State) (n : Nat) : Nat → Nat → List Nat
  | 0, _ => []
  | fuel + 1, pc =>
    let o := decodeOp (s.bunWord n pc).val
    if o.op = opEND then []
    else if o.op = opOUT ∧ o.imm % 64 < 32 then (o.imm % 32) :: s.outPortsFrom n fuel (pc + 1)
    else s.outPortsFrom n fuel (pc + 1)

/-- A poisoned operation word ends the execution (R94): NaV on every named port not yet written. Log 29 (DEDUCED). -/
def State.poisonEnd (s : State) (n : Nat) : State :=
  let ps := (s.outPortsFrom n 512 (cfgEntry (s.cfg n))).dedup
  (ps.foldl (fun t p => if (t.ctx n).written.contains p then t else t.output n p navN) s).release n

/-- A WAITF that completes with a fault (R124). -/
def State.fetchFaultEnd (s : State) (n : Nat) : State :=
  ((s.raise (Reg.GRT_CTX_STATUS_DMAF_S (n % 128))).missExec n).release n

/-- One operation issues on a cell (R101, R104, R112): the word at the running context's position is read, checked (R94), and
its body runs. A cell whose next word has another code issues nothing. Log 13 (DESIGN CHOICE). -/
def State.issueOp (s : State) (c code : Nat) (body : Nat → OpWord → State → State) : State :=
  match s.issuer c with
  | none => s
  | some n =>
    let w := s.bunWord n (s.ctx n).pc
    let t := s.eccRead c (bunAddr c ((s.ctx n).pc % 512)) (s.onOld n) w
    if w.ecc = .bad then t.poisonEnd n
    else if (decodeOp w.val).op ≠ code then s
    else
      let o := decodeOp w.val
      body n { o with imm := stepImm o (s.ctx n).rep } (t.advance n)

end Sys2Proof.Machine
end

