-- ==== Sys2Proof/Machine/MemOps.lean ====
section
/-!
DEFINITION. Protected memory (R283 to R294): writes of DRAM over several blocks, and the protection domains (R300, R301).
-/

namespace Sys2Proof.Machine

/-- Writes bytes from `a` on, block by block: the number written, which falls short where the poison list refuses one. -/
def State.writeBytes (s : State) : Nat → Nat → List Nat → List Bool → State × Nat
  | 0, _, _, _ => (s, 0)
  | fuel + 1, a, bytes, bad =>
    if bytes.isEmpty then (s, 0)
    else
      let n := 64 - a % 64
      match s.writeBlock a (bytes.take n) ((bad.take n).any id) with
      | none => (s.plFull, 0)
      | some t =>
        let r := t.writeBytes fuel (a + n) (bytes.drop n) (bad.drop n)
        (r.1, (bytes.take n).length + r.2)

/-- A little-endian word of bytes. -/
def leWord (l : List Nat) : Nat := l.foldr (fun b w => b + 256 * w) 0

/-- The `n` bytes of a number, lowest first (R411). -/
def leBytes : Nat → Nat → List Nat
  | 0, _ => []
  | n + 1, w => w % 256 :: leBytes n (w / 256)

/-- A region of a protection domain (R300). -/
structure Region where
  vbase : Nat
  pbase : Nat
  pages : Nat
  flags : Nat
  deriving DecidableEq, Repr

/-- Word `i` of a sheet held as words. -/
def wordAt (l : List Nat) (i : Nat) : Nat := l.getD i 0

/-- The region record of domain `d` and region `r` in a DMA sheet (R308). -/
def regionOf (dma : List Nat) (d r : Nat) : Region :=
  let i := 132 + 4 * (32 * d + r)
  ⟨wordAt dma i, wordAt dma (i + 1), wordAt dma (i + 2), wordAt dma (i + 3)⟩

/-- The regions of a domain: those of the active image, or before one the two of R301. -/
def State.regions (s : State) (d : Nat) : List Region :=
  match s.stg.active with
  | some i => (List.range 32).map (regionOf i.dma d)
  | none => if d = 15 then [⟨0, 0, 0x400, 7⟩, ⟨0x01000000, 0x01000000, 0xFEFE0, 7⟩] else []

/-- Whether an address lies in a region. -/
def Region.holds (r : Region) (a : Nat) : Bool :=
  bitOf r.flags 0 && decide (r.vbase ≤ a) && decide (a < r.vbase + r.pages * 4096)

/-- Translation of an address (R300): the physical address, or the cause 1 or 2 of R305. -/
def State.translate (s : State) (d a : Nat) (write : Bool) : Except Nat Nat :=
  match (s.regions d).find? fun r => r.holds a with
  | none => .error 1
  | some r => if bitOf r.flags (if write then 2 else 1) then .ok (r.pbase + (a - r.vbase)) else .error 2

/-- The beats of a request (R296): virtual address and bytes of each. -/
def beatsOf : Nat → Nat → Nat → List (Nat × Nat)
  | 0, _, _ => []
  | fuel + 1, a, n => if n = 0 then [] else
    let k := min n (8 - a % 8)
    (a, k) :: beatsOf fuel (a + k) (n - k)

/-- The beats of a request in physical addresses up to the first that faults, with that one's virtual address and cause. -/
def State.translateBeats (s : State) (d : Nat) (write : Bool) : List (Nat × Nat) → List (Nat × Nat) × Option (Nat × Nat)
  | [] => ([], none)
  | (a, n) :: bs =>
    match s.translate d a write with
    | .error c => ([], some (a, c))
    | .ok p =>
      let r := s.translateBeats d write bs
      ((p, n) :: r.1, r.2)

/-- The 8 KiB block of an errata move holds an address (R293). Log 103 (DEDUCED). -/
def State.moving (s : State) (a : Nat) : Bool := s.mem.moves.any fun m => m.block == a / 8192

/-- The slot of the image in effect: the staged slot while a swap is under way (R153). -/
def State.imageSlot (s : State) : Nat :=
  if s.fld Reg.STG_ATL_STATUS_STATE = 5 then s.fld Reg.STG_ATL_STATUS_STG_SLOT else s.fld Reg.STG_ATL_STATUS_ACT_SLOT

/-- The slots that a write finds locked (R147): active, verifying, loading or staged, and both during a swap. Log 146 (DEDUCED). -/
def State.slotLocked (s : State) (k : Nat) : Bool :=
  (s.stg.active.isSome && s.fld Reg.STG_ATL_STATUS_ACT_SLOT == k)
    || (decide (2 ≤ s.fld Reg.STG_ATL_STATUS_STATE) && decide (s.fld Reg.STG_ATL_STATUS_STATE ≤ 5) && s.fld Reg.STG_ATL_STATUS_STG_SLOT == k)

end Sys2Proof.Machine
end

