-- ==== Sys2Proof/Machine/DmaOps.lean ====
section
/-!
DEFINITION. DMA channels (R295 to R310): what a channel asks for next, the tracker, what the beats of a request do, and faults.
A channel has at most one request in the tracker at a time.
-/

namespace Sys2Proof.Machine

/-- The record of a channel. -/
def State.dch (s : State) (c : Nat) : DmaCh := tabGet {} s.mem.ch c
def State.setDch (s : State) (c : Nat) (r : DmaCh) : State :=
  { s with mem := { s.mem with ch := tabSet {} s.mem.ch c r } }

/-- The kinds of R295. -/
def kSTREAM : Nat := 1
def kFETCH : Nat := 2
def kCOPY : Nat := 3

/-- The kind, domain and class of a channel, as the sheet in force gives them (R295, R308). -/
def State.chKind (s : State) (c : Nat) : Nat := s.fld (Reg.DMA_CH_CFG_KIND c)
def State.chDom (s : State) (c : Nat) : Nat := s.fld (Reg.DMA_CH_CFG_DOM c)

/-- The class of a requester: a channel, 32 the host window, 33 the service window (R295, R416). -/
def State.reqClass (s : State) (r : Nat) : Nat :=
  if r < 32 then s.fld (Reg.DMA_CH_CFG_CLASS r) else if r = 32 then 3 else 2

/-- Whether DRAM serves requests: filled once (R286), and not in self-refresh (R274). -/
def State.memRuns (s : State) : Bool := s.on Reg.MEM_STATUS_INIT_DONE && !s.on Reg.CLK_STATUS_M_SR

/-- The requests of a channel in the tracker (R302, R310). -/
def DmaCh.flights (r : DmaCh) : List Flight := r.orphans ++ r.flight.toList

/-- The tracker entries that a class holds (R302): each is freed as its last beat is served. -/
def State.held (s : State) (cls : Nat) : Nat :=
  s.mem.ch.foldl (fun n e => e.2.flights.foldl (fun m f => if f.cls = cls then m + f.left else m) n) 0

/-- How many entries a class may take now (R302). -/
def State.room (s : State) (cls : Nat) : Nat :=
  let a := s.held 1
  let b := s.held 2
  let c := s.held 3
  min (96 - (a + b + c)) (match cls with
    | 1 => 32 - a
    | 2 => min (s.fld Reg.MEM_TRK_CFG_BOUND_B - b) (80 - (b + c))
    | _ => min (s.fld Reg.MEM_TRK_CFG_BOUND_C - c) (80 - (b + c)))

/-- MEM_TRK follows the tracker (R312). -/
def State.noteTracker (s : State) : State :=
  ((s.setFld Reg.MEM_TRK_A_USED (s.held 1)).setFld Reg.MEM_TRK_B_USED (s.held 2)).setFld Reg.MEM_TRK_C_USED (s.held 3)

/-- The requesters in the C-to-M queue of a class, head first (R280). -/
def State.reqQueue (s : State) (cls : Nat) : List Nat := tabGet [] s.mem.reqQ cls
def State.setReqQueue (s : State) (cls : Nat) (l : List Nat) : State :=
  { s with mem := { s.mem with reqQ := tabSet [] s.mem.reqQ cls l } }

/-- The places of the C-to-M queues (R280). -/
def reqDepth : Nat := 8

/-- A request is written into its class's queue: it waits at the writer where that is full (R277). -/
def State.joinQueue (s : State) (cls r : Nat) : State :=
  let l := s.reqQueue cls
  if l.contains r ∨ reqDepth ≤ l.length then s else s.setReqQueue cls (l ++ [r])

/-- A request leaves its class's queue. -/
def State.leaveQueue (s : State) (cls r : Nat) : State := s.setReqQueue cls ((s.reqQueue cls).filter (· != r))

/-- Whether an access of the housekeeping core, a requester of class B, may run (R274, R293, R295, R302): DRAM serves requests, an entry is
free, and no block that it touches is being moved. The access takes its entries and frees them within the command that makes it.
Log 102 (DESIGN CHOICE). -/
def State.coreReady (s : State) (a n : Nat) : Bool :=
  s.memRuns && decide (0 < s.room 2) && !s.mem.moves.any fun m => decide (m.block * 8192 < a + n) && decide (a < m.block * 8192 + 8192)

/-- An access of the housekeeping core that finds no entry stalls, which is counted once (R302). -/
def State.coreStall (s : State) : State :=
  if !s.memRuns || s.mem.coreStalled || decide (0 < s.room 2) then s
  else { s with mem := { s.mem with coreStalled := true } }.count Reg.MEM_TRK_STALL_CNT_B_STALL

/-- An access of the housekeeping core has run. -/
def State.coreDone (s : State) : State := { s with mem := { s.mem with coreStalled := false } }

/-- The blocks that a request touches (R296). -/
def blocksOf (a n : Nat) : Nat := (a + n - 1) / 64 - a / 64 + 1

/-- A stream record of a converter (R191); a gap marker has code 0x8000 and bit 126 set (R192). -/
def StreamRec.encode (r : StreamRec) : Nat :=
  r.stamp % 2 ^ 64 + r.value % 2 ^ 32 * 2 ^ 64 + r.code % 2 ^ 16 * 2 ^ 96 + r.entry % 512 * 2 ^ 112 + r.tags % 128 * 2 ^ 121

/-- A trace record (R126). -/
def TapRec.encode (r : TapRec) : Nat :=
  r.stamp % 2 ^ 64 + r.value % 2 ^ 32 * 2 ^ 64 + r.ctx % 128 * 2 ^ 96 + r.tap % 4 * 2 ^ 104 + r.cell % 32 * 2 ^ 106
    + asNat r.gap * 2 ^ 111

/-- The converter whose next waiting record for a channel crossed first (R191), where `taken` names a converter once for each of its
records that is taken already. -/
def State.convNext (s : State) (c : Nat) (taken : List Nat) : Option (Nat × StreamRec) :=
  (List.range 32).foldl (fun m v =>
    match ((tabGet {} s.adc.conv v).streamQ.filter fun r => r.ch == c).drop (taken.count v) with
    | [] => m
    | r :: _ =>
      match m with
        | none => some (v, r)
        | some q => if r.cross < q.2.cross then some (v, r) else m) none

/-- The first stream records that wait for a channel, in the order of their crossing, each with its converter (R191). -/
def State.convRecs (s : State) (c : Nat) : Nat → List Nat → List (Nat × Nat)
  | 0, _ => []
  | n + 1, taken =>
    match s.convNext c taken with
    | none => []
    | some q => (q.1, q.2.encode) :: s.convRecs c n (q.1 :: taken)

/-- The records that a STREAM channel serves next, each with its producer (R295): converters, 32 the trace, 33 Contour. -/
def State.producer (s : State) (c : Nat) : List (Nat × Nat) :=
  let l := s.convRecs c 4 []
  if !l.isEmpty then l
  else if s.fld Reg.GRT_TRACE_CFG_DMA_CH = c ∧ s.eng.tapQ ≠ [] then s.eng.tapQ.map fun r => (32, r.encode)
  else (s.recQ c).recs.map fun r => (33, r)

/-- The first record of a producer leaves its queue; a queue that owes a gap marker writes it, now that there is
room (R192, R317). -/
def State.dropRec (s : State) (c src : Nat) : State :=
  if src < 32 then
    let v := tabGet {} s.adc.conv src
    let q := v.streamQ.eraseP fun r => r.ch == c
    let r : ConvRun := if v.gapCount = 0 then { v with streamQ := q }
      else { v with streamQ := q ++ [{ stamp := v.gapStamp, value := v.gapCount, code := 0x8000, entry := v.gapEntry, tags := 32,
                                       cross := s.adc.crossed, ch := v.gapCh }], gapCount := 0, gapStamp := 0, gapEntry := 0, gapCh := 0 }
    { s with adc := { s.adc with conv := tabSet {} s.adc.conv src r, crossed := s.adc.crossed + 1 } }
  else if src = 32 then { s with eng := { s.eng with tapQ := s.eng.tapQ.drop 1 } }
  else s.setRecQ c (s.recQ c).drop1

/-- The records of a write that has completed leave their queues. -/
def State.dropRecs (s : State) (c : Nat) (srcs : List Nat) : State := srcs.foldl (fun t v => t.dropRec c v) s

/-- How many records a STREAM buffer takes now (R297): up to four, not across a 64-byte boundary, and in STOP mode never up to
RPTR. -/
def State.streamRoom (s : State) (c : Nat) : Nat :=
  let w := s.fld (Reg.DMA_CH_WPTR c)
  let size := s.fld (Reg.DMA_CH_SIZE c)
  let free := if s.on (Reg.DMA_CH_CTRL_MODE c) then 4
    else ((s.fld (Reg.DMA_CH_RPTR c) / 16 * 16 + size - w + size - 16) % size) / 16
  min (min 4 ((64 - w % 64) / 16)) free

/-- Whether WPTR passes RPTR as it moves from `w` over `n` bytes (R297); `full` tells a full buffer from an empty one where both pointers are
equal. Log 106 (DEDUCED). -/
def lapped (full : Bool) (w n r size : Nat) : Bool :=
  let d := (r + size - w) % size
  if d = 0 then full else decide (d < n)

/-- STREAM_RECORD_WRITE (R297): the records of a completed write become readable. Log 106 (DEDUCED). -/
def State.streamWritten (s : State) (c : Nat) : State :=
  let n := 16 * (s.dch c).wrote
  if n = 0 then s
  else
    let size := s.fld (Reg.DMA_CH_SIZE c)
    let w := s.fld (Reg.DMA_CH_WPTR c)
    let r := s.fld (Reg.DMA_CH_RPTR c) / 16 * 16
    let w2 := if size = 0 then w + n else (w + n) % size
    let lap := s.on (Reg.DMA_CH_CTRL_MODE c) && lapped (s.dch c).full w n r size
    let t := (s.setDch c { s.dch c with wrote := 0, full := w2 == r && !lap }).setFld (Reg.DMA_CH_WPTR c) w2
    if lap then
      ((t.setFld (Reg.DMA_CH_RPTR c) ((w + n + 16) % size)).raise (Reg.DMA_CH_STATUS_LAP_S c)).count (Reg.DMA_CH_CNT2_LAP_CNT c)
    else t

/-- What a request is, before it takes its entries. -/
structure Ask where
  vaddr : Nat
  len : Nat
  write : Bool
  recs : List Nat := []
  srcs : List Nat := []
  deriving DecidableEq, Repr

/-- What a request in the tracker asked for. -/
def Flight.ask (f : Flight) : Ask := { vaddr := f.vaddr, len := f.len, write := f.write, recs := f.recs, srcs := f.srcs }

/-- The bytes of a chunk that a COPY moves at once: no request crosses a 256-byte boundary (R296). -/
def CopyRun.chunk (r : CopyRun) : Nat :=
  min (r.len - r.done) (min (256 - (r.src + r.done) % 256) (256 - (r.dst + r.done) % 256))

/-- The next request of a channel (R296 to R299), if it has one. -/
def State.ask (s : State) (c : Nat) : Option Ask :=
  let r := s.dch c
  if r.halted || r.flight.isSome then none
  else if s.chKind c = kFETCH then
    match r.jobs with
    | [] => none
    | j :: _ =>
      if j.words ≤ j.done then none
      else
        let a := j.addr + 4 * j.done
        some { vaddr := a, len := min (4 * (j.words - j.done)) (256 - a % 256), write := false }
  else if s.chKind c = kCOPY then
    match r.copy with
    | none => none
    | some k =>
      match k.phase with
      | 0 => some { vaddr := k.desc, len := 32, write := false }
      | 1 => some { vaddr := k.src + k.done, len := k.chunk, write := false }
      | 2 => some { vaddr := k.dst + k.done, len := k.buf.length, write := true }
      | _ => none
  else if s.chKind c = kSTREAM then
    if r.wrote ≠ 0 then none
    else
      let p := s.producer c
      let l := p.take (s.streamRoom c)
      if l.isEmpty then none
      else some { vaddr := s.fld (Reg.DMA_CH_BASE c) + s.fld (Reg.DMA_CH_WPTR c), len := 16 * l.length, write := true,
                  recs := l.map (·.2), srcs := l.map (·.1) }
  else none

/-- Whether a requester has a request that wants entries. -/
def State.wants (s : State) (r : Nat) : Bool :=
  if r < 32 then (match (s.dch r).flight with
    | some f => decide (0 < f.want)
    | none => (s.ask r).isSome)
  else (tabGet {} s.host.port (r - 32)).frame.isSome

/-- Whether a requester stands at the head of its class's queue (R302). -/
def State.atHead (s : State) (cls r : Nat) : Bool := (s.reqQueue cls).find? s.wants == some r

/-- A waiting context ends with the fault of its fetch (R124). -/
def State.faultWaiting (s : State) (n : Nat) : State :=
  let t := (s.raise (Reg.GRT_CTX_STATUS_DMAF_S (n % 128))).missExec n
  t.setCtx n { t.ctx n with phase := .idle, rep := none, boundary := true }

/-- The execution that a fetch belongs to meets its fault (R124). -/
def State.faultJob (s : State) (j : FetchJob) : State :=
  let r := s.ctx j.ctx
  if r.phase = .idle ∨ r.phase = .ready ∨ r.trigAt ≠ j.trigAt then s
  else if r.phase = .waiting then s.faultWaiting j.ctx
  else s.setCtx j.ctx { r with faulted := true }

/-- A channel faults (R305): it halts with its record, its fetches end with the fault. -/
def State.dmaFault (s : State) (c cause vaddr beat : Nat) : State :=
  let r := s.dch c
  let ctx := match r.jobs with
    | j :: _ => j.ctx % 128
    | [] => 0xFF
  let s1 := (s.setDch c { r with halted := true, flight := none, jobs := [], wrote := 0, stalled := false }).leaveQueue (s.reqClass c) c
  let s2 := (((s1.setFld (Reg.DMA_CH_FAULT_ADDR c) vaddr).setFld (Reg.DMA_CH_FAULT_INFO_CAUSE c) cause).setFld
    (Reg.DMA_CH_FAULT_INFO_DOM c) (s.chDom c)).setFld (Reg.DMA_CH_FAULT_INFO_BEAT c) beat
  let s3 := (s2.setFld (Reg.DMA_CH_FAULT_INFO_CTX c) ctx).stamp (Reg.DMA_CH_FAULT_STAMP_LO c) (Reg.DMA_CH_FAULT_STAMP_HI c) s.now
  let s4 := ((s3.raiseBit Reg.DMA_FAULT_S c).count (Reg.DMA_CH_CNT_FLT_CNT c)).noteTracker
  r.jobs.foldl State.faultJob s4

/-- A request of a channel meets a fault (R305): the stream records that landed whole before the faulting beat are written, the others wait
in their queues, and the channel halts. -/
def State.askFault (s : State) (c : Nat) (q : Ask) (cause vaddr beat : Nat) : State :=
  ((s.dropRecs c (q.srcs.take (s.dch c).wrote)).streamWritten c).dmaFault c cause vaddr beat

/-- Words of a fetch reach state memory with their poison (R123, R288). -/
def State.landWords (s : State) (j : FetchJob) : Nat → List Nat → List Bool → State
  | i, a :: b :: c :: d :: bs, p :: q :: u :: v :: ps =>
    let w : MWord := { val := leWord [a, b, c, d], ecc := if p || q || u || v then .bad else .ok }
    (s.setSt (s.cellOf j.ctx) (j.dest + j.done + i) w).landWords j (i + 1) bs ps
  | _, _, _ => s

/-- A descriptor that has been read (R298): taken, or invalid. -/
def CopyRun.describe (k : CopyRun) (b : List Nat) : Option CopyRun :=
  let w (i : Nat) := leWord ((b.drop (4 * i)).take 4)
  if w 2 = 0 ∨ 16777216 < w 2 ∨ 1 < w 4 ∨ w 5 ≠ 0 ∨ w 6 ≠ 0 ∨ w 7 ≠ 0 then none
  else some { k with src := w 0, dst := w 1, len := w 2, next := w 3, last := w 4 == 1, done := 0, phase := 1, buf := [], bad := [] }

/-- The write of a COPY's data (R288, R305). -/
def State.landCopy (s : State) (c : Nat) (k : CopyRun) (a n : Nat) : State × Nat :=
  let w := s.writeBytes 5 a (k.buf.take n) (k.bad.take n)
  let done := k.done + w.2
  (w.1.setDch c { w.1.dch c with copy := some { k with done := done, buf := k.buf.drop w.2, bad := k.bad.drop w.2,
                                                       phase := if w.2 < k.buf.length then 2 else if done < k.len then 1 else 3 } },
   w.2)

/-- The beats of a request of a channel act (R284, R288, R297, R298, R305): the number of bytes that landed, and the cause of a
fault that the action itself meets. -/
def State.landBeats (s : State) (c : Nat) (q : Ask) (bs : List (Nat × Nat)) : State × Nat × Nat :=
  let n := (bs.map (·.2)).sum
  let r := s.dch c
  if n = 0 then (s, 0, 0)
  else if s.chKind c = kFETCH then
    match r.jobs with
    | [] => (s, n, 0)
    | j :: js =>
      let x := s.readBeats bs
      let t := x.1.landWords j 0 x.2.1 x.2.2
      (t.setDch c { t.dch c with jobs := { j with done := j.done + n / 4 } :: js }, n, 0)
  else if s.chKind c = kCOPY then
    match r.copy with
    | none => (s, n, 0)
    | some k =>
      if k.phase = 2 then
        let x := s.landCopy c k ((bs.headD (0, 0)).1) n
        (x.1, x.2, if x.2 < n then 6 else 0)
      else
        let x := s.readBeats bs
        if k.phase = 0 then
          if n < 32 then (x.1, n, 0)
          else match k.describe x.2.1 with
            | none => (x.1, 0, 7)
            | some k2 => (x.1.setDch c { r with copy := some k2 }, n, 0)
        else (x.1.setDch c { r with copy := some { k with buf := x.2.1, bad := x.2.2, phase := 2 } }, n, 0)
  else
    let bytes := (q.recs.map (leBytes 16)).flatten.take n
    let w := s.writeBytes 5 ((bs.headD (0, 0)).1) bytes []
    (w.1.setDch c { w.1.dch c with wrote := w.2 / 16 }, w.2, if w.2 < n then 6 else 0)

/-- The data of a COPY whose read faults behind its first beats reach their destination before the channel halts (R305). -/
def State.flushCopy (s : State) (c : Nat) : State :=
  match (s.dch c).copy with
  | some k =>
    if s.chKind c = kCOPY ∧ k.phase = 2 ∧ k.buf ≠ [] then
      let b := s.translateBeats (s.chDom c) true (beatsOf 33 (k.dst + k.done) k.buf.length)
      let n := (b.1.map (·.2)).sum
      if n = 0 then s else (s.landCopy c k ((b.1.headD (0, 0)).1) n).1
    else s
  | none => s

/-- The cause by which a request is no request at all: a FETCH address that is not aligned (R123), or a descriptor's (R298). -/
def State.badAsk (s : State) (c : Nat) (q : Ask) : Option Nat :=
  if s.chKind c = kFETCH ∧ q.vaddr % 4 ≠ 0 then some 3
  else if s.chKind c = kCOPY ∧ q.vaddr % 32 ≠ 0 ∧ ((s.dch c).copy.map (·.phase)) = some 0 then some 7
  else none

/-- The request as it stands in the tracker (R302, R310): `n` entries are taken, of as many as it touches blocks. -/
def State.flightOf (s : State) (c : Nat) (q : Ask) (n : Nat) (bs : List (Nat × Nat)) : Flight :=
  let k := blocksOf q.vaddr q.len
  { cls := s.reqClass c, entries := k, left := n, want := k - n, takenAt := s.now, vaddr := q.vaddr, len := q.len, write := q.write, beats := bs,
    recs := q.recs, srcs := q.srcs, kind := s.chKind c, copy := (s.dch c).copy, job := (s.dch c).jobs.head? }

/-- A request of a channel takes its first `n` entries (R302), with its addresses translated (R300, R310); a beat that faults commits the
beats before it and halts the channel (R305). -/
def State.accept (s : State) (c : Nat) (q : Ask) (n : Nat) : State :=
  let s1 := if blocksOf q.vaddr q.len ≤ n then (s.setDch c { s.dch c with stalled := false }).leaveQueue (s.reqClass c) c else s
  match s.badAsk c q with
  | some e => s1.dmaFault c e q.vaddr 0
  | none =>
    let vb := beatsOf 33 q.vaddr q.len
    let b := s.translateBeats (s.chDom c) q.write vb
    match b.2 with
    | some (a, e) =>
      let x := s1.landBeats c q b.1
      let t := if x.2.2 = 0 ∧ q.write = false then x.1.flushCopy c else x.1
      if x.2.2 = 0 then t.askFault c q e a b.1.length
      else t.askFault c q x.2.2 (q.vaddr + x.2.1) (beatsOf 33 q.vaddr x.2.1).length
    | none => (s1.setDch c { s1.dch c with flight := some (s.flightOf c q n b.1) }).noteTracker

/-- The counter of stalls of a class (R302); class A has none. -/
def State.countStall (s : State) (cls : Nat) : State :=
  match cls with
  | 2 => s.count Reg.MEM_TRK_STALL_CNT_B_STALL
  | 3 => s.count Reg.MEM_TRK_STALL_CNT_C_STALL
  | _ => s

/-- A channel's request stalls, which is counted once (R302). -/
def State.stallCh (s : State) (c : Nat) : State :=
  if (s.dch c).stalled then s else (s.setDch c { s.dch c with stalled := true }).countStall (s.reqClass c)

/-- A request at the head of its queue takes the entries that it still wants, as far as its class may (R302). -/
def State.fill (s : State) (r : Nat) : State :=
  match (s.dch r).flight with
  | none => s
  | some f =>
    let k := min f.want (s.room f.cls)
    if k = 0 then s
    else
      let t := s.setDch r { s.dch r with flight := some { f with left := f.left + k, want := f.want - k },
                                         stalled := (s.dch r).stalled && decide (k < f.want) }
      if k = f.want then t.leaveQueue f.cls r else t

/-- A channel's request comes to the tracker (R302): from the head of its class's queue it takes entries, or stalls and is counted once;
behind another it waits. A request made in the C-cycle of its queue's error is lost with it, and none passes a queue in reset (R278, R281).
Log 102 (DESIGN CHOICE). -/
def State.acceptCh (s : State) (c : Nat) : State :=
  let cls := s.reqClass c
  if (s.dch c).flight.isSome then (if s.memRuns && !s.queueReset (31 + cls) then (s.fill c).noteTracker else s)
  else match s.ask c with
    | none => s
    | some q =>
      if s.queueClash (31 + cls) then s.dmaFault c 5 q.vaddr 0
      else if s.queueReset (31 + cls) then s
      else
        let t := s.joinQueue cls c
        if !t.memRuns || !t.atHead cls c then t
        else
          let k := t.room cls
          let u := if k < blocksOf q.vaddr q.len then t.stallCh c else t
          if k = 0 then u else u.accept c q (min k (blocksOf q.vaddr q.len))

/-- The request of a requester that the command slots serve next: of an old record of its channel first (R310). -/
def DmaCh.front (r : DmaCh) : Option Flight := r.flights.head?
def DmaCh.setFront (r : DmaCh) (f : Flight) : DmaCh :=
  match r.orphans with
  | [] => { r with flight := some f }
  | _ :: l => { r with orphans := f :: l }

/-- Whether a requester has an entry of a class that a command slot can serve: its block is not held by a move that was asked for before it
(R293, R311). None: the slot reads the no-operation request, the idle item of its queue (R279, R280). -/
def State.servable (s : State) (cls r : Nat) : Bool :=
  match (s.dch r).front with
  | none => false
  | some f => f.cls == cls && decide (0 < f.left) 
      && !f.beats.any fun b => s.mem.moves.any fun m => m.block == b.1 / 8192 && decide (m.at0 < f.takenAt)

/-- The requester that a class serves next (R303): in round-robin order, from the one after the requester served last. -/
def State.nextOf (s : State) (cls : Nat) : Option Nat :=
  let p := tabGet 0 s.mem.rr cls
  ((List.range 34).map fun k => (p + k) % 34).find? fun r => s.servable cls r

/-- The class and requester of the next command slot (R303): class A before B before C. -/
def State.nextServed (s : State) : Option (Nat × Nat) :=
  match s.nextOf 1, s.nextOf 2, s.nextOf 3 with
  | some r, _, _ => some (1, r)
  | none, some r, _ => some (2, r)
  | none, none, some r => some (3, r)
  | none, none, none => none

/-- The requests at the heads of the queues take entries that have come free (R302). -/
def State.fillHeads (s : State) : State :=
  forIdx 3 (fun k t => match (t.reqQueue (3 - k)).find? t.wants with
    | some r => t.fill r
    | none => t) s

/-- One entry of a requester is served and freed (R302, R303). -/
def State.serveOne (s : State) (cls r : Nat) : State :=
  match (s.dch r).front with
  | none => s
  | some f =>
    let t := s.setDch r ((s.dch r).setFront { f with left := f.left - 1 })
    ({ t with mem := { t.mem with rr := tabSet 0 t.mem.rr cls ((r + 1) % 34) } }).fillHeads

/-- Whether every entry of a request has been taken and served. -/
def Flight.served (f : Flight) : Bool := f.left == 0 && f.want == 0

/-- Command slots serve entries in the order of R303 until a request has its last: the state then, where it is the request of `r`.
Log 102 (DESIGN CHOICE). -/
def State.serveTo (s : State) (r : Nat) : Nat → Option State
  | 0 => none
  | n + 1 =>
    match s.nextServed with
    | none => none
    | some (cls, q) =>
      let t := s.serveOne cls q
      if ((t.dch q).front.map Flight.served) = some true then (if q = r then some t else none) else t.serveTo r n

/-- A fetch of an old record has its words (R310). -/
def DmaCh.advanceJob (r : DmaCh) (j : FetchJob) (n : Nat) : DmaCh :=
  { r with jobs := r.jobs.map fun k => if k = j then { k with done := k.done + n } else k }

/-- A request of an old record of its channel completes as it was accepted (R310): its beats act, and the channel's new record is none the
wiser. Log 172 (DEDUCED). -/
def State.landOrphan (s : State) (c : Nat) (f : Flight) : State :=
  let a := (f.beats.headD (0, 0)).1
  if f.kind = kFETCH then
    let x := s.readBeats f.beats
    match f.job with
    | none => x.1
    | some j =>
      let t := x.1.landWords j 0 x.2.1 x.2.2
      t.setDch c ((t.dch c).advanceJob j (f.len / 4))
  else if f.write = false then (s.readBeats f.beats).1
  else if f.kind = kCOPY then
    match f.copy with
    | none => s
    | some k => (s.writeBytes 5 a (k.buf.take f.len) (k.bad.take f.len)).1
  else (s.writeBytes 5 a ((f.recs.map (leBytes 16)).flatten) []).1.dropRecs c f.srcs

/-- A completion is lost with its queue (R278, R280): what the request wrote has landed, what it read is gone, and its channel faults. -/
def State.loseCompletion (s : State) (c : Nat) (f : Flight) : State :=
  let t := if f.write then (s.writeBytes 5 ((f.beats.headD (0, 0)).1)
    (if f.kind = kCOPY then ((f.copy.map CopyRun.buf).getD []).take f.len else (f.recs.map (leBytes 16)).flatten) []).1 else s
  t.dmaFault c 5 f.vaddr 0

/-- A request in the tracker completes (R284, R303, R305): its completion waits while the queue that carries it is in reset, and is lost in
the C-cycle of its error (R278, R281). Log 102 (DESIGN CHOICE). -/
def State.completeCh (s0 : State) (c : Nat) : State :=
  match s0.serveTo c 96, (s0.dch c).front with
  | some s, some f =>
    let r := s.dch c
    if !s0.memRuns then s0
    else if s0.queueClash (34 + f.cls) then
      (match r.orphans with
      | _ :: l => (s.setDch c { r with orphans := l }).noteTracker
      | [] => s.loseCompletion c f)
    else if s0.queueReset (34 + f.cls) then s0
    else
      match r.orphans with
      | _ :: l => ((s.setDch c { r with orphans := l }).landOrphan c f).noteTracker
      | [] =>
        let x := (s.setDch c { r with flight := none }).landBeats c f.ask f.beats
        if x.2.2 = 0 then (if s.chKind c = kSTREAM then (x.1.dropRecs c f.srcs).noteTracker else x.1.noteTracker)
        else x.1.askFault c f.ask x.2.2 (f.vaddr + x.2.1) (beatsOf 33 f.vaddr x.2.1).length
  | _, _ => s0

/-- Whether a channel has work (R296), which STATUS.STATE reports with HALTED. -/
def State.chState (s : State) (c : Nat) : Nat :=
  let r := s.dch c
  if r.halted then 2
  else if r.flight.isSome || r.wrote != 0 || !r.jobs.isEmpty || r.copy.isSome || (s.ask c).isSome
      || (s.chKind c == kSTREAM && !(s.producer c).isEmpty) then 1
  else 0

/-- The channel that serves a context's fetches (R123). -/
def State.fetchCh (s : State) (n : Nat) : Option Nat :=
  firstIdx 32 fun c => s.chKind c == kFETCH && s.fld (Reg.DMA_CH_CFG_CTX c) == n % 128

/-- Whether a fetch of the present execution of a context is pending (R123). -/
def State.fetching (s : State) (n : Nat) : Bool :=
  s.mem.ch.any fun e => e.2.jobs.any fun j => j.ctx == n && j.trigAt == (s.ctx n).trigAt

/-- Whether any fetch of a context is pending, or its channel halted (R169). -/
def State.fetchBusy (s : State) (n : Nat) : Bool :=
  (s.mem.ch.any fun e => e.2.jobs.any fun j => j.ctx == n)
    || (match s.fetchCh n with
      | some c => (s.dch c).halted
      | none => false)

end Sys2Proof.Machine
end

