-- ==== Sys2Proof/Machine/SecOps.lean ====
section
/-!
DEFINITION. What the security block does for every operation that signs or verifies (R145, R146, R381 to R384), and the log and
the seals that other operations ask for (R396, R399, R400).
-/

namespace Sys2Proof.Machine

/-- The first 48 bytes of a number, as a digest is held. -/
def digest (l : List Nat) : Nat := Config.sha384 l % 2 ^ 384

/-- Reads `n` bytes of DRAM from `a` for the housekeeping core: bytes, and whether any was poisoned (R288). -/
def State.readMem (s : State) (a n : Nat) : State × List Nat × Bool :=
  let r := s.readBeats (beatsOf (n / 8 + 2) a n)
  (r.1, r.2.1, r.2.2.any id)

/-- The `n` bytes of a list from `i` on. -/
def slice (l : List Nat) (i n : Nat) : List Nat := (l.drop i).take n

/-- A little-endian number of `n` bytes at `i`. -/
def leAt (l : List Nat) (i n : Nat) : Nat := leWord (slice l i n)

/-- Whether the `n` bytes from `i` are all 0. -/
def zeros (l : List Nat) (i n : Nat) : Bool := (slice l i n).all (· == 0)

/-- The bytes of an ASCII text. -/
def ascii (t : String) : List Nat := t.toList.map Char.toNat

/-- A key slot (R381). Log 94 (DESIGN CHOICE). -/
def State.keySlot (s : State) (k : Nat) : KeySlot := s.sec.slots.getD k {}

/-- Whether the head words and padding of the ECDSA block are as R145 lays them out. -/
def ecBlockOk (b : List Nat) : Bool :=
  leAt b 0 4 == 1 && leAt b 4 4 == 256 && zeros b 105 7 && zeros b 208 48

/-- Whether the head words, type fields and padding of the LMS block are as R145 lays them out: type 7 and LM-OTS type 4 in the
key and in the signature, as big-endian words. -/
def lmsBlockOk (b : List Nat) : Bool :=
  leAt b 0 4 == 2 && leAt b 4 4 == 1680 && zeros b 1676 4 && slice b 8 4 == [0, 0, 0, 7] && slice b 12 4 == [0, 0, 0, 4]
    && slice b 68 4 == [0, 0, 0, 4] && slice b 1192 4 == [0, 0, 0, 7]

/-- The outcome of the signature blocks over a message (R145, R146): 0 both verify, 1 the key slot, 2 ECDSA, 3 LMS. Both are
evaluated, and ECDSA is named first. -/
def State.sigCheck (s : State) (slot : Nat) (msg ec lms : List Nat) : Nat :=
  let k := s.keySlot slot
  if k.st ≠ 1 ∨ digest (slice ec 8 97) ≠ k.ecHash ∨ digest (slice lms 8 56) ≠ k.lmsHash then 1
  else if !(ecBlockOk ec && Config.ecdsaOk (slice ec 8 97) msg (slice ec 112 96)) then 2
  else if !(lmsBlockOk lms && Config.lmsOk (slice lms 8 56) msg (slice lms 64 1612)) then 3
  else 0

/-- The bytes of the two public keys (R383): the identity key begins with 0x04, the LMS key with its type 7 and its OTS type 4 (R145). -/
def identityByte (i : Nat) : Nat :=
  if i = 0 then 4
  else if 128 ≤ i ∧ i < 136 then [0, 0, 0, 7, 0, 0, 0, 4].getD (i - 128) 0
  else Config.identity i % 256

/-- DEVICE_ID (R383): the first 16 bytes of the digest of the identity public key. -/
def deviceId : Nat := digest ((List.range 97).map identityByte) % 2 ^ 128

/-- Sets the record of the security block. -/
def State.setSec (s : State) (r : SecRun) : State := { s with sec := r }

/-- RTC seconds (R393). -/
def State.rtcSec (s : State) : Nat := s.sec.rtc / 2 ^ 15

/-- Appends an entry to the log, which keeps the latest 32 (R396). -/
def State.logEntry (s : State) (kind input detail : Nat) : State :=
  let e : LogRec := { rtc := s.rtcSec, kind := kind, input := input, seq := s.sec.ret.tampTotal % 2 ^ 16, detail := detail }
  { s with sec := { s.sec with ret := { s.sec.ret with log := (e :: s.sec.ret.log).take 32 } } }

/-- A seal falls due for a cause, by its bit in CAUSE (R400, R402). Log 91 (DEDUCED). -/
def State.askSeal (s : State) (c : Nat) : State := { s with sec := { s.sec with sealDue := setBit s.sec.sealDue c } }

/-- The Tally record of a group. -/
def State.tallyRec (s : State) (g : Nat) : TallyRec := tabGet {} s.sec.tally g
def State.setTally (s : State) (g : Nat) (r : TallyRec) : State :=
  { s with sec := { s.sec with tally := tabSet {} s.sec.tally g r } }

/-- `n` bytes in which fields (offset, length, value) are laid little-endian over zeros. -/
def layBytes (n : Nat) (fs : List (Nat × Nat × Nat)) : List Nat :=
  fs.foldl (fun l (f : Nat × Nat × Nat) => l.take f.1 ++ leBytes f.2.1 f.2.2 ++ l.drop (f.1 + f.2.1)) (List.replicate n 0)

/-- Whole units of a counter with 32 fraction bits, and whole ms of a time in 2^-24 C-cycles (R397): a counter never decreases, so that it
stands at all ones. Log 175 (DEDUCED). -/
def wholeOf (x : Nat) : Nat := min (x / 2 ^ 32) (2 ^ 64 - 1)
def msOf (x : Nat) : Nat := min (x / (2 ^ 24 * 400000)) (2 ^ 32 - 1)

/-- The fields of a group in a seal (R400). -/
def State.sealGroup (s : State) (g : Nat) : List (Nat × Nat × Nat) :=
  let t := s.tallyRec g
  let o := 64 + 48 * g
  [(o, 8, wholeOf t.eExp), (o + 8, 8, wholeOf t.eImp), (o + 16, 8, wholeOf t.qPos), (o + 24, 8, wholeOf t.qNeg), (o + 32, 4, msOf t.unmet),
    (o + 36, 4, msOf t.orng), (o + 40, 4, t.calchg), (o + 44, 4, asNat (bitOf (s.fld Reg.SEC_TALLY_CFG_EN) g))]

/-- Bytes 0 to 511 of a seal with a cause (R400). -/
def State.sealBody (s : State) (cause : Nat) : List Nat :=
  layBytes 512 ([(0, 4, 0x4C54484B), (4, 4, s.sec.epoch), (8, 8, s.sec.sealNext), (16, 8, s.rtcSec), (24, 8, s.now), (32, 4, 2 ^ cause),
    (36, 4, asNat s.sec.ret.tampered + 2 * s.fld Reg.SEC_STATUS_EPOCH_EXH + 4 * asNat s.sec.rtcSetS), (40, 16, deviceId),
    (56, 4, s.sec.ret.tampTotal)] ++ ((List.range 8).map s.sealGroup).flatten ++ [(448, 48, s.sec.sealPrev)])

/-- Where the next seal is written (R400). -/
def State.sealAddr (s : State) : Nat := s.fld Reg.SEC_TALLY_BASE + 1024 * (s.sec.sealNext % 1024)

/-- A seal is written (R400). Log 85 (DESIGN CHOICE). -/
def State.seal (s : State) (cause : Nat) : State :=
  let b := s.sealBody cause
  let m := ascii "KH TALLY SEAL" ++ [0, 0, 0] ++ leBytes 48 (digest b)
  let n := s.sec.sealNext
  let w := (s.coreDone.writeBytes 20 s.sealAddr (b ++ leBytes 96 (Config.ecdsaSign m) ++ List.replicate 416 0) []).1
  let t := w.setSec { w.sec with sealNext := n + 1, sealPrev := digest b, sealLast := n, sealHash := digest b, rtcSetS := false,
                                 sealDue := clearBit w.sec.sealDue cause }
  (t.stamp Reg.SEC_TALLY_SEAL_LO Reg.SEC_TALLY_SEAL_HI n).raise Reg.SEC_STATUS_SEAL_S

/-- A seal for a cause is an operation of its own (R402): it waits for one that is running, and for DRAM (R295). -/
def State.sealOp (s : State) (cause : Nat) : State :=
  if s.on Reg.SEC_CMD_STAT_BUSY then s
  else if s.coreReady s.sealAddr 1024 then (s.seal cause).setFld Reg.SEC_CMD_STAT_BUSY 1
  else s.coreStall

/-- The counter, the log and the record of a change of a group's measurement chain (R399); the commit that makes it seals. -/
def State.calChange (s : State) (g : Nat) : State :=
  let t := s.setTally g { s.tallyRec g with calchg := (s.tallyRec g).calchg + 1 }
  ((t.logEntry 6 0 g).raise Reg.SEC_STATUS_CALCHG_S).askSeal 3

end Sys2Proof.Machine
end

