-- ==== Sys2Proof/Machine/ImageParse.lean ====
section
/-!
DEFINITION. The Atlas image as bytes: its header (R134), its directory (R135, R136), the rules that the sheet check applies to
each sheet (R137 to R143, R201 to R205, R233, R234, R308, R309, R376), and the structure that the sheets give.
-/

namespace Sys2Proof.Machine

/-- Whether the words of a list are all different. -/
def distinct : List Nat → Bool
  | [] => true
  | a :: l => !l.contains a && distinct l

/-- The result that the header fields give (R134, R150): 0, or the code of the first that fails. `fw` is the patch level in
service. -/
def headerResult (b : List Nat) (fw : Nat) : Nat :=
  let imageLen := leAt b 0x08 4
  let signedLen := leAt b 0x0C 4
  let cnt := leAt b 0x1E 2
  if leAt b 0x00 4 ≠ 0x534C5441 then 0x01
  else if leAt b 0x04 2 ≠ 1 ∨ leAt b 0x06 2 ≠ 64 then 0x02
  else if imageLen ≠ signedLen + 1936 ∨ 1048576 < imageLen ∨ signedLen % 16 ≠ 0 ∨ signedLen < 64 + 16 * cnt ∨ cnt = 0 ∨ 128 < cnt
      ∨ 64 < leAt b 0x1C 1 ∨ 3 < leAt b 0x1D 1 ∨ 3 < leAt b 0x28 4 ∨ zeros b 0x2C 20 = false then 0x03
  else if leAt b 0x10 4 ≠ 0x00080001 then 0x04
  else if fw < leAt b 0x14 4 then 0x05
  else 0

/-- An entry of the sheet directory (R135). -/
structure DirEnt where
  typ : Nat
  inst : Nat
  off : Nat
  len : Nat
  deriving DecidableEq, Repr

/-- Entry `k` of the directory. -/
def dirEnt (b : List Nat) (k : Nat) : DirEnt :=
  let i := 64 + 16 * k
  ⟨leAt b i 1, leAt b (i + 1) 1, leAt b (i + 4) 4, leAt b (i + 8) 4⟩

/-- The bytes of a sheet. -/
def DirEnt.bytes (d : DirEnt) (b : List Nat) : List Nat := slice b d.off d.len

/-- Whether a sheet type is one of those that a cell has (R135). -/
def perCell (t : Nat) : Bool := t == 3 || t == 4 || t == 5

/-- The rules of R135 and R136 for entry `k`, against the entries before it. -/
def dirOk (b : List Nat) (k : Nat) : Bool :=
  let i := 64 + 16 * k
  let d := dirEnt b k
  let signedLen := leAt b 0x0C 4
  decide (1 ≤ d.typ) && decide (d.typ ≤ 0x0C) && (if perCell d.typ then decide (d.inst < 32) else d.inst == 0)
    && zeros b (i + 2) 2 && zeros b (i + 12) 4 && d.off % 16 == 0 && decide (1 ≤ d.len)
    && decide (64 + 16 * leAt b 0x1E 2 ≤ d.off) && decide (d.off + d.len ≤ signedLen)
    && allIdx k fun j =>
      let e := dirEnt b j
      (decide (e.typ ≠ d.typ) || decide (e.inst ≠ d.inst))
        && (decide (e.off + e.len ≤ d.off) || decide (d.off + d.len ≤ e.off))

/-- A group record (R137). -/
def parseGroup (b : List Nat) : GroupRec :=
  let w (i : Nat) := leAt b i 2
  { group := leAt b 0 1, typ := leAt b 1 1, nPar := leAt b 2 1, vtA := w 4, vtB := w 6, vtC := w 8, vgA := w 10, vgB := w 12,
    vgC := w 14, ioA := w 16, ioB := w 18, ioC := w 20, vdc := w 22 }

/-- The group records of a GROUP sheet. -/
def parseGroups (b : List Nat) : List GroupRec :=
  (List.range (leAt b 0 4)).map fun k => parseGroup (slice b (16 + 32 * k) 32)

/-- A leg record (R138). -/
def parseLeg (w : Nat) : LegRec :=
  { leg := w % 64, logic := bitOf w 6, cgrp := w / 2 ^ 7 % 8, used := bitOf w 10, group := w / 2 ^ 11 % 8,
    phase := w / 2 ^ 14 % 4 }

/-- The leg records of a GROUP sheet: record n describes leg n (R138). -/
def parseLegs (b : List Nat) : List LegRec :=
  let o := 16 + 32 * leAt b 0 4
  (List.range 64).map fun k => { parseLeg (leAt b (o + 4 * k) 4) with leg := k }

/-- Whether a 16-bit field names an entry or none (R137). -/
def entryOk (e : Nat) : Bool := decide (e < 512) || e == 0xFFFF

/-- The rules of one group record (R137). -/
def groupOk (b : List Nat) : Bool :=
  let r := parseGroup b
  decide (r.group < 8) && decide (r.typ < 4) && decide (1 ≤ r.nPar) && decide (r.nPar ≤ 8) && zeros b 3 1 && zeros b 24 8
    && [r.vtA, r.vtB, r.vtC, r.vgA, r.vgB, r.vgC, r.ioA, r.ioB, r.ioC, r.vdc].all entryOk

/-- The sheet check of a GROUP sheet (R137, R138). -/
def groupSheetOk (b : List Nat) : Bool :=
  let n := leAt b 0 4
  decide (n ≤ 8) && leAt b 4 4 == 64 && zeros b 8 8 && b.length == 16 + 32 * n + 256
    && (allIdx n fun k => groupOk (slice b (16 + 32 * k) 32))
    && distinct ((parseGroups b).map GroupRec.group)
    && allIdx 64 fun k =>
      let w := leAt b (16 + 32 * n + 4 * k) 4
      !bitOf w 10 || (w % 64 == k && decide (w < 2 ^ 16))

/-- A context entry (R139). -/
def parseCtx (b : List Nat) : CtxRec :=
  let w2 := leAt b 8 4
  let w3 := leAt b 12 4
  { ctx := w2 % 128, cfg := leAt b 0 4, ctrl := leAt b 4 4, stateBase := w2 / 2 ^ 7 % 512, stateLen := w2 / 2 ^ 16 % 1024,
    carryFrom := w3 % 128, carry := bitOf w3 7 }

/-- The context entries of a CONTEXT sheet. -/
def parseCtxs (b : List Nat) : List CtxRec :=
  (List.range (leAt b 0 4)).map fun k => parseCtx (slice b (16 + 16 * k) 16)

/-- A binding record (R140). -/
def parseBind (w : Nat) : BindRec :=
  { name := w % 2 ^ 16, group := w / 2 ^ 16 % 8, leg := w / 2 ^ 19 % 64, cell := w / 2 ^ 25 % 32, word := w / 2 ^ 30 % 1024 }

/-- The binding records of a CONTEXT sheet. -/
def parseBinds (b : List Nat) : List BindRec :=
  let o := 16 + 16 * leAt b 0 4
  (List.range (leAt b 4 4)).map fun k => parseBind (leAt b (o + 8 * k) 8)

/-- The sheet check of a CONTEXT sheet (R139, R140): counts, length and the bits that are 0 or 1. -/
def ctxSheetOk (b : List Nat) : Bool :=
  let n := leAt b 0 4
  let m := leAt b 4 4
  decide (n ≤ 128) && decide (m ≤ 2048) && zeros b 8 8 && b.length == 16 + 16 * n + 8 * m
    && (allIdx n fun k =>
      let e := slice b (16 + 16 * k) 16
      let r := parseCtx e
      bitOf r.cfg 31 && r.ctrl / 4 % 4 == 0 && decide (leAt e 8 4 < 2 ^ 26) && decide (r.stateBase + r.stateLen ≤ 512)
        && decide (leAt e 12 4 < 2 ^ 8))
    && allIdx m fun k => decide (leAt b (16 + 16 * n + 8 * k) 8 < 2 ^ 40)

/-- The little-endian 32-bit words of a sheet. -/
def words (b : List Nat) : List Nat := (List.range (b.length / 4)).map fun k => leAt b (4 * k) 4

/-- The sheet check of PROGRAM, COEF and STATE_INIT sheets (R141). -/
def programOk (b : List Nat) : Bool :=
  b.length % 4 == 0 && decide (20 ≤ b.length) && decide (b.length ≤ 16 + 2048) && zeros b 1 15
def coefSheetOk (b : List Nat) : Bool := b.length % 4 == 0 && decide (b.length ≤ 4096)
def initSheetOk (b : List Nat) : Bool := b.length % 4 == 0 && decide (b.length ≤ 2048)

/-- A routing record (R142). -/
def parseRoute (w : Nat) : RouteRec :=
  { srcKind := w % 4, srcId := w / 2 ^ 2 % 512, srcPort := w / 2 ^ 11 % 32, dstKind := w / 2 ^ 16 % 4,
    dstId := w / 2 ^ 18 % 512, dstPort := w / 2 ^ 27 % 32, regAddr := w / 2 ^ 32 % 2 ^ 16 }

/-- The routing records of a sheet. -/
def parseRoutes (b : List Nat) : List RouteRec := (List.range (b.length / 8)).map fun k => parseRoute (leAt b (8 * k) 8)

/-- The sheet check of a ROUTING sheet. -/
def routeSheetOk (b : List Nat) : Bool :=
  b.length % 8 == 0 && allIdx (b.length / 8) fun k => leAt b (8 * k + 6) 2 == 0

/-- A converter record (R202). -/
def parseConv (b : List Nat) : ConvRec :=
  let w (i : Nat) := leAt b i 2
  { lockCgrp := leAt b 0 1, slotCnt := leAt b 1 1, injCnt := leAt b 2 1, injSrc := leAt b 3 1, offset := leAt b 4 4,
    slots := (List.range (leAt b 1 1)).map fun k => w (16 + 2 * k),
    inj := (List.range (leAt b 2 1)).map fun k => w (80 + 2 * k) }

/-- Channel, entry and monitor of a slot word (R202). -/
def slotCh (w : Nat) : Nat := w % 8
def slotEntry (w : Nat) : Nat := w / 8 % 512
def slotMon (w : Nat) : Nat := w / 2 ^ 12 % 16

/-- The rules of a slot word by itself (R178, R202). -/
def slotOk (w : Nat) : Bool :=
  if slotCh w < 4 then slotMon w == 0
  else if slotCh w = 4 then decide (slotMon w ≤ 0xB)
  else slotEntry w == 0 && slotMon w == 0

/-- The rules of one converter record by itself (R202). -/
def convOk (b : List Nat) : Bool :=
  let r := parseConv b
  decide (r.lockCgrp < 8) && decide (r.slotCnt ≤ 32) && decide (r.injCnt ≤ 8) && decide (r.injSrc ≤ 9) && zeros b 8 8
    && zeros b (16 + 2 * r.slotCnt) (64 - 2 * r.slotCnt) && zeros b (80 + 2 * r.injCnt) (16 - 2 * r.injCnt)
    && r.slots.all slotOk && r.inj.all slotOk

/-- An input record (R203). -/
def parseIn (b : List Nat) : InRec :=
  { kind := leAt b 0 1, group := leAt b 1 1, range := leAt b 2 1, sens := leAt b 4 4 }

/-- The rules of the input record of input `i` (R177, R187, R203). -/
def inputOk (i : Nat) (b : List Nat) : Bool :=
  let r := parseIn b
  decide (r.kind ≤ (if i < 64 then 1 else 4)) && decide (r.group < 8) && decide (r.range < 4) && zeros b 3 1
    && (decide (r.sens ≠ 0) || r.kind == 0)

/-- An entry record (R204). -/
def parseEnt (w : Nat) : EntRec :=
  { entry := w % 512, conv := w / 2 ^ 9 % 32, nm1 := w / 2 ^ 14 % 256, shift := w / 2 ^ 22 % 16, stream := bitOf w 26,
    dmaCh := w / 2 ^ 27 % 32 }

/-- The SCHEDULE sheet (R201). -/
def parseSched (b : List Nat) : Sched :=
  { convs := (List.range 32).map fun c => parseConv (slice b (16 + 96 * c) 96),
    ins := (List.range 128).map fun i => parseIn (slice b (3088 + 8 * i) 8),
    ents := (List.range (leAt b 0 4)).map fun k => parseEnt (leAt b (4112 + 8 * k) 4) }

/-- The slot words of a converter that name an entry, with whether they are injected. -/
def ConvRec.naming (r : ConvRec) (e : Nat) : List (Nat × Bool) :=
  let hit (w : Nat) := decide (slotCh w ≤ 4) && slotEntry w == e
  ((r.slots.filter hit).map fun w => (w, false)) ++ ((r.inj.filter hit).map fun w => (w, true))

/-- K of an entry (R184): the slots that name it in one pass. -/
def Sched.slotsOf (d : Sched) (r : EntRec) : List (Nat × Bool) := (d.convs.getD r.conv {}).naming r.entry

/-- The rules of an entry record (R205): its slots lie in its converter, on one channel and monitor, in one sequence, and its N
fits them. -/
def Sched.entryFits (d : Sched) (r : EntRec) : Bool :=
  let n := r.nm1 + 1
  match d.slotsOf r with
  | [] => false
  | (w, inj) :: l =>
    let k := l.length + 1
    (l.all fun x => slotCh x.1 == slotCh w && slotMon x.1 == slotMon w && x.2 == inj)
      && (if inj then n == k else n % k == 0)

/-- The rules of R205 over the records of a sheet. -/
def Sched.fits (d : Sched) : Bool :=
  distinct (d.ents.map EntRec.entry)
    && (d.ents.all fun r => decide (r.shift ≤ 8) && d.entryFits r)
    && allIdx 32 fun c =>
      let v := d.convs.getD c {}
      (v.slots ++ v.inj).all fun w =>
        decide (4 < slotCh w) || d.ents.any fun r => r.entry == slotEntry w && r.conv == c

/-- The sheet check of a SCHEDULE sheet (R201 to R205). -/
def schedSheetOk (b : List Nat) : Bool :=
  let n := leAt b 0 4
  decide (1 ≤ n) && decide (n ≤ 512) && zeros b 4 12 && b.length == 4112 + 8 * n
    && (allIdx 32 fun c => convOk (slice b (16 + 96 * c) 96))
    && (allIdx 128 fun i => inputOk i (slice b (3088 + 8 * i) 8))
    && (allIdx n fun k => leAt b (4116 + 8 * k) 4 == 0)
    && (parseSched b).fits

/-- The TRIP sheet (R233). -/
def parseTrip (b : List Nat) : TripSheet :=
  { srcs := (List.range 84).map fun k => leAt b (16 + 4 * k) 4, legs := (List.range 64).map fun k => leAt b (352 + 4 * k) 4 }

/-- The sheet check of a TRIP sheet (R233, R234). -/
def tripSheetOk (b : List Nat) : Bool :=
  b.length == 608 && leAt b 0 4 == 84 && leAt b 4 4 == 64 && zeros b 8 8
    && (allIdx 84 fun k =>
      let w := leAt b (16 + 4 * k) 4
      decide (w < 2 ^ 14) && (decide (k < 16) || !bitOf w 10) && (bitOf w 9 || w / 2 ^ 11 == 0))
    && allIdx 64 fun k =>
      let w := leAt b (352 + 4 * k) 4
      decide (w < 2 ^ 10) && w / 2 ^ 8 != 3

/-- The sheet check of a SAFETY sheet (R376). -/
def safetySheetOk (b : List Nat) : Bool :=
  let within (i lo hi : Nat) := decide (lo ≤ leAt b i 2) && decide (leAt b i 2 ≤ hi)
  b.length == 64 && within 0 2 1000 && within 2 0 1000 && within 4 10 1000 && within 6 1 600 && within 8 100 1000
    && decide (leAt b 10 1 < 4) && zeros b 11 37 && zeros b 52 12

/-- The end of a region in virtual and in physical space. -/
def Region.vend (r : Region) : Nat := r.vbase + r.pages * 4096
def Region.pend (r : Region) : Nat := r.pbase + r.pages * 4096

/-- The rules of one region record of a domain (R308, R309). -/
def regionOk (d : Nat) (r : Region) : Bool :=
  if !bitOf r.flags 0 then r.vbase == 0 && r.pbase == 0 && r.pages == 0 && r.flags == 0
  else decide (r.flags < 8) && r.vbase % 4096 == 0 && r.pbase % 4096 == 0 && decide (1 ≤ r.pages) && decide (r.pages ≤ 1048576)
    && decide (r.vend ≤ 2 ^ 32) && decide (r.pend ≤ 0xFFFE0000)
    && (if d = 15 then r.vbase == r.pbase && (decide (0x01000000 ≤ r.pbase) || decide (r.pend ≤ 0x00400000))
        else decide (0x01000000 ≤ r.pbase))

/-- Whether two regions that are enabled overlap in virtual space (R309). -/
def Region.meets (a b : Region) : Bool :=
  bitOf a.flags 0 && bitOf b.flags 0 && decide (a.vbase < b.vend) && decide (b.vbase < a.vend)

/-- The rules of one channel record (R308, R309). -/
def chanOk (dma : List Nat) (c : Nat) : Bool :=
  let w := wordAt dma (4 + 4 * c)
  decide (w < 2 ^ 16) && !bitOf w 7 && w / 4 % 16 != 15 && wordAt dma (5 + 4 * c) == 0 && wordAt dma (6 + 4 * c) == 0
    && wordAt dma (7 + 4 * c) == 0 && (if w % 4 = 2 then decide (w / 256 < 128) else w / 256 == 0)

/-- The sheet check of a DMA sheet (R308, R309). -/
def dmaSheetOk (b : List Nat) : Bool :=
  let m := words b
  b.length == 8720 && zeros b 0 16 && (allIdx 32 (chanOk m))
    && distinct (((List.range 32).filter fun c => wordAt m (4 + 4 * c) % 4 == 2).map fun c => wordAt m (4 + 4 * c) / 256)
    && (allIdx 16 fun d =>
      (allIdx 32 fun r => regionOk d (regionOf m d r)) && allIdx 32 fun r => allIdx r fun q =>
        !(regionOf m d r).meets (regionOf m d q))
    && anyIdx 32 fun r =>
      let x := regionOf m 15 r
      x.flags == 7 && x.vbase == 0 && decide (0x00400000 ≤ x.vend)

/-- The sheet check of a sheet by its type. FAULT is judged by the survey (R144), and NOTES is ignored (R136). -/
def sheetOk (t : Nat) (b : List Nat) : Bool :=
  match t with
  | 0x01 => groupSheetOk b
  | 0x02 => ctxSheetOk b
  | 0x03 => programOk b
  | 0x04 => coefSheetOk b
  | 0x05 => initSheetOk b
  | 0x06 => routeSheetOk b
  | 0x07 => schedSheetOk b
  | 0x08 => tripSheetOk b
  | 0x0A => safetySheetOk b
  | 0x0B => dmaSheetOk b
  | _ => true

/-- The mandatory sheet types (R136), lowest first. -/
def mandatory : List Nat := [0x01, 0x02, 0x06, 0x07, 0x08, 0x09, 0x0A, 0x0B]

/-- The directory and sheets under their rules (R135 to R144, R150): none, or what SHEET names. The directory is judged first, then
missing sheets, then the contents in the order of the directory. -/
def sheetFail (b : List Nat) : Option Nat :=
  let cnt := leAt b 0x1E 2
  match firstIdx cnt fun k => !dirOk b k with
  | some k => some k
  | none =>
    match mandatory.find? fun t => allIdx cnt fun k => (dirEnt b k).typ != t with
    | some t => some (0x80 + t)
    | none => firstIdx cnt fun k => !sheetOk (dirEnt b k).typ ((dirEnt b k).bytes b)

/-- The bytes of the sheet of a type; empty where the image has none. -/
def sheetOf (b : List Nat) (t : Nat) : List Nat :=
  match firstIdx (leAt b 0x1E 2) fun k => (dirEnt b k).typ == t with
  | none => []
  | some k => (dirEnt b k).bytes b

/-- The sheets of a type that cells have, with their words after `skip` bytes. -/
def cellSheets (b : List Nat) (t skip : Nat) : List CellSheet :=
  ((List.range (leAt b 0x1E 2)).filter fun k => (dirEnt b k).typ == t).map fun k =>
    let d := dirEnt b k
    { cell := d.inst, cfmap := leAt (d.bytes b) 0 1, words := words ((d.bytes b).drop skip) }

/-- The structure that an image gives; `d` is the digest of its signed region (R146). -/
def parseImage (b : List Nat) (d : Nat) : Img :=
  { ver := leAt b 0x18 4, secVer := leAt b 0x1C 1, keySlot := leAt b 0x1D 1, flags := leAt b 0x28 4,
    idLo := d % 2 ^ 32, idHi := d / 2 ^ 32 % 2 ^ 32,
    groups := parseGroups (sheetOf b 0x01), legs := parseLegs (sheetOf b 0x01),
    ctxs := parseCtxs (sheetOf b 0x02), binds := parseBinds (sheetOf b 0x02),
    progs := cellSheets b 0x03 16, coefs := cellSheets b 0x04 0, inits := cellSheets b 0x05 0,
    routes := parseRoutes (sheetOf b 0x06), sched := parseSched (sheetOf b 0x07), trip := parseTrip (sheetOf b 0x08),
    fault := sheetOf b 0x09, safety := sheetOf b 0x0A, dma := words (sheetOf b 0x0B) }

/-- The message that the signatures of an image sign (R146). -/
def imageMsg (d : Nat) : List Nat := ascii "KH ATLAS IMAGE" ++ [0, 0] ++ leBytes 48 d

/-- What the checks of R149 before the survey give: RESULT and SHEET (R150), and the image where they pass. -/
structure Checked where
  result : Nat
  sheet : Nat
  img : Img
  deriving DecidableEq, Repr

/-- The checks of steps 2 to 5 of R149 on the image at a DRAM address, in the order of R149 and R150. -/
def State.checkImage (s : State) (a : Nat) : State × Checked :=
  let fail (t : State) (r : Nat) : State × Checked := (t, ⟨r, 0xFF, {}⟩)
  let h := s.readMem a 64
  if h.2.2 then fail h.1 0x0A
  else
    let hr := headerResult h.2.1 (s.fld Reg.SEC_PATCH_LEVEL_RUN)
    if hr ≠ 0 then fail h.1 hr
    else
      let n := leAt h.2.1 0x0C 4
      let r := h.1.readMem a (n + 1936)
      let b := r.2.1
      if r.2.2 then fail r.1 0x0A
      else
        let d := digest (b.take n)
        let sig := s.sigCheck (leAt b 0x1D 1) (imageMsg d) (slice b n 256) (slice b (n + 256) 1680)
        if sig ≠ 0 then fail r.1 (5 + sig)
        else if leAt b 0x1C 1 < s.sec.arb then fail r.1 0x09
        else match sheetFail (b.take n) with
          | some k => (r.1, ⟨0x0B, k, {}⟩)
          | none => (r.1, ⟨0, 0xFF, parseImage (b.take n) d⟩)

end Sys2Proof.Machine
end

