-- ==== Sys2Proof/Machine/AdcCore.lean ====
section
/-!
DEFINITION. A converter's pass as it stands: its schedule, slots and times (R179 to R182, R200), and the tags of domain A's change of
clock (R198).
-/

namespace Sys2Proof.Machine

/-- The record of a converter. -/
def State.conv (s : State) (c : Nat) : ConvRun := tabGet {} s.adc.conv c
def State.setConv (s : State) (c : Nat) (r : ConvRun) : State :=
  { s with adc := { s.adc with conv := tabSet {} s.adc.conv c r } }

/-- The schedule under which a converter's pass runs (R200). -/
def State.passSched (s : State) (c : Nat) : Sched := ((s.conv c).held.map PassCfg.sched).getD s.adc.sched

/-- The number of the schedule under which a converter's pass runs (R200). -/
def State.passGen (s : State) (c : Nat) : Nat := ((s.conv c).held.map PassCfg.gen).getD s.adc.gen

/-- The key of an entry's sum on a converter (R184): samples of two converters never meet in one sum (R200). -/
def entryKey (c e : Nat) : Nat := c * 512 + e

/-- An ADC field as a converter's pass uses it (R200). -/
def State.passFld (s : State) (c : Nat) (f : Fld) : Nat :=
  match (s.conv c).held with
  | some h => tabGet (resetOf f.key) h.regs f.key
  | none => s.fld f

/-- The converter record in force for the next pass. -/
def State.convRec (s : State) (c : Nat) : ConvRec := s.adc.sched.convs.getD c {}

/-- The slot words of the sequence in progress. -/
def State.slotsNow (s : State) (c : Nat) : List Nat :=
  let r := (s.passSched c).convs.getD c {}
  if (s.conv c).injRun then r.inj else r.slots

/-- Whether a slot converts in the pass numbered `n` of its converter: IDLE does not, and an open-wire slot does in every
2^OWDIV-th pass (R180, R196). -/
def slotConverts (w owdiv n : Nat) : Bool :=
  slotCh w != 7 && (decide (slotCh w ≤ 4) || n % 2 ^ owdiv == 0)

/-- The next slot from `k` on that converts. -/
def State.nextSlot (s : State) (c k : Nat) : Option Nat :=
  let l := s.slotsNow c
  let d := s.passFld c Reg.ADC_OW_CFG_OWDIV
  (List.range l.length).find? fun j => decide (k ≤ j) && slotConverts (l.getD j 7) d (s.conv c).passes

/-- The end of the sequence in progress, from its start instant (R179): a slot is 80 C-cycles. -/
def State.passEnd (s : State) (c : Nat) : Nat := (s.conv c).passStart + 80 * (s.slotsNow c).length

/-- Whether a sequence of a converter is still converting (R182): its IDLE slots take their time too. -/
def State.converting (s : State) (c : Nat) : Bool :=
  (s.conv c).busy && ((s.nextSlot c (s.conv c).slot).isSome || decide (s.now < s.passEnd c + 5))

/-- Whether a conversion of a converter is in progress (R179, R198): the slot that completes next has begun, 12.5 ns and 80 C-cycles for
each slot before it after the start instant. Log 34 (DEDUCED). -/
def State.inConversion (s : State) (c : Nat) : Bool :=
  (s.conv c).busy && match s.nextSlot c (s.conv c).slot with
    | some k => decide ((s.conv c).passStart + 80 * k + 5 ≤ s.now)
    | none => false

/-- The conversions in progress and the next four of every converter carry PLLSW (R198). -/
def State.tagSwitch (s : State) : State :=
  let t := forIdx 32 (fun c t => t.setConv c { t.conv c with swLeft := if t.inConversion c then 5 else 4 }) s
  t.raise Reg.ADC_STATUS_PLLSW_S

/-- Domain A is to change to the C-derived clock (R198, R273). -/
def State.askAlt (s : State) : State := { s with clk := { s.clk with altDue := true } }.tagSwitch

end Sys2Proof.Machine
end

