-- ==== Sys2Proof/Machine/ClkOps.lean ====
section
/-!
DEFINITION. The ratios of the PLLs (R263, R264), the real-time ratio (R121), the spreading profile (R268, R269) and the move to
another reference (R261).
-/

namespace Sys2Proof.Machine

/-- The frequency of the reference in use, kHz (R260). -/
def State.refKhz (s : State) : Nat := if s.on Reg.CLK_STATUS_REF_ACT then s.fld Reg.CLK_REF_CFG_FREQ_KHZ else 25000

/-- N_nom in 2^-24 (R263): 4,800 MHz over the reference. -/
def nomRatio (khz : Nat) : Nat := (roundDiv ((4800000 * 2 ^ 24 : Nat) : Int) khz).toNat

/-- NINT and NFRAC of a PLL report its ratio, in 2^-24 (R263). -/
def State.setRatio (s : State) (p n : Nat) : State :=
  (s.setFld (Reg.CLK_PLL_NINT_NINT p) (n / 2 ^ 24)).setFld (Reg.CLK_PLL_NFRAC_NFRAC p) n

/-- The ratio that a PLL reports, in 2^-24. Log 72 (DESIGN CHOICE). -/
def State.ratio (s : State) (p : Nat) : Nat :=
  s.fld (Reg.CLK_PLL_NINT_NINT p) * 2 ^ 24 + s.fld (Reg.CLK_PLL_NFRAC_NFRAC p)

/-- PLL-C's commanded ratio, from which ρ follows with 24 fraction bits, and GRT_TICKW (R121, R263). Log 72 (DESIGN CHOICE). -/
def State.setRatioC (s : State) (n : Nat) : State :=
  let rho := (roundDiv ((4800000 * 2 ^ 48 : Nat) : Int) (s.refKhz * n)).toNat
  { (s.setRatio 0 n).setFld Reg.GRT_TICKW (rho * 16) with eng := { s.eng with rho := rho }, clk := { s.clk with ratioKhz := s.refKhz } }

/-- PLL-M's ratio: of its own reference, or of the 50 MHz tap of PLL-C (R264). -/
def State.ratioM (s : State) : Nat := if s.on Reg.CLK_M_CFG_M_SRC then nomRatio 50000 else nomRatio s.refKhz

/-- L of the profile in C-cycles (R268). -/
def State.profLen (s : State) : Nat := s.fld Reg.CLK_SPREAD_PERIOD * 400000

/-- The position q in the profile (R268). -/
def State.profPos (s : State) : Nat := if s.profLen = 0 then 0 else (s.now - s.clk.profile) % s.profLen

/-- L/4 times tri(q/L) (R268). -/
def triOf (len q : Nat) : Int :=
  if 4 * q < len then q else if 4 * q < 3 * len then ((len / 2 : Nat) : Int) - q else (q : Int) - len

/-- The ratio of the profile at position `q`, rounded to 2^-24 (R268). Log 72 (DESIGN CHOICE). -/
def State.profRatio (s : State) (q : Nat) : Nat :=
  let quarter := s.profLen / 4
  (roundDiv (4800000 * 2 ^ 24 * ((1000 * quarter : Nat) + (s.fld Reg.CLK_SPREAD_DEPTH : Int) * triOf s.profLen q))
    (s.refKhz * 1000 * quarter)).toNat

/-- The largest step of the profile, in 2^-24 (R268). -/
def State.profStep (s : State) : Nat :=
  4800000 * 2 ^ 24 * s.fld Reg.CLK_SPREAD_DEPTH * 400 / (s.refKhz * 1000 * (s.profLen / 4)) + 1

/-- The profile begins with q = 0 (R269), or spreading ends; a ratio that still catches up after a holdover goes on in its steps (R272).
Log 73 (DEDUCED). -/
def State.startProfile (s : State) (t : Nat) : State :=
  let u := ({ s with clk := { s.clk with profile := t } }).setFld Reg.CLK_STATUS_SPREAD_ON (s.fld Reg.CLK_SPREAD_EN)
  if s.clk.catching then u else u.setRatioC (nomRatio s.refKhz)

/-- PLL-C holds its ratio, and runs on its frozen word (R272); the window of a holdover that runs already goes on, and before its first
lock PLL-C has nothing to hold. Log 73 (DEDUCED). -/
def State.holdC (s : State) : State :=
  if s.fld (Reg.CLK_PLL_STATUS_STATE 0) = 3 then
    { ((s.setFld (Reg.CLK_PLL_STATUS_STATE 0) 4).setFld Reg.CLK_STATUS_LOCK_C 0).setFld Reg.CLK_STATUS_HOLD 1 with
      clk := { s.clk with holdAt := s.now } }
  else s

/-- Whether the band table has a valid entry of a PLL (R266). -/
def State.hasBand (s : State) (p : Nat) : Bool :=
  anyIdx 16 fun k => s.on (Reg.CLK_BAND_VALID k) && s.fld (Reg.CLK_BAND_PLL k) == p

/-- A die temperature in whole degrees. -/
def tempInt (t : Nat) : Int := signedOf 8 t

/-- The entries of a PLL in the band table (R266). -/
def bandSlots (p : Nat) : List Nat := if p = 0 then [0, 1, 2, 3, 4, 5] else if p = 1 then [6, 7, 8, 9, 10] else [11, 12, 13, 14, 15]

/-- How far an entry's temperature lies from another. -/
def State.bandGap (s : State) (k : Nat) (t : Nat) : Nat := (tempInt (s.fld (Reg.CLK_BAND_TEMP k)) - tempInt t).natAbs

/-- Of a list of entries, the first with the least measure. Log 74 (DESIGN CHOICE). -/
def leastBy (f : Nat → Nat) (l : List Nat) : Option Nat :=
  l.foldl (fun m k => match m with
    | none => some k
    | some j => if f k < f j then some k else m) none

/-- The valid entry of a PLL nearest a temperature (R266). Log 74 (DESIGN CHOICE). -/
def State.nearBand (s : State) (p t : Nat) : Option Nat :=
  leastBy (fun k => s.bandGap k t) ((bandSlots p).filter fun k => s.on (Reg.CLK_BAND_VALID k))

/-- A PLL without lock begins a fast hop where the table has an entry, and loads the band of the entry nearest the present temperature,
which no command brings: a free value; else a band search. PLL-C once locked keeps its band, never searches, and stays as it is (R265,
R266). Log 74 (DESIGN CHOICE). -/
def State.startHop (s : State) (p : Nat) : State :=
  let kept : Bool := p == 0 && s.clk.locked
  if s.hasBand p then
    let d := s.drawFree
    let k := (d.2.nearBand p (d.1.toNat % 256)).getD 0
    let t := { d.2 with clk := { d.2.clk with hop := tabSet 0 d.2.clk.hop p (s.now + 1), hopEnt := tabPut d.2.clk.hopEnt p k } }
    if kept then t
    else (t.setFld (Reg.CLK_PLL_STATUS_BAND p) (t.fld (Reg.CLK_BAND_BAND k))).setFld (Reg.CLK_PLL_STATUS_STATE p) 2
  else if kept then s
  else s.setFld (Reg.CLK_PLL_STATUS_STATE p) 1

/-- PLL-M has no reference until one is valid (R271, R274). Log 70 (DEDUCED). -/
def State.waitM (s : State) : State :=
  let t := (s.setFld Reg.CLK_STATUS_LOCK_M 0).setFld (Reg.CLK_PLL_STATUS_STATE 2) 0
  { t with clk := { t.clk with hop := tabDel t.clk.hop 2, lossM := some (t.clk.lossM.getD t.now) } }

/-- PLL-M moves to another reference: it relocks by fast hop as soon as that is valid, and its domain does not stop (R261, R264). The tap
of PLL-C is always there. -/
def State.moveM (s : State) : State :=
  let t := if s.on Reg.CLK_M_CFG_M_SRC || s.on Reg.CLK_STATUS_REF_OK then (s.setFld Reg.CLK_STATUS_LOCK_M 0).startHop 2 else s.waitM
  t.setRatio 2 t.ratioM

/-- PLL-A moves to another reference (R261): by fast hop where that is valid; else it waits for it, and domain A changes to the C-derived
clock as at a loss of lock (R271, R273). Log 70 (DEDUCED). -/
def State.moveA (s : State) : State :=
  let t := if s.on Reg.CLK_STATUS_REF_OK then (s.setFld Reg.CLK_STATUS_LOCK_A 0).startHop 1
    else
      let u := (s.setFld Reg.CLK_STATUS_LOCK_A 0).setFld (Reg.CLK_PLL_STATUS_STATE 1) 0
      { u with clk := { u.clk with hop := tabDel u.clk.hop 1 } }.askAlt
  t.setRatio 1 (nomRatio t.refKhz)

/-- The PLLs leave the reference in use for another by holdover and fast hop (R261, R262), which begins once that is valid (R271). The
crystal is valid where it oscillates; REFIN is yet to be measured. Log 70 (DEDUCED). -/
def State.hopAll (s : State) (src : Nat) : State :=
  let t := (s.setFld Reg.CLK_STATUS_REF_ACT src).setFld Reg.CLK_STATUS_REF_OK (asNat (src == 0 && s.clk.xtal))
  let h := t.holdC
  let c := if h.on Reg.CLK_STATUS_REF_OK then h.startHop 0 else { h with clk := { h.clk with hop := tabDel h.clk.hop 0 } }
  if t.on Reg.CLK_M_CFG_M_SRC then c.moveA else c.moveA.moveM

/-- The PLLs move to the reference that CLK_REF_CFG names (R261). -/
def State.moveRef (s : State) : State := s.hopAll (s.fld Reg.CLK_REF_CFG_SRC)

/-- The next state of a dither register (R267): feedback from the taps of x^32 + x^22 + x^2 + x + 1. -/
def ditherNext (w : Nat) : Nat :=
  (2 * w + asNat (((bitOf w 31 != bitOf w 21) != bitOf w 1) != bitOf w 0)) % 2 ^ 32

/-- A register after `k` steps. -/
def ditherAfter (w : Nat) : Nat → Nat
  | 0 => w
  | k + 1 => ditherAfter (ditherNext w) k

/-- The dither register of a PLL now (R267): one step in each reference period since its seed was loaded. Log 71 (DESIGN CHOICE). -/
def State.dither (s : State) (p : Nat) : Nat :=
  ditherAfter (tabGet 0 s.clk.seeds p) ((s.now - tabGet 0 s.clk.seedAt p) * s.refKhz / 400000)

/-- The dither register of a PLL loads its seed (R267). -/
def State.loadSeed (s : State) (p : Nat) : State :=
  { s with clk := { s.clk with seeds := tabPut s.clk.seeds p (s.fld (Reg.CLK_DITHER_SEED p)), seedAt := tabPut s.clk.seedAt p s.now } }

end Sys2Proof.Machine
end

