-- ==== Sys2Proof/Machine/LegChain.lean ====
section
/-!
DEFINITION. The chain of a leg from its compare value to its command lines (R215 to R224): comparison, swap, short pulses, dead
time, bootstrap refresh; and the states of a leg (R222, R223).
-/

namespace Sys2Proof.Machine

/-- CMP of a duty in Q3.28 (R215). -/
def cmpOf (saw : Bool) (half d : Nat) : Nat :=
  if saw then (roundDiv (64 * half * d : Nat) (2 ^ 28)).toNat
  else (roundDiv ((32 * half : Nat) * ((0x10000000 : Int) - d)) (2 ^ 28)).toNat

/-- A stretch of the switching function: its end in 1/32 C-cycle, its level, and the width of its pulse as the CMP values in
effect give it (R218). -/
structure Seg where
  till : Nat
  level : Bool
  width : Nat
  deriving DecidableEq, Repr

/-- A value bounded to [0, h]. -/
def boundTo (h : Nat) (i : Int) : Nat := if i < 0 then 0 else if (h : Int) < i then h else i.toNat

/-- The part of the carry that the rising and the falling half take; with SWAP the high side is the complement of the compare
result, so the sign turns (R216, R220). Log 109 (DEDUCED). -/
def carryHalf (swap rising : Bool) (carry : Int) : Int :=
  let c := if rising then carry - carry / 2 else carry / 2
  if swap then c else -c

/-- The segments of the compare result from the update point `u32` to the end `v32` of what it governs, for a period of half
`h32` that is held for `hold32` (R212, R213, R215). `r`, `f` are the adjusted CMP values, `c0` the CMP in effect. Log 109 (DEDUCED). -/
def compareSegs (saw start double : Bool) (u32 v32 h32 hold32 r f c0 : Nat) : List Seg :=
  if saw then
    [⟨u32 + r, true, r⟩, ⟨v32, false, 2 * h32 - r + hold32⟩]
  else if start && double then
    [⟨u32 + r, false, r⟩, ⟨v32, true, 2 * (h32 - r)⟩]
  else if start then
    [⟨u32 + r, false, r⟩, ⟨u32 + 2 * h32 - f, true, 2 * h32 - f - r⟩, ⟨v32, false, f + hold32 + c0⟩]
  else
    [⟨u32 + h32 - f, true, h32 - f⟩, ⟨v32, false, f + hold32 + c0⟩]

/-- Drops the empty segments: those that do not end after their start, and a hold that keeps the level before it. -/
def liveSegs (from32 : Nat) (hold32 : Nat) : List Seg → List Seg
  | [] => []
  | x :: xs =>
    if x.till ≤ from32 + (if xs.isEmpty then hold32 else 0) then
      (if xs.isEmpty then [] else liveSegs from32 hold32 xs)
    else x :: liveSegs x.till hold32 xs

/-- The turn-on edges of the physical switching function in a window: instant, level, pulse width (R216, R221). -/
def edgesOf (level : Bool) (from32 : Nat) : List Seg → List (Nat × Bool × Nat)
  | [] => []
  | x :: xs => (if x.level = level then [] else [(from32, x.level, x.width)]) ++ edgesOf x.level x.till xs

/-- What a chain stage needs of its carrier group (R217, R218); `keepLow`: a refresh falls due at the period start that ends the window,
and a short low-side pulse before it is kept for it (R235). -/
structure PulseCfg where
  dtH : Nat
  dtL : Nat
  minp : Nat
  short : Nat
  period32 : Nat
  saw : Bool
  from32 : Nat
  keepLow : Bool := false
  deriving DecidableEq, Repr

/-- An edge of the handled switching function: turn-off of the opposite side, turn-on after dead time, level (R217). -/
structure OutEdge where
  off32 : Nat
  on32 : Nat
  level : Bool
  deriving DecidableEq, Repr

/-- What the short-pulse stage carries from edge to edge (R218 to R221). -/
structure ShortRun where
  raw : Bool
  out : Bool
  effOn : Nat
  stretched : Bool
  /-- The carry, and the part of it that this period's CMP values have taken up and no pulse has been emitted with yet (R220). -/
  carry : Int
  taken : Int
  omits : Nat
  clips : Nat
  outs : List OutEdge
  deriving DecidableEq, Repr

/-- The dead time before a level (R217). -/
def PulseCfg.dt (p : PulseCfg) (level : Bool) : Nat := if level then p.dtH else p.dtL

/-- A carry bounded to one carrier period (R220). -/
def PulseCfg.bound (p : PulseCfg) (c : Int) : Int :=
  if (p.period32 : Int) < c then p.period32 else if c < -(p.period32 : Int) then -(p.period32 : Int) else c

/-- The pulse of an edge turns on at `t`: the pulse before it ends no earlier than MINP after its effective turn-on (R221). With the
emission, what the period has taken up leaves the carry; what a clip adds or removes stays for the next period (R220).
Log 49 (DEDUCED). -/
def ShortRun.emit (p : PulseCfg) (x : ShortRun) (t : Nat) (level stretch : Bool) : ShortRun :=
  let off := max t (x.effOn + p.minp)
  let clip := !x.stretched && decide (t < off)
  let d : Int := (off : Int) - t
  let adj := if clip && p.short == 0 then (if x.out then -d else d) else 0
  { raw := level, out := level, effOn := off + p.dt level, stretched := stretch,
    carry := p.bound (x.carry - x.taken + adj), taken := 0, omits := x.omits, clips := if clip then x.clips + 1 else x.clips,
    outs := x.outs ++ [⟨off, off + p.dt level, level⟩] }

/-- The instant at which a stretched pulse turns on (R218): it is widened about its centre, but begins no earlier than the update point at
which it is judged. Log 48 (DEDUCED). -/
def stretchAt (p : PulseCfg) (t w wide : Nat) : Nat := max p.from32 (t - (wide - w) / 2)

/-- One edge passes the short-pulse stage (R218, R220, R221, R235). Log 48 (DEDUCED), 49 (DEDUCED). -/
def ShortRun.edge (p : PulseCfg) (x : ShortRun) (e : Nat × Bool × Nat) : ShortRun :=
  let t := e.1
  let level := e.2.1
  let w := e.2.2
  if x.out = level then { x with raw := level }
  else if decide (0 < w) && decide (w < p.dt level + p.minp) then
    if p.keepLow && !level then x.emit p t level true
    else if p.short = 2 then
      { x.emit p (stretchAt p t w (p.minp + p.dt level)) level true with omits := x.omits + 1 }
    else { x with raw := level, omits := x.omits + 1, taken := if p.short = 0 then 0 else x.taken,
                  carry := if p.short = 0 then p.bound (x.carry - x.taken + if level then (w : Int) else -(w : Int)) else x.carry }
  else x.emit p t level false

/-- The command edges of the handled switching function (R217). -/
def commandEdges (l : List OutEdge) : List Edge :=
  l.flatMap fun e => [⟨e.off32, !e.level, false⟩, ⟨e.on32, e.level, true⟩]

/-- Inserts planned edges in the order of their instants. -/
def insertEdge (e : Edge) : List Edge → List Edge
  | [] => [e]
  | x :: xs => if e.at32 < x.at32 then e :: x :: xs else x :: insertEdge e xs

/-- The edges of a list joined to those already planned. -/
def planEdges (old new : List Edge) : List Edge := new.foldl (fun l e => insertEdge e l) old

/-- A separate refresh (R224): high side off, low side on after DT_L for REFW, low side off, then the switching function from
DT_H on. Gives the command edges and the high-side width removed. Log 51 (DEDUCED). -/
def refreshEdges (p : PulseCfg) (u32 refw32 : Nat) (out : Bool) (outs : List OutEdge) : List Edge × Nat :=
  let low := u32 + p.dtL
  let off := low + refw32
  let back := off + p.dtH
  let early := outs.filter fun e => decide (e.off32 < back)
  let level := (early.getLast?.map OutEdge.level).getD out
  let removed := match early.head? with
    | some e => if out then e.off32 - u32 else back - e.off32
    | none => if out then back - u32 else 0
  ([⟨u32, true, false⟩, ⟨low, false, true⟩, ⟨off, false, false⟩, ⟨back, level, true⟩]
    ++ commandEdges (outs.filter fun e => decide (back ≤ e.off32)), removed)

/-- A low-side pulse that is on as the period begins serves as the refresh (R224): its end is delayed to REFW after its
turn-on. Gives the edges and the high-side width removed. Log 51 (DEDUCED). -/
def extendLow (p : PulseCfg) (till32 : Nat) (es : List Edge) : List Edge × Nat :=
  match es.find? fun e => !e.high && !e.on with
  | none => (es, 0)
  | some e =>
    if till32 ≤ e.at32 then (es, 0)
    else (es.map fun x =>
      if !x.high && !x.on && decide (x.at32 < till32) then { x with at32 := till32 }
      else if x.high && x.on && decide (x.at32 < till32 + p.dtH) then { x with at32 := till32 + p.dtH }
      else x, till32 - e.at32)

/-- The carrier group's settings for a leg's window that begins at `u32`. -/
def State.pulseCfg (s : State) (n : Nat) (c : Carrier) (u32 : Nat) : PulseCfg :=
  let g := s.legCg n
  { dtH := s.fld (Reg.PWM_CG_DT_DT_H g), dtL := s.fld (Reg.PWM_CG_DT_DT_L g), minp := s.fld (Reg.PWM_CG_MINP_MINP g),
    short := s.fld (Reg.PWM_CG_CFG_SHORT g), period32 := 64 * c.half, saw := c.saw, from32 := u32 }

/-- The carry of a leg (R220); PWM_LEG_CARRY reports it once the pulse that took up the one before has been emitted. -/
def State.carry (s : State) (n : Nat) : Int := s.sfld (Reg.PWM_LEG_CARRY n)

/-- Counts omissions and stretches of a leg (R218). -/
def State.noteShort (s : State) (n k : Nat) : State :=
  if k = 0 then s
  else ((s.countN (Reg.PWM_CG_CNT_OMIT_CNT (s.legCg n)) k).raise (Reg.PWM_LEG_STATUS_SHORT_S n)).raise Reg.PWM_STATUS_SHORT_S

/-- Records clipped turn-off edges (R221). -/
def State.noteClip (s : State) (n k : Nat) : State :=
  if k = 0 then s else (s.raise (Reg.PWM_LEG_STATUS_MINCLIP_S n)).raise Reg.PWM_STATUS_MINCLIP_S

/-- Records a refresh (R224). -/
def State.noteRefresh (s : State) (n : Nat) : State :=
  ((s.count (Reg.PWM_CG_CNT_REFR_CNT (s.legCg n))).raise (Reg.PWM_LEG_STATUS_REFR_S n)).raise Reg.PWM_STATUS_REFR_S

/-- The compare value loads at an update point of the leg (R27, R215): the shadow's word, where one has come. -/
def State.loadCompare (s : State) (n : Nat) (c : Carrier) (start : Bool) : State :=
  let r := s.leg n
  if r.got then
    let v := cmpOf c.saw c.half r.shadow
    let edge := r.shadow == 0 || r.shadow == 0x10000000
    let t := s.setLeg n (if start then { r with cmpRise := v, cmpFall := v } else { r with cmpFall := v })
    let t1 := t.setFld (Reg.PWM_LEG_DUTY n) r.shadow
    if edge then (t1.setSfld (Reg.PWM_LEG_CARRY n) 0).setLeg n { t1.leg n with perCarry := 0, taken := 0, carryShown := none } else t1
  else s

/-- Whether the drive die has asked for a refresh at every period start (R242). -/
def State.bsuvAsks (s : State) (n : Nat) : Bool := (tabGet {} s.drv.leg n).bsuvFrom.isSome

/-- Whether a low-side pulse of REFW or more ends in the period before the window's end: one that has ended, that ends with a high-side pulse
of `outs`, or that is planned to end. -/
def LegRun.lowIn (r : LegRun) (refw32 : Nat) (outs : List OutEdge) : Bool :=
  r.lowOk || (r.loCmd && ((outs.any fun e => e.level && decide (r.loOn32 + refw32 ≤ e.off32))
    || r.edges.any fun e => !e.high && !e.on && decide (r.loOn32 + refw32 ≤ e.at32)))

/-- Whether a refresh falls due at the period start that ends a window of an ACTIVE direct-mode leg (R224, R235). -/
def State.refreshNext (s : State) (n : Nat) (c : Carrier) (start : Bool) (outs : List OutEdge) : Bool :=
  let r := s.leg n
  let refw := 32 * s.fld (Reg.PWM_CG_REF_REFW (s.legCg n))
  let last := c.saw || !c.double || !start
  let count := if r.lowIn refw outs then 0 else r.refCount + 1
  last && !(s.legRec n).logic && (count + 1 == s.fld (Reg.PWM_CG_REF_REF_K (s.legCg n)) || s.bsuvAsks n)

/-- One window of the chain of a leg (R215 to R224) from an update point on: the edges up to the next one are planned. `pins`
is false while the leg is FORCED: its stages run, and their result does not reach the pins (R230).
A pulse omitted at its judgement is not emitted by a d = 1 that a peak loads. While the drive die floats the leg (R242), it lets a low-side
pulse through from the period start on, and REFW counts from there. Log 49 (DEDUCED), 141 (DESIGN CHOICE), 148 (DEDUCED), 166 (DEDUCED). -/
def State.runWindow (s : State) (n : Nat) (c : Carrier) (start pins : Bool) : State :=
  let r := s.leg n
  let u := s.now
  let u32 := 32 * u + s.pwm.frac
  let v := r.car.nextUpdate u
  let h := 32 * c.half
  let swap := s.on (Reg.PWM_LEG_CTRL_SWAP n)
  let kept := if start then s.carry n else r.perCarry
  let adj (rising : Bool) (x : Nat) := boundTo (if c.saw then 2 * h else h)
    ((x : Int) + (if c.saw then (if swap then -kept else kept) else carryHalf swap rising kept))
  let full : Bool := r.shadow == 0 || r.shadow == 0x10000000
  let ra := if full then r.cmpRise else adj true r.cmpRise
  let fa := if full then r.cmpFall else adj false r.cmpFall
  let length := if c.saw || (start && !c.double) then 2 * h else h
  let hold := 32 * (v - u) - length
  let segs := (liveSegs u32 hold (compareSegs c.saw start c.double u32 (u32 + 32 * (v - u)) h hold ra fa r.cmpFall)).map
    fun x => { x with level := x.level != swap }
  let p := s.pulseCfg n c u32
  let x0 : ShortRun := { raw := r.raw, out := r.out, effOn := r.effOn32, stretched := r.stretched, carry := s.carry n,
                         taken := if start then kept else r.taken, omits := 0, clips := 0, outs := [] }
  let es := edgesOf (if full && start then r.out else r.raw) u32 segs
  let y := es.foldl (ShortRun.edge p) x0
  let x := if pins && s.refreshNext n c start y.outs then es.foldl (ShortRun.edge { p with keepLow := true }) x0 else y
  let s1 := (s.noteShort n x.omits).noteClip n x.clips
  if !pins then s1.setLeg n { r with raw := x.raw, out := x.out, effOn32 := x.effOn, stretched := x.stretched }
  else
    let refw := 32 * s.fld (Reg.PWM_CG_REF_REFW (s.legCg n))
    let due := start && !(s.legRec n).logic &&
      (r.refCount + 1 == s.fld (Reg.PWM_CG_REF_REF_K (s.legCg n)) || s.bsuvAsks n)
    let plain := planEdges r.edges (commandEdges x.outs)
    let low := r.loCmd || r.edges.any fun e => !e.high && e.on
    let lowAt := if r.loCmd then r.loOn32 else ((r.edges.find? fun e => !e.high && e.on).map Edge.at32).getD 0
    let till := if s.bsuvAsks n then max lowAt u32 + refw else lowAt + refw
    let fresh := if due then (if low then extendLow p till plain else
      let q := refreshEdges p u32 refw r.out x.outs
      (planEdges (r.edges.filter fun e => !(e.high && e.on)) q.1, q.2)) else (plain, 0)
    let carry := if due && p.short == 0 then p.bound (x.carry + fresh.2) else x.carry
    let s2 := if due then s1.noteRefresh n else s1
    let shown := if x.omits ≠ 0 || p.short != 0 || full then none
      else if start then (if kept = 0 then none else some kept) else r.carryShown
    let refEnd := if due then (if low then till else u32 + p.dtL + refw) else r.refEnd32
    (s2.setLeg n { r with raw := x.raw, out := x.out, effOn32 := x.effOn, stretched := x.stretched, perCarry := kept, taken := x.taken,
                          carryShown := shown,
                          edges := fresh.1, refEnd32 := refEnd }).setSfld (Reg.PWM_LEG_CARRY n) carry

/-- The refresh count at a period start of an ACTIVE leg (R224). Log 51 (DEDUCED). -/
def State.countRefresh (s : State) (n : Nat) : State :=
  let r := s.leg n
  s.setLeg n { r with refCount := if r.lowOk then 0 else r.refCount + 1, lowOk := false }

/-- Whether the PX8 is armed (R422): in standby it is not (R426). -/
def State.armed (s : State) : Bool := s.fld Reg.SYS_BOOT_STATUS_PHASE == 6 && !s.on Reg.SYS_STBY_STAT_READY

/-- Whether a leg's group permits switching (R223): a controlled stop that has come to its third step permits none (R86). -/
def State.permits (s : State) (n : Nat) : Bool :=
  let g := (s.legRec n).group
  if s.controlled g then s.mode g != mOFF && !(s.mode g == mSTOPPING && (s.grp g).stopPhase == 3) else bitOf (s.fld (Reg.PWM_RUN (n / 32))) (n % 32)

/-- A leg that begins PRECHG (R217, R222, R223): the high side off, the low side on, no earlier than DT_L after a high side that has just
gone off. Log 142 (DEDUCED). -/
def State.enterPrechg (s : State) (n : Nat) : State :=
  let r := s.leg n
  let off := if r.hiCmd then 32 * s.now else r.hiOff32
  let low := if off = 0 then 32 * s.now else max (32 * s.now) (off + s.fld (Reg.PWM_CG_DT_DT_L (s.legCg n)))
  let at32 := if r.loCmd then r.loOn32 else low
  let on := r.loCmd || decide (low = 32 * s.now)
  (s.setLeg n { r with hiCmd := false, hiOff32 := off, loCmd := on, loOn32 := at32, raw := false, out := false,
                       edges := if on then [] else [⟨low, false, true⟩], effOn32 := at32, stretched := false, refCount := 0,
                       lowOk := false }).setFld
    (Reg.PWM_LEG_STATUS_STATE n) legPRECHG

/-- A leg begins its first window as ACTIVE: its low side is on, or comes on at `low`, with its effective turn-on at `eff`.
Log 142 (DEDUCED). -/
def State.firstWindow (s : State) (n : Nat) (c : Carrier) (start : Bool) (eff : Nat) (es : List Edge) : State :=
  ((s.setLeg n { s.leg n with refCount := 0, lowOk := false, edges := es, raw := false, out := false, perCarry := 0, taken := 0,
                              effOn32 := eff }).setFld (Reg.PWM_LEG_STATUS_STATE n) legACTIVE).runWindow n c start true

/-- Whether the switching function of a leg goes to the high side at this very instant: its low-side command goes off now.
Log 142 (DEDUCED). -/
def State.highAtOnce (s : State) (n : Nat) : Bool :=
  (s.leg n).edges.any fun e => e.at32 == 32 * s.now + s.pwm.frac && !e.high && !e.on

/-- A leg becomes ACTIVE and its first window is laid out (R221, R223). A direct-mode leg comes from PRECHG with its low side on.
A logic-mode leg comes with both commands off: where its switching function is high at once, its high side comes on after DT_H
and no low-side pulse stands before it; else its low side comes on after DT_L (R217: dead time delays every turn-on).
Log 142 (DEDUCED). -/
def State.enterActive (s : State) (n : Nat) (c : Carrier) (start : Bool) : State :=
  let r := s.leg n
  if r.loCmd || !r.edges.isEmpty then s.firstWindow n c start r.effOn32 r.edges
  else
    let low := 32 * s.now + s.fld (Reg.PWM_CG_DT_DT_L (s.legCg n))
    let atOnce := s.firstWindow n c start 0 []
    if atOnce.highAtOnce n then atOnce else s.firstWindow n c start low [⟨low, false, true⟩]

/-- What an update point of its own carrier does to a used leg beside the load (R223, R230). -/
def State.legAt (s : State) (n : Nat) (c : Carrier) (start : Bool) : State :=
  let st := s.fld (Reg.PWM_LEG_STATUS_STATE n)
  if st = legFORCED then s.runWindow n c start false
  else if st = legOFF then
    if s.armed && s.permits n && (s.leg n).got && s.twn.waitFrom.isNone && decide (s.twn.settleTo ≤ s.now) then
      (if (s.legRec n).logic then s.enterActive n c start else s.enterPrechg n)
    else s
  else if start && !s.permits n then s.legOff n
  else if st = legPRECHG then s.enterActive n c start
  else (if start then s.countRefresh n else s).runWindow n c start true

/-- One planned edge acts on the command lines of a leg. -/
def LegRun.apply (r : LegRun) (refw32 : Nat) (e : Edge) : LegRun :=
  if e.high then
    (if e.on then { r with hiCmd := true } else { r with hiCmd := false, hiOff32 := if r.hiCmd then e.at32 else r.hiOff32,
                                                          carryShown := if r.hiCmd then none else r.carryShown })
  else if e.on then { r with loCmd := true, loOn32 := if r.loCmd then r.loOn32 else e.at32 }
  else { r with loCmd := false, loOff32 := if r.loCmd then e.at32 else r.loOff32,
                lowOk := r.lowOk || (r.loCmd && decide (r.loOn32 + refw32 ≤ e.at32)) }

/-- The edges of a leg that are due by an instant act. -/
def LegRun.catchUp (r : LegRun) (refw32 t32 : Nat) : LegRun :=
  let due := r.edges.filter fun e => decide (e.at32 ≤ t32)
  { (due.foldl (fun q e => q.apply refw32 e) r) with edges := r.edges.filter fun e => decide (t32 < e.at32) }

/-- The edges of every leg that are due by now act (R215 to R217). Log 141 (DESIGN CHOICE). -/
def State.runEdges (s : State) : State :=
  s.pwm.leg.foldl (fun t e =>
    if e.2.edges.any fun x => decide (x.at32 ≤ 32 * t.now) then
      t.setLeg e.1 (e.2.catchUp (32 * t.fld (Reg.PWM_CG_REF_REFW (t.legCg e.1))) (32 * t.now))
    else t) s

end Sys2Proof.Machine
end

