-- ==== Sys2Proof/Machine/TripOps.lean ====
section
/-!
DEFINITION. The trip matrix (R225 to R234): sources, latches, zones, forcing and release.
-/

namespace Sys2Proof.Machine

/-- The trip sheet in force (R233). -/
def State.tripSheet (s : State) : TripSheet :=
  match s.stg.active with
  | none => {}
  | some i => i.trip

/-- The record of a source: zones, enable, mode, carrier group of CYCLE (R233). -/
def State.srcZones (s : State) (k : Nat) : Nat := s.tripSheet.srcs.getD k 0 % 256
def State.srcEn (s : State) (k : Nat) : Bool := bitOf (s.tripSheet.srcs.getD k 0) 8
def State.srcCycle (s : State) (k : Nat) : Bool := bitOf (s.tripSheet.srcs.getD k 0) 9
def State.srcCg (s : State) (k : Nat) : Nat := s.tripSheet.srcs.getD k 0 / 2 ^ 11 % 8

/-- The record of a leg: zones and safe level (R227, R233). -/
def State.legZones (s : State) (n : Nat) : Nat := s.tripSheet.legs.getD n 0 % 256
def State.legSafe (s : State) (n : Nat) : Nat := s.tripSheet.legs.getD n 0 / 256 % 4

/-- Whether two zone sets meet. -/
def zonesMeet (a b : Nat) : Bool := anyIdx 8 fun z => bitOf a z && bitOf b z

/-- Whether an active zone meets a used leg's zone set (R227). -/
def State.legTripped (s : State) (n : Nat) : Bool :=
  (s.legRec n).used && s.trp.latch.any fun k => s.srcEn k && zonesMeet (s.srcZones k) (s.legZones n)

/-- Bit `n` of TRP_FORCED. Log 115 (DESIGN CHOICE). -/
def State.setForcedBit (s : State) (n : Nat) (b : Bool) : State :=
  let f := Reg.TRP_FORCED (n / 32)
  s.setFld f (if b then setBit (s.fld f) (n % 32) else clearBit (s.fld f) (n % 32))

/-- The command lines of a leg that takes its safe level (R228): turn-offs at once, the safe turn-on after dead time. -/
def LegRun.force (r : LegRun) (safe t32 dtH dtL : Nat) : LegRun :=
  let hiOff := if r.hiCmd && safe != 2 then t32 else r.hiOff32
  let loOff := if r.loCmd && safe != 1 then t32 else r.loOff32
  let es := if safe = 1 ∧ r.loCmd = false then [Edge.mk (max t32 (hiOff + dtL)) false true]
    else if safe = 2 ∧ r.hiCmd = false then [Edge.mk (max t32 (loOff + dtH)) true true] else []
  { r with hiCmd := r.hiCmd && safe == 2, loCmd := r.loCmd && safe == 1, hiOff32 := hiOff, loOff32 := loOff, edges := es,
           refCount := 0, lowOk := false, perCarry := 0, taken := 0, carryShown := none }

/-- Marks of the C-cycle: a source latched, a clear of its latch accepted, its condition begun (R229, R232); a
leg released. -/
def markLatched (k : Nat) : Nat := 100 + k
def markCleared (k : Nat) : Nat := 200 + k
def markBegun (k : Nat) : Nat := 400 + k
def markUnforced (n : Nat) : Nat := 0x3000 + n

/-- The safe switch of a leg that a release of this very C-cycle turned off is on without a break (R228, R229, R232). -/
def LegRun.unbroken (r : LegRun) (safe t32 : Nat) : LegRun :=
  if safe = 1 ∧ r.loOff32 = t32 then { r with loCmd := true, edges := [] }
  else if safe = 2 ∧ r.hiOff32 = t32 then { r with hiCmd := true, loCmd := false, edges := [] }
  else r

/-- A leg becomes FORCED (R227, R228, R230). -/
def State.forceLeg (s : State) (n : Nat) : State :=
  let g := s.legCg n
  let refw := 32 * s.fld (Reg.PWM_CG_REF_REFW g)
  let r0 := if s.marked (markUnforced n) then (s.leg n).unbroken (s.legSafe n) (32 * s.now) else s.leg n
  let r := (r0.force (s.legSafe n) (32 * s.now) (s.fld (Reg.PWM_CG_DT_DT_H g)) (s.fld (Reg.PWM_CG_DT_DT_L g))).catchUp
    refw (32 * s.now)
  (((s.setLeg n r).setFld (Reg.PWM_LEG_STATUS_STATE n) legFORCED).setFld (Reg.PWM_LEG_CARRY n) 0).setForcedBit n true

/-- A leg whose last zone has gone inactive is OFF (R230). -/
def State.unforceLeg (s : State) (n : Nat) : State :=
  (((s.setFld (Reg.PWM_LEG_STATUS_STATE n) legOFF).legOff n).setForcedBit n false).mark (markUnforced n)

/-- Forcing follows the latches: legs with an active zone become FORCED, the others return (R227, R230). -/
def State.settleForcing (s : State) : State :=
  forIdx 64 (fun n t =>
    let forced := t.fld (Reg.PWM_LEG_STATUS_STATE n) == legFORCED
    if t.legTripped n then (if forced then t else t.forceLeg n)
    else if forced then t.unforceLeg n else t) s

/-- Whether a latch of a LATCH-mode source is set (R231). -/
def State.anyLatch (s : State) : Bool := s.trp.latch.any fun k => !s.srcCycle k

/-- The groups with a used leg that a source forces (R231). -/
def State.srcHits (s : State) (k g : Nat) : Bool :=
  anyIdx 64 fun n => s.legIn g n && zonesMeet (s.srcZones k) (s.legZones n)

/-- A latch set anew, and the forcing that follows. -/
def State.setLatch' (s : State) (k : Nat) : State :=
  ({ s with trp := { s.trp with latch := k :: s.trp.latch } }.mark (markLatched k)).settleForcing

/-- A new latching of a CYCLE source (R229). -/
def State.noteCycle (s : State) : State := ((s.raise Reg.TRP_STATUS_CYC_S).count Reg.TRP_CNT_CYC_CNT).ctrEvent 1

/-- A new latching of a LATCH source (R231): its record, and the fault actions for source 0x08. Log 108 (DESIGN CHOICE). -/
def State.noteTrip (s : State) (k : Nat) (first : Bool) : State :=
  let d := s.drawFree
  let s2 := (d.2.raise Reg.TRP_STATUS_TRIP_S).count Reg.TRP_CNT_TRIP_CNT
  let s3 := if first then
      ((s2.setFld Reg.TRP_FIRST_SRC k).setFld Reg.TRP_FIRST_VALID 1).stamp Reg.TRP_FIRST_STAMP_LO Reg.TRP_FIRST_STAMP_HI
        (s2.now + 2 + d.1.toNat % 2)
    else s2
  forIdx 8 (fun g t => if s.srcHits k g then t.faultAction g 0x08 else t) (s3.ctrEvent 0)

/-- A source's condition sets its latch (R229, R231). One that a clear of this C-cycle was accepted for merely stays set, with CLRREF_S
(R232). -/
def State.latchSource (s : State) (k : Nat) : State :=
  if !s.trp.armed || !s.srcEn k || s.trp.latch.contains k then s
  else if s.marked (markCleared k) then (s.setLatch' k).raise Reg.TRP_STATUS_CLRREF_S
  else if s.srcCycle k then (s.setLatch' k).noteCycle
  else (s.setLatch' k).noteTrip k (!s.anyLatch)

/-- A source's condition begins or ends (R225). -/
def State.sourceLive (s : State) (k : Nat) (on : Bool) : State :=
  if on then
    let t := if s.trp.live.contains k then s else s.mark (markBegun k)
    { t with trp := { t.trp with live := if t.trp.live.contains k then t.trp.live else k :: t.trp.live } }.latchSource k
  else { s with trp := { s.trp with live := s.trp.live.filter (· != k) } }

/-- A clear of one source's latch (R232): accepted only while the source is not active, and not in the C-cycle of its
latching. -/
def State.clearSource (s : State) (k : Nat) : State :=
  if s.trp.live.contains k || s.marked (markLatched k) then s.raise Reg.TRP_STATUS_CLRREF_S
  else if s.trp.latch.contains k = false then s
  else { s with trp := { s.trp with latch := s.trp.latch.filter (· != k) } }.mark (markCleared k)

/-- A write of TRP_CLR[k] (R232). -/
def State.clearTrips (s : State) (k m : Nat) : State :=
  (forIdx 32 (fun j t => if bitOf m j && decide (32 * k + j < 84) then t.clearSource (32 * k + j) else t) s).settleForcing

/-- The CYCLE latches of a carrier group clear at its update point where their sources are inactive; one whose source's condition has
begun in this very C-cycle, after the latch was set, stays set and counts as a new latching (R229, R235). -/
def State.cycleRelease (s : State) (g : Nat) : State :=
  let mine (k : Nat) := s.srcCycle k && s.srcCg k == g
  let gone (k : Nat) := mine k && !s.trp.live.contains k
  let anew := s.trp.latch.filter fun k => mine k && s.marked (markBegun k) && !s.marked (markLatched k)
  let t := anew.foldl (fun u _ => u.noteCycle) s
  if t.trp.latch.any gone then
    { t with trp := { t.trp with latch := t.trp.latch.filter fun k => !gone k } }.settleForcing
  else t

/-- Trip latches are released as arming begins, and the sources that are active latch at once (R232). -/
def State.armTrips (s : State) : State :=
  s.trp.live.foldl State.latchSource { s with trp := { s.trp with armed := true } }

end Sys2Proof.Machine
end

