-- ==== Sys2Proof/Machine/DriveOps.lean ====
section
/-!
DEFINITION. The drive dies (R238 to R258): gates, the interlock, confirmation, the bootstrap lockout, leg and die faults, and the
release of legs (R254, R358).
-/

namespace Sys2Proof.Machine

/-- The records of a leg and of a die. -/
def State.dleg (s : State) (n : Nat) : DrvLeg := tabGet {} s.drv.leg n
def State.setDleg (s : State) (n : Nat) (r : DrvLeg) : State :=
  { s with drv := { s.drv with leg := tabSet {} s.drv.leg n r } }
def State.ddie (s : State) (d : Nat) : DrvDie := tabGet {} s.drv.die d
def State.setDdie (s : State) (d : Nat) (r : DrvDie) : State :=
  { s with drv := { s.drv with die := tabSet {} s.drv.die d r } }

/-- Whether a leg is in direct mode (R29). -/
def State.direct (s : State) (n : Nat) : Bool := !(s.legRec n).logic

/-- Whether a die holds a latched die fault (R251). -/
def State.dieFault (s : State) (d : Nat) : Bool :=
  s.on (Reg.DRV_DIE_STATUS_VUV d) || s.on (Reg.DRV_DIE_STATUS_OT d) || s.on (Reg.DRV_DIE_STATUS_LINKF d)

/-- Whether a leg holds a latched gate-drive fault of its own. -/
def State.legFault (s : State) (n : Nat) : Bool :=
  s.on (Reg.DRV_LEG_STATUS_SC n) || s.on (Reg.DRV_LEG_STATUS_GSTUCK n) || s.on (Reg.DRV_LEG_STATUS_GLOW n)
    || s.on (Reg.DRV_LEG_STATUS_UVLAT n)

/-- DRV_STATUS.FAULT follows the latched faults of a die and its legs (R259). Log 115 (DESIGN CHOICE). -/
def State.noteFault (s : State) (d : Nat) : State :=
  let f := s.dieFault d || anyIdx 16 fun j => s.legFault (16 * d + j)
  s.setFld Reg.DRV_STATUS_FAULT
    (if f then setBit (s.fld Reg.DRV_STATUS_FAULT) d else clearBit (s.fld Reg.DRV_STATUS_FAULT) d)

/-- Whether the gates of a die may turn on: DRVENd high, supply good, no latched die fault (R23, R251). -/
def State.dieReady (s : State) (d : Nat) : Bool :=
  (s.ddie d).en && (s.ddie d).supply && !s.dieFault d

/-- The settings of its die that a leg uses (R249, R259). -/
def State.dieCfg (s : State) (n : Nat) : DieCfg :=
  (s.dleg n).dieOld.getD (let d := n / 16
    { gcw := s.fld (Reg.DRV_DIE_CFG_GCW d), bsuvT := s.fld (Reg.DRV_DIE_CFG_BSUV_T d), soft := s.fld (Reg.DRV_DIE_CFG_SOFT d),
      avg := s.fld (Reg.DRV_DIE_CFG_AVG d), band := s.fld (Reg.DRV_DIE_CFG_BAND d) })

/-- Code `k` of STR_NOW (R239, R259): 0 HON, 1 HOFF, 2 LON, 3 LOFF. -/
def State.strNow (s : State) (n k : Nat) : Nat := s.fld (Reg.DRV_LEG_STR_NOW n) / 16 ^ k % 16

/-- One gate of a leg, the begin of its last turn-on, and of its last turn-off. -/
def DrvLeg.gate (r : DrvLeg) (high : Bool) : Gate := if high then r.hi else r.lo
def DrvLeg.onAt (r : DrvLeg) (high : Bool) : Option Nat := if high then r.hiOn else r.loOn
def DrvLeg.offAt (r : DrvLeg) (high : Bool) : Option Nat := if high then r.hiOff else r.loOff
def DrvLeg.setGate (r : DrvLeg) (high : Bool) (g : Gate) : DrvLeg := if high then { r with hi := g } else { r with lo := g }

/-- A switch turns on from chart time `t`, sourcing at a code (R239, R245). -/
def DrvLeg.begin (r : DrvLeg) (high : Bool) (t code : Nat) : DrvLeg :=
  if high then { r with hi := .on, hiOn := some t, hiCode := code } else { r with lo := .on, loOn := some t, loCode := code }

/-- A switch turns off at `t`, sinking at a code where it was on (R239, R250). -/
def DrvLeg.quit (r : DrvLeg) (high : Bool) (t code : Nat) : DrvLeg :=
  if high then (if r.hi = .on then { r with hi := .off, hiOff := some t, hiCode := code } else { r with hi := .off })
  else if r.lo = .on then { r with lo := .off, loOff := some t, loCode := code } else { r with lo := .off }

/-- A gate has passed 2.0 V on its way down: its sink is held at code 15 until its next turn-on (R239). -/
def DrvLeg.clamped (r : DrvLeg) (high : Bool) : DrvLeg := if high then { r with hiCode := 15 } else { r with loCode := 15 }

/-- The strength code at which a gate is driven. -/
def DrvLeg.code (r : DrvLeg) (high : Bool) : Nat := if high then r.hiCode else r.loCode

/-- Whether a gate that is off has passed 2.0 V by now and is not yet held at code 15 (R239). -/
def DrvLeg.fallen (r : DrvLeg) (n now : Nat) (high : Bool) : Bool :=
  r.gate high != .on && r.code high != 15 && ((r.offAt high).elim true fun t => decide (t + Config.gateFall n high t ≤ now))

/-- Gates that have passed 2.0 V are held at code 15, whatever turned them off (R239, R250). Log 194 (DESIGN CHOICE). -/
def State.holdSinks (s : State) : State :=
  s.drv.leg.foldl (fun t e =>
    let hi := if e.2.fallen e.1 t.now true then e.2.clamped true else e.2
    let lo := if hi.fallen e.1 t.now false then hi.clamped false else hi
    if lo = e.2 then t else t.setDleg e.1 lo) s

/-- Both gates of a leg turn off, each at its sink code, or at `soft` (R250). -/
def State.gatesOffAt (s : State) (n : Nat) (soft : Option Nat) : State :=
  s.setDleg n (((s.dleg n).quit true s.now (soft.getD (s.strNow n 1))).quit false s.now (soft.getD (s.strNow n 3)))

/-- Both gates of a leg turn off. -/
def State.gatesOff (s : State) (n : Nat) : State := s.gatesOffAt n none

/-- Every gate of a die turns off. -/
def State.dieOff (s : State) (d : Nat) : State := forIdx 16 (fun j t => t.gatesOff (16 * d + j)) s

/-- The fault action for source 0x07 for every group with a used leg among those tested (R250, R251). -/
def State.gateActions (s : State) (p : Nat → Bool) : State :=
  forIdx 8 (fun g t => if anyIdx 64 (fun n => p n && t.legIn g n) then t.faultAction g 0x07 else t) s

/-- A leg fault latches (R243, R245, R246, R250): the leg turns off, softly on a short circuit, FLT_CNT counts, the fault action runs. -/
def State.latchLegFault (s : State) (n : Nat) (f : Fld) (soft : Option Nat) : State :=
  let t := (((s.gatesOffAt n soft).setFld f 1).count (Reg.DRV_DIE_CNT_FLT_CNT (n / 16))).noteFault (n / 16)
  t.gateActions (· == n)

/-- A die fault latches (R251): all 16 legs turn off. -/
def State.latchDieFault (s : State) (d : Nat) (f : Fld) : State :=
  let t := (((s.dieOff d).setFld f 1).count (Reg.DRV_DIE_CNT_FLT_CNT d)).noteFault d
  t.gateActions fun n => n / 16 == d

/-- The command line of a switch (R216). -/
def State.cmd (s : State) (n : Nat) (high : Bool) : Bool := if high then (s.leg n).hiCmd else (s.leg n).loCmd

/-- A bootstrap undervoltage (R242): the leg floats, and the control die refreshes at every period start. -/
def State.bsuv (s : State) (n : Nat) : State :=
  let t := (s.gatesOff n).setDleg n { (s.gatesOff n).dleg n with bsuvFrom := some ((s.dleg n).bsuvFrom.getD s.now) }
  ((t.raise (Reg.DRV_LEG_STATUS_BSUV_S n)).raise Reg.DRV_STATUS_BSUV_S).count (Reg.DRV_LEG_CNT_BSUV_CNT n)

/-- BSUV_NOW of a leg (R259): its lockout is locked with the high side commanded on. -/
def State.bsuvNow (s : State) (n : Nat) : Bool := s.direct n && (s.dleg n).locked && s.cmd n true

/-- VUV_NOW of a die (R259): VDRVd is below the lockout. -/
def State.vuvNow (s : State) (d : Nat) : Bool := !(s.ddie d).supply

/-- An overlap of both commands (R244): both switches off, recorded once. -/
def State.interlock (s : State) (n : Nat) : State :=
  if (s.dleg n).overlap then s.gatesOff n
  else
    let t := (s.gatesOff n).setDleg n { (s.gatesOff n).dleg n with overlap := true }
    if t.fld (Reg.DRV_LEG_STATUS_ROLE n) = 1 then t
    else ((t.raise (Reg.DRV_LEG_STATUS_ILK_S n)).raise Reg.DRV_STATUS_ILK_S).count (Reg.DRV_LEG_CNT_ILK_CNT n)

/-- The safe-disconnect lines hold every leg off unless the logic is in RUN (R365). Log 116 (DESIGN CHOICE). -/
def State.sdcRun (s : State) : Bool := s.fld Reg.SDC_STATUS_STATE == 2

/-- Whether a key is a field of a leg's DRV registers. -/
def drvKey (n k : Nat) : Bool := keyIn (0x7100 + 0x20 * n) (0x7120 + 0x20 * n) k

/-- The mark of a reload of STR_NOW in this C-cycle (R258). -/
def markReload (n : Nat) : Nat := 0x3100 + n

/-- A command edge of a leg (R249): the committed fields that have arrived take effect; STR, SMIN, SMAX or ADAPT_EN reloads STR_NOW. -/
def State.legEdge (s : State) (n : Nat) : State :=
  let r := s.dleg n
  let t := s.setDleg n { r with cfgDue := false, dieOld := none }
  if r.cfgDue then
    let hit := s.regs.com.any fun e => [Reg.DRV_LEG_STR n, Reg.DRV_LEG_STR_SMIN n, Reg.DRV_LEG_STR_SMAX n, Reg.DRV_LEG_CFG_ADAPT_EN n].any
      fun f => f.key == e.1
    let u := t.takeCom (drvKey n)
    if hit then (u.setFld (Reg.DRV_LEG_STR_NOW n) (u.fld (Reg.DRV_LEG_STR n))).mark (markReload n) else u
  else t

/-- The delay from confirmation to the begin of a turn-on (R245): 20 ns. -/
def turnOnDelay : Nat := 8

/-- A turn-on of a switch begins 20 ns from now, at its source code (R239, R245); the opposite gate is below 2.0 V. -/
def State.begin (s : State) (n : Nat) (high : Bool) : State :=
  s.setDleg n (((s.dleg n).clamped (!high)).begin high (s.now + turnOnDelay) (s.strNow n (if high then 0 else 2)))

/-- A turn-on command edge of a switch (R239, R242, R244, R245). `clear`: the opposite gate reads below 2.0 V. -/
def State.turnOn (s0 : State) (n : Nat) (high clear : Bool) : State :=
  if !s0.cmd n high || (s0.dleg n).gate high != .off then s0
  else
    let s := s0.legEdge n
    let r := s.dleg n
    if !s.sdcRun then s
    else if s.cmd n (!high) then s.interlock n
    else if !s.direct n then
      (if (s.ddie (n / 16)).en && !s.dieFault (n / 16) then s.setDleg n (r.setGate high .on) else s)
    else if !s.dieReady (n / 16) || s.legFault n then s
    else if high && r.locked then s.bsuv n
    else if s.fld (Reg.DRV_LEG_STATUS_ROLE n) = 1 then s
    else if !high && r.bsuvFrom.isSome && decide ((s.leg n).refEnd32 ≤ 32 * s.now) then s
    else if clear then s.begin n high
    else s.setDleg n { r.setGate high .waiting with cmdAt := s.now }

/-- A turn-off command edge of a switch (R216, R239, R244). -/
def State.turnOff (s0 : State) (n : Nat) (high : Bool) : State :=
  if s0.cmd n high then s0
  else
    let s := s0.legEdge n
    s.setDleg n { (s.dleg n).quit high s.now (s.strNow n (if high then 1 else 3)) with overlap := false }

/-- The level of LGH[n] (`high`) or LGL[n] (R33, R216, R240): low until the PX8 is armed, and on a direct-mode leg; from then on the
command after the interlock, inverted where INV_H or INV_L is 1. -/
def State.logicPin (s : State) (n : Nat) (high : Bool) : Bool :=
  s.armed && (s.legRec n).used && (s.legRec n).logic &&
    (decide ((s.dleg n).gate high = .on) != s.on (if high then Reg.PWM_LEG_CTRL_INV_H n else Reg.PWM_LEG_CTRL_INV_L n))

/-- The gate-confirm wait of a leg, in C-cycles (R245). -/
def State.gcw (s : State) (n : Nat) : Nat := (s.dieCfg n).gcw

/-- A leg becomes RELEASED once both of its commands are off (R255). -/
def State.releaseLeg (s : State) (n : Nat) : State :=
  if (s.leg n).hiCmd || (s.leg n).loCmd then s.setDleg n { s.dleg n with relPend := true }
  else ((s.gatesOff n).setDleg n { (s.gatesOff n).dleg n with relPend := false }).setFld (Reg.DRV_LEG_STATUS_ROLE n) 1

/-- A leg becomes DRIVING: no switch is on before its next turn-on edge (R255). -/
def State.driveLeg (s : State) (n : Nat) : State :=
  ((s.gatesOff n).setDleg n { (s.gatesOff n).dleg n with relPend := false }).setFld (Reg.DRV_LEG_STATUS_ROLE n) 0

/-- Both commands of a leg turn off now, whatever its state, and no planned edge is left. -/
def State.cutLeg (s : State) (n : Nat) : State :=
  let r := s.leg n
  (s.setLeg n { r with
    hiCmd := false, loCmd := false, edges := [], hiOff32 := if r.hiCmd then s.now * 32 else r.hiOff32,
    loOff32 := if r.loCmd then s.now * 32 else r.loOff32 }).gatesOff n

/-- A paired module stands down (R358): both switches of every leg off, of a FORCED one too, every leg released, ROLE LOST. It no
longer drives TWIN_ACT (R345), and a hand-over in progress is over. -/
def State.standDown (s : State) : State :=
  if s.on Reg.TWN_CTRL_PAIR_EN ∧ s.role ≠ roleLOST then
    let t := forIdx 64 (fun n u => ((u.legOff n).cutLeg n).releaseLeg n) s
    let u := ((t.setFld Reg.TWN_STATUS_ROLE roleLOST).setFld Reg.TWN_STATUS_READY 0).setFld Reg.TWN_STATUS_HO_BUSY 0
    ({ u with twn := { u.twn with driving := false, waitFrom := none, settling := false, claimed := false, hoIn := false,
                                  hoAck := false, hoLegs := [], hoBy := none, hoWait := none } }).raise Reg.TWN_STATUS_STANDDN_S
  else s

end Sys2Proof.Machine
end

