-- ==== Sys2Proof/Machine/Coef.lean ====
section
/-!
DEFINITION. The coefficients of R57: exact values as fractions over the parameters, and their words in their formats.
-/

namespace Sys2Proof.Machine

/-- A nonnegative fraction with the fraction bits of the format that R57 gives it. -/
structure Coef where
  num : Nat
  den : Nat
  bits : Nat
  deriving DecidableEq, Repr

/-- The word of a coefficient, rounded to nearest; 0 where a field it depends on is 0 (R57). -/
def Coef.word (c : Coef) : Nat := if c.den = 0 then 0 else (roundDiv ((c.num * 2 ^ c.bits : Nat) : Int) c.den).toNat

/-- Whether a coefficient's word exceeds its format (R57). -/
def Coef.over (c : Coef) : Bool := decide (0x7FFFFFFF < c.word)

/-- The format code of a coefficient's fraction bits (R93). -/
def Coef.code (c : Coef) : Nat := if c.bits = 30 then 0 else if c.bits = 28 then 1 else if c.bits = 24 then 2 else 3

/-- The nominal frequency of a group (R56): 50 or 60 Hz. -/
def fNom (rd : Fld → Nat) (g : Nat) : Nat := if rd (Reg.GFM_CFG_FNOM g) = 1 then 60 else 50

/-- K_pv = 2π · VBW · C_f · Z_B as a fraction (R57). Log 23 (DEDUCED). -/
def kpv (rd : Fld → Nat) (g nPar : Nat) : Nat × Nat :=
  (2 * piNum * rd (Reg.GFM_LOOP_BW_VBW g) * rd (Reg.GFM_CF_CF g) * rd (Reg.GFM_BASE_V g),
   piDen * 100000000 * nPar * rd (Reg.GFM_BASE_I g))

/-- K_pc = 2π · CBW · L_f / Z_L as a fraction (R57). -/
def kpc (rd : Fld → Nat) (g : Nat) : Nat × Nat :=
  (2 * piNum * rd (Reg.GFM_LOOP_BW_CBW g) * rd (Reg.GFM_LF_LF g) * rd (Reg.GFM_BASE_I g),
   piDen * 100000000 * rd (Reg.GFM_BASE_V g))

/-- A coefficient by its NAME (R57, R140): of group `g` with `nPar` legs a phase and, for C_KIC and C_PRED_L, an update period
of `tu` C-cycles. `rv` and `xv` are the effective virtual impedance in Q3.28 (R45). Log 23 (DEDUCED). -/
def coefOf (rd : Fld → Nat) (g nPar tu rv xv : Nat) (name : Nat) : Coef :=
  let pv := kpv rd g nPar
  let pc := kpc rd g
  match name with
  | 0x01 => ⟨1, 80 * rd (Reg.GFM_INERTIA_H_MS g), 30⟩
  | 0x02 => ⟨1, 40 * rd (Reg.GFM_DAMP_TD_MS g), 30⟩
  | 0x03 => ⟨10000, rd (Reg.GFM_DROOP_MP g), 16⟩
  | 0x04 => ⟨rd (Reg.GFM_DAMP_D g), 10, 16⟩
  | 0x05 => ⟨piNum * fNom rd g, piDen * 20000, 30⟩
  | 0x06 => ⟨rd (Reg.GFM_DROOP_NQ g), 10000, 30⟩
  | 0x07 => ⟨1, 1 + 4 * rd (Reg.GFM_FILT_TP g), 30⟩
  | 0x08 => ⟨1, 1 + 4 * rd (Reg.GFM_FILT_TQ g), 30⟩
  | 0x09 => ⟨rv, 2 ^ 28, 28⟩
  | 0x0A => ⟨xv, 2 ^ 28, 28⟩
  | 0x0B => ⟨rd (Reg.GFM_ZV_N_RVN g), 10000, 28⟩
  | 0x0C => ⟨rd (Reg.GFM_ZV_N_XVN g), 10000, 28⟩
  | 0x0D => ⟨pv.1, pv.2, 24⟩
  | 0x0E => ⟨pv.1 * piNum, pv.2 * piDen * 250, 24⟩
  | 0x0F => ⟨rd (Reg.GFM_HARM_HI_HGAIN g) * pv.1 * piNum, 16 * pv.2 * piDen * 5000, 24⟩
  | 0x10 => ⟨pc.1, pc.2, 24⟩
  | 0x11 => ⟨pc.1 * piNum * rd (Reg.GFM_LOOP_BW_CBW g) * tu, pc.2 * piDen * 2000000000, 30⟩
  | 0x12 => ⟨4 * rd (Reg.GFM_LF_LF g) * rd (Reg.GFM_BASE_I g), rd (Reg.GFM_BASE_V g) * tu, 24⟩
  | _ => ⟨rd (Reg.GFM_BASE_V g), rd (Reg.GFM_BASE_DC g), 24⟩

/-- Whether a coefficient depends on a base, filter or inductance field that is 0 (R57). -/
def coefUnset (rd : Fld → Nat) (g name : Nat) : Bool :=
  let z (f : Fld) := rd f == 0
  match name with
  | 0x0D | 0x0E | 0x0F => z (Reg.GFM_BASE_V g) || z (Reg.GFM_BASE_I g) || z (Reg.GFM_CF_CF g)
  | 0x10 | 0x11 | 0x12 => z (Reg.GFM_BASE_V g) || z (Reg.GFM_BASE_I g) || z (Reg.GFM_LF_LF g)
  | 0x13 => z (Reg.GFM_BASE_V g) || z (Reg.GFM_BASE_DC g)
  | _ => false

/-- The word that the survey writes for a coefficient (R57). -/
def coefWordOf (rd : Fld → Nat) (g nPar tu rv xv name : Nat) : Nat :=
  if coefUnset rd g name then 0 else (coefOf rd g nPar tu rv xv name).word

/-- N_par of a group in an image; 1 for a group that the image does not define. Log 23 (DEDUCED). -/
def Img.nPar (i : Img) (g : Nat) : Nat := ((i.groups.find? fun r => r.group == g).map GroupRec.nPar).getD 1

/-- N_par of a group in the active image. -/
def State.nPar (s : State) (g : Nat) : Nat := ((s.groupRec g).map GroupRec.nPar).getD 1

/-- A coefficient of a group as the values in effect give it. -/
def State.coef (s : State) (g name : Nat) : Int :=
  coefWordOf s.fld g (s.nPar g) 1 (unsignedOf 32 (s.grp g).rvEff) (unsignedOf 32 (s.grp g).xvEff) name

end Sys2Proof.Machine
end

