-- ==== Sys2Proof/Machine/EngineExec.lean ====
section
/-!
DEFINITION. The meaning of each engine operation (R100 to R105), as it issues on a cell. FETCH and WAITF stand with the DMA
channels.
-/

namespace Sys2Proof.Machine

/-- NOP: none (R102). -/
def execNop (c : Fin 32) (s : State) : Host.Outcome State Fault Refusal :=
  .next (s.issueOp c opNOP fun _ _ t => t)

/-- LDC: reg[D] ← coef[IMM], raw bits (R102). -/
def execLdc (c : Fin 32) (s : State) : Host.Outcome State Fault Refusal :=
  .next (s.issueOp c opLDC fun n o t => (t.readCoef n o.imm).2.setReg n o.d (t.readCoef n o.imm).1)

/-- LDS: reg[D] ← state[IMM[8:0]] (R102). -/
def execLds (c : Fin 32) (s : State) : Host.Outcome State Fault Refusal :=
  .next (s.issueOp c opLDS fun n o t => (t.readSt n o.imm).2.setReg n o.d (t.readSt n o.imm).1)

/-- The write-back of STS (R102, R174): a host word written in this C-cycle stands, with COLLIDE_S. -/
def State.store (s : State) (n i w : Nat) : State :=
  let c := s.cellOf n
  let k := c * 512 + i % 512
  let t := { s with eng := { s.eng with stsNow := (k, n) :: s.eng.stsNow } }
  if s.eng.expNow.contains k then t.raise (Reg.GRT_CTX_STATUS_COLLIDE_S (n % 128))
  else t.setSt c i { val := w }

/-- STS: state[IMM[8:0]] ← reg[A] (R102). -/
def execSts (c : Fin 32) (s : State) : Host.Outcome State Fault Refusal :=
  .next (s.issueOp c opSTS fun n o t => t.store n o.imm (t.reg n o.a))

/-- What an input port gives (R103): the snapshot, the tick-weight word, or the chart time of the trigger. A port above 33, which no
surveyed program names, is one that no route feeds. Log 16 (DESIGN CHOICE). -/
def State.inWord (s : State) (n p : Nat) : Nat :=
  if p < 32 then tabGet navN s.eng.snap (n * 32 + p)
  else if p = 32 then (s.ctx n).w.toNat
  else if p = 33 then (s.ctx n).trigAt % 2 ^ 32
  else navN

/-- IN: reg[D] ← input port IMM[5:0] (R102, R103). -/
def execIn (c : Fin 32) (s : State) : Host.Outcome State Fault Refusal :=
  .next (s.issueOp c opIN fun n o t => t.setReg n o.d (t.inWord n (o.imm % 64)))

/-- OUT: output port IMM[5:0] ← reg[A] (R102, R109). There is no port above 31, and the survey rejects one (R103). -/
def execOut (c : Fin 32) (s : State) : Host.Outcome State Fault Refusal :=
  .next (s.issueOp c opOUT fun n o t => if o.imm % 64 < 32 then t.output n (o.imm % 64) (t.reg n o.a) else t)

/-- ADD: reg[D] ← reg[A] + reg[B] (R99, R102). -/
def execAdd (c : Fin 32) (s : State) : Host.Outcome State Fault Refusal :=
  .next (s.issueOp c opADD fun n o t => t.binary n o fun x y => x + y)

/-- SUB: reg[D] ← reg[A] − reg[B] (R99, R102). -/
def execSub (c : Fin 32) (s : State) : Host.Outcome State Fault Refusal :=
  .next (s.issueOp c opSUB fun n o t => t.binary n o fun x y => x - y)

/-- NEG: reg[D] ← −reg[A] (R99, R102). -/
def execNeg (c : Fin 32) (s : State) : Host.Outcome State Fault Refusal :=
  .next (s.issueOp c opNEG fun n o t => t.unary n o fun x => -x)

/-- ABS: reg[D] ← |reg[A]| (R99, R102). -/
def execAbs (c : Fin 32) (s : State) : Host.Outcome State Fault Refusal :=
  .next (s.issueOp c opABS fun n o t => t.unary n o fun x => x.natAbs)

/-- MIN: reg[D] ← min(reg[A], reg[B]) (R102). -/
def execMin (c : Fin 32) (s : State) : Host.Outcome State Fault Refusal :=
  .next (s.issueOp c opMIN fun n o t => t.binary n o fun x y => if x ≤ y then x else y)

/-- MAX: reg[D] ← max(reg[A], reg[B]) (R102). -/
def execMax (c : Fin 32) (s : State) : Host.Outcome State Fault Refusal :=
  .next (s.issueOp c opMAX fun n o t => t.binary n o fun x y => if x ≤ y then y else x)

/-- LIMIT's clamp of x into [−b, +b]. -/
def limitTo (x b : Int) : Int := if b < x then b else if x < -b then -b else x

/-- LIMIT: reg[D] ← clamp(reg[A], −reg[B], +reg[B]); NaV for a negative bound (R100, R102). -/
def execLimit (c : Fin 32) (s : State) : Host.Outcome State Fault Refusal :=
  .next (s.issueOp c opLIMIT fun n o t =>
    if wInt (t.reg n o.b) < 0 then t.setReg n o.d navN else t.binary n o limitTo)

/-- SEL: reg[D] ← reg[B] if reg[A] ≥ 0; NaV for a NaV condition (R100, R102). -/
def execSel (c : Fin 32) (s : State) : Host.Outcome State Fault Refusal :=
  .next (s.issueOp c opSEL fun n o t =>
    if isNav (t.reg n o.a) then t.setReg n o.d navN
    else if wInt (t.reg n o.a) < 0 then t
    else t.setReg n o.d (t.reg n o.b))

/-- SHIFT: reg[D] ← reg[A] × 2^k (R99, R102). -/
def execShift (c : Fin 32) (s : State) : Host.Outcome State Fault Refusal :=
  .next (s.issueOp c opSHIFT fun n o t => t.unary n o fun x => shiftExact x (shiftCount o.imm))

/-- CLR: ACC[IMM[0]] ← 0 and its NaV flag cleared (R102). -/
def execClr (c : Fin 32) (s : State) : Host.Outcome State Fault Refusal :=
  .next (s.issueOp c opCLR fun n o t => t.setAcc n (o.imm % 2) {})

/-- MUL: ACC[IMM[0]] ← reg[A] × reg[B] (R97, R102). -/
def execMul (c : Fin 32) (s : State) : Host.Outcome State Fault Refusal :=
  .next (s.issueOp c opMUL fun n o t => t.loadAcc n (o.imm % 2) (t.regProd n o.a o.b).1 (t.regProd n o.a o.b).2)

/-- MAC: ACC[IMM[0]] ← ACC[IMM[0]] + reg[A] × reg[B] (R97, R102). -/
def execMac (c : Fin 32) (s : State) : Host.Outcome State Fault Refusal :=
  .next (s.issueOp c opMAC fun n o t => t.accumulate n (o.imm % 2) (t.regProd n o.a o.b).1 (t.regProd n o.a o.b).2)

/-- MSU: ACC[IMM[0]] ← ACC[IMM[0]] − reg[A] × reg[B] (R97, R102). -/
def execMsu (c : Fin 32) (s : State) : Host.Outcome State Fault Refusal :=
  .next (s.issueOp c opMSU fun n o t => t.accumulate n (o.imm % 2) (t.regProd n o.a o.b).1 (-(t.regProd n o.a o.b).2))

/-- MAC2: ACC0 += reg[A] × reg[B]; ACC1 += reg[A+1] × reg[B+1] (R97, R102). -/
def execMac2 (c : Fin 32) (s : State) : Host.Outcome State Fault Refusal :=
  .next (s.issueOp c opMAC2 fun n o t =>
    let p := t.regProd n o.a o.b
    let q := t.regProd n (o.a + 1) (o.b + 1)
    (t.accumulate n 0 p.1 p.2).accumulate n 1 q.1 q.2)

/-- MULC: ACC[D[0]] ← reg[A] × coef[IMM] (R97, R102). -/
def execMulc (c : Fin 32) (s : State) : Host.Outcome State Fault Refusal :=
  .next (s.issueOp c opMULC fun n o t =>
    let p := t.coefProd n o.a o.imm
    p.2.2.loadAcc n (o.d % 2) p.1 p.2.1)

/-- MACC: ACC[D[0]] += reg[A] × coef[IMM] (R97, R102). -/
def execMacc (c : Fin 32) (s : State) : Host.Outcome State Fault Refusal :=
  .next (s.issueOp c opMACC fun n o t =>
    let p := t.coefProd n o.a o.imm
    p.2.2.accumulate n (o.d % 2) p.1 p.2.1)

/-- MSUC: ACC[D[0]] −= reg[A] × coef[IMM] (R97, R102): the aligned product is subtracted. -/
def execMsuc (c : Fin 32) (s : State) : Host.Outcome State Fault Refusal :=
  .next (s.issueOp c opMSUC fun n o t =>
    let p := t.coefProd n o.a o.imm
    p.2.2.accumulate n (o.d % 2) p.1 (-p.2.1))

/-- MACC2: ACC0 += reg[A] × coef[IMM]; ACC1 += reg[A+1] × coef[IMM+1] (R97, R102). -/
def execMacc2 (c : Fin 32) (s : State) : Host.Outcome State Fault Refusal :=
  .next (s.issueOp c opMACC2 fun n o t =>
    let p := t.coefProd n o.a o.imm
    let u := p.2.2.accumulate n 0 p.1 p.2.1
    let q := u.coefProd n (o.a + 1) (o.imm + 1)
    q.2.2.accumulate n 1 q.1 q.2.1)

/-- RND: reg[D] ← ACC[IMM[2]] in the format coded by IMM[1:0] (R98, R102). -/
def execRnd (c : Fin 32) (s : State) : Host.Outcome State Fault Refusal :=
  .next (s.issueOp c opRND fun n o t => t.rnd n o.d (o.imm / 4 % 2) (o.imm % 4))

/-- WRAP: reg[D] ← reg[A] wrapped into [−π, +π) (R102). -/
def execWrap (c : Fin 32) (s : State) : Host.Outcome State Fault Refusal :=
  .next (s.issueOp c opWRAP fun n o t =>
    if isNav (t.reg n o.a) then t.setReg n o.d navN
    else t.setReg n o.d (unsignedOf 32 (wrapAngle (wInt (t.reg n o.a)))))

/-- SINCOS: reg[D] ← sin(reg[A]); reg[D+1] ← cos(reg[A]) (R100, R102). -/
def execSincos (c : Fin 32) (s : State) : Host.Outcome State Fault Refusal :=
  .next (s.issueOp c opSINCOS fun n o t =>
    let w := t.reg n o.a
    if isNav w then (t.setReg n o.d navN).setReg n (o.d + 1) navN
    else (t.setReg n o.d (unsignedOf 32 (sinOf w))).setReg n (o.d + 1) (unsignedOf 32 (cosOf w)))

/-- DIV: reg[D] ← reg[A] / reg[B]; NaV for a zero divisor (R99, R100, R102). -/
def execDiv (c : Fin 32) (s : State) : Host.Outcome State Fault Refusal :=
  .next (s.issueOp c opDIV fun n o t =>
    if t.reg n o.b = 0 then t.setReg n o.d navN else t.binary n o divExact)

/-- SQRT: reg[D] ← √reg[A]; NaV for a negative operand (R100, R102). -/
def execSqrt (c : Fin 32) (s : State) : Host.Outcome State Fault Refusal :=
  .next (s.issueOp c opSQRT fun n o t =>
    if isNav (t.reg n o.a) || decide (wInt (t.reg n o.a) < 0) then t.setReg n o.d navN
    else t.setReg n o.d (sqrtExact (t.reg n o.a)))

/-- REP: the next A + 1 operations repeat IMM[7:0] + 1 times (R105); the position keeps the repetition. -/
def execRep (c : Fin 32) (s : State) : Host.Outcome State Fault Refusal :=
  .next (s.issueOp c opREP fun _ _ t => t)

/-- FLAG: bit IMM[4:0] of the status destination is set if reg[A] ≠ 0, NaV included (R100, R102). -/
def execFlag (c : Fin 32) (s : State) : Host.Outcome State Fault Refusal :=
  .next (s.issueOp c opFLAG fun n o t => if t.reg n o.a = 0 then t else t.flagBit n (o.imm % 32))

/-- END: the execution ends and is judged (R102, R116). -/
def execEnd (c : Fin 32) (s : State) : Host.Outcome State Fault Refusal :=
  .next (s.issueOp c opEND fun n _ t => t.endExec n)

end Sys2Proof.Machine
end

