-- ==== Sys2Proof/Machine/EngineRows.lean ====
section
/-!
DEFINITION. The commands of the engine beside its operations: timers, kicks, dispatch, deadlines, enables, and the care of cell
memory (R92 to R96, R107 to R120).
-/

namespace Sys2Proof.Machine

/-- GRT_TIMER_TICK (R108): timer `k` ticks at its due instant and triggers its TIMER contexts. Log 101 (DESIGN CHOICE). -/
def State.timerTick (s : State) (k : Nat) : State :=
  let p := s.fld (Reg.GRT_TMR_PERIOD k)
  let due := tabGet 0 s.eng.timerNext k
  if p = 0 ∨ due = 0 ∨ s.now < due ∨ (s.now - due) % p ≠ 0 then s
  else ({ s with eng := { s.eng with timerNext := tabSet 0 s.eng.timerNext k (s.now + p) } }).triggerAll 0 k

def execGrtTimerTick (k : Fin 8) (s : State) : Host.Outcome State Fault Refusal :=
  .next (s.inOrder (.grtTimerTick k) Instr.beforeTrigger fun t => t.timerTick k)

/-- The address of GRT_KICK. -/
def addrKick : Nat := Reg.GRT_KICK_CTX.addr

/-- GRT_KICK (R107, R132): triggers a HOST context; another context is refused. -/
def State.kick (s : State) (p : Port) (n : Nat) : State :=
  if cfgDefined (s.cfg n) && cfgTrig (s.cfg n) == 3 then s.trigger n else s.refuse p addrKick

def execGrtKick (p : Port) (n : Fin 128) (s : State) : Host.Outcome State Fault Refusal :=
  .next (s.portCmd (.grtKick p n) p addrKick fun t => t.kick p n)

def execContextDispatch (c : Fin 32) (s : State) : Host.Outcome State Fault Refusal :=
  .next (s.inOrder (.contextDispatch c) Instr.beforeTrigger fun t => t.dispatch c)

def execContextPreempt (c : Fin 32) (s : State) : Host.Outcome State Fault Refusal := .next (s.preempt c)

/-- DEADLINE_EXPIRY (R117): an execution that has begun and whose deadline has passed misses it, once. -/
def State.deadlineExpiry (s : State) (n : Nat) : State :=
  if (s.ctx n).phase ≠ .idle ∧ (s.ctx n).deadline < s.now ∧ s.enabled n = true then s.missExec n else s

def execDeadlineExpiry (n : Fin 256) (s : State) : Host.Outcome State Fault Refusal := .next (s.deadlineExpiry n)

/-- TRIGGER_WATCHDOG (R119): 1.5 × TICK_NOM after the previous trigger TRGLOST_S and a miss, then at every TICK_NOM a miss. -/
def State.watchdog (s : State) (n : Nat) : State :=
  let r := s.ctx n
  let nom := s.tickNom n
  let watched := cfgDefined (s.cfg n) && s.enabled n && (cfgTrig (s.cfg n) == 1 || cfgTrig (s.cfg n) == 2)
  match r.lastTrig with
  | none => s
  | some t =>
    if watched && nom != 0 && decide (2 * t + 3 * nom + 2 * r.wdMisses * nom ≤ 2 * s.now) then
      let u := s.setCtx n { r with wdMisses := r.wdMisses + 1 }
      (if r.wdMisses = 0 then u.raise (Reg.GRT_CTX_STATUS_TRGLOST_S n) else u).countMiss n
    else s

def execTriggerWatchdog (n : Fin 128) (s : State) : Host.Outcome State Fault Refusal := .next (s.watchdog n)

/-- The entry of a context in an image. -/
def Img.ctxRec (i : Img) (n : Nat) : Option CtxRec := i.ctxs.find? fun r => r.ctx == n

/-- The initial value of a state word in an image (R141). -/
def Img.initWord (i : Img) (c w : Nat) : Nat :=
  match i.inits.find? fun x => x.cell == c with
  | none => 0
  | some x => x.words.getD w 0

/-- A context's state words take their initial values (R110, R154). -/
def State.loadInit (s : State) (i : Img) (r : CtxRec) : State :=
  forIdx r.stateLen (fun k t => t.setSt (cfgCell r.cfg) (r.stateBase + k)
    { val := i.initWord (cfgCell r.cfg) (r.stateBase + k) }) s

/-- The active image's state words of a context take their initial values. -/
def State.reinit (s : State) (n : Nat) : State :=
  match s.stg.active with
  | none => s
  | some i => match i.ctxRec n with
    | none => s
    | some r => s.loadInit i r

/-- CONTEXT_ENABLE (R110): EN from 0 to 1. -/
def State.ctxEnable (s : State) (n : Nat) : State :=
  if s.on (Reg.GRT_CTX_CTRL_EN n) then s
  else
    let t := ((s.setFld (Reg.GRT_CTX_CTRL_EN n) 1).reinit n).setFld (Reg.GRT_CTX_STATUS_MISS_RUN n) 0
    t.setCtx n { t.ctx n with first := true, lastTrig := none, wdMisses := 0 }

/-- CONTEXT_DISABLE (R110): EN to 0; a trigger that is ready and not dispatched is dropped. Log 32 (DEDUCED). -/
def State.ctxDisable (s : State) (n : Nat) : State :=
  let t := s.setFld (Reg.GRT_CTX_CTRL_EN n) 0
  if (s.ctx n).phase = .ready then t.setCtx n { t.ctx n with phase := .idle, lastTrig := none, wdMisses := 0 }
  else t.setCtx n { t.ctx n with lastTrig := none, wdMisses := 0 }

/-- A write to EN (R18, R110): an expert field, refused for a context that is not defined. -/
def State.writeCtxEn (s : State) (p : Port) (n : Nat) (b : Bool) : State :=
  let a := (Reg.GRT_CTX_CTRL_EN n).addr
  if !s.expertStart || !cfgDefined (s.cfg n) then s.refuse p a
  else if b then s.ctxEnable n else s.ctxDisable n

def execContextEnable (p : Port) (n : Fin 128) (s : State) : Host.Outcome State Fault Refusal :=
  .next (s.portCmd (.contextEnable p n) p (Reg.GRT_CTX_CTRL_EN n).addr fun t => t.writeCtxEn p n true)

def execContextDisable (p : Port) (n : Fin 128) (s : State) : Host.Outcome State Fault Refusal :=
  .next (s.portCmd (.contextDisable p n) p (Reg.GRT_CTX_CTRL_EN n).addr fun t => t.writeCtxEn p n false)

/-- A word of a cell's memory, in its active or its staging copy. -/
def State.memWord (s : State) (c : Nat) (m : CellMem) (stg : Bool) (i : Nat) : MWord :=
  match m with
  | .coef => tabGet {} (if stg then s.eng.coefStg else s.eng.coef) (c * 1024 + i % 1024)
  | .st => s.stWord c i
  | .bun => tabGet {} (if stg then s.eng.bunStg else s.eng.bun) (c * 512 + i % 512)

/-- Writes a word of a cell's memory. -/
def State.setMem (s : State) (c : Nat) (m : CellMem) (stg : Bool) (i : Nat) (w : MWord) : State :=
  match m with
  | .coef =>
    if stg then { s with eng := { s.eng with coefStg := tabSet {} s.eng.coefStg (c * 1024 + i % 1024) w } }
    else { s with eng := { s.eng with coef := tabSet {} s.eng.coef (c * 1024 + i % 1024) w } }
  | .st => s.setSt c i w
  | .bun =>
    if stg then { s with eng := { s.eng with bunStg := tabSet {} s.eng.bunStg (c * 512 + i % 512) w } }
    else { s with eng := { s.eng with bun := tabSet {} s.eng.bun (c * 512 + i % 512) w } }

/-- The host address of a word of cell memory (R92). -/
def memAddr (c : Nat) (m : CellMem) (i : Nat) : Nat :=
  match m with
  | .coef => coefAddr c (i % 1024)
  | .st => stAddr c (i % 512)
  | .bun => bunAddr c (i % 512)

/-- The copies that executions of a retiring image use stand in the staging copies (R153, R168): a word of them whose single-bit error
is written back. -/
def State.oldBack (s : State) (c : Nat) (m : CellMem) (i : Nat) : State :=
  let back (t : Tab MWord) (k : Nat) : Tab MWord :=
    if (tabGet {} t k).ecc = .single then tabSet {} t k { tabGet {} t k with ecc := .ok } else t
  match m with
  | .coef => { s with eng := { s.eng with coefOld := back s.eng.coefOld (c * 1024 + i % 1024) } }
  | .bun => { s with eng := { s.eng with bunOld := back s.eng.bunOld (c * 512 + i % 512) } }
  | .st => s

/-- ECC_WRITEBACK (R94): the corrected word is written back where a read has found its error. -/
def State.eccWriteback (s : State) (c : Nat) (m : CellMem) (stg : Bool) (i : Nat) : State :=
  let id := foundId (memAddr c m i) (stg && m != .st)
  let w := s.memWord c m stg i
  if s.eng.found.contains id then
    let t := if stg then s.oldBack c m i else s
    let u := if w.ecc = .single then t.setMem c m stg i { w with ecc := .ok } else t
    if w.ecc = .bad then u else { u with eng := { u.eng with found := u.eng.found.filter (· != id) } }
  else s

def execEccWriteback (c : Fin 32) (m : CellMem) (stg : Bool) (i : Fin 1024) (s : State) :
    Host.Outcome State Fault Refusal := .next (s.eccWriteback c m stg i)

/-- CELL_SWEEP_READ (R95): the sweep reads a word while SWEEP_EN is 1, and corrects and counts as R94 states. -/
def State.sweepRead (s : State) (c : Nat) (m : CellMem) (stg : Bool) (i : Nat) : State :=
  if s.on Reg.GRT_CTRL_SWEEP_EN then s.eccRead c (memAddr c m i) (stg && m != .st) (s.memWord c m stg i)
  else s

def execCellSweepRead (c : Fin 32) (m : CellMem) (stg : Bool) (i : Fin 1024) (s : State) :
    Host.Outcome State Fault Refusal := .next (s.sweepRead c m stg i)

/-- Whether the pending commit or the staged image, not the host, supplies a word of the staging copy (R163): a commit pending without
an image has copies of its own, whatever has been staged since. -/
def State.stagedOwn (s : State) (c i : Nat) (m : CellMem) : Bool :=
  (s.stg.staged.isSome && (s.stg.withImg || !(s.stgState == sPENDING || s.stgState == sAPPLYING))) ||
    (m == .coef && ((s.stg.cdraft.any fun e => e.1 == coefAddr c i) ||
      (match s.stg.active with
       | none => false
       | some g => g.binds.any fun b => b.cell == c && b.word == i)))

/-- Whether an enabled context is assigned to a cell (R96). -/
def State.cellInUse (s : State) (c : Nat) : Bool :=
  anyIdx 128 fun n => cfgDefined (s.cfg n) && s.cellOf n == c && s.on (Reg.GRT_CTX_CTRL_EN n)

/-- A state word written by an expert write (R174): it lands after an engine write-back of the same C-cycle. -/
def State.expertState (s : State) (c i w : Nat) : State :=
  let k := c * 512 + i % 512
  let t := match s.eng.stsNow.find? fun e => e.1 == k with
    | some e => s.raise (Reg.GRT_CTX_STATUS_COLLIDE_S (e.2 % 128))
    | none => s
  { t with eng := { t.eng with expNow := k :: t.eng.expNow } }.setSt c i { val := w }

/-- EXPERT_CELL_WRITE (R18, R92, R96, R163, R170): the word lands whole in the active copy and, unless a staged image or a
pending commit supplies it, in the staging copy. -/
def State.expertCell (s : State) (p : Port) (a w : Nat) : State :=
  let c := (a - 0x100000) / 0x8000
  let o := (a - 0x100000) % 0x8000
  if !s.expertStart then s.refuse p a
  else if o < 0x1000 then
    let t := (s.setMem c .coef false (o / 4) { val := w }).mirrorWrite c false false (o / 4)
    if s.stagedOwn c (o / 4) .coef then t else (t.setMem c .coef true (o / 4) { val := w }).mirrorWrite c false true (o / 4)
  else if o < 0x1800 then s.expertState c ((o - 0x1000) / 4) w
  else if 0x2000 ≤ o ∧ o < 0x2800 then
    let i := (o - 0x2000) / 4
    if s.cellInUse c then s.refuse p a
    else
      let t := (s.setMem c .bun false i { val := w }).mirrorWrite c true false i
      if s.stagedOwn c i .bun then t else (t.setMem c .bun true i { val := w }).mirrorWrite c true true i
  else s.refuse p a

/-- `o` is the word offset in the windows of the cells: address 0x0010_0000 + 4 × o. -/
def execExpertCellWrite (p : Port) (o : Fin 0x40000) (w : Word) (s : State) : Host.Outcome State Fault Refusal :=
  .next (s.portCmd (.expertCellWrite p o w) p (0x100000 + 4 * o.val) fun t => t.expertCell p (0x100000 + 4 * o.val) w.toNat)

end Sys2Proof.Machine
end

