-- ==== Sys2Proof/Machine/GridLaws.lean ====
section
/-!
DEFINITION. The laws of grid-forming control as functions of numbers: the slew governor (R49), the rotor (R38), powers (R41),
the grid tracker's channels (R60, R61) and the current limiter (R63). Quantities are Q3.28 pu unless said otherwise; `w` is
the tick weight.
-/

namespace Sys2Proof.Machine

/-- A product of two Q3.28 values. Log 66 (DESIGN CHOICE). -/
def qmul (x y : Int) : Int := roundShift (x * y) 28

/-- A value held within two limits. -/
def within (lo hi x : Int) : Int := if x < lo then lo else if hi < x then hi else x

/-- Whether the move from `y` to `z` reaches beyond `x` (R49). -/
def passes (y z x : Int) : Bool := (decide (y ≤ x) && decide (x < z)) || (decide (z < x) && decide (x ≤ y))

/-- The movement of a rate in units of 1/`per` pu/s over a tick of weight `w`, with 56 fraction bits. Log 66 (DESIGN CHOICE). -/
def rateStep (r : Nat) (per : Nat) (w : Int) : Int := roundDiv (r * w * 25 * 2 ^ 28) (per * 1000000)

/-- The tick of an acceleration-limited governor that moves away from its target (R49). -/
def Gov.brake (g : Gov) (aDt w : Int) : Int × Int :=
  let v1 := g.v - g.v.sign * aDt
  let v2 := if v1.sign = g.v.sign then v1 else 0
  let step := roundDiv (v2 * w * 25) (2 ^ 28 * 1000000)
  let old := g.prev * 2 ^ 28
  if passes g.y (g.y + step) old then (old - g.y, 0) else (step, v2)

/-- The tick of a governor toward its target `t` (R49): its move and its rate. `r` is in 0.0001 pu/s, `a` in 0.001 pu/s². -/
def Gov.move (g : Gov) (t w : Int) (r a : Nat) : Int × Int :=
  let e := t - g.y
  let aDt := rateStep a 1000 w
  if a = 0 then
    let lim := rateStep r 10000 w
    let step := within (-lim) lim e
    (step, if w = 0 then 0 else roundDiv (step * 2 ^ 28 * 1000000) (w * 25).toNat)
  else if g.v ≠ 0 ∧ g.v.sign ≠ e.sign then g.brake aDt w
  else
    let root : Int := isqrt (2 * a * e.natAbs * 2 ^ 56 / 1000)
    let mag := min (min (g.v.natAbs + aDt) (roundDiv (r * 2 ^ 56) 10000)) root
    (roundDiv (e.sign * mag * w * 25) (2 ^ 28 * 1000000), e.sign * mag)

/-- One tick of a governor (R49). Log 66 (DESIGN CHOICE). -/
def Gov.tick (g0 : Gov) (target w : Int) (r a : Nat) : Gov :=
  let g := if target = g0.target then g0 else { g0 with target := target, prev := g0.target }
  let t := target * 2 ^ 28
  let m := g.move t w r a
  if passes g.y (g.y + m.1) t then { g with y := t, v := 0 } else { g with y := g.y + m.1, v := m.2 }

/-- A governor's output as a word. -/
def Gov.out (g : Gov) : Int := roundShift g.y 28

/-- Whether a governor's output has not reached its target (R50). -/
def Gov.slews (g : Gov) : Bool := g.y != g.target * 2 ^ 28

/-- A governor at rest at a value (R51). -/
def Gov.at (x : Int) : Gov := { y := x * 2 ^ 28, v := 0, target := x, prev := x }

/-- The swing equation: ω[k+1] before its clamp (R38). Coefficients are the words of R57. Log 66 (DESIGN CHOICE). -/
def swing (om omd pStar omStar pe w kh mp d : Int) : Int :=
  om + roundShift (w * kh * ((pStar - pe) * 2 ^ 16 + mp * (omStar - om) - d * (om - omd))) 74

/-- The damping reference: ω_d[k+1] (R38). -/
def washout (om omd w kw : Int) : Int := omd + roundShift (w * kw * (om - omd)) 58

/-- The angle stage: θ[k+1] (R38, R39). -/
def turn (th om w kth : Int) : Int := wrapAngle (th + roundShift (w * kth * om) 58)

/-- One step of a first-order filter with a Q1.30 coefficient (R41, R57). -/
def lowpass (y x c : Int) : Int := y + roundShift (c * (x - y)) 30

/-- The Clarke transform of R41: α and β of three phases. -/
def clarkeA (a b c : Int) : Int := roundDiv (2 * a - b - c) 3
def clarkeB (b c : Int) : Int :=
  roundDiv ((b - c) * 577350269189625764509148780502) 1000000000000000000000000000000

/-- The angle that a frequency turns through in a tick (R38), in Q3.28 rad. -/
def tickAngle (w kth om : Int) : Int := roundShift (w * kth * om) 58

/-- A generalised integrator at a tick (R41, R60): its input, its gain, and the angle of its centre frequency.
Log 65 (DESIGN CHOICE). -/
def Sogi.step (g : Sogi) (k a u : Int) : Sogi :=
  let x := clampInt (g.x + qmul a (qmul k (u - g.x) - g.q))
  { x := x, q := clampInt (g.q + qmul a x) }

/-- A vector in the frame at the angle whose cosine and sine are given, and back. -/
def intoFrame (co si a b : Int) : Int × Int := (qmul a co + qmul b si, qmul b co - qmul a si)
def outOfFrame (co si d q : Int) : Int × Int := (qmul d co - qmul q si, qmul d si + qmul q co)

/-- A separation at a tick: the vector in its frame, its notch at 2ω, whose angle is twice the tick's. Log 65 (DESIGN CHOICE). -/
def Seq2.step (t : Seq2) (k a : Int) (v : Int × Int) : Seq2 :=
  { d := t.d.step k (2 * a) v.1, q := t.q.step k (2 * a) v.2 }

/-- The magnitude of a vector, rounded. -/
def mag (a b : Int) : Int := roundSqrt (a * a + b * b).toNat

/-- The sequences of a channel's voltage (R60): positive α and β, negative α and β. In a 1P group, the voltage and its quadrature
are the positive sequence. -/
def Trk.seqs (sa sb : Sogi) (one : Bool) (a : Int) : Int × Int × Int × Int :=
  if one then (a, sa.q, 0, 0)
  else (roundDiv (sa.x - sb.q) 2, roundDiv (sa.q + sb.x) 2, roundDiv (sa.x + sb.q) 2, roundDiv (sb.x - sa.q) 2)

/-- The gains of the tracker's loop of 15 Hz (R60) for a nominal frequency in Hz: 15 Hz proportional, in pu per rad, and the integral of
critical damping, 15 Hz · (2π · 15 Hz) / 4, per nominal tick. Log 181 (DESIGN CHOICE). -/
def loopP (fB : Nat) : Int := roundDiv (15 * 2 ^ 28) fB
def loopI (fB : Nat) : Int := roundDiv (15 * piNum * 30 * 25 * 2 ^ 28) (piDen * 4 * fB * 1000000)

/-- A channel of the tracker at a tick (R60, R61): `seen` says that its samples are valid; a channel whose samples are not is invalid
and keeps its last magnitudes. Its integrators are tuned to its own frequency, in a 1P group to ω (R41).
Log 65 (DESIGN CHOICE), 151 (DESIGN CHOICE). -/
def Trk.tick (t : Trk) (fB : Nat) (w kth om : Int) (seen one : Bool) (kSogi a b : Int) : Trk :=
  if !seen then { t with th := turn t.th t.f w kth, valid := false }
  else
    let ang := tickAngle w kth (if one then om else t.f)
    let sa := t.sa.step kSogi ang a
    let sb := if one then {} else t.sb.step kSogi ang b
    let v := Trk.seqs sa sb one a
    let m := clampInt (mag v.1 v.2.1)
    let u := { t with sa := sa, sb := sb, v := m, nA := v.2.2.1, nB := v.2.2.2, vn := clampInt (mag v.2.2.1 v.2.2.2) }
    if pu ≤ 20 * m then
      let e := roundDiv (v.2.1 * cosRef t.th - v.1 * sinRef t.th) m.toNat
      let f := clampInt (t.f + roundShift (w * loopI fB * e) 56)
      { u with f := f, th := turn t.th (f + qmul (loopP fB) e) w kth, valid := true }
    else { u with th := turn t.th t.f w kth, valid := false }

/-- A value capped in magnitude. -/
def cap (l x : Int) : Int := within (-l) l x

/-- The components of a current reference that the limiter bounds (R63). -/
structure Comp where
  d : Int
  q : Int
  nA : Int
  nB : Int
  z : Int
  deriving DecidableEq, Repr

/-- The cap of the other axis: √(I_av² − x²) (R63). -/
def restOf (av x : Int) : Int := isqrt (av * av - x * x).toNat

/-- The split of the positive-sequence current (R63) by PRIO. -/
def splitPos (prio : Nat) (av d q : Int) : Int × Int :=
  if d * d + q * q ≤ av * av then (d, q)
  else match prio with
    | 0 => (cap (restOf av (cap av q)) d, cap av q)
    | 1 => (cap av d, cap (restOf av (cap av d)) q)
    | _ =>
      let m := mag d q
      if m ≤ 0 then (0, 0) else (roundDiv (d * av) m.toNat, roundDiv (q * av) m.toNat)

/-- The cap that R63 leaves for |i_d| (R72); in PROPORTIONAL, for which R63 names none, |i_d| as scaled. Log 185 (DESIGN CHOICE). -/
def capOfD (prio : Nat) (av : Int) (b : Int × Int) : Int :=
  match prio with
  | 0 => restOf av b.2
  | 1 => av
  | _ => b.1.natAbs

/-- The bounded components and the cap of |i_d| in force (R63, R72). -/
def Comp.limit (c : Comp) (prio : Nat) (lim : Int) : Comp × Int :=
  let z := cap (lim / 4) c.z
  let m := mag c.nA c.nB
  let n := if 2 * m ≤ lim then (c.nA, c.nB)
    else (roundDiv (c.nA * lim) (2 * m).toNat, roundDiv (c.nB * lim) (2 * m).toNat)
  let nm := if 2 * m ≤ lim then m else lim / 2
  let av := max 0 (lim - nm - z.natAbs)
  let b := splitPos prio av c.d c.q
  ({ d := b.1, q := b.2, nA := n.1, nB := n.2, z := z }, capOfD prio av b)

/-- The largest phase peak that components allow. -/
def Comp.peak (c : Comp) : Int := mag c.d c.q + mag c.nA c.nB + c.z.natAbs

end Sys2Proof.Machine
end

