-- ==== Sys2Proof/Machine/PulseRows.lean ====
section
/-!
DEFINITION. The commands of pulse generation and trips (R211 to R235).
-/

namespace Sys2Proof.Machine

/-- UPDATE_POINT of leg `n` (R213 to R224): the compare value loads, and the chain lays out its next window. -/
def State.legUpdate (s : State) (n : Nat) : State :=
  let c := (s.leg n).car.at s.now
  if s.pwm.running && (s.legRec n).used && c.isUpdate s.now && !s.marked n then
    (((s.mark n).loadCompare n c (c.isStart s.now)).legAt n c (c.isStart s.now)).runEdges
  else s

/-- UPDATE_POINT of carrier group `g` (R213): UPDATE triggers and the release of CYCLE latches (R229). -/
def State.groupUpdate (s : State) (g : Nat) : State :=
  if s.pwm.running && ((s.gcar g).at s.now).isUpdate s.now && !s.marked (64 + g) then
    (((s.mark (64 + g)).cycleRelease g).triggerAll 2 g)
  else s

/-- `unit` is a leg (0 to 63) or a carrier group (64 to 71). -/
def execUpdatePoint (unit : Fin 72) (s : State) : Host.Outcome State Fault Refusal :=
  .next (s.inOrder (.updatePoint unit) Instr.beforeUpdate fun t =>
    if unit.val < 64 then t.legUpdate unit else t.groupUpdate (unit.val - 64))

/-- CARRIER_ORIGIN (R212): the carriers run from the carrier origin on. -/
def execCarrierOrigin (s : State) : Host.Outcome State Fault Refusal :=
  .next (if s.pwm.origin ≠ 0 ∧ s.now = s.pwm.origin then { s with pwm := { s.pwm with running := true } } else s)

/-- The address of TRP_SW. -/
def addrTrpSw : Nat := Reg.TRP_SW_SET.addr

/-- The software sources of a write to TRP_SW, each active for this C-cycle (R225). -/
def State.softTrips (s : State) (m : Nat) : State :=
  forIdx 4 (fun j t => if bitOf m j then t.sourceLive (80 + j) true else t) s

def execSoftwareTrip (p : Port) (m : Fin 16) (s : State) : Host.Outcome State Fault Refusal :=
  .next (s.portCmd (.softwareTrip p m) p addrTrpSw fun t => t.softTrips m)

/-- TRIP_SOURCE_LATCH (R231): the condition of a source begins (and the source latches), or ends. Log 12 (DESIGN CHOICE). -/
def execTripSourceLatch (k : Fin 84) (on : Bool) (s : State) : Host.Outcome State Fault Refusal :=
  .next (s.sourceLive k on)

def execTripClear (p : Port) (k : Fin 3) (m : Word) (s : State) : Host.Outcome State Fault Refusal :=
  .next (s.portCmd (.tripClear p k m) p (Reg.TRP_CLR k).addr fun t => t.clearTrips k m.toNat)

end Sys2Proof.Machine
end

