-- ==== Sys2Proof/Machine/SurveyOps.lean ====
section
/-!
DEFINITION. What the survey (R164) works on: the drafted values, the program analysis of R102 to R106, the scale words of R188 and
the staging copies of R163.
-/

namespace Sys2Proof.Machine

/-- A survey failure: CODE, CELL, CTX and ADDR (R164). Log 24 (DEDUCED). -/
structure SurvFail where
  code : Nat
  cell : Nat := 0
  ctx : Nat := 0
  addr : Nat := 0
  deriving DecidableEq, Repr

/-- The first failure of a list of checks. -/
def firstFail (l : List (Option SurvFail)) : Option SurvFail := (l.find? Option.isSome).join

/-- The failure of a check under CODE 0x01 to 0x04 whose address is the lowest of those that fail. -/
def lowestAddr (code : Nat) (l : List (Bool × Nat)) : Option SurvFail :=
  match l.filter (·.1) with
  | [] => none
  | x :: xs => some { code := code, addr := xs.foldl (fun a y => min a y.2) x.2 }

/-- The values that a survey judges: shadows (R157), and for contexts of a staged image the CTRL words of its sheet, where no
draft differs (R139). -/
structure Surv where
  st : State
  img : Img
  staged : Bool
  swap : Bool
  deriving DecidableEq, Repr

/-- A drafted value. -/
def Surv.rd (v : Surv) (f : Fld) : Nat := v.st.shadowFld f

/-- The field of a drafted CTRL word of a context. Log 35 (DEDUCED). -/
def Surv.ctrl (v : Surv) (r : CtxRec) (f : Fld) : Nat :=
  match tabFind v.st.regs.shadow f.key with
  | some w => w
  | none => if v.staged then r.ctrl / 2 ^ f.lo % 2 ^ f.width else v.st.comFld f

/-- The update period of a carrier group as drafted (R213). -/
def Surv.tu (v : Surv) (g : Nat) : Nat :=
  let h := v.rd (Reg.PWM_CG_HALF_HALF g)
  if v.rd (Reg.PWM_CG_CFG_UPDATE g) = 1 then h else 2 * h

/-- TICK_NOM of a context as drafted (R107); 0 where none exists. -/
def Surv.tick (v : Surv) (r : CtxRec) : Nat :=
  match cfgTrig r.cfg with
  | 0 => if cfgSrc r.cfg < 8 then v.rd (Reg.GRT_TMR_PERIOD (cfgSrc r.cfg)) else 0
  | 1 => match v.img.sched.lockOf (cfgSrc r.cfg) with
    | none => 0
    | some g => v.tu g
  | 2 => if cfgSrc r.cfg < 8 then v.tu (cfgSrc r.cfg) else 0
  | _ => 0

/-- The program of a cell in an image (R141). -/
def Img.prog (i : Img) (c : Nat) : Option CellSheet := i.progs.find? fun p => p.cell == c

/-- The format map of a cell in an image (R93). -/
def Img.cfmap (i : Img) (c : Nat) : Nat := ((i.prog c).map CellSheet.cfmap).getD 0x55

/-- The input that an entry samples (R176, R184): none for a monitor. -/
def Sched.inputOf (d : Sched) (r : EntRec) : Option Nat :=
  match d.slotsOf r with
  | [] => none
  | (w, _) :: _ =>
    match slotCh w with
    | 0 => some (2 * r.conv)
    | 1 => some (2 * r.conv + 1)
    | 2 => some (64 + 2 * r.conv)
    | 3 => some (65 + 2 * r.conv)
    | _ => none

/-- The base field of an input by its KIND (R187). -/
def baseField (kind g : Nat) : Fld :=
  match kind with
  | 2 => Reg.GFM_BASE_V g
  | 3 => Reg.GFM_BASE_DC g
  | _ => Reg.GFM_BASE_I g

/-- FS / base of an input as a fraction (R187); 1 for a RAW input and while its base is 0. -/
def scaleRatio (rd : Fld → Nat) (img : Img) (i : Nat) : Nat × Nat :=
  let r := img.sched.ins.getD i {}
  let b := rd (baseField r.kind r.group) * (if r.kind = 4 then img.nPar r.group else 1)
  if r.kind = 0 ∨ b = 0 then (1, 1)
  else if i < 64 then (40000000, 2 ^ r.range * r.sens * b)
  else (100 * r.sens, 1000 * 2 ^ r.range * b)

/-- The scale word of an entry (R188). -/
def scaleWord (rd : Fld → Nat) (img : Img) (e : EntRec) : Nat :=
  let q := match img.sched.inputOf e with
    | none => (1, 1)
    | some i => scaleRatio rd img i
  (roundDiv (2 ^ 40 * 2 ^ e.shift * q.1 : Nat) ((e.nm1 + 1) * 32767 * q.2)).toNat

/-- The registers that an operation reads (R102). -/
def OpWord.reads (o : OpWord) : List Nat :=
  if [opSTS, opOUT, opNEG, opABS, opSHIFT, opWRAP, opSINCOS, opSQRT, opFLAG, opFETCH, opMULC, opMACC, opMSUC].contains o.op
  then [o.a]
  else if [opADD, opSUB, opMIN, opMAX, opLIMIT, opSEL, opDIV, opMUL, opMAC, opMSU].contains o.op then [o.a, o.b]
  else if o.op = opMAC2 then [o.a, o.a + 1, o.b, o.b + 1]
  else if o.op = opMACC2 then [o.a, o.a + 1]
  else []

/-- The registers that an operation writes (R102). -/
def OpWord.writes (o : OpWord) : List Nat :=
  if [opLDC, opLDS, opIN, opADD, opSUB, opNEG, opABS, opMIN, opMAX, opLIMIT, opSEL, opSHIFT, opRND, opWRAP, opDIV, opSQRT].contains o.op
  then [o.d]
  else if o.op = opSINCOS then [o.d, o.d + 1]
  else []

/-- The accumulators that an operation writes (R102). -/
def OpWord.accWrites (o : OpWord) : List Nat :=
  if [opCLR, opMUL, opMAC, opMSU].contains o.op then [o.imm % 2]
  else if [opMULC, opMACC, opMSUC].contains o.op then [o.d % 2]
  else if o.op = opMAC2 ∨ o.op = opMACC2 then [0, 1]
  else []

/-- The rules of one operation in its issue sequence (R102, R103, R105): `imm` carries its address step. -/
def OpWord.legal (o : OpWord) (imm : Nat) (inRep : Bool) : Bool :=
  decide (o.op ≤ opEND)
    && !((o.op == opMAC2 || o.op == opMACC2) && (o.a == 31))
    && !(o.op == opMAC2 && o.b == 31) && !(o.op == opSINCOS && o.d == 31)
    && (o.op != opMACC2 || decide (imm + 1 ≤ 1023))
    && (o.op != opIN || decide (o.imm % 64 ≤ 33)) && (o.op != opOUT || decide (o.imm % 64 ≤ 31))
    && (!([opLDC, opMULC, opMACC, opMSUC].contains o.op) || decide (imm ≤ 1023))
    && (!([opLDS, opSTS].contains o.op) || decide (imm - o.imm + o.imm % 512 ≤ 511))
    && (o.op != opFETCH || decide (imm - o.imm + o.imm % 512 + o.b ≤ 511))
    && (o.op != opREP || (!inRep && decide (o.a ≤ 7)))
    && !(inRep && (o.op == opEND || o.op == opWAITF))

/-- A walk along the issue sequence of a program (R104 to R106): issue cycle of the operation before, ready times of the registers
and of the accumulators, operations in the present bundle, fetches, state words stored, ports named. -/
structure Walk where
  pc : Nat := 0
  rep : Option RepRun := none
  t : Nat := 0
  first : Nat := 0
  regs : Tab Nat := []
  accs : Tab Nat := []
  bundle : Nat := 0
  fetches : Nat := 0
  usesDma : Bool := false
  stores : List Nat := []
  deriving DecidableEq, Repr

/-- Where a walk stands after one operation: further on, at the END, or against a rule. -/
inductive Walked | on (w : Walk) | done (w : Walk) | wrong
  deriving DecidableEq, Repr

/-- One operation of a walk (R103 to R106, R299). Log 30 (DEDUCED). -/
def Walk.step (prog : List Nat) (w : Walk) : Walked :=
  let o := decodeOp (prog.getD w.pc 0)
  let imm := stepImm o w.rep
  if 512 ≤ w.pc ∨ o.legal imm w.rep.isSome = false ∨ 8 < w.bundle + 1 then .wrong
  else
    let ready := (o.reads.map fun r => tabGet 0 w.regs r).foldl max 0
    let racc := if o.op = opRND then tabGet 0 w.accs (o.imm / 4 % 2) else 0
    let t := max (w.t + 1) (max ready racc)
    let p := nextPos o w.pc w.rep
    let bounds := p.2.2 || o.op == opWAITF
    let w' : Walk :=
      { w with pc := p.1, rep := p.2.1, t := if o.op = opWAITF then t + 1600 else t,
               regs := o.writes.foldl (fun m r => tabPut m r (t + 6)) w.regs,
               accs := o.accWrites.foldl (fun m r => tabPut m r (t + 6)) w.accs,
               bundle := if bounds then 0 else w.bundle + 1,
               fetches := if o.op = opFETCH then w.fetches + 1 else w.fetches,
               usesDma := w.usesDma || o.op == opFETCH || o.op == opWAITF,
               stores := if o.op = opSTS then (imm - o.imm + o.imm % 512) :: w.stores else w.stores }
    if 8 < w'.fetches then .wrong
    else if o.op = opEND then .done { w' with t := t } else .on w'

/-- The walk of a program to its END. -/
def Walk.run (prog : List Nat) : Nat → Walk → Option Walk
  | 0, _ => none
  | fuel + 1, w =>
    match w.step prog with
    | .wrong => none
    | .done e => some e
    | .on x => Walk.run prog fuel x

/-- The walk of a context's program from its entry point: the first operation issues in cycle 1. -/
def Img.walk (i : Img) (r : CtxRec) : Option Walk :=
  match i.prog (cfgCell r.cfg) with
  | none => none
  | some p => Walk.run p.words 1200000 { pc := cfgEntry r.cfg }

/-- WCL of a context's program (R106), without its bumpless steps. -/
def Walk.wcl (w : Walk) : Nat := w.t

/-- The initial state word that a context of the image under survey will hold (R154, R172). -/
def Surv.stWord (v : Surv) (r : CtxRec) (i : Nat) : Nat :=
  if v.staged && !(v.st.stg.active.isSome && r.carry) then v.img.initWord (cfgCell r.cfg) (i % 512)
  else (v.st.stWord (cfgCell r.cfg) i).val

/-- Whether the drafts set the effective virtual impedance of a group to RV and XV (R45, R330): they change RV, XV or RETUNE_EN, or
RETUNE_EN is 0. -/
def Surv.zSet (v : Surv) (g : Nat) : Bool :=
  v.rd (Reg.GFM_CTRL_RETUNE_EN g) == 0 ||
    [Reg.GFM_ZV_P_RV g, Reg.GFM_ZV_P_XV g, Reg.GFM_CTRL_RETUNE_EN g].any fun f => decide (v.rd f ≠ v.st.comFld f)

/-- The effective virtual impedance that the drafted fields give (R45), as words. -/
def Surv.rvEff (v : Surv) (g : Nat) : Nat :=
  let b (f : Fld) := tenThou (v.rd f)
  unsignedOf 32 (if v.zSet g then b (Reg.GFM_ZV_P_RV g)
    else within (b (Reg.GFM_RV_BOUND_RV_MIN g)) (b (Reg.GFM_RV_BOUND_RV_MAX g)) (v.st.grp g).rvEff)
def Surv.xvEff (v : Surv) (g : Nat) : Nat :=
  let b (f : Fld) := tenThou (v.rd f)
  unsignedOf 32 (if v.zSet g then b (Reg.GFM_ZV_P_XV g)
    else within (b (Reg.GFM_XV_BOUND_XV_MIN g)) (b (Reg.GFM_XV_BOUND_XV_MAX g)) (v.st.grp g).xvEff)

/-- The coefficient that a binding places (R57, R140). -/
def Surv.coef (v : Surv) (b : BindRec) : Coef :=
  let cg := ((v.img.legs.find? fun l => l.leg == b.leg).getD {}).cgrp
  coefOf v.rd b.group (v.img.nPar b.group) (v.tu cg) (v.rvEff b.group) (v.xvEff b.group) b.name

/-- The word that a binding places; 0 under the zero-base rule of R57. -/
def Surv.bound (v : Surv) (b : BindRec) : Nat := if coefUnset v.rd b.group b.name then 0 else (v.coef b).word

/-- The words of sheets as cell memory: `size` words a cell. -/
def loadSheets (size : Nat) (l : List CellSheet) : Tab MWord :=
  l.foldl (fun m p => ((List.range p.words.length).zip p.words).foldl
    (fun m x => tabSet {} m (p.cell * size + x.1) { val := x.2 }) m) []

/-- The cell and word of an address in coefficient memory (R92). -/
def coefCell (a : Nat) : Nat := (a - 0x100000) / 0x8000
def coefIndex (a : Nat) : Nat := (a - 0x100000) % 0x8000 / 4

/-- The staging copy of coefficient memory that a survey builds (R163). -/
def Surv.coefCopy (v : Surv) : Tab MWord :=
  let m0 := if v.staged then loadSheets 1024 v.img.coefs else v.st.eng.coef
  let m1 := v.st.stg.cdraft.foldl (fun m e => tabSet {} m (coefCell e.1 * 1024 + coefIndex e.1) { val := e.2 }) m0
  v.img.binds.foldl (fun m b => tabSet {} m (b.cell * 1024 + b.word) { val := v.bound b }) m1

/-- The staging copy of bundle memory that a survey builds (R163). -/
def Surv.bunCopy (v : Surv) : Tab MWord := if v.staged then loadSheets 512 v.img.progs else v.st.eng.bun

/-- N, and the words of pair `p`, of a context's bumpless table (R172). -/
def Surv.bumpN (v : Surv) (r : CtxRec) : Nat := v.stWord r r.stateBase % 16
def Surv.bumpW1 (v : Surv) (r : CtxRec) (p : Nat) : Nat := v.stWord r (r.stateBase + 1 + 2 * p)
def Surv.bumpW2 (v : Surv) (r : CtxRec) (p : Nat) : Nat := v.stWord r (r.stateBase + 2 + 2 * p)

/-- Whether a context of the image under survey has BUMPLESS = 1. -/
def Surv.bumpless (v : Surv) (r : CtxRec) : Bool := v.ctrl r (Reg.GRT_CTX_CTRL_BUMPLESS r.ctx) == 1

/-- WCL of a context with its bumpless steps (R106, R172). -/
def Surv.wcl (v : Surv) (r : CtxRec) : Nat :=
  ((v.img.walk r).map Walk.wcl).getD 0 + (if v.bumpless r then 4 * v.bumpN r else 0)

/-- The pairs whose gain word the commit changes (R173). -/
def Surv.pairs (v : Surv) : List BumpPair :=
  let m := v.coefCopy
  (v.img.ctxs.filter fun r => v.bumpless r && (!v.staged || r.carry)).flatMap fun r =>
    (List.range (v.bumpN r)).filterMap fun p =>
      let w1 := v.bumpW1 r p
      let w2 := v.bumpW2 r p
      let k := cfgCell r.cfg * 1024 + w1 % 1024
      if (tabGet {} v.st.eng.coef k).val = (tabGet {} m k).val then none
      else some { ctx := r.ctx, gOld := (tabGet {} v.st.eng.coef k).val, gain := w1 % 1024, integ := w1 / 2 ^ 10 % 512,
                  err := w1 / 2 ^ 19 % 512, limit := w2 % 1024, noLim := bitOf w2 10 }

end Sys2Proof.Machine
end

