-- ==== Sys2Proof/Machine/SurveyFields.lean ====
section
/-!
DEFINITION. The checks of the survey over drafted fields and drafted coefficient words: CODE 0x01 to 0x05 (R164).
-/

namespace Sys2Proof.Machine

/-- The rows of stage D that a key names. -/
def dRowOf (k : Nat) : Option Row :=
  (rowsAt (k / 32 * 4)).find? fun r => r.lo == k % 32 && match r.stage with
    | .d _ => true
    | .i => false

/-- The keys that hold a value other than their reset value, or a draft. Reset values lie in their ranges. -/
def Surv.keys (v : Surv) : List Nat :=
  v.st.regs.shadow.map (·.1) ++ v.st.regs.com.map (·.1) ++ v.st.regs.eff.map (·.1)

/-- The drafted value under a key. -/
def Surv.rdKey (v : Surv) (k : Nat) : Nat := v.rd ⟨k / 32 * 4, k % 32, 32⟩

/-- D fields outside their stated range (CODE 0x01), or holding a reserved encoding (CODE 0x02). -/
def Surv.ranges (v : Surv) (reserved : Bool) : Option SurvFail :=
  lowestAddr (if reserved then 0x02 else 0x01) (v.keys.map fun k =>
    (match dRowOf k with
      | none => false
      | some r => match r.range with
        | .any => false
        | .upTo _ _ _ | .steps _ _ _ => !reserved && !r.range.admits (v.rdKey k)
        | .codes _ _ => reserved && !r.range.admits (v.rdKey k), k / 32 * 4))

/-- Events 5 to 31 of a sequencer's condition EVENT are reserved (R320). -/
def Surv.events (v : Surv) : Option SurvFail :=
  lowestAddr 0x02 ((List.range 16).map fun i =>
    (v.rd (Reg.CTR_SEQ_COND_COND (i / 4) (i % 4)) == 6 && decide (5 ≤ v.rd (Reg.CTR_SEQ_COND_PROBE (i / 4) (i % 4))),
     (Reg.CTR_SEQ_COND_COND (i / 4) (i % 4)).addr))

/-- Whether there is an image to judge. -/
def Surv.any (v : Surv) : Bool := v.staged || v.st.stg.active.isSome

/-- The group type that the image under survey gives a group: 3, DC, where it gives none (R34). -/
def Surv.typ (v : Surv) (g : Nat) : Nat := ((v.img.groups.find? fun r => r.group == g).map GroupRec.typ).getD 3

/-- The group record of the image under survey. -/
def Surv.grec (v : Surv) (g : Nat) : GroupRec := (v.img.groups.find? fun r => r.group == g).getD {}

/-- Whether a frequency in half hertz lies within 10 Hz of a harmonic 1 to 50 of 50 or 60 Hz (R326, R332). -/
def nearHarmonic (f2 fb : Nat) : Bool :=
  anyIdx 50 fun h => decide (f2 ≤ 2 * (h + 1) * fb + 20) && decide (2 * (h + 1) * fb ≤ f2 + 20)

/-- The disagreements of a group's fields (R45, R47, R62, R64, R67, R78, R80, R325, R326, R332, R338, R397); the schedules that BRK.SRC = 1
needs are judged where an image is staged or active. Log 24 (DEDUCED), 189 (DEDUCED). -/
def Surv.groupFields (v : Surv) (g : Nat) : List (Bool × Nat) :=
  let above (a b : Fld) := (decide (v.rd b < v.rd a), a.addr)
  let outside (x lo hi : Fld) := (decide (v.rd x < v.rd lo) || decide (v.rd hi < v.rd x), hi.addr)
  let harm := v.rd (Reg.GFM_HARM_LO_ORD g) + 2 ^ 32 * v.rd (Reg.GFM_HARM_HI_ORD g)
  let orders := (List.range 48).filter (bitOf harm)
  let r := v.grec g
  let noIo := r.ioA == 0xFFFF && r.ioB == 0xFFFF && r.ioC == 0xFFFF
  let noVg := r.vgA == 0xFFFF && r.vgB == 0xFFFF && r.vgC == 0xFFFF
  let fb := fNom v.rd g
  let tones := (List.range 6).filter fun k => v.rd (Reg.SND_G_TONE_AMP g k) != 0
  let freq (k : Nat) := v.rd (Reg.SND_G_TONE_FREQ g k)
  let node := v.rd (Reg.BRG_G_CFG_EN g) == 1
  let tone (f : Fld) := 25 * v.rd f
  let routed := v.img.routes.any fun x => x.dstKind != 3 && x.srcKind == 2 &&
    (x.regAddr / 4 * 4 == (Reg.SND_G_INJ_A g).addr || x.regAddr / 4 * 4 == (Reg.SND_G_INJ_B g).addr)
  [
    (decide (v.rd (Reg.GFM_FLIM_FMAX g) ≤ v.rd (Reg.GFM_FLIM_FMIN g)), (Reg.GFM_FLIM_FMIN g).addr),
    (decide (v.rd (Reg.GFM_ELIM_EMAX g) < v.rd (Reg.GFM_ELIM_EMIN g)), (Reg.GFM_ELIM_EMIN g).addr),
    above (Reg.GFM_XV_BOUND_XV_MIN g) (Reg.GFM_XV_BOUND_XV_MAX g),
    above (Reg.GFM_RV_BOUND_RV_MIN g) (Reg.GFM_RV_BOUND_RV_MAX g),
    outside (Reg.GFM_ZV_P_XV g) (Reg.GFM_XV_BOUND_XV_MIN g) (Reg.GFM_XV_BOUND_XV_MAX g),
    outside (Reg.GFM_ZV_P_RV g) (Reg.GFM_RV_BOUND_RV_MIN g) (Reg.GFM_RV_BOUND_RV_MAX g),
    (decide (16 < orders.length) || (orders.any fun k => decide (2500 < (k + 2) * fb))
      || (decide (harm ≠ 0) && v.any && v.typ g == 3), (Reg.GFM_HARM_HI_ORD g).addr),
    (v.typ g == 2 && v.rd (Reg.GFM_CFG_NEGSEQ g) != 0, (Reg.GFM_CFG_NEGSEQ g).addr),
    above (Reg.GFM_ILIM_ICONT g) (Reg.GFM_ILIM_IST g),
    (decide (v.rd (Reg.GFM_FRT_V_VOUT g) ≤ v.rd (Reg.GFM_FRT_V_VIN g)), (Reg.GFM_FRT_V_VIN g).addr),
    (v.any && noVg && v.rd (Reg.GFM_SYNC_CTRL_AUTO g) == 1, (Reg.GFM_SYNC_CTRL_AUTO g).addr),
    above (Reg.GFM_GRID_VWIN_VG_MIN g) (Reg.GFM_GRID_VWIN_VG_MAX g),
    above (Reg.GFM_GRID_FWIN_FG_MIN g) (Reg.GFM_GRID_FWIN_FG_MAX g),
    (v.any && v.rd (Reg.GFM_BRK_SRC g) == 1 &&
      !(v.img.sched.ents.any fun e => v.img.sched.inputOf e == some (64 + v.rd (Reg.GFM_BRK_EXT_IN g))),
     (Reg.GFM_BRK_SRC g).addr),
    (v.rd (Reg.SND_G_CFG_EN g) == 1 && v.any && (!routed || v.typ g == 3 || noIo), (Reg.SND_G_CFG_EN g).addr),
    (v.rd (Reg.SND_G_CFG_EN g) == 1 && decide (tones.length < 3), (Reg.SND_G_TONE_AMP g 5).addr),
    (decide (200 < (tones.map fun k => v.rd (Reg.SND_G_TONE_AMP g k)).sum), (Reg.SND_G_TONE_AMP g (tones.getLastD 0)).addr),
    (tones.any fun k => [Reg.BRG_CFG_F0, Reg.BRG_CFG_F1].any fun f =>
      decide (2 * freq k ≤ tone f + 20) && decide (tone f ≤ 2 * freq k + 20), Reg.BRG_CFG_F0.addr),
    (node && (nearHarmonic (tone Reg.BRG_CFG_F0) fb || nearHarmonic (tone Reg.BRG_CFG_F1) fb), Reg.BRG_CFG_F0.addr),
    (v.rd (Reg.BRG_G_CFG_LEADER g) == 1 && (v.rd (Reg.GFM_CTRL_SEC_SRC g) != 1
        || v.rd (Reg.BRG_G_CFG_SEC_FROM g) != v.rd (Reg.BRG_G_CFG_ADDR g)), (Reg.BRG_G_CFG_LEADER g).addr),
    (v.rd (Reg.BRG_G_CFG_LEADER g) == 1 && v.rd (Reg.BRG_G_LEAD_KV g) != 0 &&
      decide (v.rd (Reg.BRG_G_LEAD_LPERIOD g) < 20), (Reg.BRG_G_LEAD_KV g).addr),
    (v.any && bitOf (v.rd Reg.SEC_TALLY_CFG_EN) g && (v.typ g == 3 || noIo), Reg.SEC_TALLY_CFG_EN.addr)]
  ++ tones.map fun k => (nearHarmonic (2 * freq k) fb || tones.any fun j => decide (j < k) && freq j == freq k,
      (Reg.SND_G_TONE_FREQ g k).addr)

/-- The disagreements of a carrier group's fields (R211, R213, R219, R224). Log 24 (DEDUCED). -/
def Surv.carrierFields (v : Surv) (g : Nat) : List (Bool × Nat) :=
  let half := v.rd (Reg.PWM_CG_HALF_HALF g)
  [(v.rd (Reg.PWM_CG_CFG_UPDATE g) == 1 && v.rd (Reg.PWM_CG_CFG_SHAPE g) == 1, (Reg.PWM_CG_CFG_UPDATE g).addr),
   (decide (2 * half - 1 < v.rd (Reg.PWM_CG_PHASE_PHASE g)), (Reg.PWM_CG_PHASE_PHASE g).addr),
   (decide (64 * half < 2 * (v.rd (Reg.PWM_CG_MINP_MINP g) + v.rd (Reg.PWM_CG_DT_DT_H g) + v.rd (Reg.PWM_CG_DT_DT_L g))),
    (Reg.PWM_CG_MINP_MINP g).addr),
   (decide (4000000 < v.rd (Reg.PWM_CG_REF_REF_K g) * 2 * half), (Reg.PWM_CG_REF_REF_K g).addr)]

/-- The disagreements of a leg's fields (R214, R249). -/
def Surv.legFields (v : Surv) (n : Nat) : List (Bool × Nat) :=
  let cg := ((v.img.legs.find? fun l => l.leg == n).getD {}).cgrp
  let str := v.rd (Reg.DRV_LEG_STR n)
  let lo := v.rd (Reg.DRV_LEG_STR_SMIN n)
  let hi := v.rd (Reg.DRV_LEG_STR_SMAX n)
  let inside (k : Nat) := decide (lo ≤ str / 16 ^ k % 16) && decide (str / 16 ^ k % 16 ≤ hi)
  [(decide (2 * v.rd (Reg.PWM_CG_HALF_HALF cg) - 1 < v.rd (Reg.PWM_LEG_CTRL_SHIFT n)), (Reg.PWM_LEG_CTRL_SHIFT n).addr),
   (decide (hi < lo) || (v.rd (Reg.DRV_LEG_CFG_ADAPT_EN n) == 1 && !allIdx 4 inside), (Reg.DRV_LEG_STR n).addr),
   (decide (v.rd (Reg.DRV_LEG_EDGE_VHI n) < v.rd (Reg.DRV_LEG_EDGE_VLO n) + 4), (Reg.DRV_LEG_EDGE_VHI n).addr)]

/-- The regular and injected sequences of a converter against T_u,min (R181, R183), in units of 0.01 ns. Log 24 (DEDUCED). -/
def Surv.convFields (v : Surv) (c : Nat) : List (Bool × Nat) :=
  let r := v.img.sched.convs.getD c {}
  let tu := v.tu r.lockCgrp
  let tmin := tu * 250 * (9998 - (if v.rd Reg.CLK_SPREAD_EN = 1 then 10 * v.rd Reg.CLK_SPREAD_DEPTH else 0))
  let bad := (decide (r.slotCnt ≠ 0) && decide (tmin < (20000 * r.slotCnt + 1875) * 10000)) || decide (tu ≤ r.offset)
    || (decide (r.injCnt ≠ 0) && decide (tmin < (20000 * (r.slotCnt + r.injCnt) + 3750) * 10000))
  [(bad, (Reg.PWM_CG_HALF_HALF r.lockCgrp).addr)]

/-- The full scale of an input against its base (R188). Log 24 (DEDUCED). -/
def Surv.inputFields (v : Surv) (e : EntRec) : List (Bool × Nat) :=
  match v.img.sched.inputOf e with
  | none => []
  | some i =>
    let r := v.img.sched.ins.getD i {}
    let q := scaleRatio v.rd v.img i
    [(decide (8 * q.2 < q.1), (baseField r.kind r.group).addr)]

/-- The kind that the DMA sheet of the image under survey gives a channel (R308). -/
def Surv.kindOf (v : Surv) (c : Nat) : Nat := wordAt v.img.dma (4 + 4 * c) % 4

/-- The probes and recorders of Contour, the trace and the crossing channel (R314, R322, R126, R295). Log 99 (DEDUCED). -/
def Surv.contourFields (v : Surv) : List (Bool × Nat) :=
  let known (p : Nat) :=
    let id := v.rd (Reg.CTR_PROBE_ID p)
    if v.rd (Reg.CTR_PROBE_KIND p) = 0 then v.img.sched.ents.any fun e => e.entry == id
    else v.img.ctxs.any fun r => r.ctx == id
  let en (p : Nat) := v.rd (Reg.CTR_PROBE_EN p) == 1
  let kinds (p : Nat) := v.rd (Reg.CTR_PROBE_ENV p) == 1 || v.rd (Reg.CTR_PROBE_XING p) == 1
  let xch := v.rd Reg.CTR_CTRL_XCH
  let trace := v.rd Reg.GRT_TRACE_CFG_DMA_CH
  let recCh (r : Nat) := v.rd (Reg.CTR_REC_CFG_DMA_CH r)
  let used (r : Nat) := v.rd (Reg.CTR_REC_PROBES r) != 0
  let xUsed := anyIdx 32 fun p => en p && kinds p
  let tUsed := v.st.on Reg.GRT_TRACE_CFG_EN
  let alone (r : Nat) := (allIdx 4 fun q => decide (r ≤ q) || !used q || recCh q != recCh r) && !(xUsed && xch == recCh r)
    && !(tUsed && trace == recCh r) && !(v.img.sched.ents.any fun e => e.stream && e.dmaCh == recCh r)
  ((List.range 32).map fun p => ((en p && !known p) || (v.rd (Reg.CTR_PROBE_KIND p) == 1 && decide (127 < v.rd (Reg.CTR_PROBE_ID p))),
      (Reg.CTR_PROBE_ID p).addr))
    ++ ((List.range 4).map fun r => (used r && (v.kindOf (recCh r) != kSTREAM
        || v.rd (Reg.DMA_CH_CTRL_MODE (recCh r)) != 1 || !alone r), (Reg.CTR_REC_CFG_DMA_CH r).addr))
    ++ [(xUsed && v.kindOf xch != kSTREAM, Reg.CTR_CTRL_XCH.addr),
        (tUsed && v.kindOf trace != kSTREAM, Reg.GRT_TRACE_CFG_DMA_CH.addr)]

/-- The disagreements outside groups and legs (R262, R264, R332, R400). -/
def Surv.plainFields (v : Surv) : List (Bool × Nat) :=
  let f0 := v.rd Reg.BRG_CFG_F0
  let f1 := v.rd Reg.BRG_CFG_F1
  let base := v.rd Reg.SEC_TALLY_BASE
  let rgns := if v.any then (List.range 32).map (regionOf v.img.dma 15) else v.st.regions 15
  let inRegion := rgns.any fun x => bitOf x.flags 0 && bitOf x.flags 2 && decide (x.vbase ≤ base) && decide (base + 0x100000 ≤ x.vend)
  [(v.rd Reg.CLK_M_CFG_M_SRC == 1 && v.rd Reg.CLK_SPREAD_EN == 1, Reg.CLK_M_CFG_M_SRC.addr),
   (v.rd Reg.CLK_REF_CFG_FALLBACK == 1 && !v.st.clk.xtal, Reg.CLK_REF_CFG_FALLBACK.addr),
   (decide (f0 < f1 + 2) && decide (f1 < f0 + 2), Reg.BRG_CFG_F0.addr),
   (base % 0x100000 != 0 || !inRegion, Reg.SEC_TALLY_BASE.addr)]

/-- Fields that disagree with each other (CODE 0x03). -/
def Surv.disagree (v : Surv) : Option SurvFail :=
  lowestAddr 0x03 ((List.range 8).flatMap v.groupFields ++ (List.range 8).flatMap v.carrierFields
    ++ (List.range 64).flatMap v.legFields ++ (List.range 32).flatMap v.convFields
    ++ v.img.sched.ents.flatMap v.inputFields ++ (if v.any then v.contourFields else []) ++ v.plainFields)

/-- The fields that may not change while a group's EN is 1 (R52). -/
def heldFields (g : Nat) : List Fld :=
  [Reg.GFM_BASE_V g, Reg.GFM_BASE_I g, Reg.GFM_BASE_DC g, Reg.GFM_CFG_FNOM g, Reg.GFM_LF_LF g, Reg.GFM_CF_CF g]

/-- Whether a leg switches, or has been off for less than a carrier period of its group (R30). -/
def State.legSwitches (s : State) (n : Nat) : Bool :=
  let r := s.leg n
  s.fld (Reg.PWM_LEG_STATUS_STATE n) != legOFF || r.hiCmd || r.loCmd
    || (decide (max r.hiOff32 r.loOff32 ≠ 0) && decide (s.now < max r.hiOff32 r.loOff32 / 32 + 2 * s.fld (Reg.PWM_CG_HALF_HALF (s.legCg n))))

/-- The record that an image gives a leg. -/
def Img.legOf (i : Img) (n : Nat) : LegRec := (i.legs.find? fun l => l.leg == n).getD {}

/-- Whether a swap to an image would change the mode of a switching leg (R30). Log 18 (DEDUCED). -/
def State.modeChange (s : State) (i : Img) (n : Nat) : Bool :=
  s.legSwitches n && (i.legOf n).used && (s.legRec n).logic != (i.legOf n).logic

/-- Fields that may not change now (CODE 0x04). Log 18 (DEDUCED). -/
def Surv.frozen (v : Surv) : Option SurvFail :=
  lowestAddr 0x04 (((List.range 8).flatMap fun g => (heldFields g).map fun f =>
      (v.st.on (Reg.GFM_CTRL_EN g) && decide (v.rd f ≠ v.st.comFld f), f.addr))
    ++ (List.range 64).map fun n => (v.swap && v.st.modeChange v.img n, (Reg.PWM_LEG_STATUS_STATE n).addr))

/-- Whether an address names a word of coefficient memory (R92). -/
def isCoefAddr (a : Nat) : Bool :=
  decide (0x100000 ≤ a) && decide (a < 0x200000) && decide ((a - 0x100000) % 0x8000 < 0x1000) && a % 4 == 0

/-- Drafted coefficient words outside coefficient memory, or on bound words (CODE 0x05). -/
def Surv.words (v : Surv) : Option SurvFail :=
  (v.st.stg.cdraft.find? fun e => !isCoefAddr e.1 ||
    v.img.binds.any fun b => b.cell == coefCell e.1 && b.word == coefIndex e.1).map fun e =>
      { code := 0x05, addr := e.1 }

end Sys2Proof.Machine
end

