-- ==== Sys2Proof/Machine/CommitFollow.lean ====
section
/-!
DEFINITION. What follows when committed fields come into effect: spreading and the reference (R261, R267, R269), the host-silence
timer (R414), the generators (R325, R327), the nodes (R337, R338), the role of a module that is no longer paired (R343), and the twin's
digests (R351). -/

namespace Sys2Proof.Machine

/-- The host-silence timer begins to run, or stops, as SIL_MS comes into effect while armed (R414). -/
def State.followSilence (t s : State) : State :=
  let a := s.fld Reg.SYS_HOST_CFG_SIL_MS
  let b := t.fld Reg.SYS_HOST_CFG_SIL_MS
  if b = 0 then { t with host := { t.host with silFrom := none } }
  else if a = 0 ∧ t.armed = true then { t with host := { t.host with silFrom := some t.now } }
  else t

/-- The generators take EN (R325, R327): as EN comes to 1, a delay is drawn; how long the group has been in ISLAND or CONNECTED counts
from before. -/
def State.followSounding (t : State) : State :=
  forIdx 8 (fun g u =>
    let en := u.on (Reg.SND_G_CFG_EN g)
    let v := if en && (u.gen g).enAt.isNone then
        let d := u.drawDelay g
        d.2.setGen g { d.2.gen g with enAt := some u.now, delay := d.1 }
      else if !en && (u.gen g).enAt.isSome then u.setGen g { u.gen g with enAt := none }
      else u
    if (v.genState g = gIDLE ∧ en = true) ∨ (v.genState g = gWAIT ∧ en = false) then v.genRest g else v) t

/-- The nodes count their periods from the commit that starts or changes them (R337, R338). Log 168 (DEDUCED). -/
def State.followNodes (t s : State) : State :=
  forIdx 8 (fun g u =>
    let rose (f : State → Bool) := f t && !f s
    let moved (f : Fld) := decide (s.fld f ≠ t.fld f)
    let v := if rose (fun x => x.on (Reg.BRG_G_CFG_EN g)) || moved (Reg.BRG_G_STATE_PER g) then
      u.setNode g { u.node g with stateFrom := u.now } else u
    if rose (fun x => x.on (Reg.BRG_G_CFG_EN g) && x.on (Reg.BRG_G_CFG_LEADER g)) || moved (Reg.BRG_G_LEAD_LPERIOD g) then
      v.setNode g { v.node g with leadFrom := v.now, sumF := 0, sumV := 0, cnt := 0, bad := false } else v) t

/-- Whether a commit from the state `s` to `t` takes a draft of a register: its words stood in the shadow bank, and stand there no
longer. -/
def State.took (t s : State) (a : Nat) : Bool :=
  s.regs.shadow.any fun e => keyAddr e.1 == a && (tabFind t.regs.shadow e.1).isNone

/-- The references after a commit (R261, R262, R264): a change of source or frequency, or a commit of CLK_REF_CFG that names REFIN while the
PLLs have fallen back on the crystal; and PLL-M's own. -/
def State.followRef (t s : State) : State :=
  let moved (f : Fld) := decide (s.fld f ≠ t.fld f)
  let named := t.on Reg.CLK_REF_CFG_SRC && !t.on Reg.CLK_STATUS_REF_ACT && t.took s Reg.CLK_REF_CFG_SRC.addr
  let all := moved Reg.CLK_REF_CFG_SRC || (t.on Reg.CLK_REF_CFG_SRC && moved Reg.CLK_REF_CFG_FREQ_KHZ) || named
  let u := if t.clk.locked && all then t.moveRef else t
  if t.clk.locked && moved Reg.CLK_M_CFG_M_SRC && (!all || t.on Reg.CLK_M_CFG_M_SRC) then u.moveM else u

/-- Spreading, the reference and the seeds of the dither (R261, R264, R267, R269). -/
def State.followClocks (t s : State) : State :=
  let u := t.followRef s
  let v := if !s.on Reg.CLK_SPREAD_EN && u.on Reg.CLK_SPREAD_EN && t.on Reg.CLK_STATUS_LOCK_C then u.startProfile u.now else u
  forIdx 3 (fun p w =>
    if decide (s.fld (Reg.CLK_DITHER_SEED p) ≠ t.fld (Reg.CLK_DITHER_SEED p)) && w.fld (Reg.CLK_PLL_STATUS_STATE p) != 3 then w.loadSeed p
    else w) v

/-- A module that is no longer paired is SOLO (R343), unless it has stood down. -/
def State.followPair (t s : State) : State :=
  if s.on Reg.TWN_CTRL_PAIR_EN ∧ t.on Reg.TWN_CTRL_PAIR_EN = false ∧ t.role ≠ roleLOST then
    let u := forIdx 64 (fun n u => u.driveLeg n) t
    { u.setFld Reg.TWN_STATUS_ROLE roleSOLO with twn := { u.twn with driving := false, waitFrom := none, settling := false } }
  else t

/-- What follows from the fields that have come into effect since the state `s`. -/
def State.followCommit (t s : State) : State := ((((t.followClocks s).followSilence s).followSounding).followNodes s).followPair s

/-- Bytes of a region with those of a sheet type replaced by zeros. -/
def blankSheet (b : List Nat) (typ : Nat) : List Nat :=
  let cnt := leAt b 0x1E 2
  (List.range cnt).foldl (fun l k =>
    let i := 64 + 16 * k
    if leAt b i 1 = typ then
      let o := leAt b (i + 4) 4
      let n := leAt b (i + 8) 4
      l.take o ++ List.replicate n 0 ++ l.drop (o + n)
    else l) b

/-- The structure digest (R351): SHA-256 of the signed region of the active image without its SAFETY and NOTES sheets, its first
8 bytes. Log 140 (DESIGN CHOICE). -/
def State.structDigest (s : State) : Nat :=
  let base := 0x100000 * s.imageSlot
  let n := leWord ((List.range 4).map fun i => s.dram (base + 0x0C + i))
  let b := (List.range n).map fun i => s.dram (base + i)
  Config.sha256 (blankSheet (blankSheet b 0x0A) 0x0C) % 2 ^ 64

/-- The configuration digest (R351): SHA-256 of the D fields in effect and of the coefficient memories, its first 8 bytes.
Log 140 (DESIGN CHOICE). -/
def State.confDigest (s : State) : Nat :=
  let d := (s.regs.eff.filter fun e => (dRowOf e.1).isSome).map fun e => [e.1, e.2]
  let c := s.eng.coef.map fun e => [e.1, e.2.val]
  Config.sha256 ((d ++ c).flatten) % 2 ^ 64

/-- The housekeeping core recomputes both digests of a paired module (R351). Log 140 (DESIGN CHOICE). -/
def State.takeDigests (s : State) : State :=
  if s.on Reg.TWN_CTRL_PAIR_EN then
    { s with twn := { s.twn with digStruct := s.structDigest, digConf := s.confDigest, digLeft := some s.regs.com.length } }
  else s

/-- A committed value has taken effect since the digests were formed (R167, R351): they are formed again. -/
def State.noteDigests (s : State) : State := if s.twn.digLeft = some s.regs.com.length then s else s.takeDigests

end Sys2Proof.Machine
end

