-- ==== Sys2Proof/Machine/GridTick.lean ====
section
/-!
DEFINITION. One rotor tick of a group (R38 to R50, R60 to R76, R80 to R86): inputs, trackers, governors, rotor, voltage reference,
limiter and mode checks, in this order.
-/

namespace Sys2Proof.Machine

/-- The nominal duration of the rotor tick in C-cycles: T_N = 25 µs (R38). -/
def rotorNom : Nat := 10000

/-- One tick at weight 1.0, in the units of a group's times. Log 66 (DESIGN CHOICE). -/
def tickUnit : Nat := 0x10000000

/-- A number of milliseconds in the units of a group's times. Log 66 (DESIGN CHOICE). -/
def msTicks (ms : Nat) : Nat := ms * 40 * tickUnit

/-- The word of a schedule entry as the group sheet names it; `navN` before its first result, 0 for 0xFFFF. -/
def State.entryWord (s : State) (e : Nat) : Nat := if e = 0xFFFF then 0 else tabGet navN s.adc.entryVal e

/-- What a tick reads. -/
structure TickIn where
  w : Int
  kth : Int
  one : Bool
  vOk : Bool
  vA : Int
  vB : Int
  vC : Int
  vAl : Int
  vBe : Int
  iOk : Bool
  iAl : Int
  iBe : Int
  iZ : Int
  gSet : Bool
  gOk : Bool
  gAl : Int
  gBe : Int
  sogV : Sogi
  sogI : Sogi
  deriving DecidableEq, Repr

/-- The tick weight of a group's tick (R122). -/
def State.tickW (s : State) (g : Nat) : Int :=
  match (s.grp g).tickReal with
  | none => pu
  | some p => wInt (tickWeight s.eng.real p rotorNom).1

/-- The voltage of a 1P group that two entries give (R455): their difference, or the first where the second is not there. -/
def State.pairVolts (s : State) (a b : Nat) : Int := wInt (s.entryWord a) - wInt (s.entryWord b)

/-- The capacitor current of an axis (R41): C_f times the change of its voltage since the tick before, in pu of I_B; 0 where no valid
voltage came before. Log 65 (DESIGN CHOICE). -/
def State.capCurrent (s : State) (g : Nat) (w now : Int) (before : Option Int) : Int :=
  match before with
  | none => 0
  | some x =>
    let d := 2500 * s.fld (Reg.GFM_BASE_I g) * s.nPar g * w.toNat
    if d = 0 then 0 else roundDiv ((now - x) * s.fld (Reg.GFM_CF_CF g) * s.fld (Reg.GFM_BASE_V g) * 2 ^ 28) d

/-- The output current of an axis that a group without sensed current takes (R41): the inverter current less the capacitor current. -/
def State.ioEst (s : State) (g : Nat) (w : Int) (inv vc : Word) (before : Option Int) : Int :=
  clampInt (inv.toInt - s.capCurrent g w vc.toInt before)

/-- The inputs of a tick (R41, R60, R62, R455). In a 1P group the quadrature signals are those of integrators tuned to ω. -/
def State.tickIn (s : State) (g : Nat) (r : GroupRec) (m : TickMeas) : TickIn :=
  let one := r.typ == 2
  let ok (l : List Nat) := l.all fun e => !isNav (s.entryWord e)
  let x (e : Nat) := wInt (s.entryWord e)
  let w := s.tickW g
  let kth := s.coef g 0x05
  let ang := tickAngle w kth (s.grp g).omega
  let vA := if one then s.pairVolts r.vtA r.vtB else x r.vtA
  let sensed := r.ioA != 0xFFFF
  let vOk := ok [r.vtA, r.vtB, r.vtC]
  let was := (s.grp g).vcLast
  let iOk := if sensed then ok [r.ioA, r.ioB, r.ioC] else !([m.iInvA, m.iInvB, m.iInv0, m.vcA, m.vcB, m.vc0].contains nav)
  let iAl := if !sensed then s.ioEst g w m.iInvA m.vcA (was.map fun v => v.1)
    else if one then x r.ioA else clarkeA (x r.ioA) (x r.ioB) (x r.ioC)
  let sv := if one && vOk then (s.grp g).sogV.step m.kSogi.toInt ang vA else (s.grp g).sogV
  let si := if one && iOk then (s.grp g).sogI.step m.kSogi.toInt ang iAl else (s.grp g).sogI
  { w := w, kth := kth, one := one, vOk := vOk, vA := vA, vB := x r.vtB, vC := x r.vtC,
    vAl := if one then vA else clarkeA vA (x r.vtB) (x r.vtC), vBe := if one then sv.q else clarkeB (x r.vtB) (x r.vtC),
    iOk := iOk, iAl := iAl,
    iBe := if one then si.q else if !sensed then s.ioEst g w m.iInvB m.vcB (was.map fun v => v.2.1) else clarkeB (x r.ioB) (x r.ioC),
    iZ := if one then 0 else if !sensed then s.ioEst g w m.iInv0 m.vc0 (was.map fun v => v.2.2) else roundDiv (x r.ioA + x r.ioB + x r.ioC) 3,
    gSet := [r.vgA, r.vgB, r.vgC].any (· != 0xFFFF), gOk := ok [r.vgA, r.vgB, r.vgC],
    gAl := if one then s.pairVolts r.vgA r.vgB else clarkeA (x r.vgA) (x r.vgB) (x r.vgC),
    gBe := if one then 0 else clarkeB (x r.vgB) (x r.vgC), sogV := sv, sogI := si }

/-- Nominal frequency of a group in Hz. -/
def State.fB (s : State) (g : Nat) : Nat := fNom s.fld g

/-- A frequency limit in 0.01 Hz as a pu value (R56). -/
def State.centiHz (s : State) (g n : Nat) : Int := roundDiv (n * pu) (100 * s.fB g)

/-- The trackers of a group (R60, R61, R62): their state, valid bits and registers; the capacitor voltage is kept for the next tick
(R41). -/
def State.track (s : State) (g : Nat) (i : TickIn) (m : TickMeas) : State :=
  let r := s.grp g
  let k := m.kSogi.toInt
  let t := r.trkT.tick (s.fB g) i.w i.kth r.omega i.vOk i.one k i.vAl i.vBe
  let c := r.trkG.tick (s.fB g) i.w i.kth r.omega (i.gSet && i.gOk) i.one k i.gAl i.gBe
  let vc := if [m.vcA, m.vcB, m.vc0].contains nav then none else some (m.vcA.toInt, m.vcB.toInt, m.vc0.toInt)
  let s1 := s.setGrp g { r with trkT := t, trkG := c, sogV := i.sogV, sogI := i.sogI, vcLast := vc }
  let s2 := (s1.setFld (Reg.GFM_EVT_STATUS_TRK_T g) (asNat t.valid)).setFld (Reg.GFM_EVT_STATUS_TRK_G g) (asNat c.valid)
  (((s2.setSfld (Reg.GFM_TRK_T_F g) t.f).setSfld (Reg.GFM_TRK_T_V g) t.v).setSfld (Reg.GFM_TRK_G_F g) c.f).setSfld
    (Reg.GFM_TRK_G_V g) c.v

/-- The DC bus of a group as its entry gives it (R66, R90): while the group runs, since when it is low. While the entry is not
available, the count of a low bus runs on; the bus of a group whose entry is 0xFFFF is 0. Log 152 (DESIGN CHOICE), 184 (DESIGN CHOICE). -/
def State.busTick (s : State) (g : Nat) (r : GroupRec) : State :=
  let v := s.entryWord r.vdc
  if s.on (Reg.GFM_STATUS_RUN g) = false then
    let t := if isNav v then s else s.setFld (Reg.GFM_VDC_MEAS g) v
    t.setGrp g { t.grp g with vdcLow := none, vdcDone := false }
  else if isNav v then s
  else
    let low := decide (2000 * wInt v < s.fld (Reg.GFM_BS_CFG_VDC_MIN g) * pu)
    let t := s.setFld (Reg.GFM_VDC_MEAS g) v
    t.setGrp g { t.grp g with vdcLow := if low then some (((t.grp g).vdcLow).getD s.now) else none,
                              vdcDone := (t.grp g).vdcDone && low }

/-- The effective impedance takes a pair (R45): with RETUNE_EN at 1, a change sets RETUNE_S. Log 153 (DEDUCED). -/
def State.setEff (s : State) (g : Nat) (z : Int × Int) : State :=
  let r := s.grp g
  let t := s.setGrp g { r with rvEff := z.1, xvEff := z.2 }
  if s.on (Reg.GFM_CTRL_RETUNE_EN g) && (r.rvEff, r.xvEff) != z then t.raise (Reg.GFM_STATUS_RETUNE_S g) else t

/-- A pair held within the bounds of R45. -/
def State.zBound (s : State) (g : Nat) (z : Int × Int) : Int × Int :=
  let b (f : Fld) := tenThou (s.fld f)
  (within (b (Reg.GFM_RV_BOUND_RV_MIN g)) (b (Reg.GFM_RV_BOUND_RV_MAX g)) z.1,
   within (b (Reg.GFM_XV_BOUND_XV_MIN g)) (b (Reg.GFM_XV_BOUND_XV_MAX g)) z.2)

/-- RETUNE_EN = 0 makes the effective values RV and XV; at 1 they stay within their bounds (R45). -/
def State.effTick (s : State) (g : Nat) : State :=
  let r := s.grp g
  s.setEff g (if s.on (Reg.GFM_CTRL_RETUNE_EN g) then s.zBound g (r.rvEff, r.xvEff)
    else (tenThou (s.fld (Reg.GFM_ZV_P_RV g)), tenThou (s.fld (Reg.GFM_ZV_P_XV g))))

/-- The limits of the RIDE timers as a tick compares them (R70). -/
def State.rideLimits (s : State) (g : Nat) : Nat × Nat :=
  (msTicks (s.fld (Reg.GFM_FRT_T_TZ g)), msTicks (10 * s.fld (Reg.GFM_FRT_T_TL g)))

/-- RIDE is entered (R67, R68, R83). -/
def State.enterRide (s : State) (g : Nat) : State :=
  let r := s.grp g
  let back := if s.mode g = mCONNECTED then mCONNECTED else mISLAND
  let t := s.setGrp g { r with rideFrom := back, rideTime := 0, zeroTime := 0, exitTime := 0, omegaEntry := r.omega,
                               delta0 := r.lastDelta, rideBound := false, tzDone := false, tlDone := false,
                               tzLim := (s.rideLimits g).1, tlLim := (s.rideLimits g).2,
                               syncClose := if s.mode g = mSYNCING then false else r.syncClose,
                               closeWait := if s.mode g = mSYNCING then false else r.closeWait }
  ((((t.setMode g mRIDE).raise (Reg.GFM_EVT_STATUS_FRT_S g)).count (Reg.GFM_EVT_CNT_FRT_CNT g)).stamp
    (Reg.GFM_FRT_STAMP_LO g) (Reg.GFM_FRT_STAMP_HI g) s.now).ctrEvent 3

/-- Whether a mode may change to RIDE (R67). -/
def mayRide (m : Nat) : Bool := m == mISLAND || m == mSYNCING || m == mCONNECTED

/-- The check of R67. -/
def State.rideCheck (s : State) (g : Nat) : State :=
  let r := s.grp g
  if mayRide (s.mode g) && s.on (Reg.GFM_FRT_CFG_FRT_EN g)
      && (decide (r.trkT.v < milli (s.fld (Reg.GFM_FRT_V_VIN g))) || r.boundPrev) then s.enterRide g
  else s

/-- The times of RIDE advance (R70). -/
def State.rideTimes (s : State) (g : Nat) (w : Int) (entered : Bool) : State :=
  if s.mode g = mRIDE ∧ entered = false then
    let r := s.grp g
    s.setGrp g { r with rideTime := r.rideTime + w.toNat, tzLim := (s.rideLimits g).1, tlLim := (s.rideLimits g).2,
                        zeroTime := if r.trkT.v < milli 100 then r.zeroTime + w.toNat else r.zeroTime }
  else s

/-- The target of a governor, with whether its limit acts (R48). -/
def govTarget (x lo hi : Int) : Int × Bool := (within lo hi x, decide (within lo hi x ≠ x))

/-- The governors take a tick (R48 to R50). -/
def State.governors (s : State) (g : Nat) (w : Int) : State :=
  let r := s.grp g
  let f (x : Fld) := s.sfld x
  let pm := milli (s.fld (Reg.GFM_PQMAX_PMAX g))
  let qm := milli (s.fld (Reg.GFM_PQMAX_QMAX g))
  let tp := govTarget (f (Reg.GFM_PSET g)) (-pm) pm
  let tq := govTarget (f (Reg.GFM_QSET g)) (-qm) qm
  let tf := govTarget (f (Reg.GFM_FSET g) + f (Reg.GFM_SEC_DF g)) (s.centiHz g (s.fld (Reg.GFM_FLIM_FMIN g)))
    (s.centiHz g (s.fld (Reg.GFM_FLIM_FMAX g)))
  let tv := govTarget (f (Reg.GFM_VSET g) + f (Reg.GFM_SEC_DV g)) (milli (s.fld (Reg.GFM_ELIM_EMIN g)))
    (milli (s.fld (Reg.GFM_ELIM_EMAX g)))
  let stop := decide (s.mode g = mSTOPPING)
  let gp := r.govP.tick (if stop then 0 else tp.1) w (s.fld (Reg.GFM_SLEW_PQ_RATE_P g)) (s.fld (Reg.GFM_ACCEL_PQ_ACC_P g))
  let gq := r.govQ.tick (if stop then 0 else tq.1) w (s.fld (Reg.GFM_SLEW_PQ_RATE_Q g)) (s.fld (Reg.GFM_ACCEL_PQ_ACC_Q g))
  let gf := r.govF.tick tf.1 w (s.fld (Reg.GFM_SLEW_FV_RATE_F g)) (s.fld (Reg.GFM_ACCEL_FV_ACC_F g))
  let gv := r.govV.tick tv.1 w (s.fld (Reg.GFM_SLEW_FV_RATE_V g)) (s.fld (Reg.GFM_ACCEL_FV_ACC_V g))
  let up (b : Bool) (x : Fld) (t : State) := if b then t.raise x else t
  up (!stop && (tp.2 || tq.2) || tf.2 || tv.2) (Reg.GFM_STATUS_SPLIM_S g)
    (up gv.slews (Reg.GFM_STATUS_SLEWV_S g) (up gf.slews (Reg.GFM_STATUS_SLEWF_S g)
      (up gq.slews (Reg.GFM_STATUS_SLEWQ_S g) (up gp.slews (Reg.GFM_STATUS_SLEWP_S g)
        (s.setGrp g { r with govP := gp, govQ := gq, govF := gf, govV := gv })))))

/-- The angle of an error in radians as a frequency: x / (2π f_B × 1 s). -/
def State.perTurn (s : State) (g : Nat) (x : Int) : Int := roundDiv (x * piDen) (2 * piNum * s.fB g)

/-- The steering offsets take a tick (R81): in SYNCING each moves by what its goal is away, at most by its rate; otherwise toward 0.
Log 154 (DESIGN CHOICE). -/
def State.steer (s : State) (g : Nat) (w : Int) : State :=
  let r := s.grp g
  let lf := rateStep (s.fld (Reg.GFM_SLEW_FV_RATE_F g)) 10000 w
  let lv := rateStep (s.fld (Reg.GFM_SLEW_FV_RATE_V g)) 10000 w
  if s.mode g = mSYNCING then
    let goal := r.trkG.f + cap (tenThou (s.fld (Reg.GFM_GRID_QUAL_STEER_DF g)))
      (s.perTurn g (wrapAngle (r.trkG.th - r.theta)))
    s.setGrp g { r with steerF := r.steerF + cap lf ((goal - r.omega) * 2 ^ 28),
                        steerV := r.steerV + cap lv ((r.trkG.v - r.trkT.v) * 2 ^ 28) }
  else s.setGrp g { r with steerF := r.steerF - cap lf r.steerF, steerV := r.steerV - cap lv r.steerV }

/-- The frequency that RIDE gives the rotor (R68). -/
def State.rideOmega (s : State) (g : Nat) : Int :=
  let r := s.grp g
  if s.fld (Reg.GFM_FRT_CFG_ANGLE g) = 0 then
    if r.trkT.valid then
      let e := wrapAngle (r.trkT.th + r.delta0 - r.theta)
      let k := roundDiv (s.fld (Reg.GFM_STEER_KST g) * e * piDen) (20 * piNum * s.fB g)
      r.trkT.f + cap (tenThou (s.fld (Reg.GFM_STEER_DFMAX g))) k
    else r.omega
  else r.omegaEntry

/-- The rotor takes a tick (R38, R39, R40, R68, R73): with invalid operands ω holds and the angle advances.
Log 21 (DEDUCED), 66 (DESIGN CHOICE). -/
def State.rotor (s : State) (g : Nat) (i : TickIn) (ok : Bool) : State :=
  let r := s.grp g
  let md := s.mode g
  let star := r.govF.out + roundShift r.steerF 28
  let raw := if !ok then r.omega
    else if md = mRIDE then s.rideOmega g
    else if md = mBLACK then r.govF.out
    else swing r.omega r.omegaD r.govP.out star r.pe i.w (s.coef g 0x01) (s.coef g 0x03) (s.coef g 0x04)
  let om := within (s.centiHz g (s.fld (Reg.GFM_FLIM_FMIN g))) (s.centiHz g (s.fld (Reg.GFM_FLIM_FMAX g))) raw
  let omd := if !ok then r.omegaD else if md = mRIDE ∨ md = mBLACK then om else washout r.omega r.omegaD i.w (s.coef g 0x02)
  let delta := if r.trkT.valid && md != mRIDE then wrapAngle (r.theta - r.trkT.th) else r.lastDelta
  let t := s.setGrp g { r with omega := om, omegaD := omd, theta := turn r.theta om i.w i.kth, lastDelta := delta }
  if om = raw then t else t.raise (Reg.GFM_STATUS_FLIM_S g)

/-- Powers and their filters (R41). Log 20 (DEDUCED). -/
def State.powers (s : State) (g : Nat) (i : TickIn) : State :=
  let r := s.grp g
  let p := clampInt (roundShift (i.vAl * i.iAl + i.vBe * i.iBe) 28)
  let q := clampInt (roundShift (i.vBe * i.iAl - i.vAl * i.iBe) 28)
  s.setGrp g { r with pNow := p, qNow := q, pe := lowpass r.pe p (s.coef g 0x07), qf := lowpass r.qf q (s.coef g 0x08) }

/-- The contexts whose outputs the active image routes to the rotor frequency or the voltage reference of a group (R39). -/
def State.rotorCtxs (s : State) (g : Nat) : List Nat :=
  match s.stg.active with
  | none => []
  | some i => (i.routes.filter fun r => r.srcKind == 1 && r.held == some g).map (·.srcId)

/-- Invalid operands reach the rotor's outputs (R7, R39): held, recorded, the context fault, and the fault action for source 0x01.
Log 21 (DEDUCED), 155 (DEDUCED). -/
def State.heldTick (s : State) (g : Nat) : State :=
  ((s.rotorCtxs g).foldl (fun t n => t.raise (Reg.GRT_CTX_STATUS_NAV_S n)) (s.raise (Reg.GFM_STATUS_HELD_S g))).faultAction g 0x01

/-- TRAMP of a group in the units of its times. -/
def State.tramp (s : State) (g : Nat) : Nat := msTicks (s.fld (Reg.GFM_BS_RAMP_TRAMP g))

/-- The source magnitude of the ramp of R74. -/
def State.rampE (s : State) (g : Nat) : Int :=
  let v0 := milli (s.fld (Reg.GFM_BS_RAMP_VSTART g))
  v0 + roundDiv (((s.grp g).govV.out - v0) * min (s.grp g).bsRamp (s.tramp g)) (s.tramp g)

/-- The voltage magnitude reference (R42, R74, R86); `hold` pauses the ramp of BLACK_START, with E held. -/
def State.magnitude (s : State) (g : Nat) (w : Int) (ok hold : Bool) : State :=
  let r := s.grp g
  let md := s.mode g
  let r1 := if md = mBLACK then { r with bsRamp := min (r.bsRamp + w.toNat) (s.tramp g) } else r
  let s1 := s.setGrp g r1
  let droop := roundShift (s.coef g 0x06 * (r.qf - s.sfld (Reg.GFM_GOV_Q g))) 30
  let lo := if md = mBLACK then 0 else milli (s.fld (Reg.GFM_ELIM_EMIN g))
  let hi := milli (s.fld (Reg.GFM_ELIM_EMAX g))
  let e := (if md = mBLACK then s1.rampE g else r.govV.out + roundShift r.steerV 28) - droop
  if !ok || (hold && md == mBLACK) then s
  else if md = mSTOPPING ∧ (r.stopPhase ≠ 1 ∨ r.stopFrom = mBLACK) then
    let e2 := if r.stopPhase = 2 then max 0 (r.stopE - roundDiv (w * tickUnit) (s.tramp g)) else r.stopE
    s.setGrp g { r with stopE := e2, eRef := e2 }
  else
    let t := s1.setGrp g { r1 with eRef := within lo hi e }
    if (e < lo ∧ md ≠ mBLACK) ∨ hi < e then t.raise (Reg.GFM_STATUS_ELIM_S g) else t

/-- The length of the moving average of R75 in ticks. -/
def State.fluxLen (s : State) (g : Nat) : Nat := (roundDiv 40000 (s.fB g)).toNat

/-- The moving average of a flux history. -/
def avgFlux (h : List Int) : Int := if h.length = 0 then 0 else roundDiv h.sum h.length

/-- The flux estimates advance (R75, R77), and during BLACK_START with FLUX_EN their averages hold the ramp. -/
def State.flux (s : State) (g : Nat) (i : TickIn) : State :=
  let r := s.grp g
  let step (x v : Int) := clampInt (x + roundShift (i.w * i.kth * v) 58)
  let a := step r.fluxA i.vA
  let b := if i.one then 0 else step r.fluxB i.vB
  let c := if i.one then 0 else step r.fluxC i.vC
  let r1 := { r with fluxA := a, fluxB := b, fluxC := c }
  if s.mode g = mBLACK ∧ s.on (Reg.GFM_BS_CFG_FLUX_EN g) = true then
    let n := s.fluxLen g
    let hA := (a :: r.histA).take n
    let hB := (b :: r.histB).take n
    let hC := (c :: r.histC).take n
    let top := max (avgFlux hA).natAbs (max (avgFlux hB).natAbs (avgFlux hC).natAbs)
    let lim := s.fld (Reg.GFM_BS_FLUX_FLUX_MAX g)
    let held := if (milli lim) < top then true else if (top : Int) < tenThou (8 * lim) then false else r.bsHeld
    let t := s.setGrp g { r1 with histA := hA, histB := hB, histC := hC, bsHeld := held,
                                  bsHoldTime := if held then r.bsHoldTime + i.w.toNat else r.bsHoldTime }
    if held then t.raise (Reg.GFM_EVT_STATUS_FLUX_S g) else t
  else s.setGrp g { r1 with histA := [], histB := [], histC := [], bsHeld := false }

/-- The correction of R75 for one phase: −5 Hz / f_B of its average. -/
def State.fluxFix (s : State) (g : Nat) (h : List Int) : Int := -roundDiv (5 * avgFlux h) (s.fB g)

/-- The corrections of R75 in αβ and the zero axis. -/
def State.fluxFixes (s : State) (g : Nat) (one : Bool) : Int × Int × Int :=
  let r := s.grp g
  let fa := s.fluxFix g r.histA
  let fb := s.fluxFix g r.histB
  let fc := s.fluxFix g r.histC
  if one then (fa, 0, 0) else (clarkeA fa fb fc, clarkeB fb fc, roundDiv (fa + fb + fc) 3)

/-- The sequences of the output current (R43): positive α and β, negative α and β. A 1P group has no negative sequence (R34). -/
def State.ioSeqs (s : State) (g : Nat) (i : TickIn) : Int × Int × Int × Int :=
  let r := s.grp g
  let co := cosRef r.theta
  let si := sinRef r.theta
  if i.one then (i.iAl, i.iBe, 0, 0)
  else
    let p := intoFrame co si i.iAl i.iBe
    let n := intoFrame co (-si) i.iAl i.iBe
    let pv := outOfFrame co si (p.1 - r.seqP.d.x) (p.2 - r.seqP.q.x)
    let nv := outOfFrame co (-si) (n.1 - r.seqN.d.x) (n.2 - r.seqN.q.x)
    (pv.1, pv.2, nv.1, nv.2)

/-- The separations take a tick (R43). -/
def State.sepTick (s : State) (g : Nat) (i : TickIn) (m : TickMeas) : State :=
  let r := s.grp g
  let co := cosRef r.theta
  let si := sinRef r.theta
  let ang := tickAngle i.w i.kth r.omega
  if i.one then s
  else s.setGrp g { r with seqP := r.seqP.step m.kNotch.toInt ang (intoFrame co si i.iAl i.iBe),
                           seqN := r.seqN.step m.kNotch.toInt ang (intoFrame co (-si) i.iAl i.iBe) }

/-- The voltage reference (R43, R44, R75): α and β. -/
def State.vRef (s : State) (g : Nat) (i : TickIn) : Int × Int :=
  let r := s.grp g
  let xo := qmul r.xvEff r.omega
  let bal := s.fld (Reg.GFM_CFG_NEGSEQ g) == 1 || i.one
  let rn := if bal then 0 else tenThou (s.fld (Reg.GFM_ZV_N_RVN g))
  let xn := if bal then 0 else qmul (tenThou (s.fld (Reg.GFM_ZV_N_XVN g))) r.omega
  let f := s.fluxFixes g i.one
  let v := s.ioSeqs g i
  (qmul r.eRef (cosRef r.theta) - qmul r.rvEff v.1 + qmul xo v.2.1 - qmul rn v.2.2.1 - qmul xn v.2.2.2 + f.1,
   qmul r.eRef (sinRef r.theta) - qmul r.rvEff v.2.1 - qmul xo v.1 - qmul rn v.2.2.2 + qmul xn v.2.2.1 + f.2.1)

/-- The orders of the resonant terms (R46): the fundamental, and those that HARM_LO and HARM_HI select. -/
def State.resOrders (s : State) (g : Nat) : List Nat :=
  let sel := s.fld (Reg.GFM_HARM_LO_ORD g) + s.fld (Reg.GFM_HARM_HI_ORD g) * 2 ^ 32
  1 :: ((List.range 48).filter fun k => bitOf sel k).map (· + 2)

/-- The state of one resonant term; 0 where it has none yet. -/
def GroupRun.resOf (r : GroupRun) (axis order : Nat) : Res :=
  (r.res.find? fun e => e.axis == axis && e.order == order).getD { axis := axis, order := order }

/-- The sum of the resonant terms of an axis (R46): each pair at the angle h · θ. Log 149 (DEDUCED). -/
def State.resSum (s : State) (g axis : Nat) : Int :=
  let r := s.grp g
  ((s.resOrders g).map fun h =>
    let e := r.resOf axis h
    let th := wrapAngle (h * r.theta)
    qmul e.c (cosRef th) + qmul e.s (sinRef th)).sum

/-- One resonant term takes a tick (R46, R57): gain C_KR1 or C_KRH, bandwidth ω_c = 2π × 2 Hz; the Bool says that it saturated.
Log 149 (DEDUCED). -/
def Res.tick (e : Res) (w kr th eps : Int) : Res × Bool :=
  let step (x y : Int) := x + roundShift (w * kr * qmul eps y) 52 - roundDiv (w * x * piNum) (piDen * 10000 * 2 ^ 28)
  let c := step e.c (cosRef th)
  let d := step e.s (sinRef th)
  ({ e with c := clampInt c, s := clampInt d }, clampInt c != c || clampInt d != d)

/-- The resonant terms of the axes take a tick (R46, R65) with the error of each axis. -/
def State.resTick (s : State) (g : Nat) (w : Int) (eps : List (Nat × Int)) : State :=
  let r := s.grp g
  let l := (eps.map fun e => (s.resOrders g).map fun h =>
    (r.resOf e.1 h).tick w (s.coef g (if h = 1 then 0x0E else 0x0F)) (wrapAngle (h * r.theta)) e.2).flatten
  let t := s.setGrp g { r with res := l.map (·.1) }
  if l.any (·.2) then t.raise (Reg.GFM_STATUS_VSAT_S g) else t

/-- The unlimited phase current reference of one axis (R46). -/
def State.axisRef (s : State) (g axis : Nat) (eps io : Int) : Int :=
  roundShift (s.coef g 0x0D * eps) 24 + s.resSum g axis + (if s.on (Reg.GFM_CTRL_FF_EN g) then io else 0)

/-- The frame of the limiter (R63): the angle of channel T while it is valid, θ otherwise. -/
def State.limFrame (s : State) (g : Nat) : Int := if (s.grp g).trkT.valid then (s.grp g).trkT.th else (s.grp g).theta

/-- The components of i_ref (R63): the negative sequence is what the notch at 2ω takes out of the limiter's frame.
Log 65 (DESIGN CHOICE). -/
def State.components (s : State) (g : Nat) (one : Bool) (a b z : Int) : Comp :=
  let r := s.grp g
  let co := cosRef (s.limFrame g)
  let si := sinRef (s.limFrame g)
  let f := intoFrame co si a b
  if one then { d := f.1, q := f.2, nA := 0, nB := 0, z := z }
  else
    let n := outOfFrame co si r.seqR.d.x r.seqR.q.x
    { d := f.1 - r.seqR.d.x, q := f.2 - r.seqR.q.x, nA := n.1, nB := n.2, z := z }

/-- The minimums of R69 in RIDE replace components. -/
def State.rideMins (s : State) (g : Nat) (one : Bool) (c : Comp) : Comp :=
  let r := s.grp g
  let ride := decide (s.mode g = mRIDE)
  let room := pu - milli (s.fld (Reg.GFM_FRT_K_VDB g))
  let low := decide (r.trkT.v < room) && ride
  let dq := roundDiv (s.fld (Reg.GFM_FRT_K_KPOS g) * (room - r.trkT.v)) 10
  let kn : Int := s.fld (Reg.GFM_FRT_K_KNEG g)
  let inj := ride && s.on (Reg.GFM_FRT_CFG_NEGINJ g) && s.fld (Reg.GFM_CFG_NEGSEQ g) == 0 && !one
    && decide (mag c.nA c.nB < roundDiv (kn * r.trkT.vn) 10)
  { c with q := if low then min c.q (-dq) else c.q,
           nA := if inj then -roundDiv (kn * r.trkT.nB) 10 else c.nA,
           nB := if inj then roundDiv (kn * r.trkT.nA) 10 else c.nB }

/-- The limit level of a tick (R64, R88): IST, or on its way down to ICONT at 5 pu/s, and at most 0.5 pu when derated. -/
def State.limLevel (s : State) (g : Nat) (w : Int) : Int :=
  let r := s.grp g
  let cont := milli (s.fld (Reg.GFM_ILIM_ICONT g))
  let l := if r.falling then max cont (r.ilim - roundDiv (w * 125) 1000000) else milli (s.fld (Reg.GFM_ILIM_IST g))
  if r.derated then min l (pu / 2) else l

/-- The recovery bound after a tick (R72): it rises at PRATE from the exit on, and ends at I_lim. -/
def State.recover (s : State) (g : Nat) (w lim : Int) : State :=
  let r := s.grp g
  if r.recActive then
    let b := r.recBound + roundDiv (s.fld (Reg.GFM_PREC_PRATE g) * w * 25) 100000000
    if lim ≤ b then (s.setGrp g { r with recActive := false, recBound := 0 }).setFld (Reg.GFM_EVT_STATUS_REC g) 0
    else s.setGrp g { r with recBound := b }
  else s

/-- The bounded components of a tick, the cap of |i_d|, and whether the limiter binds (R63, R72): the recovery bound acts before the
limiter; the bound of RIDE, which the last binding tick left, after it. -/
def GroupRun.bounded (r : GroupRun) (c : Comp) (prio : Nat) (lim : Int) : Comp × Int × Bool :=
  let pre := if r.recActive then { c with d := cap r.recBound c.d } else c
  let l := pre.limit prio lim
  let bound := decide (l.1 ≠ pre)
  (if bound || !r.rideBound then l.1 else { l.1 with d := cap r.recBound l.1.d }, l.2, bound)

/-- The limiter takes a tick (R63, R64, R72): the Bool says that a bound acts, the recovery bound of R72 among them, so that the error
of R65 is back-calculated then too. Log 183 (DESIGN CHOICE). What ICONT is compared with is the sum of the
magnitudes of the components. Log 156 (DESIGN CHOICE). -/
def State.limiter (s : State) (g : Nat) (i : TickIn) (m : TickMeas) (a b z : Int) : State × Bool :=
  let lim := s.limLevel g i.w
  let s1 := s.recover g i.w lim
  let r := s1.grp g
  let co := cosRef (s1.limFrame g)
  let si := sinRef (s1.limFrame g)
  let sq := if i.one then r.seqR else r.seqR.step m.kNotch.toInt (tickAngle i.w i.kth r.omega) (intoFrame co si a b)
  let c0 := (s1.setGrp g { r with seqR := sq }).components g i.one a b z
  let c := s1.rideMins g i.one c0
  let k := r.bounded c (s.fld (Reg.GFM_FRT_CFG_PRIO g)) lim
  let held := k.2.2 && decide (s.mode g = mRIDE)
  let calm := decide (k.1.peak ≤ milli (s.fld (Reg.GFM_ILIM_ICONT g)))
  let v := outOfFrame co si k.1.d k.1.q
  let f := if k.1 = c0 then (a, b) else (v.1 + k.1.nA, v.2 + k.1.nB)
  let t := s1.setGrp g { r with
    seqR := sq, ilim := lim, boundPrev := k.2.2, rideBound := r.rideBound || held, recBound := if held then k.2.1 else r.recBound,
    recActive := r.recActive && !held,
    bindTime := if k.2.2 then r.bindTime + i.w.toNat else r.bindTime,
    lowTime := if calm then r.lowTime + i.w.toNat else 0,
    irefA := f.1, irefB := if i.one then 0 else f.2, iref0 := k.1.z }
  let t1 := if r.recActive && held then t.setFld (Reg.GFM_EVT_STATUS_REC g) 0 else t
  let t2 := if k.2.2 then (t1.raise (Reg.GFM_STATUS_ILIM_S g)).soundBound g else t1
  (t2.setSfld (Reg.GFM_ILIM_NOW g) lim, decide (k.1 ≠ c))

/-- The back-calculated error of an axis (R65): ε − (i_ref − i_lim) / K_pv while the limiter acts. -/
def State.backCalc (s : State) (g : Nat) (acts : Bool) (eps iref ilim : Int) : Int :=
  let k := kpv s.fld g (s.nPar g)
  if acts then eps - roundDiv ((iref - ilim) * k.2) k.1 else eps

/-- The phase value of αβ and zero components for a leg's phase (R138): 0 to 2 a phase, 3 the neutral. Log 157 (DEDUCED). -/
def phaseOf (phase : Nat) (a b z : Int) : Int :=
  let h := roundDiv (b * 866025403784438646763723170752) 1000000000000000000000000000000
  match phase with
  | 0 => a + z
  | 1 => h - roundDiv a 2 + z
  | 2 => -h - roundDiv a 2 + z
  | _ => -3 * z

/-- The references reach every leg of the group (R35, R36): the phase current reference, and the voltage reference; in a 1P group
each leg set receives half the voltage, with opposite signs, and the current flows out of the first set. Log 157 (DEDUCED). -/
def State.legRefs (s : State) (g : Nat) (one : Bool) : State :=
  let r := s.grp g
  forIdx 64 (fun n t =>
    if t.legIn g n then
      let p := (t.legRec n).phase
      let v := if one then (if p = 0 then roundDiv r.vrefA 2 else -roundDiv r.vrefA 2) else phaseOf p r.vrefA r.vrefB r.vref0
      let c := if one then (if p = 0 then r.irefA else -r.irefA) else phaseOf p r.irefA r.irefB r.iref0
      t.setLeg n { t.leg n with vRef := v, iRef := c }
    else t) s

/-- The voltage controller and the limiter take a tick (R43, R46, R63, R65). The correction of R75 is one of each phase, so that its
zero part reaches the phases of every group; the controller of the zero axis is one of 3P4W groups. The beta reference of a 1P group
is the quadrature of its alpha reference. Log 182 (DESIGN CHOICE). -/
def State.cascade (s : State) (g : Nat) (r : GroupRec) (i : TickIn) (m : TickMeas) : State :=
  let s1 := s.sepTick g i m
  let v := s1.vRef g i
  let z0 := (s1.fluxFixes g i.one).2.2
  let ea := v.1 - m.vcA.toInt
  let eb := v.2 - m.vcB.toInt
  let ez := z0 - m.vc0.toInt
  let a := s1.axisRef g 0 ea i.iAl
  let so := if i.one then (s1.grp g).sogR.step m.kSogi.toInt (tickAngle i.w i.kth (s1.grp g).omega) a else {}
  let b := if i.one then so.q else s1.axisRef g 1 eb i.iBe
  let z := if r.typ = 1 then s1.axisRef g 2 ez i.iZ else 0
  let s2 := s1.setGrp g { s1.grp g with vrefA := v.1, vrefB := v.2, vref0 := z0, sogR := so }
  let l := s2.limiter g i m a b z
  let k := l.1.grp g
  let eps := (0, l.1.backCalc g l.2 ea a k.irefA) ::
    ((if i.one then [] else [(1, l.1.backCalc g l.2 eb b k.irefB)]) ++
      (if r.typ = 1 then [(2, l.1.backCalc g l.2 ez z k.iref0)] else []))
  (l.1.resTick g i.w eps).legRefs g i.one

/-- The voltage magnitude and the cascade of a tick (R42 to R46, R74): in BLACK_START the ramp pauses, with E held, where the flux
regulator holds it or the limiter would bind with it. Log 158 (DESIGN CHOICE). -/
def State.voltageTick (s : State) (g : Nat) (r : GroupRec) (i : TickIn) (m : TickMeas) : State :=
  let t := (s.magnitude g i.w true (s.grp g).bsHeld).cascade g r i m
  if s.mode g = mBLACK ∧ (s.grp g).bsHeld = false ∧ (t.grp g).boundPrev = true then
    (s.magnitude g i.w true true).cascade g r i m
  else t

/-- A time that a condition must hold: 0 while it does not, and one more than the time since its first tick while it does.
Log 26 (DEDUCED). -/
def holdTime (t : Nat) (w : Int) (c : Bool) : Nat := if !c then 0 else if t = 0 then 1 else t + w.toNat

/-- Whether a held condition has held for a time. Log 26 (DEDUCED). -/
def heldFor (t limit : Nat) : Bool := decide (0 < t) && decide (limit ≤ t - 1)

/-- The sync-check window (R82): its three values, and whether it holds. Log 26 (DEDUCED). -/
def State.window (s : State) (g : Nat) : Int × Int × Int × Bool :=
  let r := s.grp g
  let df := r.trkG.f - r.trkT.f
  let lead := roundDiv (2 * piNum * s.fB g * s.fld (Reg.GFM_SYNC_T_TCLOSE g) * df) (piDen * 10000)
  let dth := wrapAngle (r.trkG.th - r.trkT.th) + lead
  let dv := r.trkG.v - r.trkT.v
  (df, dth, dv, decide (df.natAbs * s.fB g * 1000 ≤ s.fld (Reg.GFM_SYNC_WIN_DF g) * tickUnit)
    && decide (dth.natAbs * 18000 * piDen ≤ s.fld (Reg.GFM_SYNC_WIN_DTH g) * piNum * tickUnit)
    && decide ((dv.natAbs : Int) * 10000 ≤ s.fld (Reg.GFM_SYNC_WIN_DV g) * r.trkG.v))

/-- The window takes a tick of SYNCING (R82, R83); outside SYNCING its registers keep their last values. Log 159 (DESIGN CHOICE). -/
def State.syncTick (s : State) (g : Nat) (w : Int) : State :=
  if s.mode g = mSYNCING then
    let v := s.window g
    let r := s.grp g
    let drop := r.syncClose && !v.2.2.2 && s.fld (Reg.GFM_SYNC_CTRL_CLOSE_MODE g) == 0
    let t := s.setGrp g { r with window := v.2.2.2, dwell := holdTime r.dwell w v.2.2.2,
                                 syncClose := r.syncClose && !drop }
    ((t.setSfld (Reg.GFM_SYNC_DF g) (clampInt v.1)).setSfld (Reg.GFM_SYNC_DTH g) (clampInt v.2.1)).setSfld
      (Reg.GFM_SYNC_DV g) (clampInt v.2.2.1)
  else s

/-- SYNCING is entered (R80, R81). -/
def State.enterSync (s : State) (g : Nat) : State :=
  (s.setGrp g { s.grp g with dwell := 0, syncClose := false, closeWait := false, pulse := false }).setMode g mSYNCING

/-- The grid counts as returned and a resynchronisation is asked for (R80). -/
def State.syncAsked (s : State) (g : Nat) : Bool := s.on (Reg.GFM_SYNC_CTRL_AUTO g) || s.on (Reg.GFM_SYNC_CTRL_ARM g)

/-- The grid is judged at a tick of ISLAND with the breaker open (R80). Log 26 (DEDUCED). -/
def State.gridTick (s : State) (g : Nat) (w : Int) : State :=
  let r := s.grp g
  if s.mode g = mISLAND ∧ r.brkClosed = false then
    let c := r.trkG
    let ok := c.valid && decide (milli (s.fld (Reg.GFM_GRID_VWIN_VG_MIN g)) ≤ c.v)
      && decide (c.v ≤ milli (s.fld (Reg.GFM_GRID_VWIN_VG_MAX g))) && decide (tenThou (s.fld (Reg.GFM_GRID_FWIN_FG_MIN g)) ≤ c.f)
      && decide (c.f ≤ tenThou (s.fld (Reg.GFM_GRID_FWIN_FG_MAX g)))
    let t := s.setGrp g { r with gridTime := holdTime r.gridTime w ok, gridBack := r.gridBack && ok }
    if r.gridBack && ok && s.syncAsked g then t.enterSync g else t
  else s.setGrp g { r with gridTime := 0, gridBack := false }

/-- The held conditions of RIDE and BLACK_START take a tick (R71, R76). -/
def State.holdTick (s : State) (g : Nat) (w : Int) : State :=
  let r := s.grp g
  let out := decide (milli (s.fld (Reg.GFM_FRT_V_VOUT g)) ≤ r.trkT.v) && !r.boundPrev && s.mode g == mRIDE
  let done := s.mode g == mBLACK && decide (s.tramp g ≤ r.bsRamp) && r.trkT.valid
    && decide (milli (s.fld (Reg.GFM_ELIM_EMIN g)) ≤ r.trkT.v) && decide (r.trkT.v ≤ milli (s.fld (Reg.GFM_ELIM_EMAX g)))
  s.setGrp g { r with exitTime := holdTime r.exitTime w out, settleTime := holdTime r.settleTime w done }

/-- A controlled stop proceeds to its ramp, or to the turning off of its legs (R86, step 2). -/
def State.stopProceed (s : State) (g : Nat) : State :=
  let r := s.grp g
  if s.mode g = mSTOPPING ∧ r.stopPhase = 1 then
    let ramp := r.stopFrom = mISLAND ∨ r.stopFrom = mSYNCING ∨ r.stopFrom = mBLACK
    s.setGrp g { r with stopPhase := if ramp then 2 else 3, stopE := r.eRef,
                        syncClose := if ramp then r.syncClose else false }
  else s

/-- The stop at a tick (R86, steps 2 and 3). -/
def State.stopTick (s : State) (g : Nat) : State :=
  let r := s.grp g
  if s.mode g = mSTOPPING then
    if r.stopPhase = 1 then
      (if 50 * r.pe.natAbs < tickUnit ∧ 50 * r.qf.natAbs < tickUnit then s.stopProceed g else s)
    else if r.stopPhase = 2 ∧ r.stopE ≤ 0 then s.setGrp g { r with stopPhase := 3, syncClose := false }
    else s
  else s

/-- The live registers of a group take their values (R55, R56). -/
def State.liveRegs (s : State) (g : Nat) : State :=
  let r := s.grp g
  [(Reg.GFM_GOV_P g, r.govP.out), (Reg.GFM_GOV_Q g, r.govQ.out), (Reg.GFM_GOV_F g, r.govF.out),
    (Reg.GFM_GOV_V g, r.govV.out), (Reg.GFM_MEAS_P g, r.pe), (Reg.GFM_MEAS_Q g, r.qf), (Reg.GFM_ROTOR_F g, r.omega),
    (Reg.GFM_ROTOR_TH g, r.theta), (Reg.GFM_E_REF g, r.eRef), (Reg.GFM_RV_EFF g, r.rvEff),
    (Reg.GFM_XV_EFF g, r.xvEff)].foldl (fun t e => t.setSfld e.1 (clampInt e.2)) s

/-- The part of a tick that runs while the group is not OFF. Operands that are NaV, of the rotor or of the voltage controller, are held
and met by the fault action for source 0x01 (R7). -/
def State.runTick (s : State) (g : Nat) (rec : GroupRec) (i : TickIn) (m : TickMeas) : State :=
  let ok := i.vOk && i.iOk
  let s1 := s.rideCheck g
  let s2 := s1.rideTimes g i.w (s1.mode g != s.mode g)
  let s3 := (s2.governors g i.w).steer g i.w
  let vc := !(m.vcA == nav || m.vcB == nav || m.vc0 == nav)
  let m4 := if ok then s3.powers g i else s3
  let s4 := if ok && vc then m4 else m4.heldTick g
  if s4.mode g = mOFF then s4
  else
    let s5 := (s4.rotor g i ok).setSfld (Reg.GFM_GOV_Q g) (s4.grp g).govQ.out
    let s6 := if ok && vc then (s5.flux g i).voltageTick g rec i m
      else
        let t := if ok then s5.flux g i else s5
        t.magnitude g i.w ok (t.grp g).bsHeld
    (((s6.syncTick g i.w).gridTick g i.w).holdTick g i.w).stopTick g

/-- A rotor tick of a group (R38 to R86), the Sounding, Bearing and Tally consequences apart. Log 65 (DESIGN CHOICE). -/
def State.rotorTick (s : State) (g : Nat) (r : GroupRec) (m : TickMeas) : State :=
  let i := s.tickIn g r m
  let s1 := s.setGrp g { s.grp g with faTick := 0, derPrev := none, tickReal := some s.eng.real }
  let s2 := ((s1.track g i m).busTick g r).effTick g
  let s3 := if s2.mode g = mOFF then s2 else s2.runTick g r i m
  s3.liveRegs g

end Sys2Proof.Machine
end

