-- ==== Sys2Proof/Machine/SurveyImage.lean ====
section
/-!
DEFINITION. The checks of the survey over the structure: CODE 0x06 to 0x0D (R131, R138 to R144, R164, R172, R205, R234, R309).
-/

namespace Sys2Proof.Machine

/-- A structure failure of a context (R164). -/
def ctxFail (code : Nat) (bad : CtxRec → Bool) (l : List CtxRec) : Option SurvFail :=
  (l.find? bad).map fun r => { code := code, ctx := r.ctx }

/-- A structure failure that names no context. -/
def plainFail (code : Nat) (bad : Bool) : Option SurvFail := if bad then some { code := code } else none

/-- The used legs of a group in a phase. -/
def Img.legsIn (i : Img) (g p : Nat) : List LegRec :=
  i.legs.filter fun l => l.used && l.group == g && l.phase == p

/-- The group records and the legs of their phases (R138, R455). Log 99 (DEDUCED). -/
def Img.groupBad (i : Img) (r : GroupRec) : Bool :=
  let phases := match r.typ with
    | 0 => [0, 1, 2]
    | 1 => [0, 1, 2, 3]
    | 2 => [0, 1]
    | _ => []
  (phases.any fun p => (i.legsIn r.group p).length != r.nPar)
    || (r.typ == 2 && (r.vtA == 0xFFFF || r.vtC != 0xFFFF || r.vgC != 0xFFFF || (r.vgA == 0xFFFF && r.vgB != 0xFFFF)
          || r.ioB != 0xFFFF || r.ioC != 0xFFFF))

/-- A used leg of the neutral phase outside a 3P4W group (R138). -/
def Img.neutralBad (i : Img) : Bool :=
  i.legs.any fun l => l.used && l.phase == 3 && !(i.groups.any fun r => r.group == l.group && r.typ == 1)

/-- The entries of a group record sample inputs of the kind and group they serve (R205). Log 46 (DEDUCED). -/
def Img.entriesBad (i : Img) (r : GroupRec) : Bool :=
  let wrong (kind e : Nat) := e != 0xFFFF && match (i.sched.ent e).bind i.sched.inputOf with
    | none => true
    | some n => (i.sched.ins.getD n {}).kind != kind || (i.sched.ins.getD n {}).group != r.group
  [r.vtA, r.vtB, r.vtC, r.vgA, r.vgB, r.vgC].any (wrong 2) || [r.ioA, r.ioB, r.ioC].any (wrong 4) || wrong 3 r.vdc

/-- Two contexts with one number, or on one cell with state words in common (R139). -/
def CtxRec.clashes (a b : CtxRec) : Bool :=
  a.ctx == b.ctx || (cfgCell a.cfg == cfgCell b.cfg
    && decide (max a.stateBase b.stateBase < min (a.stateBase + a.stateLen) (b.stateBase + b.stateLen)))

/-- The first context entry that clashes with one before it. -/
def firstClash : List CtxRec → List CtxRec → Option CtxRec
  | _, [] => none
  | seen, r :: rs => if seen.any fun q => q.clashes r then some r else firstClash (seen ++ [r]) rs

/-- A binding record with a reserved NAME, or a LEG where its NAME takes none (R140). -/
def bindBad (b : BindRec) : Bool :=
  b.name == 0 || decide (0x13 < b.name) || (b.name != 0x11 && b.name != 0x12 && b.leg != 0)

/-- Whether an address is that of a live value of a group (R436). -/
def isLive (a : Nat) : Bool :=
  let o := a % 0x200
  decide (0x3000 ≤ a) && decide (a < 0x4000) && a % 4 == 0
    && ((decide (0xA8 ≤ o) && decide (o ≤ 0xD0)) || (decide (0x1B0 ≤ o) && decide (o ≤ 0x1D0)))

/-- Whether an address is that of a status register to which a FLAG may be routed (R436). -/
def isStatus (a : Nat) : Bool :=
  decide (0x3000 ≤ a) && decide (a < 0x4000) && (a % 0x200 == 0xE0 || a % 0x200 == 0x180)

/-- Whether an address may be a source (R436). -/
def isSource (a : Nat) : Bool :=
  isLive a || (decide (0x5800 ≤ a) && decide (a < 0x6000) && a % 4 == 0)
    || (decide (0x6400 ≤ a) && decide (a < 0x6800) && a % 16 == 4) || a == 0x8060 || a == 0x8064
    || (decide (0xB800 ≤ a) && decide (a < 0xB900) && a % 4 == 0)
    || (decide (0xC000 ≤ a) && decide (a < 0xC800) && (a % 0x100 == 0xA0 || a % 0x100 == 0xA4))

/-- A routing record against R142, R143 and R436, by itself. Log 37 (DEDUCED). -/
def Img.routeBad (i : Img) (r : RouteRec) : Bool :=
  if r.dstKind = 3 then decide (r ≠ {})
  else
    let src := i.ctxs.find? fun c => c.ctx == r.srcId
    (r.srcKind == 2 && (r.dstKind == 2 || r.srcId != 0 || !isSource r.regAddr))
      || (r.dstKind == 2 && (r.dstId != 0 || (if isLive r.regAddr then
            r.srcKind != 1 || ((src.map fun c => cfgGroup c.cfg) != some ((r.regAddr - 0x3000) / 0x200))
          else !isStatus r.regAddr || r.srcKind != 3)))
      || (r.srcKind == 3 && (r.dstKind != 2 || !isStatus r.regAddr))
      || (r.dstKind == 1 && (r.srcKind != 1 || ((src.map fun c => cfgCmpOut c.cfg) != some true)))
      || (r.srcKind != 1 && r.srcPort != 0) || (r.dstKind != 0 && r.dstPort != 0)
      || (r.srcKind != 2 && r.dstKind != 2 && r.regAddr != 0)
      || ((r.srcKind == 1 || r.srcKind == 3) && decide (127 < r.srcId))
      || (r.dstKind == 0 && decide (127 < r.dstId)) || (r.dstKind == 1 && decide (63 < r.dstId))

/-- The context that a routing record names: its source's, else its destination's, else 0. Log 147 (DEDUCED). -/
def RouteRec.ctxNamed (r : RouteRec) : Nat :=
  if r.srcKind = 1 ∨ r.srcKind = 3 then r.srcId else if r.dstKind = 0 then r.dstId else 0

/-- Whether two routing records feed one destination (R143). -/
def RouteRec.sameDst (a b : RouteRec) : Bool :=
  a.dstKind != 3 && a.dstKind == b.dstKind && a.dstId == b.dstId && a.dstPort == b.dstPort
    && (a.dstKind != 2 || a.regAddr == b.regAddr)

/-- Whether a record feeds a destination that one before it feeds. -/
def feedTwice : List RouteRec → Bool
  | [] => false
  | r :: rs => rs.any r.sameDst || feedTwice rs

/-- The fault-action sheet (R88, R144). -/
def Img.faultBad (i : Img) : Bool :=
  i.fault.length != 128 || !allIdx 128 fun k =>
    let b := i.fault.getD k 0
    if k % 16 = 0 ∨ 0x0B ≤ k % 16 then b == 0 else decide (b ≤ 7) && (decide (b < 6) || bitOf i.flags 1)

/-- The trip sheet against the drafted legs and the leg records (R229, R234, R240). -/
def Surv.tripBad (v : Surv) : Bool :=
  let i := v.img
  (anyIdx 64 fun n =>
      let l := i.legOf n
      let safe := i.trip.legs.getD n 0 / 256 % 4
      l.used && (((safe == 1 || safe == 2) && v.rd (Reg.PWM_LEG_CTRL_SWAP n) == 1)
        || (!l.logic && (v.rd (Reg.PWM_LEG_CTRL_INV_H n) == 1 || v.rd (Reg.PWM_LEG_CTRL_INV_L n) == 1))
        || (l.logic && bitOf (i.trip.srcs.getD (16 + n) 0) 8)))
    || anyIdx 84 fun k =>
      let w := i.trip.srcs.getD k 0
      bitOf w 9 && (decide (16 ≤ k) || !i.legs.any fun l => l.used && l.cgrp == w / 2 ^ 11 % 8)

/-- The state words of the contexts at levels that a test picks (R349). -/
def Img.wordsAt (i : Img) (p : Nat → Bool) : Nat :=
  ((i.ctxs.filter fun r => p (cfgPrio r.cfg)).map CtxRec.stateLen).sum

/-- The rules of an image for paired modules (R349, R361). -/
def Surv.twinBad (v : Surv) : Bool :=
  bitOf v.img.flags 1 && (decide (512 < v.img.wordsAt fun l => l == 1 || l == 2) || decide (5120 < v.img.wordsAt fun l => l == 0)
    || anyIdx 8 fun g => decide (v.rd (Reg.PWM_CG_DT_DT_H g) < 1280) || decide (v.rd (Reg.PWM_CG_DT_DT_L g) < 1280))

/-- The buffers of the STREAM channels (R309). -/
def Surv.bufferBad (v : Surv) (c : Nat) : Bool :=
  let base := v.rd (Reg.DMA_CH_BASE c)
  let size := v.rd (Reg.DMA_CH_SIZE c)
  let d := wordAt v.img.dma (4 + 4 * c) / 4 % 16
  v.kindOf c == kSTREAM && (base % 64 != 0 || size % 4096 != 0 || decide (size < 4096) || decide (0x10000000 < size)
    || !anyIdx 32 fun r =>
      let x := regionOf v.img.dma d r
      bitOf x.flags 0 && bitOf x.flags 2 && decide (x.vbase ≤ base) && decide (base + size ≤ x.vend))

/-- Whether a cell has a PROGRAM sheet (R141). -/
def Img.hasProg (i : Img) (c : Nat) : Bool := i.progs.any fun p => p.cell == c

/-- The structure rules of the sheets (CODE 0x06). Log 36 (DEDUCED), 99 (DEDUCED), 147 (DEDUCED). -/
def Surv.sheets (v : Surv) : Option SurvFail :=
  let i := v.img
  firstFail [
    plainFail 0x06 (i.groups.any i.groupBad || i.neutralBad),
    (firstClash [] i.ctxs).map fun r => { code := 0x06, ctx := r.ctx },
    plainFail 0x06 (i.binds.any bindBad),
    ctxFail 0x06 (fun r => !i.hasProg (cfgCell r.cfg)) i.ctxs,
    plainFail 0x06 ((i.coefs ++ i.inits).any fun p => !i.hasProg p.cell),
    (i.routes.find? i.routeBad).map fun r => { code := 0x06, ctx := r.ctxNamed },
    plainFail 0x06 (feedTwice i.routes),
    plainFail 0x06 i.faultBad,
    plainFail 0x06 (i.groups.any i.entriesBad),
    plainFail 0x06 (i.sched.ents.any fun e => decide (2 ^ e.shift < e.nm1 + 1) || (e.stream && v.kindOf e.dmaCh != kSTREAM)),
    plainFail 0x06 v.tripBad,
    plainFail 0x06 (bitOf (i.safety.getD 10 0) 0 && !bitOf (i.safety.getD 10 0) 1),
    plainFail 0x06 v.twinBad,
    plainFail 0x06 (anyIdx 32 v.bufferBad)]

/-- Whether the DMA sheet gives a context's fetches a channel (R309). -/
def Surv.hasFetchCh (v : Surv) (r : CtxRec) : Bool :=
  anyIdx 32 fun c => v.kindOf c == kFETCH && wordAt v.img.dma (4 + 4 * c) / 256 == r.ctx

/-- Whether a context's program breaks a rule (R102 to R106, R123, R299, R309). -/
def Surv.progBad (v : Surv) (r : CtxRec) : Bool :=
  match v.img.walk r with
  | none => true
  | some w => (w.usesDma && decide (cfgPrio r.cfg ≤ 1)) || (decide (w.fetches ≠ 0) && !v.hasFetchCh r)

/-- The programs (CODE 0x07). -/
def Surv.programs (v : Surv) : Option SurvFail :=
  firstFail [
    (v.img.progs.find? fun p => p.words.any fun w => decide (opEND < (decodeOp w).op)).map fun p => { code := 0x07, cell := p.cell },
    (v.img.ctxs.find? v.progBad).map fun r => { code := 0x07, cell := cfgCell r.cfg, ctx := r.ctx }]

/-- The legs whose compare shadows a context of the image feeds (R115). -/
def Img.cmpLegs (i : Img) (r : CtxRec) : List Nat :=
  (i.routes.filter fun x => x.dstKind == 1 && x.srcKind == 1 && x.srcId == r.ctx).map (·.dstId)

/-- Whether update points set a context's deadline (R115). -/
def Img.byUpdate (i : Img) (r : CtxRec) : Bool :=
  cfgCmpOut r.cfg && cfgTrig r.cfg != 3 && !(i.cmpLegs r).isEmpty

/-- A context against R107, R108, R115, R120 and R205. -/
def Surv.ctxBad (v : Surv) (r : CtxRec) : Bool :=
  let src := cfgSrc r.cfg
  let dl := v.ctrl r (Reg.GRT_CTX_CTRL_DL r.ctx)
  (match cfgTrig r.cfg with
    | 0 => decide (8 ≤ src)
    | 1 => (match v.img.sched.ent src with
      | none => true
      | some e => match v.img.sched.slotsOf e with
        | [] => true
        | l => l.any (·.2) || decide (e.nm1 + 1 ≠ l.length))
    | 2 => decide (8 ≤ src)
    | _ => decide (src ≠ 0))
  || (cfgTrig r.cfg != 3 && v.tick r == 0)
  || (!v.img.byUpdate r && (decide (dl < 16) || decide (1000000 < dl) || (decide (v.tick r ≠ 0) && decide (v.tick r < dl))))
  || v.ctrl r (Reg.GRT_CTX_CTRL_ESC_N r.ctx) == 0

/-- Whether a context's bumpless table is invalid (R172). -/
def Surv.bumpBad (v : Surv) (r : CtxRec) : Bool :=
  let n := v.bumpN r
  let owned (w : Nat) := decide (r.stateBase ≤ w) && decide (w < r.stateBase + r.stateLen)
  let table (w : Nat) := decide (r.stateBase ≤ w) && decide (w ≤ r.stateBase + 2 * n)
  let m := v.coefCopy
  v.bumpless r && (decide (8 < n) || decide (r.stateLen < 1 + 2 * n)
    || (((v.img.walk r).map Walk.stores).getD []).any table
    || anyIdx n fun p =>
      let w1 := v.bumpW1 r p
      let w2 := v.bumpW2 r p
      !owned (w1 / 2 ^ 10 % 512) || !owned (w1 / 2 ^ 19 % 512)
        || segFormat (v.img.cfmap (cfgCell r.cfg)) (w2 % 1024) != 1
        || (!bitOf w2 10 && decide (wInt (tabGet {} m (cfgCell r.cfg * 1024 + w2 % 1024)).val < 0)))

/-- Whether a bound coefficient does not fit its word (R57, R140). Log 36 (DEDUCED). -/
def Surv.bindOver (v : Surv) (b : BindRec) : Bool :=
  let c := v.coef b
  segFormat (v.img.cfmap b.cell) b.word != c.code || (!coefUnset v.rd b.group b.name && c.over)

/-- Coefficients and converter scale words that exceed their formats (CODE 0x0A). -/
def Surv.formats (v : Surv) : Option SurvFail :=
  firstFail [
    (v.img.binds.find? v.bindOver).map fun b => { code := 0x0A, cell := b.cell, addr := coefAddr b.cell b.word },
    (v.img.sched.ents.find? fun e => decide (0xFFFFFFFF < scaleWord v.rd v.img e)).map fun e =>
      { code := 0x0A, addr := (Reg.ADC_RES_CODE e.entry).addr }]

/-- T_i of R131: TICK_NOM, or DL for a HOST context. -/
def Surv.period (v : Surv) (r : CtxRec) : Nat :=
  if cfgTrig r.cfg = 3 then v.ctrl r (Reg.GRT_CTX_CTRL_DL r.ctx) else v.tick r

/-- What the budget counts of a context: record, level, T_i, WCL_i and D_i. -/
structure Load where
  ent : CtxRec
  prio : Nat
  period : Nat
  wcl : Nat
  limit : Nat
  deriving DecidableEq, Repr

/-- Instants that recur: each lies at `at0 + k · step` for some integer `k`, and no closer place of theirs is known (R131). -/
structure Beat where
  at0 : Nat
  step : Nat
  deriving DecidableEq, Repr

/-- A later place of recurring instants. -/
def Beat.later (b : Beat) (d : Nat) : Beat := { b with at0 := b.at0 + d }

/-- The shortest interval that can occur between an instant of `t` and the first instant strictly after it of `u` (R131). -/
def shortest (t u : Beat) : Nat :=
  let g := Nat.gcd t.step u.step
  if g = 0 then 0
  else
    let d := (((u.at0 : Int) - t.at0) % (g : Int)).toNat
    if d = 0 then g else d

/-- The period starts of carrier group `g` under the drafts (R131, R212): counted from the carrier origin before the carriers run;
while they run, a change of HALF begins its layout at a period start of the present one that the survey does not know. -/
def Surv.starts (v : Surv) (g : Nat) : Beat :=
  let half := v.rd (Reg.PWM_CG_HALF_HALF g)
  let ph := v.rd (Reg.PWM_CG_PHASE_PHASE g)
  if !v.st.pwm.running then { at0 := ph, step := 2 * half }
  else
    let c := (v.st.gcar g).next.getD (v.st.gcar g).cur
    { at0 := c.base + (((ph : Int) - c.place) % ((2 * half : Nat) : Int)).toNat, step := Nat.gcd c.period (2 * half) }

/-- The update points of carrier group `g` under the drafts (R131, R213). -/
def Surv.updates (v : Surv) (g : Nat) : Beat := { v.starts g with step := Nat.gcd (v.starts g).step (v.tu g) }

/-- The ticks of timer `k` under the drafts (R108, R131): counted from the instant of arming, which the drafts do not give, so that every
place can occur before it; a new PERIOD counts from the commit instant. Log 34 (DEDUCED). -/
def Surv.ticks (v : Surv) (k : Nat) : Beat :=
  let s := v.st
  let p := v.rd (Reg.GRT_TMR_PERIOD k)
  if !s.armed || !s.pwm.running then { at0 := 0, step := 1 }
  else if p = s.comFld (Reg.GRT_TMR_PERIOD k) then { at0 := tabGet 0 s.eng.timerNext k, step := p }
  else if s.fld Reg.STG_COMMIT_CFG_MODE = 0 then
    let c := s.gcar (s.fld Reg.STG_COMMIT_CFG_CGRP)
    { at0 := (c.next.getD c.cur).base, step := Nat.gcd (c.next.getD c.cur).period p }
  else { at0 := s.ownTime (s.fld Reg.STG_COMMIT_AT_LO + 2 ^ 32 * s.fld Reg.STG_COMMIT_AT_HI), step := p }

/-- The triggers of a context under the drafts (R131): for a RESULT context the delivery of the item of its last slot, 107 C-cycles and 80
more for each slot after the start instant, as the worked example of R26 and R190 gives it. Log 34 (DEDUCED). -/
def Surv.triggers (v : Surv) (r : CtxRec) : Beat :=
  match cfgTrig r.cfg with
  | 0 => v.ticks (cfgSrc r.cfg)
  | 1 =>
    match v.img.sched.ent (cfgSrc r.cfg) with
    | none => { at0 := 0, step := 1 }
    | some e =>
      let c := v.img.sched.convs.getD e.conv {}
      let last := ((List.range c.slots.length).filter fun k =>
        let w := c.slots.getD k 0
        decide (slotCh w ≤ 4) && slotEntry w == e.entry).foldl max 0
      (v.updates c.lockCgrp).later (c.offset + 107 + 80 * last)
  | _ => v.updates (cfgSrc r.cfg)

/-- D_i of R131. Log 34 (DEDUCED). -/
def Surv.limit (v : Surv) (r : CtxRec) : Nat :=
  if v.img.byUpdate r then
    let ds := (v.img.cmpLegs r).map fun n =>
      shortest (v.triggers r) ((v.updates (v.img.legOf n).cgrp).later (v.rd (Reg.PWM_LEG_CTRL_SHIFT n)))
    ds.foldl min (ds.headD 0)
  else v.ctrl r (Reg.GRT_CTX_CTRL_DL r.ctx)

/-- The loads of the contexts of an image. Log 34 (DEDUCED). -/
def Surv.loads (v : Surv) : List Load :=
  v.img.ctxs.map fun r => { ent := r, prio := cfgPrio r.cfg, period := v.period r, wcl := v.wcl r, limit := v.limit r }

/-- U of a list of loads as a fraction (R131). Log 98 (DESIGN CHOICE). -/
def utilisation (l : List Load) : Nat × Nat :=
  l.foldl (fun q x => if x.period = 0 then q else (q.1 * x.period + x.wcl * q.2, q.2 * x.period)) (0, 1)

/-- One round of the response time of R131: what the higher levels add within `t`; `once` holds executions counted once. -/
def respOnce (base t : Nat) (higher : List Load) : Nat :=
  base + (higher.map fun x => if x.period = 0 then 0 else (t + x.period - 1) / x.period * (x.wcl + 8)).sum

/-- The response time of R131, iterated until it stands or passes the deadline. -/
def respTime (base limit : Nat) (higher : List Load) : Nat → Nat → Nat
  | 0, t => t
  | fuel + 1, t =>
    let n := respOnce base t higher
    if n = t ∨ limit < n then n else respTime base limit higher fuel n

/-- Whether a context responds beyond its deadline (R131), with executions of retiring contexts counted once (R152). Log 40 (DEDUCED). -/
def tooSlow (l old : List Load) (x : Load) : Bool :=
  let peers := (l.filter fun y => y.prio == x.prio && y.ent.ctx != x.ent.ctx) ++ old.filter fun y => y.prio == x.prio
  let sMax := (peers.map fun y => y.wcl + 8).foldl max 0
  let once := ((old.filter fun y => decide (y.prio < x.prio)).map fun y => y.wcl + 8).sum
  let base := 8 + x.wcl + 10 + sMax + once
  let higher := l.filter fun y => decide (y.prio < x.prio)
  decide (x.limit < base) || decide (x.limit < respTime base x.limit higher (x.limit + 2) base)

/-- The loads on a cell. -/
def onCell (l : List Load) (c : Nat) : List Load := l.filter fun x => cfgCell x.ent.cfg == c

/-- The budget of R131 (CODE 0x0B to 0x0D). -/
def Surv.budget (v : Surv) : Option SurvFail :=
  let l := v.loads
  let full (c : Nat) := let q := utilisation (onCell l c); decide (95 * q.2 < 100 * q.1)
  firstFail [
    (firstIdx 32 full).map fun c => { code := 0x0B, cell := c },
    (l.find? fun x => tooSlow (onCell l (cfgCell x.ent.cfg)) [] x).map fun x =>
      { code := 0x0C, cell := cfgCell x.ent.cfg, ctx := x.ent.ctx },
    (l.find? fun x => x.prio == 0 && cfgCmpOut x.ent.cfg && decide (395 < x.wcl)).map fun x =>
      { code := 0x0D, cell := cfgCell x.ent.cfg, ctx := x.ent.ctx }]

/-- A context entry against its CARRY_FROM in the active image (R152). -/
def carryBad (old : Img) (r : CtxRec) : Bool :=
  r.carry && match old.ctxs.find? fun q => q.ctx == r.carryFrom with
    | none => true
    | some q => cfgCell q.cfg != cfgCell r.cfg || cfgPrio q.cfg != cfgPrio r.cfg || q.stateBase != r.stateBase
        || q.stateLen != r.stateLen

/-- The contexts of the active image that the budget of a swap counts besides (R152). Log 40 (DEDUCED). -/
def leftOver (img old : Img) : List CtxRec :=
  old.ctxs.filter fun q => !img.ctxs.any fun r =>
    r.carry && r.carryFrom == q.ctx && cfgTrig r.cfg == cfgTrig q.cfg && cfgSrc r.cfg == cfgSrc q.cfg

/-- WCL of a context of the active image. -/
def State.oldWcl (s : State) (old : Img) (q : CtxRec) : Nat :=
  ((old.walk q).map Walk.wcl).getD 0
    + (if s.on (Reg.GRT_CTX_CTRL_BUMPLESS q.ctx) then 4 * ((s.stWord (cfgCell q.cfg) q.stateBase).val % 16) else 0)

/-- The larger WCL of a context and the one whose trigger sequence it shares (R152). -/
def State.shared (s : State) (old : Img) (x : Load) : Load :=
  match old.ctxs.find? fun q => x.ent.carry && x.ent.carryFrom == q.ctx && cfgTrig x.ent.cfg == cfgTrig q.cfg
      && cfgSrc x.ent.cfg == cfgSrc q.cfg with
  | none => x
  | some q => { x with wcl := max x.wcl (s.oldWcl old q) }

/-- The context at which the budget of a swap fails, if it fails (R152). Log 40 (DEDUCED). -/
def Surv.swapBudget (v : Surv) (old : Img) : Option SurvFail :=
  let l := v.loads.map (v.st.shared old)
  let rest := (leftOver v.img old).map fun q =>
    { ent := q, prio := cfgPrio q.cfg, period := 0, wcl := v.st.oldWcl old q, limit := 0 : Load }
  firstFail [
    (firstIdx 32 fun c => let q := utilisation (onCell l c); decide (95 * q.2 < 100 * q.1)).map fun c => { code := 0x0E, cell := c },
    (l.find? fun x => tooSlow (onCell l (cfgCell x.ent.cfg)) (onCell rest (cfgCell x.ent.cfg)) x).map fun x =>
      { code := 0x0E, cell := cfgCell x.ent.cfg, ctx := x.ent.ctx }]

/-- The swap checks (R152). -/
def Surv.swapChecks (v : Surv) : Option SurvFail :=
  match v.st.stg.active with
  | none => none
  | some old =>
    let i := v.img
    let grp (x : Img) (g : Nat) := (x.groups.filter fun r => r.group == g, x.legs.filter fun l => l.used && l.group == g)
    firstFail [
      plainFail 0x0E (!bitOf i.flags 0),
      plainFail 0x0E (anyIdx 64 (v.st.modeChange i)),
      plainFail 0x0E (anyIdx 64 fun n => (old.legOf n).used && (i.legOf n).used && (old.legOf n).cgrp != (i.legOf n).cgrp
        && anyIdx 64 fun m => (old.legOf m).cgrp == (old.legOf n).cgrp && v.st.legSwitches m),
      plainFail 0x0E (anyIdx 8 fun g => v.st.on (Reg.GFM_CTRL_EN g) && decide (grp i g ≠ grp old g)),
      plainFail 0x0E (i.safety != old.safety),
      ctxFail 0x0E (carryBad old) i.ctxs,
      v.swapBudget old]

/-- The checks of a survey in the order of R164, up to the first failure. -/
def Surv.check (v : Surv) : Option SurvFail :=
  firstFail ([v.ranges false, firstFail [v.ranges true, v.events], v.disagree, v.frozen, v.words]
    ++ (if v.any then
      [v.sheets, v.programs, ctxFail 0x08 v.ctxBad v.img.ctxs, ctxFail 0x09 v.bumpBad v.img.ctxs, v.formats, v.budget]
      ++ (if v.swap then [v.swapChecks] else [])
    else []))

end Sys2Proof.Machine
end

