-- ==== Sys2Proof/Machine/CommitOps.lean ====
section
/-!
DEFINITION. Commits: the layers of drafted fields by domain (R157, R167), what follows from a committed change of a field, the flip
of the cell copies (R168), and the exchange of an image (R153, R154, R234, R310).
-/

namespace Sys2Proof.Machine

/-- The stage domain of the field under a key. -/
def domOf (k : Nat) : Option Dom :=
  match dRowOf k with
  | some r => (match r.stage with
    | .d d => some d
    | .i => none)
  | none => none

/-- The shadows become the committed values (R167), and no draft is left. -/
def State.shadowsToCom (s : State) : State :=
  { s with regs := { s.regs with com := s.regs.shadow.foldl (fun m e => tabPut m e.1 e.2) s.regs.com, shadow := [] } }

/-- The address range of a carrier group's registers and of a leg's. -/
def cgKeys (g k : Nat) : Bool := keyIn (0x6100 + 0x20 * g) (0x6120 + 0x20 * g) k
def legKeys (n k : Nat) : Bool := keyIn (0x6400 + 0x10 * n) (0x6410 + 0x10 * n) k

/-- A change of SHORT sets the carry of every leg of the group to 0 (R220), from the state `s` before it. -/
def State.dropCarries (t s : State) (g : Nat) : State :=
  if s.fld (Reg.PWM_CG_CFG_SHORT g) = t.fld (Reg.PWM_CG_CFG_SHORT g) then t
  else forIdx 64 (fun n u =>
    if u.legCg n = g then (u.setLeg n { u.leg n with carryShown := none }).setFld (Reg.PWM_LEG_CARRY n) 0 else u) t

/-- The committed fields of a carrier group or leg apply at its period start (R167, R212, R214), at once before the carriers
run and for a leg that is not used. -/
def State.takePwm (s : State) : State :=
  let t := forIdx 8 (fun g t =>
    if !t.pwm.running || ((t.gcar g).at t.now).isStart t.now then
      let u := (t.takeCom (cgKeys g)).dropCarries t g
      u.setGcar g ((u.gcar g).settle u.now)
    else t) s
  forIdx 64 (fun n t =>
    if !t.pwm.running || !(t.legRec n).used || ((t.leg n).car.at t.now).isStart t.now then
      let u := t.takeCom (legKeys n)
      u.setLeg n { u.leg n with car := (u.leg n).car.settle u.now }
    else t) t

/-- The layout that the committed fields of a group place from `T` on (R212). -/
def State.recastGroup (s : State) (T g : Nat) : State :=
  let c := s.gcar g
  s.setGcar g { c with next := some (c.cur.recast T (s.comFld (Reg.PWM_CG_HALF_HALF g)) (s.comFld (Reg.PWM_CG_PHASE_PHASE g))
    (s.comFld (Reg.PWM_CG_CFG_UPDATE g) == 1) (s.comFld (Reg.PWM_CG_CFG_SHAPE g) == 1)) }

/-- The layout of a leg that follows from its group's (R214). -/
def State.recastOne (s : State) (T n : Nat) : State :=
  let g := s.gcar (s.legCg n)
  let r := s.leg n
  let c := r.car.cur.recastLeg T (g.next.getD g.cur) (s.comFld (Reg.PWM_LEG_CTRL_SHIFT n))
  s.setLeg n { r with car := { r.car with next := some c } }

/-- Whether a commit changes the field under a key. -/
def changes (s t : State) (f : Fld) : Bool := decide (s.comFld f ≠ t.comFld f)

/-- The layout of a leg with USED = 0 (R214): its group's, delayed by its SHIFT, from `T` on. -/
def State.recastUnused (s : State) (n : Nat) : State :=
  let g := s.gcar (s.legCg n)
  let shift := s.comFld (Reg.PWM_LEG_CTRL_SHIFT n)
  s.setLeg n { s.leg n with car := { cur := g.cur.delayed shift, next := g.next.map fun c => c.delayed shift } }

/-- The layouts of the carriers after a commit at `T`, from the state `s` before it (R212, R214). -/
def State.recastAll (t s : State) (T : Nat) : State :=
  if !t.pwm.running then t
  else
    let moved (g : Nat) := [Reg.PWM_CG_HALF_HALF g, Reg.PWM_CG_PHASE_PHASE g, Reg.PWM_CG_CFG_UPDATE g, Reg.PWM_CG_CFG_SHAPE g].any
      (changes s t)
    let u := forIdx 8 (fun g u => if moved g then u.recastGroup T g else u) t
    forIdx 64 (fun n u =>
      if !(moved (u.legCg n) || changes s t (Reg.PWM_LEG_CTRL_SHIFT n) || s.legCg n != u.legCg n) then u
      else if (u.legRec n).used then u.recastOne T n
      else u.recastUnused n) u

/-- Before the carriers run, what a commit changes in their layouts applies at once, and they start with it (R212, R214). -/
def State.relay (s : State) : State := if s.pwm.running ∨ s.pwm.origin = 0 then s else s.startCarriers s.pwm.origin

/-- A timer whose PERIOD changes gives its next tick one new period after the commit instant; a PERIOD of 0 stops it (R108).
Log 47 (DEDUCED). -/
def State.retime (t s : State) (T : Nat) : State :=
  forIdx 8 (fun k u =>
    if changes s t (Reg.GRT_TMR_PERIOD k) && tabGet 0 u.eng.timerNext k != 0 || (changes s t (Reg.GRT_TMR_PERIOD k) && u.trp.armed) then
      let p := u.fld (Reg.GRT_TMR_PERIOD k)
      { u with eng := { u.eng with timerNext := tabSet 0 u.eng.timerNext k (if p = 0 then 0 else T + p) } }
    else u) t

/-- RV, XV and RETUNE_EN set the effective impedance, and narrower bounds clamp it (R45, R330). -/
def State.revalueZ (t s : State) (g : Nat) : State :=
  let r := t.grp g
  if changes s t (Reg.GFM_ZV_P_RV g) || changes s t (Reg.GFM_ZV_P_XV g) || changes s t (Reg.GFM_CTRL_RETUNE_EN g) then
    (t.setEff g (tenThou (t.fld (Reg.GFM_ZV_P_RV g)), tenThou (t.fld (Reg.GFM_ZV_P_XV g)))).setGen g { t.gen g with retune := none }
  else if t.on (Reg.GFM_CTRL_RETUNE_EN g) then t.setEff g (t.zBound g (r.rvEff, r.xvEff))
  else t

/-- A commit that changes a field of a recorder, of its sequencer or of its probes returns the recorder to IDLE; in DONE it keeps
its results (R324). -/
def State.resetRecorders (t s : State) : State :=
  let keys := (s.regs.shadow.filter fun e => keyIn 0xB000 0xC000 e.1).map (·.1)
  let probes (k : Nat) := (List.range 32).filter fun p => bitOf (s.fld (Reg.CTR_REC_PROBES k)) p ||
    s.fld (Reg.CTR_REC_CFG_MPROBE k) == p ||
    anyIdx 4 fun j => s.fld (Reg.CTR_SEQ_COND_PROBE k j) == p && s.fld (Reg.CTR_SEQ_COND_COND k j) != 6
  let hit (k : Nat) := keys.any fun x => keyIn (0xB200 + 0x40 * k) (0xB240 + 0x40 * k) x
    || keyIn (0xB400 + 0x40 * k) (0xB440 + 0x40 * k) x || (probes k).any fun p => keyAddr x == 0xB100 + 4 * p
  forIdx 4 (fun k u =>
    if hit k then (u.setFld (Reg.CTR_SEQ_STATUS_RSTATE k) recIDLE).seqEnter k 0 else u) t

/-- The inputs that the VT and IO entries of a group sample (R399). -/
def State.chainInputs (s : State) (g : Nat) : List Nat :=
  match s.stg.active, s.groupRec g with
  | some i, some r => [r.vtA, r.vtB, r.vtC, r.ioA, r.ioB, r.ioC].filterMap fun e => (i.sched.ent e).bind i.sched.inputOf
  | _, _ => []

/-- Whether a commit about to apply changes the measurement chain of a group (R399). -/
def State.chainChanges (s : State) (g : Nat) : Bool :=
  let moved (f : Fld) := decide (s.shadowFld f ≠ s.comFld f)
  moved (Reg.GFM_BASE_V g) || moved (Reg.GFM_BASE_I g)
    || ((s.chainInputs g).any fun i => moved (Reg.ADC_CAL_G i) || moved (Reg.ADC_CAL_OFS i)
      || bitOf (s.shadowFld (Reg.ADC_INV (i / 32))) (i % 32) != bitOf (s.comFld (Reg.ADC_INV (i / 32))) (i % 32))
    || (s.stg.withImg && match s.groupRec g, (s.stg.staged.getD {}).groups.find? fun r => r.group == g with
      | some a, some b => decide ([a.vtA, a.vtB, a.vtC, a.ioA, a.ioB, a.ioC] ≠ [b.vtA, b.vtB, b.vtC, b.ioA, b.ioB, b.ioC])
      | none, none => false
      | _, _ => true)

/-- The calibration points that a commit of ADC_CAL makes old (R207). -/
def State.forgetCal (t s : State) : State :=
  let moved (i : Nat) := changes s t (Reg.ADC_CAL_G i) || changes s t (Reg.ADC_CAL_OFS i)
  { t with adc := { t.adc with zeroDone := t.adc.zeroDone.filter fun i => !moved i,
                               spanDone := t.adc.spanDone.filter fun i => !moved i } }

/-- Whether an execution has begun and not ended. -/
def CtxRun.busy (r : CtxRun) : Bool :=
  r.phase == .running || r.phase == .preempted || r.phase == .waiting || r.phase == .again

/-- Coefficients and bundles flip to the copies that the survey built, and the banks of their DRAM mirror with them (R95); executions
in progress run on (R168). Log 38 (DEDUCED). -/
def State.flip (s : State) : State :=
  let e := s.eng
  { s with
    mem := { s.mem with bank := !s.mem.bank },
    eng := { e with coef := e.coefStg, coefOld := e.coef, coefStg := e.coef, bun := e.bunStg, bunOld := e.bun, bunStg := e.bun,
                    found := e.found.map foundFlip,
                    ctx := e.ctx.map fun x => (x.1, if x.2.busy then { x.2 with old := true } else x.2) } }

/-- The gain of a pair that the commit flips away. -/
def State.gainBefore (s : State) (b : BumpPair) : Nat := (tabGet {} s.eng.coefOld (s.cellOf b.ctx * 1024 + b.gain)).val

/-- The bumpless steps that the survey listed fall due at each context's next execution, after those of earlier commits that still
wait for it (R173). Log 145 (DEDUCED). -/
def State.dueBumps (s : State) : State :=
  let kept := s.stg.bump.map fun b => { b with gNew := some (b.gNew.getD (s.gainBefore b)) }
  let l := s.stg.bumpNext.map fun b => { b with gOld := s.gainBefore b }
  (l.map (·.ctx)).foldl (fun t n => t.setCtx n { t.ctx n with bump := true })
    { s with stg := { s.stg with bump := kept ++ l, bumpNext := [] } }

/-- The bumpless steps still due at a swap: those of the contexts whose state the new image carries (R154). Log 145 (DEDUCED). -/
def carryBumps (i : Img) (l : List BumpPair) : List BumpPair :=
  (i.ctxs.filter fun r => r.carry).flatMap fun r =>
    (l.filter fun b => b.ctx == r.carryFrom).map fun b => { b with ctx := r.ctx }

/-- The number of an old execution of context `n` (R153). Log 139 (DEDUCED). -/
def retired (n : Nat) : Nat := if n < 128 then n + 128 else n

/-- The tables of a context's words with its executions renumbered. Log 139 (DEDUCED). -/
def renumber (m : Tab Nat) (ns : List Nat) : Tab Nat :=
  let mine (k : Nat) := ns.contains (k / 32)
  (m.filter fun e => !mine e.1) ++ ((m.filter fun e => mine e.1).map fun e => (e.1 + 128 * 32, e.2))

/-- The fetches of a channel with their contexts renumbered. -/
def DmaCh.renumber (r : DmaCh) (ns : List Nat) : DmaCh :=
  { r with jobs := r.jobs.map fun j => if ns.contains j.ctx then { j with ctx := retired j.ctx } else j }

/-- The executions of the old image that are in progress go on under their old numbers' places; its ready triggers are dropped
(R153). Log 139 (DEDUCED). -/
def State.retireRuns (s : State) : State :=
  let ns := ((s.eng.ctx.filter fun x => x.2.busy && decide (x.1 < 128)).map (·.1))
  let ready := (s.eng.ctx.filter fun x => x.2.phase == .ready && decide (x.1 < 128)).length
  let e := s.eng
  let moved := (e.ctx.filter fun x => ns.contains x.1).map fun x => (x.1 + 128, x.2)
  let t := { s with
    eng := { e with ctx := (e.ctx.filter fun (x : Nat × CtxRun) => decide (128 ≤ x.1)) ++ moved,
                    cfgs := (e.cfgs.filter fun (x : Nat × Nat) => decide (128 ≤ x.1))
                      ++ ((e.cfgs.filter fun (x : Nat × Nat) => ns.contains x.1).map fun (x : Nat × Nat) => (x.1 + 128, x.2)),
                    cfmaps := ((List.range 32).map fun c => (32 + c, tabGet 0x55 e.cfmaps c)).filter fun (x : Nat × Nat) => x.2 != 0x55,
                    running := e.running.map fun (x : Nat × Option Nat) => (x.1, x.2.map fun n => if ns.contains n then retired n else n),
                    snap := renumber e.snap ns, outPorts := renumber e.outPorts ns },
    mem := { s.mem with ch := s.mem.ch.map fun (x : Nat × DmaCh) => (x.1, x.2.renumber ns) } }
  let u := t.countN Reg.STG_ATL_SWAP_CNT_ABAND_CNT ready
  if ready = 0 then u else u.raise Reg.STG_ATL_STATUS_ABAND_S

/-- The fields of a context that go with its status and counters (R154). -/
def ctxStatusFlds (n : Nat) : List Fld :=
  [Reg.GRT_CTX_CTRL_EN n, Reg.GRT_CTX_STATUS_SAT_S n, Reg.GRT_CTX_STATUS_ASAT_S n, Reg.GRT_CTX_STATUS_POIS_S n,
   Reg.GRT_CTX_STATUS_NAV_S n, Reg.GRT_CTX_STATUS_DLMISS_S n, Reg.GRT_CTX_STATUS_OVRN_S n, Reg.GRT_CTX_STATUS_TRGLOST_S n,
   Reg.GRT_CTX_STATUS_TICKW_S n, Reg.GRT_CTX_STATUS_DMAF_S n, Reg.GRT_CTX_STATUS_COLLIDE_S n, Reg.GRT_CTX_STATUS_MISS_RUN n,
   Reg.GRT_CTX_CNT_DL_CNT n, Reg.GRT_CTX_CNT_ESC_CNT n, Reg.GRT_CTX_LEN_LAST n]

/-- The D fields of a context's CTRL word. -/
def ctxDFlds (n : Nat) : List Fld := [Reg.GRT_CTX_CTRL_BUMPLESS n, Reg.GRT_CTX_CTRL_ESC_N n, Reg.GRT_CTX_CTRL_DL n]

/-- A context of the new image begins (R139, R154): carried from its CARRY_FROM in the state `s` before the swap, or fresh.
Log 35 (DEDUCED). -/
def State.bringCtx (t s : State) (i : Img) (r : CtxRec) : State :=
  let n := r.ctx
  let t1 := (ctxDFlds n).foldl (fun u f => match tabFind s.regs.shadow f.key with
    | some _ => u
    | none => u.setFld f (r.ctrl / 2 ^ f.lo)) t
  let t2 := { t1 with eng := { t1.eng with cfgs := tabPut t1.eng.cfgs n r.cfg } }
  if r.carry && s.stg.active.isSome then
    let q := s.ctx r.carryFrom
    let t3 := ((ctxStatusFlds n).zip (ctxStatusFlds r.carryFrom)).foldl (fun u f => u.setFld f.1 (s.fld f.2)) t2
    t3.setCtx n { lastTrig := q.lastTrig, wdMisses := q.wdMisses, prevReal := q.prevReal, first := q.first, bump := q.bump }
  else
    let t3 := (ctxStatusFlds n).foldl (fun u f => u.setFld f 0) t2
    ((t3.setFld (Reg.GRT_CTX_CTRL_EN n) (r.ctrl % 2)).setCtx n {}).loadInit i r

/-- The record of a DMA channel as the sheet gives it (R308). A changed one starts afresh, and the requests of the old one that are in the
tracker complete as they were accepted (R310). Log 172 (DEDUCED). -/
def State.bringChannel (t s : State) (i : Img) (c : Nat) : State :=
  let w := wordAt i.dma (4 + 4 * c)
  let k := w % 4
  let t1 := ((((t.setFld (Reg.DMA_CH_CFG_KIND c) k).setFld (Reg.DMA_CH_CFG_DOM c) (w / 4)).setFld (Reg.DMA_CH_CFG_ARES c) (w / 64)).setFld
    (Reg.DMA_CH_CFG_CTX c) (w / 256)).setFld (Reg.DMA_CH_CFG_CLASS c)
      (if k = kFETCH then 1 else if k = kSTREAM then 2 else if k = kCOPY then 3 else 0)
  let old := (s.stg.active.map fun a => wordAt a.dma (4 + 4 * c)).getD 0
  if s.stg.active.isNone || old == w then t1
  else
    let r := t1.dch c
    let old := r.flight.toList.map fun f => { f with left := f.left + f.want, want := 0 }
    let t2 := (t1.setDch c { r with halted := false, copy := none, stalled := false, wrote := 0, full := false, flight := none,
                                    orphans := r.orphans ++ old }).leaveQueue (s.reqClass c) c
    if k = kSTREAM then (t2.setFld (Reg.DMA_CH_WPTR c) 0).setFld (Reg.DMA_CH_RPTR c) 0 else t2

/-- Latches of sources that the new trip sheet disables are cleared, and forcing follows the new routing; a leg that stays FORCED takes
the safe level of the new sheet (R234). -/
def State.bringTrips (t s : State) : State :=
  let u := { t with trp := { t.trp with latch := t.trp.latch.filter fun k => t.srcEn k } }.settleForcing
  forIdx 64 (fun n v =>
    if s.fld (Reg.PWM_LEG_STATUS_STATE n) == legFORCED && v.fld (Reg.PWM_LEG_STATUS_STATE n) == legFORCED
        && s.legSafe n != v.legSafe n then v.forceLeg n else v) u

/-- The staged slot becomes the active slot (R153). -/
def State.takeSlot (t : State) : State := t.setFld Reg.STG_ATL_STATUS_ACT_SLOT (t.fld Reg.STG_ATL_STATUS_STG_SLOT)

/-- The identity registers of the image that becomes active (R156). Log 146 (DEDUCED). -/
def State.nameImage (t : State) (i : Img) : State :=
  (((((t.setFld Reg.STG_ATL_ACT_ID_LO i.idLo).setFld Reg.STG_ATL_ACT_ID_HI i.idHi).setFld Reg.STG_ATL_ACT_VER i.ver).setFld
    Reg.STG_ATL_ACT_INFO_SEC_VER i.secVer).setFld Reg.STG_ATL_ACT_INFO_KEY_SLOT i.keySlot)

/-- State memory at a swap (R141, R154): the words of the new image's sheets, 0 where no sheet supplies one; the words of the contexts
that the new image carries stay as they stand. The memory has one copy, so executions of the old image that are still in progress
read and write these words. Log 191 (DESIGN CHOICE). -/
def State.swapWords (s : State) (i : Img) : Tab MWord :=
  ((i.ctxs.filter fun r => r.carry && s.stg.active.isSome).foldl (fun m r =>
    forIdx r.stateLen (fun k m => let a := cfgCell r.cfg * 512 + (r.stateBase + k) % 512; tabSet {} m a (tabGet {} s.eng.st a)) m)
    (loadSheets 512 i.inits))

/-- The staged image becomes the active one at `T` (R153, R154); at boot it is the first, and nothing retires. The
input ports of its contexts keep the words that the old routing delivered under the same numbers. Log 190 (DESIGN CHOICE). -/
def State.swapImage (s : State) (T : Nat) : State :=
  match s.stg.staged with
  | none => s
  | some i =>
    let first := s.stg.active.isNone
    let t0 := s.retireRuns
    let t1 := { t0 with stg := { t0.stg with active := some i, gen := t0.stg.gen + 1, staged := none, retiring := s.stg.active, withImg := false,
                                             bump := carryBumps i t0.stg.bump },
                        eng := { t0.eng with cfmaps := i.progs.foldl (fun m (p : CellSheet) => tabSet 0x55 m p.cell p.cfmap) t0.eng.cfmaps } }
    let t2 := { t1 with eng := { t1.eng with st := s.swapWords i } }
    let t3 := i.ctxs.foldl (fun u r => u.bringCtx s i r) t2
    let t4 := forIdx 32 (fun c u => u.bringChannel s i c) t3
    let t5 := (t4.bringTrips s).nameImage i
    if first then (t5.takeSlot).setFld Reg.STG_ATL_STATUS_STATE 1
    else (t5.stamp Reg.STG_ATL_SWAP_STAMP_LO Reg.STG_ATL_SWAP_STAMP_HI T).setFld Reg.STG_ATL_STATUS_STATE 5

/-- Whether the field under a key takes effect in domain C at the commit instant: CLK_SPREAD waits for q = 0 while spreading is on
(R269). -/
def State.atOnce (s : State) (k : Nat) : Bool :=
  match domOf k with
  | some .c => true
  | some .clk => keyAddr k != Reg.CLK_SPREAD_EN.addr || !s.on Reg.CLK_SPREAD_EN
  | _ => false

/-- The staging process rests (R158): DRAFTING while a draft is held, else IDLE. -/
def State.stgRest (s : State) : State :=
  s.setFld Reg.STG_STATUS_STATE (if s.regs.shadow.isEmpty && s.stg.cdraft.isEmpty then sIDLE else sDRAFTING)

/-- A commit applies at `T` (R153, R167, R168): the drafts, the copies of every cell, and the staged image where the commit
takes one. Log 38 (DEDUCED), 45 (DESIGN CHOICE). -/
def State.applyCommit (s : State) (T : Nat) : State :=
  let s00 := forIdx 8 (fun g t => if s.chainChanges g then t.calChange g else t) s
  let s0 := if anyIdx 8 s.chainChanges then s00.sealOp 3 else s00
  let withImg := s0.stg.withImg && s0.stg.staged.isSome
  let t0 := if withImg then s0.swapImage T else s0
  let t1 := (t0.shadowsToCom).takeCom t0.atOnce
  let t2 := t1.flip
  let t3 := (((t2.recastAll s T).retime s T).resetRecorders s).forgetCal s
  let t4 := forIdx 8 (fun g u => u.revalueZ s g) t3
  let t5 := { (t4.dueBumps).takePwm.relay with
    stg := { t4.dueBumps.stg with cdraft := [], waiting := false, retire := [], withImg := false, go := false } }
  let t6 := ((t5.followCommit s).brkAll).takeDigests
  (((t6.stamp Reg.STG_DONE_STAMP_LO Reg.STG_DONE_STAMP_HI T).raise Reg.STG_STATUS_COMMIT_S).count Reg.STG_CNT_COMMIT_CNT).stgRest

/-- The contexts of the active image that a commit with the staged image retires (R169). -/
def State.retiringCtxs (s : State) : List Nat :=
  match s.stg.active, s.stg.staged with
  | some a, some b =>
    if s.stg.withImg then (a.ctxs.map CtxRec.ctx).filter fun n => !b.ctxs.any fun r => r.carry && r.carryFrom == n else []
  | _, _ => []

/-- A commit that waits for fetches finds the last of them complete (R169): T' follows, by the MODE and CGRP that stand then.
Log 193 (DESIGN CHOICE). -/
def State.noteDrain (s : State) : State :=
  if s.stgState == sAPPLYING && s.stg.waiting && decide (s.now ≤ s.stg.commitAt + 20000) && !(s.stg.retire.any s.fetchBusy) then
    let at' := if s.fld Reg.STG_COMMIT_CFG_MODE = 1 then s.now + 4000
      else (s.gcar (s.fld Reg.STG_COMMIT_CFG_CGRP)).nextStart (s.now + 3999)
    { s with stg := { s.stg with waiting := false, commitAt := at' } }
  else s

end Sys2Proof.Machine
end

