-- ==== Sys2Proof/Machine/AdcOps.lean ====
section
/-!
DEFINITION. The operations of sampling and conversion: passes and slots (R179 to R183), averaging and calibration (R184 to R186),
tags (R194 to R198), items and their delivery (R188 to R193).
-/

namespace Sys2Proof.Machine

/-- A converter leaves the settings of a pass that a commit met (R200): where the schedule has changed, the partial sums of its
entries are discarded. -/
def State.releaseHeld (s : State) (c : Nat) : State :=
  match (s.conv c).held with
  | none => s
  | some h =>
    let t := s.setConv c { s.conv c with held := none }
    if h.sched = s.adc.sched then t
    else
      let l := ((h.sched.ents ++ s.adc.sched.ents).filter fun r => r.conv == c).map (·.entry)
      { t with adc := { t.adc with entry := l.foldl (fun m e => tabSet {} m (entryKey c e) {}) t.adc.entry } }

/-- A sequence begins at a start instant (R179, R180, R183). Log 47 (DEDUCED), 111 (DEDUCED). -/
def State.beginSeq (s0 : State) (c t : Nat) (inj : Bool) : State :=
  let s := s0.releaseHeld c
  let r := s.conv c
  s.setConv c { r with busy := true, held := none, passStart := t, slot := 0, injRun := inj, slipped := false,
                       passes := if inj then r.passes else r.passes + 1 }

/-- The sequence in progress has converted its last slot: a slipped pass starts at its end (R182). -/
def State.endSeq (s : State) (c : Nat) : State :=
  let r := s.conv c
  let e := s.passEnd c
  let u := if s.now < e + 5 then s else s.releaseHeld c
  let t := u.setConv c { u.conv c with busy := decide (s.now < e + 5) }
  if r.slipped && (s.nextSlot c r.slot).isNone then
    (t.setConv c { t.conv c with busy := false }).beginSeq c e false
  else t

/-- Whether a start instant of a converter's regular sequence falls now (R180). -/
def State.startNow (s : State) (c : Nat) : Bool :=
  let r := s.convRec c
  s.pwm.running && r.slotCnt != 0 && decide (s.pwm.origin + r.offset ≤ s.now)
    && ((s.gcar r.lockCgrp).at (s.now - r.offset)).isUpdate (s.now - r.offset)

/-- The next start instant of a converter's regular sequence after now, where one exists. Log 47 (DEDUCED). -/
def State.nextStartOf (s : State) (c : Nat) : Option Nat :=
  let r := s.convRec c
  if s.pwm.running && r.slotCnt != 0 then some ((s.gcar r.lockCgrp).nextUpdate (s.now - r.offset) + r.offset) else none

/-- What a conversion gives: its code as an integer, and its tags. -/
structure Sample where
  code : Int := 0
  orng : Bool := false
  bad : Bool := false
  deriving DecidableEq, Repr

/-- Whether a raw code is at full scale, over-range (R8). -/
def fullScale (v : BitVec 16) : Bool := v == 0x7FFF#16 || v == 0x8001#16

/-- The raw sample that a conversion gives by itself (R8, R184, R194, R195). -/
def sampleOf : Sampled → Sample
  | .code v => if v = 0x8000#16 then { bad := true } else { code := v.toInt, orng := fullScale v }
  | .over neg | .clamp neg => { code := if neg then -32767 else 32767, orng := true }
  | .failed => { bad := true }

/-- The input that a slot converts, where it has a number (R176). -/
def slotInput (c w : Nat) : Option Nat :=
  match slotCh w with
  | 0 => some (2 * c)
  | 1 => some (2 * c + 1)
  | 2 => some (64 + 2 * c)
  | 3 => some (65 + 2 * c)
  | 5 => some (64 + 2 * c)
  | 6 => some (65 + 2 * c)
  | _ => none

/-- The converter's own checks (R197): the record of a failure, and its end after 16 conversions that pass. Log 111 (DEDUCED). -/
def State.convCheck (s : State) (c : Nat) (failed : Bool) : State :=
  if failed then
    (((s.raiseBit Reg.ADC_CONVF_S c).raise Reg.ADC_STATUS_CONVF_S).setFld Reg.ADC_CONVF_NOW
      (setBit (s.fld Reg.ADC_CONVF_NOW) c)).setConv c { s.conv c with okRun := 0 }
  else
    let n := (s.conv c).okRun + 1
    let t := s.setConv c { s.conv c with okRun := min n 16 }
    if 16 ≤ n then t.setFld Reg.ADC_CONVF_NOW (clearBit (s.fld Reg.ADC_CONVF_NOW) c) else t

/-- Tag runs after a conversion (R194, R195, R198): a new run of 2 or 8 never shortens the one in progress. -/
def State.tagRun (s : State) (c : Nat) (x : Sampled) : State :=
  let r := s.conv c
  let run := match x with
    | .over _ => 2
    | .clamp _ => 8
    | _ => 0
  s.setConv c { r with tagLeft := max (r.tagLeft - 1) run, swLeft := r.swLeft - 1 }

/-- The records of an over-range or clamped conversion (R8, R185, R194, R195). -/
def State.overRange (s : State) (i : Option Nat) (x : Sampled) : State :=
  match x with
  | .over _ => (s.count Reg.ADC_CNT_A_ORNG_CNT).raise Reg.ADC_STATUS_XTALK_S
  | .clamp _ =>
    let t := (s.count Reg.ADC_CNT_A_ORNG_CNT).raise Reg.ADC_STATUS_XTALK_S
    (match i with
      | some n => ((t.raiseBit (Reg.ADC_CLAMP_S (n / 32)) (n % 32)).raise Reg.ADC_STATUS_CLAMP_S).count Reg.ADC_CNT_A_CLAMP_CNT
      | none => t)
  | .code v => if fullScale v then s.count Reg.ADC_CNT_A_ORNG_CNT else s
  | .failed => s

/-- An open-wire test of external input `x` with a raw code (R196): `rawLast` holds the latest normal code with bit 16.
Log 111 (DEDUCED). -/
def State.openTest (s : State) (c x : Nat) (m : Sample) (failing : Bool) : State :=
  let last := tabGet 0 s.adc.rawLast x
  if m.bad || m.orng || failing || !bitOf last 16 then s
  else
    let d := (m.code - signedOf 16 (last % 2 ^ 16)).natAbs
    let now := Reg.ADC_OPEN_NOW (x / 32)
    if s.passFld c Reg.ADC_OW_CFG_OW_THR ≤ d then
      ((s.raiseBit (Reg.ADC_OPEN_S (x / 32)) (x % 32)).raise Reg.ADC_STATUS_OPEN_S).setFld now (setBit (s.fld now) (x % 32))
    else s.setFld now (clearBit (s.fld now) (x % 32))

/-- Whether external input `x` is open now. -/
def State.isOpen (s : State) (x : Nat) : Bool := bitOf (s.fld (Reg.ADC_OPEN_NOW (x / 32))) (x % 32)

/-- A code bounded to the scale, with whether it lies beyond (R186). -/
def boundCode (c : Int) : Int × Bool :=
  if 32767 ≤ c then (32767, true) else if c ≤ -32767 then (-32767, true) else (c, false)

/-- Calibration and inversion (R186). -/
def calibrate (a ofs g : Int) (inv : Bool) : Int :=
  let c := roundDiv ((8 * a - ofs) * (131072 + g)) 1048576
  if inv then -c else c

/-- The code of an averaged sum (R184, R186): `i` is the entry's input, none for a monitor. -/
def State.finishCode (s : State) (c : Nat) (i : Option Nat) (a : Int) : Int × Bool :=
  match i with
  | none => boundCode a
  | some n =>
    boundCode (calibrate a (signedOf 16 (s.passFld c (Reg.ADC_CAL_OFS n))) (signedOf 16 (s.passFld c (Reg.ADC_CAL_G n)))
      (bitOf (s.passFld c (Reg.ADC_INV (n / 32))) (n % 32)))

/-- The stamp of the sample of slot `k` (R190). -/
def slotStamp (start k : Nat) : Nat := start + (roundDiv (5 * (33 + 64 * k) : Nat) 4).toNat

/-- A calibration measurement takes a result of its entry (R206). -/
def State.calTake (s : State) (e : Nat) (x : EntryRun) : State :=
  match s.adc.cal with
  | none => s
  | some m =>
    if m.entry ≠ e ∨ m.left = 0 ∨ m.bad = true then s
    else if x.invalid || x.orng then { s with adc := { s.adc with cal := some { m with bad := true } } }
    else { s with adc := { s.adc with cal := some { m with total := m.total + x.sum, left := m.left - 1 } } }

/-- Whether a reset of a converter's queue runs (R278): its reader sees it empty. A result that its writer finds no place for waits there,
behind the items of the queue (R277). Log 162 (DESIGN CHOICE). -/
def State.convReset (s : State) (c : Nat) : Bool := s.queueReset c

/-- The places of a converter's queue (R280). -/
def convDepth : Nat := 4

/-- An entry that has its N samples yields an item for the crossing (R184 to R186, R190), with all that the schedule of its pass gives it
(R200). -/
def State.finishEntry (s : State) (c : Nat) (r : EntRec) (x : EntryRun) (stamp : Nat) : State :=
  let d := s.passSched c
  let img : Img := { (s.stg.active.getD {}) with sched := d }
  let a := roundShift x.sum r.shift
  let f := s.finishCode c (d.inputOf r) a
  let item : Item :=
    { entry := r.entry, code := if x.invalid then 0x8000 else unsignedOf 16 f.1, orng := x.orng || (!x.invalid && f.2), xtalk := x.xtalk,
      pllsw := x.pllsw, opn := x.opn, inval := x.inval, stamp := stamp, ks := scaleWord s.fld img r, input := d.inputOf r,
      stream := r.stream, ch := r.dmaCh, gen := s.passGen c }
  let t := s.calTake r.entry x
  let t1 := if t.queueClash c then t else t.setConv c { t.conv c with queue := (t.conv c).queue ++ [item] }
  { t1 with adc := { t1.adc with entry := tabSet {} t1.adc.entry (entryKey c r.entry) {} } }

/-- A sample enters the sum of its entry (R184, R185). -/
def State.collect (s : State) (c w k : Nat) (m : Sample) (xtalk pllsw opn : Bool) : State :=
  match (s.passSched c).ent (slotEntry w) with
  | none => s
  | some r =>
    let x := tabGet {} s.adc.entry (entryKey c r.entry)
    let y : EntryRun :=
      { sum := x.sum + m.code, cnt := x.cnt + 1, invalid := x.invalid || m.bad || opn, orng := x.orng || m.orng, xtalk := x.xtalk || xtalk,
        pllsw := x.pllsw || pllsw, opn := x.opn || opn, inval := x.inval || m.bad }
    if r.nm1 < y.cnt then s.finishEntry c r y (slotStamp (s.conv c).passStart k)
    else { s with adc := { s.adc with entry := tabSet {} s.adc.entry (entryKey c r.entry) y } }

/-- A conversion of slot `k` completes on a converter (R184, R185, R194 to R198). -/
def State.convert (s : State) (c k : Nat) (x : Sampled) : State :=
  let w := (s.slotsNow c).getD k 7
  let i := slotInput c w
  let failing := bitOf (s.fld Reg.ADC_CONVF_NOW) c || decide (x = .failed)
  let m := if failing then { bad := true } else sampleOf x
  let xtalk := decide ((s.conv c).tagLeft ≠ 0)
  let pllsw := decide ((s.conv c).swLeft ≠ 0)
  let s1 := ((s.convCheck c (decide (x = .failed))).overRange i x).tagRun c x
  let ext := (i.getD 0) - 64
  if slotCh w = 5 ∨ slotCh w = 6 then s1.openTest c ext m failing
  else
    let opn := (slotCh w == 2 || slotCh w == 3) && s1.isOpen ext
    let raw := if m.bad || m.orng then 0 else unsignedOf 16 m.code + 2 ^ 16
    let s2 := if slotCh w = 2 ∨ slotCh w = 3 then
        { s1 with adc := { s1.adc with rawLast := tabSet 0 s1.adc.rawLast ext raw } }
      else s1
    s2.collect c w k m xtalk pllsw opn

/-- The Q3.28 value of a code (R188): NaV for the invalid code. -/
def scaleCode (code ks : Nat) : Nat :=
  if code = 0x8000 then navN else satN (roundDiv (signedOf 16 code * ks) 4096)

/-- The tag bits [127:121] of a stream record (R191). -/
def Item.tagBits (x : Item) : Nat :=
  asNat x.orng + 2 * asNat x.xtalk + 4 * asNat x.pllsw + 8 * asNat x.opn + 16 * asNat x.inval

/-- A stream record joins its converter's queue of 16, or is dropped (R191, R192). A marker is written as soon as the queue has room
again (`dropRecs`), so that none is owed while it has. -/
def State.streamPush (s : State) (c : Nat) (x : Item) (v : Nat) : State :=
  let r := s.conv c
  let rec1 : StreamRec :=
    { stamp := x.stamp, value := v, code := x.code, entry := x.entry, tags := x.tagBits, cross := s.adc.crossed,
      ch := x.ch }
  if r.streamQ.length < 16 then
    { s with adc := { s.adc with conv := tabSet {} s.adc.conv c { r with streamQ := r.streamQ ++ [rec1] },
                                 crossed := s.adc.crossed + 1 } }
  else
    let t := ((s.count Reg.ADC_CNT_B_GAP_CNT).raiseBit Reg.ADC_GAP_S c).raise Reg.ADC_STATUS_GAP_S
    t.setConv c { r with gapCount := r.gapCount + 1, gapStamp := if r.gapCount = 0 then x.stamp else r.gapStamp,
                         gapEntry := if r.gapCount = 0 then x.entry else r.gapEntry,
                         gapCh := if r.gapCount = 0 then x.ch else r.gapCh }

/-- ADC_RES[e] takes a result (R193, R210). -/
def State.showResult (s : State) (x : Item) : State :=
  let e := x.entry
  ((((((s.setFld (Reg.ADC_RES_CODE e) x.code).setFld (Reg.ADC_RES_ORNG e) (asNat x.orng)).setFld (Reg.ADC_RES_XTALK e)
    (asNat x.xtalk)).setFld (Reg.ADC_RES_PLLSW e) (asNat x.pllsw)).setFld (Reg.ADC_RES_OPEN e) (asNat x.opn)).setFld
    (Reg.ADC_RES_INVAL e) (asNat x.inval)).setFld (Reg.ADC_RES_SEQ e) (s.fld (Reg.ADC_RES_SEQ e) + 1)

/-- An invalid or tagged sample of a group's VT or IO entries abandons its burst (R327). -/
def State.burstSample (s : State) (e : Nat) (bad : Bool) : State :=
  if !bad then s
  else forIdx 8 (fun g t =>
    match t.groupRec g with
    | none => t
    | some r => if [r.vtA, r.vtB, r.vtC, r.ioA, r.ioB, r.ioC].contains e then t.abandonBurst g else t) s

/-- Whether an item is of a pass under a schedule that is no longer the active image's (R200). Log 171 (DEDUCED). -/
def State.oldItem (s : State) (x : Item) : Bool := x.gen != s.stg.gen

/-- A result reaches the crossbar (R185, R189): its destinations, ADC_RES, Contour, the stream, and the triggers on it. One of a pass under
an old schedule reaches no port and triggers no context of the new image (R200): entries lead to context ports alone (R142).
Log 171 (DEDUCED). -/
def State.deliverItem (s : State) (c : Nat) (x : Item) : State :=
  let e := x.entry
  let v := scaleCode x.code x.ks
  let old := s.oldItem x
  let s1 := s.showResult x
  let s2 := if x.orng then (s1.raiseBit (Reg.ADC_ORNG_S (e / 32)) (e % 32)).raise Reg.ADC_STATUS_ORNG_S else s1
  let last := match x.input with
    | some i => tabSet 0 s2.adc.inLast i (x.code + 2 ^ 16)
    | none => s2.adc.inLast
  let seen := if old || s2.adc.delivered.contains e then s2.adc.delivered else e :: s2.adc.delivered
  let vals := if old then s2.adc.entryVal else tabSet navN s2.adc.entryVal e v
  let s3 := { s2 with adc := { s2.adc with entryVal := vals, inLast := last, delivered := seen } }
  let s3b := match x.input with
    | some i => s3.brkResult i
    | none => s3
  let s4 := if old then s3b
    else ((s3b.routesOf 0).filter fun r => r.srcKind == 0 && r.srcId == e).foldl (fun t r => t.toDest r v) s3b
  let s5 := (s4.burstSample e (isNav v || x.orng || x.xtalk || x.pllsw)).probeSource 0 e 0 v x.stamp x.orng x.xtalk x.pllsw (x.opn || x.inval)
  let s6 := if x.stream && s5.on Reg.ADC_CTRL_STREAM_EN then s5.streamPush c x v else s5
  if old then s6 else s6.triggerAll 1 e

end Sys2Proof.Machine
end

