-- ==== Sys2Proof/Machine/CommitRows.lean ====
section
/-!
DEFINITION. The commands of the image store, the survey and the commit (R147 to R175).
-/

namespace Sys2Proof.Machine

/-- What a survey judges now, with the staged image where one is staged; with the swap checks while armed (R164). -/
def State.surv (s : State) : Surv :=
  match s.stg.staged with
  | some i => { st := s, img := i, staged := true, swap := s.stg.active.isSome }
  | none => { st := s, img := s.stg.active.getD {}, staged := false, swap := false }

/-- A survey fails (R164): the result registers and SURVFAIL_S. -/
def State.survFail (s : State) (image : Bool) (f : SurvFail) : State :=
  let img := image && (decide (6 ≤ f.code) || f.code == 4 && f.addr / 0x1000 == 6)
  (((((s.setFld Reg.STG_SURV_RESULT_CODE f.code).setFld Reg.STG_SURV_RESULT_CELL f.cell).setFld Reg.STG_SURV_RESULT_CTX f.ctx).setFld
    Reg.STG_SURV_RESULT_IMAGE (asNat img)).setFld Reg.STG_SURV_ADDR f.addr).raise Reg.STG_STATUS_SURVFAIL_S

/-- The figures that a passing survey writes (R106, R131): U in per mille and each WCL; a WCL beyond its field is a value that the
spec does not state. Log 98 (DESIGN CHOICE). -/
def Surv.figures (v : Surv) (t : State) : State :=
  let l := v.loads
  let t1 := forIdx 32 (fun c u =>
    let q := utilisation (onCell l c)
    u.setFld (Reg.GRT_CELL_STATUS_BUDGET_PM c) (roundDiv ((1000 * q.1 : Nat) : Int) q.2).toNat) t
  l.foldl (fun u x =>
    let d := if x.wcl < 2 ^ 16 then (x.wcl, u) else (u.drawFree.1.toNat, u.drawFree.2)
    d.2.setFld (Reg.GRT_CTX_LEN_WCL x.ent.ctx) d.1) t1

/-- A survey passes (R163, R164, R173): CODE 0x00, the figures, the staging copies and the list of bumpless steps. -/
def State.survPass (s : State) (v : Surv) : State :=
  let s0 := ((((s.setFld Reg.STG_SURV_RESULT_CODE 0).setFld Reg.STG_SURV_RESULT_CELL 0).setFld Reg.STG_SURV_RESULT_CTX 0).setFld
    Reg.STG_SURV_RESULT_IMAGE 0).setFld Reg.STG_SURV_ADDR 0
  let s1 := v.figures (s0.raise Reg.STG_STATUS_SURVOK_S)
  if s.stgState = sPENDING ∨ s.stgState = sAPPLYING then s1
  else ({ s1 with eng := { s1.eng with coefStg := v.coefCopy, bunStg := v.bunCopy }, stg := { s1.stg with bumpNext := v.pairs } }).mirrorFill

/-- IMAGE_VERIFY (R149, R151): the slot is locked and checking begins. Log 100 (DEDUCED). -/
def State.imageVerify (s : State) (p : Port) (slot : Nat) : State :=
  let st := s.fld Reg.STG_ATL_STATUS_STATE
  if 2 ≤ st ∨ (s.stg.active.isSome ∧ s.fld Reg.STG_ATL_STATUS_ACT_SLOT = slot) then s.refuse p Reg.STG_ATL_CTRL_SLOT.addr
  else ((s.setFld Reg.STG_ATL_CTRL_SLOT slot).setFld Reg.STG_ATL_STATUS_STG_SLOT slot).setFld Reg.STG_ATL_STATUS_STATE 2

def execImageVerify (p : Port) (slot : Fin 4) (s : State) : Host.Outcome State Fault Refusal :=
  .next (s.portCmd (.imageVerify p slot) p Reg.STG_ATL_CTRL_SLOT.addr fun t => t.imageVerify p slot)

/-- A verification fails (R149): IDLE, or EMPTY before the first image, with RESULT, SHEET and FAIL_S. -/
def State.verifyFail (s : State) (result sheet : Nat) : State :=
  (((s.setFld Reg.STG_ATL_STATUS_STATE (if s.stg.active.isSome then 1 else 0)).setFld Reg.STG_ATL_STATUS_RESULT result).setFld
    Reg.STG_ATL_STATUS_SHEET sheet).raise Reg.STG_ATL_STATUS_FAIL_S

/-- The checks of R149 on the slot under verification (steps 2 to 7), and the loading of the image where they pass (step 8). Log 144 (DEDUCED). -/
def State.verifySlot (s : State) : State :=
  let c := s.checkImage (0x100000 * s.fld Reg.STG_ATL_STATUS_STG_SLOT)
  let t := c.1
  if c.2.result ≠ 0 then t.verifyFail c.2.result c.2.sheet
  else
    let v : Surv := { st := t, img := c.2.img, staged := true, swap := false }
    match v.check with
    | some f => (t.survFail true f).verifyFail 0x0C 0xFF
    | none =>
      match if t.armed then v.swapChecks else none with
      | some f => (t.survFail true f).verifyFail 0x0D 0xFF
      | none =>
        let t1 := t.survPass v
        { t1 with stg := { t1.stg with loading := some c.2.img } }.setFld Reg.STG_ATL_STATUS_STATE 3

/-- The staging copies hold the image (step 9 of R149): STAGED. Loading lasts to the end of its C-cycle. Log 144 (DEDUCED). -/
def State.loadNext (s : State) : State :=
  match s.stg.loading with
  | none => s
  | some i =>
    (((({ s with stg := { s.stg with loading := none, staged := some i } }.setFld Reg.STG_ATL_STATUS_STATE 4).setFld
      Reg.STG_ATL_STATUS_RESULT 0).setFld Reg.STG_ATL_STATUS_SHEET 0xFF).setFld Reg.STG_ATL_STG_ID_LO i.idLo).setFld
      Reg.STG_ATL_STG_ID_HI i.idHi

/-- IMAGE_VERIFY_DONE (R149, R150): steps 2 to 9 end. It waits where DRAM does not serve the
core (R295). The verification of a boot ends with its phase (R422). Log 144 (DEDUCED). -/
def execImageVerifyDone (s : State) : Host.Outcome State Fault Refusal :=
  .next (if s.fld Reg.STG_ATL_STATUS_STATE = 2 ∧ s.fld Reg.SYS_BOOT_STATUS_PHASE ≠ 4 then
      (if s.coreReady (0x100000 * s.fld Reg.STG_ATL_STATUS_STG_SLOT) 0x100000 then s.coreDone.verifySlot else s.coreStall)
    else s)

/-- IMAGE_DISCARD (R151). Log 39 (DEDUCED), 100 (DEDUCED). -/
def State.imageDiscard (s : State) (p : Port) : State :=
  if s.fld Reg.STG_ATL_STATUS_STATE = 4 ∧ s.stgState ≠ sPENDING ∧ s.stgState ≠ sAPPLYING then
    { s.setFld Reg.STG_ATL_STATUS_STATE (if s.stg.active.isSome then 1 else 0) with stg := { s.stg with staged := none } }
  else s.refuse p Reg.STG_ATL_CTRL_DISCARD.addr

def execImageDiscard (p : Port) (s : State) : Host.Outcome State Fault Refusal :=
  .next (s.portCmd (.imageDiscard p) p Reg.STG_ATL_CTRL_DISCARD.addr fun t => t.imageDiscard p)

/-- Whether an execution of a retiring image is in progress (R153). -/
def State.oldRuns (s : State) : Bool := s.eng.ctx.any fun x => oldCtx x.1 && x.2.busy

/-- SWAP_COMPLETE (R153): the old copies become the staging copies, and the staged slot the active one. Log 146 (DEDUCED). -/
def State.swapComplete (s : State) : State :=
  if s.fld Reg.STG_ATL_STATUS_STATE = 5 ∧ s.oldRuns = false then
    let e := s.eng
    let t := { s with
      eng := { e with coefStg := e.coefOld, bunStg := e.bunOld, ctx := e.ctx.filter fun x => decide (x.1 < 128),
                      cfgs := e.cfgs.filter fun x => decide (x.1 < 128), cfmaps := e.cfmaps.filter fun x => decide (x.1 < 32),
                      snap := e.snap.filter fun x => decide (x.1 < 4096), outPorts := e.outPorts.filter fun x => decide (x.1 < 4096) },
      stg := { s.stg with retiring := none } }
    (((t.takeSlot.takeDigests).setFld Reg.STG_ATL_STATUS_STATE 1).raise Reg.STG_ATL_STATUS_SWAP_S).count Reg.STG_ATL_SWAP_CNT_SWAP_CNT
  else s

def execSwapComplete (s : State) : Host.Outcome State Fault Refusal := .next s.swapComplete

/-- The address of STG_CTRL. -/
def addrStgCtrl : Nat := Reg.STG_CTRL_SURVEY.addr

/-- A survey starts and locks the shadow bank (R159, R164). -/
def State.startSurvey (s : State) (go : Bool) : State :=
  { s.setFld Reg.STG_STATUS_STATE sSURVEYING with stg := { s.stg with go := go } }

/-- SURVEY (R164). -/
def State.survey (s : State) (p : Port) : State :=
  if s.stgState = sIDLE ∨ s.stgState = sDRAFTING ∨ s.stgState = sSURVEYED then s.startSurvey false else s.refuse p addrStgCtrl

def execSurvey (p : Port) (s : State) : Host.Outcome State Fault Refusal :=
  .next (s.portCmd (.survey p) p addrStgCtrl fun t => t.survey p)

/-- COMMIT_GO (R165): refused too while a hand-over is announced (R359), and in CARRIER mode in a paired module (R354). -/
def State.commitGo (s : State) (p : Port) : State :=
  let ok := s.stgState == sDRAFTING || s.stgState == sSURVEYED || (s.stgState == sIDLE && s.stg.staged.isSome)
  let pair := s.on Reg.TWN_CTRL_PAIR_EN && s.fld Reg.STG_COMMIT_CFG_MODE == 0
  if ok && !pair && !s.on Reg.TWN_STATUS_HO_BUSY then s.startSurvey true else s.refuse p addrStgCtrl

def execCommitGo (p : Port) (s : State) : Host.Outcome State Fault Refusal :=
  .next (s.portCmd (.commitGo p) p addrStgCtrl fun t => t.commitGo p)

/-- The commit instant of a survey that has passed for GO (R165, R166): none where the commit is refused. Log 44 (DEDUCED). -/
def State.fixInstant (s : State) : Option Nat :=
  if s.fld Reg.STG_COMMIT_CFG_MODE = 0 then
    if s.armed && s.pwm.running then some ((s.gcar (s.fld Reg.STG_COMMIT_CFG_CGRP)).nextStart (s.now + 39999)) else none
  else
    let t := s.ownTime (s.fld Reg.STG_COMMIT_AT_LO + 2 ^ 32 * s.fld Reg.STG_COMMIT_AT_HI)
    if s.now + 40000 ≤ t then some t else none

/-- SURVEY_DONE (R164 to R166). Log 42 (DEDUCED). -/
def State.surveyDone (s : State) : State :=
  if s.stgState ≠ sSURVEYING then s
  else
    let v := s.surv
    match v.check with
    | some f => ({ s.survFail v.staged f with stg := { s.stg with go := false } }).stgRest
    | none =>
      let t := (s.survPass v).setFld Reg.STG_STATUS_STATE sSURVEYED
      if s.stg.go then
        match s.fixInstant with
        | none => { t.raise Reg.STG_STATUS_LATE_S with stg := { t.stg with go := false } }
        | some T =>
          let u := { t with stg := { t.stg with commitAt := T, withImg := v.staged, go := false } }
          let w := if s.fld Reg.STG_COMMIT_CFG_MODE = 0 then u.stamp Reg.STG_COMMIT_AT_LO Reg.STG_COMMIT_AT_HI T else u
          w.setFld Reg.STG_STATUS_STATE sPENDING
      else t

def execSurveyDone (s : State) : Host.Outcome State Fault Refusal := .next s.surveyDone

/-- DRAFT_DISCARD (R161). -/
def State.draftDiscard (s : State) (p : Port) : State :=
  if s.stgState = sDRAFTING ∨ s.stgState = sSURVEYED then
    let t := { s with regs := { s.regs with shadow := [] }, stg := { s.stg with cdraft := [] } }
    (t.setFld Reg.STG_CDRAFT_CNT_CNT 0).setFld Reg.STG_STATUS_STATE sIDLE
  else if s.stgState = sPENDING ∧ s.now + 4000 ≤ s.stg.commitAt then
    { s.setFld Reg.STG_STATUS_STATE sSURVEYED with stg := { s.stg with withImg := false } }
  else s.refuse p addrStgCtrl

def execDraftDiscard (p : Port) (s : State) : Host.Outcome State Fault Refusal :=
  .next (s.portCmd (.draftDiscard p) p addrStgCtrl fun t => t.draftDiscard p)

/-- Whether the shadow bank is locked (R159): also from START to the commit of a boot (R424, R425). Log 64 (DEDUCED). -/
def State.locked (s : State) : Bool :=
  s.fld Reg.SYS_BOOT_STATUS_PHASE == 4 ||
  s.stgState == sSURVEYING || s.stgState == sPENDING || s.stgState == sAPPLYING

/-- CDRAFT_APPEND (R162): an entry for the word at STG_CDRAFT_ADDR. -/
def State.cdraftAppend (s : State) (p : Port) (w : Nat) : State :=
  let a := Reg.STG_CDRAFT_DATA.addr
  if !s.expertStart || s.locked || decide (256 ≤ s.stg.cdraft.length) then s.refuse p a
  else
    let t := { s with stg := { s.stg with cdraft := s.stg.cdraft ++ [(s.fld Reg.STG_CDRAFT_ADDR, w)] } }
    ((t.setFld Reg.STG_CDRAFT_ADDR (s.fld Reg.STG_CDRAFT_ADDR + 4)).setFld Reg.STG_CDRAFT_CNT_CNT (s.stg.cdraft.length + 1)).setFld
      Reg.STG_STATUS_STATE sDRAFTING

def execCdraftAppend (p : Port) (w : Word) (s : State) : Host.Outcome State Fault Refusal :=
  .next (s.portCmd (.cdraftAppend p w) p Reg.STG_CDRAFT_DATA.addr fun t => t.cdraftAppend p w.toNat)

/-- CDRAFT_CLEAR (R162): the staging process leaves SURVEYED where an entry was held. Log 192 (DESIGN CHOICE). -/
def State.cdraftClear (s : State) (p : Port) : State :=
  if s.locked then s.refuse p addrStgCtrl
  else
    let t := ({ s with stg := { s.stg with cdraft := [] } }).setFld Reg.STG_CDRAFT_CNT_CNT 0
    if s.stg.cdraft.isEmpty then t else t.stgRest

def execCdraftClear (p : Port) (s : State) : Host.Outcome State Fault Refusal :=
  .next (s.portCmd (.cdraftClear p) p addrStgCtrl fun t => t.cdraftClear p)

/-- Whether a swap about to apply would change the mode of a leg that switches (R30). Log 165 (DESIGN CHOICE). -/
def State.swapHeld (s : State) : Bool :=
  s.stg.withImg && match s.stg.staged with
    | none => false
    | some i => anyIdx 64 (s.modeChange i)

/-- A commit is deferred (R169). -/
def State.deferCommit (s : State) : State :=
  let u := ((s.setFld Reg.STG_STATUS_STATE sSURVEYED).raise Reg.STG_STATUS_DEFER_S).count Reg.STG_CNT_DEFER_CNT
  { u with stg := { u.stg with waiting := false, retire := [], withImg := false } }

/-- A commit that is due applies, or is deferred where a leg of its swap switches (R30, R168). -/
def State.applyDue (s : State) : State :=
  if s.swapHeld then s.deferCommit else (s.applyCommit s.stg.commitAt).setFld Reg.STG_CDRAFT_CNT_CNT 0

/-- COMMIT_APPLY (R168, R169): at T the commit applies, or waits for the fetches of the contexts that retire; at T' it applies.
Log 42 (DEDUCED). -/
def State.commitApply (s : State) : State :=
  let t := s.noteDrain
  let due := decide (t.stg.commitAt ≤ t.now)
  if t.stgState = sPENDING ∧ due = true then
    let l := t.retiringCtxs
    if l.any t.fetchBusy then
      { (t.setFld Reg.STG_STATUS_STATE sAPPLYING).raise Reg.STG_STATUS_DELAY_S with
        stg := { t.stg with waiting := true, retire := l } }
    else t.applyDue
  else if t.stgState = sAPPLYING ∧ t.stg.waiting = false ∧ due = true then t.applyDue
  else t

def execCommitApply (s : State) : Host.Outcome State Fault Refusal := .next s.commitApply

/-- The ADC fields under which a pass in progress ends (R200). -/
def State.adcRegs (s : State) : Tab Nat :=
  s.regs.eff.filter fun e => keyIn 0x5018 0x501C e.1 || keyIn 0x5050 0x5060 e.1 || keyIn 0x5200 0x5400 e.1

/-- The commit strobe reaches domain A (R167, R200): a pass in progress keeps its settings, partial sums and pending injections of
an old schedule are dropped. -/
def State.domainA (s : State) : State :=
  let held : PassCfg := { sched := s.adc.sched, gen := s.adc.gen, regs := s.adcRegs }
  let new := (s.stg.active.map Img.sched).getD {}
  let swap := decide (new ≠ s.adc.sched)
  let runs (r : ConvRun) := r.busy && decide (r.passStart ≤ s.now)
  let conv := s.adc.conv.map fun (x : Nat × ConvRun) =>
    let c := if runs x.2 && x.2.held.isNone then { x.2 with held := some held } else x.2
    (x.1, if swap then { c with injPend := false } else c)
  let entry := if swap then s.adc.entry.filter fun (x : Nat × EntryRun) => runs (tabGet {} s.adc.conv (x.1 / 512)) else s.adc.entry
  let t := { s with adc := { s.adc with conv := conv, entry := entry, sched := new, gen := s.stg.gen } }
  t.takeCom fun k => domOf k == some .a

/-- Whether a waiting field of a key names a STREAM buffer's layout (R297). -/
def bufferKey (c k : Nat) : Bool :=
  k == (Reg.DMA_CH_BASE c).key || k == (Reg.DMA_CH_SIZE c).key || k == (Reg.DMA_CH_CTRL_MODE c).key

/-- Committed MEM and DMA fields apply (R167); a change of BASE, SIZE or MODE starts the buffer anew (R297). -/
def State.domainM (s : State) : State :=
  let hit (c : Nat) := s.regs.com.any fun e => bufferKey c e.1 && tabGet (resetOf e.1) s.regs.eff e.1 != e.2
  let t := s.takeCom fun k => domOf k == some .m
  forIdx 32 (fun c u => if hit c then
      ((u.setDch c { u.dch c with full := false }).setFld (Reg.DMA_CH_WPTR c) 0).setFld (Reg.DMA_CH_RPTR c) 0 else u) t

/-- Whether a key is a field of a drive die's CFG. -/
def dieKey (d k : Nat) : Bool := keyIn (0x7040 + 0x10 * d) (0x7044 + 0x10 * d) k

/-- Committed DRV fields reach the drive dies (R249): each leg uses them from its next edge on, and until then the settings of its die as
they were. -/
def State.domainDrv (s : State) : State :=
  let leg (n : Nat) := s.regs.com.any fun e => drvKey n e.1
  let die (d : Nat) := s.regs.com.any fun e => dieKey d e.1
  let t := forIdx 64 (fun n u =>
    if leg n || die (n / 16) then
      let r := u.dleg n
      u.setDleg n { r with cfgDue := r.cfgDue || leg n, dieOld := if die (n / 16) then some (s.dieCfg n) else r.dieOld }
    else u) s
  t.takeCom fun k => domOf k == some .drv && anyIdx 4 fun d => dieKey d k

/-- A commit strobe reaches domain `d` (R167): 0 A, 1 M, 2 H, 3 K, 4 T, 5 the drive status links. -/
def State.domainApply (s : State) (d : Nat) : State :=
  match d with
  | 0 => s.domainA
  | 1 => s.domainM
  | 2 => s.takeCom fun k => domOf k == some .h
  | 3 => s.takeCom fun k => domOf k == some .k
  | 4 => s.takeCom fun k => domOf k == some .t
  | _ => s.domainDrv

def execCommitDomainApply (d : Fin 6) (s : State) : Host.Outcome State Fault Refusal :=
  .next ((s.domainApply d).followCommit s)

/-- COMMIT_DMA_TIMEOUT (R169): 50 µs have passed, and the commit is deferred. -/
def State.commitDefer (s : State) : State :=
  let t := s.noteDrain
  if t.stgState = sAPPLYING ∧ t.stg.waiting = true ∧ t.stg.commitAt + 20000 < t.now then
    t.deferCommit
  else t

def execCommitDmaTimeout (s : State) : Host.Outcome State Fault Refusal := .next s.commitDefer

end Sys2Proof.Machine
end

