-- ==== Sys2Proof/Machine/AdcRows.lean ====
section
/-!
DEFINITION. The commands of sampling and conversion: items and schedule starts, injections, conversions, calibration and polarity
checks (R180 to R210).
-/

namespace Sys2Proof.Machine

/-- The item at the head of converter `c`'s queue, where the link's parity holds or fails (R21, R189). An item that replaces a failed
one keeps its tag bits. Log 163 (DESIGN CHOICE). A reader waits where the queue is empty, or in reset (R278, R279). -/
def State.takeItem (s : State) (c : Nat) (parity : Bool) : State :=
  match (s.conv c).queue with
  | [] => s
  | x :: q =>
    let t := s.setConv c { s.conv c with queue := q }
    if s.convReset c then s
    else if parity then t.deliverItem c x
    else ((t.raise Reg.SYS_DIE_STATUS_ALINK_S).count Reg.SYS_LINK_ERR_CNT_ALINK_ERR_CNT).deliverItem c
      { x with code := 0x8000, inval := true }

/-- CONVERTER_RESULT_ITEM (R21, R189). -/
def execConverterResultItem (c : Fin 32) (parity : Bool) (s : State) : Host.Outcome State Fault Refusal :=
  .next (s.inOrder (.converterResultItem c parity) Instr.beforeTrigger fun t => t.takeItem c parity)

/-- A start instant of a converter's regular sequence (R180, R182): a pass, or a slip while one is converting, which where only slots
that convert nothing are left is the next pass already. -/
def State.scheduleStart (s : State) (c : Nat) : State :=
  if !s.startNow c || s.marked (0x1000 + c) then s
  else
    let t := s.mark (0x1000 + c)
    if t.converting c then
      let u := (((t.setConv c { t.conv c with slipped := true }).raiseBit Reg.ADC_SLIP_S c).raise Reg.ADC_STATUS_SLIP_S).count
        Reg.ADC_CNT_B_SLIP_CNT
      if (u.nextSlot c (u.conv c).slot).isNone then u.endSeq c else u
    else t.beginSeq c t.now false

/-- SCHEDULE_START (R180). -/
def execScheduleStart (c : Fin 32) (s : State) : Host.Outcome State Fault Refusal := .next (s.scheduleStart c)

/-- A request for the injected sequence of a converter (R183). -/
def State.injectRequest (s : State) (c : Nat) : State :=
  if (s.conv c).injPend then (s.raise Reg.ADC_STATUS_INJOVR_S).count Reg.ADC_CNT_C_INJOVR_CNT
  else s.setConv c { s.conv c with injPend := true }

/-- Whether GRT timer `k` ticks in this C-cycle (R108). -/
def State.ticksNow (s : State) (k : Nat) : Bool :=
  let n := tabGet 0 s.eng.timerNext k
  n != 0 && (n == s.now || n == s.now + s.fld (Reg.GRT_TMR_PERIOD k))

/-- The requests of a word of converters from a source of R202: 9 the host, or a GRT timer that ticks. -/
def State.injectWord (s : State) (host : Bool) (m : Nat) : State :=
  forIdx 32 (fun c t =>
    let k := (t.convRec c).injSrc
    if bitOf m c && (if host then k == 9 else decide (1 ≤ k) && decide (k ≤ 8) && t.ticksNow (k - 1)) then t.injectRequest c else t) s

/-- INJECT_REQUEST (R183): a write of ADC_INJ_KICK by a port, or the ticks of the timers that the converters of the word name. -/
def execInjectRequest (p : Option Port) (m : Word) (s : State) : Host.Outcome State Fault Refusal :=
  .next (match p with
    | some q => s.portCmd (.injectRequest (some q) m) q Reg.ADC_INJ_KICK.addr fun t => t.injectWord true m.toNat
    | none => s.injectWord false m.toNat)

/-- Whether the injected sequence fits from slot boundary `now` on (R183). -/
def State.injFits (s : State) (c : Nat) : Bool :=
  match s.nextStartOf c with
  | none => true
  | some n => decide (2 * s.now + 15 + 160 * (s.convRec c).injCnt ≤ 2 * n)

/-- INJECTED_START (R183): a sequence of 0 slots takes its request and converts nothing. -/
def execInjectedStart (c : Fin 32) (s : State) : Host.Outcome State Fault Refusal :=
  .next (if (s.conv c).injPend = true ∧ s.converting c = false ∧ (s.conv c).slipped = false ∧ s.injFits c = true then
    let t := s.setConv c { s.conv c with injPend := false }
    if (s.convRec c).injCnt = 0 then t else t.beginSeq c s.now true
    else s)

/-- A slot's conversion completes (R179, R184). -/
def State.conversion (s : State) (c : Nat) (x : Sampled) : State :=
  match s.nextSlot c (s.conv c).slot with
  | none => s.endSeq c
  | some k =>
    if (s.conv c).busy = true ∧ (s.conv c).passStart + 85 + 80 * k ≤ s.now then
      let t := s.convert c k x
      (t.setConv c { t.conv c with slot := k + 1 }).endSeq c
    else s

/-- CONVERSION_COMPLETE (R184). Log 12 (DESIGN CHOICE). -/
def execConversionComplete (c : Fin 32) (x : Sampled) (s : State) : Host.Outcome State Fault Refusal :=
  .next (s.conversion c x)

/-- The lowest-numbered regular entry that samples an input (R206). -/
def State.calEntry (s : State) (i : Nat) : Option EntRec :=
  let d := s.adc.sched
  let l := d.ents.filter fun r => d.inputOf r == some i && ((d.convs.getD r.conv {}).slots.any fun w =>
    decide (slotCh w ≤ 4) && slotEntry w == r.entry)
  l.foldl (fun (m : Option EntRec) r => match m with
    | none => some r
    | some q => if r.entry < q.entry then some r else m) none

/-- A calibration step fails (R207). -/
def State.calFail (s : State) (code : Nat) : State :=
  ((({ s with adc := { s.adc with cal := none } }.setFld Reg.ADC_CAL_STAT_STATE 3).setFld Reg.ADC_CAL_STAT_FAIL code).raise
    Reg.ADC_STATUS_CALFAIL_S)

/-- The fields of ADC_CAL_CMD as a write leaves them. Log 96 (DEDUCED). -/
def State.calFields (s : State) (i pt n : Nat) : State :=
  ((s.setFld Reg.ADC_CAL_CMD_INPUT i).setFld Reg.ADC_CAL_CMD_POINT pt).setFld Reg.ADC_CAL_CMD_NLOG n

/-- START with POINT ZERO or SPAN (R206); `pt` is 0 or 1. -/
def State.calMeasure (s : State) (p : Port) (i pt n : Nat) : State :=
  let t := s.calFields i pt n
  if s.fld Reg.ADC_CAL_STAT_STATE = 1 then t.refuse p Reg.ADC_CAL_CMD_START.addr
  else
    match t.calEntry i with
    | none => t.calFail 1
    | some r =>
      ({ t with adc := { t.adc with cal := some { input := i, span := decide (pt = 1), left := 2 ^ n, need := 2 ^ n, shift := r.shift,
                                                  entry := r.entry } } }.setFld Reg.ADC_CAL_STAT_STATE 1).setFld Reg.ADC_CAL_STAT_FAIL 0

/-- CAL_ZERO (R206). -/
def execCalZero (p : Port) (i : Fin 128) (n : Fin 8) (s : State) : Host.Outcome State Fault Refusal :=
  .next (s.portCmd (.calZero p i n) p Reg.ADC_CAL_CMD_START.addr fun t => t.calMeasure p i 0 n)

/-- CAL_SPAN (R206). -/
def execCalSpan (p : Port) (i : Fin 128) (n : Fin 8) (s : State) : Host.Outcome State Fault Refusal :=
  .next (s.portCmd (.calSpan p i n) p Reg.ADC_CAL_CMD_START.addr fun t => t.calMeasure p i 1 n)

/-- A calibration measurement ends (R206). -/
def State.calDone (s : State) (m : CalRun) : State :=
  let v := roundDiv (8 * m.total) (m.need * 2 ^ m.shift)
  let put (l : List Nat) := if l.contains m.input then l else m.input :: l
  let t := { s with adc := { s.adc with cal := none, zeroDone := if m.span then s.adc.zeroDone else put s.adc.zeroDone,
                                        spanDone := if m.span then put s.adc.spanDone else s.adc.spanDone } }
  ((t.setSfld (if m.span then Reg.ADC_CAL_M1 else Reg.ADC_CAL_M0) v).setFld Reg.ADC_CAL_STAT_STATE 2).raise Reg.ADC_STATUS_CALDONE_S

/-- CAL_MEASURE_DONE (R206). -/
def execCalMeasureDone (s : State) : Host.Outcome State Fault Refusal :=
  .next (match s.adc.cal with
    | none => s
    | some m => if m.bad then s.calFail 2 else if m.left = 0 then s.calDone m else s)

/-- The failure of COMPUTE (R207), in the order of its codes: 0 with none; and OFS and G. Log 96 (DEDUCED). -/
def State.calCompute (s : State) (i : Nat) : Nat × Int × Int :=
  let m0 := s.sfld Reg.ADC_CAL_M0
  let m1 := s.sfld Reg.ADC_CAL_M1
  let ref := s.sfld Reg.ADC_CAL_REF
  match s.calEntry i with
  | none => (1, 0, 0)
  | some r =>
    if !(s.adc.zeroDone.contains i && s.adc.spanDone.contains i) then (3, 0, 0)
    else if (m1 - m0).natAbs < 8192 ∨ ref.natAbs < 2 ^ 28 then (4, 0, 0)
    else
      let num : Int := 8 * ref * 32767 * ((r.nm1 + 1 : Nat) : Int) * (m1 - m0).sign
      let den : Nat := 2 ^ 30 * 2 ^ r.shift * (m1 - m0).natAbs
      let g := roundDiv ((num - (den : Int)) * 2 ^ 17) den
      if m0 < -32768 ∨ 32767 < m0 then (5, 0, 0)
      else if g < -32768 ∨ 32767 < g then (6, 0, 0)
      else (0, m0, g)

/-- START with POINT COMPUTE (R207). -/
def State.calDraft (s : State) (p : Port) (i n : Nat) : State :=
  let t := s.calFields i 2 n
  if s.fld Reg.ADC_CAL_STAT_STATE = 1 ∨ s.locked = true then t.refuse p Reg.ADC_CAL_CMD_START.addr
  else
    let c := t.calCompute i
    if c.1 ≠ 0 then t.calFail c.1
    else
      let u := ((t.draftFld (Reg.ADC_CAL_OFS i) (unsignedOf 16 c.2.1)).draftFld (Reg.ADC_CAL_G i) (unsignedOf 16 c.2.2)).stgRest
      ((u.setFld Reg.ADC_CAL_STAT_STATE 2).setFld Reg.ADC_CAL_STAT_FAIL 0).raise Reg.ADC_STATUS_CALDONE_S

/-- CAL_COMPUTE (R207). -/
def execCalCompute (p : Port) (i : Fin 128) (n : Fin 8) (s : State) : Host.Outcome State Fault Refusal :=
  .next (s.portCmd (.calCompute p i n) p Reg.ADC_CAL_CMD_START.addr fun t => t.calDraft p i n)

/-- The fields of ADC_POL_CFG as a write leaves them (R15, R210): a W below 8 is refused, and W keeps its value. -/
def State.polFields (s : State) (p : Port) (i : Nat) (kind : Bool) (ref w : Nat) : State :=
  let t := ((s.setFld Reg.ADC_POL_CFG_INPUT i).setFld Reg.ADC_POL_CFG_REF_KIND (asNat kind)).setFld Reg.ADC_POL_CFG_REF ref
  if w < 8 then t.refuse p Reg.ADC_POL_CFG_START.addr else t.setFld Reg.ADC_POL_CFG_W w

/-- A write of ADC_POL_CFG (R208, R210, R331): a START while BUSY, beside a refused W or without its generator is refused. -/
def State.polWrite (s : State) (p : Port) (i : Nat) (kind : Bool) (ref w : Nat) (start : Bool) : State :=
  let gen := s.genState ref
  let t := s.polFields p i kind ref w
  if start = false ∨ w < 8 then t
  else if s.on Reg.ADC_POL_STAT_BUSY = true ∨ (kind = true ∧ (8 ≤ ref ∨ (gen ≠ gBURST ∧ gen ≠ gTUNE))) then
    t.refuse p Reg.ADC_POL_CFG_START.addr
  else
    ({ t with adc := { t.adc with pol := some { input := i, refKind := asNat kind, ref := ref, need := 2 ^ w, next := t.now + 10000 } } }.setFld
      Reg.ADC_POL_STAT_BUSY 1).setFld Reg.ADC_POL_STAT_VERDICT 0

/-- POLARITY_CHECK (R208). -/
def execPolarityCheck (p : Port) (i : Fin 128) (kind : Bool) (ref : Fin 128) (w : Fin 16) (s : State) :
    Host.Outcome State Fault Refusal :=
  .next (s.portCmd (.polarityCheck p i kind ref w) p Reg.ADC_POL_CFG_START.addr fun t => t.polWrite p i kind ref w true)

/-- The latest result of an input (R189): its code, or none while it is invalid. -/
def State.latestOf (s : State) (i : Nat) : Option Int :=
  let v := tabGet 0 s.adc.inLast i
  if v < 2 ^ 16 ∨ v % 2 ^ 16 = 0x8000 then none else some (signedOf 16 (v % 2 ^ 16))

/-- The two values that a polarity check takes (R208, R331). -/
def State.polPair (s : State) (r : PolRun) : Option (Int × Int) :=
  match s.latestOf r.input with
  | none => none
  | some x =>
    if r.refKind = 1 then some (x, s.sfld (Reg.SND_G_INJ_A r.ref))
    else (s.latestOf r.ref).map fun y => (x, y)

/-- A tick of a polarity check (R208): its values, or the count begun again. -/
def State.polSample (s : State) (r : PolRun) : State :=
  let q : PolRun := match s.polPair r with
    | none => { r with next := r.next + 10000, n := 0, sx := 0, sr := 0, sxx := 0, srr := 0, sxr := 0 }
    | some (x, y) => { r with next := r.next + 10000, n := r.n + 1, sx := r.sx + x, sr := r.sr + y, sxx := r.sxx + x * x,
                              srr := r.srr + y * y, sxr := r.sxr + x * y }
  { s with adc := { s.adc with pol := some q } }

/-- POLARITY_SAMPLE (R208): every 25 µs. -/
def execPolaritySample (s : State) : Host.Outcome State Fault Refusal :=
  .next (match s.adc.pol with
    | none => s
    | some r => if r.n < r.need ∧ r.next ≤ s.now then s.polSample r else s)

/-- CORR in Q1.30 (R208), where the samples do not stand still. Log 97 (DESIGN CHOICE). -/
def PolRun.corr (r : PolRun) : Option Int :=
  let n : Int := r.n
  let d := (n * r.sxx - r.sx * r.sx) * (n * r.srr - r.sr * r.sr)
  let a := n * r.sxr - r.sx * r.sr
  if d ≤ 0 then none else some (a.sign * (((isqrt (4 * (a.natAbs * a.natAbs * 2 ^ 60) / d.toNat) + 1) / 2 : Nat) : Int))

/-- The verdict on CORR (R208). Log 97 (DESIGN CHOICE). -/
def verdictOf (c : Int) : Nat := if 2 ^ 29 ≤ c then 1 else if c ≤ -2 ^ 29 then 2 else 3

/-- A polarity check ends (R208); where the mean-free samples are all 0, CORR is a free value. Log 97 (DESIGN CHOICE). -/
def State.polDone (s : State) (r : PolRun) : State :=
  let f := s.drawFree
  let v : Int × State := match r.corr with
    | some c => (c, s)
    | none => (f.1.toInt, f.2)
  let t := { v.2 with adc := { v.2.adc with pol := none } }
  (((t.setSfld Reg.ADC_POL_CORR v.1).setFld Reg.ADC_POL_STAT_BUSY 0).setFld Reg.ADC_POL_STAT_VERDICT (verdictOf v.1)).raise
    Reg.ADC_STATUS_POLDONE_S

/-- POLARITY_DONE (R208). -/
def execPolarityDone (s : State) : Host.Outcome State Fault Refusal :=
  .next (match s.adc.pol with
    | none => s
    | some r => if r.need ≤ r.n then s.polDone r else s)

end Sys2Proof.Machine
end

