-- ==== Sys2Proof/Machine/DmaRows.lean ====
section
/-!
DEFINITION. The commands of DMA (R295 to R307) and the engine's FETCH and WAITF (R123, R124).
-/

namespace Sys2Proof.Machine

/-- FETCH (R102, R123): B + 1 words from the byte address in reg[A] to state words IMM[8:0] onwards. -/
def State.startFetch (s : State) (n : Nat) (o : OpWord) : State :=
  match s.fetchCh n with
  | none => s
  | some c =>
    let r := s.dch c
    if r.halted then s.setCtx n { s.ctx n with faulted := true }
    else s.setDch c { r with jobs := r.jobs ++ [{ ctx := n, trigAt := (s.ctx n).trigAt, addr := s.reg n o.a, words := o.b + 1,
                                                  dest := o.imm % 512 }] }

def execFetch (c : Fin 32) (s : State) : Host.Outcome State Fault Refusal :=
  .next (s.issueOp c opFETCH fun n o t => t.startFetch n o)

/-- WAITF (R123, R124): with a faulted fetch the execution ends; with a pending one the context waits. -/
def State.waitFetch (s : State) (n : Nat) : State :=
  let r := s.ctx n
  if r.faulted then s.fetchFaultEnd n
  else if s.fetching n then (s.setCtx n { r with phase := .waiting, pausedAt := s.now, boundary := true }).setRuns (s.cellOf n) none
  else s.setCtx n { r with boundary := true }

def execWaitf (c : Fin 32) (s : State) : Host.Outcome State Fault Refusal :=
  .next (s.issueOp c opWAITF fun n _ t => t.waitFetch n)

/-- FETCH_COMPLETE (R123): the fetch at the head of a channel has all its words; a waiting context with no other pending fetch is
ready again, at its own level. -/
def State.fetchDone (s : State) (c : Nat) : State :=
  match (s.dch c).jobs with
  | [] => s
  | j :: js =>
    if j.words ≤ j.done then
      let t := s.setDch c { s.dch c with jobs := js }
      if (t.ctx j.ctx).phase = .waiting ∧ t.fetching j.ctx = false then
        t.setCtx j.ctx { t.ctx j.ctx with phase := .again, readyAt := t.now }
      else t
    else s

def execFetchComplete (c : Fin 32) (s : State) : Host.Outcome State Fault Refusal := .next (s.fetchDone c)

/-- DMA_TIMEOUT (R306): a request has no completion within TMO; the clock stands in self-refresh. -/
def execDmaTimeout (c : Fin 32) (s : State) : Host.Outcome State Fault Refusal :=
  .next (match (s.dch c).flight with
    | none => s
    | some f =>
      if s.on Reg.CLK_STATUS_M_SR = false ∧ f.takenAt + f.paused + usCycles (s.fld (Reg.DMA_CH_CTRL_TMO c)) ≤ s.now then
        s.dmaFault c 4 f.vaddr 0 else s)

/-- The addresses of a channel's CTRL register. -/
def addrCtrl (c : Nat) : Nat := (Reg.DMA_CH_CTRL_START c).addr

/-- A write of START (R296): a COPY channel in IDLE. -/
def State.copyStart (s : State) (p : Port) (c : Nat) : State :=
  if s.chKind c = kCOPY ∧ s.chState c = 0 then
    s.setDch c { s.dch c with copy := some { desc := s.fld (Reg.DMA_CH_DESC c) } }
  else s.refuse p (addrCtrl c)

def execCopyStart (p : Port) (c : Fin 32) (s : State) : Host.Outcome State Fault Refusal :=
  .next (s.portCmd (.copyStart p c) p (addrCtrl c) fun t => t.copyStart p c)

/-- COPY_DESCRIPTOR_DONE (R298): DONE_CNT; then the next descriptor, or IDLE after the last. -/
def execCopyDescriptorDone (c : Fin 32) (s : State) : Host.Outcome State Fault Refusal :=
  .next (match (s.dch c).copy with
    | none => s
    | some k =>
      if k.phase = 3 ∧ (s.dch c).halted = false then
        (s.setDch c { s.dch c with copy := if k.last then none else some { desc := k.next } }).count
          (Reg.DMA_CH_CNT_DONE_CNT c)
      else s)

/-- A halted channel resumes (R307). -/
def State.resume (s : State) (c : Nat) : State := s.setDch c { s.dch c with halted := false, stalled := false }

/-- The chart time of a channel's fault. -/
def State.faultAt (s : State) (c : Nat) : Nat :=
  s.fld (Reg.DMA_CH_FAULT_STAMP_LO c) + s.fld (Reg.DMA_CH_FAULT_STAMP_HI c) * 2 ^ 32

/-- A write of RESUME (R296, R307); a fault of the same C-cycle wins (R311). -/
def State.dmaResume (s : State) (p : Port) (c : Nat) : State :=
  if (s.dch c).halted then (if s.faultAt c = s.now then s else s.resume c) else s.refuse p (addrCtrl c)

def execDmaResume (p : Port) (c : Fin 32) (s : State) : Host.Outcome State Fault Refusal :=
  .next (s.portCmd (.dmaResume p c) p (addrCtrl c) fun t => t.dmaResume p c)

/-- DMA_AUTO_RESUME (R307): ARES, 1 ms after a fault of cause TIMEOUT or QERR. -/
def execDmaAutoResume (c : Fin 32) (s : State) : Host.Outcome State Fault Refusal :=
  let cause := s.fld (Reg.DMA_CH_FAULT_INFO_CAUSE c)
  .next (if (s.dch c).halted = true ∧ s.on (Reg.DMA_CH_CFG_ARES c) = true ∧ (cause = 4 ∨ cause = 5)
      ∧ s.faultAt c + msCycles 1 ≤ s.now then
    (s.resume c).count Reg.DMA_CNT_ARES_CNT else s)

def execStreamRecordWrite (c : Fin 32) (s : State) : Host.Outcome State Fault Refusal := .next (s.streamWritten c)

end Sys2Proof.Machine
end

