-- ==== Sys2Proof/Machine/HostWin.lean ====
section
/-!
DEFINITION. What both ports share: their responses with the status byte (R407, R408, R413, R419), and the frames of the DRAM window
with their requests to the tracker (R302, R410, R411).
-/

namespace Sys2Proof.Machine

/-- The record of a port. -/
def State.port (s : State) (p : Port) : PortRun := tabGet {} s.host.port (Port.code p)
def State.setPort (s : State) (p : Port) (r : PortRun) : State :=
  { s with host := { s.host with port := tabSet {} s.host.port (Port.code p) r } }

/-- Whether a field key belongs to a sticky bit of R16. -/
def stickyKey (k : Nat) : Bool := (rowsAt (k / 32 * 4)).any fun r => r.lo == k % 32 && r.acc == .w1c

/-- SYS_EVSUM (R413): the blocks in which a sticky bit is set. -/
def State.evSum (s : State) : Nat :=
  bitsOf 16 fun b => s.regs.eff.any fun e => e.1 / 32 * 4 / 4096 == b && e.2 != 0 && stickyKey e.1

/-- Whether any DMA channel is halted. -/
def State.dmaHalted (s : State) : Nat := bitsOf 32 fun c => (s.dch c).halted

/-- SYS_STATE (R419), which follows live conditions. -/
def State.sysState (s : State) : Nat :=
  asNat s.armed + 2 * asNat s.sdcRun + 4 * asNat (!s.trp.latch.isEmpty) + 8 * asNat (s.fld Reg.DRV_STATUS_FAULT != 0)
    + 16 * asNat (s.on Reg.CLK_STATUS_HOLD) + 32 * asNat (s.dmaHalted != 0) + 64 * asNat (s.on Reg.MEM_STATUS_LOST)
    + 256 * bitsOf 8 fun g => s.mode g != 0

/-- The bits of the status byte (R408). -/
def stFRAMEERR : Nat := 1
def stPROT : Nat := 2
def stPOISON : Nat := 4
def stREFUSED : Nat := 8
def stABORTED : Nat := 16

/-- The status byte (R408): what became of the frame, EVENT and ALARM. -/
def State.statusByte (s : State) (flags : Nat) : Nat :=
  flags + 32 * asNat (s.evSum != 0) + 64 * asNat (s.sysState / 4 % 32 != 0)

/-- A port gives its response (R407). Log 61 (DEDUCED). -/
def State.answer (s : State) (p : Port) (flags : Nat) (words : List Nat) (mask : Nat) : State :=
  s.setPort p { reply := some { status := s.statusByte flags, words := words, mask := mask }, frame := none }

/-- A frame is aborted (R410). -/
def State.abortFrame (s : State) (p : Port) : State := (s.raise Reg.SYS_EVENT_ABORT_S).answer p stABORTED [] 0

/-- The port that a requester of R302 above the channels serves: 32 is the host window, 33 the service window. -/
def reqPort (r : Nat) : Port := if r = 33 then .svc else .host

/-- The requester of a port. -/
def portReq (p : Port) : Nat := 32 + Port.code p

/-- The tracker entries of a window frame (R302): one for each block it touches. Log 52 (DEDUCED). -/
def WinFrame.blocks (f : WinFrame) : Nat := f.addrs.getLastD 0 / 64 - f.addrs.headD 0 / 64 + 1

/-- A window frame is lost with its request (R280, R410): ABORTED, which a frame that nobody awaits is not told. -/
def State.winLost (s : State) (p : Port) : State :=
  match (s.port p).frame with
  | none => s
  | some f =>
    let t := ((s.setDch (portReq p) {}).leaveQueue (s.reqClass (portReq p)) (portReq p)).noteTracker
    if f.silent then (t.raise Reg.SYS_EVENT_ABORT_S).setPort p {} else t.abortFrame p

/-- A window frame takes its first `n` entries (R302). -/
def State.winFlight (s : State) (p : Port) (f : WinFrame) (n : Nat) : State :=
  let r := portReq p
  let t := if f.blocks ≤ n then s.leaveQueue (s.reqClass r) r else s
  (t.setDch r { flight := some { cls := s.reqClass r, entries := f.blocks, left := n, want := f.blocks - n, takenAt := s.now, write := f.write,
                                 beats := f.addrs.map fun (a : Nat) => (a, 4) } }).noteTracker

/-- A window frame's request stalls, which is counted once (R302). -/
def State.winStall (s : State) (p : Port) (f : WinFrame) : State :=
  if f.stalled then s
  else (s.setPort p { s.port p with frame := some { f with stalled := true } }).countStall (s.reqClass (portReq p))

/-- A window frame comes to the tracker (R302, R410), as a channel's request does (`State.acceptCh`). Log 52 (DEDUCED). -/
def State.winAccept (s : State) (p : Port) : State :=
  let r := portReq p
  let cls := s.reqClass r
  match (s.port p).frame with
  | none => s
  | some f =>
    if (s.dch r).flight.isSome then (if s.memRuns && !s.queueReset (31 + cls) then (s.fill r).noteTracker else s)
    else if s.queueClash (31 + cls) then s.winLost p
    else if s.queueReset (31 + cls) then s
    else
      let t := s.joinQueue cls r
      if !t.memRuns || !t.atHead cls r then t
      else
        let k := t.room cls
        let u := if k < f.blocks then t.winStall p f else t
        if k = 0 then u else u.winFlight p f (min k f.blocks)

/-- The window address at which a DRAM byte lies (R411). -/
def winAddr (a : Nat) : Nat := 0x10000000 + a % 0x10000000

/-- Writes bytes from `a` on, block by block (R289): a block that the poison list refuses does not stop the others (R409). -/
def State.winBlocks (s : State) (p : Port) : Nat → Nat → List Nat → State
  | 0, _, _ => s
  | fuel + 1, a, bytes =>
    if bytes.isEmpty then s
    else
      let n := 64 - a % 64
      let t := match s.writeBlock a (bytes.take n) false with
        | some t => t
        | none => s.plFull.refuse p (winAddr a)
      t.winBlocks p fuel (a + n) (bytes.drop n)

/-- The writes of a window frame (R289, R411): a WRITE is carried by blocks, a WRITE_FIXED word by word. -/
def State.winWrite (s : State) (p : Port) (f : WinFrame) : State :=
  let a := f.addrs.headD 0
  if f.addrs.getLastD 0 = a then f.words.foldl (fun t w => t.winBlocks p 1 a (leBytes 4 w)) s
  else s.winBlocks p 6 a (f.words.map (leBytes 4)).flatten

/-- The decoder judges each of a list of beats once (R284): each beat with the pattern left in its data and its poison. -/
def State.judgeAll (s : State) : List Nat → State × List (Nat × Nat × Bool)
  | [] => (s, [])
  | b :: l =>
    let j := s.judge b
    let y := j.1.judgeAll l
    (y.1, (b, j.2.1, j.2.2) :: y.2)

/-- The words of a window READ with their poison (R283, R284, R288, R411): each block that the frame touches is read once, as one
burst of 8 beats. Log 52 (DEDUCED). -/
def State.winRead (s : State) (l : List Nat) : State × List Nat × List Bool :=
  let x := s.judgeAll (((l.map (· / 64)).dedup.map fun k => (List.range 8).map fun i => 8 * k + i).flatten)
  let at_ (a : Nat) : Nat × Bool := ((x.2.find? fun e => e.1 == a / 8).map (·.2)).getD (0, false)
  (x.1, l.map fun a => leWord ((List.range 4).map fun i => s.dataByte (at_ a).1 (a + i)), l.map fun a => (at_ a).2)

/-- The poison mask of a response (R407). -/
def maskOf (l : List Bool) : Nat := l.foldr (fun b m => asNat b + 2 * m) 0

/-- The response of a frame that nobody reads any more is dropped (R410). -/
def State.winAnswer (s : State) (p : Port) (f : WinFrame) (flags : Nat) (words : List Nat) (mask : Nat) : State :=
  if f.silent then s.setPort p {} else s.answer p flags words mask

/-- A window frame that has its entries is served (R303, R410); it is lost with its completion (R280). -/
def State.winComplete (s0 : State) (p : Port) : State :=
  match s0.serveTo (portReq p) 96, (s0.port p).frame with
  | some s, some f =>
    let cls := s0.reqClass (portReq p)
    if !s0.memRuns then s0
    else
      let t := (s.setDch (portReq p) {}).noteTracker
      if s0.queueClash (34 + cls) then (if f.write then t.winWrite p f else t).winLost p
      else if s0.queueReset (34 + cls) then s0
      else if f.write then
        let u := { t with refusedNow := false }.winWrite p f
        u.winAnswer p f (if u.refusedNow then stREFUSED else 0) [] 0
      else
        let x := t.winRead f.addrs
        x.1.winAnswer p f (if x.2.2.any id then stPOISON else 0) x.2.1 (maskOf x.2.2)
  | _, _ => s0

end Sys2Proof.Machine
end

