-- ==== Sys2Proof/Machine/QueueRows.lean ====
section
/-!
DEFINITION. The commands of the tracker (R284, R302) and the errors of the dual-clock queues (R278, R280).
-/

namespace Sys2Proof.Machine

/-- DMA_REQUEST_ACCEPT (R302): requesters 0 to 31 are the channels, 32 the host window, 33 the service window. -/
def execDmaRequestAccept (r : Fin 34) (s : State) : Host.Outcome State Fault Refusal :=
  .next (if r.val < 32 then s.acceptCh r else s.winAccept (reqPort r))

/-- DMA_REQUEST_COMPLETE (R284, R302, R303). -/
def execDmaRequestComplete (r : Fin 34) (s : State) : Host.Outcome State Fault Refusal :=
  .next (if r.val < 32 then s.completeCh r else s.winComplete (reqPort r))

/-- The record of a queue error (R278). Log 95 (DEDUCED). -/
def State.noteQerr (s : State) (q : Nat) : State :=
  let t := if q < 32 then s.raiseBit Reg.CLK_QERR_Q0 q else s.raiseBit Reg.CLK_QERR_Q1 (q - 32)
  let u := (((t.raise Reg.CLK_STATUS_QERR_S).count Reg.CLK_CNT_QERR_CNT).setFld Reg.CLK_QERR_QNUM q).setFld Reg.CLK_QERR_VALID 1
  { u with clk := { u.clk with xqAt := tabSet 0 u.clk.xqAt q (s.now + 1) } }

/-- The items of a converter's queue are lost, and their entries discard their partial sums (R280); results that wait at the writer
are not in the queue. Log 95 (DEDUCED), 162 (DESIGN CHOICE). -/
def State.loseItems (s : State) (c : Nat) : State :=
  let l := (((s.conv c).queue.take convDepth).map fun (i : Item) => entryKey c i.entry)
  let t := s.setConv c { s.conv c with queue := (s.conv c).queue.drop convDepth }
  { t with adc := { t.adc with entry := l.foldl (fun m e => tabSet {} m e {}) t.adc.entry } }

/-- A requester's request fails with its queue (R280). -/
def State.loseRequest (s : State) (r : Nat) : State :=
  if r < 32 then
    s.dmaFault r 5 (match (s.dch r).flight with
      | some f => f.vaddr
      | none => ((s.ask r).map Ask.vaddr).getD 0) 0
  else s.winLost (reqPort r)

/-- The requests in the queue of a class fail (R280), with those that have come through it in the C-cycle of the error (R281).
Log 95 (DEDUCED). -/
def State.failAsks (s : State) (cls : Nat) : State :=
  let now (r : Nat) := (s.dch r).flight.any fun f => f.cls == cls && f.takenAt == s.now
  (((s.reqQueue cls).filter s.wants ++ (List.range 34).filter now).dedup.foldl State.loseRequest s).setReqQueue cls []

/-- The requests of a class with completions in their queue lose them (R280): those of which an entry has been served. -/
def State.failFlights (s : State) (cls : Nat) : State :=
  ((List.range 34).filter fun r => (s.dch r).flight.any fun f => f.cls == cls && decide (f.left + f.want < f.entries)).foldl State.loseRequest s

/-- What a queue error does to the queue's users (R280). `lost` says for 39 and 41 that a frame was in the queue, and for 42 and 43
that the housekeeping core's three retries failed as well. In queue 38 a window frame that waits for its entries stands; every other
host frame comes and goes in one C-cycle, and one that comes in that of the error is discarded (`State.queueClash`). What a queue in reset
gives its reader (R279) is nothing that acts: a slot without a request, no completion, no response, a frame that the twin receiver discards,
an idle line, no access and no event. The accesses of 42 to 44 are made again and show nothing. Log 95 (DEDUCED). -/
def State.queueUsers (s : State) (q : Nat) (lost : Bool) : State :=
  if q < 32 then s.loseItems q
  else if q < 35 then s.failAsks (q - 31)
  else if q < 38 then s.failFlights (q - 34)
  else if q = 38 then (if (s.dch 32).flight = none then s.winLost .host else s)
  else if q = 39 then
    (if lost = true ∧ (s.port .host).reply.isSome = true ∧ (s.port .host).frame = none then s.abortFrame .host else s)
  else if q = 40 then (s.raise Reg.TWN_STATUS_LINKERR_S).count Reg.TWN_CNT_LINKERR_CNT
  else if q = 41 ∧ lost = true then s.unsent
  else if (q = 42 ∨ q = 43) ∧ lost = true then s.raise Reg.SYS_EVENT_HKACC_S
  else s

/-- QUEUE_ERROR (R278, R280). -/
def execQueueError (q : Fin 45) (lost : Bool) (s : State) : Host.Outcome State Fault Refusal :=
  .next ((s.noteQerr q).queueUsers q lost)

end Sys2Proof.Machine
end

