-- ==== Sys2Proof/Machine/ContourRows.lean ====
section
/-!
DEFINITION. The commands of Contour (R314 to R323): window ends, sequencer times, recorders and their measurements.
-/

namespace Sys2Proof.Machine

/-- An envelope record (R316). -/
def envRecord (t lo hi p : Nat) (tagged empty : Bool) : Nat :=
  t + lo / 256 % 2 ^ 24 * 2 ^ 64 + hi / 256 % 2 ^ 24 * 2 ^ 88 + p * 2 ^ 112 + asNat tagged * 2 ^ 117 + asNat empty * 2 ^ 118
    + 2 ^ 124

/-- The envelope of a probe at a window end (R318). -/
def State.envEnd (s : State) (p : Nat) : State :=
  let r := s.probe p
  let nv := 0x80000000
  let lo := (r.lo.map (unsignedOf 32)).getD nv
  let hi := (r.hi.map (unsignedOf 32)).getD nv
  let t := (((s.setFld (Reg.CTR_ENV_MIN p) lo).setFld (Reg.CTR_ENV_MAX p) hi).ctrPush (s.fld Reg.CTR_CTRL_XCH) s.now
    (envRecord s.now lo hi p r.tagged r.lo.isNone))
  t.setProbe p { r with lo := none, hi := none, tagged := false }

/-- A window end is due (R318): windows are aligned to PWM_ORIGIN. -/
def State.envDue (s : State) : Bool :=
  let w := 400 * s.fld Reg.CTR_ENV_CFG_EW
  s.pwm.running && decide (s.pwm.origin < s.now) && decide (w ≠ 0)
    && (s.now - s.pwm.origin) % (w : Int) == 0 && !s.marked 0x2000

/-- ENVELOPE_WINDOW_END (R318): an envelope of each probe with ENV = 1; what another probe has taken before is dropped with its window. -/
def State.windowEnd (s : State) : State :=
  if s.envDue then
    forIdx 32 (fun p t =>
      let r := t.probe p
      if t.on (Reg.CTR_PROBE_ENV p) then t.envEnd p
      else if r.lo.isSome || r.hi.isSome || r.tagged then t.setProbe p { r with lo := none, hi := none, tagged := false }
      else t) (s.mark 0x2000)
  else s

def execEnvelopeWindowEnd (s : State) : Host.Outcome State Fault Refusal := .next s.windowEnd

/-- The state in which sequencer `k` is, while it runs (R320). -/
def State.seqState (s : State) (k : Nat) : Nat := s.fld (Reg.CTR_SEQ_STATUS_STATE k)
def State.recState (s : State) (k : Nat) : Nat := s.fld (Reg.CTR_SEQ_STATUS_RSTATE k)

/-- TIME of the present state in C-cycles (R321). -/
def State.seqTime (s : State) (k : Nat) : Nat := 400 * s.fld (Reg.CTR_SEQ_TIME_TIME k (s.seqState k))

/-- SEQ_WITHIN_TIMEOUT (R321). -/
def State.withinTimeout (s : State) (k : Nat) : State :=
  if s.recState k = recARMED ∧ s.fld (Reg.CTR_SEQ_TIME_TMODE k (s.seqState k)) = 2 ∧ (s.seq k).entered + s.seqTime k ≤ s.now then
    s.seqEnter k 0
  else s

/-- An occurrence of the C-cycle of the expiry counts before it (R321): the expiry acts after every other command of its C-cycle. -/
def execSeqWithinTimeout (k : Fin 4) (s : State) : Host.Outcome State Fault Refusal :=
  .next (s.inOrder (.seqWithinTimeout k) Instr.beforeExpiry fun t => t.withinTimeout k)

/-- Whether HOLD qualifies a condition (R321). -/
def condHolds (c : Nat) : Bool := c == 0 || c == 1 || c == 4 || c == 5

/-- SEQ_HOLD_OCCURRENCE (R321): the condition has held for another TIME. -/
def State.holdOccurrence (s : State) (k : Nat) : State :=
  let j := s.seqState k
  match (s.seq k).holdFrom with
  | none => s
  | some f =>
    if s.recState k = recARMED ∧ s.fld (Reg.CTR_SEQ_TIME_TMODE k j) = 1 ∧ condHolds (s.fld (Reg.CTR_SEQ_COND_COND k j)) = true
        ∧ f + s.seqTime k ≤ s.now ∧ s.marked (0x2010 + k) = false then
      (((s.mark (0x2010 + k)).setSeq k { s.seq k with holdFrom := some (f + s.seqTime k) })).seqOccur k
    else s

def execSeqHoldOccurrence (k : Fin 4) (s : State) : Host.Outcome State Fault Refusal := .next (s.holdOccurrence k)

/-- The recorder is armed (R322). -/
def State.recArm (s : State) (k : Nat) : State :=
  ((s.setFld (Reg.CTR_SEQ_STATUS_RSTATE k) recARMED).setSeq k {}).seqEnter k 0

def addrSeqCtrl (k : Nat) : Nat := (Reg.CTR_SEQ_CTRL_ARM k).addr

/-- A write of ARM (R322). -/
def State.armRecorder (s : State) (p : Port) (k : Nat) : State :=
  if s.recState k = recIDLE ∨ s.recState k = recDONE then s.recArm k else s.refuse p (addrSeqCtrl k)

def execRecorderArm (p : Port) (k : Fin 4) (s : State) : Host.Outcome State Fault Refusal :=
  .next (s.portCmd (.recorderArm p k) p (addrSeqCtrl k) fun t => t.armRecorder p k)

/-- A write of FORCE (R322): in another state than ARMED it does nothing. -/
def State.forceRecorder (s : State) (k : Nat) : State := if s.recState k = recARMED then s.seqTrigger k else s

def execRecorderForce (p : Port) (k : Fin 4) (s : State) : Host.Outcome State Fault Refusal :=
  .next (s.portCmd (.recorderForce p k) p (addrSeqCtrl k) fun t => t.forceRecorder k)

/-- RECORDER_POST_END (R322). -/
def State.postEnd (s : State) (k : Nat) : State :=
  let r := s.seq k
  if s.recState k = recPOST ∧ r.ended = false ∧ r.trigAt + 400 * s.fld (Reg.CTR_REC_POST k) ≤ s.now then
    s.setSeq k { r with ended := true }
  else s

def execRecorderPostEnd (k : Fin 4) (s : State) : Host.Outcome State Fault Refusal := .next (s.postEnd k)

/-- Whether every record of a channel has completed in DRAM. -/
def State.recorded (s : State) (c : Nat) : Bool :=
  (s.recQ c).recs.isEmpty && (s.dch c).flight.isNone && (s.dch c).wrote == 0

/-- RECORDER_MEASURE_START (R322). -/
def State.measureStart (s : State) (k : Nat) : State :=
  let c := s.fld (Reg.CTR_REC_CFG_DMA_CH k)
  if s.recState k = recPOST ∧ (s.seq k).ended = true ∧ s.recorded c = true then
    (s.setFld (Reg.CTR_REC_END_WPTR k) (s.fld (Reg.DMA_CH_WPTR c))).setFld (Reg.CTR_SEQ_STATUS_RSTATE k) recMEASURING
  else s

def execRecorderMeasureStart (k : Fin 4) (s : State) : Host.Outcome State Fault Refusal := .next (s.measureStart k)

/-- The measurement so far (R323): samples used and excluded, sums, extremes, and the crossings with what R319 keeps. -/
structure MeasAcc where
  n : Nat := 0
  flag : Nat := 0
  poisoned : Bool := false
  lo : Int := 0
  hi : Int := 0
  sum : Int := 0
  sq : Nat := 0
  prev : Option (Int × Nat) := none
  up : Bool := false
  xcnt : Nat := 0
  first : Nat := 0
  last : Nat := 0
  deriving DecidableEq, Repr

/-- A sample enters the measurement (R323). -/
def MeasAcc.take (m : MeasAcc) (x : Int) (stamp : Nat) (hyst : Int) : MeasAcc :=
  let m1 := { m with n := m.n + 1, lo := if m.n = 0 then x else min m.lo x, hi := if m.n = 0 then x else max m.hi x,
                     sum := m.sum + x, sq := m.sq + x.natAbs ^ 2, prev := some (x, stamp),
                     up := if x < -hyst then true else if 0 < x then false else m.up }
  match m.prev with
  | some (x0, t0) =>
    if m.up = true ∧ 0 < x then
      let c := crossingAt t0 stamp x0 x
      { m1 with xcnt := m.xcnt + 1, first := if m.xcnt = 0 then c else m.first, last := c }
    else m1
  | none => m1

/-- A sample is excluded (R323); it counts for crossings as an invalid one does (R319). -/
def MeasAcc.skip (m : MeasAcc) (poisoned : Bool) : MeasAcc :=
  { m with flag := m.flag + 1, poisoned := m.poisoned || poisoned, prev := none }

/-- A record read back enters the measurement of recorder `k`, if it is a sample of MPROBE with a stamp in its range (R323).
Log 53 (DEDUCED). -/
def State.measRecord (s : State) (k : Nat) (m : MeasAcc) (w : Nat) (poisoned : Bool) : MeasAcc :=
  let p := s.fld (Reg.CTR_REC_CFG_MPROBE k)
  let t := w % 2 ^ 64
  let at0 := (s.seq k).trigAt
  if w ≠ 0 ∧ w / 2 ^ 124 % 16 = 0 ∧ w / 2 ^ 96 % 32 = p ∧ at0 - 400 * s.fld (Reg.CTR_REC_PRE k) ≤ t
      ∧ t ≤ at0 + 400 * s.fld (Reg.CTR_REC_POST k) then
    if poisoned || bitOf w 104 || ((bitOf w 101 || bitOf w 102 || bitOf w 103) && s.on (Reg.CTR_PROBE_EXCL p)) then
      m.skip poisoned
    else m.take (signedOf 32 (w / 2 ^ 64 % 2 ^ 32)) t (s.probeHyst p)
  else m

/-- The record at an offset of a channel's buffer, with its poison; none where the channel's domain does not map it. -/
def State.recordAt (s : State) (c off : Nat) : State × Option (Nat × Bool) :=
  match s.translateBeats (s.chDom c) false (beatsOf 4 (s.fld (Reg.DMA_CH_BASE c) + off) 16) with
  | (bs, none) =>
    let x := s.readBeats bs
    (x.1, some (leWord x.2.1, x.2.2.any id))
  | (_, some _) => (s, none)

/-- The records of a buffer from `off` on, `n` of them, oldest first. -/
def State.readBack (s : State) (k c size : Nat) : Nat → Nat → MeasAcc → State × MeasAcc
  | 0, _, m => (s, m)
  | n + 1, off, m =>
    let x := s.recordAt c off
    let m2 := match x.2 with
      | some (w, bad) => s.measRecord k m w bad
      | none => m
    x.1.readBack k c size n (if off + 16 < size then off + 16 else 0) m2

/-- The root of a rational, rounded to nearest. Log 53 (DEDUCED). -/
def rootOf (n d : Nat) : Nat := (isqrt (4 * n / d) + 1) / 2

/-- MEAS_PERIOD (R323). Log 53 (DEDUCED). -/
def MeasAcc.period (m : MeasAcc) : Nat :=
  if m.xcnt < 2 then 0 else min 0xFFFFFFFF ((roundDiv ((m.last - m.first : Nat) : Int) (m.xcnt - 1)).toNat)

/-- The results of a measurement (R323). -/
def State.putMeas (s : State) (k : Nat) (m : MeasAcc) : State :=
  let nv (i : Int) := if m.n = 0 then 0x80000000 else unsignedOf 32 (clampInt i)
  let t := ((((s.setFld (Reg.CTR_REC_MEAS_MIN k) (nv m.lo)).setFld (Reg.CTR_REC_MEAS_MAX k) (nv m.hi)).setFld
    (Reg.CTR_REC_MEAS_MEAN k) (nv (roundDiv m.sum m.n))).setFld (Reg.CTR_REC_MEAS_RMS k) (nv (rootOf m.sq m.n)))
  let u := ((((t.setFld (Reg.CTR_REC_MEAS_XCNT k) (min m.xcnt 0xFFFF)).setFld (Reg.CTR_REC_MEAS_PERIOD k) m.period).setFld
    (Reg.CTR_REC_MEAS_N k) (min m.n 0xFFFFFF)).setFld (Reg.CTR_REC_MEAS_FLAG k) (min m.flag 0xFF))
  if m.poisoned then u.raise Reg.CTR_STATUS_FLAG_S else u

/-- Where a channel's buffer lies in DRAM (R300). -/
def State.bufferAt (s : State) (c : Nat) : Nat :=
  match s.translate (s.chDom c) (s.fld (Reg.DMA_CH_BASE c)) false with
  | .ok a => a
  | .error _ => 0

/-- RECORDER_MEASURE_DONE (R322, R323): the results, and DONE; with AUTO the recorder re-arms at once. -/
def State.measureDone (s : State) (k : Nat) : State :=
  let c := s.fld (Reg.CTR_REC_CFG_DMA_CH k)
  let size := s.fld (Reg.DMA_CH_SIZE c)
  if s.recState k = recMEASURING ∧ s.coreReady (s.bufferAt c) size = true then
    let x := s.coreDone.readBack k c size (size / 16) (s.fld (Reg.CTR_REC_END_WPTR k)) {}
    let t := (x.1.putMeas k x.2).setFld (Reg.CTR_SEQ_STATUS_RSTATE k) recDONE
    if t.on (Reg.CTR_SEQ_CTRL_AUTO k) then t.recArm k else t
  else s

def execRecorderMeasureDone (k : Fin 4) (s : State) : Host.Outcome State Fault Refusal := .next (s.measureDone k)

end Sys2Proof.Machine
end

