-- ==== Sys2Proof/Machine/GridRows.lean ====
section
/-!
DEFINITION. The commands of phase groups beside the rotor tick: start and stop, set-points, limiter, ride-through, black start,
breaker and resynchronisation (R51 to R54, R62 to R86).
-/

namespace Sys2Proof.Machine

/-- Whether GFM writes to a group are accepted (R34): a group that the image does not define refuses them. Log 19 (DEDUCED). -/
def State.gfmOpen (s : State) (g : Nat) : Bool := s.controlled g || s.stg.active.isNone

/-- A command that writes a GFM register by a port; a STANDBY refuses it (R34, R353). Log 19 (DEDUCED). -/
def State.gfmCmd (s : State) (c : Instr) (p : Port) (g a : Nat) (body : State → State) : State :=
  s.portCmd c p a fun t => if t.gfmOpen g && t.role != roleSTANDBY then body t else t.refuse p a

/-- ILIM_SHORT_TERM_EXPIRY (R64): the limiter has bound for a total of TST. -/
def execIlimShortTermExpiry (g : Fin 8) (s : State) : Host.Outcome State Fault Refusal :=
  let r := s.grp g
  .next (if s.mode g ≠ mOFF ∧ r.falling = false ∧ msTicks (s.fld (Reg.GFM_ILIM_T_TST g)) ≤ r.bindTime then
    s.setGrp g { r with falling := true } else s)

/-- ILIM_RESTORE (R64): the bounded current has stayed at or below ICONT for TREC. -/
def execIlimRestore (g : Fin 8) (s : State) : Host.Outcome State Fault Refusal :=
  let r := s.grp g
  let l := milli (s.fld (Reg.GFM_ILIM_IST g))
  let lim := if r.derated then min l (pu / 2) else l
  .next (if s.mode g ≠ mOFF ∧ msTicks (s.fld (Reg.GFM_ILIM_T_TREC g)) ≤ r.lowTime then
    (s.setGrp g { r with falling := false, bindTime := 0, lowTime := 0, ilim := lim }).setSfld (Reg.GFM_ILIM_NOW g) lim
    else s)

/-- DC_BUS_LOW_TIMEOUT (R66): the bus has stayed below 0.5 × VDC_MIN for 10 ms while the group runs. -/
def execDcBusLowTimeout (g : Fin 8) (s : State) : Host.Outcome State Fault Refusal :=
  let r := s.grp g
  .next (match r.vdcLow with
    | none => s
    | some t =>
      if s.on (Reg.GFM_STATUS_RUN g) = true ∧ r.vdcDone = false ∧ t + msCycles 10 ≤ s.now then
        (s.setGrp g { r with vdcDone := true }).faultAction g 0x09 else s)

/-- A RIDE timer reaches its limit (R70): FRTX_S and the fault action; a stop that waited for RIDE to end begins (R86), and the bound of
R72 stays as it is through it. Log 186 (DESIGN CHOICE). -/
def State.rideExpiry (s : State) (g src : Nat) : State :=
  let t := (s.raise (Reg.GFM_EVT_STATUS_FRTX_S g)).faultAction g src
  if t.mode g = mRIDE ∧ (t.grp g).stopInRide = true then t.stopFrom g (t.grp g).rideFrom else t

/-- Whether the exit condition of R71 is met. -/
def State.mayExit (s : State) (g : Nat) : Bool :=
  s.mode g == mRIDE && heldFor (s.grp g).exitTime (msTicks (s.fld (Reg.GFM_PREC_TEXIT g)))

def execZeroVoltageTimeout (g : Fin 8) (s : State) : Host.Outcome State Fault Refusal :=
  let r := s.grp g
  .next (if s.mode g = mRIDE ∧ r.tzDone = false ∧ r.tzLim ≤ r.zeroTime ∧ s.mayExit g = false then
    (s.setGrp g { r with tzDone := true }).rideExpiry g 0x03 else s)

def execRideTimeout (g : Fin 8) (s : State) : Host.Outcome State Fault Refusal :=
  let r := s.grp g
  .next (if s.mode g = mRIDE ∧ r.tlDone = false ∧ r.tlLim ≤ r.rideTime ∧ s.mayExit g = false then
    (s.setGrp g { r with tlDone := true }).rideExpiry g 0x04 else s)

/-- RIDE ends (R71, R72): the mode it returns to, the recovery bound, and a stop that waited (R86). -/
def State.exitRide (s : State) (g : Nat) : State :=
  let r := s.grp g
  let t := (s.setGrp g { r with omegaD := r.omega, recActive := r.recActive || r.rideBound, rideBound := false,
                                gridTime := 0, gridBack := false }).setMode g r.rideFrom
  let u := t.setFld (Reg.GFM_EVT_STATUS_REC g) (asNat (r.recActive || r.rideBound))
  if r.stopInRide then u.stopFrom g r.rideFrom else u

def execRideExit (g : Fin 8) (s : State) : Host.Outcome State Fault Refusal :=
  .next (if s.mayExit g then s.exitRide g else s)

/-- BLACK_START_FLUX_TIMEOUT (R75): the holds of the ramp total more than TRAMP. -/
def execBlackStartFluxTimeout (g : Fin 8) (s : State) : Host.Outcome State Fault Refusal :=
  let r := s.grp g
  .next (if s.mode g = mBLACK ∧ r.bsDone = false ∧ s.tramp g < r.bsHoldTime then
    ((s.setGrp g { r with bsDone := true }).raise (Reg.GFM_EVT_STATUS_BSFAIL_S g)).faultAction g 0x05 else s)

/-- UNSYNC_S and the fault action for source 0x0A (R85). -/
def State.unsync (s : State) (g : Nat) : State := (s.raise (Reg.GFM_EVT_STATUS_UNSYNC_S g)).faultAction g 0x0A

/-- ISLAND is entered from BLACK_START (R76): a breaker that reads closed is met with SYNC_CLOSE low (R85). -/
def State.islandEntry (s : State) (g : Nat) : State :=
  if (s.grp g).brkClosed then (s.setMode g mCONNECTED).unsync g else s

def execBlackStartSettled (g : Fin 8) (s : State) : Host.Outcome State Fault Refusal :=
  .next (if s.mode g = mBLACK ∧ heldFor (s.grp g).settleTime (msTicks (s.fld (Reg.GFM_BS_FLUX_TSETTLE g))) = true then
    (s.setMode g mISLAND).islandEntry g else s)

/-- GRID_RETURNED (R80): GRIDRET_S, and SYNCING where it is asked for. -/
def execGridReturned (g : Fin 8) (s : State) : Host.Outcome State Fault Refusal :=
  let r := s.grp g
  .next (if s.mode g = mISLAND ∧ r.brkClosed = false ∧ r.gridBack = false
      ∧ heldFor r.gridTime (msTicks (100 * s.fld (Reg.GFM_GRID_QUAL_TQUAL g))) = true then
    let t := (s.setGrp g { r with gridBack := true }).raise (Reg.GFM_EVT_STATUS_GRIDRET_S g)
    if t.syncAsked g then t.enterSync g else t
    else s)

/-- Whether CLOSE_MODE is PULSE (R83). -/
def State.pulseMode (s : State) (g : Nat) : Bool := s.fld (Reg.GFM_SYNC_CTRL_CLOSE_MODE g) == 1

/-- SYNC_CLOSE_ASSERT (R82): the window has held for TDWELL. -/
def execSyncCloseAssert (g : Fin 8) (s : State) : Host.Outcome State Fault Refusal :=
  let r := s.grp g
  .next (if s.mode g = mSYNCING ∧ r.syncClose = false ∧ (r.closeWait = false ∨ s.pulseMode g = false) ∧ r.brkInvalid = false
      ∧ s.role ≠ roleSTANDBY ∧ heldFor r.dwell (msTicks (s.fld (Reg.GFM_SYNC_T_TDWELL g))) = true then
    let t := s.setGrp g { r with syncClose := true, closeAt := s.now, closeWait := true, pulse := s.pulseMode g }
    ((t.raise (Reg.GFM_EVT_STATUS_CLOSE_S g)).count (Reg.GFM_EVT_CNT_CLOSE_CNT g)).stamp (Reg.GFM_CLOSE_STAMP_LO g)
      (Reg.GFM_CLOSE_STAMP_HI g) s.now
    else s)

/-- SYNC_CLOSE_PULSE_END (R83): SYNC_CLOSE falls after PULSE × 10 ms. -/
def execSyncClosePulseEnd (g : Fin 8) (s : State) : Host.Outcome State Fault Refusal :=
  let r := s.grp g
  .next (if r.pulse = true ∧ r.closeAt + msCycles (10 * s.fld (Reg.GFM_SYNC_CTRL_PULSE g)) ≤ s.now then
    s.setGrp g { r with pulse := false, syncClose := false } else s)

/-- The end of the wait of R84 in C-cycles after SYNC_CLOSE rose. -/
def State.closeLimit (s : State) (g : Nat) : Nat :=
  usCycles (100 * s.fld (Reg.GFM_SYNC_T_TCLOSE g)) + msCycles (s.fld (Reg.GFM_BRK_TDEB g) + 50)

/-- Whether a change of the breaker to closed has held for TDEB (R78, R84). -/
def State.closeDue (s : State) (g : Nat) : Bool :=
  let r := s.grp g
  r.brkRaw && !r.brkClosed && !r.brkInvalid && decide (r.brkSince + msCycles (s.fld (Reg.GFM_BRK_TDEB g)) ≤ s.now)

/-- CLOSE_WAIT_TIMEOUT (R84): the breaker did not close in time; a reading that falls in the same tick wins. -/
def execCloseWaitTimeout (g : Fin 8) (s : State) : Host.Outcome State Fault Refusal :=
  let r := s.grp g
  .next (if s.mode g = mSYNCING ∧ r.closeWait = true ∧ r.closeAt + s.closeLimit g ≤ s.now ∧ s.closeDue g = false then
    (s.setGrp g { r with closeWait := false, syncClose := false, pulse := false, dwell := 0 }).raise
      (Reg.GFM_EVT_STATUS_CLOSEFAIL_S g)
    else s)

/-- The breaker state becomes closed (R84, R85): CONNECTED from SYNCING and ISLAND; while SYNC_CLOSE is low, with UNSYNC_S and the
action for source 0x0A. -/
def State.brkCloses (s : State) (g : Nat) : State :=
  let r := { s.grp g with brkClosed := true }
  if s.mode g = mSYNCING then
    let t := (s.setGrp g { r with closeWait := false }).setMode g mCONNECTED
    if r.syncClose then t else t.unsync g
  else if s.mode g = mISLAND then ((s.setGrp g r).setMode g mCONNECTED).unsync g
  else if s.mode g = mRIDE ∧ r.rideFrom = mISLAND then (s.setGrp g { r with rideFrom := mCONNECTED }).unsync g
  else s.setGrp g r

/-- The breaker state becomes open (R79, R83). -/
def State.brkOpens (s : State) (g : Nat) : State :=
  let r := { s.grp g with brkClosed := false, gridTime := 0, gridBack := false }
  let low := { r with syncClose := false, pulse := false, closeWait := false }
  if s.mode g = mCONNECTED then ((s.setGrp g low).setMode g mISLAND).raise (Reg.GFM_EVT_STATUS_GRIDLOSS_S g)
  else if s.mode g = mRIDE ∧ r.rideFrom = mCONNECTED then
    (s.setGrp g { low with rideFrom := mISLAND }).raise (Reg.GFM_EVT_STATUS_GRIDLOSS_S g)
  else if s.mode g = mSYNCING then s.setGrp g r
  else s.setGrp g low

/-- BREAKER_STATE_CHANGE (R78): a change that has held for TDEB takes effect. -/
def execBreakerStateChange (g : Fin 8) (s0 : State) : Host.Outcome State Fault Refusal :=
  let s := s0.brkWatch g
  let r := s.grp g
  .next (if r.brkRaw ≠ r.brkClosed ∧ r.brkInvalid = false ∧ r.brkSince + msCycles (s.fld (Reg.GFM_BRK_TDEB g)) ≤ s.now then
    (if r.brkRaw then s.brkCloses g else s.brkOpens g) else s)

/-- STOP_WAIT_TIMEOUT (R86): 30 s have passed in the first step of a stop. -/
def execStopWaitTimeout (g : Fin 8) (s : State) : Host.Outcome State Fault Refusal :=
  .next (if s.mode g = mSTOPPING ∧ (s.grp g).stopPhase = 1 ∧ (s.grp g).stopAt + msCycles 30000 ≤ s.now then s.stopProceed g
    else s)

/-- Whether a leg is at a period start of its carrier. -/
def State.atStart (s : State) (n : Nat) : Bool := ((s.leg n).car.at s.now).isStart s.now

/-- STOP_LEGS_OFF (R86): legs of a stopping group turn off at a period start of their carrier; once all are off the flux is
stored and the group is OFF. Log 27 (DEDUCED). -/
def State.stopLegs (s : State) (g : Nat) : State :=
  let t := forIdx 64 (fun n u => if u.legIn g n && u.atStart n then u.legOff n else u) s
  if allIdx 64 fun n => !t.legIn g n || t.fld (Reg.PWM_LEG_STATUS_STATE n) == legOFF
      || t.fld (Reg.PWM_LEG_STATUS_STATE n) == legFORCED then (t.storeFlux g).groupRest g else t

def execStopLegsOff (g : Fin 8) (s : State) : Host.Outcome State Fault Refusal :=
  .next (if s.mode g = mSTOPPING ∧ (s.grp g).stopPhase = 3 then s.stopLegs g else s)

/-- Whether a committed base or filter value is 0 (R51). -/
def State.basesUnset (s : State) (g : Nat) : Bool :=
  [Reg.GFM_BASE_V g, Reg.GFM_BASE_I g, Reg.GFM_BASE_DC g, Reg.GFM_LF_LF g, Reg.GFM_CF_CF g].any fun f => s.comFld f == 0

/-- What every start gives the run record (R51, R64, R75): governors of P and Q at 0, the limit at IST, the flux estimates. The
filters of P_e and Q_f, the separations and the resonant terms start at 0, and the total of R64 starts anew with the level at IST.
Log 160 (DESIGN CHOICE), 187 (DESIGN CHOICE). -/
def State.startRec (s : State) (g : Nat) : GroupRun :=
  let r := s.grp g
  let resid (f : Fld) : Int := if s.on (Reg.GFM_BS_CFG_RESID_EN g) then s.sfld f else 0
  { r with govP := Gov.at 0, govQ := Gov.at 0, pe := 0, qf := 0, steerF := 0, steerV := 0, derated := false, falling := false,
           ilim := milli (s.fld (Reg.GFM_ILIM_IST g)), bindTime := 0, lowTime := 0, boundPrev := false, rideBound := false,
           recActive := false, bsHeld := false, bsHoldTime := 0, bsDone := false, bsRamp := 0, settleTime := 0, gridTime := 0,
           gridBack := false, dwell := 0, syncClose := false, closeWait := false, pulse := false, stopPhase := 0,
           stopInRide := false, stopAct := false, vcLast := none, vdcLow := none, vdcDone := false, fluxA := resid (Reg.GFM_RESID_A g),
           fluxB := resid (Reg.GFM_RESID_B g), fluxC := resid (Reg.GFM_RESID_C g), histA := [], histB := [], histC := [],
           lastDelta := 0, res := [], seqP := {}, seqN := {}, seqR := {}, sogR := {} }

/-- EN and RUN become 1 (R51), and ILIM_NOW reports the level of the start (R64). -/
def State.setRunning (s : State) (g : Nat) : State :=
  ((s.setFld (Reg.GFM_CTRL_EN g) 1).setFld (Reg.GFM_STATUS_RUN g) 1).setSfld (Reg.GFM_ILIM_NOW g) (s.grp g).ilim

/-- A start with live terminals (R51, R59); the damping reference starts at ω. Log 160 (DESIGN CHOICE). -/
def State.liveStart (s : State) (g : Nat) : State :=
  let r := s.startRec g
  let t := r.trkT
  ((s.setGrp g { r with omega := t.f, omegaD := t.f, theta := t.th, eRef := t.v, govF := Gov.at t.f, govV := Gov.at t.v }).setMode
    g (if r.brkClosed then mCONNECTED else mISLAND)).setRunning g

/-- A start with dead terminals (R73): refused by a low DC bus, else BLACK_START with E = VSTART and θ = 0. The F and V governors, ω
and the damping reference start at the clamped targets. Log 160 (DESIGN CHOICE). -/
def State.deadStart (s : State) (g : Nat) : State :=
  if s.sfld (Reg.GFM_VDC_MEAS g) < milli (s.fld (Reg.GFM_BS_CFG_VDC_MIN g)) then
    (((s.raise (Reg.GFM_EVT_STATUS_BSFAIL_S g)).setFld (Reg.GFM_CTRL_EN g) 0).setMode g mOFF)
  else
    let r := s.startRec g
    let f := (govTarget (s.sfld (Reg.GFM_FSET g) + s.sfld (Reg.GFM_SEC_DF g)) (s.centiHz g (s.fld (Reg.GFM_FLIM_FMIN g)))
      (s.centiHz g (s.fld (Reg.GFM_FLIM_FMAX g)))).1
    let v := (govTarget (s.sfld (Reg.GFM_VSET g) + s.sfld (Reg.GFM_SEC_DV g)) (milli (s.fld (Reg.GFM_ELIM_EMIN g)))
      (milli (s.fld (Reg.GFM_ELIM_EMAX g)))).1
    ((s.setGrp g { r with omega := f, omegaD := f, theta := 0, eRef := milli (s.fld (Reg.GFM_BS_RAMP_VSTART g)),
                          govF := Gov.at f, govV := Gov.at v }).setMode g mBLACK).setRunning g

/-- A write of 1 to EN (R51, R86, R353, R369). Log 116 (DESIGN CHOICE). -/
def State.groupStart (s : State) (p : Port) (g : Nat) : State :=
  let a := (Reg.GFM_CTRL_EN g).addr
  if !s.controlled g || s.basesUnset g || !s.armed || s.mode g == mSTOPPING || s.role == roleSTANDBY || !s.sdcRun then
    s.refuse p a
  else if s.mode g ≠ mOFF then s
  else if pu ≤ 2 * (s.grp g).trkT.v then s.liveStart g
  else s.deadStart g

def execGroupStart (p : Port) (g : Fin 8) (s : State) : Host.Outcome State Fault Refusal :=
  .next (s.portCmd (.groupStart p g) p (Reg.GFM_CTRL_EN g).addr fun t => t.groupStart p g)

/-- GROUP_STOP (R51, R86): a write of 0 to EN. -/
def execGroupStop (p : Port) (g : Fin 8) (s : State) : Host.Outcome State Fault Refusal :=
  .next (s.gfmCmd (.groupStop p g) p g (Reg.GFM_CTRL_EN g).addr fun t => t.beginStop g)

/-- A set-point register and its range (R53): P, Q, F, V, SEC_DF, SEC_DV. -/
def spField (k g : Nat) : Fld :=
  match k with
  | 0 => Reg.GFM_PSET g
  | 1 => Reg.GFM_QSET g
  | 2 => Reg.GFM_FSET g
  | 3 => Reg.GFM_VSET g
  | 4 => Reg.GFM_SEC_DF g
  | _ => Reg.GFM_SEC_DV g

def State.spRange (s : State) (k g : Nat) : Int × Int :=
  let m (f : Fld) := milli (s.fld f)
  match k with
  | 0 => (-m (Reg.GFM_PQMAX_PMAX g), m (Reg.GFM_PQMAX_PMAX g))
  | 1 => (-m (Reg.GFM_PQMAX_QMAX g), m (Reg.GFM_PQMAX_QMAX g))
  | 2 => (s.centiHz g (s.fld (Reg.GFM_FLIM_FMIN g)), s.centiHz g (s.fld (Reg.GFM_FLIM_FMAX g)))
  | 3 => (m (Reg.GFM_ELIM_EMIN g), m (Reg.GFM_ELIM_EMAX g))
  | 4 => (-tenThou 500, tenThou 500)
  | _ => (-tenThou 1000, tenThou 1000)

/-- Whether a value is within a set-point's range (R53). Log 22 (DEDUCED). -/
def State.spOk (s : State) (k g v : Nat) : Bool :=
  decide ((s.spRange k g).1 ≤ wInt v) && decide (wInt v ≤ (s.spRange k g).2)

/-- A write of a set-point (R53). -/
def State.setpoint (s : State) (p : Port) (k g v : Nat) : State :=
  if s.spOk k g v then s.setFld (spField k g) v else s.refuse p (spField k g).addr

def execSetpointWrite (p : Port) (g : Fin 8) (k : Fin 4) (v : Word) (s : State) : Host.Outcome State Fault Refusal :=
  .next (s.gfmCmd (.setpointWrite p g k v) p g (spField k g).addr fun t => t.setpoint p k g v.toNat)

/-- A write of a secondary offset by a port (R53, R54): refused while Bearing is selected. `k` is 4 or 5. -/
def State.secWrite (s : State) (p : Port) (k g v : Nat) : State :=
  if s.on (Reg.GFM_CTRL_SEC_SRC g) then s.refuse p (spField k g).addr else s.setpoint p k g v

/-- Whether the Bearing protocol may write a value of a secondary offset (R34, R53, R54). -/
def State.secMay (s : State) (k g v : Nat) : Bool := s.gfmOpen g && s.on (Reg.GFM_CTRL_SEC_SRC g) && s.spOk k g v

/-- A write of a secondary offset by the Bearing protocol (R34, R53, R54): the Bool says that it was applied. -/
def State.secBearing (s : State) (k g v : Nat) : State × Bool :=
  if s.secMay k g v then (s.setFld (spField k g) v, true)
  else (s.raise Reg.SYS_EVENT_WRREJ_S, false)

/-- SEC_OFFSET_WRITE: `p` is the port, or none for the Bearing protocol; `dv` chooses SEC_DV. -/
def execSecOffsetWrite (p : Option Port) (g : Fin 8) (dv : Bool) (v : Word) (s : State) :
    Host.Outcome State Fault Refusal :=
  let k := if dv then 5 else 4
  .next (match p with
    | some q => s.gfmCmd (.secOffsetWrite (some q) g dv v) q g (spField k g).addr fun t => t.secWrite q k g v.toNat
    | none => (s.secBearing k g v.toNat).1)

/-- Whether the image gives a group a grid-side set (R62). -/
def State.gridSet (s : State) (g : Nat) : Bool :=
  match s.groupRec g with
  | none => false
  | some r => r.vgA != 0xFFFF || r.vgB != 0xFFFF || r.vgC != 0xFFFF

/-- A write of 1 to ARM (R62, R80): ignored in CONNECTED. -/
def State.syncArm (s : State) (p : Port) (g : Nat) : State :=
  if !s.gridSet g then s.refuse p (Reg.GFM_SYNC_CTRL_ARM g).addr
  else if s.mode g = mCONNECTED then s
  else s.setFld (Reg.GFM_SYNC_CTRL_ARM g) 1

def execSyncArm (p : Port) (g : Fin 8) (s : State) : Host.Outcome State Fault Refusal :=
  .next (s.gfmCmd (.syncArm p g) p g (Reg.GFM_SYNC_CTRL_ARM g).addr fun t => t.syncArm p g)

/-- A write of 0 to ARM (R83). -/
def State.syncDisarm (s : State) (g : Nat) : State :=
  let t := s.setFld (Reg.GFM_SYNC_CTRL_ARM g) 0
  if t.on (Reg.GFM_SYNC_CTRL_AUTO g) then t
  else
    let u := t.setGrp g { t.grp g with syncClose := false, pulse := false, dwell := 0,
                                       closeWait := (t.grp g).closeWait && t.mode g != mSYNCING }
    if u.mode g = mSYNCING then u.setMode g mISLAND else u

def execSyncDisarm (p : Port) (g : Fin 8) (s : State) : Host.Outcome State Fault Refusal :=
  .next (s.gfmCmd (.syncDisarm p g) p g (Reg.GFM_SYNC_CTRL_ARM g).addr fun t => t.syncDisarm g)

/-- A write of HOST_CLOSED (R78, R353). -/
def State.hostClosed (s : State) (p : Port) (g v : Nat) : State :=
  if s.role = roleSTANDBY then s.refuse p (Reg.GFM_BRK_HOST_CLOSED g).addr
  else (s.setFld (Reg.GFM_BRK_HOST_CLOSED g) v).brkWatch g

end Sys2Proof.Machine
end

