-- ==== Sys2Proof/Machine/SoundRows.lean ====
section
/-!
DEFINITION. The rotor tick as a command (R38), with what Sounding, Bearing and the Tally take from it, and the commands of Sounding
and tuning (R325 to R331).
-/

namespace Sys2Proof.Machine

/-- Whether a group's record is of type 1P. -/
def State.one (s : State) (g : Nat) : Bool := ((s.groupRec g).map GroupRec.typ) == some 2

/-- A burst takes its samples of a tick (R328): v_α alone in a 1P group. -/
def State.burstTick (s : State) (g : Nat) (i : TickIn) : State :=
  if s.genState g = gBURST ∧ s.genTime g < s.fld (Reg.SND_G_CFG_TB g) * realSecond then
    let d := s.genTime g
    (s.corrV g d (i.vAl, if i.one then 0 else i.vBe)).corrI g d (i.iAl, if i.one then 0 else i.iBe)
  else s

/-- The leader's means take a tick (R338). -/
def State.leaderTick (s : State) (g : Nat) : State :=
  if s.on (Reg.BRG_G_CFG_EN g) && s.on (Reg.BRG_G_CFG_LEADER g) then
    let n := s.node g
    let t := (s.grp g).trkT
    s.setNode g (if t.valid then { n with sumF := n.sumF + t.f, sumV := n.sumV + t.v, cnt := n.cnt + 1 }
      else { n with bad := true })
  else s

/-- The entries of a group's VT and IO sets (R137). -/
def GroupRec.tallyEntries (r : GroupRec) : List Nat := [r.vtA, r.vtB, r.vtC, r.ioA, r.ioB, r.ioC].filter (· != 0xFFFF)

/-- Whether an entry's sample is invalid (R315), and whether it carries ORNG or XTALK. -/
def State.entryInvalid (s : State) (e : Nat) : Bool :=
  isNav (s.entryWord e) || s.on (Reg.ADC_RES_OPEN e) || s.on (Reg.ADC_RES_INVAL e)
def State.entryTagged (s : State) (e : Nat) : Bool := s.on (Reg.ADC_RES_ORNG e) || s.on (Reg.ADC_RES_XTALK e)

/-- The energy in 2^-32 mWh of a power `x` with 56 fraction bits over `d` units of real time (R2, R35, R397). -/
def State.energy (s : State) (g : Nat) (one : Bool) (x : Int) (d : Nat) : Nat :=
  x.natAbs * (if one then 5 else 15) * s.fld (Reg.GFM_BASE_V g) * s.fld (Reg.GFM_BASE_I g) * s.nPar g * d * 10 * 2 ^ 32
    / (1000 * 36 * realSecond * 2 ^ 56)

/-- The Tally integrates a tick of `d` units of real time (R397). -/
def State.tallyTick (s : State) (g : Nat) (r : GroupRec) (i : TickIn) (d : Nat) : State :=
  if bitOf (s.fld Reg.SEC_TALLY_CFG_EN) g then
    let t := s.tallyRec g
    let orng := if r.tallyEntries.any s.entryTagged then t.orng + d else t.orng
    if r.tallyEntries.any s.entryInvalid then s.setTally g { t with unmet := t.unmet + d, orng := orng }
    else
      let p := i.vAl * i.iAl + i.vBe * i.iBe
      let q := i.vBe * i.iAl - i.vAl * i.iBe
      let ep := s.energy g i.one p d
      let eq := s.energy g i.one q d
      s.setTally g { t with eExp := if 0 < p then t.eExp + ep else t.eExp, eImp := if p < 0 then t.eImp + ep else t.eImp,
                            qPos := if 0 < q then t.qPos + eq else t.qPos, qNeg := if q < 0 then t.qNeg + eq else t.qNeg,
                            orng := orng }
  else s

/-- ROTOR_TICK (R38): a tick of a group that the active image defines and does not make DC, once in a C-cycle. -/
def State.tickGroup (s : State) (g : Nat) (m : TickMeas) : State :=
  match s.groupRec g with
  | none => s
  | some r =>
    if r.typ < 3 ∧ s.armed = true ∧ s.marked (0x2040 + g) = false then
      let i := s.tickIn g r m
      let d := match (s.grp g).tickReal with
        | none => 0
        | some p => s.eng.real - p
      (((((s.mark (0x2040 + g)).rotorTick g r m).burstTick g i).leaderTick g).tallyTick g r i d)
    else s

def execRotorTick (g : Fin 8) (m : TickMeas) (s : State) : Host.Outcome State Fault Refusal := .next (s.tickGroup g m)

/-- The injection of a generator in its state (R325, R326, R332). -/
def State.injWords (s : State) (g : Nat) : Int × Int :=
  let st := s.genState g
  if st = gBURST ∨ st = gTUNE then s.toneWords g (s.one g)
  else if st = gBEARING then s.keyWords g (s.one g)
  else (0, 0)

/-- INJECTION_UPDATE (R325): every 400 C-cycles. -/
def State.inject (s : State) (g : Nat) : State :=
  if s.now % 400 = 0 ∧ s.marked (0x2020 + g) = false then
    let w := s.injWords g
    ((s.mark (0x2020 + g)).setSfld (Reg.SND_G_INJ_A g) (clampInt w.1)).setSfld (Reg.SND_G_INJ_B g) (clampInt w.2)
  else s

def execInjectionUpdate (g : Fin 8) (s : State) : Host.Outcome State Fault Refusal := .next (s.inject g)

/-- A group may be sounded, and its node may send (R327, R336): ISLAND or CONNECTED, and not in a STANDBY module (R353). -/
def State.maySound (s : State) (g : Nat) : Bool :=
  (s.mode g == mISLAND || s.mode g == mCONNECTED) && s.armed && s.role != roleSTANDBY

/-- A Bearing frame of a group is pending or being sent (R327). -/
def State.frameHeld (s : State) (g : Nat) : Bool :=
  let n := s.node g
  !n.queue.isEmpty || n.sending.isSome || n.ackDue.isSome

/-- The generator starts a use (R339). -/
def State.genStart (s : State) (g st : Nat) : State :=
  (s.setGen g { s.gen g with start := s.eng.real, sums := [], nV := 0, nI := 0 }).setGenState g st

/-- BURST_START (R327): PERIOD in ISLAND or CONNECTED and since the burst before, then the delay, which runs from EN where that came
later. -/
def State.burstStart (s : State) (g : Nat) : State :=
  let r := s.gen g
  if s.genState g = gWAIT ∧ s.on (Reg.SND_G_CFG_EN g) = true ∧ s.maySound g = true ∧ s.frameHeld g = false
      ∧ max (max r.since r.waitFrom + s.fld (Reg.SND_G_CFG_PERIOD g) * 400000000) (r.enAt.getD 0) + r.delay ≤ s.now then
    s.genStart g gBURST
  else s

/-- Of the uses of a generator that fall due in one C-cycle, a burst comes last (R339). -/
def execBurstStart (g : Fin 8) (s : State) : Host.Outcome State Fault Refusal :=
  .next (s.inOrder (.burstStart g) (Instr.beforeBurst g) fun t => t.burstStart g)

/-- The quality of a tone in Q15.16, saturated (R328); none where both correlations are 0. -/
def ToneSum.quality (t : ToneSum) : Option Nat :=
  let n := t.iR.natAbs ^ 2 + t.iI.natAbs ^ 2
  let d := t.nR.natAbs ^ 2 + t.nI.natAbs ^ 2
  if n = 0 ∧ d = 0 then none
  else if d * 2 ^ 30 ≤ n then some 0x7FFFFFFF
  else some (min 0x7FFFFFFF ((isqrt (4 * n * 2 ^ 32 / d) + 1) / 2))

/-- The quotient of the two correlations in Q3.28 (R328, R331), where it exists. -/
def ToneSum.ratio (t : ToneSum) (nV nI : Nat) : Option (Int × Int) :=
  let d := nV * (t.iR.natAbs ^ 2 + t.iI.natAbs ^ 2)
  if d = 0 then none
  else some (clampInt (roundDiv ((t.vR * t.iR + t.vI * t.iI) * nI * 2 ^ 28) d),
             clampInt (roundDiv ((t.vI * t.iR - t.vR * t.iI) * nI * 2 ^ 28) d))

/-- The results of one tone (R328, R331): the Bool says that it was accepted. A quotient of 0 and 0 is a free value. `judge` says
that QMIN decides. -/
def State.toneResult (s : State) (g k : Nat) (judge : Bool) : State × Bool :=
  let r := s.gen g
  let t := r.sums.getD k {}
  let q := match t.quality with
    | some q => (q, s)
    | none => (s.drawFree.1.toNat % 2 ^ 31, s.drawFree.2)
  let s1 := q.2.setFld (Reg.SND_G_Z_Q g k) q.1
  if judge && decide (q.1 < s.fld (Reg.SND_G_QUAL_QMIN g) * 65536) then
    ((s1.setFld (Reg.SND_G_Z_RE g k) 0x80000000).setFld (Reg.SND_G_Z_IM g k) 0x80000000, false)
  else
    match t.ratio r.nV r.nI with
    | some z => ((s1.setSfld (Reg.SND_G_Z_RE g k) z.1).setSfld (Reg.SND_G_Z_IM g k) z.2, true)
    | none =>
      let a := s1.drawFree
      let b := a.2.drawFree
      ((b.2.setFld (Reg.SND_G_Z_RE g k) a.1.toNat).setFld (Reg.SND_G_Z_IM g k) b.1.toNat, true)

/-- The results of every enabled tone, and the tones accepted. Log 54 (DEDUCED). -/
def State.toneResults (s : State) (g : Nat) (judge : Bool) : State × List Nat :=
  (List.range 6).foldl (fun (a : State × List Nat) k =>
    if a.1.fld (Reg.SND_G_TONE_AMP g k) = 0 then a
    else
      let x := a.1.toneResult g k judge
      (x.1, if x.2 then a.2 ++ [k] else a.2)) (s, [])

/-- BURST_END (R328): TB seconds of real time have passed. -/
def State.burstEnd (s : State) (g : Nat) : State :=
  if s.genState g = gBURST ∧ s.fld (Reg.SND_G_CFG_TB g) * realSecond ≤ s.genTime g then
    let x := s.toneResults g true
    (x.1.setGen g { x.1.gen g with fitDue := true, endAt := s.now, accepted := x.2 }).burstRest g
  else s

def execBurstEnd (g : Fin 8) (s : State) : Host.Outcome State Fault Refusal := .next (s.burstEnd g)

/-- FIT_R and FIT_X over the accepted tones (R329). -/
def State.fit (s : State) (g : Nat) (l : List Nat) : Int × Int :=
  let f (k : Nat) : Nat := s.fld (Reg.SND_G_TONE_FREQ g k)
  let re := (l.map fun k => s.sfld (Reg.SND_G_Z_RE g k)).sum
  let im := (l.map fun k => (f k : Int) * s.sfld (Reg.SND_G_Z_IM g k)).sum
  (roundDiv re l.length, clampInt (roundDiv (im * s.fB g) ((l.map fun k => f k ^ 2).sum)))

/-- The retuned pair that a fit gives (R330). -/
def State.retuned (s : State) (g : Nat) (r x : Int) : Int × Int :=
  let c := s.grp g
  let step (old tgt : Int) : Int := old + roundShift (tgt - old) (s.fld (Reg.SND_G_CFG_SM g))
  (within (tenThou (s.fld (Reg.GFM_RV_BOUND_RV_MIN g))) (tenThou (s.fld (Reg.GFM_RV_BOUND_RV_MAX g)))
     (step c.rvEff (tenThou (s.fld (Reg.SND_G_TOTAL_RTOT g)) - r)),
   within (tenThou (s.fld (Reg.GFM_XV_BOUND_XV_MIN g))) (tenThou (s.fld (Reg.GFM_XV_BOUND_XV_MAX g)))
     (step c.xvEff (tenThou (s.fld (Reg.SND_G_TOTAL_XTOT g)) - x)))

/-- SOUNDING_FIT (R329, R330). -/
def State.soundingFit (s : State) (g : Nat) : State :=
  let r := s.gen g
  if r.fitDue = false then s
  else
    let t := s.setGen g { r with fitDue := false, accepted := [] }
    if r.accepted.length < 3 then t.raise (Reg.SND_G_STATUS_LOWQ_S g)
    else
      let z := s.fit g r.accepted
      let u := ((((t.setSfld (Reg.SND_G_FIT_R g) z.1).setSfld (Reg.SND_G_FIT_X g) z.2).stamp (Reg.SND_G_STAMP_LO g)
        (Reg.SND_G_STAMP_HI g) r.endAt).raise (Reg.SND_G_STATUS_DONE_S g)).count (Reg.SND_G_CNT_BURST_CNT g)
      if s.on (Reg.GFM_CTRL_RETUNE_EN g) then
        u.setGen g { u.gen g with retune := some (s.retuned g z.1 z.2), retuneAt := s.now + msCycles 1 }
      else u

def execSoundingFit (g : Fin 8) (s : State) : Host.Outcome State Fault Refusal := .next (s.soundingFit g)

/-- The words bound to C_RV and C_XV of a group take the new pair, and their mirror words with them (R95, R140, R330). -/
def State.bindPair (s : State) (g : Nat) : State :=
  match s.stg.active with
  | none => s
  | some i => (i.binds.filter fun b => b.group == g && (b.name == 0x09 || b.name == 0x0A)).foldl
      (fun t b => (t.setMem b.cell .coef false b.word { val := (t.coef g b.name).toNat }).mirrorWrite b.cell false false b.word) s

/-- Whether a context of a cell that holds a bound word of C_RV or C_XV of a group is in execution (R330). -/
def State.readsPair (s : State) (g : Nat) : Bool :=
  match s.stg.active with
  | none => false
  | some i => i.binds.any fun b => b.group == g && (b.name == 0x09 || b.name == 0x0A)
      && i.ctxs.any fun c => cfgCell c.cfg == b.cell && (s.ctx c.ctx).busy

/-- RETUNE_APPLY (R45, R330): at a rotor tick boundary at least 1 ms after the fit, between two executions of the context that reads the
pair, within the bounds as they stand then. -/
def State.retuneApply (s : State) (g : Nat) : State :=
  match (s.gen g).retune with
  | none => s
  | some z =>
    if (s.gen g).retuneAt ≤ s.now ∧ s.marked (0x2040 + g) = true ∧ s.readsPair g = false then
      let t := s.setGen g { s.gen g with retune := none }
      let y := s.zBound g z
      let u := t.setGrp g { t.grp g with rvEff := y.1, xvEff := y.2 }
      (((u.setSfld (Reg.GFM_RV_EFF g) y.1).setSfld (Reg.GFM_XV_EFF g) y.2).bindPair g).raise (Reg.GFM_STATUS_RETUNE_S g)
    else s

def execRetuneApply (g : Fin 8) (s : State) : Host.Outcome State Fault Refusal :=
  .next (s.inOrder (.retuneApply g) (Instr.beforeRetune g) fun t => t.retuneApply g)

def addrTune (g : Nat) : Nat := (Reg.SND_G_TUNE_GO g).addr

/-- A write of TUNE.GO (R331): in TUNE itself it does nothing, an ACK that is due comes first (R339), and in a STANDBY, whose generators
follow the active module's (R353), it has no effect. Log 180 (DESIGN CHOICE). -/
def State.tuneStart (s : State) (p : Port) (g : Nat) : State :=
  let st := s.genState g
  let due := (s.node g).ackDue.any fun (e : Nat × TxFrame) => decide (e.1 ≤ s.now)
  if st = gBURST ∨ st = gBEARING ∨ (due = true ∧ s.maySound g = true) then s.refuse p (addrTune g)
  else if st = gTUNE ∨ s.role = roleSTANDBY then s
  else s.genStart g gTUNE

def execTuneStart (p : Port) (g : Fin 8) (s : State) : Host.Outcome State Fault Refusal :=
  .next (s.portCmd (.tuneStart p g) p (addrTune g) fun t => t.tuneStart p g)

/-- TUNE_END (R331). Log 54 (DEDUCED). -/
def State.tuneEnd (s : State) (g : Nat) : State :=
  if s.genState g = gTUNE ∧ s.fld (Reg.SND_G_CFG_TB g) * realSecond ≤ s.genTime g then
    ((s.toneResults g false).1.genRest g).raise (Reg.SND_G_STATUS_TUNE_S g)
  else s

def execTuneEnd (g : Fin 8) (s : State) : Host.Outcome State Fault Refusal := .next (s.tuneEnd g)

/-- A write of TUNE.ABORT (R331). -/
def State.tuneAbort (s : State) (g : Nat) : State :=
  if s.genState g = gTUNE then (s.genRest g).raise (Reg.SND_G_STATUS_ABORT_S g) else s

def execTuneAbort (p : Port) (g : Fin 8) (s : State) : Host.Outcome State Fault Refusal :=
  .next (s.portCmd (.tuneAbort p g) p (addrTune g) fun t => t.tuneAbort g)

end Sys2Proof.Machine
end

