-- ==== Sys2Proof/Machine/BearingRows.lean ====
section
/-!
DEFINITION. The commands of the Bearing channel (R332 to R338): frames received and sent, acknowledgements, and the leader.
-/

namespace Sys2Proof.Machine

/-- The `n` bits of a value, most significant first (R333). -/
def bitsMsb (n v : Nat) : List Bool := (List.range n).map fun i => bitOf v (n - 1 - i)

/-- The value of bits sent most significant first. -/
def ofBits (l : List Bool) : Nat := l.foldl (fun a b => 2 * a + asNat b) 0

/-- One bit enters CRC-16 with polynomial 0x1021 (R333, R405). -/
def crc16Bit (c : Nat) (b : Bool) : Nat :=
  let s := c * 2 % 2 ^ 16
  if bitOf c 15 != b then xorN s 0x1021 else s

/-- CRC-16 of a sequence of bits: start 0xFFFF, not reflected, no final exclusive or. -/
def crc16 (l : List Bool) : Nat := l.foldl crc16Bit 0xFFFF

/-- The fields of a frame after SYNC (R333). -/
structure BrgFields where
  dst : Nat
  src : Nat
  typ : Nat
  bc : Bool
  seq : Nat
  payload : Nat
  deriving DecidableEq, Repr

/-- Bits 16 to 79 of a frame in their order. -/
def BrgFields.bits (f : BrgFields) : List Bool :=
  bitsMsb 12 f.dst ++ bitsMsb 12 f.src ++ bitsMsb 4 f.typ ++ [f.bc] ++ bitsMsb 3 f.seq ++ bitsMsb 32 f.payload

/-- The number whose bit `i` is the `i`-th of a list. -/
def packBits (l : List Bool) : Nat := l.foldr (fun b a => asNat b + 2 * a) 0

/-- A whole frame, bit 0 first: SYNC, the fields, the CRC (R333). -/
def BrgFields.frame (f : BrgFields) : Nat := packBits (bitsMsb 16 0xB6C5 ++ f.bits ++ bitsMsb 16 (crc16 f.bits))

/-- The fields of the 80 bits that follow SYNC, bit 16 of the frame being bit 0 here; and whether the CRC is right. -/
def readFrame (w : Nat) : BrgFields × Bool :=
  let b := (List.range 80).map (bitOf w)
  let f (i n : Nat) : Nat := ofBits ((b.drop i).take n)
  ({ dst := f 0 12, src := f 12 12, typ := f 24 4, bc := bitOf w 28, seq := f 29 3, payload := f 32 32 },
   crc16 (b.take 64) == f 64 16)

/-- 80 ms of real time: one bit (R332). Log 67 (DEDUCED). -/
def bitTime : Nat := realSecond * 8 / 100

/-- A frame is to be logged (R335): the core writes it to its area of DRAM (`State.logNext`). Log 196 (DESIGN CHOICE). -/
def State.logFrame (s : State) (g w : Nat) (sent : Bool) : State :=
  let l := s.snd.log ++ [(w, 2 * g + asNat sent)]
  { s with snd := { s.snd with log := l.drop (l.length - 1024) } }

/-- Where the housekeeping core keeps the frame log: the last 16 KiB of its area of DRAM (R285). Log 196 (DESIGN CHOICE). -/
def frameLogAt : Nat := 0x00FFC000

/-- The housekeeping core logs a frame (R335), as a requester of class B (R295): 1,024 records of 16 bytes in turn, each the 80 bits after
SYNC, then 2 × group, and 1 more where it was sent. Log 196 (DESIGN CHOICE). -/
def State.logNext (s : State) : State :=
  match s.snd.log with
  | [] => s
  | e :: l =>
    let a := frameLogAt + 16 * (s.snd.logged % 1024)
    if s.coreReady a 16 then
      let t := { s with snd := { s.snd with log := l, logged := s.snd.logged + 1 } }.coreDone
      (t.writeBytes 1 a (leBytes 10 e.1 ++ [e.2] ++ List.replicate 5 0) []).1
    else s.coreStall

/-- BEARING_SYNC_DETECTED (R334): 80 further bits follow. The correlations of the receiver are the sender's. Log 195 (DESIGN CHOICE). -/
def State.syncDetected (s : State) (g : Nat) : State :=
  let n := s.node g
  if s.on (Reg.BRG_G_CFG_EN g) = true ∧ s.armed = true ∧ n.sending = none ∧ s.on (Reg.BRG_G_STATUS_RXBUSY g) = false then
    (s.setNode g { n with rxEnd := s.eng.real + 80 * bitTime }).setFld (Reg.BRG_G_STATUS_RXBUSY g) 1
  else s

def execBearingSyncDetected (g : Fin 8) (s : State) : Host.Outcome State Fault Refusal := .next (s.syncDetected g)

/-- A refusal under rule 4 of R335. -/
def State.brgReject (s : State) (g : Nat) : State :=
  (s.raise (Reg.BRG_G_STATUS_REJ_S g)).count (Reg.BRG_G_CNT_C_REJ_CNT g)

/-- A frame reaches RX_HDR and RX_DATA (R335, rule 5). Log 55 (DEDUCED). -/
def State.brgStore (s : State) (g : Nat) (f : BrgFields) (w endAt : Nat) : State :=
  let t := ((((s.setFld (Reg.BRG_G_RX_HDR_SRC g) f.src).setFld (Reg.BRG_G_RX_HDR_BC g) (asNat f.bc)).setFld
    (Reg.BRG_G_RX_HDR_SEQ g) f.seq).setFld (Reg.BRG_G_RX_HDR_TYPE g) f.typ).setFld (Reg.BRG_G_RX_DATA g) f.payload
  (((t.stamp (Reg.BRG_G_RX_STAMP_LO g) (Reg.BRG_G_RX_STAMP_HI g) endAt).raise (Reg.BRG_G_STATUS_RX_S g)).count
    (Reg.BRG_G_CNT_B_RX_CNT g)).logFrame g w false

/-- Whether an ACK is the one that the node awaits (R335). -/
def State.ackMatches (s : State) (g : Nat) (f : BrgFields) : Bool :=
  match (s.node g).ackWait, (s.node g).queue with
  | some _, h :: _ => h.dst == f.src && f.payload % 16 == h.typ && h.seq == some (f.payload / 16 % 8)
  | _, _ => false

/-- The awaited ACK has come: the frame is done with. Log 67 (DEDUCED). -/
def State.ackDone (s : State) (g : Nat) : State :=
  let n := s.node g
  (s.freshWait g { n with ackWait := none, queue := n.queue.drop 1 }).noteTx g

/-- The ACK of a frame (R333): it falls due 160 ms of chart time after the frame's last bit (R275, R336). -/
def State.askAck (s : State) (g : Nat) (f : BrgFields) (endAt : Nat) : State :=
  let n := s.node g
  if f.bc then s
  else s.setNode g { n with ackDue := some (endAt + msCycles 160,
    { kind := 4, dst := f.src, bc := false, typ := 4, payload := f.typ + 16 * f.seq }) }

/-- A SEC_DF or SEC_DV frame (R335): applied, met before, or refused under rule 4. Log 55 (DEDUCED). -/
def State.brgSec (s : State) (g : Nat) (f : BrgFields) (w endAt : Nat) : State :=
  let n := s.node g
  let last := if f.typ = 1 then n.lastDf else n.lastDv
  if f.src ≠ s.fld (Reg.BRG_G_CFG_SEC_FROM g) then s.brgReject g
  else if last = some (f.src, f.seq) ∧ s.secMay (if f.typ = 1 then 4 else 5) g f.payload = true then (s.brgStore g f w endAt).askAck g f endAt
  else
    let x := s.secBearing (if f.typ = 1 then 4 else 5) g f.payload
    if x.2 then
      let t := x.1.setNode g (if f.typ = 1 then { x.1.node g with lastDf := some (f.src, f.seq) }
        else { x.1.node g with lastDv := some (f.src, f.seq) })
      (t.brgStore g f w endAt).askAck g f endAt
    else (if s.on (Reg.GFM_CTRL_SEC_SRC g) then s else x.1).brgReject g

/-- A decoded frame is handled by the first rule that applies (R335). Log 55 (DEDUCED). -/
def State.brgHandle (s : State) (g w endAt : Nat) : State :=
  let x := readFrame w
  let f := x.1
  let me := s.fld (Reg.BRG_G_CFG_ADDR g)
  if x.2 = false then (s.raise (Reg.BRG_G_STATUS_CRC_S g)).count (Reg.BRG_G_CNT_B_CRC_CNT g)
  else if f.bc = false ∧ f.dst ≠ me then s
  else if f.src = me then s.raise (Reg.BRG_G_STATUS_ADDRDUP_S g)
  else match f.typ with
    | 1 | 2 => s.brgSec g f w endAt
    | 3 | 5 => s.brgStore g f w endAt
    | 4 => if s.ackMatches g f then (s.brgStore g f w endAt).ackDone g else s.brgReject g
    | _ => s.brgReject g

/-- BEARING_FRAME_RECEIVED (R334, R335): the 80 bits after SYNC as the receiver decoded them, the first of them in bit 0. -/
def State.frameReceived (s : State) (g w : Nat) : State :=
  let n := s.node g
  if s.on (Reg.BRG_G_STATUS_RXBUSY g) = true ∧ n.rxEnd ≤ s.eng.real then
    let late := (roundDiv ((s.eng.real - n.rxEnd : Nat) : Int) s.eng.rho).toNat
    (s.setFld (Reg.BRG_G_STATUS_RXBUSY g) 0).brgHandle g w (s.now - late)
  else s

def execBearingFrameReceived (g : Fin 8) (w : BitVec 80) (s : State) : Host.Outcome State Fault Refusal :=
  .next (s.frameReceived g w.toNat)

def addrTxCtrl (g : Nat) : Nat := (Reg.BRG_G_TX_CTRL_GO g).addr

/-- A type that the host may send (R333, R337). Log 56 (DEDUCED). -/
def txTypeOk (t : Nat) (leader : Bool) : Bool := t == 3 || t == 5 || ((t == 1 || t == 2) && !leader)

/-- A write of TX_CTRL.GO (R337). Log 56 (DEDUCED). -/
def State.txGo (s : State) (p : Port) (g : Nat) : State :=
  let typ := s.fld (Reg.BRG_G_TX_HDR_TYPE g)
  if s.on (Reg.BRG_G_CFG_EN g) = true ∧ s.fld (Reg.BRG_G_STATUS_TXSTATE g) = 0
      ∧ txTypeOk typ (s.on (Reg.BRG_G_CFG_LEADER g)) = true then
    let bc := s.on (Reg.BRG_G_TX_HDR_BC g)
    s.queueTx g { kind := 0, dst := if bc then 0 else s.fld (Reg.BRG_G_TX_HDR_DST g), bc := bc, typ := typ,
                  payload := s.fld (Reg.BRG_G_TX_DATA g) }
  else s.refuse p (addrTxCtrl g)

def execBearingTxGo (p : Port) (g : Fin 8) (s : State) : Host.Outcome State Fault Refusal :=
  .next (s.portCmd (.bearingTxGo p g) p (addrTxCtrl g) fun t => t.txGo p g)

/-- A write of TX_CTRL.CANCEL (R337): a frame in WAIT or ACKWAIT is removed. -/
def State.txCancel (s : State) (g : Nat) : State :=
  let n := s.node g
  if n.sending.isSome || n.queue.isEmpty then s
  else ((s.freshWait g { n with ackWait := none, queue := n.queue.drop 1 }).noteTx g).raise
    (Reg.BRG_G_STATUS_TXFAIL_S g)

def execBearingTxCancel (p : Port) (g : Fin 8) (s : State) : Host.Outcome State Fault Refusal :=
  .next (s.portCmd (.bearingTxCancel p g) p (addrTxCtrl g) fun t => t.txCancel g)

/-- A frame goes onto the channel (R332, R333): a new one takes the next SEQ, one that was sent before is a retry (R336). -/
def State.beginFrame (s : State) (g : Nat) (f : TxFrame) (rest : List TxFrame) : State :=
  let n := s.node g
  let q := f.seq.getD ((n.seq + 1) % 8)
  let again := f.seq.isSome
  let f2 := { f with seq := some q, retries := if again then f.retries + 1 else 0 }
  let w := BrgFields.frame { dst := f.dst, src := s.fld (Reg.BRG_G_CFG_ADDR g), typ := f.typ, bc := f.bc, seq := q,
                             payload := f.payload }
  let t := s.setNode g { n with seq := if again then n.seq else q, queue := rest, sending := some f2 }
  let u := ((t.setFld (Reg.BRG_G_STATUS_RXBUSY g) 0).genStart g gBEARING)
  let v := (u.setGen g { u.gen g with frame := w }).noteTx g
  if again then v.count (Reg.BRG_G_CNT_A_RETRY_CNT g) else v

/-- BEARING_TX_START (R336): the wait of R336 is over, which is no shorter than eight windows and the backoff since the node began to
wait, or since the last frame that it heard; a window that the receiver finds busy otherwise is the sender's to wait for.
Log 195 (DESIGN CHOICE). -/
def State.txStart (s : State) (g : Nat) : State :=
  let n := s.node g
  match n.queue with
  | [] => s
  | f :: rest =>
    if s.on (Reg.BRG_G_CFG_EN g) = true ∧ s.maySound g = true ∧ n.sending = none ∧ n.ackWait = none
        ∧ (s.genState g = gIDLE ∨ s.genState g = gWAIT) ∧ s.on (Reg.BRG_G_STATUS_RXBUSY g) = false
        ∧ max n.waitFrom n.rxEnd + (8 + n.slots) * bitTime ≤ s.eng.real
        ∧ (n.ackDue.any fun (e : Nat × TxFrame) => decide (e.1 ≤ s.now)) = false then
      s.beginFrame g f rest
    else s

/-- Of the uses of a generator that fall due in one C-cycle, an ACK comes first (R339). -/
def execBearingTxStart (g : Fin 8) (s : State) : Host.Outcome State Fault Refusal :=
  .next (s.inOrder (.bearingTxStart g) (Instr.beforeFrameTx g) fun t => t.txStart g)

/-- BEARING_ACK_SEND (R336, R339): without sensing or backoff; it takes the generator from a burst. -/
def State.ackSend (s : State) (g : Nat) : State :=
  let n := s.node g
  match n.ackDue with
  | none => s
  | some (due, f) =>
    if due ≤ s.now ∧ s.maySound g = true ∧ n.sending = none ∧ s.genState g ≠ gTUNE then
      let t := (s.abandonBurst g).setNode g { n with ackDue := none }
      t.beginFrame g f n.queue
    else s

def execBearingAckSend (g : Fin 8) (s : State) : Host.Outcome State Fault Refusal := .next (s.ackSend g)

/-- What follows the end of a frame (R336, R338): a unicast SEC frame awaits its ACK at the head of the queue; the leader's offsets
wait 100 ms. -/
def State.afterFrame (s : State) (g : Nat) (f : TxFrame) : State :=
  let n := s.node g
  if f.bc = false ∧ (f.typ = 1 ∨ f.typ = 2) then
    (s.setNode g { n with queue := f :: n.queue, ackWait := some s.now }).noteTx g
  else if f.kind = 2 ∨ f.kind = 3 then
    (s.freshWait g { n with offsets := n.offsets ++ [(s.now + msCycles 100, f.kind + 2, f.payload)] }).noteTx g
  else (s.freshWait g n).noteTx g

/-- BEARING_TX_DONE (R332, R336): the 96 bits have been sent. -/
def State.txDone (s : State) (g : Nat) : State :=
  match (s.node g).sending with
  | none => s
  | some f =>
    if 96 * bitTime ≤ s.genTime g then
      let t := (s.logFrame g ((s.gen g).frame / 2 ^ 16) true).setNode g { s.node g with sending := none }
      let u := ((t.genRest g).raise (Reg.BRG_G_STATUS_TXDONE_S g)).count (Reg.BRG_G_CNT_A_TX_CNT g)
      u.afterFrame g f
    else s

def execBearingTxDone (g : Fin 8) (s : State) : Host.Outcome State Fault Refusal := .next (s.txDone g)

/-- BEARING_ACK_TIMEOUT (R336): 9 s without the ACK; the frame is sent again, or has failed after three retries. -/
def State.ackTimeout (s : State) (g : Nat) : State :=
  let n := s.node g
  match n.ackWait, n.queue with
  | some t, f :: rest =>
    if t + 3600000000 ≤ s.now then
      if f.retries < 3 then (s.freshWait g { n with ackWait := none }).noteTx g
      else ((s.freshWait g { n with ackWait := none, queue := rest }).noteTx g).raise
        (Reg.BRG_G_STATUS_TXFAIL_S g)
    else s
  | _, _ => s

def execBearingAckTimeout (g : Fin 8) (s : State) : Host.Outcome State Fault Refusal := .next (s.ackTimeout g)

/-- A power in 0.001 pu, signed in 12 bits and saturated at ±2.047 (R333). -/
def milliField (x : Int) : Nat := unsignedOf 12 (within (-2047) 2047 (roundDiv (x * 1000) (2 ^ 28)))

/-- The payload of a STATE frame (R333). -/
def State.statePayload (s : State) (g : Nat) : Nat :=
  s.mode g + 8 * asNat (s.node g).ilimSeen + 16 * milliField (s.grp g).pe + 2 ^ 16 * milliField (s.grp g).qf

/-- BEARING_STATE_PERIOD (R337): a frame that is still queued makes the next one skipped. -/
def State.statePeriod (s : State) (g : Nat) : State :=
  let n := s.node g
  let per := s.fld (Reg.BRG_G_STATE_PER g) * 400000000
  if s.on (Reg.BRG_G_CFG_EN g) = true ∧ per ≠ 0 ∧ n.stateFrom + per ≤ s.now then
    let t := s.setNode g { n with stateFrom := n.stateFrom + per }
    if n.queue.any fun (f : TxFrame) => f.kind == 1 then t
    else (t.setNode g { t.node g with ilimSeen := false }).queueTx g
      { kind := 1, bc := true, typ := 3, payload := s.statePayload g }
  else s

def execBearingStatePeriod (g : Fin 8) (s : State) : Host.Outcome State Fault Refusal := .next (s.statePeriod g)

/-- The leader queues an offset, or replaces the payload of its frame that is still queued (R338). -/
def State.leaderSend (s : State) (g kind v : Nat) : State :=
  let n := s.node g
  if n.queue.any fun (f : TxFrame) => f.kind == kind then
    s.setNode g { n with queue := n.queue.map fun (f : TxFrame) => if f.kind = kind then { f with payload := v } else f }
  else s.queueTx g { kind := kind, bc := true, typ := kind - 1, payload := v }

/-- The new offsets of the leader (R338): DF and DV. -/
def State.leaderOffsets (s : State) (g : Nat) : Int × Int :=
  let n := s.node g
  let df := s.sfld (Reg.GFM_SEC_DF g)
  let dv := s.sfld (Reg.GFM_SEC_DV g)
  let kf : Int := s.fld (Reg.BRG_G_LEAD_KF g)
  let kv : Int := s.fld (Reg.BRG_G_LEAD_KV g)
  if s.mode g = mISLAND then
    (within (-(tenThou 500)) (tenThou 500) (df + roundDiv (kf * (s.sfld (Reg.GFM_FSET g) * n.cnt - n.sumF)) (256 * n.cnt)),
     within (-(tenThou 1000)) (tenThou 1000) (dv + roundDiv (kv * (s.sfld (Reg.GFM_VSET g) * n.cnt - n.sumV)) (256 * n.cnt)))
  else (roundDiv (df * (256 - kf)) 256, roundDiv (dv * (256 - kv)) 256)

/-- LEADER_EVALUATION (R338). -/
def State.leaderEval (s : State) (g : Nat) : State :=
  let n := s.node g
  let per := s.fld (Reg.BRG_G_LEAD_LPERIOD g) * 400000000
  if s.on (Reg.BRG_G_CFG_EN g) = true ∧ s.on (Reg.BRG_G_CFG_LEADER g) = true ∧ n.leadFrom + per ≤ s.now then
    let t := s.setNode g { n with leadFrom := n.leadFrom + per, sumF := 0, sumV := 0, cnt := 0, bad := false }
    if n.bad = true ∨ n.cnt = 0 ∨ ¬ (s.mode g = mISLAND ∨ s.mode g = mCONNECTED) then t
    else
      let o := s.leaderOffsets g
      let u := t.leaderSend g 2 (unsignedOf 32 o.1)
      if s.fld (Reg.BRG_G_LEAD_KV g) = 0 then u else u.leaderSend g 3 (unsignedOf 32 o.2)
  else s

def execLeaderEvaluation (g : Fin 8) (s : State) : Host.Outcome State Fault Refusal := .next (s.leaderEval g)

/-- LEADER_OFFSET_APPLY (R338): 100 ms after the end of the frame that carried it. -/
def State.leaderApply (s : State) (g : Nat) : State :=
  match (s.node g).offsets with
  | [] => s
  | (due, k, v) :: rest =>
    if due ≤ s.now then ((s.setNode g { s.node g with offsets := rest }).secBearing k g v).1 else s

def execLeaderOffsetApply (g : Fin 8) (s : State) : Host.Outcome State Fault Refusal := .next (s.leaderApply g)

end Sys2Proof.Machine
end

