-- ==== Sys2Proof/Machine/ClkRows.lean ====
section
/-!
DEFINITION. The commands of the clocks (R260 to R280): reference, locks and their loss, holdover, domain A's change of clock,
self-refresh, spreading, the band table and the errors of dual-clock queues.
-/

namespace Sys2Proof.Machine

/-- The frequencies that the housekeeping core has measured (R260, R275). -/
def State.measured (s : State) (refKhz kKhz : Nat) : State :=
  (s.setFld Reg.CLK_REF_MEAS_REF_KHZ refKhz).setFld Reg.CLK_REF_MEAS_K_KHZ kKhz

/-- The PLLs without lock begin to relock on a valid reference (R271). Log 70 (DEDUCED). -/
def State.relock (s : State) : State :=
  forIdx 3 (fun p t => if t.fld (Reg.CLK_PLL_STATUS_STATE p) ≠ 3 ∧ tabGet 0 t.clk.hop p = 0 then t.startHop p else t) s

/-- The mark of a PLL that a fallback of this C-cycle found locked (R262, R271). -/
def markFell (p : Nat) : Nat := 0x2038 + p

/-- The reference in use becomes invalid (R260, R271); with FALLBACK the PLLs go over to the crystal by fast hop (R262). -/
def State.refLoss (s : State) : State :=
  let t := (s.setFld Reg.CLK_STATUS_REF_OK 0).raise Reg.CLK_STATUS_REFLOSS_S
  if s.on Reg.CLK_STATUS_REF_ACT && s.on Reg.CLK_REF_CFG_FALLBACK then
    let u := forIdx 3 (fun p u => if u.fld (Reg.CLK_PLL_STATUS_STATE p) = 3 then u.mark (markFell p) else u) t
    (u.raise Reg.CLK_STATUS_FALLBK_S).hopAll 0
  else t

/-- REFERENCE_LOSS (R260, R271): a gap, or a measured frequency out of its range. -/
def execReferenceLoss (refKhz kKhz : Fin 65536) (s : State) : Host.Outcome State Fault Refusal :=
  .next (if s.on Reg.CLK_STATUS_REF_OK then (s.measured refKhz kKhz).refLoss else s)

/-- Whether a measured frequency lies within ±5 % of that of the reference in use (R260). -/
def State.refInRange (s : State) (khz : Nat) : Bool := decide (19 * s.refKhz ≤ 20 * khz) && decide (20 * khz ≤ 21 * s.refKhz)

/-- REFERENCE_VALID (R260, R271, R275): 64 good periods of a reference in its range, with what the housekeeping core measures; on one
that is valid already, the measurement alone. -/
def State.refValid (s : State) (refKhz kKhz : Nat) : State :=
  if s.refInRange refKhz = false then s
  else if s.on Reg.CLK_STATUS_REF_OK then s.measured refKhz kKhz
  else ((s.measured refKhz kKhz).setFld Reg.CLK_STATUS_REF_OK 1).relock

def execReferenceValid (refKhz kKhz : Fin 65536) (s : State) : Host.Outcome State Fault Refusal :=
  .next (s.refValid refKhz kKhz)

/-- The record of a PLL's loss of lock (R271). -/
def State.noteLoss (s : State) (p : Nat) : State :=
  match p with
  | 0 => (s.raise Reg.CLK_STATUS_LOL_C_S).count Reg.CLK_CNT_LOLC_CNT
  | 1 => (s.raise Reg.CLK_STATUS_LOL_A_S).count Reg.CLK_CNT_LOLA_CNT
  | _ => (s.raise Reg.CLK_STATUS_LOL_M_S).count Reg.CLK_CNT_LOLM_CNT

/-- PLL-C loses lock (R272). Log 73 (DEDUCED). -/
def State.lossC (s : State) : State := s.holdC.noteLoss 0

/-- PLL-A loses lock (R198, R273). -/
def State.lossA (s : State) : State :=
  (((s.setFld Reg.CLK_STATUS_LOCK_A 0).setFld (Reg.CLK_PLL_STATUS_STATE 1) 0).noteLoss 1).askAlt

/-- PLL-M loses lock (R274). -/
def State.lossM (s : State) : State :=
  let t := ((s.setFld Reg.CLK_STATUS_LOCK_M 0).setFld (Reg.CLK_PLL_STATUS_STATE 2) 0).noteLoss 2
  { t with clk := { t.clk with lossM := some s.now } }

/-- Marks of the C-cycle (R281): a loss of lock that acted, and one of a PLL that had none. -/
def markLoss (p : Nat) : Nat := 0x2030 + p
def markVoidLoss (p : Nat) : Nat := 0x2034 + p

/-- A PLL loses lock (R271); with a valid reference it relocks at once by fast hop. `byRef` says that the reference is the cause,
which leaves PLL-M on its tap locked (R264) and lets no hop begin on it. A fallback of this C-cycle has begun the hop of a PLL whose loss it
brought, which is recorded all the same. -/
def State.pllLoss (s : State) (p : Nat) (byRef : Bool) : State :=
  if byRef = true ∧ p = 2 ∧ s.on Reg.CLK_M_CFG_M_SRC = true then s
  else if s.fld (Reg.CLK_PLL_STATUS_STATE p) ≠ 3 then
    if s.marked (markFell p) && !s.marked (markLoss p) then
      let t := (s.noteLoss p).mark (markLoss p)
      if p = 1 then t.askAlt else t
    else s.mark (markVoidLoss p)
  else
    let t := (match p with
      | 0 => s.lossC
      | 1 => s.lossA
      | _ => s.lossM).mark (markLoss p)
    let u := if byRef then t.raise Reg.CLK_STATUS_REFLOSS_S else t
    if (u.on Reg.CLK_STATUS_REF_OK && !byRef) || (p == 2 && u.on Reg.CLK_M_CFG_M_SRC) then u.startHop p else u

/-- PLL_LOSS_OF_LOCK (R271). Log 12 (DESIGN CHOICE). -/
def execPllLossOfLock (p : Fin 3) (byRef : Bool) (s : State) : Host.Outcome State Fault Refusal := .next (s.pllLoss p byRef)

/-- The entry that a lock at a temperature writes (R266): the one within 5 °C, or the oldest; an empty one is the oldest. -/
def State.bandFor (s : State) (p t : Nat) : Nat :=
  match s.nearBand p t with
  | some k => if s.bandGap k t ≤ 5 then k
    else (leastBy (fun j => if s.on (Reg.CLK_BAND_VALID j) then tabGet 0 s.clk.bandAt j + 1 else 0) (bandSlots p)).getD k
  | none => (bandSlots p).headD 0

/-- A lock is recorded in the band table (R266). Log 74 (DESIGN CHOICE). -/
def State.recordBand (s : State) (p band coarse t : Nat) : State :=
  let k := s.bandFor p t
  let u := { s with clk := { s.clk with bandAt := tabPut s.clk.bandAt k s.now } }
  ((((u.setFld (Reg.CLK_BAND_BAND k) band).setFld (Reg.CLK_BAND_TEMP k) t).setFld (Reg.CLK_BAND_COARSE k) coarse).setFld
    (Reg.CLK_BAND_PLL k) p).setFld (Reg.CLK_BAND_VALID k) 1

/-- The ratio that keeps ρ on another reference (R121, R263, R272). -/
def State.carryRatio (s : State) : State :=
  if s.clk.ratioKhz = s.refKhz then s
  else s.setRatioC (roundDiv ((s.ratio 0 * s.clk.ratioKhz : Nat) : Int) s.refKhz).toNat

/-- PLL-C locks (R268, R272): its first lock starts the ratio, later ones end the holdover, after which a STANDBY lays its carriers
again (R362). -/
def State.lockC (s : State) : State :=
  let t := (s.setFld Reg.CLK_STATUS_LOCK_C 1).setFld Reg.CLK_STATUS_HOLD 0
  let u := { t with clk := { t.clk with locked := true, catching := t.on Reg.CLK_STATUS_SPREAD_ON },
                    twn := { t.twn with relay := t.twn.relay || s.on Reg.CLK_STATUS_HOLD } }
  if s.clk.locked = false then (u.setRatioC (nomRatio u.refKhz))
  else if u.on Reg.CLK_SPREAD_EN && !u.on Reg.CLK_STATUS_SPREAD_ON then u.startProfile u.now
  else if u.on Reg.CLK_STATUS_SPREAD_ON then u.carryRatio
  else u.setRatioC (nomRatio u.refKhz)

/-- PLL-A and PLL-M lock (R273, R274). -/
def State.lockA (s : State) : State :=
  let t := (s.setFld Reg.CLK_STATUS_LOCK_A 1).setRatio 1 (nomRatio s.refKhz)
  { t with clk := { t.clk with lockA := s.now, altDue := false } }

def State.lockM (s : State) : State :=
  let t := (s.setFld Reg.CLK_STATUS_LOCK_M 1).setRatio 2 s.ratioM
  { t with clk := { t.clk with lossM := none } }

/-- A PLL locks (R265 to R267, R271): its seed is loaded and its band recorded, after a hop that which the hop loaded. PLL-C keeps its
band once it has locked. A loss of lock in this C-cycle wins (R281). -/
def State.pllLock (s : State) (p band coarse t : Nat) : State :=
  if s.fld (Reg.CLK_PLL_STATUS_STATE p) = 3 ∨ (s.on Reg.CLK_STATUS_REF_OK = false ∧ ¬(p = 2 ∧ s.on Reg.CLK_M_CFG_M_SRC = true)) then s
  else if s.marked (markLoss p) then s
  else if s.marked (markVoidLoss p) then s.noteLoss p
  else
    let b := if (p = 0 ∧ s.clk.locked = true) ∨ tabGet 0 s.clk.hop p ≠ 0 then s.fld (Reg.CLK_PLL_STATUS_BAND p) else band
    let u := ((s.setFld (Reg.CLK_PLL_STATUS_STATE p) 3).setFld (Reg.CLK_PLL_STATUS_BAND p) b).recordBand p b coarse t
    let v := { u with clk := { u.clk with hop := tabDel u.clk.hop p } }.loadSeed p
    match p with
    | 0 => v.lockC
    | 1 => v.lockA
    | _ => v.lockM

/-- PLL_LOCK (R271). -/
def execPllLock (p : Fin 3) (band : Fin 64) (coarse : Fin 1024) (temp : Fin 256) (s : State) : Host.Outcome State Fault Refusal :=
  .next (s.pllLock p band coarse temp)

/-- A fast hop has not locked within 5 µs (R266): the entry it loaded is invalid; PLL-A and PLL-M search, and their domains are without
lock (R273, R274); PLL-C stays on its frozen word. -/
def State.hopFail (s : State) (p : Nat) : State :=
  let k := tabGet 0 s.clk.hopEnt p
  let u := ({ s with clk := { s.clk with hop := tabDel s.clk.hop p } }.raise Reg.CLK_STATUS_HOPFAIL_S).setFld (Reg.CLK_BAND_VALID k) 0
  if p = 0 ∧ s.clk.locked = true then u
  else
    let v := u.setFld (Reg.CLK_PLL_STATUS_STATE p) 1
    if p = 1 ∧ s.clk.altDue = false ∧ s.clk.locked = true then v.askAlt
    else if p = 2 then { v with clk := { v.clk with lossM := some (v.clk.lossM.getD s.now) } }
    else v

/-- FAST_HOP_TIMEOUT (R266): the entry is the one that the hop loaded, whatever the temperature is as the time runs out. -/
def execFastHopTimeout (p : Fin 3) (_temp : Fin 256) (s : State) : Host.Outcome State Fault Refusal :=
  let h := tabGet 0 s.clk.hop p
  .next (if h ≠ 0 ∧ h - 1 + usCycles 5 ≤ s.now then s.hopFail p else s)

/-- HOLDOVER_EXPIRY (R272): FREE, HOLDX_S, and the fault action for source 0x06 of every group that the image has. -/
def execHoldoverExpiry (s : State) : Host.Outcome State Fault Refusal :=
  .next (if s.fld (Reg.CLK_PLL_STATUS_STATE 0) = 4 ∧ s.clk.holdAt + 800000 ≤ s.now then
    let t := (s.setFld (Reg.CLK_PLL_STATUS_STATE 0) 5).raise Reg.CLK_STATUS_HOLDX_S
    forIdx 8 (fun g u => if (u.groupRec g).isSome then u.faultAction g 0x06 else u) t
    else s)

/-- DOMAIN_A_SWITCHOVER (R198, R273): at the next slot boundary after PLL-A has lost lock. -/
def execDomainASwitchover (s : State) : Host.Outcome State Fault Refusal :=
  .next (if s.clk.locked = true ∧ s.clk.altDue = true ∧ s.on Reg.CLK_STATUS_LOCK_A = false then s.setFld Reg.CLK_STATUS_A_ALT 1 else s)

/-- DOMAIN_A_SWITCHBACK (R198, R273): 1 µs after lock. -/
def execDomainASwitchback (s : State) : Host.Outcome State Fault Refusal :=
  .next (if s.on Reg.CLK_STATUS_A_ALT = true ∧ s.on Reg.CLK_STATUS_LOCK_A = true ∧ s.clk.lockA + usCycles 1 ≤ s.now then
    (s.setFld Reg.CLK_STATUS_A_ALT 0).tagSwitch else s)

/-- MEM_SELF_REFRESH_ENTRY (R274). -/
def execMemSelfRefreshEntry (s : State) : Host.Outcome State Fault Refusal :=
  .next (if s.clk.lossM.isSome = true ∧ s.on Reg.CLK_STATUS_M_SR = false then
    { s.setFld Reg.CLK_STATUS_M_SR 1 with mem := { s.mem with srFrom := some s.now } } else s)

/-- Time in self-refresh does not count toward a request's timeout (R274, R306). Log 132 (DESIGN CHOICE). -/
def State.endRefresh (s : State) : State :=
  let d := s.now - s.mem.srFrom.getD s.now
  { s with mem := { s.mem with srFrom := none, ch := s.mem.ch.map fun (x : Nat × DmaCh) =>
      (x.1, { x.2 with flight := x.2.flight.map fun f => { f with paused := f.paused + d } }) } }

/-- MEM_SELF_REFRESH_EXIT (R274); in standby the DRAM stays in self-refresh (R426). Log 132 (DESIGN CHOICE). -/
def execMemSelfRefreshExit (s : State) : Host.Outcome State Fault Refusal :=
  .next (if s.on Reg.CLK_STATUS_M_SR = true ∧ s.on Reg.CLK_STATUS_LOCK_M = true ∧ s.on Reg.SYS_STBY_STAT_READY = false then
    (s.endRefresh).setFld Reg.CLK_STATUS_M_SR 0 else s)

/-- The ratio of PLL-C goes to its value in the profile, after a holdover in steps no larger than the profile's own (R268, R272). -/
def State.spreadStep (s : State) : State :=
  let goal : Int := if s.on Reg.CLK_STATUS_SPREAD_ON then s.profRatio s.profPos else nomRatio s.refKhz
  let cur : Int := s.ratio 0
  let d : Int := s.profStep
  if s.clk.catching ∧ d < (goal - cur).natAbs then s.setRatioC (cur + (goal - cur).sign * d).toNat
  else { s.setRatioC goal.toNat with clk := { s.clk with catching := false } }

/-- SPREAD_STEP (R268): every 400 C-cycles of the profile, and of what is left of the way back after a holdover (R272). -/
def execSpreadStep (s : State) : Host.Outcome State Fault Refusal :=
  .next (if (s.on Reg.CLK_STATUS_SPREAD_ON = true ∨ s.clk.catching = true) ∧ s.on Reg.CLK_STATUS_LOCK_C = true
      ∧ s.profPos % 400 = 0 then s.spreadStep else s)

/-- Whether a committed change of CLK_SPREAD waits (R269). -/
def spreadKey (k : Nat) : Bool := keyAddr k == Reg.CLK_SPREAD_EN.addr

/-- SPREAD_PROFILE_RESTART (R269): at q = 0 of the old profile. -/
def execSpreadProfileRestart (s : State) : Host.Outcome State Fault Refusal :=
  .next (if (s.regs.com.any fun e => spreadKey e.1) = true ∧ s.on Reg.CLK_STATUS_LOCK_C = true ∧ s.profPos = 0 then
    (s.takeCom spreadKey).startProfile s.now else s)

/-- A write of CLK_BAND_CTRL.CLEAR (R266). -/
def State.bandClear (s : State) (p : Port) : State :=
  if s.armed then s.refuse p Reg.CLK_BAND_CTRL_CLEAR.addr
  else forIdx 16 (fun k t => t.setFld (Reg.CLK_BAND_VALID k) 0) s

/-- BAND_TABLE_CLEAR (R266). -/
def execBandTableClear (p : Port) (s : State) : Host.Outcome State Fault Refusal :=
  .next (s.portCmd (.bandTableClear p) p Reg.CLK_BAND_CTRL_CLEAR.addr fun t => t.bandClear p)

end Sys2Proof.Machine
end

