-- ==== Sys2Proof/Machine/MemRows.lean ====
section
/-!
DEFINITION. The commands of protected memory (R283 to R294) and of the mirror (R95, R290).
-/

namespace Sys2Proof.Machine

/-- A write by a port of an expert register (R18, R434): refused unless EXPERT_EN was 1 as the C-cycle began. -/
def State.expertCmd (s : State) (c : Instr) (p : Port) (a : Nat) (body : State → State) : State :=
  s.portCmd c p a fun t => if t.expertStart then body t else t.refuse p a

/-- A die is marked lost (R286, R287). -/
def State.loseDie (s : State) (d : Nat) : State :=
  ((s.setFld Reg.MEM_STATUS_LOST 1).setFld Reg.MEM_STATUS_LOST_DIE d).raise Reg.MEM_STATUS_LOST_S

/-- The converter link and the drive status links have trained (R33, R422). -/
def State.linksUp (s : State) : State := (s.setFld Reg.SYS_DIE_STATUS_CNV_UP 1).setFld Reg.SYS_DIE_STATUS_DRV_UP 15

/-- The fill of R286: every block holds zeros with valid check symbols. Log 130 (DEDUCED). -/
def State.fillDram (s : State) : State :=
  { s with mem := { s.mem with dram := [], flips := [], plist := [], dieWin := [], hits := [] } }.setFld Reg.MEM_PL_CNT_USED 0

/-- MEM_INIT_DONE (R286, R421): the channel has trained in LINKS, and after a POWER_ON reset the fill completes; `lost` names a die that
failed training. The channel trains after the converter link and the drive links (R33). Log 130 (DEDUCED). -/
def execMemInitDone (lost : Option (Fin 10)) (s : State) : Host.Outcome State Fault Refusal :=
  .next (if s.on Reg.MEM_STATUS_INIT_DONE ∨ s.fld Reg.SYS_BOOT_STATUS_PHASE ≠ 2 then s
    else
      let t := if s.fld Reg.SYS_RESET_CAUSE_KIND = 0 then s.fillDram else s
      let u := ({ t with mem := { t.mem with winFrom := s.now } }.linksUp.setFld Reg.MEM_STATUS_INIT_DONE 1).setFld Reg.SYS_DIE_STATUS_MEM_UP 1
      match lost with
      | none => u
      | some d => u.loseDie d)

/-- One second in C-cycles (R287). -/
def dieWindow : Nat := 400000000

/-- The dies other than a marked one whose corrections have reached THR (R287). -/
def State.worstDies (s : State) : List Nat :=
  (List.range 10).filter fun d => decide (s.fld Reg.MEM_LOST_CFG_THR ≤ tabGet 0 s.mem.dieWin d) && s.lostDie != some d

/-- DIE_CE_WINDOW (R287): the end of a window of 1 s. -/
def execDieCeWindow (s : State) : Host.Outcome State Fault Refusal :=
  .next (if s.mem.winFrom + dieWindow ≤ s.now then
      let t := { s with mem := { s.mem with dieWin := [], winFrom := s.mem.winFrom + dieWindow } }
      match s.worstDies, s.lostDie with
      | [], _ => t
      | _ :: _, some _ => t.setFld Reg.MEM_STATUS_LOST2 1
      | d :: ds, none =>
        if s.on Reg.MEM_CTRL_AUTO_LOST then
          (if ds.isEmpty then t.loseDie d else (t.loseDie d).setFld Reg.MEM_STATUS_LOST2 1)
        else t
    else s)

/-- A write of MARK (R287, R312). -/
def State.markDie (s : State) (p : Port) (d : Nat) : State :=
  if 10 ≤ d ∨ s.on Reg.MEM_STATUS_LOST = true then s.refuse p Reg.MEM_DIE_CTRL_DIE.addr
  else (s.setFld Reg.MEM_DIE_CTRL_DIE d).loseDie d

def execDieMark (p : Port) (d : Fin 16) (s : State) : Host.Outcome State Fault Refusal :=
  .next (s.portCmd (.dieMark p d) p Reg.MEM_DIE_CTRL_DIE.addr fun t => t.markDie p d)

/-- A write of UNMARK (R287). Log 105 (DEDUCED). -/
def State.unmarkDie (s : State) (p : Port) : State :=
  if s.on Reg.MEM_STATUS_LOST then
    ((s.setFld Reg.MEM_STATUS_LOST 0).setFld Reg.MEM_STATUS_LOST_DIE 0).setFld Reg.MEM_STATUS_LOST2 0
  else s.refuse p Reg.MEM_DIE_CTRL_DIE.addr

def execDieUnmark (p : Port) (s : State) : Host.Outcome State Fault Refusal :=
  .next (s.portCmd (.dieUnmark p) p Reg.MEM_DIE_CTRL_DIE.addr fun t => t.unmarkDie p)

/-- The valid errata entry of an 8 KiB block (R292). -/
def State.errataOf (s : State) (b : Nat) : Option Nat :=
  firstIdx 16 fun k => s.on (Reg.MEM_ERRATA_VALID k) && s.fld (Reg.MEM_ERRATA_BLOCK k) == b

/-- The free errata entry that an ADD takes: not valid, and not already being filled. -/
def State.errataFree (s : State) : Option Nat :=
  firstIdx 16 fun k => !s.on (Reg.MEM_ERRATA_VALID k) && !s.mem.moves.any fun m => m.k == k

/-- The first 8 KiB block number of the spare blocks (R285). -/
def spareBlock : Nat := 0xFFFE0000 / 8192

/-- An entry is asked for (R293): its move begins, or it is refused (none). ERRFULL_S records a full table. -/
def State.errataAdd (s : State) (b : Nat) (auto : Bool) : State × Bool :=
  if (s.errataOf b).isSome || s.moving (b * 8192) || decide (spareBlock ≤ b) then (s, false)
  else match s.errataFree with
    | none => (s.raise Reg.MEM_STATUS_ERRFULL_S, false)
    | some k => ({ s with mem := { s.mem with moves := s.mem.moves ++ [{ k := k, block := b, auto := auto, at0 := s.now }] } }, true)

/-- A write of ADD (R293). -/
def State.errataWrite (s : State) (p : Port) (b : Nat) : State :=
  let r := (s.setFld Reg.MEM_ERRATA_CTRL_BLOCK b).errataAdd b false
  if r.2 then r.1 else r.1.refuse p Reg.MEM_ERRATA_CTRL_BLOCK.addr

def execErrataAdd (p : Port) (b : Fin 0x80000) (s : State) : Host.Outcome State Fault Refusal :=
  .next (s.portCmd (.errataAdd p b) p Reg.MEM_ERRATA_CTRL_BLOCK.addr fun t => t.errataWrite p b)

/-- A write of REMOVE (R293): it acts on the block of a valid entry. -/
def State.errataRemove (s : State) (b : Nat) : State :=
  let t := s.setFld Reg.MEM_ERRATA_CTRL_BLOCK b
  match s.errataOf b with
  | none => t
  | some k =>
    if s.moving (b * 8192) then t
    else { t with mem := { t.mem with moves := t.mem.moves ++ [{ k := k, block := b, back := true, at0 := s.now }] } }

def execErrataRemove (p : Port) (b : Fin 0x80000) (s : State) : Host.Outcome State Fault Refusal :=
  .next (s.portCmd (.errataRemove p b) p Reg.MEM_ERRATA_CTRL_BLOCK.addr fun t => t.errataRemove b)

/-- The 64-byte blocks of an 8 KiB block that hold an error pattern. -/
def State.flippedBlocks (s : State) (b : Nat) : List Nat :=
  ((s.mem.flips.filter fun e => e.1 / 1024 == b).map fun e => e.1 / 8).dedup

/-- An errata move carries one 64-byte block over (R293): corrected, with its poison kept. Log 103 (DEDUCED). -/
def State.carryBlock (s : State) (k : Nat) : State :=
  if s.blockBad k then
    (if s.mayPoison k then (s.remakeBlock k).1.poisonBlock k else s.plFull)
  else (s.remakeBlock k).1

/-- Whether a request in the tracker that came before a move still touches its block (R311). -/
def State.burstIn (s : State) (m : Move) : Bool :=
  s.mem.ch.any fun e => e.2.flights.any fun f => decide (f.takenAt ≤ m.at0) && f.beats.any fun b => b.1 / 8192 == m.block

/-- ERRATA_MOVE_DONE (R293): the oldest move ends; it waits while DRAM serves nothing (R274), and for the bursts before it (R311). -/
def execErrataMoveDone (s : State) : Host.Outcome State Fault Refusal :=
  .next (match s.mem.moves with
    | [] => s
    | m :: ms =>
      if !s.memRuns || s.burstIn m then s else
      let t := (s.flippedBlocks m.block).foldl State.carryBlock { s with mem := { s.mem with moves := ms } }
      if m.back then
        ((t.setFld (Reg.MEM_ERRATA_VALID m.k) 0).setFld (Reg.MEM_ERRATA_AUTO m.k) 0).setFld (Reg.MEM_ERRATA_BLOCK m.k) 0
      else
        (((t.setFld (Reg.MEM_ERRATA_BLOCK m.k) m.block).setFld (Reg.MEM_ERRATA_AUTO m.k) (asNat m.auto)).setFld
          (Reg.MEM_ERRATA_VALID m.k) 1).raise Reg.MEM_STATUS_ERRADD_S)

/-- The block that a scrub position reads, in the addresses that requests use: none for a replaced block or an unused spare
(R291, R292). -/
def State.scrubTarget (s : State) (k : Nat) : Option Nat :=
  let b := k / 128
  if spareBlock ≤ b then
    (if s.on (Reg.MEM_ERRATA_VALID (b - spareBlock)) then some (s.fld (Reg.MEM_ERRATA_BLOCK (b - spareBlock)) * 128 + k % 128)
     else none)
  else if (s.errataOf b).isSome then none
  else some k

/-- A scrub read of one 64-byte block (R291): every beat is judged; a block with a correction and nothing uncorrectable is written
back; a correction counts for its 8 KiB block (R293). -/
def State.scrubBlock (s : State) (k : Nat) : State :=
  let hit := anyIdx 8 fun i => match verdict s.lostDie (tabGet 0 s.mem.flips (8 * k + i)) with
    | .corrected _ _ => true
    | _ => false
  let t := if hit && !s.blockBad k then (s.remakeBlock k).1 else (List.range 8).foldl (fun u i => (u.judge (8 * k + i)).1) s
  if hit then { t with mem := { t.mem with hits := k :: t.mem.hits } } else t

/-- The 8 KiB blocks with enough corrected blocks in a pass (R293). -/
def State.errataDue (s : State) : List Nat :=
  ((s.mem.hits.map (· / 128)).dedup).filter fun b =>
    decide (s.fld Reg.MEM_ERR_THR_THR ≤ ((s.mem.hits.dedup).filter fun k => k / 128 == b).length)

/-- The end of a scrub pass (R291, R293). -/
def State.scrubEnd (s : State) : State :=
  let t := (s.count Reg.MEM_SCRUB_CNT_PASS_CNT).raise Reg.MEM_STATUS_SCRUB_S
  let u := if s.on Reg.MEM_CTRL_AUTO_ERR then s.errataDue.foldl (fun v b => (v.errataAdd b true).1) t else t
  { u with mem := { u.mem with hits := [], scrubFrom := s.now, scrubPos0 := 0 } }

/-- C-cycles of a scrub pass (R291): MEM_SCRUB.HOURS hours. -/
def State.scrubSpan (s : State) : Nat := s.fld Reg.MEM_SCRUB_HOURS * 3600 * dieWindow

/-- The blocks that the pass has read since `scrubFrom`: a reset, which starts chart time anew, keeps the position of the sweep (R421).
Log 150 (DESIGN CHOICE). -/
def State.scrubbed (s : State) : Nat := s.fld Reg.MEM_SCRUB_POS_BLOCK - s.mem.scrubPos0

/-- Whether the next scrub read is due by its pace (R291, R275): 2^26 blocks in a pass, in chart time. Log 164 (DESIGN CHOICE). -/
def State.scrubDue (s : State) : Bool := decide (s.scrubbed * s.scrubSpan ≤ (s.now - s.mem.scrubFrom) * 2 ^ 26)

/-- Whether the sweep lags its pace by more than 1 % of a pass (R291). -/
def State.scrubLags (s : State) : Bool :=
  decide ((100 * s.scrubbed + 2 ^ 26) * s.scrubSpan < 100 * 2 ^ 26 * (s.now - s.mem.scrubFrom))

/-- Whether a command slot is left for a scrub read (R291, R303): one in which no class request waits, or where the sweep lags one in
which none of class A or B does. -/
def State.scrubSlot (s : State) : Bool :=
  match s.nextServed with
  | none => true
  | some (cls, _) => cls == 3 && s.scrubLags

/-- SCRUB_READ (R291): the patrol reads the block at MEM_SCRUB_POS and moves on; it waits while the block is moved (R293). -/
def execScrubRead (s : State) : Host.Outcome State Fault Refusal :=
  .next (if s.on Reg.MEM_CTRL_SCRUB_EN && s.memRuns && s.scrubDue && s.scrubSlot && !((s.scrubTarget (s.fld Reg.MEM_SCRUB_POS_BLOCK)).any
      fun b => s.moving (64 * b)) then
      let k := s.fld Reg.MEM_SCRUB_POS_BLOCK
      let t := match s.scrubTarget k with
        | none => s
        | some b => s.scrubBlock b
      let u := t.setFld Reg.MEM_SCRUB_POS_BLOCK ((k + 1) % 2 ^ 26)
      if k + 1 = 2 ^ 26 then u.scrubEnd else u
    else s)

/-- A write of GO in MEM_INJ_CTRL (R294): refused outside the general region. -/
def State.checkerGo (s : State) (p : Port) : State :=
  let a := s.fld Reg.MEM_INJ_ADDR
  if a < 0x01000000 ∨ 0xFFFE0000 ≤ a then s.refuse p Reg.MEM_INJ_CTRL_GO.addr
  else
    let m := s.fld Reg.MEM_FLIP0 + s.fld Reg.MEM_FLIP1 * 2 ^ 32 + s.fld Reg.MEM_FLIP2_MASK * 2 ^ 64
    { s with mem := { s.mem with inj := some (a / 8, m) } }

def execCheckerInject (p : Port) (s : State) : Host.Outcome State Fault Refusal :=
  .next (s.expertCmd (.checkerInject p) p Reg.MEM_INJ_CTRL_GO.addr fun t => t.checkerGo p)

/-- CHECKER_INJECT_DONE (R294): the block stands with the mask in its beat. -/
def execCheckerInjectDone (s : State) : Host.Outcome State Fault Refusal :=
  .next (match s.mem.inj with
    | none => s
    | some (b, m) =>
      if !s.memRuns || s.moving (8 * b) then s
      else
        let t := (s.remakeBlock (b / 8)).1
        { t with mem := { t.mem with inj := none, flips := tabSet 0 t.mem.flips b m } }.raise Reg.MEM_STATUS_INJ_S)

/-- The verdict on the mirror word of a cell word (R95, R290): poisoned by its beat or by the poison list. -/
def State.mirrorRead (s : State) (c : Nat) (bun stg : Bool) (i : Nat) : State × Bool :=
  let j := s.judge (s.mirrorAddr c bun stg i / 8)
  (j.1, j.2.2)

/-- A cell word takes the value of its mirror word, which is what was last written to both (R95); of the copies that stand for the
staging copy, each that is poisoned. -/
def State.mirrorFix (s : State) (c : Nat) (bun stg : Bool) (i : Nat) : State :=
  let k := if bun then c * 512 + i % 512 else c * 1024 + i % 1024
  let fix (m : Tab MWord) : Tab MWord := let w := tabGet {} m k; if w.ecc = .bad then tabSet {} m k { w with ecc := .ok } else m
  let e := s.eng
  let f := e.found.filter (· != foundId (if bun then bunAddr c (i % 512) else coefAddr c (i % 1024)) stg)
  if bun then
    (if stg then { s with eng := { e with bunStg := fix e.bunStg, bunOld := fix e.bunOld, found := f } }
     else { s with eng := { e with bun := fix e.bun, found := f } })
  else if stg then { s with eng := { e with coefStg := fix e.coefStg, coefOld := fix e.coefOld, found := f } }
  else { s with eng := { e with coef := fix e.coef, found := f } }

/-- Whether a word of a copy of a cell memory is poisoned. -/
def State.wordBad (s : State) (c : Nat) (bun stg : Bool) (i : Nat) : Bool :=
  let bad (m : Tab MWord) (k : Nat) := decide ((tabGet {} m k).ecc = .bad)
  if bun then (if stg then bad s.eng.bunStg (c * 512 + i % 512) || bad s.eng.bunOld (c * 512 + i % 512)
    else bad s.eng.bun (c * 512 + i % 512))
  else if stg then bad s.eng.coefStg (c * 1024 + i % 1024) || bad s.eng.coefOld (c * 1024 + i % 1024)
  else bad s.eng.coef (c * 1024 + i % 1024)

/-- MIRROR_REPAIR (R95, R290): a coefficient or bundle word of cell `c` that a read has found poisoned is rewritten from its mirror
word, a read of class B (R295); `stg` chooses the staging copy, and `soft` says that this read of the mirror word meets an uncorrectable
error that no command has left. Log 110 (DESIGN CHOICE). -/
def State.mirrorRepair (s : State) (c : Nat) (bun stg : Bool) (i : Nat) (soft : Bool) : State :=
  let id := foundId (if bun then bunAddr c (i % 512) else coefAddr c (i % 1024)) stg
  if s.wordBad c bun stg i = false ∨ s.eng.found.contains id = false then s
  else if !s.coreReady (s.mirrorAddr c bun stg i) 4 then s.coreStall
  else
    let m := if soft then (s.coreDone.noteUe (s.mirrorAddr c bun stg i / 8), true) else s.coreDone.mirrorRead c bun stg i
    if m.2 then m.1.raise Reg.MEM_STATUS_MIRUE_S else m.1.mirrorFix c bun stg i

def execMirrorRepair (c : Fin 32) (bun stg : Bool) (i : Fin 1024) (soft : Bool) (s : State) : Host.Outcome State Fault Refusal :=
  .next (s.mirrorRepair c bun stg i soft)

end Sys2Proof.Machine
end

