-- ==== Sys2Proof/Machine/TwinOps.lean ====
section
/-!
DEFINITION. Twin operation (R343 to R362): roles, what a frame carries, what a cut captures, and what the standby does with a frame.
Words 12 to 27 of a frame are laid out so (the spec gives their contents alone): word 12 has bit 0 announcement, bit 1
acknowledgement, bit 2 claim, bit 3 LINEF_S, bit 4 PLL-C held, bit 5 HO_BUSY, bits [12:8] the fraction of PWM_ORIGIN; words 13 and 14 T_h;
words 15 and 16 the start
of the spreading profile; word 17 the staging state; words 18 to 25 the generators, each its state in [2:0] and its start in
400 C-cycles in [31:3]; words 26 and 27 PWM_ORIGIN.
-/

namespace Sys2Proof.Machine

/-- One byte enters CRC-32 (IEEE 802.3), by the bits from the lowest. Log 75 (DEDUCED). -/
def crc32Byte (c b : Nat) : Nat :=
  (List.range 8).foldl (fun x _ => if x % 2 = 1 then xorN (x / 2) 0xEDB88320 else x / 2) (xorN c b)

/-- CRC-32 of a sequence of bytes: start and final exclusive or of all ones (R347, R376). Log 75 (DEDUCED). -/
def crc32 (l : List Nat) : Nat := xorN (l.foldl crc32Byte 0xFFFFFFFF) 0xFFFFFFFF

/-- CRC-32 of words, little-endian (R347). Log 75 (DEDUCED). -/
def crcWords (l : List Nat) : Nat := crc32 (l.map (leBytes 4)).flatten

/-- Every leg becomes DRIVING (R254). -/
def State.driveAll (s : State) : State := forIdx 64 (fun n t => t.driveLeg n) s

/-- Every leg becomes RELEASED (R254). -/
def State.releaseAll (s : State) : State := forIdx 64 (fun n t => t.releaseLeg n) s

/-- Sets the record of twin operation. -/
def State.setTwn (s : State) (r : TwnRun) : State := { s with twn := r }

/-- The link shows the peer with the same strap (R344). -/
def State.strapClash (s : State) : Bool := !s.twn.lost && s.twn.peerPrimary == s.twn.strap

/-- The module drives TWIN_ACT low (R345). -/
def State.driveAct (s : State) : State :=
  (s.setTwn { s.twn with driving := true, sentAt := some s.now }).setFld Reg.TWN_STATUS_ACT_LINE 0

/-- The module becomes ACTIVE and keeps its legs OFF for 200 µs (R346). -/
def State.becomeActive (s : State) : State :=
  let t := (forIdx 64 (fun n u => u.legOff n) s.driveAct).setFld Reg.TWN_STATUS_ROLE roleACTIVE
  t.setTwn { t.twn with waitFrom := none, settling := true, settleTo := s.now + 80000, claimed := false }

/-- The module becomes STANDBY: SYNC_CLOSE low (R353), and not READY before a complete sweep (R355). -/
def State.becomeStandby (s : State) : State :=
  let low := forIdx 8 (fun g u => u.setGrp g { u.grp g with syncClose := false, pulse := false }) s
  let t := (low.setFld Reg.TWN_STATUS_ROLE roleSTANDBY).setFld Reg.TWN_STATUS_READY 0
  t.setTwn { t.twn with driving := false, waitFrom := none, settling := false, laid := none, synced := false, rxSweep := none,
                        faulted := false, claimed := false, capPos := 0, sweep := 0 }

/-- A module takes its role as it arms (R346): one that has stood down drives nothing (R343), and one with PAIR_EN at 0 is SOLO. The
heartbeat time runs from here (R357). Log 123 (DEDUCED), 178 (DEDUCED). -/
def State.takeRole (s : State) : State :=
  if s.role = roleLOST then s.releaseAll
  else if s.on Reg.TWN_CTRL_PAIR_EN = false then s
  else
    let r := s.releaseAll
    let t := r.setTwn { r.twn with hbOver := false, lastGood := r.now }
    if t.on Reg.TWN_STATUS_ACT_LINE = false then t.becomeStandby
    else if t.twn.strap && !t.strapClash then t.becomeActive
    else t.setTwn { t.twn with waitFrom := some t.now }

/-- FLAGS.TWIN of the active image (R349). -/
def State.twinImage (s : State) : Bool :=
  match s.stg.active with
  | none => false
  | some i => bitOf i.flags 1

/-- The contexts of the slow set or the fast set, rising (R349). -/
def State.mirrored (s : State) (fast : Bool) : List Nat :=
  match s.stg.active with
  | none => []
  | some i => (List.range 128).filter fun n => i.ctxs.any fun r =>
      r.ctx == n && cfgDefined r.cfg && (if fast then cfgPrio r.cfg == 0 else cfgPrio r.cfg == 1 || cfgPrio r.cfg == 2)

/-- The words of a set in their order: context and key (R349, R350). -/
def State.mirrorKeys (s : State) (fast : Bool) : List (Nat × Nat) :=
  if s.twinImage then ((s.mirrored fast).map fun n => (s.ownKeys n).map fun k => (n, k)).flatten else []

/-- A mirrored word as it stood after its context's last completed execution (R350). Log 177 (DEDUCED). -/
def State.capWord (s : State) (e : Nat × Nat) : Nat :=
  match tabFind s.twn.before e.1 with
  | some l => (((s.ownKeys e.1).zip l).find? fun (p : Nat × Nat) => p.1 == e.2).elim (s.stAt e.2) (fun (p : Nat × Nat) => p.2)
  | none => s.stAt e.2

/-- The DUTY in effect of every leg (R215). -/
def State.duties (s : State) : List Nat := (List.range 64).map fun n => s.fld (Reg.PWM_LEG_DUTY n)

/-- The trigger times of the last completed executions, their low words (R347). -/
def State.doneTrigs (s : State) : List Nat := (List.range 128).map fun n => (s.ctx n).doneTrig % 2 ^ 32

/-- What a cut captures (R350). -/
def State.capture (s : State) : State :=
  s.setTwn { s.twn with
    capSlow := (s.mirrorKeys false).map s.capWord, capPos := s.twn.sweep,
    capFast := (((s.mirrorKeys true).drop s.twn.sweep).take 128).map s.capWord,
    capDuty := s.duties, capTrig := s.doneTrigs }

/-- Times in 2^-28 ticks as whole ticks in a frame word (R349). -/
def ticks (t : Nat) : Nat := t / 2 ^ 28 % 2 ^ 32

/-- C-cycles since an instant in ticks of 25 µs. -/
def State.ticksSince (s : State) (t : Nat) : Nat := (s.now - t) / 10000 % 2 ^ 32

/-- The 32 words of a group (R349). -/
def State.groupBlock (s : State) (g : Nat) : List Nat :=
  if (s.groupRec g).isNone then List.replicate 32 0
  else
    let r := s.grp g
    let w (i : Int) := unsignedOf 32 (clampInt i)
    let v (i : Int) := unsignedOf 32 (clampInt (roundShift i 28))
    [s.mode g + 8 * r.rideFrom + 64 * asNat r.recActive + 128 * asNat r.derated + 256 * asNat r.brkClosed
       + 512 * asNat r.gridBack + 1024 * s.fld (Reg.GFM_SYNC_CTRL_ARM g),
     w r.ilim, ticks r.bindTime, ticks r.lowTime, ticks r.zeroTime, ticks r.rideTime, w r.delta0,
     ticks r.exitTime % 2 ^ 16 + (if r.stopPhase = 1 then (s.now - r.stopAt) / msCycles 10 % 2 ^ 16 else 0) * 2 ^ 16,
     w r.recBound, w (s.rampE g), ticks r.bsHoldTime, ticks r.settleTime, ticks r.gridTime, ticks r.dwell,
     (if r.closeWait then s.ticksSince r.closeAt else 0), (if r.brkRaw = r.brkClosed then 0 else s.ticksSince r.brkSince),
     w r.govP.out, w r.govQ.out, w r.govF.out, w r.govV.out, v r.govP.v, v r.govQ.v, v r.govF.v, v r.govV.v,
     s.fld (Reg.GFM_PSET g), s.fld (Reg.GFM_QSET g), s.fld (Reg.GFM_FSET g), s.fld (Reg.GFM_VSET g),
     s.fld (Reg.GFM_SEC_DF g), s.fld (Reg.GFM_SEC_DV g), v r.steerF, v r.steerV]

/-- The chart time at which a generator began its use. -/
def State.genStartAt (s : State) (g : Nat) : Nat :=
  s.now - (roundDiv ((s.eng.real - (s.gen g).start : Nat) : Int) s.eng.rho).toNat

/-- The two words of a 64-bit instant. -/
def twoWords (t : Nat) : List Nat := [t % 2 ^ 32, t / 2 ^ 32 % 2 ^ 32]

/-- PLL-C is in HOLDOVER or FREE (R355). -/
def State.heldC (s : State) : Bool := s.on Reg.CLK_STATUS_HOLD

/-- The control words (R347). Log 76 (DESIGN CHOICE). -/
def State.controlWords (s : State) : List Nat :=
  let t := s.twn
  let out := s.on Reg.TWN_STATUS_HO_BUSY && !t.hoIn
  [asNat (out && decide (1 ≤ t.hoCuts) && decide (t.hoCuts ≤ 2)) + 2 * asNat (s.on Reg.TWN_STATUS_HO_BUSY && t.hoIn && t.hoAck)
      + 4 * asNat (t.claimed && s.role == roleACTIVE)
     + 8 * s.fld Reg.TWN_STATUS_LINEF_S + 16 * asNat s.heldC + 32 * asNat (s.on Reg.TWN_STATUS_HO_BUSY) + 256 * s.pwm.frac]
    ++ twoWords (if out then t.hoAt else 0) ++ twoWords (if s.on Reg.CLK_STATUS_SPREAD_ON then s.clk.profile else 0) ++ [s.stgState]
    ++ ((List.range 8).map fun g => s.genState g + s.genStartAt g / 400 % 2 ^ 29 * 8) ++ twoWords (unsignedOf 64 s.pwm.origin)

/-- The words of a frame before its CRC (R347): `at32` is the instant of its comma. Log 76 (DESIGN CHOICE). -/
def State.frameWords (s : State) (at32 : Nat) : List Nat :=
  let t := s.twn
  let f (x : Fld) := s.fld x
  let short := [t.seq + f Reg.TWN_STATUS_ROLE * 2 ^ 8 + f Reg.TWN_STATUS_READY * 2 ^ 10 + asNat t.strap * 2 ^ 11
      + f Reg.TWN_STATUS_NRDY * 2 ^ 12] ++ twoWords s.now ++ twoWords (at32 / 32)
    ++ [at32 % 32 + t.rx32 % 32 * 2 ^ 8 + t.peerSeq * 2 ^ 16] ++ twoWords (t.rx32 / 32) ++ twoWords t.digStruct
    ++ twoWords t.digConf ++ s.controlWords
  if s.role = roleACTIVE then
    short ++ ((List.range 8).map s.groupBlock).flatten ++ t.capDuty
      ++ (t.capSlow.take 512 ++ List.replicate (512 - t.capSlow.length) 0) ++ t.capTrig
      ++ (t.capFast ++ List.replicate (128 - t.capFast.length) 0) ++ [t.capPos]
  else short

/-- The sweep position after `p` (R350). -/
def State.nextSweep (s : State) (p : Nat) : Nat := if p + 128 < (s.mirrorKeys true).length then p + 128 else 0

/-- The first code of R355 that fails, of those that a sweep needs: 1 to 5, 7 and 8. Log 78 (DESIGN CHOICE). -/
def State.nrdyCore (s : State) : Nat :=
  let t := s.twn
  let os := t.ofsWin.map fun (e : Nat × Int) => e.2
  let wide := (os.any fun a => os.any fun b => decide (1280 < a - b))
  if t.lost || t.peerLineF then 1
  else if t.peerPrimary == t.strap then 2
  else if t.peerStruct != t.digStruct then 3
  else if t.peerConf != t.digConf then 4
  else if wide || s.heldC || t.peerHold then 5
  else if t.diverged then 7
  else if (anyIdx 4 fun d => !(s.ddie d).en) || s.fld Reg.DRV_STATUS_FAULT != 0 then 8
  else 0

/-- NRDY (R355). Log 78 (DESIGN CHOICE). -/
def State.nrdy (s : State) : Nat :=
  let c := s.nrdyCore
  if c ≠ 0 ∧ c < 6 then c
  else if s.role = roleSTANDBY ∧ (s.twn.laid = none ∨ s.twn.synced = false) then 6
  else if c ≠ 0 then c
  else if s.twn.faulted then 9
  else 0

/-- NRDY and READY follow the conditions (R355); where one of those that a sweep needs fails, another complete sweep is needed.
Log 78 (DESIGN CHOICE). -/
def State.noteReady (s0 : State) : State :=
  let s := if s0.nrdyCore = 0 then s0 else s0.setTwn { s0.twn with synced := false, rxClean := false }
  let c := s.nrdy
  (s.setFld Reg.TWN_STATUS_NRDY c).setFld Reg.TWN_STATUS_READY (asNat (s.role == roleSTANDBY && c == 0))

/-- A 64-bit instant in two words of a frame. -/
def at64 (l : List Nat) (i : Nat) : Nat := l.getD i 0 + 2 ^ 32 * l.getD (i + 1) 0

/-- What a frame says of the peer (R347, R355). A holdover of the peer that has ended lets the carriers be laid again (R362), and a
claim has been met once the peer is no longer ACTIVE. -/
def State.peerWords (s : State) (l : List Nat) (rx32 : Nat) : State :=
  let w := l.getD 0 0
  let c := l.getD 12 0
  let t := s.setTwn { s.twn with
    relay := s.twn.relay || (s.twn.peerHold && !bitOf c 4), claimed := s.twn.claimed && w / 2 ^ 8 % 4 == roleACTIVE,
    peerSeq := w % 256, rx32 := rx32, lastGood := s.now, lost := false, hbOver := false, peerRole := w / 2 ^ 8 % 4, peerReady := bitOf w 10,
    peerPrimary := bitOf w 11, peerLineF := bitOf c 3, peerHold := bitOf c 4, peerStruct := at64 l 8, peerConf := at64 l 10,
    peerStg := l.getD 17 0 % 8 }
  (t.setFld Reg.TWN_STATUS_LINK_UP 1).setFld Reg.TWN_STATUS_PEER_READY (w / 2 ^ 10 % 2)

/-- The newest entries of a window of one second, with the one that was in force as it began (R348). -/
def windowed (now : Nat) (l : List (Nat × Int)) : List (Nat × Int) :=
  let fresh := l.takeWhile fun (e : Nat × Int) => decide (now < e.1 + 400000000)
  fresh ++ (l.drop fresh.length).take 1

/-- The two-way values of a frame (R348), as doubles of 1/32 C-cycle: offset and delay. -/
def State.twoWay (s : State) (l : List Nat) (rx32 : Nat) : Option (Int × Int) :=
  let w := l.getD 5 0
  let sent := tabGet 0 s.twn.comma32 (w / 2 ^ 16 % 256)
  if sent = 0 then none
  else
    let mine : Int := (sent : Int) - 1
    let theirs : Int := at64 l 3 * 32 + w % 32
    let back : Int := at64 l 6 * 32 + w / 2 ^ 8 % 32
    some (((rx32 : Int) - theirs) - (back - mine), ((rx32 : Int) - theirs) + (back - mine))

/-- Offset and delay over the last 64 good frames (R348). Log 77 (DEDUCED). -/
def State.timeLink (s : State) (l : List Nat) (rx32 : Nat) : State :=
  match s.twoWay l rx32 with
  | none => s
  | some x =>
    let os := (x.1 :: s.twn.ofs).take 64
    let ds := (x.2 :: s.twn.del).take 64
    let o := roundDiv os.sum (2 * os.length)
    let d := roundDiv ds.sum (2 * ds.length)
    let win := match s.twn.ofsWin with
      | [] => [(s.now, o)]
      | e :: es => if e.2 = o then e :: es else (s.now, o) :: e :: es
    let t := s.setTwn { s.twn with ofs := os, del := ds, ofsWin := windowed s.now win }
    (((t.setFld Reg.TWN_OFS_LO (unsignedOf 64 (o / 32) % 2 ^ 32)).setFld Reg.TWN_OFS_HI (unsignedOf 64 (o / 32) / 2 ^ 32)).setFld
      Reg.TWN_TIMING_FRAC ((o % 32).toNat)).setFld Reg.TWN_TIMING_DELAY (within 0 65535 d).toNat

/-- The offset in 1/32 C-cycle (R348). Log 77 (DEDUCED). -/
def State.ofs32 (s : State) : Int := s.twnOfs * 32 + s.fld Reg.TWN_TIMING_FRAC

/-- An instant of the peer in this module's chart time, in whole C-cycles. -/
def State.peerTime (s : State) (t : Nat) : Nat := ((t : Int) + s.twnOfs).toNat

/-- The active module's origin in this module's chart time, in 1/32 C-cycle (R348, R354). -/
def State.peerOrigin32 (s : State) (l : List Nat) : Int :=
  signedOf 64 (at64 l 26) * 32 + l.getD 12 0 / 2 ^ 8 % 32 + s.ofs32

/-- The standby lays its carriers and timers onto the active module's origin (R354), and at first its spreading profile. The delay
line places the fraction.
Log 77 (DEDUCED). -/
def State.layCarriers (s : State) (l : List Nat) : State :=
  let x := s.peerOrigin32 l
  let o := x / 32
  let t := { s with pwm := { s.pwm with running := s.pwm.running || decide (o ≤ s.now), origin := o, frac := (x % 32).toNat } }.startCarriers o
  let u := forIdx 8 (fun k u =>
    let p := u.fld (Reg.GRT_TMR_PERIOD k)
    { u with eng := { u.eng with timerNext := tabSet 0 u.eng.timerNext k (if p = 0 then 0 else nextMultiple (liftTo p o) p u.now) } }) t
  let q := at64 l 15
  let v := if s.twn.laid.isNone && q != 0 && u.on Reg.CLK_SPREAD_EN && u.on Reg.CLK_STATUS_LOCK_C then
    u.startProfile (if u.profLen = 0 then u.now else nextMultiple (s.peerTime q) u.profLen u.now) else u
  v.setTwn { v.twn with laid := some s.ofs32, relay := false, synced := false, rxSweep := none }

/-- Whether the carriers are to be laid (R354, R362): the offset has moved by more than 1 ns, or PLL-C has relocked after a holdover. -/
def State.mustLay (s : State) : Bool :=
  match s.twn.laid with
  | none => true
  | some o => s.twn.relay || decide (12 < (s.ofs32 - o).natAbs)

/-- A governor as the frame gives it (R349). -/
def Gov.follow (v : Gov) (y r : Nat) : Gov := { v with y := wInt y * 2 ^ 28, v := wInt r * 2 ^ 28 }

/-- The time of a ramp from its value (R74, R349). -/
def State.rampTime (s : State) (g : Nat) (e : Int) : Nat :=
  let v0 := milli (s.fld (Reg.GFM_BS_RAMP_VSTART g))
  let d := (s.grp g).govV.out - v0
  if d = 0 then (s.grp g).bsRamp else (within 0 (s.tramp g) (((e - v0) * (s.tramp g : Int)) / d)).toNat

/-- The standby copies the words of a group (R352); EN and RUN follow MODE. Where STOPPING is new to it, the stop begins from the mode
that it had, and the close wait runs where the active module's does. Log 169 (DEDUCED). -/
def State.followGroup (s : State) (g : Nat) (w : List Nat) : State :=
  if s.controlled g then
    let x (i : Nat) : Nat := w.getD i 0
    let tk (i : Nat) : Nat := x i * 2 ^ 28
    let r := s.grp g
    let brk := bitOf (x 0) 8
    let stops := x 0 % 8 == mSTOPPING
    let fresh := stops && s.mode g != mSTOPPING
    let s0 := s.setGrp g { r with
      rideFrom := x 0 / 8 % 8, recActive := bitOf (x 0) 6, derated := bitOf (x 0) 7, brkClosed := brk, gridBack := bitOf (x 0) 9,
      ilim := wInt (x 1), bindTime := tk 2, lowTime := tk 3, zeroTime := tk 4, rideTime := tk 5, delta0 := wInt (x 6),
      exitTime := x 7 % 2 ^ 16 * 2 ^ 28, stopPhase := if fresh then 1 else if stops then r.stopPhase else 0,
      stopFrom := if fresh then (if s.mode g = mRIDE then r.rideFrom else s.mode g) else r.stopFrom,
      stopE := if fresh then r.eRef else r.stopE, closeWait := x 14 != 0, stopAt := s.now - x 7 / 2 ^ 16 * msCycles 10, recBound := wInt (x 8),
      bsHoldTime := tk 10, settleTime := tk 11, gridTime := tk 12, dwell := tk 13, closeAt := s.now - x 14 * 10000,
      brkSince := s.now - x 15 * 10000,
      govP := r.govP.follow (x 16) (x 20), govQ := r.govQ.follow (x 17) (x 21), govF := r.govF.follow (x 18) (x 22),
      govV := r.govV.follow (x 19) (x 23), steerF := wInt (x 30) * 2 ^ 28, steerV := wInt (x 31) * 2 ^ 28 }
    let s1 := s0.setGrp g { s0.grp g with bsRamp := s0.rampTime g (wInt (x 9)), syncClose := false }
    let s2 := if s1.mode g = x 0 % 8 then s1 else s1.setMode g (x 0 % 8)
    let s3 := [(Reg.GFM_PSET g, x 24), (Reg.GFM_QSET g, x 25), (Reg.GFM_FSET g, x 26), (Reg.GFM_VSET g, x 27),
      (Reg.GFM_SEC_DF g, x 28), (Reg.GFM_SEC_DV g, x 29), (Reg.GFM_SYNC_CTRL_ARM g, x 0 / 1024 % 2),
      (Reg.GFM_EVT_STATUS_REC g, x 0 / 64 % 2), (Reg.GFM_CTRL_EN g, asNat (x 0 % 8 != 0)), (Reg.GFM_STATUS_RUN g, asNat (x 0 % 8 != 0))].foldl
        (fun t (e : Fld × Nat) => t.setFld e.1 e.2) s2
    s3
  else s

/-- Whether the trigger stamp that a frame gives a context is this module's own at the cut, in its own chart time (R352).
Log 57 (DEDUCED). -/
def State.stampMeets (s : State) (l : List Nat) (n : Nat) : Bool :=
  let a := l.getD (860 + n) 0
  let m := s.twn.capTrig.getD n 0
  (a == 0 && m == 0) || unsignedOf 32 ((a : Int) + s.twnOfs) == m

/-- A word of a context is corrected (R352): at once, or when its execution ends. Log 57 (DEDUCED). -/
def State.applyWord (s : State) (n k a cap : Nat) : State :=
  if (s.ctx n).busy then s.setTwn { s.twn with corr := s.twn.corr ++ [(n, k, a, cap)] } else s.correct k a cap

/-- The words of a set are corrected (R352): each with its key, the active module's value and the captured one. -/
def State.applyWords (s : State) (l : List Nat) (es : List ((Nat × Nat) × Nat × Nat)) : State :=
  es.foldl (fun t (e : (Nat × Nat) × Nat × Nat) =>
    if s.stampMeets l e.1.1 then t.applyWord e.1.1 e.1.2 e.2.1 e.2.2 else t) s

/-- The contexts that a frame skips are counted (R352). -/
def State.countSkips (s : State) (l : List Nat) : State :=
  let ns := (s.mirrored false ++ s.mirrored true).filter fun n => !(s.ownKeys n).isEmpty && !s.stampMeets l n
  if s.twinImage then s.countN Reg.TWN_CNT2_TAGMIS_CNT ns.length else s

/-- The sweep takes a frame (R350, R355). `clean`: every condition that a sweep needs is met. Log 79 (DEDUCED). -/
def State.takeSweep (s : State) (p : Nat) (clean : Bool) : State :=
  let t := s.twn
  let met := p == t.capPos
  let on := p == 0 || t.rxSweep == some p
  let ok := (if p = 0 then true else t.rxClean) && on && met && clean
  let u := s.setTwn { t with rxSweep := if on then some (s.nextSweep p) else none, rxClean := ok, sweep := s.nextSweep p }
  if on && s.nextSweep p == 0 && ok && u.twn.laid.isSome then u.setTwn { u.twn with synced := true, faulted := false } else u

/-- The duties are compared (R356). -/
def State.compareDuties (s : State) (l : List Nat) : State :=
  let thr := s.fld Reg.TWN_CFG_DIV_THR * 2 ^ 16
  let far := anyIdx 64 fun n => (s.legRec n).used && decide (thr < (wInt (l.getD (284 + n) 0) - wInt (s.twn.capDuty.getD n 0)).natAbs)
  let run := if far then s.twn.divRun + 1 else 0
  let ok := if far then 0 else s.twn.divOk + 1
  let t := s.setTwn { s.twn with divRun := run, divOk := ok, diverged := s.twn.diverged && decide (ok < 40) }
  if far && decide (s.fld Reg.TWN_CFG_DIV_N ≤ run) && !t.twn.diverged then
    ((t.setTwn { t.twn with diverged := true }).raise Reg.TWN_STATUS_DIV_S).count Reg.TWN_CNT2_DIV_CNT
  else t

/-- The real-time count at an instant of chart time under the present ratio. -/
def State.realOf (s : State) (t : Nat) : Nat := s.eng.real - (s.now - t) * s.eng.rho

/-- A generator follows the active module's (R353): its state and the start of its use. The bits of a Bearing frame do not
cross the link: they are free values. Log 82 (DESIGN CHOICE). -/
def State.followGen (s : State) (g w cut : Nat) : State :=
  let st := w % 8
  if st = s.genState g then s
  else if st = gBURST ∨ st = gTUNE ∨ st = gBEARING then
    let back := (cut / 400 + 2 ^ 29 - w / 8 % 2 ^ 29) % 2 ^ 29 * 400
    let t := s.genStart g st
    let a := t.drawFree
    let b := a.2.drawFree
    let c := b.2.drawFree
    let u := if st = gBEARING then c.2 else t
    u.setGen g { u.gen g with start := s.realOf (s.peerTime (cut - back)),
                              frame := if st = gBEARING then a.1.toNat + b.1.toNat * 2 ^ 32 + c.1.toNat * 2 ^ 64 else 0 }
  else if s.genState g = gBURST then s.burstRest g
  else s.genRest g

/-- The standby applies a full frame of the active module (R352 to R356). -/
def State.shadow (s : State) (l : List Nat) : State :=
  let s1 := forIdx 8 (fun g t => t.followGroup g ((l.drop (28 + 32 * g)).take 32)) s
  let p := l.getD 1116 0 % 2 ^ 13
  let slow := (s1.mirrorKeys false).zip (((l.drop 348).take 512).zip s1.twn.capSlow)
  let fast := ((s1.mirrorKeys true).drop p).zip (((l.drop 988).take 128).zip s1.twn.capFast)
  let s2 := (s1.applyWords l slow).countSkips l
  let s3 := if p = s.twn.capPos then s2.applyWords l fast else s2
  let s4 := s3.compareDuties l
  let s5 := if s4.mustLay then s4.layCarriers l else s4
  let s6 := forIdx 8 (fun g t => t.followGen g (l.getD (18 + g) 0) (at64 l 1)) s5
  s6.takeSweep p (s6.nrdyCore == 0)

/-- Announcement, acknowledgement and cancellation of a hand-over (R359). Log 76 (DESIGN CHOICE). -/
def State.hoWords (s : State) (l : List Nat) : State :=
  let c := l.getD 12 0
  let busy := s.on Reg.TWN_STATUS_HO_BUSY
  if busy && !s.twn.hoIn then (if bitOf c 1 then s.setTwn { s.twn with hoAck := true } else s)
  else if busy then
    (if !bitOf c 5 && decide (s.now < s.twn.hoAt) then
      (s.setFld Reg.TWN_STATUS_HO_BUSY 0).setTwn { s.twn with hoIn := false, hoAck := false, hoLegs := [] } else s)
  else if bitOf c 0 && s.role == roleSTANDBY then
    (s.setFld Reg.TWN_STATUS_HO_BUSY 1).setTwn { s.twn with hoIn := true, hoAck := true, hoLegs := [],
                                                            hoAt := s.peerTime (at64 l 13) }
  else s

/-- What a frame means for the role (R346, R358). Log 76 (DESIGN CHOICE). -/
def State.roleWords (s : State) (l : List Nat) : State :=
  if s.role = roleACTIVE ∧ s.twn.settling = true ∧ s.twn.peerRole = roleACTIVE ∧ s.twn.strap = false then s.becomeStandby
  else if s.role = roleACTIVE ∧ bitOf (l.getD 12 0) 2 = true then s.standDown
  else s

/-- Whether a frame passes its CRC at the place that its kind gives (R347). -/
def frameOk (l : List Nat) : Bool :=
  let n := if l.getD 0 0 / 2 ^ 8 % 4 = roleACTIVE then 1117 else 28
  l.length == n + 1 && crcWords (l.take n) == l.getD n 0

/-- The incoming or outgoing module has changed hands on its last leg (R361). -/
def State.hoFinish (s : State) : State :=
  let t := if s.twn.hoIn then s.driveAll.setFld Reg.TWN_STATUS_ROLE roleACTIVE else s.releaseAll.becomeStandby
  let u := (((t.setFld Reg.TWN_STATUS_HO_BUSY 0).raise Reg.TWN_STATUS_HO_S).count Reg.TWN_CNT_HO_CNT).stamp Reg.TWN_HO_STAMP_LO
    Reg.TWN_HO_STAMP_HI s.twn.hoAt
  (u.setTwn { u.twn with hoIn := false, hoAck := false, hoBy := none, hoLegs := [], settling := false }).noteReady

/-- The incoming module drives TWIN_ACT low (R361). -/
def State.hoTake (s : State) : State := if s.twn.hoIn && !s.twn.driving then s.driveAct else s

/-- The hand-over ends with the last used leg (R361), the outgoing one's once its release has come. -/
def State.hoEnd (s : State) : State :=
  if allIdx 64 fun k => !(s.legRec k).used || (s.twn.hoLegs.contains k && !(s.dleg k).relPend) then s.hoFinish else s

/-- A leg changes hands (R360). -/
def State.hoLeg (s : State) (n : Nat) : State :=
  let d := s.hoTake
  let t := if d.twn.hoIn then d.driveLeg n else d.releaseLeg n
  (t.setTwn { t.twn with hoLegs := n :: t.twn.hoLegs }).hoEnd

/-- Whether a leg may change hands now (R360): acknowledged, at or after T_h, and not yet done. -/
def State.hoOpen (s : State) (n : Nat) : Bool :=
  s.on Reg.TWN_STATUS_HO_BUSY && s.twn.hoAck && decide (s.twn.hoAt ≤ s.now) && !s.twn.hoLegs.contains n

end Sys2Proof.Machine
end

