-- ==== Sys2Proof/Machine/SdcRows.lean ====
section
/-!
DEFINITION. The safe disconnect (R364 to R377): demands, disagreement, feedback, tests, faults, reset, and unconfirmed runs. Its
times run on the K clock, which is at most 1.5 % fast (R275).
-/

namespace Sys2Proof.Machine

/-- The states of the safe disconnect (R366). -/
def dSAFE : Nat := 0
def dCLOSING : Nat := 1
def dRUN : Nat := 2
def dFAULT : Nat := 3

/-- The state of the safe disconnect. -/
def State.sdcState (s : State) : Nat := s.fld Reg.SDC_STATUS_STATE

/-- Sets the record of the safe disconnect. -/
def State.setSdc (s : State) (r : SdcRun) : State := { s with sdc := r }

/-- Real time in C-cycles of 2.5 ns (R121): the K clock runs on whatever the C clock does (R379). -/
def State.kNow (s : State) : Nat := s.eng.real / 2 ^ 24

/-- The number of the present K-cycle at 48 MHz (R275). -/
def State.kCyc (s : State) : Nat := s.kNow * 3 / 25

/-- Whether a time of the K clock may have passed since an instant (R275). Log 69 (DEDUCED). -/
def State.kPassed (s : State) (since dur : Nat) : Bool := decide (dur * 1000 ≤ (s.kNow - since) * 1015)

/-- Whether a time of the K clock has passed since an instant, however slow that clock is (R275). Log 69 (DEDUCED). -/
def State.kOver (s : State) (since dur : Nat) : Bool := decide (dur * 1000 ≤ (s.kNow - since) * 985)

/-- The bits of SDC_FAULT (R374, R380). -/
def sfDISC : Nat := 0
def sfFBOPEN : Nat := 1
def sfFBCLOSE : Nat := 2
def sfCOIL_HS : Nat := 3
def sfCOIL_LS : Nat := 4
def sfPATH : Nat := 5
def sfCLK : Nat := 6
def sfPARAM : Nat := 7

/-- The field of a fault bit. -/
def faultFld (b : Nat) : Fld := ⟨Reg.SDC_FAULT_DISC.addr, b, 1⟩

/-- Drive is removed for any cause (R368, R369, R374, R377): lines asserted, coil off, every gate off, every group off, and the
stamp. `st` is the state that follows. -/
def State.removeDrive (s : State) (st : Nat) : State :=
  let r := s.sdc
  let ran := s.sdcState == dRUN
  let t := s.setSdc { r with relA := false, relB := false, coilHs := false, coilLs := false, step := 0, test := none,
                             fbSeen := false, leftAt := if ran && s.on Reg.SDC_PARAM2_COIL_EN then some s.kNow else r.leftAt }
  let u := (forIdx 64 (fun n t => t.gatesOff n) t).allGroupsOff
  let v := (u.setFld (Reg.PWM_RUN 0) 0).setFld (Reg.PWM_RUN 1) 0
  (v.setFld Reg.SDC_STATUS_STATE st).stamp Reg.SDC_DEMAND_STAMP_LO Reg.SDC_DEMAND_STAMP_HI s.now

/-- A fault latches (R374). -/
def State.sdcFault (s : State) (b : Nat) : State :=
  let t := (s.removeDrive dFAULT).setFld (faultFld b) 1
  (if t.fld Reg.SDC_FAULT_FIRST = 0xF then t.setFld Reg.SDC_FAULT_FIRST b else t).raise Reg.SDC_STATUS_FLT_S

/-- Whether exactly one input is active. -/
def State.disagree (s : State) : Bool := s.on Reg.SDC_STATUS_IN1 != s.on Reg.SDC_STATUS_IN2

/-- DISC in C-cycles (R370). -/
def State.discT (s : State) : Nat := msCycles (s.fld Reg.SDC_PARAM0_DISC)

/-- A disagreement begins or ends as the inputs stand (R370). One that ends faults where it has lasted DISC + 1 ticks, or where the count
reaches DISC in this K-cycle; one that never was, as both inputs changed at once, leaves nothing. -/
def State.noteDisc (s : State) : State :=
  let r := s.sdc
  match r.discFrom, s.disagree with
  | none, true => s.setSdc { r with discFrom := some s.kNow, discDone := false }
  | some t0, false =>
    let t := s.setSdc { r with discFrom := none, discDone := false, discWas := some (t0, s.kCyc, s.fld Reg.SDC_DISC_CNT_DISC_CNT) }
    if r.discDone || t0 == s.kNow then t
    else if s.kOver t0 (s.discT + msCycles 1) then (t.setSdc { t.sdc with discWas := none }).sdcFault sfDISC
    else t.count Reg.SDC_DISC_CNT_DISC_CNT
  | _, _ => s

/-- IF_T in C-cycles (R368). -/
def State.ifT (s : State) : Nat := usCycles (s.fld Reg.SDC_PARAM0_IF_T)

/-- The field of an input's activity, its level, and since when it has been low. -/
def inFld (i : Nat) : Fld := if i = 0 then Reg.SDC_STATUS_IN1 else Reg.SDC_STATUS_IN2
def SdcRun.level (r : SdcRun) (i : Nat) : Bool := if i = 0 then r.in1 else r.in2
def SdcRun.lowAt (r : SdcRun) (i : Nat) : Nat := if i = 0 then r.low1 else r.low2

/-- SAFE_FB changes level (R364, R371): it reads closed while low. Log 83 (DESIGN CHOICE). -/
def State.fbChange (s : State) (high : Bool) : State :=
  let r := s.sdc
  if r.fb = !high then s
  else
    (s.setSdc { r with fb := !high, fbAt := s.kNow, fbSeen := r.fbSeen || (!high && s.sdcRun) }).setFld Reg.SDC_STATUS_FB
      (asNat (!high))

/-- An input changes level (R368, R370): high makes it inactive at once, low starts its IF_T. Log 83 (DESIGN CHOICE). -/
def State.inChange (s : State) (i : Nat) (high : Bool) : State :=
  let r := s.sdc
  if r.level i = high then s
  else
    let t := s.setSdc (if i = 0 then { r with in1 := high, low1 := s.kNow } else { r with in2 := high, low2 := s.kNow })
    if high then (t.setFld (inFld i) 0).noteDisc else t

/-- SAFE_INPUT_CHANGE (R364, R368, R370): pins 0 and 1 are SAFE_IN1 and SAFE_IN2, 2 is SAFE_FB. Log 83 (DESIGN CHOICE). -/
def execSafeInputChange (pin : Fin 3) (high : Bool) (s : State) : Host.Outcome State Fault Refusal :=
  .next (if pin = 2 then s.fbChange high else s.inChange pin high)

/-- Whether an input has been low for IF_T (R368). -/
def State.lowLong (s : State) (i : Nat) : Bool := s.sdc.watch && !s.sdc.level i && s.kPassed (s.sdc.lowAt i) s.ifT

/-- A reset whose K-cycle a demand falls in was never accepted (R375, R379). -/
def State.undoReset (s : State) : State :=
  match s.sdc.resetWas with
  | none => s
  | some w =>
    if w.cyc ≠ s.kCyc ∨ s.sdcState ≠ dCLOSING then s
    else
      let t := (forIdx 8 (fun b t => t.setFld (faultFld b) (asNat (bitOf w.faults b))) s).setFld Reg.SDC_FAULT_FIRST w.first
      let u := ((t.setFld Reg.SDC_STATUS_UNCONF_S w.unconf).setFld Reg.SDC_RESET_CNT w.cnt).setFld Reg.SDC_STATUS_STATE w.st
      ((u.setSdc { u.sdc with resetWas := none }).raise Reg.SDC_STATUS_RSTREF_S).refuse w.port Reg.SDC_CTRL_RESET.addr

/-- A demand acts (R368, R369). -/
def State.demand (s0 : State) (i : Nat) : State :=
  let s := s0.undoReset
  let st := s.sdcState
  let t := (s.removeDrive (if st = dRUN ∨ st = dCLOSING then dSAFE else st)).setFld (inFld i) 1
  ((t.raise Reg.SDC_STATUS_DEMAND_S).count Reg.SDC_CNT_DEMAND_CNT).noteDisc

/-- SAFE_DEMAND (R368): an input becomes active. -/
def State.safeDemand (s : State) (i : Nat) : State :=
  if s.lowLong i = true ∧ s.on (inFld i) = false then s.demand i else s

def execSafeDemand (i : Fin 2) (s : State) : Host.Outcome State Fault Refusal := .next (s.safeDemand i)

/-- DISCREPANCY_FAULT (R370): the count reaches DISC. Expiry wins against an end of the disagreement in the same K-cycle, which is then not
counted. -/
def State.discFault (s : State) : State :=
  match s.sdc.discFrom, s.sdc.discWas with
  | some t, _ =>
    if s.sdc.discDone = false ∧ s.kPassed t s.discT = true then (s.setSdc { s.sdc with discDone := true }).sdcFault sfDISC else s
  | none, some (t, c, n) =>
    if c = s.kCyc ∧ s.kPassed t s.discT = true then
      ((s.setSdc { s.sdc with discWas := none }).setFld Reg.SDC_DISC_CNT_DISC_CNT n).sdcFault sfDISC
    else s
  | none, none => s

def execDiscrepancyFault (s : State) : Host.Outcome State Fault Refusal := .next s.discFault

/-- FB_T in C-cycles (R371). -/
def State.fbT (s : State) : Nat := msCycles (s.fld Reg.SDC_PARAM1_FB_T)

/-- The check of SAFE_FB in RUN fails (R371): it has not closed within FB_T, or it has read open across a tick. -/
def State.fbFails (s : State) : Bool :=
  let r := s.sdc
  if r.fbSeen then !r.fb && s.kPassed r.fbAt (msCycles 1) else !r.fb && s.kPassed r.runAt s.fbT

/-- FEEDBACK_FAULT (R371): the check that is due and fails. -/
def State.fbFault (s : State) : State :=
  let r := s.sdc
  if s.on Reg.SDC_PARAM2_FB_EN = false ∨ s.on Reg.SDC_PARAM2_COIL_EN = false then s
  else match r.leftAt with
    | some t =>
      if s.kPassed t s.fbT then
        let u := s.setSdc { r with leftAt := none }
        if r.fb then u.sdcFault sfFBOPEN else u
      else s
    | none => if s.sdcRun && s.fbFails then s.sdcFault sfFBCLOSE else s

def execFeedbackFault (s : State) : Host.Outcome State Fault Refusal := .next s.fbFault

/-- NODE_CHECK_FAULT (R372): 0 the COIL_HS node, 1 the COIL_LS node, in RUN outside tests, which has failed from one tick to the next
(R371); 2 a die reports a line state that differs from its channel's output. -/
def State.nodeFault (s : State) (k : Nat) : State :=
  if k = 2 then (if s.sdc.watch then s.sdcFault sfPATH else s)
  else if s.sdcRun = true ∧ s.on Reg.SDC_PARAM2_COIL_EN = true ∧ s.sdc.test = none ∧ s.kPassed s.sdc.nodeAt (msCycles 1) = true then
    s.sdcFault (sfCOIL_HS + k)
  else s

def execNodeCheckFault (k : Fin 3) (s : State) : Host.Outcome State Fault Refusal := .next (s.nodeFault k)

/-- TP_PER in C-cycles (R372). -/
def State.tpPer (s : State) : Nat := s.fld Reg.SDC_PARAM1_TP_PER * 400000000

/-- COIL_TEST_RUN (R372): the switches alternate, the high side first. Log 58 (DEDUCED). -/
def State.coilTest (s : State) : State :=
  let r := s.sdc
  if s.sdcRun = true ∧ s.on Reg.SDC_PARAM2_COIL_EN = true ∧ r.test = none ∧ s.kPassed r.testAt s.tpPer = true then
    s.setSdc { r with test := some (!r.nextLow), testAt := s.kNow, stepAt := s.kNow, nextLow := !r.nextLow,
                      coilHs := r.nextLow, coilLs := !r.nextLow }
  else s

def execCoilTestRun (s : State) : Host.Outcome State Fault Refusal := .next s.coilTest

/-- RUN is entered (R375, step 6). Log 58 (DEDUCED), 59 (DEDUCED). -/
def State.enterRun (s : State) : State :=
  let r := s.sdc
  let coil := s.on Reg.SDC_PARAM2_COIL_EN
  (s.setSdc { r with step := 0, relA := true, relB := true, coilHs := coil, coilLs := coil, runAt := s.kNow, testAt := s.kNow,
                     nodeAt := s.kNow, nextLow := false, fbSeen := r.fb, leftAt := none }).setFld Reg.SDC_STATUS_STATE dRUN

/-- A step of a reset begins (R372, R375): one line released, or one coil switch on. Log 59 (DEDUCED). -/
def State.beginStep (s : State) (k : Nat) : State :=
  s.setSdc { s.sdc with step := k, stepAt := s.kNow, relA := k == 2, relB := k == 3, coilHs := k == 4, coilLs := k == 5 }

/-- The fault of a step that fails (R372). -/
def stepFault (k : Nat) : Nat := if k = 4 then sfCOIL_HS else if k = 5 then sfCOIL_LS else sfPATH

/-- The time of a step (R372). -/
def State.stepTime (s : State) (k : Nat) : Nat := if k < 4 then usCycles 20 else usCycles (s.fld Reg.SDC_PARAM2_TP_W)

/-- A test of a reset ends (R375). Log 59 (DEDUCED). -/
def State.stepEnd (s : State) (pass : Bool) : State :=
  let k := s.sdc.step
  if s.kPassed s.sdc.stepAt (s.stepTime k) = false then s
  else if pass = false then s.sdcFault (stepFault k)
  else if k = 5 ∨ (k = 3 ∧ s.on Reg.SDC_PARAM2_COIL_EN = false) then s.enterRun
  else s.beginStep (k + 1)

/-- A test in RUN ends (R372): the switch comes on again. -/
def State.testEnd (s : State) (high pass : Bool) : State :=
  if s.kPassed s.sdc.stepAt (s.stepTime 4) = false then s
  else if pass then (s.setSdc { s.sdc with test := none, coilHs := true, coilLs := true, nodeAt := s.kNow }).count Reg.SDC_CNT_TEST_CNT
  else s.sdcFault (if high then sfCOIL_HS else sfCOIL_LS)

/-- COIL_TEST_END (R372, R375): the test in progress ends, of a reset or in RUN. -/
def execCoilTestEnd (pass : Bool) (s : State) : Host.Outcome State Fault Refusal :=
  .next (if s.sdc.step ≠ 0 then s.stepEnd pass
    else match s.sdc.test with
      | some h => s.testEnd h pass
      | none => s)

def addrSdcCtrl : Nat := Reg.SDC_CTRL_RESET.addr

/-- Whether a reset is accepted (R375). -/
def State.resetOk (s : State) : Bool :=
  s.armed && (s.sdcState == dSAFE || s.sdcState == dFAULT)
    && !(s.on Reg.SDC_STATUS_IN1 || s.on Reg.SDC_STATUS_IN2 || s.lowLong 0 || s.lowLong 1)
    && !(s.on Reg.SDC_PARAM2_FB_EN && s.sdc.fb) && !s.on Reg.SDC_FAULT_PARAM && s.sdc.clkOk && s.sdc.clkOk2

/-- A write of SDC_CTRL.RESET (R375). -/
def State.sdcReset (s : State) (p : Port) : State :=
  if s.resetOk then
    let was : ResetWas := { cyc := s.kCyc, faults := bitsOf 8 fun b => s.on (faultFld b), first := s.fld Reg.SDC_FAULT_FIRST,
                            unconf := s.fld Reg.SDC_STATUS_UNCONF_S, cnt := s.fld Reg.SDC_RESET_CNT, st := s.sdcState, port := p }
    let t := (forIdx 8 (fun b t => t.setFld (faultFld b) 0) (s.setSdc { s.sdc with resetWas := some was })).setFld Reg.SDC_FAULT_FIRST 0xF
    (((t.setFld Reg.SDC_STATUS_UNCONF_S 0).count Reg.SDC_RESET_CNT).setFld Reg.SDC_STATUS_STATE dCLOSING).beginStep 2
  else (s.raise Reg.SDC_STATUS_RSTREF_S).refuse p addrSdcCtrl

def execSdcReset (p : Port) (s : State) : Host.Outcome State Fault Refusal :=
  .next (s.portCmd (.sdcReset p) p addrSdcCtrl fun t => t.sdcReset p)

/-- S-cycles of a window of the clock check (R373). -/
def clkWindow : Nat := 32768

/-- A channel's ticks over a window are judged (R373). -/
def State.clockJudge (s : State) (r : SdcRun) (ok : Bool) : State := if ok then s.setSdc r else (s.setSdc r).sdcFault sfCLK

/-- SDC_CLOCK_CHECK (R373): a channel's ticks over 32,768 S-cycles; channel 1 reports first of two whose windows end together.
Log 84 (DESIGN CHOICE). -/
def State.clockCheck (s : State) (n : Nat) : State :=
  let r := s.sdc
  let ok := decide (970 ≤ n) && decide (n ≤ 1030)
  if r.watch then
    (if r.clkFrom + clkWindow ≤ s.sec.scyc then s.clockJudge { r with clkOk := ok, clkFrom := s.sec.scyc } ok
     else if r.clkFrom2 + clkWindow ≤ s.sec.scyc then s.clockJudge { r with clkOk2 := ok, clkFrom2 := s.sec.scyc } ok
     else s)
  else s

def execSdcClockCheck (n : Fin 65536) (s : State) : Host.Outcome State Fault Refusal := .next (s.clockCheck n)

/-- CHECK of the parameters (R376). Log 75 (DEDUCED). -/
def checkOf (l : List Nat) : Nat := crc32 (l.take 48)

/-- One second in C-cycles of 2.5 ns. -/
def secondC : Nat := 400000000

/-- When a channel has last judged its copy of the parameters. -/
def SdcRun.parFrom (r : SdcRun) (ch : Nat) : Nat := if ch = 0 then r.parAt else r.parAt2

/-- SDC_PARAM_CHECK (R373): once per second a channel judges its own copy; `upset` names the bits of bytes 0 to 47 that have changed in it.
Log 84 (DESIGN CHOICE). -/
def State.paramCheck (s : State) (ch : Nat) (upset : Nat) : State :=
  if s.sdc.watch && s.kPassed (s.sdc.parFrom ch) secondC then
    let c := if ch = 0 then s.sdc.copy1 else s.sdc.copy2
    let l := ((List.range c.length).map fun i => xorN (c.getD i 0) (upset / 256 ^ i % 256))
    let t := s.setSdc (if ch = 0 then { s.sdc with copy1 := l, parAt := s.kNow } else { s.sdc with copy2 := l, parAt2 := s.kNow })
    if checkOf l = s.fld Reg.SDC_CHECK then t else t.sdcFault sfPARAM
  else s

def execSdcParamCheck (ch : Fin 2) (upset : BitVec 384) (s : State) : Host.Outcome State Fault Refusal :=
  .next (s.paramCheck ch upset.toNat)

/-- Eight hours in C-cycles (R377). -/
def eightHours : Nat := 8 * 3600 * 400000000

/-- UNCONFIRMED_RUN_EXPIRY (R377). -/
def State.unconfExpiry (s : State) : State :=
  if s.sdcRun = true ∧ s.on Reg.SDC_STATUS_UNCONF = true ∧ s.kPassed s.sdc.runAt eightHours = true then
    (s.removeDrive dSAFE).raise Reg.SDC_STATUS_UNCONF_S
  else s

def execUnconfirmedRunExpiry (s : State) : Host.Outcome State Fault Refusal := .next s.unconfExpiry

/-- The whole minutes that remain of the present stay in RUN (R377, R380). -/
def State.unconfLeft (s : State) : Nat :=
  if s.stg.active.isNone then 0
  else if s.on Reg.SDC_STATUS_UNCONF = false then 0xFFFF
  else if s.sdcRun then (eightHours - (s.kNow - s.sdc.runAt)) / (60 * 400000000)
  else 480

/-- The parameters of the SAFETY sheet are copied into both channels at boot (R376, R377). -/
def State.loadSafety (s : State) (l : List Nat) : State :=
  let f (i n : Nat) : Nat := leAt l i n
  let c := checkOf l
  let t := [(Reg.SDC_PARAM0_DISC, f 0 2), (Reg.SDC_PARAM0_IF_T, f 2 2), (Reg.SDC_PARAM1_FB_T, f 4 2), (Reg.SDC_PARAM1_TP_PER, f 6 2),
    (Reg.SDC_PARAM2_TP_W, f 8 2), (Reg.SDC_PARAM2_FB_EN, f 10 1 % 2), (Reg.SDC_PARAM2_COIL_EN, f 10 1 / 2 % 2), (Reg.SDC_CHECK, c),
    (Reg.SDC_CONFIRM, f 48 4), (Reg.SDC_STATUS_UNCONF, asNat (f 48 4 != c))].foldl (fun (u : State) (e : Fld × Nat) => u.setFld e.1 e.2) s
  t.setSdc { t.sdc with copy1 := l.take 48, copy2 := l.take 48 }

/-- The safe disconnect begins to watch its inputs as arming begins (R366): in SAFE, or in FAULT where a PARAM fault has outlived a reset
(R375). Log 129 (DEDUCED). -/
def State.beginWatch (s : State) : State :=
  let r := s.sdc
  ((s.setSdc { r with watch := true, low1 := s.kNow, low2 := s.kNow, parAt := s.kNow, parAt2 := s.kNow,
                      clkFrom := s.sec.scyc, clkFrom2 := s.sec.scyc }).setFld Reg.SDC_STATUS_STATE
    (if s.on Reg.SDC_FAULT_PARAM then dFAULT else dSAFE)).setFld
    Reg.SDC_STATUS_FB (asNat r.fb)

/-- The safe disconnect watches no more: R33 holds the outputs off, and no input is
active until arming has watched it afresh (R366, R426). Log 121 (DEDUCED). -/
def State.releaseWatch (s : State) : State :=
  let t := s.setSdc { s.sdc with watch := false, discFrom := none, discDone := false, discWas := none, resetWas := none, leftAt := none }
  (t.setFld Reg.SDC_STATUS_IN1 0).setFld Reg.SDC_STATUS_IN2 0

end Sys2Proof.Machine
end

