-- ==== Sys2Proof/Machine/SecRows.lean ====
section
/-!
DEFINITION. The commands of the security block, the always-on island and the Tally (R381 to R402).
-/

namespace Sys2Proof.Machine

/-- The registers that report OTP, retention and LMS state follow them (R382, R391, R403). -/
def State.noteSec (s : State) : State :=
  let r := s.sec
  let st (k : Nat) : Nat := (s.keySlot k).st
  [(Reg.SEC_STATUS_OWNED, asNat (anyIdx 4 fun k => st k == 1)), (Reg.SEC_STATUS_TAMPERED, asNat r.ret.tampered),
    (Reg.SEC_STATUS_LMS_EXH, asNat (decide (32768 ≤ r.ret.lmsNext))), (Reg.SEC_SLOTS_STATE, st 0 + 4 * st 1 + 16 * st 2 + 64 * st 3),
    (Reg.SEC_SLOTS_ARB, r.arb), (Reg.SEC_SLOTS_LMS_BLK, r.lmsBlk), (Reg.SEC_SLOTS_EPOCH, r.epoch),
    (Reg.SEC_STATUS_EPOCH_EXH, asNat (decide (32 ≤ r.epoch))),
    (Reg.SEC_LMS_NEXT, r.ret.lmsNext), (Reg.SEC_LMS_LEFT, 32768 - r.ret.lmsNext), (Reg.SEC_TAMP_TOTAL, r.ret.tampTotal)].foldl
      (fun (t : State) (e : Fld × Nat) => t.setFld e.1 e.2) s

/-- A random word of the security block (R386, R403). -/
def State.drawRandom (s : State) : Word × State := (Config.random (8 + s.free), { s with free := s.free + 1 })

/-- SEC_NONCE takes a fresh random value (R386). -/
def State.freshNonce (s : State) : State :=
  forIdx 8 (fun k t => t.drawRandom.2.setFld (Reg.SEC_NONCE k) t.drawRandom.1.toNat) s

/-- Whether `n` bytes from `a` lie in one region of domain 15 with a permission (R301). -/
def State.inRegion (s : State) (a n : Nat) (write : Bool) : Bool :=
  (s.regions 15).any fun r => r.holds a && r.holds (a + n - 1) && bitOf r.flags (if write then 2 else 1)

/-- The message of a security command (R384). -/
def cmdMsg (b : List Nat) : List Nat := ascii "KH SEC COMMAND" ++ [0, 0] ++ leBytes 48 (digest (b.take 192))

/-- The command code of a block (R384). -/
def cmdCode (b : List Nat) : Nat := leAt b 4 2

/-- The number of slots that are PROVISIONED. -/
def State.provisioned (s : State) : Nat := ((List.range 4).filter fun k => (s.keySlot k).st == 1).length

/-- The command's own rule (R385). Log 60 (DEDUCED). -/
def State.cmdRule (s : State) (b : List Nat) : Bool :=
  let k := leAt b 64 1
  match cmdCode b with
  | 1 => decide (k < 4) && (s.keySlot k).st == 0
  | 2 => decide (k < 4) && (s.keySlot k).st == 1 && decide (2 ≤ s.provisioned)
  | 3 =>
    decide (s.sec.arb < k) && decide (k ≤ 64) && (s.stg.active.all fun i => decide (k ≤ i.secVer))
      && (s.sec.patchRun.all fun (p : Nat × Nat) => decide (k ≤ p.2))
  | 4 => true
  | _ => false

/-- Whether a command needs no signatures (R385): a PROVISION of slot 0 while the module is OPEN. -/
def State.unsigned (s : State) (b : List Nat) : Bool := s.provisioned == 0 && cmdCode b == 1 && leAt b 64 1 == 0

/-- The first check of R386 that fails, before any fuse is programmed: 0 where none does. -/
def State.cmdResult (s : State) (a : Nat) (b : List Nat) (poison : Bool) : Nat :=
  let nonce := leWord ((List.range 8).map fun k => leBytes 4 (s.fld (Reg.SEC_NONCE k))).flatten
  let sig := if s.unsigned b then 0 else s.sigCheck (leAt b 6 1) (cmdMsg b) (slice b 192 256) (slice b 448 1680)
  if a % 64 ≠ 0 ∨ s.inRegion a 2128 false = false ∨ leAt b 0 4 ≠ 0x4353484B then 1
  else if leAt b 8 16 ≠ deviceId then 2
  else if leAt b 24 32 ≠ nonce then 3
  else if sig ≠ 0 then 3 + sig
  else if s.cmdRule b = false then 7
  else if poison then 8
  else 0

/-- A key slot changes. -/
def State.setSlot (s : State) (k : Nat) (x : KeySlot) : State := s.setSec { s.sec with slots := s.sec.slots.set k x }

/-- The module is OPEN no more (R423): FAIL returns to 0 where it reported code 2. Log 128 (DEDUCED). -/
def State.endOpen (s : State) : State :=
  if s.fld Reg.SYS_BOOT_STATUS_FAIL = 2 then s.setFld Reg.SYS_BOOT_STATUS_FAIL 0 else s

/-- A fuse reads blown (R381): row 0 to 3 a key slot, with the bits of its ECDSA hash, of its LMS hash, PROVISIONED and REVOKED; 4 the
anti-rollback count; 5 a reservation, which makes its block reserved and skipped (R402). -/
def State.blowFuse (s : State) (f : Nat × Nat) : State :=
  let x := s.keySlot f.1
  if f.1 < 4 then
    s.setSlot f.1 (if f.2 < 384 then { x with ecHash := setBit x.ecHash f.2 }
      else if f.2 < 768 then { x with lmsHash := setBit x.lmsHash (f.2 - 384) }
      else if f.2 = 768 then { x with st := max x.st 1 } else { x with st := 2 })
  else if f.1 = 4 then s.setSec { s.sec with arb := min 64 (s.sec.arb + 1) }
  else s.setSec { s.sec with lmsBlk := max s.sec.lmsBlk (f.2 + 1), ret := { s.sec.ret with lmsNext := max s.sec.ret.lmsNext (512 * (f.2 + 1)) } }

/-- A fuse did not read blown after programming (R386): a later margin read may find it blown. -/
def State.weakFuse (s : State) (f : Nat × Nat) : State := s.setSec { s.sec with weak := s.sec.weak ++ [f] }

/-- The margin read at power-up (R381): a fuse that reads ambiguously counts as blown, for good. Whether one does is a free value.
Log 174 (DESIGN CHOICE). -/
def State.marginRead (s : State) : State :=
  s.sec.weak.foldl (fun t f => let x := t.drawFree; if x.1.toNat % 2 = 1 then x.2.blowFuse f else x.2.weakFuse f)
    (s.setSec { s.sec with weak := [] })

/-- The fuses that a PROVISION of a slot has to blow, in their order (R381). Log 174 (DESIGN CHOICE). -/
def State.toBlow (s : State) (k ec lms : Nat) : List Nat :=
  let x := s.keySlot k
  (List.range 769).filter fun i => if i < 384 then bitOf ec i && !bitOf x.ecHash i
    else if i < 768 then bitOf lms (i - 384) && !bitOf x.lmsHash (i - 384) else true

/-- The fuses of a command are programmed, and its effect follows (R385, R387). `bad` is the number of fuses after which one did not
read blown, if it comes to that: the Bool says that none failed. A fuse once blown stays blown (R381).
Log 87 (DESIGN CHOICE). -/
def State.cmdRun (s : State) (b : List Nat) (bad : Option Nat) : State × Bool :=
  let k := leAt b 64 1
  match cmdCode b with
  | 1 =>
    let ec := leAt b 80 48
    let lms := leAt b 128 48
    let l := s.toBlow k ec lms
    (match bad with
    | some n =>
      if n < l.length then (((l.take n).foldl (fun t i => t.blowFuse (k, i)) s).weakFuse (k, l.getD n 768), false)
      else ((l.foldl (fun t i => t.blowFuse (k, i)) s).endOpen, true)
    | none => ((l.foldl (fun t i => t.blowFuse (k, i)) s).endOpen, true))
  | 2 => if bad = some 0 then (s.weakFuse (k, 769), false) else (s.blowFuse (k, 769), true)
  | 3 =>
    match bad with
    | some n => if s.sec.arb + n < k then ((s.setSec { s.sec with arb := s.sec.arb + n }).weakFuse (4, 0), false)
                else (s.setSec { s.sec with arb := k }, true)
    | none => (s.setSec { s.sec with arb := k }, true)
  | _ =>
    let t := s.logEntry 4 0 0
    (t.setSec { t.sec with ret := { t.sec.ret with tampered := false } }, true)

/-- A security command ends (R386): RESULT, its sticky bit, and a fresh nonce. -/
def State.cmdEnd (s : State) (result : Nat) : State :=
  let t := (s.setFld Reg.SEC_CMD_STAT_RESULT result).raise
    (if result = 0 then Reg.SEC_STATUS_CMDOK_S else Reg.SEC_STATUS_CMDFAIL_S)
  t.noteSec.freshNonce

/-- Whether a command block lies where the host may have it (R386). -/
def State.cmdPlace (s : State) (a : Nat) : Bool := a % 64 == 0 && s.inRegion a 2128 false

/-- The bytes of the block at an address that count (R385, R386), and whether a word of them was poisoned: the signatures of a PROVISION
that needs none are ignored. -/
def State.cmdRead (s : State) (a : Nat) : State × List Nat × Bool :=
  if s.cmdPlace a then
    let x := s.readMem a 192
    if x.1.unsigned x.2.1 then x
    else
      let y := x.1.readMem (a + 192) 1936
      (y.1, x.2.1 ++ y.2.1, x.2.2 || y.2.2)
  else (s, [], false)

/-- The command at an address runs (R386). Log 85 (DESIGN CHOICE), 86 (DESIGN CHOICE). -/
def State.secCmd (s : State) (a : Nat) (bad : Option Nat) : State :=
  let x := s.cmdRead a
  let r := x.1.cmdResult a x.2.1 x.2.2
  if r ≠ 0 then x.1.cmdEnd r
  else
    let y := x.1.cmdRun x.2.1 bad
    y.1.cmdEnd (if y.2 then 0 else 9)

/-- The message of a patch (R388). -/
def patchMsg (b : List Nat) : List Nat := ascii "KH FW PATCH" ++ [0, 0, 0, 0, 0] ++ leBytes 48 (digest b)

/-- The result that the header of a patch gives (R388, R389). -/
def State.patchHeader (s : State) (b : List Nat) : Nat :=
  let n := leAt b 0x0C 4
  if leAt b 0 4 ≠ 0x4850484B then 0x01
  else if leAt b 4 2 ≠ 1 ∨ leAt b 6 2 ≠ 64 then 0x02
  else if leAt b 8 4 ≠ n + 1936 ∨ 262144 < leAt b 8 4 ∨ n % 16 ≠ 0 ∨ n < 80 ∨ leAt b 0x16 2 = 0 ∨ 64 < leAt b 0x18 1
      ∨ 3 < leAt b 0x19 1 ∨ zeros b 0x1A 38 = false then 0x03
  else if leAt b 0x10 4 ≠ 0x00080001 then 0x04
  else if leAt b 0x14 2 ≠ s.fld Reg.SEC_ROM_LEVEL then 0x05
  else 0

/-- The result that the signatures and the SEC_VER of a patch give (R389). -/
def State.patchSigned (s : State) (b : List Nat) : Nat :=
  let n := leAt b 0x0C 4
  let sig := s.sigCheck (leAt b 0x19 1) (patchMsg (b.take n)) (slice b n 256) (slice b (n + 256) 1680)
  if sig ≠ 0 then 5 + sig else if leAt b 0x18 1 < s.sec.arb then 9 else 0

/-- The checks of a patch at an address (R389): the state after its reads, RESULT, and its bytes. Log 89 (DEDUCED). -/
def State.checkPatch (s : State) (a : Nat) : State × Nat × List Nat :=
  let h := s.readMem a 64
  if s.inRegion a 64 false = false then (s, 1, [])
  else if h.2.2 then (h.1, 0x0A, [])
  else
    let hr := s.patchHeader h.2.1
    let n := leAt h.2.1 0x0C 4
    if hr ≠ 0 then (h.1, hr, [])
    else if s.inRegion a (n + 1936) false = false then (h.1, 3, [])
    else
      let x := h.1.readMem a (n + 1936)
      if x.2.2 then (x.1, 0x0A, []) else (x.1, s.patchSigned x.2.1, x.2.1)

/-- STORED and the stored level report the patch store (R389, R403). Log 126 (DEDUCED). -/
def State.notePatch (s : State) : State :=
  (s.setFld Reg.SEC_PATCH_STAT_STORED (asNat s.sec.patch.isSome)).setFld Reg.SEC_PATCH_LEVEL_STORED ((s.sec.patch.map Prod.fst).getD 0)

/-- The patch at an address is checked and stored (R389). Log 85 (DESIGN CHOICE). -/
def State.patchStore (s : State) (a : Nat) : State :=
  let c := s.checkPatch a
  let t := c.1.setFld Reg.SEC_PATCH_STAT_RESULT c.2.1
  if c.2.1 = 0 then
    (t.setSec { t.sec with store := c.2.2, patch := some (leAt c.2.2 0x16 2, leAt c.2.2 0x18 1) }).notePatch
  else t

/-- D of the active image (R146), from its locked slot; 0 with none. -/
def State.activeDigest (s : State) : Nat :=
  if s.stg.active.isNone then 0
  else
    let a := 0x100000 * s.imageSlot
    let n := leWord ((List.range 4).map fun i => s.dram (a + 0x0C + i))
    digest ((List.range n).map fun i => s.dram (a + i))

/-- The flags of a report (R390). -/
def State.attFlags (s : State) (exh : Bool) : Nat :=
  s.fld Reg.SDC_STATUS_UNCONF + 2 * asNat s.sec.ret.tampered + 4 * asNat exh + 8 * s.fld Reg.SEC_STATUS_RET_OK
    + 16 * s.fld Reg.SEC_STATUS_EPOCH_EXH

/-- SEC_ATT_NONCE as a number. -/
def State.attNonce (s : State) : Nat := leWord ((List.range 8).map fun k => leBytes 4 (s.fld (Reg.SEC_ATT_NONCE k))).flatten

/-- The body of a report with a nonce and LMS index `q` (R390). -/
def State.attBody (s : State) (nonce : Nat) (q : Option Nat) : List Nat :=
  layBytes 256 [(0, 4, 0x5441484B), (4, 4, 1), (8, 16, deviceId), (24, 32, nonce),
    (56, 8, s.rtcSec), (64, 8, s.now), (72, 2, s.fld Reg.SEC_ROM_LEVEL), (74, 2, s.fld Reg.SEC_PATCH_LEVEL_RUN), (76, 1, s.sec.arb),
    (77, 1, s.fld Reg.SEC_SLOTS_STATE), (78, 1, s.fld Reg.STG_ATL_ACT_INFO_KEY_SLOT), (79, 1, s.fld Reg.STG_ATL_ACT_INFO_SEC_VER),
    (80, 48, s.activeDigest), (128, 4, s.fld Reg.SDC_CHECK), (132, 1, s.attFlags q.isNone), (136, 4, s.sec.ret.tampTotal),
    (140, 4, q.getD 0xFFFFFFFF), (144, 8, s.sec.sealLast),
    (152, 4, s.sec.epoch), (160, 48, s.sec.sealHash)]

/-- The LMS index of a report, reserved and advanced before the signature is released (R391): none when every block is used, or where the
fuse that would reserve the next does not read blown. Log 174 (DESIGN CHOICE). -/
def State.takeIndex (s : State) : Option Nat × State :=
  let q := s.sec.ret.lmsNext
  let reserved := decide (q < 512 * s.sec.lmsBlk)
  if 32768 ≤ q then (none, s)
  else if !reserved && Config.fuseFails (q / 512) then (none, s.weakFuse (5, q / 512))
  else
    (some q, (s.setSec { s.sec with lmsBlk := if reserved then s.sec.lmsBlk else q / 512 + 1,
                                    ret := { s.sec.ret with lmsNext := q + 1 } }).noteSec)

/-- A report is written at an address (R390). Log 85 (DESIGN CHOICE). -/
def State.report (s : State) (a nonce : Nat) : State :=
  let x := s.takeIndex
  let b := s.attBody nonce x.1
  let m := ascii "KH ATTEST REPORT" ++ leBytes 48 (digest b)
  let lms := match x.1 with
    | some q => leBytes 1612 (Config.lmsSign q m)
    | none => List.replicate 1612 0
  ((x.2.writeBytes 40 a (b ++ leBytes 96 (Config.ecdsaSign m) ++ lms) []).1).raise Reg.SEC_STATUS_ATTDONE_S

/-- Whether DRAM can serve a security operation (R295): one that has nothing to read there needs none. -/
def State.opReady (s : State) (o : SecOp) : Bool :=
  match o with
  | .command a _ => !s.cmdPlace a || s.coreReady a 2128
  | .patch a => !s.inRegion a 64 false || s.coreReady a 262144
  | .report a _ => s.coreReady a 1964

/-- What a security operation does. -/
def State.opBody (s : State) (o : SecOp) : State :=
  match o with
  | .command a bad => s.secCmd a bad
  | .patch a => s.patchStore a
  | .report a n => s.report a n

/-- A security operation runs as soon as DRAM serves it (R295, R402). -/
def State.runOp (s : State) (o : SecOp) : State :=
  if s.opReady o then (s.setSec { s.sec with op := none }).coreDone.opBody o
  else (s.setSec { s.sec with op := some o }).coreStall

/-- A port asks for a security operation (R402): refused while another is running, which BUSY says to the end of its C-cycle.
Log 85 (DESIGN CHOICE). -/
def State.startOp (s : State) (p : Port) (a : Nat) (o : SecOp) : State :=
  if s.on Reg.SEC_CMD_STAT_BUSY then s.refuse p a else (s.setFld Reg.SEC_CMD_STAT_BUSY 1).runOp o

/-- A new C-cycle (R402): an operation that waits goes on, and BUSY falls behind one that has run. -/
def State.secNext (s : State) : State :=
  match s.sec.op with
  | some o => s.runOp o
  | none => s.setFld Reg.SEC_CMD_STAT_BUSY 0

def addrCmdCtrl : Nat := Reg.SEC_CMD_CTRL_GO.addr

/-- A write of SEC_CMD_CTRL.GO (R386). -/
def State.secGo (s : State) (p : Port) (bad : Option Nat) : State :=
  s.startOp p addrCmdCtrl (.command (s.fld Reg.SEC_CMD_ADDR) bad)

/-- A write of GO where the block holds a command of the code given; another block makes it another command. Log 86 (DESIGN CHOICE). -/
def State.secCommand (s : State) (c : Instr) (p : Port) (code : Nat) (bad : Option Nat) : State :=
  if cmdCode (s.readMem (s.fld Reg.SEC_CMD_ADDR) 192).2.1 = code then s.portCmd c p addrCmdCtrl fun t => t.secGo p bad else s

/-- PROVISION (R385). `bad`: the fuse, by its turn, that does not read blown after programming. Log 87 (DESIGN CHOICE). -/
def execProvision (p : Port) (bad : Option (Fin 1024)) (s : State) : Host.Outcome State Fault Refusal :=
  .next (s.secCommand (.provision p bad) p 1 (bad.map fun n => n.val))

/-- REVOKE (R385). -/
def execRevoke (p : Port) (bad : Option (Fin 1024)) (s : State) : Host.Outcome State Fault Refusal :=
  .next (s.secCommand (.revoke p bad) p 2 (bad.map fun n => n.val))

/-- ADVANCE (R385, R387). -/
def execAdvance (p : Port) (bad : Option (Fin 1024)) (s : State) : Host.Outcome State Fault Refusal :=
  .next (s.secCommand (.advance p bad) p 3 (bad.map fun n => n.val))

/-- CLEAR_TAMPER (R385, R395). -/
def execClearTamper (p : Port) (s : State) : Host.Outcome State Fault Refusal := .next (s.secCommand (.clearTamper p) p 4 none)

/-- A write of SEC_PATCH_CTRL.LOAD (R389): refused while the store is locked for the verification of a boot (R422, R423). -/
def State.patchLoad (s : State) (p : Port) : State :=
  if s.fld Reg.SYS_BOOT_STATUS_PHASE = 4 then s.refuse p Reg.SEC_PATCH_CTRL_LOAD.addr
  else s.startOp p Reg.SEC_PATCH_CTRL_LOAD.addr (.patch (s.fld Reg.SEC_PATCH_ADDR))

def execPatchLoad (p : Port) (s : State) : Host.Outcome State Fault Refusal :=
  .next (s.portCmd (.patchLoad p) p Reg.SEC_PATCH_CTRL_LOAD.addr fun t => t.patchLoad p)

/-- A write of SEC_ATT_CTRL.GO (R390): an address that breaks its rule writes no report. Log 90 (DEDUCED). -/
def State.attGo (s : State) (p : Port) : State :=
  let a := s.fld Reg.SEC_ATT_ADDR
  if a % 64 = 0 ∧ s.inRegion a 1964 true = true then s.startOp p Reg.SEC_ATT_CTRL_GO.addr (.report a s.attNonce)
  else s.refuse p Reg.SEC_ATT_CTRL_GO.addr

def execAttestReport (p : Port) (s : State) : Host.Outcome State Fault Refusal :=
  .next (s.portCmd (.attestReport p) p Reg.SEC_ATT_CTRL_GO.addr fun t => t.attGo p)

/-- A write of SEC_RTC_CTRL.SET (R393). -/
def State.rtcSet (s : State) : State :=
  let t := s.logEntry 2 0 (s.rtcSec % 2 ^ 32)
  t.setSec { t.sec with rtc := (s.fld Reg.SEC_RTC_SET_LO + s.fld Reg.SEC_RTC_SET_HI % 2 ^ 8 * 2 ^ 32) * 2 ^ 15, rtcSetS := true }

def execRtcSet (p : Port) (s : State) : Host.Outcome State Fault Refusal :=
  .next (s.portCmd (.rtcSet p) p Reg.SEC_RTC_CTRL_SET.addr fun t => t.rtcSet)

/-- S-cycles of 32 s (R393). -/
def trimSpan : Nat := 1048576

/-- RTC_TRIM_APPLY (R393): once every 32 s, the correction of that time with what the last one left of an S-cycle. Log 92 (DEDUCED). -/
def State.trimApply (s : State) : State :=
  let c := s.sfld Reg.SEC_RTC_TRIM * trimSpan + s.sec.trimFrac
  s.setSec { s.sec with rtc := (((s.sec.rtc : Int) + c / 1000000) % 2 ^ 55).toNat, trimFrac := (c % 1000000).toNat, trimFrom := s.sec.scyc }

def execRtcTrimApply (s : State) : Host.Outcome State Fault Refusal :=
  .next (if s.sec.trimFrom + trimSpan ≤ s.sec.scyc then s.trimApply else s)

/-- MODE and LOCK of a tamper input (R395, R403). -/
def State.tampMode (s : State) (k : Nat) : Nat := s.fld Reg.SEC_TAMP_CFG / 2 ^ (4 * k) % 4
def State.tampLock (s : State) (k : Nat) : Bool := bitOf (s.fld Reg.SEC_TAMP_CFG) (4 * k + 2)

/-- A tamper event wakes the module (R427). Log 122 (DEDUCED). -/
def State.wakeTamp (s : State) : State :=
  if s.on Reg.SYS_STBY_CTRL_WAKE_TAMP then
    { s.setFld Reg.SYS_STBY_STAT_WCAUSE 2 with boot := { s.boot with wake := true, tampAt := some s.sec.rtc } }
  else s

/-- A tamper event (R395): what waits for main power is noted as pending. Log 127 (DEDUCED). -/
def State.tampEvent (s : State) (k : Nat) : State :=
  let r := s.sec.ret
  let t := s.setSec { s.sec with ret := { r with tampTotal := min (r.tampTotal + 1) 0xFFFFFFFF,
                                                 tampered := r.tampered || s.tampLock k } }
  let u := (t.logEntry 1 k 0).noteSec.wakeTamp
  if u.boot.held then u.setSec { u.sec with tampPend := true } else (u.raise Reg.SEC_STATUS_TAMP_S).askSeal 2

/-- One sample of a tamper input (R395). -/
def State.tampOne (s : State) (k : Nat) (high : Bool) : State :=
  let m := s.tampMode k
  let bad := (m == 1 && high) || (m == 2 && !high)
  let r := s.sec.tamp.getD k {}
  let b := if bad then r.bad + 1 else 0
  let g := if bad then 0 else r.good + 1
  let event := decide (2 ≤ b) && r.armed
  let x : TampRun := { bad := min b 2, good := min g 2, armed := if event then false else r.armed || decide (2 ≤ g) }
  let t := (s.setSec { s.sec with tamp := s.sec.tamp.set k x }).setFld Reg.SEC_TAMP_STAT_NOW
    (if bad then setBit (s.fld Reg.SEC_TAMP_STAT_NOW) k else clearBit (s.fld Reg.SEC_TAMP_STAT_NOW) k)
  if event then t.tampEvent k else t

/-- TAMPER_SAMPLE (R395): the levels of the four pins, every 8,192 S-cycles. -/
def execTamperSample (pins : BitVec 4) (s : State) : Host.Outcome State Fault Refusal :=
  .next (if s.sec.tampFrom + 8192 ≤ s.sec.scyc then
      forIdx 4 (fun k t => t.tampOne k (bitOf pins.toNat k)) (s.setSec { s.sec with tampFrom := s.sec.scyc })
    else s)

/-- VBAT_LOW (R392, R396): VBAT falls below 2.2 V, or is above it again. -/
def State.vbat (s : State) (low : Bool) : State :=
  let t := s.setFld Reg.SEC_STATUS_VBAT_LOW (asNat low)
  if low && !s.on Reg.SEC_STATUS_VBAT_LOW then t.logEntry 5 0 0 else t

def execVbatLow (low : Bool) (s : State) : Host.Outcome State Fault Refusal := .next (s.vbat low)

/-- TALLY_RETENTION_COPY (R398): every 100,000,000 C-cycles. -/
def execTallyRetentionCopy (s : State) : Host.Outcome State Fault Refusal :=
  .next (if s.sec.copyFrom + 100000000 ≤ s.now then
      s.setSec { s.sec with copyFrom := s.sec.copyFrom + 100000000, ret := { s.sec.ret with tally := s.sec.tally } }
    else s)

/-- SEAL_H in C-cycles (R400). -/
def State.sealPer (s : State) : Nat := s.fld Reg.SEC_TALLY_CFG_SEAL_H * 3600 * 400000000

/-- TALLY_PERIODIC_DUE (R400). -/
def execTallyPeriodicDue (s : State) : Host.Outcome State Fault Refusal :=
  .next (if s.sec.sealFrom + s.sealPer ≤ s.now then (s.setSec { s.sec with sealFrom := s.sec.sealFrom + s.sealPer }).askSeal 0 else s)

/-- SEAL_NOW (R400). -/
def execSealNow (p : Port) (s : State) : Host.Outcome State Fault Refusal :=
  .next (s.portCmd (.sealNow p) p Reg.SEC_TALLY_CTRL_SEAL_NOW.addr fun t => t.askSeal 1)

/-- The cause that runs next (R402): a new epoch, a change of calibration, then the others as CAUSE numbers them. Log 91 (DEDUCED). -/
def State.nextCause (s : State) : Option Nat := [4, 3, 0, 1, 2, 5].find? fun c => bitOf s.sec.sealDue c

/-- TALLY_SEAL (R400, R402). Log 91 (DEDUCED). -/
def State.tallySeal (s : State) : State :=
  match s.nextCause with
  | none => s
  | some c => s.sealOp c

def execTallySeal (s : State) : Host.Outcome State Fault Refusal := .next s.tallySeal

/-- A new Tally epoch (R398): the next fuse, where one is left. -/
def State.newEpoch (s : State) : State :=
  ((s.setSec { s.sec with epoch := min 32 (s.sec.epoch + 1), tally := [], sealNext := 0, sealPrev := 0,
                          ret := { s.sec.ret with tally := [] } }).askSeal 4).noteSec

/-- The retention RAM is checked at power-up (R391, R394): `ok` says that its check word holds, which it cannot on RAM that has lost its
supply since it was written. -/
def State.checkRetention (s : State) (ok : Bool) : State :=
  if ok && s.sec.ret.valid then ((s.setSec { s.sec with tally := s.sec.ret.tally }).setFld Reg.SEC_STATUS_RET_OK 1).noteSec
  else
    let t := s.setSec { s.sec with ret := { lmsNext := 512 * s.sec.lmsBlk, tampered := true } }
    ((t.setFld Reg.SEC_STATUS_RET_OK 0).logEntry 3 0 0).newEpoch

end Sys2Proof.Machine
end

