-- ==== Sys2Proof/Machine/BootRows.lean ====
section
/-!
DEFINITION. Resets, boot, standby and the island's power (R33, R393, R394, R420 to R427).
-/

namespace Sys2Proof.Machine

/-- The boot phases (R422). -/
def pROM : Nat := 0
def pCLOCKS : Nat := 1
def pLINKS : Nat := 2
def pLOAD : Nat := 3
def pVERIFY : Nat := 4
def pARMING : Nat := 5
def pARMED : Nat := 6
def pFAILED : Nat := 7

/-- The phase in progress. -/
def State.phase (s : State) : Nat := s.fld Reg.SYS_BOOT_STATUS_PHASE

/-- The boot enters a phase, whose limit runs from here (R422). -/
def State.toPhase (s : State) (p : Nat) : State :=
  { s.setFld Reg.SYS_BOOT_STATUS_PHASE p with boot := { s.boot with phaseAt := s.now, waited := 0 } }

/-- Fields that live in the always-on island (R392 to R396, R430): they keep their values through every reset. Log 125 (DEDUCED). -/
def islandKey (k : Nat) : Bool :=
  [Reg.SYS_STBY_CTRL_WAKE_RTC, Reg.SYS_STBY_CTRL_WAKE_TAMP, Reg.SYS_STBY_ALARM, Reg.SYS_STBY_STAT_WCAUSE, Reg.SEC_RTC_TRIM,
    Reg.SEC_TAMP_CFG, Reg.SEC_TAMP_STAT_NOW, Reg.SEC_STATUS_VBAT_LOW].any fun f => f.key == k

/-- Fields that a WARM or WATCHDOG reset keeps beside those of the island (R77, R344, R375, R421): the MEM block, the residual fluxes,
the strap and the level of TWIN_ACT, and a PARAM fault. Log 125 (DEDUCED). -/
def warmKey (k : Nat) : Bool :=
  keyAddr k / 4096 == 9 || k == Reg.TWN_STATUS_PRIMARY.key || k == Reg.TWN_STATUS_ACT_LINE.key || k == Reg.SDC_FAULT_PARAM.key
    || anyIdx 8 fun g => [Reg.GFM_RESID_A g, Reg.GFM_RESID_B g, Reg.GFM_RESID_C g].any fun f => f.key == k

/-- What the security block keeps (R421): OTP, the island, and the chain of seals; the patch store while the DRAM keeps its contents.
Log 93 (PRESUMED), 126 (DEDUCED). -/
def SecRun.kept (r : SecRun) (warm : Bool) : SecRun :=
  { slots := r.slots, arb := r.arb, lmsBlk := r.lmsBlk, epoch := r.epoch, ret := r.ret, rtc := r.rtc, rtcSetS := r.rtcSetS, tamp := r.tamp,
    tampPend := r.tampPend, sealNext := r.sealNext, sealPrev := r.sealPrev, sealLast := r.sealLast, sealHash := r.sealHash, weak := r.weak,
    scyc := r.scyc, trimFrom := r.trimFrom, trimFrac := r.trimFrac, tampFrom := r.tampFrom, store := if warm then r.store else [],
    patch := if warm then r.patch else none }

/-- A drive die after a reset: the pin, the supply and the temperature are as they were (R251, R256). -/
def DrvDie.kept (r : DrvDie) : DrvDie := { en := r.en, lowAt := if r.en then none else some 0, supply := r.supply, risen := r.supply, hot := r.hot }

/-- The mark of a WARM or WATCHDOG reset in this C-cycle: no frame of it goes on. Log 125 (DEDUCED). -/
def markReset : Nat := 0x2070

/-- The state after a reset (R421): everything at its reset value but what the kind keeps; pins keep their levels.
Log 93 (PRESUMED), 125 (DEDUCED). -/
def State.afterReset (s0 : State) (warm : Bool) (kind : Nat) : State :=
  let s := if warm then forIdx 8 (fun g u => if u.mode g = mOFF then u else u.storeFlux g) s0 else s0
  let d : DrvRun := { die := s.drv.die.map fun (x : Nat × DrvDie) => (x.1, x.2.kept) }
  let t : State := {
    pending := s.pending, later := s.later, free := s.free,
    regs := { eff := s.regs.eff.filter fun e => islandKey e.1 || (warm && warmKey e.1) },
    sec := s.sec.kept warm,
    mem := if warm then { s.mem with ch := [], reqQ := [], winFrom := 0, srFrom := none, scrubFrom := 0,
                                     scrubPos0 := s.fld Reg.MEM_SCRUB_POS_BLOCK } else {},
    drv := d, clk := { xtal := s.clk.xtal },
    twn := { strap := warm && s.twn.strap },
    sdc := { in1 := s.sdc.in1, in2 := s.sdc.in2, fb := s.sdc.fb },
    trp := { live := s.trp.live.filter fun k => decide (k < 80) },
    boot := { wake := s.boot.wake, frac := s.boot.frac, tampAt := s.boot.tampAt, held := !warm } }
  let u0 := (t.setFld Reg.SYS_RESET_CAUSE_KIND kind).setFld Reg.DRV_STATUS_EN (bitsOf 4 fun k => (t.ddie k).en)
  let down := s.role == roleLOST || (s.on Reg.TWN_CTRL_PAIR_EN && s.role == roleACTIVE)
  let u := if warm && down then u0.setFld Reg.TWN_STATUS_ROLE roleLOST else u0
  if warm then (((u.setFld Reg.MEM_STATUS_INIT_DONE 0).checkRetention true).notePatch.freshNonce).mark markReset else u

/-- POWER_ON_RESET (R420, R421): the control die is held until the supplies and RESET_N have stayed valid. -/
def execPowerOnReset (s : State) : Host.Outcome State Fault Refusal := .next (s.afterReset false 0)

/-- Chart time starts at 0 (R10, R420): the strap is sampled (R344), OTP read with margin (R381), the retention RAM checked (R394), a
tamper event of the time without
power reported (R395), and a power-up that the island did not ask for recorded (R427). Log 122 (DEDUCED), 127 (DEDUCED). -/
def State.releaseReset (s : State) (strap xtal retOk : Bool) : State :=
  let t := { s with chart := 0, twn := { s.twn with strap := strap }, clk := { s.clk with xtal := xtal },
                    boot := { s.boot with held := false, wake := true } }
  let u := (t.setFld Reg.TWN_STATUS_PRIMARY (asNat strap)).setFld Reg.SYS_STBY_STAT_WCAUSE
    (if s.boot.wake then t.fld Reg.SYS_STBY_STAT_WCAUSE else 3)
  let v := (u.marginRead.checkRetention retOk).freshNonce
  if v.sec.tampPend then (v.setSec { v.sec with tampPend := false }).raise Reg.SEC_STATUS_TAMP_S |>.askSeal 2 else v

/-- C-cycles for which RESET_N and the supplies must have been good without a break (R420). -/
def resetHold : Nat := 4000000

/-- POWER_ON_RESET_RELEASE (R420). Operands: the level of TWIN_ROLE, whether the crystal oscillates (R261), whether the check word of the
retention RAM holds. -/
def execPowerOnResetRelease (strap xtal retOk : Bool) (s : State) : Host.Outcome State Fault Refusal :=
  .next (if s.boot.held ∧ resetHold ≤ s.boot.heldFor then s.releaseReset strap xtal retOk else s)

/-- A WARM reset (R421). -/
def State.warmReset (s : State) : State := s.afterReset true 1

/-- A write of SYS_RESET (R421): another KEY than 0x5A is refused. -/
def State.resetWrite (s : State) (p : Port) (warm : Bool) (key : Nat) : State :=
  if key ≠ 0x5A then s.refuse p Reg.SYS_RESET_WARM.addr else if warm then s.warmReset else s

/-- A write of SYS_RESET with WARM = 1 (R421). -/
def State.askWarm (s : State) (p : Port) (key : Nat) : State := s.resetWrite p true key

def execWarmReset (p : Port) (key : BitVec 8) (s : State) : Host.Outcome State Fault Refusal :=
  .next (s.portCmd (.warmReset p key) p Reg.SYS_RESET_WARM.addr fun t => t.askWarm p key.toNat)

/-- WATCHDOG_RESET (R421): the housekeeping core has not serviced its watchdog for 400,000,000 C-cycles, which cannot be sooner after a
reset. Log 173 (DEDUCED). -/
def execWatchdogReset (s : State) : Host.Outcome State Fault Refusal :=
  .next (if s.boot.held ∨ s.now < dieWindow then s else s.afterReset true 2)

/-- FAIL and DETAIL of a failure (R423). -/
def State.bootFail (s : State) (code detail : Nat) : State :=
  ((s.setFld Reg.SYS_BOOT_STATUS_FAIL code).setFld Reg.SYS_BOOT_STATUS_DETAIL detail).raise Reg.SYS_BOOT_STATUS_BOOTFAIL_S

/-- The reference at power-up (R261): the crystal if it oscillates, else REFIN, unless a write of CLK_REF_CFG has named it already. -/
def State.pickRef (s : State) : State := if s.clk.named then s else s.setFld Reg.CLK_STATUS_REF_ACT (asNat !s.clk.xtal)

/-- ROM ends (R422, R423): an OPEN module reports code 2 and boots on. -/
def State.endRom (s : State) : State :=
  let t := s.noteSec
  ((if t.provisioned = 0 then t.bootFail 2 0 else t).pickRef).toPhase pCLOCKS

/-- The stored patch, verified afresh, comes into service (R389, R422, R424): RESULT of its verification, where one is stored.
Log 126 (DEDUCED). -/
def State.runPatch (s : State) : State × Nat :=
  match s.sec.patch with
  | none => (s, 0)
  | some x =>
    let r := s.patchSigned s.sec.store
    if r ≠ 0 then (s, r)
    else ((s.setSec { s.sec with patchRun := some x }).setFld Reg.SEC_PATCH_LEVEL_RUN x.1, 0)

/-- A failure of VERIFY returns to LOAD, with the slot unlocked (R423). -/
def State.backToLoad (s : State) (code detail : Nat) : State :=
  ((s.setFld Reg.STG_ATL_STATUS_STATE (if s.stg.active.isSome then 1 else 0)).bootFail code detail).toPhase pLOAD

/-- The regular sequences and the carriers begin at the carrier origin (R199, R212): the first multiple of 1 ms strictly after now. -/
def State.setOrigin (s : State) : State :=
  let o := (s.now / 400000 + 1) * 400000
  ({ s with pwm := { s.pwm with origin := o } }.startCarriers o).stamp Reg.PWM_ORIGIN_LO Reg.PWM_ORIGIN_HI o

/-- The commit at the end of VERIFY (R425): the image and every draft, in every domain at once; the parameters of the SAFETY sheet are
copied (R376). Log 117 (DEDUCED). -/
def State.bootCommit (s : State) : State :=
  let t := { s with stg := { s.stg with withImg := true } }.applyCommit s.now
  let u := (forIdx 64 (fun n v => v.legEdge n) ((List.range 6).foldl State.domainApply t)).takeCom fun _ => true
  (u.loadSafety ((u.stg.active.map Img.safety).getD [])).setFld Reg.STG_CDRAFT_CNT_CNT 0

/-- ARMING begins (R425). -/
def State.beginArming (s : State) : State := ((s.beginWatch).armTrips.setOrigin).toPhase pARMING

/-- The image in SYS_BOOT_CTRL.SLOT is verified and staged with the drafts (R149, R422): FAIL and DETAIL, 0 where it is staged. -/
def State.bootImage (s : State) : State × Nat × Nat :=
  let slot := s.fld Reg.SYS_BOOT_CTRL_SLOT
  let t := ((s.setFld Reg.STG_ATL_STATUS_STG_SLOT slot).setFld Reg.STG_ATL_STATUS_STATE 2).verifySlot.loadNext
  let r := t.fld Reg.STG_ATL_STATUS_RESULT
  if r = 0x0C then (t, 9, t.fld Reg.STG_SURV_RESULT_CODE) else if r ≠ 0 then (t, 8, r) else (t, 0, 0)

/-- VERIFY ends (R422 to R425). -/
def State.endVerify (s : State) : State :=
  let x := s.runPatch
  if x.2 ≠ 0 then x.1.backToLoad 7 x.2
  else
    let y := x.1.bootImage
    if y.2.1 ≠ 0 then y.1.backToLoad y.2.1 y.2.2 else (y.1.bootCommit).beginArming

/-- The limit of the phase in progress, in C-cycles (R422). -/
def State.phaseLimit (s : State) : Option Nat :=
  match s.phase with
  | 0 => some (msCycles 20)
  | 1 => some (msCycles 1)
  | 2 => some (msCycles (if s.fld Reg.SYS_RESET_CAUSE_KIND = 0 then 610 else 10))
  | 4 => some (msCycles 2000)
  | 5 => some (msCycles 100)
  | _ => none

/-- Whether the limit of the phase in progress has passed; the time spent waiting for a reference does not count (R422). -/
def State.phaseLate (s : State) : Bool :=
  match s.phaseLimit with
  | none => false
  | some l => decide (s.boot.phaseAt + s.boot.waited + l ≤ s.now)

/-- The entries whose first result arming waits for (R199): those with a RESULT trigger or routed to a context. Log 124 (DEDUCED). -/
def State.namedEntries (s : State) : List Nat :=
  match s.stg.active with
  | none => []
  | some i => (i.sched.ents.map EntRec.entry).filter fun e =>
      (i.ctxs.any fun c => cfgTrig c.cfg == 1 && cfgSrc c.cfg == e) || i.routes.any fun r => r.srcKind == 0 && r.srcId == e && r.dstKind == 0

/-- The boot stops in FAILED (R423). -/
def State.stopBoot (s : State) (code detail : Nat) : State := (s.bootFail code detail).toPhase pFAILED

/-- What DETAIL reports beside a code of a failure (R423), as far as the code leaves it open. -/
def failDetail (code free : Nat) : Nat :=
  match code with
  | 3 => free % 3
  | 5 => free % 4
  | 7 => free % 10 + 1
  | 8 => free % 11 + 1
  | 9 => free % 14 + 1
  | 10 => free % 512
  | 11 => pVERIFY
  | _ => 0

/-- The limit of a phase passes (R423): code 11 for phases 0 to 2, code 10 for ARMING. For VERIFY the spec names no code: it is one of
those of the table, and those of a patch or an image that failed lead back to LOAD. Log 118 (DESIGN CHOICE). -/
def State.limitFail (s : State) : State :=
  if s.phase = pARMING then
    { s.stopBoot 10 ((s.namedEntries.filter fun e => !s.adc.delivered.contains e).foldl min 511) with
      trp := { s.trp with armed := false, latch := [] } }.settleForcing
  else if s.phase = pVERIFY then
    let a := s.drawFree
    let b := a.2.drawFree
    let code := a.1.toNat % 11 + 1
    let detail := failDetail code b.1.toNat
    if 7 ≤ code ∧ code ≤ 9 then b.2.backToLoad code detail else b.2.stopBoot code detail
  else s.stopBoot 11 s.phase

/-- A boot phase finishes its work (R422): past its limit it fails (R423). -/
def State.phaseDone (s : State) : State :=
  if s.phaseLate then s.limitFail
  else match s.phase with
  | 0 => if s.boot.held then s else s.endRom
  | 1 => if s.on Reg.CLK_STATUS_LOCK_C && s.on Reg.CLK_STATUS_LOCK_A && s.on Reg.CLK_STATUS_LOCK_M then s.toPhase pLINKS else s
  | 2 => if s.on Reg.MEM_STATUS_INIT_DONE then s.toPhase pLOAD else s
  | 4 => if s.coreReady (0x100000 * s.fld Reg.SYS_BOOT_CTRL_SLOT) 0x100000 then s.coreDone.endVerify else s.coreStall
  | _ => s

/-- BOOT_PHASE_COMPLETE (R422). -/
def execBootPhaseComplete (s : State) : Host.Outcome State Fault Refusal := .next s.phaseDone

/-- A phase fails (R423), or its limit passes; the links train in their order (R33), so that no earlier one fails once the memory has
trained. Log 119 (DESIGN CHOICE). -/
def State.phaseFail (s : State) (f : BootFault) : State :=
  match f with
  | .limit => if s.phaseLate then s.limitFail else s
  | .rom => if s.phase = pROM then s.stopBoot 1 0 else s
  | .pll p => if s.phase = pCLOCKS then s.stopBoot 3 p else s
  | .converter => if s.phase = pLINKS ∧ s.on Reg.SYS_DIE_STATUS_CNV_UP = false then s.stopBoot 4 0 else s
  | .drive d =>
    if s.phase = pLINKS ∧ s.on Reg.SYS_DIE_STATUS_CNV_UP = false then
      ((s.setFld Reg.SYS_DIE_STATUS_CNV_UP 1).setFld Reg.SYS_DIE_STATUS_DRV_UP (clearBit 15 d)).stopBoot 5 d
    else s
  | .memory =>
    if s.phase = pLINKS ∧ s.on Reg.MEM_STATUS_INIT_DONE = false then s.linksUp.stopBoot 6 0 else s

/-- BOOT_PHASE_TIMEOUT (R423). -/
def execBootPhaseTimeout (f : BootFault) (s : State) : Host.Outcome State Fault Refusal :=
  .next (if s.boot.held then s else s.phaseFail f)

/-- The address of SYS_BOOT_CTRL. -/
def addrBoot : Nat := Reg.SYS_BOOT_CTRL_SLOT.addr

/-- Whether a slot holds no image header (R424): its first 64 bytes are 0. Log 63 (DEDUCED). -/
def State.slotEmpty (s : State) (k : Nat) : Bool := (List.range 64).all fun i => s.dram (0x100000 * k + i) == 0

/-- A write of SYS_BOOT_CTRL.START (R424): SLOT takes the written value whether or not START is accepted. The slot is locked and under
verification from here on (R147, R149), in place of one that was staged.
Log 62 (DEDUCED), 63 (DEDUCED). -/
def State.bootStart (s0 : State) (p : Port) (slot : Nat) : State :=
  let s := s0.setFld Reg.SYS_BOOT_CTRL_SLOT slot
  if s.phase ≠ pLOAD ∨ s.provisioned = 0 ∨ s.on Reg.SEC_CMD_STAT_BUSY = true ∨ s.slotEmpty slot = true then s.refuse p addrBoot
  else
    let t := ((s.setFld Reg.SYS_BOOT_STATUS_FAIL 0).setFld Reg.SYS_BOOT_STATUS_DETAIL 0).toPhase pVERIFY
    { (t.setFld Reg.STG_ATL_STATUS_STG_SLOT slot).setFld Reg.STG_ATL_STATUS_STATE 2 with stg := { t.stg with staged := none } }

def execBootStart (p : Port) (slot : Fin 4) (s : State) : Host.Outcome State Fault Refusal :=
  .next (s.portCmd (.bootStart p slot) p addrBoot fun t => t.bootStart p slot)

/-- The timers start together as the PX8 arms (R108). Log 123 (DEDUCED). -/
def State.startTimers (s : State) : State :=
  forIdx 8 (fun k t =>
    let p := t.fld (Reg.GRT_TMR_PERIOD k)
    { t with eng := { t.eng with timerNext := tabSet 0 t.eng.timerNext k (if p = 0 then 0 else t.now + p) } }) s

/-- Times of the Bearing nodes and of the generators count from arming (R325, R334, R338). Log 123 (DEDUCED). -/
def State.startSounding (s : State) : State :=
  forIdx 8 (fun g t => t.setNode g { t.node g with stateFrom := t.now, leadFrom := t.now }) s

/-- PHASE becomes ARMED (R108, R346, R414, R425). Log 123 (DEDUCED). -/
def State.arm (s : State) : State :=
  let t := (s.startTimers.startSounding).toPhase pARMED
  let u := if t.fld Reg.SYS_HOST_CFG_SIL_MS = 0 then t else { t with host := { t.host with silFrom := some t.now } }
  u.takeRole

/-- ARMING_COMPLETE (R199, R425), which comes too late past the limit of ARMING (R423). Log 124 (DEDUCED). -/
def execArmingComplete (s : State) : Host.Outcome State Fault Refusal :=
  .next (if s.phaseLate then s.phaseDone
    else if s.phase = pARMING ∧ (s.namedEntries.all fun e => s.adc.delivered.contains e) = true then s.arm else s)

/-- The address of SYS_STBY_CTRL. -/
def addrStby : Nat := Reg.SYS_STBY_CTRL_ENTER.addr

/-- The PX8 disarms (R426): every leg and the coil off; carriers, timers and trips stop. Log 121 (DEDUCED). -/
def State.disarm (s : State) : State :=
  let t := if s.sdcState = dRUN ∨ s.sdcState = dCLOSING then s.removeDrive dSAFE else s
  let u := ((forIdx 64 (fun n t => t.gatesOff n) t).allGroupsOff).releaseWatch
  { (u.setFld (Reg.PWM_RUN 0) 0).setFld (Reg.PWM_RUN 1) 0 with
    eng := { u.eng with timerNext := [] }, pwm := { u.pwm with running := false },
    trp := { u.trp with armed := false, latch := [] }, host := { u.host with silFrom := none } }.settleForcing

/-- A write of SYS_STBY_CTRL.ENTER (R426). Log 120 (DESIGN CHOICE). -/
def State.standbyEnter (s : State) (p : Port) : State :=
  if anyIdx 8 (fun g => s.mode g != 0) ∨ s.on Reg.SEC_CMD_STAT_BUSY = true then s.refuse p addrStby
  else if s.on Reg.SYS_STBY_STAT_READY then s
  else
    let t := if s.coreReady s.sealAddr 1024 then s.seal 5 else s.askSeal 5
    let u := t.setSec { t.sec with ret := { t.sec.ret with tally := t.sec.tally } }
    let v := u.disarm.setFld Reg.CLK_STATUS_M_SR 1
    { v with mem := { v.mem with srFrom := some v.now }, boot := { v.boot with wake := false } }.setFld Reg.SYS_STBY_STAT_READY 1

def execStandbyEnter (p : Port) (s : State) : Host.Outcome State Fault Refusal :=
  .next (s.portCmd (.standbyEnter p) p addrStby fun t => t.standbyEnter p)

/-- A write of SYS_STBY_CTRL.CANCEL (R426): it leaves standby before power is removed, and does nothing outside it. -/
def State.standbyCancel (s : State) : State :=
  if s.on Reg.SYS_STBY_STAT_READY then { s with boot := { s.boot with wake := true } }.warmReset else s

def execStandbyCancel (p : Port) (s : State) : Host.Outcome State Fault Refusal :=
  .next (s.portCmd (.standbyCancel p) p addrStby fun t => t.standbyCancel)

/-- WAKE_ALARM (R427): the RTC matches; a tamper event of the same S-cycle stands. Log 122 (DEDUCED). -/
def State.wakeAlarm (s : State) : State :=
  if s.on Reg.SYS_STBY_CTRL_WAKE_RTC = true ∧ s.rtcSec % 2 ^ 32 = s.fld Reg.SYS_STBY_ALARM then
    let t := { s with boot := { s.boot with wake := true } }
    if s.boot.tampAt = some s.sec.rtc then t else t.setFld Reg.SYS_STBY_STAT_WCAUSE 1
  else s

def execWakeAlarm (s : State) : Host.Outcome State Fault Refusal := .next s.wakeAlarm

/-- ISLAND_POWER_UP (R393, R394): the island comes up from dead; what it held is lost. -/
def State.islandUp (s : State) : State :=
  let t := { s with regs := { s.regs with eff := s.regs.eff.filter fun e => !islandKey e.1 },
                    boot := { s.boot with wake := true, frac := 0, tampAt := none } }
  t.setSec { t.sec with ret := { valid := false }, scyc := 0, trimFrom := 0, trimFrac := 0, tampFrom := 0, rtc := 0,
                        rtcSetS := false, tamp := [{}, {}, {}, {}], tampPend := false }

def execIslandPowerUp (s : State) : Host.Outcome State Fault Refusal := .next (if s.boot.held then s.islandUp else s)

end Sys2Proof.Machine
end

