-- ==== Sys2Proof/Machine/DriveRows.lean ====
section
/-!
DEFINITION. The commands of the drive dies (R22, R23, R238 to R258). What a die senses (a gate below 2.0 V, a switch-node time, a
comparator) comes as an operand.
-/

namespace Sys2Proof.Machine

/-- DLINK_CLOCK_LOSS (R22, R251, R358). Log 131 (DEDUCED). -/
def State.dlinkLoss (s : State) (d : Nat) : State :=
  let t := (s.setDdie d { s.ddie d with link := false }).raiseBit Reg.SYS_DIE_STATUS_DLINK_S d
  let u := (t.count Reg.SYS_LINK_ERR_CNT_DLINK_ERR_CNT).setFld Reg.SYS_DIE_STATUS_DRV_UP (clearBit (s.fld Reg.SYS_DIE_STATUS_DRV_UP) d)
  (if u.on (Reg.DRV_DIE_STATUS_LINKF d) then u.dieOff d else u.latchDieFault d (Reg.DRV_DIE_STATUS_LINKF d)).standDown

def execDlinkClockLoss (d : Fin 4) (s : State) : Host.Outcome State Fault Refusal := .next (s.dlinkLoss d)

/-- DRVEN_LOW (R23): every leg of the die off. -/
def State.drvenLow (s : State) (d : Nat) : State :=
  let r := s.ddie d
  ((s.dieOff d).setDdie d { r with en := false, lowAt := if r.en then some s.now else r.lowAt }).setFld
    Reg.DRV_STATUS_EN (clearBit (s.fld Reg.DRV_STATUS_EN) d)

def execDrvenLow (d : Fin 4) (s : State) : Host.Outcome State Fault Refusal := .next (s.drvenLow d)

/-- The latched faults of a die and its legs end, and its lockouts are locked (R242, R252, R256). -/
def State.freshDie (s : State) (d : Nat) : State :=
  let legs := forIdx 16 (fun j t =>
    let n := 16 * d + j
    let u := (((t.setFld (Reg.DRV_LEG_STATUS_SC n) 0).setFld (Reg.DRV_LEG_STATUS_GSTUCK n) 0).setFld
      (Reg.DRV_LEG_STATUS_GLOW n) 0).setFld (Reg.DRV_LEG_STATUS_UVLAT n) 0
    u.setDleg n { u.dleg n with locked := true, bsuvFrom := none }) s
  ((legs.setFld (Reg.DRV_DIE_STATUS_VUV d) 0).setFld (Reg.DRV_DIE_STATUS_OT d) 0).setFld (Reg.DRV_DIE_STATUS_LINKF d) 0

/-- A clear through DRVENd (R252): the latched faults, CLR_CNT, CLR_S, the lockouts. -/
def State.drvClear (s : State) (d : Nat) : State :=
  (((s.freshDie d).count (Reg.DRV_DIE_CNT_CLR_CNT d)).raise Reg.DRV_STATUS_CLR_S).noteFault d

/-- The faults whose causes persist latch again at once (R251, R252). -/
def State.relatch (s : State) (d : Nat) : State :=
  let r := s.ddie d
  let s1 := if r.risen && !r.supply then s.latchDieFault d (Reg.DRV_DIE_STATUS_VUV d) else s
  let s2 := if r.hot then s1.latchDieFault d (Reg.DRV_DIE_STATUS_OT d) else s1
  let s3 := if r.link then s2 else s2.latchDieFault d (Reg.DRV_DIE_STATUS_LINKF d)
  forIdx 16 (fun j t => if (t.dleg (16 * d + j)).scNow && t.on (Reg.DRV_LEG_CFG_SC_EN (16 * d + j))
    then t.latchLegFault (16 * d + j) (Reg.DRV_LEG_STATUS_SC (16 * d + j)) (some (t.dieCfg (16 * d + j)).soft) else t) s3

/-- Whether a low interval of `len` C-cycles clears (R252): from 2.0 µs on it does, below 1.4 µs never, between them the die
decides. Log 108 (DESIGN CHOICE). -/
def clears (len : Nat) (free : Word) : Bool :=
  decide (800 ≤ len) || (decide (560 ≤ len) && bitOf free.toNat 0)

/-- Whether the boot has trained the drive status links (R422). Log 131 (DEDUCED). -/
def State.dieTrained (s : State) : Bool :=
  decide (3 ≤ s.fld Reg.SYS_BOOT_STATUS_PHASE) && s.fld Reg.SYS_BOOT_STATUS_PHASE != 7

/-- DRVEN_RISE (R252, R253): `link` and `hot` are the link clock and an over-temperature that persists as the die sees
them. Log 131 (DEDUCED). -/
def State.drvenRise (s : State) (d : Nat) (link hot : Bool) : State :=
  let r := s.ddie d
  if r.en then s
  else
    let len := s.now - r.lowAt.getD 0
    let w := s.drawFree
    let t := (w.2.setDdie d { r with en := true, lowAt := none, link := link, hot := hot }).setFld
      Reg.DRV_STATUS_EN (setBit (s.fld Reg.DRV_STATUS_EN) d)
    let u := if link && s.dieTrained then t.setFld Reg.SYS_DIE_STATUS_DRV_UP (setBit (s.fld Reg.SYS_DIE_STATUS_DRV_UP) d) else t
    if clears len w.1 then (u.drvClear d).relatch d else u

def execDrvenRise (d : Fin 4) (link hot : Bool) (s : State) : Host.Outcome State Fault Refusal :=
  .next (s.drvenRise d link hot)

def execGateTurnOn (n : Fin 64) (high clear : Bool) (s : State) : Host.Outcome State Fault Refusal :=
  .next (s.turnOn n high clear)

def execGateTurnOff (n : Fin 64) (high : Bool) (s : State) : Host.Outcome State Fault Refusal :=
  .next (s.turnOff n high)

/-- GATE_CONFIRMED (R245): in time, the turn-on begins 20 ns later; more than 10 ns after the edge, GWAIT_S. -/
def State.confirmed (s : State) (n : Nat) (high : Bool) : State :=
  let r := s.dleg n
  if r.gate high = .waiting ∧ s.now < r.cmdAt + s.gcw n then
    let t := s.begin n high
    if r.cmdAt + 4 < s.now then (t.raise (Reg.DRV_LEG_STATUS_GWAIT_S n)).raise Reg.DRV_STATUS_GWAIT_S else t
  else s

def execGateConfirmed (n : Fin 64) (high : Bool) (s : State) : Host.Outcome State Fault Refusal :=
  .next (s.confirmed n high)

/-- GATE_CONFIRM_TIMEOUT (R245): the wait ends unconfirmed. -/
def State.confirmTimeout (s : State) (n : Nat) (high : Bool) : State :=
  let r := s.dleg n
  if r.gate high = .waiting ∧ r.cmdAt + s.gcw n ≤ s.now then s.latchLegFault n (Reg.DRV_LEG_STATUS_GSTUCK n) none else s

def execGateConfirmTimeout (n : Fin 64) (high : Bool) (s : State) : Host.Outcome State Fault Refusal :=
  .next (s.confirmTimeout n high)

/-- GATE_LOW_TIMEOUT (R246): a switch that has begun to turn on has not passed 7.0 V within GCW. -/
def State.lowTimeout (s : State) (n : Nat) (high : Bool) : State :=
  let r := s.dleg n
  if s.direct n ∧ r.gate high = .on ∧ (r.onAt high).getD s.now + s.gcw n ≤ s.now ∧ s.fld (Reg.DRV_LEG_STATUS_ROLE n) = 0 then
    s.latchLegFault n (Reg.DRV_LEG_STATUS_GLOW n) none
  else s

def execGateLowTimeout (n : Fin 64) (high : Bool) (s : State) : Host.Outcome State Fault Refusal :=
  .next (s.lowTimeout n high)

/-- BOOTSTRAP_UNLOCK (R242): the leg follows its commands again from the next edge. -/
def State.unlock (s : State) (n : Nat) : State :=
  s.setDleg n { s.dleg n with locked := false, bsuvFrom := none }

def execBootstrapUnlock (n : Fin 64) (s : State) : Host.Outcome State Fault Refusal := .next (s.unlock n)

/-- BOOTSTRAP_LOCK (R242): an undervoltage if the high side is commanded on. -/
def State.lock (s : State) (n : Nat) : State :=
  let t := s.setDleg n { s.dleg n with locked := true }
  if s.direct n && s.cmd n true then t.bsuv n else t

def execBootstrapLock (n : Fin 64) (s : State) : Host.Outcome State Fault Refusal := .next (s.lock n)

/-- BSUV_TIMEOUT (R243): locked for BSUV_T after the first undervoltage of a run. -/
def State.bsuvTimeout (s : State) (n : Nat) : State :=
  match (s.dleg n).bsuvFrom with
  | none => s
  | some t =>
    if (s.dleg n).locked ∧ t + msCycles (s.dieCfg n).bsuvT ≤ s.now then
      (s.setDleg n { s.dleg n with bsuvFrom := none }).latchLegFault n (Reg.DRV_LEG_STATUS_UVLAT n) none
    else s

def execBsuvTimeout (n : Fin 64) (s : State) : Host.Outcome State Fault Refusal := .next (s.bsuvTimeout n)

/-- Whether an instant `b`, in 0.25 ns, lies after the begin `t` of a turn-on, within 250 ns (R247). -/
def within250 (t : Option Nat) (b : Nat) : Bool :=
  match t with
  | none => false
  | some t => decide (10 * t ≤ b) && decide (b ≤ 10 * t + 1000)

/-- Whether `b` lies after the turn-off of a switch, before a later turn-on of either (R247). -/
def DrvLeg.between (r : DrvLeg) (high : Bool) (b : Nat) : Bool :=
  match r.offAt high with
  | none => false
  | some t => decide (10 * t ≤ b) && [r.hiOn, r.loOn].all fun o => match o with
    | none => true
    | some u => decide (u ≤ t) || decide (b < 10 * u)

/-- The strength code to which a transition that begins at `b`, in 0.25 ns, is credited (R247): 0 HON, 1 HOFF, 2 LON, 3 LOFF. -/
def State.creditOf (s : State) (n : Nat) (rising : Bool) (b : Nat) : Option Nat :=
  let r := s.dleg n
  if rising then (if within250 r.hiOn b then some 0 else if r.between false b then some 3 else none)
  else if within250 r.loOn b then some 2
  else if r.between true b then some 1
  else none

def State.setStrNow (s : State) (n k v : Nat) : State :=
  s.setFld (Reg.DRV_LEG_STR_NOW n) (s.fld (Reg.DRV_LEG_STR_NOW n) - s.strNow n k * 16 ^ k + v % 16 * 16 ^ k)

/-- SW_EDGE_MEASURED (R247): a time of 1 ns to 250 ns, in 0.25 ns, is reported as the transition ends, and credited by its begin. -/
def State.swEdge (s : State) (n : Nat) (rising : Bool) (q : Nat) : State :=
  if q < 4 ∨ 1000 < q ∨ s.direct n = false then s
  else
    let t := s.setFld (if rising then Reg.DRV_LEG_EDGE_LAST_RISE n else Reg.DRV_LEG_EDGE_LAST_FALL n) q
    match s.creditOf n rising (10 * s.now - q) with
    | none => t
    | some k =>
      if s.on (Reg.DRV_LEG_CFG_ADAPT_EN n) then
        let c := (s.dleg n).credits.getD k {}
        t.setDleg n { t.dleg n with credits := (t.dleg n).credits.set k { cnt := c.cnt + 1, sum := c.sum + q } }
      else t

def execSwEdgeMeasured (n : Fin 64) (rising : Bool) (q : Fin 65536) (s : State) : Host.Outcome State Fault Refusal :=
  .next (s.swEdge n rising q)

/-- ADAPT_STEP (R248) of code `k`: the mean of the credited times against TSW and BAND. A step on an edge at which a commit reloads the
codes is discarded (R258). -/
def State.adaptStep (s : State) (n k : Nat) : State :=
  let c := (s.dleg n).credits.getD k {}
  if s.on (Reg.DRV_LEG_CFG_ADAPT_EN n) = false ∨ c.cnt < 2 ^ (s.dieCfg n).avg then s
  else if s.marked (markReload n) then s.setDleg n { s.dleg n with credits := (s.dleg n).credits.set k {} }
  else
    let t := s.setDleg n { s.dleg n with credits := (s.dleg n).credits.set k {} }
    let goal := c.cnt * 2 * s.fld (Reg.DRV_LEG_CFG_TSW n)
    let band := (s.dieCfg n).band
    let v := s.strNow n k
    let lim := (t.raise (Reg.DRV_LEG_STATUS_ADLIM_S n)).raise Reg.DRV_STATUS_ADLIM_S
    if goal * (16 + band) < c.sum * 16 then
      (if v < s.fld (Reg.DRV_LEG_STR_SMAX n) then t.setStrNow n k (v + 1) else lim)
    else if c.sum * 16 < goal * (16 - band) then
      (if s.fld (Reg.DRV_LEG_STR_SMIN n) < v then t.setStrNow n k (v - 1) else lim)
    else t

def execAdaptStep (n : Fin 64) (k : Fin 4) (s : State) : Host.Outcome State Fault Refusal := .next (s.adaptStep n k)

/-- SHORT_CIRCUIT (R250): the comparator reports a short circuit, or ends its report. -/
def State.shortCircuit (s : State) (n : Nat) (on : Bool) : State :=
  if s.direct n && s.on (Reg.DRV_LEG_CFG_SC_EN n) && (s.ddie (n / 16)).supply || !on then
    let t := s.setDleg n { s.dleg n with scNow := on }
    if on then
      let soft := some (t.dieCfg n).soft
      let u := if t.on (Reg.DRV_LEG_STATUS_SC n) then t.gatesOffAt n soft else t.latchLegFault n (Reg.DRV_LEG_STATUS_SC n) soft
      u.sourceLive (16 + n) true
    else t.sourceLive (16 + n) false
  else s

def execShortCircuit (n : Fin 64) (on : Bool) (s : State) : Host.Outcome State Fault Refusal :=
  .next (s.shortCircuit n on)

/-- DRV_VUV (R251): the supply falls below 8.8 V; the fault latches once the supply has risen above 9.4 V. -/
def State.drvVuv (s : State) (d : Nat) : State :=
  let t := s.setDdie d { s.ddie d with supply := false }
  if (s.ddie d).risen && !s.on (Reg.DRV_DIE_STATUS_VUV d) then t.latchDieFault d (Reg.DRV_DIE_STATUS_VUV d) else t.dieOff d

def execDrvVuv (d : Fin 4) (s : State) : Host.Outcome State Fault Refusal := .next (s.drvVuv d)

/-- The supply of a die stands above 9.4 V (R251). -/
def State.dieUp (s : State) (d : Nat) : State := s.setDdie d { s.ddie d with supply := true, risen := true }

/-- A die starts as at its first power-up (R251, R256): it holds no fault, and its lockouts are locked (R242). -/
def State.dieStart (s : State) (d : Nat) : State := ((s.dieUp d).freshDie d).noteFault d

/-- DRV_SUPPLY_RISE (R251, R256): the supply rises above 9.4 V, for the first time or after a fall; whether a supply that had fallen had
been reversed is a free value. Log 108 (DESIGN CHOICE), 167 (DESIGN CHOICE). -/
def State.drvRise (s : State) (d : Nat) : State :=
  if (s.ddie d).risen = false then s.dieStart d
  else if (s.ddie d).supply then s
  else
    let w := s.drawFree
    if w.1.toNat % 2 = 1 then w.2.dieStart d else w.2.dieUp d

def execDrvSupplyRise (d : Fin 4) (s : State) : Host.Outcome State Fault Refusal := .next (s.drvRise d)

/-- DRV_OT (R251). -/
def State.drvOt (s : State) (d : Nat) : State :=
  let t := s.setDdie d { s.ddie d with hot := true }
  if s.on (Reg.DRV_DIE_STATUS_OT d) then t.dieOff d else t.latchDieFault d (Reg.DRV_DIE_STATUS_OT d)

def execDrvOt (d : Fin 4) (s : State) : Host.Outcome State Fault Refusal := .next (s.drvOt d)

/-- LEG_RELEASE (R255): a release that waits takes effect once both commands are off. -/
def State.legRelease (s : State) (n : Nat) : State := if (s.dleg n).relPend then s.releaseLeg n else s

def execLegRelease (n : Fin 64) (s : State) : Host.Outcome State Fault Refusal := .next (s.legRelease n)

end Sys2Proof.Machine
end

