-- ==== Sys2Proof/Machine/TwinRows.lean ====
section
/-!
DEFINITION. The commands of twin operation (R343 to R361): frames, heartbeats, the TWIN_ACT line, and hand-overs.
-/

namespace Sys2Proof.Machine

/-- What a cut means for a hand-over that is announced (R359), that has come to T_h (R361), or that waits for a commit (R359). -/
def State.hoCut (s : State) : State :=
  if s.on Reg.TWN_STATUS_HO_BUSY then
    (let t := if s.twn.hoIn then s else s.setTwn { s.twn with hoCuts := s.twn.hoCuts + 1 }
     if t.twn.hoAck = true ∧ t.twn.hoAt ≤ t.now then t.hoTake.hoEnd else t)
  else match s.twn.hoWait with
    | none => s
    | some w =>
      if s.commitBusy then s
      else if s.role = roleACTIVE ∧ s.on Reg.TWN_STATUS_PEER_READY = true then s.announceHo 20000 (some w)
      else (s.setTwn { s.twn with hoWait := none }).hoFallback (some w)

/-- A frame is captured and sent (R347, R350): its comma comes at `at32`, in 1/32 C-cycle. -/
def State.sendFrame (s : State) (at32 : Nat) : State :=
  let s1 := (s.capture).noteReady
  let q := (s1.twn.seq + 1) % 256
  let s2 := s1.setTwn { s1.twn with seq := q, comma32 := tabPut s1.twn.comma32 q (at32 + 1), sentAt := some (at32 / 32) }
  let l := s2.frameWords at32
  let s3 := s2.setTwn { s2.twn with sent := l ++ [crcWords l],
                                    sweep := if s2.role = roleACTIVE then s2.nextSweep s2.twn.sweep else s2.twn.sweep }
  if s3.queueClash 41 then s3.unsent else s3

/-- TWIN_FRAME_CUT (R347): at PWM_ORIGIN + 10,000 k; the comma comes within 400 C-cycles. -/
def State.frameCut (s : State) (delay frac : Nat) : State :=
  if s.on Reg.TWN_CTRL_PAIR_EN = true ∧ s.armed = true ∧ s.pwm.running = true ∧ s.pwm.origin ≤ (s.now : Int)
      ∧ ((s.now : Int) - s.pwm.origin) % 10000 = 0 ∧ s.marked 0x2060 = false then
    ((s.mark 0x2060).hoCut).sendFrame ((s.now + delay) * 32 + frac)
  else s

def execTwinFrameCut (delay : Fin 401) (frac : Fin 32) (s : State) : Host.Outcome State Fault Refusal :=
  .next (s.frameCut delay frac)

/-- A claim (R357): every leg becomes DRIVING at once. Log 79 (DEDUCED). -/
def State.claim (s : State) : State :=
  let t := ((s.driveAct.setFld Reg.TWN_STATUS_ROLE roleACTIVE).raise Reg.TWN_STATUS_CLAIM_S).count Reg.TWN_CNT_HO_CNT
  let u := (t.stamp Reg.TWN_HO_STAMP_LO Reg.TWN_HO_STAMP_HI s.now).driveAll
  u.setTwn { u.twn with claimed := true, settling := false, hoIn := false, hoAck := false, hoLegs := [] }

/-- What an expiry means for a STANDBY (R357). -/
def State.expiryActs (s : State) (ready : Bool) : State :=
  if s.role ≠ roleSTANDBY ∨ s.on Reg.TWN_STATUS_ACT_LINE = false then s
  else if ready then (s.setFld Reg.TWN_STATUS_HO_BUSY 0).claim
  else s.raise Reg.TWN_STATUS_STANDDN_S

/-- The heartbeat expires where it is due (R357); it runs from the instant at which the role is taken. Log 178 (DEDUCED). -/
def State.heartbeat (s : State) : State :=
  if s.on Reg.TWN_CTRL_PAIR_EN = true ∧ s.twn.hbOver = false
      ∧ s.twn.lastGood + s.fld Reg.TWN_CFG_HB_T * 10000 ≤ s.now then
    let t := ((s.setTwn { s.twn with lost := true, hbOver := true, peerReady := false }).raise Reg.TWN_STATUS_HBLOSS_S)
    (((t.setFld Reg.TWN_STATUS_LINK_UP 0).setFld Reg.TWN_STATUS_PEER_READY 0).expiryActs s.twn.readyLast).noteReady
  else s

/-- A good frame (R347, R348, R352). Log 137 (DEDUCED). -/
def State.goodFrame (s : State) (l : List Nat) (rx32 : Nat) : State :=
  let s1 := ((s.peerWords l rx32).timeLink l rx32).roleWords l
  let s2 := if s1.role = roleSTANDBY ∧ l.length = 1118 then s1.shadow l else s1
  let s3 := (s2.hoWords l).noteReady
  s3.setTwn { s3.twn with readyLast := s3.on Reg.TWN_STATUS_READY }

/-- TWIN_FRAME_RECEIVED (R347, R352): the words, and the instant of the comma in whole C-cycles and 1/32. A frame that comes beside an
error of queue 40 is discarded (R281); one that comes as the heartbeat expires finds it expired (R357). -/
def State.twinFrame (s : State) (l : List Nat) (rx32 : Nat) : State :=
  if s.on Reg.TWN_CTRL_PAIR_EN = false ∨ s.queueReset 40 = true then s
  else if frameOk l then s.heartbeat.goodFrame l rx32
  else (s.raise Reg.TWN_STATUS_LINKERR_S).count Reg.TWN_CNT_LINKERR_CNT

def execTwinFrameReceived (words : List Word) (comma : BitVec 64) (frac : Fin 32) (s : State) :
    Host.Outcome State Fault Refusal :=
  .next (s.twinFrame (words.map (·.toNat)) (comma.toNat * 32 + frac))

/-- HEARTBEAT_EXPIRY (R357). -/
def execHeartbeatExpiry (s : State) : Host.Outcome State Fault Refusal := .next s.heartbeat

/-- TWIN_ACT_ONESHOT_EXPIRY (R345, R358): 30 to 40 µs after the last frame start. -/
def State.oneshot (s : State) : State :=
  match s.twn.sentAt with
  | none => s
  | some t =>
    if s.twn.driving = true ∧ t + 12000 ≤ s.now then
      let u := s.setTwn { s.twn with driving := false, sentAt := none }
      if s.role = roleACTIVE then u.standDown else u
    else s

def execTwinActOneshotExpiry (s : State) : Host.Outcome State Fault Refusal := .next s.oneshot

/-- PEER_WAIT_TIMEOUT (R346): the line is still high after PEER_WAIT. -/
def State.peerWait (s : State) : State :=
  match s.twn.waitFrom with
  | none => s
  | some t =>
    if t + msCycles (s.fld Reg.TWN_CFG2_PEER_WAIT) ≤ s.now ∧ s.on Reg.TWN_STATUS_ACT_LINE = true ∧ s.strapClash = false then
      s.becomeActive
    else s

def execPeerWaitTimeout (s : State) : Host.Outcome State Fault Refusal := .next s.peerWait

/-- ACTIVE_SETTLE_END (R346). -/
def State.settleEnd (s : State) : State :=
  if s.twn.settling = true ∧ s.role = roleACTIVE ∧ s.twn.settleTo ≤ s.now then
    (s.setTwn { s.twn with settling := false }).driveAll
  else s

def execActiveSettleEnd (s : State) : Host.Outcome State Fault Refusal := .next s.settleEnd

def addrTwnCtrl : Nat := Reg.TWN_CTRL_HANDOVER.addr

/-- A write of HANDOVER (R359). Log 80 (DEDUCED). -/
def State.handover (s : State) (p : Port) : State :=
  if s.role = roleACTIVE ∧ s.on Reg.TWN_STATUS_PEER_READY = true ∧ s.commitBusy = false ∧ s.on Reg.TWN_STATUS_HO_BUSY = false then
    s.announceHo 400000 none
  else s.refuse p addrTwnCtrl

def execHandoverRequest (p : Port) (s : State) : Host.Outcome State Fault Refusal :=
  .next (s.portCmd (.handoverRequest p) p addrTwnCtrl fun t => t.handover p)

/-- HANDOVER_CANCEL (R359): no acknowledgement 100 µs before T_h, or the peer leaves READY before it. -/
def State.handoverCancel (s : State) : State :=
  if s.on Reg.TWN_STATUS_HO_BUSY = true ∧ s.twn.hoIn = false ∧ ((s.twn.hoAck = false ∧ s.twn.hoAt ≤ s.now + 40000)
      ∨ (s.now < s.twn.hoAt ∧ s.on Reg.TWN_STATUS_PEER_READY = false)) then
    let t := (s.setFld Reg.TWN_STATUS_HO_BUSY 0).setTwn { s.twn with hoBy := none, hoAck := false, hoLegs := [] }
    (t.raise Reg.TWN_STATUS_HOFAIL_S).hoFallback s.twn.hoBy
  else s

def execHandoverCancel (s : State) : Host.Outcome State Fault Refusal := .next s.handoverCancel

/-- HANDOVER_EDGE (R360): a turn-off edge of the leg at or after T_h, or T_h for a leg with both switches off. -/
def State.handoverEdge (s : State) (n : Nat) : State :=
  if s.hoOpen n = true ∧ (s.leg n).hiCmd = false ∧ (s.leg n).loCmd = false then s.hoLeg n else s

def execHandoverEdge (n : Fin 64) (s : State) : Host.Outcome State Fault Refusal := .next (s.handoverEdge n)

/-- The switch of a leg that is on turns off (R360), that of a FORCED leg too; it turns on again after its dead time where no other edge
of the leg comes before. Log 179 (DEDUCED). -/
def State.forceOff (s : State) (n : Nat) : State :=
  let r := s.leg n
  let p := s.pulseCfg n (r.car.at s.now) (32 * s.now)
  let on32 := 32 * s.now + p.dt r.hiCmd
  let t := s.cutLeg n
  if (r.hiCmd || r.loCmd) && r.edges.all fun e => decide (on32 < e.at32) then
    t.setLeg n { t.leg n with edges := insertEdge ⟨on32, r.hiCmd, true⟩ r.edges, effOn32 := on32 }
  else t.setLeg n { t.leg n with edges := r.edges }

/-- HANDOVER_FORCED_EDGE (R360): at a period start, HO_T after T_h. -/
def State.forcedEdge (s : State) (n : Nat) : State :=
  if s.hoOpen n = true ∧ s.twn.hoAt + msCycles (s.fld Reg.TWN_CFG2_HO_T) ≤ s.now
      ∧ (((s.leg n).car).at s.now).isStart s.now = true then (s.forceOff n).hoLeg n
  else s

def execHandoverForcedEdge (n : Fin 64) (s : State) : Host.Outcome State Fault Refusal := .next (s.forcedEdge n)

/-- TWIN_ACT_LINE_CHANGE (R345, R346). Log 81 (PRESUMED). -/
def State.actLine (s : State) (high : Bool) : State :=
  let t := s.setFld Reg.TWN_STATUS_ACT_LINE (asNat high)
  if t.twn.waitFrom.isSome && !high then t.becomeStandby
  else if t.role == roleACTIVE && t.twn.driving && high then t.raise Reg.TWN_STATUS_LINEF_S
  else t

def execTwinActLineChange (high : Bool) (s : State) : Host.Outcome State Fault Refusal := .next (s.actLine high)

end Sys2Proof.Machine
end

