-- ==== Sys2Proof/Machine/RegWrite.lean ====
section
/-!
DEFINITION. A write of one word by a port (R12 to R18, R92, R157 to R160, R411, R417, R418, R431 to R436): what every field does, and
what the registers with an action of their own do.
-/

namespace Sys2Proof.Machine

/-- The bits of a word that a row's field takes. -/
def Row.ofWord (r : Row) (v : Nat) : Nat := v / 2 ^ r.lo % 2 ^ r.width

/-- Fields of stage I whose write has a rule of its own (R51, R53, R54, R80, R78, R110, R206 to R208, R223, R297, R333, R393, R395, R411,
R417). -/
def ownFlds : List Fld :=
  [Reg.SYS_DRAM_PAGE_PAGE, Reg.SYS_PORT_OWNER, Reg.STG_ATL_CTRL_SLOT, Reg.ADC_CAL_CMD_INPUT, Reg.ADC_CAL_CMD_POINT, Reg.ADC_CAL_CMD_NLOG,
    Reg.ADC_POL_CFG_INPUT, Reg.ADC_POL_CFG_REF_KIND, Reg.ADC_POL_CFG_REF, Reg.ADC_POL_CFG_W, Reg.PWM_RUN 0, Reg.PWM_RUN 1, Reg.SEC_RTC_TRIM,
    Reg.SEC_TAMP_CFG]

/-- Whether the field at a key has a rule of its own for writes. -/
def ownKey (k : Nat) : Bool :=
  (ownFlds.any fun f => f.key == k)
    || anyIdx 8 (fun g => ([Reg.GFM_CTRL_EN g, Reg.GFM_SYNC_CTRL_ARM g, Reg.GFM_BRK_HOST_CLOSED g, Reg.BRG_G_TX_HDR_TYPE g].any fun f => f.key == k)
      || anyIdx 6 fun j => (spField j g).key == k)
    || anyIdx 128 (fun n => (Reg.GRT_CTX_CTRL_EN n).key == k) || anyIdx 32 fun c => (Reg.DMA_CH_RPTR c).key == k

/-- Whether a value of a field is written only with EXPERT_EN (R18, R437): every value of an expert field, and of PWM_CG's SHORT the
value 2 alone (R218). Log 17 (DEDUCED). -/
def Row.barred (r : Row) (x : Nat) : Bool := r.expert && (r.base != 0x6100 || x == 2)

/-- A write of a field of stage I (R12, R15 to R18). Log 17 (DEDUCED). -/
def State.writeFld (s : State) (p : Port) (a v : Nat) (r : Row) : State :=
  let f := r.fld a
  let x := r.ofWord v
  match r.acc with
  | .ro => s
  | .wo => s
  | .w1c => s.setFld f (w1cAfter s.evNow f.key r.width (s.fld f) x)
  | .cnt => s.setFld f (cntAfter s.evNow f.key (s.fld f) x)
  | .rw =>
    if r.isD || ownKey f.key then s
    else if (r.barred x && !s.expertStart) || !r.range.admits x then s.refuse p a
    else s.setFld f x

/-- A write of the D fields of a register (R157 to R159): a D write only where a shadow would change. Log 17 (DEDUCED). -/
def State.writeD (s : State) (p : Port) (a v : Nat) (rows : List Row) : State :=
  let ds := rows.filter Row.isD
  let barred (r : Row) := r.barred (r.ofWord v) && !s.expertStart
  let t := if ds.any barred then s.refuse p a else s
  let ms := ds.filter fun r => !barred r && decide (s.shadowFld (r.fld a) ≠ r.ofWord v)
  if ms.isEmpty then t
  else if s.locked then t.refuse p a
  else (ms.foldl (fun u r => u.draftFld (r.fld a) (r.ofWord v)) t).stgRest

/-- A write of CLK_REF_CFG before PLL-C first locks takes effect at once (R261). -/
def State.writeRef (s : State) (p : Port) (v : Nat) : State :=
  let a := Reg.CLK_REF_CFG_SRC.addr
  let u := (rowsAt a).foldl (fun u r => if r.range.admits (r.ofWord v) then u.setFld (r.fld a) (r.ofWord v) else u.refuse p a) s
  let t : State := { u with clk := { u.clk with named := true } }
  if t.on Reg.CLK_REF_CFG_SRC = t.on Reg.CLK_STATUS_REF_ACT then t
  else (t.setFld Reg.CLK_STATUS_REF_ACT (t.fld Reg.CLK_REF_CFG_SRC)).setFld Reg.CLK_STATUS_REF_OK 0

/-- A write of SYS_PORT.OWNER (R417); the frame that brings a service claim is a good one. -/
def State.portClaim (s : State) (p : Port) (o : Nat) : State :=
  let own := Port.code p + 1
  let cur := s.fld Reg.SYS_PORT_OWNER
  if (cur = 0 ∧ o = own) ∨ (cur = own ∧ o = 0) then
    let t := s.setFld Reg.SYS_PORT_OWNER o
    if o = 2 then { t with host := { t.host with svcLast := t.now } } else t
  else s.refuse p Reg.SYS_PORT_OWNER.addr

/-- Actions of the SYS block. -/
def State.actSys (s : State) (p : Port) (a v : Nat) : State :=
  if a = Reg.SYS_DRAM_PAGE_PAGE.addr then s.setLatch p a (v % 16)
  else if a = Reg.SYS_PORT_OWNER.addr then s.portClaim p (v % 4)
  else if a = addrBoot then (if bitOf v 8 then s.bootStart p (v % 4) else s)
  else if a = Reg.SYS_RESET_WARM.addr then s.resetWrite p (bitOf v 0) (v / 256 % 256)
  else if a = addrStby then
    let t := if bitOf v 0 then s.standbyEnter p else s
    if bitOf v 1 then t.standbyCancel else t
  else s

/-- Actions of the STG block (R151, R161, R162, R164, R165): bits written together act in ascending order, DISCARD of an image before
VERIFY. Log 39 (DEDUCED), 43 (DEDUCED). -/
def State.actStg (s : State) (p : Port) (a v : Nat) : State :=
  if a = addrStgCtrl then
    let t1 := if bitOf v 0 then s.survey p else s
    let t2 := if bitOf v 1 then t1.commitGo p else t1
    let t3 := if bitOf v 2 then t2.draftDiscard p else t2
    if bitOf v 3 then t3.cdraftClear p else t3
  else if a = Reg.STG_CDRAFT_DATA.addr then s.cdraftAppend p v
  else if a = Reg.STG_ATL_CTRL_SLOT.addr then
    let t := if bitOf v 9 then s.imageDiscard p else s
    if bitOf v 8 then t.imageVerify p (v % 4) else t.setFld Reg.STG_ATL_CTRL_SLOT (v % 4)
  else s

/-- Actions of the GFM block (R51, R53, R54, R78, R80, R86, R353). -/
def State.actGfm (s : State) (p : Port) (a v : Nat) : State :=
  let g := (a - 0x3000) / 0x200
  let by' (body : State) : State := if s.role = roleSTANDBY then s.refuse p a else body
  if a = (Reg.GFM_CTRL_EN g).addr then (if bitOf v 0 then s.groupStart p g else by' (s.beginStop g))
  else if a = (Reg.GFM_SYNC_CTRL_ARM g).addr then by' (if bitOf v 0 then s.syncArm p g else s.syncDisarm g)
  else if a = (Reg.GFM_BRK_HOST_CLOSED g).addr then s.hostClosed p g (v / 4 % 2)
  else match firstIdx 6 fun k => (spField k g).addr == a with
    | some k => by' (if k < 4 then s.setpoint p k g v else s.secWrite p k g v)
    | none => s

/-- Actions of the GRT block (R107, R110). -/
def State.actGrt (s : State) (p : Port) (a v : Nat) : State :=
  if a = addrKick then s.kick p (v % 128)
  else match firstIdx 128 fun n => (Reg.GRT_CTX_CTRL_EN n).addr == a with
    | some n => s.writeCtxEn p n (bitOf v 0)
    | none => s

/-- A write of ADC_CAL_CMD (R206, R207). -/
def State.calWrite (s : State) (p : Port) (v : Nat) : State :=
  let i := v % 128
  let pt := v / 128 % 4
  let n := v / 512 % 8
  if bitOf v 12 = false then
    (if pt = 3 then (s.calFields i (s.fld Reg.ADC_CAL_CMD_POINT) n).refuse p Reg.ADC_CAL_CMD_START.addr else s.calFields i pt n)
  else if pt = 3 then (s.calFields i (s.fld Reg.ADC_CAL_CMD_POINT) n).refuse p Reg.ADC_CAL_CMD_START.addr
  else if pt = 2 then s.calDraft p i n
  else s.calMeasure p i pt n

/-- Actions of the ADC block (R183, R206 to R208). -/
def State.actAdc (s : State) (p : Port) (a v : Nat) : State :=
  if a = Reg.ADC_INJ_KICK.addr then s.injectWord true v
  else if a = Reg.ADC_CAL_CMD_START.addr then s.calWrite p v
  else if a = Reg.ADC_POL_CFG_START.addr then
    s.polWrite p (v % 128) (bitOf v 7) (v / 256 % 128) (v / 65536 % 16) (bitOf v 20)
  else s

/-- Whether a leg belongs to a DC group (R223). Log 50 (DEDUCED). -/
def State.dcLeg (s : State) (n : Nat) : Bool :=
  (s.legRec n).used && !s.controlled (s.legRec n).group

/-- A write of PWM_RUN[k] (R223, R369): bits of legs outside DC groups are ignored; a 1 is refused outside RUN.
Log 50 (DEDUCED), 116 (DESIGN CHOICE). -/
def State.runWrite (s : State) (p : Port) (k v : Nat) : State :=
  let old := s.fld (Reg.PWM_RUN k)
  let barred (j : Nat) := s.dcLeg (32 * k + j) && bitOf v j && !s.sdcRun
  let t := s.setFld (Reg.PWM_RUN k) (bitsOf 32 fun j =>
    if s.dcLeg (32 * k + j) && !barred j then bitOf v j else bitOf old j)
  if anyIdx 32 barred then t.refuse p (Reg.PWM_RUN k).addr else t

/-- Actions of the PWM and TRP blocks. -/
def State.actPwm (s : State) (p : Port) (a v : Nat) : State :=
  match firstIdx 2 fun k => (Reg.PWM_RUN k).addr == a with
  | some k => s.runWrite p k v
  | none => s

def State.actTrp (s : State) (a v : Nat) : State :=
  if a = addrTrpSw then s.softTrips (v % 16)
  else match firstIdx 3 fun k => (Reg.TRP_CLR k).addr == a with
    | some k => s.clearTrips k v
    | none => s

/-- Actions of the MEM block (R287, R293, R294). -/
def State.actMem (s : State) (p : Port) (a v : Nat) : State :=
  if a = Reg.MEM_DIE_CTRL_DIE.addr then
    let t := if bitOf v 4 then s.markDie p (v % 16) else s
    if bitOf v 5 then t.unmarkDie p else t
  else if a = Reg.MEM_ERRATA_CTRL_BLOCK.addr then
    let b := v % 2 ^ 19
    let t := if bitOf v 20 then s.errataWrite p b else s
    if bitOf v 21 then t.errataRemove b else t
  else if a = Reg.MEM_INJ_CTRL_GO.addr then
    (if !s.expertStart then s.refuse p a else if bitOf v 0 then s.checkerGo p else s)
  else s

/-- Actions of the DMA block (R296, R297, R307). -/
def State.actDma (s : State) (p : Port) (a v : Nat) : State :=
  match firstIdx 32 fun c => addrCtrl c == a, firstIdx 32 fun c => (Reg.DMA_CH_RPTR c).addr == a with
  | some c, _ =>
    let t := if bitOf v 0 then s.copyStart p c else s
    if bitOf v 1 then t.dmaResume p c else t
  | none, some c => (s.setDch c { s.dch c with full := false }).setFld (Reg.DMA_CH_RPTR c) (v / 16 * 16)
  | none, none => s

/-- Actions of the CTR block (R322). -/
def State.actCtr (s : State) (p : Port) (a v : Nat) : State :=
  match firstIdx 4 fun k => addrSeqCtrl k == a with
  | some k =>
    let t := if bitOf v 0 then s.armRecorder p k else s
    if bitOf v 1 then t.forceRecorder k else t
  | none => s

/-- Actions of the SND block (R331, R333, R337). -/
def State.actSnd (s : State) (p : Port) (a v : Nat) : State :=
  match firstIdx 8 fun g => addrTune g == a || addrTxCtrl g == a || (Reg.BRG_G_TX_HDR_TYPE g).addr == a with
  | none => s
  | some g =>
    if a = addrTune g then
      let t := if bitOf v 16 then s.tuneStart p g else s
      if bitOf v 17 then t.tuneAbort g else t
    else if a = addrTxCtrl g then
      let t := if bitOf v 0 then s.txGo p g else s
      if bitOf v 1 then t.txCancel g else t
    else
      let y := v / 2 ^ 16 % 16
      if 1 ≤ y ∧ y ≤ 5 then s.setFld (Reg.BRG_G_TX_HDR_TYPE g) y else s.refuse p a

/-- A write of SEC_TAMP_CFG (R395): the reserved MODE is refused input by input, and bits 4k + 3 read 0. Log 134 (DEDUCED). -/
def State.tampWrite (s : State) (p : Port) (v : Nat) : State :=
  let old := s.fld Reg.SEC_TAMP_CFG
  let bad (k : Nat) := v / 16 ^ k % 4 == 3
  let t := s.setFld Reg.SEC_TAMP_CFG (bitsOf 16 fun i =>
    if i % 4 = 3 then false else if i % 4 < 2 && bad (i / 4) then bitOf old i else bitOf v i)
  if anyIdx 4 bad then t.refuse p Reg.SEC_TAMP_CFG.addr else t

/-- Actions of the SEC block (R386, R389, R390, R393, R395, R400). Log 86 (DESIGN CHOICE), 134 (DEDUCED). -/
def State.actSec (s : State) (p : Port) (a v : Nat) : State :=
  if a = Reg.SEC_TAMP_CFG.addr then s.tampWrite p v
  else if a = Reg.SEC_RTC_TRIM.addr then (if v % 256 = 128 then s.refuse p a else s.setFld Reg.SEC_RTC_TRIM v)
  else if bitOf v 0 = false then s
  else if a = addrCmdCtrl then s.secGo p none
  else if a = Reg.SEC_PATCH_CTRL_LOAD.addr then s.patchLoad p
  else if a = Reg.SEC_ATT_CTRL_GO.addr then s.attGo p
  else if a = Reg.SEC_RTC_CTRL_SET.addr then s.rtcSet
  else if a = Reg.SEC_TALLY_CTRL_SEAL_NOW.addr then s.askSeal 1
  else s

/-- The action of a register beside what its fields take (R431). -/
def State.regAct (s : State) (p : Port) (a v : Nat) : State :=
  match a / 4096 with
  | 0 => s.actSys p a v
  | 1 => if a = Reg.CLK_BAND_CTRL_CLEAR.addr ∧ bitOf v 0 = true then s.bandClear p else s
  | 2 => s.actStg p a v
  | 3 => s.actGfm p a v
  | 4 => s.actGrt p a v
  | 5 => s.actAdc p a v
  | 6 => s.actPwm p a v
  | 8 => s.actTrp a v
  | 9 => s.actMem p a v
  | 10 => s.actDma p a v
  | 11 => s.actCtr p a v
  | 12 => s.actSnd p a v
  | 13 => if a = addrTwnCtrl ∧ bitOf v 8 = true then s.handover p else s
  | 14 => if a = addrSdcCtrl ∧ bitOf v 0 = true then s.sdcReset p else s
  | 15 => s.actSec p a v
  | _ => s

/-- Whether a write of a trace tap names a context that is not on the tap's cell (R125). -/
def State.tapForeign (s : State) (a v : Nat) : Bool :=
  decide (0x4200 ≤ a) && decide (a < 0x4400) && (!cfgDefined (s.cfg (v % 128)) || s.cellOf (v % 128) != (a - 0x4200) / 16)

/-- What a write of a register does (R12, R13, R34, R157, R432): a word that no index lists takes nothing. -/
def State.regBody (s : State) (p : Port) (a v : Nat) : State :=
  let rows := rowsAt a
  if a / 4096 = 3 ∧ s.gfmOpen ((a - 0x3000) / 0x200) = false ∨ s.tapForeign a v = true then s.refuse p a
  else if a = Reg.CLK_REF_CFG_SRC.addr ∧ s.clk.locked = false then s.writeRef p v
  else ((rows.foldl (fun t r => t.writeFld p a v r) s).writeD p a v rows).regAct p a v

/-- A write of one word at an address of the register or the cell-memory range. -/
def State.writeWord (s : State) (p : Port) (a v : Nat) : State :=
  s.portWrite p a fun t => if a < 0x10000 then t.regBody p a v else t.expertCell p a v

/-- REGISTER_WRITE (R157): the register at word `a`. -/
def execRegisterWrite (p : Port) (a : Fin 0x4000) (v : Word) (s : State) : Host.Outcome State Fault Refusal :=
  .next (s.inOrder (.registerWrite p a v) (fun i => i.beforeFrame (.registerWrite p a v)) fun t => t.writeWord p (4 * a) v.toNat)

end Sys2Proof.Machine
end

