-- ==== Sys2Proof/Machine/RegRead.lean ====
section
/-!
DEFINITION. A read of one word by a port (R11 to R14, R55, R92, R94, R160, R383, R393, R396, R403, R409, R411, R419, R432): words that
are computed as they are read, the latches of a port, and the words of cell memory.
-/

namespace Sys2Proof.Machine

/-- The words whose read latches the word after them (R11): the LO word of every pair that is read as SYS_CHART is. Log 135 (DEDUCED). -/
def latchLos : List Nat :=
  [Reg.SYS_CHART_LO.addr, Reg.STG_ATL_SWAP_STAMP_LO.addr, Reg.STG_DONE_STAMP_LO.addr, Reg.PWM_ORIGIN_LO.addr, Reg.TRP_FIRST_STAMP_LO.addr,
    Reg.TWN_OFS_LO.addr, Reg.TWN_HO_STAMP_LO.addr, Reg.SDC_DEMAND_STAMP_LO.addr, Reg.SEC_RTC_LO.addr, Reg.SEC_TALLY_SEAL_LO.addr]

/-- Whether an address holds the LO word of a pair. -/
def isLo (a : Nat) : Bool :=
  latchLos.contains a
    || anyIdx 8 (fun g => [Reg.GFM_FRT_STAMP_LO g, Reg.GFM_CLOSE_STAMP_LO g, Reg.GFM_FA_STAMP_LO g, Reg.SND_G_STAMP_LO g,
      Reg.BRG_G_RX_STAMP_LO g].any fun f => f.addr == a)
    || anyIdx 4 (fun k => (Reg.CTR_SEQ_TRIG_STAMP_LO k).addr == a) || anyIdx 32 fun c => (Reg.DMA_CH_FAULT_STAMP_LO c).addr == a

/-- The word of reset values at an address (R438). -/
def resetWord (a : Nat) : Nat := (rowsAt a).foldl (fun w r => w + resetOf (r.fld a).key * 2 ^ r.lo) 0

/-- STATUS of a context (R110, R113, R123): the phases as they stand. -/
def State.ctxStatus (s : State) (n a : Nat) : Nat :=
  let p := (s.ctx n).phase
  s.plainWord a / 8 * 8 + asNat (p == .ready || p == .again) + 2 * asNat (p == .running || p == .preempted) + 4 * asNat (p == .waiting)

/-- STATUS of a cell (R93, R113). -/
def State.cellStatus (s : State) (c a : Nat) : Nat :=
  let w := s.plainWord a
  w % 2 ^ 10 + (s.inPhase c .preempted).length % 4 * 2 ^ 10 + asNat ((tabGet none s.eng.running c).isNone) * 2 ^ 12
    + w / 2 ^ 13 % 2 ^ 11 * 2 ^ 13 + tabGet 0x55 s.eng.cfmaps c % 256 * 2 ^ 24

/-- Words of the region that DMA_RGN_SEL names (R300, R308): 0 before the first image (R438). -/
def State.regionWord (s : State) (i : Nat) : Nat :=
  match s.stg.active with
  | none => 0
  | some m =>
    let r := regionOf m.dma (s.fld Reg.DMA_RGN_SEL_DOM) (s.fld Reg.DMA_RGN_SEL_RGN)
    [r.vbase, r.pbase, r.pages, r.flags].getD i 0

/-- The log entry that SEC_LOG_SEL names, as its three words (R396); 0 where there is none. -/
def State.logWord (s : State) (i : Nat) : Nat :=
  match s.sec.ret.log[s.fld Reg.SEC_LOG_SEL_AGE]? with
  | none => 0
  | some e => [e.rtc % 2 ^ 32, e.rtc / 2 ^ 32 % 256 + e.kind * 256 + e.input * 4096 + e.seq * 65536, e.detail].getD i 0

/-- Byte `i` of the SEC_ID window (R383). -/
def idByte (i : Nat) : Nat :=
  if i < 16 then deviceId / 256 ^ i % 256
  else if i < 0x10 + 97 then identityByte (i - 16)
  else if i < 0x80 then 0
  else if i < 0x80 + 56 then identityByte (128 + (i - 0x80))
  else 0

/-- A word of the SEC_ID window. -/
def idWord (o : Nat) : Nat := leWord ((List.range 4).map fun i => idByte (o + i))

/-- The RTC as LO and HI give it (R393, R403): seconds in [39:0], the fraction in [54:40]. -/
def State.rtcWide (s : State) : Nat := s.sec.rtc / 2 ^ 15 % 2 ^ 40 + s.sec.rtc % 2 ^ 15 * 2 ^ 40

/-- The Tally words of a group (R397, R403). -/
def State.tallyWord (s : State) (g i : Nat) : Nat :=
  let t := s.tallyRec g
  let w (x k : Nat) : Nat := wholeOf x / 2 ^ (32 * k) % 2 ^ 32
  [w t.eExp 0, w t.eExp 1, w t.eImp 0, w t.eImp 1, w t.qPos 0, w t.qPos 1, w t.qNeg 0, w t.qNeg 1, msOf t.unmet, msOf t.orng,
    t.calchg % 2 ^ 32].getD i 0

/-- PWM_LEG_CARRY as it reads (R220): a carry that a pulse takes up stays until that pulse has been emitted. Log 148 (DEDUCED). -/
def State.carryWord (s : State) (n : Nat) : Nat :=
  match (s.leg n).carryShown with
  | some c => unsignedOf 32 c
  | none => s.fld (Reg.PWM_LEG_CARRY n)

/-- A word with one bit set or cleared. -/
def putBit (w i : Nat) (b : Bool) : Nat := if b then setBit w i else clearBit w i

/-- Words of the SYS, PWM, GRT, TRP and DRV blocks that follow live conditions (R10, R109, R225, R259, R413, R419). -/
def State.liveLow (s : State) (a : Nat) : Option Nat :=
  if a = Reg.SYS_STATE_ARMED.addr then some s.sysState
  else if a = Reg.SYS_EVSUM_BLK.addr then some s.evSum
  else if a = Reg.SYS_CHART_LO.addr then some (s.now % 2 ^ 32)
  else if a = Reg.SYS_CHART_HI.addr then some (s.now / 2 ^ 32)
  else if 0x4400 ≤ a ∧ a < 0x4C00 ∧ a % 16 = 0 then some (s.cfg ((a - 0x4400) / 16))
  else if 0x4400 ≤ a ∧ a < 0x4C00 ∧ a % 16 = 8 then some (s.ctxStatus ((a - 0x4400) / 16) a)
  else if 0x4C00 ≤ a ∧ a < 0x4C80 then some (s.cellStatus ((a - 0x4C00) / 4) a)
  else if 0x6400 ≤ a ∧ a < 0x6800 ∧ a % 16 = 12 then some (s.carryWord ((a - 0x6400) / 16))
  else if 0x7040 ≤ a ∧ a < 0x7080 ∧ a % 16 = 4 then some (putBit (s.plainWord a) 3 (s.vuvNow ((a - 0x7040) / 16)))
  else if 0x7100 ≤ a ∧ a < 0x7900 ∧ a % 32 = 20 then some (putBit (s.plainWord a) 1 (s.bsuvNow ((a - 0x7100) / 32)))
  else if 0x8020 ≤ a ∧ a < 0x802C then some (bitsOf 32 fun j => s.trp.latch.contains (32 * ((a - 0x8020) / 4) + j))
  else if 0x8030 ≤ a ∧ a < 0x803C then some (bitsOf 32 fun j => s.trp.live.contains (32 * ((a - 0x8030) / 4) + j))
  else none

/-- Words of the DMA, SDC and SEC blocks that are computed as they are read. -/
def State.liveHigh (s : State) (a : Nat) : Option Nat :=
  if a = Reg.DMA_HALTED.addr then some s.dmaHalted
  else if Reg.DMA_RGN_DATA0.addr ≤ a ∧ a < Reg.DMA_RGN_DATA0.addr + 16 then some (s.regionWord ((a - Reg.DMA_RGN_DATA0.addr) / 4))
  else if 0xA108 ≤ a ∧ a < 0xA908 ∧ (a - 0xA108) % 64 = 0 then some (s.plainWord a / 4 * 4 + s.chState ((a - 0xA108) / 64))
  else if a = Reg.SDC_UNCONF_LEFT_MIN.addr then some s.unconfLeft
  else if a = Reg.SEC_RTC_LO.addr then some (s.rtcWide % 2 ^ 32)
  else if a = Reg.SEC_RTC_HI.addr then some (s.rtcWide / 2 ^ 32)
  else if Reg.SEC_LOG_DATA0.addr ≤ a ∧ a < Reg.SEC_LOG_DATA0.addr + 12 then some (s.logWord ((a - Reg.SEC_LOG_DATA0.addr) / 4))
  else if 0xF200 ≤ a ∧ a < 0xF400 then some (s.tallyWord ((a - 0xF200) / 64) ((a - 0xF200) % 64 / 4))
  else if 0xF400 ≤ a ∧ a < 0xF4B8 then some (idWord (a - 0xF400))
  else none

/-- A register word as it stands, before any latch. Log 120 (DESIGN CHOICE). -/
def State.rawWord (s : State) (a : Nat) : Nat :=
  match s.liveLow a, s.liveHigh a with
  | some w, _ => w
  | none, some w => w
  | none, none => s.plainWord a

/-- Whether an address holds a latched live register of a group (R55). -/
def isSnap (a : Nat) : Bool := decide (a / 4096 = 3 ∧ 0xA4 ≤ a % 0x200 ∧ a % 0x200 ≤ 0xD0)

/-- The address of a group's SNAP_LO. -/
def snapLo (a : Nat) : Nat := a / 0x200 * 0x200 + 0xA0

/-- A register word as a port reads it: through the port's latches (R11, R55, R403, R409, R411). -/
def State.portView (s : State) (p : Port) (a : Nat) : Nat :=
  if a = Reg.SYS_DRAM_PAGE_PAGE.addr then s.latchAt p a
  else if isLo (a - 4) && decide (4 ≤ a) then s.latchAt p a
  else if isSnap a then (if s.latchAt p (snapLo a) = 1 then s.latchAt p a else resetWord a)
  else if 0xF200 ≤ a ∧ a < 0xF400 ∧ a % 64 ≠ 0 then s.latchAt p a
  else s.rawWord a

/-- The drafted view of a register (R160). Log 135 (DEDUCED). -/
def State.peek (s : State) (p : Port) (a : Nat) : Nat :=
  let w := s.portView p a
  (rowsAt a).foldl (fun v r => v + (if r.isD then s.shadowFld (r.fld a) else r.ofWord w) * 2 ^ r.lo) 0

/-- What the read of a word latches (R11, R55, R403). Log 135 (DEDUCED). -/
def State.readLatch (s : State) (p : Port) (a : Nat) : State :=
  if isLo a then s.setLatch p (a + 4) (s.rawWord (a + 4))
  else if a / 4096 = 3 ∧ a % 0x200 = 0xA0 then
    forIdx 11 (fun i t => t.setLatch p (a + 8 + 4 * i) (s.plainWord (a + 8 + 4 * i)))
      ((s.setLatch p a 1).setLatch p (a + 4) (s.now / 2 ^ 32))
  else if 0xF200 ≤ a ∧ a < 0xF400 ∧ a % 64 = 0 then
    forIdx 10 (fun i t => t.setLatch p (a + 4 + 4 * i) (s.tallyWord ((a - 0xF200) / 64) (i + 1))) s
  else s

/-- A read of a register by a port: the state with what it latches, and the word. In standby PHASE is a value that the spec does not
state (R426). Log 120 (DESIGN CHOICE). -/
def State.readReg (s : State) (p : Port) (a : Nat) : State × Nat :=
  if a / 4096 = 3 ∧ a % 0x200 = 0xA0 then (s.readLatch p a, s.now % 2 ^ 32)
  else if a = Reg.STG_PEEK_DATA.addr then (s, s.peek p (s.fld Reg.STG_PEEK_ADDR_ADDR / 4 * 4))
  else if a = Reg.SYS_BOOT_STATUS_PHASE.addr ∧ s.on Reg.SYS_STBY_STAT_READY = true then
    (s.drawFree.2, s.plainWord a / 8 * 8 + s.drawFree.1.toNat % 8)
  else (s.readLatch p a, s.portView p a)

/-- A read of a word of cell memory by a port (R92, R94): the word and its poison. -/
def State.readCell (s : State) (a : Nat) : State × Nat × Bool :=
  let c := (a - 0x100000) / 0x8000
  let o := (a - 0x100000) % 0x8000
  let go (m : CellMem) (i : Nat) : State × Nat × Bool :=
    let w := s.memWord c m false i
    (s.eccRead c (memAddr c m i) false w, w.val, w.ecc == .bad)
  if o < 0x1000 then go .coef (o / 4)
  else if o < 0x1800 then go .st ((o - 0x1000) / 4)
  else if 0x2000 ≤ o ∧ o < 0x2800 then go .bun ((o - 0x2000) / 4)
  else (s, 0, false)

/-- A read of one word at an address of the register or the cell-memory range. -/
def State.readWord (s : State) (p : Port) (a : Nat) : State × Nat × Bool :=
  if a < 0x10000 then ((s.readReg p a).1, (s.readReg p a).2, false) else s.readCell a

end Sys2Proof.Machine
end

