-- ==== Sys2Proof/Machine/HostRows.lean ====
section
/-!
DEFINITION. The frames of the host and service ports, and what the ports do by themselves (R404 to R419).
-/

namespace Sys2Proof.Machine

/-- The bytes of a word, most significant first (R405). -/
def beBytes (w : Nat) : List Nat := (leBytes 4 w).reverse

/-- CRC-16 over the bytes of a request (R405). -/
def frameCrc (l : List Nat) : Nat := crc16 ((l.map (bitsMsb 8)).flatten)

/-- The bytes of a request before its CRC (R405). -/
def requestBytes (cmd len addr : Nat) (words : List Nat) : List Nat := cmd :: len :: beBytes addr ++ (words.map beBytes).flatten

/-- The bytes of a response (R407, R416): the status byte, the words and the poison mask of a READ, and the CRC-16 over them; the service
port begins with 0x5A. -/
def Reply.wire (r : Reply) (p : Port) : List Nat :=
  let l := r.status :: (r.words.map beBytes).flatten ++ leBytes ((r.words.length + 7) / 8) r.mask
  let c := frameCrc l
  (if p = .svc then [0x5A] else []) ++ l ++ [c / 256, c % 256]

/-- A frame with FRAMEERR (R408, R419): the host port records it. Log 61 (DEDUCED). -/
def State.frameErr (s : State) (p : Port) : State :=
  let t := if p = .host then (s.raise Reg.SYS_EVENT_FRAME_S).count Reg.SYS_HOST_CNT_FRAMEERR_CNT else s
  t.answer p stFRAMEERR [] 0

/-- A request whose CRC passes restarts the host-silence timer, also after an expiry (R414), or counts as a good service frame (R417). -/
def State.goodFrame' (s : State) (p : Port) : State :=
  match p with
  | .host => if s.host.silFrom.isSome || (s.armed && decide (s.fld Reg.SYS_HOST_CFG_SIL_MS ≠ 0)) then
      { s with host := { s.host with silFrom := some s.now } }
    else s
  | .svc => { s with host := { s.host with svcLast := s.now } }

/-- Whether an address lies in a host range (R409): registers, cell memories, DRAM window. -/
def inRegs (a : Nat) : Bool := decide (a < 0x10000)
def inCells (a : Nat) : Bool := decide (0x100000 ≤ a ∧ a < 0x200000)
def inWindow (a : Nat) : Bool := decide (0x10000000 ≤ a ∧ a < 0x20000000)

/-- Whether a burst leaves its register block, its cell window or the DRAM window (R409). -/
def burstLeaves (a n : Nat) : Bool :=
  let e := a + 4 * (n - 1)
  (inRegs a && e / 4096 != a / 4096) || (inCells a && e / 0x8000 != a / 0x8000) || (inWindow a && !inWindow e)

/-- The DRAM byte that a window address of a port reaches (R411). -/
def State.winByte (s : State) (p : Port) (a : Nat) : Nat :=
  0x10000000 * s.latchAt p Reg.SYS_DRAM_PAGE_PAGE.addr + (a - 0x10000000)

/-- Whether a window access of a word is a protection error (R147, R286, R301). -/
def State.winProt (s : State) (a : Nat) (write : Bool) : Bool :=
  let ok (b : Nat) := match s.translate 15 b write with
    | .ok _ => true
    | .error _ => false
  !s.on Reg.MEM_STATUS_INIT_DONE || !(ok a && ok (a + 3))
    || (write && decide (a < 0x400000) && s.slotLocked (a / 0x100000))

/-- Whether an access is a protection error (R408, R412). -/
def State.prot (s : State) (p : Port) (a : Nat) (write : Bool) : Bool :=
  if inWindow a then !s.answersAt a || s.winProt (s.winByte p a) write
  else !(inRegs a || inCells a) || !s.answersAt a

/-- A request that passes is carried out (R406): through the DRAM window as a request of the tracker, else word by word at once. No word
follows a reset. A write of the window under the other port's claim is refused (R417). -/
def State.serve (s : State) (p : Port) (write : Bool) (addrs : List Nat) (words : List Nat) : State :=
  if inWindow (addrs.headD 0) then
    (if write && !s.mayWrite p then (s.refuse p (addrs.getLastD 0)).answer p stREFUSED [] 0
     else (s.setPort p { s.port p with
       frame := some { write := write, addrs := addrs.map (s.winByte p), words := words, asked := s.now } }).winAccept p)
  else if write then
    let t := (addrs.zip words).foldl (fun u (x : Nat × Nat) => if u.marked markReset then u else u.writeWord p x.1 x.2)
      { s with refusedNow := false }
    if t.marked markReset then t else t.answer p (if t.refusedNow then stREFUSED else 0) [] 0
  else
    let r := addrs.foldl (fun (x : State × List Nat × List Bool) a =>
      let y := x.1.readWord p a
      (y.1, x.2.1 ++ [y.2.1], x.2.2 ++ [y.2.2])) (s, [], [])
    r.1.answer p (if r.2.2.any id then stPOISON else 0) r.2.1 (maskOf r.2.2)

/-- Whether the last frame of a port has been served (R416). -/
def State.portFree (s : State) (p : Port) : Bool := (s.port p).frame.isNone && (p != .svc || s.host.svcQ.isEmpty)

/-- A frame of a port acts at once, or waits behind a service frame that is in the tracker (R416); none reaches a die in reset (R420).
Log 136 (DEDUCED). -/
def State.frameCmd (s : State) (p : Port) (c : Instr) (body : State → State) : State :=
  if s.boot.held || s.marked markReset then s
  else if s.portFree p then body s
  else if p = .svc then { s with host := { s.host with svcQ := s.host.svcQ ++ [c] } }
  else s

/-- Whether a host frame is discarded with queue 38 (R281, R410): one that comes in the C-cycle of the queue's error. -/
def State.frameLost (s : State) (p : Port) : Bool := decide (p = .host) && s.queueClash 38

/-- A request of a port (R405, R408, R409): `fixed` sends every word to one address. Log 137 (DEDUCED). -/
def State.request (s : State) (p : Port) (write fixed : Bool) (addr n : Nat) (words : List Nat) (bytes : List Nat) (crc : Nat) : State :=
  if frameCrc bytes ≠ crc then s.frameErr p
  else
    let t := s.goodFrame' p
    let addrs := (List.range n).map fun i => if fixed then addr else addr + 4 * i
    if addr % 4 ≠ 0 ∨ (fixed = false ∧ burstLeaves addr n = true) then t.frameErr p
    else if t.frameLost p then t.abortFrame p
    else if addrs.any fun a => t.prot p a write then t.answer p stPROT [] 0
    else t.serve p write addrs words

/-- Whether a list of words fits a frame (R405). -/
def frameLen (words : List Word) : Bool := decide (1 ≤ words.length) && decide (words.length ≤ 64)

/-- A WRITE frame (R406). Log 137 (DEDUCED). -/
def State.hostWrite (s : State) (p : Port) (addr : Word) (words : List Word) (crc : BitVec 16) : State :=
  let l := words.map BitVec.toNat
  s.request p true false addr.toNat l.length l (requestBytes 2 (l.length - 1) addr.toNat l) crc.toNat

/-- A WRITE_FIXED frame (R406). -/
def State.hostWriteFixed (s : State) (p : Port) (addr : Word) (words : List Word) (crc : BitVec 16) : State :=
  let l := words.map BitVec.toNat
  s.request p true true addr.toNat l.length l (requestBytes 3 (l.length - 1) addr.toNat l) crc.toNat

/-- A READ frame (R406): `n` is LEN. -/
def State.hostRead (s : State) (p : Port) (addr : Word) (n : Nat) (crc : BitVec 16) : State :=
  s.request p false false addr.toNat (n + 1) [] (requestBytes 0x0B n addr.toNat []) crc.toNat

/-- HOST_WRITE (R406). Log 137 (DEDUCED), 138 (DESIGN CHOICE). -/
def execHostWrite (p : Port) (addr : Word) (words : List Word) (crc : BitVec 16) (s : State) : Host.Outcome State Fault Refusal :=
  if frameLen words then
    .next (s.inOrder (.hostWrite p addr words crc) (fun i => i.beforeFrame (.hostWrite p addr words crc)) fun t =>
      t.frameCmd p (.hostWrite p addr words crc) fun u => u.hostWrite p addr words crc)
  else .fault .illFormed

/-- HOST_WRITE_FIXED (R406). Log 138 (DESIGN CHOICE). -/
def execHostWriteFixed (p : Port) (addr : Word) (words : List Word) (crc : BitVec 16) (s : State) : Host.Outcome State Fault Refusal :=
  if frameLen words then
    .next (s.inOrder (.hostWriteFixed p addr words crc) (fun i => i.beforeFrame (.hostWriteFixed p addr words crc)) fun t =>
      t.frameCmd p (.hostWriteFixed p addr words crc) fun u => u.hostWriteFixed p addr words crc)
  else .fault .illFormed

/-- HOST_READ (R406): `n` is LEN. -/
def execHostRead (p : Port) (addr : Word) (n : Fin 64) (crc : BitVec 16) (s : State) : Host.Outcome State Fault Refusal :=
  .next (s.frameCmd p (.hostRead p addr n crc) fun t => t.hostRead p addr n crc)

/-- A NOP, or a request with a reserved CMD (R406, R408): LEN and ADDR of a NOP must be 0. Log 133 (DEDUCED). -/
def State.nop (s : State) (p : Port) (cmd len addr crc : Nat) : State :=
  if frameCrc (requestBytes cmd len addr []) ≠ crc then s.frameErr p
  else
    let t := s.goodFrame' p
    if cmd ≠ 5 ∨ len ≠ 0 ∨ addr ≠ 0 then t.frameErr p
    else if t.frameLost p then t.abortFrame p
    else t.answer p 0 [] 0

/-- Whether a command code is that of another frame (R406). -/
def otherCmd (c : Nat) : Bool := c == 2 || c == 3 || c == 0x0B

/-- HOST_NOP (R406), and the frames of reserved command codes. Log 137 (DEDUCED), 138 (DESIGN CHOICE). -/
def execHostNop (p : Port) (cmd len : BitVec 8) (addr : Word) (crc : BitVec 16) (s : State) : Host.Outcome State Fault Refusal :=
  if otherCmd cmd.toNat then .fault .illFormed
  else .next (s.frameCmd p (.hostNop p cmd len addr crc) fun t => t.nop p cmd.toNat len.toNat addr.toNat crc.toNat)

/-- FRAME_CUT_SHORT (R410): HCS_N rises before the request CRC ends, or (`abandoned`) after it and before the status byte of the response
that is then still to come. -/
def State.cutShort (s : State) (abandoned : Bool) : State :=
  if s.boot.held then s
  else if abandoned then
    let r := s.port .host
    if r.reply.isNone && !r.frame.any fun f => !f.silent then s
    else (s.setPort .host { reply := none, frame := r.frame.map fun f => { f with silent := true } }).count Reg.SYS_HOST_CNT_ABANDON_CNT
  else (s.raise Reg.SYS_EVENT_FRAME_S).count Reg.SYS_HOST_CNT_FRAMEERR_CNT

def execFrameCutShort (abandoned : Bool) (s : State) : Host.Outcome State Fault Refusal := .next (s.cutShort abandoned)

/-- HOST_DRAM_REQUEST_TIMEOUT (R410): 100 µs without tracker entries. -/
def State.winTimeout (s : State) (p : Port) : State :=
  match (s.port p).frame, (s.dch (portReq p)).flight with
  | some f, none =>
    if f.asked + usCycles 100 ≤ s.now then s.winLost p else s
  | _, _ => s

def execHostDramRequestTimeout (p : Port) (s : State) : Host.Outcome State Fault Refusal := .next (s.winTimeout p)

/-- SIL_ACT runs (R414): in a STANDBY twin nothing does (R353). -/
def State.silAct (s : State) : State :=
  if s.role = roleSTANDBY then s
  else match s.fld Reg.SYS_HOST_CFG_SIL_ACT with
    | 1 => forIdx 8 (fun g t => if t.on (Reg.GFM_CTRL_EN g) then (t.setFld (Reg.GFM_PSET g) 0).setFld (Reg.GFM_QSET g) 0 else t) s
    | 2 => forIdx 8 (fun g t => if t.on (Reg.GFM_CTRL_EN g) then t.beginStop g else t) s
    | _ => s

/-- The silence timer ends (R414); in a STANDBY twin the record alone is made. -/
def State.silExpiry (s : State) : State :=
  match s.host.silFrom with
  | none => s
  | some t =>
    if t + msCycles (s.fld Reg.SYS_HOST_CFG_SIL_MS) ≤ s.now then
      let u := { s.raise Reg.SYS_EVENT_HOSTSIL_S with host := { s.host with silFrom := none } }
      (if u.fld Reg.SYS_PORT_OWNER = 1 ∧ u.role ≠ roleSTANDBY then u.setFld Reg.SYS_PORT_OWNER 0 else u).silAct
    else s

/-- HOST_SILENCE_EXPIRY (R414): after the host frames of its C-cycle, which restart the timer. -/
def execHostSilenceExpiry (s : State) : Host.Outcome State Fault Refusal :=
  .next (s.inOrder .hostSilenceExpiry Instr.hostFrame State.silExpiry)

/-- SERVICE_REQUEST_TIMEOUT (R416). -/
def execServiceRequestTimeout (s : State) : Host.Outcome State Fault Refusal :=
  .next (if s.boot.held then s else (s.raise Reg.SYS_EVENT_SVCERR_S).count Reg.SYS_SVC_CNT_SVCERR_CNT)

/-- PORT_CLAIM (R417): a write of SYS_PORT.OWNER. -/
def execPortClaim (p : Port) (o : Fin 4) (s : State) : Host.Outcome State Fault Refusal :=
  .next (s.portCmd (.portClaim p o) p Reg.SYS_PORT_OWNER.addr fun t => t.portClaim p o)

/-- SERVICE_CLAIM_LAPSE (R417): 10 s without a good service frame. -/
def execServiceClaimLapse (s : State) : Host.Outcome State Fault Refusal :=
  .next (if s.fld Reg.SYS_PORT_OWNER = 2 ∧ s.host.svcLast + msCycles 10000 ≤ s.now then s.setFld Reg.SYS_PORT_OWNER 0 else s)

/-- A read of one word by a port, with its response (R407): PROT where the address does not answer (R412). -/
def State.readOne (s : State) (p : Port) (a : Nat) : State :=
  if !s.answersAt a then s.answer p stPROT [] 0
  else
    let x := s.readWord p a
    x.1.answer p 0 [x.2.1] 0

/-- CHART_LO_READ (R11). -/
def execChartLoRead (p : Port) (s : State) : Host.Outcome State Fault Refusal :=
  .next (s.frameCmd p (.chartLoRead p) fun t => t.readOne p Reg.SYS_CHART_LO.addr)

/-- SNAP_LO_READ (R55). -/
def execSnapLoRead (p : Port) (g : Fin 8) (s : State) : Host.Outcome State Fault Refusal :=
  .next (s.frameCmd p (.snapLoRead p g) fun t => t.readOne p (Reg.GFM_SNAP_LO g).addr)

/-- RTC_LO_READ (R393). -/
def execRtcLoRead (p : Port) (s : State) : Host.Outcome State Fault Refusal :=
  .next (s.frameCmd p (.rtcLoRead p) fun t => t.readOne p Reg.SEC_RTC_LO.addr)

/-- E_EXP_LO_READ (R403). -/
def execEExpLoRead (p : Port) (g : Fin 8) (s : State) : Host.Outcome State Fault Refusal :=
  .next (s.frameCmd p (.eExpLoRead p g) fun t => t.readOne p (Reg.SEC_TALLY_G_E_EXP_LO g).addr)

/-- What a frame that has waited does (R416). -/
def State.frameBody (s : State) (c : Instr) : State :=
  match c with
  | .hostWrite p a l crc => s.hostWrite p a l crc
  | .hostWriteFixed p a l crc => s.hostWriteFixed p a l crc
  | .hostRead p a n crc => s.hostRead p a n crc
  | .hostNop p cmd len addr crc => s.nop p cmd.toNat len.toNat addr.toNat crc.toNat
  | .chartLoRead p => s.readOne p Reg.SYS_CHART_LO.addr
  | .snapLoRead p g => s.readOne p (Reg.GFM_SNAP_LO g).addr
  | .rtcLoRead p => s.readOne p Reg.SEC_RTC_LO.addr
  | .eExpLoRead p g => s.readOne p (Reg.SEC_TALLY_G_E_EXP_LO g).addr
  | _ => s

/-- The oldest service frame that waits is served as the one before it has been (R416): in order, one at a time. Log 136 (DEDUCED). -/
def State.svcNext (s : State) : State :=
  match s.host.svcQ with
  | [] => s
  | c :: l => if (s.port .svc).frame.isSome then s else { s with host := { s.host with svcQ := l } }.frameBody c

end Sys2Proof.Machine
end

