-- ==== Sys2Proof/Machine/Dispatch.lean ====
section
/-!
DEFINITION. The meaning of each command, one arm per constructor.
-/

namespace Sys2Proof.Machine

def exec (i : Instr) (s : State) : Host.Outcome State Fault Refusal :=
  match i with
  | .registerWrite p a v => Sys2Proof.Machine.execRegisterWrite p a v s
  | .chartLoRead p => Sys2Proof.Machine.execChartLoRead p s
  | .snapLoRead p g => Sys2Proof.Machine.execSnapLoRead p g s
  | .rtcLoRead p => Sys2Proof.Machine.execRtcLoRead p s
  | .eExpLoRead p g => Sys2Proof.Machine.execEExpLoRead p g s
  | .expertCellWrite p o w => Sys2Proof.Machine.execExpertCellWrite p o w s
  | .converterResultItem c parity => Sys2Proof.Machine.execConverterResultItem c parity s
  | .dlinkClockLoss d => Sys2Proof.Machine.execDlinkClockLoss d s
  | .drvenLow d => Sys2Proof.Machine.execDrvenLow d s
  | .drvenRise d link hot => Sys2Proof.Machine.execDrvenRise d link hot s
  | .updatePoint unit => Sys2Proof.Machine.execUpdatePoint unit s
  | .carrierOrigin => Sys2Proof.Machine.execCarrierOrigin s
  | .rotorTick g m => Sys2Proof.Machine.execRotorTick g m s
  | .ilimShortTermExpiry g => Sys2Proof.Machine.execIlimShortTermExpiry g s
  | .ilimRestore g => Sys2Proof.Machine.execIlimRestore g s
  | .dcBusLowTimeout g => Sys2Proof.Machine.execDcBusLowTimeout g s
  | .zeroVoltageTimeout g => Sys2Proof.Machine.execZeroVoltageTimeout g s
  | .rideTimeout g => Sys2Proof.Machine.execRideTimeout g s
  | .rideExit g => Sys2Proof.Machine.execRideExit g s
  | .blackStartFluxTimeout g => Sys2Proof.Machine.execBlackStartFluxTimeout g s
  | .blackStartSettled g => Sys2Proof.Machine.execBlackStartSettled g s
  | .gridReturned g => Sys2Proof.Machine.execGridReturned g s
  | .syncCloseAssert g => Sys2Proof.Machine.execSyncCloseAssert g s
  | .syncClosePulseEnd g => Sys2Proof.Machine.execSyncClosePulseEnd g s
  | .closeWaitTimeout g => Sys2Proof.Machine.execCloseWaitTimeout g s
  | .breakerStateChange g => Sys2Proof.Machine.execBreakerStateChange g s
  | .stopWaitTimeout g => Sys2Proof.Machine.execStopWaitTimeout g s
  | .stopLegsOff g => Sys2Proof.Machine.execStopLegsOff g s
  | .groupStart p g => Sys2Proof.Machine.execGroupStart p g s
  | .groupStop p g => Sys2Proof.Machine.execGroupStop p g s
  | .setpointWrite p g k v => Sys2Proof.Machine.execSetpointWrite p g k v s
  | .secOffsetWrite p g dv v => Sys2Proof.Machine.execSecOffsetWrite p g dv v s
  | .syncArm p g => Sys2Proof.Machine.execSyncArm p g s
  | .syncDisarm p g => Sys2Proof.Machine.execSyncDisarm p g s
  | .grtTimerTick k => Sys2Proof.Machine.execGrtTimerTick k s
  | .grtKick p n => Sys2Proof.Machine.execGrtKick p n s
  | .contextDispatch c => Sys2Proof.Machine.execContextDispatch c s
  | .contextPreempt c => Sys2Proof.Machine.execContextPreempt c s
  | .deadlineExpiry n => Sys2Proof.Machine.execDeadlineExpiry n s
  | .triggerWatchdog n => Sys2Proof.Machine.execTriggerWatchdog n s
  | .contextEnable p n => Sys2Proof.Machine.execContextEnable p n s
  | .contextDisable p n => Sys2Proof.Machine.execContextDisable p n s
  | .opNop c => Sys2Proof.Machine.execNop c s
  | .opLdc c => Sys2Proof.Machine.execLdc c s
  | .opLds c => Sys2Proof.Machine.execLds c s
  | .opSts c => Sys2Proof.Machine.execSts c s
  | .opIn c => Sys2Proof.Machine.execIn c s
  | .opOut c => Sys2Proof.Machine.execOut c s
  | .opAdd c => Sys2Proof.Machine.execAdd c s
  | .opSub c => Sys2Proof.Machine.execSub c s
  | .opNeg c => Sys2Proof.Machine.execNeg c s
  | .opAbs c => Sys2Proof.Machine.execAbs c s
  | .opMin c => Sys2Proof.Machine.execMin c s
  | .opMax c => Sys2Proof.Machine.execMax c s
  | .opLimit c => Sys2Proof.Machine.execLimit c s
  | .opSel c => Sys2Proof.Machine.execSel c s
  | .opShift c => Sys2Proof.Machine.execShift c s
  | .opClr c => Sys2Proof.Machine.execClr c s
  | .opMul c => Sys2Proof.Machine.execMul c s
  | .opMac c => Sys2Proof.Machine.execMac c s
  | .opMsu c => Sys2Proof.Machine.execMsu c s
  | .opMac2 c => Sys2Proof.Machine.execMac2 c s
  | .opMulc c => Sys2Proof.Machine.execMulc c s
  | .opMacc c => Sys2Proof.Machine.execMacc c s
  | .opMsuc c => Sys2Proof.Machine.execMsuc c s
  | .opMacc2 c => Sys2Proof.Machine.execMacc2 c s
  | .opRnd c => Sys2Proof.Machine.execRnd c s
  | .opWrap c => Sys2Proof.Machine.execWrap c s
  | .opSincos c => Sys2Proof.Machine.execSincos c s
  | .opDiv c => Sys2Proof.Machine.execDiv c s
  | .opSqrt c => Sys2Proof.Machine.execSqrt c s
  | .opRep c => Sys2Proof.Machine.execRep c s
  | .opFlag c => Sys2Proof.Machine.execFlag c s
  | .opFetch c => Sys2Proof.Machine.execFetch c s
  | .opWaitf c => Sys2Proof.Machine.execWaitf c s
  | .opEnd c => Sys2Proof.Machine.execEnd c s
  | .fetchComplete c => Sys2Proof.Machine.execFetchComplete c s
  | .eccWriteback c m stg ix => Sys2Proof.Machine.execEccWriteback c m stg ix s
  | .mirrorRepair c bun stg ix poisoned => Sys2Proof.Machine.execMirrorRepair c bun stg ix poisoned s
  | .cellSweepRead c m stg ix => Sys2Proof.Machine.execCellSweepRead c m stg ix s
  | .imageVerify p slot => Sys2Proof.Machine.execImageVerify p slot s
  | .imageVerifyDone => Sys2Proof.Machine.execImageVerifyDone s
  | .imageDiscard p => Sys2Proof.Machine.execImageDiscard p s
  | .swapComplete => Sys2Proof.Machine.execSwapComplete s
  | .survey p => Sys2Proof.Machine.execSurvey p s
  | .commitGo p => Sys2Proof.Machine.execCommitGo p s
  | .surveyDone => Sys2Proof.Machine.execSurveyDone s
  | .draftDiscard p => Sys2Proof.Machine.execDraftDiscard p s
  | .cdraftAppend p w => Sys2Proof.Machine.execCdraftAppend p w s
  | .cdraftClear p => Sys2Proof.Machine.execCdraftClear p s
  | .commitApply => Sys2Proof.Machine.execCommitApply s
  | .commitDomainApply d => Sys2Proof.Machine.execCommitDomainApply d s
  | .commitDmaTimeout => Sys2Proof.Machine.execCommitDmaTimeout s
  | .scheduleStart c => Sys2Proof.Machine.execScheduleStart c s
  | .injectRequest p m => Sys2Proof.Machine.execInjectRequest p m s
  | .injectedStart c => Sys2Proof.Machine.execInjectedStart c s
  | .conversionComplete c x => Sys2Proof.Machine.execConversionComplete c x s
  | .calZero p ix n => Sys2Proof.Machine.execCalZero p ix n s
  | .calSpan p ix n => Sys2Proof.Machine.execCalSpan p ix n s
  | .calMeasureDone => Sys2Proof.Machine.execCalMeasureDone s
  | .calCompute p ix n => Sys2Proof.Machine.execCalCompute p ix n s
  | .polarityCheck p ix kind ref w => Sys2Proof.Machine.execPolarityCheck p ix kind ref w s
  | .polarityDone => Sys2Proof.Machine.execPolarityDone s
  | .softwareTrip p m => Sys2Proof.Machine.execSoftwareTrip p m s
  | .tripSourceLatch k on => Sys2Proof.Machine.execTripSourceLatch k on s
  | .tripClear p k m => Sys2Proof.Machine.execTripClear p k m s
  | .gateTurnOn n high clear => Sys2Proof.Machine.execGateTurnOn n high clear s
  | .gateConfirmed n high => Sys2Proof.Machine.execGateConfirmed n high s
  | .gateConfirmTimeout n high => Sys2Proof.Machine.execGateConfirmTimeout n high s
  | .gateLowTimeout n high => Sys2Proof.Machine.execGateLowTimeout n high s
  | .bootstrapUnlock n => Sys2Proof.Machine.execBootstrapUnlock n s
  | .bsuvTimeout n => Sys2Proof.Machine.execBsuvTimeout n s
  | .swEdgeMeasured n rising q => Sys2Proof.Machine.execSwEdgeMeasured n rising q s
  | .adaptStep n k => Sys2Proof.Machine.execAdaptStep n k s
  | .shortCircuit n on => Sys2Proof.Machine.execShortCircuit n on s
  | .drvVuv d => Sys2Proof.Machine.execDrvVuv d s
  | .drvOt d => Sys2Proof.Machine.execDrvOt d s
  | .legRelease n => Sys2Proof.Machine.execLegRelease n s
  | .referenceLoss refKhz kKhz => Sys2Proof.Machine.execReferenceLoss refKhz kKhz s
  | .referenceValid refKhz kKhz => Sys2Proof.Machine.execReferenceValid refKhz kKhz s
  | .pllLossOfLock p byRef => Sys2Proof.Machine.execPllLossOfLock p byRef s
  | .pllLock p band coarse temp => Sys2Proof.Machine.execPllLock p band coarse temp s
  | .fastHopTimeout p temp => Sys2Proof.Machine.execFastHopTimeout p temp s
  | .holdoverExpiry => Sys2Proof.Machine.execHoldoverExpiry s
  | .domainASwitchover => Sys2Proof.Machine.execDomainASwitchover s
  | .domainASwitchback => Sys2Proof.Machine.execDomainASwitchback s
  | .memSelfRefreshEntry => Sys2Proof.Machine.execMemSelfRefreshEntry s
  | .memSelfRefreshExit => Sys2Proof.Machine.execMemSelfRefreshExit s
  | .spreadStep => Sys2Proof.Machine.execSpreadStep s
  | .spreadProfileRestart => Sys2Proof.Machine.execSpreadProfileRestart s
  | .bandTableClear p => Sys2Proof.Machine.execBandTableClear p s
  | .queueError q lost => Sys2Proof.Machine.execQueueError q lost s
  | .memInitDone lost => Sys2Proof.Machine.execMemInitDone lost s
  | .dieCeWindow => Sys2Proof.Machine.execDieCeWindow s
  | .dieMark p d => Sys2Proof.Machine.execDieMark p d s
  | .dieUnmark p => Sys2Proof.Machine.execDieUnmark p s
  | .scrubRead => Sys2Proof.Machine.execScrubRead s
  | .errataAdd p b => Sys2Proof.Machine.execErrataAdd p b s
  | .errataRemove p b => Sys2Proof.Machine.execErrataRemove p b s
  | .errataMoveDone => Sys2Proof.Machine.execErrataMoveDone s
  | .checkerInject p => Sys2Proof.Machine.execCheckerInject p s
  | .checkerInjectDone => Sys2Proof.Machine.execCheckerInjectDone s
  | .dmaRequestAccept r => Sys2Proof.Machine.execDmaRequestAccept r s
  | .dmaRequestComplete r => Sys2Proof.Machine.execDmaRequestComplete r s
  | .dmaTimeout c => Sys2Proof.Machine.execDmaTimeout c s
  | .copyStart p c => Sys2Proof.Machine.execCopyStart p c s
  | .copyDescriptorDone c => Sys2Proof.Machine.execCopyDescriptorDone c s
  | .dmaResume p c => Sys2Proof.Machine.execDmaResume p c s
  | .dmaAutoResume c => Sys2Proof.Machine.execDmaAutoResume c s
  | .streamRecordWrite c => Sys2Proof.Machine.execStreamRecordWrite c s
  | .envelopeWindowEnd => Sys2Proof.Machine.execEnvelopeWindowEnd s
  | .seqWithinTimeout k => Sys2Proof.Machine.execSeqWithinTimeout k s
  | .seqHoldOccurrence k => Sys2Proof.Machine.execSeqHoldOccurrence k s
  | .recorderArm p k => Sys2Proof.Machine.execRecorderArm p k s
  | .recorderForce p k => Sys2Proof.Machine.execRecorderForce p k s
  | .recorderPostEnd k => Sys2Proof.Machine.execRecorderPostEnd k s
  | .recorderMeasureStart k => Sys2Proof.Machine.execRecorderMeasureStart k s
  | .recorderMeasureDone k => Sys2Proof.Machine.execRecorderMeasureDone k s
  | .injectionUpdate g => Sys2Proof.Machine.execInjectionUpdate g s
  | .burstStart g => Sys2Proof.Machine.execBurstStart g s
  | .burstEnd g => Sys2Proof.Machine.execBurstEnd g s
  | .soundingFit g => Sys2Proof.Machine.execSoundingFit g s
  | .retuneApply g => Sys2Proof.Machine.execRetuneApply g s
  | .tuneStart p g => Sys2Proof.Machine.execTuneStart p g s
  | .tuneEnd g => Sys2Proof.Machine.execTuneEnd g s
  | .tuneAbort p g => Sys2Proof.Machine.execTuneAbort p g s
  | .bearingFrameReceived g w => Sys2Proof.Machine.execBearingFrameReceived g w s
  | .bearingTxGo p g => Sys2Proof.Machine.execBearingTxGo p g s
  | .bearingTxCancel p g => Sys2Proof.Machine.execBearingTxCancel p g s
  | .bearingTxStart g => Sys2Proof.Machine.execBearingTxStart g s
  | .bearingTxDone g => Sys2Proof.Machine.execBearingTxDone g s
  | .bearingAckSend g => Sys2Proof.Machine.execBearingAckSend g s
  | .bearingAckTimeout g => Sys2Proof.Machine.execBearingAckTimeout g s
  | .bearingStatePeriod g => Sys2Proof.Machine.execBearingStatePeriod g s
  | .leaderEvaluation g => Sys2Proof.Machine.execLeaderEvaluation g s
  | .leaderOffsetApply g => Sys2Proof.Machine.execLeaderOffsetApply g s
  | .twinFrameCut delay frac => Sys2Proof.Machine.execTwinFrameCut delay frac s
  | .twinFrameReceived words comma frac => Sys2Proof.Machine.execTwinFrameReceived words comma frac s
  | .heartbeatExpiry => Sys2Proof.Machine.execHeartbeatExpiry s
  | .twinActOneshotExpiry => Sys2Proof.Machine.execTwinActOneshotExpiry s
  | .peerWaitTimeout => Sys2Proof.Machine.execPeerWaitTimeout s
  | .activeSettleEnd => Sys2Proof.Machine.execActiveSettleEnd s
  | .handoverRequest p => Sys2Proof.Machine.execHandoverRequest p s
  | .handoverCancel => Sys2Proof.Machine.execHandoverCancel s
  | .handoverEdge n => Sys2Proof.Machine.execHandoverEdge n s
  | .handoverForcedEdge n => Sys2Proof.Machine.execHandoverForcedEdge n s
  | .safeInputChange pin high => Sys2Proof.Machine.execSafeInputChange pin high s
  | .safeDemand ix => Sys2Proof.Machine.execSafeDemand ix s
  | .discrepancyFault => Sys2Proof.Machine.execDiscrepancyFault s
  | .feedbackFault => Sys2Proof.Machine.execFeedbackFault s
  | .nodeCheckFault k => Sys2Proof.Machine.execNodeCheckFault k s
  | .coilTestRun => Sys2Proof.Machine.execCoilTestRun s
  | .coilTestEnd pass => Sys2Proof.Machine.execCoilTestEnd pass s
  | .sdcReset p => Sys2Proof.Machine.execSdcReset p s
  | .sdcClockCheck n => Sys2Proof.Machine.execSdcClockCheck n s
  | .sdcParamCheck ch upset => Sys2Proof.Machine.execSdcParamCheck ch upset s
  | .unconfirmedRunExpiry => Sys2Proof.Machine.execUnconfirmedRunExpiry s
  | .provision p bad => Sys2Proof.Machine.execProvision p bad s
  | .revoke p bad => Sys2Proof.Machine.execRevoke p bad s
  | .advance p bad => Sys2Proof.Machine.execAdvance p bad s
  | .clearTamper p => Sys2Proof.Machine.execClearTamper p s
  | .patchLoad p => Sys2Proof.Machine.execPatchLoad p s
  | .attestReport p => Sys2Proof.Machine.execAttestReport p s
  | .rtcSet p => Sys2Proof.Machine.execRtcSet p s
  | .rtcTrimApply => Sys2Proof.Machine.execRtcTrimApply s
  | .tamperSample pins => Sys2Proof.Machine.execTamperSample pins s
  | .vbatLow low => Sys2Proof.Machine.execVbatLow low s
  | .tallyRetentionCopy => Sys2Proof.Machine.execTallyRetentionCopy s
  | .tallyPeriodicDue => Sys2Proof.Machine.execTallyPeriodicDue s
  | .sealNow p => Sys2Proof.Machine.execSealNow p s
  | .tallySeal => Sys2Proof.Machine.execTallySeal s
  | .hostWrite p addr words crc => Sys2Proof.Machine.execHostWrite p addr words crc s
  | .hostWriteFixed p addr words crc => Sys2Proof.Machine.execHostWriteFixed p addr words crc s
  | .hostNop p cmd len addr crc => Sys2Proof.Machine.execHostNop p cmd len addr crc s
  | .hostRead p addr n crc => Sys2Proof.Machine.execHostRead p addr n crc s
  | .frameCutShort abandoned => Sys2Proof.Machine.execFrameCutShort abandoned s
  | .hostDramRequestTimeout p => Sys2Proof.Machine.execHostDramRequestTimeout p s
  | .hostSilenceExpiry => Sys2Proof.Machine.execHostSilenceExpiry s
  | .serviceRequestTimeout => Sys2Proof.Machine.execServiceRequestTimeout s
  | .portClaim p o => Sys2Proof.Machine.execPortClaim p o s
  | .serviceClaimLapse => Sys2Proof.Machine.execServiceClaimLapse s
  | .powerOnReset => Sys2Proof.Machine.execPowerOnReset s
  | .warmReset p key => Sys2Proof.Machine.execWarmReset p key s
  | .watchdogReset => Sys2Proof.Machine.execWatchdogReset s
  | .bootPhaseComplete => Sys2Proof.Machine.execBootPhaseComplete s
  | .bootPhaseTimeout f => Sys2Proof.Machine.execBootPhaseTimeout f s
  | .bootStart p slot => Sys2Proof.Machine.execBootStart p slot s
  | .armingComplete => Sys2Proof.Machine.execArmingComplete s
  | .standbyEnter p => Sys2Proof.Machine.execStandbyEnter p s
  | .standbyCancel p => Sys2Proof.Machine.execStandbyCancel p s
  | .wakeAlarm => Sys2Proof.Machine.execWakeAlarm s
  | .powerOnResetRelease strap xtal retOk => Sys2Proof.Machine.execPowerOnResetRelease strap xtal retOk s
  | .islandPowerUp => Sys2Proof.Machine.execIslandPowerUp s
  | .drvSupplyRise d => Sys2Proof.Machine.execDrvSupplyRise d s
  | .bootstrapLock n => Sys2Proof.Machine.execBootstrapLock n s
  | .gateTurnOff n high => Sys2Proof.Machine.execGateTurnOff n high s
  | .twinActLineChange high => Sys2Proof.Machine.execTwinActLineChange high s
  | .bearingSyncDetected g => Sys2Proof.Machine.execBearingSyncDetected g s
  | .polaritySample => Sys2Proof.Machine.execPolaritySample s

end Sys2Proof.Machine
end

