-- ==== Sys2Proof/Machine/TickOps.lean ====
section
/-!
DEFINITION. One C-cycle of the block, which passes when no command waits: the counts that run with the clock, the carriers' period
starts and the gate edges that fall due. No command of the table is the passing of time.
-/

namespace Sys2Proof.Machine

/-- C-cycles of one second at the nominal frequency. -/
def secondCycles : Nat := 400000000

/-- The island through one C-cycle (R393): the RTC counts 32,768 to the second, in 55 bits. Log 1 (DESIGN CHOICE), 68 (PRESUMED). -/
def State.islandTick (s : State) : State :=
  let f := s.boot.frac + 32768
  if secondCycles ≤ f then
    { s with boot := { s.boot with frac := f - secondCycles }, sec := { s.sec with rtc := (s.sec.rtc + 1) % 2 ^ 55, scyc := s.sec.scyc + 1 } }
  else { s with boot := { s.boot with frac := f } }

/-- The time that the boot waits for a reference (R422). Log 68 (PRESUMED). -/
def State.refWait (s : State) : State :=
  if s.phase = pCLOCKS ∧ s.on Reg.CLK_STATUS_REF_OK = false then { s with boot := { s.boot with waited := s.boot.waited + 1 } } else s

/-- A new C-cycle begins: what held for the cycle before alone is forgotten (R16, R17, R174, R225, R418, R434). Log 1 (DESIGN CHOICE). -/
def State.clearCycle (s : State) : State :=
  { s with
    evNow := [], wrNow := [], refusedNow := false, expertStart := s.on Reg.SYS_CTRL_EXPERT_EN
    eng := { s.eng with stsNow := [], expNow := [] }
    trp := { s.trp with live := s.trp.live.filter fun k => decide (k < 80) } }

/-- Chart time (R10) and the real-time count (R121) advance. Log 1 (DESIGN CHOICE), 68 (PRESUMED). -/
def State.passCycle (s : State) : State :=
  { s with chart := s.chart + 1, eng := { s.eng with real := s.eng.real + s.eng.rho } }

/-- One C-cycle. While POWER_ON holds the die, the island alone runs. Log 1 (DESIGN CHOICE). -/
def State.tick (s : State) : State :=
  if s.boot.held then { s with boot := { s.boot with heldFor := s.boot.heldFor + 1 } }.islandTick
  else (((((s.noteDrain.refWait.passCycle).clearCycle.islandTick).takePwm).runEdges).holdSinks.noteDigests).loadNext.secNext.svcNext.logNext

end Sys2Proof.Machine
end

