-- ==== Sys2Proof/WellFormed.lean ====
section
/-!
DEFINITION. Which commands can come from outside: those whose operands spell a frame of R405 and R406. Every other check is a
range that the operand's type carries.
-/

namespace Sys2Proof

/-- The words of a WRITE frame: LEN is the number of words less one, 0 to 63 (R405). -/
def frameWords (l : List Word) : Bool := decide (1 ≤ l.length) && decide (l.length ≤ 64)

/-- The command codes of WRITE, WRITE_FIXED and READ (R406), which have rows of their own. -/
def rowOfOwn (cmd : BitVec 8) : Bool := cmd == 0x02#8 || cmd == 0x03#8 || cmd == 0x0B#8

/-- The check of a command that has one. -/
def Instr.frameCheck : Instr → Bool
  | .hostWrite _ _ words _ => frameWords words
  | .hostWriteFixed _ _ words _ => frameWords words
  | .hostNop _ cmd _ _ _ => !rowOfOwn cmd
  | _ => true

/-- A command is well formed. Log 138 (DESIGN CHOICE). -/
def WellFormed (i : Instr) : Prop := i.frameCheck = true

end Sys2Proof
end

