-- ==== Sys2Proof/Machine/Step.lean ====
section
/-!
DEFINITION. One step: the command at the front of the queue acts, and on an empty queue one C-cycle passes.
-/

namespace Sys2Proof.Machine

def step (s : State) : Host.Outcome State Fault Refusal :=
  match s.pending, s.later with
  | c :: l, _ => exec c { s with pending := l }
  | [], c :: l => exec c { s with later := l }
  | [], [] => .next s.tick

/-- The state with a command in front of its queue. Log 2 (DESIGN CHOICE). -/
def State.queueFirst (s : State) (c : Instr) : State := { s with pending := c :: s.pending }

def State.withFetchWord (s : State) (nbits w : Nat) : State :=
  match decodeTableWord nbits w with
  | none => s
  | some c => s.queueFirst c

end Sys2Proof.Machine
end

