-- ==== Sys2Proof/Safety.lean ====
section
/-!
DEFINITION. What counts as a safe run, and the terms in which claims are stated: the commands that wait are well formed, the tables
keep their canonical form, and the parts of the machine that a command leaves alone.
-/

namespace Sys2Proof.Machine

/-- Every command that waits, in the queue or put off, spells something that can come from outside. -/
def State.QueueOk (s : State) : Prop := ∀ c ∈ s.pending ++ s.later, WellFormed c

/-- The register fields in their one form: rising keys, and in effect no entry that equals its reset value (R438). -/
def RegFile.canonical (r : RegFile) : Bool :=
  (tabRises r.eff && r.eff.all fun e => decide (e.2 ≠ resetOf e.1)) && (tabRises r.com && tabRises r.shadow)

/-- The DRAM in its one form: rising addresses and no byte that an unlisted address reads as (R286); the check patterns alike. -/
def MemRun.wf (m : MemRun) : Bool := tabWf 0 m.dram && tabWf 0 m.flips

/-- Equal contents are equal data: register fields, latches and memory stand in their one form. -/
def State.canonical (s : State) : Bool := s.regs.canonical && tabWf 0 s.latch && s.mem.wf

/-- The parts of the machine beside its queue and what holds for one C-cycle alone. -/
inductive Part
  | regs | drafts | chart | latch | grid | eng | stg | clk | adc | pwm | drv | trp | ctr | mem | twn | sec | snd | sdc | host | boot
  deriving DecidableEq, Repr

/-- Two states agree on a part. -/
def Part.same (p : Part) (s t : State) : Prop :=
  match p with
  | .regs => t.regs.eff = s.regs.eff
  | .drafts => t.regs.com = s.regs.com ∧ t.regs.shadow = s.regs.shadow
  | .chart => t.chart = s.chart
  | .latch => t.latch = s.latch
  | .grid => t.grid = s.grid
  | .eng => t.eng = s.eng
  | .stg => t.stg = s.stg
  | .clk => t.clk = s.clk
  | .adc => t.adc = s.adc
  | .pwm => t.pwm = s.pwm
  | .drv => t.drv = s.drv
  | .trp => t.trp = s.trp
  | .ctr => t.ctr = s.ctr
  | .mem => t.mem = s.mem
  | .twn => t.twn = s.twn
  | .sec => t.sec = s.sec
  | .snd => t.snd = s.snd
  | .sdc => t.sdc = s.sdc
  | .host => t.host = s.host
  | .boot => t.boot = s.boot

/-- `t` follows from `s` by changes within some parts: the queue is as it was, the canonical form is kept, and every other part is
as it was. -/
structure Within (ps : List Part) (s t : State) : Prop where
  queue : t.pending = s.pending
  form : s.canonical = true → t.canonical = true
  frame : ∀ p, p ∉ ps → p.same s t

/-- The parts of the machine that a command may change, at most: every other part stays as it is when the command answers a next
state. -/
def reach : Instr → List Part
  | .carrierOrigin
    => [.pwm]
  | .ilimShortTermExpiry _ | .syncClosePulseEnd _ | .stopWaitTimeout _
    => [.grid]
  | .setpointWrite _ _ _ _ | .secOffsetWrite _ _ _ _ | .syncArm _ _ | .imageVerify _ _ | .domainASwitchover | .bandTableClear _
  | .dieMark _ _ | .dieUnmark _ | .recorderMeasureStart _ | .injectionUpdate _ | .serviceRequestTimeout | .serviceClaimLapse
    => [.regs]
  | .contextPreempt _ | .eccWriteback _ _ _ _
    => [.eng]
  | .injectedStart _ | .polaritySample
    => [.adc]
  | .bootstrapUnlock _
    => [.drv]
  | .recorderPostEnd _
    => [.ctr]
  | .coilTestRun
    => [.sdc]
  | .rtcTrimApply | .tallyRetentionCopy | .tallyPeriodicDue
    => [.sec]
  | .drvenLow _ | .gateConfirmed _ _ | .swEdgeMeasured _ _ _ | .adaptStep _ _ | .legRelease _ | .drvSupplyRise _
  | .bootstrapLock _
    => [.regs, .drv]
  | .ilimRestore _ | .syncCloseAssert _ | .closeWaitTimeout _
    => [.regs, .grid]
  | .contextEnable _ _ | .contextDisable _ _ | .cellSweepRead _ _ _ _
    => [.regs, .eng]
  | .fetchComplete _
    => [.eng, .mem]
  | .imageDiscard _ | .survey _ | .commitGo _ | .cdraftAppend _ _ | .cdraftClear _ | .commitDmaTimeout
    => [.regs, .stg]
  | .scheduleStart _ | .injectRequest _ _ | .conversionComplete _ _ | .calZero _ _ _ | .calSpan _ _ _ | .calMeasureDone
  | .polarityCheck _ _ _ _ _ | .polarityDone | .domainASwitchback
    => [.regs, .adc]
  | .referenceValid _ _
    => [.regs, .clk]
  | .memSelfRefreshEntry | .memSelfRefreshExit | .memInitDone _ | .dieCeWindow | .scrubRead | .errataAdd _ _
  | .errataRemove _ _ | .errataMoveDone | .checkerInject _ | .checkerInjectDone | .copyStart _ _ | .copyDescriptorDone _
  | .dmaResume _ _ | .dmaAutoResume _ | .streamRecordWrite _
    => [.regs, .mem]
  | .envelopeWindowEnd | .seqWithinTimeout _ | .seqHoldOccurrence _ | .recorderArm _ _ | .recorderForce _ _
    => [.regs, .ctr]
  | .soundingFit _ | .bearingFrameReceived _ _ | .bearingTxGo _ _ | .bearingTxCancel _ _ | .bearingAckTimeout _
  | .bearingStatePeriod _ | .leaderEvaluation _ | .leaderOffsetApply _ | .bearingSyncDetected _
    => [.regs, .snd]
  | .handoverRequest _
    => [.regs, .twn]
  | .sdcReset _
    => [.regs, .sdc]
  | .rtcSet _ | .vbatLow _ | .sealNow _
    => [.regs, .sec]
  | .hostNop _ _ _ _ _ | .frameCutShort _ | .portClaim _ _
    => [.regs, .host]
  | .wakeAlarm
    => [.regs, .boot]
  | .expertCellWrite _ _ _ | .mirrorRepair _ _ _ _ _
    => [.regs, .eng, .mem]
  | .draftDiscard _
    => [.regs, .drafts, .stg]
  | .calCompute _ _ _
    => [.regs, .drafts, .adc]
  | .tripClear _ _ _
    => [.regs, .pwm, .trp]
  | .gateTurnOn _ _ _ | .gateTurnOff _ _
    => [.regs, .drafts, .drv]
  | .referenceLoss _ _ | .pllLossOfLock _ _ | .fastHopTimeout _ _
    => [.regs, .clk, .adc]
  | .spreadStep
    => [.regs, .eng, .clk]
  | .recorderMeasureDone _
    => [.regs, .ctr, .mem]
  | .burstStart _ | .tuneStart _ _ | .tuneAbort _ _ | .bearingTxStart _ | .bearingTxDone _ | .bearingAckSend _
    => [.regs, .adc, .snd]
  | .heartbeatExpiry | .activeSettleEnd
    => [.regs, .drv, .twn]
  | .peerWaitTimeout
    => [.regs, .pwm, .twn]
  | .provision _ _ | .revoke _ _ | .clearTamper _ | .patchLoad _ | .attestReport _ | .tallySeal
    => [.regs, .mem, .sec]
  | .tamperSample _ | .islandPowerUp
    => [.regs, .sec, .boot]
  | .hostDramRequestTimeout _
    => [.regs, .mem, .host]
  | .bootStart _ _
    => [.regs, .stg, .boot]
  | .twinActLineChange _
    => [.regs, .grid, .twn]
  | .chartLoRead _ | .snapLoRead _ _ | .rtcLoRead _ | .eExpLoRead _ _
    => [.regs, .latch, .eng, .host]
  | .rideExit _ | .gridReturned _ | .groupStart _ _ | .groupStop _ _ | .syncDisarm _ _
    => [.regs, .grid, .adc, .snd]
  | .contextDispatch _ | .swapComplete
    => [.regs, .eng, .stg, .twn]
  | .imageVerifyDone | .surveyDone
    => [.regs, .eng, .stg, .mem]
  | .spreadProfileRestart
    => [.regs, .drafts, .eng, .clk]
  | .burstEnd _ | .tuneEnd _
    => [.regs, .adc, .mem, .snd]
  | .twinActOneshotExpiry
    => [.regs, .pwm, .drv, .twn]
  | .handoverEdge _
    => [.regs, .grid, .drv, .twn]
  | .advance _ _
    => [.regs, .eng, .mem, .sec]
  | .bootPhaseTimeout _
    => [.regs, .pwm, .trp, .boot]
  | .stopLegsOff _
    => [.regs, .grid, .adc, .pwm, .snd]
  | .pllLock _ _ _ _
    => [.regs, .eng, .clk, .pwm, .twn]
  | .retuneApply _
    => [.regs, .grid, .eng, .mem, .snd]
  | .handoverForcedEdge _
    => [.regs, .grid, .pwm, .drv, .twn]
  | .hostSilenceExpiry
    => [.regs, .grid, .adc, .snd, .host]
  | .handoverCancel
    => [.regs, .grid, .adc, .pwm, .twn, .snd]
  | .powerOnResetRelease _ _ _
    => [.regs, .chart, .clk, .twn, .sec, .boot]
  | .dcBusLowTimeout _ | .zeroVoltageTimeout _ | .rideTimeout _ | .blackStartFluxTimeout _ | .blackStartSettled _
  | .breakerStateChange _ | .holdoverExpiry
    => [.regs, .grid, .adc, .pwm, .ctr, .twn, .snd]
  | .twinFrameCut _ _
    => [.regs, .grid, .adc, .pwm, .drv, .twn, .snd]
  | .safeInputChange _ _ | .safeDemand _ | .discrepancyFault | .feedbackFault | .nodeCheckFault _ | .coilTestEnd _
  | .sdcClockCheck _ | .sdcParamCheck _ _ | .unconfirmedRunExpiry
    => [.regs, .grid, .adc, .pwm, .drv, .snd, .sdc]
  | .converterResultItem _ _ | .grtTimerTick _ | .grtKick _ _ | .deadlineExpiry _ | .triggerWatchdog _ | .opNop _ | .opLdc _
  | .opLds _ | .opSts _ | .opIn _ | .opOut _ | .opAdd _ | .opSub _ | .opNeg _ | .opAbs _ | .opMin _ | .opMax _ | .opLimit _
  | .opSel _ | .opShift _ | .opClr _ | .opMul _ | .opMac _ | .opMsu _ | .opMac2 _ | .opMulc _ | .opMacc _ | .opMsuc _
  | .opMacc2 _ | .opRnd _ | .opWrap _ | .opSincos _ | .opDiv _ | .opSqrt _ | .opRep _ | .opFlag _ | .opWaitf _ | .opEnd _
    => [.regs, .grid, .eng, .adc, .pwm, .ctr, .twn, .snd]
  | .dlinkClockLoss _ | .drvenRise _ _ _ | .gateConfirmTimeout _ _ | .gateLowTimeout _ _ | .bsuvTimeout _ | .drvVuv _
  | .drvOt _
    => [.regs, .grid, .adc, .pwm, .drv, .ctr, .twn, .snd]
  | .rotorTick _ _
    => [.regs, .grid, .adc, .pwm, .ctr, .twn, .sec, .snd]
  | .softwareTrip _ _ | .tripSourceLatch _ _
    => [.regs, .grid, .adc, .pwm, .trp, .ctr, .twn, .snd]
  | .updatePoint _
    => [.regs, .grid, .eng, .adc, .pwm, .trp, .ctr, .twn, .snd]
  | .opFetch _ | .dmaTimeout _
    => [.regs, .grid, .eng, .adc, .pwm, .ctr, .mem, .twn, .snd]
  | .shortCircuit _ _
    => [.regs, .grid, .adc, .pwm, .drv, .trp, .ctr, .twn, .snd]
  | .twinFrameReceived _ _ _
    => [.regs, .grid, .eng, .clk, .adc, .pwm, .drv, .twn, .snd]
  | .commitDomainApply _
    => [.regs, .drafts, .eng, .clk, .adc, .drv, .mem, .twn, .snd, .host]
  | .dmaRequestAccept _ | .dmaRequestComplete _
    => [.regs, .grid, .eng, .adc, .pwm, .ctr, .mem, .twn, .snd, .host]
  | .queueError _ _
    => [.regs, .grid, .eng, .clk, .adc, .pwm, .ctr, .mem, .twn, .snd, .host]
  | .standbyEnter _
    => [.regs, .grid, .eng, .adc, .pwm, .drv, .trp, .mem, .sec, .snd, .sdc, .host, .boot]
  | .commitApply
    => [.regs, .drafts, .grid, .eng, .stg, .clk, .adc, .pwm, .drv, .trp, .ctr, .mem, .twn, .sec, .snd, .host]
  | .bootPhaseComplete | .armingComplete
    => [.regs, .drafts, .grid, .eng, .stg, .clk, .adc, .pwm, .drv, .trp, .ctr, .mem, .twn, .sec, .snd, .sdc, .host, .boot]
  | .registerWrite _ _ _ | .hostWrite _ _ _ _ | .hostWriteFixed _ _ _ _ | .hostRead _ _ _ _ | .powerOnReset | .warmReset _ _
  | .watchdogReset | .standbyCancel _
    => [.regs, .drafts, .chart, .latch, .grid, .eng, .stg, .clk, .adc, .pwm, .drv, .trp, .ctr, .mem, .twn, .sec, .snd, .sdc, .host, .boot]

/-- Of all register fields, at most those of a list differ in effect. -/
def OnlyFlds (l : List Fld) (s t : State) : Prop := ∀ f : Fld, (∀ g ∈ l, f.key ≠ g.key) → t.fld f = s.fld f

/-- The block of a register field (R431). -/
def Fld.blk (f : Fld) : Nat := f.key / 32768

/-- Of all register fields, at most those of some blocks differ in effect. -/
def OnlyBlocks (bs : List Nat) (s t : State) : Prop := ∀ f : Fld, f.blk ∉ bs → t.fld f = s.fld f

/-- A port's write of the register at `a` is taken: the die is out of reset (R420), the address answers (R412) and the claim of
SYS_PORT lets the port write (R417); and no command of this C-cycle that must act before it has yet to act (R159, R168, R418). -/
structure State.Takes (s : State) (p : Port) (a : Nat) : Prop where
  first : s.awaits (fun i => i.beforeWrite p a) = false
  out : s.boot.held = false
  answers : s.answersAt a = true
  may : s.mayWrite p = true

/-- SYS_SCRATCH (R433). -/
def sysScratch : Fld := ⟨0x00C, 0, 32⟩

/-- A counter raised by one, which stops at all ones (R17). -/
def State.counted (s : State) (f : Fld) : Nat := (if s.fld f + 1 < 2 ^ f.width then s.fld f + 1 else s.fld f) % 2 ^ f.width

/-- The record of a refused write (R15, R418): its address, its port and WRREJ_S, and nothing else but PORTCOL_S, where both ports wrote
the register in this C-cycle. -/
structure RefusesWrite (s t : State) (p : Port) (a : Nat) : Prop where
  flag : t.on Reg.SYS_EVENT_WRREJ_S = true
  address : t.fld Reg.SYS_REJ_ADDR = a % 2 ^ 32
  port : t.fld Reg.SYS_REJ_INFO_PORT = Port.code p
  valid : t.fld Reg.SYS_REJ_INFO_VALID = 1
  fields : OnlyFlds [Reg.SYS_EVENT_WRREJ_S, Reg.SYS_REJ_ADDR, Reg.SYS_REJ_INFO_PORT, Reg.SYS_REJ_INFO_VALID, Reg.SYS_EVENT_PORTCOL_S] s t
  frame : Within [.regs] s t

/-- A write of which only an action or one field is refused (R15): the record of the refusal, and the fields `fs` that the write may give
their values all the same. -/
structure RefusesField (s t : State) (p : Port) (a : Nat) (fs : List Fld) : Prop where
  flag : t.on Reg.SYS_EVENT_WRREJ_S = true
  address : t.fld Reg.SYS_REJ_ADDR = a % 2 ^ 32
  port : t.fld Reg.SYS_REJ_INFO_PORT = Port.code p
  valid : t.fld Reg.SYS_REJ_INFO_VALID = 1
  fields : OnlyFlds ([Reg.SYS_EVENT_WRREJ_S, Reg.SYS_REJ_ADDR, Reg.SYS_REJ_INFO_PORT, Reg.SYS_REJ_INFO_VALID, Reg.SYS_EVENT_PORTCOL_S] ++ fs) s t
  frame : Within [.regs] s t

/-- A frame of a port acts at once (R416, R420): the die is out of reset, no reset came in this C-cycle, and the port's last frame has been
served. -/
structure State.Listens (s : State) (p : Port) : Prop where
  out : s.boot.held = false
  running : s.marked markReset = false
  free : s.portFree p = true

/-- A port's request for the register word at `a` passes (R405, R408, R409, R412, R416, R420): the port listens, its request
queue has no error in this C-cycle (R281), the CRC is right, and the address is aligned, in the register range and answers. -/
structure State.Hears (s : State) (p : Port) (bytes : List Nat) (crc : BitVec 16) (a : Nat) : Prop where
  listens : s.Listens p
  kept : s.frameLost p = false
  good : frameCrc bytes = crc.toNat
  aligned : a % 4 = 0
  range : a < 0x10000
  answers : s.answersAt a = true

/-- Context `n` issues on cell `c`: the word at its position has no uncorrectable error and spells `o` with its IMM as a repetition
steps it (R94, R101, R105, R112). -/
structure State.Issues (s : State) (c n : Nat) (o : OpWord) : Prop where
  issuer : s.issuer c = some n
  sound : (s.bunWord n (s.ctx n).pc).ecc = .ok
  spells : o = { s.curOp n with imm := stepImm (s.curOp n) (s.ctx n).rep }

/-- What an operation does that writes one register (R99, R100, R102): register `d` of the running context's bank takes the word `w`, SAT_S is
set where saturation changed it, the context moves past the operation, and nothing else changes. -/
structure WritesReg (s t : State) (n d w : Nat) (sat : Bool) : Prop where
  value : t.reg n d = w % 2 ^ 32
  flag : t.on (Reg.GRT_CTX_STATUS_SAT_S (n % 128)) = (s.on (Reg.GRT_CTX_STATUS_SAT_S (n % 128)) || sat)
  others : ∀ m r, s.bankKey m r ≠ s.bankKey n d → t.reg m r = s.reg m r
  engine : t.eng = { (s.advance n).eng with banks := t.eng.banks }
  fields : OnlyFlds [Reg.GRT_CTX_STATUS_SAT_S (n % 128)] s t
  frame : Within [.regs, .eng] s t

/-- A result that is an exact integer, saturated, or NaV (R5, R99, R100). -/
def WritesExact (s t : State) (n d : Nat) (nav : Bool) (i : Int) : Prop :=
  WritesReg s t n d (if nav then navN else satN i) (!nav && satActs i)

/-- What an operation does that writes one accumulator (R97): its value, its NaV flag, ASAT_S where the bound acted, and the move past
the operation; no register of a bank changes. -/
structure WritesAcc (s t : State) (n i : Nat) (a : Acc) (sat : Bool) : Prop where
  value : t.acc n i = a
  flag : t.on (Reg.GRT_CTX_STATUS_ASAT_S (n % 128)) = (s.on (Reg.GRT_CTX_STATUS_ASAT_S (n % 128)) || sat)
  others : ∀ m j, (s.cellOf m * 4 + s.prio m) * 2 + j ≠ (s.cellOf n * 4 + s.prio n) * 2 + i → t.acc m j = s.acc m j
  engine : t.eng = { (s.advance n).eng with accs := t.eng.accs }
  fields : OnlyFlds [Reg.GRT_CTX_STATUS_ASAT_S (n % 128)] s t
  frame : Within [.regs, .eng] s t

/-- A state that no step takes to a fault or a refusal while its queue is well formed. -/
def Safe (s : State) : Prop := s.QueueOk → ∃ t, step s = .next t

end Sys2Proof.Machine
end

