-- ==== Sys2Proof/Certificates/Slice0/Obligations.lean ====
section
/-!
DEFINITION. The statements for the provers.
-/

open Sys2Proof Sys2Proof.Machine

/-! The queue, the step and the whole machine. -/

/-- A step takes the command at the front of the queue and runs it with the rest; on an empty queue it takes those that were put off behind
others of their C-cycle.
The model's choices in it: log entries 2, 3. -/
def Obligations.StepRunsTheFrontCommand : Prop :=
  (∀ (s : State) (c : Instr), step (s.queueFirst c) = exec c s) ∧
  (∀ (s : State) (c : Instr) (l : List Instr), s.pending = [] → s.later = c :: l → step s = exec c { s with later := l })

/-- On an empty queue one C-cycle passes, which is the model's choice (log entry 1), here while no service frame, security operation or frame
record waits: chart time advances by one (R10), the real-time count
by ρ (R121), the RTC counts 32,768 to the second (R393), and what held for the cycle alone is forgotten (R16, R418, R434). While a
power-on reset holds the die, chart time stands.
The model's choices in it: log entries 1, 68. -/
def Obligations.AnEmptyQueuePassesOneCycle : Prop :=
  ∀ s : State, s.pending = [] → s.later = [] → s.host.svcQ = [] → s.sec.op = none → s.snd.log = [] →
    (s.boot.held = false → ∃ t, step s = .next t ∧ t.pending = [] ∧ t.chart = s.chart + 1 ∧ t.eng.real = s.eng.real + s.eng.rho ∧
      t.eng.rho = s.eng.rho ∧
      t.wrNow = [] ∧ t.expertStart = s.on Reg.SYS_CTRL_EXPERT_EN ∧
      (s.boot.frac + 32768 < 400000000 → t.boot.frac = s.boot.frac + 32768 ∧ t.sec.rtc = s.sec.rtc) ∧
      (400000000 ≤ s.boot.frac + 32768 → t.boot.frac = s.boot.frac + 32768 - 400000000 ∧ t.sec.rtc = (s.sec.rtc + 1) % 2 ^ 55) ∧
      t.mem.dram = s.mem.dram ∧ t.eng.banks = s.eng.banks ∧ t.eng.st = s.eng.st) ∧
    (s.boot.held = true → ∃ t, step s = .next t ∧ t.chart = s.chart ∧ t.regs = s.regs ∧ t.eng = s.eng ∧ t.mem = s.mem ∧
      (400000000 ≤ s.boot.frac + 32768 → t.sec.rtc = (s.sec.rtc + 1) % 2 ^ 55))

/-- After a power-on reset every field of every register table holds the reset value of its row (R438), and the DRAM lists no byte. The
values marked 'Per part' and 'Random' are fixed by the part and drawn, so that nothing is said of them but their place.
The model's choices in it: log entries 10, 11. -/
def Obligations.ResetGivesEveryFieldItsTableValue : Prop :=
  (∀ b, b < 16 → ∀ r ∈ rowsOfBlock b, ∀ i, i < r.n1 → ∀ j, j < r.n2 →
    State.reset.fld ⟨r.base + i * r.s1 + j * r.s2, r.lo, r.width⟩ =
      r.resetAt (Fld.key ⟨r.base + i * r.s1 + j * r.s2, r.lo, r.width⟩) i j) ∧
  State.reset.chart = 0 ∧ State.reset.mem.dram = [] ∧ State.reset.regs.shadow = []

/-- The state after reset is in its one form, its queue is well formed, and it is safe.
The model's choices in it: log entries 6, 11. -/
def Obligations.ResetIsCanonical : Prop :=
  State.reset.canonical = true ∧ State.reset.pending = [] ∧ State.reset.QueueOk

/-- Every step keeps the one form of register fields, latches and memory: rising keys, and no entry that equals what an unlisted one reads
as. -/
def Obligations.StepsKeepTheCanonicalForm : Prop :=
  ∀ s t : State, s.canonical = true → step s = .next t → t.canonical = true

/-- A machine whose waiting commands are well formed never stops: its step answers a next state, whose queue is the rest and is well formed
again.
The model's choices in it: log entries 4, 138. -/
def Obligations.AWellFormedQueueNeverStops : Prop :=
  ∀ s : State, s.QueueOk → ∃ t, step s = .next t ∧ t.pending = s.pending.tail ∧ t.QueueOk

/-- No command changes a part of the machine outside its reach, nor the queue. -/
def Obligations.CommandsStayWithinTheirReach : Prop :=
  ∀ (i : Instr) (s t : State), exec i s = .next t → Within (reach i) s t

/-- A command stops exactly where its operands spell no frame of its row (R405, R406), with the fault of that name; nothing is ever
refused as a command without a meaning.
The model's choices in it: log entry 138. -/
def Obligations.OnlyIllFormedFramesStop : Prop :=
  (∀ (i : Instr) (s : State) (f : Fault), exec i s = .fault f ↔ ¬ WellFormed i) ∧
  (∀ (i : Instr) (s : State) (r : Refusal), exec i s ≠ .refused r)
/-! Registers and ports. -/

/-- A write of a register that a port may write, by the access of its fields (R12 to R18): RO ignored, RW set, a reserved value of an I field
refused, W1C cleared by 1 unless its condition came in this C-cycle, a counter cleared by 0 alone, and an expert field refused without
EXPERT_EN.
The model's choices in it: log entries 17, 136. -/
def Obligations.RegisterWritesFollowTheAccessCodes : Prop :=
  ∀ (s : State) (p : Port) (v : Word),
    (s.Takes p Reg.SYS_CHART_LO.addr → exec (.registerWrite p 0x006 v) s = .next (s.noteWrite p Reg.SYS_CHART_LO.addr)) ∧
    (s.Takes p sysScratch.addr → ∃ t, exec (.registerWrite p 0x003 v) s = .next t ∧ t.fld sysScratch = v.toNat ∧
      OnlyFlds [sysScratch, Reg.SYS_EVENT_PORTCOL_S] s t ∧ Within [.regs] s t) ∧
    (s.Takes p Reg.SYS_SVC_CFG_BAUD.addr → v.toNat % 4 < 3 → ∃ t, exec (.registerWrite p 0x024 v) s = .next t ∧
      t.fld Reg.SYS_SVC_CFG_BAUD = v.toNat % 4 ∧ OnlyFlds [Reg.SYS_SVC_CFG_BAUD, Reg.SYS_EVENT_PORTCOL_S] s t ∧ Within [.regs] s t) ∧
    (s.Takes p Reg.SYS_SVC_CFG_BAUD.addr → v.toNat % 4 = 3 → ∃ t, exec (.registerWrite p 0x024 v) s = .next t ∧
      RefusesWrite s t p Reg.SYS_SVC_CFG_BAUD.addr) ∧
    (s.Takes p Reg.SYS_EVENT_WRREJ_S.addr → ∃ t, exec (.registerWrite p 0x009 v) s = .next t ∧ Within [.regs] s t ∧
      (∀ f ∈ [Reg.SYS_EVENT_WRREJ_S, Reg.SYS_EVENT_FRAME_S, Reg.SYS_EVENT_ABORT_S, Reg.SYS_EVENT_HOSTSIL_S, Reg.SYS_EVENT_SVCERR_S,
          Reg.SYS_EVENT_HKACC_S], s.fld f < 2 → t.on f = (s.on f && (!bitOf v.toNat f.lo || s.evNow.contains f.key))) ∧
      (s.fld Reg.SYS_EVENT_PORTCOL_S = 1 → bitOf v.toNat 4 = false → t.on Reg.SYS_EVENT_PORTCOL_S = true)) ∧
    (s.Takes p Reg.SYS_SVC_CNT_SVCERR_CNT.addr → ∃ t, exec (.registerWrite p 0x025 v) s = .next t ∧ Within [.regs] s t ∧
      OnlyFlds [Reg.SYS_SVC_CNT_SVCERR_CNT, Reg.SYS_EVENT_PORTCOL_S] s t ∧
      (v.toNat % 2 ^ 16 ≠ 0 → s.fld Reg.SYS_SVC_CNT_SVCERR_CNT < 2 ^ 16 → t.fld Reg.SYS_SVC_CNT_SVCERR_CNT = s.fld Reg.SYS_SVC_CNT_SVCERR_CNT) ∧
      (v.toNat % 2 ^ 16 = 0 → t.fld Reg.SYS_SVC_CNT_SVCERR_CNT = if s.evNow.contains Reg.SYS_SVC_CNT_SVCERR_CNT.key then 1 else 0)) ∧
    (s.Takes p Reg.STG_CDRAFT_ADDR.addr → s.expertStart = true → ∃ t, exec (.registerWrite p 0x80B v) s = .next t ∧
      t.fld Reg.STG_CDRAFT_ADDR = v.toNat ∧ OnlyFlds [Reg.STG_CDRAFT_ADDR, Reg.SYS_EVENT_PORTCOL_S] s t) ∧
    (s.Takes p Reg.STG_CDRAFT_ADDR.addr → s.expertStart = false → ∃ t, exec (.registerWrite p 0x80B v) s = .next t ∧
      RefusesWrite s t p Reg.STG_CDRAFT_ADDR.addr)

/-- A write of D fields goes to the shadows and changes no value in effect (R13, R157 to R159): a write that equals the shadows changes
nothing, one that differs drafts and makes the staging state DRAFTING, and while the shadow bank is locked it is refused.
The model's choices in it: log entries 41, 64. -/
def Obligations.DraftedWritesGoToTheShadows : Prop :=
  ∀ (s : State) (p : Port) (v : Word), s.Takes p Reg.SYS_HOST_CFG_SIL_MS.addr →
    let same := s.shadowFld Reg.SYS_HOST_CFG_SIL_MS = v.toNat % 2 ^ 16 ∧ s.shadowFld Reg.SYS_HOST_CFG_SIL_ACT = v.toNat / 2 ^ 16 % 4
    (same → exec (.registerWrite p 0x020 v) s = .next (s.noteWrite p Reg.SYS_HOST_CFG_SIL_MS.addr)) ∧
    (¬ same → s.locked = false → ∃ t, exec (.registerWrite p 0x020 v) s = .next t ∧ t.shadowFld Reg.SYS_HOST_CFG_SIL_MS = v.toNat % 2 ^ 16 ∧
      t.shadowFld Reg.SYS_HOST_CFG_SIL_ACT = v.toNat / 2 ^ 16 % 4 ∧ OnlyFlds [Reg.STG_STATUS_STATE, Reg.SYS_EVENT_PORTCOL_S] s t ∧
      (t.fld Reg.STG_STATUS_STATE = 0 ∨ t.fld Reg.STG_STATUS_STATE = 1) ∧
      (t.regs.shadow ≠ [] → t.fld Reg.STG_STATUS_STATE = 1) ∧ t.grid = s.grid ∧ t.eng = s.eng ∧ t.host = s.host) ∧
    (¬ same → s.locked = true → ∃ t, exec (.registerWrite p 0x020 v) s = .next t ∧ t.regs.shadow = s.regs.shadow ∧
      RefusesWrite s t p Reg.SYS_HOST_CFG_SIL_MS.addr)

/-- A read of SYS_CHART_LO latches the upper half of the same instant for its own port, and a read of SYS_CHART_HI returns what the last such
read latched (R11). -/
def Obligations.ChartReadsLatchTheUpperHalf : Prop :=
  (∀ (s : State) (p : Port), s.Listens p → ∃ t, exec (.chartLoRead p) s = .next t ∧
    (t.port p).reply = some { status := s.statusByte 0, words := [s.now % 2 ^ 32], mask := 0 } ∧
    t.latchAt p Reg.SYS_CHART_HI.addr = s.now / 2 ^ 32 ∧ t.regs = s.regs ∧
    ∀ a, a < 65536 → ∀ q : Port, (q ≠ p ∨ a ≠ Reg.SYS_CHART_HI.addr) → t.latchAt q a = s.latchAt q a) ∧
  (∀ (s : State) (p : Port) (crc : BitVec 16), s.Hears p (requestBytes 0x0B 0 Reg.SYS_CHART_HI.addr []) crc Reg.SYS_CHART_HI.addr →
    ∃ t, exec (.hostRead p (BitVec.ofNat 32 Reg.SYS_CHART_HI.addr) 0 crc) s = .next t ∧
      (t.port p).reply = some { status := s.statusByte 0, words := [s.latchAt p Reg.SYS_CHART_HI.addr], mask := 0 } ∧ t.latch = s.latch ∧
      t.regs = s.regs)

/-- The other reads that latch (R55, R393, R403): SNAP_LO latches every live register of its group with the chart time, SEC_RTC_LO the upper word of
the RTC, and E_EXP_LO every field of its Tally group.
The model's choices in it: log entry 135. -/
def Obligations.SnapshotReadsLatchTheirGroup : Prop :=
  ∀ (s : State) (p : Port), s.Listens p → s.clk.locked = true →
    (∀ g : Fin 8, ∃ t, exec (.snapLoRead p g) s = .next t ∧
      (t.port p).reply = some { status := s.statusByte 0, words := [s.now % 2 ^ 32], mask := 0 } ∧
      t.latchAt p (Reg.GFM_SNAP_HI g).addr = s.now / 2 ^ 32 ∧
      (∀ i, i < 11 → t.latchAt p ((Reg.GFM_SNAP_LO g).addr + 8 + 4 * i) = s.plainWord ((Reg.GFM_SNAP_LO g).addr + 8 + 4 * i)) ∧
      t.regs = s.regs ∧ ∀ a, a < 65536 → ∀ q : Port, q ≠ p → t.latchAt q a = s.latchAt q a) ∧
    (∃ t, exec (.rtcLoRead p) s = .next t ∧ t.latchAt p Reg.SEC_RTC_HI.addr = s.rtcWide / 2 ^ 32 ∧ t.regs = s.regs ∧
      (t.port p).reply = some { status := s.statusByte 0, words := [s.rtcWide % 2 ^ 32], mask := 0 }) ∧
    (∀ g : Fin 8, ∃ t, exec (.eExpLoRead p g) s = .next t ∧ t.regs = s.regs ∧
      (t.port p).reply = some { status := s.statusByte 0, words := [s.tallyWord g 0], mask := 0 } ∧
      ∀ i, i < 10 → t.latchAt p ((Reg.SEC_TALLY_G_E_EXP_LO g).addr + 4 + 4 * i) = s.tallyWord g (i + 1))

/-- The frames of a port (R405 to R411): a good WRITE or WRITE_FIXED of one register word does what the write of that register does and answers
with REFUSED where it was refused, a burst writes its words one after the other and answers once, one to the DRAM window waits for its
entries, a READ answers the word, a NOP the status alone; a frame with a wrong CRC does nothing but record FRAMEERR; and a service frame
behind one that has yet to be served waits (R416).
The model's choices in it: log entries 133, 137. -/
def Obligations.FramesCarryRegisterAccesses : Prop :=
  (∀ (s : State) (p : Port) (a : Fin 0x4000) (v : Word) (crc : BitVec 16), ∃ u,
    exec (.registerWrite p a v) { s.goodFrame' p with refusedNow := false } = .next u ∧
    let done (t : State) : Prop := t = if u.marked markReset then u else u.answer p (if u.refusedNow then stREFUSED else 0) [] 0
    s.awaits (fun i => i.beforeFrame (.registerWrite p a v)) = false →
    (s.Hears p (requestBytes 2 0 (4 * a.val) [v.toNat]) crc (4 * a.val) →
      ∃ t, exec (.hostWrite p (BitVec.ofNat 32 (4 * a.val)) [v] crc) s = .next t ∧ done t) ∧
    (s.Hears p (requestBytes 3 0 (4 * a.val) [v.toNat]) crc (4 * a.val) →
      ∃ t, exec (.hostWriteFixed p (BitVec.ofNat 32 (4 * a.val)) [v] crc) s = .next t ∧ done t)) ∧
  (∀ (s : State) (p : Port) (v : Word) (crc : BitVec 16), s.Takes p sysScratch.addr →
    let done (t : State) : Prop := t.fld sysScratch = v.toNat ∧ OnlyFlds [sysScratch, Reg.SYS_EVENT_PORTCOL_S] s t ∧
      ∃ st, (t.port p).reply = some { status := st, words := [], mask := 0 } ∧ st % 32 = 0
    (s.Hears p (requestBytes 2 0 sysScratch.addr [v.toNat]) crc sysScratch.addr →
      ∃ t, exec (.hostWrite p (BitVec.ofNat 32 sysScratch.addr) [v] crc) s = .next t ∧ done t) ∧
    (s.Hears p (requestBytes 3 0 sysScratch.addr [v.toNat]) crc sysScratch.addr →
      ∃ t, exec (.hostWriteFixed p (BitVec.ofNat 32 sysScratch.addr) [v] crc) s = .next t ∧ done t)) ∧
  (∀ (s : State) (p : Port) (addr : Word) (words : List Word) (crc : BitVec 16), s.Listens p → s.frameLost p = false →
    1 ≤ words.length → words.length ≤ 64 → addr.toNat % 4 = 0 → inWindow addr.toNat = false →
    let l := words.map BitVec.toNat
    let heard (cmd : Nat) : Prop := frameCrc (requestBytes cmd (words.length - 1) addr.toNat l) = crc.toNat
    let put (addrs : List Nat) : State := (addrs.zip l).foldl
      (fun u (x : Nat × Nat) => if u.marked markReset then u else u.writeWord p x.1 x.2) { s.goodFrame' p with refusedNow := false }
    let done (t : State) (addrs : List Nat) : Prop := t = if (put addrs).marked markReset then put addrs
      else (put addrs).answer p (if (put addrs).refusedNow then stREFUSED else 0) [] 0
    (heard 2 → s.awaits (fun i => i.beforeFrame (.hostWrite p addr words crc)) = false → burstLeaves addr.toNat words.length = false →
      (∀ i, i < words.length → s.prot p (addr.toNat + 4 * i) true = false) →
      ∃ t, exec (.hostWrite p addr words crc) s = .next t ∧ done t ((List.range words.length).map fun i => addr.toNat + 4 * i)) ∧
    (heard 3 → s.awaits (fun i => i.beforeFrame (.hostWriteFixed p addr words crc)) = false → s.prot p addr.toNat true = false →
      ∃ t, exec (.hostWriteFixed p addr words crc) s = .next t ∧ done t (List.replicate words.length addr.toNat))) ∧
  (∀ (s : State) (p : Port) (addr : Word) (words : List Word) (crc : BitVec 16), s.Listens p → s.frameLost p = false →
    1 ≤ words.length → words.length ≤ 64 → addr.toNat % 4 = 0 → inWindow addr.toNat = true → s.mayWrite p = true →
    s.queueClash (31 + s.reqClass (portReq p)) = false →
    let l := words.map BitVec.toNat
    let heard (cmd : Nat) : Prop := frameCrc (requestBytes cmd (words.length - 1) addr.toNat l) = crc.toNat
    let waits (t : State) (addrs : List Nat) : Prop := t.regs.shadow = s.regs.shadow ∧ t.mem.dram = s.mem.dram ∧
      (t.port p).frame.map (fun f => (f.write, f.addrs, f.words)) = some (true, addrs.map (s.winByte p), l)
    (heard 2 → s.awaits (fun i => i.beforeFrame (.hostWrite p addr words crc)) = false → burstLeaves addr.toNat words.length = false →
      (∀ i, i < words.length → s.prot p (addr.toNat + 4 * i) true = false) →
      ∃ t, exec (.hostWrite p addr words crc) s = .next t ∧ waits t ((List.range words.length).map fun i => addr.toNat + 4 * i)) ∧
    (heard 3 → s.awaits (fun i => i.beforeFrame (.hostWriteFixed p addr words crc)) = false → s.prot p addr.toNat true = false →
      ∃ t, exec (.hostWriteFixed p addr words crc) s = .next t ∧ waits t (List.replicate words.length addr.toNat))) ∧
  (∀ (s : State) (p : Port) (addr v : Word) (crc : BitVec 16), s.Listens p → s.frameLost p = false → addr.toNat % 4 = 0 →
    inWindow addr.toNat = true → s.mayWrite p = false → s.prot p addr.toNat true = false →
    frameCrc (requestBytes 2 0 addr.toNat [v.toNat]) = crc.toNat → s.awaits (fun i => i.beforeFrame (.hostWrite p addr [v] crc)) = false →
    ∃ t, exec (.hostWrite p addr [v] crc) s = .next t ∧ t.on Reg.SYS_EVENT_WRREJ_S = true ∧ t.fld Reg.SYS_REJ_ADDR = addr.toNat ∧
      t.mem = s.mem ∧ (t.port p).frame = none ∧
      ∃ st, (t.port p).reply = some { status := st, words := [], mask := 0 } ∧ st % 32 = stREFUSED) ∧
  (∀ (s : State) (p : Port) (crc : BitVec 16), s.Hears p (requestBytes 0x0B 0 sysScratch.addr []) crc sysScratch.addr →
    s.fld sysScratch < 2 ^ 32 →
    ∃ t, exec (.hostRead p (BitVec.ofNat 32 sysScratch.addr) 0 crc) s = .next t ∧
      (t.port p).reply = some { status := s.statusByte 0, words := [s.fld sysScratch], mask := 0 } ∧ t.regs = s.regs ∧
      t.latch = s.latch) ∧
  (∀ (s : State) (p : Port) (crc : BitVec 16), s.Listens p → s.frameLost p = false → frameCrc (requestBytes 5 0 0 []) = crc.toNat →
    ∃ t, exec (.hostNop p 5 0 0 crc) s = .next t ∧ (t.port p).reply = some { status := s.statusByte 0, words := [], mask := 0 } ∧
      t.regs = s.regs ∧
      (p = .host → s.host.silFrom.isSome = true ∨ s.armed = true ∧ s.fld Reg.SYS_HOST_CFG_SIL_MS ≠ 0 → t.host.silFrom = some s.now) ∧
      (p = .svc ∨ s.host.silFrom = none ∧ (s.armed = false ∨ s.fld Reg.SYS_HOST_CFG_SIL_MS = 0) → t.host.silFrom = s.host.silFrom)) ∧
  (∀ (s : State) (n : Fin 64) (a : Word) (crc : BitVec 16), s.Listens .host →
    frameCrc (requestBytes 0x0B n a.toNat []) ≠ crc.toNat → ∃ t, exec (.hostRead .host a n crc) s = .next t ∧
      t.on Reg.SYS_EVENT_FRAME_S = true ∧ t.fld Reg.SYS_HOST_CNT_FRAMEERR_CNT = s.counted Reg.SYS_HOST_CNT_FRAMEERR_CNT ∧
      OnlyFlds [Reg.SYS_EVENT_FRAME_S, Reg.SYS_HOST_CNT_FRAMEERR_CNT] s t ∧ t.host.silFrom = s.host.silFrom ∧
      ∃ st, (t.port .host).reply = some { status := st, words := [], mask := 0 } ∧ st % 32 = stFRAMEERR) ∧
  (∀ (s : State) (a : Word) (n : Fin 64) (crc : BitVec 16), s.boot.held = false → s.marked markReset = false → s.portFree .svc = false →
    ∃ t, exec (.hostRead .svc a n crc) s = .next t ∧ t.host.svcQ = s.host.svcQ ++ [.hostRead .svc a n crc] ∧ t.host.port = s.host.port ∧
      t.regs = s.regs)

/-- Frames that do not complete (R410, R416): a cut before its CRC is a frame error, one after it counts as abandoned, a window request without
tracker entries for 100 µs is aborted, and a service request with a gap is discarded.
The model's choices in it: log entry 137. -/
def Obligations.IncompleteFramesAreRecorded : Prop :=
  (∀ s : State, s.boot.held = false → ∃ t, exec (.frameCutShort false) s = .next t ∧ t.on Reg.SYS_EVENT_FRAME_S = true ∧
    t.fld Reg.SYS_HOST_CNT_FRAMEERR_CNT = s.counted Reg.SYS_HOST_CNT_FRAMEERR_CNT ∧ t.host = s.host ∧
    OnlyFlds [Reg.SYS_EVENT_FRAME_S, Reg.SYS_HOST_CNT_FRAMEERR_CNT] s t ∧ Within [.regs] s t) ∧
  (∀ s : State, s.boot.held = false → (s.port .host).reply = none → (∀ f, (s.port .host).frame = some f → f.silent = true) →
    exec (.frameCutShort true) s = .next s) ∧
  (∀ s : State, s.boot.held = false → ((s.port .host).reply ≠ none ∨ ∃ f, (s.port .host).frame = some f ∧ f.silent = false) →
    ∃ t, exec (.frameCutShort true) s = .next t ∧
    t.fld Reg.SYS_HOST_CNT_ABANDON_CNT = s.counted Reg.SYS_HOST_CNT_ABANDON_CNT ∧ OnlyFlds [Reg.SYS_HOST_CNT_ABANDON_CNT] s t ∧
    (t.port .host).reply = none ∧ (t.port .host).frame.map WinFrame.addrs = (s.port .host).frame.map WinFrame.addrs) ∧
  (∀ (s : State) (p : Port) (f : WinFrame), (s.port p).frame = some f → (s.dch (portReq p)).flight = none → f.silent = false →
    f.asked + usCycles 100 ≤ s.now → ∃ t, exec (.hostDramRequestTimeout p) s = .next t ∧ t.on Reg.SYS_EVENT_ABORT_S = true ∧
      (t.port p).frame = none ∧ (∃ st, (t.port p).reply = some { status := st, words := [], mask := 0 } ∧ st % 32 = stABORTED) ∧
      OnlyFlds [Reg.SYS_EVENT_ABORT_S] s t ∧ t.mem = s.mem) ∧
  (∀ s : State, s.boot.held = false → ∃ t, exec .serviceRequestTimeout s = .next t ∧ t.on Reg.SYS_EVENT_SVCERR_S = true ∧
    t.fld Reg.SYS_SVC_CNT_SVCERR_CNT = s.counted Reg.SYS_SVC_CNT_SVCERR_CNT ∧
    OnlyFlds [Reg.SYS_EVENT_SVCERR_S, Reg.SYS_SVC_CNT_SVCERR_CNT] s t ∧ Within [.regs] s t)

/-- The claim of SYS_PORT (R417): a port claims the registers while they are shared and releases its own claim; any other write of OWNER is
refused, and under one port's claim every write from the other is refused while its reads stay permitted. A service claim lapses after
10 s without a good service frame, a host claim at a silence expiry.
The model's choices in it: log entries 136, 170. -/
def Obligations.PortsClaimTheRegisters : Prop :=
  (∀ (s : State) (p : Port) (o : Fin 4), s.boot.held = false → s.awaits (fun i => i.beforeWrite p Reg.SYS_PORT_OWNER.addr) = false →
    let own := Port.code p + 1
    let cur := s.fld Reg.SYS_PORT_OWNER
    ((cur = 0 ∧ o.val = own) ∨ (cur = own ∧ o.val = 0) → ∃ t, exec (.portClaim p o) s = .next t ∧ t.fld Reg.SYS_PORT_OWNER = o.val ∧
      OnlyFlds [Reg.SYS_PORT_OWNER, Reg.SYS_EVENT_PORTCOL_S] s t ∧ Within [.regs, .host] s t ∧
      t.host = (if o.val = 2 then { s.host with svcLast := s.now } else s.host)) ∧
    (¬ ((cur = 0 ∧ o.val = own) ∨ (cur = own ∧ o.val = 0)) → ∃ t, exec (.portClaim p o) s = .next t ∧
      RefusesWrite s t p Reg.SYS_PORT_OWNER.addr)) ∧
  (∀ (s : State) (p : Port), s.boot.held = false → s.fld Reg.SYS_PORT_OWNER ≠ 0 → s.fld Reg.SYS_PORT_OWNER ≠ Port.code p + 1 →
    (∀ (a : Fin 0x4000) (v : Word), s.answersAt (4 * a.val) = true → s.awaits (fun i => i.beforeFrame (.registerWrite p a v)) = false →
      ∃ t, exec (.registerWrite p a v) s = .next t ∧ t.refusedNow = true ∧ RefusesWrite s t p (4 * a.val)) ∧
    (∀ (a : Fin 0x4000) (v : Word) (crc : BitVec 16), s.awaits (fun i => i.beforeFrame (.registerWrite p a v)) = false →
      s.Hears p (requestBytes 2 0 (4 * a.val) [v.toNat]) crc (4 * a.val) →
      ∃ t st, exec (.hostWrite p (BitVec.ofNat 32 (4 * a.val)) [v] crc) s = .next t ∧
        (t.port p).reply = some { status := st, words := [], mask := 0 } ∧
        st % 32 = stREFUSED ∧ t.on Reg.SYS_EVENT_WRREJ_S = true) ∧
    (s.Listens p → ∃ t, exec (.chartLoRead p) s = .next t ∧ ∃ st, (t.port p).reply = some { status := st, words := [s.now % 2 ^ 32], mask := 0 })) ∧
  (∀ s : State, s.fld Reg.SYS_PORT_OWNER = 2 →
    (s.host.svcLast + msCycles 10000 ≤ s.now → ∃ t, exec .serviceClaimLapse s = .next t ∧ t.fld Reg.SYS_PORT_OWNER = 0 ∧
      OnlyFlds [Reg.SYS_PORT_OWNER] s t ∧ Within [.regs] s t) ∧
    (s.now < s.host.svcLast + msCycles 10000 → exec .serviceClaimLapse s = .next s)) ∧
  (∀ (s : State) (t0 : Nat), s.host.silFrom = some t0 → t0 + msCycles (s.fld Reg.SYS_HOST_CFG_SIL_MS) ≤ s.now →
    s.fld Reg.SYS_HOST_CFG_SIL_ACT = 0 → s.fld Reg.SYS_PORT_OWNER = 1 → s.role ≠ roleSTANDBY → s.awaits Instr.hostFrame = false →
    ∃ t, exec .hostSilenceExpiry s = .next t ∧ t.fld Reg.SYS_PORT_OWNER = 0)

/-- The host-silence timer (R414): at expiry HOSTSIL_S is set, the timer stops, and SIL_ACT runs once: LOG does nothing more, ZERO_PQ sets
PSET and QSET of every enabled group to 0. In a STANDBY twin only the record is made. A host frame of the C-cycle of the expiry comes first.
The model's choices in it: log entry 3. -/
def Obligations.HostSilenceRunsItsAction : Prop :=
  ∀ (s : State) (t0 : Nat), s.host.silFrom = some t0 → s.awaits Instr.hostFrame = false →
    (t0 + msCycles (s.fld Reg.SYS_HOST_CFG_SIL_MS) ≤ s.now →
      (s.fld Reg.SYS_HOST_CFG_SIL_ACT = 0 ∨ s.role = roleSTANDBY → ∃ t, exec .hostSilenceExpiry s = .next t ∧
        t.on Reg.SYS_EVENT_HOSTSIL_S = true ∧ t.host.silFrom = none ∧
        OnlyFlds [Reg.SYS_EVENT_HOSTSIL_S, Reg.SYS_PORT_OWNER] s t ∧ t.grid = s.grid ∧
        (s.role = roleSTANDBY → t.fld Reg.SYS_PORT_OWNER = s.fld Reg.SYS_PORT_OWNER)) ∧
      (s.fld Reg.SYS_HOST_CFG_SIL_ACT = 1 → s.role ≠ roleSTANDBY → ∃ t, exec .hostSilenceExpiry s = .next t ∧
        t.on Reg.SYS_EVENT_HOSTSIL_S = true ∧ t.host.silFrom = none ∧ t.grid = s.grid ∧
        ∀ g, g < 8 → t.fld (Reg.GFM_PSET g) = (if s.on (Reg.GFM_CTRL_EN g) then 0 else s.fld (Reg.GFM_PSET g)) ∧
          t.fld (Reg.GFM_QSET g) = (if s.on (Reg.GFM_CTRL_EN g) then 0 else s.fld (Reg.GFM_QSET g)) ∧
          t.fld (Reg.GFM_FSET g) = s.fld (Reg.GFM_FSET g))) ∧
    (s.now < t0 + msCycles (s.fld Reg.SYS_HOST_CFG_SIL_MS) → exec .hostSilenceExpiry s = .next s)
/-! Grid-forming control. -/

/-- Set-points and secondary offsets (R53, R54): a write in range sets the register, one outside its range is refused; SEC_DF and SEC_DV take
writes only from the source that SEC_SRC selects, the ports or the Bearing protocol, and a write from the other source is refused and sets
WRREJ_S.
The model's choices in it: log entries 19, 22. -/
def Obligations.SetPointsAndOffsetsKeepTheirSource : Prop :=
  (∀ (s : State) (p : Port) (g : Fin 8) (k : Fin 4) (v : Word), s.Takes p (spField k g).addr →
    (s.gfmOpen g = true → s.role ≠ roleSTANDBY → s.spOk k g v.toNat = true → ∃ t, exec (.setpointWrite p g k v) s = .next t ∧
      t.fld (spField k g) = v.toNat ∧ OnlyFlds [spField k g, Reg.SYS_EVENT_PORTCOL_S] s t ∧ Within [.regs] s t) ∧
    (s.gfmOpen g = false ∨ s.role = roleSTANDBY ∨ s.spOk k g v.toNat = false → ∃ t, exec (.setpointWrite p g k v) s = .next t ∧
      RefusesWrite s t p (spField k g).addr)) ∧
  (∀ (s : State) (g : Fin 8) (dv : Bool) (v : Word), let f := spField (if dv then 5 else 4) g
    s.spOk (if dv then 5 else 4) g v.toNat = true →
    (∀ p, s.Takes p f.addr → s.gfmOpen g = true → s.role ≠ roleSTANDBY →
      (s.on (Reg.GFM_CTRL_SEC_SRC g) = false → ∃ t, exec (.secOffsetWrite (some p) g dv v) s = .next t ∧ t.fld f = v.toNat ∧
        OnlyFlds [f, Reg.SYS_EVENT_PORTCOL_S] s t ∧ Within [.regs] s t) ∧
      (s.on (Reg.GFM_CTRL_SEC_SRC g) = true → ∃ t, exec (.secOffsetWrite (some p) g dv v) s = .next t ∧ RefusesWrite s t p f.addr)) ∧
    (s.on (Reg.GFM_CTRL_SEC_SRC g) = true → s.gfmOpen g = true → ∃ t, exec (.secOffsetWrite none g dv v) s = .next t ∧ t.fld f = v.toNat ∧
      OnlyFlds [f] s t ∧ Within [.regs] s t) ∧
    (s.on (Reg.GFM_CTRL_SEC_SRC g) = false ∨ s.gfmOpen g = false → ∃ t, exec (.secOffsetWrite none g dv v) s = .next t ∧
      t.on Reg.SYS_EVENT_WRREJ_S = true ∧ OnlyFlds [Reg.SYS_EVENT_WRREJ_S] s t ∧ Within [.regs] s t)) ∧
  (∀ (s : State) (g : Fin 8) (v : Nat), (s.spOk 4 g v = true ↔ -tenThou 500 ≤ wInt v ∧ wInt v ≤ tenThou 500) ∧
    (s.spOk 5 g v = true ↔ -tenThou 1000 ≤ wInt v ∧ wInt v ≤ tenThou 1000))

/-- Start and stop of a group (R51, R59, R73, R86, R353, R369): a start with live terminals takes ω, θ and E from channel T and enters CONNECTED
or ISLAND by the breaker, one with dead terminals enters BLACK_START or, with a low DC bus, fails; a stop enters STOPPING, and its legs turn
off at a period start of their carrier.
The model's choices in it: log entries 27, 160. -/
def Obligations.GroupsStartAndStop : Prop :=
  (∀ (s : State) (p : Port) (g : Fin 8), s.Takes p (Reg.GFM_CTRL_EN g).addr →
    let r := s.grp g
    let may := s.controlled g = true ∧ s.basesUnset g = false ∧ s.armed = true ∧ s.role ≠ roleSTANDBY ∧ s.sdcRun = true
    (¬ may ∨ s.mode g = mSTOPPING → ∃ t, exec (.groupStart p g) s = .next t ∧ RefusesWrite s t p (Reg.GFM_CTRL_EN g).addr) ∧
    (may → s.mode g = mOFF → pu ≤ 2 * r.trkT.v → ∃ t, exec (.groupStart p g) s = .next t ∧ t.on (Reg.GFM_CTRL_EN g) = true ∧
      t.on (Reg.GFM_STATUS_RUN g) = true ∧ t.mode g = (if r.brkClosed then mCONNECTED else mISLAND) ∧ (t.grp g).omega = r.trkT.f ∧
      (t.grp g).theta = r.trkT.th ∧ (t.grp g).eRef = r.trkT.v ∧ (t.grp g).govP = Gov.at 0 ∧ (t.grp g).govQ = Gov.at 0 ∧
      (t.grp g).govF = Gov.at r.trkT.f ∧ (t.grp g).govV = Gov.at r.trkT.v ∧ (∀ h, h ≠ g.val → t.grp h = s.grp h) ∧
      t.fld (Reg.GFM_ILIM_NOW g) = unsignedOf 32 (t.grp g).ilim % 2 ^ 32 ∧ (t.grp g).ilim = milli (s.fld (Reg.GFM_ILIM_IST g)) ∧
      OnlyFlds [Reg.GFM_CTRL_EN g, Reg.GFM_STATUS_RUN g, Reg.GFM_EVT_STATUS_MODE g, Reg.GFM_ILIM_NOW g, Reg.SYS_EVENT_PORTCOL_S] s t) ∧
    (may → s.mode g = mOFF → 2 * r.trkT.v < pu → s.sfld (Reg.GFM_VDC_MEAS g) < milli (s.fld (Reg.GFM_BS_CFG_VDC_MIN g)) →
      ∃ t, exec (.groupStart p g) s = .next t ∧ t.on (Reg.GFM_EVT_STATUS_BSFAIL_S g) = true ∧ t.on (Reg.GFM_CTRL_EN g) = false ∧
        t.mode g = mOFF ∧ t.grid = s.grid) ∧
    (may → s.mode g = mOFF → 2 * r.trkT.v < pu → milli (s.fld (Reg.GFM_BS_CFG_VDC_MIN g)) ≤ s.sfld (Reg.GFM_VDC_MEAS g) →
      ∃ t, exec (.groupStart p g) s = .next t ∧ t.mode g = mBLACK ∧ t.on (Reg.GFM_CTRL_EN g) = true ∧ (t.grp g).theta = 0 ∧
        (t.grp g).eRef = milli (s.fld (Reg.GFM_BS_RAMP_VSTART g)) ∧ (t.grp g).omega = (t.grp g).govF.out ∧
        OnlyBlocks [0, 3, 5, 12] s t)) ∧
  (∀ (s : State) (p : Port) (g : Fin 8), s.Takes p (Reg.GFM_CTRL_EN g).addr → s.gfmOpen g = true → s.role ≠ roleSTANDBY →
    (s.mode g = mOFF ∨ s.mode g = mSTOPPING → ∃ t, exec (.groupStop p g) s = .next t ∧
      t.regs = (s.noteWrite p (Reg.GFM_CTRL_EN g).addr).regs ∧ t.grp g = { s.grp g with stopAct := false } ∧
      Within [.regs, .grid] s t) ∧
    (s.mode g = mRIDE → ∃ t, exec (.groupStop p g) s = .next t ∧ t.mode g = mRIDE ∧ (t.grp g).stopInRide = true) ∧
    (s.mode g = mISLAND ∨ s.mode g = mCONNECTED ∨ s.mode g = mSYNCING ∨ s.mode g = mBLACK → ∃ t, exec (.groupStop p g) s = .next t ∧
      t.mode g = mSTOPPING ∧ (t.grp g).stopPhase = 1 ∧ (t.grp g).stopFrom = s.mode g ∧ (t.grp g).stopAt = s.now ∧
      (t.grp g).omega = (s.grp g).omega)) ∧
  (∀ (s : State) (g : Fin 8), s.mode g = mSTOPPING → (s.grp g).stopPhase = 1 →
    ((s.grp g).stopAt + msCycles 30000 ≤ s.now → ∃ t, exec (.stopWaitTimeout g) s = .next t ∧ t.regs = s.regs ∧
      (t.grp g).stopPhase = (if (s.grp g).stopFrom = mISLAND ∨ (s.grp g).stopFrom = mSYNCING ∨ (s.grp g).stopFrom = mBLACK
        then 2 else 3)) ∧
    (s.now < (s.grp g).stopAt + msCycles 30000 → exec (.stopWaitTimeout g) s = .next s)) ∧
  (∀ (s : State) (g : Fin 8), s.mode g = mSTOPPING → (s.grp g).stopPhase = 3 → (∀ n, n < 64 → s.legIn g n = true → s.atStart n = true) →
    ∃ t, exec (.stopLegsOff g) s = .next t ∧ t.mode g = mOFF ∧ t.on (Reg.GFM_CTRL_EN g) = false ∧ t.on (Reg.GFM_STATUS_RUN g) = false ∧
      (t.grp g).syncClose = false ∧ OnlyBlocks [3, 5, 6, 12] s t ∧
      ∀ n, n < 64 → s.legIn g n = true → t.fld (Reg.PWM_LEG_STATUS_STATE n) = legOFF ∨ t.fld (Reg.PWM_LEG_STATUS_STATE n) = legFORCED)

/-- Resynchronisation (R62, R80 to R84): ARM, the return of the grid, SYNC_CLOSE after the dwell with its stamp and count, the end of its pulse,
and a breaker that does not close in time.
The model's choices in it: log entries 26, 154, 159. -/
def Obligations.ResynchronisationStepByStep : Prop :=
  (∀ (s : State) (p : Port) (g : Fin 8), s.Takes p (Reg.GFM_SYNC_CTRL_ARM g).addr → s.gfmOpen g = true → s.role ≠ roleSTANDBY →
    (s.gridSet g = false → ∃ t, exec (.syncArm p g) s = .next t ∧ RefusesWrite s t p (Reg.GFM_SYNC_CTRL_ARM g).addr) ∧
    (s.gridSet g = true → s.mode g = mCONNECTED → exec (.syncArm p g) s = .next (s.noteWrite p (Reg.GFM_SYNC_CTRL_ARM g).addr)) ∧
    (s.gridSet g = true → s.mode g ≠ mCONNECTED → ∃ t, exec (.syncArm p g) s = .next t ∧ t.on (Reg.GFM_SYNC_CTRL_ARM g) = true ∧
      OnlyFlds [Reg.GFM_SYNC_CTRL_ARM g, Reg.SYS_EVENT_PORTCOL_S] s t ∧ Within [.regs] s t) ∧
    (s.on (Reg.GFM_SYNC_CTRL_AUTO g) = true → ∃ t, exec (.syncDisarm p g) s = .next t ∧ t.on (Reg.GFM_SYNC_CTRL_ARM g) = false ∧
      OnlyFlds [Reg.GFM_SYNC_CTRL_ARM g, Reg.SYS_EVENT_PORTCOL_S] s t ∧ t.grid = s.grid) ∧
    (s.on (Reg.GFM_SYNC_CTRL_AUTO g) = false → s.mode g = mSYNCING → ∃ t, exec (.syncDisarm p g) s = .next t ∧
      t.on (Reg.GFM_SYNC_CTRL_ARM g) = false ∧ t.mode g = mISLAND ∧ (t.grp g).syncClose = false ∧
      OnlyFlds [Reg.GFM_SYNC_CTRL_ARM g, Reg.GFM_EVT_STATUS_MODE g, Reg.SYS_EVENT_PORTCOL_S] s t)) ∧
  (∀ (s : State) (g : Fin 8), s.mode g = mISLAND → (s.grp g).brkClosed = false → (s.grp g).gridBack = false →
    heldFor (s.grp g).gridTime (msTicks (100 * s.fld (Reg.GFM_GRID_QUAL_TQUAL g))) = true →
    ∃ t, exec (.gridReturned g) s = .next t ∧ t.on (Reg.GFM_EVT_STATUS_GRIDRET_S g) = true ∧ (t.grp g).gridBack = true ∧
      t.mode g = (if s.on (Reg.GFM_SYNC_CTRL_AUTO g) || s.on (Reg.GFM_SYNC_CTRL_ARM g) then mSYNCING else mISLAND)) ∧
  (∀ (s : State) (g : Fin 8), let r := s.grp g
    s.mode g = mSYNCING → r.syncClose = false → r.closeWait = false → r.brkInvalid = false → s.role ≠ roleSTANDBY →
    heldFor r.dwell (msTicks (s.fld (Reg.GFM_SYNC_T_TDWELL g))) = true →
    ∃ t, exec (.syncCloseAssert g) s = .next t ∧ (t.grp g).syncClose = true ∧ (t.grp g).closeAt = s.now ∧ (t.grp g).closeWait = true ∧
      t.on (Reg.GFM_EVT_STATUS_CLOSE_S g) = true ∧ t.fld (Reg.GFM_EVT_CNT_CLOSE_CNT g) = s.counted (Reg.GFM_EVT_CNT_CLOSE_CNT g) ∧
      t.fld (Reg.GFM_CLOSE_STAMP_LO g) = s.now % 2 ^ 32 ∧ t.fld (Reg.GFM_CLOSE_STAMP_HI g) = s.now / 2 ^ 32 ∧
      OnlyFlds [Reg.GFM_EVT_STATUS_CLOSE_S g, Reg.GFM_EVT_CNT_CLOSE_CNT g, Reg.GFM_CLOSE_STAMP_LO g, Reg.GFM_CLOSE_STAMP_HI g] s t) ∧
  (∀ (s : State) (g : Fin 8), (s.grp g).pulse = true →
    (s.grp g).closeAt + msCycles (10 * s.fld (Reg.GFM_SYNC_CTRL_PULSE g)) ≤ s.now →
    ∃ t, exec (.syncClosePulseEnd g) s = .next t ∧ (t.grp g).syncClose = false ∧ (t.grp g).pulse = false ∧ t.regs = s.regs) ∧
  (∀ (s : State) (g : Fin 8), s.mode g = mSYNCING → (s.grp g).closeWait = true →
    (s.closeDue g = true → exec (.closeWaitTimeout g) s = .next s) ∧
    ((s.grp g).closeAt + s.closeLimit g ≤ s.now → s.closeDue g = false → ∃ t, exec (.closeWaitTimeout g) s = .next t ∧
      t.on (Reg.GFM_EVT_STATUS_CLOSEFAIL_S g) = true ∧ (t.grp g).syncClose = false ∧ (t.grp g).closeWait = false ∧ t.mode g = mSYNCING ∧
      OnlyFlds [Reg.GFM_EVT_STATUS_CLOSEFAIL_S g] s t) ∧
    (s.now < (s.grp g).closeAt + s.closeLimit g → exec (.closeWaitTimeout g) s = .next s))

/-- A breaker state that becomes open (R78, R79): SYNC_CLOSE low, GRIDLOSS_S, and ISLAND from CONNECTED, or RIDE marked to return to ISLAND, with the
control states untouched. One that becomes closed (R84, R85): CONNECTED from SYNCING and ISLAND, with UNSYNC_S where SYNC_CLOSE is low. -/
def Obligations.BreakerChangesMoveTheMode : Prop :=
  ∀ (s : State) (g : Fin 8), let r := s.grp g
    s.brkBad g = false → r.brkSince + msCycles (s.fld (Reg.GFM_BRK_TDEB g)) ≤ s.now →
    let kept (t : State) : Prop := (t.grp g).omega = r.omega ∧ (t.grp g).omegaD = r.omegaD ∧ (t.grp g).theta = r.theta ∧
      (t.grp g).govP = r.govP ∧ (t.grp g).govQ = r.govQ ∧ (t.grp g).govF = r.govF ∧ (t.grp g).govV = r.govV ∧ (t.grp g).eRef = r.eRef
    (s.brkReading g = some false → r.brkRaw = false → r.brkClosed = true →
      (s.mode g = mCONNECTED → ∃ t, exec (.breakerStateChange g) s = .next t ∧ (t.grp g).brkClosed = false ∧ (t.grp g).syncClose = false ∧
        t.on (Reg.GFM_EVT_STATUS_GRIDLOSS_S g) = true ∧ t.mode g = mISLAND ∧ kept t ∧
        OnlyFlds [Reg.GFM_EVT_STATUS_GRIDLOSS_S g, Reg.GFM_EVT_STATUS_MODE g] s t) ∧
      (s.mode g = mRIDE → r.rideFrom = mCONNECTED → ∃ t, exec (.breakerStateChange g) s = .next t ∧ (t.grp g).syncClose = false ∧
        t.on (Reg.GFM_EVT_STATUS_GRIDLOSS_S g) = true ∧ t.mode g = mRIDE ∧ (t.grp g).rideFrom = mISLAND ∧ kept t ∧
        OnlyFlds [Reg.GFM_EVT_STATUS_GRIDLOSS_S g] s t)) ∧
    (s.brkReading g = some true → r.brkRaw = true → r.brkClosed = false →
      (s.mode g = mSYNCING → r.syncClose = true → ∃ t, exec (.breakerStateChange g) s = .next t ∧ (t.grp g).brkClosed = true ∧
        t.mode g = mCONNECTED ∧ kept t ∧ OnlyFlds [Reg.GFM_EVT_STATUS_MODE g] s t) ∧
      (s.mode g = mSYNCING → r.syncClose = false → s.actionOf g 0x0A = 0 → ∃ t, exec (.breakerStateChange g) s = .next t ∧
        t.on (Reg.GFM_EVT_STATUS_UNSYNC_S g) = true ∧ t.mode g = mCONNECTED ∧ t.fld (Reg.GFM_FA_LAST_SOURCE g) = 0x0A ∧
        (t.grp g).closeWait = false ∧ kept t) ∧
      (s.mode g = mISLAND → s.actionOf g 0x0A = 0 → ∃ t, exec (.breakerStateChange g) s = .next t ∧
        t.on (Reg.GFM_EVT_STATUS_UNSYNC_S g) = true ∧ t.mode g = mCONNECTED ∧ t.fld (Reg.GFM_FA_LAST_SOURCE g) = 0x0A ∧ kept t))

/-- The timers of a group and their fault actions (R64, R66, R70, R71, R75, R76, R88): a time that has run out records its event and runs the
assigned action with FA_LAST, FA_S and FA_STAMP; RIDE ends in the mode it came from with ω_d = ω; a settled black start is an island; the
limiter's allowance ends after TST and returns after TREC.
The model's choices in it: log entries 26, 152, 158. -/
def Obligations.GroupTimersRunTheirActions : Prop :=
  (∀ (s : State) (g : Fin 8) (t0 : Nat), (s.grp g).vdcLow = some t0 → (s.grp g).vdcDone = false →
    s.on (Reg.GFM_STATUS_RUN g) = true → t0 + msCycles 10 ≤ s.now →
    s.role ≠ roleSTANDBY → s.inProgress g ≤ severity (s.actionOf g 9) →
    ∃ t, exec (.dcBusLowTimeout g) s = .next t ∧
      (s.actionOf g 9 ≤ 3 → t.fld (Reg.GFM_FA_LAST_ACTION g) = s.actionOf g 9 ∧ t.fld (Reg.GFM_FA_LAST_SOURCE g) = 9 ∧
        t.on (Reg.GFM_EVT_STATUS_FA_S g) = true ∧ t.fld (Reg.GFM_FA_STAMP_LO g) = s.now % 2 ^ 32 ∧
        t.fld (Reg.GFM_FA_STAMP_HI g) = s.now / 2 ^ 32) ∧
      (s.actionOf g 9 < 2 → t.mode g = s.mode g ∧ OnlyBlocks [3, 11, 13] s t) ∧
      (s.actionOf g 9 = 2 → (t.grp g).derated = true ∧ (t.grp g).ilim ≤ pu / 2 ∧
        t.fld (Reg.GFM_ILIM_NOW g) = unsignedOf 32 (t.grp g).ilim % 2 ^ 32 ∧ t.mode g = s.mode g) ∧
      (s.actionOf g 9 = 3 → s.mode g = mISLAND → t.mode g = mSTOPPING ∧ (t.grp g).stopFrom = mISLAND) ∧
      (s.actionOf g 9 = 4 → s.controlled g = true → t.mode g = mOFF ∧ t.on (Reg.GFM_CTRL_EN g) = false ∧
        t.on (Reg.GFM_STATUS_RUN g) = false)) ∧
  (∀ (s : State) (g : Fin 8), s.mode g = mRIDE → s.mayExit g = false →
    ((s.grp g).tzDone = false → (s.grp g).tzLim ≤ (s.grp g).zeroTime → s.actionOf g 3 = 0 →
      ∃ t, exec (.zeroVoltageTimeout g) s = .next t ∧ t.on (Reg.GFM_EVT_STATUS_FRTX_S g) = true ∧ t.fld (Reg.GFM_FA_LAST_SOURCE g) = 3 ∧
        ((s.grp g).stopInRide = false → t.mode g = mRIDE)) ∧
    ((s.grp g).tlDone = false → (s.grp g).tlLim ≤ (s.grp g).rideTime → s.actionOf g 4 = 0 →
      ∃ t, exec (.rideTimeout g) s = .next t ∧ t.on (Reg.GFM_EVT_STATUS_FRTX_S g) = true ∧ t.fld (Reg.GFM_FA_LAST_SOURCE g) = 4 ∧
        ((s.grp g).stopInRide = false → t.mode g = mRIDE))) ∧
  (∀ (s : State) (g : Fin 8), s.mayExit g = true → ((s.grp g).rideFrom = mISLAND ∨ (s.grp g).rideFrom = mCONNECTED) →
    ∃ t, exec (.rideExit g) s = .next t ∧ (t.grp g).omega = (s.grp g).omega ∧ (t.grp g).omegaD = (s.grp g).omega ∧
      t.on (Reg.GFM_EVT_STATUS_REC g) = ((s.grp g).recActive || (s.grp g).rideBound) ∧
      ((s.grp g).stopInRide = false → t.mode g = (s.grp g).rideFrom ∧
        OnlyFlds [Reg.GFM_EVT_STATUS_MODE g, Reg.GFM_EVT_STATUS_REC g] s t) ∧
      ((s.grp g).stopInRide = true → t.mode g = mSTOPPING ∧ (t.grp g).stopFrom = (s.grp g).rideFrom)) ∧
  (∀ (s : State) (g : Fin 8), s.mode g = mBLACK →
    ((s.grp g).bsDone = false → s.tramp g < (s.grp g).bsHoldTime → s.actionOf g 5 = 0 → ∃ t, exec (.blackStartFluxTimeout g) s = .next t ∧
      t.on (Reg.GFM_EVT_STATUS_BSFAIL_S g) = true ∧ t.fld (Reg.GFM_FA_LAST_SOURCE g) = 5 ∧ t.mode g = mBLACK) ∧
    (heldFor (s.grp g).settleTime (msTicks (s.fld (Reg.GFM_BS_FLUX_TSETTLE g))) = true →
      ((s.grp g).brkClosed = false → ∃ t, exec (.blackStartSettled g) s = .next t ∧
        t.mode g = mISLAND ∧ t.grid = s.grid ∧ OnlyFlds [Reg.GFM_EVT_STATUS_MODE g] s t) ∧
      ((s.grp g).brkClosed = true → s.actionOf g 0x0A = 0 → ∃ t, exec (.blackStartSettled g) s = .next t ∧
        t.mode g = mCONNECTED ∧ t.on (Reg.GFM_EVT_STATUS_UNSYNC_S g) = true ∧ t.fld (Reg.GFM_FA_LAST_SOURCE g) = 0x0A))) ∧
  (∀ (s : State) (g : Fin 8), s.mode g ≠ mOFF →
    ((s.grp g).falling = false → msTicks (s.fld (Reg.GFM_ILIM_T_TST g)) ≤ (s.grp g).bindTime → ∃ t, exec (.ilimShortTermExpiry g) s = .next t ∧
      (t.grp g).falling = true ∧ (t.grp g).ilim = (s.grp g).ilim ∧ t.regs = s.regs) ∧
    (msTicks (s.fld (Reg.GFM_ILIM_T_TREC g)) ≤ (s.grp g).lowTime → (s.grp g).derated = false → ∃ t, exec (.ilimRestore g) s = .next t ∧
      (t.grp g).falling = false ∧ (t.grp g).bindTime = 0 ∧ (t.grp g).ilim = milli (s.fld (Reg.GFM_ILIM_IST g)) ∧
      OnlyFlds [Reg.GFM_ILIM_NOW g] s t))

/-- A rotor tick (R38 to R40, R49, R55): with valid operands outside RIDE and BLACK_START the rotor follows the swing equation within [FMIN,
FMAX], and
θ advances by the new ω at the tick weight, whatever the mode; the P governor takes its tick toward the clamped set-point; the live registers
report the rotor. With invalid operands ω is held and θ still advances, HELD_S is set, and the fault action for source 0x01 is recorded; an
invalid capacitor voltage is held and recorded alike (R7).
The model's choices in it: log entries 21, 65, 66, 149, 151, 155, 156, 157. -/
def Obligations.RotorTicksFollowTheSwingEquation : Prop :=
  ∀ (s : State) (g : Fin 8) (rec' : GroupRec) (m : TickMeas), s.groupRec g = some rec' → rec'.typ < 3 → s.armed = true →
    s.marked (0x2040 + g.val) = false →
    let r := s.grp g
    let i := s.tickIn g rec' m
    let lo := s.centiHz g (s.fld (Reg.GFM_FLIM_FMIN g))
    let hi := s.centiHz g (s.fld (Reg.GFM_FLIM_FMAX g))
    let pm := milli (s.fld (Reg.GFM_PQMAX_PMAX g))
    (s.mode g = mOFF → ∃ t, exec (.rotorTick g m) s = .next t ∧ t.mode g = mOFF ∧ (t.grp g).omega = r.omega ∧ (t.grp g).theta = r.theta ∧
      (t.grp g).trkT = r.trkT.tick (s.fB g) i.w i.kth r.omega i.vOk i.one m.kSogi.toInt i.vAl i.vBe) ∧
    (s.mode g ≠ mOFF → i.vOk = true → i.iOk = true → m.vcA ≠ nav → m.vcB ≠ nav → m.vc0 ≠ nav → ∃ t, exec (.rotorTick g m) s = .next t ∧
      (t.grp g).theta = turn r.theta (t.grp g).omega i.w i.kth ∧
      (lo ≤ hi → lo ≤ (t.grp g).omega ∧ (t.grp g).omega ≤ hi) ∧
      t.fld (Reg.GFM_ROTOR_F g) = unsignedOf 32 (clampInt (t.grp g).omega) % 2 ^ 32 ∧
      t.fld (Reg.GFM_ROTOR_TH g) = unsignedOf 32 (clampInt (t.grp g).theta) % 2 ^ 32 ∧
      (s.mode g ≠ mBLACK → t.mode g ≠ mRIDE →
        (t.grp g).omega = within lo hi (swing r.omega r.omegaD (t.grp g).govP.out ((t.grp g).govF.out + roundShift (t.grp g).steerF 28)
          (t.grp g).pe i.w (s.coef g 0x01) (s.coef g 0x03) (s.coef g 0x04)) ∧
        (t.grp g).omegaD = washout r.omega r.omegaD i.w (s.coef g 0x02)) ∧
      (s.mode g ≠ mSTOPPING → (t.grp g).govP = r.govP.tick (within (-pm) pm (s.sfld (Reg.GFM_PSET g))) i.w
        (s.fld (Reg.GFM_SLEW_PQ_RATE_P g)) (s.fld (Reg.GFM_ACCEL_PQ_ACC_P g)))) ∧
    (s.mode g = mISLAND ∨ s.mode g = mCONNECTED → s.on (Reg.GFM_FRT_CFG_FRT_EN g) = false → (i.vOk && i.iOk) = false → s.actionOf g 1 = 0 →
      ∃ t, exec (.rotorTick g m) s = .next t ∧ (lo ≤ r.omega → r.omega ≤ hi → (t.grp g).omega = r.omega) ∧
        (t.grp g).theta = turn r.theta (t.grp g).omega i.w i.kth ∧ t.on (Reg.GFM_STATUS_HELD_S g) = true ∧
        t.fld (Reg.GFM_FA_LAST_SOURCE g) = 1) ∧
    (s.mode g = mISLAND ∨ s.mode g = mCONNECTED → s.on (Reg.GFM_FRT_CFG_FRT_EN g) = false → i.vOk = true → i.iOk = true →
      m.vcA = nav ∨ m.vcB = nav ∨ m.vc0 = nav → s.actionOf g 1 = 0 → ∃ t, exec (.rotorTick g m) s = .next t ∧
        (t.grp g).theta = turn r.theta (t.grp g).omega i.w i.kth ∧ t.on (Reg.GFM_STATUS_HELD_S g) = true ∧
        t.fld (Reg.GFM_FA_LAST_SOURCE g) = 1)
/-! Draft, survey and commit. -/

/-- The image store (R149 to R153): VERIFY locks a slot unless an image is on its way or the slot is the active one; a verified image is LOADING
and then STAGED, a failed one reports its result; DISCARD returns a staged image that no commit holds; the last old execution ends a swap.
The model's choices in it: log entries 38, 39, 100. -/
def Obligations.ImagesAreVerifiedStagedAndSwapped : Prop :=
  (∀ (s : State) (p : Port) (slot : Fin 4), s.Takes p Reg.STG_ATL_CTRL_SLOT.addr →
    let bad := 2 ≤ s.fld Reg.STG_ATL_STATUS_STATE ∨ (s.stg.active.isSome = true ∧ s.fld Reg.STG_ATL_STATUS_ACT_SLOT = slot.val)
    (bad → ∃ t, exec (.imageVerify p slot) s = .next t ∧ RefusesWrite s t p Reg.STG_ATL_CTRL_SLOT.addr) ∧
    (¬ bad → ∃ t, exec (.imageVerify p slot) s = .next t ∧ t.fld Reg.STG_ATL_STATUS_STATE = 2 ∧
      t.fld Reg.STG_ATL_STATUS_STG_SLOT = slot.val ∧ Within [.regs] s t ∧
      OnlyFlds [Reg.STG_ATL_CTRL_SLOT, Reg.STG_ATL_STATUS_STG_SLOT, Reg.STG_ATL_STATUS_STATE, Reg.SYS_EVENT_PORTCOL_S] s t)) ∧
  (∀ s : State, s.fld Reg.STG_ATL_STATUS_STATE ≠ 2 ∨ s.fld Reg.SYS_BOOT_STATUS_PHASE = 4 → exec .imageVerifyDone s = .next s) ∧
  (∀ s : State, s.fld Reg.STG_ATL_STATUS_STATE = 2 → s.coreReady (0x100000 * s.fld Reg.STG_ATL_STATUS_STG_SLOT) 0x100000 = false →
    ∃ t, exec .imageVerifyDone s = .next t ∧ t.fld Reg.STG_ATL_STATUS_STATE = 2 ∧ t.stg = s.stg ∧
      OnlyFlds [Reg.MEM_TRK_STALL_CNT_B_STALL] s t) ∧
  (∀ s : State, s.fld Reg.STG_ATL_STATUS_STATE = 2 → s.fld Reg.SYS_BOOT_STATUS_PHASE ≠ 4 →
    s.coreReady (0x100000 * s.fld Reg.STG_ATL_STATUS_STG_SLOT) 0x100000 = true →
    let c := s.coreDone.checkImage (0x100000 * s.fld Reg.STG_ATL_STATUS_STG_SLOT)
    let v : Surv := { st := c.1, img := c.2.img, staged := true, swap := false }
    (c.2.result ≠ 0 → ∃ t, exec .imageVerifyDone s = .next t ∧ t.on Reg.STG_ATL_STATUS_FAIL_S = true ∧
      t.fld Reg.STG_ATL_STATUS_STATE = (if s.stg.active.isSome then 1 else 0) ∧
      t.fld Reg.STG_ATL_STATUS_RESULT = c.2.result % 2 ^ Reg.STG_ATL_STATUS_RESULT.width ∧ t.stg = s.stg) ∧
    (c.2.result = 0 → v.check = none → (c.1.armed && v.swapChecks.isSome) = false → ∃ t, exec .imageVerifyDone s = .next t ∧
      t.fld Reg.STG_ATL_STATUS_STATE = 3 ∧ t.stg.loading = some c.2.img ∧ t.stg.staged = s.stg.staged)) ∧
  (∀ (s : State) (i : Img), s.stg.loading = some i → s.pending = [] → s.later = [] → s.boot.held = false → s.host.svcQ = [] →
    s.sec.op = none → s.snd.log = [] → ∃ t, step s = .next t ∧ t.fld Reg.STG_ATL_STATUS_STATE = 4 ∧ t.fld Reg.STG_ATL_STATUS_RESULT = 0 ∧
      t.stg.loading = none ∧ t.stg.staged = some i ∧ t.fld Reg.STG_ATL_STG_ID_LO = i.idLo % 2 ^ 32 ∧
      t.fld Reg.STG_ATL_STG_ID_HI = i.idHi % 2 ^ 32) ∧
  (∀ (s : State) (p : Port), s.Takes p Reg.STG_ATL_CTRL_DISCARD.addr →
    let ok := s.fld Reg.STG_ATL_STATUS_STATE = 4 ∧ s.stgState ≠ sPENDING ∧ s.stgState ≠ sAPPLYING
    (ok → ∃ t, exec (.imageDiscard p) s = .next t ∧ t.stg.staged = none ∧
      t.fld Reg.STG_ATL_STATUS_STATE = (if s.stg.active.isSome then 1 else 0) ∧ t.regs.shadow = s.regs.shadow ∧
      OnlyFlds [Reg.STG_ATL_STATUS_STATE, Reg.SYS_EVENT_PORTCOL_S] s t) ∧
    (¬ ok → ∃ t, exec (.imageDiscard p) s = .next t ∧ RefusesWrite s t p Reg.STG_ATL_CTRL_DISCARD.addr)) ∧
  (∀ s : State, s.fld Reg.STG_ATL_STATUS_STATE = 5 →
    (s.oldRuns = false → ∃ t, exec .swapComplete s = .next t ∧ t.fld Reg.STG_ATL_STATUS_STATE = 1 ∧ t.on Reg.STG_ATL_STATUS_SWAP_S = true ∧
      t.fld Reg.STG_ATL_STATUS_ACT_SLOT = s.fld Reg.STG_ATL_STATUS_STG_SLOT % 4 ∧
      t.fld Reg.STG_ATL_SWAP_CNT_SWAP_CNT = s.counted Reg.STG_ATL_SWAP_CNT_SWAP_CNT ∧ t.eng.coefStg = s.eng.coefOld ∧
      t.eng.bunStg = s.eng.bunOld ∧ t.stg.retiring = none ∧ t.eng.coef = s.eng.coef ∧ t.eng.st = s.eng.st ∧
      OnlyFlds [Reg.STG_ATL_STATUS_STATE, Reg.STG_ATL_STATUS_ACT_SLOT, Reg.STG_ATL_STATUS_SWAP_S, Reg.STG_ATL_SWAP_CNT_SWAP_CNT] s t) ∧
    (s.oldRuns = true → exec .swapComplete s = .next s))

/-- Surveys (R159, R164 to R166): SURVEY and GO start one in the states that allow it and are refused in the others; a survey that fails reports
its finding and returns the state, one that passes leads to SURVEYED or, for GO, to PENDING with a commit instant, or is too late. It changes
nothing in effect. A write of a draft beside SURVEY or GO of its C-cycle acts after it.
The model's choices in it: log entries 3, 42, 44. -/
def Obligations.SurveysJudgeTheDraft : Prop :=
  (∀ (s : State) (p : Port), s.Takes p addrStgCtrl →
    let ok := s.stgState = sIDLE ∨ s.stgState = sDRAFTING ∨ s.stgState = sSURVEYED
    let okGo := (s.stgState = sDRAFTING ∨ s.stgState = sSURVEYED ∨ (s.stgState = sIDLE ∧ s.stg.staged.isSome = true)) ∧
      (s.on Reg.TWN_CTRL_PAIR_EN = false ∨ s.fld Reg.STG_COMMIT_CFG_MODE ≠ 0) ∧ s.on Reg.TWN_STATUS_HO_BUSY = false
    (ok → ∃ t, exec (.survey p) s = .next t ∧ t.stgState = sSURVEYING ∧ t.locked = true ∧ t.stg.go = false ∧ t.regs.shadow = s.regs.shadow ∧
      OnlyFlds [Reg.STG_STATUS_STATE, Reg.SYS_EVENT_PORTCOL_S] s t) ∧
    (¬ ok → ∃ t, exec (.survey p) s = .next t ∧ RefusesWrite s t p addrStgCtrl) ∧
    (okGo → ∃ t, exec (.commitGo p) s = .next t ∧ t.stgState = sSURVEYING ∧ t.locked = true ∧ t.stg.go = true ∧
      OnlyFlds [Reg.STG_STATUS_STATE, Reg.SYS_EVENT_PORTCOL_S] s t) ∧
    (s.stgState = sSURVEYING ∨ s.stgState = sPENDING ∨ s.stgState = sAPPLYING → ∃ t, exec (.commitGo p) s = .next t ∧
      RefusesWrite s t p addrStgCtrl)) ∧
  (∀ (s : State) (p q : Port) (a : Fin 0x4000) (v : Word), 4 * a.val ≠ addrStgCtrl → draftsAt (4 * a.val) = true →
    .survey q ∈ s.pending ∨ .commitGo q ∈ s.pending →
    exec (.registerWrite p a v) s = .next { s with later := s.later ++ [.registerWrite p a v] }) ∧
  (∀ s : State, s.stgState = sSURVEYING →
    (∀ f, s.surv.check = some f → ∃ t, exec .surveyDone s = .next t ∧ t.on Reg.STG_STATUS_SURVFAIL_S = true ∧
      t.fld Reg.STG_SURV_RESULT_CODE = f.code % 2 ^ Reg.STG_SURV_RESULT_CODE.width ∧ t.fld Reg.STG_SURV_ADDR = f.addr % 2 ^ 32 ∧
      t.stgState = (if s.regs.shadow.isEmpty && s.stg.cdraft.isEmpty then sIDLE else sDRAFTING) ∧ t.eng = s.eng ∧
      OnlyFlds [Reg.STG_SURV_RESULT_CODE, Reg.STG_SURV_RESULT_CELL, Reg.STG_SURV_RESULT_CTX, Reg.STG_SURV_RESULT_IMAGE, Reg.STG_SURV_ADDR,
        Reg.STG_STATUS_SURVFAIL_S, Reg.STG_STATUS_STATE] s t) ∧
    (s.surv.check = none → s.stg.go = false → ∃ t, exec .surveyDone s = .next t ∧ t.stgState = sSURVEYED ∧
      t.on Reg.STG_STATUS_SURVOK_S = true ∧ t.fld Reg.STG_SURV_RESULT_CODE = 0 ∧ t.eng.coef = s.eng.coef ∧ t.eng.bun = s.eng.bun ∧
      t.regs.shadow = s.regs.shadow ∧ t.grid = s.grid ∧ t.pwm = s.pwm) ∧
    (s.surv.check = none → s.stg.go = true → ∀ T, s.fixInstant = some T → ∃ t, exec .surveyDone s = .next t ∧ t.stgState = sPENDING ∧
      t.stg.commitAt = T ∧ t.eng.coef = s.eng.coef ∧
      (s.fld Reg.STG_COMMIT_CFG_MODE = 0 → t.fld Reg.STG_COMMIT_AT_LO = T % 2 ^ 32)) ∧
    (s.surv.check = none → s.stg.go = true → s.fixInstant = none → ∃ t, exec .surveyDone s = .next t ∧ t.stgState = sSURVEYED ∧
      t.on Reg.STG_STATUS_LATE_S = true)) ∧
  (∀ s : State, s.fld Reg.STG_COMMIT_CFG_MODE = 1 → s.role ≠ roleSTANDBY →
    let T := s.fld Reg.STG_COMMIT_AT_LO + 2 ^ 32 * s.fld Reg.STG_COMMIT_AT_HI
    s.fixInstant = if s.now + 40000 ≤ T then some T else none)

/-- Drafts (R158, R159, R161, R162): DISCARD empties the draft, or cancels a pending commit 4,000 C-cycles or more before its instant; an
expert append adds one coefficient entry and advances the address, up to 256 and only outside the lock; CDRAFT_CLR empties them.
The model's choices in it: log entry 64. -/
def Obligations.DraftsAreHeldAndDiscarded : Prop :=
  (∀ (s : State) (p : Port), s.Takes p addrStgCtrl →
    (s.stgState = sDRAFTING ∨ s.stgState = sSURVEYED → ∃ t, exec (.draftDiscard p) s = .next t ∧ t.stgState = sIDLE ∧ t.regs.shadow = [] ∧
      t.stg.cdraft = [] ∧ t.regs.com = s.regs.com ∧
      OnlyFlds [Reg.STG_STATUS_STATE, Reg.STG_CDRAFT_CNT_CNT, Reg.SYS_EVENT_PORTCOL_S] s t) ∧
    (s.stgState = sPENDING → s.now + 4000 ≤ s.stg.commitAt → ∃ t, exec (.draftDiscard p) s = .next t ∧ t.stgState = sSURVEYED ∧
      t.regs.shadow = s.regs.shadow ∧ t.stg.staged = s.stg.staged ∧ OnlyFlds [Reg.STG_STATUS_STATE, Reg.SYS_EVENT_PORTCOL_S] s t) ∧
    (s.stgState = sPENDING → s.stg.commitAt < s.now + 4000 → ∃ t, exec (.draftDiscard p) s = .next t ∧ RefusesWrite s t p addrStgCtrl) ∧
    (s.locked = false → ∃ t, exec (.cdraftClear p) s = .next t ∧ t.stg.cdraft = [] ∧ t.fld Reg.STG_CDRAFT_CNT_CNT = 0 ∧
      t.regs.shadow = s.regs.shadow ∧ OnlyFlds [Reg.STG_STATUS_STATE, Reg.STG_CDRAFT_CNT_CNT, Reg.SYS_EVENT_PORTCOL_S] s t) ∧
    (s.locked = true → ∃ t, exec (.cdraftClear p) s = .next t ∧ RefusesWrite s t p addrStgCtrl)) ∧
  (∀ (s : State) (p : Port) (w : Word), s.Takes p Reg.STG_CDRAFT_DATA.addr →
    let ok := s.expertStart = true ∧ s.locked = false ∧ s.stg.cdraft.length < 256
    (ok → ∃ t, exec (.cdraftAppend p w) s = .next t ∧ t.stg.cdraft = s.stg.cdraft ++ [(s.fld Reg.STG_CDRAFT_ADDR, w.toNat)] ∧
      t.fld Reg.STG_CDRAFT_ADDR = (s.fld Reg.STG_CDRAFT_ADDR + 4) % 2 ^ 32 ∧ t.fld Reg.STG_CDRAFT_CNT_CNT = s.stg.cdraft.length + 1 ∧
      t.stgState = sDRAFTING ∧ t.eng = s.eng ∧
      OnlyFlds [Reg.STG_CDRAFT_ADDR, Reg.STG_CDRAFT_CNT_CNT, Reg.STG_STATUS_STATE, Reg.SYS_EVENT_PORTCOL_S] s t) ∧
    (¬ ok → ∃ t, exec (.cdraftAppend p w) s = .next t ∧ t.stg = s.stg ∧ RefusesWrite s t p Reg.STG_CDRAFT_DATA.addr))

/-- Commits (R157, R167 to R169): at its instant a commit without an image puts the drafted values of domain C into effect and flips the cell
copies, with its stamp and COMMIT_S; one whose retiring contexts still fetch waits in APPLYING, and after 50 µs it is deferred; a committed
value of another domain is in effect when the strobe reaches that domain. Expert writes and update points of the C-cycle of the commit act after it.
The model's choices in it: log entries 3, 45, 165. -/
def Obligations.CommitsApplyAtTheirInstant : Prop :=
  (∀ s : State, s.stgState = sPENDING → s.now < s.stg.commitAt → exec .commitApply s = .next s) ∧
  (∀ s : State, .commitApply ∈ s.pending →
    (∀ p o w, exec (.expertCellWrite p o w) s = .next { s with later := s.later ++ [.expertCellWrite p o w] }) ∧
    ∀ n, exec (.updatePoint n) s = .next { s with later := s.later ++ [.updatePoint n] }) ∧
  (∀ s : State, s.stgState = sPENDING → s.stg.commitAt ≤ s.now → s.stg.withImg = false → ∃ t, exec .commitApply s = .next t ∧
    t.stgState = sIDLE ∧ t.on Reg.STG_STATUS_COMMIT_S = true ∧ t.regs.shadow = [] ∧ t.stg.cdraft = [] ∧
    t.fld Reg.STG_DONE_STAMP_LO = s.stg.commitAt % 2 ^ 32 ∧ t.fld Reg.STG_CDRAFT_CNT_CNT = 0 ∧
    t.eng.coef = s.eng.coefStg ∧ t.eng.bun = s.eng.bunStg ∧ t.eng.st = s.eng.st ∧
    ∀ (g : Fin 8) (v : Nat), s.regs.com = [] → s.regs.shadow = [((Reg.GFM_DROOP_MP g).key, v)] → v < 2 ^ 16 → t.fld (Reg.GFM_DROOP_MP g) = v) ∧
  (∀ s : State, s.stgState = sPENDING → s.stg.commitAt ≤ s.now → s.retiringCtxs.any s.fetchBusy = true → ∃ t,
    exec .commitApply s = .next t ∧ t.stgState = sAPPLYING ∧ t.on Reg.STG_STATUS_DELAY_S = true ∧ t.stg.waiting = true ∧
    t.stg.active = s.stg.active ∧ t.regs.shadow = s.regs.shadow ∧ OnlyFlds [Reg.STG_STATUS_STATE, Reg.STG_STATUS_DELAY_S] s t) ∧
  (∀ s : State, s.stgState = sAPPLYING → s.stg.waiting = true → s.stg.commitAt + 20000 < s.now → ∃ t, exec .commitDmaTimeout s = .next t ∧
    t.stgState = sSURVEYED ∧ t.on Reg.STG_STATUS_DEFER_S = true ∧ t.fld Reg.STG_CNT_DEFER_CNT = s.counted Reg.STG_CNT_DEFER_CNT ∧
    t.stg.waiting = false ∧ t.stg.staged = s.stg.staged ∧ t.regs.shadow = s.regs.shadow ∧
    OnlyFlds [Reg.STG_STATUS_STATE, Reg.STG_STATUS_DEFER_S, Reg.STG_CNT_DEFER_CNT] s t) ∧
  (∀ (s : State) (v : Nat), s.regs.com = [(Reg.SYS_HOST_CFG_SIL_MS.key, v)] → v < 2 ^ 16 → s.armed = true →
    s.fld Reg.SYS_HOST_CFG_SIL_MS = 0 → v ≠ 0 → ∃ t, exec (.commitDomainApply 2) s = .next t ∧ t.fld Reg.SYS_HOST_CFG_SIL_MS = v ∧
    t.regs.com = [] ∧ t.host.silFrom = some s.now)
/-! The Graticule engine. -/

/-- ADD, SUB, NEG, ABS, SHIFT and DIV: with valid operands the exact result, saturated, and SAT_S where saturation changed it; NaV with a NaV
operand, and for a zero divisor (R5, R99, R100, R102). Every other register, the accumulators and the memories stay as they are.
The model's choices in it: log entry 14. -/
def Obligations.ArithmeticOpsWriteSaturatedResults : Prop :=
  ∀ (s : State) (c : Fin 32) (n : Nat) (o : OpWord), s.Issues c n o →
    let x := s.reg n o.a
    let y := s.reg n o.b
    let nav := isNav x || isNav y
    (o.op = opADD → ∃ t, exec (.opAdd c) s = .next t ∧ WritesExact s t n o.d nav (wInt x + wInt y)) ∧
    (o.op = opSUB → ∃ t, exec (.opSub c) s = .next t ∧ WritesExact s t n o.d nav (wInt x - wInt y)) ∧
    (o.op = opNEG → ∃ t, exec (.opNeg c) s = .next t ∧ WritesExact s t n o.d (isNav x) (-wInt x)) ∧
    (o.op = opABS → ∃ t, exec (.opAbs c) s = .next t ∧ WritesExact s t n o.d (isNav x) ((wInt x).natAbs : Int)) ∧
    (o.op = opSHIFT → ∃ t, exec (.opShift c) s = .next t ∧
      WritesExact s t n o.d (isNav x) (if 0 ≤ signedOf 6 (o.imm % 64) then wInt x * 2 ^ (signedOf 6 (o.imm % 64)).toNat
        else roundDiv (wInt x) (2 ^ (-signedOf 6 (o.imm % 64)).toNat))) ∧
    (o.op = opDIV → ∃ t, exec (.opDiv c) s = .next t ∧
      WritesExact s t n o.d (nav || decide (y = 0)) (roundDiv (if 0 ≤ wInt y then wInt x * 2 ^ 28 else -(wInt x * 2 ^ 28)) (wInt y).natAbs))

/-- MIN, MAX, LIMIT, SEL, WRAP and SQRT write their word and never set SAT_S (R99, R100, R102). SEL with a negative condition writes
nothing. -/
def Obligations.SelectingOpsNeverSaturate : Prop :=
  ∀ (s : State) (c : Fin 32) (n : Nat) (o : OpWord), s.Issues c n o →
    let x := s.reg n o.a
    let y := s.reg n o.b
    let nav := isNav x || isNav y
    (o.op = opMIN → ∃ t, exec (.opMin c) s = .next t ∧
      WritesReg s t n o.d (if nav then navN else if wInt x ≤ wInt y then x else y) false) ∧
    (o.op = opMAX → ∃ t, exec (.opMax c) s = .next t ∧
      WritesReg s t n o.d (if nav then navN else if wInt x ≤ wInt y then y else x) false) ∧
    (o.op = opLIMIT → ∃ t, exec (.opLimit c) s = .next t ∧
      WritesReg s t n o.d (if nav || decide (wInt y < 0) then navN
        else unsignedOf 32 (if wInt y < wInt x then wInt y else if wInt x < -wInt y then -wInt y else wInt x)) false) ∧
    (o.op = opSEL → (isNav x = false ∧ wInt x < 0 → exec (.opSel c) s = .next (s.advance n)) ∧
      (isNav x = true ∨ 0 ≤ wInt x → ∃ t, exec (.opSel c) s = .next t ∧ WritesReg s t n o.d (if isNav x then navN else y) false)) ∧
    (o.op = opWRAP → ∃ t, exec (.opWrap c) s = .next t ∧ ∃ i : Int, -0x3243F6A9 ≤ i ∧ i < 0x3243F6A9 ∧
      (∃ k : Int, i = wInt x + k * (2 * 0x3243F6A9)) ∧ WritesReg s t n o.d (if isNav x then navN else unsignedOf 32 i) false) ∧
    (o.op = opSQRT → ∃ t, exec (.opSqrt c) s = .next t ∧
      WritesReg s t n o.d (if isNav x || decide (wInt x < 0) then navN else roundSqrt (x * 2 ^ 28)) false)

/-- SINCOS writes two registers, each within 79 units of 2^−28 of a reference rounded to nearest (R102 allows 3 × 10^−7, which is 80.5
units; how the error falls within the bound is a free value), and NaV for NaV (R100).
The model's choices in it: log entry 112. -/
def Obligations.SincosWritesSineAndCosine : Prop :=
  ∀ (s : State) (c : Fin 32) (n : Nat) (o : OpWord), s.Issues c n o → o.op = opSINCOS → o.d < 31 →
    ∃ t, exec (.opSincos c) s = .next t ∧ t.eng.accs = s.eng.accs ∧ t.eng.st = s.eng.st ∧ t.ctx n = (s.advance n).ctx n ∧ OnlyFlds [] s t ∧
      (∀ m r, s.bankKey m r ≠ s.bankKey n o.d → s.bankKey m r ≠ s.bankKey n (o.d + 1) → t.reg m r = s.reg m r) ∧
      (isNav (s.reg n o.a) = true → t.reg n o.d = navN ∧ t.reg n (o.d + 1) = navN) ∧
      (isNav (s.reg n o.a) = false → ∃ u v : Int, (u - sinRef (wInt (s.reg n o.a))).natAbs ≤ 79 ∧ (v - cosRef (wInt (s.reg n o.a))).natAbs ≤ 79 ∧
        t.reg n o.d = unsignedOf 32 u % 2 ^ 32 ∧ t.reg n (o.d + 1) = unsignedOf 32 v % 2 ^ 32)

/-- CLR, MUL, MAC and MSU (R97, R100, R102): the aligned product of two registers replaces, joins or leaves the accumulator, bounded at
±(2^15 − 2^−56), with ASAT_S where the bound acts; a NaV operand sets the NaV flag, and only CLR and MUL clear it.
The model's choices in it: log entry 113. -/
def Obligations.RegisterProductsAccumulate : Prop :=
  ∀ (s : State) (c : Fin 32) (n : Nat) (o : OpWord), s.Issues c n o →
    let x := s.reg n o.a
    let y := s.reg n o.b
    let nav := isNav x || isNav y
    let i := o.imm % 2
    let a := s.acc n i
    let joins (t : State) (v : Int) : Prop := ∃ z, WritesAcc s t n i z (!nav && decide (accClamp v ≠ v)) ∧ z.nav = (a.nav || nav) ∧
      z.val = if nav then a.val else accClamp v
    (o.op = opCLR → ∃ t, exec (.opClr c) s = .next t ∧ WritesAcc s t n i { val := 0, nav := false } false) ∧
    (o.op = opMUL → ∃ t, exec (.opMul c) s = .next t ∧ ∃ z, WritesAcc s t n i z false ∧ z.nav = nav ∧
      (nav = false → z.val = wInt x * wInt y)) ∧
    (o.op = opMAC → ∃ t, exec (.opMac c) s = .next t ∧ joins t (a.val + wInt x * wInt y)) ∧
    (o.op = opMSU → ∃ t, exec (.opMsu c) s = .next t ∧ joins t (a.val - wInt x * wInt y))

/-- MULC, MACC and MSUC (R93, R97, R100, R102): the product of a register and a sound coefficient word, aligned by the format of its
segment. A poisoned coefficient is NaV and sets POIS_S (R94).
The model's choices in it: log entry 113. -/
def Obligations.CoefficientProductsAccumulate : Prop :=
  ∀ (s : State) (c : Fin 32) (n : Nat) (o : OpWord), s.Issues c n o →
    let x := s.reg n o.a
    let w := s.coefWord n o.imm
    let nav := isNav x || isNav w.val
    let i := o.d % 2
    let a := s.acc n i
    let p := alignCoef (wInt x) (wInt w.val) (segFormat (s.cfmap n) o.imm)
    let joins (t : State) (v : Int) : Prop := ∃ z, WritesAcc s t n i z (!nav && decide (accClamp v ≠ v)) ∧ z.nav = (a.nav || nav) ∧
      z.val = if nav then a.val else accClamp v
    (w.ecc = .ok →
      (o.op = opMULC → ∃ t, exec (.opMulc c) s = .next t ∧ ∃ z, WritesAcc s t n i z (!nav && decide (accClamp p ≠ p)) ∧ z.nav = nav ∧
        (nav = false → z.val = accClamp p)) ∧
      (o.op = opMACC → ∃ t, exec (.opMacc c) s = .next t ∧ joins t (a.val + p)) ∧
      (o.op = opMSUC → ∃ t, exec (.opMsuc c) s = .next t ∧ joins t (a.val - p))) ∧
    (w.ecc = .bad → o.op = opMACC → ∃ t, exec (.opMacc c) s = .next t ∧ (t.acc n i).nav = true ∧
      t.on (Reg.GRT_CTX_STATUS_POIS_S (n % 128)) = true ∧ t.on Reg.GRT_STATUS_UE_S = true)

/-- MAC2 and MACC2 (R97, R102): both accumulators take a product each, of the registers A and A + 1. RND rounds an accumulator into the
coded format, to nearest with ties away from zero, saturates, and gives NaV for the NaV flag (R98). -/
def Obligations.PairProductsAndRounding : Prop :=
  (∀ (x : Int) (k : Nat), let q := roundDiv x (2 ^ k)
    2 * (q * 2 ^ k - x).natAbs ≤ 2 ^ k ∧ (2 * (q * 2 ^ k - x).natAbs = 2 ^ k → x.natAbs < q.natAbs * 2 ^ k)) ∧
  ∀ (s : State) (c : Fin 32) (n : Nat) (o : OpWord), s.Issues c n o →
    let grows (t : State) (i : Nat) (nav : Bool) (p : Int) : Prop := t.acc n i =
      if nav then { s.acc n i with nav := true } else { s.acc n i with val := accClamp ((s.acc n i).val + p) }
    let x := s.reg n o.a
    let x1 := s.reg n (o.a + 1)
    (o.op = opMAC2 → ∃ t, exec (.opMac2 c) s = .next t ∧ OnlyFlds [Reg.GRT_CTX_STATUS_ASAT_S (n % 128)] s t ∧ t.eng.banks = s.eng.banks ∧
      grows t 0 (isNav x || isNav (s.reg n o.b)) (wInt x * wInt (s.reg n o.b)) ∧
      grows t 1 (isNav x1 || isNav (s.reg n (o.b + 1))) (wInt x1 * wInt (s.reg n (o.b + 1)))) ∧
    (o.op = opMACC2 → (s.coefWord n o.imm).ecc = .ok → (s.coefWord n (o.imm + 1)).ecc = .ok →
      ∃ t, exec (.opMacc2 c) s = .next t ∧ OnlyFlds [Reg.GRT_CTX_STATUS_ASAT_S (n % 128)] s t ∧ t.eng.banks = s.eng.banks ∧
      grows t 0 (isNav x || isNav (s.coefWord n o.imm).val)
        (alignCoef (wInt x) (wInt (s.coefWord n o.imm).val) (segFormat (s.cfmap n) o.imm)) ∧
      grows t 1 (isNav x1 || isNav (s.coefWord n (o.imm + 1)).val)
        (alignCoef (wInt x1) (wInt (s.coefWord n (o.imm + 1)).val) (segFormat (s.cfmap n) (o.imm + 1)))) ∧
    (o.op = opRND → ∃ t, exec (.opRnd c) s = .next t ∧
      WritesExact s t n o.d (s.acc n (o.imm / 4 % 2)).nav (roundDiv (s.acc n (o.imm / 4 % 2)).val (2 ^ (56 - fracBits (o.imm % 4)))))

/-- LDC, LDS, STS and IN (R102, R103): raw words between the memories, the ports and the registers. A sound word is read as it stands;
a poisoned state word gives NaV with POIS_S (R94); a store replaces the whole word, unless a host word of this C-cycle stands, with
COLLIDE_S (R174).
The model's choices in it: log entry 13. -/
def Obligations.LoadsStoresAndInputs : Prop :=
  ∀ (s : State) (c : Fin 32) (n : Nat) (o : OpWord), s.Issues c n o →
    let k := s.cellOf n * 512 + o.imm % 512
    (o.op = opLDC → (s.coefWord n o.imm).ecc = .ok → ∃ t, exec (.opLdc c) s = .next t ∧
      WritesReg s t n o.d (s.coefWord n o.imm).val false) ∧
    (o.op = opLDS → (s.stWord (s.cellOf n) o.imm).ecc = .ok → ∃ t, exec (.opLds c) s = .next t ∧
      WritesReg s t n o.d (s.stWord (s.cellOf n) o.imm).val false) ∧
    (o.op = opLDS → (s.stWord (s.cellOf n) o.imm).ecc = .bad → ∃ t, exec (.opLds c) s = .next t ∧ t.reg n o.d = navN ∧
      t.on (Reg.GRT_CTX_STATUS_POIS_S (n % 128)) = true ∧ t.fld Reg.GRT_UE_ADDR = stAddr (s.cellOf n) (o.imm % 512) % 2 ^ 32) ∧
    (o.op = opSTS → s.eng.expNow.contains k = false → ∃ t, exec (.opSts c) s = .next t ∧
      t.stWord (s.cellOf n) o.imm = { val := s.reg n o.a } ∧ (∀ j, j ≠ k → tabGet {} t.eng.st j = tabGet {} s.eng.st j) ∧
      t.eng.banks = s.eng.banks ∧ t.eng.accs = s.eng.accs ∧ t.regs = s.regs) ∧
    (o.op = opSTS → s.eng.expNow.contains k = true → ∃ t, exec (.opSts c) s = .next t ∧ t.eng.st = s.eng.st ∧
      t.on (Reg.GRT_CTX_STATUS_COLLIDE_S (n % 128)) = true) ∧
    (o.op = opIN → o.imm % 64 < 32 → ∃ t, exec (.opIn c) s = .next t ∧
      WritesReg s t n o.d (tabGet navN s.eng.snap (n * 32 + o.imm % 64)) false) ∧
    (o.op = opIN → o.imm % 64 = 32 → ∃ t, exec (.opIn c) s = .next t ∧ WritesReg s t n o.d (s.ctx n).w.toNat false) ∧
    (o.op = opIN → o.imm % 64 = 33 → ∃ t, exec (.opIn c) s = .next t ∧ WritesReg s t n o.d ((s.ctx n).trigAt % 2 ^ 32) false)

/-- OUT (R7, R109, R116, R117): a word issued no later than the deadline of its one route reaches an input port; a late one is
discarded and counts a miss; NaV reaches no destination and is reported.
The model's choices in it: log entries 15, 31. -/
def Obligations.OutputsReachTheirDestinations : Prop :=
  ∀ (s : State) (c : Fin 32) (n : Nat) (o : OpWord) (r : RouteRec), s.Issues c n o → o.op = opOUT → o.imm % 64 < 32 →
    s.portRoutes n (o.imm % 64) = [r] → r.dstKind = 0 →
    (isNav (s.reg n o.a) = false → s.now ≤ (s.ctx n).deadline → ∃ t, exec (.opOut c) s = .next t ∧
      tabGet navN t.eng.inPorts (r.dstId * 32 + r.dstPort) = s.reg n o.a ∧
      (∀ k, k ≠ r.dstId * 32 + r.dstPort → tabGet navN t.eng.inPorts k = tabGet navN s.eng.inPorts k) ∧ t.eng.banks = s.eng.banks) ∧
    (isNav (s.reg n o.a) = false → s.enabled n = true → (s.ctx n).deadline < s.now → (s.ctx n).missed = false →
      ∃ t, exec (.opOut c) s = .next t ∧ t.eng.inPorts = s.eng.inPorts ∧ (t.ctx n).missed = true) ∧
    (isNav (s.reg n o.a) = true → s.now ≤ (s.ctx n).deadline → ∃ t, exec (.opOut c) s = .next t ∧
      t.eng.inPorts = s.eng.inPorts ∧ t.eng.outPorts = s.eng.outPorts)

/-- NOP, REP, FLAG and END (R102, R105, R110, R116): NOP only moves on, REP opens a repetition of the next A + 1 operations, FLAG of a nonzero
word sets one bit of the status destination, END frees the cell, and an on-time execution leaves MISS_RUN at 0.
The model's choices in it: log entry 30. -/
def Obligations.ControlOpsMoveOn : Prop :=
  ∀ (s : State) (c : Fin 32) (n : Nat) (o : OpWord), s.Issues c n o →
    (o.op = opNOP → exec (.opNop c) s = .next (s.advance n)) ∧
    (o.op = opREP → ∃ t, exec (.opRep c) s = .next t ∧ t = s.setCtx n (t.ctx n) ∧ (t.ctx n).pc = (s.ctx n).pc + 1 ∧
      (t.ctx n).rep = some { start := (s.ctx n).pc + 1, len := o.a + 1, step := o.b, pass := 0, total := o.imm % 256 + 1 }) ∧
    (o.op = opFLAG → s.reg n o.a = 0 → exec (.opFlag c) s = .next (s.advance n)) ∧
    (o.op = opFLAG → s.reg n o.a ≠ 0 → ∀ (r : RouteRec) (q : Row),
      ((s.routesOf n).filter fun r => r.srcKind == 3 && r.srcId == n % 128 && r.dstKind == 2) = [r] →
      (rowsAt r.regAddr).find? (fun q => q.acc == .w1c && decide (q.lo ≤ o.imm % 32) && decide (o.imm % 32 < q.lo + q.width)) = some q →
      exec (.opFlag c) s = .next ((s.advance n).raiseBit (q.fld r.regAddr) (o.imm % 32 - q.lo))) ∧
    (o.op = opEND → ∃ t, exec (.opEnd c) s = .next t ∧ (t.ctx n).phase = .idle ∧ t.runs (s.cellOf n) = none ∧ t.eng.banks = s.eng.banks ∧
      t.eng.accs = s.eng.accs) ∧
    (o.op = opEND → s.enabled n = true → s.now ≤ (s.ctx n).deadline → (s.ctx n).missed = false → ∃ t, exec (.opEnd c) s = .next t ∧
      t.fld (Reg.GRT_CTX_STATUS_MISS_RUN (n % 128)) = 0)

/-- FETCH and WAITF (R102, R123, R124): a fetch joins its channel's work; WAITF passes with every fetch complete, waits with one pending and
gives the cell up, and ends the execution after a faulted one. FETCH_COMPLETE makes the waiting context ready to go on. -/
def Obligations.FetchAndWait : Prop :=
  (∀ (s : State) (c : Fin 32) (n : Nat) (o : OpWord), s.Issues c n o →
    (o.op = opFETCH → ∀ ch, s.fetchCh n = some ch → (s.dch ch).halted = false → exec (.opFetch c) s = .next ((s.advance n).setDch ch
      { s.dch ch with jobs := (s.dch ch).jobs ++ [{ ctx := n, trigAt := (s.ctx n).trigAt, addr := s.reg n o.a, words := o.b + 1,
                                                    dest := o.imm % 512 }] })) ∧
    (o.op = opWAITF → (s.ctx n).faulted = false → s.fetching n = false → ∃ t, exec (.opWaitf c) s = .next t ∧
      t = s.setCtx n (t.ctx n) ∧ (t.ctx n).phase = .running ∧ (t.ctx n).boundary = true) ∧
    (o.op = opWAITF → (s.ctx n).faulted = false → s.fetching n = true → ∃ t, exec (.opWaitf c) s = .next t ∧
      (t.ctx n).phase = .waiting ∧ t.runs (s.cellOf n) = none ∧ t.regs = s.regs) ∧
    (o.op = opWAITF → (s.ctx n).faulted = true → ∃ t, exec (.opWaitf c) s = .next t ∧ (t.ctx n).phase = .idle ∧
      t.runs (s.cellOf n) = none)) ∧
  (∀ (s : State) (c : Fin 32) (j : FetchJob), (s.dch c).jobs = [j] → j.words ≤ j.done → (s.ctx j.ctx).phase = .waiting →
    (∀ e ∈ s.mem.ch, e.1 ≠ c → e.2.jobs = []) → (s.mem.ch.map Prod.fst).Nodup →
    ∃ t, exec (.fetchComplete c) s = .next t ∧ (t.dch c).jobs = [] ∧ (t.ctx j.ctx).phase = .again ∧ t.regs = s.regs)

/-- Triggers (R107, R108, R118, R119, R132): a due timer advances by its period and triggers its one context; a kick triggers a HOST
context and is refused for another; a trigger of a busy context is a miss; the watchdog counts a lost trigger.
The model's choices in it: log entry 101. -/
def Obligations.TriggersMakeContextsReady : Prop :=
  (∀ (s : State) (k : Fin 8) (n : Nat), s.fld (Reg.GRT_TMR_PERIOD k) ≠ 0 → s.now ≠ 0 → tabGet 0 s.eng.timerNext k = s.now →
    s.awaits Instr.beforeTrigger = false → s.triggered 0 k = [n] → s.enabled n = true → s.stg.retire.contains n = false → (s.ctx n).phase = .idle →
    ∃ t, exec (.grtTimerTick k) s = .next t ∧ tabGet 0 t.eng.timerNext k = s.now + s.fld (Reg.GRT_TMR_PERIOD k) ∧
      (t.ctx n).phase = .ready ∧ (t.ctx n).trigAt = s.now ∧ t.eng.banks = s.eng.banks) ∧
  (∀ (s : State) (p : Port) (n : Fin 128), s.Takes p addrKick → cfgDefined (s.cfg n) = true → cfgTrig (s.cfg n) = 3 → s.enabled n = true →
    s.stg.retire.contains n.val = false → (s.ctx n).phase = .idle →
    ∃ t, exec (.grtKick p n) s = .next t ∧ (t.ctx n).phase = .ready ∧ (t.ctx n).w = 0x10000000#32 ∧ (t.ctx n).trigAt = s.now) ∧
  (∀ (s : State) (p : Port) (n : Fin 128), s.Takes p addrKick → cfgTrig (s.cfg n) ≠ 3 →
    exec (.grtKick p n) s = .next ((s.noteWrite p addrKick).refuse p addrKick)) ∧
  (∀ (s : State) (n : Fin 256), (s.ctx n).phase ≠ .idle → (s.ctx n).deadline < s.now → s.enabled n = true →
    ∃ t, exec (.deadlineExpiry n) s = .next t ∧ (t.ctx n).missed = true ∧ (t.ctx n).phase = (s.ctx n).phase ∧
      t.eng.banks = s.eng.banks ∧ t.eng.st = s.eng.st) ∧
  (∀ (s : State) (n : Fin 128) (f : Nat), (s.ctx n).lastTrig = some f → cfgDefined (s.cfg n) = true → s.enabled n = true →
    cfgTrig (s.cfg n) = 2 → s.tickNom n ≠ 0 → (s.ctx n).wdMisses = 0 → 2 * f + 3 * s.tickNom n ≤ 2 * s.now →
    ∃ t, exec (.triggerWatchdog n) s = .next t ∧ (t.ctx n).wdMisses = 1 ∧ (t.ctx n).phase = (s.ctx n).phase ∧ t.eng.banks = s.eng.banks)

/-- Dispatch and pre-emption (R109, R111, R112): a free cell starts its one ready context at the entry of its program with the ports taken; a running
context at a boundary gives way to a ready one of a higher level, and to no other.
The model's choices in it: log entry 33. -/
def Obligations.DispatchAndPreemption : Prop :=
  (∀ (s : State) (c : Fin 32) (n : Nat), s.runs c = none → s.inPhase c .ready = [n] → s.inPhase c .preempted = [] → s.inPhase c .waiting = [] →
    s.inPhase c .again = [] → s.cellOf n = c → (s.ctx n).bump = false → s.awaits Instr.beforeTrigger = false →
    ∃ t, exec (.contextDispatch c) s = .next t ∧ t.runs c = some n ∧ (t.ctx n).phase = .running ∧ (t.ctx n).pc = cfgEntry (s.cfg n) ∧
      t.eng.banks = s.eng.banks ∧ t.regs = s.regs ∧
      ∀ q, q < 32 → tabGet navN t.eng.snap (n * 32 + q) = s.portWord n q) ∧
  (∀ (s : State) (c : Fin 32) (n : Nat), s.runs c = some n → (s.ctx n).boundary = true → s.higherReady n = true →
    ∃ t, exec (.contextPreempt c) s = .next t ∧ t.runs c = none ∧ (t.ctx n).phase = .preempted ∧ (t.ctx n).pc = (s.ctx n).pc ∧
      t.eng.banks = s.eng.banks) ∧
  (∀ (s : State) (c : Fin 32) (n : Nat), s.runs c = some n → ((s.ctx n).boundary = false ∨ s.higherReady n = false) →
    exec (.contextPreempt c) s = .next s)

/-- EN of a context (R18, R110): an expert write of 1 sets it, clears MISS_RUN and makes the next execution the first; a write of 0 drops a
trigger that is ready; without EXPERT_EN either is refused.
The model's choices in it: log entry 32. -/
def Obligations.ContextEnableAndDisable : Prop :=
  ∀ (s : State) (p : Port) (n : Fin 128), s.Takes p (Reg.GRT_CTX_CTRL_EN n).addr →
    (s.expertStart = true → cfgDefined (s.cfg n) = true → s.on (Reg.GRT_CTX_CTRL_EN n) = false →
      ∃ t, exec (.contextEnable p n) s = .next t ∧ t.on (Reg.GRT_CTX_CTRL_EN n) = true ∧ t.fld (Reg.GRT_CTX_STATUS_MISS_RUN n) = 0 ∧
        (t.ctx n).first = true ∧ t.eng.banks = s.eng.banks) ∧
    (s.expertStart = true → cfgDefined (s.cfg n) = true → (s.ctx n).phase = .ready →
      ∃ t, exec (.contextDisable p n) s = .next t ∧ t.on (Reg.GRT_CTX_CTRL_EN n) = false ∧ (t.ctx n).phase = .idle ∧
        t.fld (Reg.GRT_CTX_STATUS_MISS_RUN n) = s.fld (Reg.GRT_CTX_STATUS_MISS_RUN n) ∧
        OnlyFlds [Reg.SYS_EVENT_PORTCOL_S, Reg.GRT_CTX_CTRL_EN n] s t) ∧
    (s.expertStart = false → exec (.contextEnable p n) s =
      .next ((s.noteWrite p (Reg.GRT_CTX_CTRL_EN n).addr).refuse p (Reg.GRT_CTX_CTRL_EN n).addr)) ∧
    (s.expertStart = false → exec (.contextDisable p n) s =
      .next ((s.noteWrite p (Reg.GRT_CTX_CTRL_EN n).addr).refuse p (Reg.GRT_CTX_CTRL_EN n).addr))

/-- The care of cell memory (R92, R94, R95, R96, R170): a single-bit error is corrected and written back; the sweep counts what it finds;
the mirror restores a poisoned word; an expert write lands whole in the active copy, and in bundle memory only while no enabled context
uses the cell.
The model's choices in it: log entries 110, 161. -/
def Obligations.CellMemoryCare : Prop :=
  (∀ (s : State) (c : Fin 32) (m : CellMem) (stg : Bool) (i : Fin 1024), 
    let id := foundId (memAddr c m i) (stg && m != .st)
    (s.eng.found.contains id = true → (s.memWord c m stg i).ecc = .single → ∃ t, exec (.eccWriteback c m stg i) s = .next t ∧
      t.memWord c m stg i = { val := (s.memWord c m stg i).val, ecc := .ok } ∧ t.eng.found.contains id = false ∧ t.regs = s.regs) ∧
    (s.eng.found.contains id = false → exec (.eccWriteback c m stg i) s = .next s)) ∧
  (∀ (s : State) (c : Fin 32) (m : CellMem) (stg : Bool) (i : Fin 1024), s.on Reg.GRT_CTRL_SWEEP_EN = true →
    ((s.memWord c m stg i).ecc = .ok → exec (.cellSweepRead c m stg i) s = .next s) ∧
    ((s.memWord c m stg i).ecc = .bad → ∃ t, exec (.cellSweepRead c m stg i) s = .next t ∧ t.on Reg.GRT_STATUS_UE_S = true ∧
      t.on (Reg.GRT_CELL_STATUS_UE_S c) = true ∧ t.fld Reg.GRT_UE_ADDR = memAddr c m i % 2 ^ 32 ∧
      t.eng = { s.eng with found := t.eng.found } ∧ t.eng.found.contains (foundId (memAddr c m i) (stg && m != .st)) = true)) ∧
  (∀ (s : State) (c : Fin 32) (i : Fin 1024), (tabGet {} s.eng.coef (c.val * 1024 + i.val)).ecc = .bad →
    s.coreReady (s.mirrorAddr c false false i) 4 = true → s.eng.found.contains (foundId (coefAddr c i) false) = true →
      let b := s.mirrorAddr c false false i / 8
    (tabGet 0 s.mem.flips b = 0 → s.mem.plist.contains (b / 8) = false → ∃ t, exec (.mirrorRepair c false false i false) s = .next t ∧
      tabGet {} t.eng.coef (c.val * 1024 + i.val) = { val := (tabGet {} s.eng.coef (c.val * 1024 + i.val)).val, ecc := .ok } ∧ t.regs = s.regs ∧
      ∀ k, k ≠ c.val * 1024 + i.val → tabGet {} t.eng.coef k = tabGet {} s.eng.coef k) ∧
    (∀ soft : Bool, soft = true ∨ s.mem.plist.contains (b / 8) = true → ∃ t, exec (.mirrorRepair c false false i soft) s = .next t ∧
      t.on Reg.MEM_STATUS_MIRUE_S = true ∧ t.eng = s.eng)) ∧
  (∀ (s : State) (p : Port) (c : Fin 32) (i : Fin 1024) (w : Word) (o : Fin 0x40000), o.val = c.val * 0x2000 + i.val →
    s.Takes p (0x100000 + 4 * o.val) → s.expertStart = true → s.stagedOwn c i .coef = false →
    ∃ t, exec (.expertCellWrite p o w) s = .next t ∧ t.memWord c .coef false i = { val := w.toNat } ∧
      t.memWord c .coef true i = { val := w.toNat } ∧ t.eng.st = s.eng.st ∧ t.eng.banks = s.eng.banks) ∧
  (∀ (s : State) (p : Port) (c : Fin 32) (i : Fin 512) (w : Word) (o : Fin 0x40000), o.val = c.val * 0x2000 + 0x800 + i.val →
    s.Takes p (0x100000 + 4 * o.val) → s.expertStart = true → s.cellInUse c = true →
    exec (.expertCellWrite p o w) s = .next ((s.noteWrite p (0x100000 + 4 * o.val)).refuse p (0x100000 + 4 * o.val)))

/-- The fields of an operation word stand where R101 puts them: decoding an encoded operation gives it back, and every 32-bit word is spelled by
the fields that it decodes to. -/
def Obligations.OperationWordsRoundTrip : Prop :=
  (∀ o : OpWord, o.wf = true → decodeOp (encodeOp o) = o ∧ encodeOp o < 2 ^ 32) ∧
  (∀ w : Nat, w < 2 ^ 32 → encodeOp (decodeOp w) = w)
/-! Sampling and conversion. -/

/-- From a start instant to a result (R21, R180, R182 to R184, R188, R189, R193, R194): a pass starts, or slips while one converts; an injected
sequence
is asked for and starts; a conversion that completes its entry queues an item with its code and stamp; the item shows in ADC_RES. An item that
fails its parity check is replaced by an invalid item of the same entry, with ALINK_S and ALINK_ERR_CNT.
The model's choices in it: log entries 12, 111, 162, 163. -/
def Obligations.ConversionsBecomeResults : Prop :=
  (∀ (s : State) (c : Fin 32), s.startNow c = true → s.marked (0x1000 + c.val) = false →
    (s.converting c = false → ∃ t, exec (.scheduleStart c) s = .next t ∧ (t.conv c).busy = true ∧ (t.conv c).passStart = s.now ∧
      (t.conv c).slot = 0 ∧ (t.conv c).injRun = false ∧ (t.conv c).passes = (s.conv c).passes + 1 ∧ t.regs = s.regs) ∧
    (s.converting c = true → ∃ t, exec (.scheduleStart c) s = .next t ∧
      ((s.nextSlot c (s.conv c).slot).isSome = true → (t.conv c).slipped = true ∧ (t.conv c).passStart = (s.conv c).passStart) ∧
      (s.nextSlot c (s.conv c).slot = none → (t.conv c).busy = true ∧ (t.conv c).slipped = false ∧ (t.conv c).slot = 0 ∧
        (t.conv c).passStart = s.passEnd c) ∧
      t.on Reg.ADC_STATUS_SLIP_S = true ∧ bitOf (t.fld Reg.ADC_SLIP_S) c = true ∧
      t.fld Reg.ADC_CNT_B_SLIP_CNT = s.counted Reg.ADC_CNT_B_SLIP_CNT ∧
      OnlyFlds [Reg.ADC_SLIP_S, Reg.ADC_STATUS_SLIP_S, Reg.ADC_CNT_B_SLIP_CNT] s t)) ∧
  (∀ (s : State) (p : Port) (c : Fin 32) (m : Word), s.Takes p Reg.ADC_INJ_KICK.addr → m.toNat = 2 ^ c.val → (s.convRec c).injSrc = 9 →
    ((s.conv c).injPend = false → ∃ t, exec (.injectRequest (some p) m) s = .next t ∧ (t.conv c).injPend = true ∧
      OnlyFlds [Reg.SYS_EVENT_PORTCOL_S] s t ∧ ∀ d, d ≠ c.val → t.conv d = s.conv d) ∧
    ((s.conv c).injPend = true → ∃ t, exec (.injectRequest (some p) m) s = .next t ∧ t.adc = s.adc ∧
      t.on Reg.ADC_STATUS_INJOVR_S = true ∧ t.fld Reg.ADC_CNT_C_INJOVR_CNT = s.counted Reg.ADC_CNT_C_INJOVR_CNT)) ∧
  (∀ (s : State) (c : Fin 32) (k : Fin 8) (m : Word), m.toNat = 2 ^ c.val → (s.convRec c).injSrc = k.val + 1 → s.ticksNow k = true →
    (s.conv c).injPend = false → ∃ t, exec (.injectRequest none m) s = .next t ∧ (t.conv c).injPend = true ∧ t.regs = s.regs) ∧
  (∀ (s : State) (c : Fin 32), (s.conv c).injPend = true → s.converting c = false → (s.conv c).slipped = false →
    0 < (s.convRec c).injCnt → s.injFits c = true → ∃ t, exec (.injectedStart c) s = .next t ∧ (t.conv c).injRun = true ∧
      (t.conv c).injPend = false ∧ (t.conv c).passStart = s.now ∧ (t.conv c).busy = true ∧ t.regs = s.regs) ∧
  (∀ (s : State) (c : Fin 32), (s.conv c).injPend = true → s.converting c = false → (s.conv c).slipped = false →
    (s.convRec c).injCnt = 0 → s.injFits c = true → ∃ t, exec (.injectedStart c) s = .next t ∧ (t.conv c).injPend = false ∧
      (t.conv c).busy = (s.conv c).busy ∧ t.regs = s.regs ∧ ∀ d, d ≠ c.val → t.conv d = s.conv d) ∧
  (∀ (s : State) (c : Fin 32) (k : Nat) (v : BitVec 16) (r : EntRec), s.nextSlot c (s.conv c).slot = some k → (s.conv c).busy = true →
    (s.conv c).passStart + 85 + 80 * k ≤ s.now → slotCh ((s.slotsNow c).getD k 7) < 2 → bitOf (s.fld Reg.ADC_CONVF_NOW) c = false →
    v ≠ 0x8000#16 → (s.passSched c).ent (slotEntry ((s.slotsNow c).getD k 7)) = some r → r.nm1 = 0 → r.shift = 0 →
    tabGet {} s.adc.entry (entryKey c r.entry) = ({} : EntryRun) → s.queueClash c = false →
    ∃ t x, exec (.conversionComplete c (.code v)) s = .next t ∧ (t.conv c).queue = (s.conv c).queue ++ [x] ∧ x.entry = r.entry ∧
      x.code = unsignedOf 16 (s.finishCode c ((s.passSched c).inputOf r) v.toInt).1 ∧ x.stamp = slotStamp (s.conv c).passStart k ∧
      x.inval = false ∧ x.opn = false ∧ x.input = (s.passSched c).inputOf r ∧ x.stream = r.stream ∧
      x.orng = (fullScale v || (s.finishCode c ((s.passSched c).inputOf r) v.toInt).2)) ∧
  (∀ (s : State) (c : Fin 32) (parity : Bool), s.awaits Instr.beforeTrigger = false → s.convReset c = true ∨ (s.conv c).queue = [] →
    exec (.converterResultItem c parity) s = .next s) ∧
  (∀ (s : State) (c : Fin 32) (x : Item) (q : List Item), (s.conv c).queue = x :: q → s.convReset c = false →
    s.awaits Instr.beforeTrigger = false → exec (.converterResultItem c false) s =
    exec (.converterResultItem c true) (((s.setConv c { s.conv c with queue := { x with code := 0x8000, inval := true } :: q }).raise
      Reg.SYS_DIE_STATUS_ALINK_S).count Reg.SYS_LINK_ERR_CNT_ALINK_ERR_CNT)) ∧
  (∀ (s : State) (c : Fin 32) (x : Item) (q : List Item), (s.conv c).queue = x :: q → s.convReset c = false → x.entry < 512 → x.code < 2 ^ 16 →
    s.awaits Instr.beforeTrigger = false → x.code ≠ 0x8000 → x.orng = false → x.xtalk = false → x.pllsw = false → x.gen = s.stg.gen →
    x.stream = false →
    ((s.routesOf 0).filter fun r => r.srcKind == 0 && r.srcId == x.entry) = [] → s.triggered 1 x.entry = [] →
    isNav (scaleCode x.code x.ks) = false → ∃ t, exec (.converterResultItem c true) s = .next t ∧ (t.conv c).queue = q ∧
      t.fld (Reg.ADC_RES_CODE x.entry) = x.code ∧ tabGet navN t.adc.entryVal x.entry = scaleCode x.code x.ks ∧
      t.fld (Reg.ADC_RES_SEQ x.entry) = (s.fld (Reg.ADC_RES_SEQ x.entry) + 1) % 2 ^ (Reg.ADC_RES_SEQ 0).width) ∧
  (∀ ks, scaleCode 0x8000 ks = navN)

/-- Calibration and polarity (R206 to R208): ZERO and SPAN measure an input's lowest entry and fail without one or on an unfit sample; COMPUTE drafts
OFS and G, or names the reason of its failure, under the lock of R159; a polarity check collects its samples and gives its verdict by CORR.
The model's choices in it: log entries 96, 97. -/
def Obligations.CalibrationAndPolarityChecks : Prop :=
  (∀ (s : State) (p : Port) (i : Fin 128) (n : Fin 8), s.Takes p Reg.ADC_CAL_CMD_START.addr →
    let busy := s.fld Reg.ADC_CAL_STAT_STATE = 1
    let begun (t : State) (span : Bool) : Prop := ∀ r, s.calEntry i = some r → t.fld Reg.ADC_CAL_STAT_STATE = 1 ∧
      t.adc.cal = some { input := i, span := span, left := 2 ^ n.val, need := 2 ^ n.val, shift := r.shift, entry := r.entry }
    let none' (t : State) : Prop := s.calEntry i = none → t.fld Reg.ADC_CAL_STAT_STATE = 3 ∧ t.fld Reg.ADC_CAL_STAT_FAIL = 1 ∧
      t.on Reg.ADC_STATUS_CALFAIL_S = true ∧ t.adc.cal = none
    let flds := [Reg.ADC_CAL_CMD_INPUT, Reg.ADC_CAL_CMD_POINT, Reg.ADC_CAL_CMD_NLOG, Reg.ADC_CAL_STAT_STATE, Reg.ADC_CAL_STAT_FAIL,
      Reg.ADC_STATUS_CALFAIL_S, Reg.ADC_STATUS_CALDONE_S, Reg.STG_STATUS_STATE, Reg.SYS_EVENT_PORTCOL_S]
    (¬ busy → ∃ t, exec (.calZero p i n) s = .next t ∧ begun t false ∧ none' t ∧ OnlyFlds flds s t) ∧
    (¬ busy → ∃ t, exec (.calSpan p i n) s = .next t ∧ begun t true ∧ none' t ∧ OnlyFlds flds s t) ∧
    let refused (t : State) (pt : Nat) : Prop := RefusesField s t p Reg.ADC_CAL_CMD_START.addr
        [Reg.ADC_CAL_CMD_INPUT, Reg.ADC_CAL_CMD_POINT, Reg.ADC_CAL_CMD_NLOG] ∧
      t.fld Reg.ADC_CAL_CMD_INPUT = i.val ∧ t.fld Reg.ADC_CAL_CMD_POINT = pt ∧ t.fld Reg.ADC_CAL_CMD_NLOG = n.val
    (busy → ∃ t, exec (.calZero p i n) s = .next t ∧ refused t 0) ∧
    (busy → ∃ t, exec (.calSpan p i n) s = .next t ∧ refused t 1) ∧
    (busy ∨ s.locked = true → ∃ t, exec (.calCompute p i n) s = .next t ∧ refused t 2) ∧
    (¬ busy → s.locked = false → ∃ t, exec (.calCompute p i n) s = .next t ∧ OnlyFlds flds s t ∧
      ((s.calCompute i).1 = 0 → t.shadowFld (Reg.ADC_CAL_OFS i) = unsignedOf 16 (s.calCompute i).2.1 % 2 ^ 16 ∧
        t.shadowFld (Reg.ADC_CAL_G i) = unsignedOf 16 (s.calCompute i).2.2 % 2 ^ 16 ∧ t.on Reg.ADC_STATUS_CALDONE_S = true ∧
        t.fld Reg.ADC_CAL_STAT_STATE = 2) ∧
      ((s.calCompute i).1 ≠ 0 → t.fld Reg.ADC_CAL_STAT_FAIL = (s.calCompute i).1 ∧ t.fld Reg.ADC_CAL_STAT_STATE = 3 ∧
        t.regs.shadow = s.regs.shadow))) ∧
  (∀ (s : State) (m : CalRun), s.adc.cal = some m →
    (m.bad = true → ∃ t, exec .calMeasureDone s = .next t ∧ t.fld Reg.ADC_CAL_STAT_STATE = 3 ∧ t.fld Reg.ADC_CAL_STAT_FAIL = 2 ∧
      t.adc.cal = none) ∧
    (m.bad = false → m.left = 0 → ∃ t, exec .calMeasureDone s = .next t ∧ t.fld Reg.ADC_CAL_STAT_STATE = 2 ∧ t.adc.cal = none ∧
      t.on Reg.ADC_STATUS_CALDONE_S = true ∧
      t.fld (if m.span then Reg.ADC_CAL_M1 else Reg.ADC_CAL_M0) = unsignedOf 32 (roundDiv (8 * m.total) (m.need * 2 ^ m.shift)) % 2 ^ 32 ∧
      m.input ∈ (if m.span then t.adc.spanDone else t.adc.zeroDone)) ∧
    (m.bad = false → m.left ≠ 0 → exec .calMeasureDone s = .next s)) ∧
  (∀ (s : State) (p : Port) (i ref : Fin 128) (kind : Bool) (w : Fin 16), s.Takes p Reg.ADC_POL_CFG_START.addr →
    let ok := 8 ≤ w.val ∧ s.on Reg.ADC_POL_STAT_BUSY = false ∧
      (kind = true → ref.val < 8 ∧ (s.genState ref = gBURST ∨ s.genState ref = gTUNE))
    (ok → ∃ t, exec (.polarityCheck p i kind ref w) s = .next t ∧ t.on Reg.ADC_POL_STAT_BUSY = true ∧ t.fld Reg.ADC_POL_STAT_VERDICT = 0 ∧
      t.adc.pol = some { input := i, refKind := asNat kind, ref := ref, need := 2 ^ w.val, next := s.now + 10000 }) ∧
    (¬ ok → ∃ t, exec (.polarityCheck p i kind ref w) s = .next t ∧ RefusesField s t p Reg.ADC_POL_CFG_START.addr
        [Reg.ADC_POL_CFG_INPUT, Reg.ADC_POL_CFG_REF_KIND, Reg.ADC_POL_CFG_REF, Reg.ADC_POL_CFG_W] ∧
      t.fld Reg.ADC_POL_CFG_W = (if w.val < 8 then s.fld Reg.ADC_POL_CFG_W else w.val))) ∧
  (∀ (s : State) (r : PolRun), s.adc.pol = some r →
    (r.n < r.need → r.next ≤ s.now → ∃ t q, exec .polaritySample s = .next t ∧ t.adc.pol = some q ∧ t.regs = s.regs ∧ q.next = r.next + 10000 ∧
      (∀ x y, s.polPair r = some (x, y) → q.n = r.n + 1 ∧ q.sx = r.sx + x ∧ q.sr = r.sr + y ∧ q.sxr = r.sxr + x * y) ∧
      (s.polPair r = none → q.n = 0 ∧ q.sx = 0)) ∧
    (r.need ≤ r.n → ∃ t, exec .polarityDone s = .next t ∧ t.adc.pol = none ∧ t.on Reg.ADC_POL_STAT_BUSY = false ∧
      t.on Reg.ADC_STATUS_POLDONE_S = true ∧
      (∀ c, r.corr = some c → t.fld Reg.ADC_POL_CORR = unsignedOf 32 c % 2 ^ 32 ∧ t.fld Reg.ADC_POL_STAT_VERDICT = verdictOf c) ∧
      (r.corr = none → t.fld Reg.ADC_POL_STAT_VERDICT = verdictOf (Config.freeWord s.free).toInt)) ∧
    (r.n < r.need → exec .polarityDone s = .next s))
/-! Pulse generation, trips and gate drive. -/

/-- Update points and trips (R212, R213, R215, R223, R225 to R232): the carriers run from their origin; at a leg's update point the duty in its shadow
comes into effect and a leg that may switch leaves OFF; a source latches with its record, forces the used legs of its zones, and is cleared only
while it is not active.
The model's choices in it: log entries 108, 115, 166. -/
def Obligations.UpdatePointsAndTrips : Prop :=
  (∀ s : State, (s.pwm.origin ≠ 0 → s.now = s.pwm.origin → exec .carrierOrigin s = .next { s with pwm := { s.pwm with running := true } }) ∧
    (s.now ≠ s.pwm.origin → exec .carrierOrigin s = .next s)) ∧
  (∀ (s : State) (n : Fin 64), let u : Fin 72 := ⟨n.val, by omega⟩
    s.pwm.running = true → (s.legRec n).used = true → ((s.leg n).car.at s.now).isUpdate s.now = true → s.marked n.val = false →
    s.awaits Instr.beforeUpdate = false → ∃ t, exec (.updatePoint u) s = .next t ∧
      t.fld (Reg.PWM_LEG_DUTY n) = (if (s.leg n).got then (s.leg n).shadow % 2 ^ 32 else s.fld (Reg.PWM_LEG_DUTY n)) ∧
      (s.fld (Reg.PWM_LEG_STATUS_STATE n) = legOFF → s.armed = true → s.permits n = true → (s.leg n).got = true →
        s.twn.waitFrom = none → s.twn.settleTo ≤ s.now → t.fld (Reg.PWM_LEG_STATUS_STATE n) = if (s.legRec n).logic then legACTIVE else legPRECHG) ∧
      (s.fld (Reg.PWM_LEG_STATUS_STATE n) = legOFF → s.permits n = false → t.fld (Reg.PWM_LEG_STATUS_STATE n) = legOFF) ∧
      Within [.regs, .pwm] s t) ∧
  (∀ (s : State) (n : Fin 72), s.awaits Instr.beforeUpdate = false → (s.pwm.running = false ∨ s.marked n.val = true ∧ n.val < 64) →
    exec (.updatePoint n) s = .next s) ∧
  (∀ (s : State) (g : Fin 8), let u : Fin 72 := ⟨64 + g.val, by omega⟩
    s.pwm.running = true → ((s.gcar g).at s.now).isUpdate s.now = true → s.marked (64 + g.val) = false →
    s.awaits Instr.beforeUpdate = false → ∃ t, exec (.updatePoint u) s = .next t ∧
      t.trp.latch = s.trp.latch.filter fun k => !(s.srcCycle k && s.srcCg k == g.val && !s.trp.live.contains k)) ∧
  (∀ (s : State) (k : Fin 84), s.trp.armed = true → s.srcEn k = true → s.trp.latch.contains k.val = false →
    s.marked (markCleared k) = true → ∃ t, exec (.tripSourceLatch k true) s = .next t ∧ t.trp.latch = k.val :: s.trp.latch ∧
      t.on Reg.TRP_STATUS_CLRREF_S = true ∧ t.fld Reg.TRP_CNT_TRIP_CNT = s.fld Reg.TRP_CNT_TRIP_CNT ∧
      t.fld Reg.TRP_FIRST_SRC = s.fld Reg.TRP_FIRST_SRC ∧ t.grid = s.grid) ∧
  (∀ (s : State) (k : Fin 84), s.trp.armed = true → s.srcEn k = true → s.trp.latch.contains k.val = false →
    s.marked (markCleared k) = false →
    (s.srcCycle k = false → ∃ t, exec (.tripSourceLatch k true) s = .next t ∧ t.trp.latch = k.val :: s.trp.latch ∧
      t.trp.live.contains k.val = true ∧ t.on Reg.TRP_STATUS_TRIP_S = true ∧ t.fld Reg.TRP_CNT_TRIP_CNT = s.counted Reg.TRP_CNT_TRIP_CNT ∧
      (s.anyLatch = false → t.fld Reg.TRP_FIRST_SRC = k.val ∧ t.on Reg.TRP_FIRST_VALID = true ∧
        ∃ d, (d = 2 ∨ d = 3) ∧ t.fld Reg.TRP_FIRST_STAMP_LO = (s.now + d) % 2 ^ 32)) ∧
    (s.srcCycle k = true → ∃ t, exec (.tripSourceLatch k true) s = .next t ∧ t.trp.latch = k.val :: s.trp.latch ∧
      t.on Reg.TRP_STATUS_CYC_S = true ∧ t.fld Reg.TRP_STATUS_TRIP_S = s.fld Reg.TRP_STATUS_TRIP_S ∧ t.grid = s.grid ∧
      ∀ n, n < 64 → (s.legRec n).used = true → zonesMeet (s.srcZones k) (s.legZones n) = true →
        t.fld (Reg.PWM_LEG_STATUS_STATE n) = legFORCED)) ∧
  (∀ (s : State) (k : Fin 84), exec (.tripSourceLatch k false) s =
    .next { s with trp := { s.trp with live := s.trp.live.filter (· != k.val) } }) ∧
  (∀ (s : State) (p : Port) (j : Fin 4) (m : Fin 16), s.Takes p addrTrpSw → m.val = 2 ^ j.val → s.trp.armed = true →
    s.srcEn (80 + j.val) = true → s.srcCycle (80 + j.val) = false → s.trp.latch.contains (80 + j.val) = false →
    s.marked (markCleared (80 + j.val)) = false →
    ∃ t, exec (.softwareTrip p m) s = .next t ∧ t.trp.latch = (80 + j.val) :: s.trp.latch ∧ t.on Reg.TRP_STATUS_TRIP_S = true) ∧
  (∀ (s : State) (p : Port) (k : Fin 3) (j : Fin 32) (m : Word), s.Takes p (Reg.TRP_CLR k).addr → m.toNat = 2 ^ j.val →
    32 * k.val + j.val < 84 → let i := 32 * k.val + j.val
    (s.trp.live.contains i = false → s.marked (markLatched i) = false → ∃ t, exec (.tripClear p k m) s = .next t ∧
      t.trp.latch = s.trp.latch.filter (· != i) ∧ t.trp.live = s.trp.live) ∧
    (s.trp.live.contains i = true → ∃ t, exec (.tripClear p k m) s = .next t ∧ t.trp.latch = s.trp.latch ∧
      t.on Reg.TRP_STATUS_CLRREF_S = true))

/-- Gates and strengths (R239, R242 to R248, R255): a turn-on edge begins a turn-on when the opposite gate is off and else waits for it; an
overlap turns
both switches off; an unconfirmed wait, a gate that does not rise and a bootstrap that stays low turn the leg off with their fault and a count;
edge times are credited, and STR_NOW moves one code toward TSW within its limits.
The model's choices in it: log entries 12, 166. -/
def Obligations.GatesAndTheirStrength : Prop :=
  (∀ (s : State) (n : Fin 64) (high clear : Bool), s.cmd n high = true → (s.dleg n).gate high = .off →
    (s.sdcRun = false → exec (.gateTurnOn n high clear) s = .next (s.legEdge n)) ∧ ((s.dleg n).cfgDue = false →
    (s.sdcRun = true → s.cmd n (!high) = false → s.direct n = true → s.dieReady (n / 16) = true → s.legFault n = false →
      (s.dleg n).locked = false → (s.dleg n).bsuvFrom = none → s.fld (Reg.DRV_LEG_STATUS_ROLE n) = 0 →
      ∃ t, exec (.gateTurnOn n high clear) s = .next t ∧ (t.dleg n).gate high = (if clear then .on else .waiting) ∧
        (clear = true → (t.dleg n).onAt high = some (s.now + 8)) ∧ (clear = false → (t.dleg n).cmdAt = s.now) ∧ t.regs = s.regs) ∧
    (s.sdcRun = true → s.cmd n (!high) = true → (s.dleg n).overlap = false → s.fld (Reg.DRV_LEG_STATUS_ROLE n) = 0 →
      ∃ t, exec (.gateTurnOn n high clear) s = .next t ∧ (t.dleg n).hi = .off ∧ (t.dleg n).lo = .off ∧
        t.on (Reg.DRV_LEG_STATUS_ILK_S n) = true ∧ t.fld (Reg.DRV_LEG_CNT_ILK_CNT n) = s.counted (Reg.DRV_LEG_CNT_ILK_CNT n)))) ∧
  (∀ (s : State) (n : Fin 64) (high : Bool),
    (s.armed = false → s.logicPin n high = false) ∧
    (s.armed = true → (s.legRec n).used = true → (s.legRec n).logic = true → s.logicPin n high =
      (decide ((s.dleg n).gate high = .on) != s.on (if high then Reg.PWM_LEG_CTRL_INV_H n else Reg.PWM_LEG_CTRL_INV_L n))) ∧
    (s.cmd n high = false → (s.dleg n).cfgDue = true → ∀ v, s.regs.com = [((Reg.DRV_LEG_STR n).key, v)] → v < 2 ^ 16 →
      ∃ t, exec (.gateTurnOff n high) s = .next t ∧ t.fld (Reg.DRV_LEG_STR n) = v ∧ t.fld (Reg.DRV_LEG_STR_NOW n) = v ∧
        t.regs.com = [] ∧ t.marked (markReload n) = true ∧ (t.dleg n).gate high = .off) ∧
    (s.cmd n high = false → (s.dleg n).cfgDue = false → ∃ t, exec (.gateTurnOff n high) s = .next t ∧ (t.dleg n).gate high = .off ∧
      (t.dleg n).gate (!high) = (s.dleg n).gate (!high) ∧ t.regs = s.regs) ∧
    ((s.dleg n).gate high = .waiting → s.now < (s.dleg n).cmdAt + s.gcw n → ∃ t, exec (.gateConfirmed n high) s = .next t ∧
      (t.dleg n).gate high = .on ∧ (t.dleg n).onAt high = some (s.now + 8) ∧
      ((s.dleg n).cmdAt + 4 < s.now → t.on (Reg.DRV_LEG_STATUS_GWAIT_S n) = true) ∧ (s.now ≤ (s.dleg n).cmdAt + 4 → t.regs = s.regs)) ∧
    ((s.dleg n).gate high = .waiting → (s.dleg n).cmdAt + s.gcw n ≤ s.now → ∃ t, exec (.gateConfirmTimeout n high) s = .next t ∧
      t.on (Reg.DRV_LEG_STATUS_GSTUCK n) = true ∧ (t.dleg n).hi = .off ∧ (t.dleg n).lo = .off ∧
      t.fld (Reg.DRV_DIE_CNT_FLT_CNT (n / 16)) = s.counted (Reg.DRV_DIE_CNT_FLT_CNT (n / 16)) ∧
      bitOf (t.fld Reg.DRV_STATUS_FAULT) (n / 16) = true) ∧
    (s.direct n = true → (s.dleg n).gate high = .on → ∀ b, (s.dleg n).onAt high = some b → b + s.gcw n ≤ s.now →
      s.fld (Reg.DRV_LEG_STATUS_ROLE n) = 0 →
      ∃ t, exec (.gateLowTimeout n high) s = .next t ∧ t.on (Reg.DRV_LEG_STATUS_GLOW n) = true ∧ (t.dleg n).hi = .off ∧
        (t.dleg n).lo = .off ∧ t.fld (Reg.DRV_DIE_CNT_FLT_CNT (n / 16)) = s.counted (Reg.DRV_DIE_CNT_FLT_CNT (n / 16)))) ∧
  (∀ (s : State) (n : Fin 64),
    (∃ t, exec (.bootstrapUnlock n) s = .next t ∧ (t.dleg n).locked = false ∧ (t.dleg n).bsuvFrom = none ∧
      t.bsuvNow n = false ∧ t.regs = s.regs) ∧
    (s.cmd n true = false → ∃ t, exec (.bootstrapLock n) s = .next t ∧ (t.dleg n).locked = true ∧ t.regs = s.regs) ∧
    (s.direct n = true → s.cmd n true = true → ∃ t, exec (.bootstrapLock n) s = .next t ∧ (t.dleg n).locked = true ∧
      (t.dleg n).hi = .off ∧ (t.dleg n).lo = .off ∧ t.on (Reg.DRV_LEG_STATUS_BSUV_S n) = true ∧ t.bsuvNow n = true ∧
      t.fld (Reg.DRV_LEG_CNT_BSUV_CNT n) = s.counted (Reg.DRV_LEG_CNT_BSUV_CNT n)) ∧
    (∀ t0, (s.dleg n).bsuvFrom = some t0 → (s.dleg n).locked = true →
      (t0 + msCycles (s.dieCfg n).bsuvT ≤ s.now → ∃ t, exec (.bsuvTimeout n) s = .next t ∧
        t.on (Reg.DRV_LEG_STATUS_UVLAT n) = true ∧ (t.dleg n).hi = .off ∧ (t.dleg n).lo = .off ∧
        t.fld (Reg.DRV_DIE_CNT_FLT_CNT (n / 16)) = s.counted (Reg.DRV_DIE_CNT_FLT_CNT (n / 16))) ∧
      (s.now < t0 + msCycles (s.dieCfg n).bsuvT → exec (.bsuvTimeout n) s = .next s)) ∧
    ((s.dleg n).relPend = true → s.cmd n true = false → s.cmd n false = false → ∃ t, exec (.legRelease n) s = .next t ∧
      t.fld (Reg.DRV_LEG_STATUS_ROLE n) = 1 ∧ (t.dleg n).relPend = false ∧ (t.dleg n).hi = .off ∧ (t.dleg n).lo = .off ∧
      OnlyFlds [Reg.DRV_LEG_STATUS_ROLE n] s t)) ∧
  (∀ (s : State) (n : Fin 64) (rising : Bool) (q : Fin 65536), s.direct n = true →
    (4 ≤ q.val → q.val ≤ 1000 → ∃ t, exec (.swEdgeMeasured n rising q) s = .next t ∧
      t.fld (if rising then Reg.DRV_LEG_EDGE_LAST_RISE n else Reg.DRV_LEG_EDGE_LAST_FALL n) = q.val ∧
      OnlyFlds [if rising then Reg.DRV_LEG_EDGE_LAST_RISE n else Reg.DRV_LEG_EDGE_LAST_FALL n] s t ∧
      (∀ k, s.creditOf n rising (10 * s.now - q.val) = some k → s.on (Reg.DRV_LEG_CFG_ADAPT_EN n) = true → k < (s.dleg n).credits.length →
        (t.dleg n).credits.getD k {} =
          { cnt := ((s.dleg n).credits.getD k {}).cnt + 1, sum := ((s.dleg n).credits.getD k {}).sum + q.val })) ∧
    (q.val < 4 ∨ 1000 < q.val → exec (.swEdgeMeasured n rising q) s = .next s)) ∧
  (∀ (s : State) (n : Fin 64) (k : Fin 4), s.on (Reg.DRV_LEG_CFG_ADAPT_EN n) = true →
    let c := (s.dleg n).credits.getD k {}
    let goal := c.cnt * 2 * s.fld (Reg.DRV_LEG_CFG_TSW n)
    let band := (s.dieCfg n).band
    2 ^ (s.dieCfg n).avg ≤ c.cnt → s.fld (Reg.DRV_LEG_STR_NOW n) < 2 ^ 16 →
    (s.marked (markReload n) = true → ∃ t, exec (.adaptStep n k) s = .next t ∧ t.regs = s.regs) ∧ (s.marked (markReload n) = false →
    (goal * (16 + band) < c.sum * 16 → s.strNow n k < s.fld (Reg.DRV_LEG_STR_SMAX n) → s.strNow n k < 15 →
      ∃ t, exec (.adaptStep n k) s = .next t ∧ t.strNow n k = s.strNow n k + 1 ∧ OnlyFlds [Reg.DRV_LEG_STR_NOW n] s t) ∧
    (goal * (16 + band) < c.sum * 16 → s.fld (Reg.DRV_LEG_STR_SMAX n) ≤ s.strNow n k →
      ∃ t, exec (.adaptStep n k) s = .next t ∧ t.fld (Reg.DRV_LEG_STR_NOW n) = s.fld (Reg.DRV_LEG_STR_NOW n) ∧
        t.on (Reg.DRV_LEG_STATUS_ADLIM_S n) = true) ∧
    (c.sum * 16 ≤ goal * (16 + band) → goal * (16 - band) ≤ c.sum * 16 → ∃ t, exec (.adaptStep n k) s = .next t ∧ t.regs = s.regs ∧
      (k.val < (s.dleg n).credits.length → (t.dleg n).credits.getD k {} = ({} : Credit)))))

/-- Drive dies (R22, R23, R250 to R252, R256): DRVENd low turns all 16 legs off; a lost link clock, a low supply, a hot die or a short
circuit latches its fault, turns its legs off and counts; a low interval of 2.0 µs or more clears the latched faults, one below 1.4 µs
clears none; a supply that is corrected leaves the latches as they stand, or starts the die afresh after a reversal.
The model's choices in it: log entries 108, 131, 167. -/
def Obligations.DriveDieFaultsAndClears : Prop :=
  let off (t : State) (d : Nat) : Prop := ∀ j, j < 16 → (t.dleg (16 * d + j)).hi = .off ∧ (t.dleg (16 * d + j)).lo = .off
  (∀ (s : State) (d : Fin 4), ∃ t, exec (.drvenLow d) s = .next t ∧ (t.ddie d).en = false ∧ off t d ∧
    bitOf (t.fld Reg.DRV_STATUS_EN) d = false ∧ OnlyFlds [Reg.DRV_STATUS_EN] s t ∧ ((s.ddie d).en = true → (t.ddie d).lowAt = some s.now)) ∧
  (∀ (s : State) (d : Fin 4), s.on (Reg.DRV_DIE_STATUS_LINKF d) = false → ∃ t, exec (.dlinkClockLoss d) s = .next t ∧
    (t.ddie d).link = false ∧ off t d ∧ t.on (Reg.DRV_DIE_STATUS_LINKF d) = true ∧ bitOf (t.fld Reg.SYS_DIE_STATUS_DLINK_S) d = true ∧
    t.fld Reg.SYS_LINK_ERR_CNT_DLINK_ERR_CNT = s.counted Reg.SYS_LINK_ERR_CNT_DLINK_ERR_CNT ∧
    bitOf (t.fld Reg.SYS_DIE_STATUS_DRV_UP) d = false ∧
    t.fld (Reg.DRV_DIE_CNT_FLT_CNT d) = s.counted (Reg.DRV_DIE_CNT_FLT_CNT d) ∧
    (s.on Reg.TWN_CTRL_PAIR_EN = true → s.role ≠ roleLOST → t.role = roleLOST ∧ t.on Reg.TWN_STATUS_STANDDN_S = true)) ∧
  (∀ (s : State) (d : Fin 4) (a : Nat), (s.ddie d).en = false → (s.ddie d).lowAt = some a →
    (800 ≤ s.now - a → (s.ddie d).supply = true → (∀ j, j < 16 → (s.dleg (16 * d + j)).scNow = false) →
      ∃ t, exec (.drvenRise d true false) s = .next t ∧ (t.ddie d).en = true ∧ t.dieFault d = false ∧
        (∀ j, j < 16 → t.legFault (16 * d + j) = false ∧ (t.dleg (16 * d + j)).locked = true) ∧
        t.fld (Reg.DRV_DIE_CNT_CLR_CNT d) = s.counted (Reg.DRV_DIE_CNT_CLR_CNT d) ∧ t.on Reg.DRV_STATUS_CLR_S = true ∧
        bitOf (t.fld Reg.DRV_STATUS_FAULT) d = false) ∧
    (s.now - a < 560 → ∃ t, exec (.drvenRise d true false) s = .next t ∧ (t.ddie d).en = true ∧
      OnlyFlds [Reg.DRV_STATUS_EN, Reg.SYS_DIE_STATUS_DRV_UP] s t)) ∧
  (∀ (s : State) (d : Fin 4),
    ((s.ddie d).risen = true → s.on (Reg.DRV_DIE_STATUS_VUV d) = false → ∃ t, exec (.drvVuv d) s = .next t ∧ off t d ∧
      t.on (Reg.DRV_DIE_STATUS_VUV d) = true ∧ t.vuvNow d = true ∧ (t.ddie d).supply = false ∧ (t.ddie d).risen = true ∧
      t.fld (Reg.DRV_DIE_CNT_FLT_CNT d) = s.counted (Reg.DRV_DIE_CNT_FLT_CNT d)) ∧
    ((s.ddie d).risen = false → ∃ t, exec (.drvVuv d) s = .next t ∧ off t d ∧ t.vuvNow d = true ∧ t.regs = s.regs) ∧
    (s.on (Reg.DRV_DIE_STATUS_OT d) = false → ∃ t, exec (.drvOt d) s = .next t ∧ off t d ∧ t.on (Reg.DRV_DIE_STATUS_OT d) = true ∧
      t.fld (Reg.DRV_DIE_CNT_FLT_CNT d) = s.counted (Reg.DRV_DIE_CNT_FLT_CNT d)) ∧
    ((s.ddie d).risen = true → (s.ddie d).supply = true → exec (.drvSupplyRise d) s = .next s) ∧
    ((s.ddie d).risen = true → (s.ddie d).supply = false → ∃ t, exec (.drvSupplyRise d) s = .next t ∧ (t.ddie d).supply = true ∧
      t.vuvNow d = false ∧ (t.regs = s.regs ∨ t.dieFault d = false ∧
        ∀ j, j < 16 → t.legFault (16 * d + j) = false ∧ (t.dleg (16 * d + j)).locked = true)) ∧
    ((s.ddie d).risen = false → ∃ t, exec (.drvSupplyRise d) s = .next t ∧ (t.ddie d).supply = true ∧ (t.ddie d).risen = true ∧
      t.vuvNow d = false ∧ t.dieFault d = false ∧
      ∀ j, j < 16 → t.legFault (16 * d + j) = false ∧ (t.dleg (16 * d + j)).locked = true)) ∧
  (∀ (s : State) (n : Fin 64), s.direct n = true → s.on (Reg.DRV_LEG_CFG_SC_EN n) = true → (s.ddie (n / 16)).supply = true →
    s.on (Reg.DRV_LEG_STATUS_SC n) = false → ∃ t, exec (.shortCircuit n true) s = .next t ∧ t.on (Reg.DRV_LEG_STATUS_SC n) = true ∧
      (t.dleg n).hi = .off ∧ (t.dleg n).lo = .off ∧ t.trp.live.contains (16 + n.val) = true ∧
      t.fld (Reg.DRV_DIE_CNT_FLT_CNT (n / 16)) = s.counted (Reg.DRV_DIE_CNT_FLT_CNT (n / 16)))
/-! Clocks. -/

/-- Reference and locks (R260 to R267, R271, R272): a lost reference is recorded and falls back to the crystal where that is asked for; a lock
lost is recorded
and counted, PLL-C goes to holdover, PLL-A tags its samples; a lock sets its bit and records its band; a hop that fails in 5 µs invalidates its
entry and searches; 2 ms of holdover end it with the fault action for source 0x06.
The model's choices in it: log entries 70, 74. -/
def Obligations.ReferencesAndLocks : Prop :=
  (∀ (s : State) (f k : Fin 65536), s.on Reg.CLK_STATUS_REF_OK = true → ∃ t, exec (.referenceLoss f k) s = .next t ∧
    t.on Reg.CLK_STATUS_REFLOSS_S = true ∧ t.fld Reg.CLK_REF_MEAS_REF_KHZ = f.val ∧
    (s.on Reg.CLK_STATUS_REF_ACT = true → s.on Reg.CLK_REF_CFG_FALLBACK = true → t.on Reg.CLK_STATUS_REF_ACT = false ∧
      t.on Reg.CLK_STATUS_FALLBK_S = true ∧ t.on Reg.CLK_STATUS_REF_OK = s.clk.xtal ∧ t.on Reg.CLK_STATUS_LOCK_A = false ∧
      (s.fld (Reg.CLK_PLL_STATUS_STATE 0) = 3 → t.on Reg.CLK_STATUS_HOLD = true ∧ t.on Reg.CLK_STATUS_LOCK_C = false ∧
        t.clk.holdAt = s.now) ∧
      (s.fld (Reg.CLK_PLL_STATUS_STATE 0) ≠ 3 → t.clk.holdAt = s.clk.holdAt)) ∧
    (s.on Reg.CLK_STATUS_REF_ACT = false ∨ s.on Reg.CLK_REF_CFG_FALLBACK = false → t.on Reg.CLK_STATUS_REF_OK = false ∧
      t.fld Reg.CLK_STATUS_REF_ACT = s.fld Reg.CLK_STATUS_REF_ACT) ∧ Within [.regs, .clk, .adc] s t) ∧
  (∀ (s : State) (f k : Fin 65536), (s.refInRange f = false → exec (.referenceValid f k) s = .next s) ∧
    (s.refInRange f = true → s.on Reg.CLK_STATUS_REF_OK = true → exec (.referenceValid f k) s = .next (s.measured f k))) ∧
  (∀ (s : State) (f k : Fin 65536), s.refInRange f = true → s.on Reg.CLK_STATUS_REF_OK = false → ∃ t, exec (.referenceValid f k) s = .next t ∧
    t.on Reg.CLK_STATUS_REF_OK = true ∧ t.fld Reg.CLK_REF_MEAS_REF_KHZ = f.val ∧
    ∀ p, p < 3 → s.fld (Reg.CLK_PLL_STATUS_STATE p) = 3 → t.fld (Reg.CLK_PLL_STATUS_STATE p) = 3) ∧
  (∀ (s : State), s.fld (Reg.CLK_PLL_STATUS_STATE 0) = 3 → s.clk.locked = true → ∃ t, exec (.pllLossOfLock 0 false) s = .next t ∧
    t.fld (Reg.CLK_PLL_STATUS_STATE 0) = 4 ∧ t.on Reg.CLK_STATUS_LOCK_C = false ∧ t.on Reg.CLK_STATUS_HOLD = true ∧ t.clk.holdAt = s.now ∧
    t.on Reg.CLK_STATUS_LOL_C_S = true ∧ t.fld Reg.CLK_CNT_LOLC_CNT = s.counted Reg.CLK_CNT_LOLC_CNT ∧ t.eng.rho = s.eng.rho) ∧
  (∀ (s : State), s.fld (Reg.CLK_PLL_STATUS_STATE 1) = 3 → ∃ t, exec (.pllLossOfLock 1 false) s = .next t ∧
    t.on Reg.CLK_STATUS_LOCK_A = false ∧ t.on Reg.CLK_STATUS_LOL_A_S = true ∧ t.on Reg.ADC_STATUS_PLLSW_S = true ∧
    t.fld Reg.CLK_CNT_LOLA_CNT = s.counted Reg.CLK_CNT_LOLA_CNT ∧
    ∀ c, c < 32 → (t.conv c).swLeft = if s.inConversion c then 5 else 4) ∧
  (∀ (s : State), s.fld (Reg.CLK_PLL_STATUS_STATE 2) = 3 → ∃ t, exec (.pllLossOfLock 2 false) s = .next t ∧
    t.on Reg.CLK_STATUS_LOCK_M = false ∧ t.on Reg.CLK_STATUS_LOL_M_S = true ∧ t.clk.lossM = some s.now ∧
    t.fld Reg.CLK_CNT_LOLM_CNT = s.counted Reg.CLK_CNT_LOLM_CNT) ∧
  (∀ (s : State) (p : Fin 3) (b : Fin 64) (co : Fin 1024) (c : Fin 256), s.fld (Reg.CLK_PLL_STATUS_STATE p) ≠ 3 →
    (s.marked (markLoss p) = true → exec (.pllLock p b co c) s = .next s) ∧
    (s.on Reg.CLK_STATUS_REF_OK = true → s.marked (markLoss p) = false → s.marked (markVoidLoss p) = false → ∃ t,
      exec (.pllLock p b co c) s = .next t ∧ t.fld (Reg.CLK_PLL_STATUS_STATE p) = 3 ∧
      (p.val = 0 → t.on Reg.CLK_STATUS_LOCK_C = true ∧ t.on Reg.CLK_STATUS_HOLD = false ∧ t.clk.locked = true) ∧
      (p.val = 1 → t.on Reg.CLK_STATUS_LOCK_A = true ∧ t.clk.lockA = s.now) ∧
      (p.val = 2 → t.on Reg.CLK_STATUS_LOCK_M = true ∧ t.clk.lossM = none) ∧ tabFind t.clk.seeds p.val = some (s.fld (Reg.CLK_DITHER_SEED p))) ∧
    (s.on Reg.CLK_STATUS_REF_OK = false → p.val ≠ 2 → exec (.pllLock p b co c) s = .next s)) ∧
  (∀ (s : State) (p : Fin 3) (c : Fin 256) (h : Nat), tabGet 0 s.clk.hop p.val = h + 1 → h + usCycles 5 ≤ s.now →
    ∃ t, exec (.fastHopTimeout p c) s = .next t ∧ t.on Reg.CLK_STATUS_HOPFAIL_S = true ∧ tabGet 0 t.clk.hop p.val = 0 ∧
      (p.val ≠ 0 ∨ s.clk.locked = false → t.fld (Reg.CLK_PLL_STATUS_STATE p) = 1) ∧
      (tabGet 0 s.clk.hopEnt p.val < 16 → t.on (Reg.CLK_BAND_VALID (tabGet 0 s.clk.hopEnt p.val)) = false)) ∧
  (∀ s : State, s.fld (Reg.CLK_PLL_STATUS_STATE 0) = 4 →
    (s.clk.holdAt + 800000 ≤ s.now → ∃ t, exec .holdoverExpiry s = .next t ∧ t.fld (Reg.CLK_PLL_STATUS_STATE 0) = 5 ∧
      t.on Reg.CLK_STATUS_HOLDX_S = true ∧
      ((∀ g, g < 8 → s.actionOf g 6 = 0) → ∀ g, g < 8 → (s.groupRec g).isSome = true → t.fld (Reg.GFM_FA_LAST_SOURCE g) = 6 ∧ t.mode g = s.mode g)) ∧
    (s.now < s.clk.holdAt + 800000 → exec .holdoverExpiry s = .next s)) ∧
  (∀ (s : State) (p : Port), s.Takes p Reg.CLK_BAND_CTRL_CLEAR.addr →
    (s.armed = true → ∃ t, exec (.bandTableClear p) s = .next t ∧ RefusesWrite s t p Reg.CLK_BAND_CTRL_CLEAR.addr) ∧
    (s.armed = false → ∃ t, exec (.bandTableClear p) s = .next t ∧ (∀ k, k < 16 → t.on (Reg.CLK_BAND_VALID k) = false) ∧
      OnlyFlds ((List.range 16).map Reg.CLK_BAND_VALID ++ [Reg.SYS_EVENT_PORTCOL_S]) s t))

/-- Domain A's change of clock, self-refresh and spreading (R121, R198, R268, R269, R273, R274): A_ALT and the tags; the DRAM's self-refresh
stops the clocks of the requests; a step of the profile sets the ratio, ρ and GRT_TICKW; a committed change of the spreading begins at q = 0.
The model's choices in it: log entries 72, 132. -/
def Obligations.DomainChangesAndSpreading : Prop :=
  (∀ s : State, s.clk.locked = true → s.clk.altDue = true → s.on Reg.CLK_STATUS_LOCK_A = false → ∃ t, exec .domainASwitchover s = .next t ∧
    t.on Reg.CLK_STATUS_A_ALT = true ∧ OnlyFlds [Reg.CLK_STATUS_A_ALT] s t ∧ Within [.regs] s t) ∧
  (∀ s : State, s.on Reg.CLK_STATUS_A_ALT = true → s.on Reg.CLK_STATUS_LOCK_A = true →
    (s.clk.lockA + usCycles 1 ≤ s.now → ∃ t, exec .domainASwitchback s = .next t ∧ t.on Reg.CLK_STATUS_A_ALT = false ∧
      t.on Reg.ADC_STATUS_PLLSW_S = true ∧ OnlyFlds [Reg.CLK_STATUS_A_ALT, Reg.ADC_STATUS_PLLSW_S] s t ∧
      ∀ c, c < 32 → (t.conv c).swLeft = if s.inConversion c then 5 else 4) ∧
    (s.now < s.clk.lockA + usCycles 1 → exec .domainASwitchback s = .next s)) ∧
  (∀ s : State, s.clk.lossM.isSome = true → s.on Reg.CLK_STATUS_M_SR = false → ∃ t, exec .memSelfRefreshEntry s = .next t ∧
    t.on Reg.CLK_STATUS_M_SR = true ∧ t.mem.srFrom = some s.now ∧ t.mem.dram = s.mem.dram ∧ OnlyFlds [Reg.CLK_STATUS_M_SR] s t) ∧
  (∀ (s : State) (a : Nat), s.on Reg.CLK_STATUS_M_SR = true → s.on Reg.CLK_STATUS_LOCK_M = true → s.on Reg.SYS_STBY_STAT_READY = false →
    s.mem.srFrom = some a → ∃ t, exec .memSelfRefreshExit s = .next t ∧ t.on Reg.CLK_STATUS_M_SR = false ∧ t.mem.srFrom = none ∧
    OnlyFlds [Reg.CLK_STATUS_M_SR] s t ∧ t.mem.dram = s.mem.dram ∧
    ∀ c f, (s.dch c).flight = some f → (t.dch c).flight = some { f with paused := f.paused + (s.now - a) }) ∧
  (∀ s : State, s.on Reg.CLK_STATUS_SPREAD_ON = true → s.on Reg.CLK_STATUS_LOCK_C = true → s.profPos % 400 = 0 → s.clk.catching = false →
    let n := s.profRatio s.profPos
    ∃ t, exec .spreadStep s = .next t ∧ t.fld (Reg.CLK_PLL_NINT_NINT 0) = n / 2 ^ 24 % 2 ^ (Reg.CLK_PLL_NINT_NINT 0).width ∧
      t.fld (Reg.CLK_PLL_NFRAC_NFRAC 0) = n % 2 ^ 24 ∧
      t.eng.rho = (roundDiv ((4800000 * 2 ^ 48 : Nat) : Int) (s.refKhz * n)).toNat ∧ t.fld Reg.GRT_TICKW = t.eng.rho * 16 % 2 ^ 32 ∧
      t.eng = { s.eng with rho := t.eng.rho } ∧
      OnlyFlds [Reg.CLK_PLL_NINT_NINT 0, Reg.CLK_PLL_NFRAC_NFRAC 0, Reg.GRT_TICKW] s t) ∧
  (∀ (s : State) (v : Nat), s.regs.com = [(Reg.CLK_SPREAD_EN.key, v)] → v < 2 → s.on Reg.CLK_STATUS_LOCK_C = true → s.profPos = 0 →
    ∃ t, exec .spreadProfileRestart s = .next t ∧ t.regs.com = [] ∧ t.fld Reg.CLK_SPREAD_EN = v ∧ t.fld Reg.CLK_STATUS_SPREAD_ON = v ∧
      t.clk.profile = s.now)

/-! Protected memory, DMA and the dual-clock queues. -/

/-- Protected memory (R284, R286, R287, R291 to R294): the fill leaves zeros; a die is marked by hand or by its window and unmarked; errors in
one symbol are corrected and
those in two beside a marked die are not; the patrol counts, writes back and moves on; an errata move waits for the bursts before it, carries
its block, and then its entry is valid; an injected mask stands in its beat.
The model's choices in it: log entries 103, 105, 130, 164. -/
def Obligations.MemoryIsKeptAndRepaired : Prop :=
  (∀ s : State, s.on Reg.MEM_STATUS_INIT_DONE = false → s.fld Reg.SYS_BOOT_STATUS_PHASE = 2 →
    (s.fld Reg.SYS_RESET_CAUSE_KIND = 0 → ∃ t, exec (.memInitDone none) s = .next t ∧ t.on Reg.MEM_STATUS_INIT_DONE = true ∧
      (∀ a, t.dram a = 0) ∧ t.mem.plist = [] ∧ t.mem.flips = [] ∧ t.fld Reg.MEM_PL_CNT_USED = 0 ∧
      t.on Reg.SYS_DIE_STATUS_CNV_UP = true ∧ t.fld Reg.SYS_DIE_STATUS_DRV_UP = 15 ∧ t.on Reg.SYS_DIE_STATUS_MEM_UP = true ∧
      OnlyFlds [Reg.MEM_STATUS_INIT_DONE, Reg.SYS_DIE_STATUS_MEM_UP, Reg.SYS_DIE_STATUS_CNV_UP, Reg.SYS_DIE_STATUS_DRV_UP,
        Reg.MEM_PL_CNT_USED] s t) ∧
    (s.fld Reg.SYS_RESET_CAUSE_KIND ≠ 0 → ∃ t, exec (.memInitDone none) s = .next t ∧ t.on Reg.MEM_STATUS_INIT_DONE = true ∧
      t.mem.dram = s.mem.dram ∧ OnlyFlds [Reg.MEM_STATUS_INIT_DONE, Reg.SYS_DIE_STATUS_MEM_UP, Reg.SYS_DIE_STATUS_CNV_UP,
        Reg.SYS_DIE_STATUS_DRV_UP] s t) ∧
    ∀ d : Fin 10, ∃ t, exec (.memInitDone (some d)) s = .next t ∧ t.on Reg.MEM_STATUS_INIT_DONE = true ∧ t.lostDie = some d.val ∧
      t.on Reg.MEM_STATUS_LOST_S = true) ∧
  (∀ (s : State) (p : Port) (d : Fin 16), s.Takes p Reg.MEM_DIE_CTRL_DIE.addr →
    (d.val < 10 → s.on Reg.MEM_STATUS_LOST = false → ∃ t, exec (.dieMark p d) s = .next t ∧ t.lostDie = some d.val ∧
      t.on Reg.MEM_STATUS_LOST_S = true ∧ OnlyFlds [Reg.MEM_DIE_CTRL_DIE, Reg.MEM_STATUS_LOST, Reg.MEM_STATUS_LOST_DIE, Reg.MEM_STATUS_LOST_S,
        Reg.SYS_EVENT_PORTCOL_S] s t) ∧
    (10 ≤ d.val ∨ s.on Reg.MEM_STATUS_LOST = true → ∃ t, exec (.dieMark p d) s = .next t ∧
      RefusesWrite s t p Reg.MEM_DIE_CTRL_DIE.addr) ∧
    (s.on Reg.MEM_STATUS_LOST = true → ∃ t, exec (.dieUnmark p) s = .next t ∧ t.lostDie = none ∧
      OnlyFlds [Reg.MEM_STATUS_LOST, Reg.MEM_STATUS_LOST_DIE, Reg.MEM_STATUS_LOST2, Reg.SYS_EVENT_PORTCOL_S] s t) ∧
    (s.on Reg.MEM_STATUS_LOST = false → ∃ t, exec (.dieUnmark p) s = .next t ∧ RefusesWrite s t p Reg.MEM_DIE_CTRL_DIE.addr)) ∧
  (∀ (s : State) (d : Fin 10), s.mem.winFrom + 400000000 ≤ s.now → s.on Reg.MEM_STATUS_LOST = false →
    (s.on Reg.MEM_CTRL_AUTO_LOST = true →
      (∀ e, e < 10 → (s.fld Reg.MEM_LOST_CFG_THR ≤ tabGet 0 s.mem.dieWin e ↔ e = d.val)) → ∃ t, exec .dieCeWindow s = .next t ∧
      t.lostDie = some d.val ∧ t.mem.dieWin = [] ∧ t.mem.winFrom = s.mem.winFrom + 400000000 ∧
        t.on Reg.MEM_STATUS_LOST2 = s.on Reg.MEM_STATUS_LOST2) ∧
    ((∀ e, e < 10 → tabGet 0 s.mem.dieWin e < s.fld Reg.MEM_LOST_CFG_THR) → ∃ t, exec .dieCeWindow s = .next t ∧ t.regs = s.regs ∧
      t.mem.dieWin = [])) ∧
  (∀ s : State, s.now < s.mem.winFrom + 400000000 → exec .dieCeWindow s = .next s) ∧
  (∀ (d e : Fin 10) (x y : Nat), 0 < x → x < 256 → 0 < y → y < 256 → verdict none (x * 256 ^ d.val) = .corrected d 0 ∧
    verdict none 0 = .clean 0 ∧ verdict (some d.val) (x * 256 ^ d.val) = .clean 0 ∧
    (d ≠ e → verdict (some d.val) (x * 256 ^ d.val + y * 256 ^ e.val) = .bad)) ∧
  (∀ s : State, (s.on Reg.MEM_CTRL_SCRUB_EN = false ∨ s.memRuns = false ∨ s.scrubDue = false ∨ s.scrubSlot = false →
      exec .scrubRead s = .next s) ∧
    ∀ b, s.on Reg.MEM_CTRL_SCRUB_EN = true → s.memRuns = true → s.scrubDue = true → s.scrubSlot = true → s.fld Reg.MEM_SCRUB_POS_BLOCK + 1 < 2 ^ 26 →
      s.scrubTarget (s.fld Reg.MEM_SCRUB_POS_BLOCK) = some b → s.moving (64 * b) = false →
      ((∀ i, i < 8 → tabGet 0 s.mem.flips (8 * b + i) = 0) → ∃ t, exec .scrubRead s = .next t ∧
        t.fld Reg.MEM_SCRUB_POS_BLOCK = s.fld Reg.MEM_SCRUB_POS_BLOCK + 1 ∧ t.mem = s.mem ∧ OnlyFlds [Reg.MEM_SCRUB_POS_BLOCK] s t) ∧
      ∀ (j : Fin 8) (d : Fin 10) (x : Nat), 0 < x → x < 256 → s.on Reg.MEM_STATUS_LOST = false →
        tabGet 0 s.mem.flips (8 * b + j.val) = x * 256 ^ d.val → (∀ i, i < 8 → i ≠ j.val → tabGet 0 s.mem.flips (8 * b + i) = 0) →
        ∃ t, exec .scrubRead s = .next t ∧ t.on Reg.MEM_STATUS_CE_S = true ∧ t.fld Reg.MEM_CE_CNT = s.counted Reg.MEM_CE_CNT ∧
          t.fld (dieCnt d) = s.counted (dieCnt d) ∧ tabGet 0 t.mem.flips (8 * b + j.val) = 0 ∧
          OnlyFlds [Reg.MEM_SCRUB_POS_BLOCK, Reg.MEM_STATUS_CE_S, Reg.MEM_CE_CNT, dieCnt d] s t) ∧
  (∀ (s : State) (p : Port) (b : Fin 0x80000), s.Takes p Reg.MEM_ERRATA_CTRL_BLOCK.addr → s.moving (b.val * 8192) = false →
    (s.errataOf b = none → b.val < spareBlock → ∀ k, s.errataFree = some k → ∃ t, exec (.errataAdd p b) s = .next t ∧
      t.mem.moves = s.mem.moves ++ [{ k := k, block := b.val, auto := false, at0 := s.now }] ∧
      OnlyFlds [Reg.MEM_ERRATA_CTRL_BLOCK, Reg.SYS_EVENT_PORTCOL_S] s t) ∧
    ((s.errataOf b).isSome = true ∨ spareBlock ≤ b.val ∨ s.errataFree = none → ∃ t, exec (.errataAdd p b) s = .next t ∧
      t.on Reg.SYS_EVENT_WRREJ_S = true ∧ t.mem = s.mem) ∧
    (∀ k, s.errataOf b = some k → ∃ t, exec (.errataRemove p b) s = .next t ∧
      t.mem.moves = s.mem.moves ++ [{ k := k, block := b.val, back := true, at0 := s.now }] ∧
      OnlyFlds [Reg.MEM_ERRATA_CTRL_BLOCK, Reg.SYS_EVENT_PORTCOL_S] s t)) ∧
  (∀ (s : State) (m : Move) (ms : List Move), s.mem.moves = m :: ms → s.burstIn m = true → exec .errataMoveDone s = .next s) ∧
  (∀ (s : State) (m : Move) (ms : List Move), s.mem.moves = m :: ms → s.memRuns = true → s.burstIn m = false → m.k < 16 → m.block < 0x80000 →
    s.flippedBlocks m.block = [] →
    ∃ t, exec .errataMoveDone s = .next t ∧ t.mem = { s.mem with moves := ms } ∧ t.on (Reg.MEM_ERRATA_VALID m.k) = !m.back ∧
      (m.back = false → t.fld (Reg.MEM_ERRATA_BLOCK m.k) = m.block ∧ t.on (Reg.MEM_ERRATA_AUTO m.k) = m.auto ∧
        t.on Reg.MEM_STATUS_ERRADD_S = true) ∧
      OnlyFlds [Reg.MEM_ERRATA_VALID m.k, Reg.MEM_ERRATA_BLOCK m.k, Reg.MEM_ERRATA_AUTO m.k, Reg.MEM_STATUS_ERRADD_S] s t) ∧
  (∀ (s : State) (p : Port), s.Takes p Reg.MEM_INJ_CTRL_GO.addr →
    let a := s.fld Reg.MEM_INJ_ADDR
    (s.expertStart = true → 0x01000000 ≤ a → a < 0xFFFE0000 → ∃ t, exec (.checkerInject p) s = .next t ∧
      t.mem.inj = some (a / 8, s.fld Reg.MEM_FLIP0 + s.fld Reg.MEM_FLIP1 * 2 ^ 32 + s.fld Reg.MEM_FLIP2_MASK * 2 ^ 64) ∧
      t.mem.dram = s.mem.dram ∧ OnlyFlds [Reg.SYS_EVENT_PORTCOL_S] s t) ∧
    (s.expertStart = false ∨ a < 0x01000000 ∨ 0xFFFE0000 ≤ a → ∃ t, exec (.checkerInject p) s = .next t ∧
      RefusesWrite s t p Reg.MEM_INJ_CTRL_GO.addr)) ∧
  (∀ (s : State) (b m : Nat), s.mem.inj = some (b, m) → s.moving (8 * b) = true → exec .checkerInjectDone s = .next s) ∧
  (∀ (s : State) (b m : Nat), s.mem.inj = some (b, m) → s.memRuns = true → s.moving (8 * b) = false → (∀ i, i < 8 →
    tabGet 0 s.mem.flips (8 * (b / 8) + i) = 0) →
    ∃ t, exec .checkerInjectDone s = .next t ∧ tabGet 0 t.mem.flips b = m ∧ t.mem.inj = none ∧ t.on Reg.MEM_STATUS_INJ_S = true ∧
      t.mem.dram = s.mem.dram ∧ OnlyFlds [Reg.MEM_STATUS_INJ_S] s t)

/-- Bytes of DRAM (R288, R289): a write within one block stands where it was written and leaves every other byte as it was; poisoned data enters
the poison
list and a full write leaves it; a write that needs room in a full list does not land; a read gives what was written, with its block's poison.
The model's choices in it: log entry 7. -/
def Obligations.BytesLandInTheirBlocks : Prop :=
  (∀ (s t : State) (a : Nat) (bytes : List Nat) (poison : Bool), a % 64 + bytes.length ≤ 64 → s.writeBlock a bytes poison = some t →
    (∀ i v, bytes[i]? = some v → t.dram (a + i) = v % 256) ∧
    (∀ x, x / 64 ≠ a / 64 → t.dram x = s.dram x) ∧
    ((∀ i, i < 8 → tabGet 0 s.mem.flips (8 * (a / 64) + i) = 0) → ∀ x, x < a ∨ a + bytes.length ≤ x → t.dram x = s.dram x) ∧
    (poison = true → t.mem.plist.contains (a / 64) = true) ∧
    (bytes.length = 64 → poison = false → t.mem.plist.contains (a / 64) = false ∧
      ∀ i, i < 8 → tabGet 0 t.mem.flips (8 * (a / 64) + i) = 0) ∧
    Within [.regs, .mem] s t) ∧
  (∀ (s : State) (a : Nat) (bytes : List Nat) (poison : Bool), s.writeBlock a bytes poison = none ↔
    (poison = true ∨ bytes.length ≠ 64 ∧ s.blockBad (a / 64) = true) ∧ s.mem.plist.contains (a / 64) = false ∧ 64 ≤ s.mem.plist.length) ∧
  (∀ (s : State) (a n : Nat), tabGet 0 s.mem.flips (a / 8) = 0 →
    s.readBeat a n = (s, (List.range n).map (fun i => s.dram (a + i)), s.mem.plist.contains (a / 64)))

/-- DMA channels (R296 to R298, R305 to R307): START begins the descriptors of an idle COPY channel; a finished one is counted and the next is
read; records that
were written become readable and may lap the reader; a request without a completion halts its channel with its record; RESUME and ARES let it go on.
The model's choices in it: log entries 102, 106. -/
def Obligations.DmaChannelsRunHaltAndResume : Prop :=
  (∀ (s : State) (p : Port) (c : Fin 32), s.Takes p (addrCtrl c) →
    (s.chKind c = kCOPY → s.chState c = 0 → ∃ t, exec (.copyStart p c) s = .next t ∧
      (t.dch c).copy = some { desc := s.fld (Reg.DMA_CH_DESC c) } ∧ OnlyFlds [Reg.SYS_EVENT_PORTCOL_S] s t) ∧
    (s.chKind c ≠ kCOPY ∨ s.chState c ≠ 0 → ∃ t, exec (.copyStart p c) s = .next t ∧ RefusesWrite s t p (addrCtrl c)) ∧
    ((s.dch c).halted = true → s.faultAt c ≠ s.now → ∃ t, exec (.dmaResume p c) s = .next t ∧
      t.dch c = { s.dch c with halted := false, stalled := false } ∧ OnlyFlds [Reg.SYS_EVENT_PORTCOL_S] s t) ∧
    ((s.dch c).halted = true → s.faultAt c = s.now → ∃ t, exec (.dmaResume p c) s = .next t ∧ t.mem = s.mem ∧
      OnlyFlds [Reg.SYS_EVENT_PORTCOL_S] s t) ∧
    ((s.dch c).halted = false → ∃ t, exec (.dmaResume p c) s = .next t ∧ RefusesWrite s t p (addrCtrl c))) ∧
  (∀ (s : State) (c : Fin 32) (k : CopyRun), (s.dch c).copy = some k → k.phase = 3 → (s.dch c).halted = false → ∃ t,
    exec (.copyDescriptorDone c) s = .next t ∧ t.fld (Reg.DMA_CH_CNT_DONE_CNT c) = s.counted (Reg.DMA_CH_CNT_DONE_CNT c) ∧
    (t.dch c).copy = (if k.last then none else some { desc := k.next }) ∧ OnlyFlds [Reg.DMA_CH_CNT_DONE_CNT c] s t) ∧
  (∀ (s : State) (c : Fin 32), ((s.dch c).wrote = 0 → exec (.streamRecordWrite c) s = .next s) ∧
    let size := s.fld (Reg.DMA_CH_SIZE c)
    let w := s.fld (Reg.DMA_CH_WPTR c)
    let n := 16 * (s.dch c).wrote
    (0 < n → 0 < size → size < 2 ^ 32 →
      (s.on (Reg.DMA_CH_CTRL_MODE c) = false ∨ lapped (s.dch c).full w n (s.fld (Reg.DMA_CH_RPTR c) / 16 * 16) size = false) →
      ∃ t, exec (.streamRecordWrite c) s = .next t ∧ t.fld (Reg.DMA_CH_WPTR c) = (w + n) % size ∧ (t.dch c).wrote = 0 ∧
        (t.dch c).full = decide ((w + n) % size = s.fld (Reg.DMA_CH_RPTR c) / 16 * 16) ∧ OnlyFlds [Reg.DMA_CH_WPTR c] s t) ∧
    (0 < n → 0 < size → size < 2 ^ 32 → s.on (Reg.DMA_CH_CTRL_MODE c) = true →
      lapped (s.dch c).full w n (s.fld (Reg.DMA_CH_RPTR c) / 16 * 16) size = true →
      ∃ t, exec (.streamRecordWrite c) s = .next t ∧ t.fld (Reg.DMA_CH_WPTR c) = (w + n) % size ∧
        t.fld (Reg.DMA_CH_RPTR c) = (w + n + 16) % size ∧ t.on (Reg.DMA_CH_STATUS_LAP_S c) = true ∧
        t.fld (Reg.DMA_CH_CNT2_LAP_CNT c) = s.counted (Reg.DMA_CH_CNT2_LAP_CNT c))) ∧
  (∀ (s : State) (c : Fin 32) (f : Flight), (s.dch c).flight = some f → s.on Reg.CLK_STATUS_M_SR = false →
    let due := f.takenAt + f.paused + usCycles (s.fld (Reg.DMA_CH_CTRL_TMO c))
    (due ≤ s.now → ∃ t, exec (.dmaTimeout c) s = .next t ∧ (t.dch c).halted = true ∧ (t.dch c).flight = none ∧ (t.dch c).jobs = [] ∧
      ((s.dch c).jobs = [] → t.fld (Reg.DMA_CH_FAULT_INFO_CAUSE c) = 4 ∧ t.fld (Reg.DMA_CH_FAULT_ADDR c) = f.vaddr % 2 ^ 32 ∧
        t.fld (Reg.DMA_CH_FAULT_STAMP_LO c) = s.now % 2 ^ 32 ∧ bitOf (t.fld Reg.DMA_FAULT_S) c = true ∧
        t.fld (Reg.DMA_CH_CNT_FLT_CNT c) = s.counted (Reg.DMA_CH_CNT_FLT_CNT c) ∧ OnlyBlocks [9, 10] s t)) ∧
    (s.now < due → exec (.dmaTimeout c) s = .next s)) ∧
  (∀ (s : State) (c : Fin 32), (s.dch c).halted = true → s.on (Reg.DMA_CH_CFG_ARES c) = true →
    (s.fld (Reg.DMA_CH_FAULT_INFO_CAUSE c) = 4 ∨ s.fld (Reg.DMA_CH_FAULT_INFO_CAUSE c) = 5 →
      (s.faultAt c + 400000 ≤ s.now → ∃ t, exec (.dmaAutoResume c) s = .next t ∧ (t.dch c).halted = false ∧
        t.fld Reg.DMA_CNT_ARES_CNT = s.counted Reg.DMA_CNT_ARES_CNT ∧ OnlyFlds [Reg.DMA_CNT_ARES_CNT] s t) ∧
      (s.now < s.faultAt c + 400000 → exec (.dmaAutoResume c) s = .next s)) ∧
    (s.fld (Reg.DMA_CH_FAULT_INFO_CAUSE c) < 4 ∨ 5 < s.fld (Reg.DMA_CH_FAULT_INFO_CAUSE c) → exec (.dmaAutoResume c) s = .next s))

/-- The tracker and the dual-clock queues (R278 to R281, R284, R300, R302, R303, R305, R411): a request at the head of its queue takes its
entries one by one
as there is room, with its translated beats, and is stalled and counted once where there is too little; one behind it waits, and one in a queue in
reset too; an address outside its domain halts the channel; command slots serve class A before B before C, round-robin within a class, and a
request that has its last leaves the tracker and answers its port; a queue error is recorded, and a converter's queue loses its items.
The model's choices in it: log entries 95, 102. -/
def Obligations.TheTrackerServesItsRequesters : Prop :=
  (∀ (s : State) (c : Fin 32), let r : Fin 34 := ⟨c.val, by omega⟩
    let cls := s.reqClass c
    ((s.dch c).flight = none → s.ask c = none → exec (.dmaRequestAccept r) s = .next s) ∧
    ∀ q, s.ask c = some q →
      (s.queueClash (31 + cls) = true → (s.dch c).jobs = [] → ∃ t, exec (.dmaRequestAccept r) s = .next t ∧ (t.dch c).halted = true ∧
        t.fld (Reg.DMA_CH_FAULT_INFO_CAUSE c) = 5 ∧ t.fld (Reg.DMA_CH_FAULT_ADDR c) = q.vaddr % 2 ^ 32) ∧
      (s.queueClash (31 + cls) = false → s.queueReset (31 + cls) = true → exec (.dmaRequestAccept r) s = .next s) ∧
      (s.queueClash (31 + cls) = false → s.queueReset (31 + cls) = false →
        s.memRuns = false ∨ (s.joinQueue cls c).atHead cls c = false → exec (.dmaRequestAccept r) s = .next (s.joinQueue cls c)) ∧
      (s.queueClash (31 + cls) = false → s.queueReset (31 + cls) = false → s.memRuns = true → (s.joinQueue cls c).atHead cls c = true →
        let k := blocksOf q.vaddr q.len
        let took (t : State) (n : Nat) (bs : List (Nat × Nat)) : Prop := (t.dch c).flight = some
          { cls := cls, entries := k, left := n, want := k - n, takenAt := s.now, vaddr := q.vaddr, len := q.len, write := q.write,
            beats := bs, recs := q.recs, srcs := q.srcs, kind := s.chKind c, copy := (s.dch c).copy, job := (s.dch c).jobs.head? }
        (0 < s.room cls → k ≤ s.room cls → s.badAsk c q = none →
          ∀ bs, s.translateBeats (s.chDom c) q.write (beatsOf 33 q.vaddr q.len) = (bs, none) → ∃ t,
          exec (.dmaRequestAccept r) s = .next t ∧ took t k bs ∧ (t.dch c).stalled = false ∧
          OnlyFlds [Reg.MEM_TRK_A_USED, Reg.MEM_TRK_B_USED, Reg.MEM_TRK_C_USED] s t) ∧
        (0 < s.room cls → s.room cls < k → s.badAsk c q = none →
          ∀ bs, s.translateBeats (s.chDom c) q.write (beatsOf 33 q.vaddr q.len) = (bs, none) → ∃ t,
          exec (.dmaRequestAccept r) s = .next t ∧ took t (s.room cls) bs ∧ (t.dch c).stalled = true) ∧
        (0 < s.room cls → k ≤ s.room cls → s.badAsk c q = none →
          ∀ a e, s.translateBeats (s.chDom c) q.write (beatsOf 33 q.vaddr q.len) = ([], some (a, e)) →
          (s.dch c).jobs = [] → (s.dch c).copy = none → ∃ t, exec (.dmaRequestAccept r) s = .next t ∧ (t.dch c).halted = true ∧
          t.fld (Reg.DMA_CH_FAULT_ADDR c) = a % 2 ^ 32 ∧ t.fld (Reg.DMA_CH_FAULT_INFO_CAUSE c) = e % 2 ^ (Reg.DMA_CH_FAULT_INFO_CAUSE c).width ∧
          t.mem.dram = s.mem.dram) ∧
        (s.room cls = 0 → (s.dch c).stalled = false → ∃ t, exec (.dmaRequestAccept r) s = .next t ∧ (t.dch c).stalled = true ∧
          (t.dch c).flight = none ∧ (cls = 2 → t.fld Reg.MEM_TRK_STALL_CNT_B_STALL = s.counted Reg.MEM_TRK_STALL_CNT_B_STALL) ∧
          OnlyFlds [Reg.MEM_TRK_STALL_CNT_B_STALL, Reg.MEM_TRK_STALL_CNT_C_STALL] s t) ∧
        (s.room cls = 0 → (s.dch c).stalled = true → exec (.dmaRequestAccept r) s = .next (s.joinQueue cls c)))) ∧
  (∀ (s : State) (c : Fin 32) (f : Flight), let r : Fin 34 := ⟨c.val, by omega⟩
    (s.dch c).flight = some f → s.memRuns = true → s.queueReset (31 + s.reqClass c) = false → 0 < min f.want (s.room f.cls) →
    ∃ t, exec (.dmaRequestAccept r) s = .next t ∧ (t.dch c).flight =
        some { f with left := f.left + min f.want (s.room f.cls), want := f.want - min f.want (s.room f.cls) } ∧
      OnlyFlds [Reg.MEM_TRK_A_USED, Reg.MEM_TRK_B_USED, Reg.MEM_TRK_C_USED] s t) ∧
  (∀ (s : State) (c : Fin 32), let r : Fin 34 := ⟨c.val, by omega⟩
    (s.serveTo c 96 = none → exec (.dmaRequestComplete r) s = .next s) ∧
    ∀ f, (s.dch c).flight = some f → (s.dch c).orphans = [] → s.memRuns = true → s.queueClash (34 + f.cls) = false →
      (s.queueReset (34 + f.cls) = true → exec (.dmaRequestComplete r) s = .next s) ∧
      (s.queueReset (34 + f.cls) = false → (s.serveTo c 96).isSome = true → ∃ t, exec (.dmaRequestComplete r) s = .next t ∧
        (t.dch c).flight = none) ∧
      (0 < f.left → f.left ≤ 96 → f.want = 0 → 1 ≤ f.cls → f.cls ≤ 3 → (f.beats.any fun b => s.moving b.1) = false →
        (∀ q, q < 34 → q ≠ c.val → (s.dch q).flights = []) → (s.serveTo c 96).isSome = true)) ∧
  (∀ (s : State) (cls q : Nat), s.nextServed = some (cls, q) → s.servable cls q = true ∧
    (∀ k r, 1 ≤ k → k < cls → r < 34 → s.servable k r = false) ∧
    ∀ u, u < (q + 34 - tabGet 0 s.mem.rr cls % 34) % 34 → s.servable cls ((tabGet 0 s.mem.rr cls + u) % 34) = false) ∧
  (∀ (s : State) (p : Port) (f : WinFrame), let r : Fin 34 := ⟨portReq p, by cases p <;> decide⟩
    let cls := s.reqClass r
    (s.port p).frame = some f → s.memRuns = true → (s.dch r).orphans = [] →
    ((s.dch r).flight = none → s.queueClash (31 + cls) = false → s.queueReset (31 + cls) = false →
      (s.joinQueue cls r).atHead cls r = true → 0 < s.room cls → ∃ t,
      exec (.dmaRequestAccept r) s = .next t ∧ (t.dch r).flight = some
        { cls := cls, entries := f.blocks, left := min (s.room cls) f.blocks, want := f.blocks - min (s.room cls) f.blocks, takenAt := s.now,
          write := f.write, beats := f.addrs.map fun (a : Nat) => (a, 4) }) ∧
    ∀ q, (s.dch r).flight = some q → s.queueClash (34 + cls) = false → s.queueReset (34 + cls) = false → (s.serveTo r 96).isSome = true →
      f.silent = false →
      (f.write = false → (∀ a ∈ f.addrs, tabGet 0 s.mem.flips (a / 8) = 0) → ∃ t w, exec (.dmaRequestComplete r) s = .next t ∧
        (t.port p).frame = none ∧ (t.dch r).flight = none ∧ (t.port p).reply = some w ∧
        w.words = f.addrs.map (fun a => leWord [s.dram a, s.dram (a + 1), s.dram (a + 2), s.dram (a + 3)])) ∧
      (∀ (a : Nat) (v : Word), f.write = true → f.addrs = [a] → f.words = [v.toNat] → a % 4 = 0 →
        (∀ i, i < 8 → tabGet 0 s.mem.flips (8 * (a / 64) + i) = 0) → ∃ t, exec (.dmaRequestComplete r) s = .next t ∧
        (∀ i, i < 4 → t.dram (a + i) = v.toNat / 256 ^ i % 256) ∧ (∀ x, x < a ∨ a + 4 ≤ x → t.dram x = s.dram x) ∧
        (t.port p).frame = none ∧ (t.dch r).flight = none)) ∧
  (∀ (s : State) (q : Fin 45) (lost : Bool), ∃ t, exec (.queueError q lost) s = .next t ∧
    (q.val < 32 → bitOf (t.fld Reg.CLK_QERR_Q0) q = true ∧ (t.conv q).queue = (s.conv q).queue.drop convDepth ∧ t.on Reg.CLK_STATUS_QERR_S = true ∧
      t.fld Reg.CLK_CNT_QERR_CNT = s.counted Reg.CLK_CNT_QERR_CNT ∧ t.fld Reg.CLK_QERR_QNUM = q.val ∧ t.fld Reg.CLK_QERR_VALID = 1 ∧
      OnlyFlds [Reg.CLK_QERR_Q0, Reg.CLK_STATUS_QERR_S, Reg.CLK_CNT_QERR_CNT, Reg.CLK_QERR_QNUM, Reg.CLK_QERR_VALID] s t) ∧
    (q.val = 40 → bitOf (t.fld Reg.CLK_QERR_Q1) 8 = true ∧ t.on Reg.TWN_STATUS_LINKERR_S = true ∧
      t.fld Reg.TWN_CNT_LINKERR_CNT = s.counted Reg.TWN_CNT_LINKERR_CNT) ∧
    (q.val = 42 ∨ q.val = 43 → t.on Reg.SYS_EVENT_HKACC_S = (s.on Reg.SYS_EVENT_HKACC_S || lost)))

/-! Contour and Sounding. -/

/-- Contour (R316 to R318, R320 to R323): a window end writes and restarts every envelope; WITHIN returns a sequence to its first state; an
occurrence counts,
moves on, or triggers; ARM starts a recorder and FORCE triggers it; POST ends, the records are measured, and AUTO re-arms; a full queue owes a
gap.
The model's choices in it: log entry 53. -/
def Obligations.ContourSequencesAndRecords : Prop :=
  (∀ s : State, (s.envDue = false → exec .envelopeWindowEnd s = .next s) ∧
    (s.envDue = true → ∃ t, exec .envelopeWindowEnd s = .next t ∧ t.ctr.seq = s.ctr.seq ∧ ∀ p, p < 32 →
      (s.on (Reg.CTR_PROBE_ENV p) = true →
        t.fld (Reg.CTR_ENV_MIN p) = ((s.probe p).lo.map (unsignedOf 32)).getD 0x80000000 ∧
        t.fld (Reg.CTR_ENV_MAX p) = ((s.probe p).hi.map (unsignedOf 32)).getD 0x80000000 ∧
        t.probe p = { s.probe p with lo := none, hi := none, tagged := false }) ∧
      (s.on (Reg.CTR_PROBE_ENV p) = false → t.fld (Reg.CTR_ENV_MIN p) = s.fld (Reg.CTR_ENV_MIN p) ∧
        t.fld (Reg.CTR_ENV_MAX p) = s.fld (Reg.CTR_ENV_MAX p) ∧
        t.probe p = { s.probe p with lo := none, hi := none, tagged := false }))) ∧
  (∀ (s : State) (k : Fin 4), s.recState k = recARMED →
    let j := s.seqState k
    let n := s.fld (Reg.CTR_SEQ_STATUS_COUNT k) + 1
    (s.fld (Reg.CTR_SEQ_TIME_TMODE k j) = 2 → s.awaits Instr.beforeExpiry = false →
      ((s.seq k).entered + s.seqTime k ≤ s.now → ∃ t, exec (.seqWithinTimeout k) s = .next t ∧ t.seqState k = 0 ∧
        t.fld (Reg.CTR_SEQ_STATUS_COUNT k) = 0 ∧ (t.seq k).entered = s.now ∧
        OnlyFlds [Reg.CTR_SEQ_STATUS_STATE k, Reg.CTR_SEQ_STATUS_COUNT k] s t) ∧
      (s.now < (s.seq k).entered + s.seqTime k → exec (.seqWithinTimeout k) s = .next s)) ∧
    (∀ f, (s.seq k).holdFrom = some f → s.fld (Reg.CTR_SEQ_TIME_TMODE k j) = 1 → condHolds (s.fld (Reg.CTR_SEQ_COND_COND k j)) = true →
      s.marked (0x2010 + k.val) = false →
      (f + s.seqTime k ≤ s.now →
        (n ≤ s.fld (Reg.CTR_SEQ_COND_COUNTM1 k j) → n < 256 → ∃ t, exec (.seqHoldOccurrence k) s = .next t ∧
          t.fld (Reg.CTR_SEQ_STATUS_COUNT k) = n ∧ (t.seq k).holdFrom = some (f + s.seqTime k) ∧ OnlyFlds [Reg.CTR_SEQ_STATUS_COUNT k] s t) ∧
        (s.fld (Reg.CTR_SEQ_COND_COUNTM1 k j) < n → j < s.fld (Reg.CTR_SEQ_CTRL_NSTATE k) → j < 3 → ∃ t,
          exec (.seqHoldOccurrence k) s = .next t ∧ t.seqState k = j + 1 ∧ t.fld (Reg.CTR_SEQ_STATUS_COUNT k) = 0 ∧
          (t.seq k).entered = s.now ∧ (t.seq k).holdFrom = none ∧ OnlyFlds [Reg.CTR_SEQ_STATUS_STATE k, Reg.CTR_SEQ_STATUS_COUNT k] s t) ∧
        (s.fld (Reg.CTR_SEQ_COND_COUNTM1 k j) < n → s.fld (Reg.CTR_SEQ_CTRL_NSTATE k) ≤ j → ∃ t, exec (.seqHoldOccurrence k) s = .next t ∧
          t.recState k = recPOST ∧ (t.seq k).trigAt = s.now ∧ bitOf (t.fld Reg.CTR_STATUS_TRIG_S) k = true ∧
          t.fld (Reg.CTR_SEQ_TRIG_STAMP_LO k) = s.now % 2 ^ 32)) ∧
      (s.now < f + s.seqTime k → exec (.seqHoldOccurrence k) s = .next s))) ∧
  (∀ (s : State) (p : Port) (k : Fin 4), s.Takes p (addrSeqCtrl k) →
    (s.recState k = recIDLE ∨ s.recState k = recDONE → ∃ t, exec (.recorderArm p k) s = .next t ∧ t.recState k = recARMED ∧ t.seqState k = 0 ∧
      (t.seq k).entered = s.now ∧
      OnlyFlds [Reg.CTR_SEQ_STATUS_RSTATE k, Reg.CTR_SEQ_STATUS_STATE k, Reg.CTR_SEQ_STATUS_COUNT k, Reg.SYS_EVENT_PORTCOL_S] s t) ∧
    (s.recState k ≠ recIDLE → s.recState k ≠ recDONE → ∃ t, exec (.recorderArm p k) s = .next t ∧ RefusesWrite s t p (addrSeqCtrl k)) ∧
    (s.recState k = recARMED → ∃ t, exec (.recorderForce p k) s = .next t ∧ t.recState k = recPOST ∧ (t.seq k).trigAt = s.now ∧
      bitOf (t.fld Reg.CTR_STATUS_TRIG_S) k = true ∧ t.fld (Reg.CTR_SEQ_TRIG_STAMP_LO k) = s.now % 2 ^ 32 ∧
      OnlyFlds [Reg.CTR_CNT_GAP_CNT, Reg.CTR_STATUS_GAP_S, Reg.CTR_SEQ_TRIG_STAMP_LO k, Reg.CTR_SEQ_TRIG_STAMP_HI k, Reg.CTR_STATUS_TRIG_S,
        Reg.CTR_SEQ_STATUS_RSTATE k, Reg.SYS_EVENT_PORTCOL_S] s t) ∧
    (s.recState k ≠ recARMED → exec (.recorderForce p k) s = .next (s.noteWrite p (addrSeqCtrl k)))) ∧
  (∀ (s : State) (k : Fin 4), s.recState k = recPOST →
    ((s.seq k).ended = false → (s.seq k).trigAt + 400 * s.fld (Reg.CTR_REC_POST k) ≤ s.now → ∃ t, exec (.recorderPostEnd k) s = .next t ∧
      t.seq k = { s.seq k with ended := true } ∧ t.regs = s.regs) ∧
    ((s.seq k).ended = false → s.now < (s.seq k).trigAt + 400 * s.fld (Reg.CTR_REC_POST k) → exec (.recorderPostEnd k) s = .next s) ∧
    ((s.seq k).ended = true → s.recorded (s.fld (Reg.CTR_REC_CFG_DMA_CH k)) = true → ∃ t, exec (.recorderMeasureStart k) s = .next t ∧
      t.recState k = recMEASURING ∧ t.fld (Reg.CTR_REC_END_WPTR k) = s.fld (Reg.DMA_CH_WPTR (s.fld (Reg.CTR_REC_CFG_DMA_CH k))) % 2 ^ 32 ∧
      OnlyFlds [Reg.CTR_REC_END_WPTR k, Reg.CTR_SEQ_STATUS_RSTATE k] s t) ∧
    (s.recorded (s.fld (Reg.CTR_REC_CFG_DMA_CH k)) = false → exec (.recorderMeasureStart k) s = .next s)) ∧
  (∀ (s : State) (k : Fin 4), s.recState k = recMEASURING →
    let c := s.fld (Reg.CTR_REC_CFG_DMA_CH k)
    s.coreReady (s.bufferAt c) (s.fld (Reg.DMA_CH_SIZE c)) = false → exec (.recorderMeasureDone k) s = .next s) ∧
  (∀ (s : State) (k : Fin 4), s.recState k = recMEASURING →
    let c := s.fld (Reg.CTR_REC_CFG_DMA_CH k)
    s.coreReady (s.bufferAt c) (s.fld (Reg.DMA_CH_SIZE c)) = true →
    let m := (s.coreDone.readBack k c (s.fld (Reg.DMA_CH_SIZE c)) (s.fld (Reg.DMA_CH_SIZE c) / 16) (s.fld (Reg.CTR_REC_END_WPTR k)) {}).2
    ∃ t, exec (.recorderMeasureDone k) s = .next t ∧ t.recState k = (if s.on (Reg.CTR_SEQ_CTRL_AUTO k) then recARMED else recDONE) ∧
      t.fld (Reg.CTR_REC_MEAS_N k) = min m.n 0xFFFFFF ∧ t.fld (Reg.CTR_REC_MEAS_FLAG k) = min m.flag 0xFF ∧
      t.fld (Reg.CTR_REC_MEAS_XCNT k) = min m.xcnt 0xFFFF ∧ t.fld (Reg.CTR_REC_MEAS_PERIOD k) = m.period ∧
      (m.n = 0 → t.fld (Reg.CTR_REC_MEAS_MIN k) = 0x80000000 ∧ t.fld (Reg.CTR_REC_MEAS_RMS k) = 0x80000000) ∧
      (0 < m.n → t.fld (Reg.CTR_REC_MEAS_MIN k) = unsignedOf 32 (clampInt m.lo) ∧
        t.fld (Reg.CTR_REC_MEAS_MAX k) = unsignedOf 32 (clampInt m.hi))) ∧
  (∀ (s : State) (ch t r : Nat), 64 ≤ (s.recQ ch).recs.length →
    (s.ctrPush ch t r).fld Reg.CTR_CNT_GAP_CNT = s.counted Reg.CTR_CNT_GAP_CNT ∧ (s.ctrPush ch t r).on Reg.CTR_STATUS_GAP_S = true ∧
    (s.ctrPush ch t r).recQ ch = { s.recQ ch with
      gapCount := (s.recQ ch).gapCount + 1
      gapStamp := if (s.recQ ch).gapCount = 0 then t else (s.recQ ch).gapStamp }) ∧
  (∀ (s : State) (ch t r : Nat), (s.recQ ch).recs.length < 64 →
    (s.ctrPush ch t r).recQ ch = { s.recQ ch with recs := (s.recQ ch).recs ++ [r] } ∧ (s.ctrPush ch t r).regs = s.regs)

/-- Sounding (R325 to R331): every microsecond the injection follows the generator's state; a burst starts from WAIT when it may and ends with
the quality and the quotient of each tone; three accepted tones are fitted and may retune the group at a rotor tick; TUNE measures and ABORT ends it.
The model's choices in it: log entries 54, 67, 114, 153, 180. -/
def Obligations.SoundingMeasuresAndRetunes : Prop :=
  (∀ (s : State) (g : Fin 8),
    (s.now % 400 = 0 → s.marked (0x2020 + g.val) = false → ∃ t, exec (.injectionUpdate g) s = .next t ∧
      t.sfld (Reg.SND_G_INJ_A g) = clampInt (s.injWords g).1 ∧ t.sfld (Reg.SND_G_INJ_B g) = clampInt (s.injWords g).2 ∧
      (s.genState g = gIDLE ∨ s.genState g = gWAIT → t.fld (Reg.SND_G_INJ_A g) = 0 ∧ t.fld (Reg.SND_G_INJ_B g) = 0) ∧
      OnlyFlds [Reg.SND_G_INJ_A g, Reg.SND_G_INJ_B g] s t) ∧
    (s.now % 400 ≠ 0 → exec (.injectionUpdate g) s = .next s)) ∧
  (∀ (s : State) (g : Fin 8), s.genState g = gWAIT → s.on (Reg.SND_G_CFG_EN g) = true → s.frameHeld g = false →
    s.awaits (Instr.beforeBurst g) = false →
    let due := max (max (s.gen g).since (s.gen g).waitFrom + s.fld (Reg.SND_G_CFG_PERIOD g) * 400000000) ((s.gen g).enAt.getD 0) +
      (s.gen g).delay
    (s.maySound g = true → due ≤ s.now → ∃ t, exec (.burstStart g) s = .next t ∧ t.genState g = gBURST ∧ (t.gen g).start = s.eng.real ∧
      (t.gen g).sums = [] ∧ OnlyFlds [Reg.SND_G_STATUS_STATE g] s t ∧ Within [.regs, .snd] s t) ∧
    (s.maySound g = false ∨ s.now < due → exec (.burstStart g) s = .next s)) ∧
  (∀ (s : State) (g : Fin 8), s.genState g = gBURST →
    (s.fld (Reg.SND_G_CFG_TB g) * realSecond ≤ s.genTime g → ∃ t, exec (.burstEnd g) s = .next t ∧
      t.genState g = (if s.on (Reg.SND_G_CFG_EN g) then gWAIT else gIDLE) ∧ (t.gen g).fitDue = true ∧ (t.gen g).endAt = s.now ∧
      t.fld (Reg.SND_G_INJ_A g) = 0 ∧ t.fld (Reg.SND_G_INJ_B g) = 0 ∧
      ∀ k q, k < 6 → s.fld (Reg.SND_G_TONE_AMP g k) ≠ 0 → ((s.gen g).sums.getD k {}).quality = some q → t.fld (Reg.SND_G_Z_Q g k) = q ∧
        (q < s.fld (Reg.SND_G_QUAL_QMIN g) * 65536 → t.fld (Reg.SND_G_Z_RE g k) = 0x80000000 ∧ t.fld (Reg.SND_G_Z_IM g k) = 0x80000000 ∧
          k ∉ (t.gen g).accepted) ∧
        (s.fld (Reg.SND_G_QUAL_QMIN g) * 65536 ≤ q → k ∈ (t.gen g).accepted ∧
          ∀ z, ((s.gen g).sums.getD k {}).ratio (s.gen g).nV (s.gen g).nI = some z →
            t.sfld (Reg.SND_G_Z_RE g k) = z.1 ∧ t.sfld (Reg.SND_G_Z_IM g k) = z.2)) ∧
    (s.genTime g < s.fld (Reg.SND_G_CFG_TB g) * realSecond → exec (.burstEnd g) s = .next s)) ∧
  (∀ (s : State) (g : Fin 8), ((s.gen g).fitDue = false → exec (.soundingFit g) s = .next s) ∧
    ((s.gen g).fitDue = true →
      ((s.gen g).accepted.length < 3 → ∃ t, exec (.soundingFit g) s = .next t ∧ t.on (Reg.SND_G_STATUS_LOWQ_S g) = true ∧
        (t.gen g).fitDue = false ∧ OnlyFlds [Reg.SND_G_STATUS_LOWQ_S g] s t) ∧
      (3 ≤ (s.gen g).accepted.length → let z := s.fit g (s.gen g).accepted
        ∃ t, exec (.soundingFit g) s = .next t ∧ t.fld (Reg.SND_G_FIT_R g) = unsignedOf 32 z.1 ∧ t.fld (Reg.SND_G_FIT_X g) = unsignedOf 32 z.2 ∧
          t.on (Reg.SND_G_STATUS_DONE_S g) = true ∧ t.fld (Reg.SND_G_CNT_BURST_CNT g) = s.counted (Reg.SND_G_CNT_BURST_CNT g) ∧
          t.fld (Reg.SND_G_STAMP_LO g) = (s.gen g).endAt % 2 ^ 32 ∧
          (s.on (Reg.GFM_CTRL_RETUNE_EN g) = true → (t.gen g).retune = some (s.retuned g z.1 z.2) ∧ (t.gen g).retuneAt = s.now + 400000) ∧
          (s.on (Reg.GFM_CTRL_RETUNE_EN g) = false → (t.gen g).retune = (s.gen g).retune) ∧
          OnlyFlds [Reg.SND_G_FIT_R g, Reg.SND_G_FIT_X g, Reg.SND_G_STAMP_LO g, Reg.SND_G_STAMP_HI g, Reg.SND_G_STATUS_DONE_S g,
            Reg.SND_G_CNT_BURST_CNT g] s t))) ∧
  (∀ (s : State) (g : Fin 8) (z : Int × Int), (s.gen g).retune = some z → s.awaits (Instr.beforeRetune g) = false →
    ((s.gen g).retuneAt ≤ s.now → s.marked (0x2040 + g.val) = true → s.readsPair g = false → ∃ t, exec (.retuneApply g) s = .next t ∧
      (t.grp g).rvEff = (s.zBound g z).1 ∧
      (t.grp g).xvEff = (s.zBound g z).2 ∧ t.fld (Reg.GFM_RV_EFF g) = unsignedOf 32 (s.zBound g z).1 ∧
      t.fld (Reg.GFM_XV_EFF g) = unsignedOf 32 (s.zBound g z).2 ∧
      t.on (Reg.GFM_STATUS_RETUNE_S g) = true ∧ (t.gen g).retune = none ∧
      OnlyFlds [Reg.GFM_RV_EFF g, Reg.GFM_XV_EFF g, Reg.GFM_STATUS_RETUNE_S g, Reg.MEM_PL_CNT_USED] s t) ∧
    (s.now < (s.gen g).retuneAt ∨ s.marked (0x2040 + g.val) = false ∨ s.readsPair g = true → exec (.retuneApply g) s = .next s)) ∧
  (∀ (s : State) (p : Port) (g : Fin 8), s.Takes p (addrTune g) →
    let due := ((s.node g).ackDue.any fun (e : Nat × TxFrame) => decide (e.1 ≤ s.now)) && s.maySound g
    (due = true → ∃ t, exec (.tuneStart p g) s = .next t ∧ RefusesWrite s t p (addrTune g)) ∧
    (due = false → s.role = roleSTANDBY → s.genState g ≠ gBURST → s.genState g ≠ gBEARING →
      exec (.tuneStart p g) s = .next (s.noteWrite p (addrTune g))) ∧
    (due = false → s.role ≠ roleSTANDBY → s.genState g = gIDLE ∨ s.genState g = gWAIT → ∃ t, exec (.tuneStart p g) s = .next t ∧
      t.genState g = gTUNE ∧ (t.gen g).start = s.eng.real ∧
      (t.gen g).sums = [] ∧ OnlyFlds [Reg.SND_G_STATUS_STATE g, Reg.SYS_EVENT_PORTCOL_S] s t) ∧
    (s.genState g = gBURST ∨ s.genState g = gBEARING → ∃ t, exec (.tuneStart p g) s = .next t ∧ RefusesWrite s t p (addrTune g)) ∧
    (s.genState g = gTUNE → ∃ t, exec (.tuneAbort p g) s = .next t ∧ t.on (Reg.SND_G_STATUS_ABORT_S g) = true ∧
      t.genState g = (if s.on (Reg.SND_G_CFG_EN g) then gWAIT else gIDLE) ∧ t.fld (Reg.SND_G_INJ_A g) = 0 ∧ t.fld (Reg.SND_G_INJ_B g) = 0) ∧
    (s.genState g ≠ gTUNE → exec (.tuneAbort p g) s = .next (s.noteWrite p (addrTune g)))) ∧
  (∀ (s : State) (g : Fin 8), s.genState g = gTUNE →
    (s.fld (Reg.SND_G_CFG_TB g) * realSecond ≤ s.genTime g → ∃ t, exec (.tuneEnd g) s = .next t ∧ t.on (Reg.SND_G_STATUS_TUNE_S g) = true ∧
      t.genState g = (if s.on (Reg.SND_G_CFG_EN g) then gWAIT else gIDLE) ∧ t.fld (Reg.SND_G_INJ_A g) = 0 ∧
      ∀ k q, k < 6 → s.fld (Reg.SND_G_TONE_AMP g k) ≠ 0 → ((s.gen g).sums.getD k {}).quality = some q → t.fld (Reg.SND_G_Z_Q g k) = q) ∧
    (s.genTime g < s.fld (Reg.SND_G_CFG_TB g) * realSecond → exec (.tuneEnd g) s = .next s))

/-! Bearing and twin operation. -/

/-- The Bearing channel (R332 to R338): a frame that was sent is read back whole; a received frame is handled by the first rule that applies; GO
queues a frame,
CANCEL removes it; a waiting frame takes the generator, ends after 96 bits, and is sent again three times at most without its ACK; the state frame
and the leader's offsets follow their periods.
The model's choices in it: log entries 55, 56, 67, 195. -/
def Obligations.BearingFramesAreCarried : Prop :=
  (∀ f : BrgFields, f.dst < 2 ^ 12 → f.src < 2 ^ 12 → f.typ < 2 ^ 4 → f.seq < 2 ^ 3 → f.payload < 2 ^ 32 →
    readFrame (f.frame / 2 ^ 16) = (f, true)) ∧
  (∀ (s : State) (g : Fin 8), s.on (Reg.BRG_G_CFG_EN g) = true → s.armed = true → (s.node g).sending = none →
    (s.on (Reg.BRG_G_STATUS_RXBUSY g) = false → ∃ t, exec (.bearingSyncDetected g) s = .next t ∧ t.on (Reg.BRG_G_STATUS_RXBUSY g) = true ∧
      (t.node g).rxEnd = s.eng.real + 80 * bitTime ∧ OnlyFlds [Reg.BRG_G_STATUS_RXBUSY g] s t) ∧
    (s.on (Reg.BRG_G_STATUS_RXBUSY g) = true → exec (.bearingSyncDetected g) s = .next s)) ∧
  (∀ (s : State) (g : Fin 8) (w : BitVec 80), s.on (Reg.BRG_G_STATUS_RXBUSY g) = true → (s.node g).rxEnd ≤ s.eng.real →
    let f := (readFrame w.toNat).1
    let late := (roundDiv ((s.eng.real - (s.node g).rxEnd : Nat) : Int) s.eng.rho).toNat
    let mine := f.bc = true ∨ f.dst = s.fld (Reg.BRG_G_CFG_ADDR g)
    let good := (readFrame w.toNat).2 = true ∧ mine ∧ f.src ≠ s.fld (Reg.BRG_G_CFG_ADDR g)
    ∃ t, exec (.bearingFrameReceived g w) s = .next t ∧ t.on (Reg.BRG_G_STATUS_RXBUSY g) = false ∧
      ((readFrame w.toNat).2 = false → t.on (Reg.BRG_G_STATUS_CRC_S g) = true ∧
        t.fld (Reg.BRG_G_CNT_B_CRC_CNT g) = s.counted (Reg.BRG_G_CNT_B_CRC_CNT g) ∧ t.snd = s.snd ∧
        OnlyFlds [Reg.BRG_G_STATUS_RXBUSY g, Reg.BRG_G_STATUS_CRC_S g, Reg.BRG_G_CNT_B_CRC_CNT g] s t) ∧
      ((readFrame w.toNat).2 = true → ¬ mine → t.snd = s.snd ∧ OnlyFlds [Reg.BRG_G_STATUS_RXBUSY g] s t) ∧
      ((readFrame w.toNat).2 = true → mine → f.src = s.fld (Reg.BRG_G_CFG_ADDR g) → t.on (Reg.BRG_G_STATUS_ADDRDUP_S g) = true ∧ t.snd = s.snd ∧
        OnlyFlds [Reg.BRG_G_STATUS_RXBUSY g, Reg.BRG_G_STATUS_ADDRDUP_S g] s t) ∧
      (good → f.typ = 3 ∨ f.typ = 5 → t.fld (Reg.BRG_G_RX_HDR_SRC g) = f.src ∧ t.fld (Reg.BRG_G_RX_HDR_TYPE g) = f.typ ∧
        t.fld (Reg.BRG_G_RX_HDR_SEQ g) = f.seq ∧ t.fld (Reg.BRG_G_RX_DATA g) = f.payload ∧ t.on (Reg.BRG_G_STATUS_RX_S g) = true ∧
        t.fld (Reg.BRG_G_CNT_B_RX_CNT g) = s.counted (Reg.BRG_G_CNT_B_RX_CNT g)) ∧
      (good → f.typ = 1 ∨ f.typ = 2 →
        (f.src ≠ s.fld (Reg.BRG_G_CFG_SEC_FROM g) → t.on (Reg.BRG_G_STATUS_REJ_S g) = true ∧ t.snd = s.snd ∧
          OnlyFlds [Reg.BRG_G_STATUS_RXBUSY g, Reg.BRG_G_STATUS_REJ_S g, Reg.BRG_G_CNT_C_REJ_CNT g] s t) ∧
        (f.src = s.fld (Reg.BRG_G_CFG_SEC_FROM g) → (if f.typ = 1 then (s.node g).lastDf else (s.node g).lastDv) ≠ some (f.src, f.seq) →
          s.gfmOpen g = true → s.on (Reg.GFM_CTRL_SEC_SRC g) = true → s.spOk (if f.typ = 1 then 4 else 5) g f.payload = true →
          t.fld (spField (if f.typ = 1 then 4 else 5) g) = f.payload ∧ t.on (Reg.BRG_G_STATUS_RX_S g) = true ∧
          (f.bc = false → ∃ a, (t.node g).ackDue = some (s.now - late + msCycles 160, a) ∧ a.dst = f.src ∧ a.payload = f.typ + 16 * f.seq)) ∧
        (f.src = s.fld (Reg.BRG_G_CFG_SEC_FROM g) →
          s.gfmOpen g = false ∨ s.on (Reg.GFM_CTRL_SEC_SRC g) = false ∨ s.spOk (if f.typ = 1 then 4 else 5) g f.payload = false →
          t.fld (spField (if f.typ = 1 then 4 else 5) g) = s.fld (spField (if f.typ = 1 then 4 else 5) g) ∧
          t.on (Reg.BRG_G_STATUS_REJ_S g) = true ∧ t.snd = s.snd) ∧
        (f.src = s.fld (Reg.BRG_G_CFG_SEC_FROM g) → (if f.typ = 1 then (s.node g).lastDf else (s.node g).lastDv) = some (f.src, f.seq) →
          s.gfmOpen g = true → s.on (Reg.GFM_CTRL_SEC_SRC g) = true → s.spOk (if f.typ = 1 then 4 else 5) g f.payload = true →
          t.fld (spField (if f.typ = 1 then 4 else 5) g) = s.fld (spField (if f.typ = 1 then 4 else 5) g) ∧
          t.on (Reg.BRG_G_STATUS_RX_S g) = true)) ∧
      (good → f.typ = 4 → s.ackMatches g f = true → (t.node g).ackWait = none ∧ (t.node g).queue = (s.node g).queue.drop 1) ∧
      (good → f.typ = 0 ∨ 5 < f.typ ∨ f.typ = 4 ∧ s.ackMatches g f = false → t.on (Reg.BRG_G_STATUS_REJ_S g) = true ∧ t.snd = s.snd)) ∧
  (∀ (s : State) (g : Fin 8) (w : BitVec 80), s.on (Reg.BRG_G_STATUS_RXBUSY g) = false ∨ s.eng.real < (s.node g).rxEnd →
    exec (.bearingFrameReceived g w) s = .next s) ∧
  (∀ (s : State) (p : Port) (g : Fin 8), s.Takes p (addrTxCtrl g) →
    let ok := s.on (Reg.BRG_G_CFG_EN g) = true ∧ s.fld (Reg.BRG_G_STATUS_TXSTATE g) = 0 ∧
      txTypeOk (s.fld (Reg.BRG_G_TX_HDR_TYPE g)) (s.on (Reg.BRG_G_CFG_LEADER g)) = true
    (ok → ∃ t f, exec (.bearingTxGo p g) s = .next t ∧ (t.node g).queue = (s.node g).queue ++ [f] ∧ f.kind = 0 ∧
      f.typ = s.fld (Reg.BRG_G_TX_HDR_TYPE g) ∧ f.payload = s.fld (Reg.BRG_G_TX_DATA g) ∧ f.seq = none ∧
      OnlyFlds [Reg.BRG_G_STATUS_TXSTATE g, Reg.SYS_EVENT_PORTCOL_S] s t) ∧
    (¬ ok → ∃ t, exec (.bearingTxGo p g) s = .next t ∧ RefusesWrite s t p (addrTxCtrl g)) ∧
    (∀ f rest, (s.node g).sending = none → (s.node g).queue = f :: rest → ∃ t, exec (.bearingTxCancel p g) s = .next t ∧
      (t.node g).queue = rest ∧ (t.node g).ackWait = none ∧ t.on (Reg.BRG_G_STATUS_TXFAIL_S g) = true ∧
      OnlyFlds [Reg.BRG_G_STATUS_TXSTATE g, Reg.BRG_G_STATUS_TXFAIL_S g, Reg.SYS_EVENT_PORTCOL_S] s t) ∧
    ((s.node g).sending.isSome = true ∨ (s.node g).queue = [] → exec (.bearingTxCancel p g) s = .next (s.noteWrite p (addrTxCtrl g)))) ∧
  (∀ (s : State) (g : Fin 8) (f : TxFrame) (rest : List TxFrame), (s.node g).queue = f :: rest → s.on (Reg.BRG_G_CFG_EN g) = true →
    (s.node g).sending = none → (s.node g).ackWait = none → (s.node g).ackDue = none → s.on (Reg.BRG_G_STATUS_RXBUSY g) = false →
    let due := max (s.node g).waitFrom (s.node g).rxEnd + (8 + (s.node g).slots) * bitTime
    s.awaits (Instr.beforeFrameTx g) = false →
    (due ≤ s.eng.real → s.maySound g = true → s.genState g = gIDLE ∨ s.genState g = gWAIT → let q := f.seq.getD (((s.node g).seq + 1) % 8)
      ∃ t, exec (.bearingTxStart g) s = .next t ∧ t.genState g = gBEARING ∧ t.fld (Reg.BRG_G_STATUS_TXSTATE g) = 2 ∧
        (t.node g).queue = rest ∧ (t.node g).sending = some { f with seq := some q, retries := if f.seq.isSome then f.retries + 1 else 0 } ∧
        (t.gen g).start = s.eng.real ∧ (t.gen g).frame = BrgFields.frame
          { dst := f.dst, src := s.fld (Reg.BRG_G_CFG_ADDR g), typ := f.typ, bc := f.bc, seq := q, payload := f.payload } ∧
        (f.seq.isSome = true → t.fld (Reg.BRG_G_CNT_A_RETRY_CNT g) = s.counted (Reg.BRG_G_CNT_A_RETRY_CNT g))) ∧
    (s.eng.real < due ∨ s.maySound g = false ∨ s.genState g = gBURST ∨ s.genState g = gTUNE → exec (.bearingTxStart g) s = .next s)) ∧
  (∀ (s : State) (g : Fin 8) (due : Nat) (f : TxFrame), (s.node g).ackDue = some (due, f) → (s.node g).sending = none →
    (due ≤ s.now → s.maySound g = true → s.genState g ≠ gTUNE → ∃ t, exec (.bearingAckSend g) s = .next t ∧ t.genState g = gBEARING ∧
      (t.node g).ackDue = none ∧ (t.node g).sending.isSome = true ∧ (t.node g).queue = (s.node g).queue) ∧
    (s.now < due → exec (.bearingAckSend g) s = .next s)) ∧
  (∀ (s : State) (g : Fin 8) (f : TxFrame), (s.node g).sending = some f →
    (96 * bitTime ≤ s.genTime g → ∃ t, exec (.bearingTxDone g) s = .next t ∧ (t.node g).sending = none ∧
      t.genState g = (if s.on (Reg.SND_G_CFG_EN g) then gWAIT else gIDLE) ∧ t.on (Reg.BRG_G_STATUS_TXDONE_S g) = true ∧
      t.fld (Reg.BRG_G_CNT_A_TX_CNT g) = s.counted (Reg.BRG_G_CNT_A_TX_CNT g) ∧
      (f.bc = false → f.typ = 1 ∨ f.typ = 2 → (t.node g).ackWait = some s.now ∧ (t.node g).queue = f :: (s.node g).queue)) ∧
    (s.genTime g < 96 * bitTime → exec (.bearingTxDone g) s = .next s)) ∧
  (∀ (s : State) (g : Fin 8) (t0 : Nat) (f : TxFrame) (rest : List TxFrame), (s.node g).ackWait = some t0 → (s.node g).queue = f :: rest →
    (t0 + 3600000000 ≤ s.now → ∃ t, exec (.bearingAckTimeout g) s = .next t ∧ (t.node g).ackWait = none ∧
      (f.retries < 3 → (t.node g).queue = f :: rest ∧ OnlyFlds [Reg.BRG_G_STATUS_TXSTATE g] s t) ∧
      (3 ≤ f.retries → (t.node g).queue = rest ∧ t.on (Reg.BRG_G_STATUS_TXFAIL_S g) = true)) ∧
    (s.now < t0 + 3600000000 → exec (.bearingAckTimeout g) s = .next s)) ∧
  (∀ (s : State) (g : Fin 8), s.on (Reg.BRG_G_CFG_EN g) = true →
    let per := s.fld (Reg.BRG_G_STATE_PER g) * 400000000
    (per ≠ 0 → (s.node g).stateFrom + per ≤ s.now → ((s.node g).queue.any fun f => f.kind == 1) = false → ∃ t,
      exec (.bearingStatePeriod g) s = .next t ∧ (t.node g).stateFrom = (s.node g).stateFrom + per ∧
      (t.node g).queue = (s.node g).queue ++ [{ kind := 1, bc := true, typ := 3, payload := s.statePayload g }] ∧
      OnlyFlds [Reg.BRG_G_STATUS_TXSTATE g] s t) ∧
    (per ≠ 0 → (s.node g).stateFrom + per ≤ s.now → ((s.node g).queue.any fun f => f.kind == 1) = true → ∃ t,
      exec (.bearingStatePeriod g) s = .next t ∧ t.node g = { s.node g with stateFrom := (s.node g).stateFrom + per } ∧ t.regs = s.regs) ∧
    (s.now < (s.node g).stateFrom + per → exec (.bearingStatePeriod g) s = .next s) ∧
    (s.on (Reg.BRG_G_CFG_LEADER g) = true → let lper := s.fld (Reg.BRG_G_LEAD_LPERIOD g) * 400000000
      ((s.node g).leadFrom + lper ≤ s.now → ∃ t, exec (.leaderEvaluation g) s = .next t ∧ (t.node g).leadFrom = (s.node g).leadFrom + lper ∧
        (t.node g).cnt = 0 ∧ (t.node g).sumF = 0 ∧
        ((s.node g).bad = true ∨ (s.node g).cnt = 0 → (t.node g).queue = (s.node g).queue ∧ t.regs = s.regs) ∧
        ((s.node g).bad = false → (s.node g).cnt ≠ 0 → s.mode g = mISLAND ∨ s.mode g = mCONNECTED → s.fld (Reg.BRG_G_LEAD_KV g) = 0 →
          ((s.node g).queue.any fun f => f.kind == 2) = false →
          (t.node g).queue = (s.node g).queue ++ [{ kind := 2, bc := true, typ := 1, payload := unsignedOf 32 (s.leaderOffsets g).1 }])) ∧
      (s.now < (s.node g).leadFrom + lper → exec (.leaderEvaluation g) s = .next s))) ∧
  (∀ (s : State) (g : Fin 8) (due v : Nat) (rest : List (Nat × Nat × Nat)), (s.node g).offsets = (due, 4, v) :: rest →
    (due ≤ s.now → s.gfmOpen g = true → s.on (Reg.GFM_CTRL_SEC_SRC g) = true → s.spOk 4 g v = true → ∃ t, exec (.leaderOffsetApply g) s = .next t ∧
      t.fld (Reg.GFM_SEC_DF g) = v % 2 ^ 32 ∧ (t.node g).offsets = rest ∧ OnlyFlds [Reg.GFM_SEC_DF g] s t) ∧
    (s.now < due → exec (.leaderOffsetApply g) s = .next s))

/-- Twin operation (R345 to R348, R352, R357 to R361): a cut sends a frame that its receiver finds good; a bad frame is a link error, a good one
keeps the
heartbeat; its loss makes a ready standby claim; an active module whose one-shot runs out stands down; a hand-over is announced, cancelled, or carried
out leg by leg.
The model's choices in it: log entries 75, 76, 78, 80, 178, 179. -/
def Obligations.TwinsExchangeFramesAndRoles : Prop :=
  (∀ (s : State) (delay : Fin 401) (frac : Fin 32),
    let due := s.on Reg.TWN_CTRL_PAIR_EN = true ∧ s.armed = true ∧ s.pwm.running = true ∧ s.pwm.origin ≤ s.now ∧
      (s.now - s.pwm.origin) % 10000 = 0 ∧ s.marked 0x2060 = false
    (due → s.on Reg.TWN_STATUS_HO_BUSY = false → s.twn.hoWait = none → s.role < 4 → s.queueClash 41 = false → ∃ t,
      exec (.twinFrameCut delay frac) s = .next t ∧ t.twn.seq = (s.twn.seq + 1) % 256 ∧ t.twn.sentAt = some (s.now + delay.val) ∧
      t.twn.sent.length = (if s.role = roleACTIVE then 1118 else 29) ∧ frameOk t.twn.sent = true ∧ at64 t.twn.sent 1 = s.now ∧
      OnlyFlds [Reg.TWN_STATUS_NRDY, Reg.TWN_STATUS_READY] s t) ∧
    (due → s.on Reg.TWN_STATUS_HO_BUSY = true → s.twn.hoIn = true → s.twn.hoAck = true → s.twn.hoAt ≤ s.now → s.twn.driving = false →
      (∃ k, k < 64 ∧ (s.legRec k).used = true ∧ k ∉ s.twn.hoLegs) → ∃ t, exec (.twinFrameCut delay frac) s = .next t ∧
      t.twn.driving = true ∧ t.on Reg.TWN_STATUS_ACT_LINE = false ∧ t.on Reg.TWN_STATUS_HO_BUSY = true ∧ t.twn.hoLegs = s.twn.hoLegs) ∧
    (¬ due → exec (.twinFrameCut delay frac) s = .next s)) ∧
  (∀ (s : State) (words : List Word) (comma : BitVec 64) (frac : Fin 32), let l := words.map (·.toNat)
    (s.on Reg.TWN_CTRL_PAIR_EN = false ∨ s.queueReset 40 = true → exec (.twinFrameReceived words comma frac) s = .next s) ∧
    (s.on Reg.TWN_CTRL_PAIR_EN = true → s.queueReset 40 = false →
      (frameOk l = false → ∃ t, exec (.twinFrameReceived words comma frac) s = .next t ∧ t.on Reg.TWN_STATUS_LINKERR_S = true ∧
        t.fld Reg.TWN_CNT_LINKERR_CNT = s.counted Reg.TWN_CNT_LINKERR_CNT ∧ t.twn = s.twn ∧
        OnlyFlds [Reg.TWN_STATUS_LINKERR_S, Reg.TWN_CNT_LINKERR_CNT] s t) ∧
      (frameOk l = true → s.role = roleACTIVE → s.twn.settling = false → bitOf (l.getD 12 0) 2 = false → s.on Reg.TWN_STATUS_HO_BUSY = false →
        ∃ t, exec (.twinFrameReceived words comma frac) s = .next t ∧ t.on Reg.TWN_STATUS_LINK_UP = true ∧
          t.on Reg.TWN_STATUS_PEER_READY = bitOf (l.getD 0 0) 10 ∧ t.twn.lastGood = s.now ∧ t.twn.lost = false ∧ t.role = roleACTIVE ∧
          t.twn.peerSeq = l.getD 0 0 % 256 ∧
          OnlyFlds [Reg.TWN_STATUS_LINK_UP, Reg.TWN_STATUS_PEER_READY, Reg.TWN_OFS_LO, Reg.TWN_OFS_HI, Reg.TWN_TIMING_FRAC, Reg.TWN_TIMING_DELAY,
            Reg.TWN_STATUS_NRDY, Reg.TWN_STATUS_READY, Reg.TWN_STATUS_HBLOSS_S] s t ∧
          (s.twn.hbOver = false → s.twn.lastGood + s.fld Reg.TWN_CFG_HB_T * 10000 ≤ s.now → t.on Reg.TWN_STATUS_HBLOSS_S = true)) ∧
      (frameOk l = true → s.role = roleACTIVE → s.twn.settling = false → bitOf (l.getD 12 0) 2 = true →
        ∃ t, exec (.twinFrameReceived words comma frac) s = .next t ∧ t.role = roleLOST ∧ t.on Reg.TWN_STATUS_STANDDN_S = true ∧
          t.on Reg.TWN_STATUS_HO_BUSY = false ∧ t.twn.driving = false ∧
          ∀ n, n < 64 → t.fld (Reg.DRV_LEG_STATUS_ROLE n) = 1 ∧ (t.dleg n).hi = .off ∧ (t.dleg n).lo = .off) ∧
      (frameOk l = true → s.role = roleSTANDBY → s.twn.hbOver = false → s.twn.lastGood + s.fld Reg.TWN_CFG_HB_T * 10000 ≤ s.now →
        s.on Reg.TWN_STATUS_ACT_LINE = true → s.twn.readyLast = true → bitOf (l.getD 12 0) 2 = false →
        ∃ t, exec (.twinFrameReceived words comma frac) s = .next t ∧ t.role = roleACTIVE ∧ t.on Reg.TWN_STATUS_CLAIM_S = true ∧
          t.on Reg.TWN_STATUS_HBLOSS_S = true) ∧
      (frameOk l = true → s.role = roleSTANDBY → s.twn.hbOver = true ∨ s.now < s.twn.lastGood + s.fld Reg.TWN_CFG_HB_T * 10000 →
        l.length = 1118 → ∀ g : Fin 8, s.controlled g = true →
        ∃ t, exec (.twinFrameReceived words comma frac) s = .next t ∧ t.twn.lastGood = s.now ∧
          t.fld (Reg.GFM_PSET g) = l.getD (28 + 32 * g.val + 24) 0 ∧ t.fld (Reg.GFM_VSET g) = l.getD (28 + 32 * g.val + 27) 0))) ∧
  (∀ s : State, s.on Reg.TWN_CTRL_PAIR_EN = true → s.twn.hbOver = false →
    let due := s.twn.lastGood + s.fld Reg.TWN_CFG_HB_T * 10000
    (due ≤ s.now → ∃ t, exec .heartbeatExpiry s = .next t ∧ t.twn.lost = true ∧ t.on Reg.TWN_STATUS_LINK_UP = false ∧
      t.on Reg.TWN_STATUS_HBLOSS_S = true ∧
      (s.role ≠ roleSTANDBY ∨ s.on Reg.TWN_STATUS_ACT_LINE = false → t.role = s.role) ∧
      (s.role = roleSTANDBY → s.on Reg.TWN_STATUS_ACT_LINE = true → s.twn.readyLast = true → t.role = roleACTIVE ∧
        t.on Reg.TWN_STATUS_CLAIM_S = true ∧ t.twn.driving = true ∧ t.fld Reg.TWN_CNT_HO_CNT = s.counted Reg.TWN_CNT_HO_CNT ∧
        ∀ n, n < 64 → t.fld (Reg.DRV_LEG_STATUS_ROLE n) = 0 ∧ (t.dleg n).hi = .off ∧ (t.dleg n).lo = .off) ∧
      (s.role = roleSTANDBY → s.on Reg.TWN_STATUS_ACT_LINE = true → s.twn.readyLast = false → t.role = roleSTANDBY ∧
        t.on Reg.TWN_STATUS_STANDDN_S = true)) ∧
    (s.now < due → exec .heartbeatExpiry s = .next s)) ∧
  (∀ (s : State) (t0 : Nat), s.twn.sentAt = some t0 → s.twn.driving = true →
    (t0 + 12000 ≤ s.now → ∃ t, exec .twinActOneshotExpiry s = .next t ∧ t.twn.driving = false ∧
      (s.role = roleACTIVE → s.on Reg.TWN_CTRL_PAIR_EN = true → t.role = roleLOST ∧ t.on Reg.TWN_STATUS_STANDDN_S = true) ∧
      (s.role ≠ roleACTIVE → t.regs = s.regs)) ∧
    (s.now < t0 + 12000 → exec .twinActOneshotExpiry s = .next s)) ∧
  (∀ (s : State) (t0 : Nat), s.twn.waitFrom = some t0 →
    (t0 + msCycles (s.fld Reg.TWN_CFG2_PEER_WAIT) ≤ s.now → s.on Reg.TWN_STATUS_ACT_LINE = true → s.strapClash = false → ∃ t,
      exec .peerWaitTimeout s = .next t ∧ t.role = roleACTIVE ∧ t.twn.driving = true ∧ t.twn.settleTo = s.now + 80000 ∧
      t.twn.settling = true ∧ t.on Reg.TWN_STATUS_ACT_LINE = false ∧
      (∀ n, n < 64 → s.fld (Reg.PWM_LEG_STATUS_STATE n) ≠ legFORCED →
        t.fld (Reg.PWM_LEG_STATUS_STATE n) = legOFF ∧ (t.leg n).hiCmd = false ∧ (t.leg n).loCmd = false) ∧ OnlyBlocks [6, 13] s t) ∧
    (s.now < t0 + msCycles (s.fld Reg.TWN_CFG2_PEER_WAIT) → exec .peerWaitTimeout s = .next s) ∧
    (∃ t, exec (.twinActLineChange false) s = .next t ∧ t.role = roleSTANDBY ∧ t.on Reg.TWN_STATUS_READY = false ∧ t.twn.waitFrom = none)) ∧
  (∀ s : State, s.twn.waitFrom = none → s.role = roleACTIVE → s.twn.driving = true → ∃ t, exec (.twinActLineChange true) s = .next t ∧
    t.on Reg.TWN_STATUS_LINEF_S = true ∧ t.on Reg.TWN_STATUS_ACT_LINE = true ∧
    OnlyFlds [Reg.TWN_STATUS_ACT_LINE, Reg.TWN_STATUS_LINEF_S] s t) ∧
  (∀ s : State, s.twn.settling = true → s.role = roleACTIVE →
    (s.twn.settleTo ≤ s.now → ∃ t, exec .activeSettleEnd s = .next t ∧ t.twn.settling = false ∧
      ∀ n, n < 64 → t.fld (Reg.DRV_LEG_STATUS_ROLE n) = 0) ∧
    (s.now < s.twn.settleTo → exec .activeSettleEnd s = .next s)) ∧
  (∀ (s : State) (p : Port), s.Takes p addrTwnCtrl →
    let ok := s.role = roleACTIVE ∧ s.on Reg.TWN_STATUS_PEER_READY = true ∧ s.commitBusy = false ∧ s.on Reg.TWN_STATUS_HO_BUSY = false
    (ok → ∃ t, exec (.handoverRequest p) s = .next t ∧ t.on Reg.TWN_STATUS_HO_BUSY = true ∧ t.twn.hoAt = s.cutAfter (s.now + 400000) ∧
      t.twn.hoAck = false ∧ OnlyFlds [Reg.TWN_STATUS_HO_BUSY, Reg.SYS_EVENT_PORTCOL_S] s t) ∧
    (¬ ok → ∃ t, exec (.handoverRequest p) s = .next t ∧ RefusesWrite s t p addrTwnCtrl)) ∧
  (∀ s : State, s.on Reg.TWN_STATUS_HO_BUSY = true → s.twn.hoIn = false →
    (s.twn.hoAck = false → s.twn.hoAt ≤ s.now + 40000 → s.twn.hoBy = none → ∃ t, exec .handoverCancel s = .next t ∧
      t.on Reg.TWN_STATUS_HO_BUSY = false ∧ t.on Reg.TWN_STATUS_HOFAIL_S = true ∧ t.twn.hoAck = false ∧ t.role = s.role ∧
      OnlyFlds [Reg.TWN_STATUS_HO_BUSY, Reg.TWN_STATUS_HOFAIL_S] s t) ∧
    (s.twn.hoAck = true → s.on Reg.TWN_STATUS_PEER_READY = true → exec .handoverCancel s = .next s)) ∧
  (∀ (s : State) (n : Fin 64), s.hoOpen n = true →
    ((s.leg n).hiCmd = false → (s.leg n).loCmd = false → ∃ t, exec (.handoverEdge n) s = .next t ∧ (t.dleg n).hi = .off ∧ (t.dleg n).lo = .off ∧
      t.fld (Reg.DRV_LEG_STATUS_ROLE n) = (if s.twn.hoIn then 0 else 1) ∧
      ((∀ k, k < 64 → (s.legRec k).used = true → k = n.val ∨ k ∈ s.twn.hoLegs) → (∀ k, k < 64 → (s.dleg k).relPend = false) →
        t.on Reg.TWN_STATUS_HO_BUSY = false ∧
        t.on Reg.TWN_STATUS_HO_S = true ∧ t.role = (if s.twn.hoIn then roleACTIVE else roleSTANDBY) ∧
        t.fld Reg.TWN_CNT_HO_CNT = s.counted Reg.TWN_CNT_HO_CNT) ∧
      ((∃ k, k < 64 ∧ (s.legRec k).used = true ∧ k ≠ n.val ∧ k ∉ s.twn.hoLegs) → t.twn.hoLegs = n.val :: s.twn.hoLegs ∧ t.role = s.role ∧
        t.on Reg.TWN_STATUS_HO_BUSY = true)) ∧
    ((s.leg n).hiCmd = true ∨ (s.leg n).loCmd = true → exec (.handoverEdge n) s = .next s) ∧
    (s.twn.hoAt + msCycles (s.fld Reg.TWN_CFG2_HO_T) ≤ s.now → ((s.leg n).car.at s.now).isStart s.now = true → ∃ t,
      exec (.handoverForcedEdge n) s = .next t ∧ (t.leg n).hiCmd = false ∧ (t.leg n).loCmd = false ∧ (t.dleg n).hi = .off ∧ (t.dleg n).lo = .off ∧
      t.fld (Reg.DRV_LEG_STATUS_ROLE n) = (if s.twn.hoIn then 0 else 1)) ∧
    (s.now < s.twn.hoAt + msCycles (s.fld Reg.TWN_CFG2_HO_T) → exec (.handoverForcedEdge n) s = .next s)) ∧
  (∀ (s : State) (n : Fin 64), s.hoOpen n = false → exec (.handoverEdge n) s = .next s)

/-! The safe disconnect. -/

/-- The safe disconnect (R364, R366, R368 to R377): a high input is inactive at once and a low one becomes a demand after IF_T; a demand or a
fault asserts both
lines, opens the coil, turns every gate off, clears PWM_RUN and records its cause; a reset runs its tests into RUN; the checks of inputs,
feedback, nodes, coil, clock and parameters, and eight hours unconfirmed, end RUN.
The model's choices in it: log entries 58, 59, 69, 83, 84. -/
def Obligations.TheSafeDisconnectRemovesDrive : Prop :=
  let gone (s t : State) : Prop := t.sdc.relA = false ∧ t.sdc.relB = false ∧ t.sdc.coilHs = false ∧ t.sdc.coilLs = false ∧
    (∀ n, n < 64 → (t.dleg n).hi = .off ∧ (t.dleg n).lo = .off) ∧ t.fld (Reg.PWM_RUN 0) = 0 ∧ t.fld (Reg.PWM_RUN 1) = 0 ∧
    t.fld Reg.SDC_DEMAND_STAMP_LO = s.now % 2 ^ 32
  let faulted (s t : State) (b : Nat) : Prop := gone s t ∧ t.sdcState = dFAULT ∧ t.on (faultFld b) = true ∧ t.on Reg.SDC_STATUS_FLT_S = true ∧
    (s.fld Reg.SDC_FAULT_FIRST = 0xF → t.fld Reg.SDC_FAULT_FIRST = b) ∧ (s.fld Reg.SDC_FAULT_FIRST ≠ 0xF →
      t.fld Reg.SDC_FAULT_FIRST = s.fld Reg.SDC_FAULT_FIRST)
  let short (s : State) : Prop := ∀ t0, s.sdc.discFrom = some t0 → s.kOver t0 (s.discT + msCycles 1) = false
  (∀ (s : State) (high : Bool),
    (s.sdc.fb = high → ∃ t, exec (.safeInputChange 2 high) s = .next t ∧ t.sdc.fb = !high ∧ t.on Reg.SDC_STATUS_FB = !high ∧
      OnlyFlds [Reg.SDC_STATUS_FB] s t) ∧
    (s.sdc.fb = !high → exec (.safeInputChange 2 high) s = .next s)) ∧
  (∀ (s : State) (i : Fin 2), let pin : Fin 3 := ⟨i.val, by omega⟩
    (s.sdc.level i = true → ∃ t, exec (.safeInputChange pin false) s = .next t ∧ t.sdc.level i = false ∧ t.sdc.lowAt i = s.kNow ∧ t.regs = s.regs) ∧
    (s.sdc.level i = false → short s → ∃ t, exec (.safeInputChange pin true) s = .next t ∧ t.sdc.level i = true ∧ t.on (inFld i) = false ∧
      OnlyFlds [inFld i, Reg.SDC_DISC_CNT_DISC_CNT] s t) ∧
    (∀ t0, s.sdc.level i = false → s.on (inFld i) = true → s.on (inFld (1 - i.val)) = false → s.sdc.discFrom = some t0 → s.sdc.discDone = false →
      s.kOver t0 (s.discT + msCycles 1) = true → ∃ t, exec (.safeInputChange pin true) s = .next t ∧ faulted s t sfDISC ∧
      t.fld Reg.SDC_DISC_CNT_DISC_CNT = s.fld Reg.SDC_DISC_CNT_DISC_CNT) ∧
    (s.lowLong i = true → s.on (inFld i) = false → short s → ∃ t, exec (.safeDemand i) s = .next t ∧ gone s t ∧ t.on (inFld i) = true ∧
      t.on Reg.SDC_STATUS_DEMAND_S = true ∧ t.fld Reg.SDC_CNT_DEMAND_CNT = s.counted Reg.SDC_CNT_DEMAND_CNT ∧
      (s.sdcState = dRUN ∨ s.sdcState = dCLOSING → (∀ w, s.sdc.resetWas = some w → w.cyc ≠ s.kCyc) → t.sdcState = dSAFE) ∧
      (∀ w, s.sdcState = dCLOSING → s.sdc.resetWas = some w → w.cyc = s.kCyc → w.st = dSAFE ∨ w.st = dFAULT → t.sdcState = w.st ∧
        t.on Reg.SDC_STATUS_RSTREF_S = true ∧ t.on Reg.SYS_EVENT_WRREJ_S = true) ∧
      (s.sdcState = dFAULT → t.sdcState = dFAULT)) ∧
    (s.lowLong i = false → exec (.safeDemand i) s = .next s)) ∧
  (∀ (s : State) (t0 : Nat), s.sdc.discFrom = some t0 → s.sdc.discDone = false →
    (s.kPassed t0 (msCycles (s.fld Reg.SDC_PARAM0_DISC)) = true → ∃ t, exec .discrepancyFault s = .next t ∧ faulted s t sfDISC) ∧
    (s.kPassed t0 (msCycles (s.fld Reg.SDC_PARAM0_DISC)) = false → exec .discrepancyFault s = .next s)) ∧
  (∀ (s : State) (t0 c n : Nat), s.sdc.discFrom = none → s.sdc.discWas = some (t0, c, n) →
    (c = s.kCyc → s.kPassed t0 s.discT = true → ∃ t, exec .discrepancyFault s = .next t ∧ faulted s t sfDISC ∧
      t.fld Reg.SDC_DISC_CNT_DISC_CNT = n % 2 ^ Reg.SDC_DISC_CNT_DISC_CNT.width) ∧
    (c ≠ s.kCyc → exec .discrepancyFault s = .next s)) ∧
  (∀ s : State, s.on Reg.SDC_PARAM2_FB_EN = true → s.on Reg.SDC_PARAM2_COIL_EN = true →
    (s.sdc.leftAt = none → s.sdcRun = true → s.fbFails = true → ∃ t, exec .feedbackFault s = .next t ∧ faulted s t sfFBCLOSE) ∧
    (s.sdc.leftAt = none → s.fbFails = false → exec .feedbackFault s = .next s) ∧
    ∀ t0, s.sdc.leftAt = some t0 →
      (s.kPassed t0 s.fbT = true → s.sdc.fb = true → ∃ t, exec .feedbackFault s = .next t ∧ faulted s t sfFBOPEN) ∧
      (s.kPassed t0 s.fbT = true → s.sdc.fb = false → ∃ t, exec .feedbackFault s = .next t ∧ t.regs = s.regs ∧ t.sdc.leftAt = none) ∧
      (s.kPassed t0 s.fbT = false → exec .feedbackFault s = .next s)) ∧
  (∀ s : State, (s.sdc.watch = true → ∃ t, exec (.nodeCheckFault 2) s = .next t ∧ faulted s t sfPATH) ∧
    (s.sdcRun = true → s.on Reg.SDC_PARAM2_COIL_EN = true → s.sdc.test = none →
      (s.kPassed s.sdc.nodeAt (msCycles 1) = true → (∃ t, exec (.nodeCheckFault 0) s = .next t ∧ faulted s t sfCOIL_HS) ∧
        ∃ t, exec (.nodeCheckFault 1) s = .next t ∧ faulted s t sfCOIL_LS) ∧
      (s.kPassed s.sdc.nodeAt (msCycles 1) = false → exec (.nodeCheckFault 0) s = .next s ∧ exec (.nodeCheckFault 1) s = .next s) ∧
      (s.kPassed s.sdc.testAt s.tpPer = true → ∃ t, exec .coilTestRun s = .next t ∧ t.sdc.test = some (!s.sdc.nextLow) ∧
        t.sdc.coilHs = s.sdc.nextLow ∧ t.sdc.coilLs = !s.sdc.nextLow ∧ t.sdc.relA = s.sdc.relA ∧ t.regs = s.regs) ∧
      (s.kPassed s.sdc.testAt s.tpPer = false → exec .coilTestRun s = .next s))) ∧
  (∀ (s : State) (high : Bool), s.sdc.step = 0 → s.sdc.test = some high → s.kPassed s.sdc.stepAt (s.stepTime 4) = true →
    (∃ t, exec (.coilTestEnd true) s = .next t ∧ t.sdc.test = none ∧ t.sdc.coilHs = true ∧ t.sdc.coilLs = true ∧
      t.fld Reg.SDC_CNT_TEST_CNT = s.counted Reg.SDC_CNT_TEST_CNT ∧ OnlyFlds [Reg.SDC_CNT_TEST_CNT] s t) ∧
    ∃ t, exec (.coilTestEnd false) s = .next t ∧ faulted s t (if high then sfCOIL_HS else sfCOIL_LS)) ∧
  (∀ s : State, 2 ≤ s.sdc.step → s.sdc.step ≤ 5 →
    (s.kPassed s.sdc.stepAt (s.stepTime s.sdc.step) = true →
      (s.sdc.step = 5 ∨ s.sdc.step = 3 ∧ s.on Reg.SDC_PARAM2_COIL_EN = false → ∃ t, exec (.coilTestEnd true) s = .next t ∧ t.sdcState = dRUN ∧
        t.sdc.relA = true ∧ t.sdc.relB = true ∧ t.sdc.coilHs = s.on Reg.SDC_PARAM2_COIL_EN ∧ t.sdc.coilLs = s.on Reg.SDC_PARAM2_COIL_EN ∧
        t.sdc.step = 0 ∧ OnlyFlds [Reg.SDC_STATUS_STATE] s t) ∧
      (s.sdc.step = 2 ∨ s.sdc.step = 4 ∨ s.sdc.step = 3 ∧ s.on Reg.SDC_PARAM2_COIL_EN = true → ∃ t, exec (.coilTestEnd true) s = .next t ∧
        t.sdc.step = s.sdc.step + 1 ∧ t.sdc.relA = false ∧ (t.sdc.relB = true ↔ s.sdc.step = 2) ∧ t.regs = s.regs) ∧
      ∃ t, exec (.coilTestEnd false) s = .next t ∧ faulted s t (stepFault s.sdc.step)) ∧
    (s.kPassed s.sdc.stepAt (s.stepTime s.sdc.step) = false → ∀ pass, exec (.coilTestEnd pass) s = .next s)) ∧
  (∀ (s : State) (p : Port), s.Takes p addrSdcCtrl →
    (s.resetOk = true → ∃ t, exec (.sdcReset p) s = .next t ∧ t.sdcState = dCLOSING ∧ t.sdc.step = 2 ∧ t.sdc.relA = true ∧ t.sdc.relB = false ∧
      (∀ b, b < 8 → t.on (faultFld b) = false) ∧ t.fld Reg.SDC_FAULT_FIRST = 0xF ∧ t.fld Reg.SDC_RESET_CNT = s.counted Reg.SDC_RESET_CNT ∧
      OnlyBlocks [0, 14] s t) ∧
    (s.resetOk = false → ∃ t, exec (.sdcReset p) s = .next t ∧ t.sdcState = s.sdcState ∧ t.sdc = s.sdc ∧ t.on Reg.SDC_STATUS_RSTREF_S = true ∧
      t.on Reg.SYS_EVENT_WRREJ_S = true)) ∧
  (∀ (s : State) (n : Fin 65536), s.sdc.watch = true →
    let good := 970 ≤ n.val ∧ n.val ≤ 1030
    (s.sdc.clkFrom + 32768 ≤ s.sec.scyc →
      (good → exec (.sdcClockCheck n) s = .next { s with sdc := { s.sdc with clkOk := true, clkFrom := s.sec.scyc } }) ∧
      (¬ good → ∃ t, exec (.sdcClockCheck n) s = .next t ∧ faulted s t sfCLK ∧ t.sdc.clkOk = false ∧ t.sdc.clkOk2 = s.sdc.clkOk2)) ∧
    (s.sec.scyc < s.sdc.clkFrom + 32768 → s.sdc.clkFrom2 + 32768 ≤ s.sec.scyc →
      (good → exec (.sdcClockCheck n) s = .next { s with sdc := { s.sdc with clkOk2 := true, clkFrom2 := s.sec.scyc } }) ∧
      (¬ good → ∃ t, exec (.sdcClockCheck n) s = .next t ∧ faulted s t sfCLK ∧ t.sdc.clkOk2 = false ∧ t.sdc.clkOk = s.sdc.clkOk)) ∧
    (s.sec.scyc < s.sdc.clkFrom + 32768 → s.sec.scyc < s.sdc.clkFrom2 + 32768 → exec (.sdcClockCheck n) s = .next s)) ∧
  (∀ s : State, s.sdc.watch = true →
    (s.kPassed s.sdc.parAt 400000000 = true → checkOf s.sdc.copy1 = s.fld Reg.SDC_CHECK →
      exec (.sdcParamCheck 0 0) s = .next { s with sdc := { s.sdc with parAt := s.kNow } }) ∧
    (s.kPassed s.sdc.parAt2 400000000 = true → checkOf s.sdc.copy2 ≠ s.fld Reg.SDC_CHECK →
      ∃ t, exec (.sdcParamCheck 1 0) s = .next t ∧ faulted s t sfPARAM) ∧
    (s.kPassed s.sdc.parAt 400000000 = false → ∀ upset, exec (.sdcParamCheck 0 upset) s = .next s) ∧
    (s.kPassed s.sdc.parAt2 400000000 = false → ∀ upset, exec (.sdcParamCheck 1 upset) s = .next s)) ∧
  (∀ s : State, s.sdcRun = true → s.on Reg.SDC_STATUS_UNCONF = true →
    (s.kPassed s.sdc.runAt eightHours = true → ∃ t, exec .unconfirmedRunExpiry s = .next t ∧ gone s t ∧ t.sdcState = dSAFE ∧
      t.on Reg.SDC_STATUS_UNCONF_S = true) ∧
    (s.kPassed s.sdc.runAt eightHours = false → exec .unconfirmedRunExpiry s = .next s))

/-! Security, the island, resets and boot. -/

/-- Security commands, patches and reports (R381, R385 to R391, R402): a command that fails a check changes no slot and says which check; one
that passes
programs its slot or ARB, or clears TAMPERED, and a fuse that does not read blown ends it with 9 and unblows nothing; every command ends with a fresh
nonce. A patch is stored when every check passes. A report takes the next LMS index, and an address that breaks its rule is refused. GO and LOAD are
refused while an operation runs, which BUSY says, and LOAD in VERIFY; an operation waits for DRAM.
The model's choices in it: log entries 85, 86, 87, 88, 89, 90, 102, 174. -/
def Obligations.SecurityCommandsAreCheckedFirst : Prop :=
  let begun (s : State) (p : Port) (a : Nat) : State := (s.noteWrite p a).setFld Reg.SEC_CMD_STAT_BUSY 1
  let freed (s : State) : State := (s.setSec { s.sec with op := none }).coreDone
  (∀ (s : State) (p : Port) (bad : Option (Fin 1024)), s.Takes p addrCmdCtrl → s.on Reg.SEC_CMD_STAT_BUSY = false →
    let a := s.fld Reg.SEC_CMD_ADDR
    let x := (freed (begun s p addrCmdCtrl)).cmdRead a
    let r := x.1.cmdResult a x.2.1 x.2.2
    let k := leAt x.2.1 64 1
    let code := cmdCode (s.readMem a 192).2.1
    let fuses := s.toBlow k (leAt x.2.1 80 48) (leAt x.2.1 128 48)
    let fails (n : Nat) : Prop := ∃ b : Fin 1024, bad = some b ∧ b.val < n
    let reports (t : State) (n : Nat) : Prop := t.fld Reg.SEC_CMD_STAT_RESULT = n ∧ t.on Reg.SEC_CMD_STAT_BUSY = true ∧
      t.on Reg.SEC_STATUS_CMDOK_S = (if n = 0 then true else s.on Reg.SEC_STATUS_CMDOK_S) ∧
      (n ≠ 0 → t.on Reg.SEC_STATUS_CMDFAIL_S = true) ∧ ∀ i, i < 8 → t.fld (Reg.SEC_NONCE i) = (Config.random (8 + (s.free + i))).toNat
    (∀ b, (begun s p addrCmdCtrl).opReady (.command a b) = true) →
    (code = 1 →
      (r ≠ 0 → ∃ t, exec (.provision p bad) s = .next t ∧ reports t r ∧ t.sec.slots = s.sec.slots ∧ t.sec.arb = s.sec.arb) ∧
      (r = 0 → ¬ fails fuses.length → ∃ t y, exec (.provision p bad) s = .next t ∧ reports t 0 ∧ t.sec.slots = s.sec.slots.set k y ∧ y.st = 1 ∧
        (∀ i, i < 384 → bitOf y.ecHash i = (bitOf (s.keySlot k).ecHash i || bitOf (leAt x.2.1 80 48) i)) ∧
        ∀ i, i < 384 → bitOf y.lmsHash i = (bitOf (s.keySlot k).lmsHash i || bitOf (leAt x.2.1 128 48) i)) ∧
      (r = 0 → fails fuses.length → ∃ t y, exec (.provision p bad) s = .next t ∧ reports t 9 ∧ t.sec.slots = s.sec.slots.set k y ∧
        y.st = (s.keySlot k).st ∧ (∀ i, bitOf (s.keySlot k).ecHash i = true → bitOf y.ecHash i = true) ∧
        ∀ i, bitOf (s.keySlot k).lmsHash i = true → bitOf y.lmsHash i = true)) ∧
    (code = 2 →
      (r ≠ 0 → ∃ t, exec (.revoke p bad) s = .next t ∧ reports t r ∧ t.sec.slots = s.sec.slots) ∧
      (r = 0 → ¬ fails 1 → ∃ t, exec (.revoke p bad) s = .next t ∧ reports t 0 ∧ t.sec.slots = s.sec.slots.set k { s.keySlot k with st := 2 }) ∧
      (r = 0 → fails 1 → ∃ t, exec (.revoke p bad) s = .next t ∧ reports t 9 ∧ t.sec.slots = s.sec.slots)) ∧
    (code = 3 →
      (r ≠ 0 → ∃ t, exec (.advance p bad) s = .next t ∧ reports t r ∧ t.sec.arb = s.sec.arb) ∧
      (r = 0 → ¬ fails (k - s.sec.arb) → ∃ t, exec (.advance p bad) s = .next t ∧ reports t 0 ∧ t.sec.arb = k ∧ t.sec.slots = s.sec.slots) ∧
      (∀ n, r = 0 → bad = some n → s.sec.arb + n.val < k → ∃ t, exec (.advance p bad) s = .next t ∧ reports t 9 ∧
        t.sec.arb = s.sec.arb + n.val)) ∧
    (code = 4 →
      (r ≠ 0 → ∃ t, exec (.clearTamper p) s = .next t ∧ reports t r ∧ t.sec.ret = s.sec.ret) ∧
      (r = 0 → ∃ t, exec (.clearTamper p) s = .next t ∧ reports t 0 ∧ t.sec.ret.tampered = false ∧ t.on Reg.SEC_STATUS_TAMPERED = false ∧
        (t.sec.ret.log.head?.map (·.kind)) = some 4 ∧ t.sec.slots = s.sec.slots))) ∧
  (∀ (s : State) (p : Port) (bad : Option (Fin 1024)), s.Takes p addrCmdCtrl → cmdCode (s.readMem (s.fld Reg.SEC_CMD_ADDR) 192).2.1 = 1 →
    (s.on Reg.SEC_CMD_STAT_BUSY = true → ∃ t, exec (.provision p bad) s = .next t ∧ RefusesWrite s t p addrCmdCtrl) ∧
    (s.on Reg.SEC_CMD_STAT_BUSY = false → (∀ b, (begun s p addrCmdCtrl).opReady (.command (s.fld Reg.SEC_CMD_ADDR) b) = false) → ∃ t,
      exec (.provision p bad) s = .next t ∧ t.sec = { s.sec with op := some (.command (s.fld Reg.SEC_CMD_ADDR) (bad.map (·.val))) } ∧
      t.on Reg.SEC_CMD_STAT_BUSY = true)) ∧
  (∀ (s : State) (p : Port) (bad : Option (Fin 1024)), let code := cmdCode (s.readMem (s.fld Reg.SEC_CMD_ADDR) 192).2.1
    (code ≠ 1 → exec (.provision p bad) s = .next s) ∧ (code ≠ 2 → exec (.revoke p bad) s = .next s) ∧
    (code ≠ 3 → exec (.advance p bad) s = .next s) ∧ (code ≠ 4 → exec (.clearTamper p) s = .next s)) ∧
  (∀ (s : State) (p : Port), let la := Reg.SEC_PATCH_CTRL_LOAD.addr
    s.Takes p la →
    (s.on Reg.SEC_CMD_STAT_BUSY = true ∨ s.fld Reg.SYS_BOOT_STATUS_PHASE = 4 → ∃ t, exec (.patchLoad p) s = .next t ∧ RefusesWrite s t p la) ∧
    (s.on Reg.SEC_CMD_STAT_BUSY = false → s.fld Reg.SYS_BOOT_STATUS_PHASE ≠ 4 →
      let c := (freed (begun s p la)).checkPatch (s.fld Reg.SEC_PATCH_ADDR)
      ((begun s p la).opReady (.patch (s.fld Reg.SEC_PATCH_ADDR)) = true → ∃ t, exec (.patchLoad p) s = .next t ∧
        t.fld Reg.SEC_PATCH_STAT_RESULT = c.2.1 % 2 ^ 8 ∧ t.on Reg.SEC_CMD_STAT_BUSY = true ∧
        (c.2.1 = 0 → t.sec.store = c.2.2 ∧ t.sec.patch = some (leAt c.2.2 0x16 2, leAt c.2.2 0x18 1) ∧ t.fld Reg.SEC_PATCH_STAT_STORED = 1) ∧
        (c.2.1 ≠ 0 → t.sec = { s.sec with op := none } ∧ t.fld Reg.SEC_PATCH_STAT_STORED = s.fld Reg.SEC_PATCH_STAT_STORED)) ∧
      ((begun s p la).opReady (.patch (s.fld Reg.SEC_PATCH_ADDR)) = false → ∃ t, exec (.patchLoad p) s = .next t ∧
        t.sec = { s.sec with op := some (.patch (s.fld Reg.SEC_PATCH_ADDR)) } ∧ t.on Reg.SEC_CMD_STAT_BUSY = true))) ∧
  (∀ (s : State) (p : Port), let ga := Reg.SEC_ATT_CTRL_GO.addr
    s.Takes p ga →
    let a := s.fld Reg.SEC_ATT_ADDR
    (a % 64 = 0 → s.inRegion a 1964 true = true → s.on Reg.SEC_CMD_STAT_BUSY = false →
      ((begun s p ga).coreReady a 1964 = true → ∃ t, exec (.attestReport p) s = .next t ∧ t.on Reg.SEC_STATUS_ATTDONE_S = true ∧
        t.on Reg.SEC_CMD_STAT_BUSY = true ∧
        (s.sec.ret.lmsNext < 32768 → s.sec.ret.lmsNext < 512 * s.sec.lmsBlk ∨ Config.fuseFails (s.sec.ret.lmsNext / 512) = false →
          t.sec.ret.lmsNext = s.sec.ret.lmsNext + 1 ∧ t.fld Reg.SEC_LMS_LEFT = 32767 - s.sec.ret.lmsNext ∧ t.sec.ret.lmsNext ≤ 512 * t.sec.lmsBlk) ∧
        (32768 ≤ s.sec.ret.lmsNext ∨ 512 * s.sec.lmsBlk ≤ s.sec.ret.lmsNext ∧ Config.fuseFails (s.sec.ret.lmsNext / 512) = true →
          t.sec.ret = s.sec.ret ∧ t.sec.lmsBlk = s.sec.lmsBlk) ∧ t.sec.slots = s.sec.slots ∧ t.sec.sealNext = s.sec.sealNext) ∧
      ((begun s p ga).coreReady a 1964 = false → ∃ t, exec (.attestReport p) s = .next t ∧
        t.sec = { s.sec with op := some (.report a s.attNonce) } ∧ t.on Reg.SEC_CMD_STAT_BUSY = true)) ∧
    (a % 64 ≠ 0 ∨ s.inRegion a 1964 true = false ∨ s.on Reg.SEC_CMD_STAT_BUSY = true → ∃ t, exec (.attestReport p) s = .next t ∧
      RefusesWrite s t p ga))

/-- The island and the Tally (R393, R395, R396, R398, R400, R402): SET and, every 32 s, the trim move the RTC; every 8,192 S-cycles, the second
bad sample of an armed input is an event that is counted,
logged and reported; VBAT is logged as it falls; the retention copy, the periodic seal and SEAL_NOW; a seal takes the next number and
the digest of its body, and waits for another operation and for DRAM.
The model's choices in it: log entries 91, 92, 102. -/
def Obligations.TheIslandAndTheTallyKeepTheirRecords : Prop :=
  (∀ (s : State) (p : Port), s.Takes p Reg.SEC_RTC_CTRL_SET.addr → ∃ t, exec (.rtcSet p) s = .next t ∧
    t.sec.rtc = (s.fld Reg.SEC_RTC_SET_LO + s.fld Reg.SEC_RTC_SET_HI % 2 ^ 8 * 2 ^ 32) * 2 ^ 15 ∧ t.sec.rtcSetS = true ∧
    (t.sec.ret.log.head?.map (·.kind)) = some 2 ∧ OnlyFlds [Reg.SYS_EVENT_PORTCOL_S] s t) ∧
  (∀ s : State,
    (s.sec.trimFrom + 1048576 ≤ s.sec.scyc → ∃ t, exec .rtcTrimApply s = .next t ∧ t.regs = s.regs ∧ t.sec.trimFrom = s.sec.scyc ∧
      t.sec.rtc = (((s.sec.rtc : Int) + (s.sfld Reg.SEC_RTC_TRIM * 1048576 + s.sec.trimFrac) / 1000000) % 2 ^ 55).toNat ∧
      (t.sec.trimFrac : Int) = (s.sfld Reg.SEC_RTC_TRIM * 1048576 + s.sec.trimFrac) % 1000000) ∧
    (s.sec.scyc < s.sec.trimFrom + 1048576 → exec .rtcTrimApply s = .next s)) ∧
  (∀ (s : State) (pins : BitVec 4), s.sec.scyc < s.sec.tampFrom + 8192 → exec (.tamperSample pins) s = .next s) ∧
  (∀ (s : State) (pins : BitVec 4), s.sec.tampFrom + 8192 ≤ s.sec.scyc →
    ((∀ k, k < 4 → s.tampMode k ≠ 1 ∧ s.tampMode k ≠ 2) → ∃ t, exec (.tamperSample pins) s = .next t ∧ t.sec.ret = s.sec.ret ∧
      t.sec.sealDue = s.sec.sealDue ∧ OnlyFlds [Reg.SEC_TAMP_STAT_NOW] s t ∧
      ∀ k, k < 4 → bitOf (t.fld Reg.SEC_TAMP_STAT_NOW) k = false) ∧
    (∀ k : Fin 4, s.tampMode k = 1 → bitOf pins.toNat k = true → 1 ≤ (s.sec.tamp.getD k {}).bad → (s.sec.tamp.getD k {}).armed = true →
      (∀ j, j < 4 → j ≠ k.val → s.tampMode j ≠ 1 ∧ s.tampMode j ≠ 2) → ∃ t, exec (.tamperSample pins) s = .next t ∧
      t.sec.ret.tampTotal = min (s.sec.ret.tampTotal + 1) 0xFFFFFFFF ∧ t.sec.ret.tampered = (s.sec.ret.tampered || s.tampLock k) ∧
      (t.sec.ret.log.head?.map fun e => (e.kind, e.input)) = some (1, k.val) ∧
      (s.boot.held = false → t.on Reg.SEC_STATUS_TAMP_S = true ∧ bitOf t.sec.sealDue 2 = true) ∧
      (s.boot.held = true → t.sec.tampPend = true ∧ t.sec.sealDue = s.sec.sealDue) ∧
      (s.on Reg.SYS_STBY_CTRL_WAKE_TAMP = true → t.boot.wake = true ∧ t.fld Reg.SYS_STBY_STAT_WCAUSE = 2))) ∧
  (∀ (s : State) (low : Bool), ∃ t, exec (.vbatLow low) s = .next t ∧ t.on Reg.SEC_STATUS_VBAT_LOW = low ∧ OnlyFlds [Reg.SEC_STATUS_VBAT_LOW] s t ∧
    (low = true → s.on Reg.SEC_STATUS_VBAT_LOW = false → (t.sec.ret.log.head?.map (·.kind)) = some 5) ∧
    (low = false ∨ s.on Reg.SEC_STATUS_VBAT_LOW = true → t.sec = s.sec)) ∧
  (∀ s : State,
    (s.sec.copyFrom + 100000000 ≤ s.now → ∃ t, exec .tallyRetentionCopy s = .next t ∧ t.sec.ret = { s.sec.ret with tally := s.sec.tally } ∧
      t.sec.copyFrom = s.sec.copyFrom + 100000000 ∧ t.regs = s.regs) ∧
    (s.now < s.sec.copyFrom + 100000000 → exec .tallyRetentionCopy s = .next s) ∧
    (s.sec.sealFrom + s.sealPer ≤ s.now → ∃ t, exec .tallyPeriodicDue s = .next t ∧ bitOf t.sec.sealDue 0 = true ∧
      t.sec.sealFrom = s.sec.sealFrom + s.sealPer ∧ t.regs = s.regs) ∧
    (s.now < s.sec.sealFrom + s.sealPer → exec .tallyPeriodicDue s = .next s) ∧
    (s.sec.sealDue % 64 = 0 ∨ s.on Reg.SEC_CMD_STAT_BUSY = true → exec .tallySeal s = .next s) ∧
    (∀ c, s.nextCause = some c → s.on Reg.SEC_CMD_STAT_BUSY = false → s.coreReady s.sealAddr 1024 = false → ∃ t,
      exec .tallySeal s = .next t ∧ t.sec = s.sec ∧ OnlyFlds [Reg.MEM_TRK_STALL_CNT_B_STALL] s t) ∧
    (∀ c, s.nextCause = some c → s.on Reg.SEC_CMD_STAT_BUSY = false → s.coreReady s.sealAddr 1024 = true → ∃ t, exec .tallySeal s = .next t ∧
      t.sec.sealNext = s.sec.sealNext + 1 ∧
      t.sec.sealPrev = digest (s.sealBody c) ∧ bitOf t.sec.sealDue c = false ∧ t.sec.rtcSetS = false ∧
      t.sec.sealLast = s.sec.sealNext ∧ t.on Reg.SEC_CMD_STAT_BUSY = true ∧
      t.fld Reg.SEC_TALLY_SEAL_LO = s.sec.sealNext % 2 ^ 32 ∧ t.on Reg.SEC_STATUS_SEAL_S = true ∧ t.sec.tally = s.sec.tally)) ∧
  (∀ (s : State) (p : Port), s.Takes p Reg.SEC_TALLY_CTRL_SEAL_NOW.addr → ∃ t, exec (.sealNow p) s = .next t ∧ bitOf t.sec.sealDue 1 = true ∧
    OnlyFlds [Reg.SYS_EVENT_PORTCOL_S] s t)

/-- Resets, boot and standby (R420 to R427): a power-on reset keeps the island alone and starts chart time at 0; WARM and WATCHDOG keep DRAM and
the MEM block; the
phases follow each other and fail with their codes; START is accepted in LOAD; ARMED starts the timers; ENTER stops the outputs and DRAM; an alarm
wakes.
The model's choices in it: log entries 62, 63, 117, 118, 119, 121, 124, 173, 178. -/
def Obligations.ResetsBootAndStandby : Prop :=
  (∀ s : State, ∃ t, exec .powerOnReset s = .next t ∧ t.boot.held = true ∧ t.pending = s.pending ∧ t.mem = {} ∧ t.eng = {} ∧ t.stg = {} ∧
    t.sec.slots = s.sec.slots ∧ t.sec.arb = s.sec.arb ∧ t.sec.rtc = s.sec.rtc ∧ t.sec.ret = s.sec.ret ∧ t.fld Reg.SYS_RESET_CAUSE_KIND = 0 ∧
    (∀ f : Fld, islandKey f.key = true → t.fld f = s.fld f) ∧
    ∀ f : Fld, islandKey f.key = false → f.key ≠ Reg.SYS_RESET_CAUSE_KIND.key → f.key ≠ Reg.DRV_STATUS_EN.key → t.fld f = resetOf f.key) ∧
  (∀ (s : State) (p : Port) (key : BitVec 8), s.Takes p Reg.SYS_RESET_WARM.addr →
    (key = 0x5A → ∃ t, exec (.warmReset p key) s = .next t ∧ t.fld Reg.SYS_RESET_CAUSE_KIND = 1 ∧ t.phase = pROM ∧ t.boot.held = false ∧
      t.mem.dram = s.mem.dram ∧ t.mem.plist = s.mem.plist ∧ t.on Reg.MEM_STATUS_INIT_DONE = false ∧ t.eng = {} ∧ t.stg = {} ∧
      (∀ f : Fld, f.blk = 9 → f.key ≠ Reg.MEM_STATUS_INIT_DONE.key → t.fld f = s.fld f) ∧
      (s.role = roleLOST ∨ s.on Reg.TWN_CTRL_PAIR_EN = true ∧ s.role = roleACTIVE → t.role = roleLOST) ∧
      ∀ g : Fin 8, t.fld (Reg.GFM_PSET g) = resetOf (Reg.GFM_PSET g).key ∧
        t.fld (Reg.GFM_RESID_A g) = if s.mode g = mOFF then s.fld (Reg.GFM_RESID_A g) else (s.storeFlux g).fld (Reg.GFM_RESID_A g)) ∧
    (key ≠ 0x5A → ∃ t, exec (.warmReset p key) s = .next t ∧ RefusesWrite s t p Reg.SYS_RESET_WARM.addr)) ∧
  (∀ s : State, (s.boot.held = false → 400000000 ≤ s.now → ∃ t, exec .watchdogReset s = .next t ∧ t.fld Reg.SYS_RESET_CAUSE_KIND = 2 ∧
    t.phase = pROM ∧
      t.mem.dram = s.mem.dram ∧ t.eng = {}) ∧
    (s.boot.held = true ∨ s.now < 400000000 → exec .watchdogReset s = .next s)) ∧
  (∀ (s : State) (strap xtal retOk : Bool),
    (s.boot.held = true → 4000000 ≤ s.boot.heldFor → ∃ t, exec (.powerOnResetRelease strap xtal retOk) s = .next t ∧ t.boot.held = false ∧ t.now = 0 ∧
      t.on Reg.TWN_STATUS_PRIMARY = strap ∧ t.twn.strap = strap ∧ t.clk.xtal = xtal ∧
      t.on Reg.SEC_STATUS_RET_OK = (retOk && s.sec.ret.valid) ∧ (retOk = false ∨ s.sec.ret.valid = false → t.sec.ret.tampered = true) ∧
        (s.boot.wake = false → t.fld Reg.SYS_STBY_STAT_WCAUSE = 3)) ∧
    (s.boot.held = false ∨ s.boot.heldFor < 4000000 → exec (.powerOnResetRelease strap xtal retOk) s = .next s)) ∧
  (∀ s : State, s.phaseLate = false →
    (s.phase = pROM → s.boot.held = false → ∃ t, exec .bootPhaseComplete s = .next t ∧ t.phase = pCLOCKS ∧ t.boot.phaseAt = s.now ∧
      (s.clk.named = false → t.fld Reg.CLK_STATUS_REF_ACT = asNat (!s.clk.xtal)) ∧ (s.provisioned = 0 → t.fld Reg.SYS_BOOT_STATUS_FAIL = 2)) ∧
    (s.phase = pCLOCKS →
      (s.on Reg.CLK_STATUS_LOCK_C && s.on Reg.CLK_STATUS_LOCK_A && s.on Reg.CLK_STATUS_LOCK_M) = true → ∃ t, exec .bootPhaseComplete s = .next t ∧
        t.phase = pLINKS ∧ OnlyFlds [Reg.SYS_BOOT_STATUS_PHASE] s t) ∧
    (s.phase = pLINKS → s.on Reg.MEM_STATUS_INIT_DONE = true → ∃ t, exec .bootPhaseComplete s = .next t ∧ t.phase = pLOAD ∧
      OnlyFlds [Reg.SYS_BOOT_STATUS_PHASE] s t) ∧
    (s.phase = pVERIFY → s.coreReady (0x100000 * s.fld Reg.SYS_BOOT_CTRL_SLOT) 0x100000 = false → ∃ t, exec .bootPhaseComplete s = .next t ∧
      OnlyFlds [Reg.MEM_TRK_STALL_CNT_B_STALL] s t) ∧
    (s.phase = pVERIFY → s.coreReady (0x100000 * s.fld Reg.SYS_BOOT_CTRL_SLOT) 0x100000 = true → let x := s.coreDone.runPatch
      (x.2 ≠ 0 → ∃ t, exec .bootPhaseComplete s = .next t ∧ t.phase = pLOAD ∧ t.fld Reg.SYS_BOOT_STATUS_FAIL = 7 ∧
        t.fld Reg.STG_ATL_STATUS_STATE = asNat s.stg.active.isSome) ∧
      (x.2 = 0 → x.1.bootImage.2.1 ≠ 0 → ∃ t, exec .bootPhaseComplete s = .next t ∧ t.phase = pLOAD ∧
        t.fld Reg.SYS_BOOT_STATUS_FAIL = x.1.bootImage.2.1 ∧ t.on Reg.SYS_BOOT_STATUS_BOOTFAIL_S = true) ∧
      (x.2 = 0 → x.1.bootImage.2.1 = 0 → ∃ t, exec .bootPhaseComplete s = .next t ∧ t.phase = pARMING)) ∧
    (s.phase = pLOAD ∨ s.phase = pARMING ∨ s.phase = pARMED ∨ s.phase = pFAILED → exec .bootPhaseComplete s = .next s)) ∧
  (∀ s : State, s.boot.held = false → s.phaseLate = true → exec .bootPhaseComplete s = exec (.bootPhaseTimeout .limit) s ∧
    exec .armingComplete s = exec (.bootPhaseTimeout .limit) s) ∧
  (∀ s : State, s.boot.held = false →
    let fails (f : BootFault) (code : Nat) : Prop := ∃ t, exec (.bootPhaseTimeout f) s = .next t ∧ t.phase = pFAILED ∧
      t.fld Reg.SYS_BOOT_STATUS_FAIL = code ∧ t.on Reg.SYS_BOOT_STATUS_BOOTFAIL_S = true
    (s.phase = pROM → fails .rom 1) ∧ (s.phase = pCLOCKS → ∀ q, fails (.pll q) 3) ∧
    (s.phase = pLINKS → s.on Reg.SYS_DIE_STATUS_CNV_UP = false → fails .converter 4 ∧ ∀ d, fails (.drive d) 5) ∧
    (s.on Reg.SYS_DIE_STATUS_CNV_UP = true → exec (.bootPhaseTimeout .converter) s = .next s ∧ ∀ d, exec (.bootPhaseTimeout (.drive d)) s = .next s) ∧
    (s.phase = pLINKS → s.on Reg.MEM_STATUS_INIT_DONE = false → fails .memory 6) ∧
    (s.phaseLate = true → s.phase ≤ pLINKS → fails .limit 11) ∧ (s.phaseLate = true → s.phase = pARMING → fails .limit 10) ∧
    (s.phaseLate = false → exec (.bootPhaseTimeout .limit) s = .next s) ∧
    (s.phaseLate = true → s.phase = pVERIFY → ∃ t, exec (.bootPhaseTimeout .limit) s = .next t ∧ t.on Reg.SYS_BOOT_STATUS_BOOTFAIL_S = true ∧
      let c := t.fld Reg.SYS_BOOT_STATUS_FAIL
      1 ≤ c ∧ c ≤ 11 ∧ t.phase = (if 7 ≤ c ∧ c ≤ 9 then pLOAD else pFAILED))) ∧
  (∀ (s : State) (p : Port) (slot : Fin 4), s.Takes p addrBoot →
    let ok := s.phase = pLOAD ∧ s.provisioned ≠ 0 ∧ s.on Reg.SEC_CMD_STAT_BUSY = false ∧ s.slotEmpty slot = false
    (ok → ∃ t, exec (.bootStart p slot) s = .next t ∧ t.phase = pVERIFY ∧ t.fld Reg.SYS_BOOT_STATUS_FAIL = 0 ∧
      t.fld Reg.SYS_BOOT_CTRL_SLOT = slot.val ∧ t.boot.phaseAt = s.now ∧ t.fld Reg.STG_ATL_STATUS_STATE = 2 ∧
      t.fld Reg.STG_ATL_STATUS_STG_SLOT = slot.val ∧ t.stg.staged = none ∧
      OnlyFlds [Reg.SYS_BOOT_CTRL_SLOT, Reg.SYS_BOOT_STATUS_PHASE, Reg.SYS_BOOT_STATUS_FAIL, Reg.SYS_BOOT_STATUS_DETAIL,
        Reg.STG_ATL_STATUS_STG_SLOT, Reg.STG_ATL_STATUS_STATE, Reg.SYS_EVENT_PORTCOL_S] s t) ∧
    (¬ ok → ∃ t, exec (.bootStart p slot) s = .next t ∧ t.phase = s.phase ∧ t.on Reg.SYS_EVENT_WRREJ_S = true)) ∧
  (∀ s : State, s.phaseLate = false →
    (s.phase = pARMING → (s.namedEntries.all fun e => s.adc.delivered.contains e) = true → ∃ t,
      exec .armingComplete s = .next t ∧ t.phase = pARMED ∧
      (∀ k, k < 8 → tabGet 0 t.eng.timerNext k = if s.fld (Reg.GRT_TMR_PERIOD k) = 0 then 0 else s.now + s.fld (Reg.GRT_TMR_PERIOD k)) ∧
      (s.fld Reg.SYS_HOST_CFG_SIL_MS ≠ 0 → t.host.silFrom = some s.now) ∧ (s.on Reg.TWN_CTRL_PAIR_EN = false → t.role = s.role)) ∧
    (s.phase ≠ pARMING ∨ (s.namedEntries.any fun e => !s.adc.delivered.contains e) = true → exec .armingComplete s = .next s)) ∧
  (∀ (s : State) (p : Port), s.Takes p addrStby →
    let stays := anyIdx 8 (fun g => s.mode g != 0) = true ∨ s.on Reg.SEC_CMD_STAT_BUSY = true
    (stays → ∃ t, exec (.standbyEnter p) s = .next t ∧ RefusesWrite s t p addrStby) ∧
    (¬ stays → s.on Reg.SYS_STBY_STAT_READY = false → ∃ t, exec (.standbyEnter p) s = .next t ∧ t.on Reg.SYS_STBY_STAT_READY = true ∧
      t.on Reg.CLK_STATUS_M_SR = true ∧ t.mem.srFrom = some s.now ∧ t.boot.wake = false ∧ t.trp.armed = false ∧ t.pwm.running = false ∧
      t.fld (Reg.PWM_RUN 0) = 0 ∧ ∀ n, n < 64 → (t.dleg n).hi = .off ∧ (t.dleg n).lo = .off) ∧
    (¬ stays → s.on Reg.SYS_STBY_STAT_READY = true → exec (.standbyEnter p) s = .next (s.noteWrite p addrStby)) ∧
    (s.on Reg.SYS_STBY_STAT_READY = true → ∃ t, exec (.standbyCancel p) s = .next t ∧ t.fld Reg.SYS_RESET_CAUSE_KIND = 1 ∧ t.boot.wake = true ∧
      t.phase = pROM ∧ t.mem.dram = s.mem.dram) ∧
    (s.on Reg.SYS_STBY_STAT_READY = false → exec (.standbyCancel p) s = .next (s.noteWrite p addrStby))) ∧
  (∀ s : State,
    (s.on Reg.SYS_STBY_CTRL_WAKE_RTC = true → s.rtcSec % 2 ^ 32 = s.fld Reg.SYS_STBY_ALARM → ∃ t, exec .wakeAlarm s = .next t ∧
      t.boot.wake = true ∧ (s.boot.tampAt ≠ some s.sec.rtc → t.fld Reg.SYS_STBY_STAT_WCAUSE = 1) ∧ OnlyFlds [Reg.SYS_STBY_STAT_WCAUSE] s t) ∧
    (s.on Reg.SYS_STBY_CTRL_WAKE_RTC = false ∨ s.rtcSec % 2 ^ 32 ≠ s.fld Reg.SYS_STBY_ALARM → exec .wakeAlarm s = .next s) ∧
    (s.boot.held = true → ∃ t, exec .islandPowerUp s = .next t ∧ t.sec.rtc = 0 ∧ t.sec.ret = { valid := false } ∧ t.boot.wake = true ∧
      t.sec.slots = s.sec.slots ∧ t.fld Reg.SEC_TAMP_CFG = resetOf Reg.SEC_TAMP_CFG.key) ∧
    (s.boot.held = false → exec .islandPowerUp s = .next s))
end

