-- ==== Sys2Proof/Laws/Tab.lean ====
section
/-!
SUPPORT. Laws of sparse tables: a read after a write, other keys untouched, and the canonical form kept.
-/

namespace Sys2Proof.Machine

variable {α : Type}

theorem tabFind_del_same (m : Tab α) (n : Nat) : tabFind (tabDel m n) n = none := by
  induction m with
  | nil => rfl
  | cons e m ih =>
    obtain ⟨k, v⟩ := e
    simp only [tabDel]
    split
    · exact ih
    · simp [tabFind, *]

theorem tabFind_del_other (m : Tab α) {n k : Nat} (h : k ≠ n) : tabFind (tabDel m n) k = tabFind m k := by
  induction m with
  | nil => rfl
  | cons e m ih =>
    obtain ⟨j, v⟩ := e
    simp only [tabDel, tabFind]
    split
    · next hj => rw [ih, if_neg (by omega)]
    · simp [tabFind, ih]

theorem tabFind_ins_same (m : Tab α) (n : Nat) (x : α) (h : tabFind m n = none) : tabFind (tabIns m n x) n = some x := by
  induction m with
  | nil => simp [tabIns, tabFind]
  | cons e m ih =>
    obtain ⟨k, v⟩ := e
    simp only [tabFind] at h
    split at h
    · cases h
    · next hk =>
      simp only [tabIns]
      split
      · simp [tabFind]
      · simp [tabFind, hk, ih h]

theorem tabFind_ins_other (m : Tab α) {n k : Nat} (x : α) (h : k ≠ n) : tabFind (tabIns m n x) k = tabFind m k := by
  induction m with
  | nil => simp [tabIns, tabFind, Ne.symm h]
  | cons e m ih =>
    obtain ⟨j, v⟩ := e
    simp only [tabIns]
    split
    · simp only [tabFind, if_neg (Ne.symm h)]
    · simp only [tabFind, ih]

theorem tabFind_put_same (m : Tab α) (n : Nat) (x : α) : tabFind (tabPut m n x) n = some x :=
  tabFind_ins_same _ _ _ (tabFind_del_same m n)

theorem tabFind_put_other (m : Tab α) {n k : Nat} (x : α) (h : k ≠ n) : tabFind (tabPut m n x) k = tabFind m k := by
  rw [tabPut, tabFind_ins_other _ _ h, tabFind_del_other _ h]

/-- A read of a key after a write of it gives the value written. -/
theorem tabGet_set_same [DecidableEq α] (d : α) (m : Tab α) (n : Nat) (x : α) : tabGet d (tabSet d m n x) n = x := by
  unfold tabGet tabSet
  split
  · next h => rw [tabFind_del_same]; exact h.symm
  · rw [tabFind_put_same]; rfl

/-- A write of one key leaves every other as it was. -/
theorem tabFind_set_other [DecidableEq α] (d : α) (m : Tab α) {n k : Nat} (x : α) (h : k ≠ n) :
    tabFind (tabSet d m n x) k = tabFind m k := by
  unfold tabSet
  split
  · exact tabFind_del_other _ h
  · exact tabFind_put_other _ _ h

theorem tabGet_set_other [DecidableEq α] (d d' : α) (m : Tab α) {n k : Nat} (x : α) (h : k ≠ n) :
    tabGet d' (tabSet d m n x) k = tabGet d' m k := by
  unfold tabGet
  rw [tabFind_set_other d m x h]

/-- The keys of a table rise strictly. -/
def TabRising (m : Tab α) : Prop := m.Pairwise fun a b => a.1 < b.1

theorem tabRises_iff (m : Tab α) : tabRises m = true ↔ TabRising m := by
  induction m with
  | nil => simp [tabRises, TabRising]
  | cons e m ih =>
    cases m with
    | nil => simp [tabRises, TabRising]
    | cons e' m =>
      simp only [tabRises, Bool.and_eq_true, decide_eq_true_eq, ih]
      constructor
      · rintro ⟨h, hp⟩
        refine List.pairwise_cons.2 ⟨?_, hp⟩
        intro a ha
        rcases List.mem_cons.1 ha with rfl | ha
        · exact h
        · exact Nat.lt_trans h ((List.pairwise_cons.1 hp).1 a ha)
      · intro h
        have h' := List.pairwise_cons.1 h
        exact ⟨h'.1 e' (List.mem_cons_self ..), h'.2⟩

theorem tabDel_sublist (m : Tab α) (n : Nat) : (tabDel m n).Sublist m := by
  induction m with
  | nil => exact List.Sublist.refl _
  | cons e m ih =>
    obtain ⟨k, v⟩ := e
    simp only [tabDel]
    split
    · exact ih.cons _
    · exact ih.cons_cons _

theorem mem_tabIns {m : Tab α} {n : Nat} {x : α} {e : Nat × α} (h : e ∈ tabIns m n x) : e = (n, x) ∨ e ∈ m := by
  induction m with
  | nil => simpa [tabIns] using h
  | cons f m ih =>
    obtain ⟨k, v⟩ := f
    simp only [tabIns] at h
    split at h
    · simpa using h
    · rcases List.mem_cons.1 h with rfl | h
      · exact .inr (List.mem_cons_self ..)
      · rcases ih h with h | h
        · exact .inl h
        · exact .inr (List.mem_cons_of_mem _ h)

theorem mem_tabPut {m : Tab α} {n : Nat} {x : α} {e : Nat × α} (h : e ∈ tabPut m n x) : e = (n, x) ∨ e ∈ m := by
  rcases mem_tabIns h with h | h
  · exact .inl h
  · exact .inr ((tabDel_sublist m n).subset h)

theorem not_key_tabDel (m : Tab α) (n : Nat) : ∀ e ∈ tabDel m n, e.1 ≠ n := by
  induction m with
  | nil => intro e h; cases h
  | cons f m ih =>
    obtain ⟨k, v⟩ := f
    intro e h
    simp only [tabDel] at h
    split at h
    · exact ih e h
    · next hk =>
      rcases List.mem_cons.1 h with rfl | h
      · exact hk
      · exact ih e h

theorem TabRising.sub {m m' : Tab α} (h : TabRising m) (hs : m'.Sublist m) : TabRising m' := List.Pairwise.sublist hs h

theorem TabRising.filter {m : Tab α} (h : TabRising m) (p : Nat × α → Bool) : TabRising (m.filter p) :=
  h.sub List.filter_sublist

theorem TabRising.del {m : Tab α} (h : TabRising m) (n : Nat) : TabRising (tabDel m n) := h.sub (tabDel_sublist m n)

theorem TabRising.ins {m : Tab α} {n : Nat} (x : α) (h : TabRising m) (hn : ∀ e ∈ m, e.1 ≠ n) : TabRising (tabIns m n x) := by
  induction m with
  | nil => exact List.pairwise_singleton ..
  | cons f m ih =>
    obtain ⟨k, v⟩ := f
    have h' := List.pairwise_cons.1 h
    simp only [tabIns]
    split
    · next hk =>
      refine List.pairwise_cons.2 ⟨?_, h⟩
      intro a ha
      rcases List.mem_cons.1 ha with rfl | ha
      · exact hk
      · exact Nat.lt_trans hk (h'.1 a ha)
    · next hk =>
      refine List.pairwise_cons.2 ⟨?_, ih h'.2 fun e he => hn e (List.mem_cons_of_mem _ he)⟩
      intro a ha
      rcases mem_tabIns ha with rfl | ha
      · have := hn (k, v) (List.mem_cons_self ..)
        simp only at this ⊢
        omega
      · exact h'.1 a ha

theorem TabRising.put {m : Tab α} (h : TabRising m) (n : Nat) (x : α) : TabRising (tabPut m n x) :=
  (h.del n).ins x (not_key_tabDel m n)

/-- The canonical form for a default that depends on the key: rising keys, and no entry that equals its key's default. -/
def TabOk (d : Nat → α) (m : Tab α) : Prop := TabRising m ∧ ∀ e ∈ m, e.2 ≠ d e.1

theorem tabWf_iff [DecidableEq α] (d : α) (m : Tab α) : tabWf d m = true ↔ TabOk (fun _ => d) m := by
  simp [tabWf, TabOk, tabRises_iff]

theorem TabOk.nil (d : Nat → α) : TabOk d [] := ⟨List.Pairwise.nil, fun _ h => by cases h⟩

/-- A write keeps the canonical form. -/
theorem TabOk.set [DecidableEq α] {d : Nat → α} {m : Tab α} (h : TabOk d m) (n : Nat) (x : α) : TabOk d (tabSet (d n) m n x) := by
  unfold tabSet
  split
  · exact ⟨h.1.del n, fun e he => h.2 e ((tabDel_sublist m n).subset he)⟩
  · next hx =>
    refine ⟨h.1.put n x, fun e he => ?_⟩
    rcases mem_tabPut he with rfl | he
    · exact hx
    · exact h.2 e he

theorem TabOk.filter {d : Nat → α} {m : Tab α} (h : TabOk d m) (p : Nat × α → Bool) : TabOk d (m.filter p) :=
  ⟨h.1.filter p, fun e he => h.2 e (List.mem_of_mem_filter he)⟩

/-- A fold that keeps a property of its accumulator at every step keeps it over an index range. -/
theorem forIdx_induct {σ : Type} {P : σ → Prop} {n : Nat} {f : Nat → σ → σ} {s : σ} (hf : ∀ k t, P t → P (f k t)) (hs : P s) :
    P (forIdx n f s) := by
  unfold forIdx
  generalize List.range n = l
  induction l generalizing s with
  | nil => exact hs
  | cons a l ih => exact ih (hf a s hs)

theorem foldl_induct {σ β : Type} {P : σ → Prop} {f : σ → β → σ} {l : List β} {s : σ} (hf : ∀ t x, P t → P (f t x)) (hs : P s) :
    P (l.foldl f s) := by
  induction l generalizing s with
  | nil => exact hs
  | cons a l ih => exact ih (hf s a hs)

end Sys2Proof.Machine
end

