-- ==== Sys2Proof/Laws/Within.lean ====
section
/-!
SUPPORT. How changes within parts compose, and the changes of one record each.
-/

namespace Sys2Proof.Machine

theorem Part.same_refl (p : Part) (s : State) : p.same s s := by
  cases p <;> first | rfl | exact ⟨rfl, rfl⟩

theorem Part.same_trans {p : Part} {s t u : State} (h : p.same s t) (h' : p.same t u) : p.same s u := by
  cases p <;> first | exact Eq.trans h' h | exact ⟨h'.1.trans h.1, h'.2.trans h.2⟩

theorem Within.refl (ps : List Part) (s : State) : Within ps s s := ⟨rfl, id, fun p _ => p.same_refl s⟩

/-- A change within `a` after changes within `b`, where `b` holds all of `a`. -/
theorem Within.thn {a b : List Part} {s t u : State} (h : Within a t u) (hab : ∀ p ∈ a, p ∈ b) (h' : Within b s t) : Within b s u :=
  ⟨h.queue.trans h'.queue, fun c => h.form (h'.form c),
    fun p hp => Part.same_trans (h'.frame p hp) (h.frame p fun hm => hp (hab p hm))⟩

theorem Within.mono {a b : List Part} {s t : State} (h : Within a s t) (hab : ∀ p ∈ a, p ∈ b) : Within b s t :=
  h.thn hab (Within.refl b s)

/-- A bound state, read through what is known of it. -/
theorem Within.bind {ps : List Part} {s e : State} {b : State → State} (h : Within ps s e) (hb : ∀ x, Within ps s x → Within ps s (b x)) :
    Within ps s (b e) := hb e h

theorem Within.foldl {β : Type} {ps : List Part} {s t : State} {l : List β} {f : State → β → State}
    (hf : ∀ u x, Within ps s u → Within ps s (f u x)) (h : Within ps s t) : Within ps s (l.foldl f t) :=
  foldl_induct (P := Within ps s) hf h

theorem Within.forIdx {ps : List Part} {s t : State} {n : Nat} {f : Nat → State → State}
    (hf : ∀ k u, Within ps s u → Within ps s (f k u)) (h : Within ps s t) : Within ps s (forIdx n f t) :=
  forIdx_induct (P := Within ps s) hf h

/-- The canonical form in the terms of the table laws. -/
theorem State.canonical_iff (s : State) : s.canonical = true ↔
    (TabOk resetOf s.regs.eff ∧ TabRising s.regs.com ∧ TabRising s.regs.shadow) ∧ TabOk (fun _ => 0) s.latch ∧
      TabOk (fun _ => 0) s.mem.dram ∧ TabOk (fun _ => 0) s.mem.flips := by
  simp only [State.canonical, RegFile.canonical, MemRun.wf, Bool.and_eq_true, tabRises_iff, tabWf_iff, TabOk, List.all_eq_true,
    decide_eq_true_eq]
  tauto

theorem Within.ite {c : Prop} [Decidable c] {ps : List Part} {s a b : State} (h : Within ps s a) (h' : Within ps s b) :
    Within ps s (if c then a else b) := by
  split
  · exact h
  · exact h'

theorem Within.foldl1 {β γ : Type} {ps : List Part} {s : State} {e : State × γ} {l : List β} {f : State × γ → β → State × γ}
    (hf : ∀ u x, Within ps s u.1 → Within ps s (f u x).1) (h : Within ps s e.1) : Within ps s (l.foldl f e).1 :=
  foldl_induct (P := fun y : State × γ => Within ps s y.1) hf h

theorem Within.foldl2 {β γ : Type} {ps : List Part} {s : State} {e : γ × State} {l : List β} {f : γ × State → β → γ × State}
    (hf : ∀ u x, Within ps s u.2 → Within ps s (f u x).2) (h : Within ps s e.2) : Within ps s (l.foldl f e).2 :=
  foldl_induct (P := fun y : γ × State => Within ps s y.2) hf h

/-- A state that is used more than once, known first. -/
theorem Within.known {ps : List Part} {s x : State} {P : Prop} (h : Within ps s x) (hb : Within ps s x → P) : P := hb h

/-! A record update of a state that the goal names, by the fields it sets. -/

theorem Within.upd_adc {ps : List Part} {s x : State} {a_adc : AdcRun}
    (h : Within ps s x) (m_adc : Part.adc ∈ ps) : Within ps s { x with adc := a_adc } := by
  exact ⟨h.queue, h.form, fun p hp => by
    refine Part.same_trans (h.frame p hp) ?_
    cases p <;> first | rfl | exact ⟨rfl, rfl⟩ | exact absurd m_adc hp⟩

theorem Within.upd_boot {ps : List Part} {s x : State} {a_boot : BootRun}
    (h : Within ps s x) (m_boot : Part.boot ∈ ps) : Within ps s { x with boot := a_boot } := by
  exact ⟨h.queue, h.form, fun p hp => by
    refine Part.same_trans (h.frame p hp) ?_
    cases p <;> first | rfl | exact ⟨rfl, rfl⟩ | exact absurd m_boot hp⟩

theorem Within.upd_chart_clk_twn_boot {ps : List Part} {s x : State} {a_chart : BitVec 64} {a_clk : ClkRun} {a_twn : TwnRun} {a_boot : BootRun}
    (h : Within ps s x) (m_chart : Part.chart ∈ ps) (m_clk : Part.clk ∈ ps) (m_twn : Part.twn ∈ ps) (m_boot : Part.boot ∈ ps) : Within ps s { x with chart := a_chart, clk := a_clk, twn := a_twn, boot := a_boot } := by
  exact ⟨h.queue, h.form, fun p hp => by
    refine Part.same_trans (h.frame p hp) ?_
    cases p <;> first | rfl | exact ⟨rfl, rfl⟩ | exact absurd m_chart hp | exact absurd m_clk hp | exact absurd m_twn hp | exact absurd m_boot hp⟩

theorem Within.upd_chart_eng {ps : List Part} {s x : State} {a_chart : BitVec 64} {a_eng : EngRun}
    (h : Within ps s x) (m_chart : Part.chart ∈ ps) (m_eng : Part.eng ∈ ps) : Within ps s { x with chart := a_chart, eng := a_eng } := by
  exact ⟨h.queue, h.form, fun p hp => by
    refine Part.same_trans (h.frame p hp) ?_
    cases p <;> first | rfl | exact ⟨rfl, rfl⟩ | exact absurd m_chart hp | exact absurd m_eng hp⟩

theorem Within.upd_clk {ps : List Part} {s x : State} {a_clk : ClkRun}
    (h : Within ps s x) (m_clk : Part.clk ∈ ps) : Within ps s { x with clk := a_clk } := by
  exact ⟨h.queue, h.form, fun p hp => by
    refine Part.same_trans (h.frame p hp) ?_
    cases p <;> first | rfl | exact ⟨rfl, rfl⟩ | exact absurd m_clk hp⟩

theorem Within.upd_clk_twn {ps : List Part} {s x : State} {a_clk : ClkRun} {a_twn : TwnRun}
    (h : Within ps s x) (m_clk : Part.clk ∈ ps) (m_twn : Part.twn ∈ ps) : Within ps s { x with clk := a_clk, twn := a_twn } := by
  exact ⟨h.queue, h.form, fun p hp => by
    refine Part.same_trans (h.frame p hp) ?_
    cases p <;> first | rfl | exact ⟨rfl, rfl⟩ | exact absurd m_clk hp | exact absurd m_twn hp⟩

theorem Within.upd_ctr {ps : List Part} {s x : State} {a_ctr : CtrRun}
    (h : Within ps s x) (m_ctr : Part.ctr ∈ ps) : Within ps s { x with ctr := a_ctr } := by
  exact ⟨h.queue, h.form, fun p hp => by
    refine Part.same_trans (h.frame p hp) ?_
    cases p <;> first | rfl | exact ⟨rfl, rfl⟩ | exact absurd m_ctr hp⟩

theorem Within.upd_drv {ps : List Part} {s x : State} {a_drv : DrvRun}
    (h : Within ps s x) (m_drv : Part.drv ∈ ps) : Within ps s { x with drv := a_drv } := by
  exact ⟨h.queue, h.form, fun p hp => by
    refine Part.same_trans (h.frame p hp) ?_
    cases p <;> first | rfl | exact ⟨rfl, rfl⟩ | exact absurd m_drv hp⟩

theorem Within.upd_eng {ps : List Part} {s x : State} {a_eng : EngRun}
    (h : Within ps s x) (m_eng : Part.eng ∈ ps) : Within ps s { x with eng := a_eng } := by
  exact ⟨h.queue, h.form, fun p hp => by
    refine Part.same_trans (h.frame p hp) ?_
    cases p <;> first | rfl | exact ⟨rfl, rfl⟩ | exact absurd m_eng hp⟩

theorem Within.upd_eng_clk {ps : List Part} {s x : State} {a_eng : EngRun} {a_clk : ClkRun}
    (h : Within ps s x) (m_eng : Part.eng ∈ ps) (m_clk : Part.clk ∈ ps) : Within ps s { x with eng := a_eng, clk := a_clk } := by
  exact ⟨h.queue, h.form, fun p hp => by
    refine Part.same_trans (h.frame p hp) ?_
    cases p <;> first | rfl | exact ⟨rfl, rfl⟩ | exact absurd m_eng hp | exact absurd m_clk hp⟩

theorem Within.upd_eng_mem {ps : List Part} {s x : State} {a_eng : EngRun} {a_mem : MemRun}
    (h : Within ps s x) (m_eng : Part.eng ∈ ps) (m_mem : Part.mem ∈ ps) (w : a_mem.dram = x.mem.dram ∧ a_mem.flips = x.mem.flips) : Within ps s { x with eng := a_eng, mem := a_mem } := by
  refine ⟨h.queue, fun c => ?_, ?_⟩
  · have q := (State.canonical_iff _).1 (h.form c)
    exact (State.canonical_iff _).2 ⟨q.1, q.2.1, w.1 ▸ q.2.2.1, w.2 ▸ q.2.2.2⟩
  · exact fun p hp => by
      refine Part.same_trans (h.frame p hp) ?_
      cases p <;> first | rfl | exact ⟨rfl, rfl⟩ | exact absurd m_eng hp | exact absurd m_mem hp

theorem Within.upd_eng_pwm_trp_host {ps : List Part} {s x : State} {a_eng : EngRun} {a_pwm : PwmRun} {a_trp : TrpRun} {a_host : HostRun}
    (h : Within ps s x) (m_eng : Part.eng ∈ ps) (m_pwm : Part.pwm ∈ ps) (m_trp : Part.trp ∈ ps) (m_host : Part.host ∈ ps) : Within ps s { x with eng := a_eng, pwm := a_pwm, trp := a_trp, host := a_host } := by
  exact ⟨h.queue, h.form, fun p hp => by
    refine Part.same_trans (h.frame p hp) ?_
    cases p <;> first | rfl | exact ⟨rfl, rfl⟩ | exact absurd m_eng hp | exact absurd m_pwm hp | exact absurd m_trp hp | exact absurd m_host hp⟩

theorem Within.upd_eng_stg {ps : List Part} {s x : State} {a_eng : EngRun} {a_stg : StgRun}
    (h : Within ps s x) (m_eng : Part.eng ∈ ps) (m_stg : Part.stg ∈ ps) : Within ps s { x with eng := a_eng, stg := a_stg } := by
  exact ⟨h.queue, h.form, fun p hp => by
    refine Part.same_trans (h.frame p hp) ?_
    cases p <;> first | rfl | exact ⟨rfl, rfl⟩ | exact absurd m_eng hp | exact absurd m_stg hp⟩

theorem Within.upd_evNow {ps : List Part} {s x : State} {a_evNow : List Nat}
    (h : Within ps s x)  : Within ps s { x with evNow := a_evNow } := by
  exact ⟨h.queue, h.form, fun p hp => by
    refine Part.same_trans (h.frame p hp) ?_
    cases p <;> first | rfl | exact ⟨rfl, rfl⟩⟩

theorem Within.upd_evNow_refusedNow_wrNow_expertStart_eng_trp {ps : List Part} {s x : State} {a_evNow : List Nat} {a_refusedNow : Bool} {a_wrNow : List (Port × Nat)} {a_expertStart : Bool} {a_eng : EngRun} {a_trp : TrpRun}
    (h : Within ps s x) (m_eng : Part.eng ∈ ps) (m_trp : Part.trp ∈ ps) : Within ps s { x with evNow := a_evNow, refusedNow := a_refusedNow, wrNow := a_wrNow, expertStart := a_expertStart, eng := a_eng, trp := a_trp } := by
  exact ⟨h.queue, h.form, fun p hp => by
    refine Part.same_trans (h.frame p hp) ?_
    cases p <;> first | rfl | exact ⟨rfl, rfl⟩ | exact absurd m_eng hp | exact absurd m_trp hp⟩

theorem Within.upd_free {ps : List Part} {s x : State} {a_free : Nat}
    (h : Within ps s x)  : Within ps s { x with free := a_free } := by
  exact ⟨h.queue, h.form, fun p hp => by
    refine Part.same_trans (h.frame p hp) ?_
    cases p <;> first | rfl | exact ⟨rfl, rfl⟩⟩

theorem Within.upd_grid {ps : List Part} {s x : State} {a_grid : Tab GroupRun}
    (h : Within ps s x) (m_grid : Part.grid ∈ ps) : Within ps s { x with grid := a_grid } := by
  exact ⟨h.queue, h.form, fun p hp => by
    refine Part.same_trans (h.frame p hp) ?_
    cases p <;> first | rfl | exact ⟨rfl, rfl⟩ | exact absurd m_grid hp⟩

theorem Within.upd_host {ps : List Part} {s x : State} {a_host : HostRun}
    (h : Within ps s x) (m_host : Part.host ∈ ps) : Within ps s { x with host := a_host } := by
  exact ⟨h.queue, h.form, fun p hp => by
    refine Part.same_trans (h.frame p hp) ?_
    cases p <;> first | rfl | exact ⟨rfl, rfl⟩ | exact absurd m_host hp⟩

theorem Within.upd_later {ps : List Part} {s x : State} {a_later : List Instr}
    (h : Within ps s x)  : Within ps s { x with later := a_later } := by
  exact ⟨h.queue, h.form, fun p hp => by
    refine Part.same_trans (h.frame p hp) ?_
    cases p <;> first | rfl | exact ⟨rfl, rfl⟩⟩

theorem Within.upd_mem {ps : List Part} {s x : State} {a_mem : MemRun}
    (h : Within ps s x) (m_mem : Part.mem ∈ ps) (w : a_mem.dram = x.mem.dram ∧ a_mem.flips = x.mem.flips) : Within ps s { x with mem := a_mem } := by
  refine ⟨h.queue, fun c => ?_, ?_⟩
  · have q := (State.canonical_iff _).1 (h.form c)
    exact (State.canonical_iff _).2 ⟨q.1, q.2.1, w.1 ▸ q.2.2.1, w.2 ▸ q.2.2.2⟩
  · exact fun p hp => by
      refine Part.same_trans (h.frame p hp) ?_
      cases p <;> first | rfl | exact ⟨rfl, rfl⟩ | exact absurd m_mem hp

theorem Within.upd_mem_boot {ps : List Part} {s x : State} {a_mem : MemRun} {a_boot : BootRun}
    (h : Within ps s x) (m_mem : Part.mem ∈ ps) (m_boot : Part.boot ∈ ps) (w : a_mem.dram = x.mem.dram ∧ a_mem.flips = x.mem.flips) : Within ps s { x with mem := a_mem, boot := a_boot } := by
  refine ⟨h.queue, fun c => ?_, ?_⟩
  · have q := (State.canonical_iff _).1 (h.form c)
    exact (State.canonical_iff _).2 ⟨q.1, q.2.1, w.1 ▸ q.2.2.1, w.2 ▸ q.2.2.2⟩
  · exact fun p hp => by
      refine Part.same_trans (h.frame p hp) ?_
      cases p <;> first | rfl | exact ⟨rfl, rfl⟩ | exact absurd m_mem hp | exact absurd m_boot hp

theorem Within.upd_pwm {ps : List Part} {s x : State} {a_pwm : PwmRun}
    (h : Within ps s x) (m_pwm : Part.pwm ∈ ps) : Within ps s { x with pwm := a_pwm } := by
  exact ⟨h.queue, h.form, fun p hp => by
    refine Part.same_trans (h.frame p hp) ?_
    cases p <;> first | rfl | exact ⟨rfl, rfl⟩ | exact absurd m_pwm hp⟩

theorem Within.upd_refusedNow {ps : List Part} {s x : State} {a_refusedNow : Bool}
    (h : Within ps s x)  : Within ps s { x with refusedNow := a_refusedNow } := by
  exact ⟨h.queue, h.form, fun p hp => by
    refine Part.same_trans (h.frame p hp) ?_
    cases p <;> first | rfl | exact ⟨rfl, rfl⟩⟩

theorem Within.upd_sdc {ps : List Part} {s x : State} {a_sdc : SdcRun}
    (h : Within ps s x) (m_sdc : Part.sdc ∈ ps) : Within ps s { x with sdc := a_sdc } := by
  exact ⟨h.queue, h.form, fun p hp => by
    refine Part.same_trans (h.frame p hp) ?_
    cases p <;> first | rfl | exact ⟨rfl, rfl⟩ | exact absurd m_sdc hp⟩

theorem Within.upd_sec {ps : List Part} {s x : State} {a_sec : SecRun}
    (h : Within ps s x) (m_sec : Part.sec ∈ ps) : Within ps s { x with sec := a_sec } := by
  exact ⟨h.queue, h.form, fun p hp => by
    refine Part.same_trans (h.frame p hp) ?_
    cases p <;> first | rfl | exact ⟨rfl, rfl⟩ | exact absurd m_sec hp⟩

theorem Within.upd_sec_boot {ps : List Part} {s x : State} {a_sec : SecRun} {a_boot : BootRun}
    (h : Within ps s x) (m_sec : Part.sec ∈ ps) (m_boot : Part.boot ∈ ps) : Within ps s { x with sec := a_sec, boot := a_boot } := by
  exact ⟨h.queue, h.form, fun p hp => by
    refine Part.same_trans (h.frame p hp) ?_
    cases p <;> first | rfl | exact ⟨rfl, rfl⟩ | exact absurd m_sec hp | exact absurd m_boot hp⟩

theorem Within.upd_snd {ps : List Part} {s x : State} {a_snd : SndRun}
    (h : Within ps s x) (m_snd : Part.snd ∈ ps) : Within ps s { x with snd := a_snd } := by
  exact ⟨h.queue, h.form, fun p hp => by
    refine Part.same_trans (h.frame p hp) ?_
    cases p <;> first | rfl | exact ⟨rfl, rfl⟩ | exact absurd m_snd hp⟩

theorem Within.upd_stg {ps : List Part} {s x : State} {a_stg : StgRun}
    (h : Within ps s x) (m_stg : Part.stg ∈ ps) : Within ps s { x with stg := a_stg } := by
  exact ⟨h.queue, h.form, fun p hp => by
    refine Part.same_trans (h.frame p hp) ?_
    cases p <;> first | rfl | exact ⟨rfl, rfl⟩ | exact absurd m_stg hp⟩

theorem Within.upd_trp {ps : List Part} {s x : State} {a_trp : TrpRun}
    (h : Within ps s x) (m_trp : Part.trp ∈ ps) : Within ps s { x with trp := a_trp } := by
  exact ⟨h.queue, h.form, fun p hp => by
    refine Part.same_trans (h.frame p hp) ?_
    cases p <;> first | rfl | exact ⟨rfl, rfl⟩ | exact absurd m_trp hp⟩

theorem Within.upd_twn {ps : List Part} {s x : State} {a_twn : TwnRun}
    (h : Within ps s x) (m_twn : Part.twn ∈ ps) : Within ps s { x with twn := a_twn } := by
  exact ⟨h.queue, h.form, fun p hp => by
    refine Part.same_trans (h.frame p hp) ?_
    cases p <;> first | rfl | exact ⟨rfl, rfl⟩ | exact absurd m_twn hp⟩

theorem Within.upd_wrNow {ps : List Part} {s x : State} {a_wrNow : List (Port × Nat)}
    (h : Within ps s x)  : Within ps s { x with wrNow := a_wrNow } := by
  exact ⟨h.queue, h.form, fun p hp => by
    refine Part.same_trans (h.frame p hp) ?_
    cases p <;> first | rfl | exact ⟨rfl, rfl⟩⟩

end Sys2Proof.Machine
end

