-- ==== Sys2Proof/Laws/InOps.lean ====
section
/-!
SUPPORT. What each operation of Machine/Ops.lean can change: one lemma per operation.
-/

set_option linter.unusedTactic false
set_option linter.unreachableTactic false

namespace Sys2Proof.Machine

/-- The one form of the register fields, kept by a change of them. -/
theorem Within.regsWf {ps : List Part} {s x : State} {r : RegFile} (h : Within ps s x) (hr : Part.regs ∈ ps) (hd : Part.drafts ∈ ps)
    (w : TabOk resetOf x.regs.eff ∧ TabRising x.regs.com ∧ TabRising x.regs.shadow →
      TabOk resetOf r.eff ∧ TabRising r.com ∧ TabRising r.shadow) : Within ps s { x with regs := r } := by
  refine ⟨h.queue, fun c => ?_, fun p hp => ?_⟩
  · have q := (State.canonical_iff _).1 (h.form c)
    exact (State.canonical_iff _).2 ⟨w q.1, q.2⟩
  · refine Part.same_trans (h.frame p hp) ?_
    cases p <;> first | rfl | exact ⟨rfl, rfl⟩ | exact absurd hr hp | exact absurd hd hp

theorem State.setFld_in (s : State) (f : Fld) (v : Nat) : Within [.regs] s (s.setFld f v) := by
  refine ⟨rfl, fun h => ?_, fun p hp => ?_⟩
  · rw [State.canonical_iff] at h ⊢
    exact ⟨⟨h.1.1.set _ _, h.1.2⟩, h.2⟩
  · cases p <;> first | rfl | exact ⟨rfl, rfl⟩ | exact absurd (by decide) hp

theorem State.setSfld_in (s : State) (f : Fld) (v : Int) : Within [.regs] s (State.setSfld s f v) := by
  unfold State.setSfld
  repeat' first
    | with_reducible exact Within.refl ..
    | with_reducible assumption
    | with_reducible refine (State.setFld_in ..).thn (by decide) ?_
    | split
    | dsimp only

theorem State.draftFld_in (s : State) (f : Fld) (v : Nat) : Within [.drafts] s (s.draftFld f v) := by
  refine ⟨rfl, fun h => ?_, fun p hp => ?_⟩
  · rw [State.canonical_iff] at h ⊢
    refine ⟨⟨h.1.1, h.1.2.1, ?_⟩, h.2⟩
    show TabRising (ite _ _ _)
    split
    · exact h.1.2.2.del _
    · exact h.1.2.2.put _ _
  · cases p <;> first | rfl | exact absurd (by decide) hp

theorem State.note_in (s : State) (k : Nat) : Within [] s (State.note s k) := by
  unfold State.note
  repeat' first
    | with_reducible exact Within.refl ..
    | with_reducible assumption
    | lift_lets
    | (intro x; refine Within.known (ps := []) (s := s) (x := x) ?_ ?_ <;> [(unfold x; clear x); (clear_value x; intro hx)])
    | (intro x; clear_value x)
    | fail_if_no_progress with_reducible refine Within.upd_evNow ?_
    | split
    | dsimp only

theorem State.raiseBit_in (s : State) (f : Fld) (b : Nat) : Within [.regs] s (State.raiseBit s f b) := by
  unfold State.raiseBit
  repeat' first
    | with_reducible exact Within.refl ..
    | with_reducible assumption
    | with_reducible refine (State.setFld_in ..).thn (by decide) ?_
    | with_reducible refine (State.note_in ..).thn (by decide) ?_
    | split
    | dsimp only

theorem State.raise_in (s : State) (f : Fld) : Within [.regs] s (State.raise s f) := by
  unfold State.raise
  repeat' first
    | with_reducible exact Within.refl ..
    | with_reducible assumption
    | with_reducible refine (State.raiseBit_in ..).thn (by decide) ?_
    | split
    | dsimp only

theorem State.count_in (s : State) (f : Fld) : Within [.regs] s (State.count s f) := by
  unfold State.count
  repeat' first
    | with_reducible exact Within.refl ..
    | with_reducible assumption
    | with_reducible refine (State.setFld_in ..).thn (by decide) ?_
    | with_reducible refine (State.note_in ..).thn (by decide) ?_
    | split
    | dsimp only

theorem State.countN_in (s : State) (f : Fld) (n : Nat) : Within [.regs] s (s.countN f n) := by
  induction n generalizing s with
  | zero => exact Within.refl ..
  | succ n ih => exact (ih (s.count f)).thn (by decide) (s.count_in f)

theorem State.mark_in (s : State) (k : Nat) : Within [] s (State.mark s k) := by
  unfold State.mark
  repeat' first
    | with_reducible exact Within.refl ..
    | with_reducible assumption
    | with_reducible refine (State.note_in ..).thn (by decide) ?_
    | split
    | dsimp only

theorem State.stamp_in (s : State) (lo : Fld) (hi : Fld) (t : Nat) : Within [.regs] s (State.stamp s lo hi t) := by
  unfold State.stamp
  repeat' first
    | with_reducible exact Within.refl ..
    | with_reducible assumption
    | with_reducible refine (State.setFld_in ..).thn (by decide) ?_
    | split
    | dsimp only

theorem State.refuse_in (s : State) (p : Port) (a : Nat) : Within [.regs] s (State.refuse s p a) := by
  unfold State.refuse
  repeat' first
    | with_reducible exact Within.refl ..
    | with_reducible assumption
    | lift_lets
    | (intro x; refine Within.known (ps := [.regs]) (s := s) (x := x) ?_ ?_ <;> [(unfold x; clear x); (clear_value x; intro hx)])
    | (intro x; clear_value x)
    | with_reducible refine (State.raise_in ..).thn (by decide) ?_
    | with_reducible refine (State.setFld_in ..).thn (by decide) ?_
    | fail_if_no_progress with_reducible refine Within.upd_refusedNow ?_
    | split
    | dsimp only

theorem State.noteWrite_in (s : State) (p : Port) (a : Nat) : Within [.regs] s (State.noteWrite s p a) := by
  unfold State.noteWrite
  repeat' first
    | with_reducible exact Within.refl ..
    | with_reducible assumption
    | lift_lets
    | (intro x; refine Within.known (ps := [.regs]) (s := s) (x := x) ?_ ?_ <;> [(unfold x; clear x); (clear_value x; intro hx)])
    | (intro x; clear_value x)
    | with_reducible refine (State.raise_in ..).thn (by decide) ?_
    | fail_if_no_progress with_reducible refine Within.upd_wrNow ?_
    | split
    | dsimp only

theorem State.portWrite_in {ps : List Part} {s0 s : State} {p : Port} {a : Nat} {body : State → State}
    (hs : ∀ q ∈ [Part.regs], q ∈ ps) (hb : ∀ u, Within ps s0 u → Within ps s0 (body u)) (h : Within ps s0 s) :
    Within ps s0 (s.portWrite p a body) := by
  unfold State.portWrite
  split
  · exact h
  · split
    · exact hb _ ((s.noteWrite_in p a).thn hs h)
    · exact (s.refuse_in p a).thn hs h

theorem State.drawFree_in (s : State) : Within [] s (State.drawFree s).2 := by
  unfold State.drawFree
  repeat' first
    | with_reducible exact Within.refl ..
    | with_reducible assumption
    | lift_lets
    | (intro x; refine Within.known (ps := []) (s := s) (x := x) ?_ ?_ <;> [(unfold x; clear x); (clear_value x; intro hx)])
    | (intro x; clear_value x)
    | fail_if_no_progress with_reducible refine Within.upd_free ?_
    | split
    | dsimp only

theorem State.setLatch_in (s : State) (p : Port) (a v : Nat) : Within [.latch] s (s.setLatch p a v) := by
  refine ⟨rfl, fun h => ?_, fun q hq => ?_⟩
  · rw [State.canonical_iff] at h ⊢
    exact ⟨h.1, h.2.1.set (d := fun _ => 0) _ _, h.2.2⟩
  · cases q <;> first | rfl | exact ⟨rfl, rfl⟩ | exact absurd (by decide) hq

theorem State.takeCom_in (s : State) (p : Nat → Bool) : Within [.regs, .drafts] s (s.takeCom p) := by
  unfold State.takeCom
  refine Within.foldl (fun u x hu => ?_) ?_
  · exact Within.regsWf hu (by decide) (by decide) fun w => ⟨w.1.set _ _, w.2⟩
  · exact Within.regsWf (Within.refl ..) (by decide) (by decide) fun w => ⟨w.1, w.2.1.filter _, w.2.2⟩

end Sys2Proof.Machine
end

