-- ==== Sys2Proof/Laws/InDramOps.lean ====
section
/-!
SUPPORT. What each operation of Machine/DramOps.lean can change: one lemma per operation.
-/

set_option linter.unusedTactic false
set_option linter.unreachableTactic false

namespace Sys2Proof.Machine

/-- A write of a byte keeps the one form of the DRAM. -/
theorem MemRun.put_dram {m : MemRun} (h : TabOk (fun _ => 0) m.dram) (a v : Nat) : TabOk (fun _ => 0) (m.put a v).dram :=
  h.set (d := fun _ => 0) _ _

theorem MemRun.put_wf {m : MemRun} (h : m.wf = true) (a v : Nat) : (m.put a v).wf = true := by
  simp only [MemRun.wf, Bool.and_eq_true, tabWf_iff] at h ⊢
  exact ⟨MemRun.put_dram h.1 a v, h.2⟩

theorem MemRun.setFlips_wf {m : MemRun} (h : m.wf = true) (b x : Nat) : MemRun.wf { m with flips := tabSet 0 m.flips b x } = true := by
  simp only [MemRun.wf, Bool.and_eq_true, tabWf_iff] at h ⊢
  exact ⟨h.1, h.2.set (d := fun _ => 0) _ _⟩

/-- A change of memory that keeps its one form. -/
theorem Within.memWf {ps : List Part} {s x : State} {m : MemRun} (h : Within ps s x) (hm : Part.mem ∈ ps)
    (w : x.mem.wf = true → m.wf = true) : Within ps s { x with mem := m } := by
  refine ⟨h.queue, fun c => ?_, fun p hp => ?_⟩
  · have q := h.form c
    simp only [State.canonical, Bool.and_eq_true] at q ⊢
    exact ⟨q.1, w q.2⟩
  · refine Part.same_trans (h.frame p hp) ?_
    cases p <;> first | rfl | exact ⟨rfl, rfl⟩ | exact absurd hm hp

theorem foldl_flips_wf {m : MemRun} {k : Nat} {l : List Nat} (h : m.wf = true) :
    MemRun.wf { m with flips := l.foldl (fun f i => tabSet 0 f (8 * k + i) 0) m.flips } = true := by
  simp only [MemRun.wf, Bool.and_eq_true, tabWf_iff] at h ⊢
  exact ⟨h.1, foldl_induct (P := TabOk fun _ => 0) (fun f i hf => hf.set (d := fun _ => 0) _ _) h.2⟩

theorem State.countWin_in (s : State) (d : Nat) : Within [.mem] s (State.countWin s d) := by
  unfold State.countWin
  repeat' first
    | with_reducible exact Within.refl ..
    | with_reducible assumption
    | lift_lets
    | (intro x; refine Within.known (ps := [.mem]) (s := s) (x := x) ?_ ?_ <;> [(unfold x; clear x); (clear_value x; intro hx)])
    | (intro x; unfold x; clear x; try beta_reduce)
    | (intro x; clear_value x)
    | fail_if_no_progress with_reducible refine Within.upd_mem ?_ (by decide) ⟨rfl, rfl⟩
    | split
    | dsimp only

theorem State.noteCe_in (s : State) (d : Nat) : Within [.regs, .mem] s (State.noteCe s d) := by
  unfold State.noteCe
  repeat' first
    | with_reducible exact Within.refl ..
    | with_reducible assumption
    | with_reducible refine (State.raise_in ..).thn (by decide) ?_
    | with_reducible refine (State.count_in ..).thn (by decide) ?_
    | with_reducible refine (State.countWin_in ..).thn (by decide) ?_
    | split
    | dsimp only

theorem State.noteUe_in (s : State) (b : Nat) : Within [.regs, .mem] s (State.noteUe s b) := by
  unfold State.noteUe
  repeat' first
    | with_reducible exact Within.refl ..
    | with_reducible assumption
    | lift_lets
    | (intro x; refine Within.known (ps := [.regs, .mem]) (s := s) (x := x) ?_ ?_ <;> [(unfold x; clear x); (clear_value x; intro hx)])
    | (intro x; clear_value x)
    | with_reducible refine (State.raise_in ..).thn (by decide) ?_
    | with_reducible refine (State.count_in ..).thn (by decide) ?_
    | with_reducible refine (State.setFld_in ..).thn (by decide) ?_
    | with_reducible refine (State.countWin_in ..).thn (by decide) ?_
    | with_reducible refine Within.foldl (fun _ _ _ => ?_) ?_
    | with_reducible refine Within.foldl1 (fun _ _ _ => ?_) ?_
    | with_reducible refine Within.foldl2 (fun _ _ _ => ?_) ?_
    | split
    | dsimp only

theorem State.judge_in (s : State) (b : Nat) : Within [.regs, .mem] s (State.judge s b).1 := by
  unfold State.judge
  repeat' first
    | with_reducible exact Within.refl ..
    | with_reducible assumption
    | lift_lets
    | (intro x; refine Within.known (ps := [.regs, .mem]) (s := s) (x := x) ?_ ?_ <;> [(unfold x; clear x); (clear_value x; intro hx)])
    | (intro x; clear_value x)
    | with_reducible refine (State.noteCe_in ..).thn (by decide) ?_
    | with_reducible refine (State.noteUe_in ..).thn (by decide) ?_
    | split
    | dsimp only

theorem State.readBeat_in (s : State) (a : Nat) (n : Nat) : Within [.regs, .mem] s (State.readBeat s a n).1 := by
  unfold State.readBeat
  repeat' first
    | with_reducible exact Within.refl ..
    | with_reducible assumption
    | lift_lets
    | (intro x; refine Within.known (ps := [.regs, .mem]) (s := s) (x := x) ?_ ?_ <;> [(unfold x; clear x); (clear_value x; intro hx)])
    | (intro x; refine Within.known (ps := [.regs, .mem]) (s := s) (x := x.1) ?_ ?_ <;> [(unfold x; clear x); (clear_value x; intro hx)])
    | (intro x; clear_value x)
    | with_reducible refine (State.judge_in ..).thn (by decide) ?_
    | split
    | dsimp only

theorem State.readBeats_in (s : State) (l : List (Nat × Nat)) : Within [.regs, .mem] s (s.readBeats l).1 := by
  induction l generalizing s with
  | nil => exact Within.refl ..
  | cons x l ih => exact (ih _).thn (by decide) (s.readBeat_in x.1 x.2)

theorem State.remakeBlock_in (s : State) (k : Nat) : Within [.regs, .mem] s (s.remakeBlock k).1 := by
  unfold State.remakeBlock
  refine foldl_induct (P := fun x : State × Bool => Within [.regs, .mem] s x.1) (fun x i hx => ?_) (Within.refl ..)
  obtain ⟨t, bad⟩ := x
  dsimp only
  split
  · exact hx
  · refine Within.memWf ((t.judge_in _).thn (by decide) hx) (by decide) fun w => ?_
    exact MemRun.setFlips_wf (foldl_induct (P := fun m => MemRun.wf m = true) (fun m x h => MemRun.put_wf h _ _) w) _ _

theorem State.poisonBlock_in (s : State) (k : Nat) : Within [.regs, .mem] s (State.poisonBlock s k) := by
  unfold State.poisonBlock
  repeat' first
    | with_reducible exact Within.refl ..
    | with_reducible assumption
    | lift_lets
    | (intro x; refine Within.known (ps := [.regs, .mem]) (s := s) (x := x) ?_ ?_ <;> [(unfold x; clear x); (clear_value x; intro hx)])
    | (intro x; unfold x; clear x; try beta_reduce)
    | (intro x; clear_value x)
    | with_reducible refine (State.setFld_in ..).thn (by decide) ?_
    | fail_if_no_progress with_reducible refine Within.upd_mem ?_ (by decide) ⟨rfl, rfl⟩
    | split
    | dsimp only

theorem State.cureBlock_in (s : State) (k : Nat) : Within [.regs, .mem] s (State.cureBlock s k) := by
  unfold State.cureBlock
  repeat' first
    | with_reducible exact Within.refl ..
    | with_reducible assumption
    | lift_lets
    | (intro x; refine Within.known (ps := [.regs, .mem]) (s := s) (x := x) ?_ ?_ <;> [(unfold x; clear x); (clear_value x; intro hx)])
    | (intro x; unfold x; clear x; try beta_reduce)
    | (intro x; clear_value x)
    | with_reducible refine (State.setFld_in ..).thn (by decide) ?_
    | fail_if_no_progress with_reducible refine Within.upd_mem ?_ (by decide) ⟨rfl, rfl⟩
    | split
    | dsimp only

theorem State.writeBlock_in (s : State) (a : Nat) (bytes : List Nat) (poison : Bool) {t' : State}
    (ht : s.writeBlock a bytes poison = some t') : Within [.regs, .mem] s t' := by
  unfold State.writeBlock at ht
  extract_lets k full need s1 s2 m m2 at ht
  split at ht
  · cases ht
  · injection ht with ht
    subst ht
    have h1 : Within [.regs, .mem] s s1 := by
      unfold s1
      split
      · exact (s.cureBlock_in _).mono (by decide)
      · exact s.remakeBlock_in _
    have h2 : Within [.regs, .mem] s s2 := by
      unfold s2
      split
      · exact (State.poisonBlock_in ..).thn (by decide) h1
      · exact h1
    clear h1
    refine Within.memWf h2 (by decide) fun w => ?_
    have hm : m.wf = true := foldl_induct (P := fun m => MemRun.wf m = true) (fun m x h => MemRun.put_wf h _ _) w
    clear w h2
    clear_value m
    unfold m2
    split
    · exact foldl_flips_wf hm
    · exact hm

theorem State.plFull_in (s : State) : Within [.regs] s (State.plFull s) := by
  unfold State.plFull
  repeat' first
    | with_reducible exact Within.refl ..
    | with_reducible assumption
    | with_reducible refine (State.raise_in ..).thn (by decide) ?_
    | split
    | dsimp only

end Sys2Proof.Machine
end

