-- ==== Sys2Proof/Laws/InOrder.lean ====
section
/-!
SUPPORT. What each operation of Machine/Order.lean can change: one lemma per operation.
-/

set_option linter.unusedTactic false
set_option linter.unreachableTactic false

namespace Sys2Proof.Machine

theorem State.putOff_in (s : State) (c : Instr) : Within [] s (State.putOff s c) := by
  unfold State.putOff
  repeat' first
    | with_reducible exact Within.refl ..
    | with_reducible assumption
    | lift_lets
    | (intro x; refine Within.known (ps := []) (s := s) (x := x) ?_ ?_ <;> [(unfold x; clear x); (clear_value x; intro hx)])
    | (intro x; clear_value x)
    | fail_if_no_progress with_reducible refine Within.upd_later ?_
    | split
    | dsimp only

theorem State.inOrder_in {ps : List Part} {s0 s : State} {c : Instr} {q : Instr → Bool} {body : State → State}
    (_hs : ∀ q ∈ ([] : List Part), q ∈ ps) (hb : ∀ u, Within ps s0 u → Within ps s0 (body u)) (h : Within ps s0 s) :
    Within ps s0 (s.inOrder c q body) := by
  unfold State.inOrder
  split
  · exact (s.putOff_in c).thn (by simp) h
  · exact hb _ h

theorem State.portCmd_in {ps : List Part} {s0 s : State} {c : Instr} {p : Port} {a : Nat} {body : State → State}
    (hs : ∀ q ∈ [Part.regs], q ∈ ps) (hb : ∀ u, Within ps s0 u → Within ps s0 (body u)) (h : Within ps s0 s) :
    Within ps s0 (s.portCmd c p a body) :=
  State.inOrder_in (by simp) (fun _ hu => State.portWrite_in hs hb hu) h

end Sys2Proof.Machine
end

