-- ==== Sys2Proof/Laws/InEngineCore.lean ====
section
/-!
SUPPORT. What each operation of Machine/EngineCore.lean can change: one lemma per operation.
-/

set_option linter.unusedTactic false
set_option linter.unreachableTactic false

namespace Sys2Proof.Machine

theorem State.setCtx_in (s : State) (n : Nat) (r : CtxRun) : Within [.eng] s (State.setCtx s n r) := by
  unfold State.setCtx
  repeat' first
    | with_reducible exact Within.refl ..
    | with_reducible assumption
    | lift_lets
    | (intro x; refine Within.known (ps := [.eng]) (s := s) (x := x) ?_ ?_ <;> [(unfold x; clear x); (clear_value x; intro hx)])
    | (intro x; clear_value x)
    | fail_if_no_progress with_reducible refine Within.upd_eng ?_ (by decide)
    | split
    | dsimp only

theorem State.setRuns_in (s : State) (c : Nat) (n : Option Nat) : Within [.eng] s (State.setRuns s c n) := by
  unfold State.setRuns
  repeat' first
    | with_reducible exact Within.refl ..
    | with_reducible assumption
    | lift_lets
    | (intro x; refine Within.known (ps := [.eng]) (s := s) (x := x) ?_ ?_ <;> [(unfold x; clear x); (clear_value x; intro hx)])
    | (intro x; clear_value x)
    | fail_if_no_progress with_reducible refine Within.upd_eng ?_ (by decide)
    | split
    | dsimp only

theorem State.setReg_in (s : State) (n : Nat) (r : Nat) (w : Nat) : Within [.eng] s (State.setReg s n r w) := by
  unfold State.setReg
  repeat' first
    | with_reducible exact Within.refl ..
    | with_reducible assumption
    | lift_lets
    | (intro x; refine Within.known (ps := [.eng]) (s := s) (x := x) ?_ ?_ <;> [(unfold x; clear x); (clear_value x; intro hx)])
    | (intro x; clear_value x)
    | fail_if_no_progress with_reducible refine Within.upd_eng ?_ (by decide)
    | split
    | dsimp only

theorem State.setAcc_in (s : State) (n : Nat) (i : Nat) (a : Acc) : Within [.eng] s (State.setAcc s n i a) := by
  unfold State.setAcc
  repeat' first
    | with_reducible exact Within.refl ..
    | with_reducible assumption
    | lift_lets
    | (intro x; refine Within.known (ps := [.eng]) (s := s) (x := x) ?_ ?_ <;> [(unfold x; clear x); (clear_value x; intro hx)])
    | (intro x; clear_value x)
    | fail_if_no_progress with_reducible refine Within.upd_eng ?_ (by decide)
    | split
    | dsimp only

theorem State.setSt_in (s : State) (c : Nat) (i : Nat) (w : MWord) : Within [.eng] s (State.setSt s c i w) := by
  unfold State.setSt
  repeat' first
    | with_reducible exact Within.refl ..
    | with_reducible assumption
    | lift_lets
    | (intro x; refine Within.known (ps := [.eng]) (s := s) (x := x) ?_ ?_ <;> [(unfold x; clear x); (clear_value x; intro hx)])
    | (intro x; clear_value x)
    | fail_if_no_progress with_reducible refine Within.upd_eng ?_ (by decide)
    | split
    | dsimp only

theorem State.noteFound_in (s : State) (addr : Nat) (stg : Bool) : Within [.eng] s (State.noteFound s addr stg) := by
  unfold State.noteFound
  repeat' first
    | with_reducible exact Within.refl ..
    | with_reducible assumption
    | lift_lets
    | (intro x; refine Within.known (ps := [.eng]) (s := s) (x := x) ?_ ?_ <;> [(unfold x; clear x); (clear_value x; intro hx)])
    | (intro x; clear_value x)
    | fail_if_no_progress with_reducible refine Within.upd_eng ?_ (by decide)
    | split
    | dsimp only

theorem State.mirrorWrite_in (s : State) (c : Nat) (bun : Bool) (stg : Bool) (i : Nat) : Within [.regs, .mem] s (State.mirrorWrite s c bun stg i) := by
  unfold State.mirrorWrite
  repeat' first
    | with_reducible exact Within.refl ..
    | with_reducible assumption
    | lift_lets
    | (intro x; refine Within.known (ps := [.regs, .mem]) (s := s) (x := x) ?_ ?_ <;> [(unfold x; clear x); (clear_value x; intro hx)])
    | (intro x; refine Within.known (ps := [.regs, .mem]) (s := s) (x := x.1) ?_ ?_ <;> [(unfold x; clear x); (clear_value x; intro hx)])
    | (intro x; clear_value x)
    | with_reducible refine (State.remakeBlock_in ..).thn (by decide) ?_
    | with_reducible refine (State.poisonBlock_in ..).thn (by decide) ?_
    | with_reducible refine (State.plFull_in ..).thn (by decide) ?_
    | split
    | dsimp only

theorem State.mirrorFill_in (s : State) : Within [.regs, .eng, .mem] s s.mirrorFill := by
  unfold State.mirrorFill
  extract_lets a l
  refine (State.setFld_in ..).thn (by decide) ?_
  have he : Within [.regs, .eng, .mem] s { s with eng := { s.eng with found := s.eng.found.filter fun id => id % 2 == 0 } } :=
    Within.upd_eng (Within.refl ..) (by decide)
  refine Within.memWf he (by decide) fun w => ?_
  simp only [MemRun.wf, Bool.and_eq_true, tabWf_iff] at w ⊢
  exact ⟨w.1, w.2.filter _⟩

theorem State.eccRead_in (s0 : State) (c : Nat) (addr : Nat) (stg : Bool) (w : MWord) : Within [.regs, .eng] s0 (State.eccRead s0 c addr stg w) := by
  unfold State.eccRead
  repeat' first
    | with_reducible exact Within.refl ..
    | with_reducible assumption
    | lift_lets
    | (intro x; refine Within.known (ps := [.regs, .eng]) (s := s0) (x := x) ?_ ?_ <;> [(unfold x; clear x); (clear_value x; intro hx)])
    | (intro x; clear_value x)
    | with_reducible refine (State.noteFound_in ..).thn (by decide) ?_
    | with_reducible refine (State.count_in ..).thn (by decide) ?_
    | with_reducible refine (State.raise_in ..).thn (by decide) ?_
    | with_reducible refine (State.setFld_in ..).thn (by decide) ?_
    | split
    | dsimp only

theorem State.readCoef_in (s : State) (n : Nat) (i : Nat) : Within [.regs, .eng] s (State.readCoef s n i).2 := by
  unfold State.readCoef
  repeat' first
    | with_reducible exact Within.refl ..
    | with_reducible assumption
    | lift_lets
    | (intro x; refine Within.known (ps := [.regs, .eng]) (s := s) (x := x) ?_ ?_ <;> [(unfold x; clear x); (clear_value x; intro hx)])
    | (intro x; clear_value x)
    | with_reducible refine (State.eccRead_in ..).thn (by decide) ?_
    | with_reducible refine (State.raise_in ..).thn (by decide) ?_
    | split
    | dsimp only

theorem State.readSt_in (s : State) (n : Nat) (i : Nat) : Within [.regs, .eng] s (State.readSt s n i).2 := by
  unfold State.readSt
  repeat' first
    | with_reducible exact Within.refl ..
    | with_reducible assumption
    | lift_lets
    | (intro x; refine Within.known (ps := [.regs, .eng]) (s := s) (x := x) ?_ ?_ <;> [(unfold x; clear x); (clear_value x; intro hx)])
    | (intro x; clear_value x)
    | with_reducible refine (State.eccRead_in ..).thn (by decide) ?_
    | with_reducible refine (State.raise_in ..).thn (by decide) ?_
    | split
    | dsimp only

theorem State.advance_in (s : State) (n : Nat) : Within [.eng] s (State.advance s n) := by
  unfold State.advance
  repeat' first
    | with_reducible exact Within.refl ..
    | with_reducible assumption
    | lift_lets
    | (intro x; refine Within.known (ps := [.eng]) (s := s) (x := x) ?_ ?_ <;> [(unfold x; clear x); (clear_value x; intro hx)])
    | (intro x; clear_value x)
    | with_reducible refine (State.setCtx_in ..).thn (by decide) ?_
    | split
    | dsimp only

theorem State.satFlag_in (s : State) (n : Nat) (b : Bool) : Within [.regs] s (State.satFlag s n b) := by
  unfold State.satFlag
  repeat' first
    | with_reducible exact Within.refl ..
    | with_reducible assumption
    | with_reducible refine (State.raise_in ..).thn (by decide) ?_
    | split
    | dsimp only

theorem State.asatFlag_in (s : State) (n : Nat) (b : Bool) : Within [.regs] s (State.asatFlag s n b) := by
  unfold State.asatFlag
  repeat' first
    | with_reducible exact Within.refl ..
    | with_reducible assumption
    | with_reducible refine (State.raise_in ..).thn (by decide) ?_
    | split
    | dsimp only

theorem State.setSat_in (s : State) (n : Nat) (d : Nat) (i : Int) : Within [.regs, .eng] s (State.setSat s n d i) := by
  unfold State.setSat
  repeat' first
    | with_reducible exact Within.refl ..
    | with_reducible assumption
    | with_reducible refine (State.setReg_in ..).thn (by decide) ?_
    | with_reducible refine (State.satFlag_in ..).thn (by decide) ?_
    | split
    | dsimp only

end Sys2Proof.Machine
end

