-- ==== Sys2Proof/Laws/InEngineArith.lean ====
section
/-!
SUPPORT. What each operation of Machine/EngineArith.lean can change: one lemma per operation.
-/

set_option linter.unusedTactic false
set_option linter.unreachableTactic false

namespace Sys2Proof.Machine

theorem State.unary_in (s : State) (n : Nat) (o : OpWord) (f : Int → Int) : Within [.regs, .eng] s (State.unary s n o f) := by
  unfold State.unary
  repeat' first
    | with_reducible exact Within.refl ..
    | with_reducible assumption
    | with_reducible refine (State.setReg_in ..).thn (by decide) ?_
    | with_reducible refine (State.setSat_in ..).thn (by decide) ?_
    | split
    | dsimp only

theorem State.binary_in (s : State) (n : Nat) (o : OpWord) (f : Int → Int → Int) : Within [.regs, .eng] s (State.binary s n o f) := by
  unfold State.binary
  repeat' first
    | with_reducible exact Within.refl ..
    | with_reducible assumption
    | with_reducible refine (State.setReg_in ..).thn (by decide) ?_
    | with_reducible refine (State.setSat_in ..).thn (by decide) ?_
    | split
    | dsimp only

theorem State.accumulate_in (s : State) (n : Nat) (i : Nat) (nav : Bool) (p : Int) : Within [.regs, .eng] s (State.accumulate s n i nav p) := by
  unfold State.accumulate
  repeat' first
    | with_reducible exact Within.refl ..
    | with_reducible assumption
    | lift_lets
    | (intro x; refine Within.known (ps := [.regs, .eng]) (s := s) (x := x) ?_ ?_ <;> [(unfold x; clear x); (clear_value x; intro hx)])
    | (intro x; clear_value x)
    | with_reducible refine (State.setAcc_in ..).thn (by decide) ?_
    | with_reducible refine (State.asatFlag_in ..).thn (by decide) ?_
    | split
    | dsimp only

theorem State.loadAcc_in (s : State) (n : Nat) (i : Nat) (nav : Bool) (p : Int) : Within [.regs, .eng] s (State.loadAcc s n i nav p) := by
  unfold State.loadAcc
  repeat' first
    | with_reducible exact Within.refl ..
    | with_reducible assumption
    | with_reducible refine (State.setAcc_in ..).thn (by decide) ?_
    | with_reducible refine (State.asatFlag_in ..).thn (by decide) ?_
    | split
    | dsimp only

theorem State.coefProd_in (s : State) (n : Nat) (ra : Nat) (i : Nat) : Within [.regs, .eng] s (State.coefProd s n ra i).2.2 := by
  unfold State.coefProd
  repeat' first
    | with_reducible exact Within.refl ..
    | with_reducible assumption
    | lift_lets
    | (intro x; refine Within.known (ps := [.regs, .eng]) (s := s) (x := x) ?_ ?_ <;> [(unfold x; clear x); (clear_value x; intro hx)])
    | (intro x; refine Within.known (ps := [.regs, .eng]) (s := s) (x := x.2) ?_ ?_ <;> [(unfold x; clear x); (clear_value x; intro hx)])
    | (intro x; clear_value x)
    | with_reducible refine (State.readCoef_in ..).thn (by decide) ?_
    | split
    | dsimp only

theorem State.rnd_in (s : State) (n : Nat) (d : Nat) (i : Nat) (code : Nat) : Within [.regs, .eng] s (State.rnd s n d i code) := by
  unfold State.rnd
  repeat' first
    | with_reducible exact Within.refl ..
    | with_reducible assumption
    | with_reducible refine (State.setReg_in ..).thn (by decide) ?_
    | with_reducible refine (State.setSat_in ..).thn (by decide) ?_
    | split
    | dsimp only

end Sys2Proof.Machine
end

