-- ==== Sys2Proof/Laws/InSoundCore.lean ====
section
/-!
SUPPORT. What each operation of Machine/SoundCore.lean can change: one lemma per operation.
-/

set_option linter.unusedTactic false
set_option linter.unreachableTactic false

namespace Sys2Proof.Machine

theorem State.setGen_in (s : State) (g : Nat) (r : SndGen) : Within [.snd] s (State.setGen s g r) := by
  unfold State.setGen
  repeat' first
    | with_reducible exact Within.refl ..
    | with_reducible assumption
    | lift_lets
    | (intro x; refine Within.known (ps := [.snd]) (s := s) (x := x) ?_ ?_ <;> [(unfold x; clear x); (clear_value x; intro hx)])
    | (intro x; clear_value x)
    | fail_if_no_progress with_reducible refine Within.upd_snd ?_ (by decide)
    | split
    | dsimp only

theorem State.setNode_in (s : State) (g : Nat) (r : BrgNode) : Within [.snd] s (State.setNode s g r) := by
  unfold State.setNode
  repeat' first
    | with_reducible exact Within.refl ..
    | with_reducible assumption
    | lift_lets
    | (intro x; refine Within.known (ps := [.snd]) (s := s) (x := x) ?_ ?_ <;> [(unfold x; clear x); (clear_value x; intro hx)])
    | (intro x; clear_value x)
    | fail_if_no_progress with_reducible refine Within.upd_snd ?_ (by decide)
    | split
    | dsimp only

theorem State.polWeak_in (s : State) : Within [.regs, .adc] s (State.polWeak s) := by
  unfold State.polWeak
  repeat' first
    | with_reducible exact Within.refl ..
    | with_reducible assumption
    | lift_lets
    | (intro x; refine Within.known (ps := [.regs, .adc]) (s := s) (x := x) ?_ ?_ <;> [(unfold x; clear x); (clear_value x; intro hx)])
    | (intro x; clear_value x)
    | with_reducible refine (State.setFld_in ..).thn (by decide) ?_
    | with_reducible refine (State.raise_in ..).thn (by decide) ?_
    | fail_if_no_progress with_reducible refine Within.upd_adc ?_ (by decide)
    | split
    | dsimp only

theorem State.setGenState_in (s : State) (g : Nat) (st : Nat) : Within [.regs, .adc] s (State.setGenState s g st) := by
  unfold State.setGenState
  repeat' first
    | with_reducible exact Within.refl ..
    | with_reducible assumption
    | lift_lets
    | (intro x; refine Within.known (ps := [.regs, .adc]) (s := s) (x := x) ?_ ?_ <;> [(unfold x; clear x); (clear_value x; intro hx)])
    | (intro x; clear_value x)
    | with_reducible refine (State.setFld_in ..).thn (by decide) ?_
    | with_reducible refine (State.polWeak_in ..).thn (by decide) ?_
    | split
    | dsimp only

theorem State.drawDelay_in (s : State) (g : Nat) : Within [] s (State.drawDelay s g).2 := by
  unfold State.drawDelay
  repeat' first
    | with_reducible exact Within.refl ..
    | with_reducible assumption
    | lift_lets
    | (intro x; refine Within.known (ps := []) (s := s) (x := x) ?_ ?_ <;> [(unfold x; clear x); (clear_value x; intro hx)])
    | (intro x; refine Within.known (ps := []) (s := s) (x := x.2) ?_ ?_ <;> [(unfold x; clear x); (clear_value x; intro hx)])
    | (intro x; clear_value x)
    | with_reducible refine (State.drawFree_in ..).thn (by decide) ?_
    | split
    | dsimp only

theorem State.genRest_in (s : State) (g : Nat) : Within [.regs, .adc, .snd] s (State.genRest s g) := by
  unfold State.genRest
  repeat' first
    | with_reducible exact Within.refl ..
    | with_reducible assumption
    | lift_lets
    | (intro x; refine Within.known (ps := [.regs, .adc, .snd]) (s := s) (x := x) ?_ ?_ <;> [(unfold x; clear x); (clear_value x; intro hx)])
    | (intro x; clear_value x)
    | with_reducible refine (State.setFld_in ..).thn (by decide) ?_
    | with_reducible refine (State.setGen_in ..).thn (by decide) ?_
    | with_reducible refine (State.setGenState_in ..).thn (by decide) ?_
    | split
    | dsimp only

theorem State.burstRest_in (s : State) (g : Nat) : Within [.regs, .adc, .snd] s (State.burstRest s g) := by
  unfold State.burstRest
  repeat' first
    | with_reducible exact Within.refl ..
    | with_reducible assumption
    | lift_lets
    | (intro x; refine Within.known (ps := [.regs, .adc, .snd]) (s := s) (x := x) ?_ ?_ <;> [(unfold x; clear x); (clear_value x; intro hx)])
    | (intro x; refine Within.known (ps := [.regs, .adc, .snd]) (s := s) (x := x.2) ?_ ?_ <;> [(unfold x; clear x); (clear_value x; intro hx)])
    | (intro x; clear_value x)
    | with_reducible refine (State.drawDelay_in ..).thn (by decide) ?_
    | with_reducible refine (State.setGen_in ..).thn (by decide) ?_
    | with_reducible refine (State.genRest_in ..).thn (by decide) ?_
    | split
    | dsimp only

theorem State.abandonBurst_in (s : State) (g : Nat) : Within [.regs, .adc, .snd] s (State.abandonBurst s g) := by
  unfold State.abandonBurst
  repeat' first
    | with_reducible exact Within.refl ..
    | with_reducible assumption
    | with_reducible refine (State.burstRest_in ..).thn (by decide) ?_
    | with_reducible refine (State.raise_in ..).thn (by decide) ?_
    | with_reducible refine (State.count_in ..).thn (by decide) ?_
    | split
    | dsimp only

theorem State.noteTx_in (s : State) (g : Nat) : Within [.regs] s (State.noteTx s g) := by
  unfold State.noteTx
  repeat' first
    | with_reducible exact Within.refl ..
    | with_reducible assumption
    | lift_lets
    | (intro x; refine Within.known (ps := [.regs]) (s := s) (x := x) ?_ ?_ <;> [(unfold x; clear x); (clear_value x; intro hx)])
    | (intro x; clear_value x)
    | with_reducible refine (State.setFld_in ..).thn (by decide) ?_
    | split
    | dsimp only

theorem State.freshWait_in (s : State) (g : Nat) (r : BrgNode) : Within [.snd] s (State.freshWait s g r) := by
  unfold State.freshWait
  repeat' first
    | with_reducible exact Within.refl ..
    | with_reducible assumption
    | lift_lets
    | (intro x; refine Within.known (ps := [.snd]) (s := s) (x := x) ?_ ?_ <;> [(unfold x; clear x); (clear_value x; intro hx)])
    | (intro x; refine Within.known (ps := [.snd]) (s := s) (x := x.2) ?_ ?_ <;> [(unfold x; clear x); (clear_value x; intro hx)])
    | (intro x; clear_value x)
    | with_reducible refine (State.drawFree_in ..).thn (by decide) ?_
    | with_reducible refine (State.setNode_in ..).thn (by decide) ?_
    | split
    | dsimp only

theorem State.queueTx_in (s : State) (g : Nat) (f : TxFrame) : Within [.regs, .snd] s (State.queueTx s g f) := by
  unfold State.queueTx
  repeat' first
    | with_reducible exact Within.refl ..
    | with_reducible assumption
    | lift_lets
    | (intro x; refine Within.known (ps := [.regs, .snd]) (s := s) (x := x) ?_ ?_ <;> [(unfold x; clear x); (clear_value x; intro hx)])
    | (intro x; clear_value x)
    | with_reducible refine (State.freshWait_in ..).thn (by decide) ?_
    | with_reducible refine (State.setNode_in ..).thn (by decide) ?_
    | with_reducible refine (State.noteTx_in ..).thn (by decide) ?_
    | split
    | dsimp only

theorem State.requeueTx_in (s : State) (g : Nat) (f : TxFrame) : Within [.regs, .snd] s (State.requeueTx s g f) := by
  unfold State.requeueTx
  repeat' first
    | with_reducible exact Within.refl ..
    | with_reducible assumption
    | lift_lets
    | (intro x; refine Within.known (ps := [.regs, .snd]) (s := s) (x := x) ?_ ?_ <;> [(unfold x; clear x); (clear_value x; intro hx)])
    | (intro x; clear_value x)
    | with_reducible refine (State.freshWait_in ..).thn (by decide) ?_
    | with_reducible refine (State.noteTx_in ..).thn (by decide) ?_
    | split
    | dsimp only

theorem State.stopFrame_in (s : State) (g : Nat) : Within [.regs, .adc, .snd] s (State.stopFrame s g) := by
  unfold State.stopFrame
  repeat' first
    | with_reducible exact Within.refl ..
    | with_reducible assumption
    | lift_lets
    | (intro x; refine Within.known (ps := [.regs, .adc, .snd]) (s := s) (x := x) ?_ ?_ <;> [(unfold x; clear x); (clear_value x; intro hx)])
    | (intro x; clear_value x)
    | with_reducible refine (State.setNode_in ..).thn (by decide) ?_
    | with_reducible refine (State.genRest_in ..).thn (by decide) ?_
    | with_reducible refine (State.raise_in ..).thn (by decide) ?_
    | with_reducible refine (State.noteTx_in ..).thn (by decide) ?_
    | with_reducible refine (State.requeueTx_in ..).thn (by decide) ?_
    | split
    | dsimp only

theorem State.soundEnter_in (s : State) (g : Nat) : Within [.snd] s (State.soundEnter s g) := by
  unfold State.soundEnter
  repeat' first
    | with_reducible exact Within.refl ..
    | with_reducible assumption
    | lift_lets
    | (intro x; refine Within.known (ps := [.snd]) (s := s) (x := x) ?_ ?_ <;> [(unfold x; clear x); (clear_value x; intro hx)])
    | (intro x; clear_value x)
    | with_reducible refine (State.setGen_in ..).thn (by decide) ?_
    | split
    | dsimp only

theorem State.soundLeave_in (s : State) (g : Nat) : Within [.regs, .adc, .snd] s (State.soundLeave s g) := by
  unfold State.soundLeave
  repeat' first
    | with_reducible exact Within.refl ..
    | with_reducible assumption
    | with_reducible refine (State.abandonBurst_in ..).thn (by decide) ?_
    | with_reducible refine (State.stopFrame_in ..).thn (by decide) ?_
    | split
    | dsimp only

theorem State.soundBound_in (s : State) (g : Nat) : Within [.regs, .adc, .snd] s (State.soundBound s g) := by
  unfold State.soundBound
  repeat' first
    | with_reducible exact Within.refl ..
    | with_reducible assumption
    | lift_lets
    | (intro x; refine Within.known (ps := [.regs, .adc, .snd]) (s := s) (x := x) ?_ ?_ <;> [(unfold x; clear x); (clear_value x; intro hx)])
    | (intro x; clear_value x)
    | with_reducible refine (State.abandonBurst_in ..).thn (by decide) ?_
    | with_reducible refine (State.setNode_in ..).thn (by decide) ?_
    | split
    | dsimp only

end Sys2Proof.Machine
end

