-- ==== Sys2Proof/Laws/InSoundTones.lean ====
section
/-!
SUPPORT. What each operation of Machine/SoundTones.lean can change: one lemma per operation.
-/

set_option linter.unusedTactic false
set_option linter.unreachableTactic false

namespace Sys2Proof.Machine

theorem State.corrV_in (s : State) (g : Nat) (d : Nat) (x : Int × Int) : Within [.snd] s (State.corrV s g d x) := by
  unfold State.corrV
  repeat' first
    | with_reducible exact Within.refl ..
    | with_reducible assumption
    | lift_lets
    | (intro x; refine Within.known (ps := [.snd]) (s := s) (x := x) ?_ ?_ <;> [(unfold x; clear x); (clear_value x; intro hx)])
    | (intro x; clear_value x)
    | with_reducible refine (State.setGen_in ..).thn (by decide) ?_
    | split
    | dsimp only

theorem State.corrI_in (s : State) (g : Nat) (d : Nat) (x : Int × Int) : Within [.snd] s (State.corrI s g d x) := by
  unfold State.corrI
  repeat' first
    | with_reducible exact Within.refl ..
    | with_reducible assumption
    | lift_lets
    | (intro x; refine Within.known (ps := [.snd]) (s := s) (x := x) ?_ ?_ <;> [(unfold x; clear x); (clear_value x; intro hx)])
    | (intro x; clear_value x)
    | with_reducible refine (State.setGen_in ..).thn (by decide) ?_
    | split
    | dsimp only

theorem State.tuneSample_in (s : State) (p : Nat) (x : Int) (stamp : Nat) (ok : Bool) : Within [.regs, .snd] s (State.tuneSample s p x stamp ok) := by
  unfold State.tuneSample
  repeat' first
    | with_reducible exact Within.refl ..
    | with_reducible assumption
    | lift_lets
    | (intro x; refine Within.known (ps := [.regs, .snd]) (s := s) (x := x) ?_ ?_ <;> [(unfold x; clear x); (clear_value x; intro hx)])
    | (intro x; clear_value x)
    | with_reducible refine (State.stamp_in ..).thn (by decide) ?_
    | with_reducible refine (State.corrV_in ..).thn (by decide) ?_
    | with_reducible refine (State.corrI_in ..).thn (by decide) ?_
    | with_reducible refine Within.forIdx (fun _ _ _ => ?_) ?_
    | split
    | dsimp only

end Sys2Proof.Machine
end

