-- ==== Sys2Proof/Laws/InContourCore.lean ====
section
/-!
SUPPORT. What each operation of Machine/ContourCore.lean can change: one lemma per operation.
-/

set_option linter.unusedTactic false
set_option linter.unreachableTactic false

namespace Sys2Proof.Machine

theorem State.setProbe_in (s : State) (p : Nat) (r : ProbeRun) : Within [.ctr] s (State.setProbe s p r) := by
  unfold State.setProbe
  repeat' first
    | with_reducible exact Within.refl ..
    | with_reducible assumption
    | lift_lets
    | (intro x; refine Within.known (ps := [.ctr]) (s := s) (x := x) ?_ ?_ <;> [(unfold x; clear x); (clear_value x; intro hx)])
    | (intro x; clear_value x)
    | fail_if_no_progress with_reducible refine Within.upd_ctr ?_ (by decide)
    | split
    | dsimp only

theorem State.setSeq_in (s : State) (k : Nat) (r : SeqRun) : Within [.ctr] s (State.setSeq s k r) := by
  unfold State.setSeq
  repeat' first
    | with_reducible exact Within.refl ..
    | with_reducible assumption
    | lift_lets
    | (intro x; refine Within.known (ps := [.ctr]) (s := s) (x := x) ?_ ?_ <;> [(unfold x; clear x); (clear_value x; intro hx)])
    | (intro x; clear_value x)
    | fail_if_no_progress with_reducible refine Within.upd_ctr ?_ (by decide)
    | split
    | dsimp only

theorem State.setRecQ_in (s : State) (ch : Nat) (r : RecQueue) : Within [.ctr] s (State.setRecQ s ch r) := by
  unfold State.setRecQ
  repeat' first
    | with_reducible exact Within.refl ..
    | with_reducible assumption
    | lift_lets
    | (intro x; refine Within.known (ps := [.ctr]) (s := s) (x := x) ?_ ?_ <;> [(unfold x; clear x); (clear_value x; intro hx)])
    | (intro x; clear_value x)
    | fail_if_no_progress with_reducible refine Within.upd_ctr ?_ (by decide)
    | split
    | dsimp only

theorem State.ctrPush_in (s : State) (ch : Nat) (t : Nat) (r : Nat) : Within [.regs, .ctr] s (State.ctrPush s ch t r) := by
  unfold State.ctrPush
  repeat' first
    | with_reducible exact Within.refl ..
    | with_reducible assumption
    | lift_lets
    | (intro x; refine Within.known (ps := [.regs, .ctr]) (s := s) (x := x) ?_ ?_ <;> [(unfold x; clear x); (clear_value x; intro hx)])
    | (intro x; clear_value x)
    | with_reducible refine (State.setRecQ_in ..).thn (by decide) ?_
    | with_reducible refine (State.count_in ..).thn (by decide) ?_
    | with_reducible refine (State.raise_in ..).thn (by decide) ?_
    | split
    | dsimp only

theorem State.seqTrigger_in (s : State) (k : Nat) : Within [.regs, .ctr] s (State.seqTrigger s k) := by
  unfold State.seqTrigger
  repeat' first
    | with_reducible exact Within.refl ..
    | with_reducible assumption
    | lift_lets
    | (intro x; refine Within.known (ps := [.regs, .ctr]) (s := s) (x := x) ?_ ?_ <;> [(unfold x; clear x); (clear_value x; intro hx)])
    | (intro x; clear_value x)
    | with_reducible refine (State.ctrPush_in ..).thn (by decide) ?_
    | with_reducible refine (State.stamp_in ..).thn (by decide) ?_
    | with_reducible refine (State.raiseBit_in ..).thn (by decide) ?_
    | with_reducible refine (State.setFld_in ..).thn (by decide) ?_
    | with_reducible refine (State.setSeq_in ..).thn (by decide) ?_
    | split
    | dsimp only

theorem State.seqEnter_in (s : State) (k : Nat) (j : Nat) : Within [.regs, .ctr] s (State.seqEnter s k j) := by
  unfold State.seqEnter
  repeat' first
    | with_reducible exact Within.refl ..
    | with_reducible assumption
    | lift_lets
    | (intro x; refine Within.known (ps := [.regs, .ctr]) (s := s) (x := x) ?_ ?_ <;> [(unfold x; clear x); (clear_value x; intro hx)])
    | (intro x; clear_value x)
    | with_reducible refine (State.setFld_in ..).thn (by decide) ?_
    | with_reducible refine (State.setSeq_in ..).thn (by decide) ?_
    | split
    | dsimp only

theorem State.seqOccur_in (s : State) (k : Nat) : Within [.regs, .ctr] s (State.seqOccur s k) := by
  unfold State.seqOccur
  repeat' first
    | with_reducible exact Within.refl ..
    | with_reducible assumption
    | lift_lets
    | (intro x; refine Within.known (ps := [.regs, .ctr]) (s := s) (x := x) ?_ ?_ <;> [(unfold x; clear x); (clear_value x; intro hx)])
    | (intro x; clear_value x)
    | with_reducible refine (State.setFld_in ..).thn (by decide) ?_
    | with_reducible refine (State.seqTrigger_in ..).thn (by decide) ?_
    | with_reducible refine (State.seqEnter_in ..).thn (by decide) ?_
    | split
    | dsimp only

theorem State.seqSample_in (s : State) (k : Nat) (p : Nat) (x : Int) (ok : Bool) (tag : Bool) : Within [.regs, .ctr] s (State.seqSample s k p x ok tag) := by
  unfold State.seqSample
  repeat' first
    | with_reducible exact Within.refl ..
    | with_reducible assumption
    | lift_lets
    | (intro x; refine Within.known (ps := [.regs, .ctr]) (s := s) (x := x) ?_ ?_ <;> [(unfold x; clear x); (clear_value x; intro hx)])
    | (intro x; unfold x; clear x; try beta_reduce)
    | (intro x; clear_value x)
    | with_reducible refine (State.setSeq_in ..).thn (by decide) ?_
    | with_reducible refine (State.seqOccur_in ..).thn (by decide) ?_
    | split
    | dsimp only

theorem State.ctrEvent_in (s : State) (e : Nat) : Within [.regs, .ctr] s (State.ctrEvent s e) := by
  unfold State.ctrEvent
  repeat' first
    | with_reducible exact Within.refl ..
    | with_reducible assumption
    | lift_lets
    | (intro x; refine Within.known (ps := [.regs, .ctr]) (s := s) (x := x) ?_ ?_ <;> [(unfold x; clear x); (clear_value x; intro hx)])
    | (intro x; clear_value x)
    | with_reducible refine (State.seqOccur_in ..).thn (by decide) ?_
    | with_reducible refine Within.forIdx (fun _ _ _ => ?_) ?_
    | split
    | dsimp only

theorem State.recSample_in (s : State) (k : Nat) (p : Nat) (stamp : Nat) (val : Nat) (orng : Bool) (xtalk : Bool) (pllsw : Bool) (inval : Bool) : Within [.regs, .ctr] s (State.recSample s k p stamp val orng xtalk pllsw inval) := by
  unfold State.recSample
  repeat' first
    | with_reducible exact Within.refl ..
    | with_reducible assumption
    | lift_lets
    | (intro x; refine Within.known (ps := [.regs, .ctr]) (s := s) (x := x) ?_ ?_ <;> [(unfold x; clear x); (clear_value x; intro hx)])
    | (intro x; clear_value x)
    | with_reducible refine (State.stamp_in ..).thn (by decide) ?_
    | with_reducible refine (State.setSeq_in ..).thn (by decide) ?_
    | with_reducible refine (State.ctrPush_in ..).thn (by decide) ?_
    | split
    | dsimp only

theorem State.crossing_in (s : State) (p : Nat) (at256 : Nat) (falling : Bool) : Within [.regs, .ctr] s (State.crossing s p at256 falling) := by
  unfold State.crossing
  repeat' first
    | with_reducible exact Within.refl ..
    | with_reducible assumption
    | with_reducible refine (State.ctrPush_in ..).thn (by decide) ?_
    | split
    | dsimp only

theorem State.crossRest_in (s : State) (p : Nat) : Within [.ctr] s (State.crossRest s p) := by
  unfold State.crossRest
  repeat' first
    | with_reducible exact Within.refl ..
    | with_reducible assumption
    | lift_lets
    | (intro x; refine Within.known (ps := [.ctr]) (s := s) (x := x) ?_ ?_ <;> [(unfold x; clear x); (clear_value x; intro hx)])
    | (intro x; clear_value x)
    | with_reducible refine (State.setProbe_in ..).thn (by decide) ?_
    | split
    | dsimp only

theorem State.probeCross_in (s : State) (p : Nat) (x : Int) (stamp : Nat) (ok : Bool) : Within [.regs, .ctr] s (State.probeCross s p x stamp ok) := by
  unfold State.probeCross
  repeat' first
    | with_reducible exact Within.refl ..
    | with_reducible assumption
    | lift_lets
    | (intro x; refine Within.known (ps := [.regs, .ctr]) (s := s) (x := x) ?_ ?_ <;> [(unfold x; clear x); (clear_value x; intro hx)])
    | (intro x; clear_value x)
    | with_reducible refine (State.setProbe_in ..).thn (by decide) ?_
    | with_reducible refine (State.stamp_in ..).thn (by decide) ?_
    | with_reducible refine (State.crossing_in ..).thn (by decide) ?_
    | split
    | dsimp only

theorem State.probeEnv_in (s : State) (p : Nat) (x : Int) (ok : Bool) (tag : Bool) : Within [.ctr] s (State.probeEnv s p x ok tag) := by
  unfold State.probeEnv
  repeat' first
    | with_reducible exact Within.refl ..
    | with_reducible assumption
    | lift_lets
    | (intro x; refine Within.known (ps := [.ctr]) (s := s) (x := x) ?_ ?_ <;> [(unfold x; clear x); (clear_value x; intro hx)])
    | (intro x; clear_value x)
    | with_reducible refine (State.setProbe_in ..).thn (by decide) ?_
    | split
    | dsimp only

theorem State.probeTake_in (s : State) (p : Nat) (val : Nat) (stamp : Nat) (orng : Bool) (xtalk : Bool) (pllsw : Bool) (bad : Bool) : Within [.regs, .ctr, .snd] s (State.probeTake s p val stamp orng xtalk pllsw bad) := by
  unfold State.probeTake
  repeat' first
    | with_reducible exact Within.refl ..
    | with_reducible assumption
    | lift_lets
    | (intro x; refine Within.known (ps := [.regs, .ctr, .snd]) (s := s) (x := x) ?_ ?_ <;> [(unfold x; clear x); (clear_value x; intro hx)])
    | (intro x; clear_value x)
    | with_reducible refine (State.probeEnv_in ..).thn (by decide) ?_
    | with_reducible refine (State.probeCross_in ..).thn (by decide) ?_
    | with_reducible refine (State.stamp_in ..).thn (by decide) ?_
    | with_reducible refine (State.crossRest_in ..).thn (by decide) ?_
    | with_reducible refine (State.seqSample_in ..).thn (by decide) ?_
    | with_reducible refine (State.recSample_in ..).thn (by decide) ?_
    | with_reducible refine (State.tuneSample_in ..).thn (by decide) ?_
    | with_reducible refine Within.forIdx (fun _ _ _ => ?_) ?_
    | split
    | dsimp only

theorem State.probeSource_in (s : State) (kind : Nat) (id : Nat) (port : Nat) (val : Nat) (stamp : Nat) (orng : Bool) (xtalk : Bool) (pllsw : Bool) (bad : Bool) : Within [.regs, .ctr, .snd] s (State.probeSource s kind id port val stamp orng xtalk pllsw bad) := by
  unfold State.probeSource
  repeat' first
    | with_reducible exact Within.refl ..
    | with_reducible assumption
    | with_reducible refine (State.probeTake_in ..).thn (by decide) ?_
    | with_reducible refine (State.stamp_in ..).thn (by decide) ?_
    | with_reducible refine Within.forIdx (fun _ _ _ => ?_) ?_
    | split
    | dsimp only

end Sys2Proof.Machine
end

