-- ==== Sys2Proof/Laws/InGroupOps.lean ====
section
/-!
SUPPORT. What each operation of Machine/GroupOps.lean can change: one lemma per operation.
-/

set_option linter.unusedTactic false
set_option linter.unreachableTactic false

namespace Sys2Proof.Machine

theorem State.setGrp_in (s : State) (g : Nat) (r : GroupRun) : Within [.grid] s (State.setGrp s g r) := by
  unfold State.setGrp
  repeat' first
    | with_reducible exact Within.refl ..
    | with_reducible assumption
    | lift_lets
    | (intro x; refine Within.known (ps := [.grid]) (s := s) (x := x) ?_ ?_ <;> [(unfold x; clear x); (clear_value x; intro hx)])
    | (intro x; clear_value x)
    | fail_if_no_progress with_reducible refine Within.upd_grid ?_ (by decide)
    | split
    | dsimp only

theorem State.setLeg_in (s : State) (n : Nat) (r : LegRun) : Within [.pwm] s (State.setLeg s n r) := by
  unfold State.setLeg
  repeat' first
    | with_reducible exact Within.refl ..
    | with_reducible assumption
    | lift_lets
    | (intro x; refine Within.known (ps := [.pwm]) (s := s) (x := x) ?_ ?_ <;> [(unfold x; clear x); (clear_value x; intro hx)])
    | (intro x; clear_value x)
    | fail_if_no_progress with_reducible refine Within.upd_pwm ?_ (by decide)
    | split
    | dsimp only

theorem State.setMode_in (s : State) (g : Nat) (m : Nat) : Within [.regs, .adc, .snd] s (State.setMode s g m) := by
  unfold State.setMode
  repeat' first
    | with_reducible exact Within.refl ..
    | with_reducible assumption
    | lift_lets
    | (intro x; refine Within.known (ps := [.regs, .adc, .snd]) (s := s) (x := x) ?_ ?_ <;> [(unfold x; clear x); (clear_value x; intro hx)])
    | (intro x; clear_value x)
    | with_reducible refine (State.setFld_in ..).thn (by decide) ?_
    | with_reducible refine (State.soundEnter_in ..).thn (by decide) ?_
    | with_reducible refine (State.soundLeave_in ..).thn (by decide) ?_
    | split
    | dsimp only

theorem State.legOff_in (s : State) (n : Nat) : Within [.regs, .pwm] s (State.legOff s n) := by
  unfold State.legOff
  repeat' first
    | with_reducible exact Within.refl ..
    | with_reducible assumption
    | lift_lets
    | (intro x; refine Within.known (ps := [.regs, .pwm]) (s := s) (x := x) ?_ ?_ <;> [(unfold x; clear x); (clear_value x; intro hx)])
    | (intro x; clear_value x)
    | with_reducible refine (State.setLeg_in ..).thn (by decide) ?_
    | with_reducible refine (State.setFld_in ..).thn (by decide) ?_
    | split
    | dsimp only

theorem State.legsOff_in (s : State) (g : Nat) : Within [.regs, .pwm] s (State.legsOff s g) := by
  unfold State.legsOff
  repeat' first
    | with_reducible exact Within.refl ..
    | with_reducible assumption
    | with_reducible refine (State.legOff_in ..).thn (by decide) ?_
    | with_reducible refine Within.forIdx (fun _ _ _ => ?_) ?_
    | split
    | dsimp only

theorem State.storeFlux_in (s : State) (g : Nat) : Within [.regs] s (State.storeFlux s g) := by
  unfold State.storeFlux
  repeat' first
    | with_reducible exact Within.refl ..
    | with_reducible assumption
    | with_reducible refine (State.setSfld_in ..).thn (by decide) ?_
    | split
    | dsimp only

theorem State.groupRest_in (s : State) (g : Nat) : Within [.regs, .grid, .adc, .snd] s (State.groupRest s g) := by
  unfold State.groupRest
  repeat' first
    | with_reducible exact Within.refl ..
    | with_reducible assumption
    | lift_lets
    | (intro x; refine Within.known (ps := [.regs, .grid, .adc, .snd]) (s := s) (x := x) ?_ ?_ <;> [(unfold x; clear x); (clear_value x; intro hx)])
    | (intro x; clear_value x)
    | with_reducible refine (State.setGrp_in ..).thn (by decide) ?_
    | with_reducible refine (State.setMode_in ..).thn (by decide) ?_
    | with_reducible refine (State.setFld_in ..).thn (by decide) ?_
    | split
    | dsimp only

theorem State.groupOff_in (s : State) (g : Nat) : Within [.regs, .grid, .adc, .pwm, .snd] s (State.groupOff s g) := by
  unfold State.groupOff
  repeat' first
    | with_reducible exact Within.refl ..
    | with_reducible assumption
    | with_reducible refine (State.storeFlux_in ..).thn (by decide) ?_
    | with_reducible refine (State.legsOff_in ..).thn (by decide) ?_
    | with_reducible refine (State.groupRest_in ..).thn (by decide) ?_
    | with_reducible refine (State.setFld_in ..).thn (by decide) ?_
    | with_reducible refine Within.forIdx (fun _ _ _ => ?_) ?_
    | split
    | dsimp only

theorem State.stopFrom_in (s : State) (g : Nat) (m : Nat) : Within [.regs, .grid, .adc, .snd] s (State.stopFrom s g m) := by
  unfold State.stopFrom
  repeat' first
    | with_reducible exact Within.refl ..
    | with_reducible assumption
    | lift_lets
    | (intro x; refine Within.known (ps := [.regs, .grid, .adc, .snd]) (s := s) (x := x) ?_ ?_ <;> [(unfold x; clear x); (clear_value x; intro hx)])
    | (intro x; clear_value x)
    | with_reducible refine (State.setGrp_in ..).thn (by decide) ?_
    | with_reducible refine (State.setMode_in ..).thn (by decide) ?_
    | split
    | dsimp only

theorem State.beginStop_in (s0 : State) (g : Nat) : Within [.regs, .grid, .adc, .snd] s0 (State.beginStop s0 g) := by
  unfold State.beginStop
  repeat' first
    | with_reducible exact Within.refl ..
    | with_reducible assumption
    | lift_lets
    | (intro x; refine Within.known (ps := [.regs, .grid, .adc, .snd]) (s := s0) (x := x) ?_ ?_ <;> [(unfold x; clear x); (clear_value x; intro hx)])
    | (intro x; clear_value x)
    | with_reducible refine (State.setGrp_in ..).thn (by decide) ?_
    | with_reducible refine (State.stopFrom_in ..).thn (by decide) ?_
    | split
    | dsimp only

theorem State.brkWatch_in (s : State) (g : Nat) : Within [.regs, .grid] s (State.brkWatch s g) := by
  unfold State.brkWatch
  repeat' first
    | with_reducible exact Within.refl ..
    | with_reducible assumption
    | lift_lets
    | (intro x; refine Within.known (ps := [.regs, .grid]) (s := s) (x := x) ?_ ?_ <;> [(unfold x; clear x); (clear_value x; intro hx)])
    | (intro x; clear_value x)
    | with_reducible refine (State.setGrp_in ..).thn (by decide) ?_
    | with_reducible refine (State.raise_in ..).thn (by decide) ?_
    | split
    | dsimp only

theorem State.brkAll_in (s : State) : Within [.regs, .grid] s (State.brkAll s) := by
  unfold State.brkAll
  repeat' first
    | with_reducible exact Within.refl ..
    | with_reducible assumption
    | with_reducible refine (State.brkWatch_in ..).thn (by decide) ?_
    | with_reducible refine Within.forIdx (fun _ _ _ => ?_) ?_
    | split
    | dsimp only

theorem State.brkResult_in (s : State) (x : Nat) : Within [.regs, .grid] s (State.brkResult s x) := by
  unfold State.brkResult
  repeat' first
    | with_reducible exact Within.refl ..
    | with_reducible assumption
    | with_reducible refine (State.brkWatch_in ..).thn (by decide) ?_
    | with_reducible refine Within.forIdx (fun _ _ _ => ?_) ?_
    | split
    | dsimp only

theorem State.announceHo_in (s : State) (lead : Nat) (by_ : Option (Nat × Nat)) : Within [.regs, .twn] s (State.announceHo s lead by_) := by
  unfold State.announceHo
  repeat' first
    | with_reducible exact Within.refl ..
    | with_reducible assumption
    | lift_lets
    | (intro x; refine Within.known (ps := [.regs, .twn]) (s := s) (x := x) ?_ ?_ <;> [(unfold x; clear x); (clear_value x; intro hx)])
    | (intro x; clear_value x)
    | with_reducible refine (State.setFld_in ..).thn (by decide) ?_
    | fail_if_no_progress with_reducible refine Within.upd_twn ?_ (by decide)
    | split
    | dsimp only

theorem State.allGroupsOff_in (s : State) : Within [.regs, .grid, .adc, .pwm, .snd] s (State.allGroupsOff s) := by
  unfold State.allGroupsOff
  repeat' first
    | with_reducible exact Within.refl ..
    | with_reducible assumption
    | with_reducible refine (State.groupOff_in ..).thn (by decide) ?_
    | with_reducible refine Within.forIdx (fun _ _ _ => ?_) ?_
    | split
    | dsimp only

theorem State.undoStop_in (s : State) (g : Nat) : Within [.regs, .grid, .adc, .snd] s (State.undoStop s g) := by
  unfold State.undoStop
  repeat' first
    | with_reducible exact Within.refl ..
    | with_reducible assumption
    | lift_lets
    | (intro x; refine Within.known (ps := [.regs, .grid, .adc, .snd]) (s := s) (x := x) ?_ ?_ <;> [(unfold x; clear x); (clear_value x; intro hx)])
    | (intro x; clear_value x)
    | with_reducible refine (State.setGrp_in ..).thn (by decide) ?_
    | with_reducible refine (State.stopFrom_in ..).thn (by decide) ?_
    | with_reducible refine (State.setMode_in ..).thn (by decide) ?_
    | split
    | dsimp only

theorem State.stopByAction_in (s : State) (g : Nat) : Within [.regs, .grid, .adc, .snd] s (State.stopByAction s g) := by
  unfold State.stopByAction
  repeat' first
    | with_reducible exact Within.refl ..
    | with_reducible assumption
    | lift_lets
    | (intro x; refine Within.known (ps := [.regs, .grid, .adc, .snd]) (s := s) (x := x) ?_ ?_ <;> [(unfold x; clear x); (clear_value x; intro hx)])
    | (intro x; clear_value x)
    | with_reducible refine (State.beginStop_in ..).thn (by decide) ?_
    | with_reducible refine (State.setGrp_in ..).thn (by decide) ?_
    | split
    | dsimp only

theorem State.askHo_in (s : State) (g : Nat) (code : Nat) : Within [.regs, .grid, .adc, .twn, .snd] s (State.askHo s g code) := by
  unfold State.askHo
  repeat' first
    | with_reducible exact Within.refl ..
    | with_reducible assumption
    | lift_lets
    | (intro x; refine Within.known (ps := [.regs, .grid, .adc, .twn, .snd]) (s := s) (x := x) ?_ ?_ <;> [(unfold x; clear x); (clear_value x; intro hx)])
    | (intro x; clear_value x)
    | with_reducible refine (State.undoStop_in ..).thn (by decide) ?_
    | with_reducible refine (State.announceHo_in ..).thn (by decide) ?_
    | fail_if_no_progress with_reducible refine Within.upd_twn ?_ (by decide)
    | split
    | dsimp only

theorem State.runAction_in (s : State) (g : Nat) (code : Nat) : Within [.regs, .grid, .adc, .pwm, .twn, .snd] s (State.runAction s g code) := by
  unfold State.runAction
  repeat' first
    | with_reducible exact Within.refl ..
    | with_reducible assumption
    | lift_lets
    | (intro x; refine Within.known (ps := [.regs, .grid, .adc, .pwm, .twn, .snd]) (s := s) (x := x) ?_ ?_ <;> [(unfold x; clear x); (clear_value x; intro hx)])
    | (intro x; clear_value x)
    | with_reducible refine (State.setGrp_in ..).thn (by decide) ?_
    | with_reducible refine (State.setSfld_in ..).thn (by decide) ?_
    | with_reducible refine (State.stopByAction_in ..).thn (by decide) ?_
    | with_reducible refine (State.groupOff_in ..).thn (by decide) ?_
    | with_reducible refine (State.allGroupsOff_in ..).thn (by decide) ?_
    | with_reducible refine (State.askHo_in ..).thn (by decide) ?_
    | split
    | dsimp only

theorem State.undoDerate_in (s : State) (g : Nat) : Within [.regs, .grid] s (State.undoDerate s g) := by
  unfold State.undoDerate
  repeat' first
    | with_reducible exact Within.refl ..
    | with_reducible assumption
    | lift_lets
    | (intro x; refine Within.known (ps := [.regs, .grid]) (s := s) (x := x) ?_ ?_ <;> [(unfold x; clear x); (clear_value x; intro hx)])
    | (intro x; clear_value x)
    | with_reducible refine (State.setGrp_in ..).thn (by decide) ?_
    | with_reducible refine (State.setSfld_in ..).thn (by decide) ?_
    | split
    | dsimp only

theorem State.dropHo_in (s : State) (g : Nat) (code : Nat) : Within [.regs, .twn] s (State.dropHo s g code) := by
  unfold State.dropHo
  repeat' first
    | with_reducible exact Within.refl ..
    | with_reducible assumption
    | lift_lets
    | (intro x; refine Within.known (ps := [.regs, .twn]) (s := s) (x := x) ?_ ?_ <;> [(unfold x; clear x); (clear_value x; intro hx)])
    | (intro x; unfold x; clear x; try beta_reduce)
    | (intro x; clear_value x)
    | with_reducible refine (State.setFld_in ..).thn (by decide) ?_
    | fail_if_no_progress with_reducible refine Within.upd_twn ?_ (by decide)
    | split
    | dsimp only

theorem State.giveWay_in (s : State) (g : Nat) (code : Nat) : Within [.regs, .grid, .twn] s (State.giveWay s g code) := by
  unfold State.giveWay
  repeat' first
    | with_reducible exact Within.refl ..
    | with_reducible assumption
    | with_reducible refine (State.undoDerate_in ..).thn (by decide) ?_
    | with_reducible refine (State.dropHo_in ..).thn (by decide) ?_
    | split
    | dsimp only

theorem State.faultAction_in (s : State) (g : Nat) (src : Nat) : Within [.regs, .grid, .adc, .pwm, .ctr, .twn, .snd] s (State.faultAction s g src) := by
  unfold State.faultAction
  repeat' first
    | with_reducible exact Within.refl ..
    | with_reducible assumption
    | lift_lets
    | (intro x; refine Within.known (ps := [.regs, .grid, .adc, .pwm, .ctr, .twn, .snd]) (s := s) (x := x) ?_ ?_ <;> [(unfold x; clear x); (clear_value x; intro hx)])
    | (intro x; clear_value x)
    | with_reducible refine (State.setFld_in ..).thn (by decide) ?_
    | with_reducible refine (State.raise_in ..).thn (by decide) ?_
    | with_reducible refine (State.stamp_in ..).thn (by decide) ?_
    | with_reducible refine (State.ctrEvent_in ..).thn (by decide) ?_
    | with_reducible refine (State.giveWay_in ..).thn (by decide) ?_
    | with_reducible refine (State.setGrp_in ..).thn (by decide) ?_
    | with_reducible refine (State.runAction_in ..).thn (by decide) ?_
    | fail_if_no_progress with_reducible refine Within.upd_twn ?_ (by decide)
    | split
    | dsimp only

theorem State.hoFallback_in (s : State) (by_ : Option (Nat × Nat)) : Within [.regs, .grid, .adc, .pwm, .snd] s (State.hoFallback s by_) := by
  unfold State.hoFallback
  repeat' first
    | with_reducible exact Within.refl ..
    | with_reducible assumption
    | lift_lets
    | (intro x; refine Within.known (ps := [.regs, .grid, .adc, .pwm, .snd]) (s := s) (x := x) ?_ ?_ <;> [(unfold x; clear x); (clear_value x; intro hx)])
    | (intro x; clear_value x)
    | with_reducible refine (State.stopByAction_in ..).thn (by decide) ?_
    | with_reducible refine (State.groupOff_in ..).thn (by decide) ?_
    | split
    | dsimp only

theorem State.unsent_in (s : State) : Within [.twn] s (State.unsent s) := by
  unfold State.unsent
  repeat' first
    | with_reducible exact Within.refl ..
    | with_reducible assumption
    | lift_lets
    | (intro x; refine Within.known (ps := [.twn]) (s := s) (x := x) ?_ ?_ <;> [(unfold x; clear x); (clear_value x; intro hx)])
    | (intro x; clear_value x)
    | fail_if_no_progress with_reducible refine Within.upd_twn ?_ (by decide)
    | split
    | dsimp only

end Sys2Proof.Machine
end

