-- ==== Sys2Proof/Laws/InCarrierOps.lean ====
section
/-!
SUPPORT. What each operation of Machine/CarrierOps.lean can change: one lemma per operation.
-/

set_option linter.unusedTactic false
set_option linter.unreachableTactic false

namespace Sys2Proof.Machine

theorem State.setGcar_in (s : State) (g : Nat) (r : CarRun) : Within [.pwm] s (State.setGcar s g r) := by
  unfold State.setGcar
  repeat' first
    | with_reducible exact Within.refl ..
    | with_reducible assumption
    | lift_lets
    | (intro x; refine Within.known (ps := [.pwm]) (s := s) (x := x) ?_ ?_ <;> [(unfold x; clear x); (clear_value x; intro hx)])
    | (intro x; clear_value x)
    | fail_if_no_progress with_reducible refine Within.upd_pwm ?_ (by decide)
    | split
    | dsimp only

theorem State.startCarriers_in (s : State) (origin : Int) : Within [.pwm] s (State.startCarriers s origin) := by
  unfold State.startCarriers
  repeat' first
    | with_reducible exact Within.refl ..
    | with_reducible assumption
    | lift_lets
    | (intro x; refine Within.known (ps := [.pwm]) (s := s) (x := x) ?_ ?_ <;> [(unfold x; clear x); (clear_value x; intro hx)])
    | (intro x; clear_value x)
    | with_reducible refine (State.setGcar_in ..).thn (by decide) ?_
    | with_reducible refine (State.setLeg_in ..).thn (by decide) ?_
    | with_reducible refine Within.forIdx (fun _ _ _ => ?_) ?_
    | split
    | dsimp only

end Sys2Proof.Machine
end

