-- ==== Sys2Proof/Laws/InEngineOut.lean ====
section
/-!
SUPPORT. What each operation of Machine/EngineOut.lean can change: one lemma per operation.
-/

set_option linter.unusedTactic false
set_option linter.unreachableTactic false

namespace Sys2Proof.Machine

theorem State.escalate_in (s : State) (n : Nat) : Within [.regs, .grid, .adc, .pwm, .ctr, .twn, .snd] s (State.escalate s n) := by
  unfold State.escalate
  repeat' first
    | with_reducible exact Within.refl ..
    | with_reducible assumption
    | lift_lets
    | (intro x; refine Within.known (ps := [.regs, .grid, .adc, .pwm, .ctr, .twn, .snd]) (s := s) (x := x) ?_ ?_ <;> [(unfold x; clear x); (clear_value x; intro hx)])
    | (intro x; clear_value x)
    | with_reducible refine (State.count_in ..).thn (by decide) ?_
    | with_reducible refine (State.setFld_in ..).thn (by decide) ?_
    | with_reducible refine (State.faultAction_in ..).thn (by decide) ?_
    | split
    | dsimp only

theorem State.unclear_in (s : State) (n : Nat) : Within [.regs] s (State.unclear s n) := by
  unfold State.unclear
  repeat' first
    | with_reducible exact Within.refl ..
    | with_reducible assumption
    | lift_lets
    | (intro x; refine Within.known (ps := [.regs]) (s := s) (x := x) ?_ ?_ <;> [(unfold x; clear x); (clear_value x; intro hx)])
    | (intro x; clear_value x)
    | with_reducible refine (State.setFld_in ..).thn (by decide) ?_
    | split
    | dsimp only

theorem State.countMiss_in (s0 : State) (n : Nat) : Within [.regs, .grid, .adc, .pwm, .ctr, .twn, .snd] s0 (State.countMiss s0 n) := by
  unfold State.countMiss
  repeat' first
    | with_reducible exact Within.refl ..
    | with_reducible assumption
    | lift_lets
    | (intro x; refine Within.known (ps := [.regs, .grid, .adc, .pwm, .ctr, .twn, .snd]) (s := s0) (x := x) ?_ ?_ <;> [(unfold x; clear x); (clear_value x; intro hx)])
    | (intro x; clear_value x)
    | with_reducible refine (State.unclear_in ..).thn (by decide) ?_
    | with_reducible refine (State.raise_in ..).thn (by decide) ?_
    | with_reducible refine (State.count_in ..).thn (by decide) ?_
    | with_reducible refine (State.ctrEvent_in ..).thn (by decide) ?_
    | with_reducible refine (State.escalate_in ..).thn (by decide) ?_
    | split
    | dsimp only

theorem State.missExec_in (s : State) (n : Nat) : Within [.regs, .grid, .eng, .adc, .pwm, .ctr, .twn, .snd] s (State.missExec s n) := by
  unfold State.missExec
  repeat' first
    | with_reducible exact Within.refl ..
    | with_reducible assumption
    | lift_lets
    | (intro x; refine Within.known (ps := [.regs, .grid, .eng, .adc, .pwm, .ctr, .twn, .snd]) (s := s) (x := x) ?_ ?_ <;> [(unfold x; clear x); (clear_value x; intro hx)])
    | (intro x; clear_value x)
    | with_reducible refine (State.setCtx_in ..).thn (by decide) ?_
    | with_reducible refine (State.countMiss_in ..).thn (by decide) ?_
    | split
    | dsimp only

theorem State.toShadow_in (s : State) (l : Nat) (w : Nat) : Within [.regs, .pwm] s (State.toShadow s l w) := by
  unfold State.toShadow
  repeat' first
    | with_reducible exact Within.refl ..
    | with_reducible assumption
    | lift_lets
    | (intro x; refine Within.known (ps := [.regs, .pwm]) (s := s) (x := x) ?_ ?_ <;> [(unfold x; clear x); (clear_value x; intro hx)])
    | (intro x; clear_value x)
    | with_reducible refine (State.setLeg_in ..).thn (by decide) ?_
    | with_reducible refine (State.raise_in ..).thn (by decide) ?_
    | split
    | dsimp only

theorem State.toDest_in (s : State) (r : RouteRec) (w : Nat) : Within [.regs, .eng, .pwm] s (State.toDest s r w) := by
  unfold State.toDest
  repeat' first
    | with_reducible exact Within.refl ..
    | with_reducible assumption
    | lift_lets
    | (intro x; refine Within.known (ps := [.regs, .eng, .pwm]) (s := s) (x := x) ?_ ?_ <;> [(unfold x; clear x); (clear_value x; intro hx)])
    | (intro x; clear_value x)
    | with_reducible refine (State.toShadow_in ..).thn (by decide) ?_
    | with_reducible refine (State.setFld_in ..).thn (by decide) ?_
    | fail_if_no_progress with_reducible refine Within.upd_eng ?_ (by decide)
    | split
    | dsimp only

theorem State.navOut_in (s : State) (n : Nat) (rs : List RouteRec) : Within [.regs, .grid, .adc, .pwm, .ctr, .twn, .snd] s (State.navOut s n rs) := by
  unfold State.navOut
  repeat' first
    | with_reducible exact Within.refl ..
    | with_reducible assumption
    | lift_lets
    | (intro x; refine Within.known (ps := [.regs, .grid, .adc, .pwm, .ctr, .twn, .snd]) (s := s) (x := x) ?_ ?_ <;> [(unfold x; clear x); (clear_value x; intro hx)])
    | (intro x; clear_value x)
    | with_reducible refine (State.raise_in ..).thn (by decide) ?_
    | with_reducible refine (State.faultAction_in ..).thn (by decide) ?_
    | with_reducible refine Within.foldl (fun _ _ _ => ?_) ?_
    | with_reducible refine Within.foldl1 (fun _ _ _ => ?_) ?_
    | with_reducible refine Within.foldl2 (fun _ _ _ => ?_) ?_
    | split
    | dsimp only

theorem State.markPort_in (s : State) (n : Nat) (port : Nat) : Within [.eng] s (State.markPort s n port) := by
  unfold State.markPort
  repeat' first
    | with_reducible exact Within.refl ..
    | with_reducible assumption
    | lift_lets
    | (intro x; refine Within.known (ps := [.eng]) (s := s) (x := x) ?_ ?_ <;> [(unfold x; clear x); (clear_value x; intro hx)])
    | (intro x; clear_value x)
    | with_reducible refine (State.setCtx_in ..).thn (by decide) ?_
    | split
    | dsimp only

theorem State.routeTake_in (s : State) (n : Nat) (w : Nat) (r : RouteRec) : Within [.regs, .eng, .pwm] s (State.routeTake s n w r).1 := by
  unfold State.routeTake
  repeat' first
    | with_reducible exact Within.refl ..
    | with_reducible assumption
    | with_reducible refine (State.toDest_in ..).thn (by decide) ?_
    | split
    | dsimp only

theorem State.output_in (s : State) (n : Nat) (port : Nat) (w : Nat) : Within [.regs, .grid, .eng, .adc, .pwm, .ctr, .twn, .snd] s (State.output s n port w) := by
  unfold State.output
  repeat' first
    | with_reducible exact Within.refl ..
    | with_reducible assumption
    | lift_lets
    | (intro x; refine Within.known (ps := [.regs, .grid, .eng, .adc, .pwm, .ctr, .twn, .snd]) (s := s) (x := x) ?_ ?_ <;> [(unfold x; clear x); (clear_value x; intro hx)])
    | (intro x; refine Within.known (ps := [.regs, .grid, .eng, .adc, .pwm, .ctr, .twn, .snd]) (s := s) (x := x.1) ?_ ?_ <;> [(unfold x; clear x); (clear_value x; intro hx)])
    | (intro x; clear_value x)
    | with_reducible refine (State.markPort_in ..).thn (by decide) ?_
    | with_reducible refine (State.missExec_in ..).thn (by decide) ?_
    | with_reducible refine (State.navOut_in ..).thn (by decide) ?_
    | with_reducible refine (State.probeSource_in ..).thn (by decide) ?_
    | with_reducible refine (State.routeTake_in ..).thn (by decide) ?_
    | with_reducible refine Within.foldl (fun _ _ _ => ?_) ?_
    | with_reducible refine Within.foldl1 (fun _ _ _ => ?_) ?_
    | with_reducible refine Within.foldl2 (fun _ _ _ => ?_) ?_
    | fail_if_no_progress with_reducible refine Within.upd_eng ?_ (by decide)
    | split
    | dsimp only

theorem State.flagBit_in (s : State) (n : Nat) (b : Nat) : Within [.regs] s (State.flagBit s n b) := by
  unfold State.flagBit
  repeat' first
    | with_reducible exact Within.refl ..
    | with_reducible assumption
    | lift_lets
    | (intro x; refine Within.known (ps := [.regs]) (s := s) (x := x) ?_ ?_ <;> [(unfold x; clear x); (clear_value x; intro hx)])
    | (intro x; clear_value x)
    | with_reducible refine (State.raiseBit_in ..).thn (by decide) ?_
    | with_reducible refine Within.foldl (fun _ _ _ => ?_) ?_
    | with_reducible refine Within.foldl1 (fun _ _ _ => ?_) ?_
    | with_reducible refine Within.foldl2 (fun _ _ _ => ?_) ?_
    | split
    | dsimp only

end Sys2Proof.Machine
end

