-- ==== Sys2Proof/Laws/InEngineSched.lean ====
section
/-!
SUPPORT. What each operation of Machine/EngineSched.lean can change: one lemma per operation.
-/

set_option linter.unusedTactic false
set_option linter.unreachableTactic false

namespace Sys2Proof.Machine

theorem State.beginReady_in (s : State) (n : Nat) : Within [.regs, .eng] s (State.beginReady s n) := by
  unfold State.beginReady
  repeat' first
    | with_reducible exact Within.refl ..
    | with_reducible assumption
    | lift_lets
    | (intro x; refine Within.known (ps := [.regs, .eng]) (s := s) (x := x) ?_ ?_ <;> [(unfold x; clear x); (clear_value x; intro hx)])
    | (intro x; clear_value x)
    | with_reducible refine (State.setCtx_in ..).thn (by decide) ?_
    | with_reducible refine (State.raise_in ..).thn (by decide) ?_
    | split
    | dsimp only

theorem State.trigger_in (s : State) (n : Nat) : Within [.regs, .grid, .eng, .adc, .pwm, .ctr, .twn, .snd] s (State.trigger s n) := by
  unfold State.trigger
  repeat' first
    | with_reducible exact Within.refl ..
    | with_reducible assumption
    | lift_lets
    | (intro x; refine Within.known (ps := [.regs, .grid, .eng, .adc, .pwm, .ctr, .twn, .snd]) (s := s) (x := x) ?_ ?_ <;> [(unfold x; clear x); (clear_value x; intro hx)])
    | (intro x; clear_value x)
    | with_reducible refine (State.setCtx_in ..).thn (by decide) ?_
    | with_reducible refine (State.count_in ..).thn (by decide) ?_
    | with_reducible refine (State.beginReady_in ..).thn (by decide) ?_
    | with_reducible refine (State.raise_in ..).thn (by decide) ?_
    | with_reducible refine (State.countMiss_in ..).thn (by decide) ?_
    | split
    | dsimp only

theorem State.triggerAll_in (s : State) (trig : Nat) (src : Nat) : Within [.regs, .grid, .eng, .adc, .pwm, .ctr, .twn, .snd] s (State.triggerAll s trig src) := by
  unfold State.triggerAll
  repeat' first
    | with_reducible exact Within.refl ..
    | with_reducible assumption
    | with_reducible refine (State.trigger_in ..).thn (by decide) ?_
    | with_reducible refine Within.foldl (fun _ _ _ => ?_) ?_
    | with_reducible refine Within.foldl1 (fun _ _ _ => ?_) ?_
    | with_reducible refine Within.foldl2 (fun _ _ _ => ?_) ?_
    | split
    | dsimp only

theorem State.snapshot_in (s : State) (n : Nat) : Within [.eng] s (State.snapshot s n) := by
  unfold State.snapshot
  repeat' first
    | with_reducible exact Within.refl ..
    | with_reducible assumption
    | lift_lets
    | (intro x; refine Within.known (ps := [.eng]) (s := s) (x := x) ?_ ?_ <;> [(unfold x; clear x); (clear_value x; intro hx)])
    | (intro x; clear_value x)
    | with_reducible refine Within.forIdx (fun _ _ _ => ?_) ?_
    | fail_if_no_progress with_reducible refine Within.upd_eng ?_ (by decide)
    | split
    | dsimp only

theorem State.bumpOne_in (s : State) (n : Nat) (b : BumpPair) : Within [.regs, .eng] s (State.bumpOne s n b) := by
  unfold State.bumpOne
  repeat' first
    | with_reducible exact Within.refl ..
    | with_reducible assumption
    | lift_lets
    | (intro x; refine Within.known (ps := [.regs, .eng]) (s := s) (x := x) ?_ ?_ <;> [(unfold x; clear x); (clear_value x; intro hx)])
    | (intro x; refine Within.known (ps := [.regs, .eng]) (s := s) (x := x.2) ?_ ?_ <;> [(unfold x; clear x); (clear_value x; intro hx)])
    | (intro x; clear_value x)
    | with_reducible refine (State.readCoef_in ..).thn (by decide) ?_
    | with_reducible refine (State.readSt_in ..).thn (by decide) ?_
    | with_reducible refine (State.setSt_in ..).thn (by decide) ?_
    | with_reducible refine (State.satFlag_in ..).thn (by decide) ?_
    | split
    | dsimp only

theorem State.bumpless_in (s : State) (n : Nat) : Within [.regs, .eng, .stg] s (State.bumpless s n) := by
  unfold State.bumpless
  repeat' first
    | with_reducible exact Within.refl ..
    | with_reducible assumption
    | lift_lets
    | (intro x; refine Within.known (ps := [.regs, .eng, .stg]) (s := s) (x := x) ?_ ?_ <;> [(unfold x; clear x); (clear_value x; intro hx)])
    | (intro x; clear_value x)
    | with_reducible refine (State.bumpOne_in ..).thn (by decide) ?_
    | with_reducible refine (State.setCtx_in ..).thn (by decide) ?_
    | with_reducible refine Within.foldl (fun _ _ _ => ?_) ?_
    | with_reducible refine Within.foldl1 (fun _ _ _ => ?_) ?_
    | with_reducible refine Within.foldl2 (fun _ _ _ => ?_) ?_
    | fail_if_no_progress with_reducible refine Within.upd_stg ?_ (by decide)
    | split
    | dsimp only

theorem State.keepOwn_in (s : State) (n : Nat) : Within [.twn] s (State.keepOwn s n) := by
  unfold State.keepOwn
  repeat' first
    | with_reducible exact Within.refl ..
    | with_reducible assumption
    | lift_lets
    | (intro x; refine Within.known (ps := [.twn]) (s := s) (x := x) ?_ ?_ <;> [(unfold x; clear x); (clear_value x; intro hx)])
    | (intro x; clear_value x)
    | fail_if_no_progress with_reducible refine Within.upd_twn ?_ (by decide)
    | split
    | dsimp only

theorem State.correct_in (s : State) (k : Nat) (a : Nat) (cap : Nat) : Within [.eng] s (State.correct s k a cap) := by
  unfold State.correct
  repeat' first
    | with_reducible exact Within.refl ..
    | with_reducible assumption
    | lift_lets
    | (intro x; refine Within.known (ps := [.eng]) (s := s) (x := x) ?_ ?_ <;> [(unfold x; clear x); (clear_value x; intro hx)])
    | (intro x; clear_value x)
    | fail_if_no_progress with_reducible refine Within.upd_eng ?_ (by decide)
    | split
    | dsimp only

theorem State.landCorr_in (s : State) (n : Nat) : Within [.eng, .twn] s (State.landCorr s n) := by
  unfold State.landCorr
  repeat' first
    | with_reducible exact Within.refl ..
    | with_reducible assumption
    | lift_lets
    | (intro x; refine Within.known (ps := [.eng, .twn]) (s := s) (x := x) ?_ ?_ <;> [(unfold x; clear x); (clear_value x; intro hx)])
    | (intro x; clear_value x)
    | with_reducible refine (State.correct_in ..).thn (by decide) ?_
    | with_reducible refine Within.foldl (fun _ _ _ => ?_) ?_
    | with_reducible refine Within.foldl1 (fun _ _ _ => ?_) ?_
    | with_reducible refine Within.foldl2 (fun _ _ _ => ?_) ?_
    | fail_if_no_progress with_reducible refine Within.upd_twn ?_ (by decide)
    | split
    | dsimp only

theorem State.startCtx_in (s : State) (n : Nat) : Within [.regs, .eng, .stg, .twn] s (State.startCtx s n) := by
  unfold State.startCtx
  repeat' first
    | with_reducible exact Within.refl ..
    | with_reducible assumption
    | lift_lets
    | (intro x; refine Within.known (ps := [.regs, .eng, .stg, .twn]) (s := s) (x := x) ?_ ?_ <;> [(unfold x; clear x); (clear_value x; intro hx)])
    | (intro x; clear_value x)
    | with_reducible refine (State.setCtx_in ..).thn (by decide) ?_
    | with_reducible refine (State.keepOwn_in ..).thn (by decide) ?_
    | with_reducible refine (State.snapshot_in ..).thn (by decide) ?_
    | with_reducible refine (State.bumpless_in ..).thn (by decide) ?_
    | with_reducible refine (State.setRuns_in ..).thn (by decide) ?_
    | split
    | dsimp only

theorem State.resumeCtx_in (s : State) (n : Nat) : Within [.eng] s (State.resumeCtx s n) := by
  unfold State.resumeCtx
  repeat' first
    | with_reducible exact Within.refl ..
    | with_reducible assumption
    | lift_lets
    | (intro x; refine Within.known (ps := [.eng]) (s := s) (x := x) ?_ ?_ <;> [(unfold x; clear x); (clear_value x; intro hx)])
    | (intro x; clear_value x)
    | with_reducible refine (State.setCtx_in ..).thn (by decide) ?_
    | with_reducible refine (State.setRuns_in ..).thn (by decide) ?_
    | split
    | dsimp only

theorem State.dispatch_in (s : State) (c : Nat) : Within [.regs, .eng, .stg, .twn] s (State.dispatch s c) := by
  unfold State.dispatch
  repeat' first
    | with_reducible exact Within.refl ..
    | with_reducible assumption
    | lift_lets
    | (intro x; refine Within.known (ps := [.regs, .eng, .stg, .twn]) (s := s) (x := x) ?_ ?_ <;> [(unfold x; clear x); (clear_value x; intro hx)])
    | (intro x; unfold x; clear x; try beta_reduce)
    | (intro x; clear_value x)
    | with_reducible refine (State.resumeCtx_in ..).thn (by decide) ?_
    | with_reducible refine (State.startCtx_in ..).thn (by decide) ?_
    | split
    | dsimp only

theorem State.preempt_in (s : State) (c : Nat) : Within [.eng] s (State.preempt s c) := by
  unfold State.preempt
  repeat' first
    | with_reducible exact Within.refl ..
    | with_reducible assumption
    | lift_lets
    | (intro x; refine Within.known (ps := [.eng]) (s := s) (x := x) ?_ ?_ <;> [(unfold x; clear x); (clear_value x; intro hx)])
    | (intro x; clear_value x)
    | with_reducible refine (State.setCtx_in ..).thn (by decide) ?_
    | with_reducible refine (State.setRuns_in ..).thn (by decide) ?_
    | split
    | dsimp only

theorem State.release_in (s : State) (n : Nat) : Within [.eng, .twn] s (State.release s n) := by
  unfold State.release
  repeat' first
    | with_reducible exact Within.refl ..
    | with_reducible assumption
    | lift_lets
    | (intro x; refine Within.known (ps := [.eng, .twn]) (s := s) (x := x) ?_ ?_ <;> [(unfold x; clear x); (clear_value x; intro hx)])
    | (intro x; clear_value x)
    | with_reducible refine (State.setCtx_in ..).thn (by decide) ?_
    | with_reducible refine (State.setRuns_in ..).thn (by decide) ?_
    | with_reducible refine (State.landCorr_in ..).thn (by decide) ?_
    | split
    | dsimp only

theorem State.tapWord_in (s : State) (n : Nat) (src : Nat) (sel : Nat) : Within [] s (State.tapWord s n src sel).2 := by
  unfold State.tapWord
  repeat' first
    | with_reducible exact Within.refl ..
    | with_reducible assumption
    | lift_lets
    | (intro x; refine Within.known (ps := []) (s := s) (x := x) ?_ ?_ <;> [(unfold x; clear x); (clear_value x; intro hx)])
    | (intro x; refine Within.known (ps := []) (s := s) (x := x.2) ?_ ?_ <;> [(unfold x; clear x); (clear_value x; intro hx)])
    | (intro x; clear_value x)
    | with_reducible refine (State.drawFree_in ..).thn (by decide) ?_
    | split
    | dsimp only

theorem State.tapPush_in (s : State) (c : Nat) (k : Nat) (n : Nat) : Within [.regs, .eng] s (State.tapPush s c k n) := by
  unfold State.tapPush
  repeat' first
    | with_reducible exact Within.refl ..
    | with_reducible assumption
    | lift_lets
    | (intro x; refine Within.known (ps := [.regs, .eng]) (s := s) (x := x) ?_ ?_ <;> [(unfold x; clear x); (clear_value x; intro hx)])
    | (intro x; refine Within.known (ps := [.regs, .eng]) (s := s) (x := x.2) ?_ ?_ <;> [(unfold x; clear x); (clear_value x; intro hx)])
    | (intro x; clear_value x)
    | with_reducible refine (State.tapWord_in ..).thn (by decide) ?_
    | with_reducible refine (State.stamp_in ..).thn (by decide) ?_
    | with_reducible refine (State.count_in ..).thn (by decide) ?_
    | with_reducible refine (State.raise_in ..).thn (by decide) ?_
    | fail_if_no_progress with_reducible refine Within.upd_eng ?_ (by decide)
    | split
    | dsimp only

theorem State.taps_in (s : State) (n : Nat) : Within [.regs, .eng] s (State.taps s n) := by
  unfold State.taps
  repeat' first
    | with_reducible exact Within.refl ..
    | with_reducible assumption
    | lift_lets
    | (intro x; refine Within.known (ps := [.regs, .eng]) (s := s) (x := x) ?_ ?_ <;> [(unfold x; clear x); (clear_value x; intro hx)])
    | (intro x; clear_value x)
    | with_reducible refine (State.tapPush_in ..).thn (by decide) ?_
    | with_reducible refine Within.forIdx (fun _ _ _ => ?_) ?_
    | fail_if_no_progress with_reducible refine Within.upd_eng ?_ (by decide)
    | split
    | dsimp only

theorem State.lastLen_in (s : State) (n : Nat) : Within [] s (State.lastLen s n).2 := by
  unfold State.lastLen
  repeat' first
    | with_reducible exact Within.refl ..
    | with_reducible assumption
    | lift_lets
    | (intro x; refine Within.known (ps := []) (s := s) (x := x) ?_ ?_ <;> [(unfold x; clear x); (clear_value x; intro hx)])
    | (intro x; refine Within.known (ps := []) (s := s) (x := x.2) ?_ ?_ <;> [(unfold x; clear x); (clear_value x; intro hx)])
    | (intro x; clear_value x)
    | with_reducible refine (State.drawFree_in ..).thn (by decide) ?_
    | split
    | dsimp only

theorem State.endExec_in (s : State) (n : Nat) : Within [.regs, .grid, .eng, .adc, .pwm, .ctr, .twn, .snd] s (State.endExec s n) := by
  unfold State.endExec
  repeat' first
    | with_reducible exact Within.refl ..
    | with_reducible assumption
    | lift_lets
    | (intro x; refine Within.known (ps := [.regs, .grid, .eng, .adc, .pwm, .ctr, .twn, .snd]) (s := s) (x := x) ?_ ?_ <;> [(unfold x; clear x); (clear_value x; intro hx)])
    | (intro x; refine Within.known (ps := [.regs, .grid, .eng, .adc, .pwm, .ctr, .twn, .snd]) (s := s) (x := x.2) ?_ ?_ <;> [(unfold x; clear x); (clear_value x; intro hx)])
    | (intro x; clear_value x)
    | with_reducible refine (State.missExec_in ..).thn (by decide) ?_
    | with_reducible refine (State.setCtx_in ..).thn (by decide) ?_
    | with_reducible refine (State.setFld_in ..).thn (by decide) ?_
    | with_reducible refine (State.lastLen_in ..).thn (by decide) ?_
    | with_reducible refine (State.taps_in ..).thn (by decide) ?_
    | with_reducible refine (State.release_in ..).thn (by decide) ?_
    | split
    | dsimp only

theorem State.poisonEnd_in (s : State) (n : Nat) : Within [.regs, .grid, .eng, .adc, .pwm, .ctr, .twn, .snd] s (State.poisonEnd s n) := by
  unfold State.poisonEnd
  repeat' first
    | with_reducible exact Within.refl ..
    | with_reducible assumption
    | lift_lets
    | (intro x; refine Within.known (ps := [.regs, .grid, .eng, .adc, .pwm, .ctr, .twn, .snd]) (s := s) (x := x) ?_ ?_ <;> [(unfold x; clear x); (clear_value x; intro hx)])
    | (intro x; clear_value x)
    | with_reducible refine (State.output_in ..).thn (by decide) ?_
    | with_reducible refine (State.release_in ..).thn (by decide) ?_
    | with_reducible refine Within.foldl (fun _ _ _ => ?_) ?_
    | with_reducible refine Within.foldl1 (fun _ _ _ => ?_) ?_
    | with_reducible refine Within.foldl2 (fun _ _ _ => ?_) ?_
    | split
    | dsimp only

theorem State.fetchFaultEnd_in (s : State) (n : Nat) : Within [.regs, .grid, .eng, .adc, .pwm, .ctr, .twn, .snd] s (State.fetchFaultEnd s n) := by
  unfold State.fetchFaultEnd
  repeat' first
    | with_reducible exact Within.refl ..
    | with_reducible assumption
    | with_reducible refine (State.raise_in ..).thn (by decide) ?_
    | with_reducible refine (State.missExec_in ..).thn (by decide) ?_
    | with_reducible refine (State.release_in ..).thn (by decide) ?_
    | split
    | dsimp only

theorem State.issueOp_in {ps : List Part} {s0 s : State} {c code : Nat} {body : Nat → OpWord → State → State}
    (hs : ∀ q ∈ [Part.regs, Part.grid, Part.eng, Part.adc, Part.pwm, Part.ctr, Part.twn, Part.snd], q ∈ ps) (hb : ∀ n o u, Within ps s0 u → Within ps s0 (body n o u)) (h : Within ps s0 s) :
    Within ps s0 (s.issueOp c code body) := by
  unfold State.issueOp
  split
  · exact h
  · dsimp only
    split
    · exact ((State.poisonEnd_in ..).mono (by decide) |>.thn hs) (((State.eccRead_in ..).mono (by decide) |>.thn hs) h)
    · split
      · exact h
      · exact hb _ _ _ ((((State.advance_in ..).mono (by decide) |>.thn hs)) (((State.eccRead_in ..).mono (by decide) |>.thn hs) h))

end Sys2Proof.Machine
end

