-- ==== Sys2Proof/Laws/InMemOps.lean ====
section
/-!
SUPPORT. What each operation of Machine/MemOps.lean can change: one lemma per operation.
-/

set_option linter.unusedTactic false
set_option linter.unreachableTactic false

namespace Sys2Proof.Machine

theorem State.writeBytes_in (s : State) (n a : Nat) (bytes : List Nat) (bad : List Bool) :
    Within [.regs, .mem] s (s.writeBytes n a bytes bad).1 := by
  induction n generalizing s a bytes bad with
  | zero => exact Within.refl ..
  | succ n ih =>
    unfold State.writeBytes
    split
    · exact Within.refl ..
    · dsimp only
      split
      · exact (s.plFull_in).mono (by decide)
      · exact (ih ..).thn (by decide) (State.writeBlock_in _ _ _ _ (by assumption))

end Sys2Proof.Machine
end

