-- ==== Sys2Proof/Laws/InDmaOps.lean ====
section
/-!
SUPPORT. What each operation of Machine/DmaOps.lean can change: one lemma per operation.
-/

set_option linter.unusedTactic false
set_option linter.unreachableTactic false

namespace Sys2Proof.Machine

theorem State.setDch_in (s : State) (c : Nat) (r : DmaCh) : Within [.mem] s (State.setDch s c r) := by
  unfold State.setDch
  repeat' first
    | with_reducible exact Within.refl ..
    | with_reducible assumption
    | lift_lets
    | (intro x; refine Within.known (ps := [.mem]) (s := s) (x := x) ?_ ?_ <;> [(unfold x; clear x); (clear_value x; intro hx)])
    | (intro x; unfold x; clear x; try beta_reduce)
    | (intro x; clear_value x)
    | fail_if_no_progress with_reducible refine Within.upd_mem ?_ (by decide) ⟨rfl, rfl⟩
    | split
    | dsimp only

theorem State.noteTracker_in (s : State) : Within [.regs] s (State.noteTracker s) := by
  unfold State.noteTracker
  repeat' first
    | with_reducible exact Within.refl ..
    | with_reducible assumption
    | with_reducible refine (State.setFld_in ..).thn (by decide) ?_
    | split
    | dsimp only

theorem State.setReqQueue_in (s : State) (cls : Nat) (l : List Nat) : Within [.mem] s (State.setReqQueue s cls l) := by
  unfold State.setReqQueue
  repeat' first
    | with_reducible exact Within.refl ..
    | with_reducible assumption
    | lift_lets
    | (intro x; refine Within.known (ps := [.mem]) (s := s) (x := x) ?_ ?_ <;> [(unfold x; clear x); (clear_value x; intro hx)])
    | (intro x; unfold x; clear x; try beta_reduce)
    | (intro x; clear_value x)
    | fail_if_no_progress with_reducible refine Within.upd_mem ?_ (by decide) ⟨rfl, rfl⟩
    | split
    | dsimp only

theorem State.joinQueue_in (s : State) (cls : Nat) (r : Nat) : Within [.mem] s (State.joinQueue s cls r) := by
  unfold State.joinQueue
  repeat' first
    | with_reducible exact Within.refl ..
    | with_reducible assumption
    | lift_lets
    | (intro x; refine Within.known (ps := [.mem]) (s := s) (x := x) ?_ ?_ <;> [(unfold x; clear x); (clear_value x; intro hx)])
    | (intro x; clear_value x)
    | with_reducible refine (State.setReqQueue_in ..).thn (by decide) ?_
    | split
    | dsimp only

theorem State.leaveQueue_in (s : State) (cls : Nat) (r : Nat) : Within [.mem] s (State.leaveQueue s cls r) := by
  unfold State.leaveQueue
  repeat' first
    | with_reducible exact Within.refl ..
    | with_reducible assumption
    | with_reducible refine (State.setReqQueue_in ..).thn (by decide) ?_
    | split
    | dsimp only

theorem State.coreStall_in (s : State) : Within [.regs, .mem] s (State.coreStall s) := by
  unfold State.coreStall
  repeat' first
    | with_reducible exact Within.refl ..
    | with_reducible assumption
    | lift_lets
    | (intro x; refine Within.known (ps := [.regs, .mem]) (s := s) (x := x) ?_ ?_ <;> [(unfold x; clear x); (clear_value x; intro hx)])
    | (intro x; unfold x; clear x; try beta_reduce)
    | (intro x; clear_value x)
    | with_reducible refine (State.count_in ..).thn (by decide) ?_
    | fail_if_no_progress with_reducible refine Within.upd_mem ?_ (by decide) ⟨rfl, rfl⟩
    | split
    | dsimp only

theorem State.coreDone_in (s : State) : Within [.mem] s (State.coreDone s) := by
  unfold State.coreDone
  repeat' first
    | with_reducible exact Within.refl ..
    | with_reducible assumption
    | lift_lets
    | (intro x; refine Within.known (ps := [.mem]) (s := s) (x := x) ?_ ?_ <;> [(unfold x; clear x); (clear_value x; intro hx)])
    | (intro x; unfold x; clear x; try beta_reduce)
    | (intro x; clear_value x)
    | fail_if_no_progress with_reducible refine Within.upd_mem ?_ (by decide) ⟨rfl, rfl⟩
    | split
    | dsimp only

theorem State.dropRec_in (s : State) (c : Nat) (src : Nat) : Within [.regs, .eng, .adc, .ctr] s (State.dropRec s c src) := by
  unfold State.dropRec
  repeat' first
    | with_reducible exact Within.refl ..
    | with_reducible assumption
    | lift_lets
    | (intro x; refine Within.known (ps := [.regs, .eng, .adc, .ctr]) (s := s) (x := x) ?_ ?_ <;> [(unfold x; clear x); (clear_value x; intro hx)])
    | (intro x; clear_value x)
    | with_reducible refine (State.stamp_in ..).thn (by decide) ?_
    | with_reducible refine (State.setRecQ_in ..).thn (by decide) ?_
    | fail_if_no_progress with_reducible refine Within.upd_adc ?_ (by decide)
    | fail_if_no_progress with_reducible refine Within.upd_eng ?_ (by decide)
    | split
    | dsimp only

theorem State.dropRecs_in (s : State) (c : Nat) (srcs : List Nat) : Within [.regs, .eng, .adc, .ctr] s (State.dropRecs s c srcs) := by
  unfold State.dropRecs
  repeat' first
    | with_reducible exact Within.refl ..
    | with_reducible assumption
    | with_reducible refine (State.dropRec_in ..).thn (by decide) ?_
    | with_reducible refine Within.foldl (fun _ _ _ => ?_) ?_
    | with_reducible refine Within.foldl1 (fun _ _ _ => ?_) ?_
    | with_reducible refine Within.foldl2 (fun _ _ _ => ?_) ?_
    | split
    | dsimp only

theorem State.streamWritten_in (s : State) (c : Nat) : Within [.regs, .mem] s (State.streamWritten s c) := by
  unfold State.streamWritten
  repeat' first
    | with_reducible exact Within.refl ..
    | with_reducible assumption
    | lift_lets
    | (intro x; refine Within.known (ps := [.regs, .mem]) (s := s) (x := x) ?_ ?_ <;> [(unfold x; clear x); (clear_value x; intro hx)])
    | (intro x; clear_value x)
    | with_reducible refine (State.setDch_in ..).thn (by decide) ?_
    | with_reducible refine (State.setFld_in ..).thn (by decide) ?_
    | with_reducible refine (State.raise_in ..).thn (by decide) ?_
    | with_reducible refine (State.count_in ..).thn (by decide) ?_
    | split
    | dsimp only

theorem State.faultWaiting_in (s : State) (n : Nat) : Within [.regs, .grid, .eng, .adc, .pwm, .ctr, .twn, .snd] s (State.faultWaiting s n) := by
  unfold State.faultWaiting
  repeat' first
    | with_reducible exact Within.refl ..
    | with_reducible assumption
    | lift_lets
    | (intro x; refine Within.known (ps := [.regs, .grid, .eng, .adc, .pwm, .ctr, .twn, .snd]) (s := s) (x := x) ?_ ?_ <;> [(unfold x; clear x); (clear_value x; intro hx)])
    | (intro x; clear_value x)
    | with_reducible refine (State.raise_in ..).thn (by decide) ?_
    | with_reducible refine (State.missExec_in ..).thn (by decide) ?_
    | with_reducible refine (State.setCtx_in ..).thn (by decide) ?_
    | split
    | dsimp only

theorem State.faultJob_in (s : State) (j : FetchJob) : Within [.regs, .grid, .eng, .adc, .pwm, .ctr, .twn, .snd] s (State.faultJob s j) := by
  unfold State.faultJob
  repeat' first
    | with_reducible exact Within.refl ..
    | with_reducible assumption
    | lift_lets
    | (intro x; refine Within.known (ps := [.regs, .grid, .eng, .adc, .pwm, .ctr, .twn, .snd]) (s := s) (x := x) ?_ ?_ <;> [(unfold x; clear x); (clear_value x; intro hx)])
    | (intro x; clear_value x)
    | with_reducible refine (State.faultWaiting_in ..).thn (by decide) ?_
    | with_reducible refine (State.setCtx_in ..).thn (by decide) ?_
    | split
    | dsimp only

theorem State.dmaFault_in (s : State) (c : Nat) (cause : Nat) (vaddr : Nat) (beat : Nat) : Within [.regs, .grid, .eng, .adc, .pwm, .ctr, .mem, .twn, .snd] s (State.dmaFault s c cause vaddr beat) := by
  unfold State.dmaFault
  repeat' first
    | with_reducible exact Within.refl ..
    | with_reducible assumption
    | lift_lets
    | (intro x; refine Within.known (ps := [.regs, .grid, .eng, .adc, .pwm, .ctr, .mem, .twn, .snd]) (s := s) (x := x) ?_ ?_ <;> [(unfold x; clear x); (clear_value x; intro hx)])
    | (intro x; clear_value x)
    | with_reducible refine (State.setDch_in ..).thn (by decide) ?_
    | with_reducible refine (State.leaveQueue_in ..).thn (by decide) ?_
    | with_reducible refine (State.setFld_in ..).thn (by decide) ?_
    | with_reducible refine (State.stamp_in ..).thn (by decide) ?_
    | with_reducible refine (State.raiseBit_in ..).thn (by decide) ?_
    | with_reducible refine (State.count_in ..).thn (by decide) ?_
    | with_reducible refine (State.noteTracker_in ..).thn (by decide) ?_
    | with_reducible refine (State.faultJob_in ..).thn (by decide) ?_
    | with_reducible refine Within.foldl (fun _ _ _ => ?_) ?_
    | with_reducible refine Within.foldl1 (fun _ _ _ => ?_) ?_
    | with_reducible refine Within.foldl2 (fun _ _ _ => ?_) ?_
    | split
    | dsimp only

theorem State.askFault_in (s : State) (c : Nat) (q : Ask) (cause : Nat) (vaddr : Nat) (beat : Nat) : Within [.regs, .grid, .eng, .adc, .pwm, .ctr, .mem, .twn, .snd] s (State.askFault s c q cause vaddr beat) := by
  unfold State.askFault
  repeat' first
    | with_reducible exact Within.refl ..
    | with_reducible assumption
    | with_reducible refine (State.dropRecs_in ..).thn (by decide) ?_
    | with_reducible refine (State.streamWritten_in ..).thn (by decide) ?_
    | with_reducible refine (State.dmaFault_in ..).thn (by decide) ?_
    | split
    | dsimp only

theorem State.landWords_in (s : State) (j : FetchJob) (i : Nat) (l : List Nat) (b : List Bool) :
    Within [.eng] s (s.landWords j i l b) := by
  fun_induction State.landWords s j i l b with
  | case1 => rename_i ih; exact ih.thn (by decide) (State.setSt_in ..)
  | case2 => exact Within.refl ..

theorem State.landCopy_in (s : State) (c : Nat) (k : CopyRun) (a : Nat) (n : Nat) : Within [.regs, .mem] s (State.landCopy s c k a n).1 := by
  unfold State.landCopy
  repeat' first
    | with_reducible exact Within.refl ..
    | with_reducible assumption
    | lift_lets
    | (intro x; refine Within.known (ps := [.regs, .mem]) (s := s) (x := x) ?_ ?_ <;> [(unfold x; clear x); (clear_value x; intro hx)])
    | (intro x; refine Within.known (ps := [.regs, .mem]) (s := s) (x := x.1) ?_ ?_ <;> [(unfold x; clear x); (clear_value x; intro hx)])
    | (intro x; clear_value x)
    | with_reducible refine (State.writeBytes_in ..).thn (by decide) ?_
    | with_reducible refine (State.setDch_in ..).thn (by decide) ?_
    | split
    | dsimp only

theorem State.landBeats_in (s : State) (c : Nat) (q : Ask) (bs : List (Nat × Nat)) : Within [.regs, .eng, .mem] s (State.landBeats s c q bs).1 := by
  unfold State.landBeats
  repeat' first
    | with_reducible exact Within.refl ..
    | with_reducible assumption
    | lift_lets
    | (intro x; refine Within.known (ps := [.regs, .eng, .mem]) (s := s) (x := x) ?_ ?_ <;> [(unfold x; clear x); (clear_value x; intro hx)])
    | (intro x; refine Within.known (ps := [.regs, .eng, .mem]) (s := s) (x := x.1) ?_ ?_ <;> [(unfold x; clear x); (clear_value x; intro hx)])
    | (intro x; clear_value x)
    | with_reducible refine (State.readBeats_in ..).thn (by decide) ?_
    | with_reducible refine (State.landWords_in ..).thn (by decide) ?_
    | with_reducible refine (State.setDch_in ..).thn (by decide) ?_
    | with_reducible refine (State.landCopy_in ..).thn (by decide) ?_
    | with_reducible refine (State.writeBytes_in ..).thn (by decide) ?_
    | split
    | dsimp only

theorem State.flushCopy_in (s : State) (c : Nat) : Within [.regs, .mem] s (State.flushCopy s c) := by
  unfold State.flushCopy
  repeat' first
    | with_reducible exact Within.refl ..
    | with_reducible assumption
    | lift_lets
    | (intro x; refine Within.known (ps := [.regs, .mem]) (s := s) (x := x) ?_ ?_ <;> [(unfold x; clear x); (clear_value x; intro hx)])
    | (intro x; refine Within.known (ps := [.regs, .mem]) (s := s) (x := x.1) ?_ ?_ <;> [(unfold x; clear x); (clear_value x; intro hx)])
    | (intro x; clear_value x)
    | with_reducible refine (State.landCopy_in ..).thn (by decide) ?_
    | split
    | dsimp only

theorem State.accept_in (s : State) (c : Nat) (q : Ask) (n : Nat) : Within [.regs, .grid, .eng, .adc, .pwm, .ctr, .mem, .twn, .snd] s (State.accept s c q n) := by
  unfold State.accept
  repeat' first
    | with_reducible exact Within.refl ..
    | with_reducible assumption
    | lift_lets
    | (intro x; refine Within.known (ps := [.regs, .grid, .eng, .adc, .pwm, .ctr, .mem, .twn, .snd]) (s := s) (x := x) ?_ ?_ <;> [(unfold x; clear x); (clear_value x; intro hx)])
    | (intro x; refine Within.known (ps := [.regs, .grid, .eng, .adc, .pwm, .ctr, .mem, .twn, .snd]) (s := s) (x := x.1) ?_ ?_ <;> [(unfold x; clear x); (clear_value x; intro hx)])
    | (intro x; clear_value x)
    | with_reducible refine (State.setDch_in ..).thn (by decide) ?_
    | with_reducible refine (State.leaveQueue_in ..).thn (by decide) ?_
    | with_reducible refine (State.dmaFault_in ..).thn (by decide) ?_
    | with_reducible refine (State.landBeats_in ..).thn (by decide) ?_
    | with_reducible refine (State.flushCopy_in ..).thn (by decide) ?_
    | with_reducible refine (State.askFault_in ..).thn (by decide) ?_
    | with_reducible refine (State.noteTracker_in ..).thn (by decide) ?_
    | split
    | dsimp only

theorem State.countStall_in (s : State) (cls : Nat) : Within [.regs] s (State.countStall s cls) := by
  unfold State.countStall
  repeat' first
    | with_reducible exact Within.refl ..
    | with_reducible assumption
    | lift_lets
    | (intro x; refine Within.known (ps := [.regs]) (s := s) (x := x) ?_ ?_ <;> [(unfold x; clear x); (clear_value x; intro hx)])
    | (intro x; clear_value x)
    | with_reducible refine (State.count_in ..).thn (by decide) ?_
    | split
    | dsimp only

theorem State.stallCh_in (s : State) (c : Nat) : Within [.regs, .mem] s (State.stallCh s c) := by
  unfold State.stallCh
  repeat' first
    | with_reducible exact Within.refl ..
    | with_reducible assumption
    | lift_lets
    | (intro x; refine Within.known (ps := [.regs, .mem]) (s := s) (x := x) ?_ ?_ <;> [(unfold x; clear x); (clear_value x; intro hx)])
    | (intro x; clear_value x)
    | with_reducible refine (State.setDch_in ..).thn (by decide) ?_
    | with_reducible refine (State.countStall_in ..).thn (by decide) ?_
    | split
    | dsimp only

theorem State.fill_in (s : State) (r : Nat) : Within [.mem] s (State.fill s r) := by
  unfold State.fill
  repeat' first
    | with_reducible exact Within.refl ..
    | with_reducible assumption
    | lift_lets
    | (intro x; refine Within.known (ps := [.mem]) (s := s) (x := x) ?_ ?_ <;> [(unfold x; clear x); (clear_value x; intro hx)])
    | (intro x; clear_value x)
    | with_reducible refine (State.setDch_in ..).thn (by decide) ?_
    | with_reducible refine (State.leaveQueue_in ..).thn (by decide) ?_
    | split
    | dsimp only

theorem State.acceptCh_in (s : State) (c : Nat) : Within [.regs, .grid, .eng, .adc, .pwm, .ctr, .mem, .twn, .snd] s (State.acceptCh s c) := by
  unfold State.acceptCh
  repeat' first
    | with_reducible exact Within.refl ..
    | with_reducible assumption
    | lift_lets
    | (intro x; refine Within.known (ps := [.regs, .grid, .eng, .adc, .pwm, .ctr, .mem, .twn, .snd]) (s := s) (x := x) ?_ ?_ <;> [(unfold x; clear x); (clear_value x; intro hx)])
    | (intro x; clear_value x)
    | with_reducible refine (State.fill_in ..).thn (by decide) ?_
    | with_reducible refine (State.noteTracker_in ..).thn (by decide) ?_
    | with_reducible refine (State.dmaFault_in ..).thn (by decide) ?_
    | with_reducible refine (State.joinQueue_in ..).thn (by decide) ?_
    | with_reducible refine (State.stallCh_in ..).thn (by decide) ?_
    | with_reducible refine (State.accept_in ..).thn (by decide) ?_
    | split
    | dsimp only

theorem State.fillHeads_in (s : State) : Within [.mem] s (State.fillHeads s) := by
  unfold State.fillHeads
  repeat' first
    | with_reducible exact Within.refl ..
    | with_reducible assumption
    | lift_lets
    | (intro x; refine Within.known (ps := [.mem]) (s := s) (x := x) ?_ ?_ <;> [(unfold x; clear x); (clear_value x; intro hx)])
    | (intro x; clear_value x)
    | with_reducible refine (State.fill_in ..).thn (by decide) ?_
    | with_reducible refine Within.forIdx (fun _ _ _ => ?_) ?_
    | split
    | dsimp only

theorem State.serveOne_in (s : State) (cls : Nat) (r : Nat) : Within [.mem] s (State.serveOne s cls r) := by
  unfold State.serveOne
  repeat' first
    | with_reducible exact Within.refl ..
    | with_reducible assumption
    | lift_lets
    | (intro x; refine Within.known (ps := [.mem]) (s := s) (x := x) ?_ ?_ <;> [(unfold x; clear x); (clear_value x; intro hx)])
    | (intro x; unfold x; clear x; try beta_reduce)
    | (intro x; clear_value x)
    | with_reducible refine (State.setDch_in ..).thn (by decide) ?_
    | with_reducible refine (State.fillHeads_in ..).thn (by decide) ?_
    | fail_if_no_progress with_reducible refine Within.upd_mem ?_ (by decide) ⟨rfl, rfl⟩
    | split
    | dsimp only

/-- Command slots change the tracker alone. -/
theorem State.serveTo_in (s : State) (r n : Nat) {t : State} (ht : s.serveTo r n = some t) : Within [.mem] s t := by
  induction n generalizing s with
  | zero => cases ht
  | succ n ih =>
    unfold State.serveTo at ht
    split at ht
    · cases ht
    · dsimp only at ht
      split at ht
      · split at ht
        · injection ht with ht
          subst ht
          exact State.serveOne_in ..
        · cases ht
      · exact (ih _ ht).thn (by decide) (State.serveOne_in ..)

theorem State.landOrphan_in (s : State) (c : Nat) (f : Flight) : Within [.regs, .eng, .adc, .ctr, .mem] s (State.landOrphan s c f) := by
  unfold State.landOrphan
  repeat' first
    | with_reducible exact Within.refl ..
    | with_reducible assumption
    | lift_lets
    | (intro x; refine Within.known (ps := [.regs, .eng, .adc, .ctr, .mem]) (s := s) (x := x) ?_ ?_ <;> [(unfold x; clear x); (clear_value x; intro hx)])
    | (intro x; refine Within.known (ps := [.regs, .eng, .adc, .ctr, .mem]) (s := s) (x := x.1) ?_ ?_ <;> [(unfold x; clear x); (clear_value x; intro hx)])
    | (intro x; clear_value x)
    | with_reducible refine (State.readBeats_in ..).thn (by decide) ?_
    | with_reducible refine (State.landWords_in ..).thn (by decide) ?_
    | with_reducible refine (State.setDch_in ..).thn (by decide) ?_
    | with_reducible refine (State.writeBytes_in ..).thn (by decide) ?_
    | with_reducible refine (State.dropRecs_in ..).thn (by decide) ?_
    | split
    | dsimp only

theorem State.loseCompletion_in (s : State) (c : Nat) (f : Flight) : Within [.regs, .grid, .eng, .adc, .pwm, .ctr, .mem, .twn, .snd] s (State.loseCompletion s c f) := by
  unfold State.loseCompletion
  repeat' first
    | with_reducible exact Within.refl ..
    | with_reducible assumption
    | lift_lets
    | (intro x; refine Within.known (ps := [.regs, .grid, .eng, .adc, .pwm, .ctr, .mem, .twn, .snd]) (s := s) (x := x) ?_ ?_ <;> [(unfold x; clear x); (clear_value x; intro hx)])
    | (intro x; refine Within.known (ps := [.regs, .grid, .eng, .adc, .pwm, .ctr, .mem, .twn, .snd]) (s := s) (x := x.1) ?_ ?_ <;> [(unfold x; clear x); (clear_value x; intro hx)])
    | (intro x; clear_value x)
    | with_reducible refine (State.writeBytes_in ..).thn (by decide) ?_
    | with_reducible refine (State.dmaFault_in ..).thn (by decide) ?_
    | split
    | dsimp only

theorem State.completeCh_in (s0 : State) (c : Nat) : Within [.regs, .grid, .eng, .adc, .pwm, .ctr, .mem, .twn, .snd] s0 (State.completeCh s0 c) := by
  unfold State.completeCh
  split
  · rename_i s f hs hf
    have h : Within [.regs, .grid, .eng, .adc, .pwm, .ctr, .mem, .twn, .snd] s0 s := (State.serveTo_in _ _ _ hs).mono (by decide)
    clear hs hf
    dsimp only
    split
    · exact Within.refl ..
    · split
      · split
        · exact (State.noteTracker_in ..).thn (by decide) ((State.setDch_in ..).thn (by decide) h)
        · exact (State.loseCompletion_in ..).thn (by decide) h
      · split
        · exact Within.refl ..
        · split
          · exact (State.noteTracker_in ..).thn (by decide) ((State.landOrphan_in ..).thn (by decide) ((State.setDch_in ..).thn (by decide) h))
          · generalize hx : State.landBeats _ _ _ _ = x
            have h0 : Within [.regs, .grid, .eng, .adc, .pwm, .ctr, .mem, .twn, .snd] s0 x.1 := hx ▸ (State.landBeats_in ..).thn (by decide) ((State.setDch_in ..).thn (by decide) h)
            clear hx h
            refine Within.ite (Within.ite ?_ ?_) ?_
            · exact (State.noteTracker_in ..).thn (by decide) ((State.dropRecs_in ..).thn (by decide) h0)
            · exact (State.noteTracker_in ..).thn (by decide) h0
            · exact (State.askFault_in ..).thn (by decide) h0
  · exact Within.refl ..

end Sys2Proof.Machine
end

