-- ==== Sys2Proof/Laws/InSecOps.lean ====
section
/-!
SUPPORT. What each operation of Machine/SecOps.lean can change: one lemma per operation.
-/

set_option linter.unusedTactic false
set_option linter.unreachableTactic false

namespace Sys2Proof.Machine

theorem State.readMem_in (s : State) (a : Nat) (n : Nat) : Within [.regs, .mem] s (State.readMem s a n).1 := by
  unfold State.readMem
  repeat' first
    | with_reducible exact Within.refl ..
    | with_reducible assumption
    | lift_lets
    | (intro x; refine Within.known (ps := [.regs, .mem]) (s := s) (x := x) ?_ ?_ <;> [(unfold x; clear x); (clear_value x; intro hx)])
    | (intro x; refine Within.known (ps := [.regs, .mem]) (s := s) (x := x.1) ?_ ?_ <;> [(unfold x; clear x); (clear_value x; intro hx)])
    | (intro x; clear_value x)
    | with_reducible refine (State.readBeats_in ..).thn (by decide) ?_
    | split
    | dsimp only

theorem State.setSec_in (s : State) (r : SecRun) : Within [.sec] s (State.setSec s r) := by
  unfold State.setSec
  repeat' first
    | with_reducible exact Within.refl ..
    | with_reducible assumption
    | lift_lets
    | (intro x; refine Within.known (ps := [.sec]) (s := s) (x := x) ?_ ?_ <;> [(unfold x; clear x); (clear_value x; intro hx)])
    | (intro x; clear_value x)
    | fail_if_no_progress with_reducible refine Within.upd_sec ?_ (by decide)
    | split
    | dsimp only

theorem State.logEntry_in (s : State) (kind : Nat) (input : Nat) (detail : Nat) : Within [.sec] s (State.logEntry s kind input detail) := by
  unfold State.logEntry
  repeat' first
    | with_reducible exact Within.refl ..
    | with_reducible assumption
    | lift_lets
    | (intro x; refine Within.known (ps := [.sec]) (s := s) (x := x) ?_ ?_ <;> [(unfold x; clear x); (clear_value x; intro hx)])
    | (intro x; clear_value x)
    | fail_if_no_progress with_reducible refine Within.upd_sec ?_ (by decide)
    | split
    | dsimp only

theorem State.askSeal_in (s : State) (c : Nat) : Within [.sec] s (State.askSeal s c) := by
  unfold State.askSeal
  repeat' first
    | with_reducible exact Within.refl ..
    | with_reducible assumption
    | lift_lets
    | (intro x; refine Within.known (ps := [.sec]) (s := s) (x := x) ?_ ?_ <;> [(unfold x; clear x); (clear_value x; intro hx)])
    | (intro x; clear_value x)
    | fail_if_no_progress with_reducible refine Within.upd_sec ?_ (by decide)
    | split
    | dsimp only

theorem State.setTally_in (s : State) (g : Nat) (r : TallyRec) : Within [.sec] s (State.setTally s g r) := by
  unfold State.setTally
  repeat' first
    | with_reducible exact Within.refl ..
    | with_reducible assumption
    | lift_lets
    | (intro x; refine Within.known (ps := [.sec]) (s := s) (x := x) ?_ ?_ <;> [(unfold x; clear x); (clear_value x; intro hx)])
    | (intro x; clear_value x)
    | fail_if_no_progress with_reducible refine Within.upd_sec ?_ (by decide)
    | split
    | dsimp only

theorem State.seal_in (s : State) (cause : Nat) : Within [.regs, .mem, .sec] s (State.seal s cause) := by
  unfold State.seal
  repeat' first
    | with_reducible exact Within.refl ..
    | with_reducible assumption
    | lift_lets
    | (intro x; refine Within.known (ps := [.regs, .mem, .sec]) (s := s) (x := x) ?_ ?_ <;> [(unfold x; clear x); (clear_value x; intro hx)])
    | (intro x; refine Within.known (ps := [.regs, .mem, .sec]) (s := s) (x := x.1) ?_ ?_ <;> [(unfold x; clear x); (clear_value x; intro hx)])
    | (intro x; clear_value x)
    | with_reducible refine (State.coreDone_in ..).thn (by decide) ?_
    | with_reducible refine (State.writeBytes_in ..).thn (by decide) ?_
    | with_reducible refine (State.setSec_in ..).thn (by decide) ?_
    | with_reducible refine (State.stamp_in ..).thn (by decide) ?_
    | with_reducible refine (State.raise_in ..).thn (by decide) ?_
    | split
    | dsimp only

theorem State.sealOp_in (s : State) (cause : Nat) : Within [.regs, .mem, .sec] s (State.sealOp s cause) := by
  unfold State.sealOp
  repeat' first
    | with_reducible exact Within.refl ..
    | with_reducible assumption
    | with_reducible refine (State.seal_in ..).thn (by decide) ?_
    | with_reducible refine (State.setFld_in ..).thn (by decide) ?_
    | with_reducible refine (State.coreStall_in ..).thn (by decide) ?_
    | split
    | dsimp only

theorem State.calChange_in (s : State) (g : Nat) : Within [.regs, .sec] s (State.calChange s g) := by
  unfold State.calChange
  repeat' first
    | with_reducible exact Within.refl ..
    | with_reducible assumption
    | lift_lets
    | (intro x; refine Within.known (ps := [.regs, .sec]) (s := s) (x := x) ?_ ?_ <;> [(unfold x; clear x); (clear_value x; intro hx)])
    | (intro x; clear_value x)
    | with_reducible refine (State.setTally_in ..).thn (by decide) ?_
    | with_reducible refine (State.logEntry_in ..).thn (by decide) ?_
    | with_reducible refine (State.raise_in ..).thn (by decide) ?_
    | with_reducible refine (State.askSeal_in ..).thn (by decide) ?_
    | split
    | dsimp only

end Sys2Proof.Machine
end

