-- ==== Sys2Proof/Laws/InImageParse.lean ====
section
/-!
SUPPORT. What each operation of Machine/ImageParse.lean can change: one lemma per operation.
-/

set_option linter.unusedTactic false
set_option linter.unreachableTactic false

namespace Sys2Proof.Machine

theorem State.checkImage_in (s : State) (a : Nat) : Within [.regs, .mem] s (State.checkImage s a).1 := by
  unfold State.checkImage
  repeat' first
    | with_reducible exact Within.refl ..
    | with_reducible assumption
    | lift_lets
    | (intro x; refine Within.known (ps := [.regs, .mem]) (s := s) (x := x) ?_ ?_ <;> [(unfold x; clear x); (clear_value x; intro hx)])
    | (intro x; refine Within.known (ps := [.regs, .mem]) (s := s) (x := x.1) ?_ ?_ <;> [(unfold x; clear x); (clear_value x; intro hx)])
    | (intro x; unfold x; clear x; try beta_reduce)
    | (intro x; clear_value x)
    | with_reducible refine (State.readMem_in ..).thn (by decide) ?_
    | split
    | dsimp only

end Sys2Proof.Machine
end

