-- ==== Sys2Proof/Laws/InAdcCore.lean ====
section
/-!
SUPPORT. What each operation of Machine/AdcCore.lean can change: one lemma per operation.
-/

set_option linter.unusedTactic false
set_option linter.unreachableTactic false

namespace Sys2Proof.Machine

theorem State.setConv_in (s : State) (c : Nat) (r : ConvRun) : Within [.adc] s (State.setConv s c r) := by
  unfold State.setConv
  repeat' first
    | with_reducible exact Within.refl ..
    | with_reducible assumption
    | lift_lets
    | (intro x; refine Within.known (ps := [.adc]) (s := s) (x := x) ?_ ?_ <;> [(unfold x; clear x); (clear_value x; intro hx)])
    | (intro x; clear_value x)
    | fail_if_no_progress with_reducible refine Within.upd_adc ?_ (by decide)
    | split
    | dsimp only

theorem State.tagSwitch_in (s : State) : Within [.regs, .adc] s (State.tagSwitch s) := by
  unfold State.tagSwitch
  repeat' first
    | with_reducible exact Within.refl ..
    | with_reducible assumption
    | lift_lets
    | (intro x; refine Within.known (ps := [.regs, .adc]) (s := s) (x := x) ?_ ?_ <;> [(unfold x; clear x); (clear_value x; intro hx)])
    | (intro x; clear_value x)
    | with_reducible refine (State.setConv_in ..).thn (by decide) ?_
    | with_reducible refine (State.raise_in ..).thn (by decide) ?_
    | with_reducible refine Within.forIdx (fun _ _ _ => ?_) ?_
    | split
    | dsimp only

theorem State.askAlt_in (s : State) : Within [.regs, .clk, .adc] s (State.askAlt s) := by
  unfold State.askAlt
  repeat' first
    | with_reducible exact Within.refl ..
    | with_reducible assumption
    | lift_lets
    | (intro x; refine Within.known (ps := [.regs, .clk, .adc]) (s := s) (x := x) ?_ ?_ <;> [(unfold x; clear x); (clear_value x; intro hx)])
    | (intro x; clear_value x)
    | with_reducible refine (State.tagSwitch_in ..).thn (by decide) ?_
    | fail_if_no_progress with_reducible refine Within.upd_clk ?_ (by decide)
    | split
    | dsimp only

end Sys2Proof.Machine
end

