-- ==== Sys2Proof/Laws/InClkOps.lean ====
section
/-!
SUPPORT. What each operation of Machine/ClkOps.lean can change: one lemma per operation.
-/

set_option linter.unusedTactic false
set_option linter.unreachableTactic false

namespace Sys2Proof.Machine

theorem State.setRatio_in (s : State) (p : Nat) (n : Nat) : Within [.regs] s (State.setRatio s p n) := by
  unfold State.setRatio
  repeat' first
    | with_reducible exact Within.refl ..
    | with_reducible assumption
    | with_reducible refine (State.setFld_in ..).thn (by decide) ?_
    | split
    | dsimp only

theorem State.setRatioC_in (s : State) (n : Nat) : Within [.regs, .eng, .clk] s (State.setRatioC s n) := by
  unfold State.setRatioC
  repeat' first
    | with_reducible exact Within.refl ..
    | with_reducible assumption
    | lift_lets
    | (intro x; refine Within.known (ps := [.regs, .eng, .clk]) (s := s) (x := x) ?_ ?_ <;> [(unfold x; clear x); (clear_value x; intro hx)])
    | (intro x; clear_value x)
    | with_reducible refine (State.setRatio_in ..).thn (by decide) ?_
    | with_reducible refine (State.setFld_in ..).thn (by decide) ?_
    | fail_if_no_progress with_reducible refine Within.upd_eng_clk ?_ (by decide) (by decide)
    | split
    | dsimp only

theorem State.startProfile_in (s : State) (t : Nat) : Within [.regs, .eng, .clk] s (State.startProfile s t) := by
  unfold State.startProfile
  repeat' first
    | with_reducible exact Within.refl ..
    | with_reducible assumption
    | lift_lets
    | (intro x; refine Within.known (ps := [.regs, .eng, .clk]) (s := s) (x := x) ?_ ?_ <;> [(unfold x; clear x); (clear_value x; intro hx)])
    | (intro x; clear_value x)
    | with_reducible refine (State.setFld_in ..).thn (by decide) ?_
    | with_reducible refine (State.setRatioC_in ..).thn (by decide) ?_
    | fail_if_no_progress with_reducible refine Within.upd_clk ?_ (by decide)
    | split
    | dsimp only

theorem State.holdC_in (s : State) : Within [.regs, .clk] s (State.holdC s) := by
  unfold State.holdC
  repeat' first
    | with_reducible exact Within.refl ..
    | with_reducible assumption
    | lift_lets
    | (intro x; refine Within.known (ps := [.regs, .clk]) (s := s) (x := x) ?_ ?_ <;> [(unfold x; clear x); (clear_value x; intro hx)])
    | (intro x; clear_value x)
    | with_reducible refine (State.setFld_in ..).thn (by decide) ?_
    | fail_if_no_progress with_reducible refine Within.upd_clk ?_ (by decide)
    | split
    | dsimp only

theorem State.startHop_in (s : State) (p : Nat) : Within [.regs, .clk] s (State.startHop s p) := by
  unfold State.startHop
  repeat' first
    | with_reducible exact Within.refl ..
    | with_reducible assumption
    | lift_lets
    | (intro x; refine Within.known (ps := [.regs, .clk]) (s := s) (x := x) ?_ ?_ <;> [(unfold x; clear x); (clear_value x; intro hx)])
    | (intro x; refine Within.known (ps := [.regs, .clk]) (s := s) (x := x.2) ?_ ?_ <;> [(unfold x; clear x); (clear_value x; intro hx)])
    | (intro x; clear_value x)
    | with_reducible refine (State.drawFree_in ..).thn (by decide) ?_
    | with_reducible refine (State.setFld_in ..).thn (by decide) ?_
    | fail_if_no_progress with_reducible refine Within.upd_clk ?_ (by decide)
    | split
    | dsimp only

theorem State.waitM_in (s : State) : Within [.regs, .clk] s (State.waitM s) := by
  unfold State.waitM
  repeat' first
    | with_reducible exact Within.refl ..
    | with_reducible assumption
    | lift_lets
    | (intro x; refine Within.known (ps := [.regs, .clk]) (s := s) (x := x) ?_ ?_ <;> [(unfold x; clear x); (clear_value x; intro hx)])
    | (intro x; clear_value x)
    | with_reducible refine (State.setFld_in ..).thn (by decide) ?_
    | fail_if_no_progress with_reducible refine Within.upd_clk ?_ (by decide)
    | split
    | dsimp only

theorem State.moveM_in (s : State) : Within [.regs, .clk] s (State.moveM s) := by
  unfold State.moveM
  repeat' first
    | with_reducible exact Within.refl ..
    | with_reducible assumption
    | lift_lets
    | (intro x; refine Within.known (ps := [.regs, .clk]) (s := s) (x := x) ?_ ?_ <;> [(unfold x; clear x); (clear_value x; intro hx)])
    | (intro x; clear_value x)
    | with_reducible refine (State.setFld_in ..).thn (by decide) ?_
    | with_reducible refine (State.startHop_in ..).thn (by decide) ?_
    | with_reducible refine (State.waitM_in ..).thn (by decide) ?_
    | with_reducible refine (State.setRatio_in ..).thn (by decide) ?_
    | split
    | dsimp only

theorem State.moveA_in (s : State) : Within [.regs, .clk, .adc] s (State.moveA s) := by
  unfold State.moveA
  repeat' first
    | with_reducible exact Within.refl ..
    | with_reducible assumption
    | lift_lets
    | (intro x; refine Within.known (ps := [.regs, .clk, .adc]) (s := s) (x := x) ?_ ?_ <;> [(unfold x; clear x); (clear_value x; intro hx)])
    | (intro x; clear_value x)
    | with_reducible refine (State.setFld_in ..).thn (by decide) ?_
    | with_reducible refine (State.startHop_in ..).thn (by decide) ?_
    | with_reducible refine (State.askAlt_in ..).thn (by decide) ?_
    | with_reducible refine (State.setRatio_in ..).thn (by decide) ?_
    | fail_if_no_progress with_reducible refine Within.upd_clk ?_ (by decide)
    | split
    | dsimp only

theorem State.hopAll_in (s : State) (src : Nat) : Within [.regs, .clk, .adc] s (State.hopAll s src) := by
  unfold State.hopAll
  repeat' first
    | with_reducible exact Within.refl ..
    | with_reducible assumption
    | lift_lets
    | (intro x; refine Within.known (ps := [.regs, .clk, .adc]) (s := s) (x := x) ?_ ?_ <;> [(unfold x; clear x); (clear_value x; intro hx)])
    | (intro x; clear_value x)
    | with_reducible refine (State.setFld_in ..).thn (by decide) ?_
    | with_reducible refine (State.holdC_in ..).thn (by decide) ?_
    | with_reducible refine (State.startHop_in ..).thn (by decide) ?_
    | with_reducible refine (State.moveA_in ..).thn (by decide) ?_
    | with_reducible refine (State.moveM_in ..).thn (by decide) ?_
    | fail_if_no_progress with_reducible refine Within.upd_clk ?_ (by decide)
    | split
    | dsimp only

theorem State.moveRef_in (s : State) : Within [.regs, .clk, .adc] s (State.moveRef s) := by
  unfold State.moveRef
  repeat' first
    | with_reducible exact Within.refl ..
    | with_reducible assumption
    | with_reducible refine (State.hopAll_in ..).thn (by decide) ?_
    | split
    | dsimp only

theorem State.loadSeed_in (s : State) (p : Nat) : Within [.clk] s (State.loadSeed s p) := by
  unfold State.loadSeed
  repeat' first
    | with_reducible exact Within.refl ..
    | with_reducible assumption
    | lift_lets
    | (intro x; refine Within.known (ps := [.clk]) (s := s) (x := x) ?_ ?_ <;> [(unfold x; clear x); (clear_value x; intro hx)])
    | (intro x; clear_value x)
    | fail_if_no_progress with_reducible refine Within.upd_clk ?_ (by decide)
    | split
    | dsimp only

end Sys2Proof.Machine
end

