-- ==== Sys2Proof/Laws/InLegChain.lean ====
section
/-!
SUPPORT. What each operation of Machine/LegChain.lean can change: one lemma per operation.
-/

set_option linter.unusedTactic false
set_option linter.unreachableTactic false

namespace Sys2Proof.Machine

theorem State.noteShort_in (s : State) (n : Nat) (k : Nat) : Within [.regs] s (State.noteShort s n k) := by
  unfold State.noteShort
  repeat' first
    | with_reducible exact Within.refl ..
    | with_reducible assumption
    | with_reducible refine (State.countN_in ..).thn (by decide) ?_
    | with_reducible refine (State.raise_in ..).thn (by decide) ?_
    | split
    | dsimp only

theorem State.noteClip_in (s : State) (n : Nat) (k : Nat) : Within [.regs] s (State.noteClip s n k) := by
  unfold State.noteClip
  repeat' first
    | with_reducible exact Within.refl ..
    | with_reducible assumption
    | with_reducible refine (State.raise_in ..).thn (by decide) ?_
    | split
    | dsimp only

theorem State.noteRefresh_in (s : State) (n : Nat) : Within [.regs] s (State.noteRefresh s n) := by
  unfold State.noteRefresh
  repeat' first
    | with_reducible exact Within.refl ..
    | with_reducible assumption
    | with_reducible refine (State.count_in ..).thn (by decide) ?_
    | with_reducible refine (State.raise_in ..).thn (by decide) ?_
    | split
    | dsimp only

theorem State.loadCompare_in (s : State) (n : Nat) (c : Carrier) (start : Bool) : Within [.regs, .pwm] s (State.loadCompare s n c start) := by
  unfold State.loadCompare
  repeat' first
    | with_reducible exact Within.refl ..
    | with_reducible assumption
    | lift_lets
    | (intro x; refine Within.known (ps := [.regs, .pwm]) (s := s) (x := x) ?_ ?_ <;> [(unfold x; clear x); (clear_value x; intro hx)])
    | (intro x; clear_value x)
    | with_reducible refine (State.setLeg_in ..).thn (by decide) ?_
    | with_reducible refine (State.setFld_in ..).thn (by decide) ?_
    | with_reducible refine (State.setSfld_in ..).thn (by decide) ?_
    | split
    | dsimp only

theorem State.runWindow_in (s : State) (n : Nat) (c : Carrier) (start : Bool) (pins : Bool) : Within [.regs, .pwm] s (State.runWindow s n c start pins) := by
  unfold State.runWindow
  extract_lets r u u32 v h swap kept adj full ra fa length hold segs p x0 es y x s1 refw due plain low lowAt till q fresh carry s2 shown refEnd
  have h1 : Within [.regs, .pwm] s s1 := (State.noteClip_in ..).thn (by decide) ((State.noteShort_in ..).mono (by decide))
  have h2 : Within [.regs, .pwm] s s2 := Within.ite ((State.noteRefresh_in ..).thn (by decide) h1) h1
  clear_value s1 s2 refEnd shown carry fresh
  split
  · exact (State.setLeg_in ..).thn (by decide) h1
  · exact (State.setSfld_in ..).thn (by decide) ((State.setLeg_in ..).thn (by decide) h2)

theorem State.countRefresh_in (s : State) (n : Nat) : Within [.pwm] s (State.countRefresh s n) := by
  unfold State.countRefresh
  repeat' first
    | with_reducible exact Within.refl ..
    | with_reducible assumption
    | lift_lets
    | (intro x; refine Within.known (ps := [.pwm]) (s := s) (x := x) ?_ ?_ <;> [(unfold x; clear x); (clear_value x; intro hx)])
    | (intro x; clear_value x)
    | with_reducible refine (State.setLeg_in ..).thn (by decide) ?_
    | split
    | dsimp only

theorem State.enterPrechg_in (s : State) (n : Nat) : Within [.regs, .pwm] s (State.enterPrechg s n) := by
  unfold State.enterPrechg
  repeat' first
    | with_reducible exact Within.refl ..
    | with_reducible assumption
    | lift_lets
    | (intro x; refine Within.known (ps := [.regs, .pwm]) (s := s) (x := x) ?_ ?_ <;> [(unfold x; clear x); (clear_value x; intro hx)])
    | (intro x; clear_value x)
    | with_reducible refine (State.setLeg_in ..).thn (by decide) ?_
    | with_reducible refine (State.setFld_in ..).thn (by decide) ?_
    | split
    | dsimp only

theorem State.firstWindow_in (s : State) (n : Nat) (c : Carrier) (start : Bool) (eff : Nat) (es : List Edge) : Within [.regs, .pwm] s (State.firstWindow s n c start eff es) := by
  unfold State.firstWindow
  repeat' first
    | with_reducible exact Within.refl ..
    | with_reducible assumption
    | lift_lets
    | (intro x; refine Within.known (ps := [.regs, .pwm]) (s := s) (x := x) ?_ ?_ <;> [(unfold x; clear x); (clear_value x; intro hx)])
    | (intro x; clear_value x)
    | with_reducible refine (State.setLeg_in ..).thn (by decide) ?_
    | with_reducible refine (State.setFld_in ..).thn (by decide) ?_
    | with_reducible refine (State.runWindow_in ..).thn (by decide) ?_
    | split
    | dsimp only

theorem State.enterActive_in (s : State) (n : Nat) (c : Carrier) (start : Bool) : Within [.regs, .pwm] s (State.enterActive s n c start) := by
  unfold State.enterActive
  repeat' first
    | with_reducible exact Within.refl ..
    | with_reducible assumption
    | lift_lets
    | (intro x; refine Within.known (ps := [.regs, .pwm]) (s := s) (x := x) ?_ ?_ <;> [(unfold x; clear x); (clear_value x; intro hx)])
    | (intro x; clear_value x)
    | with_reducible refine (State.firstWindow_in ..).thn (by decide) ?_
    | split
    | dsimp only

theorem State.legAt_in (s : State) (n : Nat) (c : Carrier) (start : Bool) : Within [.regs, .pwm] s (State.legAt s n c start) := by
  unfold State.legAt
  repeat' first
    | with_reducible exact Within.refl ..
    | with_reducible assumption
    | lift_lets
    | (intro x; refine Within.known (ps := [.regs, .pwm]) (s := s) (x := x) ?_ ?_ <;> [(unfold x; clear x); (clear_value x; intro hx)])
    | (intro x; clear_value x)
    | with_reducible refine (State.runWindow_in ..).thn (by decide) ?_
    | with_reducible refine (State.enterActive_in ..).thn (by decide) ?_
    | with_reducible refine (State.enterPrechg_in ..).thn (by decide) ?_
    | with_reducible refine (State.legOff_in ..).thn (by decide) ?_
    | with_reducible refine (State.countRefresh_in ..).thn (by decide) ?_
    | split
    | dsimp only

theorem State.runEdges_in (s : State) : Within [.pwm] s (State.runEdges s) := by
  unfold State.runEdges
  repeat' first
    | with_reducible exact Within.refl ..
    | with_reducible assumption
    | with_reducible refine (State.setLeg_in ..).thn (by decide) ?_
    | with_reducible refine Within.foldl (fun _ _ _ => ?_) ?_
    | with_reducible refine Within.foldl1 (fun _ _ _ => ?_) ?_
    | with_reducible refine Within.foldl2 (fun _ _ _ => ?_) ?_
    | split
    | dsimp only

end Sys2Proof.Machine
end

