-- ==== Sys2Proof/Laws/InTripOps.lean ====
section
/-!
SUPPORT. What each operation of Machine/TripOps.lean can change: one lemma per operation.
-/

set_option linter.unusedTactic false
set_option linter.unreachableTactic false

namespace Sys2Proof.Machine

theorem State.setForcedBit_in (s : State) (n : Nat) (b : Bool) : Within [.regs] s (State.setForcedBit s n b) := by
  unfold State.setForcedBit
  repeat' first
    | with_reducible exact Within.refl ..
    | with_reducible assumption
    | lift_lets
    | (intro x; refine Within.known (ps := [.regs]) (s := s) (x := x) ?_ ?_ <;> [(unfold x; clear x); (clear_value x; intro hx)])
    | (intro x; clear_value x)
    | with_reducible refine (State.setFld_in ..).thn (by decide) ?_
    | split
    | dsimp only

theorem State.forceLeg_in (s : State) (n : Nat) : Within [.regs, .pwm] s (State.forceLeg s n) := by
  unfold State.forceLeg
  repeat' first
    | with_reducible exact Within.refl ..
    | with_reducible assumption
    | lift_lets
    | (intro x; refine Within.known (ps := [.regs, .pwm]) (s := s) (x := x) ?_ ?_ <;> [(unfold x; clear x); (clear_value x; intro hx)])
    | (intro x; clear_value x)
    | with_reducible refine (State.setLeg_in ..).thn (by decide) ?_
    | with_reducible refine (State.setFld_in ..).thn (by decide) ?_
    | with_reducible refine (State.setForcedBit_in ..).thn (by decide) ?_
    | split
    | dsimp only

theorem State.unforceLeg_in (s : State) (n : Nat) : Within [.regs, .pwm] s (State.unforceLeg s n) := by
  unfold State.unforceLeg
  repeat' first
    | with_reducible exact Within.refl ..
    | with_reducible assumption
    | with_reducible refine (State.setFld_in ..).thn (by decide) ?_
    | with_reducible refine (State.legOff_in ..).thn (by decide) ?_
    | with_reducible refine (State.setForcedBit_in ..).thn (by decide) ?_
    | with_reducible refine (State.mark_in ..).thn (by decide) ?_
    | split
    | dsimp only

theorem State.settleForcing_in (s : State) : Within [.regs, .pwm] s (State.settleForcing s) := by
  unfold State.settleForcing
  repeat' first
    | with_reducible exact Within.refl ..
    | with_reducible assumption
    | lift_lets
    | (intro x; refine Within.known (ps := [.regs, .pwm]) (s := s) (x := x) ?_ ?_ <;> [(unfold x; clear x); (clear_value x; intro hx)])
    | (intro x; clear_value x)
    | with_reducible refine (State.forceLeg_in ..).thn (by decide) ?_
    | with_reducible refine (State.unforceLeg_in ..).thn (by decide) ?_
    | with_reducible refine Within.forIdx (fun _ _ _ => ?_) ?_
    | split
    | dsimp only

theorem State.setLatch'_in (s : State) (k : Nat) : Within [.regs, .pwm, .trp] s (State.setLatch' s k) := by
  unfold State.setLatch'
  repeat' first
    | with_reducible exact Within.refl ..
    | with_reducible assumption
    | lift_lets
    | (intro x; refine Within.known (ps := [.regs, .pwm, .trp]) (s := s) (x := x) ?_ ?_ <;> [(unfold x; clear x); (clear_value x; intro hx)])
    | (intro x; clear_value x)
    | with_reducible refine (State.mark_in ..).thn (by decide) ?_
    | with_reducible refine (State.settleForcing_in ..).thn (by decide) ?_
    | fail_if_no_progress with_reducible refine Within.upd_trp ?_ (by decide)
    | split
    | dsimp only

theorem State.noteCycle_in (s : State) : Within [.regs, .ctr] s (State.noteCycle s) := by
  unfold State.noteCycle
  repeat' first
    | with_reducible exact Within.refl ..
    | with_reducible assumption
    | with_reducible refine (State.raise_in ..).thn (by decide) ?_
    | with_reducible refine (State.count_in ..).thn (by decide) ?_
    | with_reducible refine (State.ctrEvent_in ..).thn (by decide) ?_
    | split
    | dsimp only

theorem State.noteTrip_in (s : State) (k : Nat) (first : Bool) : Within [.regs, .grid, .adc, .pwm, .ctr, .twn, .snd] s (State.noteTrip s k first) := by
  unfold State.noteTrip
  repeat' first
    | with_reducible exact Within.refl ..
    | with_reducible assumption
    | lift_lets
    | (intro x; refine Within.known (ps := [.regs, .grid, .adc, .pwm, .ctr, .twn, .snd]) (s := s) (x := x) ?_ ?_ <;> [(unfold x; clear x); (clear_value x; intro hx)])
    | (intro x; refine Within.known (ps := [.regs, .grid, .adc, .pwm, .ctr, .twn, .snd]) (s := s) (x := x.2) ?_ ?_ <;> [(unfold x; clear x); (clear_value x; intro hx)])
    | (intro x; clear_value x)
    | with_reducible refine (State.drawFree_in ..).thn (by decide) ?_
    | with_reducible refine (State.raise_in ..).thn (by decide) ?_
    | with_reducible refine (State.count_in ..).thn (by decide) ?_
    | with_reducible refine (State.setFld_in ..).thn (by decide) ?_
    | with_reducible refine (State.stamp_in ..).thn (by decide) ?_
    | with_reducible refine (State.faultAction_in ..).thn (by decide) ?_
    | with_reducible refine (State.ctrEvent_in ..).thn (by decide) ?_
    | with_reducible refine Within.forIdx (fun _ _ _ => ?_) ?_
    | split
    | dsimp only

theorem State.latchSource_in (s : State) (k : Nat) : Within [.regs, .grid, .adc, .pwm, .trp, .ctr, .twn, .snd] s (State.latchSource s k) := by
  unfold State.latchSource
  repeat' first
    | with_reducible exact Within.refl ..
    | with_reducible assumption
    | with_reducible refine (State.setLatch'_in ..).thn (by decide) ?_
    | with_reducible refine (State.raise_in ..).thn (by decide) ?_
    | with_reducible refine (State.noteCycle_in ..).thn (by decide) ?_
    | with_reducible refine (State.noteTrip_in ..).thn (by decide) ?_
    | split
    | dsimp only

theorem State.sourceLive_in (s : State) (k : Nat) (on : Bool) : Within [.regs, .grid, .adc, .pwm, .trp, .ctr, .twn, .snd] s (State.sourceLive s k on) := by
  unfold State.sourceLive
  repeat' first
    | with_reducible exact Within.refl ..
    | with_reducible assumption
    | lift_lets
    | (intro x; refine Within.known (ps := [.regs, .grid, .adc, .pwm, .trp, .ctr, .twn, .snd]) (s := s) (x := x) ?_ ?_ <;> [(unfold x; clear x); (clear_value x; intro hx)])
    | (intro x; clear_value x)
    | with_reducible refine (State.mark_in ..).thn (by decide) ?_
    | with_reducible refine (State.latchSource_in ..).thn (by decide) ?_
    | fail_if_no_progress with_reducible refine Within.upd_trp ?_ (by decide)
    | split
    | dsimp only

theorem State.clearSource_in (s : State) (k : Nat) : Within [.regs, .trp] s (State.clearSource s k) := by
  unfold State.clearSource
  repeat' first
    | with_reducible exact Within.refl ..
    | with_reducible assumption
    | lift_lets
    | (intro x; refine Within.known (ps := [.regs, .trp]) (s := s) (x := x) ?_ ?_ <;> [(unfold x; clear x); (clear_value x; intro hx)])
    | (intro x; clear_value x)
    | with_reducible refine (State.raise_in ..).thn (by decide) ?_
    | with_reducible refine (State.mark_in ..).thn (by decide) ?_
    | fail_if_no_progress with_reducible refine Within.upd_trp ?_ (by decide)
    | split
    | dsimp only

theorem State.clearTrips_in (s : State) (k : Nat) (m : Nat) : Within [.regs, .pwm, .trp] s (State.clearTrips s k m) := by
  unfold State.clearTrips
  repeat' first
    | with_reducible exact Within.refl ..
    | with_reducible assumption
    | with_reducible refine (State.clearSource_in ..).thn (by decide) ?_
    | with_reducible refine (State.settleForcing_in ..).thn (by decide) ?_
    | with_reducible refine Within.forIdx (fun _ _ _ => ?_) ?_
    | split
    | dsimp only

theorem State.cycleRelease_in (s : State) (g : Nat) : Within [.regs, .pwm, .trp, .ctr] s (State.cycleRelease s g) := by
  unfold State.cycleRelease
  repeat' first
    | with_reducible exact Within.refl ..
    | with_reducible assumption
    | lift_lets
    | (intro x; refine Within.known (ps := [.regs, .pwm, .trp, .ctr]) (s := s) (x := x) ?_ ?_ <;> [(unfold x; clear x); (clear_value x; intro hx)])
    | (intro x; unfold x; clear x; try beta_reduce)
    | (intro x; clear_value x)
    | with_reducible refine (State.noteCycle_in ..).thn (by decide) ?_
    | with_reducible refine (State.settleForcing_in ..).thn (by decide) ?_
    | with_reducible refine Within.foldl (fun _ _ _ => ?_) ?_
    | with_reducible refine Within.foldl1 (fun _ _ _ => ?_) ?_
    | with_reducible refine Within.foldl2 (fun _ _ _ => ?_) ?_
    | fail_if_no_progress with_reducible refine Within.upd_trp ?_ (by decide)
    | split
    | dsimp only

theorem State.armTrips_in (s : State) : Within [.regs, .grid, .adc, .pwm, .trp, .ctr, .twn, .snd] s (State.armTrips s) := by
  unfold State.armTrips
  repeat' first
    | with_reducible exact Within.refl ..
    | with_reducible assumption
    | lift_lets
    | (intro x; refine Within.known (ps := [.regs, .grid, .adc, .pwm, .trp, .ctr, .twn, .snd]) (s := s) (x := x) ?_ ?_ <;> [(unfold x; clear x); (clear_value x; intro hx)])
    | (intro x; clear_value x)
    | with_reducible refine (State.latchSource_in ..).thn (by decide) ?_
    | with_reducible refine Within.foldl (fun _ _ _ => ?_) ?_
    | with_reducible refine Within.foldl1 (fun _ _ _ => ?_) ?_
    | with_reducible refine Within.foldl2 (fun _ _ _ => ?_) ?_
    | fail_if_no_progress with_reducible refine Within.upd_trp ?_ (by decide)
    | split
    | dsimp only

end Sys2Proof.Machine
end

