-- ==== Sys2Proof/Laws/InDriveOps.lean ====
section
/-!
SUPPORT. What each operation of Machine/DriveOps.lean can change: one lemma per operation.
-/

set_option linter.unusedTactic false
set_option linter.unreachableTactic false

namespace Sys2Proof.Machine

theorem State.setDleg_in (s : State) (n : Nat) (r : DrvLeg) : Within [.drv] s (State.setDleg s n r) := by
  unfold State.setDleg
  repeat' first
    | with_reducible exact Within.refl ..
    | with_reducible assumption
    | lift_lets
    | (intro x; refine Within.known (ps := [.drv]) (s := s) (x := x) ?_ ?_ <;> [(unfold x; clear x); (clear_value x; intro hx)])
    | (intro x; clear_value x)
    | fail_if_no_progress with_reducible refine Within.upd_drv ?_ (by decide)
    | split
    | dsimp only

theorem State.setDdie_in (s : State) (d : Nat) (r : DrvDie) : Within [.drv] s (State.setDdie s d r) := by
  unfold State.setDdie
  repeat' first
    | with_reducible exact Within.refl ..
    | with_reducible assumption
    | lift_lets
    | (intro x; refine Within.known (ps := [.drv]) (s := s) (x := x) ?_ ?_ <;> [(unfold x; clear x); (clear_value x; intro hx)])
    | (intro x; clear_value x)
    | fail_if_no_progress with_reducible refine Within.upd_drv ?_ (by decide)
    | split
    | dsimp only

theorem State.noteFault_in (s : State) (d : Nat) : Within [.regs] s (State.noteFault s d) := by
  unfold State.noteFault
  repeat' first
    | with_reducible exact Within.refl ..
    | with_reducible assumption
    | lift_lets
    | (intro x; refine Within.known (ps := [.regs]) (s := s) (x := x) ?_ ?_ <;> [(unfold x; clear x); (clear_value x; intro hx)])
    | (intro x; clear_value x)
    | with_reducible refine (State.setFld_in ..).thn (by decide) ?_
    | split
    | dsimp only

theorem State.holdSinks_in (s : State) : Within [.drv] s (State.holdSinks s) := by
  unfold State.holdSinks
  repeat' first
    | with_reducible exact Within.refl ..
    | with_reducible assumption
    | lift_lets
    | (intro x; refine Within.known (ps := [.drv]) (s := s) (x := x) ?_ ?_ <;> [(unfold x; clear x); (clear_value x; intro hx)])
    | (intro x; clear_value x)
    | with_reducible refine (State.setDleg_in ..).thn (by decide) ?_
    | with_reducible refine Within.foldl (fun _ _ _ => ?_) ?_
    | with_reducible refine Within.foldl1 (fun _ _ _ => ?_) ?_
    | with_reducible refine Within.foldl2 (fun _ _ _ => ?_) ?_
    | split
    | dsimp only

theorem State.gatesOffAt_in (s : State) (n : Nat) (soft : Option Nat) : Within [.drv] s (State.gatesOffAt s n soft) := by
  unfold State.gatesOffAt
  repeat' first
    | with_reducible exact Within.refl ..
    | with_reducible assumption
    | with_reducible refine (State.setDleg_in ..).thn (by decide) ?_
    | split
    | dsimp only

theorem State.gatesOff_in (s : State) (n : Nat) : Within [.drv] s (State.gatesOff s n) := by
  unfold State.gatesOff
  repeat' first
    | with_reducible exact Within.refl ..
    | with_reducible assumption
    | with_reducible refine (State.gatesOffAt_in ..).thn (by decide) ?_
    | split
    | dsimp only

theorem State.dieOff_in (s : State) (d : Nat) : Within [.drv] s (State.dieOff s d) := by
  unfold State.dieOff
  repeat' first
    | with_reducible exact Within.refl ..
    | with_reducible assumption
    | with_reducible refine (State.gatesOff_in ..).thn (by decide) ?_
    | with_reducible refine Within.forIdx (fun _ _ _ => ?_) ?_
    | split
    | dsimp only

theorem State.gateActions_in (s : State) (p : Nat → Bool) : Within [.regs, .grid, .adc, .pwm, .ctr, .twn, .snd] s (State.gateActions s p) := by
  unfold State.gateActions
  repeat' first
    | with_reducible exact Within.refl ..
    | with_reducible assumption
    | with_reducible refine (State.faultAction_in ..).thn (by decide) ?_
    | with_reducible refine Within.forIdx (fun _ _ _ => ?_) ?_
    | split
    | dsimp only

theorem State.latchLegFault_in (s : State) (n : Nat) (f : Fld) (soft : Option Nat) : Within [.regs, .grid, .adc, .pwm, .drv, .ctr, .twn, .snd] s (State.latchLegFault s n f soft) := by
  unfold State.latchLegFault
  repeat' first
    | with_reducible exact Within.refl ..
    | with_reducible assumption
    | lift_lets
    | (intro x; refine Within.known (ps := [.regs, .grid, .adc, .pwm, .drv, .ctr, .twn, .snd]) (s := s) (x := x) ?_ ?_ <;> [(unfold x; clear x); (clear_value x; intro hx)])
    | (intro x; clear_value x)
    | with_reducible refine (State.gatesOffAt_in ..).thn (by decide) ?_
    | with_reducible refine (State.setFld_in ..).thn (by decide) ?_
    | with_reducible refine (State.count_in ..).thn (by decide) ?_
    | with_reducible refine (State.noteFault_in ..).thn (by decide) ?_
    | with_reducible refine (State.gateActions_in ..).thn (by decide) ?_
    | split
    | dsimp only

theorem State.latchDieFault_in (s : State) (d : Nat) (f : Fld) : Within [.regs, .grid, .adc, .pwm, .drv, .ctr, .twn, .snd] s (State.latchDieFault s d f) := by
  unfold State.latchDieFault
  repeat' first
    | with_reducible exact Within.refl ..
    | with_reducible assumption
    | lift_lets
    | (intro x; refine Within.known (ps := [.regs, .grid, .adc, .pwm, .drv, .ctr, .twn, .snd]) (s := s) (x := x) ?_ ?_ <;> [(unfold x; clear x); (clear_value x; intro hx)])
    | (intro x; clear_value x)
    | with_reducible refine (State.dieOff_in ..).thn (by decide) ?_
    | with_reducible refine (State.setFld_in ..).thn (by decide) ?_
    | with_reducible refine (State.count_in ..).thn (by decide) ?_
    | with_reducible refine (State.noteFault_in ..).thn (by decide) ?_
    | with_reducible refine (State.gateActions_in ..).thn (by decide) ?_
    | split
    | dsimp only

theorem State.bsuv_in (s : State) (n : Nat) : Within [.regs, .drv] s (State.bsuv s n) := by
  unfold State.bsuv
  repeat' first
    | with_reducible exact Within.refl ..
    | with_reducible assumption
    | lift_lets
    | (intro x; refine Within.known (ps := [.regs, .drv]) (s := s) (x := x) ?_ ?_ <;> [(unfold x; clear x); (clear_value x; intro hx)])
    | (intro x; clear_value x)
    | with_reducible refine (State.gatesOff_in ..).thn (by decide) ?_
    | with_reducible refine (State.setDleg_in ..).thn (by decide) ?_
    | with_reducible refine (State.raise_in ..).thn (by decide) ?_
    | with_reducible refine (State.count_in ..).thn (by decide) ?_
    | split
    | dsimp only

theorem State.interlock_in (s : State) (n : Nat) : Within [.regs, .drv] s (State.interlock s n) := by
  unfold State.interlock
  repeat' first
    | with_reducible exact Within.refl ..
    | with_reducible assumption
    | lift_lets
    | (intro x; refine Within.known (ps := [.regs, .drv]) (s := s) (x := x) ?_ ?_ <;> [(unfold x; clear x); (clear_value x; intro hx)])
    | (intro x; clear_value x)
    | with_reducible refine (State.gatesOff_in ..).thn (by decide) ?_
    | with_reducible refine (State.setDleg_in ..).thn (by decide) ?_
    | with_reducible refine (State.raise_in ..).thn (by decide) ?_
    | with_reducible refine (State.count_in ..).thn (by decide) ?_
    | split
    | dsimp only

theorem State.legEdge_in (s : State) (n : Nat) : Within [.regs, .drafts, .drv] s (State.legEdge s n) := by
  unfold State.legEdge
  repeat' first
    | with_reducible exact Within.refl ..
    | with_reducible assumption
    | lift_lets
    | (intro x; refine Within.known (ps := [.regs, .drafts, .drv]) (s := s) (x := x) ?_ ?_ <;> [(unfold x; clear x); (clear_value x; intro hx)])
    | (intro x; clear_value x)
    | with_reducible refine (State.setDleg_in ..).thn (by decide) ?_
    | with_reducible refine (State.takeCom_in ..).thn (by decide) ?_
    | with_reducible refine (State.setFld_in ..).thn (by decide) ?_
    | with_reducible refine (State.mark_in ..).thn (by decide) ?_
    | split
    | dsimp only

theorem State.begin_in (s : State) (n : Nat) (high : Bool) : Within [.drv] s (State.begin s n high) := by
  unfold State.begin
  repeat' first
    | with_reducible exact Within.refl ..
    | with_reducible assumption
    | with_reducible refine (State.setDleg_in ..).thn (by decide) ?_
    | split
    | dsimp only

theorem State.turnOn_in (s0 : State) (n : Nat) (high : Bool) (clear : Bool) : Within [.regs, .drafts, .drv] s0 (State.turnOn s0 n high clear) := by
  unfold State.turnOn
  repeat' first
    | with_reducible exact Within.refl ..
    | with_reducible assumption
    | lift_lets
    | (intro x; refine Within.known (ps := [.regs, .drafts, .drv]) (s := s0) (x := x) ?_ ?_ <;> [(unfold x; clear x); (clear_value x; intro hx)])
    | (intro x; clear_value x)
    | with_reducible refine (State.legEdge_in ..).thn (by decide) ?_
    | with_reducible refine (State.interlock_in ..).thn (by decide) ?_
    | with_reducible refine (State.setDleg_in ..).thn (by decide) ?_
    | with_reducible refine (State.bsuv_in ..).thn (by decide) ?_
    | with_reducible refine (State.begin_in ..).thn (by decide) ?_
    | split
    | dsimp only

theorem State.turnOff_in (s0 : State) (n : Nat) (high : Bool) : Within [.regs, .drafts, .drv] s0 (State.turnOff s0 n high) := by
  unfold State.turnOff
  repeat' first
    | with_reducible exact Within.refl ..
    | with_reducible assumption
    | lift_lets
    | (intro x; refine Within.known (ps := [.regs, .drafts, .drv]) (s := s0) (x := x) ?_ ?_ <;> [(unfold x; clear x); (clear_value x; intro hx)])
    | (intro x; clear_value x)
    | with_reducible refine (State.legEdge_in ..).thn (by decide) ?_
    | with_reducible refine (State.setDleg_in ..).thn (by decide) ?_
    | split
    | dsimp only

theorem State.releaseLeg_in (s : State) (n : Nat) : Within [.regs, .drv] s (State.releaseLeg s n) := by
  unfold State.releaseLeg
  repeat' first
    | with_reducible exact Within.refl ..
    | with_reducible assumption
    | lift_lets
    | (intro x; refine Within.known (ps := [.regs, .drv]) (s := s) (x := x) ?_ ?_ <;> [(unfold x; clear x); (clear_value x; intro hx)])
    | (intro x; clear_value x)
    | with_reducible refine (State.setDleg_in ..).thn (by decide) ?_
    | with_reducible refine (State.gatesOff_in ..).thn (by decide) ?_
    | with_reducible refine (State.setFld_in ..).thn (by decide) ?_
    | split
    | dsimp only

theorem State.driveLeg_in (s : State) (n : Nat) : Within [.regs, .drv] s (State.driveLeg s n) := by
  unfold State.driveLeg
  repeat' first
    | with_reducible exact Within.refl ..
    | with_reducible assumption
    | lift_lets
    | (intro x; refine Within.known (ps := [.regs, .drv]) (s := s) (x := x) ?_ ?_ <;> [(unfold x; clear x); (clear_value x; intro hx)])
    | (intro x; clear_value x)
    | with_reducible refine (State.gatesOff_in ..).thn (by decide) ?_
    | with_reducible refine (State.setDleg_in ..).thn (by decide) ?_
    | with_reducible refine (State.setFld_in ..).thn (by decide) ?_
    | split
    | dsimp only

theorem State.cutLeg_in (s : State) (n : Nat) : Within [.pwm, .drv] s (State.cutLeg s n) := by
  unfold State.cutLeg
  repeat' first
    | with_reducible exact Within.refl ..
    | with_reducible assumption
    | lift_lets
    | (intro x; refine Within.known (ps := [.pwm, .drv]) (s := s) (x := x) ?_ ?_ <;> [(unfold x; clear x); (clear_value x; intro hx)])
    | (intro x; clear_value x)
    | with_reducible refine (State.setLeg_in ..).thn (by decide) ?_
    | with_reducible refine (State.gatesOff_in ..).thn (by decide) ?_
    | split
    | dsimp only

theorem State.standDown_in (s : State) : Within [.regs, .pwm, .drv, .twn] s (State.standDown s) := by
  unfold State.standDown
  repeat' first
    | with_reducible exact Within.refl ..
    | with_reducible assumption
    | lift_lets
    | (intro x; refine Within.known (ps := [.regs, .pwm, .drv, .twn]) (s := s) (x := x) ?_ ?_ <;> [(unfold x; clear x); (clear_value x; intro hx)])
    | (intro x; clear_value x)
    | with_reducible refine (State.legOff_in ..).thn (by decide) ?_
    | with_reducible refine (State.cutLeg_in ..).thn (by decide) ?_
    | with_reducible refine (State.releaseLeg_in ..).thn (by decide) ?_
    | with_reducible refine (State.setFld_in ..).thn (by decide) ?_
    | with_reducible refine (State.raise_in ..).thn (by decide) ?_
    | with_reducible refine Within.forIdx (fun _ _ _ => ?_) ?_
    | fail_if_no_progress with_reducible refine Within.upd_twn ?_ (by decide)
    | split
    | dsimp only

end Sys2Proof.Machine
end

