-- ==== Sys2Proof/Laws/InEngineExec.lean ====
section
/-!
SUPPORT. What each operation of Machine/EngineExec.lean can change: one lemma per operation.
-/

set_option linter.unusedTactic false
set_option linter.unreachableTactic false

namespace Sys2Proof.Machine

theorem State.store_in (s : State) (n : Nat) (i : Nat) (w : Nat) : Within [.regs, .eng] s (State.store s n i w) := by
  unfold State.store
  repeat' first
    | with_reducible exact Within.refl ..
    | with_reducible assumption
    | lift_lets
    | (intro x; refine Within.known (ps := [.regs, .eng]) (s := s) (x := x) ?_ ?_ <;> [(unfold x; clear x); (clear_value x; intro hx)])
    | (intro x; clear_value x)
    | with_reducible refine (State.raise_in ..).thn (by decide) ?_
    | with_reducible refine (State.setSt_in ..).thn (by decide) ?_
    | fail_if_no_progress with_reducible refine Within.upd_eng ?_ (by decide)
    | split
    | dsimp only

end Sys2Proof.Machine
end

