-- ==== Sys2Proof/Laws/InEngineRows.lean ====
section
/-!
SUPPORT. What each operation of Machine/EngineRows.lean can change: one lemma per operation.
-/

set_option linter.unusedTactic false
set_option linter.unreachableTactic false

namespace Sys2Proof.Machine

theorem State.timerTick_in (s : State) (k : Nat) : Within [.regs, .grid, .eng, .adc, .pwm, .ctr, .twn, .snd] s (State.timerTick s k) := by
  unfold State.timerTick
  repeat' first
    | with_reducible exact Within.refl ..
    | with_reducible assumption
    | lift_lets
    | (intro x; refine Within.known (ps := [.regs, .grid, .eng, .adc, .pwm, .ctr, .twn, .snd]) (s := s) (x := x) ?_ ?_ <;> [(unfold x; clear x); (clear_value x; intro hx)])
    | (intro x; clear_value x)
    | with_reducible refine (State.triggerAll_in ..).thn (by decide) ?_
    | fail_if_no_progress with_reducible refine Within.upd_eng ?_ (by decide)
    | split
    | dsimp only

theorem State.kick_in (s : State) (p : Port) (n : Nat) : Within [.regs, .grid, .eng, .adc, .pwm, .ctr, .twn, .snd] s (State.kick s p n) := by
  unfold State.kick
  repeat' first
    | with_reducible exact Within.refl ..
    | with_reducible assumption
    | with_reducible refine (State.trigger_in ..).thn (by decide) ?_
    | with_reducible refine (State.refuse_in ..).thn (by decide) ?_
    | split
    | dsimp only

theorem State.deadlineExpiry_in (s : State) (n : Nat) : Within [.regs, .grid, .eng, .adc, .pwm, .ctr, .twn, .snd] s (State.deadlineExpiry s n) := by
  unfold State.deadlineExpiry
  repeat' first
    | with_reducible exact Within.refl ..
    | with_reducible assumption
    | with_reducible refine (State.missExec_in ..).thn (by decide) ?_
    | split
    | dsimp only

theorem State.watchdog_in (s : State) (n : Nat) : Within [.regs, .grid, .eng, .adc, .pwm, .ctr, .twn, .snd] s (State.watchdog s n) := by
  unfold State.watchdog
  repeat' first
    | with_reducible exact Within.refl ..
    | with_reducible assumption
    | lift_lets
    | (intro x; refine Within.known (ps := [.regs, .grid, .eng, .adc, .pwm, .ctr, .twn, .snd]) (s := s) (x := x) ?_ ?_ <;> [(unfold x; clear x); (clear_value x; intro hx)])
    | (intro x; clear_value x)
    | with_reducible refine (State.setCtx_in ..).thn (by decide) ?_
    | with_reducible refine (State.raise_in ..).thn (by decide) ?_
    | with_reducible refine (State.countMiss_in ..).thn (by decide) ?_
    | split
    | dsimp only

theorem State.loadInit_in (s : State) (i : Img) (r : CtxRec) : Within [.eng] s (State.loadInit s i r) := by
  unfold State.loadInit
  repeat' first
    | with_reducible exact Within.refl ..
    | with_reducible assumption
    | with_reducible refine (State.setSt_in ..).thn (by decide) ?_
    | with_reducible refine Within.forIdx (fun _ _ _ => ?_) ?_
    | split
    | dsimp only

theorem State.reinit_in (s : State) (n : Nat) : Within [.eng] s (State.reinit s n) := by
  unfold State.reinit
  repeat' first
    | with_reducible exact Within.refl ..
    | with_reducible assumption
    | lift_lets
    | (intro x; refine Within.known (ps := [.eng]) (s := s) (x := x) ?_ ?_ <;> [(unfold x; clear x); (clear_value x; intro hx)])
    | (intro x; clear_value x)
    | with_reducible refine (State.loadInit_in ..).thn (by decide) ?_
    | split
    | dsimp only

theorem State.ctxEnable_in (s : State) (n : Nat) : Within [.regs, .eng] s (State.ctxEnable s n) := by
  unfold State.ctxEnable
  repeat' first
    | with_reducible exact Within.refl ..
    | with_reducible assumption
    | lift_lets
    | (intro x; refine Within.known (ps := [.regs, .eng]) (s := s) (x := x) ?_ ?_ <;> [(unfold x; clear x); (clear_value x; intro hx)])
    | (intro x; clear_value x)
    | with_reducible refine (State.setFld_in ..).thn (by decide) ?_
    | with_reducible refine (State.reinit_in ..).thn (by decide) ?_
    | with_reducible refine (State.setCtx_in ..).thn (by decide) ?_
    | split
    | dsimp only

theorem State.ctxDisable_in (s : State) (n : Nat) : Within [.regs, .eng] s (State.ctxDisable s n) := by
  unfold State.ctxDisable
  repeat' first
    | with_reducible exact Within.refl ..
    | with_reducible assumption
    | lift_lets
    | (intro x; refine Within.known (ps := [.regs, .eng]) (s := s) (x := x) ?_ ?_ <;> [(unfold x; clear x); (clear_value x; intro hx)])
    | (intro x; clear_value x)
    | with_reducible refine (State.setFld_in ..).thn (by decide) ?_
    | with_reducible refine (State.setCtx_in ..).thn (by decide) ?_
    | split
    | dsimp only

theorem State.writeCtxEn_in (s : State) (p : Port) (n : Nat) (b : Bool) : Within [.regs, .eng] s (State.writeCtxEn s p n b) := by
  unfold State.writeCtxEn
  repeat' first
    | with_reducible exact Within.refl ..
    | with_reducible assumption
    | lift_lets
    | (intro x; refine Within.known (ps := [.regs, .eng]) (s := s) (x := x) ?_ ?_ <;> [(unfold x; clear x); (clear_value x; intro hx)])
    | (intro x; clear_value x)
    | with_reducible refine (State.refuse_in ..).thn (by decide) ?_
    | with_reducible refine (State.ctxEnable_in ..).thn (by decide) ?_
    | with_reducible refine (State.ctxDisable_in ..).thn (by decide) ?_
    | split
    | dsimp only

theorem State.setMem_in (s : State) (c : Nat) (m : CellMem) (stg : Bool) (i : Nat) (w : MWord) : Within [.eng] s (State.setMem s c m stg i w) := by
  unfold State.setMem
  repeat' first
    | with_reducible exact Within.refl ..
    | with_reducible assumption
    | lift_lets
    | (intro x; refine Within.known (ps := [.eng]) (s := s) (x := x) ?_ ?_ <;> [(unfold x; clear x); (clear_value x; intro hx)])
    | (intro x; clear_value x)
    | with_reducible refine (State.setSt_in ..).thn (by decide) ?_
    | fail_if_no_progress with_reducible refine Within.upd_eng ?_ (by decide)
    | split
    | dsimp only

theorem State.oldBack_in (s : State) (c : Nat) (m : CellMem) (i : Nat) : Within [.eng] s (State.oldBack s c m i) := by
  unfold State.oldBack
  repeat' first
    | with_reducible exact Within.refl ..
    | with_reducible assumption
    | lift_lets
    | (intro x; refine Within.known (ps := [.eng]) (s := s) (x := x) ?_ ?_ <;> [(unfold x; clear x); (clear_value x; intro hx)])
    | (intro x; unfold x; clear x; try beta_reduce)
    | (intro x; clear_value x)
    | fail_if_no_progress with_reducible refine Within.upd_eng ?_ (by decide)
    | split
    | dsimp only

theorem State.eccWriteback_in (s : State) (c : Nat) (m : CellMem) (stg : Bool) (i : Nat) : Within [.eng] s (State.eccWriteback s c m stg i) := by
  unfold State.eccWriteback
  repeat' first
    | with_reducible exact Within.refl ..
    | with_reducible assumption
    | lift_lets
    | (intro x; refine Within.known (ps := [.eng]) (s := s) (x := x) ?_ ?_ <;> [(unfold x; clear x); (clear_value x; intro hx)])
    | (intro x; clear_value x)
    | with_reducible refine (State.oldBack_in ..).thn (by decide) ?_
    | with_reducible refine (State.setMem_in ..).thn (by decide) ?_
    | fail_if_no_progress with_reducible refine Within.upd_eng ?_ (by decide)
    | split
    | dsimp only

theorem State.sweepRead_in (s : State) (c : Nat) (m : CellMem) (stg : Bool) (i : Nat) : Within [.regs, .eng] s (State.sweepRead s c m stg i) := by
  unfold State.sweepRead
  repeat' first
    | with_reducible exact Within.refl ..
    | with_reducible assumption
    | with_reducible refine (State.eccRead_in ..).thn (by decide) ?_
    | split
    | dsimp only

theorem State.expertState_in (s : State) (c : Nat) (i : Nat) (w : Nat) : Within [.regs, .eng] s (State.expertState s c i w) := by
  unfold State.expertState
  repeat' first
    | with_reducible exact Within.refl ..
    | with_reducible assumption
    | lift_lets
    | (intro x; refine Within.known (ps := [.regs, .eng]) (s := s) (x := x) ?_ ?_ <;> [(unfold x; clear x); (clear_value x; intro hx)])
    | (intro x; clear_value x)
    | with_reducible refine (State.raise_in ..).thn (by decide) ?_
    | with_reducible refine (State.setSt_in ..).thn (by decide) ?_
    | fail_if_no_progress with_reducible refine Within.upd_eng ?_ (by decide)
    | split
    | dsimp only

theorem State.expertCell_in (s : State) (p : Port) (a : Nat) (w : Nat) : Within [.regs, .eng, .mem] s (State.expertCell s p a w) := by
  unfold State.expertCell
  repeat' first
    | with_reducible exact Within.refl ..
    | with_reducible assumption
    | lift_lets
    | (intro x; refine Within.known (ps := [.regs, .eng, .mem]) (s := s) (x := x) ?_ ?_ <;> [(unfold x; clear x); (clear_value x; intro hx)])
    | (intro x; clear_value x)
    | with_reducible refine (State.refuse_in ..).thn (by decide) ?_
    | with_reducible refine (State.setMem_in ..).thn (by decide) ?_
    | with_reducible refine (State.mirrorWrite_in ..).thn (by decide) ?_
    | with_reducible refine (State.expertState_in ..).thn (by decide) ?_
    | split
    | dsimp only

end Sys2Proof.Machine
end

