-- ==== Sys2Proof/Laws/InPulseRows.lean ====
section
/-!
SUPPORT. What each operation of Machine/PulseRows.lean can change: one lemma per operation.
-/

set_option linter.unusedTactic false
set_option linter.unreachableTactic false

namespace Sys2Proof.Machine

theorem State.legUpdate_in (s : State) (n : Nat) : Within [.regs, .pwm] s (State.legUpdate s n) := by
  unfold State.legUpdate
  repeat' first
    | with_reducible exact Within.refl ..
    | with_reducible assumption
    | lift_lets
    | (intro x; refine Within.known (ps := [.regs, .pwm]) (s := s) (x := x) ?_ ?_ <;> [(unfold x; clear x); (clear_value x; intro hx)])
    | (intro x; clear_value x)
    | with_reducible refine (State.mark_in ..).thn (by decide) ?_
    | with_reducible refine (State.loadCompare_in ..).thn (by decide) ?_
    | with_reducible refine (State.legAt_in ..).thn (by decide) ?_
    | with_reducible refine (State.runEdges_in ..).thn (by decide) ?_
    | split
    | dsimp only

theorem State.groupUpdate_in (s : State) (g : Nat) : Within [.regs, .grid, .eng, .adc, .pwm, .trp, .ctr, .twn, .snd] s (State.groupUpdate s g) := by
  unfold State.groupUpdate
  repeat' first
    | with_reducible exact Within.refl ..
    | with_reducible assumption
    | with_reducible refine (State.mark_in ..).thn (by decide) ?_
    | with_reducible refine (State.cycleRelease_in ..).thn (by decide) ?_
    | with_reducible refine (State.triggerAll_in ..).thn (by decide) ?_
    | split
    | dsimp only

theorem State.softTrips_in (s : State) (m : Nat) : Within [.regs, .grid, .adc, .pwm, .trp, .ctr, .twn, .snd] s (State.softTrips s m) := by
  unfold State.softTrips
  repeat' first
    | with_reducible exact Within.refl ..
    | with_reducible assumption
    | with_reducible refine (State.sourceLive_in ..).thn (by decide) ?_
    | with_reducible refine Within.forIdx (fun _ _ _ => ?_) ?_
    | split
    | dsimp only

end Sys2Proof.Machine
end

