-- ==== Sys2Proof/Laws/InCommitFollow.lean ====
section
/-!
SUPPORT. What each operation of Machine/CommitFollow.lean can change: one lemma per operation.
-/

set_option linter.unusedTactic false
set_option linter.unreachableTactic false

namespace Sys2Proof.Machine

theorem State.followSilence_in (t : State) (s : State) : Within [.host] t (State.followSilence t s) := by
  unfold State.followSilence
  repeat' first
    | with_reducible exact Within.refl ..
    | with_reducible assumption
    | lift_lets
    | (intro x; refine Within.known (ps := [.host]) (s := t) (x := x) ?_ ?_ <;> [(unfold x; clear x); (clear_value x; intro hx)])
    | (intro x; clear_value x)
    | fail_if_no_progress with_reducible refine Within.upd_host ?_ (by decide)
    | split
    | dsimp only

theorem State.followSounding_in (t : State) : Within [.regs, .adc, .snd] t (State.followSounding t) := by
  unfold State.followSounding
  repeat' first
    | with_reducible exact Within.refl ..
    | with_reducible assumption
    | lift_lets
    | (intro x; refine Within.known (ps := [.regs, .adc, .snd]) (s := t) (x := x) ?_ ?_ <;> [(unfold x; clear x); (clear_value x; intro hx)])
    | (intro x; refine Within.known (ps := [.regs, .adc, .snd]) (s := t) (x := x.2) ?_ ?_ <;> [(unfold x; clear x); (clear_value x; intro hx)])
    | (intro x; clear_value x)
    | with_reducible refine (State.drawDelay_in ..).thn (by decide) ?_
    | with_reducible refine (State.setGen_in ..).thn (by decide) ?_
    | with_reducible refine (State.genRest_in ..).thn (by decide) ?_
    | with_reducible refine Within.forIdx (fun _ _ _ => ?_) ?_
    | split
    | dsimp only

theorem State.followNodes_in (t : State) (s : State) : Within [.snd] t (State.followNodes t s) := by
  unfold State.followNodes
  repeat' first
    | with_reducible exact Within.refl ..
    | with_reducible assumption
    | lift_lets
    | (intro x; refine Within.known (ps := [.snd]) (s := t) (x := x) ?_ ?_ <;> [(unfold x; clear x); (clear_value x; intro hx)])
    | (intro x; unfold x; clear x; try beta_reduce)
    | (intro x; clear_value x)
    | with_reducible refine (State.setNode_in ..).thn (by decide) ?_
    | with_reducible refine Within.forIdx (fun _ _ _ => ?_) ?_
    | split
    | dsimp only

theorem State.followRef_in (t : State) (s : State) : Within [.regs, .clk, .adc] t (State.followRef t s) := by
  unfold State.followRef
  repeat' first
    | with_reducible exact Within.refl ..
    | with_reducible assumption
    | lift_lets
    | (intro x; refine Within.known (ps := [.regs, .clk, .adc]) (s := t) (x := x) ?_ ?_ <;> [(unfold x; clear x); (clear_value x; intro hx)])
    | (intro x; unfold x; clear x; try beta_reduce)
    | (intro x; clear_value x)
    | with_reducible refine (State.moveRef_in ..).thn (by decide) ?_
    | with_reducible refine (State.moveM_in ..).thn (by decide) ?_
    | split
    | dsimp only

theorem State.followClocks_in (t : State) (s : State) : Within [.regs, .eng, .clk, .adc] t (State.followClocks t s) := by
  unfold State.followClocks
  repeat' first
    | with_reducible exact Within.refl ..
    | with_reducible assumption
    | lift_lets
    | (intro x; refine Within.known (ps := [.regs, .eng, .clk, .adc]) (s := t) (x := x) ?_ ?_ <;> [(unfold x; clear x); (clear_value x; intro hx)])
    | (intro x; clear_value x)
    | with_reducible refine (State.followRef_in ..).thn (by decide) ?_
    | with_reducible refine (State.startProfile_in ..).thn (by decide) ?_
    | with_reducible refine (State.loadSeed_in ..).thn (by decide) ?_
    | with_reducible refine Within.forIdx (fun _ _ _ => ?_) ?_
    | split
    | dsimp only

theorem State.followPair_in (t : State) (s : State) : Within [.regs, .drv, .twn] t (State.followPair t s) := by
  unfold State.followPair
  repeat' first
    | with_reducible exact Within.refl ..
    | with_reducible assumption
    | lift_lets
    | (intro x; refine Within.known (ps := [.regs, .drv, .twn]) (s := t) (x := x) ?_ ?_ <;> [(unfold x; clear x); (clear_value x; intro hx)])
    | (intro x; clear_value x)
    | with_reducible refine (State.driveLeg_in ..).thn (by decide) ?_
    | with_reducible refine (State.setFld_in ..).thn (by decide) ?_
    | with_reducible refine Within.forIdx (fun _ _ _ => ?_) ?_
    | fail_if_no_progress with_reducible refine Within.upd_twn ?_ (by decide)
    | split
    | dsimp only

theorem State.followCommit_in (t : State) (s : State) : Within [.regs, .eng, .clk, .adc, .drv, .twn, .snd, .host] t (State.followCommit t s) := by
  unfold State.followCommit
  repeat' first
    | with_reducible exact Within.refl ..
    | with_reducible assumption
    | with_reducible refine (State.followClocks_in ..).thn (by decide) ?_
    | with_reducible refine (State.followSilence_in ..).thn (by decide) ?_
    | with_reducible refine (State.followSounding_in ..).thn (by decide) ?_
    | with_reducible refine (State.followNodes_in ..).thn (by decide) ?_
    | with_reducible refine (State.followPair_in ..).thn (by decide) ?_
    | split
    | dsimp only

theorem State.takeDigests_in (s : State) : Within [.twn] s (State.takeDigests s) := by
  unfold State.takeDigests
  repeat' first
    | with_reducible exact Within.refl ..
    | with_reducible assumption
    | lift_lets
    | (intro x; refine Within.known (ps := [.twn]) (s := s) (x := x) ?_ ?_ <;> [(unfold x; clear x); (clear_value x; intro hx)])
    | (intro x; clear_value x)
    | fail_if_no_progress with_reducible refine Within.upd_twn ?_ (by decide)
    | split
    | dsimp only

theorem State.noteDigests_in (s : State) : Within [.twn] s (State.noteDigests s) := by
  unfold State.noteDigests
  repeat' first
    | with_reducible exact Within.refl ..
    | with_reducible assumption
    | with_reducible refine (State.takeDigests_in ..).thn (by decide) ?_
    | split
    | dsimp only

end Sys2Proof.Machine
end

