-- ==== Sys2Proof/Laws/InGridTick.lean ====
section
/-!
SUPPORT. What each operation of Machine/GridTick.lean can change: one lemma per operation.
-/

set_option linter.unusedTactic false
set_option linter.unreachableTactic false

namespace Sys2Proof.Machine

theorem State.track_in (s : State) (g : Nat) (i : TickIn) (m : TickMeas) : Within [.regs, .grid] s (State.track s g i m) := by
  unfold State.track
  repeat' first
    | with_reducible exact Within.refl ..
    | with_reducible assumption
    | lift_lets
    | (intro x; refine Within.known (ps := [.regs, .grid]) (s := s) (x := x) ?_ ?_ <;> [(unfold x; clear x); (clear_value x; intro hx)])
    | (intro x; clear_value x)
    | with_reducible refine (State.setGrp_in ..).thn (by decide) ?_
    | with_reducible refine (State.setFld_in ..).thn (by decide) ?_
    | with_reducible refine (State.setSfld_in ..).thn (by decide) ?_
    | split
    | dsimp only

theorem State.busTick_in (s : State) (g : Nat) (r : GroupRec) : Within [.regs, .grid] s (State.busTick s g r) := by
  unfold State.busTick
  repeat' first
    | with_reducible exact Within.refl ..
    | with_reducible assumption
    | lift_lets
    | (intro x; refine Within.known (ps := [.regs, .grid]) (s := s) (x := x) ?_ ?_ <;> [(unfold x; clear x); (clear_value x; intro hx)])
    | (intro x; clear_value x)
    | with_reducible refine (State.setFld_in ..).thn (by decide) ?_
    | with_reducible refine (State.setGrp_in ..).thn (by decide) ?_
    | split
    | dsimp only

theorem State.setEff_in (s : State) (g : Nat) (z : Int × Int) : Within [.regs, .grid] s (State.setEff s g z) := by
  unfold State.setEff
  repeat' first
    | with_reducible exact Within.refl ..
    | with_reducible assumption
    | lift_lets
    | (intro x; refine Within.known (ps := [.regs, .grid]) (s := s) (x := x) ?_ ?_ <;> [(unfold x; clear x); (clear_value x; intro hx)])
    | (intro x; clear_value x)
    | with_reducible refine (State.setGrp_in ..).thn (by decide) ?_
    | with_reducible refine (State.raise_in ..).thn (by decide) ?_
    | split
    | dsimp only

theorem State.effTick_in (s : State) (g : Nat) : Within [.regs, .grid] s (State.effTick s g) := by
  unfold State.effTick
  repeat' first
    | with_reducible exact Within.refl ..
    | with_reducible assumption
    | lift_lets
    | (intro x; refine Within.known (ps := [.regs, .grid]) (s := s) (x := x) ?_ ?_ <;> [(unfold x; clear x); (clear_value x; intro hx)])
    | (intro x; clear_value x)
    | with_reducible refine (State.setEff_in ..).thn (by decide) ?_
    | split
    | dsimp only

theorem State.enterRide_in (s : State) (g : Nat) : Within [.regs, .grid, .adc, .ctr, .snd] s (State.enterRide s g) := by
  unfold State.enterRide
  repeat' first
    | with_reducible exact Within.refl ..
    | with_reducible assumption
    | lift_lets
    | (intro x; refine Within.known (ps := [.regs, .grid, .adc, .ctr, .snd]) (s := s) (x := x) ?_ ?_ <;> [(unfold x; clear x); (clear_value x; intro hx)])
    | (intro x; clear_value x)
    | with_reducible refine (State.setGrp_in ..).thn (by decide) ?_
    | with_reducible refine (State.setMode_in ..).thn (by decide) ?_
    | with_reducible refine (State.raise_in ..).thn (by decide) ?_
    | with_reducible refine (State.count_in ..).thn (by decide) ?_
    | with_reducible refine (State.stamp_in ..).thn (by decide) ?_
    | with_reducible refine (State.ctrEvent_in ..).thn (by decide) ?_
    | split
    | dsimp only

theorem State.rideCheck_in (s : State) (g : Nat) : Within [.regs, .grid, .adc, .ctr, .snd] s (State.rideCheck s g) := by
  unfold State.rideCheck
  repeat' first
    | with_reducible exact Within.refl ..
    | with_reducible assumption
    | lift_lets
    | (intro x; refine Within.known (ps := [.regs, .grid, .adc, .ctr, .snd]) (s := s) (x := x) ?_ ?_ <;> [(unfold x; clear x); (clear_value x; intro hx)])
    | (intro x; clear_value x)
    | with_reducible refine (State.enterRide_in ..).thn (by decide) ?_
    | split
    | dsimp only

theorem State.rideTimes_in (s : State) (g : Nat) (w : Int) (entered : Bool) : Within [.grid] s (State.rideTimes s g w entered) := by
  unfold State.rideTimes
  repeat' first
    | with_reducible exact Within.refl ..
    | with_reducible assumption
    | lift_lets
    | (intro x; refine Within.known (ps := [.grid]) (s := s) (x := x) ?_ ?_ <;> [(unfold x; clear x); (clear_value x; intro hx)])
    | (intro x; clear_value x)
    | with_reducible refine (State.setGrp_in ..).thn (by decide) ?_
    | split
    | dsimp only

theorem State.governors_in (s : State) (g : Nat) (w : Int) : Within [.regs, .grid] s (State.governors s g w) := by
  unfold State.governors
  repeat' first
    | with_reducible exact Within.refl ..
    | with_reducible assumption
    | lift_lets
    | (intro x; refine Within.known (ps := [.regs, .grid]) (s := s) (x := x) ?_ ?_ <;> [(unfold x; clear x); (clear_value x; intro hx)])
    | (intro x; unfold x; clear x; try beta_reduce)
    | (intro x; clear_value x)
    | with_reducible refine (State.raise_in ..).thn (by decide) ?_
    | with_reducible refine (State.setGrp_in ..).thn (by decide) ?_
    | split
    | dsimp only

theorem State.steer_in (s : State) (g : Nat) (w : Int) : Within [.grid] s (State.steer s g w) := by
  unfold State.steer
  repeat' first
    | with_reducible exact Within.refl ..
    | with_reducible assumption
    | lift_lets
    | (intro x; refine Within.known (ps := [.grid]) (s := s) (x := x) ?_ ?_ <;> [(unfold x; clear x); (clear_value x; intro hx)])
    | (intro x; clear_value x)
    | with_reducible refine (State.setGrp_in ..).thn (by decide) ?_
    | split
    | dsimp only

theorem State.rotor_in (s : State) (g : Nat) (i : TickIn) (ok : Bool) : Within [.regs, .grid] s (State.rotor s g i ok) := by
  unfold State.rotor
  repeat' first
    | with_reducible exact Within.refl ..
    | with_reducible assumption
    | lift_lets
    | (intro x; refine Within.known (ps := [.regs, .grid]) (s := s) (x := x) ?_ ?_ <;> [(unfold x; clear x); (clear_value x; intro hx)])
    | (intro x; clear_value x)
    | with_reducible refine (State.setGrp_in ..).thn (by decide) ?_
    | with_reducible refine (State.raise_in ..).thn (by decide) ?_
    | split
    | dsimp only

theorem State.powers_in (s : State) (g : Nat) (i : TickIn) : Within [.grid] s (State.powers s g i) := by
  unfold State.powers
  repeat' first
    | with_reducible exact Within.refl ..
    | with_reducible assumption
    | lift_lets
    | (intro x; refine Within.known (ps := [.grid]) (s := s) (x := x) ?_ ?_ <;> [(unfold x; clear x); (clear_value x; intro hx)])
    | (intro x; clear_value x)
    | with_reducible refine (State.setGrp_in ..).thn (by decide) ?_
    | split
    | dsimp only

theorem State.heldTick_in (s : State) (g : Nat) : Within [.regs, .grid, .adc, .pwm, .ctr, .twn, .snd] s (State.heldTick s g) := by
  unfold State.heldTick
  repeat' first
    | with_reducible exact Within.refl ..
    | with_reducible assumption
    | with_reducible refine (State.raise_in ..).thn (by decide) ?_
    | with_reducible refine (State.faultAction_in ..).thn (by decide) ?_
    | with_reducible refine Within.foldl (fun _ _ _ => ?_) ?_
    | with_reducible refine Within.foldl1 (fun _ _ _ => ?_) ?_
    | with_reducible refine Within.foldl2 (fun _ _ _ => ?_) ?_
    | split
    | dsimp only

theorem State.magnitude_in (s : State) (g : Nat) (w : Int) (ok : Bool) (hold : Bool) : Within [.regs, .grid] s (State.magnitude s g w ok hold) := by
  unfold State.magnitude
  repeat' first
    | with_reducible exact Within.refl ..
    | with_reducible assumption
    | lift_lets
    | (intro x; refine Within.known (ps := [.regs, .grid]) (s := s) (x := x) ?_ ?_ <;> [(unfold x; clear x); (clear_value x; intro hx)])
    | (intro x; clear_value x)
    | with_reducible refine (State.setGrp_in ..).thn (by decide) ?_
    | with_reducible refine (State.raise_in ..).thn (by decide) ?_
    | split
    | dsimp only

theorem State.flux_in (s : State) (g : Nat) (i : TickIn) : Within [.regs, .grid] s (State.flux s g i) := by
  unfold State.flux
  repeat' first
    | with_reducible exact Within.refl ..
    | with_reducible assumption
    | lift_lets
    | (intro x; refine Within.known (ps := [.regs, .grid]) (s := s) (x := x) ?_ ?_ <;> [(unfold x; clear x); (clear_value x; intro hx)])
    | (intro x; unfold x; clear x; try beta_reduce)
    | (intro x; clear_value x)
    | with_reducible refine (State.setGrp_in ..).thn (by decide) ?_
    | with_reducible refine (State.raise_in ..).thn (by decide) ?_
    | split
    | dsimp only

theorem State.sepTick_in (s : State) (g : Nat) (i : TickIn) (m : TickMeas) : Within [.grid] s (State.sepTick s g i m) := by
  unfold State.sepTick
  repeat' first
    | with_reducible exact Within.refl ..
    | with_reducible assumption
    | lift_lets
    | (intro x; refine Within.known (ps := [.grid]) (s := s) (x := x) ?_ ?_ <;> [(unfold x; clear x); (clear_value x; intro hx)])
    | (intro x; clear_value x)
    | with_reducible refine (State.setGrp_in ..).thn (by decide) ?_
    | split
    | dsimp only

theorem State.resTick_in (s : State) (g : Nat) (w : Int) (eps : List (Nat × Int)) : Within [.regs, .grid] s (State.resTick s g w eps) := by
  unfold State.resTick
  repeat' first
    | with_reducible exact Within.refl ..
    | with_reducible assumption
    | lift_lets
    | (intro x; refine Within.known (ps := [.regs, .grid]) (s := s) (x := x) ?_ ?_ <;> [(unfold x; clear x); (clear_value x; intro hx)])
    | (intro x; clear_value x)
    | with_reducible refine (State.setGrp_in ..).thn (by decide) ?_
    | with_reducible refine (State.raise_in ..).thn (by decide) ?_
    | split
    | dsimp only

theorem State.recover_in (s : State) (g : Nat) (w : Int) (lim : Int) : Within [.regs, .grid] s (State.recover s g w lim) := by
  unfold State.recover
  repeat' first
    | with_reducible exact Within.refl ..
    | with_reducible assumption
    | lift_lets
    | (intro x; refine Within.known (ps := [.regs, .grid]) (s := s) (x := x) ?_ ?_ <;> [(unfold x; clear x); (clear_value x; intro hx)])
    | (intro x; clear_value x)
    | with_reducible refine (State.setGrp_in ..).thn (by decide) ?_
    | with_reducible refine (State.setFld_in ..).thn (by decide) ?_
    | split
    | dsimp only

theorem State.limiter_in (s : State) (g : Nat) (i : TickIn) (m : TickMeas) (a : Int) (b : Int) (z : Int) : Within [.regs, .grid, .adc, .snd] s (State.limiter s g i m a b z).1 := by
  unfold State.limiter
  repeat' first
    | with_reducible exact Within.refl ..
    | with_reducible assumption
    | lift_lets
    | (intro x; refine Within.known (ps := [.regs, .grid, .adc, .snd]) (s := s) (x := x) ?_ ?_ <;> [(unfold x; clear x); (clear_value x; intro hx)])
    | (intro x; clear_value x)
    | with_reducible refine (State.recover_in ..).thn (by decide) ?_
    | with_reducible refine (State.setGrp_in ..).thn (by decide) ?_
    | with_reducible refine (State.setFld_in ..).thn (by decide) ?_
    | with_reducible refine (State.raise_in ..).thn (by decide) ?_
    | with_reducible refine (State.soundBound_in ..).thn (by decide) ?_
    | with_reducible refine (State.setSfld_in ..).thn (by decide) ?_
    | split
    | dsimp only

theorem State.legRefs_in (s : State) (g : Nat) (one : Bool) : Within [.pwm] s (State.legRefs s g one) := by
  unfold State.legRefs
  repeat' first
    | with_reducible exact Within.refl ..
    | with_reducible assumption
    | lift_lets
    | (intro x; refine Within.known (ps := [.pwm]) (s := s) (x := x) ?_ ?_ <;> [(unfold x; clear x); (clear_value x; intro hx)])
    | (intro x; clear_value x)
    | with_reducible refine (State.setLeg_in ..).thn (by decide) ?_
    | with_reducible refine Within.forIdx (fun _ _ _ => ?_) ?_
    | split
    | dsimp only

theorem State.cascade_in (s : State) (g : Nat) (r : GroupRec) (i : TickIn) (m : TickMeas) : Within [.regs, .grid, .adc, .pwm, .snd] s (State.cascade s g r i m) := by
  unfold State.cascade
  repeat' first
    | with_reducible exact Within.refl ..
    | with_reducible assumption
    | lift_lets
    | (intro x; refine Within.known (ps := [.regs, .grid, .adc, .pwm, .snd]) (s := s) (x := x) ?_ ?_ <;> [(unfold x; clear x); (clear_value x; intro hx)])
    | (intro x; refine Within.known (ps := [.regs, .grid, .adc, .pwm, .snd]) (s := s) (x := x.1) ?_ ?_ <;> [(unfold x; clear x); (clear_value x; intro hx)])
    | (intro x; clear_value x)
    | with_reducible refine (State.sepTick_in ..).thn (by decide) ?_
    | with_reducible refine (State.setGrp_in ..).thn (by decide) ?_
    | with_reducible refine (State.limiter_in ..).thn (by decide) ?_
    | with_reducible refine (State.resTick_in ..).thn (by decide) ?_
    | with_reducible refine (State.legRefs_in ..).thn (by decide) ?_
    | split
    | dsimp only

theorem State.voltageTick_in (s : State) (g : Nat) (r : GroupRec) (i : TickIn) (m : TickMeas) : Within [.regs, .grid, .adc, .pwm, .snd] s (State.voltageTick s g r i m) := by
  unfold State.voltageTick
  repeat' first
    | with_reducible exact Within.refl ..
    | with_reducible assumption
    | lift_lets
    | (intro x; refine Within.known (ps := [.regs, .grid, .adc, .pwm, .snd]) (s := s) (x := x) ?_ ?_ <;> [(unfold x; clear x); (clear_value x; intro hx)])
    | (intro x; clear_value x)
    | with_reducible refine (State.magnitude_in ..).thn (by decide) ?_
    | with_reducible refine (State.cascade_in ..).thn (by decide) ?_
    | split
    | dsimp only

theorem State.syncTick_in (s : State) (g : Nat) (w : Int) : Within [.regs, .grid] s (State.syncTick s g w) := by
  unfold State.syncTick
  repeat' first
    | with_reducible exact Within.refl ..
    | with_reducible assumption
    | lift_lets
    | (intro x; refine Within.known (ps := [.regs, .grid]) (s := s) (x := x) ?_ ?_ <;> [(unfold x; clear x); (clear_value x; intro hx)])
    | (intro x; clear_value x)
    | with_reducible refine (State.setGrp_in ..).thn (by decide) ?_
    | with_reducible refine (State.setSfld_in ..).thn (by decide) ?_
    | split
    | dsimp only

theorem State.enterSync_in (s : State) (g : Nat) : Within [.regs, .grid, .adc, .snd] s (State.enterSync s g) := by
  unfold State.enterSync
  repeat' first
    | with_reducible exact Within.refl ..
    | with_reducible assumption
    | lift_lets
    | (intro x; refine Within.known (ps := [.regs, .grid, .adc, .snd]) (s := s) (x := x) ?_ ?_ <;> [(unfold x; clear x); (clear_value x; intro hx)])
    | (intro x; clear_value x)
    | with_reducible refine (State.setGrp_in ..).thn (by decide) ?_
    | with_reducible refine (State.setMode_in ..).thn (by decide) ?_
    | split
    | dsimp only

theorem State.gridTick_in (s : State) (g : Nat) (w : Int) : Within [.regs, .grid, .adc, .snd] s (State.gridTick s g w) := by
  unfold State.gridTick
  repeat' first
    | with_reducible exact Within.refl ..
    | with_reducible assumption
    | lift_lets
    | (intro x; refine Within.known (ps := [.regs, .grid, .adc, .snd]) (s := s) (x := x) ?_ ?_ <;> [(unfold x; clear x); (clear_value x; intro hx)])
    | (intro x; clear_value x)
    | with_reducible refine (State.setGrp_in ..).thn (by decide) ?_
    | with_reducible refine (State.enterSync_in ..).thn (by decide) ?_
    | split
    | dsimp only

theorem State.holdTick_in (s : State) (g : Nat) (w : Int) : Within [.grid] s (State.holdTick s g w) := by
  unfold State.holdTick
  repeat' first
    | with_reducible exact Within.refl ..
    | with_reducible assumption
    | lift_lets
    | (intro x; refine Within.known (ps := [.grid]) (s := s) (x := x) ?_ ?_ <;> [(unfold x; clear x); (clear_value x; intro hx)])
    | (intro x; clear_value x)
    | with_reducible refine (State.setGrp_in ..).thn (by decide) ?_
    | split
    | dsimp only

theorem State.stopProceed_in (s : State) (g : Nat) : Within [.grid] s (State.stopProceed s g) := by
  unfold State.stopProceed
  repeat' first
    | with_reducible exact Within.refl ..
    | with_reducible assumption
    | lift_lets
    | (intro x; refine Within.known (ps := [.grid]) (s := s) (x := x) ?_ ?_ <;> [(unfold x; clear x); (clear_value x; intro hx)])
    | (intro x; clear_value x)
    | with_reducible refine (State.setGrp_in ..).thn (by decide) ?_
    | split
    | dsimp only

theorem State.stopTick_in (s : State) (g : Nat) : Within [.grid] s (State.stopTick s g) := by
  unfold State.stopTick
  repeat' first
    | with_reducible exact Within.refl ..
    | with_reducible assumption
    | lift_lets
    | (intro x; refine Within.known (ps := [.grid]) (s := s) (x := x) ?_ ?_ <;> [(unfold x; clear x); (clear_value x; intro hx)])
    | (intro x; clear_value x)
    | with_reducible refine (State.stopProceed_in ..).thn (by decide) ?_
    | with_reducible refine (State.setGrp_in ..).thn (by decide) ?_
    | split
    | dsimp only

theorem State.liveRegs_in (s : State) (g : Nat) : Within [.regs] s (State.liveRegs s g) := by
  unfold State.liveRegs
  repeat' first
    | with_reducible exact Within.refl ..
    | with_reducible assumption
    | lift_lets
    | (intro x; refine Within.known (ps := [.regs]) (s := s) (x := x) ?_ ?_ <;> [(unfold x; clear x); (clear_value x; intro hx)])
    | (intro x; clear_value x)
    | with_reducible refine (State.setSfld_in ..).thn (by decide) ?_
    | with_reducible refine Within.foldl (fun _ _ _ => ?_) ?_
    | with_reducible refine Within.foldl1 (fun _ _ _ => ?_) ?_
    | with_reducible refine Within.foldl2 (fun _ _ _ => ?_) ?_
    | split
    | dsimp only

theorem State.runTick_in (s : State) (g : Nat) (rec : GroupRec) (i : TickIn) (m : TickMeas) : Within [.regs, .grid, .adc, .pwm, .ctr, .twn, .snd] s (State.runTick s g rec i m) := by
  unfold State.runTick
  repeat' first
    | with_reducible exact Within.refl ..
    | with_reducible assumption
    | lift_lets
    | (intro x; refine Within.known (ps := [.regs, .grid, .adc, .pwm, .ctr, .twn, .snd]) (s := s) (x := x) ?_ ?_ <;> [(unfold x; clear x); (clear_value x; intro hx)])
    | (intro x; clear_value x)
    | with_reducible refine (State.rideCheck_in ..).thn (by decide) ?_
    | with_reducible refine (State.rideTimes_in ..).thn (by decide) ?_
    | with_reducible refine (State.governors_in ..).thn (by decide) ?_
    | with_reducible refine (State.steer_in ..).thn (by decide) ?_
    | with_reducible refine (State.powers_in ..).thn (by decide) ?_
    | with_reducible refine (State.heldTick_in ..).thn (by decide) ?_
    | with_reducible refine (State.rotor_in ..).thn (by decide) ?_
    | with_reducible refine (State.setSfld_in ..).thn (by decide) ?_
    | with_reducible refine (State.flux_in ..).thn (by decide) ?_
    | with_reducible refine (State.voltageTick_in ..).thn (by decide) ?_
    | with_reducible refine (State.magnitude_in ..).thn (by decide) ?_
    | with_reducible refine (State.syncTick_in ..).thn (by decide) ?_
    | with_reducible refine (State.gridTick_in ..).thn (by decide) ?_
    | with_reducible refine (State.holdTick_in ..).thn (by decide) ?_
    | with_reducible refine (State.stopTick_in ..).thn (by decide) ?_
    | split
    | dsimp only

theorem State.rotorTick_in (s : State) (g : Nat) (r : GroupRec) (m : TickMeas) : Within [.regs, .grid, .adc, .pwm, .ctr, .twn, .snd] s (State.rotorTick s g r m) := by
  unfold State.rotorTick
  repeat' first
    | with_reducible exact Within.refl ..
    | with_reducible assumption
    | lift_lets
    | (intro x; refine Within.known (ps := [.regs, .grid, .adc, .pwm, .ctr, .twn, .snd]) (s := s) (x := x) ?_ ?_ <;> [(unfold x; clear x); (clear_value x; intro hx)])
    | (intro x; clear_value x)
    | with_reducible refine (State.setGrp_in ..).thn (by decide) ?_
    | with_reducible refine (State.track_in ..).thn (by decide) ?_
    | with_reducible refine (State.busTick_in ..).thn (by decide) ?_
    | with_reducible refine (State.effTick_in ..).thn (by decide) ?_
    | with_reducible refine (State.runTick_in ..).thn (by decide) ?_
    | with_reducible refine (State.liveRegs_in ..).thn (by decide) ?_
    | split
    | dsimp only

end Sys2Proof.Machine
end

