-- ==== Sys2Proof/Laws/InCommitOps.lean ====
section
/-!
SUPPORT. What each operation of Machine/CommitOps.lean can change: one lemma per operation.
-/

set_option linter.unusedTactic false
set_option linter.unreachableTactic false

namespace Sys2Proof.Machine

theorem State.shadowsToCom_in (s : State) : Within [.regs, .drafts] s s.shadowsToCom :=
  Within.regsWf (Within.refl ..) (by decide) (by decide) fun w =>
    ⟨w.1, foldl_induct (P := TabRising) (fun _ _ h => h.put _ _) w.2.1, List.Pairwise.nil⟩

theorem State.dropCarries_in (t : State) (s : State) (g : Nat) : Within [.regs, .pwm] t (State.dropCarries t s g) := by
  unfold State.dropCarries
  repeat' first
    | with_reducible exact Within.refl ..
    | with_reducible assumption
    | lift_lets
    | (intro x; refine Within.known (ps := [.regs, .pwm]) (s := t) (x := x) ?_ ?_ <;> [(unfold x; clear x); (clear_value x; intro hx)])
    | (intro x; clear_value x)
    | with_reducible refine (State.setLeg_in ..).thn (by decide) ?_
    | with_reducible refine (State.setFld_in ..).thn (by decide) ?_
    | with_reducible refine Within.forIdx (fun _ _ _ => ?_) ?_
    | split
    | dsimp only

theorem State.takePwm_in (s : State) : Within [.regs, .drafts, .pwm] s (State.takePwm s) := by
  unfold State.takePwm
  repeat' first
    | with_reducible exact Within.refl ..
    | with_reducible assumption
    | lift_lets
    | (intro x; refine Within.known (ps := [.regs, .drafts, .pwm]) (s := s) (x := x) ?_ ?_ <;> [(unfold x; clear x); (clear_value x; intro hx)])
    | (intro x; clear_value x)
    | with_reducible refine (State.takeCom_in ..).thn (by decide) ?_
    | with_reducible refine (State.dropCarries_in ..).thn (by decide) ?_
    | with_reducible refine (State.setGcar_in ..).thn (by decide) ?_
    | with_reducible refine (State.setLeg_in ..).thn (by decide) ?_
    | with_reducible refine Within.forIdx (fun _ _ _ => ?_) ?_
    | split
    | dsimp only

theorem State.recastGroup_in (s : State) (T : Nat) (g : Nat) : Within [.pwm] s (State.recastGroup s T g) := by
  unfold State.recastGroup
  repeat' first
    | with_reducible exact Within.refl ..
    | with_reducible assumption
    | lift_lets
    | (intro x; refine Within.known (ps := [.pwm]) (s := s) (x := x) ?_ ?_ <;> [(unfold x; clear x); (clear_value x; intro hx)])
    | (intro x; clear_value x)
    | with_reducible refine (State.setGcar_in ..).thn (by decide) ?_
    | split
    | dsimp only

theorem State.recastOne_in (s : State) (T : Nat) (n : Nat) : Within [.pwm] s (State.recastOne s T n) := by
  unfold State.recastOne
  repeat' first
    | with_reducible exact Within.refl ..
    | with_reducible assumption
    | lift_lets
    | (intro x; refine Within.known (ps := [.pwm]) (s := s) (x := x) ?_ ?_ <;> [(unfold x; clear x); (clear_value x; intro hx)])
    | (intro x; clear_value x)
    | with_reducible refine (State.setLeg_in ..).thn (by decide) ?_
    | split
    | dsimp only

theorem State.recastUnused_in (s : State) (n : Nat) : Within [.pwm] s (State.recastUnused s n) := by
  unfold State.recastUnused
  repeat' first
    | with_reducible exact Within.refl ..
    | with_reducible assumption
    | lift_lets
    | (intro x; refine Within.known (ps := [.pwm]) (s := s) (x := x) ?_ ?_ <;> [(unfold x; clear x); (clear_value x; intro hx)])
    | (intro x; clear_value x)
    | with_reducible refine (State.setLeg_in ..).thn (by decide) ?_
    | split
    | dsimp only

theorem State.recastAll_in (t : State) (s : State) (T : Nat) : Within [.pwm] t (State.recastAll t s T) := by
  unfold State.recastAll
  repeat' first
    | with_reducible exact Within.refl ..
    | with_reducible assumption
    | lift_lets
    | (intro x; refine Within.known (ps := [.pwm]) (s := t) (x := x) ?_ ?_ <;> [(unfold x; clear x); (clear_value x; intro hx)])
    | (intro x; unfold x; clear x; try beta_reduce)
    | (intro x; clear_value x)
    | with_reducible refine (State.recastGroup_in ..).thn (by decide) ?_
    | with_reducible refine (State.recastOne_in ..).thn (by decide) ?_
    | with_reducible refine (State.recastUnused_in ..).thn (by decide) ?_
    | with_reducible refine Within.forIdx (fun _ _ _ => ?_) ?_
    | split
    | dsimp only

theorem State.relay_in (s : State) : Within [.pwm] s (State.relay s) := by
  unfold State.relay
  repeat' first
    | with_reducible exact Within.refl ..
    | with_reducible assumption
    | with_reducible refine (State.startCarriers_in ..).thn (by decide) ?_
    | split
    | dsimp only

theorem State.retime_in (t : State) (s : State) (T : Nat) : Within [.eng] t (State.retime t s T) := by
  unfold State.retime
  repeat' first
    | with_reducible exact Within.refl ..
    | with_reducible assumption
    | lift_lets
    | (intro x; refine Within.known (ps := [.eng]) (s := t) (x := x) ?_ ?_ <;> [(unfold x; clear x); (clear_value x; intro hx)])
    | (intro x; clear_value x)
    | with_reducible refine Within.forIdx (fun _ _ _ => ?_) ?_
    | fail_if_no_progress with_reducible refine Within.upd_eng ?_ (by decide)
    | split
    | dsimp only

theorem State.revalueZ_in (t : State) (s : State) (g : Nat) : Within [.regs, .grid, .snd] t (State.revalueZ t s g) := by
  unfold State.revalueZ
  repeat' first
    | with_reducible exact Within.refl ..
    | with_reducible assumption
    | lift_lets
    | (intro x; refine Within.known (ps := [.regs, .grid, .snd]) (s := t) (x := x) ?_ ?_ <;> [(unfold x; clear x); (clear_value x; intro hx)])
    | (intro x; clear_value x)
    | with_reducible refine (State.setEff_in ..).thn (by decide) ?_
    | with_reducible refine (State.setGen_in ..).thn (by decide) ?_
    | split
    | dsimp only

theorem State.resetRecorders_in (t : State) (s : State) : Within [.regs, .ctr] t (State.resetRecorders t s) := by
  unfold State.resetRecorders
  repeat' first
    | with_reducible exact Within.refl ..
    | with_reducible assumption
    | lift_lets
    | (intro x; refine Within.known (ps := [.regs, .ctr]) (s := t) (x := x) ?_ ?_ <;> [(unfold x; clear x); (clear_value x; intro hx)])
    | (intro x; unfold x; clear x; try beta_reduce)
    | (intro x; clear_value x)
    | with_reducible refine (State.setFld_in ..).thn (by decide) ?_
    | with_reducible refine (State.seqEnter_in ..).thn (by decide) ?_
    | with_reducible refine Within.forIdx (fun _ _ _ => ?_) ?_
    | split
    | dsimp only

theorem State.forgetCal_in (t : State) (s : State) : Within [.adc] t (State.forgetCal t s) := by
  unfold State.forgetCal
  repeat' first
    | with_reducible exact Within.refl ..
    | with_reducible assumption
    | lift_lets
    | (intro x; refine Within.known (ps := [.adc]) (s := t) (x := x) ?_ ?_ <;> [(unfold x; clear x); (clear_value x; intro hx)])
    | (intro x; unfold x; clear x; try beta_reduce)
    | (intro x; clear_value x)
    | fail_if_no_progress with_reducible refine Within.upd_adc ?_ (by decide)
    | split
    | dsimp only

theorem State.flip_in (s : State) : Within [.eng, .mem] s (State.flip s) := by
  unfold State.flip
  repeat' first
    | with_reducible exact Within.refl ..
    | with_reducible assumption
    | lift_lets
    | (intro x; refine Within.known (ps := [.eng, .mem]) (s := s) (x := x) ?_ ?_ <;> [(unfold x; clear x); (clear_value x; intro hx)])
    | (intro x; unfold x; clear x; try beta_reduce)
    | (intro x; clear_value x)
    | fail_if_no_progress with_reducible refine Within.upd_eng_mem ?_ (by decide) (by decide) ⟨rfl, rfl⟩
    | split
    | dsimp only

theorem State.dueBumps_in (s : State) : Within [.eng, .stg] s (State.dueBumps s) := by
  unfold State.dueBumps
  repeat' first
    | with_reducible exact Within.refl ..
    | with_reducible assumption
    | lift_lets
    | (intro x; refine Within.known (ps := [.eng, .stg]) (s := s) (x := x) ?_ ?_ <;> [(unfold x; clear x); (clear_value x; intro hx)])
    | (intro x; clear_value x)
    | with_reducible refine (State.setCtx_in ..).thn (by decide) ?_
    | with_reducible refine Within.foldl (fun _ _ _ => ?_) ?_
    | with_reducible refine Within.foldl1 (fun _ _ _ => ?_) ?_
    | with_reducible refine Within.foldl2 (fun _ _ _ => ?_) ?_
    | fail_if_no_progress with_reducible refine Within.upd_stg ?_ (by decide)
    | split
    | dsimp only

theorem State.retireRuns_in (s : State) : Within [.regs, .eng, .mem] s (State.retireRuns s) := by
  unfold State.retireRuns
  repeat' first
    | with_reducible exact Within.refl ..
    | with_reducible assumption
    | lift_lets
    | (intro x; refine Within.known (ps := [.regs, .eng, .mem]) (s := s) (x := x) ?_ ?_ <;> [(unfold x; clear x); (clear_value x; intro hx)])
    | (intro x; unfold x; clear x; try beta_reduce)
    | (intro x; clear_value x)
    | with_reducible refine (State.countN_in ..).thn (by decide) ?_
    | with_reducible refine (State.raise_in ..).thn (by decide) ?_
    | fail_if_no_progress with_reducible refine Within.upd_eng_mem ?_ (by decide) (by decide) ⟨rfl, rfl⟩
    | split
    | dsimp only

theorem State.bringCtx_in (t : State) (s : State) (i : Img) (r : CtxRec) : Within [.regs, .eng] t (State.bringCtx t s i r) := by
  unfold State.bringCtx
  repeat' first
    | with_reducible exact Within.refl ..
    | with_reducible assumption
    | lift_lets
    | (intro x; refine Within.known (ps := [.regs, .eng]) (s := t) (x := x) ?_ ?_ <;> [(unfold x; clear x); (clear_value x; intro hx)])
    | (intro x; clear_value x)
    | with_reducible refine (State.setFld_in ..).thn (by decide) ?_
    | with_reducible refine (State.setCtx_in ..).thn (by decide) ?_
    | with_reducible refine (State.loadInit_in ..).thn (by decide) ?_
    | with_reducible refine Within.foldl (fun _ _ _ => ?_) ?_
    | with_reducible refine Within.foldl1 (fun _ _ _ => ?_) ?_
    | with_reducible refine Within.foldl2 (fun _ _ _ => ?_) ?_
    | fail_if_no_progress with_reducible refine Within.upd_eng ?_ (by decide)
    | split
    | dsimp only

theorem State.bringChannel_in (t : State) (s : State) (i : Img) (c : Nat) : Within [.regs, .mem] t (State.bringChannel t s i c) := by
  unfold State.bringChannel
  repeat' first
    | with_reducible exact Within.refl ..
    | with_reducible assumption
    | lift_lets
    | (intro x; refine Within.known (ps := [.regs, .mem]) (s := t) (x := x) ?_ ?_ <;> [(unfold x; clear x); (clear_value x; intro hx)])
    | (intro x; clear_value x)
    | with_reducible refine (State.setFld_in ..).thn (by decide) ?_
    | with_reducible refine (State.setDch_in ..).thn (by decide) ?_
    | with_reducible refine (State.leaveQueue_in ..).thn (by decide) ?_
    | split
    | dsimp only

theorem State.bringTrips_in (t : State) (s : State) : Within [.regs, .pwm, .trp] t (State.bringTrips t s) := by
  unfold State.bringTrips
  repeat' first
    | with_reducible exact Within.refl ..
    | with_reducible assumption
    | lift_lets
    | (intro x; refine Within.known (ps := [.regs, .pwm, .trp]) (s := t) (x := x) ?_ ?_ <;> [(unfold x; clear x); (clear_value x; intro hx)])
    | (intro x; clear_value x)
    | with_reducible refine (State.settleForcing_in ..).thn (by decide) ?_
    | with_reducible refine (State.forceLeg_in ..).thn (by decide) ?_
    | with_reducible refine Within.forIdx (fun _ _ _ => ?_) ?_
    | fail_if_no_progress with_reducible refine Within.upd_trp ?_ (by decide)
    | split
    | dsimp only

theorem State.takeSlot_in (t : State) : Within [.regs] t (State.takeSlot t) := by
  unfold State.takeSlot
  repeat' first
    | with_reducible exact Within.refl ..
    | with_reducible assumption
    | with_reducible refine (State.setFld_in ..).thn (by decide) ?_
    | split
    | dsimp only

theorem State.nameImage_in (t : State) (i : Img) : Within [.regs] t (State.nameImage t i) := by
  unfold State.nameImage
  repeat' first
    | with_reducible exact Within.refl ..
    | with_reducible assumption
    | with_reducible refine (State.setFld_in ..).thn (by decide) ?_
    | split
    | dsimp only

theorem State.swapImage_in (s : State) (T : Nat) : Within [.regs, .eng, .stg, .pwm, .trp, .mem] s (State.swapImage s T) := by
  unfold State.swapImage
  repeat' first
    | with_reducible exact Within.refl ..
    | with_reducible assumption
    | lift_lets
    | (intro x; refine Within.known (ps := [.regs, .eng, .stg, .pwm, .trp, .mem]) (s := s) (x := x) ?_ ?_ <;> [(unfold x; clear x); (clear_value x; intro hx)])
    | (intro x; clear_value x)
    | with_reducible refine (State.retireRuns_in ..).thn (by decide) ?_
    | with_reducible refine (State.bringCtx_in ..).thn (by decide) ?_
    | with_reducible refine (State.bringChannel_in ..).thn (by decide) ?_
    | with_reducible refine (State.bringTrips_in ..).thn (by decide) ?_
    | with_reducible refine (State.nameImage_in ..).thn (by decide) ?_
    | with_reducible refine (State.takeSlot_in ..).thn (by decide) ?_
    | with_reducible refine (State.setFld_in ..).thn (by decide) ?_
    | with_reducible refine (State.stamp_in ..).thn (by decide) ?_
    | with_reducible refine Within.foldl (fun _ _ _ => ?_) ?_
    | with_reducible refine Within.foldl1 (fun _ _ _ => ?_) ?_
    | with_reducible refine Within.foldl2 (fun _ _ _ => ?_) ?_
    | with_reducible refine Within.forIdx (fun _ _ _ => ?_) ?_
    | fail_if_no_progress with_reducible refine Within.upd_eng ?_ (by decide)
    | fail_if_no_progress with_reducible refine Within.upd_eng_stg ?_ (by decide) (by decide)
    | split
    | dsimp only

theorem State.stgRest_in (s : State) : Within [.regs] s (State.stgRest s) := by
  unfold State.stgRest
  repeat' first
    | with_reducible exact Within.refl ..
    | with_reducible assumption
    | with_reducible refine (State.setFld_in ..).thn (by decide) ?_
    | split
    | dsimp only

theorem State.applyCommit_in (s : State) (T : Nat) : Within [.regs, .drafts, .grid, .eng, .stg, .clk, .adc, .pwm, .drv, .trp, .ctr, .mem, .twn, .sec, .snd, .host] s (State.applyCommit s T) := by
  unfold State.applyCommit
  repeat' first
    | with_reducible exact Within.refl ..
    | with_reducible assumption
    | lift_lets
    | (intro x; refine Within.known (ps := [.regs, .drafts, .grid, .eng, .stg, .clk, .adc, .pwm, .drv, .trp, .ctr, .mem, .twn, .sec, .snd, .host]) (s := s) (x := x) ?_ ?_ <;> [(unfold x; clear x); (clear_value x; intro hx)])
    | (intro x; clear_value x)
    | with_reducible refine (State.calChange_in ..).thn (by decide) ?_
    | with_reducible refine (State.sealOp_in ..).thn (by decide) ?_
    | with_reducible refine (State.swapImage_in ..).thn (by decide) ?_
    | with_reducible refine (State.shadowsToCom_in ..).thn (by decide) ?_
    | with_reducible refine (State.takeCom_in ..).thn (by decide) ?_
    | with_reducible refine (State.flip_in ..).thn (by decide) ?_
    | with_reducible refine (State.recastAll_in ..).thn (by decide) ?_
    | with_reducible refine (State.retime_in ..).thn (by decide) ?_
    | with_reducible refine (State.resetRecorders_in ..).thn (by decide) ?_
    | with_reducible refine (State.forgetCal_in ..).thn (by decide) ?_
    | with_reducible refine (State.revalueZ_in ..).thn (by decide) ?_
    | with_reducible refine (State.dueBumps_in ..).thn (by decide) ?_
    | with_reducible refine (State.takePwm_in ..).thn (by decide) ?_
    | with_reducible refine (State.relay_in ..).thn (by decide) ?_
    | with_reducible refine (State.followCommit_in ..).thn (by decide) ?_
    | with_reducible refine (State.brkAll_in ..).thn (by decide) ?_
    | with_reducible refine (State.takeDigests_in ..).thn (by decide) ?_
    | with_reducible refine (State.stamp_in ..).thn (by decide) ?_
    | with_reducible refine (State.raise_in ..).thn (by decide) ?_
    | with_reducible refine (State.count_in ..).thn (by decide) ?_
    | with_reducible refine (State.stgRest_in ..).thn (by decide) ?_
    | with_reducible refine Within.forIdx (fun _ _ _ => ?_) ?_
    | fail_if_no_progress with_reducible refine Within.upd_stg ?_ (by decide)
    | split
    | dsimp only

theorem State.noteDrain_in (s : State) : Within [.stg] s (State.noteDrain s) := by
  unfold State.noteDrain
  repeat' first
    | with_reducible exact Within.refl ..
    | with_reducible assumption
    | lift_lets
    | (intro x; refine Within.known (ps := [.stg]) (s := s) (x := x) ?_ ?_ <;> [(unfold x; clear x); (clear_value x; intro hx)])
    | (intro x; clear_value x)
    | fail_if_no_progress with_reducible refine Within.upd_stg ?_ (by decide)
    | split
    | dsimp only

end Sys2Proof.Machine
end

