-- ==== Sys2Proof/Laws/InAdcOps.lean ====
section
/-!
SUPPORT. What each operation of Machine/AdcOps.lean can change: one lemma per operation.
-/

set_option linter.unusedTactic false
set_option linter.unreachableTactic false

namespace Sys2Proof.Machine

theorem State.releaseHeld_in (s : State) (c : Nat) : Within [.adc] s (State.releaseHeld s c) := by
  unfold State.releaseHeld
  repeat' first
    | with_reducible exact Within.refl ..
    | with_reducible assumption
    | lift_lets
    | (intro x; refine Within.known (ps := [.adc]) (s := s) (x := x) ?_ ?_ <;> [(unfold x; clear x); (clear_value x; intro hx)])
    | (intro x; clear_value x)
    | with_reducible refine (State.setConv_in ..).thn (by decide) ?_
    | with_reducible refine Within.foldl (fun _ _ _ => ?_) ?_
    | with_reducible refine Within.foldl1 (fun _ _ _ => ?_) ?_
    | with_reducible refine Within.foldl2 (fun _ _ _ => ?_) ?_
    | fail_if_no_progress with_reducible refine Within.upd_adc ?_ (by decide)
    | split
    | dsimp only

theorem State.beginSeq_in (s0 : State) (c : Nat) (t : Nat) (inj : Bool) : Within [.adc] s0 (State.beginSeq s0 c t inj) := by
  unfold State.beginSeq
  repeat' first
    | with_reducible exact Within.refl ..
    | with_reducible assumption
    | lift_lets
    | (intro x; refine Within.known (ps := [.adc]) (s := s0) (x := x) ?_ ?_ <;> [(unfold x; clear x); (clear_value x; intro hx)])
    | (intro x; clear_value x)
    | with_reducible refine (State.releaseHeld_in ..).thn (by decide) ?_
    | with_reducible refine (State.setConv_in ..).thn (by decide) ?_
    | split
    | dsimp only

theorem State.endSeq_in (s : State) (c : Nat) : Within [.adc] s (State.endSeq s c) := by
  unfold State.endSeq
  repeat' first
    | with_reducible exact Within.refl ..
    | with_reducible assumption
    | lift_lets
    | (intro x; refine Within.known (ps := [.adc]) (s := s) (x := x) ?_ ?_ <;> [(unfold x; clear x); (clear_value x; intro hx)])
    | (intro x; clear_value x)
    | with_reducible refine (State.releaseHeld_in ..).thn (by decide) ?_
    | with_reducible refine (State.setConv_in ..).thn (by decide) ?_
    | with_reducible refine (State.beginSeq_in ..).thn (by decide) ?_
    | split
    | dsimp only

theorem State.convCheck_in (s : State) (c : Nat) (failed : Bool) : Within [.regs, .adc] s (State.convCheck s c failed) := by
  unfold State.convCheck
  repeat' first
    | with_reducible exact Within.refl ..
    | with_reducible assumption
    | lift_lets
    | (intro x; refine Within.known (ps := [.regs, .adc]) (s := s) (x := x) ?_ ?_ <;> [(unfold x; clear x); (clear_value x; intro hx)])
    | (intro x; clear_value x)
    | with_reducible refine (State.raiseBit_in ..).thn (by decide) ?_
    | with_reducible refine (State.raise_in ..).thn (by decide) ?_
    | with_reducible refine (State.setFld_in ..).thn (by decide) ?_
    | with_reducible refine (State.setConv_in ..).thn (by decide) ?_
    | split
    | dsimp only

theorem State.tagRun_in (s : State) (c : Nat) (x : Sampled) : Within [.adc] s (State.tagRun s c x) := by
  unfold State.tagRun
  repeat' first
    | with_reducible exact Within.refl ..
    | with_reducible assumption
    | lift_lets
    | (intro x; refine Within.known (ps := [.adc]) (s := s) (x := x) ?_ ?_ <;> [(unfold x; clear x); (clear_value x; intro hx)])
    | (intro x; clear_value x)
    | with_reducible refine (State.setConv_in ..).thn (by decide) ?_
    | split
    | dsimp only

theorem State.overRange_in (s : State) (i : Option Nat) (x : Sampled) : Within [.regs] s (State.overRange s i x) := by
  unfold State.overRange
  repeat' first
    | with_reducible exact Within.refl ..
    | with_reducible assumption
    | lift_lets
    | (intro x; refine Within.known (ps := [.regs]) (s := s) (x := x) ?_ ?_ <;> [(unfold x; clear x); (clear_value x; intro hx)])
    | (intro x; clear_value x)
    | with_reducible refine (State.count_in ..).thn (by decide) ?_
    | with_reducible refine (State.raise_in ..).thn (by decide) ?_
    | with_reducible refine (State.raiseBit_in ..).thn (by decide) ?_
    | split
    | dsimp only

theorem State.openTest_in (s : State) (c : Nat) (x : Nat) (m : Sample) (failing : Bool) : Within [.regs] s (State.openTest s c x m failing) := by
  unfold State.openTest
  repeat' first
    | with_reducible exact Within.refl ..
    | with_reducible assumption
    | lift_lets
    | (intro x; refine Within.known (ps := [.regs]) (s := s) (x := x) ?_ ?_ <;> [(unfold x; clear x); (clear_value x; intro hx)])
    | (intro x; clear_value x)
    | with_reducible refine (State.raiseBit_in ..).thn (by decide) ?_
    | with_reducible refine (State.raise_in ..).thn (by decide) ?_
    | with_reducible refine (State.setFld_in ..).thn (by decide) ?_
    | split
    | dsimp only

theorem State.calTake_in (s : State) (e : Nat) (x : EntryRun) : Within [.adc] s (State.calTake s e x) := by
  unfold State.calTake
  repeat' first
    | with_reducible exact Within.refl ..
    | with_reducible assumption
    | lift_lets
    | (intro x; refine Within.known (ps := [.adc]) (s := s) (x := x) ?_ ?_ <;> [(unfold x; clear x); (clear_value x; intro hx)])
    | (intro x; clear_value x)
    | fail_if_no_progress with_reducible refine Within.upd_adc ?_ (by decide)
    | split
    | dsimp only

theorem State.finishEntry_in (s : State) (c : Nat) (r : EntRec) (x : EntryRun) (stamp : Nat) : Within [.regs, .adc] s (State.finishEntry s c r x stamp) := by
  unfold State.finishEntry
  repeat' first
    | with_reducible exact Within.refl ..
    | with_reducible assumption
    | lift_lets
    | (intro x; refine Within.known (ps := [.regs, .adc]) (s := s) (x := x) ?_ ?_ <;> [(unfold x; clear x); (clear_value x; intro hx)])
    | (intro x; clear_value x)
    | with_reducible refine (State.stamp_in ..).thn (by decide) ?_
    | with_reducible refine (State.calTake_in ..).thn (by decide) ?_
    | with_reducible refine (State.setConv_in ..).thn (by decide) ?_
    | fail_if_no_progress with_reducible refine Within.upd_adc ?_ (by decide)
    | split
    | dsimp only

theorem State.collect_in (s : State) (c : Nat) (w : Nat) (k : Nat) (m : Sample) (xtalk : Bool) (pllsw : Bool) (opn : Bool) : Within [.regs, .adc] s (State.collect s c w k m xtalk pllsw opn) := by
  unfold State.collect
  repeat' first
    | with_reducible exact Within.refl ..
    | with_reducible assumption
    | lift_lets
    | (intro x; refine Within.known (ps := [.regs, .adc]) (s := s) (x := x) ?_ ?_ <;> [(unfold x; clear x); (clear_value x; intro hx)])
    | (intro x; clear_value x)
    | with_reducible refine (State.finishEntry_in ..).thn (by decide) ?_
    | fail_if_no_progress with_reducible refine Within.upd_adc ?_ (by decide)
    | split
    | dsimp only

theorem State.convert_in (s : State) (c : Nat) (k : Nat) (x : Sampled) : Within [.regs, .adc] s (State.convert s c k x) := by
  unfold State.convert
  repeat' first
    | with_reducible exact Within.refl ..
    | with_reducible assumption
    | lift_lets
    | (intro x; refine Within.known (ps := [.regs, .adc]) (s := s) (x := x) ?_ ?_ <;> [(unfold x; clear x); (clear_value x; intro hx)])
    | (intro x; clear_value x)
    | with_reducible refine (State.convCheck_in ..).thn (by decide) ?_
    | with_reducible refine (State.overRange_in ..).thn (by decide) ?_
    | with_reducible refine (State.tagRun_in ..).thn (by decide) ?_
    | with_reducible refine (State.openTest_in ..).thn (by decide) ?_
    | with_reducible refine (State.collect_in ..).thn (by decide) ?_
    | fail_if_no_progress with_reducible refine Within.upd_adc ?_ (by decide)
    | split
    | dsimp only

theorem State.streamPush_in (s : State) (c : Nat) (x : Item) (v : Nat) : Within [.regs, .adc] s (State.streamPush s c x v) := by
  unfold State.streamPush
  repeat' first
    | with_reducible exact Within.refl ..
    | with_reducible assumption
    | lift_lets
    | (intro x; refine Within.known (ps := [.regs, .adc]) (s := s) (x := x) ?_ ?_ <;> [(unfold x; clear x); (clear_value x; intro hx)])
    | (intro x; clear_value x)
    | with_reducible refine (State.stamp_in ..).thn (by decide) ?_
    | with_reducible refine (State.count_in ..).thn (by decide) ?_
    | with_reducible refine (State.raiseBit_in ..).thn (by decide) ?_
    | with_reducible refine (State.raise_in ..).thn (by decide) ?_
    | with_reducible refine (State.setConv_in ..).thn (by decide) ?_
    | fail_if_no_progress with_reducible refine Within.upd_adc ?_ (by decide)
    | split
    | dsimp only

theorem State.showResult_in (s : State) (x : Item) : Within [.regs] s (State.showResult s x) := by
  unfold State.showResult
  repeat' first
    | with_reducible exact Within.refl ..
    | with_reducible assumption
    | lift_lets
    | (intro x; refine Within.known (ps := [.regs]) (s := s) (x := x) ?_ ?_ <;> [(unfold x; clear x); (clear_value x; intro hx)])
    | (intro x; clear_value x)
    | with_reducible refine (State.setFld_in ..).thn (by decide) ?_
    | split
    | dsimp only

theorem State.burstSample_in (s : State) (e : Nat) (bad : Bool) : Within [.regs, .adc, .snd] s (State.burstSample s e bad) := by
  unfold State.burstSample
  repeat' first
    | with_reducible exact Within.refl ..
    | with_reducible assumption
    | lift_lets
    | (intro x; refine Within.known (ps := [.regs, .adc, .snd]) (s := s) (x := x) ?_ ?_ <;> [(unfold x; clear x); (clear_value x; intro hx)])
    | (intro x; clear_value x)
    | with_reducible refine (State.abandonBurst_in ..).thn (by decide) ?_
    | with_reducible refine Within.forIdx (fun _ _ _ => ?_) ?_
    | split
    | dsimp only

theorem State.deliverItem_in (s : State) (c : Nat) (x : Item) : Within [.regs, .grid, .eng, .adc, .pwm, .ctr, .twn, .snd] s (State.deliverItem s c x) := by
  unfold State.deliverItem
  repeat' first
    | with_reducible exact Within.refl ..
    | with_reducible assumption
    | lift_lets
    | (intro x; refine Within.known (ps := [.regs, .grid, .eng, .adc, .pwm, .ctr, .twn, .snd]) (s := s) (x := x) ?_ ?_ <;> [(unfold x; clear x); (clear_value x; intro hx)])
    | (intro x; clear_value x)
    | with_reducible refine (State.showResult_in ..).thn (by decide) ?_
    | with_reducible refine (State.raiseBit_in ..).thn (by decide) ?_
    | with_reducible refine (State.raise_in ..).thn (by decide) ?_
    | with_reducible refine (State.brkResult_in ..).thn (by decide) ?_
    | with_reducible refine (State.toDest_in ..).thn (by decide) ?_
    | with_reducible refine (State.burstSample_in ..).thn (by decide) ?_
    | with_reducible refine (State.probeSource_in ..).thn (by decide) ?_
    | with_reducible refine (State.stamp_in ..).thn (by decide) ?_
    | with_reducible refine (State.streamPush_in ..).thn (by decide) ?_
    | with_reducible refine (State.triggerAll_in ..).thn (by decide) ?_
    | with_reducible refine Within.foldl (fun _ _ _ => ?_) ?_
    | with_reducible refine Within.foldl1 (fun _ _ _ => ?_) ?_
    | with_reducible refine Within.foldl2 (fun _ _ _ => ?_) ?_
    | fail_if_no_progress with_reducible refine Within.upd_adc ?_ (by decide)
    | split
    | dsimp only

end Sys2Proof.Machine
end

