-- ==== Sys2Proof/Laws/InCommitRows.lean ====
section
/-!
SUPPORT. What each operation of Machine/CommitRows.lean can change: one lemma per operation.
-/

set_option linter.unusedTactic false
set_option linter.unreachableTactic false

namespace Sys2Proof.Machine

theorem State.survFail_in (s : State) (image : Bool) (f : SurvFail) : Within [.regs] s (State.survFail s image f) := by
  unfold State.survFail
  repeat' first
    | with_reducible exact Within.refl ..
    | with_reducible assumption
    | lift_lets
    | (intro x; refine Within.known (ps := [.regs]) (s := s) (x := x) ?_ ?_ <;> [(unfold x; clear x); (clear_value x; intro hx)])
    | (intro x; clear_value x)
    | with_reducible refine (State.setFld_in ..).thn (by decide) ?_
    | with_reducible refine (State.raise_in ..).thn (by decide) ?_
    | split
    | dsimp only

theorem Surv.figures_in (v : Surv) (t : State) : Within [.regs] t (Surv.figures v t) := by
  unfold Surv.figures
  repeat' first
    | with_reducible exact Within.refl ..
    | with_reducible assumption
    | lift_lets
    | (intro x; refine Within.known (ps := [.regs]) (s := t) (x := x) ?_ ?_ <;> [(unfold x; clear x); (clear_value x; intro hx)])
    | (intro x; refine Within.known (ps := [.regs]) (s := t) (x := x.2) ?_ ?_ <;> [(unfold x; clear x); (clear_value x; intro hx)])
    | (intro x; clear_value x)
    | with_reducible refine (State.setFld_in ..).thn (by decide) ?_
    | with_reducible refine (State.drawFree_in ..).thn (by decide) ?_
    | with_reducible refine Within.foldl (fun _ _ _ => ?_) ?_
    | with_reducible refine Within.foldl1 (fun _ _ _ => ?_) ?_
    | with_reducible refine Within.foldl2 (fun _ _ _ => ?_) ?_
    | with_reducible refine Within.forIdx (fun _ _ _ => ?_) ?_
    | split
    | dsimp only

theorem State.survPass_in (s : State) (v : Surv) : Within [.regs, .eng, .stg, .mem] s (State.survPass s v) := by
  unfold State.survPass
  repeat' first
    | with_reducible exact Within.refl ..
    | with_reducible assumption
    | lift_lets
    | (intro x; refine Within.known (ps := [.regs, .eng, .stg, .mem]) (s := s) (x := x) ?_ ?_ <;> [(unfold x; clear x); (clear_value x; intro hx)])
    | (intro x; clear_value x)
    | with_reducible refine (State.setFld_in ..).thn (by decide) ?_
    | with_reducible refine (Surv.figures_in ..).thn (by decide) ?_
    | with_reducible refine (State.raise_in ..).thn (by decide) ?_
    | with_reducible refine (State.mirrorFill_in ..).thn (by decide) ?_
    | fail_if_no_progress with_reducible refine Within.upd_eng_stg ?_ (by decide) (by decide)
    | split
    | dsimp only

theorem State.imageVerify_in (s : State) (p : Port) (slot : Nat) : Within [.regs] s (State.imageVerify s p slot) := by
  unfold State.imageVerify
  repeat' first
    | with_reducible exact Within.refl ..
    | with_reducible assumption
    | lift_lets
    | (intro x; refine Within.known (ps := [.regs]) (s := s) (x := x) ?_ ?_ <;> [(unfold x; clear x); (clear_value x; intro hx)])
    | (intro x; clear_value x)
    | with_reducible refine (State.refuse_in ..).thn (by decide) ?_
    | with_reducible refine (State.setFld_in ..).thn (by decide) ?_
    | split
    | dsimp only

theorem State.verifyFail_in (s : State) (result : Nat) (sheet : Nat) : Within [.regs] s (State.verifyFail s result sheet) := by
  unfold State.verifyFail
  repeat' first
    | with_reducible exact Within.refl ..
    | with_reducible assumption
    | with_reducible refine (State.setFld_in ..).thn (by decide) ?_
    | with_reducible refine (State.raise_in ..).thn (by decide) ?_
    | split
    | dsimp only

theorem State.verifySlot_in (s : State) : Within [.regs, .eng, .stg, .mem] s (State.verifySlot s) := by
  unfold State.verifySlot
  repeat' first
    | with_reducible exact Within.refl ..
    | with_reducible assumption
    | lift_lets
    | (intro x; refine Within.known (ps := [.regs, .eng, .stg, .mem]) (s := s) (x := x) ?_ ?_ <;> [(unfold x; clear x); (clear_value x; intro hx)])
    | (intro x; refine Within.known (ps := [.regs, .eng, .stg, .mem]) (s := s) (x := x.1) ?_ ?_ <;> [(unfold x; clear x); (clear_value x; intro hx)])
    | (intro x; clear_value x)
    | with_reducible refine (State.checkImage_in ..).thn (by decide) ?_
    | with_reducible refine (State.verifyFail_in ..).thn (by decide) ?_
    | with_reducible refine (State.survFail_in ..).thn (by decide) ?_
    | with_reducible refine (State.survPass_in ..).thn (by decide) ?_
    | with_reducible refine (State.setFld_in ..).thn (by decide) ?_
    | fail_if_no_progress with_reducible refine Within.upd_stg ?_ (by decide)
    | split
    | dsimp only

theorem State.loadNext_in (s : State) : Within [.regs, .stg] s (State.loadNext s) := by
  unfold State.loadNext
  repeat' first
    | with_reducible exact Within.refl ..
    | with_reducible assumption
    | lift_lets
    | (intro x; refine Within.known (ps := [.regs, .stg]) (s := s) (x := x) ?_ ?_ <;> [(unfold x; clear x); (clear_value x; intro hx)])
    | (intro x; clear_value x)
    | with_reducible refine (State.setFld_in ..).thn (by decide) ?_
    | fail_if_no_progress with_reducible refine Within.upd_stg ?_ (by decide)
    | split
    | dsimp only

theorem State.imageDiscard_in (s : State) (p : Port) : Within [.regs, .stg] s (State.imageDiscard s p) := by
  unfold State.imageDiscard
  repeat' first
    | with_reducible exact Within.refl ..
    | with_reducible assumption
    | lift_lets
    | (intro x; refine Within.known (ps := [.regs, .stg]) (s := s) (x := x) ?_ ?_ <;> [(unfold x; clear x); (clear_value x; intro hx)])
    | (intro x; clear_value x)
    | with_reducible refine (State.setFld_in ..).thn (by decide) ?_
    | with_reducible refine (State.refuse_in ..).thn (by decide) ?_
    | fail_if_no_progress with_reducible refine Within.upd_stg ?_ (by decide)
    | split
    | dsimp only

theorem State.swapComplete_in (s : State) : Within [.regs, .eng, .stg, .twn] s (State.swapComplete s) := by
  unfold State.swapComplete
  repeat' first
    | with_reducible exact Within.refl ..
    | with_reducible assumption
    | lift_lets
    | (intro x; refine Within.known (ps := [.regs, .eng, .stg, .twn]) (s := s) (x := x) ?_ ?_ <;> [(unfold x; clear x); (clear_value x; intro hx)])
    | (intro x; clear_value x)
    | with_reducible refine (State.takeSlot_in ..).thn (by decide) ?_
    | with_reducible refine (State.takeDigests_in ..).thn (by decide) ?_
    | with_reducible refine (State.setFld_in ..).thn (by decide) ?_
    | with_reducible refine (State.raise_in ..).thn (by decide) ?_
    | with_reducible refine (State.count_in ..).thn (by decide) ?_
    | fail_if_no_progress with_reducible refine Within.upd_eng_stg ?_ (by decide) (by decide)
    | split
    | dsimp only

theorem State.startSurvey_in (s : State) (go : Bool) : Within [.regs, .stg] s (State.startSurvey s go) := by
  unfold State.startSurvey
  repeat' first
    | with_reducible exact Within.refl ..
    | with_reducible assumption
    | lift_lets
    | (intro x; refine Within.known (ps := [.regs, .stg]) (s := s) (x := x) ?_ ?_ <;> [(unfold x; clear x); (clear_value x; intro hx)])
    | (intro x; clear_value x)
    | with_reducible refine (State.setFld_in ..).thn (by decide) ?_
    | fail_if_no_progress with_reducible refine Within.upd_stg ?_ (by decide)
    | split
    | dsimp only

theorem State.survey_in (s : State) (p : Port) : Within [.regs, .stg] s (State.survey s p) := by
  unfold State.survey
  repeat' first
    | with_reducible exact Within.refl ..
    | with_reducible assumption
    | with_reducible refine (State.startSurvey_in ..).thn (by decide) ?_
    | with_reducible refine (State.refuse_in ..).thn (by decide) ?_
    | split
    | dsimp only

theorem State.commitGo_in (s : State) (p : Port) : Within [.regs, .stg] s (State.commitGo s p) := by
  unfold State.commitGo
  repeat' first
    | with_reducible exact Within.refl ..
    | with_reducible assumption
    | lift_lets
    | (intro x; refine Within.known (ps := [.regs, .stg]) (s := s) (x := x) ?_ ?_ <;> [(unfold x; clear x); (clear_value x; intro hx)])
    | (intro x; clear_value x)
    | with_reducible refine (State.startSurvey_in ..).thn (by decide) ?_
    | with_reducible refine (State.refuse_in ..).thn (by decide) ?_
    | split
    | dsimp only

theorem State.surveyDone_in (s : State) : Within [.regs, .eng, .stg, .mem] s (State.surveyDone s) := by
  unfold State.surveyDone
  repeat' first
    | with_reducible exact Within.refl ..
    | with_reducible assumption
    | lift_lets
    | (intro x; refine Within.known (ps := [.regs, .eng, .stg, .mem]) (s := s) (x := x) ?_ ?_ <;> [(unfold x; clear x); (clear_value x; intro hx)])
    | (intro x; clear_value x)
    | with_reducible refine (State.survFail_in ..).thn (by decide) ?_
    | with_reducible refine (State.stgRest_in ..).thn (by decide) ?_
    | with_reducible refine (State.survPass_in ..).thn (by decide) ?_
    | with_reducible refine (State.setFld_in ..).thn (by decide) ?_
    | with_reducible refine (State.raise_in ..).thn (by decide) ?_
    | with_reducible refine (State.stamp_in ..).thn (by decide) ?_
    | fail_if_no_progress with_reducible refine Within.upd_stg ?_ (by decide)
    | split
    | dsimp only

theorem State.draftDiscard_in (s : State) (p : Port) : Within [.regs, .drafts, .stg] s (State.draftDiscard s p) := by
  unfold State.draftDiscard
  split
  · dsimp only
    refine (State.setFld_in ..).thn (by decide) ((State.setFld_in ..).thn (by decide) ?_)
    have h : Within [.regs, .drafts, .stg] s { s with regs := { s.regs with shadow := [] } } :=
      Within.regsWf (Within.refl ..) (by decide) (by decide) fun w => ⟨w.1, w.2.1, List.Pairwise.nil⟩
    exact Within.upd_stg h (by decide)
  · split
    · exact Within.upd_stg ((State.setFld_in ..).mono (by decide)) (by decide)
    · exact (State.refuse_in ..).mono (by decide)

theorem State.cdraftAppend_in (s : State) (p : Port) (w : Nat) : Within [.regs, .stg] s (State.cdraftAppend s p w) := by
  unfold State.cdraftAppend
  repeat' first
    | with_reducible exact Within.refl ..
    | with_reducible assumption
    | lift_lets
    | (intro x; refine Within.known (ps := [.regs, .stg]) (s := s) (x := x) ?_ ?_ <;> [(unfold x; clear x); (clear_value x; intro hx)])
    | (intro x; clear_value x)
    | with_reducible refine (State.refuse_in ..).thn (by decide) ?_
    | with_reducible refine (State.setFld_in ..).thn (by decide) ?_
    | fail_if_no_progress with_reducible refine Within.upd_stg ?_ (by decide)
    | split
    | dsimp only

theorem State.cdraftClear_in (s : State) (p : Port) : Within [.regs, .stg] s (State.cdraftClear s p) := by
  unfold State.cdraftClear
  repeat' first
    | with_reducible exact Within.refl ..
    | with_reducible assumption
    | lift_lets
    | (intro x; refine Within.known (ps := [.regs, .stg]) (s := s) (x := x) ?_ ?_ <;> [(unfold x; clear x); (clear_value x; intro hx)])
    | (intro x; clear_value x)
    | with_reducible refine (State.refuse_in ..).thn (by decide) ?_
    | with_reducible refine (State.setFld_in ..).thn (by decide) ?_
    | with_reducible refine (State.stgRest_in ..).thn (by decide) ?_
    | fail_if_no_progress with_reducible refine Within.upd_stg ?_ (by decide)
    | split
    | dsimp only

theorem State.deferCommit_in (s : State) : Within [.regs, .stg] s (State.deferCommit s) := by
  unfold State.deferCommit
  repeat' first
    | with_reducible exact Within.refl ..
    | with_reducible assumption
    | lift_lets
    | (intro x; refine Within.known (ps := [.regs, .stg]) (s := s) (x := x) ?_ ?_ <;> [(unfold x; clear x); (clear_value x; intro hx)])
    | (intro x; clear_value x)
    | with_reducible refine (State.setFld_in ..).thn (by decide) ?_
    | with_reducible refine (State.raise_in ..).thn (by decide) ?_
    | with_reducible refine (State.count_in ..).thn (by decide) ?_
    | fail_if_no_progress with_reducible refine Within.upd_stg ?_ (by decide)
    | split
    | dsimp only

theorem State.applyDue_in (s : State) : Within [.regs, .drafts, .grid, .eng, .stg, .clk, .adc, .pwm, .drv, .trp, .ctr, .mem, .twn, .sec, .snd, .host] s (State.applyDue s) := by
  unfold State.applyDue
  repeat' first
    | with_reducible exact Within.refl ..
    | with_reducible assumption
    | with_reducible refine (State.deferCommit_in ..).thn (by decide) ?_
    | with_reducible refine (State.applyCommit_in ..).thn (by decide) ?_
    | with_reducible refine (State.setFld_in ..).thn (by decide) ?_
    | split
    | dsimp only

theorem State.commitApply_in (s : State) : Within [.regs, .drafts, .grid, .eng, .stg, .clk, .adc, .pwm, .drv, .trp, .ctr, .mem, .twn, .sec, .snd, .host] s (State.commitApply s) := by
  unfold State.commitApply
  repeat' first
    | with_reducible exact Within.refl ..
    | with_reducible assumption
    | lift_lets
    | (intro x; refine Within.known (ps := [.regs, .drafts, .grid, .eng, .stg, .clk, .adc, .pwm, .drv, .trp, .ctr, .mem, .twn, .sec, .snd, .host]) (s := s) (x := x) ?_ ?_ <;> [(unfold x; clear x); (clear_value x; intro hx)])
    | (intro x; clear_value x)
    | with_reducible refine (State.noteDrain_in ..).thn (by decide) ?_
    | with_reducible refine (State.setFld_in ..).thn (by decide) ?_
    | with_reducible refine (State.raise_in ..).thn (by decide) ?_
    | with_reducible refine (State.applyDue_in ..).thn (by decide) ?_
    | fail_if_no_progress with_reducible refine Within.upd_stg ?_ (by decide)
    | split
    | dsimp only

theorem State.domainA_in (s : State) : Within [.regs, .drafts, .adc] s (State.domainA s) := by
  unfold State.domainA
  repeat' first
    | with_reducible exact Within.refl ..
    | with_reducible assumption
    | lift_lets
    | (intro x; refine Within.known (ps := [.regs, .drafts, .adc]) (s := s) (x := x) ?_ ?_ <;> [(unfold x; clear x); (clear_value x; intro hx)])
    | (intro x; unfold x; clear x; try beta_reduce)
    | (intro x; clear_value x)
    | with_reducible refine (State.takeCom_in ..).thn (by decide) ?_
    | fail_if_no_progress with_reducible refine Within.upd_adc ?_ (by decide)
    | split
    | dsimp only

theorem State.domainM_in (s : State) : Within [.regs, .drafts, .mem] s (State.domainM s) := by
  unfold State.domainM
  repeat' first
    | with_reducible exact Within.refl ..
    | with_reducible assumption
    | lift_lets
    | (intro x; refine Within.known (ps := [.regs, .drafts, .mem]) (s := s) (x := x) ?_ ?_ <;> [(unfold x; clear x); (clear_value x; intro hx)])
    | (intro x; unfold x; clear x; try beta_reduce)
    | (intro x; clear_value x)
    | with_reducible refine (State.takeCom_in ..).thn (by decide) ?_
    | with_reducible refine (State.setDch_in ..).thn (by decide) ?_
    | with_reducible refine (State.setFld_in ..).thn (by decide) ?_
    | with_reducible refine Within.forIdx (fun _ _ _ => ?_) ?_
    | split
    | dsimp only

theorem State.domainDrv_in (s : State) : Within [.regs, .drafts, .drv] s (State.domainDrv s) := by
  unfold State.domainDrv
  repeat' first
    | with_reducible exact Within.refl ..
    | with_reducible assumption
    | lift_lets
    | (intro x; refine Within.known (ps := [.regs, .drafts, .drv]) (s := s) (x := x) ?_ ?_ <;> [(unfold x; clear x); (clear_value x; intro hx)])
    | (intro x; unfold x; clear x; try beta_reduce)
    | (intro x; clear_value x)
    | with_reducible refine (State.setDleg_in ..).thn (by decide) ?_
    | with_reducible refine (State.takeCom_in ..).thn (by decide) ?_
    | with_reducible refine Within.forIdx (fun _ _ _ => ?_) ?_
    | split
    | dsimp only

theorem State.domainApply_in (s : State) (d : Nat) : Within [.regs, .drafts, .adc, .drv, .mem] s (State.domainApply s d) := by
  unfold State.domainApply
  repeat' first
    | with_reducible exact Within.refl ..
    | with_reducible assumption
    | lift_lets
    | (intro x; refine Within.known (ps := [.regs, .drafts, .adc, .drv, .mem]) (s := s) (x := x) ?_ ?_ <;> [(unfold x; clear x); (clear_value x; intro hx)])
    | (intro x; clear_value x)
    | with_reducible refine (State.domainA_in ..).thn (by decide) ?_
    | with_reducible refine (State.domainM_in ..).thn (by decide) ?_
    | with_reducible refine (State.takeCom_in ..).thn (by decide) ?_
    | with_reducible refine (State.domainDrv_in ..).thn (by decide) ?_
    | split
    | dsimp only

theorem State.commitDefer_in (s : State) : Within [.regs, .stg] s (State.commitDefer s) := by
  unfold State.commitDefer
  repeat' first
    | with_reducible exact Within.refl ..
    | with_reducible assumption
    | lift_lets
    | (intro x; refine Within.known (ps := [.regs, .stg]) (s := s) (x := x) ?_ ?_ <;> [(unfold x; clear x); (clear_value x; intro hx)])
    | (intro x; clear_value x)
    | with_reducible refine (State.noteDrain_in ..).thn (by decide) ?_
    | with_reducible refine (State.deferCommit_in ..).thn (by decide) ?_
    | split
    | dsimp only

end Sys2Proof.Machine
end

