-- ==== Sys2Proof/Laws/InAdcRows.lean ====
section
/-!
SUPPORT. What each operation of Machine/AdcRows.lean can change: one lemma per operation.
-/

set_option linter.unusedTactic false
set_option linter.unreachableTactic false

namespace Sys2Proof.Machine

theorem State.takeItem_in (s : State) (c : Nat) (parity : Bool) : Within [.regs, .grid, .eng, .adc, .pwm, .ctr, .twn, .snd] s (State.takeItem s c parity) := by
  unfold State.takeItem
  repeat' first
    | with_reducible exact Within.refl ..
    | with_reducible assumption
    | lift_lets
    | (intro x; refine Within.known (ps := [.regs, .grid, .eng, .adc, .pwm, .ctr, .twn, .snd]) (s := s) (x := x) ?_ ?_ <;> [(unfold x; clear x); (clear_value x; intro hx)])
    | (intro x; clear_value x)
    | with_reducible refine (State.setConv_in ..).thn (by decide) ?_
    | with_reducible refine (State.deliverItem_in ..).thn (by decide) ?_
    | with_reducible refine (State.raise_in ..).thn (by decide) ?_
    | with_reducible refine (State.count_in ..).thn (by decide) ?_
    | split
    | dsimp only

theorem State.scheduleStart_in (s : State) (c : Nat) : Within [.regs, .adc] s (State.scheduleStart s c) := by
  unfold State.scheduleStart
  repeat' first
    | with_reducible exact Within.refl ..
    | with_reducible assumption
    | lift_lets
    | (intro x; refine Within.known (ps := [.regs, .adc]) (s := s) (x := x) ?_ ?_ <;> [(unfold x; clear x); (clear_value x; intro hx)])
    | (intro x; clear_value x)
    | with_reducible refine (State.mark_in ..).thn (by decide) ?_
    | with_reducible refine (State.setConv_in ..).thn (by decide) ?_
    | with_reducible refine (State.raiseBit_in ..).thn (by decide) ?_
    | with_reducible refine (State.raise_in ..).thn (by decide) ?_
    | with_reducible refine (State.count_in ..).thn (by decide) ?_
    | with_reducible refine (State.endSeq_in ..).thn (by decide) ?_
    | with_reducible refine (State.beginSeq_in ..).thn (by decide) ?_
    | split
    | dsimp only

theorem State.injectRequest_in (s : State) (c : Nat) : Within [.regs, .adc] s (State.injectRequest s c) := by
  unfold State.injectRequest
  repeat' first
    | with_reducible exact Within.refl ..
    | with_reducible assumption
    | lift_lets
    | (intro x; refine Within.known (ps := [.regs, .adc]) (s := s) (x := x) ?_ ?_ <;> [(unfold x; clear x); (clear_value x; intro hx)])
    | (intro x; clear_value x)
    | with_reducible refine (State.raise_in ..).thn (by decide) ?_
    | with_reducible refine (State.count_in ..).thn (by decide) ?_
    | with_reducible refine (State.setConv_in ..).thn (by decide) ?_
    | split
    | dsimp only

theorem State.injectWord_in (s : State) (host : Bool) (m : Nat) : Within [.regs, .adc] s (State.injectWord s host m) := by
  unfold State.injectWord
  repeat' first
    | with_reducible exact Within.refl ..
    | with_reducible assumption
    | lift_lets
    | (intro x; refine Within.known (ps := [.regs, .adc]) (s := s) (x := x) ?_ ?_ <;> [(unfold x; clear x); (clear_value x; intro hx)])
    | (intro x; clear_value x)
    | with_reducible refine (State.injectRequest_in ..).thn (by decide) ?_
    | with_reducible refine Within.forIdx (fun _ _ _ => ?_) ?_
    | split
    | dsimp only

theorem State.conversion_in (s : State) (c : Nat) (x : Sampled) : Within [.regs, .adc] s (State.conversion s c x) := by
  unfold State.conversion
  repeat' first
    | with_reducible exact Within.refl ..
    | with_reducible assumption
    | lift_lets
    | (intro x; refine Within.known (ps := [.regs, .adc]) (s := s) (x := x) ?_ ?_ <;> [(unfold x; clear x); (clear_value x; intro hx)])
    | (intro x; clear_value x)
    | with_reducible refine (State.endSeq_in ..).thn (by decide) ?_
    | with_reducible refine (State.convert_in ..).thn (by decide) ?_
    | with_reducible refine (State.setConv_in ..).thn (by decide) ?_
    | split
    | dsimp only

theorem State.calFail_in (s : State) (code : Nat) : Within [.regs, .adc] s (State.calFail s code) := by
  unfold State.calFail
  repeat' first
    | with_reducible exact Within.refl ..
    | with_reducible assumption
    | lift_lets
    | (intro x; refine Within.known (ps := [.regs, .adc]) (s := s) (x := x) ?_ ?_ <;> [(unfold x; clear x); (clear_value x; intro hx)])
    | (intro x; clear_value x)
    | with_reducible refine (State.setFld_in ..).thn (by decide) ?_
    | with_reducible refine (State.raise_in ..).thn (by decide) ?_
    | fail_if_no_progress with_reducible refine Within.upd_adc ?_ (by decide)
    | split
    | dsimp only

theorem State.calFields_in (s : State) (i : Nat) (pt : Nat) (n : Nat) : Within [.regs] s (State.calFields s i pt n) := by
  unfold State.calFields
  repeat' first
    | with_reducible exact Within.refl ..
    | with_reducible assumption
    | with_reducible refine (State.setFld_in ..).thn (by decide) ?_
    | split
    | dsimp only

theorem State.calMeasure_in (s : State) (p : Port) (i : Nat) (pt : Nat) (n : Nat) : Within [.regs, .adc] s (State.calMeasure s p i pt n) := by
  unfold State.calMeasure
  repeat' first
    | with_reducible exact Within.refl ..
    | with_reducible assumption
    | lift_lets
    | (intro x; refine Within.known (ps := [.regs, .adc]) (s := s) (x := x) ?_ ?_ <;> [(unfold x; clear x); (clear_value x; intro hx)])
    | (intro x; clear_value x)
    | with_reducible refine (State.calFields_in ..).thn (by decide) ?_
    | with_reducible refine (State.refuse_in ..).thn (by decide) ?_
    | with_reducible refine (State.calFail_in ..).thn (by decide) ?_
    | with_reducible refine (State.setFld_in ..).thn (by decide) ?_
    | fail_if_no_progress with_reducible refine Within.upd_adc ?_ (by decide)
    | split
    | dsimp only

theorem State.calDone_in (s : State) (m : CalRun) : Within [.regs, .adc] s (State.calDone s m) := by
  unfold State.calDone
  repeat' first
    | with_reducible exact Within.refl ..
    | with_reducible assumption
    | lift_lets
    | (intro x; refine Within.known (ps := [.regs, .adc]) (s := s) (x := x) ?_ ?_ <;> [(unfold x; clear x); (clear_value x; intro hx)])
    | (intro x; unfold x; clear x; try beta_reduce)
    | (intro x; clear_value x)
    | with_reducible refine (State.setSfld_in ..).thn (by decide) ?_
    | with_reducible refine (State.setFld_in ..).thn (by decide) ?_
    | with_reducible refine (State.raise_in ..).thn (by decide) ?_
    | fail_if_no_progress with_reducible refine Within.upd_adc ?_ (by decide)
    | split
    | dsimp only

theorem State.calDraft_in (s : State) (p : Port) (i : Nat) (n : Nat) : Within [.regs, .drafts, .adc] s (State.calDraft s p i n) := by
  unfold State.calDraft
  repeat' first
    | with_reducible exact Within.refl ..
    | with_reducible assumption
    | lift_lets
    | (intro x; refine Within.known (ps := [.regs, .drafts, .adc]) (s := s) (x := x) ?_ ?_ <;> [(unfold x; clear x); (clear_value x; intro hx)])
    | (intro x; clear_value x)
    | with_reducible refine (State.calFields_in ..).thn (by decide) ?_
    | with_reducible refine (State.refuse_in ..).thn (by decide) ?_
    | with_reducible refine (State.calFail_in ..).thn (by decide) ?_
    | with_reducible refine (State.draftFld_in ..).thn (by decide) ?_
    | with_reducible refine (State.stgRest_in ..).thn (by decide) ?_
    | with_reducible refine (State.setFld_in ..).thn (by decide) ?_
    | with_reducible refine (State.raise_in ..).thn (by decide) ?_
    | split
    | dsimp only

theorem State.polFields_in (s : State) (p : Port) (i : Nat) (kind : Bool) (ref : Nat) (w : Nat) : Within [.regs] s (State.polFields s p i kind ref w) := by
  unfold State.polFields
  repeat' first
    | with_reducible exact Within.refl ..
    | with_reducible assumption
    | lift_lets
    | (intro x; refine Within.known (ps := [.regs]) (s := s) (x := x) ?_ ?_ <;> [(unfold x; clear x); (clear_value x; intro hx)])
    | (intro x; clear_value x)
    | with_reducible refine (State.setFld_in ..).thn (by decide) ?_
    | with_reducible refine (State.refuse_in ..).thn (by decide) ?_
    | split
    | dsimp only

theorem State.polWrite_in (s : State) (p : Port) (i : Nat) (kind : Bool) (ref : Nat) (w : Nat) (start : Bool) : Within [.regs, .adc] s (State.polWrite s p i kind ref w start) := by
  unfold State.polWrite
  repeat' first
    | with_reducible exact Within.refl ..
    | with_reducible assumption
    | lift_lets
    | (intro x; refine Within.known (ps := [.regs, .adc]) (s := s) (x := x) ?_ ?_ <;> [(unfold x; clear x); (clear_value x; intro hx)])
    | (intro x; clear_value x)
    | with_reducible refine (State.polFields_in ..).thn (by decide) ?_
    | with_reducible refine (State.refuse_in ..).thn (by decide) ?_
    | with_reducible refine (State.setFld_in ..).thn (by decide) ?_
    | fail_if_no_progress with_reducible refine Within.upd_adc ?_ (by decide)
    | split
    | dsimp only

theorem State.polSample_in (s : State) (r : PolRun) : Within [.adc] s (State.polSample s r) := by
  unfold State.polSample
  repeat' first
    | with_reducible exact Within.refl ..
    | with_reducible assumption
    | lift_lets
    | (intro x; refine Within.known (ps := [.adc]) (s := s) (x := x) ?_ ?_ <;> [(unfold x; clear x); (clear_value x; intro hx)])
    | (intro x; clear_value x)
    | fail_if_no_progress with_reducible refine Within.upd_adc ?_ (by decide)
    | split
    | dsimp only

theorem State.polDone_in (s : State) (r : PolRun) : Within [.regs, .adc] s (State.polDone s r) := by
  unfold State.polDone
  repeat' first
    | with_reducible exact Within.refl ..
    | with_reducible assumption
    | lift_lets
    | (intro x; refine Within.known (ps := [.regs, .adc]) (s := s) (x := x) ?_ ?_ <;> [(unfold x; clear x); (clear_value x; intro hx)])
    | (intro x; refine Within.known (ps := [.regs, .adc]) (s := s) (x := x.2) ?_ ?_ <;> [(unfold x; clear x); (clear_value x; intro hx)])
    | (intro x; clear_value x)
    | with_reducible refine (State.drawFree_in ..).thn (by decide) ?_
    | with_reducible refine (State.setSfld_in ..).thn (by decide) ?_
    | with_reducible refine (State.setFld_in ..).thn (by decide) ?_
    | with_reducible refine (State.raise_in ..).thn (by decide) ?_
    | fail_if_no_progress with_reducible refine Within.upd_adc ?_ (by decide)
    | split
    | dsimp only

end Sys2Proof.Machine
end

