-- ==== Sys2Proof/Laws/InDmaRows.lean ====
section
/-!
SUPPORT. What each operation of Machine/DmaRows.lean can change: one lemma per operation.
-/

set_option linter.unusedTactic false
set_option linter.unreachableTactic false

namespace Sys2Proof.Machine

theorem State.startFetch_in (s : State) (n : Nat) (o : OpWord) : Within [.eng, .mem] s (State.startFetch s n o) := by
  unfold State.startFetch
  repeat' first
    | with_reducible exact Within.refl ..
    | with_reducible assumption
    | lift_lets
    | (intro x; refine Within.known (ps := [.eng, .mem]) (s := s) (x := x) ?_ ?_ <;> [(unfold x; clear x); (clear_value x; intro hx)])
    | (intro x; clear_value x)
    | with_reducible refine (State.setCtx_in ..).thn (by decide) ?_
    | with_reducible refine (State.setDch_in ..).thn (by decide) ?_
    | split
    | dsimp only

theorem State.waitFetch_in (s : State) (n : Nat) : Within [.regs, .grid, .eng, .adc, .pwm, .ctr, .twn, .snd] s (State.waitFetch s n) := by
  unfold State.waitFetch
  repeat' first
    | with_reducible exact Within.refl ..
    | with_reducible assumption
    | lift_lets
    | (intro x; refine Within.known (ps := [.regs, .grid, .eng, .adc, .pwm, .ctr, .twn, .snd]) (s := s) (x := x) ?_ ?_ <;> [(unfold x; clear x); (clear_value x; intro hx)])
    | (intro x; clear_value x)
    | with_reducible refine (State.fetchFaultEnd_in ..).thn (by decide) ?_
    | with_reducible refine (State.setCtx_in ..).thn (by decide) ?_
    | with_reducible refine (State.setRuns_in ..).thn (by decide) ?_
    | split
    | dsimp only

theorem State.fetchDone_in (s : State) (c : Nat) : Within [.eng, .mem] s (State.fetchDone s c) := by
  unfold State.fetchDone
  repeat' first
    | with_reducible exact Within.refl ..
    | with_reducible assumption
    | lift_lets
    | (intro x; refine Within.known (ps := [.eng, .mem]) (s := s) (x := x) ?_ ?_ <;> [(unfold x; clear x); (clear_value x; intro hx)])
    | (intro x; clear_value x)
    | with_reducible refine (State.setDch_in ..).thn (by decide) ?_
    | with_reducible refine (State.setCtx_in ..).thn (by decide) ?_
    | split
    | dsimp only

theorem State.copyStart_in (s : State) (p : Port) (c : Nat) : Within [.regs, .mem] s (State.copyStart s p c) := by
  unfold State.copyStart
  repeat' first
    | with_reducible exact Within.refl ..
    | with_reducible assumption
    | lift_lets
    | (intro x; refine Within.known (ps := [.regs, .mem]) (s := s) (x := x) ?_ ?_ <;> [(unfold x; clear x); (clear_value x; intro hx)])
    | (intro x; clear_value x)
    | with_reducible refine (State.setDch_in ..).thn (by decide) ?_
    | with_reducible refine (State.refuse_in ..).thn (by decide) ?_
    | split
    | dsimp only

theorem State.resume_in (s : State) (c : Nat) : Within [.mem] s (State.resume s c) := by
  unfold State.resume
  repeat' first
    | with_reducible exact Within.refl ..
    | with_reducible assumption
    | lift_lets
    | (intro x; refine Within.known (ps := [.mem]) (s := s) (x := x) ?_ ?_ <;> [(unfold x; clear x); (clear_value x; intro hx)])
    | (intro x; clear_value x)
    | with_reducible refine (State.setDch_in ..).thn (by decide) ?_
    | split
    | dsimp only

theorem State.dmaResume_in (s : State) (p : Port) (c : Nat) : Within [.regs, .mem] s (State.dmaResume s p c) := by
  unfold State.dmaResume
  repeat' first
    | with_reducible exact Within.refl ..
    | with_reducible assumption
    | with_reducible refine (State.resume_in ..).thn (by decide) ?_
    | with_reducible refine (State.refuse_in ..).thn (by decide) ?_
    | split
    | dsimp only

end Sys2Proof.Machine
end

