-- ==== Sys2Proof/Laws/InHostWin.lean ====
section
/-!
SUPPORT. What each operation of Machine/HostWin.lean can change: one lemma per operation.
-/

set_option linter.unusedTactic false
set_option linter.unreachableTactic false

namespace Sys2Proof.Machine

theorem State.setPort_in (s : State) (p : Port) (r : PortRun) : Within [.host] s (State.setPort s p r) := by
  unfold State.setPort
  repeat' first
    | with_reducible exact Within.refl ..
    | with_reducible assumption
    | lift_lets
    | (intro x; refine Within.known (ps := [.host]) (s := s) (x := x) ?_ ?_ <;> [(unfold x; clear x); (clear_value x; intro hx)])
    | (intro x; clear_value x)
    | fail_if_no_progress with_reducible refine Within.upd_host ?_ (by decide)
    | split
    | dsimp only

theorem State.answer_in (s : State) (p : Port) (flags : Nat) (words : List Nat) (mask : Nat) : Within [.host] s (State.answer s p flags words mask) := by
  unfold State.answer
  repeat' first
    | with_reducible exact Within.refl ..
    | with_reducible assumption
    | with_reducible refine (State.setPort_in ..).thn (by decide) ?_
    | split
    | dsimp only

theorem State.abortFrame_in (s : State) (p : Port) : Within [.regs, .host] s (State.abortFrame s p) := by
  unfold State.abortFrame
  repeat' first
    | with_reducible exact Within.refl ..
    | with_reducible assumption
    | with_reducible refine (State.raise_in ..).thn (by decide) ?_
    | with_reducible refine (State.answer_in ..).thn (by decide) ?_
    | split
    | dsimp only

theorem State.winLost_in (s : State) (p : Port) : Within [.regs, .mem, .host] s (State.winLost s p) := by
  unfold State.winLost
  repeat' first
    | with_reducible exact Within.refl ..
    | with_reducible assumption
    | lift_lets
    | (intro x; refine Within.known (ps := [.regs, .mem, .host]) (s := s) (x := x) ?_ ?_ <;> [(unfold x; clear x); (clear_value x; intro hx)])
    | (intro x; clear_value x)
    | with_reducible refine (State.setDch_in ..).thn (by decide) ?_
    | with_reducible refine (State.leaveQueue_in ..).thn (by decide) ?_
    | with_reducible refine (State.noteTracker_in ..).thn (by decide) ?_
    | with_reducible refine (State.raise_in ..).thn (by decide) ?_
    | with_reducible refine (State.setPort_in ..).thn (by decide) ?_
    | with_reducible refine (State.abortFrame_in ..).thn (by decide) ?_
    | split
    | dsimp only

theorem State.winFlight_in (s : State) (p : Port) (f : WinFrame) (n : Nat) : Within [.regs, .mem] s (State.winFlight s p f n) := by
  unfold State.winFlight
  repeat' first
    | with_reducible exact Within.refl ..
    | with_reducible assumption
    | lift_lets
    | (intro x; refine Within.known (ps := [.regs, .mem]) (s := s) (x := x) ?_ ?_ <;> [(unfold x; clear x); (clear_value x; intro hx)])
    | (intro x; clear_value x)
    | with_reducible refine (State.leaveQueue_in ..).thn (by decide) ?_
    | with_reducible refine (State.setDch_in ..).thn (by decide) ?_
    | with_reducible refine (State.noteTracker_in ..).thn (by decide) ?_
    | split
    | dsimp only

theorem State.winStall_in (s : State) (p : Port) (f : WinFrame) : Within [.regs, .host] s (State.winStall s p f) := by
  unfold State.winStall
  repeat' first
    | with_reducible exact Within.refl ..
    | with_reducible assumption
    | lift_lets
    | (intro x; refine Within.known (ps := [.regs, .host]) (s := s) (x := x) ?_ ?_ <;> [(unfold x; clear x); (clear_value x; intro hx)])
    | (intro x; clear_value x)
    | with_reducible refine (State.setPort_in ..).thn (by decide) ?_
    | with_reducible refine (State.countStall_in ..).thn (by decide) ?_
    | split
    | dsimp only

theorem State.winAccept_in (s : State) (p : Port) : Within [.regs, .mem, .host] s (State.winAccept s p) := by
  unfold State.winAccept
  repeat' first
    | with_reducible exact Within.refl ..
    | with_reducible assumption
    | lift_lets
    | (intro x; refine Within.known (ps := [.regs, .mem, .host]) (s := s) (x := x) ?_ ?_ <;> [(unfold x; clear x); (clear_value x; intro hx)])
    | (intro x; clear_value x)
    | with_reducible refine (State.fill_in ..).thn (by decide) ?_
    | with_reducible refine (State.noteTracker_in ..).thn (by decide) ?_
    | with_reducible refine (State.winLost_in ..).thn (by decide) ?_
    | with_reducible refine (State.joinQueue_in ..).thn (by decide) ?_
    | with_reducible refine (State.winStall_in ..).thn (by decide) ?_
    | with_reducible refine (State.winFlight_in ..).thn (by decide) ?_
    | split
    | dsimp only

theorem State.winBlocks_in (s : State) (p : Port) (n a : Nat) (bytes : List Nat) :
    Within [.regs, .mem] s (s.winBlocks p n a bytes) := by
  induction n generalizing s a bytes with
  | zero => exact Within.refl ..
  | succ n ih =>
    unfold State.winBlocks
    split
    · exact Within.refl ..
    · dsimp only
      refine (ih ..).thn (by decide) ?_
      split
      · exact State.writeBlock_in _ _ _ _ (by assumption)
      · exact (State.refuse_in ..).thn (by decide) ((s.plFull_in).mono (by decide))

theorem State.winWrite_in (s : State) (p : Port) (f : WinFrame) : Within [.regs, .mem] s (State.winWrite s p f) := by
  unfold State.winWrite
  repeat' first
    | with_reducible exact Within.refl ..
    | with_reducible assumption
    | lift_lets
    | (intro x; refine Within.known (ps := [.regs, .mem]) (s := s) (x := x) ?_ ?_ <;> [(unfold x; clear x); (clear_value x; intro hx)])
    | (intro x; clear_value x)
    | with_reducible refine (State.winBlocks_in ..).thn (by decide) ?_
    | with_reducible refine Within.foldl (fun _ _ _ => ?_) ?_
    | with_reducible refine Within.foldl1 (fun _ _ _ => ?_) ?_
    | with_reducible refine Within.foldl2 (fun _ _ _ => ?_) ?_
    | split
    | dsimp only

theorem State.judgeAll_in (s : State) (l : List Nat) : Within [.regs, .mem] s (s.judgeAll l).1 := by
  induction l generalizing s with
  | nil => exact Within.refl ..
  | cons b l ih => exact (ih _).thn (by decide) ((s.judge_in b).mono (by decide))

theorem State.winRead_in (s : State) (l : List Nat) : Within [.regs, .mem] s (s.winRead l).1 :=
  s.judgeAll_in _

theorem State.winAnswer_in (s : State) (p : Port) (f : WinFrame) (flags : Nat) (words : List Nat) (mask : Nat) : Within [.host] s (State.winAnswer s p f flags words mask) := by
  unfold State.winAnswer
  repeat' first
    | with_reducible exact Within.refl ..
    | with_reducible assumption
    | with_reducible refine (State.setPort_in ..).thn (by decide) ?_
    | with_reducible refine (State.answer_in ..).thn (by decide) ?_
    | split
    | dsimp only

theorem State.winComplete_in (s0 : State) (p : Port) : Within [.regs, .mem, .host] s0 (State.winComplete s0 p) := by
  unfold State.winComplete
  repeat' first
    | with_reducible exact Within.refl ..
    | with_reducible assumption
    | lift_lets
    | (intro x; refine Within.known (ps := [.regs, .mem, .host]) (s := s0) (x := x) ?_ ?_ <;> [(unfold x; clear x); (clear_value x; intro hx)])
    | (intro x; refine Within.known (ps := [.regs, .mem, .host]) (s := s0) (x := x.1) ?_ ?_ <;> [(unfold x; clear x); (clear_value x; intro hx)])
    | (intro x; clear_value x)
    | with_reducible refine (State.setDch_in ..).thn (by decide) ?_
    | with_reducible refine (State.noteTracker_in ..).thn (by decide) ?_
    | with_reducible refine (State.winWrite_in ..).thn (by decide) ?_
    | with_reducible refine (State.winLost_in ..).thn (by decide) ?_
    | with_reducible refine (State.winAnswer_in ..).thn (by decide) ?_
    | with_reducible refine (State.winRead_in ..).thn (by decide) ?_
    | fail_if_no_progress with_reducible refine Within.upd_refusedNow ?_
    | exact (State.serveTo_in _ _ _ (by assumption)).mono (by decide)
    | split
    | dsimp only

end Sys2Proof.Machine
end

