-- ==== Sys2Proof/Laws/InQueueRows.lean ====
section
/-!
SUPPORT. What each operation of Machine/QueueRows.lean can change: one lemma per operation.
-/

set_option linter.unusedTactic false
set_option linter.unreachableTactic false

namespace Sys2Proof.Machine

theorem State.noteQerr_in (s : State) (q : Nat) : Within [.regs, .clk] s (State.noteQerr s q) := by
  unfold State.noteQerr
  repeat' first
    | with_reducible exact Within.refl ..
    | with_reducible assumption
    | lift_lets
    | (intro x; refine Within.known (ps := [.regs, .clk]) (s := s) (x := x) ?_ ?_ <;> [(unfold x; clear x); (clear_value x; intro hx)])
    | (intro x; clear_value x)
    | with_reducible refine (State.raiseBit_in ..).thn (by decide) ?_
    | with_reducible refine (State.raise_in ..).thn (by decide) ?_
    | with_reducible refine (State.count_in ..).thn (by decide) ?_
    | with_reducible refine (State.setFld_in ..).thn (by decide) ?_
    | fail_if_no_progress with_reducible refine Within.upd_clk ?_ (by decide)
    | split
    | dsimp only

theorem State.loseItems_in (s : State) (c : Nat) : Within [.adc] s (State.loseItems s c) := by
  unfold State.loseItems
  repeat' first
    | with_reducible exact Within.refl ..
    | with_reducible assumption
    | lift_lets
    | (intro x; refine Within.known (ps := [.adc]) (s := s) (x := x) ?_ ?_ <;> [(unfold x; clear x); (clear_value x; intro hx)])
    | (intro x; clear_value x)
    | with_reducible refine (State.setConv_in ..).thn (by decide) ?_
    | with_reducible refine Within.foldl (fun _ _ _ => ?_) ?_
    | with_reducible refine Within.foldl1 (fun _ _ _ => ?_) ?_
    | with_reducible refine Within.foldl2 (fun _ _ _ => ?_) ?_
    | fail_if_no_progress with_reducible refine Within.upd_adc ?_ (by decide)
    | split
    | dsimp only

theorem State.loseRequest_in (s : State) (r : Nat) : Within [.regs, .grid, .eng, .adc, .pwm, .ctr, .mem, .twn, .snd, .host] s (State.loseRequest s r) := by
  unfold State.loseRequest
  repeat' first
    | with_reducible exact Within.refl ..
    | with_reducible assumption
    | lift_lets
    | (intro x; refine Within.known (ps := [.regs, .grid, .eng, .adc, .pwm, .ctr, .mem, .twn, .snd, .host]) (s := s) (x := x) ?_ ?_ <;> [(unfold x; clear x); (clear_value x; intro hx)])
    | (intro x; clear_value x)
    | with_reducible refine (State.dmaFault_in ..).thn (by decide) ?_
    | with_reducible refine (State.winLost_in ..).thn (by decide) ?_
    | split
    | dsimp only

theorem State.failAsks_in (s : State) (cls : Nat) : Within [.regs, .grid, .eng, .adc, .pwm, .ctr, .mem, .twn, .snd, .host] s (State.failAsks s cls) := by
  unfold State.failAsks
  repeat' first
    | with_reducible exact Within.refl ..
    | with_reducible assumption
    | lift_lets
    | (intro x; refine Within.known (ps := [.regs, .grid, .eng, .adc, .pwm, .ctr, .mem, .twn, .snd, .host]) (s := s) (x := x) ?_ ?_ <;> [(unfold x; clear x); (clear_value x; intro hx)])
    | (intro x; unfold x; clear x; try beta_reduce)
    | (intro x; clear_value x)
    | with_reducible refine (State.loseRequest_in ..).thn (by decide) ?_
    | with_reducible refine (State.setReqQueue_in ..).thn (by decide) ?_
    | with_reducible refine Within.foldl (fun _ _ _ => ?_) ?_
    | with_reducible refine Within.foldl1 (fun _ _ _ => ?_) ?_
    | with_reducible refine Within.foldl2 (fun _ _ _ => ?_) ?_
    | split
    | dsimp only

theorem State.failFlights_in (s : State) (cls : Nat) : Within [.regs, .grid, .eng, .adc, .pwm, .ctr, .mem, .twn, .snd, .host] s (State.failFlights s cls) := by
  unfold State.failFlights
  repeat' first
    | with_reducible exact Within.refl ..
    | with_reducible assumption
    | with_reducible refine (State.loseRequest_in ..).thn (by decide) ?_
    | with_reducible refine Within.foldl (fun _ _ _ => ?_) ?_
    | with_reducible refine Within.foldl1 (fun _ _ _ => ?_) ?_
    | with_reducible refine Within.foldl2 (fun _ _ _ => ?_) ?_
    | split
    | dsimp only

theorem State.queueUsers_in (s : State) (q : Nat) (lost : Bool) : Within [.regs, .grid, .eng, .adc, .pwm, .ctr, .mem, .twn, .snd, .host] s (State.queueUsers s q lost) := by
  unfold State.queueUsers
  repeat' first
    | with_reducible exact Within.refl ..
    | with_reducible assumption
    | with_reducible refine (State.loseItems_in ..).thn (by decide) ?_
    | with_reducible refine (State.failAsks_in ..).thn (by decide) ?_
    | with_reducible refine (State.failFlights_in ..).thn (by decide) ?_
    | with_reducible refine (State.winLost_in ..).thn (by decide) ?_
    | with_reducible refine (State.abortFrame_in ..).thn (by decide) ?_
    | with_reducible refine (State.raise_in ..).thn (by decide) ?_
    | with_reducible refine (State.count_in ..).thn (by decide) ?_
    | with_reducible refine (State.unsent_in ..).thn (by decide) ?_
    | split
    | dsimp only

end Sys2Proof.Machine
end

