-- ==== Sys2Proof/Laws/InContourRows.lean ====
section
/-!
SUPPORT. What each operation of Machine/ContourRows.lean can change: one lemma per operation.
-/

set_option linter.unusedTactic false
set_option linter.unreachableTactic false

namespace Sys2Proof.Machine

theorem State.envEnd_in (s : State) (p : Nat) : Within [.regs, .ctr] s (State.envEnd s p) := by
  unfold State.envEnd
  repeat' first
    | with_reducible exact Within.refl ..
    | with_reducible assumption
    | lift_lets
    | (intro x; refine Within.known (ps := [.regs, .ctr]) (s := s) (x := x) ?_ ?_ <;> [(unfold x; clear x); (clear_value x; intro hx)])
    | (intro x; clear_value x)
    | with_reducible refine (State.setFld_in ..).thn (by decide) ?_
    | with_reducible refine (State.ctrPush_in ..).thn (by decide) ?_
    | with_reducible refine (State.setProbe_in ..).thn (by decide) ?_
    | split
    | dsimp only

theorem State.windowEnd_in (s : State) : Within [.regs, .ctr] s (State.windowEnd s) := by
  unfold State.windowEnd
  repeat' first
    | with_reducible exact Within.refl ..
    | with_reducible assumption
    | lift_lets
    | (intro x; refine Within.known (ps := [.regs, .ctr]) (s := s) (x := x) ?_ ?_ <;> [(unfold x; clear x); (clear_value x; intro hx)])
    | (intro x; clear_value x)
    | with_reducible refine (State.envEnd_in ..).thn (by decide) ?_
    | with_reducible refine (State.setProbe_in ..).thn (by decide) ?_
    | with_reducible refine (State.mark_in ..).thn (by decide) ?_
    | with_reducible refine Within.forIdx (fun _ _ _ => ?_) ?_
    | split
    | dsimp only

theorem State.withinTimeout_in (s : State) (k : Nat) : Within [.regs, .ctr] s (State.withinTimeout s k) := by
  unfold State.withinTimeout
  repeat' first
    | with_reducible exact Within.refl ..
    | with_reducible assumption
    | with_reducible refine (State.seqEnter_in ..).thn (by decide) ?_
    | split
    | dsimp only

theorem State.holdOccurrence_in (s : State) (k : Nat) : Within [.regs, .ctr] s (State.holdOccurrence s k) := by
  unfold State.holdOccurrence
  repeat' first
    | with_reducible exact Within.refl ..
    | with_reducible assumption
    | lift_lets
    | (intro x; refine Within.known (ps := [.regs, .ctr]) (s := s) (x := x) ?_ ?_ <;> [(unfold x; clear x); (clear_value x; intro hx)])
    | (intro x; clear_value x)
    | with_reducible refine (State.mark_in ..).thn (by decide) ?_
    | with_reducible refine (State.setSeq_in ..).thn (by decide) ?_
    | with_reducible refine (State.seqOccur_in ..).thn (by decide) ?_
    | split
    | dsimp only

theorem State.recArm_in (s : State) (k : Nat) : Within [.regs, .ctr] s (State.recArm s k) := by
  unfold State.recArm
  repeat' first
    | with_reducible exact Within.refl ..
    | with_reducible assumption
    | with_reducible refine (State.setFld_in ..).thn (by decide) ?_
    | with_reducible refine (State.setSeq_in ..).thn (by decide) ?_
    | with_reducible refine (State.seqEnter_in ..).thn (by decide) ?_
    | split
    | dsimp only

theorem State.armRecorder_in (s : State) (p : Port) (k : Nat) : Within [.regs, .ctr] s (State.armRecorder s p k) := by
  unfold State.armRecorder
  repeat' first
    | with_reducible exact Within.refl ..
    | with_reducible assumption
    | with_reducible refine (State.recArm_in ..).thn (by decide) ?_
    | with_reducible refine (State.refuse_in ..).thn (by decide) ?_
    | split
    | dsimp only

theorem State.forceRecorder_in (s : State) (k : Nat) : Within [.regs, .ctr] s (State.forceRecorder s k) := by
  unfold State.forceRecorder
  repeat' first
    | with_reducible exact Within.refl ..
    | with_reducible assumption
    | with_reducible refine (State.seqTrigger_in ..).thn (by decide) ?_
    | split
    | dsimp only

theorem State.postEnd_in (s : State) (k : Nat) : Within [.ctr] s (State.postEnd s k) := by
  unfold State.postEnd
  repeat' first
    | with_reducible exact Within.refl ..
    | with_reducible assumption
    | lift_lets
    | (intro x; refine Within.known (ps := [.ctr]) (s := s) (x := x) ?_ ?_ <;> [(unfold x; clear x); (clear_value x; intro hx)])
    | (intro x; clear_value x)
    | with_reducible refine (State.setSeq_in ..).thn (by decide) ?_
    | split
    | dsimp only

theorem State.measureStart_in (s : State) (k : Nat) : Within [.regs] s (State.measureStart s k) := by
  unfold State.measureStart
  repeat' first
    | with_reducible exact Within.refl ..
    | with_reducible assumption
    | lift_lets
    | (intro x; refine Within.known (ps := [.regs]) (s := s) (x := x) ?_ ?_ <;> [(unfold x; clear x); (clear_value x; intro hx)])
    | (intro x; clear_value x)
    | with_reducible refine (State.setFld_in ..).thn (by decide) ?_
    | split
    | dsimp only

theorem State.recordAt_in (s : State) (c : Nat) (off : Nat) : Within [.regs, .mem] s (State.recordAt s c off).1 := by
  unfold State.recordAt
  repeat' first
    | with_reducible exact Within.refl ..
    | with_reducible assumption
    | lift_lets
    | (intro x; refine Within.known (ps := [.regs, .mem]) (s := s) (x := x) ?_ ?_ <;> [(unfold x; clear x); (clear_value x; intro hx)])
    | (intro x; refine Within.known (ps := [.regs, .mem]) (s := s) (x := x.1) ?_ ?_ <;> [(unfold x; clear x); (clear_value x; intro hx)])
    | (intro x; clear_value x)
    | with_reducible refine (State.readBeats_in ..).thn (by decide) ?_
    | split
    | dsimp only

theorem State.readBack_in (s : State) (k c size n off : Nat) (m : MeasAcc) :
    Within [.regs, .mem] s (s.readBack k c size n off m).1 := by
  induction n generalizing s off m with
  | zero => exact Within.refl ..
  | succ n ih => exact (ih ..).thn (by decide) (s.recordAt_in c off)

theorem State.putMeas_in (s : State) (k : Nat) (m : MeasAcc) : Within [.regs] s (State.putMeas s k m) := by
  unfold State.putMeas
  repeat' first
    | with_reducible exact Within.refl ..
    | with_reducible assumption
    | lift_lets
    | (intro x; refine Within.known (ps := [.regs]) (s := s) (x := x) ?_ ?_ <;> [(unfold x; clear x); (clear_value x; intro hx)])
    | (intro x; unfold x; clear x; try beta_reduce)
    | (intro x; clear_value x)
    | with_reducible refine (State.setFld_in ..).thn (by decide) ?_
    | with_reducible refine (State.raise_in ..).thn (by decide) ?_
    | split
    | dsimp only

theorem State.measureDone_in (s : State) (k : Nat) : Within [.regs, .ctr, .mem] s (State.measureDone s k) := by
  unfold State.measureDone
  repeat' first
    | with_reducible exact Within.refl ..
    | with_reducible assumption
    | lift_lets
    | (intro x; refine Within.known (ps := [.regs, .ctr, .mem]) (s := s) (x := x) ?_ ?_ <;> [(unfold x; clear x); (clear_value x; intro hx)])
    | (intro x; refine Within.known (ps := [.regs, .ctr, .mem]) (s := s) (x := x.1) ?_ ?_ <;> [(unfold x; clear x); (clear_value x; intro hx)])
    | (intro x; clear_value x)
    | with_reducible refine (State.coreDone_in ..).thn (by decide) ?_
    | with_reducible refine (State.readBack_in ..).thn (by decide) ?_
    | with_reducible refine (State.putMeas_in ..).thn (by decide) ?_
    | with_reducible refine (State.setFld_in ..).thn (by decide) ?_
    | with_reducible refine (State.recArm_in ..).thn (by decide) ?_
    | split
    | dsimp only

end Sys2Proof.Machine
end

