-- ==== Sys2Proof/Laws/InGridRows.lean ====
section
/-!
SUPPORT. What each operation of Machine/GridRows.lean can change: one lemma per operation.
-/

set_option linter.unusedTactic false
set_option linter.unreachableTactic false

namespace Sys2Proof.Machine

theorem State.gfmCmd_in {ps : List Part} {s0 s : State} {c : Instr} {p : Port} {g a : Nat} {body : State → State}
    (hs : ∀ q ∈ [Part.regs], q ∈ ps) (hb : ∀ u, Within ps s0 u → Within ps s0 (body u)) (h : Within ps s0 s) :
    Within ps s0 (s.gfmCmd c p g a body) := by
  refine State.portCmd_in hs (fun u hu => ?_) h
  split
  · exact hb u hu
  · exact (u.refuse_in p a).thn hs hu

theorem State.rideExpiry_in (s : State) (g : Nat) (src : Nat) : Within [.regs, .grid, .adc, .pwm, .ctr, .twn, .snd] s (State.rideExpiry s g src) := by
  unfold State.rideExpiry
  repeat' first
    | with_reducible exact Within.refl ..
    | with_reducible assumption
    | lift_lets
    | (intro x; refine Within.known (ps := [.regs, .grid, .adc, .pwm, .ctr, .twn, .snd]) (s := s) (x := x) ?_ ?_ <;> [(unfold x; clear x); (clear_value x; intro hx)])
    | (intro x; clear_value x)
    | with_reducible refine (State.raise_in ..).thn (by decide) ?_
    | with_reducible refine (State.faultAction_in ..).thn (by decide) ?_
    | with_reducible refine (State.stopFrom_in ..).thn (by decide) ?_
    | split
    | dsimp only

theorem State.exitRide_in (s : State) (g : Nat) : Within [.regs, .grid, .adc, .snd] s (State.exitRide s g) := by
  unfold State.exitRide
  repeat' first
    | with_reducible exact Within.refl ..
    | with_reducible assumption
    | lift_lets
    | (intro x; refine Within.known (ps := [.regs, .grid, .adc, .snd]) (s := s) (x := x) ?_ ?_ <;> [(unfold x; clear x); (clear_value x; intro hx)])
    | (intro x; clear_value x)
    | with_reducible refine (State.setGrp_in ..).thn (by decide) ?_
    | with_reducible refine (State.setMode_in ..).thn (by decide) ?_
    | with_reducible refine (State.setFld_in ..).thn (by decide) ?_
    | with_reducible refine (State.stopFrom_in ..).thn (by decide) ?_
    | split
    | dsimp only

theorem State.unsync_in (s : State) (g : Nat) : Within [.regs, .grid, .adc, .pwm, .ctr, .twn, .snd] s (State.unsync s g) := by
  unfold State.unsync
  repeat' first
    | with_reducible exact Within.refl ..
    | with_reducible assumption
    | with_reducible refine (State.raise_in ..).thn (by decide) ?_
    | with_reducible refine (State.faultAction_in ..).thn (by decide) ?_
    | split
    | dsimp only

theorem State.islandEntry_in (s : State) (g : Nat) : Within [.regs, .grid, .adc, .pwm, .ctr, .twn, .snd] s (State.islandEntry s g) := by
  unfold State.islandEntry
  repeat' first
    | with_reducible exact Within.refl ..
    | with_reducible assumption
    | with_reducible refine (State.setMode_in ..).thn (by decide) ?_
    | with_reducible refine (State.unsync_in ..).thn (by decide) ?_
    | split
    | dsimp only

theorem State.brkCloses_in (s : State) (g : Nat) : Within [.regs, .grid, .adc, .pwm, .ctr, .twn, .snd] s (State.brkCloses s g) := by
  unfold State.brkCloses
  repeat' first
    | with_reducible exact Within.refl ..
    | with_reducible assumption
    | lift_lets
    | (intro x; refine Within.known (ps := [.regs, .grid, .adc, .pwm, .ctr, .twn, .snd]) (s := s) (x := x) ?_ ?_ <;> [(unfold x; clear x); (clear_value x; intro hx)])
    | (intro x; clear_value x)
    | with_reducible refine (State.setGrp_in ..).thn (by decide) ?_
    | with_reducible refine (State.setMode_in ..).thn (by decide) ?_
    | with_reducible refine (State.unsync_in ..).thn (by decide) ?_
    | split
    | dsimp only

theorem State.brkOpens_in (s : State) (g : Nat) : Within [.regs, .grid, .adc, .snd] s (State.brkOpens s g) := by
  unfold State.brkOpens
  repeat' first
    | with_reducible exact Within.refl ..
    | with_reducible assumption
    | lift_lets
    | (intro x; refine Within.known (ps := [.regs, .grid, .adc, .snd]) (s := s) (x := x) ?_ ?_ <;> [(unfold x; clear x); (clear_value x; intro hx)])
    | (intro x; clear_value x)
    | with_reducible refine (State.setGrp_in ..).thn (by decide) ?_
    | with_reducible refine (State.setMode_in ..).thn (by decide) ?_
    | with_reducible refine (State.raise_in ..).thn (by decide) ?_
    | split
    | dsimp only

theorem State.stopLegs_in (s : State) (g : Nat) : Within [.regs, .grid, .adc, .pwm, .snd] s (State.stopLegs s g) := by
  unfold State.stopLegs
  repeat' first
    | with_reducible exact Within.refl ..
    | with_reducible assumption
    | lift_lets
    | (intro x; refine Within.known (ps := [.regs, .grid, .adc, .pwm, .snd]) (s := s) (x := x) ?_ ?_ <;> [(unfold x; clear x); (clear_value x; intro hx)])
    | (intro x; clear_value x)
    | with_reducible refine (State.legOff_in ..).thn (by decide) ?_
    | with_reducible refine (State.storeFlux_in ..).thn (by decide) ?_
    | with_reducible refine (State.groupRest_in ..).thn (by decide) ?_
    | with_reducible refine Within.forIdx (fun _ _ _ => ?_) ?_
    | split
    | dsimp only

theorem State.setRunning_in (s : State) (g : Nat) : Within [.regs] s (State.setRunning s g) := by
  unfold State.setRunning
  repeat' first
    | with_reducible exact Within.refl ..
    | with_reducible assumption
    | with_reducible refine (State.setFld_in ..).thn (by decide) ?_
    | with_reducible refine (State.setSfld_in ..).thn (by decide) ?_
    | split
    | dsimp only

theorem State.liveStart_in (s : State) (g : Nat) : Within [.regs, .grid, .adc, .snd] s (State.liveStart s g) := by
  unfold State.liveStart
  repeat' first
    | with_reducible exact Within.refl ..
    | with_reducible assumption
    | lift_lets
    | (intro x; refine Within.known (ps := [.regs, .grid, .adc, .snd]) (s := s) (x := x) ?_ ?_ <;> [(unfold x; clear x); (clear_value x; intro hx)])
    | (intro x; clear_value x)
    | with_reducible refine (State.setGrp_in ..).thn (by decide) ?_
    | with_reducible refine (State.setMode_in ..).thn (by decide) ?_
    | with_reducible refine (State.setRunning_in ..).thn (by decide) ?_
    | split
    | dsimp only

theorem State.deadStart_in (s : State) (g : Nat) : Within [.regs, .grid, .adc, .snd] s (State.deadStart s g) := by
  unfold State.deadStart
  repeat' first
    | with_reducible exact Within.refl ..
    | with_reducible assumption
    | lift_lets
    | (intro x; refine Within.known (ps := [.regs, .grid, .adc, .snd]) (s := s) (x := x) ?_ ?_ <;> [(unfold x; clear x); (clear_value x; intro hx)])
    | (intro x; clear_value x)
    | with_reducible refine (State.raise_in ..).thn (by decide) ?_
    | with_reducible refine (State.setFld_in ..).thn (by decide) ?_
    | with_reducible refine (State.setMode_in ..).thn (by decide) ?_
    | with_reducible refine (State.setGrp_in ..).thn (by decide) ?_
    | with_reducible refine (State.setRunning_in ..).thn (by decide) ?_
    | split
    | dsimp only

theorem State.groupStart_in (s : State) (p : Port) (g : Nat) : Within [.regs, .grid, .adc, .snd] s (State.groupStart s p g) := by
  unfold State.groupStart
  repeat' first
    | with_reducible exact Within.refl ..
    | with_reducible assumption
    | lift_lets
    | (intro x; refine Within.known (ps := [.regs, .grid, .adc, .snd]) (s := s) (x := x) ?_ ?_ <;> [(unfold x; clear x); (clear_value x; intro hx)])
    | (intro x; clear_value x)
    | with_reducible refine (State.refuse_in ..).thn (by decide) ?_
    | with_reducible refine (State.liveStart_in ..).thn (by decide) ?_
    | with_reducible refine (State.deadStart_in ..).thn (by decide) ?_
    | split
    | dsimp only

theorem State.setpoint_in (s : State) (p : Port) (k : Nat) (g : Nat) (v : Nat) : Within [.regs] s (State.setpoint s p k g v) := by
  unfold State.setpoint
  repeat' first
    | with_reducible exact Within.refl ..
    | with_reducible assumption
    | with_reducible refine (State.setFld_in ..).thn (by decide) ?_
    | with_reducible refine (State.refuse_in ..).thn (by decide) ?_
    | split
    | dsimp only

theorem State.secWrite_in (s : State) (p : Port) (k : Nat) (g : Nat) (v : Nat) : Within [.regs] s (State.secWrite s p k g v) := by
  unfold State.secWrite
  repeat' first
    | with_reducible exact Within.refl ..
    | with_reducible assumption
    | with_reducible refine (State.refuse_in ..).thn (by decide) ?_
    | with_reducible refine (State.setpoint_in ..).thn (by decide) ?_
    | split
    | dsimp only

theorem State.secBearing_in (s : State) (k : Nat) (g : Nat) (v : Nat) : Within [.regs] s (State.secBearing s k g v).1 := by
  unfold State.secBearing
  repeat' first
    | with_reducible exact Within.refl ..
    | with_reducible assumption
    | with_reducible refine (State.setFld_in ..).thn (by decide) ?_
    | with_reducible refine (State.raise_in ..).thn (by decide) ?_
    | split
    | dsimp only

theorem State.syncArm_in (s : State) (p : Port) (g : Nat) : Within [.regs] s (State.syncArm s p g) := by
  unfold State.syncArm
  repeat' first
    | with_reducible exact Within.refl ..
    | with_reducible assumption
    | with_reducible refine (State.refuse_in ..).thn (by decide) ?_
    | with_reducible refine (State.setFld_in ..).thn (by decide) ?_
    | split
    | dsimp only

theorem State.syncDisarm_in (s : State) (g : Nat) : Within [.regs, .grid, .adc, .snd] s (State.syncDisarm s g) := by
  unfold State.syncDisarm
  repeat' first
    | with_reducible exact Within.refl ..
    | with_reducible assumption
    | lift_lets
    | (intro x; refine Within.known (ps := [.regs, .grid, .adc, .snd]) (s := s) (x := x) ?_ ?_ <;> [(unfold x; clear x); (clear_value x; intro hx)])
    | (intro x; clear_value x)
    | with_reducible refine (State.setFld_in ..).thn (by decide) ?_
    | with_reducible refine (State.setGrp_in ..).thn (by decide) ?_
    | with_reducible refine (State.setMode_in ..).thn (by decide) ?_
    | split
    | dsimp only

theorem State.hostClosed_in (s : State) (p : Port) (g : Nat) (v : Nat) : Within [.regs, .grid] s (State.hostClosed s p g v) := by
  unfold State.hostClosed
  repeat' first
    | with_reducible exact Within.refl ..
    | with_reducible assumption
    | with_reducible refine (State.refuse_in ..).thn (by decide) ?_
    | with_reducible refine (State.setFld_in ..).thn (by decide) ?_
    | with_reducible refine (State.brkWatch_in ..).thn (by decide) ?_
    | split
    | dsimp only

end Sys2Proof.Machine
end

