-- ==== Sys2Proof/Laws/InSoundRows.lean ====
section
/-!
SUPPORT. What each operation of Machine/SoundRows.lean can change: one lemma per operation.
-/

set_option linter.unusedTactic false
set_option linter.unreachableTactic false

namespace Sys2Proof.Machine

theorem State.burstTick_in (s : State) (g : Nat) (i : TickIn) : Within [.snd] s (State.burstTick s g i) := by
  unfold State.burstTick
  repeat' first
    | with_reducible exact Within.refl ..
    | with_reducible assumption
    | lift_lets
    | (intro x; refine Within.known (ps := [.snd]) (s := s) (x := x) ?_ ?_ <;> [(unfold x; clear x); (clear_value x; intro hx)])
    | (intro x; clear_value x)
    | with_reducible refine (State.corrV_in ..).thn (by decide) ?_
    | with_reducible refine (State.corrI_in ..).thn (by decide) ?_
    | split
    | dsimp only

theorem State.leaderTick_in (s : State) (g : Nat) : Within [.snd] s (State.leaderTick s g) := by
  unfold State.leaderTick
  repeat' first
    | with_reducible exact Within.refl ..
    | with_reducible assumption
    | lift_lets
    | (intro x; refine Within.known (ps := [.snd]) (s := s) (x := x) ?_ ?_ <;> [(unfold x; clear x); (clear_value x; intro hx)])
    | (intro x; clear_value x)
    | with_reducible refine (State.setNode_in ..).thn (by decide) ?_
    | split
    | dsimp only

theorem State.tallyTick_in (s : State) (g : Nat) (r : GroupRec) (i : TickIn) (d : Nat) : Within [.sec] s (State.tallyTick s g r i d) := by
  unfold State.tallyTick
  repeat' first
    | with_reducible exact Within.refl ..
    | with_reducible assumption
    | lift_lets
    | (intro x; refine Within.known (ps := [.sec]) (s := s) (x := x) ?_ ?_ <;> [(unfold x; clear x); (clear_value x; intro hx)])
    | (intro x; clear_value x)
    | with_reducible refine (State.setTally_in ..).thn (by decide) ?_
    | split
    | dsimp only

theorem State.tickGroup_in (s : State) (g : Nat) (m : TickMeas) : Within [.regs, .grid, .adc, .pwm, .ctr, .twn, .sec, .snd] s (State.tickGroup s g m) := by
  unfold State.tickGroup
  repeat' first
    | with_reducible exact Within.refl ..
    | with_reducible assumption
    | lift_lets
    | (intro x; refine Within.known (ps := [.regs, .grid, .adc, .pwm, .ctr, .twn, .sec, .snd]) (s := s) (x := x) ?_ ?_ <;> [(unfold x; clear x); (clear_value x; intro hx)])
    | (intro x; clear_value x)
    | with_reducible refine (State.mark_in ..).thn (by decide) ?_
    | with_reducible refine (State.rotorTick_in ..).thn (by decide) ?_
    | with_reducible refine (State.burstTick_in ..).thn (by decide) ?_
    | with_reducible refine (State.leaderTick_in ..).thn (by decide) ?_
    | with_reducible refine (State.tallyTick_in ..).thn (by decide) ?_
    | split
    | dsimp only

theorem State.inject_in (s : State) (g : Nat) : Within [.regs] s (State.inject s g) := by
  unfold State.inject
  repeat' first
    | with_reducible exact Within.refl ..
    | with_reducible assumption
    | lift_lets
    | (intro x; refine Within.known (ps := [.regs]) (s := s) (x := x) ?_ ?_ <;> [(unfold x; clear x); (clear_value x; intro hx)])
    | (intro x; clear_value x)
    | with_reducible refine (State.mark_in ..).thn (by decide) ?_
    | with_reducible refine (State.setSfld_in ..).thn (by decide) ?_
    | split
    | dsimp only

theorem State.genStart_in (s : State) (g : Nat) (st : Nat) : Within [.regs, .adc, .snd] s (State.genStart s g st) := by
  unfold State.genStart
  repeat' first
    | with_reducible exact Within.refl ..
    | with_reducible assumption
    | lift_lets
    | (intro x; refine Within.known (ps := [.regs, .adc, .snd]) (s := s) (x := x) ?_ ?_ <;> [(unfold x; clear x); (clear_value x; intro hx)])
    | (intro x; clear_value x)
    | with_reducible refine (State.setGen_in ..).thn (by decide) ?_
    | with_reducible refine (State.setGenState_in ..).thn (by decide) ?_
    | split
    | dsimp only

theorem State.burstStart_in (s : State) (g : Nat) : Within [.regs, .adc, .snd] s (State.burstStart s g) := by
  unfold State.burstStart
  repeat' first
    | with_reducible exact Within.refl ..
    | with_reducible assumption
    | lift_lets
    | (intro x; refine Within.known (ps := [.regs, .adc, .snd]) (s := s) (x := x) ?_ ?_ <;> [(unfold x; clear x); (clear_value x; intro hx)])
    | (intro x; clear_value x)
    | with_reducible refine (State.genStart_in ..).thn (by decide) ?_
    | split
    | dsimp only

theorem State.toneResult_in (s : State) (g : Nat) (k : Nat) (judge : Bool) : Within [.regs, .mem] s (State.toneResult s g k judge).1 := by
  unfold State.toneResult
  repeat' first
    | with_reducible exact Within.refl ..
    | with_reducible assumption
    | lift_lets
    | (intro x; refine Within.known (ps := [.regs, .mem]) (s := s) (x := x) ?_ ?_ <;> [(unfold x; clear x); (clear_value x; intro hx)])
    | (intro x; refine Within.known (ps := [.regs, .mem]) (s := s) (x := x.1) ?_ ?_ <;> [(unfold x; clear x); (clear_value x; intro hx)])
    | (intro x; refine Within.known (ps := [.regs, .mem]) (s := s) (x := x.2) ?_ ?_ <;> [(unfold x; clear x); (clear_value x; intro hx)])
    | (intro x; clear_value x)
    | with_reducible refine (State.drawFree_in ..).thn (by decide) ?_
    | with_reducible refine (State.setFld_in ..).thn (by decide) ?_
    | with_reducible refine (State.judge_in ..).thn (by decide) ?_
    | with_reducible refine (State.setSfld_in ..).thn (by decide) ?_
    | split
    | dsimp only

theorem State.toneResults_in (s : State) (g : Nat) (judge : Bool) : Within [.regs, .mem] s (State.toneResults s g judge).1 := by
  unfold State.toneResults
  repeat' first
    | with_reducible exact Within.refl ..
    | with_reducible assumption
    | lift_lets
    | (intro x; refine Within.known (ps := [.regs, .mem]) (s := s) (x := x) ?_ ?_ <;> [(unfold x; clear x); (clear_value x; intro hx)])
    | (intro x; refine Within.known (ps := [.regs, .mem]) (s := s) (x := x.1) ?_ ?_ <;> [(unfold x; clear x); (clear_value x; intro hx)])
    | (intro x; clear_value x)
    | with_reducible refine (State.toneResult_in ..).thn (by decide) ?_
    | with_reducible refine (State.judge_in ..).thn (by decide) ?_
    | with_reducible refine Within.foldl (fun _ _ _ => ?_) ?_
    | with_reducible refine Within.foldl1 (fun _ _ _ => ?_) ?_
    | with_reducible refine Within.foldl2 (fun _ _ _ => ?_) ?_
    | split
    | dsimp only

theorem State.burstEnd_in (s : State) (g : Nat) : Within [.regs, .adc, .mem, .snd] s (State.burstEnd s g) := by
  unfold State.burstEnd
  repeat' first
    | with_reducible exact Within.refl ..
    | with_reducible assumption
    | lift_lets
    | (intro x; refine Within.known (ps := [.regs, .adc, .mem, .snd]) (s := s) (x := x) ?_ ?_ <;> [(unfold x; clear x); (clear_value x; intro hx)])
    | (intro x; refine Within.known (ps := [.regs, .adc, .mem, .snd]) (s := s) (x := x.1) ?_ ?_ <;> [(unfold x; clear x); (clear_value x; intro hx)])
    | (intro x; clear_value x)
    | with_reducible refine (State.toneResults_in ..).thn (by decide) ?_
    | with_reducible refine (State.setGen_in ..).thn (by decide) ?_
    | with_reducible refine (State.burstRest_in ..).thn (by decide) ?_
    | split
    | dsimp only

theorem State.soundingFit_in (s : State) (g : Nat) : Within [.regs, .snd] s (State.soundingFit s g) := by
  unfold State.soundingFit
  repeat' first
    | with_reducible exact Within.refl ..
    | with_reducible assumption
    | lift_lets
    | (intro x; refine Within.known (ps := [.regs, .snd]) (s := s) (x := x) ?_ ?_ <;> [(unfold x; clear x); (clear_value x; intro hx)])
    | (intro x; clear_value x)
    | with_reducible refine (State.setGen_in ..).thn (by decide) ?_
    | with_reducible refine (State.raise_in ..).thn (by decide) ?_
    | with_reducible refine (State.setSfld_in ..).thn (by decide) ?_
    | with_reducible refine (State.stamp_in ..).thn (by decide) ?_
    | with_reducible refine (State.count_in ..).thn (by decide) ?_
    | split
    | dsimp only

theorem State.bindPair_in (s : State) (g : Nat) : Within [.regs, .eng, .mem] s (State.bindPair s g) := by
  unfold State.bindPair
  repeat' first
    | with_reducible exact Within.refl ..
    | with_reducible assumption
    | lift_lets
    | (intro x; refine Within.known (ps := [.regs, .eng, .mem]) (s := s) (x := x) ?_ ?_ <;> [(unfold x; clear x); (clear_value x; intro hx)])
    | (intro x; clear_value x)
    | with_reducible refine (State.setMem_in ..).thn (by decide) ?_
    | with_reducible refine (State.mirrorWrite_in ..).thn (by decide) ?_
    | with_reducible refine Within.foldl (fun _ _ _ => ?_) ?_
    | with_reducible refine Within.foldl1 (fun _ _ _ => ?_) ?_
    | with_reducible refine Within.foldl2 (fun _ _ _ => ?_) ?_
    | split
    | dsimp only

theorem State.retuneApply_in (s : State) (g : Nat) : Within [.regs, .grid, .eng, .mem, .snd] s (State.retuneApply s g) := by
  unfold State.retuneApply
  repeat' first
    | with_reducible exact Within.refl ..
    | with_reducible assumption
    | lift_lets
    | (intro x; refine Within.known (ps := [.regs, .grid, .eng, .mem, .snd]) (s := s) (x := x) ?_ ?_ <;> [(unfold x; clear x); (clear_value x; intro hx)])
    | (intro x; clear_value x)
    | with_reducible refine (State.setGen_in ..).thn (by decide) ?_
    | with_reducible refine (State.setGrp_in ..).thn (by decide) ?_
    | with_reducible refine (State.setSfld_in ..).thn (by decide) ?_
    | with_reducible refine (State.bindPair_in ..).thn (by decide) ?_
    | with_reducible refine (State.raise_in ..).thn (by decide) ?_
    | split
    | dsimp only

theorem State.tuneStart_in (s : State) (p : Port) (g : Nat) : Within [.regs, .adc, .snd] s (State.tuneStart s p g) := by
  unfold State.tuneStart
  repeat' first
    | with_reducible exact Within.refl ..
    | with_reducible assumption
    | lift_lets
    | (intro x; refine Within.known (ps := [.regs, .adc, .snd]) (s := s) (x := x) ?_ ?_ <;> [(unfold x; clear x); (clear_value x; intro hx)])
    | (intro x; clear_value x)
    | with_reducible refine (State.refuse_in ..).thn (by decide) ?_
    | with_reducible refine (State.genStart_in ..).thn (by decide) ?_
    | split
    | dsimp only

theorem State.tuneEnd_in (s : State) (g : Nat) : Within [.regs, .adc, .mem, .snd] s (State.tuneEnd s g) := by
  unfold State.tuneEnd
  repeat' first
    | with_reducible exact Within.refl ..
    | with_reducible assumption
    | with_reducible refine (State.toneResults_in ..).thn (by decide) ?_
    | with_reducible refine (State.genRest_in ..).thn (by decide) ?_
    | with_reducible refine (State.raise_in ..).thn (by decide) ?_
    | split
    | dsimp only

theorem State.tuneAbort_in (s : State) (g : Nat) : Within [.regs, .adc, .snd] s (State.tuneAbort s g) := by
  unfold State.tuneAbort
  repeat' first
    | with_reducible exact Within.refl ..
    | with_reducible assumption
    | with_reducible refine (State.genRest_in ..).thn (by decide) ?_
    | with_reducible refine (State.raise_in ..).thn (by decide) ?_
    | split
    | dsimp only

end Sys2Proof.Machine
end

