-- ==== Sys2Proof/Laws/InBearingRows.lean ====
section
/-!
SUPPORT. What each operation of Machine/BearingRows.lean can change: one lemma per operation.
-/

set_option linter.unusedTactic false
set_option linter.unreachableTactic false

namespace Sys2Proof.Machine

theorem State.logFrame_in (s : State) (g : Nat) (w : Nat) (sent : Bool) : Within [.snd] s (State.logFrame s g w sent) := by
  unfold State.logFrame
  repeat' first
    | with_reducible exact Within.refl ..
    | with_reducible assumption
    | lift_lets
    | (intro x; refine Within.known (ps := [.snd]) (s := s) (x := x) ?_ ?_ <;> [(unfold x; clear x); (clear_value x; intro hx)])
    | (intro x; clear_value x)
    | fail_if_no_progress with_reducible refine Within.upd_snd ?_ (by decide)
    | split
    | dsimp only

theorem State.logNext_in (s : State) : Within [.regs, .mem, .snd] s (State.logNext s) := by
  unfold State.logNext
  repeat' first
    | with_reducible exact Within.refl ..
    | with_reducible assumption
    | lift_lets
    | (intro x; refine Within.known (ps := [.regs, .mem, .snd]) (s := s) (x := x) ?_ ?_ <;> [(unfold x; clear x); (clear_value x; intro hx)])
    | (intro x; refine Within.known (ps := [.regs, .mem, .snd]) (s := s) (x := x.1) ?_ ?_ <;> [(unfold x; clear x); (clear_value x; intro hx)])
    | (intro x; clear_value x)
    | with_reducible refine (State.coreDone_in ..).thn (by decide) ?_
    | with_reducible refine (State.writeBytes_in ..).thn (by decide) ?_
    | with_reducible refine (State.coreStall_in ..).thn (by decide) ?_
    | fail_if_no_progress with_reducible refine Within.upd_snd ?_ (by decide)
    | split
    | dsimp only

theorem State.syncDetected_in (s : State) (g : Nat) : Within [.regs, .snd] s (State.syncDetected s g) := by
  unfold State.syncDetected
  repeat' first
    | with_reducible exact Within.refl ..
    | with_reducible assumption
    | lift_lets
    | (intro x; refine Within.known (ps := [.regs, .snd]) (s := s) (x := x) ?_ ?_ <;> [(unfold x; clear x); (clear_value x; intro hx)])
    | (intro x; clear_value x)
    | with_reducible refine (State.setNode_in ..).thn (by decide) ?_
    | with_reducible refine (State.setFld_in ..).thn (by decide) ?_
    | split
    | dsimp only

theorem State.brgReject_in (s : State) (g : Nat) : Within [.regs] s (State.brgReject s g) := by
  unfold State.brgReject
  repeat' first
    | with_reducible exact Within.refl ..
    | with_reducible assumption
    | with_reducible refine (State.raise_in ..).thn (by decide) ?_
    | with_reducible refine (State.count_in ..).thn (by decide) ?_
    | split
    | dsimp only

theorem State.brgStore_in (s : State) (g : Nat) (f : BrgFields) (w : Nat) (endAt : Nat) : Within [.regs, .snd] s (State.brgStore s g f w endAt) := by
  unfold State.brgStore
  repeat' first
    | with_reducible exact Within.refl ..
    | with_reducible assumption
    | lift_lets
    | (intro x; refine Within.known (ps := [.regs, .snd]) (s := s) (x := x) ?_ ?_ <;> [(unfold x; clear x); (clear_value x; intro hx)])
    | (intro x; clear_value x)
    | with_reducible refine (State.setFld_in ..).thn (by decide) ?_
    | with_reducible refine (State.stamp_in ..).thn (by decide) ?_
    | with_reducible refine (State.raise_in ..).thn (by decide) ?_
    | with_reducible refine (State.count_in ..).thn (by decide) ?_
    | with_reducible refine (State.logFrame_in ..).thn (by decide) ?_
    | split
    | dsimp only

theorem State.ackDone_in (s : State) (g : Nat) : Within [.regs, .snd] s (State.ackDone s g) := by
  unfold State.ackDone
  repeat' first
    | with_reducible exact Within.refl ..
    | with_reducible assumption
    | lift_lets
    | (intro x; refine Within.known (ps := [.regs, .snd]) (s := s) (x := x) ?_ ?_ <;> [(unfold x; clear x); (clear_value x; intro hx)])
    | (intro x; clear_value x)
    | with_reducible refine (State.freshWait_in ..).thn (by decide) ?_
    | with_reducible refine (State.noteTx_in ..).thn (by decide) ?_
    | split
    | dsimp only

theorem State.askAck_in (s : State) (g : Nat) (f : BrgFields) (endAt : Nat) : Within [.snd] s (State.askAck s g f endAt) := by
  unfold State.askAck
  repeat' first
    | with_reducible exact Within.refl ..
    | with_reducible assumption
    | lift_lets
    | (intro x; refine Within.known (ps := [.snd]) (s := s) (x := x) ?_ ?_ <;> [(unfold x; clear x); (clear_value x; intro hx)])
    | (intro x; clear_value x)
    | with_reducible refine (State.setNode_in ..).thn (by decide) ?_
    | split
    | dsimp only

theorem State.brgSec_in (s : State) (g : Nat) (f : BrgFields) (w : Nat) (endAt : Nat) : Within [.regs, .snd] s (State.brgSec s g f w endAt) := by
  unfold State.brgSec
  repeat' first
    | with_reducible exact Within.refl ..
    | with_reducible assumption
    | lift_lets
    | (intro x; refine Within.known (ps := [.regs, .snd]) (s := s) (x := x) ?_ ?_ <;> [(unfold x; clear x); (clear_value x; intro hx)])
    | (intro x; refine Within.known (ps := [.regs, .snd]) (s := s) (x := x.1) ?_ ?_ <;> [(unfold x; clear x); (clear_value x; intro hx)])
    | (intro x; clear_value x)
    | with_reducible refine (State.brgReject_in ..).thn (by decide) ?_
    | with_reducible refine (State.brgStore_in ..).thn (by decide) ?_
    | with_reducible refine (State.askAck_in ..).thn (by decide) ?_
    | with_reducible refine (State.secBearing_in ..).thn (by decide) ?_
    | with_reducible refine (State.setNode_in ..).thn (by decide) ?_
    | split
    | dsimp only

theorem State.brgHandle_in (s : State) (g : Nat) (w : Nat) (endAt : Nat) : Within [.regs, .snd] s (State.brgHandle s g w endAt) := by
  unfold State.brgHandle
  repeat' first
    | with_reducible exact Within.refl ..
    | with_reducible assumption
    | lift_lets
    | (intro x; refine Within.known (ps := [.regs, .snd]) (s := s) (x := x) ?_ ?_ <;> [(unfold x; clear x); (clear_value x; intro hx)])
    | (intro x; clear_value x)
    | with_reducible refine (State.raise_in ..).thn (by decide) ?_
    | with_reducible refine (State.count_in ..).thn (by decide) ?_
    | with_reducible refine (State.brgSec_in ..).thn (by decide) ?_
    | with_reducible refine (State.brgStore_in ..).thn (by decide) ?_
    | with_reducible refine (State.ackDone_in ..).thn (by decide) ?_
    | with_reducible refine (State.brgReject_in ..).thn (by decide) ?_
    | split
    | dsimp only

theorem State.frameReceived_in (s : State) (g : Nat) (w : Nat) : Within [.regs, .snd] s (State.frameReceived s g w) := by
  unfold State.frameReceived
  repeat' first
    | with_reducible exact Within.refl ..
    | with_reducible assumption
    | lift_lets
    | (intro x; refine Within.known (ps := [.regs, .snd]) (s := s) (x := x) ?_ ?_ <;> [(unfold x; clear x); (clear_value x; intro hx)])
    | (intro x; clear_value x)
    | with_reducible refine (State.setFld_in ..).thn (by decide) ?_
    | with_reducible refine (State.brgHandle_in ..).thn (by decide) ?_
    | split
    | dsimp only

theorem State.txGo_in (s : State) (p : Port) (g : Nat) : Within [.regs, .snd] s (State.txGo s p g) := by
  unfold State.txGo
  repeat' first
    | with_reducible exact Within.refl ..
    | with_reducible assumption
    | lift_lets
    | (intro x; refine Within.known (ps := [.regs, .snd]) (s := s) (x := x) ?_ ?_ <;> [(unfold x; clear x); (clear_value x; intro hx)])
    | (intro x; clear_value x)
    | with_reducible refine (State.queueTx_in ..).thn (by decide) ?_
    | with_reducible refine (State.refuse_in ..).thn (by decide) ?_
    | split
    | dsimp only

theorem State.txCancel_in (s : State) (g : Nat) : Within [.regs, .snd] s (State.txCancel s g) := by
  unfold State.txCancel
  repeat' first
    | with_reducible exact Within.refl ..
    | with_reducible assumption
    | lift_lets
    | (intro x; refine Within.known (ps := [.regs, .snd]) (s := s) (x := x) ?_ ?_ <;> [(unfold x; clear x); (clear_value x; intro hx)])
    | (intro x; clear_value x)
    | with_reducible refine (State.freshWait_in ..).thn (by decide) ?_
    | with_reducible refine (State.noteTx_in ..).thn (by decide) ?_
    | with_reducible refine (State.raise_in ..).thn (by decide) ?_
    | split
    | dsimp only

theorem State.beginFrame_in (s : State) (g : Nat) (f : TxFrame) (rest : List TxFrame) : Within [.regs, .adc, .snd] s (State.beginFrame s g f rest) := by
  unfold State.beginFrame
  repeat' first
    | with_reducible exact Within.refl ..
    | with_reducible assumption
    | lift_lets
    | (intro x; refine Within.known (ps := [.regs, .adc, .snd]) (s := s) (x := x) ?_ ?_ <;> [(unfold x; clear x); (clear_value x; intro hx)])
    | (intro x; clear_value x)
    | with_reducible refine (State.setNode_in ..).thn (by decide) ?_
    | with_reducible refine (State.setFld_in ..).thn (by decide) ?_
    | with_reducible refine (State.genStart_in ..).thn (by decide) ?_
    | with_reducible refine (State.setGen_in ..).thn (by decide) ?_
    | with_reducible refine (State.noteTx_in ..).thn (by decide) ?_
    | with_reducible refine (State.count_in ..).thn (by decide) ?_
    | split
    | dsimp only

theorem State.txStart_in (s : State) (g : Nat) : Within [.regs, .adc, .snd] s (State.txStart s g) := by
  unfold State.txStart
  repeat' first
    | with_reducible exact Within.refl ..
    | with_reducible assumption
    | lift_lets
    | (intro x; refine Within.known (ps := [.regs, .adc, .snd]) (s := s) (x := x) ?_ ?_ <;> [(unfold x; clear x); (clear_value x; intro hx)])
    | (intro x; clear_value x)
    | with_reducible refine (State.beginFrame_in ..).thn (by decide) ?_
    | split
    | dsimp only

theorem State.ackSend_in (s : State) (g : Nat) : Within [.regs, .adc, .snd] s (State.ackSend s g) := by
  unfold State.ackSend
  repeat' first
    | with_reducible exact Within.refl ..
    | with_reducible assumption
    | lift_lets
    | (intro x; refine Within.known (ps := [.regs, .adc, .snd]) (s := s) (x := x) ?_ ?_ <;> [(unfold x; clear x); (clear_value x; intro hx)])
    | (intro x; clear_value x)
    | with_reducible refine (State.abandonBurst_in ..).thn (by decide) ?_
    | with_reducible refine (State.setNode_in ..).thn (by decide) ?_
    | with_reducible refine (State.beginFrame_in ..).thn (by decide) ?_
    | split
    | dsimp only

theorem State.afterFrame_in (s : State) (g : Nat) (f : TxFrame) : Within [.regs, .snd] s (State.afterFrame s g f) := by
  unfold State.afterFrame
  repeat' first
    | with_reducible exact Within.refl ..
    | with_reducible assumption
    | lift_lets
    | (intro x; refine Within.known (ps := [.regs, .snd]) (s := s) (x := x) ?_ ?_ <;> [(unfold x; clear x); (clear_value x; intro hx)])
    | (intro x; clear_value x)
    | with_reducible refine (State.setNode_in ..).thn (by decide) ?_
    | with_reducible refine (State.noteTx_in ..).thn (by decide) ?_
    | with_reducible refine (State.freshWait_in ..).thn (by decide) ?_
    | split
    | dsimp only

theorem State.txDone_in (s : State) (g : Nat) : Within [.regs, .adc, .snd] s (State.txDone s g) := by
  unfold State.txDone
  repeat' first
    | with_reducible exact Within.refl ..
    | with_reducible assumption
    | lift_lets
    | (intro x; refine Within.known (ps := [.regs, .adc, .snd]) (s := s) (x := x) ?_ ?_ <;> [(unfold x; clear x); (clear_value x; intro hx)])
    | (intro x; clear_value x)
    | with_reducible refine (State.logFrame_in ..).thn (by decide) ?_
    | with_reducible refine (State.setNode_in ..).thn (by decide) ?_
    | with_reducible refine (State.genRest_in ..).thn (by decide) ?_
    | with_reducible refine (State.raise_in ..).thn (by decide) ?_
    | with_reducible refine (State.count_in ..).thn (by decide) ?_
    | with_reducible refine (State.afterFrame_in ..).thn (by decide) ?_
    | split
    | dsimp only

theorem State.ackTimeout_in (s : State) (g : Nat) : Within [.regs, .snd] s (State.ackTimeout s g) := by
  unfold State.ackTimeout
  repeat' first
    | with_reducible exact Within.refl ..
    | with_reducible assumption
    | lift_lets
    | (intro x; refine Within.known (ps := [.regs, .snd]) (s := s) (x := x) ?_ ?_ <;> [(unfold x; clear x); (clear_value x; intro hx)])
    | (intro x; clear_value x)
    | with_reducible refine (State.freshWait_in ..).thn (by decide) ?_
    | with_reducible refine (State.noteTx_in ..).thn (by decide) ?_
    | with_reducible refine (State.raise_in ..).thn (by decide) ?_
    | split
    | dsimp only

theorem State.statePeriod_in (s : State) (g : Nat) : Within [.regs, .snd] s (State.statePeriod s g) := by
  unfold State.statePeriod
  repeat' first
    | with_reducible exact Within.refl ..
    | with_reducible assumption
    | lift_lets
    | (intro x; refine Within.known (ps := [.regs, .snd]) (s := s) (x := x) ?_ ?_ <;> [(unfold x; clear x); (clear_value x; intro hx)])
    | (intro x; clear_value x)
    | with_reducible refine (State.setNode_in ..).thn (by decide) ?_
    | with_reducible refine (State.queueTx_in ..).thn (by decide) ?_
    | split
    | dsimp only

theorem State.leaderSend_in (s : State) (g : Nat) (kind : Nat) (v : Nat) : Within [.regs, .snd] s (State.leaderSend s g kind v) := by
  unfold State.leaderSend
  repeat' first
    | with_reducible exact Within.refl ..
    | with_reducible assumption
    | lift_lets
    | (intro x; refine Within.known (ps := [.regs, .snd]) (s := s) (x := x) ?_ ?_ <;> [(unfold x; clear x); (clear_value x; intro hx)])
    | (intro x; clear_value x)
    | with_reducible refine (State.setNode_in ..).thn (by decide) ?_
    | with_reducible refine (State.queueTx_in ..).thn (by decide) ?_
    | split
    | dsimp only

theorem State.leaderEval_in (s : State) (g : Nat) : Within [.regs, .snd] s (State.leaderEval s g) := by
  unfold State.leaderEval
  repeat' first
    | with_reducible exact Within.refl ..
    | with_reducible assumption
    | lift_lets
    | (intro x; refine Within.known (ps := [.regs, .snd]) (s := s) (x := x) ?_ ?_ <;> [(unfold x; clear x); (clear_value x; intro hx)])
    | (intro x; clear_value x)
    | with_reducible refine (State.setNode_in ..).thn (by decide) ?_
    | with_reducible refine (State.leaderSend_in ..).thn (by decide) ?_
    | split
    | dsimp only

theorem State.leaderApply_in (s : State) (g : Nat) : Within [.regs, .snd] s (State.leaderApply s g) := by
  unfold State.leaderApply
  repeat' first
    | with_reducible exact Within.refl ..
    | with_reducible assumption
    | lift_lets
    | (intro x; refine Within.known (ps := [.regs, .snd]) (s := s) (x := x) ?_ ?_ <;> [(unfold x; clear x); (clear_value x; intro hx)])
    | (intro x; refine Within.known (ps := [.regs, .snd]) (s := s) (x := x.1) ?_ ?_ <;> [(unfold x; clear x); (clear_value x; intro hx)])
    | (intro x; clear_value x)
    | with_reducible refine (State.setNode_in ..).thn (by decide) ?_
    | with_reducible refine (State.secBearing_in ..).thn (by decide) ?_
    | split
    | dsimp only

end Sys2Proof.Machine
end

