-- ==== Sys2Proof/Laws/InClkRows.lean ====
section
/-!
SUPPORT. What each operation of Machine/ClkRows.lean can change: one lemma per operation.
-/

set_option linter.unusedTactic false
set_option linter.unreachableTactic false

namespace Sys2Proof.Machine

theorem State.measured_in (s : State) (refKhz : Nat) (kKhz : Nat) : Within [.regs] s (State.measured s refKhz kKhz) := by
  unfold State.measured
  repeat' first
    | with_reducible exact Within.refl ..
    | with_reducible assumption
    | with_reducible refine (State.setFld_in ..).thn (by decide) ?_
    | split
    | dsimp only

theorem State.relock_in (s : State) : Within [.regs, .clk] s (State.relock s) := by
  unfold State.relock
  repeat' first
    | with_reducible exact Within.refl ..
    | with_reducible assumption
    | with_reducible refine (State.startHop_in ..).thn (by decide) ?_
    | with_reducible refine Within.forIdx (fun _ _ _ => ?_) ?_
    | split
    | dsimp only

theorem State.refLoss_in (s : State) : Within [.regs, .clk, .adc] s (State.refLoss s) := by
  unfold State.refLoss
  repeat' first
    | with_reducible exact Within.refl ..
    | with_reducible assumption
    | lift_lets
    | (intro x; refine Within.known (ps := [.regs, .clk, .adc]) (s := s) (x := x) ?_ ?_ <;> [(unfold x; clear x); (clear_value x; intro hx)])
    | (intro x; clear_value x)
    | with_reducible refine (State.setFld_in ..).thn (by decide) ?_
    | with_reducible refine (State.raise_in ..).thn (by decide) ?_
    | with_reducible refine (State.mark_in ..).thn (by decide) ?_
    | with_reducible refine (State.hopAll_in ..).thn (by decide) ?_
    | with_reducible refine Within.forIdx (fun _ _ _ => ?_) ?_
    | split
    | dsimp only

theorem State.refValid_in (s : State) (refKhz : Nat) (kKhz : Nat) : Within [.regs, .clk] s (State.refValid s refKhz kKhz) := by
  unfold State.refValid
  repeat' first
    | with_reducible exact Within.refl ..
    | with_reducible assumption
    | with_reducible refine (State.measured_in ..).thn (by decide) ?_
    | with_reducible refine (State.setFld_in ..).thn (by decide) ?_
    | with_reducible refine (State.relock_in ..).thn (by decide) ?_
    | split
    | dsimp only

theorem State.noteLoss_in (s : State) (p : Nat) : Within [.regs] s (State.noteLoss s p) := by
  unfold State.noteLoss
  repeat' first
    | with_reducible exact Within.refl ..
    | with_reducible assumption
    | lift_lets
    | (intro x; refine Within.known (ps := [.regs]) (s := s) (x := x) ?_ ?_ <;> [(unfold x; clear x); (clear_value x; intro hx)])
    | (intro x; clear_value x)
    | with_reducible refine (State.raise_in ..).thn (by decide) ?_
    | with_reducible refine (State.count_in ..).thn (by decide) ?_
    | split
    | dsimp only

theorem State.lossC_in (s : State) : Within [.regs, .clk] s (State.lossC s) := by
  unfold State.lossC
  repeat' first
    | with_reducible exact Within.refl ..
    | with_reducible assumption
    | with_reducible refine (State.holdC_in ..).thn (by decide) ?_
    | with_reducible refine (State.noteLoss_in ..).thn (by decide) ?_
    | split
    | dsimp only

theorem State.lossA_in (s : State) : Within [.regs, .clk, .adc] s (State.lossA s) := by
  unfold State.lossA
  repeat' first
    | with_reducible exact Within.refl ..
    | with_reducible assumption
    | with_reducible refine (State.setFld_in ..).thn (by decide) ?_
    | with_reducible refine (State.noteLoss_in ..).thn (by decide) ?_
    | with_reducible refine (State.askAlt_in ..).thn (by decide) ?_
    | split
    | dsimp only

theorem State.lossM_in (s : State) : Within [.regs, .clk] s (State.lossM s) := by
  unfold State.lossM
  repeat' first
    | with_reducible exact Within.refl ..
    | with_reducible assumption
    | lift_lets
    | (intro x; refine Within.known (ps := [.regs, .clk]) (s := s) (x := x) ?_ ?_ <;> [(unfold x; clear x); (clear_value x; intro hx)])
    | (intro x; clear_value x)
    | with_reducible refine (State.setFld_in ..).thn (by decide) ?_
    | with_reducible refine (State.noteLoss_in ..).thn (by decide) ?_
    | fail_if_no_progress with_reducible refine Within.upd_clk ?_ (by decide)
    | split
    | dsimp only

theorem State.pllLoss_in (s : State) (p : Nat) (byRef : Bool) : Within [.regs, .clk, .adc] s (State.pllLoss s p byRef) := by
  unfold State.pllLoss
  repeat' first
    | with_reducible exact Within.refl ..
    | with_reducible assumption
    | lift_lets
    | (intro x; refine Within.known (ps := [.regs, .clk, .adc]) (s := s) (x := x) ?_ ?_ <;> [(unfold x; clear x); (clear_value x; intro hx)])
    | (intro x; clear_value x)
    | with_reducible refine (State.noteLoss_in ..).thn (by decide) ?_
    | with_reducible refine (State.mark_in ..).thn (by decide) ?_
    | with_reducible refine (State.askAlt_in ..).thn (by decide) ?_
    | with_reducible refine (State.lossC_in ..).thn (by decide) ?_
    | with_reducible refine (State.lossA_in ..).thn (by decide) ?_
    | with_reducible refine (State.lossM_in ..).thn (by decide) ?_
    | with_reducible refine (State.raise_in ..).thn (by decide) ?_
    | with_reducible refine (State.startHop_in ..).thn (by decide) ?_
    | split
    | dsimp only

theorem State.recordBand_in (s : State) (p : Nat) (band : Nat) (coarse : Nat) (t : Nat) : Within [.regs, .clk] s (State.recordBand s p band coarse t) := by
  unfold State.recordBand
  repeat' first
    | with_reducible exact Within.refl ..
    | with_reducible assumption
    | lift_lets
    | (intro x; refine Within.known (ps := [.regs, .clk]) (s := s) (x := x) ?_ ?_ <;> [(unfold x; clear x); (clear_value x; intro hx)])
    | (intro x; clear_value x)
    | with_reducible refine (State.setFld_in ..).thn (by decide) ?_
    | fail_if_no_progress with_reducible refine Within.upd_clk ?_ (by decide)
    | split
    | dsimp only

theorem State.carryRatio_in (s : State) : Within [.regs, .eng, .clk] s (State.carryRatio s) := by
  unfold State.carryRatio
  repeat' first
    | with_reducible exact Within.refl ..
    | with_reducible assumption
    | with_reducible refine (State.setRatioC_in ..).thn (by decide) ?_
    | split
    | dsimp only

theorem State.lockC_in (s : State) : Within [.regs, .eng, .clk, .pwm, .twn] s (State.lockC s) := by
  unfold State.lockC
  repeat' first
    | with_reducible exact Within.refl ..
    | with_reducible assumption
    | lift_lets
    | (intro x; refine Within.known (ps := [.regs, .eng, .clk, .pwm, .twn]) (s := s) (x := x) ?_ ?_ <;> [(unfold x; clear x); (clear_value x; intro hx)])
    | (intro x; clear_value x)
    | with_reducible refine (State.setFld_in ..).thn (by decide) ?_
    | with_reducible refine (State.relay_in ..).thn (by decide) ?_
    | with_reducible refine (State.setRatioC_in ..).thn (by decide) ?_
    | with_reducible refine (State.startProfile_in ..).thn (by decide) ?_
    | with_reducible refine (State.carryRatio_in ..).thn (by decide) ?_
    | fail_if_no_progress with_reducible refine Within.upd_clk_twn ?_ (by decide) (by decide)
    | split
    | dsimp only

theorem State.lockA_in (s : State) : Within [.regs, .clk] s (State.lockA s) := by
  unfold State.lockA
  repeat' first
    | with_reducible exact Within.refl ..
    | with_reducible assumption
    | lift_lets
    | (intro x; refine Within.known (ps := [.regs, .clk]) (s := s) (x := x) ?_ ?_ <;> [(unfold x; clear x); (clear_value x; intro hx)])
    | (intro x; clear_value x)
    | with_reducible refine (State.setFld_in ..).thn (by decide) ?_
    | with_reducible refine (State.setRatio_in ..).thn (by decide) ?_
    | fail_if_no_progress with_reducible refine Within.upd_clk ?_ (by decide)
    | split
    | dsimp only

theorem State.lockM_in (s : State) : Within [.regs, .clk] s (State.lockM s) := by
  unfold State.lockM
  repeat' first
    | with_reducible exact Within.refl ..
    | with_reducible assumption
    | lift_lets
    | (intro x; refine Within.known (ps := [.regs, .clk]) (s := s) (x := x) ?_ ?_ <;> [(unfold x; clear x); (clear_value x; intro hx)])
    | (intro x; clear_value x)
    | with_reducible refine (State.setFld_in ..).thn (by decide) ?_
    | with_reducible refine (State.setRatio_in ..).thn (by decide) ?_
    | fail_if_no_progress with_reducible refine Within.upd_clk ?_ (by decide)
    | split
    | dsimp only

theorem State.pllLock_in (s : State) (p : Nat) (band : Nat) (coarse : Nat) (t : Nat) : Within [.regs, .eng, .clk, .pwm, .twn] s (State.pllLock s p band coarse t) := by
  unfold State.pllLock
  repeat' first
    | with_reducible exact Within.refl ..
    | with_reducible assumption
    | lift_lets
    | (intro x; refine Within.known (ps := [.regs, .eng, .clk, .pwm, .twn]) (s := s) (x := x) ?_ ?_ <;> [(unfold x; clear x); (clear_value x; intro hx)])
    | (intro x; clear_value x)
    | with_reducible refine (State.noteLoss_in ..).thn (by decide) ?_
    | with_reducible refine (State.setFld_in ..).thn (by decide) ?_
    | with_reducible refine (State.recordBand_in ..).thn (by decide) ?_
    | with_reducible refine (State.loadSeed_in ..).thn (by decide) ?_
    | with_reducible refine (State.lockC_in ..).thn (by decide) ?_
    | with_reducible refine (State.lockA_in ..).thn (by decide) ?_
    | with_reducible refine (State.lockM_in ..).thn (by decide) ?_
    | fail_if_no_progress with_reducible refine Within.upd_clk ?_ (by decide)
    | split
    | dsimp only

theorem State.hopFail_in (s : State) (p : Nat) : Within [.regs, .clk, .adc] s (State.hopFail s p) := by
  unfold State.hopFail
  repeat' first
    | with_reducible exact Within.refl ..
    | with_reducible assumption
    | lift_lets
    | (intro x; refine Within.known (ps := [.regs, .clk, .adc]) (s := s) (x := x) ?_ ?_ <;> [(unfold x; clear x); (clear_value x; intro hx)])
    | (intro x; clear_value x)
    | with_reducible refine (State.raise_in ..).thn (by decide) ?_
    | with_reducible refine (State.setFld_in ..).thn (by decide) ?_
    | with_reducible refine (State.askAlt_in ..).thn (by decide) ?_
    | fail_if_no_progress with_reducible refine Within.upd_clk ?_ (by decide)
    | split
    | dsimp only

theorem State.endRefresh_in (s : State) : Within [.mem] s (State.endRefresh s) := by
  unfold State.endRefresh
  repeat' first
    | with_reducible exact Within.refl ..
    | with_reducible assumption
    | lift_lets
    | (intro x; refine Within.known (ps := [.mem]) (s := s) (x := x) ?_ ?_ <;> [(unfold x; clear x); (clear_value x; intro hx)])
    | (intro x; unfold x; clear x; try beta_reduce)
    | (intro x; clear_value x)
    | fail_if_no_progress with_reducible refine Within.upd_mem ?_ (by decide) ⟨rfl, rfl⟩
    | split
    | dsimp only

theorem State.spreadStep_in (s : State) : Within [.regs, .eng, .clk] s (State.spreadStep s) := by
  unfold State.spreadStep
  repeat' first
    | with_reducible exact Within.refl ..
    | with_reducible assumption
    | lift_lets
    | (intro x; refine Within.known (ps := [.regs, .eng, .clk]) (s := s) (x := x) ?_ ?_ <;> [(unfold x; clear x); (clear_value x; intro hx)])
    | (intro x; clear_value x)
    | with_reducible refine (State.setRatioC_in ..).thn (by decide) ?_
    | fail_if_no_progress with_reducible refine Within.upd_clk ?_ (by decide)
    | split
    | dsimp only

theorem State.bandClear_in (s : State) (p : Port) : Within [.regs] s (State.bandClear s p) := by
  unfold State.bandClear
  repeat' first
    | with_reducible exact Within.refl ..
    | with_reducible assumption
    | with_reducible refine (State.refuse_in ..).thn (by decide) ?_
    | with_reducible refine (State.setFld_in ..).thn (by decide) ?_
    | with_reducible refine Within.forIdx (fun _ _ _ => ?_) ?_
    | split
    | dsimp only

end Sys2Proof.Machine
end

