-- ==== Sys2Proof/Laws/InMemRows.lean ====
section
/-!
SUPPORT. What each operation of Machine/MemRows.lean can change: one lemma per operation.
-/

set_option linter.unusedTactic false
set_option linter.unreachableTactic false

namespace Sys2Proof.Machine

theorem State.expertCmd_in {ps : List Part} {s0 s : State} {c : Instr} {p : Port} {a : Nat} {body : State → State}
    (hs : ∀ q ∈ [Part.regs], q ∈ ps) (hb : ∀ u, Within ps s0 u → Within ps s0 (body u)) (h : Within ps s0 s) :
    Within ps s0 (s.expertCmd c p a body) := by
  refine State.portCmd_in hs (fun u hu => ?_) h
  split
  · exact hb u hu
  · exact (u.refuse_in p a).thn hs hu

theorem State.loseDie_in (s : State) (d : Nat) : Within [.regs] s (State.loseDie s d) := by
  unfold State.loseDie
  repeat' first
    | with_reducible exact Within.refl ..
    | with_reducible assumption
    | with_reducible refine (State.setFld_in ..).thn (by decide) ?_
    | with_reducible refine (State.raise_in ..).thn (by decide) ?_
    | split
    | dsimp only

theorem State.linksUp_in (s : State) : Within [.regs] s (State.linksUp s) := by
  unfold State.linksUp
  repeat' first
    | with_reducible exact Within.refl ..
    | with_reducible assumption
    | with_reducible refine (State.setFld_in ..).thn (by decide) ?_
    | split
    | dsimp only

theorem State.fillDram_in (s : State) : Within [.regs, .mem] s s.fillDram := by
  unfold State.fillDram
  refine (State.setFld_in ..).thn (by decide) ?_
  exact Within.memWf (Within.refl ..) (by decide) fun _ => rfl

theorem State.markDie_in (s : State) (p : Port) (d : Nat) : Within [.regs] s (State.markDie s p d) := by
  unfold State.markDie
  repeat' first
    | with_reducible exact Within.refl ..
    | with_reducible assumption
    | with_reducible refine (State.refuse_in ..).thn (by decide) ?_
    | with_reducible refine (State.setFld_in ..).thn (by decide) ?_
    | with_reducible refine (State.loseDie_in ..).thn (by decide) ?_
    | split
    | dsimp only

theorem State.unmarkDie_in (s : State) (p : Port) : Within [.regs] s (State.unmarkDie s p) := by
  unfold State.unmarkDie
  repeat' first
    | with_reducible exact Within.refl ..
    | with_reducible assumption
    | with_reducible refine (State.setFld_in ..).thn (by decide) ?_
    | with_reducible refine (State.refuse_in ..).thn (by decide) ?_
    | split
    | dsimp only

theorem State.errataAdd_in (s : State) (b : Nat) (auto : Bool) : Within [.regs, .mem] s (State.errataAdd s b auto).1 := by
  unfold State.errataAdd
  repeat' first
    | with_reducible exact Within.refl ..
    | with_reducible assumption
    | lift_lets
    | (intro x; refine Within.known (ps := [.regs, .mem]) (s := s) (x := x) ?_ ?_ <;> [(unfold x; clear x); (clear_value x; intro hx)])
    | (intro x; unfold x; clear x; try beta_reduce)
    | (intro x; clear_value x)
    | with_reducible refine (State.raise_in ..).thn (by decide) ?_
    | fail_if_no_progress with_reducible refine Within.upd_mem ?_ (by decide) ⟨rfl, rfl⟩
    | split
    | dsimp only

theorem State.errataWrite_in (s : State) (p : Port) (b : Nat) : Within [.regs, .mem] s (State.errataWrite s p b) := by
  unfold State.errataWrite
  repeat' first
    | with_reducible exact Within.refl ..
    | with_reducible assumption
    | lift_lets
    | (intro x; refine Within.known (ps := [.regs, .mem]) (s := s) (x := x) ?_ ?_ <;> [(unfold x; clear x); (clear_value x; intro hx)])
    | (intro x; refine Within.known (ps := [.regs, .mem]) (s := s) (x := x.1) ?_ ?_ <;> [(unfold x; clear x); (clear_value x; intro hx)])
    | (intro x; clear_value x)
    | with_reducible refine (State.setFld_in ..).thn (by decide) ?_
    | with_reducible refine (State.errataAdd_in ..).thn (by decide) ?_
    | with_reducible refine (State.refuse_in ..).thn (by decide) ?_
    | split
    | dsimp only

theorem State.errataRemove_in (s : State) (b : Nat) : Within [.regs, .mem] s (State.errataRemove s b) := by
  unfold State.errataRemove
  repeat' first
    | with_reducible exact Within.refl ..
    | with_reducible assumption
    | lift_lets
    | (intro x; refine Within.known (ps := [.regs, .mem]) (s := s) (x := x) ?_ ?_ <;> [(unfold x; clear x); (clear_value x; intro hx)])
    | (intro x; unfold x; clear x; try beta_reduce)
    | (intro x; clear_value x)
    | with_reducible refine (State.setFld_in ..).thn (by decide) ?_
    | fail_if_no_progress with_reducible refine Within.upd_mem ?_ (by decide) ⟨rfl, rfl⟩
    | split
    | dsimp only

theorem State.carryBlock_in (s : State) (k : Nat) : Within [.regs, .mem] s (State.carryBlock s k) := by
  unfold State.carryBlock
  repeat' first
    | with_reducible exact Within.refl ..
    | with_reducible assumption
    | with_reducible refine (State.remakeBlock_in ..).thn (by decide) ?_
    | with_reducible refine (State.poisonBlock_in ..).thn (by decide) ?_
    | with_reducible refine (State.plFull_in ..).thn (by decide) ?_
    | split
    | dsimp only

theorem State.scrubBlock_in (s : State) (k : Nat) : Within [.regs, .mem] s (State.scrubBlock s k) := by
  unfold State.scrubBlock
  repeat' first
    | with_reducible exact Within.refl ..
    | with_reducible assumption
    | lift_lets
    | (intro x; refine Within.known (ps := [.regs, .mem]) (s := s) (x := x) ?_ ?_ <;> [(unfold x; clear x); (clear_value x; intro hx)])
    | (intro x; refine Within.known (ps := [.regs, .mem]) (s := s) (x := x.1) ?_ ?_ <;> [(unfold x; clear x); (clear_value x; intro hx)])
    | (intro x; unfold x; clear x; try beta_reduce)
    | (intro x; clear_value x)
    | with_reducible refine (State.remakeBlock_in ..).thn (by decide) ?_
    | with_reducible refine (State.judge_in ..).thn (by decide) ?_
    | with_reducible refine Within.foldl (fun _ _ _ => ?_) ?_
    | with_reducible refine Within.foldl1 (fun _ _ _ => ?_) ?_
    | with_reducible refine Within.foldl2 (fun _ _ _ => ?_) ?_
    | fail_if_no_progress with_reducible refine Within.upd_mem ?_ (by decide) ⟨rfl, rfl⟩
    | split
    | dsimp only

theorem State.scrubEnd_in (s : State) : Within [.regs, .mem] s (State.scrubEnd s) := by
  unfold State.scrubEnd
  repeat' first
    | with_reducible exact Within.refl ..
    | with_reducible assumption
    | lift_lets
    | (intro x; refine Within.known (ps := [.regs, .mem]) (s := s) (x := x) ?_ ?_ <;> [(unfold x; clear x); (clear_value x; intro hx)])
    | (intro x; refine Within.known (ps := [.regs, .mem]) (s := s) (x := x.1) ?_ ?_ <;> [(unfold x; clear x); (clear_value x; intro hx)])
    | (intro x; unfold x; clear x; try beta_reduce)
    | (intro x; clear_value x)
    | with_reducible refine (State.count_in ..).thn (by decide) ?_
    | with_reducible refine (State.raise_in ..).thn (by decide) ?_
    | with_reducible refine (State.errataAdd_in ..).thn (by decide) ?_
    | with_reducible refine Within.foldl (fun _ _ _ => ?_) ?_
    | with_reducible refine Within.foldl1 (fun _ _ _ => ?_) ?_
    | with_reducible refine Within.foldl2 (fun _ _ _ => ?_) ?_
    | fail_if_no_progress with_reducible refine Within.upd_mem ?_ (by decide) ⟨rfl, rfl⟩
    | split
    | dsimp only

theorem State.checkerGo_in (s : State) (p : Port) : Within [.regs, .mem] s (State.checkerGo s p) := by
  unfold State.checkerGo
  repeat' first
    | with_reducible exact Within.refl ..
    | with_reducible assumption
    | lift_lets
    | (intro x; refine Within.known (ps := [.regs, .mem]) (s := s) (x := x) ?_ ?_ <;> [(unfold x; clear x); (clear_value x; intro hx)])
    | (intro x; unfold x; clear x; try beta_reduce)
    | (intro x; clear_value x)
    | with_reducible refine (State.refuse_in ..).thn (by decide) ?_
    | fail_if_no_progress with_reducible refine Within.upd_mem ?_ (by decide) ⟨rfl, rfl⟩
    | split
    | dsimp only

theorem State.mirrorRead_in (s : State) (c : Nat) (bun : Bool) (stg : Bool) (i : Nat) : Within [.regs, .mem] s (State.mirrorRead s c bun stg i).1 := by
  unfold State.mirrorRead
  repeat' first
    | with_reducible exact Within.refl ..
    | with_reducible assumption
    | lift_lets
    | (intro x; refine Within.known (ps := [.regs, .mem]) (s := s) (x := x) ?_ ?_ <;> [(unfold x; clear x); (clear_value x; intro hx)])
    | (intro x; refine Within.known (ps := [.regs, .mem]) (s := s) (x := x.1) ?_ ?_ <;> [(unfold x; clear x); (clear_value x; intro hx)])
    | (intro x; clear_value x)
    | with_reducible refine (State.judge_in ..).thn (by decide) ?_
    | split
    | dsimp only

theorem State.mirrorFix_in (s : State) (c : Nat) (bun : Bool) (stg : Bool) (i : Nat) : Within [.eng] s (State.mirrorFix s c bun stg i) := by
  unfold State.mirrorFix
  repeat' first
    | with_reducible exact Within.refl ..
    | with_reducible assumption
    | lift_lets
    | (intro x; refine Within.known (ps := [.eng]) (s := s) (x := x) ?_ ?_ <;> [(unfold x; clear x); (clear_value x; intro hx)])
    | (intro x; unfold x; clear x; try beta_reduce)
    | (intro x; clear_value x)
    | fail_if_no_progress with_reducible refine Within.upd_eng ?_ (by decide)
    | split
    | dsimp only

theorem State.mirrorRepair_in (s : State) (c : Nat) (bun : Bool) (stg : Bool) (i : Nat) (soft : Bool) : Within [.regs, .eng, .mem] s (State.mirrorRepair s c bun stg i soft) := by
  unfold State.mirrorRepair
  repeat' first
    | with_reducible exact Within.refl ..
    | with_reducible assumption
    | lift_lets
    | (intro x; refine Within.known (ps := [.regs, .eng, .mem]) (s := s) (x := x) ?_ ?_ <;> [(unfold x; clear x); (clear_value x; intro hx)])
    | (intro x; refine Within.known (ps := [.regs, .eng, .mem]) (s := s) (x := x.1) ?_ ?_ <;> [(unfold x; clear x); (clear_value x; intro hx)])
    | (intro x; clear_value x)
    | with_reducible refine (State.coreStall_in ..).thn (by decide) ?_
    | with_reducible refine (State.coreDone_in ..).thn (by decide) ?_
    | with_reducible refine (State.noteUe_in ..).thn (by decide) ?_
    | with_reducible refine (State.mirrorRead_in ..).thn (by decide) ?_
    | with_reducible refine (State.raise_in ..).thn (by decide) ?_
    | with_reducible refine (State.mirrorFix_in ..).thn (by decide) ?_
    | split
    | dsimp only

end Sys2Proof.Machine
end

