-- ==== Sys2Proof/Laws/InTwinOps.lean ====
section
/-!
SUPPORT. What each operation of Machine/TwinOps.lean can change: one lemma per operation.
-/

set_option linter.unusedTactic false
set_option linter.unreachableTactic false

namespace Sys2Proof.Machine

theorem State.driveAll_in (s : State) : Within [.regs, .drv] s (State.driveAll s) := by
  unfold State.driveAll
  repeat' first
    | with_reducible exact Within.refl ..
    | with_reducible assumption
    | with_reducible refine (State.driveLeg_in ..).thn (by decide) ?_
    | with_reducible refine Within.forIdx (fun _ _ _ => ?_) ?_
    | split
    | dsimp only

theorem State.releaseAll_in (s : State) : Within [.regs, .drv] s (State.releaseAll s) := by
  unfold State.releaseAll
  repeat' first
    | with_reducible exact Within.refl ..
    | with_reducible assumption
    | with_reducible refine (State.releaseLeg_in ..).thn (by decide) ?_
    | with_reducible refine Within.forIdx (fun _ _ _ => ?_) ?_
    | split
    | dsimp only

theorem State.setTwn_in (s : State) (r : TwnRun) : Within [.twn] s (State.setTwn s r) := by
  unfold State.setTwn
  repeat' first
    | with_reducible exact Within.refl ..
    | with_reducible assumption
    | lift_lets
    | (intro x; refine Within.known (ps := [.twn]) (s := s) (x := x) ?_ ?_ <;> [(unfold x; clear x); (clear_value x; intro hx)])
    | (intro x; clear_value x)
    | fail_if_no_progress with_reducible refine Within.upd_twn ?_ (by decide)
    | split
    | dsimp only

theorem State.driveAct_in (s : State) : Within [.regs, .twn] s (State.driveAct s) := by
  unfold State.driveAct
  repeat' first
    | with_reducible exact Within.refl ..
    | with_reducible assumption
    | lift_lets
    | (intro x; refine Within.known (ps := [.regs, .twn]) (s := s) (x := x) ?_ ?_ <;> [(unfold x; clear x); (clear_value x; intro hx)])
    | (intro x; clear_value x)
    | with_reducible refine (State.setTwn_in ..).thn (by decide) ?_
    | with_reducible refine (State.setFld_in ..).thn (by decide) ?_
    | split
    | dsimp only

theorem State.becomeActive_in (s : State) : Within [.regs, .pwm, .twn] s (State.becomeActive s) := by
  unfold State.becomeActive
  repeat' first
    | with_reducible exact Within.refl ..
    | with_reducible assumption
    | lift_lets
    | (intro x; refine Within.known (ps := [.regs, .pwm, .twn]) (s := s) (x := x) ?_ ?_ <;> [(unfold x; clear x); (clear_value x; intro hx)])
    | (intro x; clear_value x)
    | with_reducible refine (State.legOff_in ..).thn (by decide) ?_
    | with_reducible refine (State.driveAct_in ..).thn (by decide) ?_
    | with_reducible refine (State.setFld_in ..).thn (by decide) ?_
    | with_reducible refine (State.setTwn_in ..).thn (by decide) ?_
    | with_reducible refine Within.forIdx (fun _ _ _ => ?_) ?_
    | split
    | dsimp only

theorem State.becomeStandby_in (s : State) : Within [.regs, .grid, .twn] s (State.becomeStandby s) := by
  unfold State.becomeStandby
  repeat' first
    | with_reducible exact Within.refl ..
    | with_reducible assumption
    | lift_lets
    | (intro x; refine Within.known (ps := [.regs, .grid, .twn]) (s := s) (x := x) ?_ ?_ <;> [(unfold x; clear x); (clear_value x; intro hx)])
    | (intro x; clear_value x)
    | with_reducible refine (State.setGrp_in ..).thn (by decide) ?_
    | with_reducible refine (State.setFld_in ..).thn (by decide) ?_
    | with_reducible refine (State.setTwn_in ..).thn (by decide) ?_
    | with_reducible refine Within.forIdx (fun _ _ _ => ?_) ?_
    | split
    | dsimp only

theorem State.takeRole_in (s : State) : Within [.regs, .grid, .pwm, .drv, .twn] s (State.takeRole s) := by
  unfold State.takeRole
  repeat' first
    | with_reducible exact Within.refl ..
    | with_reducible assumption
    | lift_lets
    | (intro x; refine Within.known (ps := [.regs, .grid, .pwm, .drv, .twn]) (s := s) (x := x) ?_ ?_ <;> [(unfold x; clear x); (clear_value x; intro hx)])
    | (intro x; clear_value x)
    | with_reducible refine (State.releaseAll_in ..).thn (by decide) ?_
    | with_reducible refine (State.setTwn_in ..).thn (by decide) ?_
    | with_reducible refine (State.becomeStandby_in ..).thn (by decide) ?_
    | with_reducible refine (State.becomeActive_in ..).thn (by decide) ?_
    | split
    | dsimp only

theorem State.capture_in (s : State) : Within [.twn] s (State.capture s) := by
  unfold State.capture
  repeat' first
    | with_reducible exact Within.refl ..
    | with_reducible assumption
    | lift_lets
    | (intro x; refine Within.known (ps := [.twn]) (s := s) (x := x) ?_ ?_ <;> [(unfold x; clear x); (clear_value x; intro hx)])
    | (intro x; clear_value x)
    | with_reducible refine (State.setTwn_in ..).thn (by decide) ?_
    | split
    | dsimp only

theorem State.noteReady_in (s0 : State) : Within [.regs, .twn] s0 (State.noteReady s0) := by
  unfold State.noteReady
  repeat' first
    | with_reducible exact Within.refl ..
    | with_reducible assumption
    | lift_lets
    | (intro x; refine Within.known (ps := [.regs, .twn]) (s := s0) (x := x) ?_ ?_ <;> [(unfold x; clear x); (clear_value x; intro hx)])
    | (intro x; clear_value x)
    | with_reducible refine (State.setTwn_in ..).thn (by decide) ?_
    | with_reducible refine (State.setFld_in ..).thn (by decide) ?_
    | split
    | dsimp only

theorem State.peerWords_in (s : State) (l : List Nat) (rx32 : Nat) : Within [.regs, .pwm, .twn] s (State.peerWords s l rx32) := by
  unfold State.peerWords
  repeat' first
    | with_reducible exact Within.refl ..
    | with_reducible assumption
    | lift_lets
    | (intro x; refine Within.known (ps := [.regs, .pwm, .twn]) (s := s) (x := x) ?_ ?_ <;> [(unfold x; clear x); (clear_value x; intro hx)])
    | (intro x; clear_value x)
    | with_reducible refine (State.setTwn_in ..).thn (by decide) ?_
    | with_reducible refine (State.relay_in ..).thn (by decide) ?_
    | with_reducible refine (State.setFld_in ..).thn (by decide) ?_
    | split
    | dsimp only

theorem State.timeLink_in (s : State) (l : List Nat) (rx32 : Nat) : Within [.regs, .twn] s (State.timeLink s l rx32) := by
  unfold State.timeLink
  repeat' first
    | with_reducible exact Within.refl ..
    | with_reducible assumption
    | lift_lets
    | (intro x; refine Within.known (ps := [.regs, .twn]) (s := s) (x := x) ?_ ?_ <;> [(unfold x; clear x); (clear_value x; intro hx)])
    | (intro x; clear_value x)
    | with_reducible refine (State.setTwn_in ..).thn (by decide) ?_
    | with_reducible refine (State.setFld_in ..).thn (by decide) ?_
    | split
    | dsimp only

theorem State.layCarriers_in (s : State) (l : List Nat) : Within [.regs, .eng, .clk, .pwm, .twn] s (State.layCarriers s l) := by
  unfold State.layCarriers
  repeat' first
    | with_reducible exact Within.refl ..
    | with_reducible assumption
    | lift_lets
    | (intro x; refine Within.known (ps := [.regs, .eng, .clk, .pwm, .twn]) (s := s) (x := x) ?_ ?_ <;> [(unfold x; clear x); (clear_value x; intro hx)])
    | (intro x; clear_value x)
    | with_reducible refine (State.startCarriers_in ..).thn (by decide) ?_
    | with_reducible refine (State.startProfile_in ..).thn (by decide) ?_
    | with_reducible refine (State.setTwn_in ..).thn (by decide) ?_
    | with_reducible refine (State.relay_in ..).thn (by decide) ?_
    | with_reducible refine Within.forIdx (fun _ _ _ => ?_) ?_
    | fail_if_no_progress with_reducible refine Within.upd_eng ?_ (by decide)
    | fail_if_no_progress with_reducible refine Within.upd_pwm ?_ (by decide)
    | split
    | dsimp only

theorem State.followGroup_in (s : State) (g : Nat) (w : List Nat) : Within [.regs, .grid, .adc, .snd] s (State.followGroup s g w) := by
  unfold State.followGroup
  repeat' first
    | with_reducible exact Within.refl ..
    | with_reducible assumption
    | lift_lets
    | (intro x; refine Within.known (ps := [.regs, .grid, .adc, .snd]) (s := s) (x := x) ?_ ?_ <;> [(unfold x; clear x); (clear_value x; intro hx)])
    | (intro x; unfold x; clear x; try beta_reduce)
    | (intro x; clear_value x)
    | with_reducible refine (State.setGrp_in ..).thn (by decide) ?_
    | with_reducible refine (State.setMode_in ..).thn (by decide) ?_
    | with_reducible refine (State.setFld_in ..).thn (by decide) ?_
    | with_reducible refine Within.foldl (fun _ _ _ => ?_) ?_
    | with_reducible refine Within.foldl1 (fun _ _ _ => ?_) ?_
    | with_reducible refine Within.foldl2 (fun _ _ _ => ?_) ?_
    | split
    | dsimp only

theorem State.applyWord_in (s : State) (n : Nat) (k : Nat) (a : Nat) (cap : Nat) : Within [.eng, .twn] s (State.applyWord s n k a cap) := by
  unfold State.applyWord
  repeat' first
    | with_reducible exact Within.refl ..
    | with_reducible assumption
    | lift_lets
    | (intro x; refine Within.known (ps := [.eng, .twn]) (s := s) (x := x) ?_ ?_ <;> [(unfold x; clear x); (clear_value x; intro hx)])
    | (intro x; clear_value x)
    | with_reducible refine (State.setTwn_in ..).thn (by decide) ?_
    | with_reducible refine (State.correct_in ..).thn (by decide) ?_
    | split
    | dsimp only

theorem State.applyWords_in (s : State) (l : List Nat) (es : List ((Nat × Nat) × Nat × Nat)) : Within [.eng, .twn] s (State.applyWords s l es) := by
  unfold State.applyWords
  repeat' first
    | with_reducible exact Within.refl ..
    | with_reducible assumption
    | with_reducible refine (State.applyWord_in ..).thn (by decide) ?_
    | with_reducible refine Within.foldl (fun _ _ _ => ?_) ?_
    | with_reducible refine Within.foldl1 (fun _ _ _ => ?_) ?_
    | with_reducible refine Within.foldl2 (fun _ _ _ => ?_) ?_
    | split
    | dsimp only

theorem State.countSkips_in (s : State) (l : List Nat) : Within [.regs] s (State.countSkips s l) := by
  unfold State.countSkips
  repeat' first
    | with_reducible exact Within.refl ..
    | with_reducible assumption
    | lift_lets
    | (intro x; refine Within.known (ps := [.regs]) (s := s) (x := x) ?_ ?_ <;> [(unfold x; clear x); (clear_value x; intro hx)])
    | (intro x; clear_value x)
    | with_reducible refine (State.countN_in ..).thn (by decide) ?_
    | split
    | dsimp only

theorem State.takeSweep_in (s : State) (p : Nat) (clean : Bool) : Within [.twn] s (State.takeSweep s p clean) := by
  unfold State.takeSweep
  repeat' first
    | with_reducible exact Within.refl ..
    | with_reducible assumption
    | lift_lets
    | (intro x; refine Within.known (ps := [.twn]) (s := s) (x := x) ?_ ?_ <;> [(unfold x; clear x); (clear_value x; intro hx)])
    | (intro x; clear_value x)
    | with_reducible refine (State.setTwn_in ..).thn (by decide) ?_
    | split
    | dsimp only

theorem State.compareDuties_in (s : State) (l : List Nat) : Within [.regs, .twn] s (State.compareDuties s l) := by
  unfold State.compareDuties
  repeat' first
    | with_reducible exact Within.refl ..
    | with_reducible assumption
    | lift_lets
    | (intro x; refine Within.known (ps := [.regs, .twn]) (s := s) (x := x) ?_ ?_ <;> [(unfold x; clear x); (clear_value x; intro hx)])
    | (intro x; clear_value x)
    | with_reducible refine (State.setTwn_in ..).thn (by decide) ?_
    | with_reducible refine (State.raise_in ..).thn (by decide) ?_
    | with_reducible refine (State.count_in ..).thn (by decide) ?_
    | split
    | dsimp only

theorem State.followGen_in (s : State) (g : Nat) (w : Nat) (cut : Nat) : Within [.regs, .adc, .snd] s (State.followGen s g w cut) := by
  unfold State.followGen
  repeat' first
    | with_reducible exact Within.refl ..
    | with_reducible assumption
    | lift_lets
    | (intro x; refine Within.known (ps := [.regs, .adc, .snd]) (s := s) (x := x) ?_ ?_ <;> [(unfold x; clear x); (clear_value x; intro hx)])
    | (intro x; refine Within.known (ps := [.regs, .adc, .snd]) (s := s) (x := x.2) ?_ ?_ <;> [(unfold x; clear x); (clear_value x; intro hx)])
    | (intro x; clear_value x)
    | with_reducible refine (State.genStart_in ..).thn (by decide) ?_
    | with_reducible refine (State.drawFree_in ..).thn (by decide) ?_
    | with_reducible refine (State.setGen_in ..).thn (by decide) ?_
    | with_reducible refine (State.burstRest_in ..).thn (by decide) ?_
    | with_reducible refine (State.genRest_in ..).thn (by decide) ?_
    | split
    | dsimp only

theorem State.shadow_in (s : State) (l : List Nat) : Within [.regs, .grid, .eng, .clk, .adc, .pwm, .twn, .snd] s (State.shadow s l) := by
  unfold State.shadow
  repeat' first
    | with_reducible exact Within.refl ..
    | with_reducible assumption
    | lift_lets
    | (intro x; refine Within.known (ps := [.regs, .grid, .eng, .clk, .adc, .pwm, .twn, .snd]) (s := s) (x := x) ?_ ?_ <;> [(unfold x; clear x); (clear_value x; intro hx)])
    | (intro x; clear_value x)
    | with_reducible refine (State.followGroup_in ..).thn (by decide) ?_
    | with_reducible refine (State.applyWords_in ..).thn (by decide) ?_
    | with_reducible refine (State.countSkips_in ..).thn (by decide) ?_
    | with_reducible refine (State.compareDuties_in ..).thn (by decide) ?_
    | with_reducible refine (State.layCarriers_in ..).thn (by decide) ?_
    | with_reducible refine (State.followGen_in ..).thn (by decide) ?_
    | with_reducible refine (State.takeSweep_in ..).thn (by decide) ?_
    | with_reducible refine Within.forIdx (fun _ _ _ => ?_) ?_
    | split
    | dsimp only

theorem State.hoWords_in (s : State) (l : List Nat) : Within [.regs, .twn] s (State.hoWords s l) := by
  unfold State.hoWords
  repeat' first
    | with_reducible exact Within.refl ..
    | with_reducible assumption
    | lift_lets
    | (intro x; refine Within.known (ps := [.regs, .twn]) (s := s) (x := x) ?_ ?_ <;> [(unfold x; clear x); (clear_value x; intro hx)])
    | (intro x; clear_value x)
    | with_reducible refine (State.setTwn_in ..).thn (by decide) ?_
    | with_reducible refine (State.setFld_in ..).thn (by decide) ?_
    | split
    | dsimp only

theorem State.roleWords_in (s : State) (l : List Nat) : Within [.regs, .grid, .pwm, .drv, .twn] s (State.roleWords s l) := by
  unfold State.roleWords
  repeat' first
    | with_reducible exact Within.refl ..
    | with_reducible assumption
    | with_reducible refine (State.becomeStandby_in ..).thn (by decide) ?_
    | with_reducible refine (State.standDown_in ..).thn (by decide) ?_
    | split
    | dsimp only

theorem State.hoFinish_in (s : State) : Within [.regs, .grid, .drv, .twn] s (State.hoFinish s) := by
  unfold State.hoFinish
  repeat' first
    | with_reducible exact Within.refl ..
    | with_reducible assumption
    | lift_lets
    | (intro x; refine Within.known (ps := [.regs, .grid, .drv, .twn]) (s := s) (x := x) ?_ ?_ <;> [(unfold x; clear x); (clear_value x; intro hx)])
    | (intro x; clear_value x)
    | with_reducible refine (State.driveAll_in ..).thn (by decide) ?_
    | with_reducible refine (State.setFld_in ..).thn (by decide) ?_
    | with_reducible refine (State.releaseAll_in ..).thn (by decide) ?_
    | with_reducible refine (State.becomeStandby_in ..).thn (by decide) ?_
    | with_reducible refine (State.raise_in ..).thn (by decide) ?_
    | with_reducible refine (State.count_in ..).thn (by decide) ?_
    | with_reducible refine (State.stamp_in ..).thn (by decide) ?_
    | with_reducible refine (State.setTwn_in ..).thn (by decide) ?_
    | with_reducible refine (State.noteReady_in ..).thn (by decide) ?_
    | split
    | dsimp only

theorem State.hoTake_in (s : State) : Within [.regs, .twn] s (State.hoTake s) := by
  unfold State.hoTake
  repeat' first
    | with_reducible exact Within.refl ..
    | with_reducible assumption
    | with_reducible refine (State.driveAct_in ..).thn (by decide) ?_
    | split
    | dsimp only

theorem State.hoEnd_in (s : State) : Within [.regs, .grid, .drv, .twn] s (State.hoEnd s) := by
  unfold State.hoEnd
  repeat' first
    | with_reducible exact Within.refl ..
    | with_reducible assumption
    | with_reducible refine (State.hoFinish_in ..).thn (by decide) ?_
    | split
    | dsimp only

theorem State.hoLeg_in (s : State) (n : Nat) : Within [.regs, .grid, .drv, .twn] s (State.hoLeg s n) := by
  unfold State.hoLeg
  repeat' first
    | with_reducible exact Within.refl ..
    | with_reducible assumption
    | lift_lets
    | (intro x; refine Within.known (ps := [.regs, .grid, .drv, .twn]) (s := s) (x := x) ?_ ?_ <;> [(unfold x; clear x); (clear_value x; intro hx)])
    | (intro x; clear_value x)
    | with_reducible refine (State.hoTake_in ..).thn (by decide) ?_
    | with_reducible refine (State.driveLeg_in ..).thn (by decide) ?_
    | with_reducible refine (State.releaseLeg_in ..).thn (by decide) ?_
    | with_reducible refine (State.setTwn_in ..).thn (by decide) ?_
    | with_reducible refine (State.hoEnd_in ..).thn (by decide) ?_
    | split
    | dsimp only

end Sys2Proof.Machine
end

