-- ==== Sys2Proof/Laws/InSdcRows.lean ====
section
/-!
SUPPORT. What each operation of Machine/SdcRows.lean can change: one lemma per operation.
-/

set_option linter.unusedTactic false
set_option linter.unreachableTactic false

namespace Sys2Proof.Machine

theorem State.setSdc_in (s : State) (r : SdcRun) : Within [.sdc] s (State.setSdc s r) := by
  unfold State.setSdc
  repeat' first
    | with_reducible exact Within.refl ..
    | with_reducible assumption
    | lift_lets
    | (intro x; refine Within.known (ps := [.sdc]) (s := s) (x := x) ?_ ?_ <;> [(unfold x; clear x); (clear_value x; intro hx)])
    | (intro x; clear_value x)
    | fail_if_no_progress with_reducible refine Within.upd_sdc ?_ (by decide)
    | split
    | dsimp only

theorem State.removeDrive_in (s : State) (st : Nat) : Within [.regs, .grid, .adc, .pwm, .drv, .snd, .sdc] s (State.removeDrive s st) := by
  unfold State.removeDrive
  repeat' first
    | with_reducible exact Within.refl ..
    | with_reducible assumption
    | lift_lets
    | (intro x; refine Within.known (ps := [.regs, .grid, .adc, .pwm, .drv, .snd, .sdc]) (s := s) (x := x) ?_ ?_ <;> [(unfold x; clear x); (clear_value x; intro hx)])
    | (intro x; clear_value x)
    | with_reducible refine (State.setSdc_in ..).thn (by decide) ?_
    | with_reducible refine (State.gatesOff_in ..).thn (by decide) ?_
    | with_reducible refine (State.allGroupsOff_in ..).thn (by decide) ?_
    | with_reducible refine (State.setFld_in ..).thn (by decide) ?_
    | with_reducible refine (State.stamp_in ..).thn (by decide) ?_
    | with_reducible refine Within.forIdx (fun _ _ _ => ?_) ?_
    | split
    | dsimp only

theorem State.sdcFault_in (s : State) (b : Nat) : Within [.regs, .grid, .adc, .pwm, .drv, .snd, .sdc] s (State.sdcFault s b) := by
  unfold State.sdcFault
  repeat' first
    | with_reducible exact Within.refl ..
    | with_reducible assumption
    | lift_lets
    | (intro x; refine Within.known (ps := [.regs, .grid, .adc, .pwm, .drv, .snd, .sdc]) (s := s) (x := x) ?_ ?_ <;> [(unfold x; clear x); (clear_value x; intro hx)])
    | (intro x; clear_value x)
    | with_reducible refine (State.removeDrive_in ..).thn (by decide) ?_
    | with_reducible refine (State.setFld_in ..).thn (by decide) ?_
    | with_reducible refine (State.raise_in ..).thn (by decide) ?_
    | split
    | dsimp only

theorem State.noteDisc_in (s : State) : Within [.regs, .grid, .adc, .pwm, .drv, .snd, .sdc] s (State.noteDisc s) := by
  unfold State.noteDisc
  repeat' first
    | with_reducible exact Within.refl ..
    | with_reducible assumption
    | lift_lets
    | (intro x; refine Within.known (ps := [.regs, .grid, .adc, .pwm, .drv, .snd, .sdc]) (s := s) (x := x) ?_ ?_ <;> [(unfold x; clear x); (clear_value x; intro hx)])
    | (intro x; clear_value x)
    | with_reducible refine (State.setSdc_in ..).thn (by decide) ?_
    | with_reducible refine (State.sdcFault_in ..).thn (by decide) ?_
    | with_reducible refine (State.count_in ..).thn (by decide) ?_
    | split
    | dsimp only

theorem State.fbChange_in (s : State) (high : Bool) : Within [.regs, .sdc] s (State.fbChange s high) := by
  unfold State.fbChange
  repeat' first
    | with_reducible exact Within.refl ..
    | with_reducible assumption
    | lift_lets
    | (intro x; refine Within.known (ps := [.regs, .sdc]) (s := s) (x := x) ?_ ?_ <;> [(unfold x; clear x); (clear_value x; intro hx)])
    | (intro x; clear_value x)
    | with_reducible refine (State.setSdc_in ..).thn (by decide) ?_
    | with_reducible refine (State.setFld_in ..).thn (by decide) ?_
    | split
    | dsimp only

theorem State.inChange_in (s : State) (i : Nat) (high : Bool) : Within [.regs, .grid, .adc, .pwm, .drv, .snd, .sdc] s (State.inChange s i high) := by
  unfold State.inChange
  repeat' first
    | with_reducible exact Within.refl ..
    | with_reducible assumption
    | lift_lets
    | (intro x; refine Within.known (ps := [.regs, .grid, .adc, .pwm, .drv, .snd, .sdc]) (s := s) (x := x) ?_ ?_ <;> [(unfold x; clear x); (clear_value x; intro hx)])
    | (intro x; clear_value x)
    | with_reducible refine (State.setSdc_in ..).thn (by decide) ?_
    | with_reducible refine (State.setFld_in ..).thn (by decide) ?_
    | with_reducible refine (State.noteDisc_in ..).thn (by decide) ?_
    | split
    | dsimp only

theorem State.undoReset_in (s : State) : Within [.regs, .sdc] s (State.undoReset s) := by
  unfold State.undoReset
  repeat' first
    | with_reducible exact Within.refl ..
    | with_reducible assumption
    | lift_lets
    | (intro x; refine Within.known (ps := [.regs, .sdc]) (s := s) (x := x) ?_ ?_ <;> [(unfold x; clear x); (clear_value x; intro hx)])
    | (intro x; clear_value x)
    | with_reducible refine (State.setFld_in ..).thn (by decide) ?_
    | with_reducible refine (State.setSdc_in ..).thn (by decide) ?_
    | with_reducible refine (State.raise_in ..).thn (by decide) ?_
    | with_reducible refine (State.refuse_in ..).thn (by decide) ?_
    | with_reducible refine Within.forIdx (fun _ _ _ => ?_) ?_
    | split
    | dsimp only

theorem State.demand_in (s0 : State) (i : Nat) : Within [.regs, .grid, .adc, .pwm, .drv, .snd, .sdc] s0 (State.demand s0 i) := by
  unfold State.demand
  repeat' first
    | with_reducible exact Within.refl ..
    | with_reducible assumption
    | lift_lets
    | (intro x; refine Within.known (ps := [.regs, .grid, .adc, .pwm, .drv, .snd, .sdc]) (s := s0) (x := x) ?_ ?_ <;> [(unfold x; clear x); (clear_value x; intro hx)])
    | (intro x; clear_value x)
    | with_reducible refine (State.undoReset_in ..).thn (by decide) ?_
    | with_reducible refine (State.removeDrive_in ..).thn (by decide) ?_
    | with_reducible refine (State.setFld_in ..).thn (by decide) ?_
    | with_reducible refine (State.raise_in ..).thn (by decide) ?_
    | with_reducible refine (State.count_in ..).thn (by decide) ?_
    | with_reducible refine (State.noteDisc_in ..).thn (by decide) ?_
    | split
    | dsimp only

theorem State.safeDemand_in (s : State) (i : Nat) : Within [.regs, .grid, .adc, .pwm, .drv, .snd, .sdc] s (State.safeDemand s i) := by
  unfold State.safeDemand
  repeat' first
    | with_reducible exact Within.refl ..
    | with_reducible assumption
    | with_reducible refine (State.demand_in ..).thn (by decide) ?_
    | split
    | dsimp only

theorem State.discFault_in (s : State) : Within [.regs, .grid, .adc, .pwm, .drv, .snd, .sdc] s (State.discFault s) := by
  unfold State.discFault
  repeat' first
    | with_reducible exact Within.refl ..
    | with_reducible assumption
    | lift_lets
    | (intro x; refine Within.known (ps := [.regs, .grid, .adc, .pwm, .drv, .snd, .sdc]) (s := s) (x := x) ?_ ?_ <;> [(unfold x; clear x); (clear_value x; intro hx)])
    | (intro x; clear_value x)
    | with_reducible refine (State.setSdc_in ..).thn (by decide) ?_
    | with_reducible refine (State.sdcFault_in ..).thn (by decide) ?_
    | with_reducible refine (State.setFld_in ..).thn (by decide) ?_
    | split
    | dsimp only

theorem State.fbFault_in (s : State) : Within [.regs, .grid, .adc, .pwm, .drv, .snd, .sdc] s (State.fbFault s) := by
  unfold State.fbFault
  repeat' first
    | with_reducible exact Within.refl ..
    | with_reducible assumption
    | lift_lets
    | (intro x; refine Within.known (ps := [.regs, .grid, .adc, .pwm, .drv, .snd, .sdc]) (s := s) (x := x) ?_ ?_ <;> [(unfold x; clear x); (clear_value x; intro hx)])
    | (intro x; clear_value x)
    | with_reducible refine (State.setSdc_in ..).thn (by decide) ?_
    | with_reducible refine (State.sdcFault_in ..).thn (by decide) ?_
    | split
    | dsimp only

theorem State.nodeFault_in (s : State) (k : Nat) : Within [.regs, .grid, .adc, .pwm, .drv, .snd, .sdc] s (State.nodeFault s k) := by
  unfold State.nodeFault
  repeat' first
    | with_reducible exact Within.refl ..
    | with_reducible assumption
    | with_reducible refine (State.sdcFault_in ..).thn (by decide) ?_
    | split
    | dsimp only

theorem State.coilTest_in (s : State) : Within [.sdc] s (State.coilTest s) := by
  unfold State.coilTest
  repeat' first
    | with_reducible exact Within.refl ..
    | with_reducible assumption
    | lift_lets
    | (intro x; refine Within.known (ps := [.sdc]) (s := s) (x := x) ?_ ?_ <;> [(unfold x; clear x); (clear_value x; intro hx)])
    | (intro x; clear_value x)
    | with_reducible refine (State.setSdc_in ..).thn (by decide) ?_
    | split
    | dsimp only

theorem State.enterRun_in (s : State) : Within [.regs, .sdc] s (State.enterRun s) := by
  unfold State.enterRun
  repeat' first
    | with_reducible exact Within.refl ..
    | with_reducible assumption
    | lift_lets
    | (intro x; refine Within.known (ps := [.regs, .sdc]) (s := s) (x := x) ?_ ?_ <;> [(unfold x; clear x); (clear_value x; intro hx)])
    | (intro x; clear_value x)
    | with_reducible refine (State.setSdc_in ..).thn (by decide) ?_
    | with_reducible refine (State.setFld_in ..).thn (by decide) ?_
    | split
    | dsimp only

theorem State.beginStep_in (s : State) (k : Nat) : Within [.sdc] s (State.beginStep s k) := by
  unfold State.beginStep
  repeat' first
    | with_reducible exact Within.refl ..
    | with_reducible assumption
    | lift_lets
    | (intro x; refine Within.known (ps := [.sdc]) (s := s) (x := x) ?_ ?_ <;> [(unfold x; clear x); (clear_value x; intro hx)])
    | (intro x; clear_value x)
    | with_reducible refine (State.setSdc_in ..).thn (by decide) ?_
    | split
    | dsimp only

theorem State.stepEnd_in (s : State) (pass : Bool) : Within [.regs, .grid, .adc, .pwm, .drv, .snd, .sdc] s (State.stepEnd s pass) := by
  unfold State.stepEnd
  repeat' first
    | with_reducible exact Within.refl ..
    | with_reducible assumption
    | lift_lets
    | (intro x; refine Within.known (ps := [.regs, .grid, .adc, .pwm, .drv, .snd, .sdc]) (s := s) (x := x) ?_ ?_ <;> [(unfold x; clear x); (clear_value x; intro hx)])
    | (intro x; clear_value x)
    | with_reducible refine (State.sdcFault_in ..).thn (by decide) ?_
    | with_reducible refine (State.enterRun_in ..).thn (by decide) ?_
    | with_reducible refine (State.beginStep_in ..).thn (by decide) ?_
    | split
    | dsimp only

theorem State.testEnd_in (s : State) (high : Bool) (pass : Bool) : Within [.regs, .grid, .adc, .pwm, .drv, .snd, .sdc] s (State.testEnd s high pass) := by
  unfold State.testEnd
  repeat' first
    | with_reducible exact Within.refl ..
    | with_reducible assumption
    | lift_lets
    | (intro x; refine Within.known (ps := [.regs, .grid, .adc, .pwm, .drv, .snd, .sdc]) (s := s) (x := x) ?_ ?_ <;> [(unfold x; clear x); (clear_value x; intro hx)])
    | (intro x; clear_value x)
    | with_reducible refine (State.setSdc_in ..).thn (by decide) ?_
    | with_reducible refine (State.count_in ..).thn (by decide) ?_
    | with_reducible refine (State.sdcFault_in ..).thn (by decide) ?_
    | split
    | dsimp only

theorem State.sdcReset_in (s : State) (p : Port) : Within [.regs, .sdc] s (State.sdcReset s p) := by
  unfold State.sdcReset
  repeat' first
    | with_reducible exact Within.refl ..
    | with_reducible assumption
    | lift_lets
    | (intro x; refine Within.known (ps := [.regs, .sdc]) (s := s) (x := x) ?_ ?_ <;> [(unfold x; clear x); (clear_value x; intro hx)])
    | (intro x; clear_value x)
    | with_reducible refine (State.setFld_in ..).thn (by decide) ?_
    | with_reducible refine (State.setSdc_in ..).thn (by decide) ?_
    | with_reducible refine (State.count_in ..).thn (by decide) ?_
    | with_reducible refine (State.beginStep_in ..).thn (by decide) ?_
    | with_reducible refine (State.raise_in ..).thn (by decide) ?_
    | with_reducible refine (State.refuse_in ..).thn (by decide) ?_
    | with_reducible refine Within.forIdx (fun _ _ _ => ?_) ?_
    | split
    | dsimp only

theorem State.clockJudge_in (s : State) (r : SdcRun) (ok : Bool) : Within [.regs, .grid, .adc, .pwm, .drv, .snd, .sdc] s (State.clockJudge s r ok) := by
  unfold State.clockJudge
  repeat' first
    | with_reducible exact Within.refl ..
    | with_reducible assumption
    | with_reducible refine (State.setSdc_in ..).thn (by decide) ?_
    | with_reducible refine (State.sdcFault_in ..).thn (by decide) ?_
    | split
    | dsimp only

theorem State.clockCheck_in (s : State) (n : Nat) : Within [.regs, .grid, .adc, .pwm, .drv, .snd, .sdc] s (State.clockCheck s n) := by
  unfold State.clockCheck
  repeat' first
    | with_reducible exact Within.refl ..
    | with_reducible assumption
    | lift_lets
    | (intro x; refine Within.known (ps := [.regs, .grid, .adc, .pwm, .drv, .snd, .sdc]) (s := s) (x := x) ?_ ?_ <;> [(unfold x; clear x); (clear_value x; intro hx)])
    | (intro x; clear_value x)
    | with_reducible refine (State.clockJudge_in ..).thn (by decide) ?_
    | split
    | dsimp only

theorem State.paramCheck_in (s : State) (ch : Nat) (upset : Nat) : Within [.regs, .grid, .adc, .pwm, .drv, .snd, .sdc] s (State.paramCheck s ch upset) := by
  unfold State.paramCheck
  repeat' first
    | with_reducible exact Within.refl ..
    | with_reducible assumption
    | lift_lets
    | (intro x; refine Within.known (ps := [.regs, .grid, .adc, .pwm, .drv, .snd, .sdc]) (s := s) (x := x) ?_ ?_ <;> [(unfold x; clear x); (clear_value x; intro hx)])
    | (intro x; clear_value x)
    | with_reducible refine (State.setSdc_in ..).thn (by decide) ?_
    | with_reducible refine (State.sdcFault_in ..).thn (by decide) ?_
    | split
    | dsimp only

theorem State.unconfExpiry_in (s : State) : Within [.regs, .grid, .adc, .pwm, .drv, .snd, .sdc] s (State.unconfExpiry s) := by
  unfold State.unconfExpiry
  repeat' first
    | with_reducible exact Within.refl ..
    | with_reducible assumption
    | with_reducible refine (State.removeDrive_in ..).thn (by decide) ?_
    | with_reducible refine (State.raise_in ..).thn (by decide) ?_
    | split
    | dsimp only

theorem State.loadSafety_in (s : State) (l : List Nat) : Within [.regs, .sdc] s (State.loadSafety s l) := by
  unfold State.loadSafety
  repeat' first
    | with_reducible exact Within.refl ..
    | with_reducible assumption
    | lift_lets
    | (intro x; refine Within.known (ps := [.regs, .sdc]) (s := s) (x := x) ?_ ?_ <;> [(unfold x; clear x); (clear_value x; intro hx)])
    | (intro x; unfold x; clear x; try beta_reduce)
    | (intro x; clear_value x)
    | with_reducible refine (State.setFld_in ..).thn (by decide) ?_
    | with_reducible refine (State.setSdc_in ..).thn (by decide) ?_
    | with_reducible refine Within.foldl (fun _ _ _ => ?_) ?_
    | with_reducible refine Within.foldl1 (fun _ _ _ => ?_) ?_
    | with_reducible refine Within.foldl2 (fun _ _ _ => ?_) ?_
    | split
    | dsimp only

theorem State.beginWatch_in (s : State) : Within [.regs, .sdc] s (State.beginWatch s) := by
  unfold State.beginWatch
  repeat' first
    | with_reducible exact Within.refl ..
    | with_reducible assumption
    | lift_lets
    | (intro x; refine Within.known (ps := [.regs, .sdc]) (s := s) (x := x) ?_ ?_ <;> [(unfold x; clear x); (clear_value x; intro hx)])
    | (intro x; clear_value x)
    | with_reducible refine (State.setSdc_in ..).thn (by decide) ?_
    | with_reducible refine (State.setFld_in ..).thn (by decide) ?_
    | split
    | dsimp only

theorem State.releaseWatch_in (s : State) : Within [.regs, .sdc] s (State.releaseWatch s) := by
  unfold State.releaseWatch
  repeat' first
    | with_reducible exact Within.refl ..
    | with_reducible assumption
    | lift_lets
    | (intro x; refine Within.known (ps := [.regs, .sdc]) (s := s) (x := x) ?_ ?_ <;> [(unfold x; clear x); (clear_value x; intro hx)])
    | (intro x; clear_value x)
    | with_reducible refine (State.setSdc_in ..).thn (by decide) ?_
    | with_reducible refine (State.setFld_in ..).thn (by decide) ?_
    | split
    | dsimp only

end Sys2Proof.Machine
end

