-- ==== Sys2Proof/Laws/InSecRows.lean ====
section
/-!
SUPPORT. What each operation of Machine/SecRows.lean can change: one lemma per operation.
-/

set_option linter.unusedTactic false
set_option linter.unreachableTactic false

namespace Sys2Proof.Machine

theorem State.noteSec_in (s : State) : Within [.regs] s (State.noteSec s) := by
  unfold State.noteSec
  repeat' first
    | with_reducible exact Within.refl ..
    | with_reducible assumption
    | lift_lets
    | (intro x; refine Within.known (ps := [.regs]) (s := s) (x := x) ?_ ?_ <;> [(unfold x; clear x); (clear_value x; intro hx)])
    | (intro x; unfold x; clear x; try beta_reduce)
    | (intro x; clear_value x)
    | with_reducible refine (State.setFld_in ..).thn (by decide) ?_
    | with_reducible refine Within.foldl (fun _ _ _ => ?_) ?_
    | with_reducible refine Within.foldl1 (fun _ _ _ => ?_) ?_
    | with_reducible refine Within.foldl2 (fun _ _ _ => ?_) ?_
    | split
    | dsimp only

theorem State.drawRandom_in (s : State) : Within [] s (State.drawRandom s).2 := by
  unfold State.drawRandom
  repeat' first
    | with_reducible exact Within.refl ..
    | with_reducible assumption
    | lift_lets
    | (intro x; refine Within.known (ps := []) (s := s) (x := x) ?_ ?_ <;> [(unfold x; clear x); (clear_value x; intro hx)])
    | (intro x; clear_value x)
    | fail_if_no_progress with_reducible refine Within.upd_free ?_
    | split
    | dsimp only

theorem State.freshNonce_in (s : State) : Within [.regs] s (State.freshNonce s) := by
  unfold State.freshNonce
  repeat' first
    | with_reducible exact Within.refl ..
    | with_reducible assumption
    | with_reducible refine (State.drawRandom_in ..).thn (by decide) ?_
    | with_reducible refine (State.setFld_in ..).thn (by decide) ?_
    | with_reducible refine Within.forIdx (fun _ _ _ => ?_) ?_
    | split
    | dsimp only

theorem State.setSlot_in (s : State) (k : Nat) (x : KeySlot) : Within [.sec] s (State.setSlot s k x) := by
  unfold State.setSlot
  repeat' first
    | with_reducible exact Within.refl ..
    | with_reducible assumption
    | lift_lets
    | (intro x; refine Within.known (ps := [.sec]) (s := s) (x := x) ?_ ?_ <;> [(unfold x; clear x); (clear_value x; intro hx)])
    | (intro x; clear_value x)
    | with_reducible refine (State.setSec_in ..).thn (by decide) ?_
    | split
    | dsimp only

theorem State.endOpen_in (s : State) : Within [.regs] s (State.endOpen s) := by
  unfold State.endOpen
  repeat' first
    | with_reducible exact Within.refl ..
    | with_reducible assumption
    | with_reducible refine (State.setFld_in ..).thn (by decide) ?_
    | split
    | dsimp only

theorem State.blowFuse_in (s : State) (f : Nat × Nat) : Within [.sec] s (State.blowFuse s f) := by
  unfold State.blowFuse
  repeat' first
    | with_reducible exact Within.refl ..
    | with_reducible assumption
    | lift_lets
    | (intro x; refine Within.known (ps := [.sec]) (s := s) (x := x) ?_ ?_ <;> [(unfold x; clear x); (clear_value x; intro hx)])
    | (intro x; clear_value x)
    | with_reducible refine (State.setSlot_in ..).thn (by decide) ?_
    | with_reducible refine (State.setSec_in ..).thn (by decide) ?_
    | split
    | dsimp only

theorem State.weakFuse_in (s : State) (f : Nat × Nat) : Within [.sec] s (State.weakFuse s f) := by
  unfold State.weakFuse
  repeat' first
    | with_reducible exact Within.refl ..
    | with_reducible assumption
    | lift_lets
    | (intro x; refine Within.known (ps := [.sec]) (s := s) (x := x) ?_ ?_ <;> [(unfold x; clear x); (clear_value x; intro hx)])
    | (intro x; clear_value x)
    | with_reducible refine (State.setSec_in ..).thn (by decide) ?_
    | split
    | dsimp only

theorem State.marginRead_in (s : State) : Within [.sec] s (State.marginRead s) := by
  unfold State.marginRead
  repeat' first
    | with_reducible exact Within.refl ..
    | with_reducible assumption
    | lift_lets
    | (intro x; refine Within.known (ps := [.sec]) (s := s) (x := x) ?_ ?_ <;> [(unfold x; clear x); (clear_value x; intro hx)])
    | (intro x; refine Within.known (ps := [.sec]) (s := s) (x := x.2) ?_ ?_ <;> [(unfold x; clear x); (clear_value x; intro hx)])
    | (intro x; clear_value x)
    | with_reducible refine (State.drawFree_in ..).thn (by decide) ?_
    | with_reducible refine (State.blowFuse_in ..).thn (by decide) ?_
    | with_reducible refine (State.weakFuse_in ..).thn (by decide) ?_
    | with_reducible refine (State.setSec_in ..).thn (by decide) ?_
    | with_reducible refine Within.foldl (fun _ _ _ => ?_) ?_
    | with_reducible refine Within.foldl1 (fun _ _ _ => ?_) ?_
    | with_reducible refine Within.foldl2 (fun _ _ _ => ?_) ?_
    | split
    | dsimp only

theorem State.cmdRun_in (s : State) (b : List Nat) (bad : Option Nat) : Within [.regs, .sec] s (State.cmdRun s b bad).1 := by
  unfold State.cmdRun
  repeat' first
    | with_reducible exact Within.refl ..
    | with_reducible assumption
    | lift_lets
    | (intro x; refine Within.known (ps := [.regs, .sec]) (s := s) (x := x) ?_ ?_ <;> [(unfold x; clear x); (clear_value x; intro hx)])
    | (intro x; refine Within.known (ps := [.regs, .sec]) (s := s) (x := x.1) ?_ ?_ <;> [(unfold x; clear x); (clear_value x; intro hx)])
    | (intro x; clear_value x)
    | with_reducible refine (State.blowFuse_in ..).thn (by decide) ?_
    | with_reducible refine (State.weakFuse_in ..).thn (by decide) ?_
    | with_reducible refine (State.endOpen_in ..).thn (by decide) ?_
    | with_reducible refine (State.setSec_in ..).thn (by decide) ?_
    | with_reducible refine (State.logEntry_in ..).thn (by decide) ?_
    | with_reducible refine Within.foldl (fun _ _ _ => ?_) ?_
    | with_reducible refine Within.foldl1 (fun _ _ _ => ?_) ?_
    | with_reducible refine Within.foldl2 (fun _ _ _ => ?_) ?_
    | split
    | dsimp only

theorem State.cmdEnd_in (s : State) (result : Nat) : Within [.regs] s (State.cmdEnd s result) := by
  unfold State.cmdEnd
  repeat' first
    | with_reducible exact Within.refl ..
    | with_reducible assumption
    | lift_lets
    | (intro x; refine Within.known (ps := [.regs]) (s := s) (x := x) ?_ ?_ <;> [(unfold x; clear x); (clear_value x; intro hx)])
    | (intro x; clear_value x)
    | with_reducible refine (State.setFld_in ..).thn (by decide) ?_
    | with_reducible refine (State.raise_in ..).thn (by decide) ?_
    | with_reducible refine (State.noteSec_in ..).thn (by decide) ?_
    | with_reducible refine (State.freshNonce_in ..).thn (by decide) ?_
    | split
    | dsimp only

theorem State.cmdRead_in (s : State) (a : Nat) : Within [.regs, .mem] s (State.cmdRead s a).1 := by
  unfold State.cmdRead
  repeat' first
    | with_reducible exact Within.refl ..
    | with_reducible assumption
    | lift_lets
    | (intro x; refine Within.known (ps := [.regs, .mem]) (s := s) (x := x) ?_ ?_ <;> [(unfold x; clear x); (clear_value x; intro hx)])
    | (intro x; refine Within.known (ps := [.regs, .mem]) (s := s) (x := x.1) ?_ ?_ <;> [(unfold x; clear x); (clear_value x; intro hx)])
    | (intro x; clear_value x)
    | with_reducible refine (State.readMem_in ..).thn (by decide) ?_
    | split
    | dsimp only

theorem State.secCmd_in (s : State) (a : Nat) (bad : Option Nat) : Within [.regs, .mem, .sec] s (State.secCmd s a bad) := by
  unfold State.secCmd
  repeat' first
    | with_reducible exact Within.refl ..
    | with_reducible assumption
    | lift_lets
    | (intro x; refine Within.known (ps := [.regs, .mem, .sec]) (s := s) (x := x) ?_ ?_ <;> [(unfold x; clear x); (clear_value x; intro hx)])
    | (intro x; refine Within.known (ps := [.regs, .mem, .sec]) (s := s) (x := x.1) ?_ ?_ <;> [(unfold x; clear x); (clear_value x; intro hx)])
    | (intro x; clear_value x)
    | with_reducible refine (State.cmdRead_in ..).thn (by decide) ?_
    | with_reducible refine (State.cmdEnd_in ..).thn (by decide) ?_
    | with_reducible refine (State.cmdRun_in ..).thn (by decide) ?_
    | split
    | dsimp only

theorem State.checkPatch_in (s : State) (a : Nat) : Within [.regs, .mem] s (State.checkPatch s a).1 := by
  unfold State.checkPatch
  repeat' first
    | with_reducible exact Within.refl ..
    | with_reducible assumption
    | lift_lets
    | (intro x; refine Within.known (ps := [.regs, .mem]) (s := s) (x := x) ?_ ?_ <;> [(unfold x; clear x); (clear_value x; intro hx)])
    | (intro x; refine Within.known (ps := [.regs, .mem]) (s := s) (x := x.1) ?_ ?_ <;> [(unfold x; clear x); (clear_value x; intro hx)])
    | (intro x; clear_value x)
    | with_reducible refine (State.readMem_in ..).thn (by decide) ?_
    | split
    | dsimp only

theorem State.notePatch_in (s : State) : Within [.regs] s (State.notePatch s) := by
  unfold State.notePatch
  repeat' first
    | with_reducible exact Within.refl ..
    | with_reducible assumption
    | with_reducible refine (State.setFld_in ..).thn (by decide) ?_
    | split
    | dsimp only

theorem State.patchStore_in (s : State) (a : Nat) : Within [.regs, .mem, .sec] s (State.patchStore s a) := by
  unfold State.patchStore
  repeat' first
    | with_reducible exact Within.refl ..
    | with_reducible assumption
    | lift_lets
    | (intro x; refine Within.known (ps := [.regs, .mem, .sec]) (s := s) (x := x) ?_ ?_ <;> [(unfold x; clear x); (clear_value x; intro hx)])
    | (intro x; refine Within.known (ps := [.regs, .mem, .sec]) (s := s) (x := x.1) ?_ ?_ <;> [(unfold x; clear x); (clear_value x; intro hx)])
    | (intro x; clear_value x)
    | with_reducible refine (State.checkPatch_in ..).thn (by decide) ?_
    | with_reducible refine (State.setFld_in ..).thn (by decide) ?_
    | with_reducible refine (State.setSec_in ..).thn (by decide) ?_
    | with_reducible refine (State.notePatch_in ..).thn (by decide) ?_
    | split
    | dsimp only

theorem State.takeIndex_in (s : State) : Within [.regs, .sec] s (State.takeIndex s).2 := by
  unfold State.takeIndex
  repeat' first
    | with_reducible exact Within.refl ..
    | with_reducible assumption
    | lift_lets
    | (intro x; refine Within.known (ps := [.regs, .sec]) (s := s) (x := x) ?_ ?_ <;> [(unfold x; clear x); (clear_value x; intro hx)])
    | (intro x; clear_value x)
    | with_reducible refine (State.weakFuse_in ..).thn (by decide) ?_
    | with_reducible refine (State.setSec_in ..).thn (by decide) ?_
    | with_reducible refine (State.noteSec_in ..).thn (by decide) ?_
    | split
    | dsimp only

theorem State.report_in (s : State) (a : Nat) (nonce : Nat) : Within [.regs, .mem, .sec] s (State.report s a nonce) := by
  unfold State.report
  repeat' first
    | with_reducible exact Within.refl ..
    | with_reducible assumption
    | lift_lets
    | (intro x; refine Within.known (ps := [.regs, .mem, .sec]) (s := s) (x := x) ?_ ?_ <;> [(unfold x; clear x); (clear_value x; intro hx)])
    | (intro x; refine Within.known (ps := [.regs, .mem, .sec]) (s := s) (x := x.1) ?_ ?_ <;> [(unfold x; clear x); (clear_value x; intro hx)])
    | (intro x; refine Within.known (ps := [.regs, .mem, .sec]) (s := s) (x := x.2) ?_ ?_ <;> [(unfold x; clear x); (clear_value x; intro hx)])
    | (intro x; clear_value x)
    | with_reducible refine (State.takeIndex_in ..).thn (by decide) ?_
    | with_reducible refine (State.writeBytes_in ..).thn (by decide) ?_
    | with_reducible refine (State.raise_in ..).thn (by decide) ?_
    | split
    | dsimp only

theorem State.opBody_in (s : State) (o : SecOp) : Within [.regs, .mem, .sec] s (State.opBody s o) := by
  unfold State.opBody
  repeat' first
    | with_reducible exact Within.refl ..
    | with_reducible assumption
    | lift_lets
    | (intro x; refine Within.known (ps := [.regs, .mem, .sec]) (s := s) (x := x) ?_ ?_ <;> [(unfold x; clear x); (clear_value x; intro hx)])
    | (intro x; clear_value x)
    | with_reducible refine (State.secCmd_in ..).thn (by decide) ?_
    | with_reducible refine (State.patchStore_in ..).thn (by decide) ?_
    | with_reducible refine (State.report_in ..).thn (by decide) ?_
    | split
    | dsimp only

theorem State.runOp_in (s : State) (o : SecOp) : Within [.regs, .mem, .sec] s (State.runOp s o) := by
  unfold State.runOp
  repeat' first
    | with_reducible exact Within.refl ..
    | with_reducible assumption
    | lift_lets
    | (intro x; refine Within.known (ps := [.regs, .mem, .sec]) (s := s) (x := x) ?_ ?_ <;> [(unfold x; clear x); (clear_value x; intro hx)])
    | (intro x; clear_value x)
    | with_reducible refine (State.setSec_in ..).thn (by decide) ?_
    | with_reducible refine (State.coreDone_in ..).thn (by decide) ?_
    | with_reducible refine (State.opBody_in ..).thn (by decide) ?_
    | with_reducible refine (State.coreStall_in ..).thn (by decide) ?_
    | split
    | dsimp only

theorem State.startOp_in (s : State) (p : Port) (a : Nat) (o : SecOp) : Within [.regs, .mem, .sec] s (State.startOp s p a o) := by
  unfold State.startOp
  repeat' first
    | with_reducible exact Within.refl ..
    | with_reducible assumption
    | with_reducible refine (State.refuse_in ..).thn (by decide) ?_
    | with_reducible refine (State.setFld_in ..).thn (by decide) ?_
    | with_reducible refine (State.runOp_in ..).thn (by decide) ?_
    | split
    | dsimp only

theorem State.secNext_in (s : State) : Within [.regs, .mem, .sec] s (State.secNext s) := by
  unfold State.secNext
  repeat' first
    | with_reducible exact Within.refl ..
    | with_reducible assumption
    | lift_lets
    | (intro x; refine Within.known (ps := [.regs, .mem, .sec]) (s := s) (x := x) ?_ ?_ <;> [(unfold x; clear x); (clear_value x; intro hx)])
    | (intro x; clear_value x)
    | with_reducible refine (State.runOp_in ..).thn (by decide) ?_
    | with_reducible refine (State.setFld_in ..).thn (by decide) ?_
    | split
    | dsimp only

theorem State.secGo_in (s : State) (p : Port) (bad : Option Nat) : Within [.regs, .mem, .sec] s (State.secGo s p bad) := by
  unfold State.secGo
  repeat' first
    | with_reducible exact Within.refl ..
    | with_reducible assumption
    | with_reducible refine (State.startOp_in ..).thn (by decide) ?_
    | split
    | dsimp only

theorem State.secCommand_in (s : State) (c : Instr) (p : Port) (code : Nat) (bad : Option Nat) : Within [.regs, .mem, .sec] s (State.secCommand s c p code bad) := by
  unfold State.secCommand
  repeat' first
    | with_reducible exact Within.refl ..
    | with_reducible assumption
    | with_reducible refine (State.readMem_in ..).thn (by decide) ?_
    | with_reducible refine State.portCmd_in (by decide) (fun _ _ => ?_) ?_
    | with_reducible refine (State.secGo_in ..).thn (by decide) ?_
    | split
    | dsimp only

theorem State.patchLoad_in (s : State) (p : Port) : Within [.regs, .mem, .sec] s (State.patchLoad s p) := by
  unfold State.patchLoad
  repeat' first
    | with_reducible exact Within.refl ..
    | with_reducible assumption
    | with_reducible refine (State.refuse_in ..).thn (by decide) ?_
    | with_reducible refine (State.startOp_in ..).thn (by decide) ?_
    | split
    | dsimp only

theorem State.attGo_in (s : State) (p : Port) : Within [.regs, .mem, .sec] s (State.attGo s p) := by
  unfold State.attGo
  repeat' first
    | with_reducible exact Within.refl ..
    | with_reducible assumption
    | lift_lets
    | (intro x; refine Within.known (ps := [.regs, .mem, .sec]) (s := s) (x := x) ?_ ?_ <;> [(unfold x; clear x); (clear_value x; intro hx)])
    | (intro x; clear_value x)
    | with_reducible refine (State.startOp_in ..).thn (by decide) ?_
    | with_reducible refine (State.report_in ..).thn (by decide) ?_
    | with_reducible refine (State.refuse_in ..).thn (by decide) ?_
    | split
    | dsimp only

theorem State.rtcSet_in (s : State) : Within [.sec] s (State.rtcSet s) := by
  unfold State.rtcSet
  repeat' first
    | with_reducible exact Within.refl ..
    | with_reducible assumption
    | lift_lets
    | (intro x; refine Within.known (ps := [.sec]) (s := s) (x := x) ?_ ?_ <;> [(unfold x; clear x); (clear_value x; intro hx)])
    | (intro x; clear_value x)
    | with_reducible refine (State.logEntry_in ..).thn (by decide) ?_
    | with_reducible refine (State.setSec_in ..).thn (by decide) ?_
    | split
    | dsimp only

theorem State.trimApply_in (s : State) : Within [.sec] s (State.trimApply s) := by
  unfold State.trimApply
  repeat' first
    | with_reducible exact Within.refl ..
    | with_reducible assumption
    | lift_lets
    | (intro x; refine Within.known (ps := [.sec]) (s := s) (x := x) ?_ ?_ <;> [(unfold x; clear x); (clear_value x; intro hx)])
    | (intro x; clear_value x)
    | with_reducible refine (State.setSec_in ..).thn (by decide) ?_
    | split
    | dsimp only

theorem State.wakeTamp_in (s : State) : Within [.regs, .boot] s (State.wakeTamp s) := by
  unfold State.wakeTamp
  repeat' first
    | with_reducible exact Within.refl ..
    | with_reducible assumption
    | lift_lets
    | (intro x; refine Within.known (ps := [.regs, .boot]) (s := s) (x := x) ?_ ?_ <;> [(unfold x; clear x); (clear_value x; intro hx)])
    | (intro x; clear_value x)
    | with_reducible refine (State.setFld_in ..).thn (by decide) ?_
    | fail_if_no_progress with_reducible refine Within.upd_boot ?_ (by decide)
    | split
    | dsimp only

theorem State.tampEvent_in (s : State) (k : Nat) : Within [.regs, .sec, .boot] s (State.tampEvent s k) := by
  unfold State.tampEvent
  repeat' first
    | with_reducible exact Within.refl ..
    | with_reducible assumption
    | lift_lets
    | (intro x; refine Within.known (ps := [.regs, .sec, .boot]) (s := s) (x := x) ?_ ?_ <;> [(unfold x; clear x); (clear_value x; intro hx)])
    | (intro x; clear_value x)
    | with_reducible refine (State.setSec_in ..).thn (by decide) ?_
    | with_reducible refine (State.logEntry_in ..).thn (by decide) ?_
    | with_reducible refine (State.noteSec_in ..).thn (by decide) ?_
    | with_reducible refine (State.wakeTamp_in ..).thn (by decide) ?_
    | with_reducible refine (State.raise_in ..).thn (by decide) ?_
    | with_reducible refine (State.askSeal_in ..).thn (by decide) ?_
    | split
    | dsimp only

theorem State.tampOne_in (s : State) (k : Nat) (high : Bool) : Within [.regs, .sec, .boot] s (State.tampOne s k high) := by
  unfold State.tampOne
  repeat' first
    | with_reducible exact Within.refl ..
    | with_reducible assumption
    | lift_lets
    | (intro x; refine Within.known (ps := [.regs, .sec, .boot]) (s := s) (x := x) ?_ ?_ <;> [(unfold x; clear x); (clear_value x; intro hx)])
    | (intro x; clear_value x)
    | with_reducible refine (State.setSec_in ..).thn (by decide) ?_
    | with_reducible refine (State.setFld_in ..).thn (by decide) ?_
    | with_reducible refine (State.tampEvent_in ..).thn (by decide) ?_
    | split
    | dsimp only

theorem State.vbat_in (s : State) (low : Bool) : Within [.regs, .sec] s (State.vbat s low) := by
  unfold State.vbat
  repeat' first
    | with_reducible exact Within.refl ..
    | with_reducible assumption
    | lift_lets
    | (intro x; refine Within.known (ps := [.regs, .sec]) (s := s) (x := x) ?_ ?_ <;> [(unfold x; clear x); (clear_value x; intro hx)])
    | (intro x; clear_value x)
    | with_reducible refine (State.setFld_in ..).thn (by decide) ?_
    | with_reducible refine (State.logEntry_in ..).thn (by decide) ?_
    | split
    | dsimp only

theorem State.tallySeal_in (s : State) : Within [.regs, .mem, .sec] s (State.tallySeal s) := by
  unfold State.tallySeal
  repeat' first
    | with_reducible exact Within.refl ..
    | with_reducible assumption
    | lift_lets
    | (intro x; refine Within.known (ps := [.regs, .mem, .sec]) (s := s) (x := x) ?_ ?_ <;> [(unfold x; clear x); (clear_value x; intro hx)])
    | (intro x; clear_value x)
    | with_reducible refine (State.sealOp_in ..).thn (by decide) ?_
    | split
    | dsimp only

theorem State.newEpoch_in (s : State) : Within [.regs, .sec] s (State.newEpoch s) := by
  unfold State.newEpoch
  repeat' first
    | with_reducible exact Within.refl ..
    | with_reducible assumption
    | lift_lets
    | (intro x; refine Within.known (ps := [.regs, .sec]) (s := s) (x := x) ?_ ?_ <;> [(unfold x; clear x); (clear_value x; intro hx)])
    | (intro x; clear_value x)
    | with_reducible refine (State.setSec_in ..).thn (by decide) ?_
    | with_reducible refine (State.askSeal_in ..).thn (by decide) ?_
    | with_reducible refine (State.noteSec_in ..).thn (by decide) ?_
    | split
    | dsimp only

theorem State.checkRetention_in (s : State) (ok : Bool) : Within [.regs, .sec] s (State.checkRetention s ok) := by
  unfold State.checkRetention
  repeat' first
    | with_reducible exact Within.refl ..
    | with_reducible assumption
    | lift_lets
    | (intro x; refine Within.known (ps := [.regs, .sec]) (s := s) (x := x) ?_ ?_ <;> [(unfold x; clear x); (clear_value x; intro hx)])
    | (intro x; clear_value x)
    | with_reducible refine (State.setSec_in ..).thn (by decide) ?_
    | with_reducible refine (State.setFld_in ..).thn (by decide) ?_
    | with_reducible refine (State.noteSec_in ..).thn (by decide) ?_
    | with_reducible refine (State.logEntry_in ..).thn (by decide) ?_
    | with_reducible refine (State.newEpoch_in ..).thn (by decide) ?_
    | split
    | dsimp only

end Sys2Proof.Machine
end

