-- ==== Sys2Proof/Laws/InBootRows.lean ====
section
/-!
SUPPORT. What each operation of Machine/BootRows.lean can change: one lemma per operation.
-/

set_option linter.unusedTactic false
set_option linter.unreachableTactic false

namespace Sys2Proof.Machine

/-- A state that keeps the queue and the one form, whatever else it changes. -/
theorem Within.all {s t : State} (hq : t.pending = s.pending) (hf : s.canonical = true → t.canonical = true) :
    Within [.regs, .drafts, .chart, .latch, .grid, .eng, .stg, .clk, .adc, .pwm, .drv, .trp, .ctr, .mem, .twn, .sec, .snd, .sdc, .host, .boot] s t :=
  ⟨hq, hf, fun p hp => by cases p <;> exact absurd (by decide) hp⟩

theorem State.toPhase_in (s : State) (p : Nat) : Within [.regs, .boot] s (State.toPhase s p) := by
  unfold State.toPhase
  repeat' first
    | with_reducible exact Within.refl ..
    | with_reducible assumption
    | lift_lets
    | (intro x; refine Within.known (ps := [.regs, .boot]) (s := s) (x := x) ?_ ?_ <;> [(unfold x; clear x); (clear_value x; intro hx)])
    | (intro x; clear_value x)
    | with_reducible refine (State.setFld_in ..).thn (by decide) ?_
    | fail_if_no_progress with_reducible refine Within.upd_boot ?_ (by decide)
    | split
    | dsimp only

theorem State.afterReset_in (s0 : State) (warm : Bool) (kind : Nat) : Within [.regs, .drafts, .chart, .latch, .grid, .eng, .stg, .clk, .adc, .pwm, .drv, .trp, .ctr, .mem, .twn, .sec, .snd, .sdc, .host, .boot] s0 (s0.afterReset warm kind) := by
  unfold State.afterReset
  extract_lets s d m t u0 down u
  have hs : Within [.regs, .drafts, .chart, .latch, .grid, .eng, .stg, .clk, .adc, .pwm, .drv, .trp, .ctr, .mem, .twn, .sec, .snd, .sdc, .host, .boot] s0 s := by
    unfold s
    split
    · refine Within.forIdx (fun _ _ h => ?_) (Within.refl ..)
      split
      · exact h
      · exact (State.storeFlux_in ..).thn (by decide) h
    · exact Within.refl ..
  have ht : Within [.regs, .drafts, .chart, .latch, .grid, .eng, .stg, .clk, .adc, .pwm, .drv, .trp, .ctr, .mem, .twn, .sec, .snd, .sdc, .host, .boot] s t := by
    refine Within.all rfl fun h => ?_
    have q := (State.canonical_iff _).1 h
    refine (State.canonical_iff _).2 ⟨⟨q.1.1.filter _, List.Pairwise.nil, List.Pairwise.nil⟩, TabOk.nil _, ?_⟩
    show TabOk _ (MemRun.dram (if warm = true then _ else _)) ∧ TabOk _ (MemRun.flips (if warm = true then _ else _))
    split
    · exact q.2.2
    · exact ⟨TabOk.nil _, TabOk.nil _⟩
  have hu : Within [.regs, .drafts, .chart, .latch, .grid, .eng, .stg, .clk, .adc, .pwm, .drv, .trp, .ctr, .mem, .twn, .sec, .snd, .sdc, .host, .boot] s0 u0 :=
    (State.setFld_in ..).thn (by decide) ((State.setFld_in ..).thn (by decide) (ht.thn (fun _ h => h) hs))
  clear_value u0 down
  have hv : Within [.regs, .drafts, .chart, .latch, .grid, .eng, .stg, .clk, .adc, .pwm, .drv, .trp, .ctr, .mem, .twn, .sec, .snd, .sdc, .host, .boot] s0 u := by
    unfold u
    split
    · exact (State.setFld_in ..).thn (by decide) hu
    · exact hu
  clear_value u
  split
  · refine (State.mark_in ..).thn (by decide) ((State.freshNonce_in ..).thn (by decide) ((State.notePatch_in ..).thn (by decide) ?_))
    exact (State.checkRetention_in ..).thn (by decide) ((State.setFld_in ..).thn (by decide) hv)
  · exact hv

theorem State.releaseReset_in (s : State) (strap : Bool) (xtal : Bool) (retOk : Bool) : Within [.regs, .chart, .clk, .twn, .sec, .boot] s (State.releaseReset s strap xtal retOk) := by
  unfold State.releaseReset
  repeat' first
    | with_reducible exact Within.refl ..
    | with_reducible assumption
    | lift_lets
    | (intro x; refine Within.known (ps := [.regs, .chart, .clk, .twn, .sec, .boot]) (s := s) (x := x) ?_ ?_ <;> [(unfold x; clear x); (clear_value x; intro hx)])
    | (intro x; clear_value x)
    | with_reducible refine (State.setFld_in ..).thn (by decide) ?_
    | with_reducible refine (State.marginRead_in ..).thn (by decide) ?_
    | with_reducible refine (State.checkRetention_in ..).thn (by decide) ?_
    | with_reducible refine (State.freshNonce_in ..).thn (by decide) ?_
    | with_reducible refine (State.setSec_in ..).thn (by decide) ?_
    | with_reducible refine (State.raise_in ..).thn (by decide) ?_
    | with_reducible refine (State.askSeal_in ..).thn (by decide) ?_
    | fail_if_no_progress with_reducible refine Within.upd_chart_clk_twn_boot ?_ (by decide) (by decide) (by decide) (by decide)
    | split
    | dsimp only

theorem State.warmReset_in (s : State) : Within [.regs, .drafts, .chart, .latch, .grid, .eng, .stg, .clk, .adc, .pwm, .drv, .trp, .ctr, .mem, .twn, .sec, .snd, .sdc, .host, .boot] s (State.warmReset s) := by
  unfold State.warmReset
  repeat' first
    | with_reducible exact Within.refl ..
    | with_reducible assumption
    | with_reducible refine (State.afterReset_in ..).thn (by decide) ?_
    | split
    | dsimp only

theorem State.resetWrite_in (s : State) (p : Port) (warm : Bool) (key : Nat) : Within [.regs, .drafts, .chart, .latch, .grid, .eng, .stg, .clk, .adc, .pwm, .drv, .trp, .ctr, .mem, .twn, .sec, .snd, .sdc, .host, .boot] s (State.resetWrite s p warm key) := by
  unfold State.resetWrite
  repeat' first
    | with_reducible exact Within.refl ..
    | with_reducible assumption
    | with_reducible refine (State.refuse_in ..).thn (by decide) ?_
    | with_reducible refine (State.warmReset_in ..).thn (by decide) ?_
    | split
    | dsimp only

theorem State.askWarm_in (s : State) (p : Port) (key : Nat) : Within [.regs, .drafts, .chart, .latch, .grid, .eng, .stg, .clk, .adc, .pwm, .drv, .trp, .ctr, .mem, .twn, .sec, .snd, .sdc, .host, .boot] s (State.askWarm s p key) := by
  unfold State.askWarm
  repeat' first
    | with_reducible exact Within.refl ..
    | with_reducible assumption
    | with_reducible refine (State.resetWrite_in ..).thn (by decide) ?_
    | split
    | dsimp only

theorem State.bootFail_in (s : State) (code : Nat) (detail : Nat) : Within [.regs] s (State.bootFail s code detail) := by
  unfold State.bootFail
  repeat' first
    | with_reducible exact Within.refl ..
    | with_reducible assumption
    | with_reducible refine (State.setFld_in ..).thn (by decide) ?_
    | with_reducible refine (State.raise_in ..).thn (by decide) ?_
    | split
    | dsimp only

theorem State.pickRef_in (s : State) : Within [.regs] s (State.pickRef s) := by
  unfold State.pickRef
  repeat' first
    | with_reducible exact Within.refl ..
    | with_reducible assumption
    | with_reducible refine (State.setFld_in ..).thn (by decide) ?_
    | split
    | dsimp only

theorem State.endRom_in (s : State) : Within [.regs, .boot] s (State.endRom s) := by
  unfold State.endRom
  repeat' first
    | with_reducible exact Within.refl ..
    | with_reducible assumption
    | lift_lets
    | (intro x; refine Within.known (ps := [.regs, .boot]) (s := s) (x := x) ?_ ?_ <;> [(unfold x; clear x); (clear_value x; intro hx)])
    | (intro x; clear_value x)
    | with_reducible refine (State.noteSec_in ..).thn (by decide) ?_
    | with_reducible refine (State.bootFail_in ..).thn (by decide) ?_
    | with_reducible refine (State.pickRef_in ..).thn (by decide) ?_
    | with_reducible refine (State.toPhase_in ..).thn (by decide) ?_
    | split
    | dsimp only

theorem State.runPatch_in (s : State) : Within [.regs, .sec] s (State.runPatch s).1 := by
  unfold State.runPatch
  repeat' first
    | with_reducible exact Within.refl ..
    | with_reducible assumption
    | lift_lets
    | (intro x; refine Within.known (ps := [.regs, .sec]) (s := s) (x := x) ?_ ?_ <;> [(unfold x; clear x); (clear_value x; intro hx)])
    | (intro x; clear_value x)
    | with_reducible refine (State.setSec_in ..).thn (by decide) ?_
    | with_reducible refine (State.setFld_in ..).thn (by decide) ?_
    | split
    | dsimp only

theorem State.backToLoad_in (s : State) (code : Nat) (detail : Nat) : Within [.regs, .boot] s (State.backToLoad s code detail) := by
  unfold State.backToLoad
  repeat' first
    | with_reducible exact Within.refl ..
    | with_reducible assumption
    | with_reducible refine (State.setFld_in ..).thn (by decide) ?_
    | with_reducible refine (State.bootFail_in ..).thn (by decide) ?_
    | with_reducible refine (State.toPhase_in ..).thn (by decide) ?_
    | split
    | dsimp only

theorem State.setOrigin_in (s : State) : Within [.regs, .pwm] s (State.setOrigin s) := by
  unfold State.setOrigin
  repeat' first
    | with_reducible exact Within.refl ..
    | with_reducible assumption
    | lift_lets
    | (intro x; refine Within.known (ps := [.regs, .pwm]) (s := s) (x := x) ?_ ?_ <;> [(unfold x; clear x); (clear_value x; intro hx)])
    | (intro x; clear_value x)
    | with_reducible refine (State.startCarriers_in ..).thn (by decide) ?_
    | with_reducible refine (State.stamp_in ..).thn (by decide) ?_
    | fail_if_no_progress with_reducible refine Within.upd_pwm ?_ (by decide)
    | split
    | dsimp only

theorem State.bootCommit_in (s : State) : Within [.regs, .drafts, .grid, .eng, .stg, .clk, .adc, .pwm, .drv, .trp, .ctr, .mem, .twn, .sec, .snd, .sdc, .host] s (State.bootCommit s) := by
  unfold State.bootCommit
  repeat' first
    | with_reducible exact Within.refl ..
    | with_reducible assumption
    | lift_lets
    | (intro x; refine Within.known (ps := [.regs, .drafts, .grid, .eng, .stg, .clk, .adc, .pwm, .drv, .trp, .ctr, .mem, .twn, .sec, .snd, .sdc, .host]) (s := s) (x := x) ?_ ?_ <;> [(unfold x; clear x); (clear_value x; intro hx)])
    | (intro x; clear_value x)
    | with_reducible refine (State.applyCommit_in ..).thn (by decide) ?_
    | with_reducible refine (State.legEdge_in ..).thn (by decide) ?_
    | with_reducible refine (State.domainApply_in ..).thn (by decide) ?_
    | with_reducible refine (State.takeCom_in ..).thn (by decide) ?_
    | with_reducible refine (State.loadSafety_in ..).thn (by decide) ?_
    | with_reducible refine (State.setFld_in ..).thn (by decide) ?_
    | with_reducible refine Within.foldl (fun _ _ _ => ?_) ?_
    | with_reducible refine Within.foldl1 (fun _ _ _ => ?_) ?_
    | with_reducible refine Within.foldl2 (fun _ _ _ => ?_) ?_
    | with_reducible refine Within.forIdx (fun _ _ _ => ?_) ?_
    | fail_if_no_progress with_reducible refine Within.upd_stg ?_ (by decide)
    | split
    | dsimp only

theorem State.beginArming_in (s : State) : Within [.regs, .grid, .adc, .pwm, .trp, .ctr, .twn, .snd, .sdc, .boot] s (State.beginArming s) := by
  unfold State.beginArming
  repeat' first
    | with_reducible exact Within.refl ..
    | with_reducible assumption
    | with_reducible refine (State.beginWatch_in ..).thn (by decide) ?_
    | with_reducible refine (State.armTrips_in ..).thn (by decide) ?_
    | with_reducible refine (State.setOrigin_in ..).thn (by decide) ?_
    | with_reducible refine (State.toPhase_in ..).thn (by decide) ?_
    | split
    | dsimp only

theorem State.bootImage_in (s : State) : Within [.regs, .eng, .stg, .mem] s (State.bootImage s).1 := by
  unfold State.bootImage
  repeat' first
    | with_reducible exact Within.refl ..
    | with_reducible assumption
    | lift_lets
    | (intro x; refine Within.known (ps := [.regs, .eng, .stg, .mem]) (s := s) (x := x) ?_ ?_ <;> [(unfold x; clear x); (clear_value x; intro hx)])
    | (intro x; clear_value x)
    | with_reducible refine (State.setFld_in ..).thn (by decide) ?_
    | with_reducible refine (State.verifySlot_in ..).thn (by decide) ?_
    | with_reducible refine (State.loadNext_in ..).thn (by decide) ?_
    | split
    | dsimp only

theorem State.endVerify_in (s : State) : Within [.regs, .drafts, .grid, .eng, .stg, .clk, .adc, .pwm, .drv, .trp, .ctr, .mem, .twn, .sec, .snd, .sdc, .host, .boot] s (State.endVerify s) := by
  unfold State.endVerify
  repeat' first
    | with_reducible exact Within.refl ..
    | with_reducible assumption
    | lift_lets
    | (intro x; refine Within.known (ps := [.regs, .drafts, .grid, .eng, .stg, .clk, .adc, .pwm, .drv, .trp, .ctr, .mem, .twn, .sec, .snd, .sdc, .host, .boot]) (s := s) (x := x) ?_ ?_ <;> [(unfold x; clear x); (clear_value x; intro hx)])
    | (intro x; refine Within.known (ps := [.regs, .drafts, .grid, .eng, .stg, .clk, .adc, .pwm, .drv, .trp, .ctr, .mem, .twn, .sec, .snd, .sdc, .host, .boot]) (s := s) (x := x.1) ?_ ?_ <;> [(unfold x; clear x); (clear_value x; intro hx)])
    | (intro x; clear_value x)
    | with_reducible refine (State.runPatch_in ..).thn (by decide) ?_
    | with_reducible refine (State.backToLoad_in ..).thn (by decide) ?_
    | with_reducible refine (State.bootImage_in ..).thn (by decide) ?_
    | with_reducible refine (State.bootCommit_in ..).thn (by decide) ?_
    | with_reducible refine (State.beginArming_in ..).thn (by decide) ?_
    | split
    | dsimp only

theorem State.stopBoot_in (s : State) (code : Nat) (detail : Nat) : Within [.regs, .boot] s (State.stopBoot s code detail) := by
  unfold State.stopBoot
  repeat' first
    | with_reducible exact Within.refl ..
    | with_reducible assumption
    | with_reducible refine (State.bootFail_in ..).thn (by decide) ?_
    | with_reducible refine (State.toPhase_in ..).thn (by decide) ?_
    | split
    | dsimp only

theorem State.limitFail_in (s : State) : Within [.regs, .pwm, .trp, .boot] s (State.limitFail s) := by
  unfold State.limitFail
  repeat' first
    | with_reducible exact Within.refl ..
    | with_reducible assumption
    | lift_lets
    | (intro x; refine Within.known (ps := [.regs, .pwm, .trp, .boot]) (s := s) (x := x) ?_ ?_ <;> [(unfold x; clear x); (clear_value x; intro hx)])
    | (intro x; refine Within.known (ps := [.regs, .pwm, .trp, .boot]) (s := s) (x := x.2) ?_ ?_ <;> [(unfold x; clear x); (clear_value x; intro hx)])
    | (intro x; clear_value x)
    | with_reducible refine (State.stopBoot_in ..).thn (by decide) ?_
    | with_reducible refine (State.settleForcing_in ..).thn (by decide) ?_
    | with_reducible refine (State.drawFree_in ..).thn (by decide) ?_
    | with_reducible refine (State.backToLoad_in ..).thn (by decide) ?_
    | with_reducible refine Within.foldl (fun _ _ _ => ?_) ?_
    | with_reducible refine Within.foldl1 (fun _ _ _ => ?_) ?_
    | with_reducible refine Within.foldl2 (fun _ _ _ => ?_) ?_
    | fail_if_no_progress with_reducible refine Within.upd_trp ?_ (by decide)
    | split
    | dsimp only

theorem State.phaseDone_in (s : State) : Within [.regs, .drafts, .grid, .eng, .stg, .clk, .adc, .pwm, .drv, .trp, .ctr, .mem, .twn, .sec, .snd, .sdc, .host, .boot] s (State.phaseDone s) := by
  unfold State.phaseDone
  repeat' first
    | with_reducible exact Within.refl ..
    | with_reducible assumption
    | lift_lets
    | (intro x; refine Within.known (ps := [.regs, .drafts, .grid, .eng, .stg, .clk, .adc, .pwm, .drv, .trp, .ctr, .mem, .twn, .sec, .snd, .sdc, .host, .boot]) (s := s) (x := x) ?_ ?_ <;> [(unfold x; clear x); (clear_value x; intro hx)])
    | (intro x; clear_value x)
    | with_reducible refine (State.limitFail_in ..).thn (by decide) ?_
    | with_reducible refine (State.endRom_in ..).thn (by decide) ?_
    | with_reducible refine (State.toPhase_in ..).thn (by decide) ?_
    | with_reducible refine (State.coreDone_in ..).thn (by decide) ?_
    | with_reducible refine (State.endVerify_in ..).thn (by decide) ?_
    | with_reducible refine (State.coreStall_in ..).thn (by decide) ?_
    | split
    | dsimp only

theorem State.phaseFail_in (s : State) (f : BootFault) : Within [.regs, .pwm, .trp, .boot] s (State.phaseFail s f) := by
  unfold State.phaseFail
  repeat' first
    | with_reducible exact Within.refl ..
    | with_reducible assumption
    | lift_lets
    | (intro x; refine Within.known (ps := [.regs, .pwm, .trp, .boot]) (s := s) (x := x) ?_ ?_ <;> [(unfold x; clear x); (clear_value x; intro hx)])
    | (intro x; clear_value x)
    | with_reducible refine (State.limitFail_in ..).thn (by decide) ?_
    | with_reducible refine (State.stopBoot_in ..).thn (by decide) ?_
    | with_reducible refine (State.setFld_in ..).thn (by decide) ?_
    | with_reducible refine (State.linksUp_in ..).thn (by decide) ?_
    | split
    | dsimp only

theorem State.bootStart_in (s0 : State) (p : Port) (slot : Nat) : Within [.regs, .stg, .boot] s0 (State.bootStart s0 p slot) := by
  unfold State.bootStart
  repeat' first
    | with_reducible exact Within.refl ..
    | with_reducible assumption
    | lift_lets
    | (intro x; refine Within.known (ps := [.regs, .stg, .boot]) (s := s0) (x := x) ?_ ?_ <;> [(unfold x; clear x); (clear_value x; intro hx)])
    | (intro x; clear_value x)
    | with_reducible refine (State.setFld_in ..).thn (by decide) ?_
    | with_reducible refine (State.refuse_in ..).thn (by decide) ?_
    | with_reducible refine (State.toPhase_in ..).thn (by decide) ?_
    | fail_if_no_progress with_reducible refine Within.upd_stg ?_ (by decide)
    | split
    | dsimp only

theorem State.startTimers_in (s : State) : Within [.eng] s (State.startTimers s) := by
  unfold State.startTimers
  repeat' first
    | with_reducible exact Within.refl ..
    | with_reducible assumption
    | lift_lets
    | (intro x; refine Within.known (ps := [.eng]) (s := s) (x := x) ?_ ?_ <;> [(unfold x; clear x); (clear_value x; intro hx)])
    | (intro x; clear_value x)
    | with_reducible refine Within.forIdx (fun _ _ _ => ?_) ?_
    | fail_if_no_progress with_reducible refine Within.upd_eng ?_ (by decide)
    | split
    | dsimp only

theorem State.startSounding_in (s : State) : Within [.snd] s (State.startSounding s) := by
  unfold State.startSounding
  repeat' first
    | with_reducible exact Within.refl ..
    | with_reducible assumption
    | lift_lets
    | (intro x; refine Within.known (ps := [.snd]) (s := s) (x := x) ?_ ?_ <;> [(unfold x; clear x); (clear_value x; intro hx)])
    | (intro x; clear_value x)
    | with_reducible refine (State.setNode_in ..).thn (by decide) ?_
    | with_reducible refine Within.forIdx (fun _ _ _ => ?_) ?_
    | split
    | dsimp only

theorem State.arm_in (s : State) : Within [.regs, .grid, .eng, .pwm, .drv, .twn, .snd, .host, .boot] s (State.arm s) := by
  unfold State.arm
  repeat' first
    | with_reducible exact Within.refl ..
    | with_reducible assumption
    | lift_lets
    | (intro x; refine Within.known (ps := [.regs, .grid, .eng, .pwm, .drv, .twn, .snd, .host, .boot]) (s := s) (x := x) ?_ ?_ <;> [(unfold x; clear x); (clear_value x; intro hx)])
    | (intro x; clear_value x)
    | with_reducible refine (State.startTimers_in ..).thn (by decide) ?_
    | with_reducible refine (State.startSounding_in ..).thn (by decide) ?_
    | with_reducible refine (State.toPhase_in ..).thn (by decide) ?_
    | with_reducible refine (State.takeRole_in ..).thn (by decide) ?_
    | fail_if_no_progress with_reducible refine Within.upd_host ?_ (by decide)
    | split
    | dsimp only

theorem State.disarm_in (s : State) : Within [.regs, .grid, .eng, .adc, .pwm, .drv, .trp, .snd, .sdc, .host] s (State.disarm s) := by
  unfold State.disarm
  repeat' first
    | with_reducible exact Within.refl ..
    | with_reducible assumption
    | lift_lets
    | (intro x; refine Within.known (ps := [.regs, .grid, .eng, .adc, .pwm, .drv, .trp, .snd, .sdc, .host]) (s := s) (x := x) ?_ ?_ <;> [(unfold x; clear x); (clear_value x; intro hx)])
    | (intro x; clear_value x)
    | with_reducible refine (State.removeDrive_in ..).thn (by decide) ?_
    | with_reducible refine (State.gatesOff_in ..).thn (by decide) ?_
    | with_reducible refine (State.allGroupsOff_in ..).thn (by decide) ?_
    | with_reducible refine (State.releaseWatch_in ..).thn (by decide) ?_
    | with_reducible refine (State.setFld_in ..).thn (by decide) ?_
    | with_reducible refine (State.settleForcing_in ..).thn (by decide) ?_
    | with_reducible refine Within.forIdx (fun _ _ _ => ?_) ?_
    | fail_if_no_progress with_reducible refine Within.upd_eng_pwm_trp_host ?_ (by decide) (by decide) (by decide) (by decide)
    | split
    | dsimp only

theorem State.standbyEnter_in (s : State) (p : Port) : Within [.regs, .grid, .eng, .adc, .pwm, .drv, .trp, .mem, .sec, .snd, .sdc, .host, .boot] s (State.standbyEnter s p) := by
  unfold State.standbyEnter
  repeat' first
    | with_reducible exact Within.refl ..
    | with_reducible assumption
    | lift_lets
    | (intro x; refine Within.known (ps := [.regs, .grid, .eng, .adc, .pwm, .drv, .trp, .mem, .sec, .snd, .sdc, .host, .boot]) (s := s) (x := x) ?_ ?_ <;> [(unfold x; clear x); (clear_value x; intro hx)])
    | (intro x; unfold x; clear x; try beta_reduce)
    | (intro x; clear_value x)
    | with_reducible refine (State.refuse_in ..).thn (by decide) ?_
    | with_reducible refine (State.seal_in ..).thn (by decide) ?_
    | with_reducible refine (State.askSeal_in ..).thn (by decide) ?_
    | with_reducible refine (State.setSec_in ..).thn (by decide) ?_
    | with_reducible refine (State.disarm_in ..).thn (by decide) ?_
    | with_reducible refine (State.setFld_in ..).thn (by decide) ?_
    | fail_if_no_progress with_reducible refine Within.upd_mem_boot ?_ (by decide) (by decide) ⟨rfl, rfl⟩
    | split
    | dsimp only

theorem State.standbyCancel_in (s : State) : Within [.regs, .drafts, .chart, .latch, .grid, .eng, .stg, .clk, .adc, .pwm, .drv, .trp, .ctr, .mem, .twn, .sec, .snd, .sdc, .host, .boot] s (State.standbyCancel s) := by
  unfold State.standbyCancel
  repeat' first
    | with_reducible exact Within.refl ..
    | with_reducible assumption
    | lift_lets
    | (intro x; refine Within.known (ps := [.regs, .drafts, .chart, .latch, .grid, .eng, .stg, .clk, .adc, .pwm, .drv, .trp, .ctr, .mem, .twn, .sec, .snd, .sdc, .host, .boot]) (s := s) (x := x) ?_ ?_ <;> [(unfold x; clear x); (clear_value x; intro hx)])
    | (intro x; clear_value x)
    | with_reducible refine (State.warmReset_in ..).thn (by decide) ?_
    | fail_if_no_progress with_reducible refine Within.upd_boot ?_ (by decide)
    | split
    | dsimp only

theorem State.wakeAlarm_in (s : State) : Within [.regs, .boot] s (State.wakeAlarm s) := by
  unfold State.wakeAlarm
  repeat' first
    | with_reducible exact Within.refl ..
    | with_reducible assumption
    | lift_lets
    | (intro x; refine Within.known (ps := [.regs, .boot]) (s := s) (x := x) ?_ ?_ <;> [(unfold x; clear x); (clear_value x; intro hx)])
    | (intro x; clear_value x)
    | with_reducible refine (State.setFld_in ..).thn (by decide) ?_
    | fail_if_no_progress with_reducible refine Within.upd_boot ?_ (by decide)
    | split
    | dsimp only

theorem State.islandUp_in (s : State) : Within [.regs, .sec, .boot] s s.islandUp := by
  unfold State.islandUp
  refine (State.setSec_in ..).thn (by decide) ?_
  refine ⟨rfl, fun h => ?_, fun p hp => ?_⟩
  · have q := (State.canonical_iff _).1 h
    exact (State.canonical_iff _).2 ⟨⟨q.1.1.filter _, q.1.2⟩, q.2⟩
  · cases p <;> first | rfl | exact ⟨rfl, rfl⟩ | exact absurd (by decide) hp

end Sys2Proof.Machine
end

