-- ==== Sys2Proof/Laws/InDriveRows.lean ====
section
/-!
SUPPORT. What each operation of Machine/DriveRows.lean can change: one lemma per operation.
-/

set_option linter.unusedTactic false
set_option linter.unreachableTactic false

namespace Sys2Proof.Machine

theorem State.dlinkLoss_in (s : State) (d : Nat) : Within [.regs, .grid, .adc, .pwm, .drv, .ctr, .twn, .snd] s (State.dlinkLoss s d) := by
  unfold State.dlinkLoss
  repeat' first
    | with_reducible exact Within.refl ..
    | with_reducible assumption
    | lift_lets
    | (intro x; refine Within.known (ps := [.regs, .grid, .adc, .pwm, .drv, .ctr, .twn, .snd]) (s := s) (x := x) ?_ ?_ <;> [(unfold x; clear x); (clear_value x; intro hx)])
    | (intro x; clear_value x)
    | with_reducible refine (State.setDdie_in ..).thn (by decide) ?_
    | with_reducible refine (State.raiseBit_in ..).thn (by decide) ?_
    | with_reducible refine (State.count_in ..).thn (by decide) ?_
    | with_reducible refine (State.setFld_in ..).thn (by decide) ?_
    | with_reducible refine (State.dieOff_in ..).thn (by decide) ?_
    | with_reducible refine (State.latchDieFault_in ..).thn (by decide) ?_
    | with_reducible refine (State.standDown_in ..).thn (by decide) ?_
    | split
    | dsimp only

theorem State.drvenLow_in (s : State) (d : Nat) : Within [.regs, .drv] s (State.drvenLow s d) := by
  unfold State.drvenLow
  repeat' first
    | with_reducible exact Within.refl ..
    | with_reducible assumption
    | lift_lets
    | (intro x; refine Within.known (ps := [.regs, .drv]) (s := s) (x := x) ?_ ?_ <;> [(unfold x; clear x); (clear_value x; intro hx)])
    | (intro x; clear_value x)
    | with_reducible refine (State.dieOff_in ..).thn (by decide) ?_
    | with_reducible refine (State.setDdie_in ..).thn (by decide) ?_
    | with_reducible refine (State.setFld_in ..).thn (by decide) ?_
    | split
    | dsimp only

theorem State.freshDie_in (s : State) (d : Nat) : Within [.regs, .drv] s (State.freshDie s d) := by
  unfold State.freshDie
  repeat' first
    | with_reducible exact Within.refl ..
    | with_reducible assumption
    | lift_lets
    | (intro x; refine Within.known (ps := [.regs, .drv]) (s := s) (x := x) ?_ ?_ <;> [(unfold x; clear x); (clear_value x; intro hx)])
    | (intro x; clear_value x)
    | with_reducible refine (State.setFld_in ..).thn (by decide) ?_
    | with_reducible refine (State.setDleg_in ..).thn (by decide) ?_
    | with_reducible refine Within.forIdx (fun _ _ _ => ?_) ?_
    | split
    | dsimp only

theorem State.drvClear_in (s : State) (d : Nat) : Within [.regs, .drv] s (State.drvClear s d) := by
  unfold State.drvClear
  repeat' first
    | with_reducible exact Within.refl ..
    | with_reducible assumption
    | with_reducible refine (State.freshDie_in ..).thn (by decide) ?_
    | with_reducible refine (State.count_in ..).thn (by decide) ?_
    | with_reducible refine (State.raise_in ..).thn (by decide) ?_
    | with_reducible refine (State.noteFault_in ..).thn (by decide) ?_
    | split
    | dsimp only

theorem State.relatch_in (s : State) (d : Nat) : Within [.regs, .grid, .adc, .pwm, .drv, .ctr, .twn, .snd] s (State.relatch s d) := by
  unfold State.relatch
  repeat' first
    | with_reducible exact Within.refl ..
    | with_reducible assumption
    | lift_lets
    | (intro x; refine Within.known (ps := [.regs, .grid, .adc, .pwm, .drv, .ctr, .twn, .snd]) (s := s) (x := x) ?_ ?_ <;> [(unfold x; clear x); (clear_value x; intro hx)])
    | (intro x; clear_value x)
    | with_reducible refine (State.latchDieFault_in ..).thn (by decide) ?_
    | with_reducible refine (State.latchLegFault_in ..).thn (by decide) ?_
    | with_reducible refine Within.forIdx (fun _ _ _ => ?_) ?_
    | split
    | dsimp only

theorem State.drvenRise_in (s : State) (d : Nat) (link : Bool) (hot : Bool) : Within [.regs, .grid, .adc, .pwm, .drv, .ctr, .twn, .snd] s (State.drvenRise s d link hot) := by
  unfold State.drvenRise
  repeat' first
    | with_reducible exact Within.refl ..
    | with_reducible assumption
    | lift_lets
    | (intro x; refine Within.known (ps := [.regs, .grid, .adc, .pwm, .drv, .ctr, .twn, .snd]) (s := s) (x := x) ?_ ?_ <;> [(unfold x; clear x); (clear_value x; intro hx)])
    | (intro x; refine Within.known (ps := [.regs, .grid, .adc, .pwm, .drv, .ctr, .twn, .snd]) (s := s) (x := x.2) ?_ ?_ <;> [(unfold x; clear x); (clear_value x; intro hx)])
    | (intro x; clear_value x)
    | with_reducible refine (State.drawFree_in ..).thn (by decide) ?_
    | with_reducible refine (State.setDdie_in ..).thn (by decide) ?_
    | with_reducible refine (State.setFld_in ..).thn (by decide) ?_
    | with_reducible refine (State.drvClear_in ..).thn (by decide) ?_
    | with_reducible refine (State.relatch_in ..).thn (by decide) ?_
    | split
    | dsimp only

theorem State.confirmed_in (s : State) (n : Nat) (high : Bool) : Within [.regs, .drv] s (State.confirmed s n high) := by
  unfold State.confirmed
  repeat' first
    | with_reducible exact Within.refl ..
    | with_reducible assumption
    | lift_lets
    | (intro x; refine Within.known (ps := [.regs, .drv]) (s := s) (x := x) ?_ ?_ <;> [(unfold x; clear x); (clear_value x; intro hx)])
    | (intro x; clear_value x)
    | with_reducible refine (State.begin_in ..).thn (by decide) ?_
    | with_reducible refine (State.raise_in ..).thn (by decide) ?_
    | split
    | dsimp only

theorem State.confirmTimeout_in (s : State) (n : Nat) (high : Bool) : Within [.regs, .grid, .adc, .pwm, .drv, .ctr, .twn, .snd] s (State.confirmTimeout s n high) := by
  unfold State.confirmTimeout
  repeat' first
    | with_reducible exact Within.refl ..
    | with_reducible assumption
    | lift_lets
    | (intro x; refine Within.known (ps := [.regs, .grid, .adc, .pwm, .drv, .ctr, .twn, .snd]) (s := s) (x := x) ?_ ?_ <;> [(unfold x; clear x); (clear_value x; intro hx)])
    | (intro x; clear_value x)
    | with_reducible refine (State.latchLegFault_in ..).thn (by decide) ?_
    | split
    | dsimp only

theorem State.lowTimeout_in (s : State) (n : Nat) (high : Bool) : Within [.regs, .grid, .adc, .pwm, .drv, .ctr, .twn, .snd] s (State.lowTimeout s n high) := by
  unfold State.lowTimeout
  repeat' first
    | with_reducible exact Within.refl ..
    | with_reducible assumption
    | lift_lets
    | (intro x; refine Within.known (ps := [.regs, .grid, .adc, .pwm, .drv, .ctr, .twn, .snd]) (s := s) (x := x) ?_ ?_ <;> [(unfold x; clear x); (clear_value x; intro hx)])
    | (intro x; clear_value x)
    | with_reducible refine (State.latchLegFault_in ..).thn (by decide) ?_
    | split
    | dsimp only

theorem State.unlock_in (s : State) (n : Nat) : Within [.drv] s (State.unlock s n) := by
  unfold State.unlock
  repeat' first
    | with_reducible exact Within.refl ..
    | with_reducible assumption
    | lift_lets
    | (intro x; refine Within.known (ps := [.drv]) (s := s) (x := x) ?_ ?_ <;> [(unfold x; clear x); (clear_value x; intro hx)])
    | (intro x; clear_value x)
    | with_reducible refine (State.setDleg_in ..).thn (by decide) ?_
    | split
    | dsimp only

theorem State.lock_in (s : State) (n : Nat) : Within [.regs, .drv] s (State.lock s n) := by
  unfold State.lock
  repeat' first
    | with_reducible exact Within.refl ..
    | with_reducible assumption
    | lift_lets
    | (intro x; refine Within.known (ps := [.regs, .drv]) (s := s) (x := x) ?_ ?_ <;> [(unfold x; clear x); (clear_value x; intro hx)])
    | (intro x; clear_value x)
    | with_reducible refine (State.setDleg_in ..).thn (by decide) ?_
    | with_reducible refine (State.bsuv_in ..).thn (by decide) ?_
    | split
    | dsimp only

theorem State.bsuvTimeout_in (s : State) (n : Nat) : Within [.regs, .grid, .adc, .pwm, .drv, .ctr, .twn, .snd] s (State.bsuvTimeout s n) := by
  unfold State.bsuvTimeout
  repeat' first
    | with_reducible exact Within.refl ..
    | with_reducible assumption
    | lift_lets
    | (intro x; refine Within.known (ps := [.regs, .grid, .adc, .pwm, .drv, .ctr, .twn, .snd]) (s := s) (x := x) ?_ ?_ <;> [(unfold x; clear x); (clear_value x; intro hx)])
    | (intro x; clear_value x)
    | with_reducible refine (State.setDleg_in ..).thn (by decide) ?_
    | with_reducible refine (State.latchLegFault_in ..).thn (by decide) ?_
    | split
    | dsimp only

theorem State.setStrNow_in (s : State) (n : Nat) (k : Nat) (v : Nat) : Within [.regs] s (State.setStrNow s n k v) := by
  unfold State.setStrNow
  repeat' first
    | with_reducible exact Within.refl ..
    | with_reducible assumption
    | with_reducible refine (State.setFld_in ..).thn (by decide) ?_
    | split
    | dsimp only

theorem State.swEdge_in (s : State) (n : Nat) (rising : Bool) (q : Nat) : Within [.regs, .drv] s (State.swEdge s n rising q) := by
  unfold State.swEdge
  repeat' first
    | with_reducible exact Within.refl ..
    | with_reducible assumption
    | lift_lets
    | (intro x; refine Within.known (ps := [.regs, .drv]) (s := s) (x := x) ?_ ?_ <;> [(unfold x; clear x); (clear_value x; intro hx)])
    | (intro x; clear_value x)
    | with_reducible refine (State.setFld_in ..).thn (by decide) ?_
    | with_reducible refine (State.setDleg_in ..).thn (by decide) ?_
    | split
    | dsimp only

theorem State.adaptStep_in (s : State) (n : Nat) (k : Nat) : Within [.regs, .drv] s (State.adaptStep s n k) := by
  unfold State.adaptStep
  repeat' first
    | with_reducible exact Within.refl ..
    | with_reducible assumption
    | lift_lets
    | (intro x; refine Within.known (ps := [.regs, .drv]) (s := s) (x := x) ?_ ?_ <;> [(unfold x; clear x); (clear_value x; intro hx)])
    | (intro x; clear_value x)
    | with_reducible refine (State.setDleg_in ..).thn (by decide) ?_
    | with_reducible refine (State.raise_in ..).thn (by decide) ?_
    | with_reducible refine (State.setStrNow_in ..).thn (by decide) ?_
    | split
    | dsimp only

theorem State.shortCircuit_in (s : State) (n : Nat) (on : Bool) : Within [.regs, .grid, .adc, .pwm, .drv, .trp, .ctr, .twn, .snd] s (State.shortCircuit s n on) := by
  unfold State.shortCircuit
  repeat' first
    | with_reducible exact Within.refl ..
    | with_reducible assumption
    | lift_lets
    | (intro x; refine Within.known (ps := [.regs, .grid, .adc, .pwm, .drv, .trp, .ctr, .twn, .snd]) (s := s) (x := x) ?_ ?_ <;> [(unfold x; clear x); (clear_value x; intro hx)])
    | (intro x; clear_value x)
    | with_reducible refine (State.setDleg_in ..).thn (by decide) ?_
    | with_reducible refine (State.gatesOffAt_in ..).thn (by decide) ?_
    | with_reducible refine (State.latchLegFault_in ..).thn (by decide) ?_
    | with_reducible refine (State.sourceLive_in ..).thn (by decide) ?_
    | split
    | dsimp only

theorem State.drvVuv_in (s : State) (d : Nat) : Within [.regs, .grid, .adc, .pwm, .drv, .ctr, .twn, .snd] s (State.drvVuv s d) := by
  unfold State.drvVuv
  repeat' first
    | with_reducible exact Within.refl ..
    | with_reducible assumption
    | lift_lets
    | (intro x; refine Within.known (ps := [.regs, .grid, .adc, .pwm, .drv, .ctr, .twn, .snd]) (s := s) (x := x) ?_ ?_ <;> [(unfold x; clear x); (clear_value x; intro hx)])
    | (intro x; clear_value x)
    | with_reducible refine (State.setDdie_in ..).thn (by decide) ?_
    | with_reducible refine (State.latchDieFault_in ..).thn (by decide) ?_
    | with_reducible refine (State.dieOff_in ..).thn (by decide) ?_
    | split
    | dsimp only

theorem State.dieUp_in (s : State) (d : Nat) : Within [.drv] s (State.dieUp s d) := by
  unfold State.dieUp
  repeat' first
    | with_reducible exact Within.refl ..
    | with_reducible assumption
    | lift_lets
    | (intro x; refine Within.known (ps := [.drv]) (s := s) (x := x) ?_ ?_ <;> [(unfold x; clear x); (clear_value x; intro hx)])
    | (intro x; clear_value x)
    | with_reducible refine (State.setDdie_in ..).thn (by decide) ?_
    | split
    | dsimp only

theorem State.dieStart_in (s : State) (d : Nat) : Within [.regs, .drv] s (State.dieStart s d) := by
  unfold State.dieStart
  repeat' first
    | with_reducible exact Within.refl ..
    | with_reducible assumption
    | with_reducible refine (State.dieUp_in ..).thn (by decide) ?_
    | with_reducible refine (State.freshDie_in ..).thn (by decide) ?_
    | with_reducible refine (State.noteFault_in ..).thn (by decide) ?_
    | split
    | dsimp only

theorem State.drvRise_in (s : State) (d : Nat) : Within [.regs, .drv] s (State.drvRise s d) := by
  unfold State.drvRise
  repeat' first
    | with_reducible exact Within.refl ..
    | with_reducible assumption
    | lift_lets
    | (intro x; refine Within.known (ps := [.regs, .drv]) (s := s) (x := x) ?_ ?_ <;> [(unfold x; clear x); (clear_value x; intro hx)])
    | (intro x; refine Within.known (ps := [.regs, .drv]) (s := s) (x := x.2) ?_ ?_ <;> [(unfold x; clear x); (clear_value x; intro hx)])
    | (intro x; clear_value x)
    | with_reducible refine (State.dieStart_in ..).thn (by decide) ?_
    | with_reducible refine (State.drawFree_in ..).thn (by decide) ?_
    | with_reducible refine (State.dieUp_in ..).thn (by decide) ?_
    | split
    | dsimp only

theorem State.drvOt_in (s : State) (d : Nat) : Within [.regs, .grid, .adc, .pwm, .drv, .ctr, .twn, .snd] s (State.drvOt s d) := by
  unfold State.drvOt
  repeat' first
    | with_reducible exact Within.refl ..
    | with_reducible assumption
    | lift_lets
    | (intro x; refine Within.known (ps := [.regs, .grid, .adc, .pwm, .drv, .ctr, .twn, .snd]) (s := s) (x := x) ?_ ?_ <;> [(unfold x; clear x); (clear_value x; intro hx)])
    | (intro x; clear_value x)
    | with_reducible refine (State.setDdie_in ..).thn (by decide) ?_
    | with_reducible refine (State.dieOff_in ..).thn (by decide) ?_
    | with_reducible refine (State.latchDieFault_in ..).thn (by decide) ?_
    | split
    | dsimp only

theorem State.legRelease_in (s : State) (n : Nat) : Within [.regs, .drv] s (State.legRelease s n) := by
  unfold State.legRelease
  repeat' first
    | with_reducible exact Within.refl ..
    | with_reducible assumption
    | with_reducible refine (State.releaseLeg_in ..).thn (by decide) ?_
    | split
    | dsimp only

end Sys2Proof.Machine
end

