-- ==== Sys2Proof/Laws/InTwinRows.lean ====
section
/-!
SUPPORT. What each operation of Machine/TwinRows.lean can change: one lemma per operation.
-/

set_option linter.unusedTactic false
set_option linter.unreachableTactic false

namespace Sys2Proof.Machine

theorem State.hoCut_in (s : State) : Within [.regs, .grid, .adc, .pwm, .drv, .twn, .snd] s (State.hoCut s) := by
  unfold State.hoCut
  repeat' first
    | with_reducible exact Within.refl ..
    | with_reducible assumption
    | lift_lets
    | (intro x; refine Within.known (ps := [.regs, .grid, .adc, .pwm, .drv, .twn, .snd]) (s := s) (x := x) ?_ ?_ <;> [(unfold x; clear x); (clear_value x; intro hx)])
    | (intro x; clear_value x)
    | with_reducible refine (State.setTwn_in ..).thn (by decide) ?_
    | with_reducible refine (State.hoTake_in ..).thn (by decide) ?_
    | with_reducible refine (State.hoEnd_in ..).thn (by decide) ?_
    | with_reducible refine (State.announceHo_in ..).thn (by decide) ?_
    | with_reducible refine (State.hoFallback_in ..).thn (by decide) ?_
    | split
    | dsimp only

theorem State.sendFrame_in (s : State) (at32 : Nat) : Within [.regs, .twn] s (State.sendFrame s at32) := by
  unfold State.sendFrame
  repeat' first
    | with_reducible exact Within.refl ..
    | with_reducible assumption
    | lift_lets
    | (intro x; refine Within.known (ps := [.regs, .twn]) (s := s) (x := x) ?_ ?_ <;> [(unfold x; clear x); (clear_value x; intro hx)])
    | (intro x; clear_value x)
    | with_reducible refine (State.capture_in ..).thn (by decide) ?_
    | with_reducible refine (State.noteReady_in ..).thn (by decide) ?_
    | with_reducible refine (State.setTwn_in ..).thn (by decide) ?_
    | with_reducible refine (State.unsent_in ..).thn (by decide) ?_
    | split
    | dsimp only

theorem State.frameCut_in (s : State) (delay : Nat) (frac : Nat) : Within [.regs, .grid, .adc, .pwm, .drv, .twn, .snd] s (State.frameCut s delay frac) := by
  unfold State.frameCut
  repeat' first
    | with_reducible exact Within.refl ..
    | with_reducible assumption
    | with_reducible refine (State.mark_in ..).thn (by decide) ?_
    | with_reducible refine (State.hoCut_in ..).thn (by decide) ?_
    | with_reducible refine (State.sendFrame_in ..).thn (by decide) ?_
    | split
    | dsimp only

theorem State.claim_in (s : State) : Within [.regs, .drv, .twn] s (State.claim s) := by
  unfold State.claim
  repeat' first
    | with_reducible exact Within.refl ..
    | with_reducible assumption
    | lift_lets
    | (intro x; refine Within.known (ps := [.regs, .drv, .twn]) (s := s) (x := x) ?_ ?_ <;> [(unfold x; clear x); (clear_value x; intro hx)])
    | (intro x; clear_value x)
    | with_reducible refine (State.driveAct_in ..).thn (by decide) ?_
    | with_reducible refine (State.setFld_in ..).thn (by decide) ?_
    | with_reducible refine (State.raise_in ..).thn (by decide) ?_
    | with_reducible refine (State.count_in ..).thn (by decide) ?_
    | with_reducible refine (State.stamp_in ..).thn (by decide) ?_
    | with_reducible refine (State.driveAll_in ..).thn (by decide) ?_
    | with_reducible refine (State.setTwn_in ..).thn (by decide) ?_
    | split
    | dsimp only

theorem State.expiryActs_in (s : State) (ready : Bool) : Within [.regs, .drv, .twn] s (State.expiryActs s ready) := by
  unfold State.expiryActs
  repeat' first
    | with_reducible exact Within.refl ..
    | with_reducible assumption
    | with_reducible refine (State.setFld_in ..).thn (by decide) ?_
    | with_reducible refine (State.claim_in ..).thn (by decide) ?_
    | with_reducible refine (State.raise_in ..).thn (by decide) ?_
    | split
    | dsimp only

theorem State.heartbeat_in (s : State) : Within [.regs, .drv, .twn] s (State.heartbeat s) := by
  unfold State.heartbeat
  repeat' first
    | with_reducible exact Within.refl ..
    | with_reducible assumption
    | lift_lets
    | (intro x; refine Within.known (ps := [.regs, .drv, .twn]) (s := s) (x := x) ?_ ?_ <;> [(unfold x; clear x); (clear_value x; intro hx)])
    | (intro x; clear_value x)
    | with_reducible refine (State.setTwn_in ..).thn (by decide) ?_
    | with_reducible refine (State.raise_in ..).thn (by decide) ?_
    | with_reducible refine (State.setFld_in ..).thn (by decide) ?_
    | with_reducible refine (State.expiryActs_in ..).thn (by decide) ?_
    | with_reducible refine (State.noteReady_in ..).thn (by decide) ?_
    | split
    | dsimp only

theorem State.goodFrame_in (s : State) (l : List Nat) (rx32 : Nat) : Within [.regs, .grid, .eng, .clk, .adc, .pwm, .drv, .twn, .snd] s (State.goodFrame s l rx32) := by
  unfold State.goodFrame
  repeat' first
    | with_reducible exact Within.refl ..
    | with_reducible assumption
    | lift_lets
    | (intro x; refine Within.known (ps := [.regs, .grid, .eng, .clk, .adc, .pwm, .drv, .twn, .snd]) (s := s) (x := x) ?_ ?_ <;> [(unfold x; clear x); (clear_value x; intro hx)])
    | (intro x; clear_value x)
    | with_reducible refine (State.peerWords_in ..).thn (by decide) ?_
    | with_reducible refine (State.timeLink_in ..).thn (by decide) ?_
    | with_reducible refine (State.roleWords_in ..).thn (by decide) ?_
    | with_reducible refine (State.shadow_in ..).thn (by decide) ?_
    | with_reducible refine (State.hoWords_in ..).thn (by decide) ?_
    | with_reducible refine (State.noteReady_in ..).thn (by decide) ?_
    | with_reducible refine (State.setTwn_in ..).thn (by decide) ?_
    | split
    | dsimp only

theorem State.twinFrame_in (s : State) (l : List Nat) (rx32 : Nat) : Within [.regs, .grid, .eng, .clk, .adc, .pwm, .drv, .twn, .snd] s (State.twinFrame s l rx32) := by
  unfold State.twinFrame
  repeat' first
    | with_reducible exact Within.refl ..
    | with_reducible assumption
    | with_reducible refine (State.heartbeat_in ..).thn (by decide) ?_
    | with_reducible refine (State.goodFrame_in ..).thn (by decide) ?_
    | with_reducible refine (State.raise_in ..).thn (by decide) ?_
    | with_reducible refine (State.count_in ..).thn (by decide) ?_
    | split
    | dsimp only

theorem State.oneshot_in (s : State) : Within [.regs, .pwm, .drv, .twn] s (State.oneshot s) := by
  unfold State.oneshot
  repeat' first
    | with_reducible exact Within.refl ..
    | with_reducible assumption
    | lift_lets
    | (intro x; refine Within.known (ps := [.regs, .pwm, .drv, .twn]) (s := s) (x := x) ?_ ?_ <;> [(unfold x; clear x); (clear_value x; intro hx)])
    | (intro x; clear_value x)
    | with_reducible refine (State.setTwn_in ..).thn (by decide) ?_
    | with_reducible refine (State.standDown_in ..).thn (by decide) ?_
    | split
    | dsimp only

theorem State.peerWait_in (s : State) : Within [.regs, .pwm, .twn] s (State.peerWait s) := by
  unfold State.peerWait
  repeat' first
    | with_reducible exact Within.refl ..
    | with_reducible assumption
    | lift_lets
    | (intro x; refine Within.known (ps := [.regs, .pwm, .twn]) (s := s) (x := x) ?_ ?_ <;> [(unfold x; clear x); (clear_value x; intro hx)])
    | (intro x; clear_value x)
    | with_reducible refine (State.becomeActive_in ..).thn (by decide) ?_
    | split
    | dsimp only

theorem State.settleEnd_in (s : State) : Within [.regs, .drv, .twn] s (State.settleEnd s) := by
  unfold State.settleEnd
  repeat' first
    | with_reducible exact Within.refl ..
    | with_reducible assumption
    | lift_lets
    | (intro x; refine Within.known (ps := [.regs, .drv, .twn]) (s := s) (x := x) ?_ ?_ <;> [(unfold x; clear x); (clear_value x; intro hx)])
    | (intro x; clear_value x)
    | with_reducible refine (State.setTwn_in ..).thn (by decide) ?_
    | with_reducible refine (State.driveAll_in ..).thn (by decide) ?_
    | split
    | dsimp only

theorem State.handover_in (s : State) (p : Port) : Within [.regs, .twn] s (State.handover s p) := by
  unfold State.handover
  repeat' first
    | with_reducible exact Within.refl ..
    | with_reducible assumption
    | with_reducible refine (State.announceHo_in ..).thn (by decide) ?_
    | with_reducible refine (State.refuse_in ..).thn (by decide) ?_
    | split
    | dsimp only

theorem State.handoverCancel_in (s : State) : Within [.regs, .grid, .adc, .pwm, .twn, .snd] s (State.handoverCancel s) := by
  unfold State.handoverCancel
  repeat' first
    | with_reducible exact Within.refl ..
    | with_reducible assumption
    | lift_lets
    | (intro x; refine Within.known (ps := [.regs, .grid, .adc, .pwm, .twn, .snd]) (s := s) (x := x) ?_ ?_ <;> [(unfold x; clear x); (clear_value x; intro hx)])
    | (intro x; clear_value x)
    | with_reducible refine (State.setFld_in ..).thn (by decide) ?_
    | with_reducible refine (State.setTwn_in ..).thn (by decide) ?_
    | with_reducible refine (State.raise_in ..).thn (by decide) ?_
    | with_reducible refine (State.hoFallback_in ..).thn (by decide) ?_
    | split
    | dsimp only

theorem State.handoverEdge_in (s : State) (n : Nat) : Within [.regs, .grid, .drv, .twn] s (State.handoverEdge s n) := by
  unfold State.handoverEdge
  repeat' first
    | with_reducible exact Within.refl ..
    | with_reducible assumption
    | with_reducible refine (State.hoLeg_in ..).thn (by decide) ?_
    | split
    | dsimp only

theorem State.forceOff_in (s : State) (n : Nat) : Within [.pwm, .drv] s (State.forceOff s n) := by
  unfold State.forceOff
  repeat' first
    | with_reducible exact Within.refl ..
    | with_reducible assumption
    | lift_lets
    | (intro x; refine Within.known (ps := [.pwm, .drv]) (s := s) (x := x) ?_ ?_ <;> [(unfold x; clear x); (clear_value x; intro hx)])
    | (intro x; clear_value x)
    | with_reducible refine (State.cutLeg_in ..).thn (by decide) ?_
    | with_reducible refine (State.setLeg_in ..).thn (by decide) ?_
    | split
    | dsimp only

theorem State.forcedEdge_in (s : State) (n : Nat) : Within [.regs, .grid, .pwm, .drv, .twn] s (State.forcedEdge s n) := by
  unfold State.forcedEdge
  repeat' first
    | with_reducible exact Within.refl ..
    | with_reducible assumption
    | with_reducible refine (State.forceOff_in ..).thn (by decide) ?_
    | with_reducible refine (State.hoLeg_in ..).thn (by decide) ?_
    | split
    | dsimp only

theorem State.actLine_in (s : State) (high : Bool) : Within [.regs, .grid, .twn] s (State.actLine s high) := by
  unfold State.actLine
  repeat' first
    | with_reducible exact Within.refl ..
    | with_reducible assumption
    | lift_lets
    | (intro x; refine Within.known (ps := [.regs, .grid, .twn]) (s := s) (x := x) ?_ ?_ <;> [(unfold x; clear x); (clear_value x; intro hx)])
    | (intro x; clear_value x)
    | with_reducible refine (State.setFld_in ..).thn (by decide) ?_
    | with_reducible refine (State.becomeStandby_in ..).thn (by decide) ?_
    | with_reducible refine (State.raise_in ..).thn (by decide) ?_
    | split
    | dsimp only

end Sys2Proof.Machine
end

