-- ==== Sys2Proof/Laws/InRegWrite.lean ====
section
/-!
SUPPORT. What each operation of Machine/RegWrite.lean can change: one lemma per operation.
-/

set_option linter.unusedTactic false
set_option linter.unreachableTactic false

namespace Sys2Proof.Machine

theorem State.writeFld_in (s : State) (p : Port) (a : Nat) (v : Nat) (r : Row) : Within [.regs] s (State.writeFld s p a v r) := by
  unfold State.writeFld
  repeat' first
    | with_reducible exact Within.refl ..
    | with_reducible assumption
    | lift_lets
    | (intro x; refine Within.known (ps := [.regs]) (s := s) (x := x) ?_ ?_ <;> [(unfold x; clear x); (clear_value x; intro hx)])
    | (intro x; clear_value x)
    | with_reducible refine (State.setFld_in ..).thn (by decide) ?_
    | with_reducible refine (State.refuse_in ..).thn (by decide) ?_
    | split
    | dsimp only

theorem State.writeD_in (s : State) (p : Port) (a : Nat) (v : Nat) (rows : List Row) : Within [.regs, .drafts] s (State.writeD s p a v rows) := by
  unfold State.writeD
  repeat' first
    | with_reducible exact Within.refl ..
    | with_reducible assumption
    | lift_lets
    | (intro x; refine Within.known (ps := [.regs, .drafts]) (s := s) (x := x) ?_ ?_ <;> [(unfold x; clear x); (clear_value x; intro hx)])
    | (intro x; unfold x; clear x; try beta_reduce)
    | (intro x; clear_value x)
    | with_reducible refine (State.refuse_in ..).thn (by decide) ?_
    | with_reducible refine (State.draftFld_in ..).thn (by decide) ?_
    | with_reducible refine (State.stgRest_in ..).thn (by decide) ?_
    | with_reducible refine Within.foldl (fun _ _ _ => ?_) ?_
    | with_reducible refine Within.foldl1 (fun _ _ _ => ?_) ?_
    | with_reducible refine Within.foldl2 (fun _ _ _ => ?_) ?_
    | split
    | dsimp only

theorem State.writeRef_in (s : State) (p : Port) (v : Nat) : Within [.regs, .clk] s (State.writeRef s p v) := by
  unfold State.writeRef
  repeat' first
    | with_reducible exact Within.refl ..
    | with_reducible assumption
    | lift_lets
    | (intro x; refine Within.known (ps := [.regs, .clk]) (s := s) (x := x) ?_ ?_ <;> [(unfold x; clear x); (clear_value x; intro hx)])
    | (intro x; clear_value x)
    | with_reducible refine (State.setFld_in ..).thn (by decide) ?_
    | with_reducible refine (State.refuse_in ..).thn (by decide) ?_
    | with_reducible refine Within.foldl (fun _ _ _ => ?_) ?_
    | with_reducible refine Within.foldl1 (fun _ _ _ => ?_) ?_
    | with_reducible refine Within.foldl2 (fun _ _ _ => ?_) ?_
    | fail_if_no_progress with_reducible refine Within.upd_clk ?_ (by decide)
    | split
    | dsimp only

theorem State.portClaim_in (s : State) (p : Port) (o : Nat) : Within [.regs, .host] s (State.portClaim s p o) := by
  unfold State.portClaim
  repeat' first
    | with_reducible exact Within.refl ..
    | with_reducible assumption
    | lift_lets
    | (intro x; refine Within.known (ps := [.regs, .host]) (s := s) (x := x) ?_ ?_ <;> [(unfold x; clear x); (clear_value x; intro hx)])
    | (intro x; clear_value x)
    | with_reducible refine (State.setFld_in ..).thn (by decide) ?_
    | with_reducible refine (State.refuse_in ..).thn (by decide) ?_
    | fail_if_no_progress with_reducible refine Within.upd_host ?_ (by decide)
    | split
    | dsimp only

theorem State.actSys_in (s : State) (p : Port) (a : Nat) (v : Nat) : Within [.regs, .drafts, .chart, .latch, .grid, .eng, .stg, .clk, .adc, .pwm, .drv, .trp, .ctr, .mem, .twn, .sec, .snd, .sdc, .host, .boot] s (State.actSys s p a v) := by
  unfold State.actSys
  repeat' first
    | with_reducible exact Within.refl ..
    | with_reducible assumption
    | lift_lets
    | (intro x; refine Within.known (ps := [.regs, .drafts, .chart, .latch, .grid, .eng, .stg, .clk, .adc, .pwm, .drv, .trp, .ctr, .mem, .twn, .sec, .snd, .sdc, .host, .boot]) (s := s) (x := x) ?_ ?_ <;> [(unfold x; clear x); (clear_value x; intro hx)])
    | (intro x; clear_value x)
    | with_reducible refine (State.setLatch_in ..).thn (by decide) ?_
    | with_reducible refine (State.portClaim_in ..).thn (by decide) ?_
    | with_reducible refine (State.bootStart_in ..).thn (by decide) ?_
    | with_reducible refine (State.resetWrite_in ..).thn (by decide) ?_
    | with_reducible refine (State.standbyEnter_in ..).thn (by decide) ?_
    | with_reducible refine (State.standbyCancel_in ..).thn (by decide) ?_
    | split
    | dsimp only

theorem State.actStg_in (s : State) (p : Port) (a : Nat) (v : Nat) : Within [.regs, .drafts, .stg] s (State.actStg s p a v) := by
  unfold State.actStg
  repeat' first
    | with_reducible exact Within.refl ..
    | with_reducible assumption
    | lift_lets
    | (intro x; refine Within.known (ps := [.regs, .drafts, .stg]) (s := s) (x := x) ?_ ?_ <;> [(unfold x; clear x); (clear_value x; intro hx)])
    | (intro x; clear_value x)
    | with_reducible refine (State.survey_in ..).thn (by decide) ?_
    | with_reducible refine (State.commitGo_in ..).thn (by decide) ?_
    | with_reducible refine (State.draftDiscard_in ..).thn (by decide) ?_
    | with_reducible refine (State.cdraftClear_in ..).thn (by decide) ?_
    | with_reducible refine (State.cdraftAppend_in ..).thn (by decide) ?_
    | with_reducible refine (State.imageDiscard_in ..).thn (by decide) ?_
    | with_reducible refine (State.imageVerify_in ..).thn (by decide) ?_
    | with_reducible refine (State.setFld_in ..).thn (by decide) ?_
    | split
    | dsimp only

theorem State.actGfm_in (s : State) (p : Port) (a v : Nat) : Within [.regs, .grid, .adc, .snd] s (s.actGfm p a v) := by
  unfold State.actGfm
  extract_lets g by'
  have hb : ∀ b : State, Within [.regs, .grid, .adc, .snd] s b → Within [.regs, .grid, .adc, .snd] s (by' b) := by
    intro b h
    unfold by'
    exact Within.ite ((State.refuse_in ..).mono (by decide)) h
  clear_value g by'
  refine Within.ite ?_ (Within.ite ?_ (Within.ite ?_ ?_))
  · exact Within.ite ((State.groupStart_in ..).mono (by decide)) (hb _ ((State.beginStop_in ..).mono (by decide)))
  · exact hb _ (Within.ite ((State.syncArm_in ..).mono (by decide)) ((State.syncDisarm_in ..).mono (by decide)))
  · exact (State.hostClosed_in ..).mono (by decide)
  · generalize (firstIdx 6 fun k => (spField k g).addr == a) = o
    cases o with
    | none => exact Within.refl ..
    | some k => exact hb _ (Within.ite ((State.setpoint_in ..).mono (by decide)) ((State.secWrite_in ..).mono (by decide)))

theorem State.actGrt_in (s : State) (p : Port) (a : Nat) (v : Nat) : Within [.regs, .grid, .eng, .adc, .pwm, .ctr, .twn, .snd] s (State.actGrt s p a v) := by
  unfold State.actGrt
  repeat' first
    | with_reducible exact Within.refl ..
    | with_reducible assumption
    | lift_lets
    | (intro x; refine Within.known (ps := [.regs, .grid, .eng, .adc, .pwm, .ctr, .twn, .snd]) (s := s) (x := x) ?_ ?_ <;> [(unfold x; clear x); (clear_value x; intro hx)])
    | (intro x; clear_value x)
    | with_reducible refine (State.kick_in ..).thn (by decide) ?_
    | with_reducible refine (State.writeCtxEn_in ..).thn (by decide) ?_
    | split
    | dsimp only

theorem State.calWrite_in (s : State) (p : Port) (v : Nat) : Within [.regs, .drafts, .adc] s (State.calWrite s p v) := by
  unfold State.calWrite
  repeat' first
    | with_reducible exact Within.refl ..
    | with_reducible assumption
    | lift_lets
    | (intro x; refine Within.known (ps := [.regs, .drafts, .adc]) (s := s) (x := x) ?_ ?_ <;> [(unfold x; clear x); (clear_value x; intro hx)])
    | (intro x; clear_value x)
    | with_reducible refine (State.calFields_in ..).thn (by decide) ?_
    | with_reducible refine (State.refuse_in ..).thn (by decide) ?_
    | with_reducible refine (State.calDraft_in ..).thn (by decide) ?_
    | with_reducible refine (State.calMeasure_in ..).thn (by decide) ?_
    | split
    | dsimp only

theorem State.actAdc_in (s : State) (p : Port) (a : Nat) (v : Nat) : Within [.regs, .drafts, .adc] s (State.actAdc s p a v) := by
  unfold State.actAdc
  repeat' first
    | with_reducible exact Within.refl ..
    | with_reducible assumption
    | with_reducible refine (State.injectWord_in ..).thn (by decide) ?_
    | with_reducible refine (State.calWrite_in ..).thn (by decide) ?_
    | with_reducible refine (State.polWrite_in ..).thn (by decide) ?_
    | split
    | dsimp only

theorem State.runWrite_in (s : State) (p : Port) (k : Nat) (v : Nat) : Within [.regs] s (State.runWrite s p k v) := by
  unfold State.runWrite
  repeat' first
    | with_reducible exact Within.refl ..
    | with_reducible assumption
    | lift_lets
    | (intro x; refine Within.known (ps := [.regs]) (s := s) (x := x) ?_ ?_ <;> [(unfold x; clear x); (clear_value x; intro hx)])
    | (intro x; unfold x; clear x; try beta_reduce)
    | (intro x; clear_value x)
    | with_reducible refine (State.setFld_in ..).thn (by decide) ?_
    | with_reducible refine (State.refuse_in ..).thn (by decide) ?_
    | split
    | dsimp only

theorem State.actPwm_in (s : State) (p : Port) (a : Nat) (v : Nat) : Within [.regs] s (State.actPwm s p a v) := by
  unfold State.actPwm
  repeat' first
    | with_reducible exact Within.refl ..
    | with_reducible assumption
    | lift_lets
    | (intro x; refine Within.known (ps := [.regs]) (s := s) (x := x) ?_ ?_ <;> [(unfold x; clear x); (clear_value x; intro hx)])
    | (intro x; clear_value x)
    | with_reducible refine (State.runWrite_in ..).thn (by decide) ?_
    | split
    | dsimp only

theorem State.actTrp_in (s : State) (a : Nat) (v : Nat) : Within [.regs, .grid, .adc, .pwm, .trp, .ctr, .twn, .snd] s (State.actTrp s a v) := by
  unfold State.actTrp
  repeat' first
    | with_reducible exact Within.refl ..
    | with_reducible assumption
    | lift_lets
    | (intro x; refine Within.known (ps := [.regs, .grid, .adc, .pwm, .trp, .ctr, .twn, .snd]) (s := s) (x := x) ?_ ?_ <;> [(unfold x; clear x); (clear_value x; intro hx)])
    | (intro x; clear_value x)
    | with_reducible refine (State.softTrips_in ..).thn (by decide) ?_
    | with_reducible refine (State.clearTrips_in ..).thn (by decide) ?_
    | split
    | dsimp only

theorem State.actMem_in (s : State) (p : Port) (a : Nat) (v : Nat) : Within [.regs, .mem] s (State.actMem s p a v) := by
  unfold State.actMem
  repeat' first
    | with_reducible exact Within.refl ..
    | with_reducible assumption
    | lift_lets
    | (intro x; refine Within.known (ps := [.regs, .mem]) (s := s) (x := x) ?_ ?_ <;> [(unfold x; clear x); (clear_value x; intro hx)])
    | (intro x; clear_value x)
    | with_reducible refine (State.markDie_in ..).thn (by decide) ?_
    | with_reducible refine (State.unmarkDie_in ..).thn (by decide) ?_
    | with_reducible refine (State.errataWrite_in ..).thn (by decide) ?_
    | with_reducible refine (State.errataRemove_in ..).thn (by decide) ?_
    | with_reducible refine (State.refuse_in ..).thn (by decide) ?_
    | with_reducible refine (State.checkerGo_in ..).thn (by decide) ?_
    | split
    | dsimp only

theorem State.actDma_in (s : State) (p : Port) (a : Nat) (v : Nat) : Within [.regs, .mem] s (State.actDma s p a v) := by
  unfold State.actDma
  repeat' first
    | with_reducible exact Within.refl ..
    | with_reducible assumption
    | lift_lets
    | (intro x; refine Within.known (ps := [.regs, .mem]) (s := s) (x := x) ?_ ?_ <;> [(unfold x; clear x); (clear_value x; intro hx)])
    | (intro x; clear_value x)
    | with_reducible refine (State.copyStart_in ..).thn (by decide) ?_
    | with_reducible refine (State.dmaResume_in ..).thn (by decide) ?_
    | with_reducible refine (State.setDch_in ..).thn (by decide) ?_
    | with_reducible refine (State.setFld_in ..).thn (by decide) ?_
    | split
    | dsimp only

theorem State.actCtr_in (s : State) (p : Port) (a : Nat) (v : Nat) : Within [.regs, .ctr] s (State.actCtr s p a v) := by
  unfold State.actCtr
  repeat' first
    | with_reducible exact Within.refl ..
    | with_reducible assumption
    | lift_lets
    | (intro x; refine Within.known (ps := [.regs, .ctr]) (s := s) (x := x) ?_ ?_ <;> [(unfold x; clear x); (clear_value x; intro hx)])
    | (intro x; clear_value x)
    | with_reducible refine (State.armRecorder_in ..).thn (by decide) ?_
    | with_reducible refine (State.forceRecorder_in ..).thn (by decide) ?_
    | split
    | dsimp only

theorem State.actSnd_in (s : State) (p : Port) (a : Nat) (v : Nat) : Within [.regs, .adc, .snd] s (State.actSnd s p a v) := by
  unfold State.actSnd
  repeat' first
    | with_reducible exact Within.refl ..
    | with_reducible assumption
    | lift_lets
    | (intro x; refine Within.known (ps := [.regs, .adc, .snd]) (s := s) (x := x) ?_ ?_ <;> [(unfold x; clear x); (clear_value x; intro hx)])
    | (intro x; clear_value x)
    | with_reducible refine (State.tuneStart_in ..).thn (by decide) ?_
    | with_reducible refine (State.tuneAbort_in ..).thn (by decide) ?_
    | with_reducible refine (State.txGo_in ..).thn (by decide) ?_
    | with_reducible refine (State.txCancel_in ..).thn (by decide) ?_
    | with_reducible refine (State.setFld_in ..).thn (by decide) ?_
    | with_reducible refine (State.refuse_in ..).thn (by decide) ?_
    | split
    | dsimp only

theorem State.tampWrite_in (s : State) (p : Port) (v : Nat) : Within [.regs] s (State.tampWrite s p v) := by
  unfold State.tampWrite
  repeat' first
    | with_reducible exact Within.refl ..
    | with_reducible assumption
    | lift_lets
    | (intro x; refine Within.known (ps := [.regs]) (s := s) (x := x) ?_ ?_ <;> [(unfold x; clear x); (clear_value x; intro hx)])
    | (intro x; unfold x; clear x; try beta_reduce)
    | (intro x; clear_value x)
    | with_reducible refine (State.setFld_in ..).thn (by decide) ?_
    | with_reducible refine (State.refuse_in ..).thn (by decide) ?_
    | split
    | dsimp only

theorem State.actSec_in (s : State) (p : Port) (a : Nat) (v : Nat) : Within [.regs, .mem, .sec] s (State.actSec s p a v) := by
  unfold State.actSec
  repeat' first
    | with_reducible exact Within.refl ..
    | with_reducible assumption
    | with_reducible refine (State.tampWrite_in ..).thn (by decide) ?_
    | with_reducible refine (State.refuse_in ..).thn (by decide) ?_
    | with_reducible refine (State.setFld_in ..).thn (by decide) ?_
    | with_reducible refine (State.secGo_in ..).thn (by decide) ?_
    | with_reducible refine (State.patchLoad_in ..).thn (by decide) ?_
    | with_reducible refine (State.attGo_in ..).thn (by decide) ?_
    | with_reducible refine (State.rtcSet_in ..).thn (by decide) ?_
    | with_reducible refine (State.askSeal_in ..).thn (by decide) ?_
    | split
    | dsimp only

theorem State.regAct_in (s : State) (p : Port) (a : Nat) (v : Nat) : Within [.regs, .drafts, .chart, .latch, .grid, .eng, .stg, .clk, .adc, .pwm, .drv, .trp, .ctr, .mem, .twn, .sec, .snd, .sdc, .host, .boot] s (State.regAct s p a v) := by
  unfold State.regAct
  repeat' first
    | with_reducible exact Within.refl ..
    | with_reducible assumption
    | lift_lets
    | (intro x; refine Within.known (ps := [.regs, .drafts, .chart, .latch, .grid, .eng, .stg, .clk, .adc, .pwm, .drv, .trp, .ctr, .mem, .twn, .sec, .snd, .sdc, .host, .boot]) (s := s) (x := x) ?_ ?_ <;> [(unfold x; clear x); (clear_value x; intro hx)])
    | (intro x; clear_value x)
    | with_reducible refine (State.actSys_in ..).thn (by decide) ?_
    | with_reducible refine (State.bandClear_in ..).thn (by decide) ?_
    | with_reducible refine (State.actStg_in ..).thn (by decide) ?_
    | with_reducible refine (State.actGfm_in ..).thn (by decide) ?_
    | with_reducible refine (State.actGrt_in ..).thn (by decide) ?_
    | with_reducible refine (State.actAdc_in ..).thn (by decide) ?_
    | with_reducible refine (State.actPwm_in ..).thn (by decide) ?_
    | with_reducible refine (State.actTrp_in ..).thn (by decide) ?_
    | with_reducible refine (State.actMem_in ..).thn (by decide) ?_
    | with_reducible refine (State.actDma_in ..).thn (by decide) ?_
    | with_reducible refine (State.actCtr_in ..).thn (by decide) ?_
    | with_reducible refine (State.actSnd_in ..).thn (by decide) ?_
    | with_reducible refine (State.handover_in ..).thn (by decide) ?_
    | with_reducible refine (State.sdcReset_in ..).thn (by decide) ?_
    | with_reducible refine (State.actSec_in ..).thn (by decide) ?_
    | split
    | dsimp only

theorem State.regBody_in (s : State) (p : Port) (a : Nat) (v : Nat) : Within [.regs, .drafts, .chart, .latch, .grid, .eng, .stg, .clk, .adc, .pwm, .drv, .trp, .ctr, .mem, .twn, .sec, .snd, .sdc, .host, .boot] s (State.regBody s p a v) := by
  unfold State.regBody
  repeat' first
    | with_reducible exact Within.refl ..
    | with_reducible assumption
    | lift_lets
    | (intro x; refine Within.known (ps := [.regs, .drafts, .chart, .latch, .grid, .eng, .stg, .clk, .adc, .pwm, .drv, .trp, .ctr, .mem, .twn, .sec, .snd, .sdc, .host, .boot]) (s := s) (x := x) ?_ ?_ <;> [(unfold x; clear x); (clear_value x; intro hx)])
    | (intro x; clear_value x)
    | with_reducible refine (State.refuse_in ..).thn (by decide) ?_
    | with_reducible refine (State.writeRef_in ..).thn (by decide) ?_
    | with_reducible refine (State.writeFld_in ..).thn (by decide) ?_
    | with_reducible refine (State.writeD_in ..).thn (by decide) ?_
    | with_reducible refine (State.regAct_in ..).thn (by decide) ?_
    | with_reducible refine Within.foldl (fun _ _ _ => ?_) ?_
    | with_reducible refine Within.foldl1 (fun _ _ _ => ?_) ?_
    | with_reducible refine Within.foldl2 (fun _ _ _ => ?_) ?_
    | split
    | dsimp only

theorem State.writeWord_in (s : State) (p : Port) (a : Nat) (v : Nat) : Within [.regs, .drafts, .chart, .latch, .grid, .eng, .stg, .clk, .adc, .pwm, .drv, .trp, .ctr, .mem, .twn, .sec, .snd, .sdc, .host, .boot] s (State.writeWord s p a v) := by
  unfold State.writeWord
  repeat' first
    | with_reducible exact Within.refl ..
    | with_reducible assumption
    | with_reducible refine State.portWrite_in (by decide) (fun _ _ => ?_) ?_
    | with_reducible refine (State.regBody_in ..).thn (by decide) ?_
    | with_reducible refine (State.expertCell_in ..).thn (by decide) ?_
    | split
    | dsimp only

end Sys2Proof.Machine
end

