-- ==== Sys2Proof/Laws/InRegRead.lean ====
section
/-!
SUPPORT. What each operation of Machine/RegRead.lean can change: one lemma per operation.
-/

set_option linter.unusedTactic false
set_option linter.unreachableTactic false

namespace Sys2Proof.Machine

theorem State.readLatch_in (s : State) (p : Port) (a : Nat) : Within [.latch] s (State.readLatch s p a) := by
  unfold State.readLatch
  repeat' first
    | with_reducible exact Within.refl ..
    | with_reducible assumption
    | with_reducible refine (State.setLatch_in ..).thn (by decide) ?_
    | with_reducible refine Within.forIdx (fun _ _ _ => ?_) ?_
    | split
    | dsimp only

theorem State.readReg_in (s : State) (p : Port) (a : Nat) : Within [.latch] s (State.readReg s p a).1 := by
  unfold State.readReg
  repeat' first
    | with_reducible exact Within.refl ..
    | with_reducible assumption
    | with_reducible refine (State.readLatch_in ..).thn (by decide) ?_
    | with_reducible refine (State.drawFree_in ..).thn (by decide) ?_
    | split
    | dsimp only

theorem State.readCell_in (s : State) (a : Nat) : Within [.regs, .eng] s (State.readCell s a).1 := by
  unfold State.readCell
  extract_lets c o go
  have hg : ∀ m i, Within [.regs, .eng] s (go m i).1 := by
    intro m i
    unfold go
    exact State.eccRead_in ..
  clear_value c o go
  split
  · exact hg ..
  · split
    · exact hg ..
    · split
      · exact hg ..
      · exact Within.refl ..

theorem State.readWord_in (s : State) (p : Port) (a : Nat) : Within [.regs, .latch, .eng] s (State.readWord s p a).1 := by
  unfold State.readWord
  repeat' first
    | with_reducible exact Within.refl ..
    | with_reducible assumption
    | with_reducible refine (State.readReg_in ..).thn (by decide) ?_
    | with_reducible refine (State.readCell_in ..).thn (by decide) ?_
    | split
    | dsimp only

end Sys2Proof.Machine
end

