-- ==== Sys2Proof/Laws/InHostRows.lean ====
section
/-!
SUPPORT. What each operation of Machine/HostRows.lean can change: one lemma per operation.
-/

set_option linter.unusedTactic false
set_option linter.unreachableTactic false

namespace Sys2Proof.Machine

theorem State.frameErr_in (s : State) (p : Port) : Within [.regs, .host] s (State.frameErr s p) := by
  unfold State.frameErr
  repeat' first
    | with_reducible exact Within.refl ..
    | with_reducible assumption
    | lift_lets
    | (intro x; refine Within.known (ps := [.regs, .host]) (s := s) (x := x) ?_ ?_ <;> [(unfold x; clear x); (clear_value x; intro hx)])
    | (intro x; clear_value x)
    | with_reducible refine (State.raise_in ..).thn (by decide) ?_
    | with_reducible refine (State.count_in ..).thn (by decide) ?_
    | with_reducible refine (State.answer_in ..).thn (by decide) ?_
    | split
    | dsimp only

theorem State.goodFrame'_in (s : State) (p : Port) : Within [.host] s (State.goodFrame' s p) := by
  unfold State.goodFrame'
  repeat' first
    | with_reducible exact Within.refl ..
    | with_reducible assumption
    | lift_lets
    | (intro x; refine Within.known (ps := [.host]) (s := s) (x := x) ?_ ?_ <;> [(unfold x; clear x); (clear_value x; intro hx)])
    | (intro x; clear_value x)
    | fail_if_no_progress with_reducible refine Within.upd_host ?_ (by decide)
    | split
    | dsimp only

theorem State.serve_in (s : State) (p : Port) (write : Bool) (addrs : List Nat) (words : List Nat) : Within [.regs, .drafts, .chart, .latch, .grid, .eng, .stg, .clk, .adc, .pwm, .drv, .trp, .ctr, .mem, .twn, .sec, .snd, .sdc, .host, .boot] s (State.serve s p write addrs words) := by
  unfold State.serve
  repeat' first
    | with_reducible exact Within.refl ..
    | with_reducible assumption
    | lift_lets
    | (intro x; refine Within.known (ps := [.regs, .drafts, .chart, .latch, .grid, .eng, .stg, .clk, .adc, .pwm, .drv, .trp, .ctr, .mem, .twn, .sec, .snd, .sdc, .host, .boot]) (s := s) (x := x) ?_ ?_ <;> [(unfold x; clear x); (clear_value x; intro hx)])
    | (intro x; refine Within.known (ps := [.regs, .drafts, .chart, .latch, .grid, .eng, .stg, .clk, .adc, .pwm, .drv, .trp, .ctr, .mem, .twn, .sec, .snd, .sdc, .host, .boot]) (s := s) (x := x.1) ?_ ?_ <;> [(unfold x; clear x); (clear_value x; intro hx)])
    | (intro x; clear_value x)
    | with_reducible refine (State.refuse_in ..).thn (by decide) ?_
    | with_reducible refine (State.answer_in ..).thn (by decide) ?_
    | with_reducible refine (State.setPort_in ..).thn (by decide) ?_
    | with_reducible refine (State.winAccept_in ..).thn (by decide) ?_
    | with_reducible refine (State.writeWord_in ..).thn (by decide) ?_
    | with_reducible refine (State.readWord_in ..).thn (by decide) ?_
    | with_reducible refine Within.foldl (fun _ _ _ => ?_) ?_
    | with_reducible refine Within.foldl1 (fun _ _ _ => ?_) ?_
    | with_reducible refine Within.foldl2 (fun _ _ _ => ?_) ?_
    | fail_if_no_progress with_reducible refine Within.upd_refusedNow ?_
    | split
    | dsimp only

theorem State.frameCmd_in {ps : List Part} {s0 s : State} {p : Port} {c : Instr} {body : State → State}
    (hs : ∀ q ∈ [Part.host], q ∈ ps) (hb : ∀ u, Within ps s0 u → Within ps s0 (body u)) (h : Within ps s0 s) :
    Within ps s0 (s.frameCmd p c body) := by
  unfold State.frameCmd
  repeat' first
    | exact h
    | exact hb _ h
    | exact Within.upd_host h (hs _ (List.mem_singleton_self _))
    | split

theorem State.request_in (s : State) (p : Port) (write : Bool) (fixed : Bool) (addr : Nat) (n : Nat) (words : List Nat) (bytes : List Nat) (crc : Nat) : Within [.regs, .drafts, .chart, .latch, .grid, .eng, .stg, .clk, .adc, .pwm, .drv, .trp, .ctr, .mem, .twn, .sec, .snd, .sdc, .host, .boot] s (State.request s p write fixed addr n words bytes crc) := by
  unfold State.request
  repeat' first
    | with_reducible exact Within.refl ..
    | with_reducible assumption
    | lift_lets
    | (intro x; refine Within.known (ps := [.regs, .drafts, .chart, .latch, .grid, .eng, .stg, .clk, .adc, .pwm, .drv, .trp, .ctr, .mem, .twn, .sec, .snd, .sdc, .host, .boot]) (s := s) (x := x) ?_ ?_ <;> [(unfold x; clear x); (clear_value x; intro hx)])
    | (intro x; clear_value x)
    | with_reducible refine (State.frameErr_in ..).thn (by decide) ?_
    | with_reducible refine (State.goodFrame'_in ..).thn (by decide) ?_
    | with_reducible refine (State.abortFrame_in ..).thn (by decide) ?_
    | with_reducible refine (State.answer_in ..).thn (by decide) ?_
    | with_reducible refine (State.serve_in ..).thn (by decide) ?_
    | split
    | dsimp only

theorem State.hostWrite_in (s : State) (p : Port) (addr : Word) (words : List Word) (crc : BitVec 16) : Within [.regs, .drafts, .chart, .latch, .grid, .eng, .stg, .clk, .adc, .pwm, .drv, .trp, .ctr, .mem, .twn, .sec, .snd, .sdc, .host, .boot] s (State.hostWrite s p addr words crc) := by
  unfold State.hostWrite
  repeat' first
    | with_reducible exact Within.refl ..
    | with_reducible assumption
    | lift_lets
    | (intro x; refine Within.known (ps := [.regs, .drafts, .chart, .latch, .grid, .eng, .stg, .clk, .adc, .pwm, .drv, .trp, .ctr, .mem, .twn, .sec, .snd, .sdc, .host, .boot]) (s := s) (x := x) ?_ ?_ <;> [(unfold x; clear x); (clear_value x; intro hx)])
    | (intro x; clear_value x)
    | with_reducible refine (State.request_in ..).thn (by decide) ?_
    | split
    | dsimp only

theorem State.hostWriteFixed_in (s : State) (p : Port) (addr : Word) (words : List Word) (crc : BitVec 16) : Within [.regs, .drafts, .chart, .latch, .grid, .eng, .stg, .clk, .adc, .pwm, .drv, .trp, .ctr, .mem, .twn, .sec, .snd, .sdc, .host, .boot] s (State.hostWriteFixed s p addr words crc) := by
  unfold State.hostWriteFixed
  repeat' first
    | with_reducible exact Within.refl ..
    | with_reducible assumption
    | lift_lets
    | (intro x; refine Within.known (ps := [.regs, .drafts, .chart, .latch, .grid, .eng, .stg, .clk, .adc, .pwm, .drv, .trp, .ctr, .mem, .twn, .sec, .snd, .sdc, .host, .boot]) (s := s) (x := x) ?_ ?_ <;> [(unfold x; clear x); (clear_value x; intro hx)])
    | (intro x; clear_value x)
    | with_reducible refine (State.request_in ..).thn (by decide) ?_
    | split
    | dsimp only

theorem State.hostRead_in (s : State) (p : Port) (addr : Word) (n : Nat) (crc : BitVec 16) : Within [.regs, .drafts, .chart, .latch, .grid, .eng, .stg, .clk, .adc, .pwm, .drv, .trp, .ctr, .mem, .twn, .sec, .snd, .sdc, .host, .boot] s (State.hostRead s p addr n crc) := by
  unfold State.hostRead
  repeat' first
    | with_reducible exact Within.refl ..
    | with_reducible assumption
    | with_reducible refine (State.request_in ..).thn (by decide) ?_
    | split
    | dsimp only

theorem State.nop_in (s : State) (p : Port) (cmd : Nat) (len : Nat) (addr : Nat) (crc : Nat) : Within [.regs, .host] s (State.nop s p cmd len addr crc) := by
  unfold State.nop
  repeat' first
    | with_reducible exact Within.refl ..
    | with_reducible assumption
    | lift_lets
    | (intro x; refine Within.known (ps := [.regs, .host]) (s := s) (x := x) ?_ ?_ <;> [(unfold x; clear x); (clear_value x; intro hx)])
    | (intro x; clear_value x)
    | with_reducible refine (State.frameErr_in ..).thn (by decide) ?_
    | with_reducible refine (State.goodFrame'_in ..).thn (by decide) ?_
    | with_reducible refine (State.abortFrame_in ..).thn (by decide) ?_
    | with_reducible refine (State.answer_in ..).thn (by decide) ?_
    | split
    | dsimp only

theorem State.cutShort_in (s : State) (abandoned : Bool) : Within [.regs, .host] s (State.cutShort s abandoned) := by
  unfold State.cutShort
  repeat' first
    | with_reducible exact Within.refl ..
    | with_reducible assumption
    | lift_lets
    | (intro x; refine Within.known (ps := [.regs, .host]) (s := s) (x := x) ?_ ?_ <;> [(unfold x; clear x); (clear_value x; intro hx)])
    | (intro x; clear_value x)
    | with_reducible refine (State.setPort_in ..).thn (by decide) ?_
    | with_reducible refine (State.count_in ..).thn (by decide) ?_
    | with_reducible refine (State.raise_in ..).thn (by decide) ?_
    | split
    | dsimp only

theorem State.winTimeout_in (s : State) (p : Port) : Within [.regs, .mem, .host] s (State.winTimeout s p) := by
  unfold State.winTimeout
  repeat' first
    | with_reducible exact Within.refl ..
    | with_reducible assumption
    | lift_lets
    | (intro x; refine Within.known (ps := [.regs, .mem, .host]) (s := s) (x := x) ?_ ?_ <;> [(unfold x; clear x); (clear_value x; intro hx)])
    | (intro x; clear_value x)
    | with_reducible refine (State.winLost_in ..).thn (by decide) ?_
    | split
    | dsimp only

theorem State.silAct_in (s : State) : Within [.regs, .grid, .adc, .snd] s (State.silAct s) := by
  unfold State.silAct
  repeat' first
    | with_reducible exact Within.refl ..
    | with_reducible assumption
    | lift_lets
    | (intro x; refine Within.known (ps := [.regs, .grid, .adc, .snd]) (s := s) (x := x) ?_ ?_ <;> [(unfold x; clear x); (clear_value x; intro hx)])
    | (intro x; clear_value x)
    | with_reducible refine (State.setFld_in ..).thn (by decide) ?_
    | with_reducible refine (State.beginStop_in ..).thn (by decide) ?_
    | with_reducible refine Within.forIdx (fun _ _ _ => ?_) ?_
    | split
    | dsimp only

theorem State.silExpiry_in (s : State) : Within [.regs, .grid, .adc, .snd, .host] s (State.silExpiry s) := by
  unfold State.silExpiry
  repeat' first
    | with_reducible exact Within.refl ..
    | with_reducible assumption
    | lift_lets
    | (intro x; refine Within.known (ps := [.regs, .grid, .adc, .snd, .host]) (s := s) (x := x) ?_ ?_ <;> [(unfold x; clear x); (clear_value x; intro hx)])
    | (intro x; clear_value x)
    | with_reducible refine (State.raise_in ..).thn (by decide) ?_
    | with_reducible refine (State.setFld_in ..).thn (by decide) ?_
    | with_reducible refine (State.silAct_in ..).thn (by decide) ?_
    | fail_if_no_progress with_reducible refine Within.upd_host ?_ (by decide)
    | split
    | dsimp only

theorem State.readOne_in (s : State) (p : Port) (a : Nat) : Within [.regs, .latch, .eng, .host] s (State.readOne s p a) := by
  unfold State.readOne
  repeat' first
    | with_reducible exact Within.refl ..
    | with_reducible assumption
    | lift_lets
    | (intro x; refine Within.known (ps := [.regs, .latch, .eng, .host]) (s := s) (x := x) ?_ ?_ <;> [(unfold x; clear x); (clear_value x; intro hx)])
    | (intro x; refine Within.known (ps := [.regs, .latch, .eng, .host]) (s := s) (x := x.1) ?_ ?_ <;> [(unfold x; clear x); (clear_value x; intro hx)])
    | (intro x; clear_value x)
    | with_reducible refine (State.answer_in ..).thn (by decide) ?_
    | with_reducible refine (State.readWord_in ..).thn (by decide) ?_
    | split
    | dsimp only

theorem State.frameBody_in (s : State) (c : Instr) : Within [.regs, .drafts, .chart, .latch, .grid, .eng, .stg, .clk, .adc, .pwm, .drv, .trp, .ctr, .mem, .twn, .sec, .snd, .sdc, .host, .boot] s (State.frameBody s c) := by
  unfold State.frameBody
  repeat' first
    | with_reducible exact Within.refl ..
    | with_reducible assumption
    | lift_lets
    | (intro x; refine Within.known (ps := [.regs, .drafts, .chart, .latch, .grid, .eng, .stg, .clk, .adc, .pwm, .drv, .trp, .ctr, .mem, .twn, .sec, .snd, .sdc, .host, .boot]) (s := s) (x := x) ?_ ?_ <;> [(unfold x; clear x); (clear_value x; intro hx)])
    | (intro x; clear_value x)
    | with_reducible refine (State.hostWrite_in ..).thn (by decide) ?_
    | with_reducible refine (State.hostWriteFixed_in ..).thn (by decide) ?_
    | with_reducible refine (State.hostRead_in ..).thn (by decide) ?_
    | with_reducible refine (State.nop_in ..).thn (by decide) ?_
    | with_reducible refine (State.readOne_in ..).thn (by decide) ?_
    | split
    | dsimp only

theorem State.svcNext_in (s : State) : Within [.regs, .drafts, .chart, .latch, .grid, .eng, .stg, .clk, .adc, .pwm, .drv, .trp, .ctr, .mem, .twn, .sec, .snd, .sdc, .host, .boot] s (State.svcNext s) := by
  unfold State.svcNext
  repeat' first
    | with_reducible exact Within.refl ..
    | with_reducible assumption
    | lift_lets
    | (intro x; refine Within.known (ps := [.regs, .drafts, .chart, .latch, .grid, .eng, .stg, .clk, .adc, .pwm, .drv, .trp, .ctr, .mem, .twn, .sec, .snd, .sdc, .host, .boot]) (s := s) (x := x) ?_ ?_ <;> [(unfold x; clear x); (clear_value x; intro hx)])
    | (intro x; clear_value x)
    | with_reducible refine (State.frameBody_in ..).thn (by decide) ?_
    | fail_if_no_progress with_reducible refine Within.upd_host ?_ (by decide)
    | split
    | dsimp only

end Sys2Proof.Machine
end

