-- ==== Sys2Proof/Laws/InTickOps.lean ====
section
/-!
SUPPORT. What each operation of Machine/TickOps.lean can change: one lemma per operation.
-/

set_option linter.unusedTactic false
set_option linter.unreachableTactic false

namespace Sys2Proof.Machine

theorem State.islandTick_in (s : State) : Within [.sec, .boot] s (State.islandTick s) := by
  unfold State.islandTick
  repeat' first
    | with_reducible exact Within.refl ..
    | with_reducible assumption
    | lift_lets
    | (intro x; refine Within.known (ps := [.sec, .boot]) (s := s) (x := x) ?_ ?_ <;> [(unfold x; clear x); (clear_value x; intro hx)])
    | (intro x; clear_value x)
    | fail_if_no_progress with_reducible refine Within.upd_boot ?_ (by decide)
    | fail_if_no_progress with_reducible refine Within.upd_sec_boot ?_ (by decide) (by decide)
    | split
    | dsimp only

theorem State.refWait_in (s : State) : Within [.boot] s (State.refWait s) := by
  unfold State.refWait
  repeat' first
    | with_reducible exact Within.refl ..
    | with_reducible assumption
    | lift_lets
    | (intro x; refine Within.known (ps := [.boot]) (s := s) (x := x) ?_ ?_ <;> [(unfold x; clear x); (clear_value x; intro hx)])
    | (intro x; clear_value x)
    | fail_if_no_progress with_reducible refine Within.upd_boot ?_ (by decide)
    | split
    | dsimp only

theorem State.clearCycle_in (s : State) : Within [.eng, .trp] s (State.clearCycle s) := by
  unfold State.clearCycle
  repeat' first
    | with_reducible exact Within.refl ..
    | with_reducible assumption
    | lift_lets
    | (intro x; refine Within.known (ps := [.eng, .trp]) (s := s) (x := x) ?_ ?_ <;> [(unfold x; clear x); (clear_value x; intro hx)])
    | (intro x; clear_value x)
    | fail_if_no_progress with_reducible refine Within.upd_evNow_refusedNow_wrNow_expertStart_eng_trp ?_ (by decide) (by decide)
    | split
    | dsimp only

theorem State.passCycle_in (s : State) : Within [.chart, .eng] s (State.passCycle s) := by
  unfold State.passCycle
  repeat' first
    | with_reducible exact Within.refl ..
    | with_reducible assumption
    | lift_lets
    | (intro x; refine Within.known (ps := [.chart, .eng]) (s := s) (x := x) ?_ ?_ <;> [(unfold x; clear x); (clear_value x; intro hx)])
    | (intro x; clear_value x)
    | fail_if_no_progress with_reducible refine Within.upd_chart_eng ?_ (by decide) (by decide)
    | split
    | dsimp only

theorem State.tick_in (s : State) : Within [.regs, .drafts, .chart, .latch, .grid, .eng, .stg, .clk, .adc, .pwm, .drv, .trp, .ctr, .mem, .twn, .sec, .snd, .sdc, .host, .boot] s (State.tick s) := by
  unfold State.tick
  repeat' first
    | with_reducible exact Within.refl ..
    | with_reducible assumption
    | lift_lets
    | (intro x; refine Within.known (ps := [.regs, .drafts, .chart, .latch, .grid, .eng, .stg, .clk, .adc, .pwm, .drv, .trp, .ctr, .mem, .twn, .sec, .snd, .sdc, .host, .boot]) (s := s) (x := x) ?_ ?_ <;> [(unfold x; clear x); (clear_value x; intro hx)])
    | (intro x; clear_value x)
    | with_reducible refine (State.islandTick_in ..).thn (by decide) ?_
    | with_reducible refine (State.noteDrain_in ..).thn (by decide) ?_
    | with_reducible refine (State.refWait_in ..).thn (by decide) ?_
    | with_reducible refine (State.passCycle_in ..).thn (by decide) ?_
    | with_reducible refine (State.clearCycle_in ..).thn (by decide) ?_
    | with_reducible refine (State.takePwm_in ..).thn (by decide) ?_
    | with_reducible refine (State.runEdges_in ..).thn (by decide) ?_
    | with_reducible refine (State.holdSinks_in ..).thn (by decide) ?_
    | with_reducible refine (State.noteDigests_in ..).thn (by decide) ?_
    | with_reducible refine (State.loadNext_in ..).thn (by decide) ?_
    | with_reducible refine (State.secNext_in ..).thn (by decide) ?_
    | with_reducible refine (State.svcNext_in ..).thn (by decide) ?_
    | with_reducible refine (State.logNext_in ..).thn (by decide) ?_
    | fail_if_no_progress with_reducible refine Within.upd_boot ?_ (by decide)
    | split
    | dsimp only

end Sys2Proof.Machine
end

