-- ==== Sys2Proof/Laws/State.lean ====
section
/-!
SUPPORT. What the updates of State leave as it is, one lemma for each field and update, and what a read gives after a write.
-/

namespace Sys2Proof.Machine

variable (s : State)

section setFld
variable (f : Fld) (v : Nat)
@[simp] theorem State.setFld_pending : (s.setFld f v).pending = s.pending := rfl
@[simp] theorem State.setFld_chart : (s.setFld f v).chart = s.chart := rfl
@[simp] theorem State.setFld_evNow : (s.setFld f v).evNow = s.evNow := rfl
@[simp] theorem State.setFld_latch : (s.setFld f v).latch = s.latch := rfl
@[simp] theorem State.setFld_refusedNow : (s.setFld f v).refusedNow = s.refusedNow := rfl
@[simp] theorem State.setFld_wrNow : (s.setFld f v).wrNow = s.wrNow := rfl
@[simp] theorem State.setFld_expertStart : (s.setFld f v).expertStart = s.expertStart := rfl
@[simp] theorem State.setFld_free : (s.setFld f v).free = s.free := rfl
@[simp] theorem State.setFld_grid : (s.setFld f v).grid = s.grid := rfl
@[simp] theorem State.setFld_eng : (s.setFld f v).eng = s.eng := rfl
@[simp] theorem State.setFld_stg : (s.setFld f v).stg = s.stg := rfl
@[simp] theorem State.setFld_clk : (s.setFld f v).clk = s.clk := rfl
@[simp] theorem State.setFld_adc : (s.setFld f v).adc = s.adc := rfl
@[simp] theorem State.setFld_pwm : (s.setFld f v).pwm = s.pwm := rfl
@[simp] theorem State.setFld_drv : (s.setFld f v).drv = s.drv := rfl
@[simp] theorem State.setFld_trp : (s.setFld f v).trp = s.trp := rfl
@[simp] theorem State.setFld_ctr : (s.setFld f v).ctr = s.ctr := rfl
@[simp] theorem State.setFld_mem : (s.setFld f v).mem = s.mem := rfl
@[simp] theorem State.setFld_twn : (s.setFld f v).twn = s.twn := rfl
@[simp] theorem State.setFld_sec : (s.setFld f v).sec = s.sec := rfl
@[simp] theorem State.setFld_snd : (s.setFld f v).snd = s.snd := rfl
@[simp] theorem State.setFld_sdc : (s.setFld f v).sdc = s.sdc := rfl
@[simp] theorem State.setFld_host : (s.setFld f v).host = s.host := rfl
@[simp] theorem State.setFld_boot : (s.setFld f v).boot = s.boot := rfl
end setFld

section setSfld
variable (f : Fld) (v : Int)
@[simp] theorem State.setSfld_pending : (s.setSfld f v).pending = s.pending := rfl
@[simp] theorem State.setSfld_chart : (s.setSfld f v).chart = s.chart := rfl
@[simp] theorem State.setSfld_evNow : (s.setSfld f v).evNow = s.evNow := rfl
@[simp] theorem State.setSfld_latch : (s.setSfld f v).latch = s.latch := rfl
@[simp] theorem State.setSfld_refusedNow : (s.setSfld f v).refusedNow = s.refusedNow := rfl
@[simp] theorem State.setSfld_wrNow : (s.setSfld f v).wrNow = s.wrNow := rfl
@[simp] theorem State.setSfld_expertStart : (s.setSfld f v).expertStart = s.expertStart := rfl
@[simp] theorem State.setSfld_free : (s.setSfld f v).free = s.free := rfl
@[simp] theorem State.setSfld_grid : (s.setSfld f v).grid = s.grid := rfl
@[simp] theorem State.setSfld_eng : (s.setSfld f v).eng = s.eng := rfl
@[simp] theorem State.setSfld_stg : (s.setSfld f v).stg = s.stg := rfl
@[simp] theorem State.setSfld_clk : (s.setSfld f v).clk = s.clk := rfl
@[simp] theorem State.setSfld_adc : (s.setSfld f v).adc = s.adc := rfl
@[simp] theorem State.setSfld_pwm : (s.setSfld f v).pwm = s.pwm := rfl
@[simp] theorem State.setSfld_drv : (s.setSfld f v).drv = s.drv := rfl
@[simp] theorem State.setSfld_trp : (s.setSfld f v).trp = s.trp := rfl
@[simp] theorem State.setSfld_ctr : (s.setSfld f v).ctr = s.ctr := rfl
@[simp] theorem State.setSfld_mem : (s.setSfld f v).mem = s.mem := rfl
@[simp] theorem State.setSfld_twn : (s.setSfld f v).twn = s.twn := rfl
@[simp] theorem State.setSfld_sec : (s.setSfld f v).sec = s.sec := rfl
@[simp] theorem State.setSfld_snd : (s.setSfld f v).snd = s.snd := rfl
@[simp] theorem State.setSfld_sdc : (s.setSfld f v).sdc = s.sdc := rfl
@[simp] theorem State.setSfld_host : (s.setSfld f v).host = s.host := rfl
@[simp] theorem State.setSfld_boot : (s.setSfld f v).boot = s.boot := rfl
end setSfld

section note
variable (k : Nat)
@[simp] theorem State.note_pending : (s.note k).pending = s.pending := rfl
@[simp] theorem State.note_chart : (s.note k).chart = s.chart := rfl
@[simp] theorem State.note_regs : (s.note k).regs = s.regs := rfl
@[simp] theorem State.note_latch : (s.note k).latch = s.latch := rfl
@[simp] theorem State.note_refusedNow : (s.note k).refusedNow = s.refusedNow := rfl
@[simp] theorem State.note_wrNow : (s.note k).wrNow = s.wrNow := rfl
@[simp] theorem State.note_expertStart : (s.note k).expertStart = s.expertStart := rfl
@[simp] theorem State.note_free : (s.note k).free = s.free := rfl
@[simp] theorem State.note_grid : (s.note k).grid = s.grid := rfl
@[simp] theorem State.note_eng : (s.note k).eng = s.eng := rfl
@[simp] theorem State.note_stg : (s.note k).stg = s.stg := rfl
@[simp] theorem State.note_clk : (s.note k).clk = s.clk := rfl
@[simp] theorem State.note_adc : (s.note k).adc = s.adc := rfl
@[simp] theorem State.note_pwm : (s.note k).pwm = s.pwm := rfl
@[simp] theorem State.note_drv : (s.note k).drv = s.drv := rfl
@[simp] theorem State.note_trp : (s.note k).trp = s.trp := rfl
@[simp] theorem State.note_ctr : (s.note k).ctr = s.ctr := rfl
@[simp] theorem State.note_mem : (s.note k).mem = s.mem := rfl
@[simp] theorem State.note_twn : (s.note k).twn = s.twn := rfl
@[simp] theorem State.note_sec : (s.note k).sec = s.sec := rfl
@[simp] theorem State.note_snd : (s.note k).snd = s.snd := rfl
@[simp] theorem State.note_sdc : (s.note k).sdc = s.sdc := rfl
@[simp] theorem State.note_host : (s.note k).host = s.host := rfl
@[simp] theorem State.note_boot : (s.note k).boot = s.boot := rfl
end note

section raiseBit
variable (f : Fld) (b : Nat)
@[simp] theorem State.raiseBit_pending : (s.raiseBit f b).pending = s.pending := rfl
@[simp] theorem State.raiseBit_chart : (s.raiseBit f b).chart = s.chart := rfl
@[simp] theorem State.raiseBit_latch : (s.raiseBit f b).latch = s.latch := rfl
@[simp] theorem State.raiseBit_refusedNow : (s.raiseBit f b).refusedNow = s.refusedNow := rfl
@[simp] theorem State.raiseBit_wrNow : (s.raiseBit f b).wrNow = s.wrNow := rfl
@[simp] theorem State.raiseBit_expertStart : (s.raiseBit f b).expertStart = s.expertStart := rfl
@[simp] theorem State.raiseBit_free : (s.raiseBit f b).free = s.free := rfl
@[simp] theorem State.raiseBit_grid : (s.raiseBit f b).grid = s.grid := rfl
@[simp] theorem State.raiseBit_eng : (s.raiseBit f b).eng = s.eng := rfl
@[simp] theorem State.raiseBit_stg : (s.raiseBit f b).stg = s.stg := rfl
@[simp] theorem State.raiseBit_clk : (s.raiseBit f b).clk = s.clk := rfl
@[simp] theorem State.raiseBit_adc : (s.raiseBit f b).adc = s.adc := rfl
@[simp] theorem State.raiseBit_pwm : (s.raiseBit f b).pwm = s.pwm := rfl
@[simp] theorem State.raiseBit_drv : (s.raiseBit f b).drv = s.drv := rfl
@[simp] theorem State.raiseBit_trp : (s.raiseBit f b).trp = s.trp := rfl
@[simp] theorem State.raiseBit_ctr : (s.raiseBit f b).ctr = s.ctr := rfl
@[simp] theorem State.raiseBit_mem : (s.raiseBit f b).mem = s.mem := rfl
@[simp] theorem State.raiseBit_twn : (s.raiseBit f b).twn = s.twn := rfl
@[simp] theorem State.raiseBit_sec : (s.raiseBit f b).sec = s.sec := rfl
@[simp] theorem State.raiseBit_snd : (s.raiseBit f b).snd = s.snd := rfl
@[simp] theorem State.raiseBit_sdc : (s.raiseBit f b).sdc = s.sdc := rfl
@[simp] theorem State.raiseBit_host : (s.raiseBit f b).host = s.host := rfl
@[simp] theorem State.raiseBit_boot : (s.raiseBit f b).boot = s.boot := rfl
end raiseBit

section raise
variable (f : Fld)
@[simp] theorem State.raise_pending : (s.raise f).pending = s.pending := rfl
@[simp] theorem State.raise_chart : (s.raise f).chart = s.chart := rfl
@[simp] theorem State.raise_latch : (s.raise f).latch = s.latch := rfl
@[simp] theorem State.raise_refusedNow : (s.raise f).refusedNow = s.refusedNow := rfl
@[simp] theorem State.raise_wrNow : (s.raise f).wrNow = s.wrNow := rfl
@[simp] theorem State.raise_expertStart : (s.raise f).expertStart = s.expertStart := rfl
@[simp] theorem State.raise_free : (s.raise f).free = s.free := rfl
@[simp] theorem State.raise_grid : (s.raise f).grid = s.grid := rfl
@[simp] theorem State.raise_eng : (s.raise f).eng = s.eng := rfl
@[simp] theorem State.raise_stg : (s.raise f).stg = s.stg := rfl
@[simp] theorem State.raise_clk : (s.raise f).clk = s.clk := rfl
@[simp] theorem State.raise_adc : (s.raise f).adc = s.adc := rfl
@[simp] theorem State.raise_pwm : (s.raise f).pwm = s.pwm := rfl
@[simp] theorem State.raise_drv : (s.raise f).drv = s.drv := rfl
@[simp] theorem State.raise_trp : (s.raise f).trp = s.trp := rfl
@[simp] theorem State.raise_ctr : (s.raise f).ctr = s.ctr := rfl
@[simp] theorem State.raise_mem : (s.raise f).mem = s.mem := rfl
@[simp] theorem State.raise_twn : (s.raise f).twn = s.twn := rfl
@[simp] theorem State.raise_sec : (s.raise f).sec = s.sec := rfl
@[simp] theorem State.raise_snd : (s.raise f).snd = s.snd := rfl
@[simp] theorem State.raise_sdc : (s.raise f).sdc = s.sdc := rfl
@[simp] theorem State.raise_host : (s.raise f).host = s.host := rfl
@[simp] theorem State.raise_boot : (s.raise f).boot = s.boot := rfl
end raise

section count
variable (f : Fld)
@[simp] theorem State.count_pending : (s.count f).pending = s.pending := rfl
@[simp] theorem State.count_chart : (s.count f).chart = s.chart := rfl
@[simp] theorem State.count_latch : (s.count f).latch = s.latch := rfl
@[simp] theorem State.count_refusedNow : (s.count f).refusedNow = s.refusedNow := rfl
@[simp] theorem State.count_wrNow : (s.count f).wrNow = s.wrNow := rfl
@[simp] theorem State.count_expertStart : (s.count f).expertStart = s.expertStart := rfl
@[simp] theorem State.count_free : (s.count f).free = s.free := rfl
@[simp] theorem State.count_grid : (s.count f).grid = s.grid := rfl
@[simp] theorem State.count_eng : (s.count f).eng = s.eng := rfl
@[simp] theorem State.count_stg : (s.count f).stg = s.stg := rfl
@[simp] theorem State.count_clk : (s.count f).clk = s.clk := rfl
@[simp] theorem State.count_adc : (s.count f).adc = s.adc := rfl
@[simp] theorem State.count_pwm : (s.count f).pwm = s.pwm := rfl
@[simp] theorem State.count_drv : (s.count f).drv = s.drv := rfl
@[simp] theorem State.count_trp : (s.count f).trp = s.trp := rfl
@[simp] theorem State.count_ctr : (s.count f).ctr = s.ctr := rfl
@[simp] theorem State.count_mem : (s.count f).mem = s.mem := rfl
@[simp] theorem State.count_twn : (s.count f).twn = s.twn := rfl
@[simp] theorem State.count_sec : (s.count f).sec = s.sec := rfl
@[simp] theorem State.count_snd : (s.count f).snd = s.snd := rfl
@[simp] theorem State.count_sdc : (s.count f).sdc = s.sdc := rfl
@[simp] theorem State.count_host : (s.count f).host = s.host := rfl
@[simp] theorem State.count_boot : (s.count f).boot = s.boot := rfl
end count

section mark
variable (k : Nat)
@[simp] theorem State.mark_pending : (s.mark k).pending = s.pending := rfl
@[simp] theorem State.mark_chart : (s.mark k).chart = s.chart := rfl
@[simp] theorem State.mark_regs : (s.mark k).regs = s.regs := rfl
@[simp] theorem State.mark_latch : (s.mark k).latch = s.latch := rfl
@[simp] theorem State.mark_refusedNow : (s.mark k).refusedNow = s.refusedNow := rfl
@[simp] theorem State.mark_wrNow : (s.mark k).wrNow = s.wrNow := rfl
@[simp] theorem State.mark_expertStart : (s.mark k).expertStart = s.expertStart := rfl
@[simp] theorem State.mark_free : (s.mark k).free = s.free := rfl
@[simp] theorem State.mark_grid : (s.mark k).grid = s.grid := rfl
@[simp] theorem State.mark_eng : (s.mark k).eng = s.eng := rfl
@[simp] theorem State.mark_stg : (s.mark k).stg = s.stg := rfl
@[simp] theorem State.mark_clk : (s.mark k).clk = s.clk := rfl
@[simp] theorem State.mark_adc : (s.mark k).adc = s.adc := rfl
@[simp] theorem State.mark_pwm : (s.mark k).pwm = s.pwm := rfl
@[simp] theorem State.mark_drv : (s.mark k).drv = s.drv := rfl
@[simp] theorem State.mark_trp : (s.mark k).trp = s.trp := rfl
@[simp] theorem State.mark_ctr : (s.mark k).ctr = s.ctr := rfl
@[simp] theorem State.mark_mem : (s.mark k).mem = s.mem := rfl
@[simp] theorem State.mark_twn : (s.mark k).twn = s.twn := rfl
@[simp] theorem State.mark_sec : (s.mark k).sec = s.sec := rfl
@[simp] theorem State.mark_snd : (s.mark k).snd = s.snd := rfl
@[simp] theorem State.mark_sdc : (s.mark k).sdc = s.sdc := rfl
@[simp] theorem State.mark_host : (s.mark k).host = s.host := rfl
@[simp] theorem State.mark_boot : (s.mark k).boot = s.boot := rfl
end mark

section stamp
variable (lo hi : Fld) (v : Nat)
@[simp] theorem State.stamp_pending : (s.stamp lo hi v).pending = s.pending := rfl
@[simp] theorem State.stamp_chart : (s.stamp lo hi v).chart = s.chart := rfl
@[simp] theorem State.stamp_evNow : (s.stamp lo hi v).evNow = s.evNow := rfl
@[simp] theorem State.stamp_latch : (s.stamp lo hi v).latch = s.latch := rfl
@[simp] theorem State.stamp_refusedNow : (s.stamp lo hi v).refusedNow = s.refusedNow := rfl
@[simp] theorem State.stamp_wrNow : (s.stamp lo hi v).wrNow = s.wrNow := rfl
@[simp] theorem State.stamp_expertStart : (s.stamp lo hi v).expertStart = s.expertStart := rfl
@[simp] theorem State.stamp_free : (s.stamp lo hi v).free = s.free := rfl
@[simp] theorem State.stamp_grid : (s.stamp lo hi v).grid = s.grid := rfl
@[simp] theorem State.stamp_eng : (s.stamp lo hi v).eng = s.eng := rfl
@[simp] theorem State.stamp_stg : (s.stamp lo hi v).stg = s.stg := rfl
@[simp] theorem State.stamp_clk : (s.stamp lo hi v).clk = s.clk := rfl
@[simp] theorem State.stamp_adc : (s.stamp lo hi v).adc = s.adc := rfl
@[simp] theorem State.stamp_pwm : (s.stamp lo hi v).pwm = s.pwm := rfl
@[simp] theorem State.stamp_drv : (s.stamp lo hi v).drv = s.drv := rfl
@[simp] theorem State.stamp_trp : (s.stamp lo hi v).trp = s.trp := rfl
@[simp] theorem State.stamp_ctr : (s.stamp lo hi v).ctr = s.ctr := rfl
@[simp] theorem State.stamp_mem : (s.stamp lo hi v).mem = s.mem := rfl
@[simp] theorem State.stamp_twn : (s.stamp lo hi v).twn = s.twn := rfl
@[simp] theorem State.stamp_sec : (s.stamp lo hi v).sec = s.sec := rfl
@[simp] theorem State.stamp_snd : (s.stamp lo hi v).snd = s.snd := rfl
@[simp] theorem State.stamp_sdc : (s.stamp lo hi v).sdc = s.sdc := rfl
@[simp] theorem State.stamp_host : (s.stamp lo hi v).host = s.host := rfl
@[simp] theorem State.stamp_boot : (s.stamp lo hi v).boot = s.boot := rfl
end stamp

section refuse
variable (p : Port) (a : Nat)
@[simp] theorem State.refuse_pending : (s.refuse p a).pending = s.pending := rfl
@[simp] theorem State.refuse_chart : (s.refuse p a).chart = s.chart := rfl
@[simp] theorem State.refuse_latch : (s.refuse p a).latch = s.latch := rfl
@[simp] theorem State.refuse_wrNow : (s.refuse p a).wrNow = s.wrNow := rfl
@[simp] theorem State.refuse_expertStart : (s.refuse p a).expertStart = s.expertStart := rfl
@[simp] theorem State.refuse_free : (s.refuse p a).free = s.free := rfl
@[simp] theorem State.refuse_grid : (s.refuse p a).grid = s.grid := rfl
@[simp] theorem State.refuse_eng : (s.refuse p a).eng = s.eng := rfl
@[simp] theorem State.refuse_stg : (s.refuse p a).stg = s.stg := rfl
@[simp] theorem State.refuse_clk : (s.refuse p a).clk = s.clk := rfl
@[simp] theorem State.refuse_adc : (s.refuse p a).adc = s.adc := rfl
@[simp] theorem State.refuse_pwm : (s.refuse p a).pwm = s.pwm := rfl
@[simp] theorem State.refuse_drv : (s.refuse p a).drv = s.drv := rfl
@[simp] theorem State.refuse_trp : (s.refuse p a).trp = s.trp := rfl
@[simp] theorem State.refuse_ctr : (s.refuse p a).ctr = s.ctr := rfl
@[simp] theorem State.refuse_mem : (s.refuse p a).mem = s.mem := rfl
@[simp] theorem State.refuse_twn : (s.refuse p a).twn = s.twn := rfl
@[simp] theorem State.refuse_sec : (s.refuse p a).sec = s.sec := rfl
@[simp] theorem State.refuse_snd : (s.refuse p a).snd = s.snd := rfl
@[simp] theorem State.refuse_sdc : (s.refuse p a).sdc = s.sdc := rfl
@[simp] theorem State.refuse_host : (s.refuse p a).host = s.host := rfl
@[simp] theorem State.refuse_boot : (s.refuse p a).boot = s.boot := rfl
end refuse

section draftFld
variable (f : Fld) (v : Nat)
@[simp] theorem State.draftFld_pending : (s.draftFld f v).pending = s.pending := rfl
@[simp] theorem State.draftFld_chart : (s.draftFld f v).chart = s.chart := rfl
@[simp] theorem State.draftFld_evNow : (s.draftFld f v).evNow = s.evNow := rfl
@[simp] theorem State.draftFld_latch : (s.draftFld f v).latch = s.latch := rfl
@[simp] theorem State.draftFld_refusedNow : (s.draftFld f v).refusedNow = s.refusedNow := rfl
@[simp] theorem State.draftFld_wrNow : (s.draftFld f v).wrNow = s.wrNow := rfl
@[simp] theorem State.draftFld_expertStart : (s.draftFld f v).expertStart = s.expertStart := rfl
@[simp] theorem State.draftFld_free : (s.draftFld f v).free = s.free := rfl
@[simp] theorem State.draftFld_grid : (s.draftFld f v).grid = s.grid := rfl
@[simp] theorem State.draftFld_eng : (s.draftFld f v).eng = s.eng := rfl
@[simp] theorem State.draftFld_stg : (s.draftFld f v).stg = s.stg := rfl
@[simp] theorem State.draftFld_clk : (s.draftFld f v).clk = s.clk := rfl
@[simp] theorem State.draftFld_adc : (s.draftFld f v).adc = s.adc := rfl
@[simp] theorem State.draftFld_pwm : (s.draftFld f v).pwm = s.pwm := rfl
@[simp] theorem State.draftFld_drv : (s.draftFld f v).drv = s.drv := rfl
@[simp] theorem State.draftFld_trp : (s.draftFld f v).trp = s.trp := rfl
@[simp] theorem State.draftFld_ctr : (s.draftFld f v).ctr = s.ctr := rfl
@[simp] theorem State.draftFld_mem : (s.draftFld f v).mem = s.mem := rfl
@[simp] theorem State.draftFld_twn : (s.draftFld f v).twn = s.twn := rfl
@[simp] theorem State.draftFld_sec : (s.draftFld f v).sec = s.sec := rfl
@[simp] theorem State.draftFld_snd : (s.draftFld f v).snd = s.snd := rfl
@[simp] theorem State.draftFld_sdc : (s.draftFld f v).sdc = s.sdc := rfl
@[simp] theorem State.draftFld_host : (s.draftFld f v).host = s.host := rfl
@[simp] theorem State.draftFld_boot : (s.draftFld f v).boot = s.boot := rfl
end draftFld

section setLatch
variable (p : Port) (a v : Nat)
@[simp] theorem State.setLatch_pending : (s.setLatch p a v).pending = s.pending := rfl
@[simp] theorem State.setLatch_chart : (s.setLatch p a v).chart = s.chart := rfl
@[simp] theorem State.setLatch_regs : (s.setLatch p a v).regs = s.regs := rfl
@[simp] theorem State.setLatch_evNow : (s.setLatch p a v).evNow = s.evNow := rfl
@[simp] theorem State.setLatch_refusedNow : (s.setLatch p a v).refusedNow = s.refusedNow := rfl
@[simp] theorem State.setLatch_wrNow : (s.setLatch p a v).wrNow = s.wrNow := rfl
@[simp] theorem State.setLatch_expertStart : (s.setLatch p a v).expertStart = s.expertStart := rfl
@[simp] theorem State.setLatch_free : (s.setLatch p a v).free = s.free := rfl
@[simp] theorem State.setLatch_grid : (s.setLatch p a v).grid = s.grid := rfl
@[simp] theorem State.setLatch_eng : (s.setLatch p a v).eng = s.eng := rfl
@[simp] theorem State.setLatch_stg : (s.setLatch p a v).stg = s.stg := rfl
@[simp] theorem State.setLatch_clk : (s.setLatch p a v).clk = s.clk := rfl
@[simp] theorem State.setLatch_adc : (s.setLatch p a v).adc = s.adc := rfl
@[simp] theorem State.setLatch_pwm : (s.setLatch p a v).pwm = s.pwm := rfl
@[simp] theorem State.setLatch_drv : (s.setLatch p a v).drv = s.drv := rfl
@[simp] theorem State.setLatch_trp : (s.setLatch p a v).trp = s.trp := rfl
@[simp] theorem State.setLatch_ctr : (s.setLatch p a v).ctr = s.ctr := rfl
@[simp] theorem State.setLatch_mem : (s.setLatch p a v).mem = s.mem := rfl
@[simp] theorem State.setLatch_twn : (s.setLatch p a v).twn = s.twn := rfl
@[simp] theorem State.setLatch_sec : (s.setLatch p a v).sec = s.sec := rfl
@[simp] theorem State.setLatch_snd : (s.setLatch p a v).snd = s.snd := rfl
@[simp] theorem State.setLatch_sdc : (s.setLatch p a v).sdc = s.sdc := rfl
@[simp] theorem State.setLatch_host : (s.setLatch p a v).host = s.host := rfl
@[simp] theorem State.setLatch_boot : (s.setLatch p a v).boot = s.boot := rfl
end setLatch

section setCtx
variable (n : Nat) (r : CtxRun)
@[simp] theorem State.setCtx_pending : (s.setCtx n r).pending = s.pending := rfl
@[simp] theorem State.setCtx_chart : (s.setCtx n r).chart = s.chart := rfl
@[simp] theorem State.setCtx_regs : (s.setCtx n r).regs = s.regs := rfl
@[simp] theorem State.setCtx_evNow : (s.setCtx n r).evNow = s.evNow := rfl
@[simp] theorem State.setCtx_latch : (s.setCtx n r).latch = s.latch := rfl
@[simp] theorem State.setCtx_refusedNow : (s.setCtx n r).refusedNow = s.refusedNow := rfl
@[simp] theorem State.setCtx_wrNow : (s.setCtx n r).wrNow = s.wrNow := rfl
@[simp] theorem State.setCtx_expertStart : (s.setCtx n r).expertStart = s.expertStart := rfl
@[simp] theorem State.setCtx_free : (s.setCtx n r).free = s.free := rfl
@[simp] theorem State.setCtx_grid : (s.setCtx n r).grid = s.grid := rfl
@[simp] theorem State.setCtx_stg : (s.setCtx n r).stg = s.stg := rfl
@[simp] theorem State.setCtx_clk : (s.setCtx n r).clk = s.clk := rfl
@[simp] theorem State.setCtx_adc : (s.setCtx n r).adc = s.adc := rfl
@[simp] theorem State.setCtx_pwm : (s.setCtx n r).pwm = s.pwm := rfl
@[simp] theorem State.setCtx_drv : (s.setCtx n r).drv = s.drv := rfl
@[simp] theorem State.setCtx_trp : (s.setCtx n r).trp = s.trp := rfl
@[simp] theorem State.setCtx_ctr : (s.setCtx n r).ctr = s.ctr := rfl
@[simp] theorem State.setCtx_mem : (s.setCtx n r).mem = s.mem := rfl
@[simp] theorem State.setCtx_twn : (s.setCtx n r).twn = s.twn := rfl
@[simp] theorem State.setCtx_sec : (s.setCtx n r).sec = s.sec := rfl
@[simp] theorem State.setCtx_snd : (s.setCtx n r).snd = s.snd := rfl
@[simp] theorem State.setCtx_sdc : (s.setCtx n r).sdc = s.sdc := rfl
@[simp] theorem State.setCtx_host : (s.setCtx n r).host = s.host := rfl
@[simp] theorem State.setCtx_boot : (s.setCtx n r).boot = s.boot := rfl
end setCtx

section setRuns
variable (c : Nat) (n : Option Nat)
@[simp] theorem State.setRuns_pending : (s.setRuns c n).pending = s.pending := rfl
@[simp] theorem State.setRuns_chart : (s.setRuns c n).chart = s.chart := rfl
@[simp] theorem State.setRuns_regs : (s.setRuns c n).regs = s.regs := rfl
@[simp] theorem State.setRuns_evNow : (s.setRuns c n).evNow = s.evNow := rfl
@[simp] theorem State.setRuns_latch : (s.setRuns c n).latch = s.latch := rfl
@[simp] theorem State.setRuns_refusedNow : (s.setRuns c n).refusedNow = s.refusedNow := rfl
@[simp] theorem State.setRuns_wrNow : (s.setRuns c n).wrNow = s.wrNow := rfl
@[simp] theorem State.setRuns_expertStart : (s.setRuns c n).expertStart = s.expertStart := rfl
@[simp] theorem State.setRuns_free : (s.setRuns c n).free = s.free := rfl
@[simp] theorem State.setRuns_grid : (s.setRuns c n).grid = s.grid := rfl
@[simp] theorem State.setRuns_stg : (s.setRuns c n).stg = s.stg := rfl
@[simp] theorem State.setRuns_clk : (s.setRuns c n).clk = s.clk := rfl
@[simp] theorem State.setRuns_adc : (s.setRuns c n).adc = s.adc := rfl
@[simp] theorem State.setRuns_pwm : (s.setRuns c n).pwm = s.pwm := rfl
@[simp] theorem State.setRuns_drv : (s.setRuns c n).drv = s.drv := rfl
@[simp] theorem State.setRuns_trp : (s.setRuns c n).trp = s.trp := rfl
@[simp] theorem State.setRuns_ctr : (s.setRuns c n).ctr = s.ctr := rfl
@[simp] theorem State.setRuns_mem : (s.setRuns c n).mem = s.mem := rfl
@[simp] theorem State.setRuns_twn : (s.setRuns c n).twn = s.twn := rfl
@[simp] theorem State.setRuns_sec : (s.setRuns c n).sec = s.sec := rfl
@[simp] theorem State.setRuns_snd : (s.setRuns c n).snd = s.snd := rfl
@[simp] theorem State.setRuns_sdc : (s.setRuns c n).sdc = s.sdc := rfl
@[simp] theorem State.setRuns_host : (s.setRuns c n).host = s.host := rfl
@[simp] theorem State.setRuns_boot : (s.setRuns c n).boot = s.boot := rfl
end setRuns

section setReg
variable (n r w : Nat)
@[simp] theorem State.setReg_pending : (s.setReg n r w).pending = s.pending := rfl
@[simp] theorem State.setReg_chart : (s.setReg n r w).chart = s.chart := rfl
@[simp] theorem State.setReg_regs : (s.setReg n r w).regs = s.regs := rfl
@[simp] theorem State.setReg_evNow : (s.setReg n r w).evNow = s.evNow := rfl
@[simp] theorem State.setReg_latch : (s.setReg n r w).latch = s.latch := rfl
@[simp] theorem State.setReg_refusedNow : (s.setReg n r w).refusedNow = s.refusedNow := rfl
@[simp] theorem State.setReg_wrNow : (s.setReg n r w).wrNow = s.wrNow := rfl
@[simp] theorem State.setReg_expertStart : (s.setReg n r w).expertStart = s.expertStart := rfl
@[simp] theorem State.setReg_free : (s.setReg n r w).free = s.free := rfl
@[simp] theorem State.setReg_grid : (s.setReg n r w).grid = s.grid := rfl
@[simp] theorem State.setReg_stg : (s.setReg n r w).stg = s.stg := rfl
@[simp] theorem State.setReg_clk : (s.setReg n r w).clk = s.clk := rfl
@[simp] theorem State.setReg_adc : (s.setReg n r w).adc = s.adc := rfl
@[simp] theorem State.setReg_pwm : (s.setReg n r w).pwm = s.pwm := rfl
@[simp] theorem State.setReg_drv : (s.setReg n r w).drv = s.drv := rfl
@[simp] theorem State.setReg_trp : (s.setReg n r w).trp = s.trp := rfl
@[simp] theorem State.setReg_ctr : (s.setReg n r w).ctr = s.ctr := rfl
@[simp] theorem State.setReg_mem : (s.setReg n r w).mem = s.mem := rfl
@[simp] theorem State.setReg_twn : (s.setReg n r w).twn = s.twn := rfl
@[simp] theorem State.setReg_sec : (s.setReg n r w).sec = s.sec := rfl
@[simp] theorem State.setReg_snd : (s.setReg n r w).snd = s.snd := rfl
@[simp] theorem State.setReg_sdc : (s.setReg n r w).sdc = s.sdc := rfl
@[simp] theorem State.setReg_host : (s.setReg n r w).host = s.host := rfl
@[simp] theorem State.setReg_boot : (s.setReg n r w).boot = s.boot := rfl
end setReg

section setAcc
variable (n i : Nat) (a : Acc)
@[simp] theorem State.setAcc_pending : (s.setAcc n i a).pending = s.pending := rfl
@[simp] theorem State.setAcc_chart : (s.setAcc n i a).chart = s.chart := rfl
@[simp] theorem State.setAcc_regs : (s.setAcc n i a).regs = s.regs := rfl
@[simp] theorem State.setAcc_evNow : (s.setAcc n i a).evNow = s.evNow := rfl
@[simp] theorem State.setAcc_latch : (s.setAcc n i a).latch = s.latch := rfl
@[simp] theorem State.setAcc_refusedNow : (s.setAcc n i a).refusedNow = s.refusedNow := rfl
@[simp] theorem State.setAcc_wrNow : (s.setAcc n i a).wrNow = s.wrNow := rfl
@[simp] theorem State.setAcc_expertStart : (s.setAcc n i a).expertStart = s.expertStart := rfl
@[simp] theorem State.setAcc_free : (s.setAcc n i a).free = s.free := rfl
@[simp] theorem State.setAcc_grid : (s.setAcc n i a).grid = s.grid := rfl
@[simp] theorem State.setAcc_stg : (s.setAcc n i a).stg = s.stg := rfl
@[simp] theorem State.setAcc_clk : (s.setAcc n i a).clk = s.clk := rfl
@[simp] theorem State.setAcc_adc : (s.setAcc n i a).adc = s.adc := rfl
@[simp] theorem State.setAcc_pwm : (s.setAcc n i a).pwm = s.pwm := rfl
@[simp] theorem State.setAcc_drv : (s.setAcc n i a).drv = s.drv := rfl
@[simp] theorem State.setAcc_trp : (s.setAcc n i a).trp = s.trp := rfl
@[simp] theorem State.setAcc_ctr : (s.setAcc n i a).ctr = s.ctr := rfl
@[simp] theorem State.setAcc_mem : (s.setAcc n i a).mem = s.mem := rfl
@[simp] theorem State.setAcc_twn : (s.setAcc n i a).twn = s.twn := rfl
@[simp] theorem State.setAcc_sec : (s.setAcc n i a).sec = s.sec := rfl
@[simp] theorem State.setAcc_snd : (s.setAcc n i a).snd = s.snd := rfl
@[simp] theorem State.setAcc_sdc : (s.setAcc n i a).sdc = s.sdc := rfl
@[simp] theorem State.setAcc_host : (s.setAcc n i a).host = s.host := rfl
@[simp] theorem State.setAcc_boot : (s.setAcc n i a).boot = s.boot := rfl
end setAcc

section setSt
variable (c i : Nat) (w : MWord)
@[simp] theorem State.setSt_pending : (s.setSt c i w).pending = s.pending := rfl
@[simp] theorem State.setSt_chart : (s.setSt c i w).chart = s.chart := rfl
@[simp] theorem State.setSt_regs : (s.setSt c i w).regs = s.regs := rfl
@[simp] theorem State.setSt_evNow : (s.setSt c i w).evNow = s.evNow := rfl
@[simp] theorem State.setSt_latch : (s.setSt c i w).latch = s.latch := rfl
@[simp] theorem State.setSt_refusedNow : (s.setSt c i w).refusedNow = s.refusedNow := rfl
@[simp] theorem State.setSt_wrNow : (s.setSt c i w).wrNow = s.wrNow := rfl
@[simp] theorem State.setSt_expertStart : (s.setSt c i w).expertStart = s.expertStart := rfl
@[simp] theorem State.setSt_free : (s.setSt c i w).free = s.free := rfl
@[simp] theorem State.setSt_grid : (s.setSt c i w).grid = s.grid := rfl
@[simp] theorem State.setSt_stg : (s.setSt c i w).stg = s.stg := rfl
@[simp] theorem State.setSt_clk : (s.setSt c i w).clk = s.clk := rfl
@[simp] theorem State.setSt_adc : (s.setSt c i w).adc = s.adc := rfl
@[simp] theorem State.setSt_pwm : (s.setSt c i w).pwm = s.pwm := rfl
@[simp] theorem State.setSt_drv : (s.setSt c i w).drv = s.drv := rfl
@[simp] theorem State.setSt_trp : (s.setSt c i w).trp = s.trp := rfl
@[simp] theorem State.setSt_ctr : (s.setSt c i w).ctr = s.ctr := rfl
@[simp] theorem State.setSt_mem : (s.setSt c i w).mem = s.mem := rfl
@[simp] theorem State.setSt_twn : (s.setSt c i w).twn = s.twn := rfl
@[simp] theorem State.setSt_sec : (s.setSt c i w).sec = s.sec := rfl
@[simp] theorem State.setSt_snd : (s.setSt c i w).snd = s.snd := rfl
@[simp] theorem State.setSt_sdc : (s.setSt c i w).sdc = s.sdc := rfl
@[simp] theorem State.setSt_host : (s.setSt c i w).host = s.host := rfl
@[simp] theorem State.setSt_boot : (s.setSt c i w).boot = s.boot := rfl
end setSt

section setGrp
variable (g : Nat) (r : GroupRun)
@[simp] theorem State.setGrp_pending : (s.setGrp g r).pending = s.pending := rfl
@[simp] theorem State.setGrp_chart : (s.setGrp g r).chart = s.chart := rfl
@[simp] theorem State.setGrp_regs : (s.setGrp g r).regs = s.regs := rfl
@[simp] theorem State.setGrp_evNow : (s.setGrp g r).evNow = s.evNow := rfl
@[simp] theorem State.setGrp_latch : (s.setGrp g r).latch = s.latch := rfl
@[simp] theorem State.setGrp_refusedNow : (s.setGrp g r).refusedNow = s.refusedNow := rfl
@[simp] theorem State.setGrp_wrNow : (s.setGrp g r).wrNow = s.wrNow := rfl
@[simp] theorem State.setGrp_expertStart : (s.setGrp g r).expertStart = s.expertStart := rfl
@[simp] theorem State.setGrp_free : (s.setGrp g r).free = s.free := rfl
@[simp] theorem State.setGrp_eng : (s.setGrp g r).eng = s.eng := rfl
@[simp] theorem State.setGrp_stg : (s.setGrp g r).stg = s.stg := rfl
@[simp] theorem State.setGrp_clk : (s.setGrp g r).clk = s.clk := rfl
@[simp] theorem State.setGrp_adc : (s.setGrp g r).adc = s.adc := rfl
@[simp] theorem State.setGrp_pwm : (s.setGrp g r).pwm = s.pwm := rfl
@[simp] theorem State.setGrp_drv : (s.setGrp g r).drv = s.drv := rfl
@[simp] theorem State.setGrp_trp : (s.setGrp g r).trp = s.trp := rfl
@[simp] theorem State.setGrp_ctr : (s.setGrp g r).ctr = s.ctr := rfl
@[simp] theorem State.setGrp_mem : (s.setGrp g r).mem = s.mem := rfl
@[simp] theorem State.setGrp_twn : (s.setGrp g r).twn = s.twn := rfl
@[simp] theorem State.setGrp_sec : (s.setGrp g r).sec = s.sec := rfl
@[simp] theorem State.setGrp_snd : (s.setGrp g r).snd = s.snd := rfl
@[simp] theorem State.setGrp_sdc : (s.setGrp g r).sdc = s.sdc := rfl
@[simp] theorem State.setGrp_host : (s.setGrp g r).host = s.host := rfl
@[simp] theorem State.setGrp_boot : (s.setGrp g r).boot = s.boot := rfl
end setGrp

section setLeg
variable (n : Nat) (r : LegRun)
@[simp] theorem State.setLeg_pending : (s.setLeg n r).pending = s.pending := rfl
@[simp] theorem State.setLeg_chart : (s.setLeg n r).chart = s.chart := rfl
@[simp] theorem State.setLeg_regs : (s.setLeg n r).regs = s.regs := rfl
@[simp] theorem State.setLeg_evNow : (s.setLeg n r).evNow = s.evNow := rfl
@[simp] theorem State.setLeg_latch : (s.setLeg n r).latch = s.latch := rfl
@[simp] theorem State.setLeg_refusedNow : (s.setLeg n r).refusedNow = s.refusedNow := rfl
@[simp] theorem State.setLeg_wrNow : (s.setLeg n r).wrNow = s.wrNow := rfl
@[simp] theorem State.setLeg_expertStart : (s.setLeg n r).expertStart = s.expertStart := rfl
@[simp] theorem State.setLeg_free : (s.setLeg n r).free = s.free := rfl
@[simp] theorem State.setLeg_grid : (s.setLeg n r).grid = s.grid := rfl
@[simp] theorem State.setLeg_eng : (s.setLeg n r).eng = s.eng := rfl
@[simp] theorem State.setLeg_stg : (s.setLeg n r).stg = s.stg := rfl
@[simp] theorem State.setLeg_clk : (s.setLeg n r).clk = s.clk := rfl
@[simp] theorem State.setLeg_adc : (s.setLeg n r).adc = s.adc := rfl
@[simp] theorem State.setLeg_drv : (s.setLeg n r).drv = s.drv := rfl
@[simp] theorem State.setLeg_trp : (s.setLeg n r).trp = s.trp := rfl
@[simp] theorem State.setLeg_ctr : (s.setLeg n r).ctr = s.ctr := rfl
@[simp] theorem State.setLeg_mem : (s.setLeg n r).mem = s.mem := rfl
@[simp] theorem State.setLeg_twn : (s.setLeg n r).twn = s.twn := rfl
@[simp] theorem State.setLeg_sec : (s.setLeg n r).sec = s.sec := rfl
@[simp] theorem State.setLeg_snd : (s.setLeg n r).snd = s.snd := rfl
@[simp] theorem State.setLeg_sdc : (s.setLeg n r).sdc = s.sdc := rfl
@[simp] theorem State.setLeg_host : (s.setLeg n r).host = s.host := rfl
@[simp] theorem State.setLeg_boot : (s.setLeg n r).boot = s.boot := rfl
end setLeg

section setGcar
variable (g : Nat) (r : CarRun)
@[simp] theorem State.setGcar_pending : (s.setGcar g r).pending = s.pending := rfl
@[simp] theorem State.setGcar_chart : (s.setGcar g r).chart = s.chart := rfl
@[simp] theorem State.setGcar_regs : (s.setGcar g r).regs = s.regs := rfl
@[simp] theorem State.setGcar_evNow : (s.setGcar g r).evNow = s.evNow := rfl
@[simp] theorem State.setGcar_latch : (s.setGcar g r).latch = s.latch := rfl
@[simp] theorem State.setGcar_refusedNow : (s.setGcar g r).refusedNow = s.refusedNow := rfl
@[simp] theorem State.setGcar_wrNow : (s.setGcar g r).wrNow = s.wrNow := rfl
@[simp] theorem State.setGcar_expertStart : (s.setGcar g r).expertStart = s.expertStart := rfl
@[simp] theorem State.setGcar_free : (s.setGcar g r).free = s.free := rfl
@[simp] theorem State.setGcar_grid : (s.setGcar g r).grid = s.grid := rfl
@[simp] theorem State.setGcar_eng : (s.setGcar g r).eng = s.eng := rfl
@[simp] theorem State.setGcar_stg : (s.setGcar g r).stg = s.stg := rfl
@[simp] theorem State.setGcar_clk : (s.setGcar g r).clk = s.clk := rfl
@[simp] theorem State.setGcar_adc : (s.setGcar g r).adc = s.adc := rfl
@[simp] theorem State.setGcar_drv : (s.setGcar g r).drv = s.drv := rfl
@[simp] theorem State.setGcar_trp : (s.setGcar g r).trp = s.trp := rfl
@[simp] theorem State.setGcar_ctr : (s.setGcar g r).ctr = s.ctr := rfl
@[simp] theorem State.setGcar_mem : (s.setGcar g r).mem = s.mem := rfl
@[simp] theorem State.setGcar_twn : (s.setGcar g r).twn = s.twn := rfl
@[simp] theorem State.setGcar_sec : (s.setGcar g r).sec = s.sec := rfl
@[simp] theorem State.setGcar_snd : (s.setGcar g r).snd = s.snd := rfl
@[simp] theorem State.setGcar_sdc : (s.setGcar g r).sdc = s.sdc := rfl
@[simp] theorem State.setGcar_host : (s.setGcar g r).host = s.host := rfl
@[simp] theorem State.setGcar_boot : (s.setGcar g r).boot = s.boot := rfl
end setGcar

section setDleg
variable (n : Nat) (r : DrvLeg)
@[simp] theorem State.setDleg_pending : (s.setDleg n r).pending = s.pending := rfl
@[simp] theorem State.setDleg_chart : (s.setDleg n r).chart = s.chart := rfl
@[simp] theorem State.setDleg_regs : (s.setDleg n r).regs = s.regs := rfl
@[simp] theorem State.setDleg_evNow : (s.setDleg n r).evNow = s.evNow := rfl
@[simp] theorem State.setDleg_latch : (s.setDleg n r).latch = s.latch := rfl
@[simp] theorem State.setDleg_refusedNow : (s.setDleg n r).refusedNow = s.refusedNow := rfl
@[simp] theorem State.setDleg_wrNow : (s.setDleg n r).wrNow = s.wrNow := rfl
@[simp] theorem State.setDleg_expertStart : (s.setDleg n r).expertStart = s.expertStart := rfl
@[simp] theorem State.setDleg_free : (s.setDleg n r).free = s.free := rfl
@[simp] theorem State.setDleg_grid : (s.setDleg n r).grid = s.grid := rfl
@[simp] theorem State.setDleg_eng : (s.setDleg n r).eng = s.eng := rfl
@[simp] theorem State.setDleg_stg : (s.setDleg n r).stg = s.stg := rfl
@[simp] theorem State.setDleg_clk : (s.setDleg n r).clk = s.clk := rfl
@[simp] theorem State.setDleg_adc : (s.setDleg n r).adc = s.adc := rfl
@[simp] theorem State.setDleg_pwm : (s.setDleg n r).pwm = s.pwm := rfl
@[simp] theorem State.setDleg_trp : (s.setDleg n r).trp = s.trp := rfl
@[simp] theorem State.setDleg_ctr : (s.setDleg n r).ctr = s.ctr := rfl
@[simp] theorem State.setDleg_mem : (s.setDleg n r).mem = s.mem := rfl
@[simp] theorem State.setDleg_twn : (s.setDleg n r).twn = s.twn := rfl
@[simp] theorem State.setDleg_sec : (s.setDleg n r).sec = s.sec := rfl
@[simp] theorem State.setDleg_snd : (s.setDleg n r).snd = s.snd := rfl
@[simp] theorem State.setDleg_sdc : (s.setDleg n r).sdc = s.sdc := rfl
@[simp] theorem State.setDleg_host : (s.setDleg n r).host = s.host := rfl
@[simp] theorem State.setDleg_boot : (s.setDleg n r).boot = s.boot := rfl
end setDleg

section setDdie
variable (d : Nat) (r : DrvDie)
@[simp] theorem State.setDdie_pending : (s.setDdie d r).pending = s.pending := rfl
@[simp] theorem State.setDdie_chart : (s.setDdie d r).chart = s.chart := rfl
@[simp] theorem State.setDdie_regs : (s.setDdie d r).regs = s.regs := rfl
@[simp] theorem State.setDdie_evNow : (s.setDdie d r).evNow = s.evNow := rfl
@[simp] theorem State.setDdie_latch : (s.setDdie d r).latch = s.latch := rfl
@[simp] theorem State.setDdie_refusedNow : (s.setDdie d r).refusedNow = s.refusedNow := rfl
@[simp] theorem State.setDdie_wrNow : (s.setDdie d r).wrNow = s.wrNow := rfl
@[simp] theorem State.setDdie_expertStart : (s.setDdie d r).expertStart = s.expertStart := rfl
@[simp] theorem State.setDdie_free : (s.setDdie d r).free = s.free := rfl
@[simp] theorem State.setDdie_grid : (s.setDdie d r).grid = s.grid := rfl
@[simp] theorem State.setDdie_eng : (s.setDdie d r).eng = s.eng := rfl
@[simp] theorem State.setDdie_stg : (s.setDdie d r).stg = s.stg := rfl
@[simp] theorem State.setDdie_clk : (s.setDdie d r).clk = s.clk := rfl
@[simp] theorem State.setDdie_adc : (s.setDdie d r).adc = s.adc := rfl
@[simp] theorem State.setDdie_pwm : (s.setDdie d r).pwm = s.pwm := rfl
@[simp] theorem State.setDdie_trp : (s.setDdie d r).trp = s.trp := rfl
@[simp] theorem State.setDdie_ctr : (s.setDdie d r).ctr = s.ctr := rfl
@[simp] theorem State.setDdie_mem : (s.setDdie d r).mem = s.mem := rfl
@[simp] theorem State.setDdie_twn : (s.setDdie d r).twn = s.twn := rfl
@[simp] theorem State.setDdie_sec : (s.setDdie d r).sec = s.sec := rfl
@[simp] theorem State.setDdie_snd : (s.setDdie d r).snd = s.snd := rfl
@[simp] theorem State.setDdie_sdc : (s.setDdie d r).sdc = s.sdc := rfl
@[simp] theorem State.setDdie_host : (s.setDdie d r).host = s.host := rfl
@[simp] theorem State.setDdie_boot : (s.setDdie d r).boot = s.boot := rfl
end setDdie

section setConv
variable (c : Nat) (r : ConvRun)
@[simp] theorem State.setConv_pending : (s.setConv c r).pending = s.pending := rfl
@[simp] theorem State.setConv_chart : (s.setConv c r).chart = s.chart := rfl
@[simp] theorem State.setConv_regs : (s.setConv c r).regs = s.regs := rfl
@[simp] theorem State.setConv_evNow : (s.setConv c r).evNow = s.evNow := rfl
@[simp] theorem State.setConv_latch : (s.setConv c r).latch = s.latch := rfl
@[simp] theorem State.setConv_refusedNow : (s.setConv c r).refusedNow = s.refusedNow := rfl
@[simp] theorem State.setConv_wrNow : (s.setConv c r).wrNow = s.wrNow := rfl
@[simp] theorem State.setConv_expertStart : (s.setConv c r).expertStart = s.expertStart := rfl
@[simp] theorem State.setConv_free : (s.setConv c r).free = s.free := rfl
@[simp] theorem State.setConv_grid : (s.setConv c r).grid = s.grid := rfl
@[simp] theorem State.setConv_eng : (s.setConv c r).eng = s.eng := rfl
@[simp] theorem State.setConv_stg : (s.setConv c r).stg = s.stg := rfl
@[simp] theorem State.setConv_clk : (s.setConv c r).clk = s.clk := rfl
@[simp] theorem State.setConv_pwm : (s.setConv c r).pwm = s.pwm := rfl
@[simp] theorem State.setConv_drv : (s.setConv c r).drv = s.drv := rfl
@[simp] theorem State.setConv_trp : (s.setConv c r).trp = s.trp := rfl
@[simp] theorem State.setConv_ctr : (s.setConv c r).ctr = s.ctr := rfl
@[simp] theorem State.setConv_mem : (s.setConv c r).mem = s.mem := rfl
@[simp] theorem State.setConv_twn : (s.setConv c r).twn = s.twn := rfl
@[simp] theorem State.setConv_sec : (s.setConv c r).sec = s.sec := rfl
@[simp] theorem State.setConv_snd : (s.setConv c r).snd = s.snd := rfl
@[simp] theorem State.setConv_sdc : (s.setConv c r).sdc = s.sdc := rfl
@[simp] theorem State.setConv_host : (s.setConv c r).host = s.host := rfl
@[simp] theorem State.setConv_boot : (s.setConv c r).boot = s.boot := rfl
end setConv

section setDch
variable (c : Nat) (r : DmaCh)
@[simp] theorem State.setDch_pending : (s.setDch c r).pending = s.pending := rfl
@[simp] theorem State.setDch_chart : (s.setDch c r).chart = s.chart := rfl
@[simp] theorem State.setDch_regs : (s.setDch c r).regs = s.regs := rfl
@[simp] theorem State.setDch_evNow : (s.setDch c r).evNow = s.evNow := rfl
@[simp] theorem State.setDch_latch : (s.setDch c r).latch = s.latch := rfl
@[simp] theorem State.setDch_refusedNow : (s.setDch c r).refusedNow = s.refusedNow := rfl
@[simp] theorem State.setDch_wrNow : (s.setDch c r).wrNow = s.wrNow := rfl
@[simp] theorem State.setDch_expertStart : (s.setDch c r).expertStart = s.expertStart := rfl
@[simp] theorem State.setDch_free : (s.setDch c r).free = s.free := rfl
@[simp] theorem State.setDch_grid : (s.setDch c r).grid = s.grid := rfl
@[simp] theorem State.setDch_eng : (s.setDch c r).eng = s.eng := rfl
@[simp] theorem State.setDch_stg : (s.setDch c r).stg = s.stg := rfl
@[simp] theorem State.setDch_clk : (s.setDch c r).clk = s.clk := rfl
@[simp] theorem State.setDch_adc : (s.setDch c r).adc = s.adc := rfl
@[simp] theorem State.setDch_pwm : (s.setDch c r).pwm = s.pwm := rfl
@[simp] theorem State.setDch_drv : (s.setDch c r).drv = s.drv := rfl
@[simp] theorem State.setDch_trp : (s.setDch c r).trp = s.trp := rfl
@[simp] theorem State.setDch_ctr : (s.setDch c r).ctr = s.ctr := rfl
@[simp] theorem State.setDch_twn : (s.setDch c r).twn = s.twn := rfl
@[simp] theorem State.setDch_sec : (s.setDch c r).sec = s.sec := rfl
@[simp] theorem State.setDch_snd : (s.setDch c r).snd = s.snd := rfl
@[simp] theorem State.setDch_sdc : (s.setDch c r).sdc = s.sdc := rfl
@[simp] theorem State.setDch_host : (s.setDch c r).host = s.host := rfl
@[simp] theorem State.setDch_boot : (s.setDch c r).boot = s.boot := rfl
end setDch

section setPort
variable (p : Port) (r : PortRun)
@[simp] theorem State.setPort_pending : (s.setPort p r).pending = s.pending := rfl
@[simp] theorem State.setPort_chart : (s.setPort p r).chart = s.chart := rfl
@[simp] theorem State.setPort_regs : (s.setPort p r).regs = s.regs := rfl
@[simp] theorem State.setPort_evNow : (s.setPort p r).evNow = s.evNow := rfl
@[simp] theorem State.setPort_latch : (s.setPort p r).latch = s.latch := rfl
@[simp] theorem State.setPort_refusedNow : (s.setPort p r).refusedNow = s.refusedNow := rfl
@[simp] theorem State.setPort_wrNow : (s.setPort p r).wrNow = s.wrNow := rfl
@[simp] theorem State.setPort_expertStart : (s.setPort p r).expertStart = s.expertStart := rfl
@[simp] theorem State.setPort_free : (s.setPort p r).free = s.free := rfl
@[simp] theorem State.setPort_grid : (s.setPort p r).grid = s.grid := rfl
@[simp] theorem State.setPort_eng : (s.setPort p r).eng = s.eng := rfl
@[simp] theorem State.setPort_stg : (s.setPort p r).stg = s.stg := rfl
@[simp] theorem State.setPort_clk : (s.setPort p r).clk = s.clk := rfl
@[simp] theorem State.setPort_adc : (s.setPort p r).adc = s.adc := rfl
@[simp] theorem State.setPort_pwm : (s.setPort p r).pwm = s.pwm := rfl
@[simp] theorem State.setPort_drv : (s.setPort p r).drv = s.drv := rfl
@[simp] theorem State.setPort_trp : (s.setPort p r).trp = s.trp := rfl
@[simp] theorem State.setPort_ctr : (s.setPort p r).ctr = s.ctr := rfl
@[simp] theorem State.setPort_mem : (s.setPort p r).mem = s.mem := rfl
@[simp] theorem State.setPort_twn : (s.setPort p r).twn = s.twn := rfl
@[simp] theorem State.setPort_sec : (s.setPort p r).sec = s.sec := rfl
@[simp] theorem State.setPort_snd : (s.setPort p r).snd = s.snd := rfl
@[simp] theorem State.setPort_sdc : (s.setPort p r).sdc = s.sdc := rfl
@[simp] theorem State.setPort_boot : (s.setPort p r).boot = s.boot := rfl
end setPort

section setGen
variable (g : Nat) (r : SndGen)
@[simp] theorem State.setGen_pending : (s.setGen g r).pending = s.pending := rfl
@[simp] theorem State.setGen_chart : (s.setGen g r).chart = s.chart := rfl
@[simp] theorem State.setGen_regs : (s.setGen g r).regs = s.regs := rfl
@[simp] theorem State.setGen_evNow : (s.setGen g r).evNow = s.evNow := rfl
@[simp] theorem State.setGen_latch : (s.setGen g r).latch = s.latch := rfl
@[simp] theorem State.setGen_refusedNow : (s.setGen g r).refusedNow = s.refusedNow := rfl
@[simp] theorem State.setGen_wrNow : (s.setGen g r).wrNow = s.wrNow := rfl
@[simp] theorem State.setGen_expertStart : (s.setGen g r).expertStart = s.expertStart := rfl
@[simp] theorem State.setGen_free : (s.setGen g r).free = s.free := rfl
@[simp] theorem State.setGen_grid : (s.setGen g r).grid = s.grid := rfl
@[simp] theorem State.setGen_eng : (s.setGen g r).eng = s.eng := rfl
@[simp] theorem State.setGen_stg : (s.setGen g r).stg = s.stg := rfl
@[simp] theorem State.setGen_clk : (s.setGen g r).clk = s.clk := rfl
@[simp] theorem State.setGen_adc : (s.setGen g r).adc = s.adc := rfl
@[simp] theorem State.setGen_pwm : (s.setGen g r).pwm = s.pwm := rfl
@[simp] theorem State.setGen_drv : (s.setGen g r).drv = s.drv := rfl
@[simp] theorem State.setGen_trp : (s.setGen g r).trp = s.trp := rfl
@[simp] theorem State.setGen_ctr : (s.setGen g r).ctr = s.ctr := rfl
@[simp] theorem State.setGen_mem : (s.setGen g r).mem = s.mem := rfl
@[simp] theorem State.setGen_twn : (s.setGen g r).twn = s.twn := rfl
@[simp] theorem State.setGen_sec : (s.setGen g r).sec = s.sec := rfl
@[simp] theorem State.setGen_sdc : (s.setGen g r).sdc = s.sdc := rfl
@[simp] theorem State.setGen_host : (s.setGen g r).host = s.host := rfl
@[simp] theorem State.setGen_boot : (s.setGen g r).boot = s.boot := rfl
end setGen

section setNode
variable (g : Nat) (r : BrgNode)
@[simp] theorem State.setNode_pending : (s.setNode g r).pending = s.pending := rfl
@[simp] theorem State.setNode_chart : (s.setNode g r).chart = s.chart := rfl
@[simp] theorem State.setNode_regs : (s.setNode g r).regs = s.regs := rfl
@[simp] theorem State.setNode_evNow : (s.setNode g r).evNow = s.evNow := rfl
@[simp] theorem State.setNode_latch : (s.setNode g r).latch = s.latch := rfl
@[simp] theorem State.setNode_refusedNow : (s.setNode g r).refusedNow = s.refusedNow := rfl
@[simp] theorem State.setNode_wrNow : (s.setNode g r).wrNow = s.wrNow := rfl
@[simp] theorem State.setNode_expertStart : (s.setNode g r).expertStart = s.expertStart := rfl
@[simp] theorem State.setNode_free : (s.setNode g r).free = s.free := rfl
@[simp] theorem State.setNode_grid : (s.setNode g r).grid = s.grid := rfl
@[simp] theorem State.setNode_eng : (s.setNode g r).eng = s.eng := rfl
@[simp] theorem State.setNode_stg : (s.setNode g r).stg = s.stg := rfl
@[simp] theorem State.setNode_clk : (s.setNode g r).clk = s.clk := rfl
@[simp] theorem State.setNode_adc : (s.setNode g r).adc = s.adc := rfl
@[simp] theorem State.setNode_pwm : (s.setNode g r).pwm = s.pwm := rfl
@[simp] theorem State.setNode_drv : (s.setNode g r).drv = s.drv := rfl
@[simp] theorem State.setNode_trp : (s.setNode g r).trp = s.trp := rfl
@[simp] theorem State.setNode_ctr : (s.setNode g r).ctr = s.ctr := rfl
@[simp] theorem State.setNode_mem : (s.setNode g r).mem = s.mem := rfl
@[simp] theorem State.setNode_twn : (s.setNode g r).twn = s.twn := rfl
@[simp] theorem State.setNode_sec : (s.setNode g r).sec = s.sec := rfl
@[simp] theorem State.setNode_sdc : (s.setNode g r).sdc = s.sdc := rfl
@[simp] theorem State.setNode_host : (s.setNode g r).host = s.host := rfl
@[simp] theorem State.setNode_boot : (s.setNode g r).boot = s.boot := rfl
end setNode

section setProbe
variable (p : Nat) (r : ProbeRun)
@[simp] theorem State.setProbe_pending : (s.setProbe p r).pending = s.pending := rfl
@[simp] theorem State.setProbe_chart : (s.setProbe p r).chart = s.chart := rfl
@[simp] theorem State.setProbe_regs : (s.setProbe p r).regs = s.regs := rfl
@[simp] theorem State.setProbe_evNow : (s.setProbe p r).evNow = s.evNow := rfl
@[simp] theorem State.setProbe_latch : (s.setProbe p r).latch = s.latch := rfl
@[simp] theorem State.setProbe_refusedNow : (s.setProbe p r).refusedNow = s.refusedNow := rfl
@[simp] theorem State.setProbe_wrNow : (s.setProbe p r).wrNow = s.wrNow := rfl
@[simp] theorem State.setProbe_expertStart : (s.setProbe p r).expertStart = s.expertStart := rfl
@[simp] theorem State.setProbe_free : (s.setProbe p r).free = s.free := rfl
@[simp] theorem State.setProbe_grid : (s.setProbe p r).grid = s.grid := rfl
@[simp] theorem State.setProbe_eng : (s.setProbe p r).eng = s.eng := rfl
@[simp] theorem State.setProbe_stg : (s.setProbe p r).stg = s.stg := rfl
@[simp] theorem State.setProbe_clk : (s.setProbe p r).clk = s.clk := rfl
@[simp] theorem State.setProbe_adc : (s.setProbe p r).adc = s.adc := rfl
@[simp] theorem State.setProbe_pwm : (s.setProbe p r).pwm = s.pwm := rfl
@[simp] theorem State.setProbe_drv : (s.setProbe p r).drv = s.drv := rfl
@[simp] theorem State.setProbe_trp : (s.setProbe p r).trp = s.trp := rfl
@[simp] theorem State.setProbe_mem : (s.setProbe p r).mem = s.mem := rfl
@[simp] theorem State.setProbe_twn : (s.setProbe p r).twn = s.twn := rfl
@[simp] theorem State.setProbe_sec : (s.setProbe p r).sec = s.sec := rfl
@[simp] theorem State.setProbe_snd : (s.setProbe p r).snd = s.snd := rfl
@[simp] theorem State.setProbe_sdc : (s.setProbe p r).sdc = s.sdc := rfl
@[simp] theorem State.setProbe_host : (s.setProbe p r).host = s.host := rfl
@[simp] theorem State.setProbe_boot : (s.setProbe p r).boot = s.boot := rfl
end setProbe

section setSeq
variable (k : Nat) (r : SeqRun)
@[simp] theorem State.setSeq_pending : (s.setSeq k r).pending = s.pending := rfl
@[simp] theorem State.setSeq_chart : (s.setSeq k r).chart = s.chart := rfl
@[simp] theorem State.setSeq_regs : (s.setSeq k r).regs = s.regs := rfl
@[simp] theorem State.setSeq_evNow : (s.setSeq k r).evNow = s.evNow := rfl
@[simp] theorem State.setSeq_latch : (s.setSeq k r).latch = s.latch := rfl
@[simp] theorem State.setSeq_refusedNow : (s.setSeq k r).refusedNow = s.refusedNow := rfl
@[simp] theorem State.setSeq_wrNow : (s.setSeq k r).wrNow = s.wrNow := rfl
@[simp] theorem State.setSeq_expertStart : (s.setSeq k r).expertStart = s.expertStart := rfl
@[simp] theorem State.setSeq_free : (s.setSeq k r).free = s.free := rfl
@[simp] theorem State.setSeq_grid : (s.setSeq k r).grid = s.grid := rfl
@[simp] theorem State.setSeq_eng : (s.setSeq k r).eng = s.eng := rfl
@[simp] theorem State.setSeq_stg : (s.setSeq k r).stg = s.stg := rfl
@[simp] theorem State.setSeq_clk : (s.setSeq k r).clk = s.clk := rfl
@[simp] theorem State.setSeq_adc : (s.setSeq k r).adc = s.adc := rfl
@[simp] theorem State.setSeq_pwm : (s.setSeq k r).pwm = s.pwm := rfl
@[simp] theorem State.setSeq_drv : (s.setSeq k r).drv = s.drv := rfl
@[simp] theorem State.setSeq_trp : (s.setSeq k r).trp = s.trp := rfl
@[simp] theorem State.setSeq_mem : (s.setSeq k r).mem = s.mem := rfl
@[simp] theorem State.setSeq_twn : (s.setSeq k r).twn = s.twn := rfl
@[simp] theorem State.setSeq_sec : (s.setSeq k r).sec = s.sec := rfl
@[simp] theorem State.setSeq_snd : (s.setSeq k r).snd = s.snd := rfl
@[simp] theorem State.setSeq_sdc : (s.setSeq k r).sdc = s.sdc := rfl
@[simp] theorem State.setSeq_host : (s.setSeq k r).host = s.host := rfl
@[simp] theorem State.setSeq_boot : (s.setSeq k r).boot = s.boot := rfl
end setSeq

section setRecQ
variable (c : Nat) (r : RecQueue)
@[simp] theorem State.setRecQ_pending : (s.setRecQ c r).pending = s.pending := rfl
@[simp] theorem State.setRecQ_chart : (s.setRecQ c r).chart = s.chart := rfl
@[simp] theorem State.setRecQ_regs : (s.setRecQ c r).regs = s.regs := rfl
@[simp] theorem State.setRecQ_evNow : (s.setRecQ c r).evNow = s.evNow := rfl
@[simp] theorem State.setRecQ_latch : (s.setRecQ c r).latch = s.latch := rfl
@[simp] theorem State.setRecQ_refusedNow : (s.setRecQ c r).refusedNow = s.refusedNow := rfl
@[simp] theorem State.setRecQ_wrNow : (s.setRecQ c r).wrNow = s.wrNow := rfl
@[simp] theorem State.setRecQ_expertStart : (s.setRecQ c r).expertStart = s.expertStart := rfl
@[simp] theorem State.setRecQ_free : (s.setRecQ c r).free = s.free := rfl
@[simp] theorem State.setRecQ_grid : (s.setRecQ c r).grid = s.grid := rfl
@[simp] theorem State.setRecQ_eng : (s.setRecQ c r).eng = s.eng := rfl
@[simp] theorem State.setRecQ_stg : (s.setRecQ c r).stg = s.stg := rfl
@[simp] theorem State.setRecQ_clk : (s.setRecQ c r).clk = s.clk := rfl
@[simp] theorem State.setRecQ_adc : (s.setRecQ c r).adc = s.adc := rfl
@[simp] theorem State.setRecQ_pwm : (s.setRecQ c r).pwm = s.pwm := rfl
@[simp] theorem State.setRecQ_drv : (s.setRecQ c r).drv = s.drv := rfl
@[simp] theorem State.setRecQ_trp : (s.setRecQ c r).trp = s.trp := rfl
@[simp] theorem State.setRecQ_mem : (s.setRecQ c r).mem = s.mem := rfl
@[simp] theorem State.setRecQ_twn : (s.setRecQ c r).twn = s.twn := rfl
@[simp] theorem State.setRecQ_sec : (s.setRecQ c r).sec = s.sec := rfl
@[simp] theorem State.setRecQ_snd : (s.setRecQ c r).snd = s.snd := rfl
@[simp] theorem State.setRecQ_sdc : (s.setRecQ c r).sdc = s.sdc := rfl
@[simp] theorem State.setRecQ_host : (s.setRecQ c r).host = s.host := rfl
@[simp] theorem State.setRecQ_boot : (s.setRecQ c r).boot = s.boot := rfl
end setRecQ

section setTwn
variable (r : TwnRun)
@[simp] theorem State.setTwn_pending : (s.setTwn r).pending = s.pending := rfl
@[simp] theorem State.setTwn_chart : (s.setTwn r).chart = s.chart := rfl
@[simp] theorem State.setTwn_regs : (s.setTwn r).regs = s.regs := rfl
@[simp] theorem State.setTwn_evNow : (s.setTwn r).evNow = s.evNow := rfl
@[simp] theorem State.setTwn_latch : (s.setTwn r).latch = s.latch := rfl
@[simp] theorem State.setTwn_refusedNow : (s.setTwn r).refusedNow = s.refusedNow := rfl
@[simp] theorem State.setTwn_wrNow : (s.setTwn r).wrNow = s.wrNow := rfl
@[simp] theorem State.setTwn_expertStart : (s.setTwn r).expertStart = s.expertStart := rfl
@[simp] theorem State.setTwn_free : (s.setTwn r).free = s.free := rfl
@[simp] theorem State.setTwn_grid : (s.setTwn r).grid = s.grid := rfl
@[simp] theorem State.setTwn_eng : (s.setTwn r).eng = s.eng := rfl
@[simp] theorem State.setTwn_stg : (s.setTwn r).stg = s.stg := rfl
@[simp] theorem State.setTwn_clk : (s.setTwn r).clk = s.clk := rfl
@[simp] theorem State.setTwn_adc : (s.setTwn r).adc = s.adc := rfl
@[simp] theorem State.setTwn_pwm : (s.setTwn r).pwm = s.pwm := rfl
@[simp] theorem State.setTwn_drv : (s.setTwn r).drv = s.drv := rfl
@[simp] theorem State.setTwn_trp : (s.setTwn r).trp = s.trp := rfl
@[simp] theorem State.setTwn_ctr : (s.setTwn r).ctr = s.ctr := rfl
@[simp] theorem State.setTwn_mem : (s.setTwn r).mem = s.mem := rfl
@[simp] theorem State.setTwn_sec : (s.setTwn r).sec = s.sec := rfl
@[simp] theorem State.setTwn_snd : (s.setTwn r).snd = s.snd := rfl
@[simp] theorem State.setTwn_sdc : (s.setTwn r).sdc = s.sdc := rfl
@[simp] theorem State.setTwn_host : (s.setTwn r).host = s.host := rfl
@[simp] theorem State.setTwn_boot : (s.setTwn r).boot = s.boot := rfl
end setTwn

section setSdc
variable (r : SdcRun)
@[simp] theorem State.setSdc_pending : (s.setSdc r).pending = s.pending := rfl
@[simp] theorem State.setSdc_chart : (s.setSdc r).chart = s.chart := rfl
@[simp] theorem State.setSdc_regs : (s.setSdc r).regs = s.regs := rfl
@[simp] theorem State.setSdc_evNow : (s.setSdc r).evNow = s.evNow := rfl
@[simp] theorem State.setSdc_latch : (s.setSdc r).latch = s.latch := rfl
@[simp] theorem State.setSdc_refusedNow : (s.setSdc r).refusedNow = s.refusedNow := rfl
@[simp] theorem State.setSdc_wrNow : (s.setSdc r).wrNow = s.wrNow := rfl
@[simp] theorem State.setSdc_expertStart : (s.setSdc r).expertStart = s.expertStart := rfl
@[simp] theorem State.setSdc_free : (s.setSdc r).free = s.free := rfl
@[simp] theorem State.setSdc_grid : (s.setSdc r).grid = s.grid := rfl
@[simp] theorem State.setSdc_eng : (s.setSdc r).eng = s.eng := rfl
@[simp] theorem State.setSdc_stg : (s.setSdc r).stg = s.stg := rfl
@[simp] theorem State.setSdc_clk : (s.setSdc r).clk = s.clk := rfl
@[simp] theorem State.setSdc_adc : (s.setSdc r).adc = s.adc := rfl
@[simp] theorem State.setSdc_pwm : (s.setSdc r).pwm = s.pwm := rfl
@[simp] theorem State.setSdc_drv : (s.setSdc r).drv = s.drv := rfl
@[simp] theorem State.setSdc_trp : (s.setSdc r).trp = s.trp := rfl
@[simp] theorem State.setSdc_ctr : (s.setSdc r).ctr = s.ctr := rfl
@[simp] theorem State.setSdc_mem : (s.setSdc r).mem = s.mem := rfl
@[simp] theorem State.setSdc_twn : (s.setSdc r).twn = s.twn := rfl
@[simp] theorem State.setSdc_sec : (s.setSdc r).sec = s.sec := rfl
@[simp] theorem State.setSdc_snd : (s.setSdc r).snd = s.snd := rfl
@[simp] theorem State.setSdc_host : (s.setSdc r).host = s.host := rfl
@[simp] theorem State.setSdc_boot : (s.setSdc r).boot = s.boot := rfl
end setSdc

section setSec
variable (r : SecRun)
@[simp] theorem State.setSec_pending : (s.setSec r).pending = s.pending := rfl
@[simp] theorem State.setSec_chart : (s.setSec r).chart = s.chart := rfl
@[simp] theorem State.setSec_regs : (s.setSec r).regs = s.regs := rfl
@[simp] theorem State.setSec_evNow : (s.setSec r).evNow = s.evNow := rfl
@[simp] theorem State.setSec_latch : (s.setSec r).latch = s.latch := rfl
@[simp] theorem State.setSec_refusedNow : (s.setSec r).refusedNow = s.refusedNow := rfl
@[simp] theorem State.setSec_wrNow : (s.setSec r).wrNow = s.wrNow := rfl
@[simp] theorem State.setSec_expertStart : (s.setSec r).expertStart = s.expertStart := rfl
@[simp] theorem State.setSec_free : (s.setSec r).free = s.free := rfl
@[simp] theorem State.setSec_grid : (s.setSec r).grid = s.grid := rfl
@[simp] theorem State.setSec_eng : (s.setSec r).eng = s.eng := rfl
@[simp] theorem State.setSec_stg : (s.setSec r).stg = s.stg := rfl
@[simp] theorem State.setSec_clk : (s.setSec r).clk = s.clk := rfl
@[simp] theorem State.setSec_adc : (s.setSec r).adc = s.adc := rfl
@[simp] theorem State.setSec_pwm : (s.setSec r).pwm = s.pwm := rfl
@[simp] theorem State.setSec_drv : (s.setSec r).drv = s.drv := rfl
@[simp] theorem State.setSec_trp : (s.setSec r).trp = s.trp := rfl
@[simp] theorem State.setSec_ctr : (s.setSec r).ctr = s.ctr := rfl
@[simp] theorem State.setSec_mem : (s.setSec r).mem = s.mem := rfl
@[simp] theorem State.setSec_twn : (s.setSec r).twn = s.twn := rfl
@[simp] theorem State.setSec_snd : (s.setSec r).snd = s.snd := rfl
@[simp] theorem State.setSec_sdc : (s.setSec r).sdc = s.sdc := rfl
@[simp] theorem State.setSec_host : (s.setSec r).host = s.host := rfl
@[simp] theorem State.setSec_boot : (s.setSec r).boot = s.boot := rfl
end setSec

section setSlot
variable (k : Nat) (x : KeySlot)
@[simp] theorem State.setSlot_pending : (s.setSlot k x).pending = s.pending := rfl
@[simp] theorem State.setSlot_chart : (s.setSlot k x).chart = s.chart := rfl
@[simp] theorem State.setSlot_regs : (s.setSlot k x).regs = s.regs := rfl
@[simp] theorem State.setSlot_evNow : (s.setSlot k x).evNow = s.evNow := rfl
@[simp] theorem State.setSlot_latch : (s.setSlot k x).latch = s.latch := rfl
@[simp] theorem State.setSlot_refusedNow : (s.setSlot k x).refusedNow = s.refusedNow := rfl
@[simp] theorem State.setSlot_wrNow : (s.setSlot k x).wrNow = s.wrNow := rfl
@[simp] theorem State.setSlot_expertStart : (s.setSlot k x).expertStart = s.expertStart := rfl
@[simp] theorem State.setSlot_free : (s.setSlot k x).free = s.free := rfl
@[simp] theorem State.setSlot_grid : (s.setSlot k x).grid = s.grid := rfl
@[simp] theorem State.setSlot_eng : (s.setSlot k x).eng = s.eng := rfl
@[simp] theorem State.setSlot_stg : (s.setSlot k x).stg = s.stg := rfl
@[simp] theorem State.setSlot_clk : (s.setSlot k x).clk = s.clk := rfl
@[simp] theorem State.setSlot_adc : (s.setSlot k x).adc = s.adc := rfl
@[simp] theorem State.setSlot_pwm : (s.setSlot k x).pwm = s.pwm := rfl
@[simp] theorem State.setSlot_drv : (s.setSlot k x).drv = s.drv := rfl
@[simp] theorem State.setSlot_trp : (s.setSlot k x).trp = s.trp := rfl
@[simp] theorem State.setSlot_ctr : (s.setSlot k x).ctr = s.ctr := rfl
@[simp] theorem State.setSlot_mem : (s.setSlot k x).mem = s.mem := rfl
@[simp] theorem State.setSlot_twn : (s.setSlot k x).twn = s.twn := rfl
@[simp] theorem State.setSlot_snd : (s.setSlot k x).snd = s.snd := rfl
@[simp] theorem State.setSlot_sdc : (s.setSlot k x).sdc = s.sdc := rfl
@[simp] theorem State.setSlot_host : (s.setSlot k x).host = s.host := rfl
@[simp] theorem State.setSlot_boot : (s.setSlot k x).boot = s.boot := rfl
end setSlot

section setTally
variable (g : Nat) (r : TallyRec)
@[simp] theorem State.setTally_pending : (s.setTally g r).pending = s.pending := rfl
@[simp] theorem State.setTally_chart : (s.setTally g r).chart = s.chart := rfl
@[simp] theorem State.setTally_regs : (s.setTally g r).regs = s.regs := rfl
@[simp] theorem State.setTally_evNow : (s.setTally g r).evNow = s.evNow := rfl
@[simp] theorem State.setTally_latch : (s.setTally g r).latch = s.latch := rfl
@[simp] theorem State.setTally_refusedNow : (s.setTally g r).refusedNow = s.refusedNow := rfl
@[simp] theorem State.setTally_wrNow : (s.setTally g r).wrNow = s.wrNow := rfl
@[simp] theorem State.setTally_expertStart : (s.setTally g r).expertStart = s.expertStart := rfl
@[simp] theorem State.setTally_free : (s.setTally g r).free = s.free := rfl
@[simp] theorem State.setTally_grid : (s.setTally g r).grid = s.grid := rfl
@[simp] theorem State.setTally_eng : (s.setTally g r).eng = s.eng := rfl
@[simp] theorem State.setTally_stg : (s.setTally g r).stg = s.stg := rfl
@[simp] theorem State.setTally_clk : (s.setTally g r).clk = s.clk := rfl
@[simp] theorem State.setTally_adc : (s.setTally g r).adc = s.adc := rfl
@[simp] theorem State.setTally_pwm : (s.setTally g r).pwm = s.pwm := rfl
@[simp] theorem State.setTally_drv : (s.setTally g r).drv = s.drv := rfl
@[simp] theorem State.setTally_trp : (s.setTally g r).trp = s.trp := rfl
@[simp] theorem State.setTally_ctr : (s.setTally g r).ctr = s.ctr := rfl
@[simp] theorem State.setTally_mem : (s.setTally g r).mem = s.mem := rfl
@[simp] theorem State.setTally_twn : (s.setTally g r).twn = s.twn := rfl
@[simp] theorem State.setTally_snd : (s.setTally g r).snd = s.snd := rfl
@[simp] theorem State.setTally_sdc : (s.setTally g r).sdc = s.sdc := rfl
@[simp] theorem State.setTally_host : (s.setTally g r).host = s.host := rfl
@[simp] theorem State.setTally_boot : (s.setTally g r).boot = s.boot := rfl
end setTally

/-! Register fields. -/

/-- A field is read from the register fields alone. -/
theorem State.fld_congr {s t : State} (h : t.regs = s.regs) (f : Fld) : t.fld f = s.fld f := by unfold State.fld; rw [h]

theorem State.fld_setFld_same (f : Fld) (v : Nat) : (s.setFld f v).fld f = v % 2 ^ f.width :=
  tabGet_set_same _ _ _ _

theorem State.fld_setFld_other {f g : Fld} (v : Nat) (h : g.key ≠ f.key) : (s.setFld f v).fld g = s.fld g :=
  tabGet_set_other _ _ _ _ h

theorem State.fld_setFld (f g : Fld) (v : Nat) :
    (s.setFld f v).fld g = if g.key = f.key then v % 2 ^ f.width else s.fld g := by
  split
  next h => unfold State.fld State.setFld; rw [h]; exact tabGet_set_same _ _ _ _
  next h => exact s.fld_setFld_other v h

theorem State.fld_setSfld (f g : Fld) (v : Int) :
    (s.setSfld f v).fld g = if g.key = f.key then unsignedOf f.width v % 2 ^ f.width else s.fld g := s.fld_setFld f g _

theorem State.fld_raiseBit (f g : Fld) (b : Nat) :
    (s.raiseBit f b).fld g = if g.key = f.key then setBit (s.fld f) b % 2 ^ f.width else s.fld g := s.fld_setFld f g _

theorem State.fld_raise (f g : Fld) :
    (s.raise f).fld g = if g.key = f.key then setBit (s.fld f) 0 % 2 ^ f.width else s.fld g := s.fld_setFld f g _

theorem State.fld_count (f g : Fld) : (s.count f).fld g =
    if g.key = f.key then (if s.fld f + 1 < 2 ^ f.width then s.fld f + 1 else s.fld f) % 2 ^ f.width else s.fld g :=
  s.fld_setFld f g _

theorem State.fld_stamp (lo hi g : Fld) (v : Nat) : (s.stamp lo hi v).fld g =
    if g.key = hi.key then v / 2 ^ 32 % 2 ^ hi.width else if g.key = lo.key then v % 2 ^ 32 % 2 ^ lo.width else s.fld g := by
  unfold State.stamp; rw [State.fld_setFld, State.fld_setFld]

@[simp] theorem State.note_fld (k : Nat) (f : Fld) : (s.note k).fld f = s.fld f := rfl
@[simp] theorem State.mark_fld (k : Nat) (f : Fld) : (s.mark k).fld f = s.fld f := rfl
@[simp] theorem State.setLatch_fld (p : Port) (a v : Nat) (f : Fld) : (s.setLatch p a v).fld f = s.fld f := rfl
@[simp] theorem State.setCtx_fld (n : Nat) (r : CtxRun) (f : Fld) : (s.setCtx n r).fld f = s.fld f := rfl
@[simp] theorem State.setRuns_fld (c : Nat) (n : Option Nat) (f : Fld) : (s.setRuns c n).fld f = s.fld f := rfl
@[simp] theorem State.setReg_fld (n r w : Nat) (f : Fld) : (s.setReg n r w).fld f = s.fld f := rfl
@[simp] theorem State.setAcc_fld (n i : Nat) (a : Acc) (f : Fld) : (s.setAcc n i a).fld f = s.fld f := rfl
@[simp] theorem State.setSt_fld (c i : Nat) (w : MWord) (f : Fld) : (s.setSt c i w).fld f = s.fld f := rfl
@[simp] theorem State.setGrp_fld (g : Nat) (r : GroupRun) (f : Fld) : (s.setGrp g r).fld f = s.fld f := rfl
@[simp] theorem State.setLeg_fld (n : Nat) (r : LegRun) (f : Fld) : (s.setLeg n r).fld f = s.fld f := rfl
@[simp] theorem State.setGcar_fld (g : Nat) (r : CarRun) (f : Fld) : (s.setGcar g r).fld f = s.fld f := rfl
@[simp] theorem State.setDleg_fld (n : Nat) (r : DrvLeg) (f : Fld) : (s.setDleg n r).fld f = s.fld f := rfl
@[simp] theorem State.setDdie_fld (d : Nat) (r : DrvDie) (f : Fld) : (s.setDdie d r).fld f = s.fld f := rfl
@[simp] theorem State.setConv_fld (c : Nat) (r : ConvRun) (f : Fld) : (s.setConv c r).fld f = s.fld f := rfl
@[simp] theorem State.setDch_fld (c : Nat) (r : DmaCh) (f : Fld) : (s.setDch c r).fld f = s.fld f := rfl
@[simp] theorem State.setPort_fld (p : Port) (r : PortRun) (f : Fld) : (s.setPort p r).fld f = s.fld f := rfl
@[simp] theorem State.setGen_fld (g : Nat) (r : SndGen) (f : Fld) : (s.setGen g r).fld f = s.fld f := rfl
@[simp] theorem State.setNode_fld (g : Nat) (r : BrgNode) (f : Fld) : (s.setNode g r).fld f = s.fld f := rfl
@[simp] theorem State.setProbe_fld (p : Nat) (r : ProbeRun) (f : Fld) : (s.setProbe p r).fld f = s.fld f := rfl
@[simp] theorem State.setSeq_fld (k : Nat) (r : SeqRun) (f : Fld) : (s.setSeq k r).fld f = s.fld f := rfl
@[simp] theorem State.setRecQ_fld (c : Nat) (r : RecQueue) (f : Fld) : (s.setRecQ c r).fld f = s.fld f := rfl
@[simp] theorem State.setTwn_fld (r : TwnRun) (f : Fld) : (s.setTwn r).fld f = s.fld f := rfl
@[simp] theorem State.setSdc_fld (r : SdcRun) (f : Fld) : (s.setSdc r).fld f = s.fld f := rfl
@[simp] theorem State.setSec_fld (r : SecRun) (f : Fld) : (s.setSec r).fld f = s.fld f := rfl
@[simp] theorem State.setSlot_fld (k : Nat) (x : KeySlot) (f : Fld) : (s.setSlot k x).fld f = s.fld f := rfl
@[simp] theorem State.setTally_fld (g : Nat) (r : TallyRec) (f : Fld) : (s.setTally g r).fld f = s.fld f := rfl

/-! Records. -/

@[simp] theorem State.grp_setGrp_same (n : Nat) (r : GroupRun) : (s.setGrp n r).grp n = r := tabGet_set_same _ _ _ _
theorem State.grp_setGrp_other {n m : Nat} (r : GroupRun) (h : m ≠ n) : (s.setGrp n r).grp m = s.grp m := tabGet_set_other _ _ _ _ h
@[simp] theorem State.leg_setLeg_same (n : Nat) (r : LegRun) : (s.setLeg n r).leg n = r := tabGet_set_same _ _ _ _
theorem State.leg_setLeg_other {n m : Nat} (r : LegRun) (h : m ≠ n) : (s.setLeg n r).leg m = s.leg m := tabGet_set_other _ _ _ _ h
@[simp] theorem State.gcar_setGcar_same (n : Nat) (r : CarRun) : (s.setGcar n r).gcar n = r := tabGet_set_same _ _ _ _
theorem State.gcar_setGcar_other {n m : Nat} (r : CarRun) (h : m ≠ n) : (s.setGcar n r).gcar m = s.gcar m := tabGet_set_other _ _ _ _ h
@[simp] theorem State.dleg_setDleg_same (n : Nat) (r : DrvLeg) : (s.setDleg n r).dleg n = r := tabGet_set_same _ _ _ _
theorem State.dleg_setDleg_other {n m : Nat} (r : DrvLeg) (h : m ≠ n) : (s.setDleg n r).dleg m = s.dleg m := tabGet_set_other _ _ _ _ h
@[simp] theorem State.ddie_setDdie_same (n : Nat) (r : DrvDie) : (s.setDdie n r).ddie n = r := tabGet_set_same _ _ _ _
theorem State.ddie_setDdie_other {n m : Nat} (r : DrvDie) (h : m ≠ n) : (s.setDdie n r).ddie m = s.ddie m := tabGet_set_other _ _ _ _ h
@[simp] theorem State.conv_setConv_same (n : Nat) (r : ConvRun) : (s.setConv n r).conv n = r := tabGet_set_same _ _ _ _
theorem State.conv_setConv_other {n m : Nat} (r : ConvRun) (h : m ≠ n) : (s.setConv n r).conv m = s.conv m := tabGet_set_other _ _ _ _ h
@[simp] theorem State.dch_setDch_same (n : Nat) (r : DmaCh) : (s.setDch n r).dch n = r := tabGet_set_same _ _ _ _
theorem State.dch_setDch_other {n m : Nat} (r : DmaCh) (h : m ≠ n) : (s.setDch n r).dch m = s.dch m := tabGet_set_other _ _ _ _ h
@[simp] theorem State.gen_setGen_same (n : Nat) (r : SndGen) : (s.setGen n r).gen n = r := tabGet_set_same _ _ _ _
theorem State.gen_setGen_other {n m : Nat} (r : SndGen) (h : m ≠ n) : (s.setGen n r).gen m = s.gen m := tabGet_set_other _ _ _ _ h
@[simp] theorem State.node_setNode_same (n : Nat) (r : BrgNode) : (s.setNode n r).node n = r := tabGet_set_same _ _ _ _
theorem State.node_setNode_other {n m : Nat} (r : BrgNode) (h : m ≠ n) : (s.setNode n r).node m = s.node m := tabGet_set_other _ _ _ _ h
@[simp] theorem State.probe_setProbe_same (n : Nat) (r : ProbeRun) : (s.setProbe n r).probe n = r := tabGet_set_same _ _ _ _
theorem State.probe_setProbe_other {n m : Nat} (r : ProbeRun) (h : m ≠ n) : (s.setProbe n r).probe m = s.probe m := tabGet_set_other _ _ _ _ h
@[simp] theorem State.seq_setSeq_same (n : Nat) (r : SeqRun) : (s.setSeq n r).seq n = r := tabGet_set_same _ _ _ _
theorem State.seq_setSeq_other {n m : Nat} (r : SeqRun) (h : m ≠ n) : (s.setSeq n r).seq m = s.seq m := tabGet_set_other _ _ _ _ h
@[simp] theorem State.recQ_setRecQ_same (n : Nat) (r : RecQueue) : (s.setRecQ n r).recQ n = r := tabGet_set_same _ _ _ _
theorem State.recQ_setRecQ_other {n m : Nat} (r : RecQueue) (h : m ≠ n) : (s.setRecQ n r).recQ m = s.recQ m := tabGet_set_other _ _ _ _ h
@[simp] theorem State.ctx_setCtx_same (n : Nat) (r : CtxRun) : (s.setCtx n r).ctx n = r := tabGet_set_same _ _ _ _
theorem State.ctx_setCtx_other {n m : Nat} (r : CtxRun) (h : m ≠ n) : (s.setCtx n r).ctx m = s.ctx m := tabGet_set_other _ _ _ _ h
@[simp] theorem State.tallyRec_setTally_same (n : Nat) (r : TallyRec) : (s.setTally n r).tallyRec n = r := tabGet_set_same _ _ _ _
theorem State.tallyRec_setTally_other {n m : Nat} (r : TallyRec) (h : m ≠ n) : (s.setTally n r).tallyRec m = s.tallyRec m := tabGet_set_other _ _ _ _ h
@[simp] theorem State.runs_setRuns_same (c : Nat) (n : Option Nat) : (s.setRuns c n).runs c = n := tabGet_set_same _ _ _ _
theorem State.runs_setRuns_other {c d : Nat} (n : Option Nat) (h : d ≠ c) : (s.setRuns c n).runs d = s.runs d := tabGet_set_other _ _ _ _ h
@[simp] theorem State.port_setPort_same (p : Port) (r : PortRun) : (s.setPort p r).port p = r := tabGet_set_same _ _ _ _

/-! The engine's registers and accumulators. -/

theorem State.reg_setReg_same (n r w : Nat) : (s.setReg n r w).reg n r = w % 2 ^ 32 := by
  unfold State.reg State.setReg; rw [State.bankKey, State.bankKey]
  exact (congrArg (· % 2 ^ 32) (tabGet_set_same _ _ _ _)).trans (Nat.mod_mod _ _)

theorem State.reg_setReg_other {n r m q : Nat} (w : Nat) (h : s.bankKey m q ≠ s.bankKey n r) : (s.setReg n r w).reg m q = s.reg m q :=
  congrArg (· % 2 ^ 32) (tabGet_set_other _ _ _ _ h)

theorem State.reg_lt (n r : Nat) : s.reg n r < 2 ^ 32 := Nat.mod_lt _ (by decide)

theorem State.acc_setAcc_same (n i : Nat) (a : Acc) : (s.setAcc n i a).acc n i = a := tabGet_set_same _ _ _ _

@[simp] theorem State.reg_setAcc (n i m q : Nat) (a : Acc) : (s.setAcc n i a).reg m q = s.reg m q := rfl
@[simp] theorem State.acc_setReg (n r w m i : Nat) : (s.setReg n r w).acc m i = s.acc m i := rfl
@[simp] theorem State.cfg_setReg (n r w m : Nat) : (s.setReg n r w).cfg m = s.cfg m := rfl
@[simp] theorem State.cfg_setAcc (n i m : Nat) (a : Acc) : (s.setAcc n i a).cfg m = s.cfg m := rfl
@[simp] theorem State.cfg_setCtx (n m : Nat) (r : CtxRun) : (s.setCtx n r).cfg m = s.cfg m := rfl
@[simp] theorem State.reg_setCtx (n m q : Nat) (r : CtxRun) : (s.setCtx n r).reg m q = s.reg m q := rfl
@[simp] theorem State.acc_setCtx (n m i : Nat) (r : CtxRun) : (s.setCtx n r).acc m i = s.acc m i := rfl

/-! The engine is not touched where the flags of a context are set. -/

@[simp] theorem State.satFlag_eng (n : Nat) (b : Bool) : (s.satFlag n b).eng = s.eng := by cases b <;> rfl
@[simp] theorem State.asatFlag_eng (n : Nat) (b : Bool) : (s.asatFlag n b).eng = s.eng := by cases b <;> rfl

end Sys2Proof.Machine
end

