-- ==== Sys2Proof/Laws/Shared.lean ====
section
/-!
SUPPORT. What the shared operations do, once each: a port's write, the issue of an operation, and the writes of a register or an
accumulator that follow it.
-/

namespace Sys2Proof.Machine

/-- A write that is taken does its body on the state that notes it (R418). -/
theorem State.portWrite_takes {s : State} {p : Port} {a : Nat} (h : s.Takes p a) (body : State → State) :
    s.portWrite p a body = body (s.noteWrite p a) := by
  unfold State.portWrite; simp [h.out, h.answers, h.may]

/-- The note of a write changes no register field but PORTCOL_S (R418). -/
theorem State.noteWrite_fields (s : State) (p : Port) (a : Nat) : OnlyFlds [Reg.SYS_EVENT_PORTCOL_S] s (s.noteWrite p a) := by
  intro f hf
  have h : f.key ≠ Reg.SYS_EVENT_PORTCOL_S.key := hf _ (by simp)
  unfold State.noteWrite
  split
  · exact s.fld_setFld_other _ h
  · rfl

theorem State.noteWrite_fld (s : State) (p : Port) (a : Nat) {f : Fld} (h : f.key ≠ Reg.SYS_EVENT_PORTCOL_S.key) :
    (s.noteWrite p a).fld f = s.fld f := s.noteWrite_fields p a f (by simpa using h)

theorem OnlyFlds.refl (l : List Fld) (s : State) : OnlyFlds l s s := fun _ _ => rfl

theorem OnlyFlds.trans {l : List Fld} {s t u : State} (h : OnlyFlds l s t) (h' : OnlyFlds l t u) : OnlyFlds l s u :=
  fun f hf => (h' f hf).trans (h f hf)

theorem OnlyFlds.mono {l l' : List Fld} {s t : State} (h : OnlyFlds l s t) (hl : ∀ g ∈ l, g ∈ l') : OnlyFlds l' s t :=
  fun f hf => h f fun g hg => hf g (hl g hg)

theorem OnlyFlds.setFld {l : List Fld} {s t : State} (h : OnlyFlds l s t) {f : Fld} (hf : f ∈ l) (v : Nat) : OnlyFlds l s (t.setFld f v) :=
  h.trans fun _ hg => t.fld_setFld_other v (hg f hf)

/-- A change of the state that leaves the register fields in effect. -/
theorem OnlyFlds.same {l : List Fld} {s t u : State} (h : OnlyFlds l s t) (hu : u.regs = t.regs) : OnlyFlds l s u :=
  h.trans fun f _ => State.fld_congr hu f

/-- An operation that issues does its body on the state that has moved past it (R101, R104, R112). -/
theorem State.issueOp_issues {s : State} {c n : Nat} {o : OpWord} (h : s.Issues c n o) (body : Nat → OpWord → State → State) :
    s.issueOp c o.op body = body n o (s.advance n) := by
  have hop : o.op = (s.curOp n).op := by rw [h.spells]
  have hw : s.eccRead c (bunAddr c ((s.ctx n).pc % 512)) (s.onOld n) (s.bunWord n (s.ctx n).pc) = s := by
    unfold State.eccRead; rw [h.sound]
  unfold State.issueOp
  rw [h.issuer]
  simp only [hw, h.sound]
  rw [if_neg (by simp), if_neg (by rw [hop]; simp [State.curOp])]
  rw [h.spells]; rfl

@[simp] theorem State.advance_reg (s : State) (n m r : Nat) : (s.advance n).reg m r = s.reg m r := rfl
@[simp] theorem State.advance_acc (s : State) (n m i : Nat) : (s.advance n).acc m i = s.acc m i := rfl
@[simp] theorem State.advance_fld (s : State) (n : Nat) (f : Fld) : (s.advance n).fld f = s.fld f := rfl
@[simp] theorem State.advance_cfg (s : State) (n m : Nat) : (s.advance n).cfg m = s.cfg m := rfl

theorem setBit_zero_odd (n : Nat) : setBit n 0 % 2 = 1 := by
  by_cases h : bitOf n 0 = true
  · simp only [setBit, h, if_true]; simpa [bitOf] using h
  · simp only [setBit, h]; simp [bitOf] at h ⊢; omega

/-- A sticky bit that is set reads 1 (R16). -/
theorem State.on_raise_same (s : State) {f : Fld} (h : f.width = 1) : (s.raise f).on f = true := by
  simp only [State.on, State.fld_raise, if_true, h]
  simpa using setBit_zero_odd (s.fld f)

theorem State.on_raise_other (s : State) {f g : Fld} (h : g.key ≠ f.key) : (s.raise f).on g = s.on g := by
  simp only [State.on, State.fld_raise, if_neg h]

theorem State.satFlag_on (s : State) (n : Nat) (b : Bool) : (s.satFlag n b).on (Reg.GRT_CTX_STATUS_SAT_S (n % 128)) =
    (s.on (Reg.GRT_CTX_STATUS_SAT_S (n % 128)) || b) := by
  cases b
  · rw [Bool.or_false]; rfl
  · rw [Bool.or_true]; exact State.on_raise_same s rfl

theorem State.asatFlag_on (s : State) (n : Nat) (b : Bool) : (s.asatFlag n b).on (Reg.GRT_CTX_STATUS_ASAT_S (n % 128)) =
    (s.on (Reg.GRT_CTX_STATUS_ASAT_S (n % 128)) || b) := by
  cases b
  · rw [Bool.or_false]; rfl
  · rw [Bool.or_true]; exact State.on_raise_same s rfl

/-- The register write of an operation, and the flag of its saturation. -/
theorem WritesReg.of_setReg (s : State) (n d w : Nat) (sat : Bool) : WritesReg s (((s.advance n).setReg n d w).satFlag n sat) n d w sat := by
  have he : (((s.advance n).setReg n d w).satFlag n sat).eng = ((s.advance n).setReg n d w).eng := by cases sat <;> rfl
  have hr : ∀ m r, (((s.advance n).setReg n d w).satFlag n sat).reg m r = ((s.advance n).setReg n d w).reg m r := by
    intro m r; cases sat <;> rfl
  refine ⟨?_, ?_, ?_, ?_, ?_, ?_⟩
  · rw [hr]; exact State.reg_setReg_same _ _ _ _
  · rw [State.satFlag_on]; rfl
  · intro m r hk; rw [hr]; exact State.reg_setReg_other _ w hk
  · rw [he]; rfl
  · intro f hf
    cases sat
    · rfl
    · exact State.fld_setFld_other _ _ (hf _ (by simp))
  · exact (State.satFlag_in _ n sat).thn (by decide) ((State.setReg_in _ n d w).thn (by decide) ((State.advance_in s n).mono (by decide)))

/-- The accumulator write of an operation, and the flag of its bound. -/
theorem WritesAcc.of_setAcc (s : State) (n i : Nat) (a : Acc) (sat : Bool) : WritesAcc s (((s.advance n).setAcc n i a).asatFlag n sat) n i a sat := by
  have he : (((s.advance n).setAcc n i a).asatFlag n sat).eng = ((s.advance n).setAcc n i a).eng := by cases sat <;> rfl
  have hr : ∀ m j, (((s.advance n).setAcc n i a).asatFlag n sat).acc m j = ((s.advance n).setAcc n i a).acc m j := by
    intro m j; cases sat <;> rfl
  refine ⟨?_, ?_, ?_, ?_, ?_, ?_⟩
  · rw [hr]; exact State.acc_setAcc_same _ _ _ _
  · rw [State.asatFlag_on]; rfl
  · intro m j hk; rw [hr]; exact tabGet_set_other _ _ _ _ hk
  · rw [he]; rfl
  · intro f hf
    cases sat
    · rfl
    · exact State.fld_setFld_other _ _ (hf _ (by simp))
  · exact (State.asatFlag_in _ n sat).thn (by decide) ((State.setAcc_in _ n i a).thn (by decide) ((State.advance_in s n).mono (by decide)))

end Sys2Proof.Machine
end

