-- ==== Sys2Proof/Tests/Slice0.lean ====
section
/-!
SUPPORT. Tests: ill-formed commands are refused, operation words written out from R101 decode as they read, and every statement with hypotheses has
its witness: small states that meet the hypotheses of its clauses, at the boundaries of their ranges, with what each clause says of them. A
test is about one step; its expected values come from the rule that it names.
-/

namespace Sys2Proof.Tests

open Sys2Proof Sys2Proof.Machine

set_option Elab.async false

/-- Fields set one after another. -/
def put (s : State) (l : List (Fld × Nat)) : State := l.foldl (fun t e => t.setFld e.1 e.2) s

/-- The state after reset with the clocks locked, so that every block answers. -/
def up : State := { State.reset with clk := { State.reset.clk with locked := true } }

/-- The same with fields set. -/
def upWith (l : List (Fld × Nat)) : State := put up l

/-- At a chart time. -/
def at_ (t : Nat) (s : State) : State := { s with chart := BitVec.ofNat 64 t }

/-- The command answers a next state that passes a check. -/
def runs (i : Instr) (s : State) (p : State → Bool) : Bool :=
  match exec i s with
  | .next t => p t
  | _ => false

/-- The command answers the state as it was. -/
def stays (i : Instr) (s : State) : Bool := runs i s fun t => decide (t = s)

/-- The command stops as one that no wire can carry. -/
def stops (i : Instr) (s : State) : Bool :=
  match exec i s with
  | .fault .illFormed => true
  | _ => false

/-- No other command of the C-cycle waits, so that none has to act before the one at hand. -/
def alone (s : State) : Bool := s.pending == [] && s.later == []

/-- No field but those listed differs in effect. -/
def only (l : List Fld) (s t : State) : Bool :=
  (s.regs.eff ++ t.regs.eff).all fun e => l.any (fun f => f.key == e.1) ||
    tabGet (resetOf e.1) s.regs.eff e.1 == tabGet (resetOf e.1) t.regs.eff e.1

/-- The port's write is taken. -/
def takes (s : State) (p : Port) (a : Nat) : Bool :=
  !(s.awaits fun i => i.beforeWrite p a) && !s.boot.held && s.answersAt a && s.mayWrite p

/-- The port's write is refused, with its record, but for fields that it may give their values. -/
def turnedBut (l : List Fld) (s t : State) (p : Port) (a : Nat) : Bool :=
  t.on Reg.SYS_EVENT_WRREJ_S && t.fld Reg.SYS_REJ_ADDR == a % 2 ^ 32 && t.fld Reg.SYS_REJ_INFO_PORT == Port.code p
    && t.fld Reg.SYS_REJ_INFO_VALID == 1
    && only ([Reg.SYS_EVENT_WRREJ_S, Reg.SYS_REJ_ADDR, Reg.SYS_REJ_INFO_PORT, Reg.SYS_REJ_INFO_VALID, Reg.SYS_EVENT_PORTCOL_S] ++ l) s t

/-- The port's write is refused, with its record. -/
def turned (s t : State) (p : Port) (a : Nat) : Bool := turnedBut [] s t p a

/-- The CRC of a frame's bytes. -/
def crcOf (l : List Nat) : BitVec 16 := BitVec.ofNat 16 (frameCrc l)

/-- An image with one controlled group, one leg of it and its fault actions. -/
def imgOf (g : Nat) (fault : List Nat) : Img :=
  { groups := [{ group := g, typ := 0, vtA := 0, vtB := 1, vtC := 2, ioA := 3, ioB := 4, ioC := 5 }],
    legs := [{ leg := 0, used := true, group := g }], fault := fault }

/-- An armed module in RUN whose image defines group `g`, in a mode and with a record. -/
def gridUp (g mode : Nat) (r : GroupRun) (l : List (Fld × Nat)) : State :=
  { upWith ([(Reg.SYS_BOOT_STATUS_PHASE, 6), (Reg.SDC_STATUS_STATE, 2), (Reg.GFM_EVT_STATUS_MODE g, mode), (Reg.GFM_BASE_V g, 400),
      (Reg.GFM_BASE_I g, 10), (Reg.GFM_BASE_DC g, 700), (Reg.GFM_LF_LF g, 1), (Reg.GFM_CF_CF g, 1)] ++ l) with
    grid := [(g, r)], stg := { up.stg with active := some (imgOf g []) } }

/-- The same with a fault action of group `g` for a source. -/
def acting (g src code : Nat) (s : State) : State :=
  { s with stg := { s.stg with active := some (imgOf g (List.replicate (16 * g + src) 0 ++ [code])) } }

/-! Well-formedness: frames that no wire can carry are stopped by name. -/

theorem test_hostWrite_without_words : ¬ WellFormed (.hostWrite .host 0x000C [] 0) ∧ stops (.hostWrite .host 0x000C [] 0) up = true := by
  unfold WellFormed; decide +kernel
theorem test_hostWrite_with_65_words : ¬ WellFormed (.hostWrite .host 0x000C (List.replicate 65 0) 0) ∧ stops (.hostWrite .host 0x000C (List.replicate 65 0) 0) up = true := by
  unfold WellFormed; decide +kernel
theorem test_hostWriteFixed_without_words : ¬ WellFormed (.hostWriteFixed .svc 0x000C [] 0) ∧ stops (.hostWriteFixed .svc 0x000C [] 0) up = true := by
  unfold WellFormed; decide +kernel
theorem test_hostWriteFixed_with_65_words : ¬ WellFormed (.hostWriteFixed .svc 0x000C (List.replicate 65 0) 0) ∧ stops (.hostWriteFixed .svc 0x000C (List.replicate 65 0) 0) up = true := by
  unfold WellFormed; decide +kernel
theorem test_hostNop_as_a_write : ¬ WellFormed (.hostNop .host 2 0 0 0) ∧ stops (.hostNop .host 2 0 0 0) up = true := by
  unfold WellFormed; decide +kernel
theorem test_hostNop_as_a_fixed_write : ¬ WellFormed (.hostNop .host 3 0 0 0) ∧ stops (.hostNop .host 3 0 0 0) up = true := by
  unfold WellFormed; decide +kernel
theorem test_hostNop_as_a_read : ¬ WellFormed (.hostNop .host 0x0B 0 0 0) ∧ stops (.hostNop .host 0x0B 0 0 0) up = true := by
  unfold WellFormed; decide +kernel
theorem test_table_gives_no_bits : decodeTableWord 64 0 = none ∧ (up.withFetchWord 64 0).pending = [] := by decide +kernel

/-! The queue, the step and the whole machine. -/

theorem witness_step_front :
    (match step (up.queueFirst (.chartLoRead .host)) with
      | .next t => (t.port .host).reply.isSome
      | _ => false) = true ∧
    (match step { up with later := [.chartLoRead .host, .chartLoRead .svc] } with
      | .next t => (t.port .host).reply.isSome && t.later == [.chartLoRead .svc]
      | _ => false) = true := by decide +kernel

theorem witness_empty_queue_cycle :
    (match step { up with boot := { up.boot with frac := 400000000 - 32768 } } with
      | .next t => t.chart == 1#64 && t.sec.rtc == 1 && t.boot.frac == 0 && t.eng.real == up.eng.rho
      | _ => false) = true ∧
    (match step { up with boot := { up.boot with frac := 400000000 - 32769 } } with
      | .next t => t.sec.rtc == 0 && t.boot.frac == 399999999
      | _ => false) = true ∧
    (match step { up with boot := { up.boot with held := true, frac := 400000000 - 32768 } } with
      | .next t => t.chart == 0#64 && t.sec.rtc == 1 && decide (t.regs = up.regs)
      | _ => false) = true := by decide +kernel

theorem witness_queue_ok : ({ up with pending := [.hostWrite .host 0x000C [1] 0] } : State).QueueOk := by
  intro c h
  have h : c ∈ [Instr.hostWrite .host 0x000C [1] 0] := h
  simp at h
  subst h
  unfold WellFormed
  decide +kernel

theorem witness_canonical : State.reset.canonical = true ∧
    (match step { up with pending := [.registerWrite .host 3 5] } with
      | .next t => t.canonical && t.pending == []
      | _ => false) = true := by decide +kernel

theorem witness_reset_rows : State.reset.fld Reg.SYS_HOST_CFG_SIL_MS = 0 ∧ State.reset.fld Reg.SDC_FAULT_FIRST = 0xF := by decide +kernel

/-! Registers and ports. -/

theorem witness_register_writes :
    takes up .host Reg.SYS_CHART_LO.addr = true ∧ runs (.registerWrite .host 6 7) up (fun t => decide (t = up.noteWrite .host 0x18)) = true ∧
    takes up .svc sysScratch.addr = true ∧
    runs (.registerWrite .svc 3 0xFFFFFFFF) up (fun t => t.fld sysScratch == 0xFFFFFFFF && only [sysScratch] up t) = true ∧
    runs (.registerWrite .host 0x24 2) up (fun t => t.fld Reg.SYS_SVC_CFG_BAUD == 2 && only [Reg.SYS_SVC_CFG_BAUD] up t) = true ∧
    runs (.registerWrite .host 0x24 3) up (fun t => turned up t .host Reg.SYS_SVC_CFG_BAUD.addr) = true := by decide +kernel

theorem witness_register_sticky_and_counter :
    let s := upWith [(Reg.SYS_EVENT_WRREJ_S, 1), (Reg.SYS_EVENT_FRAME_S, 1), (Reg.SYS_SVC_CNT_SVCERR_CNT, 9)]
    runs (.registerWrite .host 9 1) s (fun t => !t.on Reg.SYS_EVENT_WRREJ_S && t.on Reg.SYS_EVENT_FRAME_S) = true ∧
    runs (.registerWrite .host 9 1) { s with evNow := [Reg.SYS_EVENT_WRREJ_S.key] } (fun t => t.on Reg.SYS_EVENT_WRREJ_S) = true ∧
    runs (.registerWrite .host 0x25 1) s (fun t => t.fld Reg.SYS_SVC_CNT_SVCERR_CNT == 9) = true ∧
    runs (.registerWrite .host 0x25 0) s (fun t => t.fld Reg.SYS_SVC_CNT_SVCERR_CNT == 0) = true ∧
    runs (.registerWrite .host 0x80B 8) { s with expertStart := true } (fun t => t.fld Reg.STG_CDRAFT_ADDR == 8) = true ∧
    runs (.registerWrite .host 0x80B 8) s (fun t => turned s t .host Reg.STG_CDRAFT_ADDR.addr) = true := by decide +kernel

theorem witness_drafted_writes :
    let s := up
    takes s .host Reg.SYS_HOST_CFG_SIL_MS.addr = true ∧
    runs (.registerWrite .host 0x20 0) s (fun t => decide (t = s.noteWrite .host 0x80)) = true ∧
    runs (.registerWrite .host 0x20 0x1000A) s (fun t => t.shadowFld Reg.SYS_HOST_CFG_SIL_MS == 10 && t.shadowFld Reg.SYS_HOST_CFG_SIL_ACT == 1
      && t.fld Reg.SYS_HOST_CFG_SIL_MS == 0 && t.stgState == 1) = true ∧
    (let l := upWith [(Reg.STG_STATUS_STATE, sPENDING)]
     l.locked && runs (.registerWrite .host 0x20 10) l (fun t => turned l t .host 0x80 && t.regs.shadow == [])) = true := by decide +kernel

theorem witness_chart_latch :
    let s := at_ (5 * 2 ^ 32 + 7) up
    runs (.chartLoRead .svc) s (fun t => ((t.port .svc).reply.map (·.words)) == some [7] && t.latchAt .svc Reg.SYS_CHART_HI.addr == 5
      && t.latchAt .host Reg.SYS_CHART_HI.addr == 0) = true ∧
    (let h := s.setLatch .host Reg.SYS_CHART_HI.addr 3
     h.portFree .host && h.answersAt 0x1C &&
       runs (.hostRead .host 0x1C 0 (crcOf (requestBytes 0x0B 0 0x1C []))) h (fun t => ((t.port .host).reply.map (·.words)) == some [3]
         && t.latchAt .host 0x1C == 3)) = true := by decide +kernel

theorem witness_snapshots :
    let s := at_ (2 ^ 32 + 1) (upWith [(Reg.GFM_RV_EFF 7, 5)])
    runs (.snapLoRead .host 7) s (fun t => ((t.port .host).reply.map (·.words)) == some [1] && t.latchAt .host (Reg.GFM_SNAP_HI 7).addr == 1) = true ∧
    runs (.rtcLoRead .host) s (fun t => t.latchAt .host Reg.SEC_RTC_HI.addr == 0) = true ∧
    runs (.eExpLoRead .host 7) s (fun t => ((t.port .host).reply.map (·.words)) == some [0]) = true := by decide +kernel

theorem witness_frames :
    up.portFree .host = true ∧
    runs (.hostWrite .host 0x0C [9] (crcOf (requestBytes 2 0 0x0C [9]))) up (fun t => t.fld sysScratch == 9
      && (t.port .host).reply == some { status := 0, words := [], mask := 0 }) = true ∧
    runs (.hostWriteFixed .svc 0x0C [9] (crcOf (requestBytes 3 0 0x0C [9]))) up (fun t => t.fld sysScratch == 9) = true ∧
    runs (.hostRead .host 0x0C 0 (crcOf (requestBytes 0x0B 0 0x0C []))) (upWith [(sysScratch, 77)]) (fun t =>
      ((t.port .host).reply.map (·.words)) == some [77]) = true ∧
    runs (.hostNop .host 5 0 0 (crcOf (requestBytes 5 0 0 []))) { up with host := { up.host with silFrom := some 0 }, chart := 4 } (fun t =>
      t.host.silFrom == some 4 && (t.port .host).reply.isSome) = true ∧
    (let s := at_ 4 (upWith [(Reg.SYS_BOOT_STATUS_PHASE, 6), (Reg.SYS_HOST_CFG_SIL_MS, 5)])
     s.armed && runs (.hostNop .host 5 0 0 (crcOf (requestBytes 5 0 0 []))) s (fun t => t.host.silFrom == some 4)
       && runs (.hostNop .svc 5 0 0 (crcOf (requestBytes 5 0 0 []))) s (fun t => t.host.silFrom == none)
       && runs (.hostNop .host 5 0 0 (crcOf (requestBytes 5 0 0 []))) (s.setFld Reg.SYS_HOST_CFG_SIL_MS 0) (fun t => t.host.silFrom == none)) = true ∧
    runs (.hostRead .host 0x0C 0 (crcOf (requestBytes 0x0B 0 0x0C []) ^^^ 1)) up (fun t => t.on Reg.SYS_EVENT_FRAME_S
      && ((t.port .host).reply.map (·.status % 32)) == some 1 && t.fld Reg.SYS_HOST_CNT_FRAMEERR_CNT == 1) = true := by decide +kernel

/-- The bytes of two responses (R407): a status byte alone, and nine words with two mask bytes on the service port. -/
theorem test_response_bytes :
    ({ status := 0, words := [], mask := 0 } : Reply).wire .host = [0, 0xE1, 0xF0] ∧
    (let l := ({ status := 4, words := List.replicate 8 0 ++ [0x01020304], mask := 0x100 } : Reply).wire .svc
     l.length = 42 ∧ l.take 3 = [0x5A, 4, 0] ∧ (l.drop 34).take 6 = [1, 2, 3, 4, 0, 1]) := by decide +kernel

/-- A burst of register words, WRITE_FIXED of two words to one register, and requests of the DRAM window, of one word and of two. -/
theorem witness_write_bursts :
    (let s := upWith [(Reg.MEM_STATUS_INIT_DONE, 1)]
     !s.frameLost .host && ({ s with clk := { s.clk with xqAt := [(38, 1)] } } : State).frameLost .host
       && runs (.hostWrite .host 0x0C [9, 1] (crcOf (requestBytes 2 1 0x0C [9, 1]))) s (fun t => t.fld sysScratch == 9 && (t.port .host).reply.isSome)
       && runs (.hostWriteFixed .host 0x0C [9, 8] (crcOf (requestBytes 3 1 0x0C [9, 8]))) s (fun t => t.fld sysScratch == 8)
       && inWindow 0x10000000 && !burstLeaves 0x10000000 2 && !s.prot .host 0x10000004 true
       && runs (.hostWrite .host 0x10000000 [9, 1] (crcOf (requestBytes 2 1 0x10000000 [9, 1]))) s (fun t => (t.port .host).frame.map (·.words) == some [9, 1]
         && (t.port .host).frame.map (·.addrs) == some [s.winByte .host 0x10000000, s.winByte .host 0x10000004])
       && runs (.hostWriteFixed .host 0x10000000 [9, 1] (crcOf (requestBytes 3 1 0x10000000 [9, 1]))) s (fun t => (t.port .host).frame.map (·.addrs)
         == some [s.winByte .host 0x10000000, s.winByte .host 0x10000000])) = true := by decide +kernel

/-- A window write under the other port's claim, and a service request behind one that has yet to be served. -/
theorem witness_refused_and_queued_requests :
    (let s := upWith [(Reg.MEM_STATUS_INIT_DONE, 1), (Reg.SYS_PORT_OWNER, 2)]
     alone s && !s.mayWrite .host && s.portFree .host && !s.frameLost .host && !s.prot .host 0x10000000 true
       && runs (.hostWrite .host 0x10000000 [9] (crcOf (requestBytes 2 0 0x10000000 [9]))) s (fun t => t.on Reg.SYS_EVENT_WRREJ_S
         && t.fld Reg.SYS_REJ_ADDR == 0x10000000 && (t.port .host).frame.isNone && ((t.port .host).reply.map (·.status % 32)) == some stREFUSED
         && decide (t.mem = s.mem))) = true ∧
    (let s := up.setPort .svc { up.port .svc with frame := some { addrs := [64], asked := 0 } }
     !s.portFree .svc && !s.marked markReset && runs (.hostRead .svc 0x0C 0 0) s (fun t => t.host.svcQ == [.hostRead .svc 0x0C 0 0]
       && decide (t.regs = s.regs))) = true := by decide +kernel

theorem witness_incomplete_frames :
    let f : WinFrame := { addrs := [64], asked := 0 }
    let s := at_ 40000 (up.setPort .host { up.port .host with frame := some f })
    runs (.frameCutShort false) up (fun t => t.fld Reg.SYS_HOST_CNT_FRAMEERR_CNT == 1 && decide (t.host = up.host)) = true ∧
    stays (.frameCutShort true) up = true ∧
    runs (.frameCutShort true) s (fun t => t.fld Reg.SYS_HOST_CNT_ABANDON_CNT == 1 && (t.port .host).frame.isSome) = true ∧
    runs (.hostDramRequestTimeout .host) s (fun t => t.on Reg.SYS_EVENT_ABORT_S && (t.port .host).frame.isNone
      && ((t.port .host).reply.map (·.status % 32)) == some 16) = true ∧
    stays (.hostDramRequestTimeout .host) (at_ 39999 s) = true ∧
    runs .serviceRequestTimeout up (fun t => t.fld Reg.SYS_SVC_CNT_SVCERR_CNT == 1) = true := by decide +kernel

theorem witness_port_claims :
    runs (.portClaim .svc 2) (at_ 9 up) (fun t => t.fld Reg.SYS_PORT_OWNER == 2 && t.host.svcLast == 9) = true ∧
    runs (.portClaim .svc 1) up (fun t => turned up t .svc Reg.SYS_PORT_OWNER.addr) = true ∧
    (let s := upWith [(Reg.SYS_PORT_OWNER, 2)]
     runs (.registerWrite .host 3 1) s (fun t => turned s t .host 0x0C && t.refusedNow) &&
     runs (.hostWrite .host 0x0C [9] (crcOf (requestBytes 2 0 0x0C [9]))) s (fun t => ((t.port .host).reply.map (·.status % 32)) == some 8) &&
     runs (.chartLoRead .host) s (fun t => (t.port .host).reply.isSome) &&
     runs (.portClaim .svc 0) s (fun t => t.fld Reg.SYS_PORT_OWNER == 0) &&
     runs .serviceClaimLapse (at_ 4000000000 s) (fun t => t.fld Reg.SYS_PORT_OWNER == 0) &&
     stays .serviceClaimLapse (at_ 3999999999 s)) = true := by decide +kernel

theorem witness_host_silence :
    let s := at_ 400000 { upWith [(Reg.SYS_HOST_CFG_SIL_MS, 1), (Reg.SYS_PORT_OWNER, 1), (Reg.GFM_PSET 0, 5), (Reg.GFM_CTRL_EN 0, 1),
      (Reg.GFM_PSET 7, 6)] with host := { up.host with silFrom := some 0 } }
    runs .hostSilenceExpiry s (fun t => t.on Reg.SYS_EVENT_HOSTSIL_S && t.fld Reg.SYS_PORT_OWNER == 0 && t.host.silFrom == none
      && only [Reg.SYS_EVENT_HOSTSIL_S, Reg.SYS_PORT_OWNER] s t) = true ∧
    stays .hostSilenceExpiry (at_ 399999 s) = true ∧
    alone s = true ∧ runs .hostSilenceExpiry (s.setFld Reg.TWN_STATUS_ROLE roleSTANDBY) (fun t => t.on Reg.SYS_EVENT_HOSTSIL_S
      && t.fld Reg.SYS_PORT_OWNER == 1 && t.host.silFrom == none) = true ∧
    runs .hostSilenceExpiry (s.setFld Reg.SYS_HOST_CFG_SIL_ACT 1) (fun t => t.fld (Reg.GFM_PSET 0) == 0 && t.fld (Reg.GFM_PSET 7) == 6) = true := by
  decide +kernel

/-! Grid-forming control. -/

theorem witness_set_points :
    let s := gridUp 7 mISLAND {} [(Reg.GFM_PQMAX_PMAX 7, 1000)]
    takes s .host (spField 0 7).addr = true ∧ s.gfmOpen 7 = true ∧ s.role ≠ roleSTANDBY ∧
    runs (.setpointWrite .host 7 0 0x10000000) s (fun t => t.fld (spField 0 7) == 0x10000000 && only [spField 0 7] s t) = true ∧
    runs (.setpointWrite .host 7 0 0x10000001) s (fun t => turned s t .host (spField 0 7).addr) = true ∧
    runs (.secOffsetWrite (some .svc) 7 false 1) s (fun t => t.fld (Reg.GFM_SEC_DF 7) == 1) = true ∧
    runs (.secOffsetWrite none 7 false 1) s (fun t => t.fld (Reg.GFM_SEC_DF 7) == 0 && t.on Reg.SYS_EVENT_WRREJ_S) = true ∧
    (let b := s.setFld (Reg.GFM_CTRL_SEC_SRC 7) 1
     runs (.secOffsetWrite none 7 true (BitVec.ofInt 32 (-(tenThou 1000)))) b (fun t => t.sfld (Reg.GFM_SEC_DV 7) == -(tenThou 1000))
       && runs (.secOffsetWrite (some .host) 7 true 1) b (fun t => turned b t .host (Reg.GFM_SEC_DV 7).addr)
       && b.spOk 5 7 (tenThou 1000).toNat && !b.spOk 5 7 ((tenThou 1000).toNat + 1) && b.spOk 4 7 (tenThou 500).toNat) = true := by
  decide +kernel

theorem witness_group_start :
    let live : GroupRun := { trkT := { f := pu + 5, th := 9, v := pu / 2, valid := true }, brkClosed := true }
    let s := gridUp 7 mOFF live []
    takes s .host (Reg.GFM_CTRL_EN 7).addr = true ∧ s.controlled 7 = true ∧ s.basesUnset 7 = false ∧ s.armed = true ∧ s.sdcRun = true ∧
    runs (.groupStart .host 7) s (fun t => t.on (Reg.GFM_CTRL_EN 7) && t.mode 7 == mCONNECTED && (t.grp 7).omega == pu + 5
      && (t.grp 7).theta == 9 && (t.grp 7).eRef == pu / 2 && decide ((t.grp 7).govV = Gov.at (pu / 2))
      && only [Reg.GFM_CTRL_EN 7, Reg.GFM_STATUS_RUN 7, Reg.GFM_EVT_STATUS_MODE 7, Reg.GFM_ILIM_NOW 7] s t) = true ∧
    runs (.groupStart .host 7) { s with grid := [(7, { live with brkClosed := false })] } (fun t => t.mode 7 == mISLAND) = true ∧
    runs (.groupStart .host 6) s (fun t => turned s t .host (Reg.GFM_CTRL_EN 6).addr) = true := by decide +kernel

theorem witness_group_start_dead :
    let s := gridUp 7 mOFF { trkT := { v := pu / 2 - 1 } } [(Reg.GFM_BS_CFG_VDC_MIN 7, 500), (Reg.GFM_VDC_MEAS 7, (milli 500).toNat)]
    runs (.groupStart .host 7) s (fun t => t.mode 7 == mBLACK && t.on (Reg.GFM_CTRL_EN 7) && (t.grp 7).theta == 0
      && (t.grp 7).eRef == milli (s.fld (Reg.GFM_BS_RAMP_VSTART 7)) && (t.grp 7).omega == (t.grp 7).govF.out) = true ∧
    runs (.groupStart .host 7) (s.setFld (Reg.GFM_VDC_MEAS 7) ((milli 500).toNat - 1)) (fun t => t.mode 7 == mOFF
      && t.on (Reg.GFM_EVT_STATUS_BSFAIL_S 7) && !t.on (Reg.GFM_CTRL_EN 7)) = true := by decide +kernel

theorem witness_group_stop :
    let s := at_ 12000000000 (gridUp 0 mISLAND { omega := 7 } [])
    runs (.groupStop .host 0) s (fun t => t.mode 0 == mSTOPPING && (t.grp 0).stopPhase == 1 && (t.grp 0).stopFrom == mISLAND
      && (t.grp 0).omega == 7 && (t.grp 0).stopAt == 12000000000) = true ∧
    runs (.groupStop .host 0) (gridUp 0 mRIDE {} []) (fun t => t.mode 0 == mRIDE && (t.grp 0).stopInRide) = true ∧
    runs (.groupStop .host 0) (gridUp 0 mOFF {} []) (fun t => t.mode 0 == mOFF && decide (t.grp 0 = {})) = true ∧
    (let w := at_ 12000000000 (gridUp 0 mSTOPPING { stopPhase := 1, stopFrom := mCONNECTED } [])
     runs (.stopWaitTimeout 0) w (fun t => (t.grp 0).stopPhase == 3) && stays (.stopWaitTimeout 0) (at_ 11999999999 w)) = true ∧
    (let z := gridUp 0 mSTOPPING { stopPhase := 3, syncClose := true } [(Reg.PWM_LEG_STATUS_STATE 0, legACTIVE), (Reg.GFM_CTRL_EN 0, 1)]
     z.legIn 0 0 && z.atStart 0 && runs (.stopLegsOff 0) z (fun t => t.mode 0 == mOFF && !t.on (Reg.GFM_CTRL_EN 0)
       && t.fld (Reg.PWM_LEG_STATUS_STATE 0) == legOFF && !(t.grp 0).syncClose)) = true := by decide +kernel

theorem witness_resynchronisation :
    let s := gridUp 0 mISLAND { gridTime := msTicks 100 + 1 } [(Reg.GFM_GRID_QUAL_TQUAL 0, 1), (Reg.GFM_SYNC_T_TDWELL 0, 1)]
    let v := { s with stg := { s.stg with active := some { imgOf 0 [] with groups := [{ group := 0, typ := 0, vgA := 5 }] } } }
    runs (.syncArm .host 0) s (fun t => turned s t .host (Reg.GFM_SYNC_CTRL_ARM 0).addr) = true ∧
    runs (.syncArm .host 0) v (fun t => t.on (Reg.GFM_SYNC_CTRL_ARM 0) && only [Reg.GFM_SYNC_CTRL_ARM 0] v t) = true ∧
    runs (.syncArm .host 0) (v.setFld (Reg.GFM_EVT_STATUS_MODE 0) mCONNECTED) (fun t => !t.on (Reg.GFM_SYNC_CTRL_ARM 0)) = true ∧
    runs (.syncDisarm .host 0) (gridUp 0 mSYNCING { syncClose := true } [(Reg.GFM_SYNC_CTRL_AUTO 0, 0), (Reg.GFM_SYNC_CTRL_ARM 0, 1)])
      (fun t => t.mode 0 == mISLAND && !(t.grp 0).syncClose && !t.on (Reg.GFM_SYNC_CTRL_ARM 0)) = true ∧
    runs (.syncDisarm .host 0) (gridUp 0 mSYNCING {} [(Reg.GFM_SYNC_CTRL_AUTO 0, 1), (Reg.GFM_SYNC_CTRL_ARM 0, 1)])
      (fun t => t.mode 0 == mSYNCING && !t.on (Reg.GFM_SYNC_CTRL_ARM 0)) = true ∧
    runs (.gridReturned 0) (s.setFld (Reg.GFM_SYNC_CTRL_ARM 0) 1) (fun t => t.mode 0 == mSYNCING && t.on (Reg.GFM_EVT_STATUS_GRIDRET_S 0)) = true ∧
    runs (.gridReturned 0) ((s.setFld (Reg.GFM_SYNC_CTRL_ARM 0) 0).setFld (Reg.GFM_SYNC_CTRL_AUTO 0) 0) (fun t => t.mode 0 == mISLAND
      && (t.grp 0).gridBack) = true := by decide +kernel

theorem witness_sync_close :
    let s := at_ 500 (gridUp 7 mSYNCING { dwell := msTicks 1 + 1 } [(Reg.GFM_SYNC_T_TDWELL 7, 1)])
    heldFor (s.grp 7).dwell (msTicks (s.fld (Reg.GFM_SYNC_T_TDWELL 7))) = true ∧
    runs (.syncCloseAssert 7) s (fun t => (t.grp 7).syncClose && (t.grp 7).closeAt == 500 && t.fld (Reg.GFM_EVT_CNT_CLOSE_CNT 7) == 1
      && t.fld (Reg.GFM_CLOSE_STAMP_LO 7) == 500 && t.on (Reg.GFM_EVT_STATUS_CLOSE_S 7)) = true ∧
    runs (.syncClosePulseEnd 7) (at_ 4000000 (gridUp 7 mSYNCING { pulse := true, syncClose := true } [(Reg.GFM_SYNC_CTRL_PULSE 7, 1)]))
      (fun t => !(t.grp 7).syncClose && !(t.grp 7).pulse) = true ∧
    (let w := gridUp 7 mSYNCING { closeWait := true, syncClose := true } []
     runs (.closeWaitTimeout 7) (at_ (w.closeLimit 7) w) (fun t => t.on (Reg.GFM_EVT_STATUS_CLOSEFAIL_S 7) && !(t.grp 7).closeWait && t.mode 7 == mSYNCING)
       && stays (.closeWaitTimeout 7) (at_ (w.closeLimit 7 - 1) w)
       && (let c := at_ (w.closeLimit 7) (w.setGrp 7 { w.grp 7 with brkRaw := true })
           c.closeDue 7 && stays (.closeWaitTimeout 7) c)) = true := by decide +kernel

theorem witness_breaker :
    let open_ (m : Nat) := at_ 400000000 (gridUp 7 m { brkClosed := true, brkRaw := false, syncClose := true, rideFrom := mCONNECTED, omega := 3 }
      [(Reg.GFM_BRK_SRC 7, 0), (Reg.GFM_BRK_HOST_CLOSED 7, 0)])
    let shut (m : Nat) := at_ 400000000 (gridUp 7 m { brkClosed := false, brkRaw := true, syncClose := true, omega := 3 }
      [(Reg.GFM_BRK_SRC 7, 0), (Reg.GFM_BRK_HOST_CLOSED 7, 1)])
    (open_ mCONNECTED).brkBad 7 = false ∧ (open_ mCONNECTED).brkReading 7 = some false ∧ (shut mISLAND).brkReading 7 = some true ∧
    msCycles ((open_ mCONNECTED).fld (Reg.GFM_BRK_TDEB 7)) ≤ 400000000 ∧
    runs (.breakerStateChange 7) (open_ mCONNECTED) (fun t => t.mode 7 == mISLAND && t.on (Reg.GFM_EVT_STATUS_GRIDLOSS_S 7) && (t.grp 7).omega == 3
      && !(t.grp 7).syncClose && only [Reg.GFM_EVT_STATUS_GRIDLOSS_S 7, Reg.GFM_EVT_STATUS_MODE 7] (open_ mCONNECTED) t) = true ∧
    runs (.breakerStateChange 7) (open_ mRIDE) (fun t => t.mode 7 == mRIDE && (t.grp 7).rideFrom == mISLAND) = true ∧
    runs (.breakerStateChange 7) (shut mSYNCING) (fun t => t.mode 7 == mCONNECTED && !t.on (Reg.GFM_EVT_STATUS_UNSYNC_S 7)
      && only [Reg.GFM_EVT_STATUS_MODE 7] (shut mSYNCING) t) = true ∧
    (let u := (shut mSYNCING).setGrp 7 { (shut mSYNCING).grp 7 with syncClose := false, closeWait := true }
     runs (.breakerStateChange 7) u (fun t => t.mode 7 == mCONNECTED && t.on (Reg.GFM_EVT_STATUS_UNSYNC_S 7)
       && t.fld (Reg.GFM_FA_LAST_SOURCE 7) == 0x0A && !(t.grp 7).closeWait)) = true ∧
    runs (.breakerStateChange 7) (shut mISLAND) (fun t => t.mode 7 == mCONNECTED && t.on (Reg.GFM_EVT_STATUS_UNSYNC_S 7)
      && t.fld (Reg.GFM_FA_LAST_SOURCE 7) == 0x0A) = true := by decide +kernel

theorem witness_group_timers :
    let s (m code : Nat) := acting 7 9 code (at_ 4000000 (gridUp 7 m { vdcLow := some 0, ilim := pu } [(Reg.GFM_CTRL_EN 7, 1), (Reg.GFM_STATUS_RUN 7, 1)]))
    runs (.dcBusLowTimeout 7) (s mISLAND 0) (fun t => t.fld (Reg.GFM_FA_LAST_SOURCE 7) == 9 && t.fld (Reg.GFM_FA_LAST_ACTION 7) == 0
      && t.mode 7 == mISLAND && t.fld (Reg.GFM_FA_STAMP_LO 7) == 4000000) = true ∧
    runs (.dcBusLowTimeout 7) (s mISLAND 2) (fun t => (t.grp 7).derated && decide ((t.grp 7).ilim ≤ pu / 2)) = true ∧
    runs (.dcBusLowTimeout 7) (s mISLAND 3) (fun t => t.mode 7 == mSTOPPING && (t.grp 7).stopFrom == mISLAND) = true ∧
    runs (.dcBusLowTimeout 7) (s mISLAND 4) (fun t => t.mode 7 == mOFF && !t.on (Reg.GFM_CTRL_EN 7) && !t.on (Reg.GFM_STATUS_RUN 7)) = true ∧
    stays (.dcBusLowTimeout 7) (at_ 3999999 (s mISLAND 0)) = true ∧
    (let r := gridUp 0 mRIDE { zeroTime := msTicks 5, tzLim := msTicks 5, rideTime := msTicks 50, tlLim := msTicks 50, rideFrom := mISLAND } [(Reg.GFM_FRT_T_TZ 0, 5), (Reg.GFM_FRT_T_TL 0, 5)]
     !r.mayExit 0 && runs (.zeroVoltageTimeout 0) r (fun t => t.fld (Reg.GFM_FA_LAST_SOURCE 0) == 3 && t.on (Reg.GFM_EVT_STATUS_FRTX_S 0) && t.mode 0 == mRIDE)
       && runs (.rideTimeout 0) r (fun t => t.fld (Reg.GFM_FA_LAST_SOURCE 0) == 4 && t.mode 0 == mRIDE)) = true := by decide +kernel

theorem witness_ride_exit_and_black_start :
    let r := gridUp 0 mRIDE { exitTime := msTicks 9 + 1, rideFrom := mCONNECTED, omega := 77 } [(Reg.GFM_PREC_TEXIT 0, 9)]
    r.mayExit 0 = true ∧ runs (.rideExit 0) r (fun t => t.mode 0 == mCONNECTED && (t.grp 0).omegaD == 77 && (t.grp 0).omega == 77) = true ∧
    runs (.rideExit 0) (r.setGrp 0 { r.grp 0 with stopInRide := true }) (fun t => t.mode 0 == mSTOPPING && (t.grp 0).stopFrom == mCONNECTED) = true ∧
    (let b := gridUp 0 mBLACK { bsHoldTime := msTicks 2 + 1, settleTime := msTicks 3 + 1 } [(Reg.GFM_BS_RAMP_TRAMP 0, 2), (Reg.GFM_BS_FLUX_TSETTLE 0, 3)]
     runs (.blackStartFluxTimeout 0) b (fun t => t.on (Reg.GFM_EVT_STATUS_BSFAIL_S 0) && t.fld (Reg.GFM_FA_LAST_SOURCE 0) == 5 && t.mode 0 == mBLACK)
       && runs (.blackStartSettled 0) b (fun t => t.mode 0 == mISLAND && decide (t.grid = b.grid))
       && runs (.blackStartSettled 0) (b.setGrp 0 { b.grp 0 with brkClosed := true }) (fun t => t.mode 0 == mCONNECTED
         && t.on (Reg.GFM_EVT_STATUS_UNSYNC_S 0) && t.fld (Reg.GFM_FA_LAST_SOURCE 0) == 0x0A)) = true ∧
    (let l := gridUp 0 mISLAND { bindTime := msTicks 4, lowTime := msTicks 6, falling := false } [(Reg.GFM_ILIM_T_TST 0, 4), (Reg.GFM_ILIM_T_TREC 0, 6),
      (Reg.GFM_ILIM_IST 0, 1500)]
     runs (.ilimShortTermExpiry 0) l (fun t => (t.grp 0).falling && decide (t.regs = l.regs))
       && runs (.ilimRestore 0) l (fun t => (t.grp 0).ilim == milli 1500 && (t.grp 0).bindTime == 0 && only [Reg.GFM_ILIM_NOW 0] l t)) = true := by
  decide +kernel

/-- Estimates of a tick that are all 0. -/
def quiet : TickMeas :=
  { kSogi := 0, kNotch := 0, iInvA := 0, iInvB := 0, iInv0 := 0, vcA := 0, vcB := 0, vc0 := 0 }

theorem witness_rotor_tick :
    let s := { gridUp 7 mISLAND { omega := pu, omegaD := pu } [(Reg.GFM_PQMAX_PMAX 7, 1000), (Reg.GFM_FLIM_FMIN 7, 4500), (Reg.GFM_FLIM_FMAX 7, 5500),
        (Reg.GFM_FRT_CFG_FRT_EN 7, 0)]
      with adc := { up.adc with entryVal := [(0, 5), (1, 5), (2, 5), (3, 5), (4, 5), (5, 5)] } }
    let r : GroupRec := { group := 7, typ := 0, vtA := 0, vtB := 1, vtC := 2, ioA := 3, ioB := 4, ioC := 5 }
    s.groupRec 7 = some r ∧ (s.tickIn 7 r quiet).vOk = true ∧ (s.tickIn 7 r quiet).iOk = true ∧
    runs (.rotorTick 7 quiet) s (fun t => decide (s.centiHz 7 4500 ≤ (t.grp 7).omega) && decide ((t.grp 7).omega ≤ s.centiHz 7 5500)
      && (t.grp 7).theta == turn 0 (t.grp 7).omega (s.tickIn 7 r quiet).w (s.tickIn 7 r quiet).kth
      && t.fld (Reg.GFM_ROTOR_F 7) == unsignedOf 32 (t.grp 7).omega) = true ∧
    (let h := { s with adc := up.adc }
     !(h.tickIn 7 r quiet).vOk && runs (.rotorTick 7 quiet) h (fun t => t.on (Reg.GFM_STATUS_HELD_S 7) && (t.grp 7).omega == pu
       && t.fld (Reg.GFM_FA_LAST_SOURCE 7) == 1)) = true ∧
    (let v : TickMeas := { quiet with vc0 := nav }
     !s.on (Reg.GFM_FRT_CFG_FRT_EN 7) && (s.tickIn 7 r v).vOk && (s.tickIn 7 r v).iOk
       && runs (.rotorTick 7 v) s (fun t => t.on (Reg.GFM_STATUS_HELD_S 7) && t.fld (Reg.GFM_FA_LAST_SOURCE 7) == 1)) = true ∧
    runs (.rotorTick 7 quiet) (s.setFld (Reg.GFM_EVT_STATUS_MODE 7) mOFF) (fun t => t.mode 7 == mOFF && (t.grp 7).theta == 0) = true := by
  decide +kernel

/-! Draft, survey and commit. -/

theorem witness_image_verify :
    let s := upWith []
    let v := upWith [(Reg.STG_ATL_STATUS_STATE, 2), (Reg.STG_ATL_STATUS_STG_SLOT, 3), (Reg.MEM_STATUS_INIT_DONE, 1)]
    takes s .host Reg.STG_ATL_CTRL_SLOT.addr = true ∧
    runs (.imageVerify .host 3) s (fun t => t.fld Reg.STG_ATL_STATUS_STATE == 2 && t.fld Reg.STG_ATL_STATUS_STG_SLOT == 3) = true ∧
    runs (.imageVerify .host 0) v (fun t => turned v t .host Reg.STG_ATL_CTRL_SLOT.addr) = true ∧
    (s.checkImage (0x100000 * 3)).2.result ≠ 0 ∧
    v.coreReady 0x300000 0x100000 = true ∧ !(s.coreReady 0x300000 0x100000) = true ∧
    runs .imageVerifyDone (v.setFld Reg.MEM_STATUS_INIT_DONE 0) (fun t => t.fld Reg.STG_ATL_STATUS_STATE == 2) = true ∧
    stays .imageVerifyDone (v.setFld Reg.SYS_BOOT_STATUS_PHASE 4) = true ∧
    (match step { upWith [(Reg.STG_ATL_STATUS_STATE, 3)] with stg := { up.stg with loading := some { idLo := 7 } } } with
      | .next t => t.fld Reg.STG_ATL_STATUS_STATE == 4 && t.stg.loading.isNone && t.stg.staged.isSome && t.fld Reg.STG_ATL_STG_ID_LO == 7
      | _ => false) = true ∧
    runs .imageVerifyDone v (fun t => t.on Reg.STG_ATL_STATUS_FAIL_S && t.fld Reg.STG_ATL_STATUS_STATE == 0
      && t.fld Reg.STG_ATL_STATUS_RESULT == (v.checkImage (0x100000 * 3)).2.result && decide (t.stg = v.stg)) = true ∧
    (let g := { upWith [(Reg.STG_ATL_STATUS_STATE, 4)] with stg := { up.stg with staged := some {} } }
     runs (.imageDiscard .host) g (fun t => t.stg.staged.isNone && t.fld Reg.STG_ATL_STATUS_STATE == 0)
       && runs (.imageDiscard .host) s (fun t => turned s t .host Reg.STG_ATL_CTRL_DISCARD.addr)) = true ∧
    (let w := { upWith [(Reg.STG_ATL_STATUS_STATE, 5), (Reg.STG_ATL_STATUS_STG_SLOT, 3)] with eng := { up.eng with coefOld := [(7, { val := 9 })] } }
     !w.oldRuns && runs .swapComplete w (fun t => t.fld Reg.STG_ATL_STATUS_STATE == 1 && t.fld Reg.STG_ATL_STATUS_ACT_SLOT == 3 && t.fld Reg.STG_ATL_SWAP_CNT_SWAP_CNT == 1
       && decide (t.eng.coefStg = w.eng.coefOld) && t.stg.retiring.isNone)) = true := by decide +kernel

theorem witness_surveys :
    let d := { upWith [(Reg.STG_STATUS_STATE, sDRAFTING)] with regs := { (upWith [(Reg.STG_STATUS_STATE, sDRAFTING)]).regs with
      shadow := [((Reg.SYS_HOST_CFG_SIL_MS).key, 10)] } }
    runs (.survey .host) d (fun t => t.stgState == sSURVEYING && t.locked && !t.stg.go && only [Reg.STG_STATUS_STATE] d t) = true ∧
    runs (.commitGo .host) d (fun t => t.stgState == sSURVEYING && t.stg.go) = true ∧
    (let b := d.setFld Reg.STG_STATUS_STATE sPENDING
     runs (.survey .host) b (fun t => turned b t .host addrStgCtrl) && runs (.commitGo .host) b (fun t => turned b t .host addrStgCtrl)) = true ∧
    (let v := d.setFld Reg.STG_STATUS_STATE sSURVEYING
     v.surv.check.isNone && runs .surveyDone v (fun t => t.stgState == sSURVEYED && t.on Reg.STG_STATUS_SURVOK_S && decide (t.regs.shadow = v.regs.shadow))
       && (let g := { v.setFld Reg.SYS_BOOT_STATUS_PHASE 6 with stg := { v.stg with go := true }, pwm := { v.pwm with running := true } }
           g.fixInstant.isSome && runs .surveyDone g (fun t => t.stgState == sPENDING && some t.stg.commitAt == g.fixInstant))
       && (let l := { v.setFld Reg.STG_COMMIT_CFG_MODE 1 with stg := { v.stg with go := true } }
           l.fixInstant.isNone && runs .surveyDone l (fun t => t.stgState == sSURVEYED && t.on Reg.STG_STATUS_LATE_S))) = true := by decide +kernel

/-- Commands that act after others of their C-cycle (R159, R168). -/
theorem witness_put_off :
    let s := { up with pending := [.commitGo .svc] }
    draftsAt (4 * 0x20) = true ∧ runs (.registerWrite .host 0x20 10) s (fun t => t.later == [.registerWrite .host 0x20 10] && decide (t.regs = s.regs)) = true ∧
    (let c := { up with pending := [.commitApply] }
     runs (.expertCellWrite .host 0 1) c (fun t => t.later == [.expertCellWrite .host 0 1]) && runs (.updatePoint 71) c (fun t => t.later == [.updatePoint 71]))
      = true := by decide +kernel

theorem witness_survey_fails :
    let v := { upWith [(Reg.STG_STATUS_STATE, sSURVEYING)] with regs := { (upWith [(Reg.STG_STATUS_STATE, sSURVEYING)]).regs with
      shadow := [((Reg.GFM_DROOP_MP 0).key, 60000)] } }
    v.surv.check.isSome = true ∧ runs .surveyDone v (fun t => t.on Reg.STG_STATUS_SURVFAIL_S && t.stgState == sDRAFTING
      && some (t.fld Reg.STG_SURV_RESULT_CODE) == v.surv.check.map (·.code)) = true ∧
    (let m := upWith [(Reg.STG_COMMIT_CFG_MODE, 1), (Reg.STG_COMMIT_AT_LO, 40000)]
     m.fixInstant == some 40000 && (at_ 1 m).fixInstant == none) = true := by decide +kernel

theorem witness_drafts :
    let d := { upWith [(Reg.STG_STATUS_STATE, sDRAFTING)] with stg := { up.stg with cdraft := [(0, 1)] } }
    runs (.draftDiscard .host) d (fun t => t.stgState == sIDLE && t.stg.cdraft == [] && t.regs.shadow == []) = true ∧
    (let p := { upWith [(Reg.STG_STATUS_STATE, sPENDING)] with stg := { up.stg with commitAt := 4000 } }
     runs (.draftDiscard .host) p (fun t => t.stgState == sSURVEYED) && runs (.draftDiscard .host) (at_ 1 p) (fun t => turned (at_ 1 p) t .host addrStgCtrl)
       && runs (.cdraftClear .host) p (fun t => turned p t .host addrStgCtrl)) = true ∧
    runs (.cdraftClear .host) d (fun t => t.stg.cdraft == [] && t.fld Reg.STG_CDRAFT_CNT_CNT == 0) = true ∧
    (let e := { d with expertStart := true, stg := { d.stg with cdraft := List.replicate 255 (0, 0) } }
     runs (.cdraftAppend .host 7) e (fun t => t.stg.cdraft.length == 256 && t.fld Reg.STG_CDRAFT_ADDR == e.fld Reg.STG_CDRAFT_ADDR + 4 && t.fld Reg.STG_CDRAFT_CNT_CNT == 256)
       && (let f := { e with stg := { e.stg with cdraft := List.replicate 256 (0, 0) } }
           runs (.cdraftAppend .host 7) f (fun t => turned f t .host Reg.STG_CDRAFT_DATA.addr))
       && runs (.cdraftAppend .host 7) d (fun t => turned d t .host Reg.STG_CDRAFT_DATA.addr)) = true := by decide +kernel

theorem witness_commits :
    let p := { upWith [(Reg.STG_STATUS_STATE, sPENDING)] with stg := { up.stg with commitAt := 9 } }
    let s := at_ 9 { p with regs := { p.regs with shadow := [((Reg.GFM_DROOP_MP 7).key, 65535)] } }
    stays .commitApply (at_ 8 s) = true ∧
    runs .commitApply s (fun t => t.stgState == sIDLE && t.on Reg.STG_STATUS_COMMIT_S && t.fld (Reg.GFM_DROOP_MP 7) == 65535
      && t.regs.shadow == [] && t.fld Reg.STG_DONE_STAMP_LO == 9) = true ∧
    (let w := at_ 20010 { upWith [(Reg.STG_STATUS_STATE, sAPPLYING)] with stg := { up.stg with commitAt := 9, waiting := true } }
     runs .commitDmaTimeout w (fun t => t.stgState == sSURVEYED && t.on Reg.STG_STATUS_DEFER_S && t.fld Reg.STG_CNT_DEFER_CNT == 1 && !t.stg.waiting)) = true ∧
    (let h := at_ 77 { upWith [(Reg.SYS_BOOT_STATUS_PHASE, 6)] with regs := { (upWith [(Reg.SYS_BOOT_STATUS_PHASE, 6)]).regs with
        com := [((Reg.SYS_HOST_CFG_SIL_MS).key, 5)] } }
     h.armed && runs (.commitDomainApply 2) h (fun t => t.fld Reg.SYS_HOST_CFG_SIL_MS == 5 && t.regs.com == [] && t.host.silFrom == some 77)) = true := by
  decide +kernel

theorem witness_commit_waits_for_fetches :
    let a : Img := { imgOf 0 [] with ctxs := [{ ctx := 5 }] }
    let p := { upWith [(Reg.STG_STATUS_STATE, sPENDING)] with
      stg := { up.stg with commitAt := 9, withImg := true, active := some a, staged := some (imgOf 0 []) },
      mem := { up.mem with ch := [(0, { jobs := [{ ctx := 5 }] })] } }
    let s := at_ 9 p
    s.retiringCtxs.any s.fetchBusy = true ∧ runs .commitApply s (fun t => t.stgState == sAPPLYING && t.on Reg.STG_STATUS_DELAY_S && t.stg.waiting
      && only [Reg.STG_STATUS_STATE, Reg.STG_STATUS_DELAY_S] s t) = true := by decide +kernel

/-! The Graticule engine. -/

/-- The settings word of context 9: cell 5, level 2, group 1, entry 300, and a trigger type and source. -/
def cfg9 (trig src : Nat) : Nat := 2 ^ 31 + 2 ^ 27 + 300 * 2 ^ 18 + src * 2 ^ 9 + trig * 2 ^ 7 + 2 * 2 ^ 5 + 5

/-- Context 9 runs on cell 5, at a word `w`, with registers of its bank. -/
def eng9 (w : Nat) (regs : List (Nat × Nat)) : State :=
  { up with eng := { up.eng with
    cfgs := [(9, cfg9 3 0)], bun := [(5 * 512 + 300, { val := w })], running := [(5, some 9)],
    banks := regs.map fun e => ((5 * 4 + 2) * 32 + e.1, e.2),
    ctx := [(9, { phase := .running, pc := 300, boundary := false, deadline := 1000 })] } }

/-- An operation word with D = 1, A = 2, B = 3. -/
def w123 (op imm : Nat) : Nat := encodeOp { op := op, d := 1, a := 2, b := 3, eob := false, imm := imm }

/-- Context 9 issues an operation on its cell. -/
def issues (s : State) (o : OpWord) : Bool :=
  s.issuer 5 == some 9 && (s.bunWord 9 (s.ctx 9).pc).ecc == .ok && decide (o = { s.curOp 9 with imm := stepImm (s.curOp 9) (s.ctx 9).rep })

/-- Register 1 after an operation whose operands are `x` and `y`, and SAT_S. -/
def gives (i : Instr) (op imm x y w : Nat) (sat : Bool) : Bool :=
  let s := eng9 (w123 op imm) [(2, x), (3, y)]
  issues s { op := op, d := 1, a := 2, b := 3, eob := false, imm := imm } &&
    runs i s fun t => t.reg 9 1 == w && t.on (Reg.GRT_CTX_STATUS_SAT_S 9) == sat && (t.ctx 9).pc == 301 && t.reg 9 2 == x && t.reg 9 3 == y
      && only [Reg.GRT_CTX_STATUS_SAT_S 9] s t

/-- R101: ADD into register 1 of registers 2 and 3 with a bundle boundary; REP over 3 operations, 256 passes, with address step 31; RND
from accumulator 1 with 16 fraction bits; END. -/
theorem test_operation_words :
    decodeOp 0b00011000001000100001110000000000 = ⟨0x06, 1, 2, 3, true, 0⟩ ∧
    decodeOp 0b01110100000000101111100011111111 = ⟨0x1D, 0, 2, 31, false, 255⟩ ∧
    decodeOp 0b01100011111000000000000000000111 = ⟨0x18, 31, 0, 0, false, 7⟩ ∧
    decodeOp 0b10000100000000000000010000000000 = ⟨0x21, 0, 0, 0, true, 0⟩ ∧
    (OpWord.mk 0x21 31 31 31 true 1023).wf = true ∧ encodeOp ⟨0x06, 1, 2, 3, true, 0⟩ = 0b00011000001000100001110000000000 := by decide

theorem witness_arithmetic :
    gives (.opAdd 5) 0x06 0 0x7FFFFFFF 1 0x7FFFFFFF true = true ∧ gives (.opAdd 5) 0x06 0 0x7FFFFFFE 1 0x7FFFFFFF false = true ∧
    gives (.opAdd 5) 0x06 0 0x80000000 1 0x80000000 false = true ∧ gives (.opSub 5) 0x07 0 0x80000001 1 0x80000001 true = true ∧
    gives (.opSub 5) 0x07 0 5 7 0xFFFFFFFE false = true ∧ gives (.opNeg 5) 0x08 0 0x80000001 0 0x7FFFFFFF false = true ∧
    gives (.opAbs 5) 0x09 0 0xFFFFFFFE 0 2 false = true ∧ gives (.opShift 5) 0x0E 31 1 0 0x7FFFFFFF true = true ∧
    gives (.opShift 5) 0x0E 30 1 0 0x40000000 false = true ∧ gives (.opShift 5) 0x0E 0x3F 0xFFFFFFFB 0 0xFFFFFFFD false = true ∧
    gives (.opShift 5) 0x0E 32 0x7FFFFFFF 0 0 false = true ∧ gives (.opDiv 5) 0x1B 0 0x10000000 0x30000000 0x05555555 false = true ∧
    gives (.opDiv 5) 0x1B 0 1 0 0x80000000 false = true ∧ gives (.opDiv 5) 0x1B 0 0x7FFFFFFF 0x0FFFFFFF 0x7FFFFFFF true = true := by
  decide +kernel

theorem witness_selecting :
    gives (.opMin 5) 0x0A 0 0xFFFFFFFF 1 0xFFFFFFFF false = true ∧ gives (.opMax 5) 0x0B 0 0xFFFFFFFF 1 1 false = true ∧
    gives (.opMax 5) 0x0B 0 0x80000000 1 0x80000000 false = true ∧ gives (.opLimit 5) 0x0C 0 7 5 5 false = true ∧
    gives (.opLimit 5) 0x0C 0 0xFFFFFFF9 5 0xFFFFFFFB false = true ∧ gives (.opLimit 5) 0x0C 0 1 0xFFFFFFFF 0x80000000 false = true ∧
    gives (.opSel 5) 0x0D 0 0 8 8 false = true ∧ gives (.opSel 5) 0x0D 0 0xFFFFFFFF 8 0 false = true ∧
    gives (.opSel 5) 0x0D 0 0x80000000 8 0x80000000 false = true ∧ gives (.opWrap 5) 0x19 0 0x3243F6A9 0 0xCDBC0957 false = true ∧
    gives (.opWrap 5) 0x19 0 0x3243F6A8 0 0x3243F6A8 false = true ∧ gives (.opSqrt 5) 0x1C 0 0x40000000 0 0x20000000 false = true ∧
    gives (.opSqrt 5) 0x1C 0 0xFFFFFFFF 0 0x80000000 false = true := by
  decide +kernel

/-- R102: SINCOS of NaV; of a number it is a free value within its bound, which nothing evaluates. -/
theorem witness_sincos :
    let s := eng9 (w123 0x1A 0) [(2, 0x80000000)]
    issues s ⟨0x1A, 1, 2, 3, false, 0⟩ = true ∧ runs (.opSincos 5) s (fun t => t.reg 9 1 == navN && t.reg 9 2 == navN && (t.ctx 9).pc == 301
      && only [] s t) = true := by decide +kernel

/-- An accumulator after an operation with its operands, and ASAT_S. -/
def accGives (i : Instr) (op imm x y : Nat) (a b : Acc) (k : Nat) (sat : Bool) : Bool :=
  let s := (eng9 (w123 op imm) [(2, x), (3, y)]).setAcc 9 k a
  issues s { op := op, d := 1, a := 2, b := 3, eob := false, imm := imm } &&
    runs i s fun t => decide (t.acc 9 k = b) && t.on (Reg.GRT_CTX_STATUS_ASAT_S 9) == sat && decide (t.eng.banks = s.eng.banks)
      && only [Reg.GRT_CTX_STATUS_ASAT_S 9] s t

theorem witness_accumulators :
    accGives (.opClr 5) 0x0F 1 0 0 ⟨5, true⟩ {} 1 false = true ∧
    accGives (.opMul 5) 0x10 0 3 0xFFFFFFFF ⟨5, true⟩ ⟨-3, false⟩ 0 false = true ∧
    accGives (.opMul 5) 0x10 0 3 0x80000000 ⟨5, false⟩ ⟨0, true⟩ 0 false = true ∧
    accGives (.opMac 5) 0x11 1 2 3 ⟨5, false⟩ ⟨11, false⟩ 1 false = true ∧
    accGives (.opMac 5) 0x11 1 1 1 ⟨2 ^ 71 - 1, false⟩ ⟨2 ^ 71 - 1, false⟩ 1 true = true ∧
    accGives (.opMac 5) 0x11 1 1 1 ⟨2 ^ 71 - 2, false⟩ ⟨2 ^ 71 - 1, false⟩ 1 false = true ∧
    accGives (.opMac 5) 0x11 1 0x80000000 1 ⟨7, false⟩ ⟨7, true⟩ 1 false = true ∧
    accGives (.opMsu 5) 0x12 0 1 1 ⟨-(2 ^ 71 - 1), false⟩ ⟨-(2 ^ 71 - 1), false⟩ 0 true = true := by decide +kernel

/-- The state of an operation with a coefficient in word 700 of cell 5 whose segment has format 3 (Q15.16). -/
def coef9 (op : Nat) (w : MWord) (a : Acc) : State :=
  let s := (eng9 (w123 op 700) [(2, 3)]).setAcc 9 1 a
  { s with eng := { s.eng with coef := [(5 * 1024 + 700, w), (5 * 1024 + 701, { val := 1 })], cfmaps := [(5, 0x30)] } }

theorem witness_coefficients :
    (let s := coef9 0x14 { val := 2 } ⟨5, true⟩
     issues s ⟨0x14, 1, 2, 3, false, 700⟩ && (s.coefWord 9 700).ecc == .ok && segFormat (s.cfmap 9) 700 == 3
       && runs (.opMulc 5) s fun t => decide (t.acc 9 1 = ⟨6 * 2 ^ 12, false⟩)) = true ∧
    (let s := coef9 0x15 { val := 2 } ⟨5, false⟩
     issues s ⟨0x15, 1, 2, 3, false, 700⟩ && runs (.opMacc 5) s fun t => decide (t.acc 9 1 = ⟨5 + 6 * 2 ^ 12, false⟩) && only [] s t) = true ∧
    (let s := coef9 0x16 { val := 0x80000000 } ⟨5, false⟩
     issues s ⟨0x16, 1, 2, 3, false, 700⟩ && runs (.opMsuc 5) s fun t => decide (t.acc 9 1 = ⟨5, true⟩) && only [] s t) = true ∧
    (let s := coef9 0x15 { val := 2, ecc := .bad } ⟨5, false⟩
     issues s ⟨0x15, 1, 2, 3, false, 700⟩ && runs (.opMacc 5) s fun t => (t.acc 9 1).nav && t.on (Reg.GRT_CTX_STATUS_POIS_S 9)
       && t.on Reg.GRT_STATUS_UE_S && t.fld Reg.GRT_UE_ADDR == 0x100000 + 0x8000 * 5 + 2800) = true := by decide +kernel

theorem witness_pairs_and_rounding :
    (let s := ((eng9 (w123 0x13 0) [(2, 3), (3, 5)]).setReg 9 4 7).setAcc 9 1 ⟨1, false⟩
     issues s ⟨0x13, 1, 2, 3, false, 0⟩ && runs (.opMac2 5) s fun t => decide (t.acc 9 0 = ⟨15, false⟩) && decide (t.acc 9 1 = ⟨36, false⟩)) = true ∧
    (let s := (coef9 0x17 { val := 2 } {}).setReg 9 3 0x80000000
     issues s ⟨0x17, 1, 2, 3, false, 700⟩ && (s.coefWord 9 701).ecc == .ok
       && runs (.opMacc2 5) s fun t => decide (t.acc 9 0 = ⟨6 * 2 ^ 12, false⟩) && (t.acc 9 1).nav) = true ∧
    (let s (v : Acc) := (eng9 (w123 0x18 5) []).setAcc 9 1 v
     issues (s {}) ⟨0x18, 1, 2, 3, false, 5⟩
       && runs (.opRnd 5) (s ⟨-(2 ^ 27), false⟩) (fun t => t.reg 9 1 == 0xFFFFFFFF)
       && runs (.opRnd 5) (s ⟨2 ^ 27 - 1, false⟩) (fun t => t.reg 9 1 == 0 && !t.on (Reg.GRT_CTX_STATUS_SAT_S 9))
       && runs (.opRnd 5) (s ⟨2 ^ 71 - 1, false⟩) (fun t => t.reg 9 1 == 0x7FFFFFFF && t.on (Reg.GRT_CTX_STATUS_SAT_S 9))
       && runs (.opRnd 5) (s ⟨3, true⟩) (fun t => t.reg 9 1 == navN)) = true := by decide +kernel

theorem witness_loads_and_stores :
    (let s := coef9 0x01 { val := 2 } {}
     issues s ⟨0x01, 1, 2, 3, false, 700⟩ && runs (.opLdc 5) s fun t => t.reg 9 1 == 2 && only [] s t) = true ∧
    (let s (w : MWord) := (eng9 (w123 0x02 511) []).setSt 5 511 w
     issues (s {}) ⟨0x02, 1, 2, 3, false, 511⟩ && runs (.opLds 5) (s { val := 4 }) (fun t => t.reg 9 1 == 4)
       && runs (.opLds 5) (s { val := 4, ecc := .bad }) (fun t => t.reg 9 1 == navN && t.on (Reg.GRT_CTX_STATUS_POIS_S 9)
         && t.fld Reg.GRT_UE_ADDR == 0x101000 + 0x8000 * 5 + 2044)) = true ∧
    (let s := (eng9 (w123 0x03 511) [(2, 77)]).setSt 5 510 { val := 4 }
     let e := { s with eng := { s.eng with expNow := [5 * 512 + 511] } }
     issues s ⟨0x03, 1, 2, 3, false, 511⟩ && issues e ⟨0x03, 1, 2, 3, false, 511⟩
       && runs (.opSts 5) s (fun t => decide (t.stWord 5 511 = { val := 77 }) && decide (t.stWord 5 510 = { val := 4 }))
       && runs (.opSts 5) e (fun t => decide (t.eng.st = e.eng.st) && t.on (Reg.GRT_CTX_STATUS_COLLIDE_S 9))) = true ∧
    (let z (p : Nat) := (eng9 (w123 0x04 p) []).setCtx 9 { phase := .running, pc := 300, boundary := false, trigAt := 2 ^ 32 + 8 }
     let s (p : Nat) := { z p with eng := { (z p).eng with snap := [(9 * 32 + 31, 6)] } }
     issues (s 31) ⟨0x04, 1, 2, 3, false, 31⟩ && runs (.opIn 5) (s 31) (fun t => t.reg 9 1 == 6)
       && runs (.opIn 5) (s 32) (fun t => t.reg 9 1 == 0x10000000) && runs (.opIn 5) (s 33) (fun t => t.reg 9 1 == 8)) = true := by decide +kernel

/-- Context 9 at OUT to port 4, with a route to port 31 of context 0. -/
def out9 (w dl : Nat) : State :=
  let s := at_ 100 ((eng9 (w123 0x05 4) [(2, w)]).setFld (Reg.GRT_CTX_CTRL_EN 9) 1)
  { s with eng := { s.eng with ctx := [(9, { phase := .running, pc := 300, boundary := false, deadline := dl })] },
           stg := { s.stg with active := some { routes := [{ srcKind := 1, srcId := 9, srcPort := 4, dstKind := 0, dstId := 0, dstPort := 31 }] } } }

theorem witness_outputs :
    (let s := out9 6 100
     issues s ⟨0x05, 1, 2, 3, false, 4⟩ && (s.portRoutes 9 4).length == 1
       && runs (.opOut 5) s (fun t => tabGet navN t.eng.inPorts 31 == 6 && only [] s t)) = true ∧
    (let s := out9 6 99
     issues s ⟨0x05, 1, 2, 3, false, 4⟩ && s.enabled 9
       && runs (.opOut 5) s (fun t => decide (t.eng.inPorts = s.eng.inPorts) && (t.ctx 9).missed && t.on (Reg.GRT_CTX_STATUS_DLMISS_S 9))) = true ∧
    (let s := out9 0x80000000 100
     runs (.opOut 5) s (fun t => decide (t.eng.inPorts = s.eng.inPorts) && t.on (Reg.GRT_CTX_STATUS_NAV_S 9))) = true := by decide +kernel

theorem witness_control_ops :
    runs (.opNop 5) (eng9 (w123 0 0) []) (fun t => (t.ctx 9).pc == 301 && !(t.ctx 9).boundary) = true ∧
    (let s := eng9 (w123 0x1D 255) []
     issues s ⟨0x1D, 1, 2, 3, false, 255⟩ && runs (.opRep 5) s fun t => decide ((t.ctx 9).rep = some ⟨301, 3, 3, 0, 256⟩)) = true ∧
    (let img : Img := { routes := [{ srcKind := 3, srcId := 9, dstKind := 2, regAddr := (Reg.GRT_CTX_STATUS_OVRN_S 9).addr }] }
     let s (x : Nat) := { eng9 (w123 0x1E 8) [(2, x)] with stg := { up.stg with active := some img } }
     let a := (Reg.GRT_CTX_STATUS_OVRN_S 9).addr
     ((rowsAt a).find? fun q => q.acc == .w1c && decide (q.lo ≤ 8) && decide (8 < q.lo + q.width)).isSome
       && (((s 1).routesOf 9).filter fun r => r.srcKind == 3 && r.srcId == 9 && r.dstKind == 2).length == 1
       && issues (s 1) ⟨0x1E, 1, 2, 3, false, 8⟩
       && runs (.opFlag 5) (s 1) (fun t => t.plainWord a == 256) && runs (.opFlag 5) (s 0) (fun t => t.plainWord a == 0)
       && runs (.opFlag 5) (s navN) (fun t => t.plainWord a == 256)) = true ∧
    (let s := at_ 1000 (put (eng9 (w123 0x21 0) []) [(Reg.GRT_CTX_CTRL_EN 9, 1), (Reg.GRT_CTX_STATUS_MISS_RUN 9, 3)])
     issues s ⟨0x21, 1, 2, 3, false, 0⟩ && s.enabled 9
       && runs (.opEnd 5) s fun t => (t.ctx 9).phase == .idle && t.runs 5 == none && t.fld (Reg.GRT_CTX_STATUS_MISS_RUN 9) == 0) = true := by
  decide +kernel

/-- Context 9 with a FETCH channel 3, in a phase, at FETCH or WAITF. -/
def fetch9 (op : Nat) (p : Phase) (jobs : List FetchJob) (r : CtxRun) : State :=
  let s := put (eng9 (w123 op 508) [(2, 0x80000040)]) [(Reg.DMA_CH_CFG_CTX 3, 9), (Reg.DMA_CH_CFG_KIND 3, kFETCH)]
  let t := s.setCtx 9 { r with phase := p, pc := 300 }
  { t with mem := { t.mem with ch := [(3, { jobs := jobs })] } }

theorem witness_fetch_and_wait :
    (let s := fetch9 0x1F .running [] { trigAt := 5, boundary := false }
     issues s ⟨0x1F, 1, 2, 3, false, 508⟩ && s.fetchCh 9 == some 3 && !(s.dch 3).halted
       && runs (.opFetch 5) s fun t => decide ((t.dch 3).jobs = [{ ctx := 9, trigAt := 5, addr := 0x80000040, words := 4, dest := 508 }])) = true ∧
    (let j : FetchJob := { ctx := 9, trigAt := 5, addr := 0x80000040, words := 4, dest := 508, done := 4 }
     let s (l : List FetchJob) (f : Bool) := fetch9 0x20 .running l { trigAt := 5, boundary := false, faulted := f }
     issues (s [j] false) ⟨0x20, 1, 2, 3, false, 508⟩ && issues (s [] false) ⟨0x20, 1, 2, 3, false, 508⟩ && (s [j] false).fetching 9 && !(s [] false).fetching 9
       && runs (.opWaitf 5) (s [] false) (fun t => (t.ctx 9).phase == .running && (t.ctx 9).pc == 301 && (t.ctx 9).boundary)
       && runs (.opWaitf 5) (s [j] false) (fun t => (t.ctx 9).phase == .waiting && t.runs 5 == none)
       && runs (.opWaitf 5) (s [] true) (fun t => (t.ctx 9).phase == .idle && t.runs 5 == none && t.on (Reg.GRT_CTX_STATUS_DMAF_S 9))
       && runs (.fetchComplete 3) (fetch9 0x20 .waiting [j] { trigAt := 5 }) (fun t => (t.ctx 9).phase == .again && (t.dch 3).jobs.isEmpty)) = true := by
  decide +kernel

/-- Context 9 enabled and idle, with a trigger type and source. -/
def idle9 (trig src : Nat) (l : List (Fld × Nat)) (r : CtxRun) : State :=
  let s := at_ 5000 (upWith ((Reg.GRT_CTX_CTRL_EN 9, 1) :: l))
  { s with eng := { s.eng with cfgs := [(9, cfg9 trig src)], ctx := [(9, r)], timerNext := [(7, 5000)] } }

theorem witness_triggers :
    (let s := idle9 0 7 [(Reg.GRT_TMR_PERIOD 7, 4000)] {}
     s.triggered 0 7 == [9] && s.enabled 9 && runs (.grtTimerTick 7) s fun t => (t.ctx 9).phase == .ready && (t.ctx 9).trigAt == 5000
       && tabGet 0 t.eng.timerNext 7 == 9000) = true ∧
    (let s := idle9 3 0 [] {}
     takes s .svc addrKick && cfgDefined (s.cfg 9) && runs (.grtKick .svc 9) s fun t => (t.ctx 9).phase == .ready && (t.ctx 9).w == 0x10000000#32) = true ∧
    (let s := idle9 0 7 [] {}
     takes s .host addrKick && runs (.grtKick .host 9) s fun t => turned s t .host addrKick) = true ∧
    (let s := idle9 3 0 [] { phase := .preempted, deadline := 4999 }
     runs (.deadlineExpiry 9) s (fun t => (t.ctx 9).missed && t.fld (Reg.GRT_CTX_STATUS_MISS_RUN 9) == 1)
       && stays (.deadlineExpiry 9) (idle9 3 0 [] { phase := .preempted, deadline := 5000 })) = true := by decide +kernel

theorem witness_watchdog :
    let z := idle9 2 1 [] {}
    let n := z.tickNom 9
    let s (f : Nat) := z.setCtx 9 { lastTrig := some f }
    n ≠ 0 ∧ runs (.triggerWatchdog 9) (s (5000 - (3 * n + 1) / 2)) (fun t => (t.ctx 9).wdMisses == 1 && t.on (Reg.GRT_CTX_STATUS_TRGLOST_S 9)) = true ∧
    stays (.triggerWatchdog 9) (s (5000 - (3 * n + 1) / 2 + 1)) = true := by decide +kernel

/-- Contexts 9 at level 2 and 10 at level 1, both on cell 5. -/
def two (a b : CtxRun) (c : Option Nat) : State :=
  let s := at_ 5000 up
  { s with eng := { s.eng with cfgs := [(9, cfg9 3 0), (10, cfg9 3 0 - 2 ^ 5)], ctx := [(9, a), (10, b)], running := [(5, c)] } }

theorem witness_dispatch :
    (let s := two { phase := .ready } {} none
     s.runs 5 == none && s.inPhase 5 .ready == [9] && (s.inPhase 5 .preempted).isEmpty && (s.inPhase 5 .waiting).isEmpty && s.cellOf 9 == 5
       && runs (.contextDispatch 5) s fun t => t.runs 5 == some 9 && (t.ctx 9).phase == .running && (t.ctx 9).pc == 300
         && tabGet navN t.eng.snap (9 * 32 + 31) == navN) = true ∧
    (let s := two { phase := .running, pc := 301 } { phase := .ready } (some 9)
     s.higherReady 9 && runs (.contextPreempt 5) s fun t => t.runs 5 == none && (t.ctx 9).phase == .preempted && (t.ctx 9).pc == 301) = true ∧
    stays (.contextPreempt 5) (two { phase := .running, boundary := false } { phase := .ready } (some 9)) = true ∧
    stays (.contextPreempt 5) (two { phase := .ready } { phase := .running } (some 10)) = true := by decide +kernel

theorem witness_enable :
    let z := { idle9 3 0 [(Reg.GRT_CTX_CTRL_EN 9, 0), (Reg.GRT_CTX_STATUS_MISS_RUN 9, 2)] { first := false } with expertStart := true }
    let a := (Reg.GRT_CTX_CTRL_EN 9).addr
    takes z .host a = true ∧ runs (.contextEnable .host 9) z (fun t => t.on (Reg.GRT_CTX_CTRL_EN 9) && t.fld (Reg.GRT_CTX_STATUS_MISS_RUN 9) == 0
      && (t.ctx 9).first) = true ∧
    (let s := { idle9 3 0 [(Reg.GRT_CTX_STATUS_MISS_RUN 9, 2)] { phase := .ready } with expertStart := true }
     runs (.contextDisable .host 9) s fun t => !t.on (Reg.GRT_CTX_CTRL_EN 9) && (t.ctx 9).phase == .idle && t.fld (Reg.GRT_CTX_STATUS_MISS_RUN 9) == 2
       && only [Reg.GRT_CTX_CTRL_EN 9] s t) = true ∧
    (let s := idle9 3 0 [] {}
     runs (.contextEnable .host 9) s (fun t => turned s t .host a) && runs (.contextDisable .host 9) s fun t => turned s t .host a) = true := by
  decide +kernel

theorem witness_cell_memory :
    (let s := { up with eng := { up.eng with coef := [(5 * 1024 + 1023, { val := 8, ecc := .single })] } }
     let f := { s with eng := { s.eng with found := [foundId (memAddr 5 .coef 1023) false] } }
     (s.memWord 5 .coef false 1023).ecc == .single && stays (.eccWriteback 5 .coef false 1023) s
       && runs (.eccWriteback 5 .coef false 1023) f fun t => decide (t.memWord 5 .coef false 1023 = { val := 8 }) && t.eng.found == []
         && only [] f t) = true ∧
    (let s := { upWith [(Reg.GRT_CTRL_SWEEP_EN, 1)] with eng := { up.eng with coef := [(5 * 1024 + 1023, { val := 8, ecc := .bad })] } }
     stays (.cellSweepRead 5 .coef false 7) s && runs (.cellSweepRead 5 .coef false 1023) s fun t => t.on Reg.GRT_STATUS_UE_S
       && t.on (Reg.GRT_CELL_STATUS_UE_S 5) && t.fld Reg.GRT_UE_ADDR == 0x100000 + 0x8000 * 5 + 4092) = true ∧
    (let s := { upWith [(Reg.MEM_STATUS_INIT_DONE, 1)] with eng := { up.eng with
        coef := [(31 * 1024 + 1023, { val := 8, ecc := .bad })],
        found := [foundId (coefAddr 31 1023) false] } }
     let b := s.mirrorAddr 31 false false 1023 / 8
     let q := { s with mem := { s.mem with plist := [b / 8] } }
     s.memRuns && s.eng.found.contains (foundId (coefAddr 31 1023) false) && tabGet 0 s.mem.flips b == 0
       && runs (.mirrorRepair 31 false false 1023 false) s (fun t => decide (t.memWord 31 .coef false 1023 = { val := 8 }))
       && runs (.mirrorRepair 31 false false 1023 false) q (fun t => t.on Reg.MEM_STATUS_MIRUE_S && decide (t.eng = q.eng))
       && runs (.mirrorRepair 31 false false 1023 true) s (fun t => t.on Reg.MEM_STATUS_MIRUE_S && decide (t.eng = s.eng))
       && stays (.mirrorRepair 31 false false 1022 false) s) = true ∧
    (let s := { up with expertStart := true }
     let u := { s with eng := { s.eng with cfgs := [(9, cfg9 3 0)] } }.setFld (Reg.GRT_CTX_CTRL_EN 9) 1
     takes s .host (0x100000 + 4 * (31 * 0x2000 + 1023)) && !s.stagedOwn 31 1023 .coef
       && runs (.expertCellWrite .host (31 * 0x2000 + 1023) 0xFFFFFFFF) s (fun t => decide (t.memWord 31 .coef false 1023 = { val := 0xFFFFFFFF })
         && decide (t.memWord 31 .coef true 1023 = { val := 0xFFFFFFFF }))
       && u.cellInUse 5 && runs (.expertCellWrite .host (5 * 0x2000 + 0x800 + 511) 1) u
         (fun t => turned u t .host (0x100000 + 4 * (5 * 0x2000 + 0x800 + 511)))) = true := by decide +kernel

/-! Sampling and conversion. -/

/-- Converter 31 samples its second internal input, 63, into entry 511 in its first slot; a second slot idles. -/
def sched31 : Sched :=
  { ents := [{ entry := 511, conv := 31 }],
    convs := List.replicate 31 {} ++ [{ slotCnt := 2, slots := [511 * 8 + 1, 7], injCnt := 1, injSrc := 9, inj := [511 * 8 + 1] }] }

/-- A state at 12,000 with that schedule, the carriers running from 2,000, and a record of the converter. -/
def adc31 (r : ConvRun) : State :=
  let s := at_ 12000 up
  { s with adc := { s.adc with sched := sched31, conv := [(31, r)] }, pwm := { s.pwm with running := true, origin := 2000 } }

theorem witness_conversion :
    (let s := adc31 {}
     s.startNow 31 && !s.marked (0x1000 + 31) && !s.converting 31 && runs (.scheduleStart 31) s fun t => (t.conv 31).busy
       && (t.conv 31).passStart == 12000 && (t.conv 31).passes == 1 && only [] s t) = true ∧
    (let s := adc31 { busy := true, passStart := 11930 }
     s.converting 31 && (s.nextSlot 31 0).isSome && runs (.scheduleStart 31) s fun t => (t.conv 31).slipped && t.on Reg.ADC_STATUS_SLIP_S
       && (t.conv 31).passStart == 11930 && only [Reg.ADC_SLIP_S, Reg.ADC_STATUS_SLIP_S, Reg.ADC_CNT_B_SLIP_CNT] s t) = true ∧
    (let s := adc31 { busy := true, passStart := 11900, slot := 1 }
     s.converting 31 && (s.nextSlot 31 1).isNone && runs (.scheduleStart 31) s fun t => !(t.conv 31).slipped && (t.conv 31).slot == 0
       && (t.conv 31).passStart == 11900 + 160 && t.fld Reg.ADC_CNT_B_SLIP_CNT == 1) = true ∧
    (let s := adc31 { busy := true, passStart := 11915, slot := 0 }
     s.nextSlot 31 0 == some 0 && runs (.conversionComplete 31 (.code 0x7FFF#16)) s fun t =>
       decide ((t.conv 31).queue.map (fun x => (x.entry, x.code, x.orng, x.stamp)) = [(511, 0x7FFF, true, 11915 + 41)])
       && (s.finishCode 31 ((s.passSched 31).inputOf { entry := 511, conv := 31 }) 0x7FFF).1 == 0x7FFF) = true ∧
    stays (.conversionComplete 31 (.code 1#16)) (adc31 { busy := true, passStart := 11916, slot := 0 }) = true := by decide +kernel

/-- The tag of a change of clock (R198): five conversions where one is in progress, else four; and an item behind an END of its C-cycle is put off. -/
theorem witness_tags_and_order :
    (let s := { adc31 { busy := true, passStart := 11930 } with clk := { up.clk with lockA := 0 } }
     let a := put s [(Reg.CLK_STATUS_A_ALT, 1), (Reg.CLK_STATUS_LOCK_A, 1)]
     a.inConversion 31 && !a.inConversion 30 && runs .domainASwitchback a (fun t => (t.conv 31).swLeft == 5 && (t.conv 30).swLeft == 4)) = true ∧
    runs (.converterResultItem 31 true) { adc31 { queue := [{ entry := 511 }] } with pending := [.opEnd 31] } (fun t =>
      t.later == [.converterResultItem 31 true] && (t.conv 31).queue.length == 1) = true := by decide +kernel

theorem witness_injection :
    (let s := adc31 {}
     takes s .host Reg.ADC_INJ_KICK.addr && (s.convRec 31).injSrc == 9
       && runs (.injectRequest (some .host) 0x80000000) s (fun t => (t.conv 31).injPend && only [] s t)
       && runs (.injectRequest (some .host) 0x80000000) (adc31 { injPend := true }) fun t => t.on Reg.ADC_STATUS_INJOVR_S
         && t.fld Reg.ADC_CNT_C_INJOVR_CNT == 1) = true ∧
    (let s := adc31 { injPend := true }
     s.injFits 31 && !s.converting 31 && runs (.injectedStart 31) s fun t => (t.conv 31).injRun && !(t.conv 31).injPend && (t.conv 31).busy) = true ∧
    (let s := at_ 5000 { up with adc := { up.adc with conv := [(3, { injPend := true })] } }
     (s.convRec 3).injCnt == 0 && s.injFits 3 && runs (.injectedStart 3) s fun t => !(t.conv 3).injPend && !(t.conv 3).busy) = true ∧
    (let s := { at_ 5000 up with adc := { up.adc with sched := { convs := [{ injCnt := 1, injSrc := 8, inj := [0] }] } } }
     let k := put { s with eng := { s.eng with timerNext := [(7, 9000)] } } [(Reg.GRT_TMR_PERIOD 7, 4000)]
     k.ticksNow 7 && (k.convRec 0).injSrc == 8 && runs (.injectRequest none 1) k fun t => (t.conv 0).injPend) = true := by decide +kernel

theorem witness_results :
    (let s := adc31 { queue := [{ entry := 511, code := 0xFFFF, ks := 4096 }, { entry := 3 }] }
     let q := { s with clk := { s.clk with xqAt := [(31, 11992)] } }
     isNav (scaleCode 0xFFFF 4096) == false && !s.convReset 31 && q.convReset 31 && stays (.converterResultItem 31 true) q
       && runs (.converterResultItem 31 true) s fun t => decide ((t.conv 31).queue = [{ entry := 3 }])
       && t.fld (Reg.ADC_RES_CODE 511) == 0xFFFF && tabGet navN t.adc.entryVal 511 == 0xFFFFFFFF && t.fld (Reg.ADC_RES_SEQ 511) == 1) = true ∧
    (let s := adc31 { queue := [{ entry := 511, code := 5, ks := 4096 }] }
     runs (.converterResultItem 31 false) s fun t => t.fld (Reg.ADC_RES_CODE 511) == 0x8000 && t.on (Reg.ADC_RES_INVAL 511)
       && tabGet navN t.adc.entryVal 511 == navN && t.on Reg.SYS_DIE_STATUS_ALINK_S && t.fld Reg.SYS_LINK_ERR_CNT_ALINK_ERR_CNT == 1) = true ∧
    scaleCode 0x8000 7 = navN := by decide +kernel

/-- The same at rest, with fields and a calibration record. -/
def cal31 (l : List (Fld × Nat)) (m : Option CalRun) (done : List Nat) : State :=
  let s := put (adc31 {}) l
  { s with adc := { s.adc with cal := m, zeroDone := done, spanDone := done } }

theorem witness_calibration_steps :
    let a := Reg.ADC_CAL_CMD_START.addr
    (let s := cal31 [] none []
     takes s .host a && (s.calEntry 63).isSome
       && runs (.calZero .host 63 7) s (fun t => decide (t.adc.cal = some { input := 63, left := 128, need := 128, entry := 511 })
         && t.fld Reg.ADC_CAL_STAT_STATE == 1)
       && runs (.calSpan .host 63 0) s (fun t => decide (t.adc.cal = some { input := 63, span := true, left := 1, need := 1, entry := 511 }))
       && runs (.calZero .host 62 0) s (fun t => t.fld Reg.ADC_CAL_STAT_FAIL == 1 && t.fld Reg.ADC_CAL_STAT_STATE == 3 && decide (t.adc.cal = none))) = true ∧
    (let s := cal31 [(Reg.ADC_CAL_STAT_STATE, 1)] none []
     let l := [Reg.ADC_CAL_CMD_INPUT, Reg.ADC_CAL_CMD_POINT, Reg.ADC_CAL_CMD_NLOG]
     runs (.calZero .host 63 7) s (fun t => turnedBut l s t .host a && t.fld Reg.ADC_CAL_CMD_NLOG == 7 && t.fld Reg.ADC_CAL_CMD_INPUT == 63)
       && runs (.calSpan .host 63 0) s (fun t => turnedBut l s t .host a && t.fld Reg.ADC_CAL_CMD_POINT == 1)
       && runs (.calCompute .host 63 0) s fun t => turnedBut l s t .host a && t.fld Reg.ADC_CAL_CMD_POINT == 2) = true ∧
    (let m : CalRun := { input := 63, left := 0, need := 2, total := 5, entry := 511 }
     runs .calMeasureDone (cal31 [] (some { m with bad := true }) []) (fun t => t.fld Reg.ADC_CAL_STAT_FAIL == 2)
       && runs .calMeasureDone (cal31 [] (some m) []) (fun t => t.fld Reg.ADC_CAL_M0 == 20 && t.adc.zeroDone == [63])
       && runs .calMeasureDone (cal31 [] (some { m with span := true }) []) (fun t => t.fld Reg.ADC_CAL_M1 == 20 && t.adc.spanDone == [63])
       && stays .calMeasureDone (cal31 [] (some { m with left := 1 }) [])) = true := by decide +kernel

/-- R207: with OFS and G that fit, COMPUTE drafts them; M1 − M0 of 8,191 and a missing ZERO are named. -/
theorem witness_calibration_compute :
    let fit := cal31 [(Reg.ADC_CAL_M0, 8), (Reg.ADC_CAL_M1, 262144 + 8), (Reg.ADC_CAL_REF, 2 ^ 30)] none [63]
    (fit.calCompute 63).1 = 0 ∧
    runs (.calCompute .host 63 0) fit (fun t => t.shadowFld (Reg.ADC_CAL_OFS 63) == 8 && t.on Reg.ADC_STATUS_CALDONE_S
      && t.fld Reg.ADC_CAL_STAT_STATE == 2 && t.shadowFld (Reg.ADC_CAL_G 63) == unsignedOf 16 (fit.calCompute 63).2.2) = true ∧
    runs (.calCompute .host 63 0) (fit.setFld Reg.ADC_CAL_M1 (8 + 8191)) (fun t => t.fld Reg.ADC_CAL_STAT_FAIL == 4) = true ∧
    runs (.calCompute .host 63 0) { fit with adc := { fit.adc with zeroDone := [] } } (fun t => t.fld Reg.ADC_CAL_STAT_FAIL == 3
      && decide (t.regs.shadow = fit.regs.shadow)) = true := by decide +kernel

theorem witness_polarity :
    let s := at_ 12000 up
    let a := Reg.ADC_POL_CFG_START.addr
    takes s .host a = true ∧
    runs (.polarityCheck .host 63 false 5 8) s (fun t => t.on Reg.ADC_POL_STAT_BUSY
      && decide (t.adc.pol = some { input := 63, ref := 5, need := 256, next := 22000 })) = true ∧
    (let l := [Reg.ADC_POL_CFG_INPUT, Reg.ADC_POL_CFG_REF_KIND, Reg.ADC_POL_CFG_REF, Reg.ADC_POL_CFG_W]
     runs (.polarityCheck .host 63 false 5 7) s (fun t => turnedBut l s t .host a && t.fld Reg.ADC_POL_CFG_W == s.fld Reg.ADC_POL_CFG_W)
       && runs (.polarityCheck .host 63 true 7 15) s (fun t => turnedBut l s t .host a && t.fld Reg.ADC_POL_CFG_W == 15)) = true ∧
    runs (.polarityCheck .host 63 true 7 15) (s.setFld (Reg.SND_G_STATUS_STATE 7) gBURST) (fun t => t.on Reg.ADC_POL_STAT_BUSY) = true ∧
    (let r : PolRun := { input := 63, ref := 5, need := 256, next := 12000, n := 255 }
     let q (l : List (Nat × Nat)) : State := { s with adc := { s.adc with pol := some r, inLast := l } }
     runs .polaritySample (q [(5, 2 ^ 16 + 3), (63, 2 ^ 16 + 0xFFFF)]) (fun t => decide (t.adc.pol = some { r with
         next := 22000, n := 256, sx := -1, sr := 3, sxx := 1, srr := 9, sxr := -3 }))
       && runs .polaritySample (q []) (fun t => decide (t.adc.pol = some { r with next := 22000, n := 0 }))) = true ∧
    (let r : PolRun := { input := 63, ref := 5, need := 2, n := 2, sx := 2, sr := -2, sxx := 4, srr := 4, sxr := -4 }
     let d := { s with adc := { s.adc with pol := some r } }
     r.corr == some (-(2 ^ 30)) && runs .polarityDone d (fun t => decide (t.adc.pol = none) && t.fld Reg.ADC_POL_STAT_VERDICT == 2
       && t.fld Reg.ADC_POL_CORR == 0xC0000000 && t.on Reg.ADC_STATUS_POLDONE_S)
       && stays .polarityDone { s with adc := { s.adc with pol := some { r with n := 1 } } }) = true := by decide +kernel

/-! Pulse generation, trips and gate drive. -/

/-- A boot's end with leg 63 used in direct or logic mode in carrier group 0, its carriers at an update point, and a trip sheet. -/
def leg63 (logic : Bool) (srcs : List Nat) (l : List (Fld × Nat)) : State :=
  let s := at_ 12000 (upWith ([(Reg.SYS_BOOT_STATUS_PHASE, 6), (Reg.SDC_STATUS_STATE, 2)] ++ l))
  let img : Img := { legs := [{ leg := 63, used := true, logic := logic, group := 7 }], trip := { srcs := srcs, legs := List.replicate 64 0x80 } }
  { s with stg := { s.stg with active := some img }, pwm := { s.pwm with running := true, origin := 2000 }, trp := { s.trp with armed := true } }

theorem witness_carriers :
    (let s := { at_ 2000 up with pwm := { up.pwm with origin := 2000 } }
     runs .carrierOrigin s (fun t => t.pwm.running) && stays .carrierOrigin (at_ 2001 s)) = true ∧
    (let s := leg63 false [] [(Reg.PWM_RUN 1, 0x80000000)]
     let r := s.setLeg 63 { s.leg 63 with shadow := 0x08000000, got := true }
     ((s.leg 63).car.at s.now).isUpdate s.now && r.armed && r.permits 63
       && runs (.updatePoint 63) r (fun t => t.fld (Reg.PWM_LEG_DUTY 63) == 0x08000000 && t.fld (Reg.PWM_LEG_STATUS_STATE 63) == legPRECHG)
       && runs (.updatePoint 63) (r.setFld (Reg.PWM_RUN 1) 0) (fun t => t.fld (Reg.PWM_LEG_STATUS_STATE 63) == legOFF)
       && stays (.updatePoint 63) (r.mark 63) && stays (.updatePoint 63) { r with pwm := { r.pwm with running := false } }
       && stays (.updatePoint 71) { r with pwm := { r.pwm with running := false } }) = true ∧
    (let s := leg63 true [] [(Reg.PWM_RUN 1, 0x80000000)]
     runs (.updatePoint 63) (s.setLeg 63 { s.leg 63 with got := true }) fun t => t.fld (Reg.PWM_LEG_STATUS_STATE 63) == legACTIVE) = true ∧
    (let s := leg63 false [0x700 + 0x80] []
     let r := { s with trp := { s.trp with latch := [0] } }
     s.srcCycle 0 && ((s.gcar 0).at s.now).isUpdate s.now && runs (.updatePoint 64) r (fun t => t.trp.latch.isEmpty)
       && runs (.updatePoint 64) { r with trp := { r.trp with live := [0] } } fun t => t.trp.latch == [0]) = true := by decide +kernel

/-- Sources 82 and 83 in LATCH mode, and source 0 in CYCLE mode, of zone 7. -/
def srcs83 : List Nat := 0x380 :: List.replicate 81 0 ++ [0x180, 0x180]

/-- R231: the stamp of the first trip is 2 or 3 C-cycles late as the part gives it, so the runs here are of a later one; the state before
the first meets the hypotheses too. -/
theorem witness_trips :
    (let s := (leg63 false srcs83 []).mark (markCleared 83)
     runs (.tripSourceLatch 83 true) s fun t => t.trp.latch == [83] && t.on Reg.TRP_STATUS_CLRREF_S && t.fld Reg.TRP_CNT_TRIP_CNT == 0) = true ∧
    (let s := leg63 false srcs83 []
     s.trp.armed && s.srcEn 83 && !s.srcCycle 83 && !s.anyLatch && !s.trp.latch.contains 83) = true ∧
    (let s := { leg63 false srcs83 [] with trp := { live := [], latch := [82], armed := true } }
     s.anyLatch && runs (.tripSourceLatch 83 true) s (fun t => t.trp.latch == [83, 82] && t.trp.live == [83]
       && t.on Reg.TRP_STATUS_TRIP_S && t.fld Reg.TRP_CNT_TRIP_CNT == 1 && !t.on Reg.TRP_FIRST_VALID)
       && takes s .svc addrTrpSw && runs (.softwareTrip .svc 8) s fun t => t.trp.latch == [83, 82] && t.on Reg.TRP_STATUS_TRIP_S) = true ∧
    (let s := leg63 false srcs83 []
     s.srcEn 0 && s.srcCycle 0 && (s.legRec 63).used && zonesMeet (s.srcZones 0) (s.legZones 63)
       && runs (.tripSourceLatch 0 true) s (fun t => t.trp.latch == [0] && t.on Reg.TRP_STATUS_CYC_S && !t.on Reg.TRP_STATUS_TRIP_S
         && t.fld (Reg.PWM_LEG_STATUS_STATE 63) == legFORCED)
       && runs (.tripSourceLatch 0 false) { s with trp := { s.trp with live := [0] } } (fun t => t.trp.live.isEmpty && only [] s t)) = true ∧
    (let s := leg63 false srcs83 []
     let r (live : List Nat) := { s with trp := { s.trp with latch := [83], live := live } }
     takes s .host (Reg.TRP_CLR 2).addr && !(r []).marked (markLatched 83)
       && runs (.tripClear .host 2 (BitVec.ofNat 32 (2 ^ 19))) (r []) (fun t => t.trp.latch.isEmpty)
       && runs (.tripClear .host 2 (BitVec.ofNat 32 (2 ^ 19))) (r [83]) fun t => t.trp.latch == [83] && t.on Reg.TRP_STATUS_CLRREF_S) = true := by
  decide +kernel

/-- Leg 63 with its command lines and its die, enabled and supplied. -/
def drv63 (hi lo : Bool) (r : DrvLeg) (l : List (Fld × Nat)) : State :=
  let s := leg63 false [] l
  let t := (s.setLeg 63 { s.leg 63 with hiCmd := hi, loCmd := lo }).setDleg 63 r
  t.setDdie 3 { en := true, lowAt := none, supply := true, risen := true }

theorem witness_gates :
    (let s := drv63 true false { locked := false } []
     s.dieReady 3 && s.direct 63 && s.sdcRun && s.cmd 63 true
       && runs (.gateTurnOn 63 true true) s (fun t => (t.dleg 63).hi == .on && (t.dleg 63).hiOn == some 12008 && only [] s t)
       && runs (.gateTurnOn 63 true false) s (fun t => (t.dleg 63).hi == .waiting && (t.dleg 63).cmdAt == 12000)
       && stays (.gateTurnOn 63 true true) (s.setFld Reg.SDC_STATUS_STATE 1)) = true ∧
    (let s := drv63 true true { lo := .on } []
     runs (.gateTurnOn 63 true true) s fun t => (t.dleg 63).lo == .off && (t.dleg 63).hi == .off && t.on (Reg.DRV_LEG_STATUS_ILK_S 63)
       && t.fld (Reg.DRV_LEG_CNT_ILK_CNT 63) == 1) = true ∧
    (let s := drv63 false false { hi := .on } []
     runs (.gateTurnOff 63 true) s fun t => (t.dleg 63).hi == .off && only [] s t) = true := by decide +kernel

/-- R33, R240: a logic pin is low before arming; once armed, off is high where INV is 1. -/
theorem witness_logic_pins :
    (let s := leg63 true [] [(Reg.PWM_LEG_CTRL_INV_H 63, 1)]
     s.armed && s.logicPin 63 true && !s.logicPin 63 false && !(s.setDleg 63 { hi := .on }).logicPin 63 true
       && (s.setDleg 63 { lo := .on }).logicPin 63 false && !(s.setFld Reg.SYS_BOOT_STATUS_PHASE 5).logicPin 63 true) = true := by decide +kernel

/-- R249: the fields of a commit wait for the leg's next edge, and STR_NOW is loaded with STR there. -/
theorem witness_gate_config :
    (let s := drv63 false false { hi := .on, cfgDue := true } []
     let c := { s with regs := { s.regs with com := [((Reg.DRV_LEG_STR 63).key, 0x1234)] } }
     runs (.gateTurnOff 63 true) c fun t => t.fld (Reg.DRV_LEG_STR 63) == 0x1234 && t.fld (Reg.DRV_LEG_STR_NOW 63) == 0x1234
       && t.regs.com == [] && t.marked (markReload 63) && (t.dleg 63).hi == .off
       && runs (.adaptStep 63 3) t fun u => decide (u.regs = t.regs)) = true := by decide +kernel

theorem witness_gate_confirm :
    (let g := (drv63 true false {} []).gcw 63
     let w (at0 : Nat) := drv63 true false { hi := .waiting, cmdAt := at0 } []
     runs (.gateConfirmed 63 true) (w 11996) (fun t => (t.dleg 63).hi == .on && !t.on (Reg.DRV_LEG_STATUS_GWAIT_S 63))
       && decide (5 < g) && runs (.gateConfirmed 63 true) (w 11995) (fun t => (t.dleg 63).hi == .on && t.on (Reg.DRV_LEG_STATUS_GWAIT_S 63))
       && stays (.gateConfirmed 63 true) (w (12000 - g)) && stays (.gateConfirmTimeout 63 true) (w (12001 - g))
       && runs (.gateConfirmTimeout 63 true) (w (12000 - g)) (fun t => (t.dleg 63).hi == .off && t.on (Reg.DRV_LEG_STATUS_GSTUCK 63)
         && bitOf (t.fld Reg.DRV_STATUS_FAULT) 3 && t.fld (Reg.DRV_DIE_CNT_FLT_CNT 3) == 1)
       && runs (.gateLowTimeout 63 true) (drv63 true false { hi := .on, hiOn := some (12000 - g) } []) (fun t => t.on (Reg.DRV_LEG_STATUS_GLOW 63)
         && (t.dleg 63).hi == .off)) = true := by decide +kernel

theorem witness_bootstrap :
    (let s := drv63 true false { hi := .on, locked := false } []
     runs (.bootstrapLock 63) s (fun t => (t.dleg 63).locked && (t.dleg 63).hi == .off && t.bsuvNow 63
         && t.fld (Reg.DRV_LEG_CNT_BSUV_CNT 63) == 1)
       && runs (.bootstrapLock 63) (drv63 false false { locked := false } []) (fun t => (t.dleg 63).locked && !t.on (Reg.DRV_LEG_STATUS_BSUV_S 63))
       && runs (.bootstrapUnlock 63) (drv63 true false { bsuvFrom := some 5 } []) (fun t => !(t.dleg 63).locked && (t.dleg 63).bsuvFrom == none)) = true ∧
    (let s := at_ 400000 (drv63 true false { bsuvFrom := some 0, locked := true } [(Reg.DRV_DIE_CFG_BSUV_T 3, 1)])
     runs (.bsuvTimeout 63) s (fun t => t.on (Reg.DRV_LEG_STATUS_UVLAT 63) && (t.dleg 63).hi == .off) && stays (.bsuvTimeout 63) (at_ 399999 s)) = true ∧
    (let s := drv63 false false { relPend := true, hi := .on } []
     runs (.legRelease 63) s fun t => t.fld (Reg.DRV_LEG_STATUS_ROLE 63) == 1 && (t.dleg 63).hi == .off && !(t.dleg 63).relPend
       && only [Reg.DRV_LEG_STATUS_ROLE 63] s t) = true := by decide +kernel

theorem witness_strengths :
    (let s := drv63 true false { hi := .on, hiOn := some (12000 - 100) } [(Reg.DRV_LEG_CFG_ADAPT_EN 63, 1)]
     s.creditOf 63 true (120000 - 1000) == some 0 && s.creditOf 63 true (120000 - 1001) == none && runs (.swEdgeMeasured 63 true 1000) s (fun t => t.fld (Reg.DRV_LEG_EDGE_LAST_RISE 63) == 1000
         && decide ((t.dleg 63).credits.getD 0 {} = ⟨1, 1000⟩))
       && stays (.swEdgeMeasured 63 true 1001) s && stays (.swEdgeMeasured 63 true 3) s
       && runs (.swEdgeMeasured 63 false 4) s fun t => t.fld (Reg.DRV_LEG_EDGE_LAST_FALL 63) == 4) = true ∧
    (let s (sum smax : Nat) := drv63 true false { credits := [{}, {}, {}, ⟨1, sum⟩] }
        [(Reg.DRV_LEG_CFG_ADAPT_EN 63, 1), (Reg.DRV_DIE_CFG_AVG 3, 0), (Reg.DRV_DIE_CFG_BAND 3, 4), (Reg.DRV_LEG_CFG_TSW 63, 50),
          (Reg.DRV_LEG_STR_NOW 63, 0x5432), (Reg.DRV_LEG_STR_SMAX 63, smax)]
     runs (.adaptStep 63 3) (s 126 15) (fun t => t.fld (Reg.DRV_LEG_STR_NOW 63) == 0x6432)
       && runs (.adaptStep 63 3) (s 126 5) (fun t => t.fld (Reg.DRV_LEG_STR_NOW 63) == 0x5432 && t.on (Reg.DRV_LEG_STATUS_ADLIM_S 63))
       && runs (.adaptStep 63 3) (s 125 15) (fun t => t.fld (Reg.DRV_LEG_STR_NOW 63) == 0x5432 && decide ((t.dleg 63).credits.getD 3 {} = ⟨0, 0⟩))) = true := by
  decide +kernel

/-- Every gate of die 3 is off. -/
def off3 (t : State) : Bool := (List.range 16).all fun j => (t.dleg (48 + j)).hi == .off && (t.dleg (48 + j)).lo == .off

theorem witness_dies :
    let s := drv63 true false { hi := .on } []
    runs (.drvenLow 3) s (fun t => off3 t && !(t.ddie 3).en && (t.ddie 3).lowAt == some 12000 && only [Reg.DRV_STATUS_EN] s t) = true ∧
    runs (.dlinkClockLoss 3) (put s [(Reg.TWN_CTRL_PAIR_EN, 1), (Reg.TWN_STATUS_ROLE, roleACTIVE)]) (fun t => off3 t && !(t.ddie 3).link
      && t.on (Reg.DRV_DIE_STATUS_LINKF 3) && bitOf (t.fld Reg.SYS_DIE_STATUS_DLINK_S) 3 && t.role == roleLOST && t.on Reg.TWN_STATUS_STANDDN_S) = true ∧
    runs (.drvVuv 3) s (fun t => off3 t && t.on (Reg.DRV_DIE_STATUS_VUV 3) && t.vuvNow 3 && !(t.ddie 3).supply) = true ∧
    stays (.drvSupplyRise 3) (s.setDdie 3 { supply := true, risen := true }) = true ∧
    (let u := s.setDdie 3 { risen := true }
     (u.ddie 3).risen && !(u.ddie 3).supply && [u.drawFree.2.dieUp 3, u.drawFree.2.dieStart 3].all fun t => (t.ddie 3).supply && !t.vuvNow 3) = true ∧
    runs (.drvVuv 3) (s.setDdie 3 { supply := true }) (fun t => off3 t && !t.on (Reg.DRV_DIE_STATUS_VUV 3)) = true ∧
    runs (.drvOt 3) s (fun t => off3 t && t.on (Reg.DRV_DIE_STATUS_OT 3)) = true ∧
    runs (.drvSupplyRise 3) (s.setDdie 3 {}) (fun t => (t.ddie 3).supply && (t.ddie 3).risen) = true ∧
    runs (.shortCircuit 63 true) (s.setFld (Reg.DRV_LEG_CFG_SC_EN 63) 1) (fun t => t.on (Reg.DRV_LEG_STATUS_SC 63) && (t.dleg 63).hi == .off
      && t.trp.live.contains 79 && t.fld (Reg.DRV_DIE_CNT_FLT_CNT 3) == 1) = true := by decide +kernel

theorem witness_die_clear :
    let s (a : Nat) := (put (drv63 false false {} []) [(Reg.DRV_DIE_STATUS_OT 3, 1), (Reg.DRV_LEG_STATUS_GLOW 63, 1), (Reg.DRV_STATUS_FAULT, 8)]).setDdie 3
      { en := false, lowAt := some a, supply := true, risen := true }
    runs (.drvenRise 3 true false) (s 11200) (fun t => (t.ddie 3).en && !t.dieFault 3 && !t.legFault 63 && t.on Reg.DRV_STATUS_CLR_S
      && t.fld Reg.DRV_STATUS_FAULT == 0 && t.fld (Reg.DRV_DIE_CNT_CLR_CNT 3) == 1) = true ∧
    runs (.drvenRise 3 true false) (s 11441) (fun t => (t.ddie 3).en && t.dieFault 3 && t.legFault 63) = true := by decide +kernel

/-! Clocks. -/

/-- At 8,000,000 with PLL states and other fields. -/
def pll (l : List (Fld × Nat)) : State := at_ 8000000 (upWith l)

theorem witness_reference :
    (let s := pll [(Reg.CLK_STATUS_REF_OK, 1), (Reg.CLK_STATUS_REF_ACT, 1), (Reg.CLK_REF_CFG_FALLBACK, 1)]
     runs (.referenceLoss 65535 7) s (fun t => t.on Reg.CLK_STATUS_REFLOSS_S && !t.on Reg.CLK_STATUS_REF_ACT && t.on Reg.CLK_STATUS_FALLBK_S
         && t.on Reg.CLK_STATUS_REF_OK && t.fld Reg.CLK_REF_MEAS_REF_KHZ == 65535)
       && runs (.referenceLoss 65535 7) (s.setFld (Reg.CLK_PLL_STATUS_STATE 0) 3) (fun t => t.on Reg.CLK_STATUS_HOLD && !t.on Reg.CLK_STATUS_LOCK_C
         && t.clk.holdAt == 8000000)
       && runs (.referenceLoss 0 7) (s.setFld Reg.CLK_REF_CFG_FALLBACK 0) (fun t => t.on Reg.CLK_STATUS_REF_ACT && !t.on Reg.CLK_STATUS_REF_OK)) = true ∧
    (let s := pll [(Reg.CLK_STATUS_REF_OK, 0), (Reg.CLK_PLL_STATUS_STATE 2, 3)]
     s.refInRange 25000 && s.refInRange 26250 && s.refInRange 23750 && stays (.referenceValid 26251 7) s && stays (.referenceValid 23749 7) s
       && runs (.referenceValid 24000 7) (s.setFld Reg.CLK_STATUS_REF_OK 1) (fun t => t.fld Reg.CLK_REF_MEAS_REF_KHZ == 24000) && runs (.referenceValid 25000 7) s fun t => t.on Reg.CLK_STATUS_REF_OK && t.fld (Reg.CLK_PLL_STATUS_STATE 2) == 3
       && t.fld (Reg.CLK_PLL_STATUS_STATE 1) == 1) = true := by decide +kernel

theorem witness_lock_losses :
    runs (.pllLossOfLock 0 false) (pll [(Reg.CLK_PLL_STATUS_STATE 0, 3), (Reg.CLK_STATUS_LOCK_C, 1)]) (fun t => t.fld (Reg.CLK_PLL_STATUS_STATE 0) == 4
      && t.on Reg.CLK_STATUS_HOLD && !t.on Reg.CLK_STATUS_LOCK_C && t.clk.holdAt == 8000000 && t.fld Reg.CLK_CNT_LOLC_CNT == 1) = true ∧
    runs (.pllLossOfLock 1 false) (pll [(Reg.CLK_PLL_STATUS_STATE 1, 3), (Reg.CLK_STATUS_LOCK_A, 1)]) (fun t => !t.on Reg.CLK_STATUS_LOCK_A
      && t.on Reg.ADC_STATUS_PLLSW_S && (t.conv 31).swLeft == 4) = true ∧
    runs (.pllLossOfLock 2 false) (pll [(Reg.CLK_PLL_STATUS_STATE 2, 3), (Reg.CLK_STATUS_LOCK_M, 1)]) (fun t => !t.on Reg.CLK_STATUS_LOCK_M
      && t.clk.lossM == some 8000000 && t.on Reg.CLK_STATUS_LOL_M_S) = true := by decide +kernel

theorem witness_locks :
    (let s := pll [(Reg.CLK_STATUS_REF_OK, 1)]
     runs (.pllLock 0 63 1023 255) s (fun t => t.fld (Reg.CLK_PLL_STATUS_STATE 0) == 3 && t.on Reg.CLK_STATUS_LOCK_C && !t.on Reg.CLK_STATUS_HOLD)
       && runs (.pllLock 1 63 1023 255) s (fun t => t.on Reg.CLK_STATUS_LOCK_A && t.clk.lockA == 8000000 && t.on (Reg.CLK_BAND_VALID 6)
         && t.fld (Reg.CLK_BAND_BAND 6) == 63)
       && runs (.pllLock 2 0 0 0) { s with clk := { s.clk with lossM := some 4 } } (fun t => t.on Reg.CLK_STATUS_LOCK_M && t.clk.lossM == none)) = true ∧
    stays (.pllLock 1 0 0 0) (pll [(Reg.CLK_STATUS_REF_OK, 0)]) = true ∧
    stays (.pllLock 1 0 0 0) ((pll [(Reg.CLK_STATUS_REF_OK, 1)]).mark (markLoss 1)) = true := by decide +kernel

theorem witness_hops_and_holdover :
    (let s (a : Nat) (l : List (Fld × Nat)) := { pll l with clk := { up.clk with hop := [(1, a + 1)], hopEnt := [(1, 10)] } }
     let v := [(Reg.CLK_BAND_VALID 10, 1), (Reg.CLK_BAND_TEMP 10, 250)]
     runs (.fastHopTimeout 1 5) (s 7998000 v) (fun t => t.on Reg.CLK_STATUS_HOPFAIL_S
         && t.fld (Reg.CLK_PLL_STATUS_STATE 1) == 1 && !t.on (Reg.CLK_BAND_VALID 10))
       && stays (.fastHopTimeout 1 5) (s 7998001 v)) = true ∧
    (let s (a : Nat) := { pll [(Reg.CLK_PLL_STATUS_STATE 0, 4), (Reg.GFM_EVT_STATUS_MODE 7, mISLAND)] with
        clk := { up.clk with holdAt := a, locked := true }, stg := { up.stg with active := some (imgOf 7 []) } }
     (s 0).controlled 7 && ((List.range 8).all fun g => (s 0).actionOf g 6 == 0)
       && runs .holdoverExpiry (s 7200000) (fun t => t.fld (Reg.CLK_PLL_STATUS_STATE 0) == 5 && t.on Reg.CLK_STATUS_HOLDX_S
         && t.fld (Reg.GFM_FA_LAST_SOURCE 7) == 6 && t.mode 7 == mISLAND)
       && stays .holdoverExpiry (s 7200001)) = true ∧
    (let s := pll [(Reg.CLK_BAND_VALID 15, 1)]
     let a := Reg.CLK_BAND_CTRL_CLEAR.addr
     takes s .host a && runs (.bandTableClear .host) s (fun t => !t.on (Reg.CLK_BAND_VALID 15))
       && runs (.bandTableClear .host) (s.setFld Reg.SYS_BOOT_STATUS_PHASE 6) fun t => turned (s.setFld Reg.SYS_BOOT_STATUS_PHASE 6) t .host a) = true := by
  decide +kernel

theorem witness_domains :
    (let s := { pll [] with clk := { up.clk with altDue := true } }
     stays .domainASwitchover (pll []) && runs .domainASwitchover s (fun t => t.on Reg.CLK_STATUS_A_ALT && only [Reg.CLK_STATUS_A_ALT] s t)) = true ∧
    (let s (a : Nat) := { pll [(Reg.CLK_STATUS_A_ALT, 1), (Reg.CLK_STATUS_LOCK_A, 1)] with clk := { up.clk with lockA := a } }
     runs .domainASwitchback (s 7999600) (fun t => !t.on Reg.CLK_STATUS_A_ALT && t.on Reg.ADC_STATUS_PLLSW_S && (t.conv 31).swLeft == 4)
       && stays .domainASwitchback (s 7999601)) = true ∧
    (let s := { pll [] with clk := { up.clk with lossM := some 3 } }
     runs .memSelfRefreshEntry s fun t => t.on Reg.CLK_STATUS_M_SR && t.mem.srFrom == some 8000000) = true ∧
    (let s := { pll [(Reg.CLK_STATUS_M_SR, 1), (Reg.CLK_STATUS_LOCK_M, 1)] with
        mem := { up.mem with srFrom := some 7000000, ch := [(31, { flight := some { takenAt := 5, paused := 2 } })] } }
     runs .memSelfRefreshExit s fun t => !t.on Reg.CLK_STATUS_M_SR && t.mem.srFrom == none
       && decide ((t.dch 31).flight = some { takenAt := 5, paused := 1000002 })) = true := by decide +kernel

theorem witness_spreading :
    (let s := { at_ 400 (upWith [(Reg.CLK_STATUS_SPREAD_ON, 1), (Reg.CLK_STATUS_LOCK_C, 1), (Reg.CLK_SPREAD_PERIOD, 1), (Reg.CLK_SPREAD_DEPTH, 5)]) with
        clk := { up.clk with locked := true } }
     s.profPos == 400 && runs .spreadStep s fun t => t.fld Reg.GRT_TICKW == t.eng.rho * 16
       && t.fld (Reg.CLK_PLL_NINT_NINT 0) * 2 ^ 24 + t.fld (Reg.CLK_PLL_NFRAC_NFRAC 0) == s.profRatio 400) = true ∧
    (let z := pll [(Reg.CLK_STATUS_LOCK_C, 1)]
     let s := { z with regs := { z.regs with com := [(Reg.CLK_SPREAD_EN.key, 1)] } }
     s.profPos == 0 && runs .spreadProfileRestart s fun t => decide (t.regs.com = []) && t.on Reg.CLK_SPREAD_EN && t.on Reg.CLK_STATUS_SPREAD_ON
       && t.clk.profile == 8000000) = true := by decide +kernel

/-! Protected memory, DMA and the dual-clock queues. -/

/-- DRAM that serves requests, at 400,000,000, with fields and a record. -/
def mem_ (l : List (Fld × Nat)) (m : MemRun) : State :=
  { at_ 400000000 (upWith ([(Reg.MEM_STATUS_INIT_DONE, 1)] ++ l)) with mem := m }

theorem witness_fill_and_dies :
    (let s (k : Nat) := { upWith [(Reg.SYS_BOOT_STATUS_PHASE, 2), (Reg.SYS_RESET_CAUSE_KIND, k)] with mem := { dram := [(5, 6)], plist := [9] } }
     runs (.memInitDone none) (s 0) (fun t => t.on Reg.MEM_STATUS_INIT_DONE && t.dram 5 == 0 && t.mem.plist.isEmpty
         && t.on Reg.SYS_DIE_STATUS_CNV_UP && t.fld Reg.SYS_DIE_STATUS_DRV_UP == 15 && t.on Reg.SYS_DIE_STATUS_MEM_UP)
       && runs (.memInitDone none) (s 1) (fun t => t.on Reg.MEM_STATUS_INIT_DONE && t.dram 5 == 6)
       && runs (.memInitDone (some 9)) (s 1) (fun t => t.lostDie == some 9 && t.on Reg.MEM_STATUS_LOST_S)) = true ∧
    (let s := mem_ [] {}
     let a := Reg.MEM_DIE_CTRL_DIE.addr
     let l := mem_ [(Reg.MEM_STATUS_LOST, 1), (Reg.MEM_STATUS_LOST_DIE, 4), (Reg.MEM_STATUS_LOST2, 1)] {}
     takes s .host a && runs (.dieMark .host 9) s (fun t => t.lostDie == some 9) && runs (.dieMark .host 10) s (fun t => turned s t .host a)
       && runs (.dieMark .host 3) l (fun t => turned l t .host a) && runs (.dieUnmark .host) l (fun t => t.lostDie == none && !t.on Reg.MEM_STATUS_LOST2)
       && runs (.dieUnmark .host) s fun t => turned s t .host a) = true ∧
    (let w := [(Reg.MEM_CTRL_AUTO_LOST, 1), (Reg.MEM_LOST_CFG_THR, 100)]
     runs .dieCeWindow (mem_ w { dieWin := [(9, 100), (0, 99)] }) (fun t => t.lostDie == some 9 && t.mem.dieWin.isEmpty && t.mem.winFrom == 400000000)
       && runs .dieCeWindow (mem_ w { dieWin := [(9, 99)] }) (fun t => t.lostDie == none && t.mem.dieWin.isEmpty)
       && stays .dieCeWindow (mem_ w { dieWin := [(9, 100)], winFrom := 1 })) = true := by decide +kernel

theorem witness_code :
    verdict none (255 * 256 ^ 9) = .corrected 9 0 ∧ verdict none 0 = .clean 0 ∧ verdict (some 9) (255 * 256 ^ 9) = .clean 0 ∧
    verdict (some 9) (1 * 256 ^ 9 + 255) = .bad := by decide +kernel

theorem witness_scrub :
    (let s := mem_ [(Reg.MEM_CTRL_SCRUB_EN, 1), (Reg.MEM_SCRUB_POS_BLOCK, 77)] { flips := [(8 * 77 + 7, 255 * 256 ^ 9)] }
     s.memRuns && s.scrubTarget 77 == some 77 && runs .scrubRead s (fun t => t.on Reg.MEM_STATUS_CE_S && t.fld (dieCnt 9) == 1 && t.mem.flips.isEmpty
         && t.fld Reg.MEM_SCRUB_POS_BLOCK == 78 && only [Reg.MEM_SCRUB_POS_BLOCK, Reg.MEM_STATUS_CE_S, Reg.MEM_CE_CNT, dieCnt 9] s t)
       && stays .scrubRead (s.setFld Reg.MEM_CTRL_SCRUB_EN 0)) = true ∧
    (let s := mem_ [(Reg.MEM_CTRL_SCRUB_EN, 1)] {}
     runs .scrubRead s fun t => t.fld Reg.MEM_SCRUB_POS_BLOCK == 1 && only [Reg.MEM_SCRUB_POS_BLOCK] s t) = true := by decide +kernel

theorem witness_errata_and_injection :
    (let s := mem_ [(Reg.MEM_ERRATA_VALID 15, 1), (Reg.MEM_ERRATA_BLOCK 15, 7)] {}
     takes s .host Reg.MEM_ERRATA_CTRL_BLOCK.addr && s.errataFree == some 0 && s.errataOf 7 == some 15
       && runs (.errataAdd .host (Fin.ofNat _ (spareBlock - 1))) s (fun t => decide (t.mem.moves = [{ k := 0, block := spareBlock - 1, at0 := 400000000 }]))
       && runs (.errataAdd .host (Fin.ofNat _ spareBlock)) s (fun t => t.mem.moves.isEmpty && t.on Reg.SYS_EVENT_WRREJ_S)
       && runs (.errataAdd .host 7) s (fun t => t.mem.moves.isEmpty && t.on Reg.SYS_EVENT_WRREJ_S)
       && runs (.errataRemove .host 7) s (fun t => decide (t.mem.moves = [{ k := 15, block := 7, back := true, at0 := 400000000 }]))) = true ∧
    (let s (b : Bool) := mem_ [(Reg.MEM_ERRATA_VALID 15, asNat b)] { moves := [{ k := 15, block := 0x7FFFF, back := b }] }
     runs .errataMoveDone (s false) (fun t => t.mem.moves.isEmpty && t.on (Reg.MEM_ERRATA_VALID 15) && t.fld (Reg.MEM_ERRATA_BLOCK 15) == 0x7FFFF)
       && runs .errataMoveDone (s true) (fun t => t.mem.moves.isEmpty && !t.on (Reg.MEM_ERRATA_VALID 15))
       && (let f := (s false).setDch 31 { flight := some { takenAt := 0, beats := [(0x7FFFF * 8192 + 8191, 1)] } }
           f.burstIn { k := 15, block := 0x7FFFF } && stays .errataMoveDone f)
       && (let i := { s false with mem := { (s false).mem with inj := some (0x7FFFF * 1024, 1) } }
           i.moving (8 * (0x7FFFF * 1024)) && stays .checkerInjectDone i)) = true ∧
    (let s (a : Nat) := { mem_ [(Reg.MEM_INJ_ADDR, a), (Reg.MEM_FLIP2_MASK, 1)] {} with expertStart := true }
     let r := Reg.MEM_INJ_CTRL_GO.addr
     takes (s 0) .host r && runs (.checkerInject .host) (s 0x01000000) (fun t => t.mem.inj == some (0x200000, 2 ^ 64))
       && runs (.checkerInject .host) (s 0xFFFDFFF8) (fun t => t.mem.inj.isSome) && runs (.checkerInject .host) (s 0xFFFE0000) (fun t => turned (s 0xFFFE0000) t .host r)
       && runs .checkerInjectDone (mem_ [] { inj := some (0x200000, 2 ^ 64) }) fun t => tabGet 0 t.mem.flips 0x200000 == 2 ^ 64 && t.mem.inj == none
         && t.on Reg.MEM_STATUS_INJ_S) = true := by decide +kernel

/-- A write of four bytes that ends its block, one with poison, and one that finds no room; a read. -/
theorem witness_bytes :
    (match (mem_ [] { dram := [(63, 1), (64, 2)] }).writeBlock 60 [9, 8, 7, 263] false with
     | some t => t.dram 63 == 7 && t.dram 60 == 9 && t.dram 64 == 2 && t.mem.plist.isEmpty
     | none => false) = true ∧
    (match (mem_ [] {}).writeBlock 0 (List.replicate 64 1) true with
     | some t => t.mem.plist == [0]
     | none => false) = true ∧
    (match (mem_ [] { plist := [5, 0], flips := [(7, 3)] }).writeBlock 0 (List.replicate 64 1) false with
     | some t => t.mem.plist == [5] && t.mem.flips.isEmpty
     | none => false) = true ∧
    ((mem_ [] { plist := (List.range 64).map (· + 1) }).writeBlock 0 [1] true).isNone = true ∧
    ((mem_ [] { dram := [(8, 3)], plist := [0] }).readBeat 8 2).2 = ([3, 0], true) := by decide +kernel

theorem witness_channels :
    (let s := mem_ [(Reg.DMA_CH_CFG_KIND 31, kCOPY), (Reg.DMA_CH_DESC 31, 0x100)] {}
     let h := mem_ [] { ch := [(31, { halted := true })] }
     takes s .host (addrCtrl 31) && s.chState 31 == 0 && runs (.copyStart .host 31) s (fun t => decide ((t.dch 31).copy = some { desc := 0x100 }))
       && runs (.copyStart .host 30) s (fun t => turned s t .host (addrCtrl 30)) && runs (.dmaResume .host 31) h (fun t => !(t.dch 31).halted)
       && h.faultAt 31 == 0 && runs (.dmaResume .host 31) (at_ 0 h) (fun t => (t.dch 31).halted)
       && runs (.dmaResume .host 31) s fun t => turned s t .host (addrCtrl 31)) = true ∧
    (let s (last : Bool) := mem_ [(Reg.DMA_CH_CFG_KIND 31, kCOPY)] { ch := [(31, { copy := some { phase := 3, next := 64, last := last } })] }
     runs (.copyDescriptorDone 31) (s true) (fun t => (t.dch 31).copy == none && t.fld (Reg.DMA_CH_CNT_DONE_CNT 31) == 1)
       && runs (.copyDescriptorDone 31) (s false) fun t => decide ((t.dch 31).copy = some { desc := 64 })) = true ∧
    (let s (r mode n : Nat) := mem_ [(Reg.DMA_CH_SIZE 31, 128), (Reg.DMA_CH_WPTR 31, 112), (Reg.DMA_CH_RPTR 31, r), (Reg.DMA_CH_CTRL_MODE 31, mode)]
        { ch := [(31, { wrote := n })] }
     stays (.streamRecordWrite 31) (s 0 0 0) && runs (.streamRecordWrite 31) (s 96 0 4) (fun t => t.fld (Reg.DMA_CH_WPTR 31) == 48 && (t.dch 31).wrote == 0)
       && runs (.streamRecordWrite 31) (s 0 1 4) (fun t => t.fld (Reg.DMA_CH_WPTR 31) == 48 && t.fld (Reg.DMA_CH_RPTR 31) == 64
         && t.on (Reg.DMA_CH_STATUS_LAP_S 31) && t.fld (Reg.DMA_CH_CNT2_LAP_CNT 31) == 1)
       && runs (.streamRecordWrite 31) (s 48 1 4) (fun t => t.fld (Reg.DMA_CH_RPTR 31) == 48 && (t.dch 31).full && !t.on (Reg.DMA_CH_STATUS_LAP_S 31))
       && runs (.streamRecordWrite 31) ((s 112 1 4).setDch 31 { wrote := 4, full := true }) (fun t => t.on (Reg.DMA_CH_STATUS_LAP_S 31)
         && t.fld (Reg.DMA_CH_WPTR 31) == 48 && t.fld (Reg.DMA_CH_RPTR 31) == 64)) = true := by
  decide +kernel

theorem witness_timeouts :
    (let s (a : Nat) := mem_ [(Reg.DMA_CH_CTRL_TMO 31, 100)] { ch := [(31, { flight := some { takenAt := a, paused := 10, vaddr := 0xABC } })] }
     runs (.dmaTimeout 31) (s (400000000 - 40010)) (fun t => (t.dch 31).halted && (t.dch 31).flight == none && t.fld (Reg.DMA_CH_FAULT_INFO_CAUSE 31) == 4
         && t.fld (Reg.DMA_CH_FAULT_ADDR 31) == 0xABC && bitOf (t.fld Reg.DMA_FAULT_S) 31)
       && stays (.dmaTimeout 31) (s (400000000 - 40009))) = true ∧
    (let s (c a : Nat) := mem_ [(Reg.DMA_CH_CFG_ARES 31, 1), (Reg.DMA_CH_FAULT_INFO_CAUSE 31, c), (Reg.DMA_CH_FAULT_STAMP_LO 31, a)] { ch := [(31, { halted := true })] }
     runs (.dmaAutoResume 31) (s 4 399600000) (fun t => !(t.dch 31).halted && t.fld Reg.DMA_CNT_ARES_CNT == 1)
       && runs (.dmaAutoResume 31) (s 5 399600000) (fun t => !(t.dch 31).halted) && stays (.dmaAutoResume 31) (s 4 399600001)
       && stays (.dmaAutoResume 31) (s 3 0) && stays (.dmaAutoResume 31) (s 6 0)) = true := by decide +kernel

/-- Channel 31 reads a descriptor in domain 15, which before any image has the regions of R301. -/
def copy31 (desc : Nat) (held : List (Nat × DmaCh)) : State :=
  mem_ [(Reg.DMA_CH_CFG_KIND 31, kCOPY), (Reg.DMA_CH_CFG_DOM 31, 15), (Reg.DMA_CH_CFG_CLASS 31, 2), (Reg.MEM_TRK_CFG_BOUND_B, 48)]
    { ch := held ++ [(31, { copy := some { desc := desc } })] }

theorem witness_tracker :
    (let s := copy31 0x01000000 []
     (s.ask 31).isSome && s.room 2 == 48 && (s.joinQueue 2 31).atHead 2 31
       && runs (.dmaRequestAccept 31) s fun t => ((t.dch 31).flight.map fun f => (f.entries, f.want, f.beats)) ==
         some (1, 0, [(0x01000000, 8), (0x01000008, 8), (0x01000010, 8), (0x01000018, 8)]) && t.fld Reg.MEM_TRK_B_USED == 1
         && t.reqQueue 2 == []) = true ∧
    (let s := copy31 0xFFFE0000 []
     let f : Flight := { cls := 2, entries := 1, vaddr := 0xFFFE0000, len := 32 }
     let k := copy31 0x01000000 [(30, { flight := some { f with left := 48, entries := 48 } })]
     runs (.dmaRequestAccept 31) s (fun t => (t.dch 31).halted && t.fld (Reg.DMA_CH_FAULT_INFO_CAUSE 31) == 1 && t.fld (Reg.DMA_CH_FAULT_ADDR 31) == 0xFFFE0000)
       && k.room 2 == 0 && runs (.dmaRequestAccept 31) k (fun t => (t.dch 31).stalled && t.fld Reg.MEM_TRK_STALL_CNT_B_STALL == 1 && t.reqQueue 2 == [31])
       && runs (.dmaRequestAccept 31) (k.setDch 31 { k.dch 31 with stalled := true }) (fun t => t.fld Reg.MEM_TRK_STALL_CNT_B_STALL == 0)
       && stays (.dmaRequestAccept 29) k) = true ∧
    (let s := copy31 0x01000020 []
     let x := s.setDch 31 { copy := some { phase := 1, src := 0x01000020, len := 64 } }
     let k := x.setFld Reg.MEM_TRK_CFG_BOUND_B 1
     blocksOf 0x01000020 64 == 2 && (x.ask 31).map (·.len) == some 64 && runs (.dmaRequestAccept 31) k (fun t => ((t.dch 31).flight.map fun f => (f.entries, f.left, f.want)) == some (2, 1, 1)
         && (t.dch 31).stalled)
       && runs (.dmaRequestAccept 31) (x.setDch 31 { flight := some { cls := 2, entries := 2, left := 1, want := 1 } }) (fun t =>
         ((t.dch 31).flight.map fun f => (f.left, f.want)) == some (2, 0) && t.fld Reg.MEM_TRK_B_USED == 2)) = true ∧
    (let s := copy31 0x01000000 []
     let q (a : Nat) := { s with clk := { s.clk with xqAt := [(33, a + 1)] } }
     (q 400000000).queueClash 33 && runs (.dmaRequestAccept 31) (q 400000000) (fun t => (t.dch 31).halted && t.fld (Reg.DMA_CH_FAULT_INFO_CAUSE 31) == 5)
       && (q 399999999).queueReset 33 && !(q 399999999).queueClash 33 && stays (.dmaRequestAccept 31) (q 399999999)
       && (let b := (put { s with mem := { s.mem with reqQ := [(2, [30])] } } [(Reg.DMA_CH_CFG_KIND 30, kCOPY), (Reg.DMA_CH_CFG_CLASS 30, 2)]).setDch 30
             { copy := some { desc := 0x01000040 } }
           !(b.joinQueue 2 31).atHead 2 31 && runs (.dmaRequestAccept 31) b (fun t => t.reqQueue 2 == [30, 31] && (t.dch 31).flight.isNone))) = true ∧
    (let s := copy31 0x01000000 []
     let f : Flight := { cls := 2, entries := 1, left := 1, vaddr := 0x01000000, len := 32, beats := [(0x01000000, 8)] }
     let q := s.setDch 31 { s.dch 31 with flight := some f }
     let a := q.setDch 30 { flight := some { cls := 1, entries := 1, left := 1, beats := [(0x01000040, 8)] } }
     stays (.dmaRequestComplete 31) s && runs (.dmaRequestComplete 31) q (fun t => (t.dch 31).flight == none)
       && stays (.dmaRequestComplete 31) { q with clk := { q.clk with xqAt := [(36, 400000000)] } }
       && a.nextServed == some (1, 30) && stays (.dmaRequestComplete 31) a && (q.serveTo 31 96).isSome
       && runs (.dmaRequestComplete 30) a fun t => (t.dch 30).flight == none && t.nextServed == some (2, 31)) = true := by decide +kernel

theorem witness_windows :
    let f : WinFrame := { addrs := [0x1FFFFFC] }
    let s (f : WinFrame) := { mem_ [(Reg.MEM_TRK_CFG_BOUND_C, 48)] { dram := [(0x1FFFFFF, 0x80)] } with host := { up.host with port := [(Port.code .host, { frame := some f })] } }
    let q (f : WinFrame) := (s f).setDch 32 { flight := some { cls := 3, entries := 1, left := 1, write := f.write, beats := [(0x1FFFFFC, 4)] } }
    let w : WinFrame := { write := true, addrs := [0x1FFFFFC], words := [0x04030201] }
    let c := (s f).reqClass 32
    ((s f).joinQueue c 32).atHead c 32 = true ∧ 0 < (s f).room c ∧
    runs (.dmaRequestAccept 32) (s f) (fun t => ((t.dch 32).flight.map fun x => (x.beats, x.left, x.want)) == some ([(0x1FFFFFC, 4)], 1, 0)) = true ∧
    runs (.dmaRequestComplete 32) (q f) (fun t => (t.port .host).frame == none && ((t.port .host).reply.map (·.words)) == some [0x80000000]) = true ∧
    runs (.dmaRequestComplete 32) (q w) (fun t => t.dram 0x1FFFFFF == 4 && t.dram 0x1FFFFFC == 1 && t.dram 0x2000000 == 0 && (t.port .host).frame == none) = true := by
  decide +kernel

theorem witness_queue_errors :
    (let s := { up with adc := { up.adc with conv := [(31, { queue := [{}] })] } }
     runs (.queueError 31 false) s fun t => bitOf (t.fld Reg.CLK_QERR_Q0) 31 && (t.conv 31).queue.isEmpty && t.on Reg.CLK_STATUS_QERR_S
       && t.fld Reg.CLK_QERR_QNUM == 31) = true ∧
    runs (.queueError 40 false) up (fun t => bitOf (t.fld Reg.CLK_QERR_Q1) 8 && t.on Reg.TWN_STATUS_LINKERR_S) = true ∧
    runs (.queueError 43 true) up (fun t => t.on Reg.SYS_EVENT_HKACC_S) = true ∧
    runs (.queueError 42 false) up (fun t => !t.on Reg.SYS_EVENT_HKACC_S) = true := by decide +kernel

/-! Contour and Sounding. -/

/-- A sequencer and its recorder in a state at 40,000, with fields. -/
def seq3 (st : Nat) (r : SeqRun) (l : List (Fld × Nat)) : State :=
  { at_ 40000 (upWith ((Reg.CTR_SEQ_STATUS_RSTATE 3, st) :: l)) with ctr := { seq := [(3, r)] } }

theorem witness_envelopes :
    let z := { at_ 12000 (upWith [(Reg.CTR_CTRL_EN, 1), (Reg.CTR_ENV_CFG_EW, 25), (Reg.CTR_PROBE_ENV 31, 1)]) with
      pwm := { up.pwm with running := true, origin := 2000 }, ctr := { probe := [(31, { lo := some (-3), hi := some 7, tagged := true })] } }
    z.envDue = true ∧ runs .envelopeWindowEnd z (fun t => t.fld (Reg.CTR_ENV_MIN 31) == 0xFFFFFFFD && t.fld (Reg.CTR_ENV_MAX 31) == 7
      && decide (t.probe 31 = {})) = true ∧
    runs .envelopeWindowEnd (put z [(Reg.CTR_PROBE_ENV 31, 0)]) (fun t => t.fld (Reg.CTR_ENV_MIN 31) == z.fld (Reg.CTR_ENV_MIN 31)
      && decide (t.probe 31 = {})) = true ∧ stays .envelopeWindowEnd (at_ 12001 z) = true := by decide +kernel

theorem witness_sequences :
    (let l := [(Reg.CTR_SEQ_STATUS_STATE 3, 2), (Reg.CTR_SEQ_STATUS_COUNT 3, 1), (Reg.CTR_SEQ_TIME_TMODE 3 2, 2), (Reg.CTR_SEQ_TIME_TIME 3 2, 10)]
     runs (.seqWithinTimeout 3) (seq3 recARMED { entered := 36000 } l) (fun t => t.seqState 3 == 0 && t.fld (Reg.CTR_SEQ_STATUS_COUNT 3) == 0
         && (t.seq 3).entered == 40000 && alone t)
       && runs (.seqWithinTimeout 3) { seq3 recARMED { entered := 36000 } l with pending := [.seqHoldOccurrence 3] } (fun t =>
         t.later == [.seqWithinTimeout 3] && t.seqState 3 == 2) && stays (.seqWithinTimeout 3) (seq3 recARMED { entered := 36001 } l)) = true ∧
    (let l (m n : Nat) := [(Reg.CTR_SEQ_STATUS_STATE 3, 2), (Reg.CTR_SEQ_TIME_TMODE 3 2, 1), (Reg.CTR_SEQ_TIME_TIME 3 2, 10), (Reg.CTR_SEQ_COND_COND 3 2, 5),
        (Reg.CTR_SEQ_COND_COUNTM1 3 2, m), (Reg.CTR_SEQ_CTRL_NSTATE 3, n)]
     let s (m n : Nat) := seq3 recARMED { holdFrom := some 36000 } (l m n)
     !(s 0 3).marked 0x2013 && runs (.seqHoldOccurrence 3) (s 1 3) (fun t => t.fld (Reg.CTR_SEQ_STATUS_COUNT 3) == 1 && (t.seq 3).holdFrom == some 40000)
       && runs (.seqHoldOccurrence 3) (s 0 3) (fun t => t.seqState 3 == 3 && (t.seq 3).entered == 40000 && (t.seq 3).holdFrom == none)
       && runs (.seqHoldOccurrence 3) (s 0 2) (fun t => t.recState 3 == recPOST && bitOf (t.fld Reg.CTR_STATUS_TRIG_S) 3
         && t.fld (Reg.CTR_SEQ_TRIG_STAMP_LO 3) == 40000)
       && stays (.seqHoldOccurrence 3) (at_ 39999 (s 0 2))) = true := by decide +kernel

theorem witness_recorders :
    (let i := seq3 recIDLE {} []
     let a := seq3 recARMED {} []
     takes i .host (addrSeqCtrl 3) && runs (.recorderArm .host 3) i (fun t => t.recState 3 == recARMED && (t.seq 3).entered == 40000)
       && runs (.recorderArm .host 3) (seq3 recDONE {} []) (fun t => t.recState 3 == recARMED) && runs (.recorderArm .host 3) a (fun t => turned a t .host (addrSeqCtrl 3))
       && runs (.recorderForce .host 3) a (fun t => t.recState 3 == recPOST && (t.seq 3).trigAt == 40000 && bitOf (t.fld Reg.CTR_STATUS_TRIG_S) 3)
       && runs (.recorderForce .host 3) i (fun t => only [] i t)) = true ∧
    (let s (r : SeqRun) := seq3 recPOST r [(Reg.CTR_REC_POST 3, 10), (Reg.CTR_REC_CFG_DMA_CH 3, 31), (Reg.DMA_CH_WPTR 31, 0x40)]
     runs (.recorderPostEnd 3) (s { trigAt := 36000 }) (fun t => (t.seq 3).ended) && stays (.recorderPostEnd 3) (s { trigAt := 36001 })
       && runs (.recorderMeasureStart 3) (s { ended := true }) (fun t => t.recState 3 == recMEASURING && t.fld (Reg.CTR_REC_END_WPTR 3) == 0x40)
       && stays (.recorderMeasureStart 3) { s { ended := true } with ctr := { seq := [(3, { ended := true })], queue := [(31, { recs := [1] })] } }) = true := by
  decide +kernel

/-- R323: two records of probe 31 in a buffer of 32 bytes at 0x01000000, of 1.0 and 0.5, both in the range of the trigger. -/
theorem witness_measurement :
    let bytes (t v : Nat) : List Nat := leBytes 16 (sampleRecord t v 31 false false false false false)
    let dram := (bytes 39000 0x10000000 ++ bytes 39500 0x08000000).zip (List.range 32)
    let s (auto size : Nat) : State := { seq3 recMEASURING { trigAt := 39200 } [(Reg.MEM_STATUS_INIT_DONE, 1), (Reg.CTR_REC_CFG_DMA_CH 3, 31), (Reg.DMA_CH_SIZE 31, size),
        (Reg.DMA_CH_BASE 31, 0x01000000), (Reg.DMA_CH_CFG_DOM 31, 15), (Reg.CTR_REC_CFG_MPROBE 3, 31), (Reg.CTR_REC_PRE 3, 1), (Reg.CTR_REC_POST 3, 1),
        (Reg.CTR_SEQ_CTRL_AUTO 3, auto)] with
      mem := { dram := dram.foldl (fun m e => tabSet 0 m (0x01000000 + e.2) e.1) [] } }
    (s 0 32).coreReady ((s 0 32).bufferAt 31) 32 = true ∧
    stays (.recorderMeasureDone 3) (put (s 0 32) [(Reg.MEM_STATUS_INIT_DONE, 0)]) = true ∧
    runs (.recorderMeasureDone 3) (s 0 32) (fun t => t.recState 3 == recDONE && t.fld (Reg.CTR_REC_MEAS_N 3) == 2 && t.fld (Reg.CTR_REC_MEAS_MIN 3) == 0x08000000
      && t.fld (Reg.CTR_REC_MEAS_MAX 3) == 0x10000000 && t.fld (Reg.CTR_REC_MEAS_MEAN 3) == 0x0C000000) = true ∧
    runs (.recorderMeasureDone 3) (s 1 0) (fun t => t.recState 3 == recARMED && t.fld (Reg.CTR_REC_MEAS_N 3) == 0 && t.fld (Reg.CTR_REC_MEAS_RMS 3) == 0x80000000) = true := by
  decide +kernel

theorem witness_full_queue :
    let s := { up with ctr := { queue := [(31, { recs := List.replicate 64 1 })] } }
    let t := s.ctrPush 31 5 9
    t.fld Reg.CTR_CNT_GAP_CNT = 1 ∧ t.on Reg.CTR_STATUS_GAP_S = true ∧ (t.recQ 31).gapCount = 1 ∧ (t.recQ 31).gapStamp = 5 ∧
    (t.recQ 31).recs.length = 64 := by decide +kernel

/-- Room for one record: it joins. A queue that owes a marker writes it as its first record leaves (R317). -/
theorem witness_queue_with_room :
    (let s := { up with ctr := { queue := [(31, { recs := List.replicate 63 1 })] } }
     ((s.ctrPush 31 5 9).recQ 31).recs.length = 64 ∧ ((s.ctrPush 31 5 9).recQ 31).recs.getLast? = some 9) ∧
    (let q : RecQueue := { recs := [1, 2], gapCount := 3, gapStamp := 7 }
     q.drop1.recs = [2, 7 + 3 * 2 ^ 64 + 3 * 2 ^ 124] ∧ q.drop1.gapCount = 0) := by decide +kernel

/-- Every tone of group 7 at amplitude 0 but the first `n`. -/
def tones7 (n : Nat) : List (Fld × Nat) := (List.range 6).map fun k => (Reg.SND_G_TONE_AMP 7 k, if k < n then 1 else 0)

/-- Group 7 in ISLAND with a generator in a state, at 400,000,000. -/
def gen7 (st : Nat) (r : SndGen) (l : List (Fld × Nat)) : State :=
  { at_ 400000000 (gridUp 7 mISLAND {} ([(Reg.SND_G_STATUS_STATE 7, st), (Reg.TWN_STATUS_ROLE, roleACTIVE)] ++ l)) with snd := { gen := [(7, r)] } }

theorem witness_injection_words :
    (let s := (gen7 gIDLE {} [(Reg.SND_G_INJ_A 7, 9)])
     !s.marked 0x2027 && runs (.injectionUpdate 7) s (fun t => t.fld (Reg.SND_G_INJ_A 7) == 0) && stays (.injectionUpdate 7) (at_ 400000001 s)) = true ∧
    (let s := gen7 gTUNE {} [(Reg.SND_G_TONE_AMP 7 0, 100), (Reg.SND_G_TONE_FREQ 7 0, 50)]
     runs (.injectionUpdate 7) s fun t => t.sfld (Reg.SND_G_INJ_A 7) == clampInt (s.injWords 7).1 && t.sfld (Reg.SND_G_INJ_A 7) != 0) = true := by decide +kernel

theorem witness_bursts :
    (let s (w : Nat) := gen7 gWAIT { waitFrom := w, delay := 5 } [(Reg.SND_G_CFG_EN 7, 1), (Reg.SND_G_CFG_PERIOD 7, 0)]
     (s 0).maySound 7 && !(s 0).frameHeld 7 && runs (.burstStart 7) (s 399999995) (fun t => t.genState 7 == gBURST)
       && stays (.burstStart 7) (s 399999996)
       && runs (.burstStart 7) (gen7 gWAIT { enAt := some 399999995, delay := 5 } [(Reg.SND_G_CFG_EN 7, 1), (Reg.SND_G_CFG_PERIOD 7, 0)])
         (fun t => t.genState 7 == gBURST)
       && stays (.burstStart 7) (gen7 gWAIT { enAt := some 399999996, delay := 5 } [(Reg.SND_G_CFG_EN 7, 1), (Reg.SND_G_CFG_PERIOD 7, 0)])) = true ∧
    (let t1 : ToneSum := { vR := 3 * 2 ^ 40, iR := 2 ^ 40, nR := 2 ^ 38 }
     let t2 : ToneSum := { vR := 2 ^ 40, iR := 2 ^ 40, nR := 2 ^ 40 }
     let s := gen7 gBURST { sums := [t1, t2], nV := 10, nI := 10 } ([(Reg.SND_G_QUAL_QMIN 7, 4), (Reg.SND_G_CFG_TB 7, 1)] ++ tones7 2)
     let d := { s with eng := { s.eng with real := realSecond } }
     t1.quality == some (4 * 65536) && t2.quality == some 65536 && t1.ratio 10 10 == some (3 * 2 ^ 28, 0)
       && runs (.burstEnd 7) d (fun t => t.genState 7 == gIDLE && (t.gen 7).fitDue && (t.gen 7).accepted == [0] && t.fld (Reg.SND_G_Z_RE 7 0) == 3 * 2 ^ 28
         && t.fld (Reg.SND_G_Z_Q 7 0) == 4 * 65536 && t.fld (Reg.SND_G_Z_RE 7 1) == 0x80000000)
       && stays (.burstEnd 7) { s with eng := { s.eng with real := realSecond - 1 } }) = true := by decide +kernel

theorem witness_fits :
    (let f (l : List Nat) := gen7 gIDLE { fitDue := true, accepted := l, endAt := 77 } [(Reg.SND_G_TONE_FREQ 7 0, 10), (Reg.SND_G_TONE_FREQ 7 1, 20),
        (Reg.SND_G_TONE_FREQ 7 2, 30), (Reg.SND_G_Z_RE 7 0, 3), (Reg.SND_G_Z_RE 7 1, 6), (Reg.SND_G_Z_RE 7 2, 9), (Reg.GFM_CTRL_RETUNE_EN 7, 1)]
     runs (.soundingFit 7) (f [0, 1]) (fun t => t.on (Reg.SND_G_STATUS_LOWQ_S 7) && !(t.gen 7).fitDue)
       && runs (.soundingFit 7) (f [0, 1, 2]) (fun t => t.fld (Reg.SND_G_FIT_R 7) == 6 && t.on (Reg.SND_G_STATUS_DONE_S 7) && t.fld (Reg.SND_G_STAMP_LO 7) == 77
         && (t.gen 7).retune.isSome && (t.gen 7).retuneAt == 400400000)
       && stays (.soundingFit 7) (gen7 gIDLE {} [])) = true ∧
    (let s (a : Nat) := gen7 gIDLE { retune := some (5, -6), retuneAt := a } [(Reg.GFM_RV_BOUND_RV_MIN 7, 0),
       (Reg.GFM_RV_BOUND_RV_MAX 7, 1), (Reg.GFM_XV_BOUND_XV_MIN 7, 0), (Reg.GFM_XV_BOUND_XV_MAX 7, 2)]
     let m (a : Nat) := (s a).mark 0x2047
     alone (m 0) && (m 0).marked 0x2047 && !(m 0).readsPair 7 && runs (.retuneApply 7) (m 400000000) (fun t => (t.grp 7).rvEff == 5 && t.fld (Reg.GFM_RV_EFF 7) == 5 && t.fld (Reg.GFM_XV_EFF 7) == 0
       && (s 0).zBound 7 (pu, 7) == (tenThou 1, 7) && t.on (Reg.GFM_STATUS_RETUNE_S 7)
       && (t.gen 7).retune == none) && stays (.retuneApply 7) (m 400000001) && stays (.retuneApply 7) (s 400000000)) = true := by decide +kernel

theorem witness_tuning :
    (let i := gen7 gIDLE {} []
     let b := gen7 gBEARING {} []
     takes i .host (addrTune 7) && runs (.tuneStart .host 7) i (fun t => t.genState 7 == gTUNE) && runs (.tuneStart .host 7) b (fun t => turned b t .host (addrTune 7))
       && runs (.tuneAbort .host 7) (gen7 gTUNE {} [(Reg.SND_G_INJ_A 7, 3)]) (fun t => t.genState 7 == gIDLE && t.on (Reg.SND_G_STATUS_ABORT_S 7)
         && t.fld (Reg.SND_G_INJ_A 7) == 0)
       && runs (.tuneAbort .host 7) i (fun t => only [] i t)
       && runs (.tuneStart .host 7) (put i [(Reg.TWN_STATUS_ROLE, roleSTANDBY)]) (fun t => t.genState 7 == gIDLE && !t.on Reg.SYS_EVENT_WRREJ_S)) = true ∧
    (let d := gen7 gIDLE {} [(Reg.SND_G_CFG_EN 7, 1)]
     let a (n : Nat) : State := d.setNode 7 { d.node 7 with ackDue := some (n, {}) }
     d.maySound 7 && runs (.tuneStart .host 7) (a 400000000) (fun t => turned d t .host (addrTune 7))
       && runs (.tuneStart .host 7) (a 400000001) (fun t => t.genState 7 == gTUNE)) = true ∧
    (let s := gen7 gTUNE { sums := [{ vR := 8, iR := 4, nR := 4 }], nV := 1, nI := 1 } ((Reg.SND_G_CFG_TB 7, 1) :: tones7 1)
     runs (.tuneEnd 7) { s with eng := { s.eng with real := realSecond } } (fun t => t.on (Reg.SND_G_STATUS_TUNE_S 7) && t.genState 7 == gIDLE
         && t.fld (Reg.SND_G_Z_Q 7 0) == 65536) && stays (.tuneEnd 7) s) = true := by decide +kernel

/-! Bearing and twin operation. -/

/-- Group 7 in ISLAND with a node of address 7 that listens to 5, at 10 s of real time and 4,000,000,000 of chart time. -/
def node7 (n : BrgNode) (l : List (Fld × Nat)) : State :=
  let s := at_ 4000000000 (gridUp 7 mISLAND {} ([(Reg.TWN_STATUS_ROLE, roleACTIVE), (Reg.BRG_G_CFG_EN 7, 1), (Reg.BRG_G_CFG_ADDR 7, 7),
    (Reg.BRG_G_CFG_SEC_FROM 7, 5), (Reg.GFM_CTRL_SEC_SRC 7, 1)] ++ l))
  { s with snd := { node := [(7, n)] }, eng := { s.eng with real := 10 * realSecond } }

/-- The 80 bits that a receiver gives of a frame. -/
def heard (dst src typ seq payload : Nat) (bc : Bool) : BitVec 80 :=
  BitVec.ofNat 80 (BrgFields.frame { dst := dst, src := src, typ := typ, bc := bc, seq := seq, payload := payload } / 2 ^ 16)

theorem witness_frame_round_trip :
    let f : BrgFields := { dst := 0xFFF, src := 1, typ := 15, bc := true, seq := 7, payload := 0x80000001 }
    readFrame (f.frame / 2 ^ 16) = (f, true) := by decide +kernel

theorem witness_bearing_reception :
    (let s := node7 {} []
     s.armed && runs (.bearingSyncDetected 7) s (fun t => t.on (Reg.BRG_G_STATUS_RXBUSY 7) && (t.node 7).rxEnd == 10 * realSecond + 80 * bitTime)
       && stays (.bearingSyncDetected 7) (s.setFld (Reg.BRG_G_STATUS_RXBUSY 7) 1) && stays (.bearingFrameReceived 7 0) s) = true ∧
    (let s (n : BrgNode) := node7 { n with rxEnd := 10 * realSecond } [(Reg.BRG_G_STATUS_RXBUSY 7, 1)]
     let got (w : BitVec 80) (p : State → Bool) : Bool := runs (.bearingFrameReceived 7 w) (s {}) fun t => !t.on (Reg.BRG_G_STATUS_RXBUSY 7) && p t
     got (heard 7 5 3 2 9 false ^^^ 1) (fun t => t.on (Reg.BRG_G_STATUS_CRC_S 7)) && got (heard 8 5 3 2 9 false) (fun t => decide (t.snd = (s {}).snd))
       && got (heard 0 7 3 2 9 true) (fun t => t.on (Reg.BRG_G_STATUS_ADDRDUP_S 7)) && got (heard 0 5 5 2 9 true) (fun t => t.fld (Reg.BRG_G_RX_DATA 7) == 9
         && t.fld (Reg.BRG_G_RX_HDR_SEQ 7) == 2 && t.on (Reg.BRG_G_STATUS_RX_S 7))
       && got (heard 7 6 1 2 9 false) (fun t => t.on (Reg.BRG_G_STATUS_REJ_S 7) && t.fld (Reg.GFM_SEC_DF 7) == 0)
       && got (heard 7 5 1 2 9 false) (fun t => t.fld (Reg.GFM_SEC_DF 7) == 9 && ((t.node 7).ackDue.map fun a => (a.1, a.2.dst, a.2.payload))
         == some (4000000000 + msCycles 160, 5, 33))
       && got (heard 7 5 1 2 0x7FFFFFFF false) (fun t => t.on (Reg.BRG_G_STATUS_REJ_S 7) && t.fld (Reg.GFM_SEC_DF 7) == 0 && decide (t.snd = (s {}).snd))
       && got (heard 7 5 4 2 9 false) (fun t => t.on (Reg.BRG_G_STATUS_REJ_S 7)) && got (heard 7 5 6 2 9 false) (fun t => t.on (Reg.BRG_G_STATUS_REJ_S 7))
       && runs (.bearingFrameReceived 7 (heard 7 5 2 2 9 false)) (s { lastDv := some (5, 2) }) (fun t => t.fld (Reg.GFM_SEC_DV 7) == 0 && t.on (Reg.BRG_G_STATUS_RX_S 7))
       && runs (.bearingFrameReceived 7 (heard 7 5 2 2 9 false)) ((s { lastDv := some (5, 2) }).setFld (Reg.GFM_CTRL_SEC_SRC 7) 0)
         (fun t => t.on (Reg.BRG_G_STATUS_REJ_S 7) && !t.on (Reg.BRG_G_STATUS_RX_S 7))
       && runs (.bearingFrameReceived 7 (heard 7 5 4 0 (1 + 16 * 6) false)) (s { ackWait := some 3, queue := [{ dst := 5, typ := 1, seq := some 6 }, {}] })
         (fun t => (t.node 7).ackWait == none && decide ((t.node 7).queue = [{}]))) = true := by decide +kernel

theorem witness_bearing_sending :
    let a := addrTxCtrl 7
    let w : TxFrame := { dst := 5, typ := 1, payload := 9 }
    (let s := node7 {} [(Reg.BRG_G_TX_HDR_TYPE 7, 3), (Reg.BRG_G_TX_DATA 7, 0xFFFFFFFF)]
     let z := s.setFld (Reg.BRG_G_TX_HDR_TYPE 7) 4
     takes s .host a && runs (.bearingTxGo .host 7) s (fun t => ((t.node 7).queue.map fun f => (f.typ, f.payload, f.seq)) == [(3, 0xFFFFFFFF, none)])
       && runs (.bearingTxGo .host 7) z (fun t => turned z t .host a) && runs (.bearingTxCancel .host 7) s (fun t => only [] s t)
       && runs (.bearingTxCancel .host 7) (node7 { queue := [w] } []) (fun t => (t.node 7).queue.isEmpty && t.on (Reg.BRG_G_STATUS_TXFAIL_S 7))) = true ∧
    (let s (q : Option Nat) := node7 { queue := [{ w with seq := q, retries := 1 }], seq := 7 } []
     runs (.bearingTxStart 7) (s none) (fun t => t.genState 7 == gBEARING && t.fld (Reg.BRG_G_STATUS_TXSTATE 7) == 2 && (t.node 7).queue.isEmpty
         && decide ((t.node 7).sending = some { w with seq := some 0, retries := 0 })
         && decide (readFrame ((t.gen 7).frame / 2 ^ 16) = ({ dst := 5, src := 7, typ := 1, bc := false, seq := 0, payload := 9 }, true)))
       && runs (.bearingTxStart 7) (s (some 4)) (fun t => decide ((t.node 7).sending = some { w with seq := some 4, retries := 2 })
         && t.fld (Reg.BRG_G_CNT_A_RETRY_CNT 7) == 1)
       && stays (.bearingTxStart 7) ((s none).setFld (Reg.SND_G_STATUS_STATE 7) gBURST)) = true ∧
    (let s (r : Nat) := node7 { queue := [w], waitFrom := r } []
     runs (.bearingTxStart 7) (s (10 * realSecond - 8 * bitTime)) (fun t => t.genState 7 == gBEARING)
       && stays (.bearingTxStart 7) (s (10 * realSecond - 8 * bitTime + 1))) = true ∧
    (let s (r n : Nat) := node7 { queue := [w], rxEnd := r, slots := n } []
     runs (.bearingTxStart 7) (s (10 * realSecond - 23 * bitTime) 15) (fun t => t.genState 7 == gBEARING)
       && stays (.bearingTxStart 7) (s (10 * realSecond - 23 * bitTime + 1) 15)) = true ∧
    (let s (due : Nat) := node7 { ackDue := some (due, { w with typ := 4, kind := 4 }) } []
     runs (.bearingAckSend 7) (s 4000000000) (fun t => t.genState 7 == gBEARING && (t.node 7).ackDue == none && (t.node 7).sending.isSome)
       && stays (.bearingAckSend 7) (s 4000000001)) = true := by decide +kernel

theorem witness_bearing_ends :
    let w : TxFrame := { dst := 5, typ := 1, payload := 9, seq := some 0 }
    (let s (start : Nat) := { node7 { sending := some w } [(Reg.SND_G_STATUS_STATE 7, gBEARING)] with
        snd := { node := [(7, { sending := some w })], gen := [(7, { start := start })] } }
     runs (.bearingTxDone 7) (s (10 * realSecond - 96 * bitTime)) (fun t => (t.node 7).sending == none && t.genState 7 == gIDLE
         && t.on (Reg.BRG_G_STATUS_TXDONE_S 7) && (t.node 7).ackWait == some 4000000000 && decide ((t.node 7).queue = [w]))
       && stays (.bearingTxDone 7) (s (10 * realSecond - 96 * bitTime + 1))) = true ∧
    (let s (t0 n : Nat) := node7 { ackWait := some t0, queue := [{ w with retries := n }] } []
     runs (.bearingAckTimeout 7) (s 400000000 2) (fun t => (t.node 7).ackWait == none && (t.node 7).queue.length == 1)
       && runs (.bearingAckTimeout 7) (s 400000000 3) (fun t => (t.node 7).queue.isEmpty && t.on (Reg.BRG_G_STATUS_TXFAIL_S 7))
       && stays (.bearingAckTimeout 7) (s 400000001 3)) = true := by decide +kernel

theorem witness_bearing_periods :
    (let s (q : List TxFrame) (a : Nat) := node7 { queue := q, stateFrom := a } [(Reg.BRG_G_STATE_PER 7, 10)]
     runs (.bearingStatePeriod 7) (s [] 0) (fun t => ((t.node 7).queue.map fun f => (f.kind, f.typ, f.bc, f.payload % 8)) == [(1, 3, true, mISLAND)]
         && (t.node 7).stateFrom == 4000000000)
       && runs (.bearingStatePeriod 7) (s [{ kind := 1 }] 0) (fun t => (t.node 7).queue.length == 1 && (t.node 7).stateFrom == 4000000000)
       && stays (.bearingStatePeriod 7) (s [] 1)) = true ∧
    (let s (n : BrgNode) := node7 n [(Reg.BRG_G_CFG_LEADER 7, 1), (Reg.BRG_G_LEAD_LPERIOD 7, 10), (Reg.BRG_G_LEAD_KV 7, 0), (Reg.BRG_G_LEAD_KF 7, 128),
        (Reg.GFM_FSET 7, 0x10000000)]
     runs (.leaderEvaluation 7) (s { cnt := 2, sumF := 2 * pu - 200 }) (fun t => ((t.node 7).queue.map fun f => (f.kind, f.typ, f.payload)) == [(2, 1, 50)]
         && (t.node 7).cnt == 0 && (t.node 7).leadFrom == 4000000000)
       && runs (.leaderEvaluation 7) (s { cnt := 2, bad := true }) (fun t => (t.node 7).queue.isEmpty)
       && stays (.leaderEvaluation 7) (s { leadFrom := 1 })) = true ∧
    (let s (due : Nat) := node7 { offsets := [(due, 4, 50)] } []
     runs (.leaderOffsetApply 7) (s 4000000000) (fun t => t.fld (Reg.GFM_SEC_DF 7) == 50 && (t.node 7).offsets.isEmpty)
       && stays (.leaderOffsetApply 7) (s 4000000001)) = true := by decide +kernel

/-- A paired module in a role, armed, with its carriers running from 2,000, at 52,000. -/
def twin (role : Nat) (r : TwnRun) (l : List (Fld × Nat)) : State :=
  let s := at_ 52000 (gridUp 7 mISLAND {} ([(Reg.TWN_CTRL_PAIR_EN, 1), (Reg.TWN_STATUS_ROLE, role)] ++ l))
  { s with twn := r, pwm := { s.pwm with running := true, origin := 2000 } }

/-- What a module sends at its cut. -/
def sentBy (s : State) : List Word :=
  match exec (.twinFrameCut 400 31) s with
  | .next t => t.twn.sent.map (BitVec.ofNat 32)
  | _ => []

theorem witness_cuts :
    (let s := twin roleSTANDBY { seq := 255 } []
     !s.marked 0x2060 && runs (.twinFrameCut 400 31) s (fun t => t.twn.seq == 0 && t.twn.sentAt == some 52400 && t.twn.sent.length == 29 && frameOk t.twn.sent
         && at64 t.twn.sent 1 == 52000)
       && stays (.twinFrameCut 0 0) { s with pwm := { s.pwm with origin := 62000 } }
       && runs (.twinFrameCut 400 31) { s with pwm := { s.pwm with origin := -8000 } } (fun t => t.twn.sent.length == 29)
       && stays (.twinFrameCut 0 0) (at_ 52001 s) && stays (.twinFrameCut 0 0) (s.setFld Reg.TWN_CTRL_PAIR_EN 0)) = true ∧
    runs (.twinFrameCut 0 0) (twin roleACTIVE {} []) (fun t => t.twn.sent.length == 1118 && at64 t.twn.sent 1 == 52000) = true ∧
    (let s (l : List Nat) := twin roleSTANDBY { hoIn := true, hoAck := true, hoAt := 52000, hoLegs := l } [(Reg.TWN_STATUS_HO_BUSY, 1), (Reg.TWN_STATUS_ACT_LINE, 1)]
     runs (.twinFrameCut 0 0) (s []) (fun t => t.twn.driving && !t.on Reg.TWN_STATUS_ACT_LINE && t.on Reg.TWN_STATUS_HO_BUSY)
       && runs (.twinFrameCut 0 0) (at_ 42000 (s [])) (fun t => !t.twn.driving)
       && runs (.twinFrameCut 0 0) (s [0]) (fun t => t.role == roleACTIVE && !t.on Reg.TWN_STATUS_HO_BUSY)) = true := by
  decide +kernel

/-- A short frame whose control words say that its sender has claimed, with its CRC. -/
def claimFrame : List Word :=
  let l := (List.range 28).map fun i => if i = 12 then 4 else 0
  (l ++ [crcWords l]).map (BitVec.ofNat 32)

theorem witness_twin_frames :
    let short := sentBy (twin roleSTANDBY { seq := 7 } [(Reg.TWN_STATUS_READY, 1)])
    let a := twin roleACTIVE {} []
    stays (.twinFrameReceived short 0 0) (a.setFld Reg.TWN_CTRL_PAIR_EN 0) = true ∧
    (let z (q : Nat) : State := { a with clk := { a.clk with xqAt := [(40, q)] } }
     (z 51989).queueReset 40 && stays (.twinFrameReceived short 0 0) (z (a.now + 1)) && stays (.twinFrameReceived short 0 0) (z 51989)
       && !(z 51988).queueReset 40) = true ∧
    runs (.twinFrameReceived (short.drop 1) 0 0) a (fun t => t.on Reg.TWN_STATUS_LINKERR_S && decide (t.twn = a.twn) && t.fld Reg.TWN_CNT_LINKERR_CNT == 1) = true ∧
    runs (.twinFrameReceived short 52000 0) a (fun t => t.on Reg.TWN_STATUS_LINK_UP && t.twn.peerSeq == 8 && !t.twn.lost && t.twn.lastGood == 52000
      && t.role == roleACTIVE && !t.on Reg.TWN_STATUS_HBLOSS_S) = true ∧
    (let late (role : Nat) := twin role { hbOver := false, readyLast := true } [(Reg.TWN_CFG_HB_T, 5), (Reg.TWN_STATUS_ACT_LINE, 1)]
     runs (.twinFrameReceived short 52000 0) (late roleACTIVE) (fun t => t.on Reg.TWN_STATUS_HBLOSS_S && !t.twn.lost && t.role == roleACTIVE)
       && runs (.twinFrameReceived short 52000 0) (late roleSTANDBY) (fun t => t.on Reg.TWN_STATUS_HBLOSS_S && t.on Reg.TWN_STATUS_CLAIM_S
         && t.role == roleACTIVE)
       && runs (.twinFrameReceived short 49999 0) (at_ 49999 (late roleSTANDBY)) (fun t => !t.on Reg.TWN_STATUS_HBLOSS_S && t.role == roleSTANDBY)) = true ∧
    frameOk (claimFrame.map (·.toNat)) = true ∧
    runs (.twinFrameReceived claimFrame 52000 0) { a with twn := { a.twn with driving := true } } (fun t => t.role == roleLOST
      && t.on Reg.TWN_STATUS_STANDDN_S && !t.twn.driving && t.fld (Reg.DRV_LEG_STATUS_ROLE 63) == 1 && (t.dleg 63).hi == .off) = true := by decide +kernel

/-- Exclusive or stays within 32 bits. -/
theorem xorN_lt {a b : Nat} (ha : a < 2 ^ 32) (hb : b < 2 ^ 32) : xorN a b < 2 ^ 32 := Nat.xor_lt_two_pow ha hb

/-- A CRC-32 is a word. -/
theorem crc32_lt (l : List Nat) (h : ∀ b ∈ l, b < 256) : crc32 l < 2 ^ 32 := by
  have bit : ∀ (k : List Nat) (x : Nat), x < 2 ^ 32 →
      k.foldl (fun x _ => if x % 2 = 1 then xorN (x / 2) 0xEDB88320 else x / 2) x < 2 ^ 32 := by
    intro k
    induction k with
    | nil => exact fun x hx => hx
    | cons _ k ih =>
      intro x hx
      refine ih _ ?_
      show (if x % 2 = 1 then xorN (x / 2) 0xEDB88320 else x / 2) < 2 ^ 32
      split
      · exact xorN_lt (by omega) (by omega)
      · omega
  have all : ∀ (l : List Nat), (∀ b ∈ l, b < 256) → ∀ c, c < 2 ^ 32 → l.foldl crc32Byte c < 2 ^ 32 := by
    intro l
    induction l with
    | nil => exact fun _ c hc => hc
    | cons b l ih =>
      intro hl c hc
      exact ih (fun x hx => hl x (List.mem_cons_of_mem _ hx)) _
        (bit _ _ (xorN_lt hc (Nat.lt_of_lt_of_le (hl b List.mem_cons_self) (by decide))))
  exact xorN_lt (all l h _ (by decide)) (by decide)

/-- The words of a full frame before its CRC: from an ACTIVE module, with PSET and VSET of group 7. -/
def fullBody : List Word :=
  0x100 :: (List.range 1116).map fun i => if i = 275 then 0x08000000 else if i = 278 then 0x10000001 else 0

/-- The full frame with its CRC. -/
def fullFrame : List Word := fullBody ++ [BitVec.ofNat 32 (crcWords (fullBody.map (·.toNat)))]

/-- A frame of an ACTIVE module that ends with the CRC of its 1,117 words is good. -/
theorem frameOk_full (l : List Nat) (hl : l.length = 1117) (hz : (l ++ [crcWords l]).getD 0 0 = 0x100) : frameOk (l ++ [crcWords l]) = true := by
  unfold frameOk
  rw [hz]
  simp only [show (0x100 : Nat) / 2 ^ 8 % 4 = roleACTIVE from by decide, if_true]
  have ht : (l ++ [crcWords l]).take 1117 = l := List.take_left' hl
  have hg : (l ++ [crcWords l]).getD 1117 0 = crcWords l := by rw [← hl]; simp
  rw [ht, hg]
  simp only [List.length_append, hl, List.length_cons, List.length_nil, Nat.zero_add, beq_self_eq_true, Bool.and_self]

theorem leBytes_lt (n : Nat) : ∀ w, ∀ b ∈ leBytes n w, b < 256 := by
  induction n with
  | zero => simp [leBytes]
  | succ n ih =>
    intro w b hm
    simp only [leBytes, List.mem_cons] at hm
    rcases hm with rfl | hm
    · omega
    · exact ih _ b hm

theorem crcWords_lt (l : List Nat) : crcWords l < 2 ^ 32 := by
  refine crc32_lt _ fun b hm => ?_
  simp only [List.mem_flatten, List.mem_map] at hm
  obtain ⟨_, ⟨w, _, rfl⟩, hm⟩ := hm
  exact leBytes_lt 4 w b hm

/-- Words with their CRC behind them, as numbers. -/
theorem withCrc_toNat (l : List Word) :
    (l ++ [BitVec.ofNat 32 (crcWords (l.map (·.toNat)))]).map (·.toNat) = l.map (·.toNat) ++ [crcWords (l.map (·.toNat))] := by
  simp only [List.map_append, List.map_cons, List.map_nil, BitVec.toNat_ofNat, Nat.mod_eq_of_lt (crcWords_lt _)]

theorem fullBody_length : (fullBody.map (·.toNat)).length = 1117 := by
  rw [List.length_map, fullBody, List.length_cons, List.length_map, List.length_range]

theorem fullBody_head (c : Nat) : (fullBody.map (·.toNat) ++ [c]).getD 0 0 = 0x100 := by
  rw [fullBody, List.map_cons, List.cons_append, List.getD_cons_zero]
  rfl

theorem fullFrame_good : frameOk (fullFrame.map (·.toNat)) = true := by
  rw [fullFrame, withCrc_toNat]
  exact frameOk_full _ fullBody_length (fullBody_head _)

/-- R352: the standby takes the words of a full frame; its CRC is good by the theorem before. -/
theorem witness_standby_follows :
    let s := twin roleSTANDBY {} []
    let l := fullFrame.map (·.toNat)
    l.length = 1118 ∧ s.controlled 7 = true ∧ s.role = roleSTANDBY ∧ l.getD (28 + 32 * 7 + 24) 0 = 0x08000000 ∧
    (let t := s.goodFrame l (52000 * 32)
     t.fld (Reg.GFM_PSET 7) = 0x08000000 ∧ t.fld (Reg.GFM_VSET 7) = 0x10000001 ∧ t.twn.lastGood = 52000) := by decide +kernel

theorem witness_heartbeat :
    (let s (role : Nat) (ready : Bool) (a : Nat) := twin role { hbOver := false, lastGood := a, readyLast := ready } [(Reg.TWN_CFG_HB_T, 4), (Reg.TWN_STATUS_LINK_UP, 1),
        (Reg.TWN_STATUS_ACT_LINE, 1)]
     runs .heartbeatExpiry (s roleSTANDBY true 12000) (fun t => t.role == roleACTIVE && t.on Reg.TWN_STATUS_CLAIM_S && t.twn.driving && !t.on Reg.TWN_STATUS_LINK_UP
         && t.fld Reg.TWN_CNT_HO_CNT == 1 && t.fld (Reg.DRV_LEG_STATUS_ROLE 63) == 0)
       && runs .heartbeatExpiry (s roleSTANDBY false 12000) (fun t => t.role == roleSTANDBY && t.on Reg.TWN_STATUS_STANDDN_S)
       && runs .heartbeatExpiry (s roleACTIVE true 12000) (fun t => t.role == roleACTIVE && t.twn.lost && t.on Reg.TWN_STATUS_HBLOSS_S)
       && stays .heartbeatExpiry (s roleACTIVE true 12001)) = true := by decide +kernel

theorem witness_line :
    (let s (role a : Nat) := twin role { driving := true, sentAt := some a } []
     runs .twinActOneshotExpiry (s roleACTIVE 40000) (fun t => t.role == roleLOST && !t.twn.driving && t.on Reg.TWN_STATUS_STANDDN_S)
       && runs .twinActOneshotExpiry (s roleSTANDBY 40000) (fun t => t.role == roleSTANDBY && !t.twn.driving) && stays .twinActOneshotExpiry (s roleACTIVE 40001)) = true ∧
    (let s := at_ 400000 (twin 0 { waitFrom := some 0 } [(Reg.TWN_CFG2_PEER_WAIT, 1), (Reg.TWN_STATUS_ACT_LINE, 1)])
     !s.strapClash && runs .peerWaitTimeout s (fun t => t.role == roleACTIVE && t.twn.settling && t.twn.settleTo == 480000 && !t.on Reg.TWN_STATUS_ACT_LINE)
       && runs .peerWaitTimeout (s.setFld (Reg.PWM_LEG_STATUS_STATE 63) 2) (fun t => t.fld (Reg.PWM_LEG_STATUS_STATE 63) == legOFF && !(t.leg 63).hiCmd)
       && stays .peerWaitTimeout (at_ 399999 s) && runs (.twinActLineChange false) s (fun t => t.role == roleSTANDBY && t.twn.waitFrom == none)) = true ∧
    runs (.twinActLineChange true) (twin roleACTIVE { driving := true } []) (fun t => t.on Reg.TWN_STATUS_LINEF_S && t.on Reg.TWN_STATUS_ACT_LINE) = true ∧
    (let s (a : Nat) := twin roleACTIVE { settling := true, settleTo := a } [(Reg.DRV_LEG_STATUS_ROLE 63, 1)]
     runs .activeSettleEnd (s 52000) (fun t => !t.twn.settling && t.fld (Reg.DRV_LEG_STATUS_ROLE 63) == 0) && stays .activeSettleEnd (s 52001)) = true := by
  decide +kernel

theorem witness_handover :
    (let s := twin roleACTIVE {} [(Reg.TWN_STATUS_PEER_READY, 1)]
     let z := twin roleSTANDBY {} []
     takes s .host addrTwnCtrl && !s.commitBusy && runs (.handoverRequest .host) s (fun t => t.on Reg.TWN_STATUS_HO_BUSY && t.twn.hoAt == 452000)
       && runs (.handoverRequest .host) z (fun t => turned z t .host addrTwnCtrl)) = true ∧
    (let s (ack : Bool) (a peer : Nat) := twin roleACTIVE { hoAt := a, hoAck := ack } [(Reg.TWN_STATUS_HO_BUSY, 1), (Reg.TWN_STATUS_PEER_READY, peer)]
     runs .handoverCancel (s false 92000 1) (fun t => !t.on Reg.TWN_STATUS_HO_BUSY && t.on Reg.TWN_STATUS_HOFAIL_S && t.role == roleACTIVE)
       && stays .handoverCancel (s false 92001 1) && stays .handoverCancel (s true 50000 1)) = true := by decide +kernel

theorem witness_handover_legs :
    let s (i : Bool) (done : List Nat) (l : LegRun) := (twin (if i then roleSTANDBY else roleACTIVE) { hoAt := 52000, hoAck := true, hoIn := i, hoLegs := done }
      [(Reg.TWN_STATUS_HO_BUSY, 1)]).setLeg 0 l
    (s true [] {}).hoOpen 0 = true ∧
    runs (.handoverEdge 0) (s true [] {}) (fun t => t.role == roleACTIVE && t.on Reg.TWN_STATUS_HO_S && !t.on Reg.TWN_STATUS_HO_BUSY
      && t.fld (Reg.DRV_LEG_STATUS_ROLE 0) == 0) = true ∧
    runs (.handoverEdge 0) (s false [] {}) (fun t => t.role == roleSTANDBY && t.fld (Reg.DRV_LEG_STATUS_ROLE 0) == 1) = true ∧
    runs (.handoverEdge 0) ((s false [] {}).setDleg 9 { (s false [] {}).dleg 9 with relPend := true }) (fun t => t.on Reg.TWN_STATUS_HO_S) = true ∧
    runs (.handoverEdge 1) (s false [] {}) (fun t => t.role == roleACTIVE && t.twn.hoLegs == [1] && t.on Reg.TWN_STATUS_HO_BUSY) = true ∧
    stays (.handoverEdge 0) (s false [] { hiCmd := true }) = true ∧ stays (.handoverEdge 0) (s false [0] {}) = true ∧
    (let f (a : Nat) := at_ 452000 ((s false [] { loCmd := true }).setTwn { (s false [] {}).twn with hoAt := a })
     let g (a : Nat) := (f a).setFld Reg.TWN_CFG2_HO_T 1
     runs (.handoverForcedEdge 0) (g 52000) (fun t => !(t.leg 0).loCmd && t.fld (Reg.DRV_LEG_STATUS_ROLE 0) == 1 && t.role == roleSTANDBY)
       && runs (.handoverForcedEdge 0) ((g 52000).setFld (Reg.PWM_LEG_STATUS_STATE 0) legFORCED) (fun t => !(t.leg 0).loCmd && (t.dleg 0).lo == .off
         && t.fld (Reg.DRV_LEG_STATUS_ROLE 0) == 1)
       && stays (.handoverForcedEdge 0) (g 52001)) = true := by decide +kernel

/-! The safe disconnect. -/

/-- A state at a time, of the C clock from reset and of real time alike (R121, R275). -/
def kAt (t : Nat) (s : State) : State := { at_ t s with eng := { s.eng with real := t * 2 ^ 24 } }

/-- A module of an active image in a state of the safe disconnect, at a time, with its record and fields. -/
def discUp (t st : Nat) (r : SdcRun) (l : List (Fld × Nat)) : State :=
  { kAt t (upWith ([(Reg.SYS_BOOT_STATUS_PHASE, 6), (Reg.SDC_STATUS_STATE, st), (Reg.SDC_PARAM0_DISC, 2), (Reg.SDC_PARAM0_IF_T, 100),
      (Reg.SDC_PARAM1_FB_T, 20), (Reg.SDC_PARAM1_TP_PER, 1), (Reg.SDC_PARAM2_TP_W, 50), (Reg.SDC_PARAM2_FB_EN, 1),
      (Reg.SDC_PARAM2_COIL_EN, 1), (Reg.PWM_RUN 0, 5)] ++ l)) with
    sdc := { r with watch := true }, stg := { up.stg with active := some (imgOf 0 []) } }

/-- Drive is gone and the state stands. -/
def gone (t : State) (st : Nat) : Bool :=
  !t.sdc.relA && !t.sdc.relB && !t.sdc.coilHs && !t.sdc.coilLs && t.fld (Reg.PWM_RUN 0) == 0 && t.sdcState == st
    && (List.range 64).all (fun n => decide ((t.dleg n).hi = .off) && decide ((t.dleg n).lo = .off))

/-- A fault of the safe disconnect has latched, as the first. -/
def latched (t : State) (b : Nat) : Bool := gone t dFAULT && t.on (faultFld b) && t.on Reg.SDC_STATUS_FLT_S && t.fld Reg.SDC_FAULT_FIRST == b

/-- Both lines released and the coil on. -/
def driven : SdcRun := { relA := true, relB := true, coilHs := true, coilLs := true, in1 := true, in2 := true }

theorem witness_safe_inputs :
    let s := discUp 50000 2 driven []
    (s.sdc.fb = true ∧ runs (.safeInputChange 2 true) s (fun t => !t.sdc.fb && !t.on Reg.SDC_STATUS_FB) = true) ∧
    stays (.safeInputChange 2 false) s = true ∧
    runs (.safeInputChange 0 false) s (fun t => !t.sdc.in1 && t.sdc.low1 == 50000 && t.sdc.in2) = true ∧
    runs (.safeInputChange 1 true) (discUp 50000 0 {} [(Reg.SDC_STATUS_IN2, 1)]) (fun t => t.sdc.in2 && !t.on Reg.SDC_STATUS_IN2) = true := by
  decide +kernel

/- IF_T is 100 µs: 40,000 cycles, 39,409 of a K clock that is 1.5 % fast (R368, R275). -/
theorem witness_safe_demand :
    let s := discUp 39409 2 { driven with in1 := false } []
    s.lowLong 0 = true ∧ runs (.safeDemand 0) s (fun t => gone t dSAFE && t.on Reg.SDC_STATUS_IN1 && t.on Reg.SDC_STATUS_DEMAND_S
      && t.fld Reg.SDC_CNT_DEMAND_CNT == 1 && t.fld Reg.SDC_DEMAND_STAMP_LO == 39409) = true ∧
    stays (.safeDemand 0) (kAt 39408 s) = true ∧
    runs (.safeDemand 0) (s.setFld Reg.SDC_STATUS_STATE dFAULT) (fun t => gone t dFAULT) = true := by decide +kernel

theorem witness_discrepancy :
    let s := discUp 788178 2 { driven with discFrom := some 0 } []
    runs .discrepancyFault s (fun t => latched t sfDISC) = true ∧ stays .discrepancyFault (kAt 788177 s) = true := by decide +kernel

/- A disagreement that ends after DISC + 1 ticks has faulted however slow the K clock is: 3 ms at 48 MHz less 1.5 %; one that ends in the
K-cycle in which its count reaches DISC is not counted (R370, R379). -/
theorem witness_discrepancy_ends :
    (let s (t : Nat) := discUp t 2 { driven with in1 := false, discFrom := some 0 } [(Reg.SDC_STATUS_IN1, 1)]
     (s 1218275).kOver 0 ((s 0).discT + msCycles 1) && runs (.safeInputChange 0 true) (s 1218275) (fun t => latched t sfDISC && t.fld Reg.SDC_DISC_CNT_DISC_CNT == 0)
       && runs (.safeInputChange 0 true) (s 1218274) (fun t => t.sdcState == dRUN && t.sdc.in1 && t.fld Reg.SDC_DISC_CNT_DISC_CNT == 1)) = true ∧
    (let s (c : Nat) := discUp 788178 2 { driven with discWas := some (0, c, 4) } [(Reg.SDC_DISC_CNT_DISC_CNT, 5)]
     (s 94581).kCyc == 94581 && runs .discrepancyFault (s 94581) (fun t => latched t sfDISC && t.fld Reg.SDC_DISC_CNT_DISC_CNT == 4)
       && stays .discrepancyFault (s 94580)) = true := by decide +kernel

/-- A demand in the K-cycle of a reset: the reset was never accepted (R375, R379). -/
theorem witness_reset_undone :
    let s (c st : Nat) := discUp 39409 dCLOSING { driven with in1 := false, relB := false, resetWas := some { cyc := c, first := 0xF, st := st } } []
    (s 0 0).kCyc = 4729 ∧ runs (.safeDemand 0) (s 4729 dFAULT) (fun t => gone t dFAULT && t.on Reg.SDC_STATUS_RSTREF_S && t.on Reg.SYS_EVENT_WRREJ_S) = true ∧
    runs (.safeDemand 0) (s 4729 dSAFE) (fun t => gone t dSAFE && t.on Reg.SDC_STATUS_RSTREF_S) = true ∧
    runs (.safeDemand 0) (s 4728 dFAULT) (fun t => gone t dSAFE && !t.on Reg.SDC_STATUS_RSTREF_S) = true := by decide +kernel

theorem witness_feedback :
    let s := discUp 7881774 2 { driven with fb := false } []
    runs .feedbackFault s (fun t => latched t sfFBCLOSE) = true ∧ stays .feedbackFault (kAt 7881773 s) = true ∧
    runs .feedbackFault (discUp 7881774 0 { fb := true, leftAt := some 0 } []) (fun t => latched t sfFBOPEN) = true ∧
    runs .feedbackFault (discUp 7881774 0 { fb := false, leftAt := some 0 } []) (fun t => t.sdc.leftAt == none && t.sdcState == dSAFE) = true ∧
    stays .feedbackFault (discUp 7881773 0 { fb := true, leftAt := some 0 } []) = true := by decide +kernel

theorem witness_nodes :
    let s := discUp 394088670 2 driven []
    runs (.nodeCheckFault 2) s (fun t => latched t sfPATH) = true ∧ runs (.nodeCheckFault 0) s (fun t => latched t sfCOIL_HS) = true ∧
    runs (.nodeCheckFault 1) s (fun t => latched t sfCOIL_LS) = true ∧
    (let z (n : Nat) := s.setSdc { s.sdc with nodeAt := 394088670 - n }
     runs (.nodeCheckFault 1) (z 394089) (fun t => latched t sfCOIL_LS) && stays (.nodeCheckFault 0) (z 394088) && stays (.nodeCheckFault 1) (z 394088))
      = true ∧
    runs (.nodeCheckFault 0) (s.setFld Reg.SDC_FAULT_FIRST sfCLK) (fun t => t.fld Reg.SDC_FAULT_FIRST == sfCLK) = true ∧
    runs .coilTestRun s (fun t => t.sdc.test == some true && !t.sdc.coilHs && t.sdc.coilLs && t.sdc.nextLow) = true ∧
    stays .coilTestRun (kAt 394088669 s) = true := by decide +kernel

theorem witness_coil_test_ends :
    let s := discUp 19705 2 { driven with coilHs := false, test := some true } []
    runs (.coilTestEnd true) s (fun t => t.sdc.test == none && t.sdc.coilHs && t.fld Reg.SDC_CNT_TEST_CNT == 1) = true ∧
    runs (.coilTestEnd false) s (fun t => latched t sfCOIL_HS) = true ∧ stays (.coilTestEnd true) (kAt 19704 s) = true ∧
    runs (.coilTestEnd false) (discUp 19705 2 { driven with coilLs := false, test := some false } []) (fun t => latched t sfCOIL_LS) = true := by
  decide +kernel

theorem witness_reset_steps :
    let at2 := discUp 7882 1 { step := 2, relA := true } []
    let at5 := discUp 19705 1 { step := 5, coilLs := true } []
    runs (.coilTestEnd true) at2 (fun t => t.sdc.step == 3 && !t.sdc.relA && t.sdc.relB) = true ∧
    runs (.coilTestEnd false) at2 (fun t => latched t sfPATH) = true ∧ stays (.coilTestEnd true) (kAt 7881 at2) = true ∧
    runs (.coilTestEnd true) (discUp 7882 1 { step := 3, relB := true } []) (fun t => t.sdc.step == 4 && t.sdc.coilHs && !t.sdc.relB) = true ∧
    runs (.coilTestEnd true) (discUp 7882 1 { step := 3, relB := true } [(Reg.SDC_PARAM2_COIL_EN, 0)]) (fun t => t.sdcState == dRUN
      && t.sdc.relA && t.sdc.relB && !t.sdc.coilHs) = true ∧
    runs (.coilTestEnd false) (discUp 19705 1 { step := 4, coilHs := true } []) (fun t => latched t sfCOIL_HS) = true ∧
    runs (.coilTestEnd true) at5 (fun t => t.sdcState == dRUN && t.sdc.relA && t.sdc.relB && t.sdc.coilHs && t.sdc.coilLs && t.sdc.step == 0)
      = true := by decide +kernel

theorem witness_reset_write :
    let s := discUp 0 3 { fb := false } [(faultFld 0, 1), (Reg.SDC_FAULT_FIRST, 0)]
    takes s .host addrSdcCtrl = true ∧ s.resetOk = true ∧
    runs (.sdcReset .host) s (fun t => t.sdcState == dCLOSING && t.sdc.step == 2 && t.sdc.relA && !t.sdc.relB && !t.on (faultFld 0)
      && t.fld Reg.SDC_FAULT_FIRST == 0xF && t.fld Reg.SDC_RESET_CNT == 1) = true ∧
    (let r := s.setFld Reg.SDC_FAULT_PARAM 1
     r.resetOk = false ∧ runs (.sdcReset .host) r (fun t => t.sdcState == dFAULT && t.on Reg.SDC_STATUS_RSTREF_S && t.on Reg.SYS_EVENT_WRREJ_S)
       = true) := by decide +kernel

/-- At a number of S-cycles. -/
def sAt (n : Nat) (s : State) : State := { s with sec := { s.sec with scyc := n } }

theorem witness_safe_clock_check :
    (let s := sAt 32768 (discUp 0 2 { driven with clkOk := false, clkFrom2 := 32768 } [])
     runs (.sdcClockCheck 970) s (fun t => t.sdc.clkOk && t.sdc.clkFrom == 32768 && t.sdcState == dRUN)
       && runs (.sdcClockCheck 1030) s (fun t => t.sdc.clkOk && t.sdcState == dRUN)
       && runs (.sdcClockCheck 969) s (fun t => latched t sfCLK && !t.sdc.clkOk) && runs (.sdcClockCheck 1031) s (fun t => latched t sfCLK)
       && stays (.sdcClockCheck 0) (sAt 32767 s)) = true ∧
    (let s := sAt 32769 (discUp 0 2 { driven with clkFrom := 2, clkOk := true, clkOk2 := false } [])
     runs (.sdcClockCheck 1030) s (fun t => t.sdc.clkOk2 && t.sdc.clkFrom2 == 32769 && t.sdcState == dRUN)
       && runs (.sdcClockCheck 1031) s (fun t => latched t sfCLK && !t.sdc.clkOk2 && t.sdc.clkOk)) = true := by decide +kernel

theorem witness_safe_parameters :
    let c := List.replicate 48 7
    let s := discUp 394088670 2 { driven with copy1 := c, copy2 := c } [(Reg.SDC_CHECK, checkOf c)]
    let z := s.setSdc { s.sdc with copy2 := List.replicate 48 8 }
    runs (.sdcParamCheck 0 0) s (fun t => t.sdcState == dRUN && t.sdc.parAt == 394088670) = true ∧
    runs (.sdcParamCheck 0 1) s (fun t => latched t sfPARAM) = true ∧ runs (.sdcParamCheck 1 0) z (fun t => latched t sfPARAM) = true ∧
    stays (.sdcParamCheck 0 1) (kAt 394088669 s) = true ∧ stays (.sdcParamCheck 1 0) (kAt 394088669 z) = true := by decide +kernel

theorem witness_unconfirmed :
    let s := discUp 11349753694582 2 driven [(Reg.SDC_STATUS_UNCONF, 1)]
    runs .unconfirmedRunExpiry s (fun t => gone t dSAFE && t.on Reg.SDC_STATUS_UNCONF_S) = true ∧
    stays .unconfirmedRunExpiry (kAt 11349753694581 s) = true := by decide +kernel

/-! Security. Where a hypothesis needs a signature that verifies, no state can be evaluated (the functions of FIPS 186-5, RFC 8554 and FIPS
180-4 are constants without a body); `cmdResult_zero` says what else it takes. -/

theorem readBeats_clean (s : State) (hf : s.mem.flips = []) (hp : s.mem.plist = []) (bs : List (Nat × Nat)) :
    s.readBeats bs = (s, (bs.map fun e => (List.range e.2).map fun i => s.dram (e.1 + i)).flatten,
      (bs.map fun e => List.replicate e.2 false).flatten) := by
  have hj : ∀ b, s.judge b = (s, 0, false) := by
    intro b
    have hw : ∀ l, verdict l 0 = .clean 0 := fun l => by cases l <;> rfl
    have h0 : tabGet 0 ([] : Tab Nat) b = 0 := rfl
    simp only [State.judge, hf, hp, h0, hw]
    rfl
  induction bs with
  | nil => rfl
  | cons e bs ih =>
    obtain ⟨a, n⟩ := e
    simp only [State.readBeats, State.readBeat, hj, ih, List.map_cons, List.flatten_cons, State.dataByte, symbolOf, xorN, Nat.zero_div,
      Nat.zero_mod]
    simp

/-- What a command needs beside its signatures (R386). -/
theorem cmdResult_zero (s : State) (a : Nat) (b : List Nat) (h1 : a % 64 = 0) (h2 : s.inRegion a 2128 false = true)
    (h3 : leAt b 0 4 = 0x4353484B) (h4 : leAt b 8 16 = deviceId)
    (h5 : leAt b 24 32 = leWord ((List.range 8).map fun k => leBytes 4 (s.fld (Reg.SEC_NONCE k))).flatten)
    (h6 : s.unsigned b = true ∨ s.sigCheck (leAt b 6 1) (cmdMsg b) (slice b 192 256) (slice b 448 1680) = 0) (h7 : s.cmdRule b = true) :
    s.cmdResult a b false = 0 := by
  unfold State.cmdResult
  rcases h6 with h6 | h6
  · simp [h1, h2, h3, h4, h5, h6, h7]
  · by_cases h : s.unsigned b = true <;> simp [h1, h2, h3, h4, h5, h6, h7, h]

theorem leWord_leBytes (n : Nat) : ∀ w, leWord (leBytes n w) = w % 256 ^ n := by
  induction n with
  | zero => intro w; simp [leBytes, leWord, Nat.mod_one]
  | succ n ih =>
    intro w
    have h := ih (w / 256)
    simp only [leWord] at h
    simp only [leBytes, leWord, List.foldr_cons, h]
    rw [Nat.pow_succ', Nat.mod_mul]

/-- An OPEN module whose DRAM holds a PROVISION of slot 0 at 0x01000000, with its DEVICE_ID and the nonce 0. -/
def opening : State :=
  let at0 := 0x01000000
  let s := upWith [(Reg.MEM_STATUS_INIT_DONE, 1), (Reg.SEC_CMD_ADDR, at0)]
  { s with
    regs := { s.regs with eff := s.regs.eff ++ (List.range 8).map fun k => ((Reg.SEC_NONCE k).key, 0) }
    mem := { dram := [(at0, 0x4B), (at0 + 1, 0x48), (at0 + 2, 0x53), (at0 + 3, 0x43), (at0 + 4, 1)]
      ++ (List.range 16).map fun i => (at0 + 8 + i, (leBytes 16 deviceId).getD i 0) } }

/-- The state in which a GO that was taken reads its block. -/
def afterGo (s : State) : State :=
  let t := (s.noteWrite .host addrCmdCtrl).setFld Reg.SEC_CMD_STAT_BUSY 1
  (t.setSec { t.sec with op := none }).coreDone

/-- DRAM serves the command of `opening`, and its block passes every check. -/
theorem witness_provision :
    let a := opening.fld Reg.SEC_CMD_ADDR
    let x := (afterGo opening).cmdRead a
    takes opening .host addrCmdCtrl = true ∧ opening.on Reg.SEC_CMD_STAT_BUSY = false ∧
    (∀ b, ((opening.noteWrite .host addrCmdCtrl).setFld Reg.SEC_CMD_STAT_BUSY 1).opReady (.command a b) = true) ∧
    cmdCode x.2.1 = 1 ∧ x.1.cmdResult a x.2.1 x.2.2 = 0 := by
  intro a x
  let s := afterGo opening
  have hr : s.readMem 0x01000000 192 = (s, ((beatsOf 26 0x01000000 192).map fun e => (List.range e.2).map fun i => s.dram (e.1 + i)).flatten, false) := by
    have hb : ∀ (bs : List (Nat × Nat)), ((bs.map fun e => List.replicate e.2 false).flatten).any id = false := by
      intro bs
      rw [List.any_eq_false]
      intro c hc
      simp only [List.mem_flatten, List.mem_map] at hc
      obtain ⟨_, ⟨_, _, rfl⟩, hc⟩ := hc
      rw [List.eq_of_mem_replicate hc]
      simp
    unfold State.readMem
    rw [readBeats_clean s rfl rfl]
    simp only [hb]
  have hx : x = (s, ((beatsOf 26 0x01000000 192).map fun e => (List.range e.2).map fun i => s.dram (e.1 + i)).flatten, false) := by
    show s.cmdRead 0x01000000 = _
    have hp : s.cmdPlace 0x01000000 = true := by decide +kernel
    have hu : s.unsigned ((beatsOf 26 0x01000000 192).map fun e => (List.range e.2).map fun i => s.dram (e.1 + i)).flatten = true := by
      decide +kernel
    unfold State.cmdRead
    rw [hr]
    simp only [hp, hu, if_true]
  have hd : deviceId % 256 ^ 16 = deviceId := Nat.mod_eq_of_lt (Nat.mod_lt _ (by decide))
  have ho : ((opening.noteWrite .host addrCmdCtrl).setFld Reg.SEC_CMD_STAT_BUSY 1).opReady (.command 0x01000000 none) = true := by decide +kernel
  refine ⟨by decide +kernel, by decide +kernel, fun _ => ho, ?_, ?_⟩
  · rw [hx]
    decide +kernel
  · rw [hx]
    refine cmdResult_zero s _ _ (by decide +kernel) (by decide +kernel) (by decide +kernel) ?_ (by decide +kernel) (Or.inl (by decide +kernel))
      (by decide +kernel)
    have hb : beatsOf 26 0x01000000 192 = (0x01000000, 8) :: (0x01000008, 8) :: (0x01000010, 8) :: beatsOf 23 0x01000018 168 := by
      decide +kernel
    have hl : ∀ l, slice (((0x01000000, 8) :: (0x01000008, 8) :: (0x01000010, 8) :: l).map fun (e : Nat × Nat) =>
        (List.range e.2).map fun i => s.dram (e.1 + i)).flatten 8 16 = leBytes 16 deviceId := fun l => rfl
    rw [leAt, hb, hl, leWord_leBytes, hd]

/- A block at an address that is no multiple of 64 changes nothing in the security block (R386; its RESULT stands beside a nonce that no test
can evaluate). A GO while an operation
runs is refused, and one that DRAM does not serve yet waits (R295, R402). -/
theorem witness_commands_turned :
    let s (code : Nat) : State := { upWith [(Reg.SEC_CMD_ADDR, 0x01000008)] with mem := { dram := [(0x0100000C, code)] } }
    takes (s 1) .host addrCmdCtrl = true ∧ ((afterGo (s 1)).opReady (.command 0x01000008 none)) = true ∧
    runs (.provision .host none) (s 1) (fun t => decide (t.sec = (s 1).sec)) = true ∧
    runs (.revoke .host none) (s 2) (fun t => decide (t.sec = (s 2).sec)) = true ∧
    runs (.advance .host (some 1023)) (s 3) (fun t => decide (t.sec = (s 3).sec)) = true ∧
    runs (.clearTamper .host) (s 4) (fun t => decide (t.sec = (s 4).sec)) = true ∧
    stays (.provision .host none) (s 2) = true ∧
    (let b := put (s 1) [(Reg.SEC_CMD_STAT_BUSY, 1)]
     runs (.provision .host none) b (fun t => turned b t .host addrCmdCtrl) = true) ∧
    (let w := put { s 1 with mem := { dram := [(0x01000004, 1)] } } [(Reg.SEC_CMD_ADDR, 0x01000000)]
     runs (.provision .host (some 5)) w (fun t => decide (t.sec.op = some (.command 0x01000000 (some 5))) && t.on Reg.SEC_CMD_STAT_BUSY) = true) := by
  decide +kernel

/-- Slot 3 takes a hash of two fuses, 0 and 2, and PROVISIONED; a fuse that does not read blown leaves the slot EMPTY with the fuses before it. -/
theorem witness_command_effects :
    let b := List.replicate 4 0 ++ [1] ++ List.replicate 59 0 ++ [3] ++ List.replicate 15 0 ++ [5]
    let c (n : Nat) := List.replicate 4 0 ++ [n] ++ List.replicate 59 0 ++ [64]
    up.toBlow 3 5 0 = [0, 2, 768] ∧
    (let x := up.cmdRun b none
     x.2 = true ∧ x.1.sec.slots = up.sec.slots.set 3 { st := 1, ecHash := 5, lmsHash := 0 }) ∧
    (let x := up.cmdRun b (some 3)
     x.2 = true ∧ x.1.keySlot 3 = { st := 1, ecHash := 5, lmsHash := 0 }) ∧
    (let x := up.cmdRun b (some 1)
     x.2 = false ∧ x.1.keySlot 3 = { st := 0, ecHash := 1, lmsHash := 0 }) ∧
    (let x := up.cmdRun (c 3) (some 63)
     x.2 = false ∧ x.1.sec.arb = 63) ∧
    (let x := up.cmdRun (c 3) (some 64)
     x.2 = true ∧ x.1.sec.arb = 64) ∧
    (let t := up.setSec { up.sec with slots := [{ st := 1 }, { st := 1, ecHash := 3 }] }
     let r := List.replicate 4 0 ++ [2] ++ List.replicate 59 0 ++ [1]
     (t.cmdRun r none).1.keySlot 1 = { st := 2, ecHash := 3 } ∧ (t.cmdRun r none).2 = true ∧ (t.cmdRun r (some 0)).2 = false ∧
     (t.cmdRun r (some 0)).1.sec.slots = t.sec.slots) := by decide +kernel

theorem witness_patch :
    let la := Reg.SEC_PATCH_CTRL_LOAD.addr
    let s := upWith [(Reg.SEC_PATCH_ADDR, 0x01000000)]
    let m := put s [(Reg.MEM_STATUS_INIT_DONE, 1)]
    takes m .host la = true ∧ runs (.patchLoad .host) m (fun t => t.fld Reg.SEC_PATCH_STAT_RESULT == 1
      && t.fld Reg.SEC_PATCH_STAT_STORED == 0 && t.on Reg.SEC_CMD_STAT_BUSY) = true ∧
    runs (.patchLoad .host) s (fun t => decide (t.sec.op = some (.patch 0x01000000)) && t.on Reg.SEC_CMD_STAT_BUSY) = true ∧
    (let b := put m [(Reg.SEC_CMD_STAT_BUSY, 1)]
     runs (.patchLoad .host) b (fun t => turned b t .host la) = true) ∧
    (let v := put m [(Reg.SYS_BOOT_STATUS_PHASE, 4)]
     runs (.patchLoad .host) v (fun t => turned v t .host la) = true) := by decide +kernel

/- Whether a fuse fails is a constant without a body, so the index that is taken here lies in a block whose fuse is blown. -/
theorem witness_report :
    let a := Reg.SEC_ATT_CTRL_GO.addr
    let w := upWith [(Reg.SEC_ATT_ADDR, 0x01000000)]
    let s := (put w [(Reg.MEM_STATUS_INIT_DONE, 1)]).setSec { w.sec with lmsBlk := 1 }
    takes s .host a = true ∧ s.inRegion 0x01000000 1964 true = true ∧
    runs (.attestReport .host) s (fun t => t.sec.ret.lmsNext == 1 && t.on Reg.SEC_STATUS_ATTDONE_S && t.fld Reg.SEC_LMS_LEFT == 32767
      && t.on Reg.SEC_CMD_STAT_BUSY) = true ∧
    runs (.attestReport .host) (s.setSec { s.sec with ret := { s.sec.ret with lmsNext := 32768 } }) (fun t => t.sec.ret.lmsNext == 32768
      && t.on Reg.SEC_STATUS_ATTDONE_S) = true ∧
    runs (.attestReport .host) w (fun t => decide (t.sec.op = some (.report 0x01000000 w.attNonce)) && !t.on Reg.SEC_STATUS_ATTDONE_S) = true ∧
    (let b := put s [(Reg.SEC_CMD_STAT_BUSY, 1)]
     runs (.attestReport .host) b (fun t => turned b t .host a) = true) ∧
    runs (.attestReport .host) (s.setFld Reg.SEC_ATT_ADDR 0x01000001) (fun t => t.on Reg.SYS_EVENT_WRREJ_S
      && t.fld Reg.SYS_REJ_ADDR == a) = true := by decide +kernel

theorem witness_island_clock :
    (let s := upWith [(Reg.SEC_RTC_SET_LO, 7), (Reg.SEC_RTC_SET_HI, 1)]
     takes s .host Reg.SEC_RTC_CTRL_SET.addr && runs (.rtcSet .host) s (fun t => t.sec.rtc == (2 ^ 32 + 7) * 32768 && t.sec.rtcSetS
       && (t.sec.ret.log.head?.map (·.kind)) == some 2)) = true ∧
    (let s (trim : Int) (n f : Nat) := { up.setSfld Reg.SEC_RTC_TRIM trim with sec := { up.sec with rtc := 1000, scyc := n, trimFrac := f } }
     runs .rtcTrimApply (s 127 1048576 0) (fun t => t.sec.rtc == 1133 && t.sec.trimFrac == 169152 && t.sec.trimFrom == 1048576)
       && runs .rtcTrimApply (s 127 1048576 830848) (fun t => t.sec.rtc == 1134 && t.sec.trimFrac == 0)
       && runs .rtcTrimApply (s (-127) 1048576 0) (fun t => t.sec.rtc == 866 && t.sec.trimFrac == 830848)
       && stays .rtcTrimApply (s 127 1048575 0)) = true := by decide +kernel

theorem witness_tamper :
    let s (m : Nat) (held : Bool) : State :=
      { upWith [(Reg.SEC_TAMP_CFG, m * 4096), (Reg.SYS_STBY_CTRL_WAKE_TAMP, 1)] with
        sec := { up.sec with tamp := [{}, {}, {}, { bad := 1, armed := true }], scyc := 8192 }
        boot := { up.boot with held := held } }
    stays (.tamperSample 0xF) { s 5 false with sec := { (s 5 false).sec with scyc := 8191 } } = true ∧ (s 5 false).tampMode 3 = 1 ∧ (s 5 false).tampLock 3 = true ∧
    runs (.tamperSample 0xF) (s 5 false) (fun t => t.sec.ret.tampTotal == 1 && t.sec.ret.tampered && t.on Reg.SEC_STATUS_TAMP_S
      && bitOf t.sec.sealDue 2 && (t.sec.ret.log.head?.map fun e => (e.kind, e.input)) == some (1, 3) && t.boot.wake
      && t.fld Reg.SYS_STBY_STAT_WCAUSE == 2) = true ∧
    runs (.tamperSample 8) (s 1 true) (fun t => !t.sec.ret.tampered && t.sec.tampPend && t.sec.sealDue == 0) = true ∧
    runs (.tamperSample 0xF) (s 0 false) (fun t => t.sec.ret.tampTotal == 0) = true ∧
    runs (.vbatLow true) up (fun t => t.on Reg.SEC_STATUS_VBAT_LOW && (t.sec.ret.log.head?.map (·.kind)) == some 5) = true ∧
    runs (.vbatLow false) (upWith [(Reg.SEC_STATUS_VBAT_LOW, 1)]) (fun t => !t.on Reg.SEC_STATUS_VBAT_LOW && t.sec.ret.log.isEmpty) = true := by
  decide +kernel

theorem witness_tally :
    (let s := at_ 100000000 up
     runs .tallyRetentionCopy s (fun t => t.sec.copyFrom == 100000000) && stays .tallyRetentionCopy (at_ 99999999 s)) = true ∧
    (let s := at_ 1440000000000 (upWith [(Reg.SEC_TALLY_CFG_SEAL_H, 1)])
     runs .tallyPeriodicDue s (fun t => bitOf t.sec.sealDue 0 && t.sec.sealFrom == 1440000000000)
       && stays .tallyPeriodicDue (at_ 1439999999999 s)) = true ∧
    (let s (d : Nat) := (upWith [(Reg.MEM_STATUS_INIT_DONE, 1), (Reg.SEC_TALLY_BASE, 0x02000000)]).setSec { up.sec with sealDue := d, sealNext := 5 }
     (s 32).memRuns && (s 32).nextCause == some 5 && (s 9).nextCause == some 3
       && runs .tallySeal (s 32) (fun t => t.sec.sealNext == 6 && t.sec.sealDue == 0 && t.sec.sealLast == 5
         && t.on Reg.SEC_CMD_STAT_BUSY && t.fld Reg.SEC_TALLY_SEAL_LO == 5 && t.on Reg.SEC_STATUS_SEAL_S)
       && stays .tallySeal (s 0) && stays .tallySeal (put (s 32) [(Reg.SEC_CMD_STAT_BUSY, 1)])
       && (s 32).coreReady (s 32).sealAddr 1024
       && runs .tallySeal ((s 32).setFld Reg.MEM_STATUS_INIT_DONE 0) (fun t => t.sec.sealNext == 5 && t.sec.sealDue == 32)) = true ∧
    (takes up .host Reg.SEC_TALLY_CTRL_SEAL_NOW.addr && runs (.sealNow .host) up (fun t => bitOf t.sec.sealDue 1)) = true := by decide +kernel

/-! Resets, boot and standby. -/

/-- A module in a boot phase at a time, with fields. -/
def booting (t phase : Nat) (l : List (Fld × Nat)) : State := at_ t (upWith ((Reg.SYS_BOOT_STATUS_PHASE, phase) :: l))

theorem witness_resets :
    (let s := { booting 5 6 [(Reg.GFM_PSET 7, 3), (Reg.SEC_TAMP_CFG, 1)] with mem := { dram := [(1, 2)] } }
     runs .powerOnReset s (fun t => t.boot.held && t.mem.dram.isEmpty && t.fld (Reg.GFM_PSET 7) == 0 && t.fld Reg.SEC_TAMP_CFG == 1)
       && takes s .host Reg.SYS_RESET_WARM.addr
       && runs (.warmReset .host 0x5A) s (fun t => t.mem.dram == [(1, 2)] && !t.boot.held && decide (t.eng = {}))
       && runs (.warmReset .host 0x5B) s (fun t => turned s t .host Reg.SYS_RESET_WARM.addr)
       && runs .watchdogReset (at_ 400000000 s) (fun t => t.mem.dram == [(1, 2)] && !t.boot.held)
       && stays .watchdogReset (at_ 399999999 s)) = true ∧
    (let s := { at_ 400000000 up with boot := { up.boot with held := true, heldFor := 4000000 } }
     stays (.powerOnResetRelease true false true) { s with boot := { s.boot with heldFor := 3999999 } }
       && runs (.powerOnResetRelease true true true) { s with sec := { s.sec with ret := { s.sec.ret with valid := true } } } (fun t =>
         !t.boot.held && !t.sec.ret.tampered)
       && stays .watchdogReset s && runs (.powerOnResetRelease true false false) s (fun t => !t.boot.held && t.chart == 0#64 && t.twn.strap && !t.clk.xtal
       && t.sec.ret.tampered) && stays (.powerOnResetRelease true true true) up
       && runs .islandPowerUp (s.setFld Reg.SEC_TAMP_CFG 1) (fun t => t.sec.rtc == 0 && t.boot.wake && !t.sec.ret.valid && t.fld Reg.SEC_TAMP_CFG == 0)
       && stays .islandPowerUp up) = true := by decide +kernel

theorem witness_boot_phases :
    runs .bootPhaseComplete (booting 3 0 []) (fun t => t.phase == pCLOCKS && t.boot.phaseAt == 3 && t.fld Reg.SYS_BOOT_STATUS_FAIL == 2) = true ∧
    runs .bootPhaseComplete (booting 3 1 [(Reg.CLK_STATUS_LOCK_C, 1), (Reg.CLK_STATUS_LOCK_A, 1), (Reg.CLK_STATUS_LOCK_M, 1)]) (fun t =>
      t.phase == pLINKS) = true ∧
    runs .bootPhaseComplete (booting 3 2 [(Reg.MEM_STATUS_INIT_DONE, 1)]) (fun t => t.phase == pLOAD) = true ∧
    (booting 3 2 [(Reg.MEM_STATUS_INIT_DONE, 1)]).phaseLate = false ∧
    stays .bootPhaseComplete (booting 3 3 []) = true ∧ stays .bootPhaseComplete (booting 3 7 []) = true ∧
    runs .bootPhaseComplete (booting 3 4 []) (fun t => only [Reg.MEM_TRK_STALL_CNT_B_STALL] (booting 3 4 []) t) = true ∧
    (let s := booting 3 4 [(Reg.MEM_STATUS_INIT_DONE, 1)]
     s.runPatch.2 = 0 ∧ s.runPatch.1.bootImage.2.1 ≠ 0 ∧ runs .bootPhaseComplete s (fun t => t.phase == pLOAD && t.fld Reg.SYS_BOOT_STATUS_FAIL == 8
       && t.on Reg.SYS_BOOT_STATUS_BOOTFAIL_S) = true) ∧
    (let s := (booting 3 4 [(Reg.MEM_STATUS_INIT_DONE, 1)]).setSec { up.sec with patch := some (1, 0) }
     s.runPatch.2 ≠ 0 ∧ runs .bootPhaseComplete s (fun t => t.phase == pLOAD && t.fld Reg.SYS_BOOT_STATUS_FAIL == 7
       && t.fld Reg.SYS_BOOT_STATUS_DETAIL == 6) = true) := by decide +kernel

theorem witness_boot_failures :
    let f (s : State) (b : BootFault) (code : Nat) : Bool := runs (.bootPhaseTimeout b) s fun t => t.phase == pFAILED
      && t.fld Reg.SYS_BOOT_STATUS_FAIL == code && t.on Reg.SYS_BOOT_STATUS_BOOTFAIL_S
    (f (booting 0 0 []) .rom 1 && f (booting 0 1 []) (.pll 2) 3 && f (booting 0 2 []) .converter 4 && f (booting 0 2 []) (.drive 3) 5
      && f (booting 0 2 []) .memory 6) = true ∧
    (f (booting 8000000 0 []) .limit 11 && f (booting 400000 1 []) .limit 11 && f (booting 244000000 2 []) .limit 11
      && f (booting 4000000 2 [(Reg.SYS_RESET_CAUSE_KIND, 1)]) .limit 11 && f (booting 40000000 5 []) .limit 10) = true ∧
    (stays (.bootPhaseTimeout .limit) (booting 7999999 0 []) && stays (.bootPhaseTimeout .limit) (booting 243999999 2 [])
      && stays (.bootPhaseTimeout .limit) (booting 39999999 5 []) && stays (.bootPhaseTimeout .limit) (booting 799999999 4 [])) = true ∧
    runs .bootPhaseComplete (booting 8000000 0 []) (fun t => t.phase == pFAILED && t.fld Reg.SYS_BOOT_STATUS_FAIL == 11) = true ∧
    runs .armingComplete (booting 40000000 5 []) (fun t => t.phase == pFAILED && t.fld Reg.SYS_BOOT_STATUS_FAIL == 10) = true ∧
    (let c := booting 0 2 [(Reg.SYS_DIE_STATUS_CNV_UP, 1)]
     stays (.bootPhaseTimeout .converter) c && stays (.bootPhaseTimeout (.drive 3)) c && f c .memory 6
       && stays (.bootPhaseTimeout .memory) (put c [(Reg.MEM_STATUS_INIT_DONE, 1)])) = true ∧
    (booting 800000000 4 []).phaseLate = true := by decide +kernel

theorem witness_boot_start :
    let s := { (booting 3 3 []).setSec { up.sec with slots := [{ st := 1 }, {}, {}, {}] } with mem := { dram := [(0x30003F, 1)] } }
    takes s .host addrBoot = true ∧ s.slotEmpty 3 = false ∧ s.slotEmpty 2 = true ∧
    runs (.bootStart .host 3) s (fun t => t.phase == pVERIFY && t.fld Reg.SYS_BOOT_CTRL_SLOT == 3 && t.boot.phaseAt == 3
      && t.fld Reg.STG_ATL_STATUS_STATE == 2 && t.fld Reg.STG_ATL_STATUS_STG_SLOT == 3 && t.slotLocked 3 && stays .imageVerifyDone t) = true ∧
    runs (.bootStart .host 2) s (fun t => t.phase == pLOAD && t.on Reg.SYS_EVENT_WRREJ_S) = true ∧
    (let a := booting 50 5 [(Reg.GRT_TMR_PERIOD 7, 400), (Reg.SYS_HOST_CFG_SIL_MS, 1)]
     let n (l : List Nat) := { booting 50 5 [] with
       stg := { up.stg with active := some { sched := { ents := [{ entry := 7 }] }, ctxs := [{ cfg := 2 ^ 7 + 7 * 2 ^ 9 }] } }
       adc := { up.adc with delivered := l } }
     runs .armingComplete a (fun t => t.phase == pARMED && tabGet 0 t.eng.timerNext 7 == 450 && tabGet 0 t.eng.timerNext 0 == 0
       && t.host.silFrom == some 50) && stays .armingComplete (n [])
       && runs .armingComplete (n [7]) (fun t => t.phase == pARMED) && stays .armingComplete (booting 50 4 [])) = true := by decide +kernel

theorem witness_standby :
    let s := booting 9 6 [(Reg.PWM_RUN 0, 5), (Reg.PWM_RUN 1, 5), (Reg.SDC_STATUS_STATE, 2)]
    takes s .host addrStby = true ∧
    runs (.standbyEnter .host) s (fun t => t.on Reg.SYS_STBY_STAT_READY && t.on Reg.CLK_STATUS_M_SR && t.mem.srFrom == some 9 && !t.boot.wake
      && t.fld (Reg.PWM_RUN 0) == 0 && t.fld (Reg.PWM_RUN 1) == 0) = true ∧
    runs (.standbyEnter .host) (s.setFld (Reg.GFM_EVT_STATUS_MODE 7) 1) (fun t => t.fld Reg.SYS_REJ_ADDR == addrStby && t.on Reg.SYS_EVENT_WRREJ_S) = true ∧
    runs (.standbyCancel .host) (s.setFld Reg.SYS_STBY_STAT_READY 1) (fun t => t.boot.wake && !t.boot.held && decide (t.eng = {})) = true ∧
    runs (.standbyCancel .host) s (fun t => decide (t = s.noteWrite .host addrStby)) = true ∧
    (let a := { upWith [(Reg.SYS_STBY_CTRL_WAKE_RTC, 1), (Reg.SYS_STBY_ALARM, 3)] with sec := { up.sec with rtc := 3 * 32768 } }
     runs .wakeAlarm a (fun t => t.boot.wake && t.fld Reg.SYS_STBY_STAT_WCAUSE == 1)
       && stays .wakeAlarm { a with sec := { a.sec with rtc := 4 * 32768 } }) = true := by decide +kernel

end Sys2Proof.Tests
end

/-! A port's write of a register that is taken. -/

section
open Sys2Proof Sys2Proof.Machine

namespace Sys2Proof.Machine

/-- A command that is a write of a register, where the write is taken, does its body on the state that notes it. -/
theorem State.portCmd_takes {s : State} {p : Port} {a : Nat} (h : s.Takes p a) (c : Instr) (body : State → State) :
    s.portCmd c p a body = body (s.noteWrite p a) := by
  unfold State.portCmd State.inOrder
  rw [h.first]
  exact State.portWrite_takes h body

/-! The note of a write leaves the machine beside PORTCOL_S. -/

@[simp] theorem State.noteWrite_eng (s : State) (p : Port) (a : Nat) : (s.noteWrite p a).eng = s.eng := by
  unfold State.noteWrite; split <;> rfl

@[simp] theorem State.noteWrite_expertStart (s : State) (p : Port) (a : Nat) : (s.noteWrite p a).expertStart = s.expertStart := by
  unfold State.noteWrite; split <;> rfl

@[simp] theorem State.noteWrite_clk (s : State) (p : Port) (a : Nat) : (s.noteWrite p a).clk = s.clk := by
  unfold State.noteWrite; split <;> rfl

@[simp] theorem State.noteWrite_grid (s : State) (p : Port) (a : Nat) : (s.noteWrite p a).grid = s.grid := by
  unfold State.noteWrite; split <;> rfl

@[simp] theorem State.noteWrite_host (s : State) (p : Port) (a : Nat) : (s.noteWrite p a).host = s.host := by
  unfold State.noteWrite; split <;> rfl

@[simp] theorem State.noteWrite_com (s : State) (p : Port) (a : Nat) : (s.noteWrite p a).regs.com = s.regs.com := by
  unfold State.noteWrite; split <;> rfl

@[simp] theorem State.noteWrite_shadow (s : State) (p : Port) (a : Nat) : (s.noteWrite p a).regs.shadow = s.regs.shadow := by
  unfold State.noteWrite; split <;> rfl

theorem State.note_evNow_contains (s : State) {j k : Nat} (h : k ≠ j) : (s.note j).evNow.contains k = s.evNow.contains k := by
  unfold State.note
  by_cases hj : s.evNow.contains j = true
  · rw [if_pos hj]
  · rw [if_neg hj, List.contains_cons, beq_false_of_ne h, Bool.false_or]

/-- The note records no event but PORTCOL_S. -/
theorem State.noteWrite_evNow (s : State) (p : Port) (a : Nat) {k : Nat} (h : k ≠ Reg.SYS_EVENT_PORTCOL_S.key) :
    (s.noteWrite p a).evNow.contains k = s.evNow.contains k := by
  unfold State.noteWrite
  split
  · exact State.note_evNow_contains _ h
  · rfl

/-- Where the register is not STG_CTRL, a plain write stands behind what stands before a write at its address (R159, R418). -/
theorem beforeFrame_registerWrite (i : Instr) (p : Port) (a : Fin 0x4000) (v : Word) (h : 4 * a.val ≠ Reg.STG_CTRL_SURVEY.addr) :
    i.beforeFrame (.registerWrite p a v) = i.beforeWrite p (4 * a) := by
  have hb : (4 * a.val == Reg.STG_CTRL_SURVEY.addr) = false := beq_false_of_ne h
  have hasks : (Instr.registerWrite p a v).asksSurvey = false := by
    simp [Instr.asksSurvey, Instr.writtenWords, hb]
  have hwrites : (Instr.registerWrite p a v).writesReg .host Reg.STG_CTRL_SURVEY.addr = false := by
    simp [Instr.writesReg, Instr.target, Instr.writtenWords, h]
  unfold Instr.beforeFrame
  rw [hasks, hwrites]
  simp [Instr.writtenWords]

/-- A plain write that is taken does what the register does, on the state that notes it. -/
theorem exec_registerWrite_takes {s : State} {p : Port} {a : Fin 0x4000} {b : Nat} (v : Word) (h : s.Takes p b)
    (hb : 4 * a.val = b) (hc : b ≠ Reg.STG_CTRL_SURVEY.addr) :
    exec (.registerWrite p a v) s = .next ((s.noteWrite p b).regBody p b v.toNat) := by
  subst hb
  have hq : (fun i : Instr => i.beforeFrame (.registerWrite p a v)) = fun i => i.beforeWrite p (4 * a) :=
    funext fun i => beforeFrame_registerWrite i p a v hc
  have hlow : 4 * a.val < 0x10000 := by omega
  show Host.Outcome.next (s.inOrder _ (fun i => i.beforeFrame (.registerWrite p a v)) _) = _
  rw [hq, State.inOrder, h.first]
  unfold State.writeWord
  rw [if_neg Bool.false_ne_true, State.portWrite_takes h, if_pos hlow]

/-- The record of a refused write (R15, R418) and the fields that it may change. -/
theorem State.refuse_fields (s : State) (p : Port) (a : Nat) :
    OnlyFlds [Reg.SYS_EVENT_WRREJ_S, Reg.SYS_REJ_ADDR, Reg.SYS_REJ_INFO_PORT, Reg.SYS_REJ_INFO_VALID] s (s.refuse p a) := by
  unfold State.refuse
  exact ((((OnlyFlds.refl _ s).setFld (by simp) _).same rfl).setFld (by simp) _ |>.setFld (by simp) _).setFld (by simp) _

/-- The record of a write that is refused after it was noted. -/
theorem RefusesWrite.of_refuse (s : State) (p : Port) (a : Nat) : RefusesWrite s ((s.noteWrite p a).refuse p a) p a where
  flag := by
    unfold State.refuse
    rw [State.on, State.fld_setFld_other _ _ (by decide), State.fld_setFld_other _ _ (by decide), State.fld_setFld_other _ _ (by decide)]
    exact (s.noteWrite p a).on_raise_same rfl
  address := by
    unfold State.refuse
    rw [State.fld_setFld_other _ _ (by decide), State.fld_setFld_other _ _ (by decide), State.fld_setFld_same]; rfl
  port := by
    unfold State.refuse
    rw [State.fld_setFld_other _ _ (by decide), State.fld_setFld_same]
    cases p <;> rfl
  valid := by
    unfold State.refuse
    rw [State.fld_setFld_same]; rfl
  fields := ((s.noteWrite_fields p a).mono (by simp)).trans ((State.refuse_fields _ p a).mono (by simp))
  frame := (State.refuse_in _ p a).thn (by decide) (s.noteWrite_in p a)

end Sys2Proof.Machine
end

/-! ADD, SUB, NEG, ABS, SHIFT and DIV. -/

section
open Sys2Proof Sys2Proof.Machine

namespace Sys2Proof.Machine

/-- NaV in the register of a result, which is no saturation (R100). -/
theorem WritesExact.of_nav (s : State) (n d : Nat) (i : Int) : WritesExact s ((s.advance n).setReg n d navN) n d true i :=
  WritesReg.of_setReg s n d navN false

/-- An exact result, saturated, in the register of a result (R99). -/
theorem WritesExact.of_setSat (s : State) (n d : Nat) (i : Int) : WritesExact s ((s.advance n).setSat n d i) n d false i := by
  unfold WritesExact
  rw [Bool.not_false, Bool.true_and]
  exact WritesReg.of_setReg s n d (satN i) (satActs i)

/-- A result that is NaV or exact (R99, R100). -/
theorem WritesExact.of_result (s : State) (n d : Nat) (nav : Bool) (i : Int) :
    WritesExact s (if nav then (s.advance n).setReg n d navN else (s.advance n).setSat n d i) n d nav i := by
  cases nav with
  | true => exact .of_nav ..
  | false => exact .of_setSat ..

theorem WritesExact.of_unary (s : State) (n : Nat) (o : OpWord) (f : Int → Int) :
    WritesExact s ((s.advance n).unary n o f) n o.d (isNav (s.reg n o.a)) (f (wInt (s.reg n o.a))) :=
  .of_result s n o.d _ _

theorem WritesExact.of_binary (s : State) (n : Nat) (o : OpWord) (f : Int → Int → Int) :
    WritesExact s ((s.advance n).binary n o f) n o.d (isNav (s.reg n o.a) || isNav (s.reg n o.b))
      (f (wInt (s.reg n o.a)) (wInt (s.reg n o.b))) :=
  .of_result s n o.d _ _

/-- The body of DIV: a zero divisor gives NaV, as a NaV operand does (R100). -/
theorem WritesExact.of_div (s : State) (n : Nat) (o : OpWord) :
    WritesExact s (if (s.advance n).reg n o.b = 0 then (s.advance n).setReg n o.d navN else (s.advance n).binary n o divExact) n o.d
      (isNav (s.reg n o.a) || isNav (s.reg n o.b) || decide (s.reg n o.b = 0)) (divExact (wInt (s.reg n o.a)) (wInt (s.reg n o.b))) := by
  rw [State.advance_reg]
  by_cases hy : s.reg n o.b = 0
  · rw [if_pos hy, decide_eq_true hy, Bool.or_true]
    exact .of_nav ..
  · rw [if_neg hy, decide_eq_false hy, Bool.or_false]
    exact .of_binary s n o divExact

/-- An operation of a code answers what its body makes of the state that has moved past it. -/
theorem State.issueOp_answers {s : State} {c n : Nat} {o : OpWord} (h : s.Issues c n o) {code : Nat} (hop : o.op = code)
    (body : Nat → OpWord → State → State) {P : State → Prop} (hP : P (body n o (s.advance n))) :
    ∃ t, (.next (s.issueOp c code body) : Host.Outcome State Fault Refusal) = .next t ∧ P t :=
  ⟨_, rfl, by rw [← hop, State.issueOp_issues h]; exact hP⟩

end Sys2Proof.Machine

/-- Settles O27: each operation's body is a one-operand or a two-operand result of R99 and R100, with DIV's zero divisor as one case more. -/
theorem arithmeticOpsWriteSaturatedResults : Obligations.ArithmeticOpsWriteSaturatedResults := by
  intro s c n o h
  refine ⟨fun hop => ?_, fun hop => ?_, fun hop => ?_, fun hop => ?_, fun hop => ?_, fun hop => ?_⟩
  · exact State.issueOp_answers h hop _ (.of_binary s n o fun x y => x + y)
  · exact State.issueOp_answers h hop _ (.of_binary s n o fun x y => x - y)
  · exact State.issueOp_answers h hop _ (.of_unary s n o fun x => -x)
  · exact State.issueOp_answers h hop _ (.of_unary s n o fun x => x.natAbs)
  · exact State.issueOp_answers h hop _ (.of_unary s n o fun x => shiftExact x (shiftCount o.imm))
  · exact State.issueOp_answers h hop _ (.of_div s n o)

end

/-! EN of a context. -/

section
open Sys2Proof Sys2Proof.Machine

namespace Sys2Proof.Machine

theorem State.ctx_congr {s t : State} (h : t.eng = s.eng) (n : Nat) : t.ctx n = s.ctx n := by unfold State.ctx; rw [h]

theorem State.cfg_congr {s t : State} (h : t.eng = s.eng) (n : Nat) : t.cfg n = s.cfg n := by unfold State.cfg; rw [h]

/-- The state words that a context takes at its start leave the register fields and the banks. -/
theorem State.loadInit_regs_banks (s : State) (i : Img) (r : CtxRec) :
    (s.loadInit i r).regs = s.regs ∧ (s.loadInit i r).eng.banks = s.eng.banks :=
  forIdx_induct (P := fun t : State => t.regs = s.regs ∧ t.eng.banks = s.eng.banks) (fun _ _ h => h) ⟨rfl, rfl⟩

theorem State.reinit_regs_banks (s : State) (n : Nat) : (s.reinit n).regs = s.regs ∧ (s.reinit n).eng.banks = s.eng.banks := by
  unfold State.reinit
  split
  · exact ⟨rfl, rfl⟩
  · split
    · exact ⟨rfl, rfl⟩
    · exact State.loadInit_regs_banks ..

theorem ctxEn_key_ne_portcol (n : Nat) : (Reg.GRT_CTX_CTRL_EN n).key ≠ Reg.SYS_EVENT_PORTCOL_S.key := by
  simp only [Fld.key, Reg.GRT_CTX_CTRL_EN, Reg.SYS_EVENT_PORTCOL_S]; omega

theorem ctxEn_key_ne_missRun (n : Nat) : (Reg.GRT_CTX_CTRL_EN n).key ≠ (Reg.GRT_CTX_STATUS_MISS_RUN n).key := by
  simp only [Fld.key, Reg.GRT_CTX_CTRL_EN, Reg.GRT_CTX_STATUS_MISS_RUN]; omega

theorem missRun_key_ne_portcol (n : Nat) : (Reg.GRT_CTX_STATUS_MISS_RUN n).key ≠ Reg.SYS_EVENT_PORTCOL_S.key := by
  simp only [Fld.key, Reg.GRT_CTX_STATUS_MISS_RUN, Reg.SYS_EVENT_PORTCOL_S]; omega

/-- EN from 0 to 1 (R110): EN reads 1, MISS_RUN 0, and the next execution is the first. -/
theorem State.ctxEnable_off {s : State} {n : Nat} (h : s.on (Reg.GRT_CTX_CTRL_EN n) = false) :
    (s.ctxEnable n).on (Reg.GRT_CTX_CTRL_EN n) = true ∧ (s.ctxEnable n).fld (Reg.GRT_CTX_STATUS_MISS_RUN n) = 0 ∧
      ((s.ctxEnable n).ctx n).first = true ∧ (s.ctxEnable n).eng.banks = s.eng.banks := by
  obtain ⟨hregs, hbanks⟩ := (s.setFld (Reg.GRT_CTX_CTRL_EN n) 1).reinit_regs_banks n
  unfold State.ctxEnable
  rw [h, if_neg Bool.false_ne_true]
  refine ⟨?_, ?_, ?_, hbanks⟩
  · rw [State.on, State.setCtx_fld, State.fld_setFld_other _ _ (ctxEn_key_ne_missRun n), State.fld_congr hregs, State.fld_setFld_same]
    rfl
  · rw [State.setCtx_fld, State.fld_setFld_same]; rfl
  · rw [State.ctx_setCtx_same]

/-- EN to 0 (R110): EN reads 0 and no other field changes. -/
theorem State.ctxDisable_fields (s : State) (n : Nat) :
    (s.ctxDisable n).on (Reg.GRT_CTX_CTRL_EN n) = false ∧ OnlyFlds [Reg.GRT_CTX_CTRL_EN n] s (s.ctxDisable n) := by
  have hregs : (s.ctxDisable n).regs = (s.setFld (Reg.GRT_CTX_CTRL_EN n) 0).regs := by unfold State.ctxDisable; split <;> rfl
  refine ⟨?_, ((OnlyFlds.refl _ s).setFld (List.mem_singleton.2 rfl) 0).same hregs⟩
  rw [State.on, State.fld_congr hregs, State.fld_setFld_same]; rfl

/-- EN to 0 drops a trigger that is ready (R110). -/
theorem State.ctxDisable_ready {s : State} {n : Nat} (h : (s.ctx n).phase = .ready) : ((s.ctxDisable n).ctx n).phase = .idle := by
  unfold State.ctxDisable
  rw [if_pos h, State.ctx_setCtx_same]

/-- A write of EN by an expert to a defined context (R18, R110). -/
theorem State.writeCtxEn_expert {s : State} {n : Nat} (he : s.expertStart = true) (hd : cfgDefined (s.cfg n) = true) (p : Port) (b : Bool) :
    s.writeCtxEn p n b = if b then s.ctxEnable n else s.ctxDisable n := by
  unfold State.writeCtxEn; rw [he, hd]; rfl

/-- Without EXPERT_EN a write of EN is refused (R18). -/
theorem State.writeCtxEn_barred {s : State} (he : s.expertStart = false) (p : Port) (n : Nat) (b : Bool) :
    s.writeCtxEn p n b = s.refuse p (Reg.GRT_CTX_CTRL_EN n).addr := by
  unfold State.writeCtxEn; rw [he]; rfl

end Sys2Proof.Machine

/-- Settles O39: the write is taken, so that it acts on the noted state, which differs from the first in PORTCOL_S alone. -/
theorem contextEnableAndDisable : Obligations.ContextEnableAndDisable := by
  intro s p n h
  set u := s.noteWrite p (Reg.GRT_CTX_CTRL_EN n).addr with hu
  have hen : exec (.contextEnable p n) s = .next (u.writeCtxEn p n true) := congrArg Host.Outcome.next (State.portCmd_takes h _ _)
  have hdis : exec (.contextDisable p n) s = .next (u.writeCtxEn p n false) := congrArg Host.Outcome.next (State.portCmd_takes h _ _)
  have heng : u.eng = s.eng := s.noteWrite_eng ..
  have hexp : u.expertStart = s.expertStart := s.noteWrite_expertStart ..
  have hfld {f : Fld} (hf : f.key ≠ Reg.SYS_EVENT_PORTCOL_S.key) : u.fld f = s.fld f := s.noteWrite_fld _ _ hf
  have expert (he : s.expertStart = true) (hd : cfgDefined (s.cfg n) = true) (b : Bool) :=
    State.writeCtxEn_expert (hexp.trans he) ((State.cfg_congr heng n).symm ▸ hd) p b
  refine ⟨fun he hd hoff => ?_, fun he hd hready => ?_, fun he => ?_, fun he => ?_⟩
  · have hoff' : u.on (Reg.GRT_CTX_CTRL_EN n) = false := by
      rw [State.on, hfld (ctxEn_key_ne_portcol n)]; exact hoff
    rw [hen, expert he hd]
    exact ⟨_, rfl, heng ▸ State.ctxEnable_off hoff'⟩
  · obtain ⟨hen0, honly⟩ := u.ctxDisable_fields n
    have hready' : (u.ctx n).phase = .ready := by rw [State.ctx_congr heng]; exact hready
    rw [hdis, expert he hd]
    refine ⟨_, rfl, hen0, State.ctxDisable_ready hready', ?_, ?_⟩
    · refine (honly _ ?_).trans (hfld (missRun_key_ne_portcol n))
      simpa using (ctxEn_key_ne_missRun n).symm
    · exact ((s.noteWrite_fields p _).mono (by simp)).trans (honly.mono (by simp))
  · rw [hen, State.writeCtxEn_barred (hexp.trans he)]
  · rw [hdis, State.writeCtxEn_barred (hexp.trans he)]

end

/-! One C-cycle on an empty queue. -/

section
open Sys2Proof Sys2Proof.Machine

namespace Sys2Proof.Machine

/-- Two states agree on the writes that the C-cycle has seen and on EXPERT_EN as it began (R418, R434). -/
def SameCycle (s t : State) : Prop := t.wrNow = s.wrNow ∧ t.expertStart = s.expertStart

theorem SameCycle.refl (s : State) : SameCycle s s := ⟨rfl, rfl⟩

theorem SameCycle.trans {s t u : State} (h : SameCycle s t) (h' : SameCycle t u) : SameCycle s u :=
  ⟨h'.1.trans h.1, h'.2.trans h.2⟩

theorem SameCycle.forIdx {s t : State} {n : Nat} {f : Nat → State → State} (hf : ∀ k u, SameCycle u (f k u)) (h : SameCycle s t) :
    SameCycle s (forIdx n f t) := forIdx_induct (P := SameCycle s) (fun k u hu => hu.trans (hf k u)) h

theorem SameCycle.foldl {β : Type} {s t : State} {l : List β} {f : State → β → State} (hf : ∀ u x, SameCycle u (f u x))
    (h : SameCycle s t) : SameCycle s (l.foldl f t) := foldl_induct (P := SameCycle s) (fun u x hu => hu.trans (hf u x)) h

theorem SameCycle.ite {c : Prop} [Decidable c] {s t u : State} (h : SameCycle s t) (h' : SameCycle s u) :
    SameCycle s (if c then t else u) := by
  split
  · exact h
  · exact h'

theorem State.takeCom_sameCycle (s : State) (p : Nat → Bool) : SameCycle s (s.takeCom p) :=
  .foldl (fun u _ => .refl u) ⟨rfl, rfl⟩

theorem State.dropCarries_sameCycle (t s : State) (g : Nat) : SameCycle t (t.dropCarries s g) :=
  .ite (.refl t) (.forIdx (fun _ u => .ite ⟨rfl, rfl⟩ (.refl u)) (.refl t))

theorem State.takePwm_sameCycle (s : State) : SameCycle s s.takePwm := by
  refine .forIdx (fun n u => .ite (u.takeCom_sameCycle _) (.refl u)) (.forIdx (fun g u => .ite ?_ (.refl u)) (.refl s))
  exact (u.takeCom_sameCycle _).trans (State.dropCarries_sameCycle ..)

theorem State.runEdges_sameCycle (s : State) : SameCycle s s.runEdges :=
  .foldl (fun u _ => .ite ⟨rfl, rfl⟩ (.refl u)) (.refl s)

theorem State.holdSinks_sameCycle (s : State) : SameCycle s s.holdSinks :=
  .foldl (fun u _ => .ite (.refl u) ⟨rfl, rfl⟩) (.refl s)

theorem State.noteDigests_sameCycle (s : State) : SameCycle s s.noteDigests :=
  .ite (.refl s) (.ite ⟨rfl, rfl⟩ (.refl s))

theorem State.loadNext_sameCycle (s : State) : SameCycle s s.loadNext := by
  unfold State.loadNext
  split <;> exact ⟨rfl, rfl⟩

/-- What follows the clock in a C-cycle: the carriers, the edges, the sinks, the digests and an image that is loading. -/
def State.unitsTick (s : State) : State := s.takePwm.runEdges.holdSinks.noteDigests.loadNext

theorem State.unitsTick_sameCycle (s : State) : SameCycle s s.unitsTick :=
  s.takePwm_sameCycle.trans <| (State.runEdges_sameCycle _).trans <| (State.holdSinks_sameCycle _).trans <|
    (State.noteDigests_sameCycle _).trans (State.loadNext_sameCycle _)

theorem State.unitsTick_in (s : State) : Within [.regs, .drafts, .pwm, .drv, .twn, .stg] s s.unitsTick :=
  (State.loadNext_in _).thn (by decide) <| (State.noteDigests_in _).thn (by decide) <| (State.holdSinks_in _).thn (by decide) <|
    (State.runEdges_in _).thn (by decide) (s.takePwm_in.mono (by decide))

/-- What a C-cycle does by the clock, before the units follow. -/
def State.clockTick (s : State) : State := s.noteDrain.refWait.passCycle.clearCycle.islandTick

/-- What stands before the clock has counted: a commit that waits, and the boot's wait for a reference. -/
theorem State.waits_in (s : State) : Within [.stg, .boot] s s.noteDrain.refWait :=
  (State.refWait_in _).thn (by decide) (s.noteDrain_in.mono (by decide))

theorem State.noteDrain_boot (s : State) : s.noteDrain.boot = s.boot := s.noteDrain_in.frame .boot (by decide)

theorem State.refWait_frac (s : State) : s.refWait.boot.frac = s.boot.frac := by
  unfold State.refWait; split <;> rfl

@[simp] theorem State.passCycle_sec (s : State) : s.passCycle.sec = s.sec := rfl
@[simp] theorem State.passCycle_boot (s : State) : s.passCycle.boot = s.boot := rfl
@[simp] theorem State.clearCycle_sec (s : State) : s.clearCycle.sec = s.sec := rfl
@[simp] theorem State.clearCycle_boot (s : State) : s.clearCycle.boot = s.boot := rfl

theorem State.waits_sec (s : State) : s.noteDrain.refWait.sec = s.sec := s.waits_in.frame .sec (by decide)

theorem State.clockTick_in (s : State) : Within [.chart, .eng, .trp, .stg, .sec, .boot] s s.clockTick :=
  (State.islandTick_in _).thn (by decide) <| (State.clearCycle_in _).thn (by decide) <| (State.passCycle_in _).thn (by decide)
    (s.waits_in.mono (by decide))

theorem State.islandTick_sameCycle (s : State) : SameCycle s s.islandTick := by
  unfold State.islandTick
  extract_lets f
  exact .ite ⟨rfl, rfl⟩ ⟨rfl, rfl⟩

theorem State.islandTick_regs (s : State) : s.islandTick.regs = s.regs := by
  unfold State.islandTick
  extract_lets f
  split <;> rfl

theorem State.islandTick_op (s : State) : s.islandTick.sec.op = s.sec.op := by
  unfold State.islandTick
  extract_lets f
  split <;> rfl

/-- Between two counts of the RTC its fraction alone grows (R393). -/
theorem State.islandTick_between {s : State} (h : s.boot.frac + 32768 < secondCycles) :
    s.islandTick.boot.frac = s.boot.frac + 32768 ∧ s.islandTick.sec.rtc = s.sec.rtc := by
  unfold State.islandTick
  rw [if_neg (Nat.not_le.2 h)]
  exact ⟨rfl, rfl⟩

/-- A count of the RTC (R393). -/
theorem State.islandTick_count {s : State} (h : secondCycles ≤ s.boot.frac + 32768) :
    s.islandTick.boot.frac = s.boot.frac + 32768 - secondCycles ∧ s.islandTick.sec.rtc = (s.sec.rtc + 1) % 2 ^ 55 := by
  unfold State.islandTick
  rw [if_pos h]
  exact ⟨rfl, rfl⟩

theorem State.clockTick_chart (s : State) : s.clockTick.chart = s.chart + 1 :=
  ((State.islandTick_in _).frame .chart (by decide)).trans (congrArg (· + 1) (s.waits_in.frame .chart (by decide)))

theorem State.clockTick_eng (s : State) :
    s.clockTick.eng = { s.eng with real := s.eng.real + s.eng.rho, stsNow := [], expNow := [] } :=
  ((State.islandTick_in _).frame .eng (by decide)).trans
    (congrArg (fun e : EngRun => { e with real := e.real + e.rho, stsNow := [], expNow := [] }) (s.waits_in.frame .eng (by decide)))

theorem State.clockTick_wrNow (s : State) : s.clockTick.wrNow = [] := (State.islandTick_sameCycle _).1

/-- A bit reads alike in two states whose fields in effect are alike. -/
theorem State.on_congr {s t : State} (h : t.regs.eff = s.regs.eff) (f : Fld) : t.on f = s.on f := by
  unfold State.on State.fld; rw [h]

theorem State.clockTick_expertStart (s : State) : s.clockTick.expertStart = s.on Reg.SYS_CTRL_EXPERT_EN :=
  (State.islandTick_sameCycle _).2.trans (State.on_congr (s.waits_in.frame .regs (by decide)) _)

theorem State.clockTick_op (s : State) : s.clockTick.sec.op = s.sec.op := by
  unfold State.clockTick
  rw [State.islandTick_op, State.clearCycle_sec, State.passCycle_sec, State.waits_sec]

/-- The island's count in a C-cycle goes on from the fraction and the count before it (R393). -/
theorem State.clockTick_island (s : State) :
    (s.boot.frac + 32768 < secondCycles → s.clockTick.boot.frac = s.boot.frac + 32768 ∧ s.clockTick.sec.rtc = s.sec.rtc) ∧
    (secondCycles ≤ s.boot.frac + 32768 →
      s.clockTick.boot.frac = s.boot.frac + 32768 - secondCycles ∧ s.clockTick.sec.rtc = (s.sec.rtc + 1) % 2 ^ 55) := by
  have hfrac : s.noteDrain.refWait.passCycle.clearCycle.boot.frac = s.boot.frac := by
    rw [State.clearCycle_boot, State.passCycle_boot, State.refWait_frac, State.noteDrain_boot]
  have hrtc : s.noteDrain.refWait.passCycle.clearCycle.sec.rtc = s.sec.rtc := by
    rw [State.clearCycle_sec, State.passCycle_sec, State.waits_sec]
  unfold State.clockTick
  rw [← hfrac, ← hrtc]
  exact ⟨fun h => State.islandTick_between h, fun h => State.islandTick_count h⟩

theorem State.svcNext_none {s : State} (h : s.host.svcQ = []) : s.svcNext = s := by
  unfold State.svcNext; rw [h]

theorem State.logNext_none {s : State} (h : s.snd.log = []) : s.logNext = s := by
  unfold State.logNext; rw [h]

theorem State.secNext_none {s : State} (h : s.sec.op = none) : s.secNext = s.setFld Reg.SEC_CMD_STAT_BUSY 0 := by
  unfold State.secNext; rw [h]

/-- A C-cycle in which no service frame, security operation or frame record waits. -/
theorem State.tick_idle {s : State} (hheld : s.boot.held = false) (hq : s.host.svcQ = []) (hop : s.sec.op = none) (hlog : s.snd.log = []) :
    s.tick = s.clockTick.unitsTick.setFld Reg.SEC_CMD_STAT_BUSY 0 := by
  have hu := s.clockTick.unitsTick_in
  have hsec : s.clockTick.unitsTick.sec.op = none :=
    (congrArg SecRun.op (hu.frame .sec (by decide))).trans (s.clockTick_op.trans hop)
  have hhost : s.clockTick.unitsTick.host.svcQ = [] :=
    (congrArg HostRun.svcQ (hu.frame .host (by decide))).trans ((congrArg HostRun.svcQ (s.clockTick_in.frame .host (by decide))).trans hq)
  have hsnd : s.clockTick.unitsTick.snd.log = [] :=
    (congrArg SndRun.log (hu.frame .snd (by decide))).trans ((congrArg SndRun.log (s.clockTick_in.frame .snd (by decide))).trans hlog)
  have htick : s.tick = s.clockTick.unitsTick.secNext.svcNext.logNext := by
    unfold State.tick State.clockTick State.unitsTick
    rw [if_neg (by rw [hheld]; decide)]
  rw [htick, State.secNext_none hsec, State.svcNext_none (by rw [State.setFld_host, hhost]),
    State.logNext_none (by rw [State.setFld_snd, hsnd])]

/-- A C-cycle while POWER_ON holds the die (R420): the island alone runs. -/
theorem State.tick_held {s : State} (h : s.boot.held = true) :
    s.tick = { s with boot := { s.boot with heldFor := s.boot.heldFor + 1 } }.islandTick := by
  unfold State.tick; rw [if_pos h]

theorem step_tick {s : State} (hp : s.pending = []) (hl : s.later = []) : step s = .next s.tick := by
  unfold step; rw [hp, hl]

end Sys2Proof.Machine

/-- Settles O2: beside the clock's own counts an idle C-cycle does only what the units do, which leave time, the engine and the memory. -/
theorem anEmptyQueuePassesOneCycle : Obligations.AnEmptyQueuePassesOneCycle := by
  intro s hp hl hq hop hlog
  refine ⟨fun hheld => ⟨_, step_tick hp hl, ?_⟩, fun hheld => ⟨_, step_tick hp hl, ?_⟩⟩
  · have hu := s.clockTick.unitsTick_in
    have hc := s.clockTick_in
    obtain ⟨hwr, hexp⟩ := s.clockTick.unitsTick_sameCycle
    have heng : s.clockTick.unitsTick.eng = { s.eng with real := s.eng.real + s.eng.rho, stsNow := [], expNow := [] } :=
      (hu.frame .eng (by decide)).trans s.clockTick_eng
    have hboot : s.clockTick.unitsTick.boot = s.clockTick.boot := hu.frame .boot (by decide)
    have hsec : s.clockTick.unitsTick.sec = s.clockTick.sec := hu.frame .sec (by decide)
    obtain ⟨hbetween, hcount⟩ := s.clockTick_island
    have hmem : s.clockTick.unitsTick.mem = s.mem := (hu.frame .mem (by decide)).trans (hc.frame .mem (by decide))
    rw [State.tick_idle hheld hq hop hlog]
    simp only [State.setFld_pending, State.setFld_chart, State.setFld_eng, State.setFld_wrNow, State.setFld_expertStart,
      State.setFld_boot, State.setFld_sec, State.setFld_mem, heng, hmem, hboot, hsec, true_and, and_true]
    exact ⟨(hu.queue.trans hc.queue).trans hp, (hu.frame .chart (by decide)).trans s.clockTick_chart, hwr.trans s.clockTick_wrNow,
      hexp.trans s.clockTick_expertStart, hbetween, hcount⟩
  · rw [State.tick_held hheld]
    set u : State := { s with boot := { s.boot with heldFor := s.boot.heldFor + 1 } }
    have hi := u.islandTick_in
    exact ⟨hi.frame .chart (by decide), State.islandTick_regs u, hi.frame .eng (by decide), hi.frame .mem (by decide),
      fun h => (State.islandTick_count (s := u) h).2⟩

end

/-! Writes by the access code of a field. -/

section
open Sys2Proof Sys2Proof.Machine

namespace Sys2Proof.Machine

/-- The row of a field of stage I that stands once, is no expert field and resets to 0. -/
def Fld.row (f : Fld) (acc : Access) (range : Range := .any) : Row := ⟨f.addr, f.lo, f.width, 1, 0, 1, 0, acc, .const 0, .i, false, range⟩

/-- Where a register stands below the GFM block and is not CLK_REF_CFG, its rows take the word, then the D fields, then its action. -/
theorem State.regBody_low (s : State) (p : Port) {a : Nat} (v : Nat) {rows : List Row} (hrows : rowsAt a = rows) (ha : a < 0x3000)
    (href : a ≠ Reg.CLK_REF_CFG_SRC.addr) :
    s.regBody p a v = ((rows.foldl (fun t r => t.writeFld p a v r) s).writeD p a v rows).regAct p a v := by
  have hgfm : ¬ a / 4096 = 3 := by omega
  have htap : s.tapForeign a v = false := by
    unfold State.tapForeign
    rw [decide_eq_false (by omega : ¬ 0x4200 ≤ a)]; rfl
  unfold State.regBody
  simp only [hrows, hgfm, htap, href, false_and, Bool.false_eq_true, or_false, if_false]

/-- The registers of the SYS block whose write has an action (R411, R417, R424). -/
def sysActions : List Nat :=
  [Reg.SYS_DRAM_PAGE_PAGE.addr, Reg.SYS_PORT_OWNER.addr, addrBoot, Reg.SYS_RESET_WARM.addr, addrStby]

theorem State.regAct_sys (s : State) (p : Port) {a : Nat} (v : Nat) (ha : a / 4096 = 0) (h : a ∉ sysActions) : s.regAct p a v = s := by
  simp only [sysActions, List.mem_cons, List.not_mem_nil, or_false, not_or] at h
  obtain ⟨hpage, hport, hboot, hreset, hstby⟩ := h
  unfold State.regAct
  simp only [ha]
  unfold State.actSys
  rw [if_neg hpage, if_neg hport, if_neg hboot, if_neg hreset, if_neg hstby]

/-- The registers of the STG block whose write has an action (R151, R162, R175). -/
theorem State.regAct_stg (s : State) (p : Port) {a : Nat} (v : Nat) (ha : a / 4096 = 2)
    (h : a ∉ [addrStgCtrl, Reg.STG_CDRAFT_DATA.addr, Reg.STG_ATL_CTRL_SLOT.addr]) : s.regAct p a v = s := by
  simp only [List.mem_cons, List.not_mem_nil, or_false, not_or] at h
  obtain ⟨hctrl, hdata, hslot⟩ := h
  unfold State.regAct
  simp only [ha]
  unfold State.actStg
  rw [if_neg hctrl, if_neg hdata, if_neg hslot]

theorem State.writeD_none (s : State) (p : Port) (a v : Nat) {rows : List Row} (h : rows.filter Row.isD = []) : s.writeD p a v rows = s := by
  unfold State.writeD
  simp [h]

/-- A write of a register of stage I without an action: each of its fields takes its bits. -/
theorem State.regBody_fields (s : State) (p : Port) {a : Nat} (v : Nat) {rows : List Row} (hrows : rowsAt a = rows) (ha : a / 4096 = 0)
    (href : a ∉ sysActions) (hd : rows.filter Row.isD = []) :
    s.regBody p a v = rows.foldl (fun t r => t.writeFld p a v r) s := by
  rw [State.regBody_low s p v hrows (by omega) (by rintro rfl; exact absurd ha (by decide)), State.writeD_none _ _ _ _ hd,
    State.regAct_sys _ _ _ ha href]

/-- A write of an RW field of stage I that takes the value: it is no field with a rule of its own, the value is not barred (R18), and it is
none that is reserved (R15). -/
theorem State.writeFld_sets (s : State) (p : Port) (a v : Nat) {r : Row} (hacc : r.acc = .rw) (hstage : r.isD = false)
    (hown : ownKey (r.fld a).key = false) (hbar : (r.barred (r.ofWord v) && !s.expertStart) = false) (hadm : r.range.admits (r.ofWord v) = true) :
    s.writeFld p a v r = s.setFld (r.fld a) (r.ofWord v) := by
  unfold State.writeFld
  simp only [hacc, hstage, hown, hbar, hadm, Bool.or_false, Bool.not_true, Bool.false_eq_true, if_false]

/-- A write of an RW field of stage I that is refused: a barred value, or a reserved one. -/
theorem State.writeFld_refused (s : State) (p : Port) (a v : Nat) {r : Row} (hacc : r.acc = .rw) (hstage : r.isD = false)
    (hown : ownKey (r.fld a).key = false)
    (h : ((r.barred (r.ofWord v) && !s.expertStart) || !r.range.admits (r.ofWord v)) = true) :
    s.writeFld p a v r = s.refuse p a := by
  unfold State.writeFld
  simp only [hacc, hstage, hown, h, Bool.or_false, Bool.false_eq_true, if_false, if_true]

/-- What a field of W1C holds after a write (R12, R16). -/
theorem State.writeFld_w1c (s : State) (p : Port) (v : Nat) (g : Fld) :
    s.writeFld p g.addr v (g.row .w1c) = s.setFld g (w1cAfter s.evNow g.key g.width (s.fld g) ((g.row .w1c).ofWord v)) := rfl

/-- A write of sticky fields of one register: every other field and the record of events stay. -/
theorem State.writeW1c_other (s : State) (p : Port) {a : Nat} (v : Nat) {l : List Fld} (ha : ∀ g ∈ l, g.addr = a) :
    OnlyFlds l s ((l.map fun g => g.row .w1c).foldl (fun t r => t.writeFld p a v r) s) ∧
      ((l.map fun g => g.row .w1c).foldl (fun t r => t.writeFld p a v r) s).evNow = s.evNow := by
  induction l generalizing s with
  | nil => exact ⟨.refl _ s, rfl⟩
  | cons g l ih =>
    have hg : s.writeFld p a v (g.row .w1c) = s.setFld g _ := ha g (List.mem_cons_self ..) ▸ s.writeFld_w1c p v g
    obtain ⟨honly, hev⟩ := ih (s.writeFld p a v (g.row .w1c)) fun h hh => ha h (List.mem_cons_of_mem _ hh)
    rw [hg] at honly hev
    rw [List.map_cons, List.foldl_cons, hg]
    exact ⟨((OnlyFlds.refl _ s).setFld (List.mem_cons_self ..) _).trans (honly.mono fun _ => List.mem_cons_of_mem _), hev⟩

/-- A write of sticky fields of one register: each is cleared where a 1 is written and its condition did not come in this C-cycle. -/
theorem State.writeW1c_same (s : State) (p : Port) {a : Nat} (v : Nat) {l : List Fld} (ha : ∀ g ∈ l, g.addr = a)
    (hk : (l.map Fld.key).Nodup) {f : Fld} (hf : f ∈ l) :
    ((l.map fun g => g.row .w1c).foldl (fun t r => t.writeFld p a v r) s).fld f =
      w1cAfter s.evNow f.key f.width (s.fld f) ((f.row .w1c).ofWord v) % 2 ^ f.width := by
  induction l generalizing s with
  | nil => cases hf
  | cons g l ih =>
    have hg : s.writeFld p a v (g.row .w1c) = s.setFld g _ := ha g (List.mem_cons_self ..) ▸ s.writeFld_w1c p v g
    have hl : ∀ h ∈ l, h.addr = a := fun h hh => ha h (List.mem_cons_of_mem _ hh)
    obtain ⟨hnot, hk⟩ := List.nodup_cons.1 hk
    rw [List.map_cons, List.foldl_cons, hg]
    rcases List.mem_cons.1 hf with rfl | hf
    · rw [(State.writeW1c_other _ p v hl).1 f fun h hh heq => hnot (heq ▸ List.mem_map_of_mem hh), State.fld_setFld_same]
    · have hne : f.key ≠ g.key := fun heq => hnot (heq ▸ List.mem_map_of_mem hf)
      rw [ih _ hl hk hf, State.fld_setFld_other _ _ hne, State.setFld_evNow]

/-- A one-bit sticky field after a write: it stays where a 0 is written or its condition came in this C-cycle (R12, R16). -/
theorem State.on_writeW1c (s : State) (p : Port) {a : Nat} (v : Nat) {l : List Fld} (ha : ∀ g ∈ l, g.addr = a)
    (hk : (l.map Fld.key).Nodup) {f : Fld} (hf : f ∈ l) (hw : f.width = 1) (hbit : s.fld f < 2) :
    ((l.map fun g => g.row .w1c).foldl (fun t r => t.writeFld p a v r) s).on f =
      (s.on f && (!bitOf v f.lo || s.evNow.contains f.key)) := by
  have hx : bitOf ((f.row .w1c).ofWord v) 0 = bitOf v f.lo := by
    simp only [bitOf, Row.ofWord, Fld.row, hw]
    rw [pow_zero, Nat.div_one, pow_one, Nat.mod_mod]
  have hold : bitOf (s.fld f) 0 = s.on f := by
    simp only [bitOf, State.on]
    rw [pow_zero, Nat.div_one, Nat.mod_eq_of_lt hbit]
  rw [State.on, State.writeW1c_same s p v ha hk hf, hw]
  simp only [w1cAfter, bitsOf, List.range_succ, List.range_zero, List.nil_append, List.foldl_cons, List.foldl_nil, hx, hold, Nat.add_zero]
  cases (s.on f && (!bitOf v f.lo || s.evNow.contains f.key)) <;> rfl

/-- The sticky fields of SYS_EVENT. -/
def eventFlds : List Fld :=
  [Reg.SYS_EVENT_WRREJ_S, Reg.SYS_EVENT_FRAME_S, Reg.SYS_EVENT_ABORT_S, Reg.SYS_EVENT_HOSTSIL_S, Reg.SYS_EVENT_PORTCOL_S,
    Reg.SYS_EVENT_SVCERR_S, Reg.SYS_EVENT_HKACC_S]

theorem rowsAt_event : rowsAt Reg.SYS_EVENT_WRREJ_S.addr = eventFlds.map fun g => g.row .w1c := by decide

/-- What a taken write of one field does. -/
theorem State.setFld_noted (s : State) (p : Port) (a : Nat) (f : Fld) (x : Nat) :
    OnlyFlds [f, Reg.SYS_EVENT_PORTCOL_S] s ((s.noteWrite p a).setFld f x) ∧ Within [.regs] s ((s.noteWrite p a).setFld f x) :=
  ⟨((s.noteWrite_fields p a).mono (by simp)).setFld (by simp) x, (State.setFld_in _ f x).thn (by decide) (s.noteWrite_in p a)⟩

theorem Row.ofWord_row (f : Fld) (acc : Access) (range : Range) (v : Nat) (hlo : f.lo = 0) :
    (f.row acc range).ofWord v = v % 2 ^ f.width := by
  simp only [Row.ofWord, Fld.row, hlo]
  rw [pow_zero, Nat.div_one]

theorem State.setFld_noted_value (s : State) (p : Port) {a : Nat} {f : Fld} {x : Nat} (hx : x < 2 ^ f.width) :
    ((s.noteWrite p a).setFld f x).fld f = x := by
  rw [State.fld_setFld_same, Nat.mod_eq_of_lt hx]

/-! The rows of SYS_SCRATCH, SYS_SVC_CFG, STG_CDRAFT_ADDR, SYS_EVENT and SYS_SVC_CNT, and what a write of each does. -/

theorem State.regBody_scratch (s : State) (p : Port) (v : Word) :
    s.regBody p sysScratch.addr v.toNat = s.setFld sysScratch v.toNat := by
  rw [State.regBody_fields s p _ (rows := [sysScratch.row .rw]) (by decide) (by decide) (by decide) (by decide),
    List.foldl_cons, List.foldl_nil, State.writeFld_sets _ p _ _ rfl rfl (by decide) rfl rfl, Row.ofWord_row _ _ _ _ rfl,
    Nat.mod_eq_of_lt (show v.toNat < 2 ^ sysScratch.width from v.isLt)]
  rfl

/-- BAUD, whose code 3 is reserved. -/
def baudRow : Row := Reg.SYS_SVC_CFG_BAUD.row .rw (.codes 0 2)

theorem Row.ofWord_baud (v : Nat) : baudRow.ofWord v = v % 4 := Row.ofWord_row _ _ _ _ rfl

theorem State.regBody_baud (s : State) (p : Port) (v : Nat) :
    s.regBody p Reg.SYS_SVC_CFG_BAUD.addr v = s.writeFld p Reg.SYS_SVC_CFG_BAUD.addr v baudRow :=
  State.regBody_fields s p v (rows := [baudRow]) (by decide) (by decide) (by decide) (by decide)

/-- STG_CDRAFT_ADDR, an expert field. -/
def cdraftAddrRow : Row := { Reg.STG_CDRAFT_ADDR.row .rw with expert := true, rst := .const 0x100000 }

theorem Row.ofWord_cdraftAddr (v : Nat) : cdraftAddrRow.ofWord v = v % 2 ^ 32 := Row.ofWord_row Reg.STG_CDRAFT_ADDR .rw .any v rfl

theorem State.regBody_cdraftAddr (s : State) (p : Port) (v : Nat) :
    s.regBody p Reg.STG_CDRAFT_ADDR.addr v = s.writeFld p Reg.STG_CDRAFT_ADDR.addr v cdraftAddrRow := by
  rw [State.regBody_low s p v (rows := [cdraftAddrRow]) (by decide) (by decide) (by decide), State.writeD_none _ _ _ _ (by decide),
    State.regAct_stg _ _ _ (by decide) (by decide)]
  rfl

theorem eventFlds_addr : ∀ g ∈ eventFlds, g.addr = Reg.SYS_EVENT_WRREJ_S.addr := by decide

theorem eventFlds_keys_nodup : (eventFlds.map Fld.key).Nodup := by decide

theorem State.regBody_event (s : State) (p : Port) (v : Nat) : s.regBody p Reg.SYS_EVENT_WRREJ_S.addr v =
    (eventFlds.map fun g => g.row .w1c).foldl (fun t r => t.writeFld p Reg.SYS_EVENT_WRREJ_S.addr v r) s :=
  State.regBody_fields s p v rowsAt_event (by decide) (by decide) (by decide)

/-- PORTCOL_S stays set behind the note of a write (R418). -/
theorem State.noteWrite_portcol {s : State} (h : s.fld Reg.SYS_EVENT_PORTCOL_S = 1) (p : Port) (a : Nat) :
    (s.noteWrite p a).fld Reg.SYS_EVENT_PORTCOL_S = 1 := by
  unfold State.noteWrite
  split
  · show (s.raise Reg.SYS_EVENT_PORTCOL_S).fld _ = 1
    rw [State.fld_raise, if_pos rfl, h]; rfl
  · exact h

/-- A write of SYS_EVENT (R12, R16), on the state that notes it. -/
theorem State.regBody_event_noted (s : State) (p : Port) (v : Nat) :
    let t := (s.noteWrite p Reg.SYS_EVENT_WRREJ_S.addr).regBody p Reg.SYS_EVENT_WRREJ_S.addr v
    (∀ f ∈ eventFlds, f.key ≠ Reg.SYS_EVENT_PORTCOL_S.key → s.fld f < 2 → t.on f = (s.on f && (!bitOf v f.lo || s.evNow.contains f.key))) ∧
    (s.fld Reg.SYS_EVENT_PORTCOL_S = 1 → bitOf v Reg.SYS_EVENT_PORTCOL_S.lo = false → t.on Reg.SYS_EVENT_PORTCOL_S = true) := by
  intro t
  have hon {f : Fld} (hf : f ∈ eventFlds) (hbit : (s.noteWrite p Reg.SYS_EVENT_WRREJ_S.addr).fld f < 2) : t.on f = _ :=
    (congrArg (State.on · f) (State.regBody_event ..)).trans
      (State.on_writeW1c _ p v eventFlds_addr eventFlds_keys_nodup hf ((by decide : ∀ g ∈ eventFlds, g.width = 1) f hf) hbit)
  refine ⟨fun f hf hk hbit => ?_, fun hone hv => ?_⟩
  · have hfld := s.noteWrite_fld p Reg.SYS_EVENT_WRREJ_S.addr hk
    rw [hon hf (hfld ▸ hbit), State.on, hfld, State.noteWrite_evNow _ _ _ hk]; rfl
  · have hone' := State.noteWrite_portcol hone p Reg.SYS_EVENT_WRREJ_S.addr
    rw [hon (by decide) (by rw [hone']; decide), hv, State.on, hone']; rfl

theorem State.regBody_svcCnt (s : State) (p : Port) (v : Nat) : s.regBody p Reg.SYS_SVC_CNT_SVCERR_CNT.addr v =
    s.setFld Reg.SYS_SVC_CNT_SVCERR_CNT
      (cntAfter s.evNow Reg.SYS_SVC_CNT_SVCERR_CNT.key (s.fld Reg.SYS_SVC_CNT_SVCERR_CNT) (v % 2 ^ 16)) := by
  rw [State.regBody_fields s p v (rows := [Reg.SYS_SVC_CNT_SVCERR_CNT.row .cnt]) (by decide) (by decide) (by decide) (by decide)]
  have hx : (Reg.SYS_SVC_CNT_SVCERR_CNT.row .cnt).ofWord v = v % 2 ^ 16 := Row.ofWord_row _ _ _ _ rfl
  rw [← hx]; rfl

/-- The service error counter after a write (R17), on the state that notes it. -/
theorem State.svcCnt_noted (s : State) (p : Port) (v : Nat) :
    let t := (s.noteWrite p Reg.SYS_SVC_CNT_SVCERR_CNT.addr).regBody p Reg.SYS_SVC_CNT_SVCERR_CNT.addr v
    (v % 2 ^ 16 ≠ 0 → s.fld Reg.SYS_SVC_CNT_SVCERR_CNT < 2 ^ 16 → t.fld Reg.SYS_SVC_CNT_SVCERR_CNT = s.fld Reg.SYS_SVC_CNT_SVCERR_CNT) ∧
    (v % 2 ^ 16 = 0 → t.fld Reg.SYS_SVC_CNT_SVCERR_CNT = if s.evNow.contains Reg.SYS_SVC_CNT_SVCERR_CNT.key then 1 else 0) := by
  intro t
  have ht : t.fld Reg.SYS_SVC_CNT_SVCERR_CNT =
      cntAfter (s.noteWrite p Reg.SYS_SVC_CNT_SVCERR_CNT.addr).evNow Reg.SYS_SVC_CNT_SVCERR_CNT.key (s.fld Reg.SYS_SVC_CNT_SVCERR_CNT)
        (v % 2 ^ 16) % 2 ^ 16 := by
    show State.fld (State.regBody ..) _ = _
    rw [State.regBody_svcCnt, State.noteWrite_fld _ _ _ (by decide)]
    exact State.fld_setFld_same ..
  rw [ht]
  unfold cntAfter
  refine ⟨fun hne hlt => ?_, fun hz => ?_⟩
  · rw [if_neg hne, Nat.mod_eq_of_lt hlt]
  · rw [if_pos hz, State.noteWrite_evNow _ _ _ (by decide)]
    split <;> rfl

end Sys2Proof.Machine

/-- Settles O9: each register's write by the rule of its fields' access, on the state that notes the write. -/
theorem registerWritesFollowTheAccessCodes : Obligations.RegisterWritesFollowTheAccessCodes := by
  intro s p v
  have hv : v.toNat < 2 ^ 32 := v.isLt
  refine ⟨fun h => ?_, fun h => ?_, fun h hok => ?_, fun h hbad => ?_, fun h => ?_, fun h => ?_, fun h hexp => ?_, fun h hexp => ?_⟩
  · rw [exec_registerWrite_takes v h rfl (by decide),
      State.regBody_fields _ p _ (rows := [Reg.SYS_CHART_LO.row .ro]) (by decide) (by decide) (by decide) (by decide)]
    rfl
  · rw [exec_registerWrite_takes v h rfl (by decide), State.regBody_scratch]
    exact ⟨_, rfl, State.setFld_noted_value s p (hv : v.toNat < 2 ^ sysScratch.width), State.setFld_noted s p _ sysScratch _⟩
  · have hadm : baudRow.range.admits (baudRow.ofWord v.toNat) = true := by
      rw [Row.ofWord_baud]
      simp [baudRow, Fld.row, Range.admits]; omega
    rw [exec_registerWrite_takes v h rfl (by decide), State.regBody_baud,
      State.writeFld_sets _ p _ _ rfl rfl (by decide) rfl hadm, Row.ofWord_baud]
    exact ⟨_, rfl, State.setFld_noted_value s p (Nat.mod_lt _ (by decide) : v.toNat % 4 < 2 ^ Reg.SYS_SVC_CFG_BAUD.width),
      State.setFld_noted s p _ Reg.SYS_SVC_CFG_BAUD _⟩
  · have hadm : baudRow.range.admits (baudRow.ofWord v.toNat) = false := by
      rw [Row.ofWord_baud, hbad]; rfl
    rw [exec_registerWrite_takes v h rfl (by decide), State.regBody_baud,
      State.writeFld_refused _ p _ _ rfl rfl (by decide) (by rw [hadm, Bool.not_false, Bool.or_true])]
    exact ⟨_, rfl, .of_refuse ..⟩
  · obtain ⟨hflags, hportcol⟩ := s.regBody_event_noted p v.toNat
    rw [exec_registerWrite_takes v h rfl (by decide)]
    refine ⟨_, rfl, ?_, fun f hf => ?_, hportcol⟩
    · rw [State.regBody_event]
      exact .foldl (fun u r hu => (u.writeFld_in p _ _ r).thn (by decide) hu) (s.noteWrite_in p _)
    · have hne : ∀ f ∈ [Reg.SYS_EVENT_WRREJ_S, Reg.SYS_EVENT_FRAME_S, Reg.SYS_EVENT_ABORT_S, Reg.SYS_EVENT_HOSTSIL_S, Reg.SYS_EVENT_SVCERR_S,
          Reg.SYS_EVENT_HKACC_S], f ∈ eventFlds ∧ f.key ≠ Reg.SYS_EVENT_PORTCOL_S.key := by decide
      exact hflags f (hne f hf).1 (hne f hf).2
  · obtain ⟨hkeeps, hclears⟩ := s.svcCnt_noted p v.toNat
    have hbody := State.regBody_svcCnt (s.noteWrite p Reg.SYS_SVC_CNT_SVCERR_CNT.addr) p v.toNat
    obtain ⟨honly, hwithin⟩ := State.setFld_noted s p Reg.SYS_SVC_CNT_SVCERR_CNT.addr Reg.SYS_SVC_CNT_SVCERR_CNT _
    rw [exec_registerWrite_takes v h rfl (by decide)]
    exact ⟨_, rfl, hbody ▸ hwithin, hbody ▸ honly, hkeeps, hclears⟩
  · have hbar : (cdraftAddrRow.barred (cdraftAddrRow.ofWord v.toNat) && !(s.noteWrite p Reg.STG_CDRAFT_ADDR.addr).expertStart) = false := by
      rw [State.noteWrite_expertStart, hexp, Bool.not_true, Bool.and_false]
    rw [exec_registerWrite_takes v h rfl (by decide), State.regBody_cdraftAddr,
      State.writeFld_sets _ p _ _ rfl rfl (by decide) hbar rfl, Row.ofWord_cdraftAddr, Nat.mod_eq_of_lt hv]
    exact ⟨_, rfl, State.setFld_noted_value s p (hv : v.toNat < 2 ^ Reg.STG_CDRAFT_ADDR.width), (State.setFld_noted s p _ Reg.STG_CDRAFT_ADDR _).1⟩
  · have hbar : ((cdraftAddrRow.barred (cdraftAddrRow.ofWord v.toNat) && !(s.noteWrite p Reg.STG_CDRAFT_ADDR.addr).expertStart) ||
        !cdraftAddrRow.range.admits (cdraftAddrRow.ofWord v.toNat)) = true := by
      rw [State.noteWrite_expertStart, hexp]; rfl
    rw [exec_registerWrite_takes v h rfl (by decide), State.regBody_cdraftAddr, State.writeFld_refused _ p _ _ rfl rfl (by decide) hbar]
    exact ⟨_, rfl, .of_refuse ..⟩

end

/-! Drafted writes. -/

section
open Sys2Proof Sys2Proof.Machine

namespace Sys2Proof.Machine

theorem State.shadowFld_draftFld_same (s : State) (f : Fld) (v : Nat) : (s.draftFld f v).shadowFld f = v % 2 ^ f.width := by
  unfold State.draftFld State.shadowFld
  dsimp only
  split
  · next h =>
    rw [tabFind_del_same]
    exact h.symm
  · rw [tabFind_put_same]; rfl

theorem State.shadowFld_draftFld_other (s : State) {f g : Fld} (v : Nat) (h : g.key ≠ f.key) :
    (s.draftFld f v).shadowFld g = s.shadowFld g := by
  unfold State.draftFld State.shadowFld
  dsimp only
  split
  · rw [tabFind_del_other _ h]; rfl
  · rw [tabFind_put_other _ _ h]; rfl

theorem State.shadowFld_setFld_other (s : State) {f g : Fld} (v : Nat) (h : g.key ≠ f.key) : (s.setFld f v).shadowFld g = s.shadowFld g := by
  unfold State.shadowFld State.comFld
  rw [State.fld_setFld_other _ _ h]; rfl

theorem State.shadowFld_noteWrite (s : State) (p : Port) (a : Nat) {f : Fld} (h : f.key ≠ Reg.SYS_EVENT_PORTCOL_S.key) :
    (s.noteWrite p a).shadowFld f = s.shadowFld f := by
  unfold State.shadowFld State.comFld
  rw [State.noteWrite_fld _ _ _ h, State.noteWrite_shadow, State.noteWrite_com]

theorem State.locked_noteWrite (s : State) (p : Port) (a : Nat) : (s.noteWrite p a).locked = s.locked := by
  unfold State.locked State.stgState
  rw [State.noteWrite_fld _ _ _ (by decide), State.noteWrite_fld _ _ _ (by decide)]

/-- The drafts of some D fields of one register, each of the bits that the word gives it. -/
def State.draftRows (s : State) (a v : Nat) (rows : List Row) : State := rows.foldl (fun u r => u.draftFld (r.fld a) (r.ofWord v)) s

theorem State.draftRows_in (s : State) (a v : Nat) (rows : List Row) : Within [.drafts] s (s.draftRows a v rows) :=
  .foldl (fun u r hu => (u.draftFld_in (r.fld a) (r.ofWord v)).thn (by decide) hu) (.refl _ s)

theorem State.shadowFld_draftRows_other (s : State) {a : Nat} (v : Nat) {rows : List Row} {g : Fld}
    (h : ∀ r ∈ rows, g.key ≠ (r.fld a).key) : (s.draftRows a v rows).shadowFld g = s.shadowFld g := by
  induction rows generalizing s with
  | nil => rfl
  | cons r rows ih =>
    have hrest := ih (s.draftFld (r.fld a) (r.ofWord v)) fun q hq => h q (List.mem_cons_of_mem _ hq)
    exact hrest.trans (s.shadowFld_draftFld_other _ (h r (List.mem_cons_self ..)))

theorem State.shadowFld_draftRows_same (s : State) {a : Nat} (v : Nat) {rows : List Row} (hk : (rows.map fun r => (r.fld a).key).Nodup)
    {r : Row} (hr : r ∈ rows) : (s.draftRows a v rows).shadowFld (r.fld a) = r.ofWord v := by
  induction rows generalizing s with
  | nil => cases hr
  | cons q rows ih =>
    obtain ⟨hnot, hk⟩ := List.nodup_cons.1 hk
    rcases List.mem_cons.1 hr with rfl | hr
    · have hother := State.shadowFld_draftRows_other (s.draftFld (r.fld a) (r.ofWord v)) (g := r.fld a) (a := a) v (rows := rows)
        fun q hq heq => hnot (List.mem_map.2 ⟨q, hq, heq.symm⟩)
      exact hother.trans ((s.shadowFld_draftFld_same ..).trans (Nat.mod_mod _ _))
    · exact ih _ hk hr

/-- The D fields of a register whose shadows a write would change (R158). -/
def State.changing (s : State) (a v : Nat) (rows : List Row) : List Row := rows.filter fun r => decide (s.shadowFld (r.fld a) ≠ r.ofWord v)

theorem State.changing_eq_nil (s : State) (a v : Nat) (rows : List Row) :
    s.changing a v rows = [] ↔ ∀ r ∈ rows, s.shadowFld (r.fld a) = r.ofWord v := by
  simp [State.changing, List.filter_eq_nil_iff]

/-- A write of D fields that are no expert fields (R157 to R159): nothing where no shadow would change, else a refusal while the shadow bank
is locked, else the drafts of what changes. -/
theorem State.writeD_plain (s : State) (p : Port) (a v : Nat) {rows : List Row} (h : ∀ r ∈ rows, r.isD = true ∧ r.expert = false) :
    s.writeD p a v rows = if s.changing a v rows = [] then s else if s.locked then s.refuse p a
      else (s.draftRows a v (s.changing a v rows)).stgRest := by
  have hds : rows.filter Row.isD = rows := List.filter_eq_self.2 fun r hr => (h r hr).1
  have hbar : ∀ r ∈ rows, (r.barred (r.ofWord v) && !s.expertStart) = false := fun r hr => by
    unfold Row.barred; rw [(h r hr).2]; rfl
  have hany : rows.any (fun r => r.barred (r.ofWord v) && !s.expertStart) = false :=
    List.any_eq_false.2 fun r hr => Bool.eq_false_iff.1 (hbar r hr)
  have hms : (rows.filter fun r => !(r.barred (r.ofWord v) && !s.expertStart) && decide (s.shadowFld (r.fld a) ≠ r.ofWord v)) =
      s.changing a v rows := List.filter_congr fun r hr => by rw [hbar r hr]; rfl
  unfold State.writeD
  simp only [hds, hany, hms, List.isEmpty_iff]
  rfl

/-- What a write of D fields leaves in the shadows, where it is taken. -/
theorem State.shadowFld_draftRows_changing (s : State) {a : Nat} (v : Nat) {rows : List Row}
    (hk : (rows.map fun r => (r.fld a).key).Nodup) {r : Row} (hr : r ∈ rows) :
    (s.draftRows a v (s.changing a v rows)).shadowFld (r.fld a) = r.ofWord v := by
  have hsub : ((s.changing a v rows).map fun r => (r.fld a).key).Nodup := hk.sublist (List.filter_sublist.map _)
  by_cases hm : r ∈ s.changing a v rows
  · exact s.shadowFld_draftRows_same v hsub hm
  · have heq : s.shadowFld (r.fld a) = r.ofWord v := by
      by_contra hne
      exact hm (List.mem_filter.2 ⟨hr, decide_eq_true hne⟩)
    rw [State.shadowFld_draftRows_other, heq]
    intro q hq hkey
    have hinj := List.inj_on_of_nodup_map hk hr (List.mem_of_mem_filter hq) hkey
    exact hm (hinj ▸ hq)

/-- The staging process at rest (R158): 0 or 1, and 1 while a draft is held. -/
theorem State.stgRest_state (s : State) :
    (s.stgRest.fld Reg.STG_STATUS_STATE = 0 ∨ s.stgRest.fld Reg.STG_STATUS_STATE = 1) ∧
      (s.regs.shadow ≠ [] → s.stgRest.fld Reg.STG_STATUS_STATE = 1) := by
  unfold State.stgRest
  rw [State.fld_setFld_same]
  split
  · next h =>
    rw [Bool.and_eq_true, List.isEmpty_iff] at h
    exact ⟨.inl rfl, fun hne => absurd h.1 hne⟩
  · exact ⟨.inr rfl, fun _ => rfl⟩

/-- The rows of SYS_HOST_CFG. -/
def hostCfgRows : List Row :=
  [{ Reg.SYS_HOST_CFG_SIL_MS.row .rw (.upTo 10 60000 true) with stage := .d .h },
    { Reg.SYS_HOST_CFG_SIL_ACT.row .rw (.codes 0 2) with stage := .d .h }]

theorem hostCfgRows_plain : ∀ r ∈ hostCfgRows, r.isD = true ∧ r.expert = false := by decide

theorem hostCfgRows_keys_nodup : (hostCfgRows.map fun r => (r.fld Reg.SYS_HOST_CFG_SIL_MS.addr).key).Nodup := by decide

theorem State.regBody_hostCfg (s : State) (p : Port) (v : Nat) :
    s.regBody p Reg.SYS_HOST_CFG_SIL_MS.addr v = s.writeD p Reg.SYS_HOST_CFG_SIL_MS.addr v hostCfgRows := by
  rw [State.regBody_low s p v (rows := hostCfgRows) (by decide) (by decide) (by decide), State.regAct_sys _ _ _ (by decide) (by decide)]
  rfl

/-- What holds of every row of SYS_HOST_CFG, field by field. -/
theorem forall_hostCfgRows (u : State) (v : Nat) :
    (∀ r ∈ hostCfgRows, u.shadowFld (r.fld Reg.SYS_HOST_CFG_SIL_MS.addr) = r.ofWord v) ↔
      u.shadowFld Reg.SYS_HOST_CFG_SIL_MS = v % 2 ^ 16 ∧ u.shadowFld Reg.SYS_HOST_CFG_SIL_ACT = v / 2 ^ 16 % 4 := by
  have hms : ({ Reg.SYS_HOST_CFG_SIL_MS.row .rw (.upTo 10 60000 true) with stage := .d .h } : Row).ofWord v = v % 2 ^ 16 :=
    Row.ofWord_row Reg.SYS_HOST_CFG_SIL_MS .rw (.upTo 10 60000 true) v rfl
  rw [hostCfgRows, List.forall_mem_cons, List.forall_mem_singleton, hms]
  rfl

end Sys2Proof.Machine

/-- Settles O10: a write of SYS_HOST_CFG by its D rows, on the state that notes it, whose shadows and lock are those before it. -/
theorem draftedWritesGoToTheShadows : Obligations.DraftedWritesGoToTheShadows := by
  intro s p v h same
  set u := s.noteWrite p Reg.SYS_HOST_CFG_SIL_MS.addr with hu
  have hexec : exec (.registerWrite p 0x020 v) s = .next (if u.changing Reg.SYS_HOST_CFG_SIL_MS.addr v.toNat hostCfgRows = [] then u
      else if u.locked then u.refuse p Reg.SYS_HOST_CFG_SIL_MS.addr
      else (u.draftRows Reg.SYS_HOST_CFG_SIL_MS.addr v.toNat (u.changing Reg.SYS_HOST_CFG_SIL_MS.addr v.toNat hostCfgRows)).stgRest) := by
    rw [exec_registerWrite_takes v h rfl (by decide), State.regBody_hostCfg, State.writeD_plain _ _ _ _ hostCfgRows_plain]
  have hsame : u.changing Reg.SYS_HOST_CFG_SIL_MS.addr v.toNat hostCfgRows = [] ↔ same := by
    rw [State.changing_eq_nil, forall_hostCfgRows, State.shadowFld_noteWrite _ _ _ (by decide),
      State.shadowFld_noteWrite _ _ _ (by decide)]
  have hlocked : u.locked = s.locked := s.locked_noteWrite ..
  rw [hexec]
  refine ⟨fun hs => ?_, fun hs hl => ?_, fun hs hl => ?_⟩
  · rw [if_pos (hsame.2 hs)]
  · rw [if_neg (hs ∘ hsame.1), hlocked, hl, if_neg Bool.false_ne_true]
    set d := u.draftRows Reg.SYS_HOST_CFG_SIL_MS.addr v.toNat (u.changing Reg.SYS_HOST_CFG_SIL_MS.addr v.toNat hostCfgRows) with hd
    have hin : Within [.regs, .drafts] s d.stgRest :=
      (State.stgRest_in _).thn (by decide) ((State.draftRows_in ..).thn (by decide) ((s.noteWrite_in p _).mono (by decide)))
    obtain ⟨hms, hact⟩ := (forall_hostCfgRows d v.toNat).1 fun r hr => u.shadowFld_draftRows_changing v.toNat hostCfgRows_keys_nodup hr
    have heff : d.regs.eff = u.regs.eff := (State.draftRows_in ..).frame .regs (by decide)
    obtain ⟨hstate, hdrafting⟩ := d.stgRest_state
    have honly : OnlyFlds [Reg.STG_STATUS_STATE, Reg.SYS_EVENT_PORTCOL_S] s d :=
      ((s.noteWrite_fields p _).mono (by simp)).trans fun f _ => by unfold State.fld; rw [heff]
    refine ⟨_, rfl, ?_, ?_, honly.setFld (by simp) _, hstate, hdrafting, hin.frame .grid (by decide), hin.frame .eng (by decide),
      hin.frame .host (by decide)⟩
    · exact (State.shadowFld_setFld_other _ _ (by decide)).trans hms
    · exact (State.shadowFld_setFld_other _ _ (by decide)).trans hact
  · rw [if_neg (hs ∘ hsame.1), hlocked, hl, if_pos rfl]
    exact ⟨_, rfl, s.noteWrite_shadow .., .of_refuse ..⟩

end

/-! Reads of chart time. -/

section
open Sys2Proof Sys2Proof.Machine

namespace Sys2Proof.Machine

/-- A frame of a port that listens acts at once (R416). -/
theorem State.frameCmd_listens {s : State} {p : Port} (h : s.Listens p) (c : Instr) (body : State → State) : s.frameCmd p c body = body s := by
  unfold State.frameCmd
  rw [h.out, h.running, h.free]; rfl

/-- The response that a port holds is the last that it was given (R407). -/
theorem State.reply_answer (s : State) (p : Port) (flags : Nat) (words : List Nat) (mask : Nat) :
    ((s.answer p flags words mask).port p).reply = some { status := s.statusByte flags, words := words, mask := mask } := by
  unfold State.answer
  rw [State.port_setPort_same]

theorem State.latchAt_setLatch_same (s : State) (p : Port) (a v : Nat) : (s.setLatch p a v).latchAt p a = v := tabGet_set_same _ _ _ _

theorem State.latchAt_setLatch_other (s : State) {p q : Port} {a b : Nat} (v : Nat) (ha : a < 65536) (hb : b < 65536) (h : q ≠ p ∨ b ≠ a) :
    (s.setLatch p a v).latchAt q b = s.latchAt q b := by
  refine tabGet_set_other _ _ _ _ ?_
  cases p <;> cases q <;> simp [Port.code] at h ⊢ <;> omega

theorem State.rawWord_chartLo (s : State) : s.rawWord Reg.SYS_CHART_LO.addr = s.now % 2 ^ 32 := rfl

/-- A register beside the snapshots, STG_PEEK_DATA and PHASE is read through the port's latches (R11, R55, R160, R426). -/
theorem State.readReg_plain (s : State) (p : Port) {a : Nat} (hblk : a / 4096 = 0) (hphase : a ≠ Reg.SYS_BOOT_STATUS_PHASE.addr) :
    s.readReg p a = (s.readLatch p a, s.portView p a) := by
  have hgfm : ¬ (a / 4096 = 3 ∧ a % 0x200 = 0xA0) := by omega
  have hpeek : a ≠ Reg.STG_PEEK_DATA.addr := by rintro rfl; exact absurd hblk (by decide)
  unfold State.readReg
  rw [if_neg hgfm, if_neg hpeek, if_neg fun h => hphase h.1]

/-- A read of SYS_CHART_LO latches the word after it and returns its own (R11). -/
theorem State.readReg_chartLo (s : State) (p : Port) : s.readReg p Reg.SYS_CHART_LO.addr =
    (s.setLatch p Reg.SYS_CHART_HI.addr (s.now / 2 ^ 32), s.now % 2 ^ 32) := by
  have hlatch : s.readLatch p Reg.SYS_CHART_LO.addr = s.setLatch p Reg.SYS_CHART_HI.addr (s.now / 2 ^ 32) := by
    unfold State.readLatch
    rw [if_pos (by decide)]; rfl
  have hview : s.portView p Reg.SYS_CHART_LO.addr = s.now % 2 ^ 32 := by
    unfold State.portView
    rw [if_neg (by decide), if_neg (by decide), if_neg (by decide), if_neg (by decide), State.rawWord_chartLo]
  rw [State.readReg_plain s p (by decide) (by decide), hlatch, hview]

/-- A read of SYS_CHART_HI returns what the port has latched (R11, R409). -/
theorem State.readReg_chartHi (s : State) (p : Port) : s.readReg p Reg.SYS_CHART_HI.addr = (s, s.latchAt p Reg.SYS_CHART_HI.addr) := by
  have hlatch : s.readLatch p Reg.SYS_CHART_HI.addr = s := by
    unfold State.readLatch
    rw [if_neg (by decide), if_neg (by decide), if_neg (by decide)]
  have hview : s.portView p Reg.SYS_CHART_HI.addr = s.latchAt p Reg.SYS_CHART_HI.addr := by
    unfold State.portView
    rw [if_neg (by decide), if_pos (by decide)]
  rw [State.readReg_plain s p (by decide) (by decide), hlatch, hview]

/-- Below the GFM block an address answers, whether PLL-C has locked or not (R412). -/
theorem State.answersAt_low (s : State) {a : Nat} (h : a < 0x2000) : s.answersAt a = true := by
  unfold State.answersAt
  rw [decide_eq_true h, Bool.or_true]

/-- A read of one register word by a port, where the address answers (R407). -/
theorem State.readOne_reg (s : State) (p : Port) {a : Nat} (ha : a < 0x2000) :
    s.readOne p a = (s.readReg p a).1.answer p 0 [(s.readReg p a).2] 0 := by
  unfold State.readOne State.readWord
  rw [s.answersAt_low ha, if_neg (by decide), if_pos (by omega)]

/-- A good frame restarts a timer of the host and leaves the rest (R414, R417). -/
theorem State.goodFrame'_eq (s : State) (p : Port) : ∃ h : HostRun, s.goodFrame' p = { s with host := h } := by
  unfold State.goodFrame'
  split
  · split <;> exact ⟨_, rfl⟩
  · exact ⟨_, rfl⟩

/-- A READ of one register word that passes is answered with the word (R405 to R407). -/
theorem State.hostRead_hears {s : State} {p : Port} {a : Nat} {crc : BitVec 16} {addr : Word}
    (h : s.Hears p (requestBytes 0x0B 0 a []) crc a) (haddr : addr.toNat = a) : s.hostRead p addr 0 crc =
      ((s.goodFrame' p).readReg p a).1.answer p 0 [((s.goodFrame' p).readReg p a).2] 0 := by
  obtain ⟨hu, hgood⟩ := s.goodFrame'_eq p
  have hlost : (s.goodFrame' p).frameLost p = false := by rw [hgood]; exact h.kept
  have hans : (s.goodFrame' p).answersAt a = true := by rw [hgood]; exact h.answers
  have hwin : inWindow a = false := decide_eq_false (by have := h.range; omega)
  have hregs : inRegs a = true := decide_eq_true h.range
  have hcells : inCells a = false := decide_eq_false (by have := h.range; omega)
  have hleaves : burstLeaves a 1 = false := by simp [burstLeaves, hwin, hcells]
  have hprot : (s.goodFrame' p).prot p a false = false := by
    unfold State.prot
    rw [hwin, hregs, hans]; rfl
  unfold State.hostRead State.request
  simp [haddr, h.good, h.aligned, hleaves, hlost, hprot, State.serve, hwin, State.readWord, h.range, maskOf, asNat]

end Sys2Proof.Machine

/-- Settles O11: what the read of each word latches and returns, for a frame that acts at once. -/
theorem chartReadsLatchTheUpperHalf : Obligations.ChartReadsLatchTheUpperHalf := by
  refine ⟨fun s p h => ?_, fun s p crc h => ?_⟩
  · have hexec : exec (.chartLoRead p) s = .next (s.readOne p Reg.SYS_CHART_LO.addr) := congrArg Host.Outcome.next (State.frameCmd_listens h _ _)
    rw [hexec, s.readOne_reg p (by decide), s.readReg_chartLo p]
    refine ⟨_, rfl, State.reply_answer .., State.latchAt_setLatch_same .., rfl, fun a ha q hq => ?_⟩
    exact s.latchAt_setLatch_other _ (by decide) ha hq
  · obtain ⟨hu, hgood⟩ := s.goodFrame'_eq p
    have hexec : exec (.hostRead p (BitVec.ofNat 32 Reg.SYS_CHART_HI.addr) 0 crc) s =
        .next (s.hostRead p (BitVec.ofNat 32 Reg.SYS_CHART_HI.addr) 0 crc) := congrArg Host.Outcome.next (State.frameCmd_listens h.listens _ _)
    rw [hexec, State.hostRead_hears h rfl, State.readReg_chartHi, hgood]
    exact ⟨_, rfl, State.reply_answer .., rfl, rfl⟩

end

/-! What a rotor tick leaves as it is: the parts of the group's record that the rotor reads and gives, and the fields of the GFM block and
below that no step of the tick writes. -/

section
open Sys2Proof Sys2Proof.Machine

namespace Sys2Proof.Machine

/-- What the rotor reads of its group's record, and gives to it (R38), with the governor P and the tracker of the terminals. -/
structure RotorPart where
  omega : Int
  omegaD : Int
  theta : Int
  govP : Gov
  govF : Gov
  steerF : Int
  pe : Int
  trkT : Trk

abbrev GroupRun.rotorPart (r : GroupRun) : RotorPart := ⟨r.omega, r.omegaD, r.theta, r.govP, r.govF, r.steerF, r.pe, r.trkT⟩

/-- Of the fields below the GRT block, at most those of a list differ in effect; the image store and the group's rotor part are alike. -/
structure TickFrame (l : List Fld) (g : Nat) (s t : State) : Prop where
  part : (t.grp g).rotorPart = (s.grp g).rotorPart
  fields : ∀ f : Fld, f.key < 0x20000 → (∀ q ∈ l, f.key ≠ q.key) → t.fld f = s.fld f
  stg : t.stg = s.stg

variable {l l' : List Fld} {g : Nat} {s t u : State}

theorem TickFrame.refl (l : List Fld) (g : Nat) (s : State) : TickFrame l g s s := ⟨rfl, fun _ _ _ => rfl, rfl⟩

theorem TickFrame.trans (h : TickFrame l g s t) (h' : TickFrame l g t u) : TickFrame l g s u :=
  ⟨h'.part.trans h.part, fun f hk hf => (h'.fields f hk hf).trans (h.fields f hk hf), h'.stg.trans h.stg⟩

theorem TickFrame.mono (h : TickFrame l g s t) (hl : ∀ q ∈ l, q ∈ l') : TickFrame l' g s t :=
  ⟨h.part, fun f hk hf => h.fields f hk fun q hq => hf q (hl q hq), h.stg⟩

/-- Where nothing but high fields changes, no list is needed. -/
theorem TickFrame.high (h : TickFrame [] g s t) : TickFrame l g s t := h.mono fun _ hq => nomatch hq

theorem TickFrame.ite {c : Prop} [Decidable c] (h : TickFrame l g s t) (h' : TickFrame l g s u) : TickFrame l g s (if c then t else u) := by
  split
  · exact h
  · exact h'

/-- A change beside the registers, the groups and the image store. -/
theorem TickFrame.same (h : TickFrame l g s t) (hr : u.regs = t.regs) (hg : u.grid = t.grid) (hs : u.stg = t.stg) : TickFrame l g s u :=
  ⟨(congrArg (fun x => (tabGet ({} : GroupRun) x g).rotorPart) hg).trans h.part,
    fun f hk hf => (State.fld_congr hr f).trans (h.fields f hk hf), hs.trans h.stg⟩

theorem TickFrame.setGrp (h : TickFrame l g s t) {r : GroupRun} (hr : r.rotorPart = (t.grp g).rotorPart) : TickFrame l g s (t.setGrp g r) :=
  ⟨(congrArg GroupRun.rotorPart (t.grp_setGrp_same g r)).trans (hr.trans h.part), h.fields, h.stg⟩

theorem TickFrame.setFld (h : TickFrame l g s t) {f : Fld} (hf : f ∈ l) (v : Nat) : TickFrame l g s (t.setFld f v) :=
  ⟨h.part, fun q hk hq => (t.fld_setFld_other v (hq f hf)).trans (h.fields q hk hq), h.stg⟩

theorem TickFrame.setSfld (h : TickFrame l g s t) {f : Fld} (hf : f ∈ l) (v : Int) : TickFrame l g s (t.setSfld f v) := h.setFld hf _

theorem TickFrame.raise (h : TickFrame l g s t) {f : Fld} (hf : f ∈ l) : TickFrame l g s (t.raise f) := (h.setFld hf _).same rfl rfl rfl

theorem TickFrame.count (h : TickFrame l g s t) {f : Fld} (hf : f ∈ l) : TickFrame l g s (t.count f) := (h.setFld hf _).same rfl rfl rfl

theorem TickFrame.stamp (h : TickFrame l g s t) {lo hi : Fld} (hlo : lo ∈ l) (hhi : hi ∈ l) (v : Nat) : TickFrame l g s (t.stamp lo hi v) :=
  (h.setFld hlo _).setFld hhi _

/-- A field of the GRT block or above. -/
theorem TickFrame.setHigh (h : TickFrame l g s t) {f : Fld} (hf : 0x20000 ≤ f.key) (v : Nat) : TickFrame l g s (t.setFld f v) :=
  ⟨h.part, fun q hk hq => (t.fld_setFld_other v (by omega)).trans (h.fields q hk hq), h.stg⟩

theorem TickFrame.raiseHigh (h : TickFrame l g s t) {f : Fld} (hf : 0x20000 ≤ f.key) (b : Nat) : TickFrame l g s (t.raiseBit f b) :=
  (h.setHigh hf _).same rfl rfl rfl

theorem TickFrame.countHigh (h : TickFrame l g s t) {f : Fld} (hf : 0x20000 ≤ f.key) : TickFrame l g s (t.count f) :=
  (h.setHigh hf _).same rfl rfl rfl

/-! The injector of a group, and the sequencers of Contour: their fields stand above the GFM block. -/

theorem State.setGen_frame (s : State) (h : Nat) (r : SndGen) : TickFrame [] g s (s.setGen h r) := (TickFrame.refl [] g s).same rfl rfl rfl

theorem State.setNode_frame (s : State) (h : Nat) (r : BrgNode) : TickFrame [] g s (s.setNode h r) := (TickFrame.refl [] g s).same rfl rfl rfl

theorem State.drawFree_frame (s : State) : TickFrame [] g s s.drawFree.2 := (TickFrame.refl [] g s).same rfl rfl rfl

theorem State.drawDelay_frame (s : State) (h : Nat) : TickFrame [] g s (s.drawDelay h).2 := s.drawFree_frame.trans (State.drawFree_frame _)

theorem State.freshWait_frame (s : State) (h : Nat) (r : BrgNode) : TickFrame [] g s (s.freshWait h r) :=
  s.drawFree_frame.trans (State.setNode_frame ..)

theorem State.polWeak_frame (s : State) : TickFrame [] g s s.polWeak :=
  ((((TickFrame.refl [] g s).same (u := { s with adc := { s.adc with pol := none } }) rfl rfl rfl).setHigh
    (f := Reg.ADC_POL_STAT_BUSY) (by decide) 0).setHigh (f := Reg.ADC_POL_STAT_VERDICT) (by decide) 3).raiseHigh
      (f := Reg.ADC_STATUS_POLDONE_S) (by decide) 0

theorem State.setGenState_frame (s : State) (h st : Nat) : TickFrame [] g s (s.setGenState h st) := by
  have hset : TickFrame [] g s (s.setFld (Reg.SND_G_STATUS_STATE h) st) :=
    (TickFrame.refl [] g s).setHigh (by simp only [Fld.key, Reg.SND_G_STATUS_STATE]; omega) st
  exact .ite (hset.trans (State.polWeak_frame _)) hset

theorem State.genRest_frame (s : State) (h : Nat) : TickFrame [] g s (s.genRest h) := by
  have hA : TickFrame [] g s (s.setFld (Reg.SND_G_INJ_A h) 0) :=
    (TickFrame.refl [] g s).setHigh (by simp only [Fld.key, Reg.SND_G_INJ_A]; omega) 0
  have hB := hA.setHigh (f := Reg.SND_G_INJ_B h) (by simp only [Fld.key, Reg.SND_G_INJ_B]; omega) 0
  unfold State.genRest
  extract_lets u
  exact (hB.trans (State.setGen_frame ..)).trans (State.setGenState_frame ..)

theorem State.burstRest_frame (s : State) (h : Nat) : TickFrame [] g s (s.burstRest h) := by
  unfold State.burstRest
  extract_lets d
  exact .ite (((s.drawDelay_frame h).trans (State.setGen_frame ..)).trans (State.genRest_frame ..)) (State.genRest_frame ..)

theorem State.abandonBurst_frame (s : State) (h : Nat) : TickFrame [] g s (s.abandonBurst h) := by
  refine .ite (((s.burstRest_frame h).raiseHigh (f := Reg.SND_G_STATUS_ABORT_S h) ?_ 0).countHigh (f := Reg.SND_G_CNT_ABORT_CNT h) ?_) (.refl ..)
  · simp only [Fld.key, Reg.SND_G_STATUS_ABORT_S]; omega
  · simp only [Fld.key, Reg.SND_G_CNT_ABORT_CNT]; omega

theorem State.noteTx_frame (s : State) (h : Nat) : TickFrame [] g s (s.noteTx h) :=
  (TickFrame.refl [] g s).setHigh (by simp only [Fld.key, Reg.BRG_G_STATUS_TXSTATE]; omega) _

theorem State.requeueTx_frame (s : State) (h : Nat) (f : TxFrame) : TickFrame [] g s (s.requeueTx h f) := by
  unfold State.requeueTx
  extract_lets r n
  exact (State.freshWait_frame ..).trans (State.noteTx_frame ..)

theorem State.stopFrame_frame (s : State) (h : Nat) : TickFrame [] g s (s.stopFrame h) := by
  unfold State.stopFrame
  split
  · exact .refl ..
  · have hsent (f : Fld) (hf : 0x20000 ≤ f.key) :
        TickFrame [] g s (((s.setNode h { s.node h with sending := none }).genRest h).raise f) :=
      ((State.setNode_frame ..).trans (State.genRest_frame ..)).raiseHigh hf 0
    have hfail := hsent (Reg.BRG_G_STATUS_TXFAIL_S h) (by simp only [Fld.key, Reg.BRG_G_STATUS_TXFAIL_S]; omega)
    exact .ite (hfail.trans (State.noteTx_frame ..)) (hfail.trans (State.requeueTx_frame ..))

theorem State.soundLeave_frame (s : State) (h : Nat) : TickFrame [] g s (s.soundLeave h) :=
  (s.abandonBurst_frame h).trans (State.stopFrame_frame ..)

theorem State.soundBound_frame (s : State) (h : Nat) : TickFrame [] g s (s.soundBound h) :=
  .ite ((s.abandonBurst_frame h).same rfl rfl rfl) (s.abandonBurst_frame h)

theorem State.ctrPush_frame (s : State) (ch a r : Nat) : TickFrame [] g s (s.ctrPush ch a r) :=
  .ite ((TickFrame.refl [] g s).same rfl rfl rfl)
    ((((TickFrame.refl [] g s).countHigh (f := Reg.CTR_CNT_GAP_CNT) (by decide)).raiseHigh (f := Reg.CTR_STATUS_GAP_S) (by decide) 0).same
      rfl rfl rfl)

theorem State.seqTrigger_frame (s : State) (k : Nat) : TickFrame [] g s (s.seqTrigger k) := by
  unfold State.seqTrigger
  extract_lets s1 s2
  have h1 : TickFrame [] g s s1 := s.ctrPush_frame ..
  have h2 : TickFrame [] g s s2 :=
    ((h1.setHigh (f := Reg.CTR_SEQ_TRIG_STAMP_LO k) (by simp only [Fld.key, Reg.CTR_SEQ_TRIG_STAMP_LO]; omega) _).setHigh
      (f := Reg.CTR_SEQ_TRIG_STAMP_HI k) (by simp only [Fld.key, Reg.CTR_SEQ_TRIG_STAMP_HI]; omega) _).raiseHigh (by decide) k
  exact (h2.setHigh (f := Reg.CTR_SEQ_STATUS_RSTATE k) (by simp only [Fld.key, Reg.CTR_SEQ_STATUS_RSTATE]; omega) _).same rfl rfl rfl

theorem State.seqOccur_frame (s : State) (k : Nat) : TickFrame [] g s (s.seqOccur k) := by
  have hcount (u : State) (n : Nat) : TickFrame [] g u (u.setFld (Reg.CTR_SEQ_STATUS_COUNT k) n) :=
    (TickFrame.refl [] g u).setHigh (by simp only [Fld.key, Reg.CTR_SEQ_STATUS_COUNT]; omega) n
  have hstate (j : Nat) : TickFrame [] g s (s.setFld (Reg.CTR_SEQ_STATUS_STATE k) j) :=
    (TickFrame.refl [] g s).setHigh (by simp only [Fld.key, Reg.CTR_SEQ_STATUS_STATE]; omega) j
  exact .ite (hcount ..) (.ite ((hcount ..).trans (State.seqTrigger_frame ..)) (((hstate _).trans (hcount ..)).same rfl rfl rfl))

theorem TickFrame.forIdx {n : Nat} {f : Nat → State → State} (hf : ∀ k u, TickFrame l g u (f k u)) (h : TickFrame l g s t) :
    TickFrame l g s (forIdx n f t) := forIdx_induct (P := TickFrame l g s) (fun k u hu => hu.trans (hf k u)) h

theorem State.ctrEvent_frame (s : State) (e : Nat) : TickFrame [] g s (s.ctrEvent e) :=
  .forIdx (fun k u => .ite (u.seqOccur_frame k) (.refl ..)) (.refl ..)

end Sys2Proof.Machine
end

/-! The steps of a rotor tick, each by what it leaves. -/

section
open Sys2Proof Sys2Proof.Machine

namespace Sys2Proof.Machine

/-- The fields of the GFM block that a rotor tick may write, beside MODE, HELD_S and FA_LAST. -/
def tickFlds (g : Nat) : List Fld :=
  [Reg.GFM_EVT_STATUS_TRK_T g, Reg.GFM_EVT_STATUS_TRK_G g, Reg.GFM_TRK_T_F g, Reg.GFM_TRK_T_V g, Reg.GFM_TRK_G_F g, Reg.GFM_TRK_G_V g,
    Reg.GFM_VDC_MEAS g, Reg.GFM_STATUS_RETUNE_S g, Reg.GFM_EVT_STATUS_FRT_S g, Reg.GFM_EVT_CNT_FRT_CNT g, Reg.GFM_FRT_STAMP_LO g,
    Reg.GFM_FRT_STAMP_HI g, Reg.GFM_STATUS_SPLIM_S g, Reg.GFM_STATUS_SLEWP_S g, Reg.GFM_STATUS_SLEWQ_S g, Reg.GFM_STATUS_SLEWF_S g,
    Reg.GFM_STATUS_SLEWV_S g, Reg.GFM_EVT_STATUS_FA_S g, Reg.GFM_FA_STAMP_LO g, Reg.GFM_FA_STAMP_HI g, Reg.GFM_STATUS_FLIM_S g,
    Reg.GFM_EVT_STATUS_FLUX_S g, Reg.GFM_STATUS_ELIM_S g, Reg.GFM_EVT_STATUS_REC g, Reg.GFM_STATUS_ILIM_S g, Reg.GFM_ILIM_NOW g,
    Reg.GFM_STATUS_VSAT_S g, Reg.GFM_SYNC_DF g, Reg.GFM_SYNC_DTH g, Reg.GFM_SYNC_DV g, Reg.GFM_GOV_P g, Reg.GFM_GOV_Q g, Reg.GFM_GOV_F g,
    Reg.GFM_GOV_V g, Reg.GFM_MEAS_P g, Reg.GFM_MEAS_Q g, Reg.GFM_ROTOR_F g, Reg.GFM_ROTOR_TH g, Reg.GFM_E_REF g, Reg.GFM_RV_EFF g,
    Reg.GFM_XV_EFF g]

/-- What a step of the tick leaves, where it writes none of MODE, HELD_S and FA_LAST. -/
abbrev Calm (g : Nat) (s t : State) : Prop := TickFrame (tickFlds g) g s t

variable (s : State) (g : Nat)

/-! Before the rotor. -/

theorem State.busTick_calm (r : GroupRec) : Calm g s (s.busTick g r) := by
  have hv : Calm g s (s.setFld (Reg.GFM_VDC_MEAS g) (s.entryWord r.vdc)) := (TickFrame.refl _ g s).setFld (by simp [tickFlds]) _
  unfold State.busTick
  extract_lets v t low t'
  have ht : Calm g s t := .ite (.refl ..) hv
  split
  · exact ht.setGrp rfl
  · split
    · exact .refl ..
    · exact hv.setGrp rfl

theorem State.setEff_calm (z : Int × Int) : Calm g s (s.setEff g z) := by
  unfold State.setEff
  extract_lets r t
  have ht : Calm g s t := (TickFrame.refl _ g s).setGrp rfl
  exact .ite (ht.raise (by simp [tickFlds])) ht

theorem State.effTick_calm : Calm g s (s.effTick g) := s.setEff_calm g _

theorem State.rideTimes_calm (w : Int) (entered : Bool) : Calm g s (s.rideTimes g w entered) :=
  .ite ((TickFrame.refl _ g s).setGrp rfl) (.refl ..)

/-! After the rotor. -/

theorem State.flux_calm (i : TickIn) : Calm g s (s.flux g i) := by
  unfold State.flux
  extract_lets r step a b c r1 n hA hB hC top lim held t
  have ht : Calm g s t := (TickFrame.refl _ g s).setGrp rfl
  split
  · exact .ite (ht.raise (by simp [tickFlds])) ht
  · exact (TickFrame.refl _ g s).setGrp rfl

theorem State.magnitude_calm (w : Int) (ok hold : Bool) : Calm g s (s.magnitude g w ok hold) := by
  unfold State.magnitude
  extract_lets r md r1 s1 droop lo hi e e2 t
  have hr1 : r1.rotorPart = (s.grp g).rotorPart := by
    simp only [r1]
    split <;> rfl
  have hs1 : Calm g s s1 := (TickFrame.refl _ g s).setGrp hr1
  have ht : Calm g s t := hs1.setGrp (by rw [show s1.grp g = r1 from s.grp_setGrp_same g r1])
  exact .ite (.refl ..) (.ite ((TickFrame.refl _ g s).setGrp rfl) (.ite (ht.raise (by simp [tickFlds])) ht))

theorem State.sepTick_calm (i : TickIn) (m : TickMeas) : Calm g s (s.sepTick g i m) := .ite (.refl ..) ((TickFrame.refl _ g s).setGrp rfl)

theorem State.recover_calm (w lim : Int) : Calm g s (s.recover g w lim) := by
  have hg (b : Bool) (x : Int) : Calm g s (s.setGrp g { s.grp g with recActive := b, recBound := x }) := (TickFrame.refl _ g s).setGrp rfl
  exact .ite (.ite ((hg _ _).setFld (by simp [tickFlds]) 0) (hg _ _)) (.refl ..)

theorem State.limiter_calm (i : TickIn) (m : TickMeas) (a b z : Int) : Calm g s (s.limiter g i m a b z).1 := by
  unfold State.limiter
  extract_lets lim s1 r co si sq c0 c k held calm v f t t1 t2
  have hs1 : Calm g s s1 := s.recover_calm ..
  have ht : Calm g s t := hs1.setGrp rfl
  have ht1 : Calm g s t1 := .ite (ht.setFld (by simp [tickFlds]) 0) ht
  have ht2 : Calm g s t2 := .ite ((ht1.raise (by simp [tickFlds])).trans (State.soundBound_frame ..).high) ht1
  exact ht2.setSfld (by simp [tickFlds]) lim

theorem State.resTick_calm (w : Int) (eps : List (Nat × Int)) : Calm g s (s.resTick g w eps) := by
  unfold State.resTick
  extract_lets r l t
  have ht : Calm g s t := (TickFrame.refl _ g s).setGrp rfl
  exact .ite (ht.raise (by simp [tickFlds])) ht

theorem State.legRefs_calm (one : Bool) : Calm g s (s.legRefs g one) := by
  unfold State.legRefs
  extract_lets r
  exact .forIdx (fun _ u => .ite ((TickFrame.refl _ g u).same rfl rfl rfl) (.refl ..)) (.refl ..)

theorem State.cascade_calm (r : GroupRec) (i : TickIn) (m : TickMeas) : Calm g s (s.cascade g r i m) := by
  unfold State.cascade
  extract_lets s1 v z0 ea eb ez a so b z r1 s2 l k eps
  have hs1 : Calm g s s1 := s.sepTick_calm ..
  have hs2 : Calm g s s2 := hs1.setGrp rfl
  have hl : Calm g s l.1 := hs2.trans (s2.limiter_calm ..)
  exact (hl.trans (State.resTick_calm ..)).trans (State.legRefs_calm ..)

theorem State.voltageTick_calm (r : GroupRec) (i : TickIn) (m : TickMeas) : Calm g s (s.voltageTick g r i m) := by
  have h (hold : Bool) : Calm g s ((s.magnitude g i.w true hold).cascade g r i m) := (s.magnitude_calm ..).trans (State.cascade_calm ..)
  exact .ite (h true) (h _)

theorem State.syncTick_calm (w : Int) : Calm g s (s.syncTick g w) := by
  unfold State.syncTick
  refine .ite ?_ (.refl ..)
  extract_lets v r drop t
  have ht : Calm g s t := (TickFrame.refl _ g s).setGrp rfl
  exact ((ht.setSfld (by simp [tickFlds]) _).setSfld (by simp [tickFlds]) _).setSfld (by simp [tickFlds]) _

theorem State.holdTick_calm (w : Int) : Calm g s (s.holdTick g w) := (TickFrame.refl _ g s).setGrp rfl

theorem State.stopProceed_calm : Calm g s (s.stopProceed g) := .ite ((TickFrame.refl _ g s).setGrp rfl) (.refl ..)

theorem State.stopTick_calm : Calm g s (s.stopTick g) :=
  .ite (.ite (.ite (s.stopProceed_calm g) (.refl ..)) (.ite ((TickFrame.refl _ g s).setGrp rfl) (.refl ..))) (.refl ..)

theorem State.liveRegs_calm : Calm g s (s.liveRegs g) :=
  List.foldlRecOn _ _ (TickFrame.refl _ g s) fun _ ht _ he =>
    ht.setSfld (List.mem_of_mem_drop (i := 30) (List.mem_map_of_mem (f := Prod.fst) he)) _

/-- The rotor's registers report its record (R55). -/
theorem State.liveRegs_rotor :
    (s.liveRegs g).fld (Reg.GFM_ROTOR_F g) = unsignedOf 32 (clampInt (s.grp g).omega) % 2 ^ 32 ∧
    (s.liveRegs g).fld (Reg.GFM_ROTOR_TH g) = unsignedOf 32 (clampInt (s.grp g).theta) % 2 ^ 32 := by
  simp [State.liveRegs, State.fld_setSfld, Fld.key, Reg.GFM_ROTOR_F, Reg.GFM_ROTOR_TH, Reg.GFM_E_REF, Reg.GFM_RV_EFF, Reg.GFM_XV_EFF]

/-! Beside the registers, the groups and the image store. -/

theorem State.burstTick_frame (i : TickIn) : TickFrame [] g s (s.burstTick g i) :=
  .ite ((s.setGen_frame ..).trans (State.setGen_frame ..)) (.refl ..)

theorem State.leaderTick_frame : TickFrame [] g s (s.leaderTick g) := .ite (s.setNode_frame ..) (.refl ..)

theorem State.tallyTick_frame (r : GroupRec) (i : TickIn) (d : Nat) : TickFrame [] g s (s.tallyTick g r i d) :=
  .ite (.ite ((TickFrame.refl ..).same rfl rfl rfl) ((TickFrame.refl ..).same rfl rfl rfl)) (.refl ..)

end Sys2Proof.Machine
end

/-! What the rotor finds: the steps of the tick before it, and the fault action that meets invalid operands. -/

section
open Sys2Proof Sys2Proof.Machine

namespace Sys2Proof.Machine

/-- The fields of the GFM block that a tick with valid operands may write. -/
def stepFlds (g : Nat) : List Fld := Reg.GFM_EVT_STATUS_MODE g :: tickFlds g

/-- The fields of the GFM block that the fault action LOG may write (R88), beside those of the tick. -/
def faultFlds (g : Nat) : List Fld := Reg.GFM_FA_LAST_ACTION g :: Reg.GFM_FA_LAST_SOURCE g :: tickFlds g

/-- The fields of the GFM block that invalid operands may write. -/
def heldFlds (g : Nat) : List Fld := Reg.GFM_STATUS_HELD_S g :: faultFlds g

/-- The fields that the rotor and the governor P go by. -/
def settledFlds (g : Nat) : List Fld :=
  [Reg.GFM_FLIM_FMIN g, Reg.GFM_FLIM_FMAX g, Reg.GFM_PQMAX_PMAX g, Reg.GFM_PSET g, Reg.GFM_SLEW_PQ_RATE_P g, Reg.GFM_ACCEL_PQ_ACC_P g,
    Reg.GFM_INERTIA_H_MS g, Reg.GFM_DAMP_TD_MS g, Reg.GFM_DROOP_MP g, Reg.GFM_DAMP_D g, Reg.GFM_CFG_FNOM g, Reg.GFM_FRT_CFG_FRT_EN g]

/-- A field below the GRT block that stands outside a list. -/
def outside (l : List Fld) (f : Fld) : Bool := decide (f.key < 0x20000) && l.all fun q => decide (f.key ≠ q.key)

theorem TickFrame.fld {l : List Fld} {g : Nat} {s t : State} {f : Fld} (h : TickFrame l g s t) (hf : outside l f = true) :
    t.fld f = s.fld f := by
  simp only [outside, Bool.and_eq_true, List.all_eq_true, decide_eq_true_eq] at hf
  exact h.fields f hf.1 hf.2

theorem settledFlds_outside : ∀ g : Fin 8, ∀ f ∈ settledFlds g, outside (stepFlds g) f = true ∧ outside (heldFlds g) f = true := by decide

theorem mode_outside : ∀ g : Fin 8, outside (tickFlds g) (Reg.GFM_EVT_STATUS_MODE g) = true ∧
    outside (heldFlds g) (Reg.GFM_EVT_STATUS_MODE g) = true := by decide

theorem held_outside : ∀ g : Fin 8, outside (stepFlds g) (Reg.GFM_STATUS_HELD_S g) = true ∧
    outside (faultFlds g) (Reg.GFM_STATUS_HELD_S g) = true := by decide

theorem source_outside : ∀ g : Fin 8, outside (stepFlds g) (Reg.GFM_FA_LAST_SOURCE g) = true ∧
    outside (tickFlds g) (Reg.GFM_FA_LAST_SOURCE g) = true := by decide

theorem outside_nil {l : List Fld} {f : Fld} (h : outside l f = true) : outside [] f = true := by
  simp only [outside, Bool.and_eq_true] at h ⊢
  exact ⟨h.1, rfl⟩

theorem tickFlds_sub_stepFlds (g : Nat) : ∀ x ∈ tickFlds g, x ∈ stepFlds g := fun _ h => List.mem_cons_of_mem _ h

theorem tickFlds_sub_faultFlds (g : Nat) : ∀ x ∈ tickFlds g, x ∈ faultFlds g := fun _ h => List.mem_cons_of_mem _ (List.mem_cons_of_mem _ h)

/-- The group's rotor part becomes `p`; of the fields below the GRT block, at most those of a list differ; the image store is alike. -/
structure Gives (l : List Fld) (g : Nat) (s t : State) (p : RotorPart) : Prop where
  part : (t.grp g).rotorPart = p
  fields : ∀ f : Fld, f.key < 0x20000 → (∀ q ∈ l, f.key ≠ q.key) → t.fld f = s.fld f
  stg : t.stg = s.stg

variable {l l' : List Fld} {n : Nat} {p q : RotorPart} {s t u : State}

theorem TickFrame.gives (h : TickFrame l n s t) : Gives l n s t (s.grp n).rotorPart := ⟨h.part, h.fields, h.stg⟩

/-- A record written first, and nothing else of the rotor. -/
theorem TickFrame.gives_setGrp {r : GroupRun} (h : TickFrame l n (s.setGrp n r) t) : Gives l n s t r.rotorPart :=
  ⟨h.part.trans (congrArg GroupRun.rotorPart (s.grp_setGrp_same n r)), h.fields, h.stg⟩

theorem Gives.fld (h : Gives l n s t p) {f : Fld} (hf : outside l f = true) : t.fld f = s.fld f := by
  simp only [outside, Bool.and_eq_true, List.all_eq_true, decide_eq_true_eq] at hf
  exact h.fields f hf.1 hf.2

theorem Gives.trans (h : Gives l n s t p) (h' : Gives l n t u q) : Gives l n s u q :=
  ⟨h'.part, fun f hk hf => (h'.fields f hk hf).trans (h.fields f hk hf), h'.stg.trans h.stg⟩

theorem Gives.calm (h : Gives l n s t p) (h' : TickFrame l n t u) : Gives l n s u p :=
  ⟨h'.part.trans h.part, fun f hk hf => (h'.fields f hk hf).trans (h.fields f hk hf), h'.stg.trans h.stg⟩

theorem Gives.mono (h : Gives l n s t p) (hl : ∀ x ∈ l, x ∈ l') : Gives l' n s t p :=
  ⟨h.part, fun f hk hf => h.fields f hk fun x hx => hf x (hl x hx), h.stg⟩

/-! The steps that touch the rotor part. -/

theorem State.track_gives (s : State) (g : Nat) (i : TickIn) (m : TickMeas) :
    Gives (tickFlds g) g s (s.track g i m) { (s.grp g).rotorPart with
      trkT := (s.grp g).trkT.tick (s.fB g) i.w i.kth (s.grp g).omega i.vOk i.one m.kSogi.toInt i.vAl i.vBe } := by
  unfold State.track
  extract_lets r k t c vc s1 s2
  have hs2 : TickFrame (tickFlds g) g s1 s2 := ((TickFrame.refl ..).setFld (by simp [tickFlds]) _).setFld (by simp [tickFlds]) _
  exact ((((hs2.setSfld (by simp [tickFlds]) _).setSfld (by simp [tickFlds]) _).setSfld (by simp [tickFlds]) _).setSfld
    (by simp [tickFlds]) _).gives_setGrp

theorem State.governors_gives (s : State) (g : Nat) (w : Int) : ∃ gf, Gives (tickFlds g) g s (s.governors g w) { (s.grp g).rotorPart with
      govP := (s.grp g).govP.tick (if decide (s.mode g = mSTOPPING) then 0 else
        within (-milli (s.fld (Reg.GFM_PQMAX_PMAX g))) (milli (s.fld (Reg.GFM_PQMAX_PMAX g))) (s.sfld (Reg.GFM_PSET g))) w
        (s.fld (Reg.GFM_SLEW_PQ_RATE_P g)) (s.fld (Reg.GFM_ACCEL_PQ_ACC_P g)),
      govF := gf } := by
  unfold State.governors
  extract_lets r f pm qm tp tq tf tv stop gp gq gf gv up
  have hup (v : State) (b : Bool) (x : Fld) (hx : x ∈ tickFlds g) (t : State) (ht : TickFrame (tickFlds g) g v t) :
      TickFrame (tickFlds g) g v (up b x t) := .ite (ht.raise hx) ht
  exact ⟨gf, TickFrame.gives_setGrp (hup _ _ _ (by simp [tickFlds]) _ (hup _ _ _ (by simp [tickFlds]) _ (hup _ _ _ (by simp [tickFlds]) _
    (hup _ _ _ (by simp [tickFlds]) _ (hup _ _ _ (by simp [tickFlds]) _ (.refl ..))))))⟩

theorem State.steer_gives (s : State) (g : Nat) (w : Int) :
    ∃ x, Gives (tickFlds g) g s (s.steer g w) { (s.grp g).rotorPart with steerF := x } := by
  unfold State.steer
  extract_lets r lf lv goal
  split
  · exact ⟨_, (TickFrame.refl ..).gives_setGrp⟩
  · exact ⟨_, (TickFrame.refl ..).gives_setGrp⟩

theorem State.powers_gives (s : State) (g : Nat) (i : TickIn) :
    ∃ x, Gives (tickFlds g) g s (s.powers g i) { (s.grp g).rotorPart with pe := x } := ⟨_, (TickFrame.refl ..).gives_setGrp⟩

/-- The rotor's own step (R38, R39). -/
theorem State.rotor_gives (s : State) (g : Nat) (i : TickIn) (ok : Bool) :
    let r := s.grp g
    let lim := within (s.centiHz g (s.fld (Reg.GFM_FLIM_FMIN g))) (s.centiHz g (s.fld (Reg.GFM_FLIM_FMAX g)))
    ∃ raw omd, Gives (tickFlds g) g s (s.rotor g i ok) { r.rotorPart with
        omega := lim raw, omegaD := omd, theta := turn r.theta (lim raw) i.w i.kth } ∧
      (ok = false → raw = r.omega) ∧
      (ok = true → s.mode g ≠ mRIDE → s.mode g ≠ mBLACK →
        raw = swing r.omega r.omegaD r.govP.out (r.govF.out + roundShift r.steerF 28) r.pe i.w (s.coef g 0x01) (s.coef g 0x03)
          (s.coef g 0x04) ∧
        omd = washout r.omega r.omegaD i.w (s.coef g 0x02)) := by
  intro r lim
  unfold State.rotor
  extract_lets md star raw om omd delta t
  refine ⟨raw, omd, ?_, ?_, ?_⟩
  · have ht : TickFrame (tickFlds g) g t t := .refl ..
    exact TickFrame.gives_setGrp (.ite ht (ht.raise (by simp [tickFlds])))
  · intro h
    simp [raw, h]
  · intro h hr hb
    simp [raw, omd, h, md, hr, hb, star]

/-! Modes. -/

theorem State.setMode_frame (s : State) (g m : Nat) (hm : m ≠ mISLAND ∧ m ≠ mCONNECTED) : TickFrame [Reg.GFM_EVT_STATUS_MODE g] g s (s.setMode g m) := by
  have ht : TickFrame [Reg.GFM_EVT_STATUS_MODE g] g s (s.setFld (Reg.GFM_EVT_STATUS_MODE g) m) :=
    (TickFrame.refl ..).setFld (by simp) m
  unfold State.setMode
  rw [if_neg (by simp [hm])]
  exact ht.trans (State.soundLeave_frame ..).high

theorem State.mode_setMode (s : State) (g : Fin 8) (m : Nat) (hm : m ≠ mISLAND ∧ m ≠ mCONNECTED) : (s.setMode g m).mode g = m % 8 := by
  have hfield : (s.setFld (Reg.GFM_EVT_STATUS_MODE g) m).mode g = m % 8 := s.fld_setFld_same ..
  unfold State.setMode
  rw [if_neg (by simp [hm])]
  exact ((State.soundLeave_frame (g := g) ..).fld (outside_nil (mode_outside g).1)).trans hfield

theorem Calm.mode {g : Fin 8} (h : Calm g s t) : t.mode g = s.mode g := TickFrame.fld h (mode_outside g).1

theorem State.enterRide_frame (s : State) (g : Fin 8) : TickFrame (stepFlds g) g s (s.enterRide g) ∧ (s.enterRide g).mode g = mRIDE := by
  unfold State.enterRide
  extract_lets r back t
  have ht : TickFrame (stepFlds g) g s t := (TickFrame.refl ..).setGrp rfl
  have hm : TickFrame (stepFlds g) g s (t.setMode g mRIDE) :=
    ht.trans ((t.setMode_frame g mRIDE (by decide)).mono fun x hx => by simp_all [stepFlds])
  have hrest : Calm g (t.setMode g mRIDE)
      ((((t.setMode g mRIDE).raise (Reg.GFM_EVT_STATUS_FRT_S g)).count (Reg.GFM_EVT_CNT_FRT_CNT g)).stamp
        (Reg.GFM_FRT_STAMP_LO g) (Reg.GFM_FRT_STAMP_HI g) s.now) :=
    (((TickFrame.refl ..).raise (by simp [tickFlds])).count (by simp [tickFlds])).stamp (by simp [tickFlds]) (by simp [tickFlds]) _
  have hall := hrest.trans (State.ctrEvent_frame _ 3).high
  exact ⟨hm.trans (hall.mono (tickFlds_sub_stepFlds g)), (Calm.mode hall).trans (t.mode_setMode g mRIDE (by decide))⟩

theorem State.rideCheck_frame (s : State) (g : Fin 8) : TickFrame (stepFlds g) g s (s.rideCheck g) :=
  .ite (s.enterRide_frame g).1 (.refl ..)

theorem State.mode_rideCheck (s : State) (g : Fin 8) : (s.rideCheck g).mode g = s.mode g ∨ (s.rideCheck g).mode g = mRIDE := by
  unfold State.rideCheck
  extract_lets r
  split
  · exact .inr (s.enterRide_frame g).2
  · exact .inl rfl

theorem State.rideCheck_off (s : State) (g : Nat) (h : s.on (Reg.GFM_FRT_CFG_FRT_EN g) = false) : s.rideCheck g = s := by
  simp [State.rideCheck, h]

/-! The action for invalid operands (R7, R88), where the image gives it the code LOG. -/

theorem State.dropHo_frame (s : State) (g code : Nat) : TickFrame (tickFlds g) g s (s.dropHo g code) := by
  unfold State.dropHo
  extract_lets less tw t
  have ht : TickFrame (tickFlds g) g s t := .ite ((TickFrame.refl ..).same rfl rfl rfl) (.refl ..)
  exact .ite ((ht.setHigh (f := Reg.TWN_STATUS_HO_BUSY) (by decide) 0).same rfl rfl rfl) ht

theorem State.giveWay_frame (s : State) (g : Nat) : TickFrame (tickFlds g) g s (s.giveWay g 0) := by
  unfold State.giveWay
  rw [if_neg (by decide)]
  exact s.dropHo_frame g 0

theorem State.runAction_log (s : State) (g : Nat) : s.runAction g 0 = s := rfl

/-- The action LOG records (R88). -/
theorem State.faultAction_log (s : State) (g : Fin 8) (h : s.actionOf g 1 = 0) :
    TickFrame (faultFlds g) g s (s.faultAction g 1) ∧ (s.faultAction g 1).fld (Reg.GFM_FA_LAST_SOURCE g) = 1 := by
  have hcalm : Calm g ((s.setFld (Reg.GFM_FA_LAST_ACTION g) 0).setFld (Reg.GFM_FA_LAST_SOURCE g) 1) (s.faultAction g 1) := by
    unfold State.faultAction
    rw [h]
    extract_lets x s1 s2 y s4
    rw [State.runAction_log]
    have hs2 : Calm g s1 s2 := ((TickFrame.refl ..).raise (by simp [tickFlds])).stamp (by simp [tickFlds]) (by simp [tickFlds]) _
    have hs4 : Calm g s1 s4 := (hs2.trans (s2.ctrEvent_frame 2).high).trans (State.giveWay_frame ..)
    clear_value s4
    exact .ite (.refl ..) (.ite (hs2.same rfl rfl rfl) (hs4.setGrp rfl))
  constructor
  · exact (((TickFrame.refl ..).setFld (by simp [faultFlds]) 0).setFld (by simp [faultFlds]) 1).trans
      (hcalm.mono (tickFlds_sub_faultFlds g))
  · exact (TickFrame.fld hcalm (source_outside g).2).trans (State.fld_setFld_same ..)

theorem State.actionOf_congr (h : t.stg = s.stg) (g src : Nat) : t.actionOf g src = s.actionOf g src := by
  simp only [State.actionOf, h]

/-- Invalid operands are recorded (R7, R39). -/
theorem State.heldTick_log (s : State) (g : Fin 8) (h : s.actionOf g 1 = 0) :
    TickFrame (heldFlds g) g s (s.heldTick g) ∧ (s.heldTick g).on (Reg.GFM_STATUS_HELD_S g) = true ∧
    (s.heldTick g).fld (Reg.GFM_FA_LAST_SOURCE g) = 1 := by
  have hctx : TickFrame [] g (s.raise (Reg.GFM_STATUS_HELD_S g))
      ((s.rotorCtxs g).foldl (fun t n => t.raise (Reg.GRT_CTX_STATUS_NAV_S n)) (s.raise (Reg.GFM_STATUS_HELD_S g))) :=
    List.foldlRecOn _ _ (TickFrame.refl ..) fun _ ht _ _ =>
      ht.raiseHigh (by simp only [Fld.key, Reg.GRT_CTX_STATUS_NAV_S]; omega) 0
  obtain ⟨hact, hsrc⟩ := State.faultAction_log _ g ((State.actionOf_congr hctx.stg g 1).trans h)
  have hraise : TickFrame (heldFlds g) g s (s.raise (Reg.GFM_STATUS_HELD_S g)) := (TickFrame.refl ..).raise (by simp [heldFlds])
  have hon : (s.raise (Reg.GFM_STATUS_HELD_S g)).on (Reg.GFM_STATUS_HELD_S g) = true := s.on_raise_same rfl
  have hkeep := (hctx.high.trans hact).fld (held_outside g).2
  exact ⟨(hraise.trans hctx.high).trans (hact.mono fun _ hx => List.mem_cons_of_mem _ hx),
    (congrArg (· == 1) hkeep).trans hon, hsrc⟩

end Sys2Proof.Machine
end

/-! The rotor tick as a whole: before the rotor, the rotor, after it. -/

section
open Sys2Proof Sys2Proof.Machine

namespace Sys2Proof.Machine

/-! The group's record after a step, by its parts. -/

section
variable {l : List Fld} {g : Nat} {s t : State} {p : RotorPart} (h : Gives l g s t p)
include h

theorem Gives.omega : (t.grp g).omega = p.omega := congrArg RotorPart.omega h.part
theorem Gives.omegaD : (t.grp g).omegaD = p.omegaD := congrArg RotorPart.omegaD h.part
theorem Gives.theta : (t.grp g).theta = p.theta := congrArg RotorPart.theta h.part
theorem Gives.govP : (t.grp g).govP = p.govP := congrArg RotorPart.govP h.part
theorem Gives.govF : (t.grp g).govF = p.govF := congrArg RotorPart.govF h.part
theorem Gives.steerF : (t.grp g).steerF = p.steerF := congrArg RotorPart.steerF h.part
theorem Gives.pe : (t.grp g).pe = p.pe := congrArg RotorPart.pe h.part
theorem Gives.trkT : (t.grp g).trkT = p.trkT := congrArg RotorPart.trkT h.part

end

section
variable {l : List Fld} {g : Nat} {s t : State} (h : TickFrame l g s t)
include h

theorem TickFrame.omega : (t.grp g).omega = (s.grp g).omega := h.gives.omega
theorem TickFrame.omegaD : (t.grp g).omegaD = (s.grp g).omegaD := h.gives.omegaD
theorem TickFrame.theta : (t.grp g).theta = (s.grp g).theta := h.gives.theta
theorem TickFrame.govP : (t.grp g).govP = (s.grp g).govP := h.gives.govP
theorem TickFrame.trkT : (t.grp g).trkT = (s.grp g).trkT := h.gives.trkT

end

/-! What the rotor goes by is settled. -/

/-- The fields the rotor goes by and the image are alike in two states. -/
structure Settled (g : Nat) (s t : State) : Prop where
  fields : ∀ f ∈ settledFlds g, t.fld f = s.fld f
  stg : t.stg = s.stg

section
variable {l : List Fld} {p : RotorPart} {g : Fin 8} {s t u : State}

theorem Gives.settled (h : Gives (stepFlds g) g s t p) : Settled g s t :=
  ⟨fun f hf => h.fld (settledFlds_outside g f hf).1, h.stg⟩

theorem TickFrame.settled (h : TickFrame (heldFlds g) g s t) : Settled g s t :=
  ⟨fun f hf => h.fld (settledFlds_outside g f hf).2, h.stg⟩

theorem Settled.trans (h : Settled g s t) (h' : Settled g t u) : Settled g s u :=
  ⟨fun f hf => (h'.fields f hf).trans (h.fields f hf), h'.stg.trans h.stg⟩

theorem Settled.fMin (h : Settled g s t) : t.centiHz g (t.fld (Reg.GFM_FLIM_FMIN g)) = s.centiHz g (s.fld (Reg.GFM_FLIM_FMIN g)) := by
  simp only [State.centiHz, State.fB, fNom, h.fields (Reg.GFM_FLIM_FMIN g) (by simp [settledFlds]),
    h.fields (Reg.GFM_CFG_FNOM g) (by simp [settledFlds])]

theorem Settled.fMax (h : Settled g s t) : t.centiHz g (t.fld (Reg.GFM_FLIM_FMAX g)) = s.centiHz g (s.fld (Reg.GFM_FLIM_FMAX g)) := by
  simp only [State.centiHz, State.fB, fNom, h.fields (Reg.GFM_FLIM_FMAX g) (by simp [settledFlds]),
    h.fields (Reg.GFM_CFG_FNOM g) (by simp [settledFlds])]

theorem Settled.inertia (h : Settled g s t) : t.coef g 0x01 = s.coef g 0x01 := by
  simp only [State.coef, coefWordOf, coefUnset, coefOf, h.fields (Reg.GFM_INERTIA_H_MS g) (by simp [settledFlds])]

theorem Settled.damping (h : Settled g s t) : t.coef g 0x02 = s.coef g 0x02 := by
  simp only [State.coef, coefWordOf, coefUnset, coefOf, h.fields (Reg.GFM_DAMP_TD_MS g) (by simp [settledFlds])]

theorem Settled.droop (h : Settled g s t) : t.coef g 0x03 = s.coef g 0x03 := by
  simp only [State.coef, coefWordOf, coefUnset, coefOf, h.fields (Reg.GFM_DROOP_MP g) (by simp [settledFlds])]

theorem Settled.dampFactor (h : Settled g s t) : t.coef g 0x04 = s.coef g 0x04 := by
  simp only [State.coef, coefWordOf, coefUnset, coefOf, h.fields (Reg.GFM_DAMP_D g) (by simp [settledFlds])]

end

/-! The tick cut at the rotor. -/

/-- The state that a tick has read its inputs into: the trackers, the DC bus and the effective impedance. -/
def State.tickRead (s : State) (g : Nat) (r : GroupRec) (m : TickMeas) : State :=
  let s0 := s.mark (0x2040 + g)
  let s1 := s0.setGrp g { s0.grp g with faTick := 0, derPrev := none, tickReal := some s.eng.real }
  ((s1.track g (s.tickIn g r m) m).busTick g r).effTick g

/-- The check of RIDE, the governors, the steering and the powers of a running tick. -/
def State.tickSet (s : State) (g : Nat) (i : TickIn) : State :=
  let s1 := s.rideCheck g
  let s2 := s1.rideTimes g i.w (s1.mode g != s.mode g)
  let s3 := (s2.governors g i.w).steer g i.w
  if i.vOk && i.iOk then s3.powers g i else s3

/-- Whether a tick's capacitor voltages are valid. -/
def capsOk (m : TickMeas) : Bool := !(m.vcA == nav || m.vcB == nav || m.vc0 == nav)

/-- The state in which a running tick turns the rotor. -/
def State.tickMet (s : State) (g : Nat) (i : TickIn) (m : TickMeas) : State :=
  if (i.vOk && i.iOk) && capsOk m then s.tickSet g i else (s.tickSet g i).heldTick g

theorem State.tickMet_valid (s : State) (g : Nat) {i : TickIn} {m : TickMeas} (h : ((i.vOk && i.iOk) && capsOk m) = true) :
    s.tickMet g i m = s.tickSet g i := by
  rw [State.tickMet, if_pos h]

theorem State.tickMet_held (s : State) (g : Nat) {i : TickIn} {m : TickMeas} (h : ((i.vOk && i.iOk) && capsOk m) = false) :
    s.tickMet g i m = (s.tickSet g i).heldTick g := by
  rw [State.tickMet, if_neg (by simp [h])]

/-- What follows the rotor in a running tick. -/
def State.tickAfter (s : State) (g : Nat) (r : GroupRec) (i : TickIn) (m : TickMeas) : State :=
  let ok := i.vOk && i.iOk
  let s6 := if ok && capsOk m then (s.flux g i).voltageTick g r i m
    else
      let t := if ok then s.flux g i else s
      t.magnitude g i.w ok (t.grp g).bsHeld
  (((s6.syncTick g i.w).gridTick g i.w).holdTick g i.w).stopTick g

theorem State.runTick_eq (s : State) (g : Nat) (r : GroupRec) (i : TickIn) (m : TickMeas) (h : (s.tickMet g i m).mode g ≠ mOFF) :
    s.runTick g r i m = (((s.tickMet g i m).rotor g i (i.vOk && i.iOk)).setSfld (Reg.GFM_GOV_Q g)
      ((s.tickMet g i m).grp g).govQ.out).tickAfter g r i m :=
  if_neg h

/-- What a group's tick comes to, before its registers report it. -/
def State.ticked (s : State) (g : Nat) (r : GroupRec) (m : TickMeas) : State :=
  let t := s.tickRead g r m
  if t.mode g = mOFF then t else t.runTick g r (s.tickIn g r m) m

theorem State.tickGroup_eq (s : State) (g : Nat) (r : GroupRec) (m : TickMeas) (hr : s.groupRec g = some r) (ht : r.typ < 3)
    (ha : s.armed = true) (hm : s.marked (0x2040 + g) = false) :
    TickFrame [] g ((s.ticked g r m).liveRegs g) (s.tickGroup g m) := by
  unfold State.tickGroup
  rw [hr]
  dsimp only
  rw [if_pos ⟨ht, ha, hm⟩]
  exact ((State.burstTick_frame _ g _).trans (State.leaderTick_frame _ g)).trans (State.tallyTick_frame ..)

variable (s : State) (g : Fin 8) (r : GroupRec) (i : TickIn) (m : TickMeas)

/-- Before the rotor's steps, only the tracker of the terminals moves. -/
theorem State.tickRead_gives : ∃ p, Gives (tickFlds g) g s (s.tickRead g r m) p ∧ p.omega = (s.grp g).omega ∧
    p.omegaD = (s.grp g).omegaD ∧ p.theta = (s.grp g).theta ∧ p.govP = (s.grp g).govP ∧
    p.trkT = (s.grp g).trkT.tick (s.fB g) (s.tickIn g r m).w (s.tickIn g r m).kth (s.grp g).omega (s.tickIn g r m).vOk
      (s.tickIn g r m).one m.kSogi.toInt (s.tickIn g r m).vAl (s.tickIn g r m).vBe := by
  unfold State.tickRead
  extract_lets s0 x s1
  have h0 : TickFrame (tickFlds g) g s s0 := (TickFrame.refl ..).same rfl rfl rfl
  have h1 : TickFrame (tickFlds g) g s s1 := h0.setGrp rfl
  have ho : (s1.grp g).omega = (s.grp g).omega := h1.omega
  have ht : (s1.grp g).trkT = (s.grp g).trkT := h1.trkT
  have htrack := h1.gives.trans (s1.track_gives g (s.tickIn g r m) m)
  refine ⟨_, (htrack.calm (State.busTick_calm _ g r)).calm (State.effTick_calm _ g), ho, h1.omegaD,
    h1.theta, h1.govP, ?_⟩
  change (s1.grp g).trkT.tick (s1.fB g) _ _ (s1.grp g).omega _ _ _ _ _ = _
  rw [ho, ht]
  rfl

/-- The governors and the steering leave the rotor's state, and outside STOPPING the governor P takes its tick toward the clamped
set-point (R48, R49). -/
theorem State.govSteer_gives (w : Int) : ∃ p, Gives (tickFlds g) g s ((s.governors g w).steer g w) p ∧ p.omega = (s.grp g).omega ∧
    p.omegaD = (s.grp g).omegaD ∧ p.theta = (s.grp g).theta ∧
    (s.mode g ≠ mSTOPPING → p.govP = (s.grp g).govP.tick
      (within (-milli (s.fld (Reg.GFM_PQMAX_PMAX g))) (milli (s.fld (Reg.GFM_PQMAX_PMAX g))) (s.sfld (Reg.GFM_PSET g))) w
      (s.fld (Reg.GFM_SLEW_PQ_RATE_P g)) (s.fld (Reg.GFM_ACCEL_PQ_ACC_P g))) := by
  obtain ⟨gf, hgov⟩ := s.governors_gives g w
  obtain ⟨sf, hsteer⟩ := (s.governors g w).steer_gives g w
  refine ⟨_, hgov.trans hsteer, hgov.omega, hgov.omegaD, hgov.theta, fun hs => hgov.govP.trans ?_⟩
  rw [decide_eq_false hs, if_neg Bool.false_ne_true]

/-- Powers are taken with valid operands alone (R41), and leave the rotor. -/
theorem State.powersIf_gives (ok : Bool) : ∃ p, Gives (tickFlds g) g s (if ok then s.powers g i else s) p ∧
    p.omega = (s.grp g).omega ∧ p.omegaD = (s.grp g).omegaD ∧ p.theta = (s.grp g).theta ∧ p.govP = (s.grp g).govP := by
  obtain ⟨pe, hpow⟩ := s.powers_gives g i
  split
  · exact ⟨_, hpow, rfl, rfl, rfl, rfl⟩
  · exact ⟨_, (TickFrame.refl ..).gives, rfl, rfl, rfl, rfl⟩

/-- The steps before the rotor leave its state, and the governor P takes its tick toward the clamped set-point (R48, R49). -/
theorem State.tickSet_gives : ∃ p, Gives (stepFlds g) g s (s.tickSet g i) p ∧ p.omega = (s.grp g).omega ∧ p.omegaD = (s.grp g).omegaD ∧
    p.theta = (s.grp g).theta ∧ (s.tickSet g i).mode g = (s.rideCheck g).mode g ∧
    (s.mode g ≠ mSTOPPING → p.govP = (s.grp g).govP.tick
      (within (-milli (s.fld (Reg.GFM_PQMAX_PMAX g))) (milli (s.fld (Reg.GFM_PQMAX_PMAX g))) (s.sfld (Reg.GFM_PSET g))) i.w
      (s.fld (Reg.GFM_SLEW_PQ_RATE_P g)) (s.fld (Reg.GFM_ACCEL_PQ_ACC_P g))) := by
  unfold State.tickSet
  extract_lets s1 s2 s3
  have h12 : Calm g s1 s2 := s1.rideTimes_calm ..
  have h2 : TickFrame (stepFlds g) g s s2 := (s.rideCheck_frame g).trans (h12.mono (tickFlds_sub_stepFlds g))
  obtain ⟨p3, h3, hom3, homd3, hth3, hgp3⟩ := s2.govSteer_gives g i.w
  rw [show (s2.governors g i.w).steer g i.w = s3 from rfl] at h3
  obtain ⟨p, hp, hom, homd, hth, hgp⟩ := s3.powersIf_gives g i (i.vOk && i.iOk)
  have hset : Settled g s s2 := h2.gives.settled
  have hmode : s3.mode g = s2.mode g := h3.fld (mode_outside g).1
  have hmode2 : s2.mode g = (s.rideCheck g).mode g := Calm.mode h12
  clear_value s3 s2
  refine ⟨p, h2.gives.trans ((h3.trans hp).mono (tickFlds_sub_stepFlds g)), ?_, ?_, ?_,
    (hp.fld (mode_outside g).1).trans (hmode.trans hmode2), fun hs => ?_⟩
  · rw [hom, h3.omega, hom3, h2.omega]
  · rw [homd, h3.omegaD, homd3, h2.omegaD]
  · rw [hth, h3.theta, hth3, h2.theta]
  · have hstop : s2.mode g ≠ mSTOPPING := by
      rcases s.mode_rideCheck g with h | h
      · rwa [hmode2, h]
      · rw [hmode2, h]; decide
    rw [hgp, h3.govP, hgp3 hstop, h2.govP]
    simp only [State.sfld, hset.fields (Reg.GFM_PQMAX_PMAX g) (by simp [settledFlds]), hset.fields (Reg.GFM_PSET g) (by simp [settledFlds]),
      hset.fields (Reg.GFM_SLEW_PQ_RATE_P g) (by simp [settledFlds]), hset.fields (Reg.GFM_ACCEL_PQ_ACC_P g) (by simp [settledFlds])]

/-! After the rotor. -/

theorem State.enterSync_frame (g : Nat) : TickFrame (stepFlds g) g s (s.enterSync g) := by
  have hgrp : TickFrame (stepFlds g) g s
      (s.setGrp g { s.grp g with dwell := 0, syncClose := false, closeWait := false, pulse := false }) := (TickFrame.refl ..).setGrp rfl
  exact hgrp.trans ((State.setMode_frame _ g mSYNCING (by decide)).mono fun _ hx => List.mem_cons.mpr (.inl (List.mem_singleton.mp hx)))

theorem State.gridTick_frame (g : Nat) (w : Int) : TickFrame (stepFlds g) g s (s.gridTick g w) := by
  unfold State.gridTick
  extract_lets r c ok t
  have ht : TickFrame (stepFlds g) g s t := (TickFrame.refl ..).setGrp rfl
  split
  · exact .ite (ht.trans (t.enterSync_frame g)) ht
  · exact (TickFrame.refl ..).setGrp rfl

theorem State.mode_gridTick_of_ne_island (g : Nat) (w : Int) (h : s.mode g ≠ mISLAND) : (s.gridTick g w).mode g = s.mode g := by
  unfold State.gridTick
  extract_lets r c ok t
  rw [if_neg (fun hc => h hc.1)]
  rfl

theorem State.tickAfter_frame : TickFrame (stepFlds g) g s (s.tickAfter g r i m) ∧
    (s.mode g = mRIDE → (s.tickAfter g r i m).mode g = mRIDE) := by
  unfold State.tickAfter
  extract_lets ok t s6
  have ht : Calm g s t := .ite (s.flux_calm ..) (.refl ..)
  have h6 : Calm g s s6 := .ite ((s.flux_calm ..).trans (State.voltageTick_calm ..)) (ht.trans (State.magnitude_calm ..))
  have h7 : Calm g s (s6.syncTick g i.w) := h6.trans (s6.syncTick_calm ..)
  have h8 := (State.holdTick_calm ((s6.syncTick g i.w).gridTick g i.w) g i.w).trans (State.stopTick_calm _ g)
  constructor
  · exact ((h7.mono (tickFlds_sub_stepFlds g)).trans (State.gridTick_frame ..)).trans (h8.mono (tickFlds_sub_stepFlds g))
  · intro hr
    have hm : (s6.syncTick g i.w).mode g = mRIDE := h7.mode.trans hr
    have hg := State.mode_gridTick_of_ne_island (s6.syncTick g i.w) g i.w (by rw [hm]; decide)
    exact (Calm.mode h8).trans (hg.trans hm)

end Sys2Proof.Machine
end

/-! The rotor's law over a whole tick (R38 to R40, R49, R55). -/

section
open Sys2Proof Sys2Proof.Machine

namespace Sys2Proof.Machine

theorem within_between {lo hi : Int} (h : lo ≤ hi) (x : Int) : lo ≤ within lo hi x ∧ within lo hi x ≤ hi := by
  unfold within
  split
  · exact ⟨le_refl _, h⟩
  · split
    · exact ⟨h, le_refl _⟩
    · omega

theorem within_self {lo hi x : Int} (hl : lo ≤ x) (hh : x ≤ hi) : within lo hi x = x := by
  rw [within, if_neg (by omega), if_neg (by omega)]

/-- The state `w` that the rotor meets has the rotor, and what it goes by, of the state `s` before the tick. -/
structure Met (s : State) (g : Fin 8) (w : State) : Prop where
  settled : Settled g s w
  omega : (w.grp g).omega = (s.grp g).omega
  omegaD : (w.grp g).omegaD = (s.grp g).omegaD
  theta : (w.grp g).theta = (s.grp g).theta

/-- The rotor of the state `t` after a tick, from that of the state `s` before it, where the rotor met the state `w`: within its limits, by
the swing equation with valid operands outside RIDE and BLACK_START, and held with invalid ones (R38, R39). -/
structure Turned (s : State) (g : Fin 8) (i : TickIn) (w t : State) : Prop where
  omega : ∃ raw, (t.grp g).omega = within (s.centiHz g (s.fld (Reg.GFM_FLIM_FMIN g))) (s.centiHz g (s.fld (Reg.GFM_FLIM_FMAX g))) raw ∧
    ((i.vOk && i.iOk) = false → raw = (s.grp g).omega)
  theta : (t.grp g).theta = turn (s.grp g).theta (t.grp g).omega i.w i.kth
  law : (i.vOk && i.iOk) = true → w.mode g ≠ mRIDE → w.mode g ≠ mBLACK →
    (t.grp g).omega = within (s.centiHz g (s.fld (Reg.GFM_FLIM_FMIN g))) (s.centiHz g (s.fld (Reg.GFM_FLIM_FMAX g)))
      (swing (s.grp g).omega (s.grp g).omegaD (t.grp g).govP.out ((t.grp g).govF.out + roundShift (t.grp g).steerF 28) (t.grp g).pe i.w
        (s.coef g 0x01) (s.coef g 0x03) (s.coef g 0x04)) ∧
    (t.grp g).omegaD = washout (s.grp g).omega (s.grp g).omegaD i.w (s.coef g 0x02)
  ride : w.mode g = mRIDE → t.mode g = mRIDE
  govP : (t.grp g).govP = (w.grp g).govP
  kept : ∀ f, outside (stepFlds g) f = true → t.fld f = w.fld f

variable (s : State) (g : Fin 8) (r : GroupRec) (i : TickIn) (m : TickMeas)

/-- What the rotor gives at the end of a running tick, from the state `w` that it met. -/
theorem State.runTick_turns {w : State} (hw : s.tickMet g i m = w) (hm : w.mode g ≠ mOFF) :
    let lim := within (w.centiHz g (w.fld (Reg.GFM_FLIM_FMIN g))) (w.centiHz g (w.fld (Reg.GFM_FLIM_FMAX g)))
    let r' := w.grp g
    ∃ raw omd, Gives (stepFlds g) g w (s.runTick g r i m) { r'.rotorPart with
        omega := lim raw, omegaD := omd, theta := turn r'.theta (lim raw) i.w i.kth } ∧
      ((i.vOk && i.iOk) = false → raw = r'.omega) ∧
      ((i.vOk && i.iOk) = true → w.mode g ≠ mRIDE → w.mode g ≠ mBLACK →
        raw = swing r'.omega r'.omegaD r'.govP.out (r'.govF.out + roundShift r'.steerF 28) r'.pe i.w (w.coef g 0x01) (w.coef g 0x03)
          (w.coef g 0x04) ∧
        omd = washout r'.omega r'.omegaD i.w (w.coef g 0x02)) ∧
      (w.mode g = mRIDE → (s.runTick g r i m).mode g = mRIDE) := by
  intro lim r'
  obtain ⟨raw, omd, hrot, hheld, hlaw⟩ := w.rotor_gives g i (i.vOk && i.iOk)
  rw [s.runTick_eq g r i m (hw ▸ hm), hw]
  have hq : Calm g (w.rotor g i (i.vOk && i.iOk)) ((w.rotor g i (i.vOk && i.iOk)).setSfld (Reg.GFM_GOV_Q g) (w.grp g).govQ.out) :=
    (TickFrame.refl ..).setSfld (by simp [tickFlds]) _
  have hturn := hrot.calm hq
  have hmode := hturn.fld (mode_outside g).1
  obtain ⟨hafter, hride⟩ := State.tickAfter_frame ((w.rotor g i (i.vOk && i.iOk)).setSfld (Reg.GFM_GOV_Q g) (w.grp g).govQ.out) g r i m
  exact ⟨raw, omd, (hturn.mono (tickFlds_sub_stepFlds g)).calm hafter, hheld, hlaw,
    fun h => hride (hmode.trans h)⟩

theorem rotor_outside : ∀ g : Fin 8, outside [] (Reg.GFM_ROTOR_F g) = true ∧ outside [] (Reg.GFM_ROTOR_TH g) = true := by decide

/-- What a tick's registers report of the state it came to (R55). -/
theorem State.tickGroup_reports (hr : s.groupRec g = some r) (ht : r.typ < 3) (ha : s.armed = true)
    (hm : s.marked (0x2040 + g.val) = false) :
    Calm g (s.ticked g r m) (s.tickGroup g m) ∧
    (s.tickGroup g m).fld (Reg.GFM_ROTOR_F g) = unsignedOf 32 (clampInt ((s.tickGroup g m).grp g).omega) % 2 ^ 32 ∧
    (s.tickGroup g m).fld (Reg.GFM_ROTOR_TH g) = unsignedOf 32 (clampInt ((s.tickGroup g m).grp g).theta) % 2 ^ 32 := by
  have hlive := (s.ticked g r m).liveRegs_calm g
  have hrest := s.tickGroup_eq g r m hr ht ha hm
  have hall := hlive.trans hrest.high
  have hrot := (s.ticked g r m).liveRegs_rotor g
  have hom : ((s.tickGroup g m).grp g).omega = ((s.ticked g r m).grp g).omega := hall.omega
  have hth : ((s.tickGroup g m).grp g).theta = ((s.ticked g r m).grp g).theta := hall.theta
  rw [hom, hth, hrest.fld (rotor_outside g).1, hrest.fld (rotor_outside g).2]
  exact ⟨hall, hrot⟩

theorem capsOk_iff : capsOk m = true ↔ m.vcA ≠ nav ∧ m.vcB ≠ nav ∧ m.vc0 ≠ nav := by
  simp [capsOk, and_assoc]

/-- A tick of a group that is OFF reads its inputs, and no more (R60). -/
theorem State.ticked_off (h : s.mode g = mOFF) : s.ticked g r m = s.tickRead g r m := by
  obtain ⟨p, hread, -⟩ := s.tickRead_gives g r m
  exact if_pos ((hread.fld (mode_outside g).1).trans h)

theorem State.ticked_running (h : s.mode g ≠ mOFF) : s.ticked g r m = (s.tickRead g r m).runTick g r (s.tickIn g r m) m := by
  obtain ⟨p, hread, -⟩ := s.tickRead_gives g r m
  exact if_neg fun hc => h ((hread.fld (mode_outside g).1).symm.trans hc)

section
variable (hr : s.groupRec g = some r) (ht : r.typ < 3) (ha : s.armed = true) (hm : s.marked (0x2040 + g.val) = false)
include hr ht ha hm

/-- A tick of a group that is OFF (R38, R60). -/
theorem State.tickGroup_off (h : s.mode g = mOFF) :
    (s.tickGroup g m).mode g = mOFF ∧ ((s.tickGroup g m).grp g).omega = (s.grp g).omega ∧
    ((s.tickGroup g m).grp g).theta = (s.grp g).theta ∧
    ((s.tickGroup g m).grp g).trkT = (s.grp g).trkT.tick (s.fB g) (s.tickIn g r m).w (s.tickIn g r m).kth (s.grp g).omega
      (s.tickIn g r m).vOk (s.tickIn g r m).one m.kSogi.toInt (s.tickIn g r m).vAl (s.tickIn g r m).vBe := by
  obtain ⟨p, hread, hom, -, hth, -, htrk⟩ := s.tickRead_gives g r m
  obtain ⟨hcalm, -⟩ := s.tickGroup_reports g r m hr ht ha hm
  rw [s.ticked_off g r m h] at hcalm
  have hall := hread.calm hcalm
  exact ⟨(hall.fld (mode_outside g).1).trans h, hall.omega.trans hom, hall.theta.trans hth, hall.trkT.trans htrk⟩

/-- The rotor's law over a tick of a running group, where the steps before it leave the rotor and what it goes by. -/
theorem State.tickGroup_turns (h : s.mode g ≠ mOFF) {w : State} (hw : (s.tickRead g r m).tickMet g (s.tickIn g r m) m = w)
    (hmet : Met s g w) (hmode : w.mode g ≠ mOFF) : Turned s g (s.tickIn g r m) w (s.tickGroup g m) := by
  obtain ⟨raw, omd, hrun, hheld, hlaw, hride⟩ := (s.tickRead g r m).runTick_turns g r (s.tickIn g r m) m hw hmode
  obtain ⟨hcalm, -⟩ := s.tickGroup_reports g r m hr ht ha hm
  rw [s.ticked_running g r m h] at hcalm
  have hall := hrun.calm (hcalm.mono (tickFlds_sub_stepFlds g))
  rw [hmet.settled.fMin, hmet.settled.fMax, hmet.theta] at hall
  rw [hmet.omega] at hheld
  rw [hmet.omega, hmet.omegaD, hmet.settled.inertia, hmet.settled.damping, hmet.settled.droop, hmet.settled.dampFactor] at hlaw
  have hmode' := Calm.mode hcalm
  refine ⟨⟨raw, hall.omega, hheld⟩, ?_, fun hok hr hb => ?_, fun hr => hmode'.trans (hride hr), hall.govP, fun f hf => hall.fld hf⟩
  · rw [hall.theta, hall.omega]
  · obtain ⟨hraw, homd⟩ := hlaw hok hr hb
    rw [hall.omega, hall.omegaD, hall.govP, hall.govF, hall.steerF, hall.pe, hraw]
    exact ⟨rfl, homd⟩

end

/-! What the rotor meets, with operands that are valid and with ones that are not. -/

theorem State.tickSet_met : Met s g ((s.tickRead g r m).tickSet g (s.tickIn g r m)) ∧
    (((s.tickRead g r m).tickSet g (s.tickIn g r m)).mode g = s.mode g ∨
      s.on (Reg.GFM_FRT_CFG_FRT_EN g) = true ∧ ((s.tickRead g r m).tickSet g (s.tickIn g r m)).mode g = mRIDE) ∧
    (s.mode g ≠ mSTOPPING → (((s.tickRead g r m).tickSet g (s.tickIn g r m)).grp g).govP = (s.grp g).govP.tick
      (within (-milli (s.fld (Reg.GFM_PQMAX_PMAX g))) (milli (s.fld (Reg.GFM_PQMAX_PMAX g))) (s.sfld (Reg.GFM_PSET g)))
      (s.tickIn g r m).w (s.fld (Reg.GFM_SLEW_PQ_RATE_P g)) (s.fld (Reg.GFM_ACCEL_PQ_ACC_P g))) := by
  obtain ⟨p, hread, hom, homd, hth, hgp, -⟩ := s.tickRead_gives g r m
  obtain ⟨q, hset, hom', homd', hth', hmode, hgp'⟩ := (s.tickRead g r m).tickSet_gives g (s.tickIn g r m)
  have hvs : Settled g s (s.tickRead g r m) := (hread.mono (tickFlds_sub_stepFlds g)).settled
  have hvm : (s.tickRead g r m).mode g = s.mode g := hread.fld (mode_outside g).1
  refine ⟨⟨hvs.trans hset.settled, ?_, ?_, ?_⟩, ?_, fun hs => ?_⟩
  · rw [hset.omega, hom', hread.omega, hom]
  · rw [hset.omegaD, homd', hread.omegaD, homd]
  · rw [hset.theta, hth', hread.theta, hth]
  · have hfrt : (s.tickRead g r m).on (Reg.GFM_FRT_CFG_FRT_EN g) = s.on (Reg.GFM_FRT_CFG_FRT_EN g) :=
      congrArg (· == 1) (hvs.fields _ (by simp [settledFlds]))
    cases hon : s.on (Reg.GFM_FRT_CFG_FRT_EN g)
    case false =>
      left
      rw [hmode, State.rideCheck_off _ _ (hfrt.trans hon), hvm]
    case true => exact (State.mode_rideCheck (s.tickRead g r m) g).imp (fun h => hmode.trans (h.trans hvm)) fun h => ⟨rfl, hmode.trans h⟩
  · rw [hset.govP, hgp' (hvm ▸ hs), hread.govP, hgp]
    simp only [State.sfld, hvs.fields (Reg.GFM_PQMAX_PMAX g) (by simp [settledFlds]), hvs.fields (Reg.GFM_PSET g) (by simp [settledFlds]),
      hvs.fields (Reg.GFM_SLEW_PQ_RATE_P g) (by simp [settledFlds]), hvs.fields (Reg.GFM_ACCEL_PQ_ACC_P g) (by simp [settledFlds])]

theorem Met.heldTick {w : State} (h : Met s g w) (hact : s.actionOf g 1 = 0) : Met s g (w.heldTick g) ∧
    (w.heldTick g).mode g = w.mode g ∧ (w.heldTick g).on (Reg.GFM_STATUS_HELD_S g) = true ∧
    (w.heldTick g).fld (Reg.GFM_FA_LAST_SOURCE g) = 1 := by
  obtain ⟨hframe, hheld, hsrc⟩ := w.heldTick_log g ((State.actionOf_congr h.settled.stg g 1).trans hact)
  exact ⟨⟨h.settled.trans hframe.settled, hframe.omega.trans h.omega, hframe.omegaD.trans h.omegaD,
    hframe.theta.trans h.theta⟩, hframe.fld (mode_outside g).2, hheld, hsrc⟩

/-! The three cases of a running tick. -/

section
variable (hr : s.groupRec g = some r) (ht : r.typ < 3) (ha : s.armed = true) (hm : s.marked (0x2040 + g.val) = false)
include hr ht ha hm

/-- With valid operands the rotor meets what the steps before it set. -/
theorem State.tickGroup_valid (h : s.mode g ≠ mOFF) (hok : ((s.tickIn g r m).vOk && (s.tickIn g r m).iOk) = true) (hvc : capsOk m = true) :
    Turned s g (s.tickIn g r m) ((s.tickRead g r m).tickSet g (s.tickIn g r m)) (s.tickGroup g m) := by
  obtain ⟨hmet, hmode, -⟩ := s.tickSet_met g r m
  refine s.tickGroup_turns g r m hr ht ha hm h (State.tickMet_valid _ _ (by rw [hok, hvc]; rfl)) hmet ?_
  rcases hmode with hmode | ⟨-, hmode⟩
  · rwa [hmode]
  · rw [hmode]; decide

/-- With invalid operands, of the rotor or of the voltage controller, it meets a tick that is recorded (R7). -/
theorem State.tickGroup_held (h : s.mode g = mISLAND ∨ s.mode g = mCONNECTED) (hfrt : s.on (Reg.GFM_FRT_CFG_FRT_EN g) = false)
    (hbad : (((s.tickIn g r m).vOk && (s.tickIn g r m).iOk) && capsOk m) = false) (hact : s.actionOf g 1 = 0) :
    (∃ w, Turned s g (s.tickIn g r m) w (s.tickGroup g m)) ∧ (s.tickGroup g m).on (Reg.GFM_STATUS_HELD_S g) = true ∧
    (s.tickGroup g m).fld (Reg.GFM_FA_LAST_SOURCE g) = 1 := by
  have hrun : s.mode g ≠ mOFF := by rcases h with h | h <;> rw [h] <;> decide
  obtain ⟨hmet, hmode, -⟩ := s.tickSet_met g r m
  obtain ⟨hmet', hmode', hheld, hsrc⟩ := hmet.heldTick s g hact
  have hsame := hmode.resolve_right fun hc => absurd hc.1 (by simp [hfrt])
  have hturn := s.tickGroup_turns g r m hr ht ha hm hrun (State.tickMet_held _ _ hbad) hmet' (by rwa [hmode', hsame])
  exact ⟨⟨_, hturn⟩, (congrArg (· == 1) (hturn.kept _ (held_outside g).1)).trans hheld, (hturn.kept _ (source_outside g).1).trans hsrc⟩

end

end Sys2Proof.Machine

/-- Settles O22, by cutting the tick at its rotor: the steps before it leave the rotor and the fields it goes by, those after it leave what
it gave. -/
theorem rotorTicksFollowTheSwingEquation : Obligations.RotorTicksFollowTheSwingEquation := by
  intro s g r m hr ht ha hm
  refine ⟨fun hoff => ?_, fun hrun hv hi hA hB h0 => ?_, fun hmode hfrt hbad hact => ?_, fun hmode hfrt hv hi hbad hact => ?_⟩
  · exact ⟨_, rfl, s.tickGroup_off g r m hr ht ha hm hoff⟩
  · have hok : ((s.tickIn g r m).vOk && (s.tickIn g r m).iOk) = true := by rw [hv, hi]; rfl
    have hturn := s.tickGroup_valid g r m hr ht ha hm hrun hok ((capsOk_iff m).mpr ⟨hA, hB, h0⟩)
    obtain ⟨-, hmode, hgovP⟩ := s.tickSet_met g r m
    obtain ⟨-, hF, hTh⟩ := s.tickGroup_reports g r m hr ht ha hm
    obtain ⟨raw, homega, -⟩ := hturn.omega
    refine ⟨_, rfl, hturn.theta, fun hlim => ?_, hF, hTh, fun hblack hride => ?_, fun hstop => hturn.govP.trans (hgovP hstop)⟩
    · rw [homega]
      exact within_between hlim raw
    · refine hturn.law hok (fun hc => hride (hturn.ride hc)) ?_
      rcases hmode with hmode | ⟨-, hmode⟩
      · rwa [hmode]
      · rw [hmode]; decide
  · obtain ⟨⟨w, hturn⟩, hheld, hsrc⟩ := s.tickGroup_held g r m hr ht ha hm hmode hfrt (by rw [hbad]; rfl) hact
    obtain ⟨raw, homega, hraw⟩ := hturn.omega
    refine ⟨_, rfl, fun hlo hhi => ?_, hturn.theta, hheld, hsrc⟩
    rw [homega, hraw hbad]
    exact within_self hlo hhi
  · have hvc : capsOk m = false := by
      rw [← Bool.not_eq_true, capsOk_iff]
      rintro ⟨hA, hB, h0⟩
      rcases hbad with h | h | h <;> contradiction
    obtain ⟨⟨w, hturn⟩, hheld, hsrc⟩ := s.tickGroup_held g r m hr ht ha hm hmode hfrt (by rw [hvc, Bool.and_false]) hact
    exact ⟨_, rfl, hturn.theta, hheld, hsrc⟩

end

/-! Register fields by block: what the actions of a fault may write. -/

section
open Sys2Proof Sys2Proof.Machine

namespace Sys2Proof.Machine

/-- A fold over an index range keeps what each of its steps keeps. -/
theorem forIdx_induct_lt {σ : Type} {P : σ → Prop} {f : Nat → σ → σ} {s : σ} {n : Nat}
    (hf : ∀ k t, k < n → P t → P (f k t)) (hs : P s) : P (forIdx n f s) := by
  unfold forIdx
  exact List.foldlRecOn _ _ hs fun t ht k hk => hf k t (List.mem_range.1 hk) ht

theorem forIdx_succ {σ : Type} (n : Nat) (f : Nat → σ → σ) (s : σ) : forIdx (n + 1) f s = f n (forIdx n f s) := by
  simp [forIdx, List.range_succ]

/-- What each step of a fold makes for its own index, and every step keeps, holds for each index at its end. -/
theorem forIdx_each {σ : Type} {Q : Nat → σ → Prop} {f : Nat → σ → σ} {s : σ} {n : Nat}
    (hmake : ∀ k t, k < n → Q k (f k t)) (hkeep : ∀ j k t, Q j t → Q j (f k t)) : ∀ j, j < n → Q j (forIdx n f s) := by
  induction n with
  | zero => exact fun j hj => absurd hj (Nat.not_lt_zero j)
  | succ n ih =>
    intro j hj
    rw [forIdx_succ]
    rcases Nat.lt_succ_iff_lt_or_eq.1 hj with h | rfl
    · exact hkeep j n _ (ih (fun k t hk => hmake k t (Nat.lt_succ_of_lt hk)) j h)
    · exact hmake j _ hj

/-- Of the register fields, at most those of some blocks, and some that are listed, differ in effect. -/
structure Beside (bs : List Nat) (l : List Fld) (s t : State) : Prop where
  fld : ∀ f : Fld, f.blk ∉ bs → (∀ g ∈ l, f.key ≠ g.key) → t.fld f = s.fld f

variable {bs bs' : List Nat} {l l' : List Fld} {s t u : State}

theorem Beside.refl (s : State) : Beside bs l s s := ⟨fun _ _ _ => rfl⟩

theorem Beside.trans (h : Beside bs l s t) (h' : Beside bs l t u) : Beside bs l s u :=
  ⟨fun f hb hl => (h'.fld f hb hl).trans (h.fld f hb hl)⟩

theorem Beside.mono (h : Beside bs l s t) (hb : ∀ b ∈ bs, b ∈ bs') (hl : ∀ g ∈ l, g ∈ l') : Beside bs' l' s t :=
  ⟨fun f hf hg => h.fld f (fun hm => hf (hb _ hm)) fun g hm => hg g (hl g hm)⟩

theorem Beside.same (h : Beside bs l s t) (hu : u.regs = t.regs) : Beside bs l s u := h.trans ⟨fun f _ _ => State.fld_congr hu f⟩

/-- A change within parts beside the register fields. -/
theorem Beside.within {ps : List Part} (h : Beside bs l s t) (hu : Within ps t u) (hp : Part.regs ∉ ps) : Beside bs l s u :=
  h.trans ⟨fun f _ _ => congrArg (fun m => tabGet (resetOf f.key) m f.key) (hu.frame .regs hp)⟩

/-- A write of a field of one of the blocks. -/
theorem Beside.setFld (h : Beside bs l s t) {f : Fld} (hf : f.blk ∈ bs) (v : Nat) : Beside bs l s (t.setFld f v) :=
  h.trans ⟨fun _ hg _ => t.fld_setFld_other v fun hk => hg (by rwa [Fld.blk, hk])⟩

/-- A write of a listed field. -/
theorem Beside.setListed (h : Beside bs l s t) {f : Fld} (hf : f ∈ l) (v : Nat) : Beside bs l s (t.setFld f v) :=
  h.trans ⟨fun _ _ hg => t.fld_setFld_other v (hg f hf)⟩

theorem Beside.raiseBit (h : Beside bs l s t) {f : Fld} (hf : f.blk ∈ bs) (b : Nat) : Beside bs l s (t.raiseBit f b) :=
  (h.setFld hf _).same rfl

theorem Beside.raise (h : Beside bs l s t) {f : Fld} (hf : f.blk ∈ bs) : Beside bs l s (t.raise f) := h.raiseBit hf 0

theorem Beside.count (h : Beside bs l s t) {f : Fld} (hf : f.blk ∈ bs) : Beside bs l s (t.count f) := (h.setFld hf _).same rfl

theorem Beside.stamp (h : Beside bs l s t) {lo hi : Fld} (hlo : lo.blk ∈ bs) (hhi : hi.blk ∈ bs) (v : Nat) :
    Beside bs l s (t.stamp lo hi v) := (h.setFld hlo _).setFld hhi _

theorem Beside.ite {c : Prop} [Decidable c] (h : Beside bs l s t) (h' : Beside bs l s u) : Beside bs l s (if c then t else u) := by
  split
  · exact h
  · exact h'

theorem Beside.forIdx {n : Nat} {f : Nat → State → State} (hf : ∀ (k : Fin n) u, Beside bs l u (f k u)) (h : Beside bs l s t) :
    Beside bs l s (forIdx n f t) := forIdx_induct_lt (P := Beside bs l s) (fun k u hk hu => hu.trans (hf ⟨k, hk⟩ u)) h

theorem Beside.foldl {β : Type} {f : State → β → State} {xs : List β} (hf : ∀ u x, Beside bs l u (f u x)) (h : Beside bs l s t) :
    Beside bs l s (xs.foldl f t) := foldl_induct (P := Beside bs l s) (fun u x hu => hu.trans (hf u x)) h

/-! Contour's sequencers write fields of the CTR block alone. -/

/-- The fields of a sequencer that a sample or an event may write. -/
def seqFlds (k : Nat) : List Fld :=
  [Reg.CTR_SEQ_TRIG_STAMP_LO k, Reg.CTR_SEQ_TRIG_STAMP_HI k, Reg.CTR_SEQ_STATUS_RSTATE k, Reg.CTR_SEQ_STATUS_STATE k,
    Reg.CTR_SEQ_STATUS_COUNT k]

theorem seqFlds_blk : ∀ k : Fin 4, ∀ f ∈ seqFlds k, f.blk ∈ [11] := by decide

theorem seqFld_blk (k : Fin 4) {f : Fld} (hf : f ∈ seqFlds k := by simp [seqFlds]) : f.blk ∈ [11] := seqFlds_blk k f hf

theorem State.ctrPush_ctr (s : State) (ch a r : Nat) : Beside [11] [] s (s.ctrPush ch a r) :=
  .ite ((Beside.refl ..).same rfl) ((((Beside.refl ..).count (f := Reg.CTR_CNT_GAP_CNT) (by decide)).raise
    (f := Reg.CTR_STATUS_GAP_S) (by decide)).same rfl)

theorem State.seqTrigger_ctr (s : State) (k : Fin 4) : Beside [11] [] s (s.seqTrigger k) := by
  unfold State.seqTrigger
  extract_lets s1 s2
  have h1 : Beside [11] [] s s1 := s.ctrPush_ctr ..
  have h2 : Beside [11] [] s s2 := (h1.stamp (seqFld_blk k) (seqFld_blk k) _).raiseBit (by decide) k
  exact (h2.setFld (f := Reg.CTR_SEQ_STATUS_RSTATE k) (seqFld_blk k) _).same rfl

theorem State.seqEnter_ctr (s : State) (k : Fin 4) (j : Nat) : Beside [11] [] s (s.seqEnter k j) :=
  (((Beside.refl ..).setFld (f := Reg.CTR_SEQ_STATUS_STATE k) (seqFld_blk k) j).setFld (f := Reg.CTR_SEQ_STATUS_COUNT k)
    (seqFld_blk k) 0).same rfl

theorem State.seqOccur_ctr (s : State) (k : Fin 4) : Beside [11] [] s (s.seqOccur k) := by
  have hcount (n : Nat) : Beside [11] [] s (s.setFld (Reg.CTR_SEQ_STATUS_COUNT k) n) := (Beside.refl ..).setFld (seqFld_blk k) n
  exact .ite (hcount _) (.ite ((hcount 0).trans (State.seqTrigger_ctr _ k)) (s.seqEnter_ctr k _))

theorem State.ctrEvent_ctr (s : State) (e : Nat) : Beside [11] [] s (s.ctrEvent e) :=
  .forIdx (fun k u => .ite (u.seqOccur_ctr k) (.refl ..)) (.refl ..)

/-! The fault actions (R88) and the trips (R225) write fields of the GFM, ADC, PWM, TRP, CTR and SND blocks, and HO_BUSY. -/

/-- What a fault action or a trip may write. -/
abbrev Acts (s t : State) : Prop := Beside [3, 5, 6, 8, 11, 12] [Reg.TWN_STATUS_HO_BUSY] s t

/-- The fields of a group that a fault action may write. -/
def groupFlds (g : Nat) : List Fld :=
  [Reg.SND_G_STATUS_STATE g, Reg.SND_G_INJ_A g, Reg.SND_G_INJ_B g, Reg.SND_G_STATUS_ABORT_S g, Reg.SND_G_CNT_ABORT_CNT g,
    Reg.BRG_G_STATUS_TXSTATE g, Reg.BRG_G_STATUS_TXFAIL_S g, Reg.GFM_EVT_STATUS_MODE g, Reg.GFM_RESID_A g, Reg.GFM_RESID_B g,
    Reg.GFM_RESID_C g, Reg.GFM_CTRL_EN g, Reg.GFM_STATUS_RUN g, Reg.GFM_EVT_STATUS_REC g, Reg.GFM_ILIM_NOW g, Reg.GFM_FA_LAST_ACTION g,
    Reg.GFM_FA_LAST_SOURCE g, Reg.GFM_EVT_STATUS_FA_S g, Reg.GFM_FA_STAMP_LO g, Reg.GFM_FA_STAMP_HI g]

/-- The fields of a leg that a fault action or a trip may write. -/
def legFlds (n : Nat) : List Fld := [Reg.PWM_LEG_STATUS_STATE n, Reg.PWM_LEG_CARRY n, Reg.PWM_RUN (n / 32), Reg.TRP_FORCED (n / 32)]

theorem groupFlds_blk : ∀ g : Fin 8, ∀ f ∈ groupFlds g, f.blk ∈ [3, 5, 6, 8, 11, 12] := by decide

theorem legFlds_blk : ∀ n : Fin 64, ∀ f ∈ legFlds n, f.blk ∈ [3, 5, 6, 8, 11, 12] := by decide

theorem groupFld_blk (g : Fin 8) {f : Fld} (hf : f ∈ groupFlds g := by simp [groupFlds]) : f.blk ∈ [3, 5, 6, 8, 11, 12] :=
  groupFlds_blk g f hf

theorem legFld_blk (n : Fin 64) {f : Fld} (hf : f ∈ legFlds n := by simp [legFlds]) : f.blk ∈ [3, 5, 6, 8, 11, 12] := legFlds_blk n f hf

variable (s)

theorem State.setGen_acts (g : Nat) (r : SndGen) : Acts s (s.setGen g r) := (Beside.refl s).same rfl
theorem State.setNode_acts (g : Nat) (r : BrgNode) : Acts s (s.setNode g r) := (Beside.refl s).same rfl
theorem State.setGrp_acts (g : Nat) (r : GroupRun) : Acts s (s.setGrp g r) := (Beside.refl s).same rfl
theorem State.ctrEvent_acts (e : Nat) : Acts s (s.ctrEvent e) := (s.ctrEvent_ctr e).mono (by decide) (by simp)

theorem State.polWeak_acts : Acts s s.polWeak :=
  ((((Beside.refl s).same (u := { s with adc := { s.adc with pol := none } }) rfl).setFld (f := Reg.ADC_POL_STAT_BUSY) (by decide) 0).setFld
    (f := Reg.ADC_POL_STAT_VERDICT) (by decide) 3).raise (f := Reg.ADC_STATUS_POLDONE_S) (by decide)

section
variable (g : Fin 8)

theorem State.setGenState_acts (st : Nat) : Acts s (s.setGenState g st) := by
  have hset : Acts s (s.setFld (Reg.SND_G_STATUS_STATE g) st) := (Beside.refl s).setFld (groupFld_blk g) st
  exact .ite (hset.trans (State.polWeak_acts _)) hset

theorem State.genRest_acts : Acts s (s.genRest g) := by
  have hA : Acts s (s.setFld (Reg.SND_G_INJ_A g) 0) := (Beside.refl s).setFld (groupFld_blk g) 0
  have hB := hA.setFld (f := Reg.SND_G_INJ_B g) (groupFld_blk g) 0
  unfold State.genRest
  extract_lets t
  exact (hB.trans (State.setGen_acts ..)).trans (State.setGenState_acts ..)

theorem State.burstRest_acts : Acts s (s.burstRest g) := by
  unfold State.burstRest
  extract_lets d
  have hd : Acts s d.2 := (Beside.refl s).same rfl
  exact .ite ((hd.trans (State.setGen_acts ..)).trans (State.genRest_acts ..)) (s.genRest_acts g)

theorem State.abandonBurst_acts : Acts s (s.abandonBurst g) :=
  .ite (((s.burstRest_acts g).raise (f := Reg.SND_G_STATUS_ABORT_S g) (groupFld_blk g)).count (f := Reg.SND_G_CNT_ABORT_CNT g)
    (groupFld_blk g)) (.refl s)

theorem State.noteTx_acts : Acts s (s.noteTx g) := (Beside.refl s).setFld (groupFld_blk g) _

theorem State.requeueTx_acts (f : TxFrame) : Acts s (s.requeueTx g f) := by
  unfold State.requeueTx
  extract_lets r n
  exact ((Beside.refl s).same (u := s.freshWait g _) rfl).trans (State.noteTx_acts ..)

theorem State.stopFrame_acts : Acts s (s.stopFrame g) := by
  unfold State.stopFrame
  split
  · exact .refl s
  · next f _ =>
    have ht := ((s.setNode_acts g { s.node g with sending := none }).trans (State.genRest_acts _ g)).raise
      (f := Reg.BRG_G_STATUS_TXFAIL_S g) (groupFld_blk g)
    exact .ite (ht.trans (State.noteTx_acts _ g)) (ht.trans (State.requeueTx_acts _ g f))

theorem State.soundLeave_acts : Acts s (s.soundLeave g) := (s.abandonBurst_acts g).trans (State.stopFrame_acts ..)

theorem State.setMode_acts (m : Nat) : Acts s (s.setMode g m) := by
  unfold State.setMode
  extract_lets t
  have ht : Acts s t := (Beside.refl s).setFld (groupFld_blk g) m
  exact .ite (.ite ht (ht.trans (State.setGen_acts ..))) (ht.trans (State.soundLeave_acts ..))

theorem State.legOff_acts (n : Fin 64) : Acts s (s.legOff n) := by
  unfold State.legOff
  extract_lets _ r hiOff loOff t
  have hcarry {u : State} (hu : Acts s u) : Acts s (u.setFld (Reg.PWM_LEG_CARRY n) 0) := hu.setFld (legFld_blk n) 0
  have ht : Acts s t := (Beside.refl s).same rfl
  exact .ite (hcarry ((Beside.refl s).same rfl)) (hcarry (ht.setFld (f := Reg.PWM_LEG_STATUS_STATE n) (legFld_blk n) legOFF))

theorem State.legsOff_acts : Acts s (s.legsOff g) := .forIdx (fun n u => .ite (u.legOff_acts n) (.refl u)) (.refl s)

theorem State.storeFlux_acts : Acts s (s.storeFlux g) :=
  (((Beside.refl s).setFld (f := Reg.GFM_RESID_A g) (groupFld_blk g) _).setFld (f := Reg.GFM_RESID_B g) (groupFld_blk g) _).setFld
    (f := Reg.GFM_RESID_C g) (groupFld_blk g) _

theorem State.groupRest_acts : Acts s (s.groupRest g) := by
  unfold State.groupRest
  extract_lets _ r
  exact ((((s.setGrp_acts g r).trans (State.setMode_acts _ g mOFF)).setFld (f := Reg.GFM_CTRL_EN g) (groupFld_blk g) 0).setFld
    (f := Reg.GFM_STATUS_RUN g) (groupFld_blk g) 0).setFld (f := Reg.GFM_EVT_STATUS_REC g) (groupFld_blk g) 0

theorem State.clearRun_acts (n : Fin 64) : Acts s (s.setFld (Reg.PWM_RUN (n / 32)) (clearBit (s.fld (Reg.PWM_RUN (n / 32))) (n % 32))) :=
  (Beside.refl s).setFld (legFld_blk n) _

theorem State.groupOff_acts : Acts s (s.groupOff g) :=
  .ite ((Beside.trans (.ite (.refl s) (s.storeFlux_acts g)) (State.legsOff_acts _ g)).trans (State.groupRest_acts _ g))
    (.forIdx (fun n u => .ite (u.clearRun_acts n) (.refl u)) (s.legsOff_acts g))

theorem State.allGroupsOff_acts : Acts s s.allGroupsOff := .forIdx (fun g u => u.groupOff_acts g) (.refl s)

theorem State.stopFrom_acts (m : Nat) : Acts s (s.stopFrom g m) := (s.setGrp_acts g _).trans (State.setMode_acts _ g mSTOPPING)

theorem State.beginStop_acts : Acts s (s.beginStop g) := by
  unfold State.beginStop
  extract_lets _ t
  have ht : Acts s t := s.setGrp_acts ..
  exact .ite ht (.ite (ht.trans (State.setGrp_acts ..)) (ht.trans (State.stopFrom_acts ..)))

theorem State.stopByAction_acts : Acts s (s.stopByAction g) := .ite (.refl s) ((s.beginStop_acts g).trans (State.setGrp_acts ..))

theorem State.undoStop_acts : Acts s (s.undoStop g) := by
  unfold State.undoStop
  extract_lets r back
  exact .ite (.refl s) (.ite (s.setGrp_acts ..) (.ite (.refl s) ((s.setGrp_acts ..).trans (State.setMode_acts ..))))

theorem State.announceHo_acts (lead : Nat) (by_ : Option (Nat × Nat)) : Acts s (s.announceHo lead by_) :=
  ((Beside.refl s).setListed (f := Reg.TWN_STATUS_HO_BUSY) (by simp) 1).same rfl

theorem State.askHo_acts (code : Nat) : Acts s (s.askHo g code) := by
  have ht := s.undoStop_acts g
  exact .ite (ht.same rfl) (ht.trans (State.announceHo_acts ..))

theorem State.undoDerate_acts : Acts s (s.undoDerate g) := by
  unfold State.undoDerate
  split
  · exact .refl s
  · exact (s.setGrp_acts ..).setFld (groupFld_blk g) _

theorem State.dropHo_acts (code : Nat) : Acts s (s.dropHo g code) := by
  unfold State.dropHo
  extract_lets less _ t
  have ht : Acts s t := .ite ((Beside.refl s).same rfl) (.refl s)
  exact .ite ((ht.setListed (f := Reg.TWN_STATUS_HO_BUSY) (by simp) 0).same rfl) ht

theorem State.giveWay_acts (code : Nat) : Acts s (s.giveWay g code) :=
  Beside.trans (.ite (s.undoDerate_acts g) (.refl s)) (State.dropHo_acts ..)

theorem State.runAction_acts (code : Nat) : Acts s (s.runAction g code) := by
  unfold State.runAction
  split
  · exact (s.setGrp_acts ..).setFld (groupFld_blk g) _
  · exact s.stopByAction_acts g
  · exact s.groupOff_acts g
  · exact s.allGroupsOff_acts
  · exact .ite (s.askHo_acts g _) (s.stopByAction_acts g)
  · exact .ite (s.askHo_acts g _) (s.groupOff_acts g)
  · exact .refl s

theorem State.faultAction_acts (src : Nat) : Acts s (s.faultAction g src) := by
  unfold State.faultAction
  extract_lets code s1 s2 _ s4
  have h1 : Acts s s1 := ((Beside.refl s).setFld (f := Reg.GFM_FA_LAST_ACTION g) (groupFld_blk g) _).setFld
    (f := Reg.GFM_FA_LAST_SOURCE g) (groupFld_blk g) _
  have h2 : Acts s s2 := (h1.raise (f := Reg.GFM_EVT_STATUS_FA_S g) (groupFld_blk g)).stamp (groupFld_blk g)
    (groupFld_blk g) _
  have h4 : Acts s s4 := (h2.trans (State.ctrEvent_acts ..)).trans (State.giveWay_acts ..)
  exact .ite h1 (.ite (h2.same rfl) ((h4.trans (State.setGrp_acts ..)).trans (State.runAction_acts ..)))

end

/-! Trips. -/

theorem State.setForcedBit_acts (n : Fin 64) (b : Bool) : Acts s (s.setForcedBit n b) := (Beside.refl s).setFld (legFld_blk n) _

theorem State.forceLeg_acts (n : Fin 64) : Acts s (s.forceLeg n) := by
  unfold State.forceLeg
  extract_lets g refw r0 r
  have ht : Acts s (s.setLeg n r) := (Beside.refl s).same rfl
  exact ((ht.setFld (f := Reg.PWM_LEG_STATUS_STATE n) (legFld_blk n) legFORCED).setFld (f := Reg.PWM_LEG_CARRY n)
    (legFld_blk n) 0).trans (State.setForcedBit_acts ..)

theorem State.unforceLeg_acts (n : Fin 64) : Acts s (s.unforceLeg n) :=
  ((((Beside.refl s).setFld (f := Reg.PWM_LEG_STATUS_STATE n) (legFld_blk n) legOFF).trans (State.legOff_acts ..)).trans
    (State.setForcedBit_acts ..)).same rfl

theorem State.settleForcing_acts : Acts s s.settleForcing :=
  .forIdx (fun n u => .ite (.ite (.refl u) (u.forceLeg_acts n)) (.ite (u.unforceLeg_acts n) (.refl u))) (.refl s)

theorem State.setLatch'_acts (k : Nat) : Acts s (s.setLatch' k) := by
  unfold State.setLatch'
  refine Beside.trans ?_ (State.settleForcing_acts _)
  exact (Beside.refl s).same rfl

theorem State.noteCycle_acts : Acts s s.noteCycle :=
  (((Beside.refl s).raise (f := Reg.TRP_STATUS_CYC_S) (by decide)).count (f := Reg.TRP_CNT_CYC_CNT) (by decide)).trans
    (State.ctrEvent_acts ..)

theorem State.noteTrip_acts (k : Nat) (first : Bool) : Acts s (s.noteTrip k first) := by
  unfold State.noteTrip
  extract_lets d s2 s3
  have hd : Acts s d.2 := (Beside.refl s).same rfl
  have h2 : Acts s s2 := (hd.raise (by decide)).count (by decide)
  have h3 : Acts s s3 :=
    .ite (((h2.setFld (f := Reg.TRP_FIRST_SRC) (by decide) k).setFld (f := Reg.TRP_FIRST_VALID) (by decide) 1).stamp
      (by decide) (by decide) _) h2
  exact .forIdx (fun g u => .ite (u.faultAction_acts g _) (.refl u)) (h3.trans (State.ctrEvent_acts ..))

theorem State.latchSource_acts (k : Nat) : Acts s (s.latchSource k) :=
  .ite (.refl s) (.ite ((s.setLatch'_acts k).raise (f := Reg.TRP_STATUS_CLRREF_S) (by decide))
    (.ite ((s.setLatch'_acts k).trans (State.noteCycle_acts _))
    ((s.setLatch'_acts k).trans (State.noteTrip_acts ..))))

theorem State.sourceLive_acts (k : Nat) (on : Bool) : Acts s (s.sourceLive k on) := by
  unfold State.sourceLive
  split
  · extract_lets t
    have ht : Acts s t := .ite (.refl s) ((Beside.refl s).same rfl)
    refine Beside.trans ?_ (State.latchSource_acts _ k)
    exact ht.same rfl
  · exact (Beside.refl s).same rfl

theorem State.gateActions_acts (p : Nat → Bool) : Acts s (s.gateActions p) :=
  .forIdx (fun g u => .ite (u.faultAction_acts g _) (.refl u)) (.refl s)

end Sys2Proof.Machine
end

/-! Drive dies. -/

section
open Sys2Proof Sys2Proof.Machine

namespace Sys2Proof.Machine

/-! Bits of a field. -/

theorem bitOf_eq_testBit (n k : Nat) : bitOf n k = n.testBit k := by
  rw [Nat.testBit_eq_decide_div_mod_eq]; rfl

/-- A field keeps the bits that lie within its width. -/
theorem bitOf_mod {w k : Nat} (h : k < w) (n : Nat) : bitOf (n % 2 ^ w) k = bitOf n k := by
  rw [bitOf_eq_testBit, bitOf_eq_testBit, Nat.testBit_mod_two_pow, decide_eq_true h, Bool.true_and]

theorem bitOf_setBit_same (n k : Nat) : bitOf (setBit n k) k = true := by
  unfold setBit
  split
  · assumption
  · next h =>
    rw [bitOf_eq_testBit] at h ⊢
    rw [Nat.add_comm, Nat.testBit_two_pow_add_eq]
    simpa using h

theorem bitOf_clearBit_same (n k : Nat) : bitOf (clearBit n k) k = false := by
  unfold clearBit
  split
  · next h =>
    have hle : 2 ^ k ≤ n := Nat.ge_two_pow_of_testBit (by rwa [← bitOf_eq_testBit])
    rw [bitOf_eq_testBit] at h ⊢
    have hadd := Nat.testBit_two_pow_add_eq (n - 2 ^ k) k
    rw [Nat.add_sub_cancel' hle, h] at hadd
    simpa using hadd.symm
  · next h => simpa using h

/-- A one-bit field that is written 1, or 0. -/
theorem State.on_setFld_one (s : State) {f : Fld} (h : f.width = 1) : (s.setFld f 1).on f = true := by
  rw [State.on, State.fld_setFld_same, h]; rfl

theorem State.on_setFld_zero (s : State) (f : Fld) : (s.setFld f 0).on f = false := by
  rw [State.on, State.fld_setFld_same, Nat.zero_mod]; rfl

theorem State.on_setFld_other (s : State) {f g : Fld} (v : Nat) (h : g.key ≠ f.key) : (s.setFld f v).on g = s.on g := by
  rw [State.on, State.fld_setFld_other _ _ h]; rfl

/-- A bit that is written 0 stays 0, whatever field is written. -/
theorem State.off_setFld_zero {s : State} {g : Fld} (f : Fld) (h : s.on g = false) : (s.setFld f 0).on g = false := by
  by_cases hk : g.key = f.key
  · rw [State.on, State.fld_setFld, if_pos hk, Nat.zero_mod]; rfl
  · rwa [State.on_setFld_other _ _ hk]

theorem State.fld_count_same (s : State) (f : Fld) : (s.count f).fld f = s.counted f := by
  rw [State.fld_count, if_pos rfl]; rfl

theorem State.counted_congr {s t : State} {f : Fld} (h : t.fld f = s.fld f) : t.counted f = s.counted f := by
  unfold State.counted; rw [h]

theorem State.fld_count_other (s : State) {f g : Fld} (h : g.key ≠ f.key) : (s.count f).fld g = s.fld g := by
  rw [State.fld_count, if_neg h]

theorem State.fld_raiseBit_other (s : State) {f g : Fld} (b : Nat) (h : g.key ≠ f.key) : (s.raiseBit f b).fld g = s.fld g := by
  rw [State.fld_raiseBit, if_neg h]

theorem State.fld_raise_other (s : State) {f g : Fld} (h : g.key ≠ f.key) : (s.raise f).fld g = s.fld g := s.fld_raiseBit_other 0 h

theorem OnlyFlds.count {l : List Fld} {s t : State} (h : OnlyFlds l s t) {f : Fld} (hf : f ∈ l) : OnlyFlds l s (t.count f) :=
  h.trans fun _ hg => t.fld_count_other (hg f hf)

theorem OnlyFlds.raiseBit {l : List Fld} {s t : State} (h : OnlyFlds l s t) {f : Fld} (hf : f ∈ l) (b : Nat) :
    OnlyFlds l s (t.raiseBit f b) :=
  h.trans fun _ hg => t.fld_raiseBit_other b (hg f hf)

theorem OnlyFlds.raise {l : List Fld} {s t : State} (h : OnlyFlds l s t) {f : Fld} (hf : f ∈ l) : OnlyFlds l s (t.raise f) :=
  h.raiseBit hf 0

/-! The gates. -/

/-- Both gates of a leg are off. -/
def Dark (s : State) (n : Nat) : Prop := (s.dleg n).hi = .off ∧ (s.dleg n).lo = .off

theorem Dark.same {s t : State} {n : Nat} (h : Dark s n) (ht : t.drv = s.drv) : Dark t n := by
  unfold Dark State.dleg at h ⊢
  rwa [ht]

theorem State.setDdie_dleg (s : State) (d : Nat) (r : DrvDie) (n : Nat) : (s.setDdie d r).dleg n = s.dleg n := rfl

theorem Dark.setDdie {s : State} {n : Nat} (h : Dark s n) (d : Nat) (r : DrvDie) : Dark (s.setDdie d r) n := by
  unfold Dark
  rwa [State.setDdie_dleg]

theorem DrvLeg.quit_high (r : DrvLeg) (t c : Nat) : (r.quit true t c).hi = .off ∧ (r.quit true t c).lo = r.lo := by
  unfold DrvLeg.quit
  rw [if_pos rfl]
  split <;> exact ⟨rfl, rfl⟩

theorem DrvLeg.quit_low (r : DrvLeg) (t c : Nat) : (r.quit false t c).lo = .off ∧ (r.quit false t c).hi = r.hi := by
  unfold DrvLeg.quit
  rw [if_neg Bool.false_ne_true]
  split <;> exact ⟨rfl, rfl⟩

/-- A record with both gates off makes its leg dark and leaves the others. -/
theorem Dark.setDleg {s : State} {m : Nat} (r : DrvLeg) (n : Nat) (hr : n = m → r.hi = .off ∧ r.lo = .off) (h : n ≠ m → Dark s n) :
    Dark (s.setDleg m r) n := by
  by_cases hn : n = m
  · subst hn
    unfold Dark
    rw [State.dleg_setDleg_same]
    exact hr rfl
  · unfold Dark
    rw [s.dleg_setDleg_other r hn]
    exact h hn

theorem State.gatesOffAt_dark (s : State) (n : Nat) (soft : Option Nat) : Dark (s.gatesOffAt n soft) n := by
  refine Dark.setDleg _ n (fun _ => ?_) fun h => absurd rfl h
  obtain ⟨hlo, hhi⟩ := ((s.dleg n).quit true s.now (soft.getD (s.strNow n 1))).quit_low s.now (soft.getD (s.strNow n 3))
  exact ⟨hhi.trans (DrvLeg.quit_high ..).1, hlo⟩

theorem Dark.gatesOffAt {s : State} {n : Nat} (h : Dark s n) (m : Nat) (soft : Option Nat) : Dark (s.gatesOffAt m soft) n := by
  by_cases hn : n = m
  · exact hn ▸ s.gatesOffAt_dark n soft
  · exact Dark.setDleg _ n (fun h => absurd h hn) fun _ => h

theorem Dark.keepGates {s : State} {n : Nat} (h : Dark s n) (m : Nat) {r : DrvLeg} (hhi : r.hi = (s.dleg m).hi)
    (hlo : r.lo = (s.dleg m).lo) : Dark (s.setDleg m r) n :=
  Dark.setDleg r n (by rintro rfl; exact ⟨hhi.trans h.1, hlo.trans h.2⟩) fun _ => h

/-- Every leg of a die is dark once its gates have been turned off (R23, R251). -/
theorem State.dieOff_dark (s : State) (d : Nat) : ∀ j, j < 16 → Dark (s.dieOff d) (16 * d + j) :=
  forIdx_each (Q := fun j t => Dark t (16 * d + j)) (fun j t _ => t.gatesOffAt_dark (16 * d + j) none)
    fun _ k _ h => h.gatesOffAt (16 * d + k) none

@[simp] theorem State.gatesOffAt_ddie (s : State) (n : Nat) (soft : Option Nat) (d : Nat) : (s.gatesOffAt n soft).ddie d = s.ddie d := rfl

theorem State.setDleg_ddie (s : State) (n : Nat) (r : DrvLeg) (d : Nat) : (s.setDleg n r).ddie d = s.ddie d := rfl

theorem State.dieOff_ddie (s : State) (d e : Nat) : (s.dieOff d).ddie e = s.ddie e :=
  forIdx_induct (P := fun t : State => t.ddie e = s.ddie e) (fun _ _ h => h) rfl

theorem State.dieOff_regs (s : State) (d : Nat) : (s.dieOff d).regs = s.regs :=
  forIdx_induct (P := fun t : State => t.regs = s.regs) (fun _ _ h => h) rfl

theorem State.ddie_congr {s t : State} (h : t.drv = s.drv) (d : Nat) : t.ddie d = s.ddie d := by unfold State.ddie; rw [h]

/-! The record of a gate-drive fault (R251, R259). -/

theorem State.noteFault_drv (s : State) (d : Nat) : (s.noteFault d).drv = s.drv := rfl

theorem State.noteFault_fields (s : State) (d : Nat) : OnlyFlds [Reg.DRV_STATUS_FAULT] s (s.noteFault d) :=
  (OnlyFlds.refl _ s).setFld (List.mem_singleton.2 rfl) _

/-- The record of a fault: its latch, FLT_CNT and FAULT. -/
def State.recordFault (s : State) (d : Nat) (f : Fld) : State := ((s.setFld f 1).count (Reg.DRV_DIE_CNT_FLT_CNT d)).noteFault d

theorem fltCnt_key : ∀ d : Fin 4, (Reg.DRV_DIE_CNT_FLT_CNT d).key ≠ Reg.DRV_STATUS_FAULT.key ∧
    (Reg.DRV_DIE_CNT_FLT_CNT d).blk = 7 := by
  decide

theorem State.recordFault_on (s : State) {d : Nat} {f : Fld} (hw : f.width = 1) (hc : f.key ≠ (Reg.DRV_DIE_CNT_FLT_CNT d).key)
    (hs : f.key ≠ Reg.DRV_STATUS_FAULT.key) : (s.recordFault d f).on f = true := by
  have h : (s.recordFault d f).fld f = (s.setFld f 1).fld f :=
    (State.noteFault_fields _ d f (by simpa using hs)).trans (State.fld_count_other _ hc)
  rw [State.on, h]
  exact s.on_setFld_one hw

theorem State.recordFault_cnt (s : State) (d : Fin 4) {f : Fld} (hc : f.key ≠ (Reg.DRV_DIE_CNT_FLT_CNT d).key) :
    (s.recordFault d f).fld (Reg.DRV_DIE_CNT_FLT_CNT d) = s.counted (Reg.DRV_DIE_CNT_FLT_CNT d) := by
  have h : (s.recordFault d f).fld (Reg.DRV_DIE_CNT_FLT_CNT d) = _ := State.noteFault_fields _ d _ (by simpa using (fltCnt_key d).1)
  rw [h, State.fld_count_same]
  exact State.counted_congr (s.fld_setFld_other 1 hc.symm)

theorem State.recordFault_drv (s : State) (d : Nat) (f : Fld) : (s.recordFault d f).drv = s.drv :=
  (State.noteFault_drv ..).trans ((State.count_drv ..).trans (State.setFld_drv ..))

theorem State.recordFault_beside (s : State) (d : Nat) (f : Fld) (bs : List Nat) (l : List Fld) :
    Beside bs (f :: Reg.DRV_DIE_CNT_FLT_CNT d :: Reg.DRV_STATUS_FAULT :: l) s (s.recordFault d f) := by
  have hset : Beside bs (f :: Reg.DRV_DIE_CNT_FLT_CNT d :: Reg.DRV_STATUS_FAULT :: l) s (s.setFld f 1) :=
    (Beside.refl s).setListed (by simp) 1
  exact ((hset.setListed (f := Reg.DRV_DIE_CNT_FLT_CNT d) (by simp) _).same
    (u := (s.setFld f 1).count (Reg.DRV_DIE_CNT_FLT_CNT d)) rfl).setListed
    (by simp) _

theorem State.latchDieFault_eq (s : State) (d : Nat) (f : Fld) :
    s.latchDieFault d f = ((s.dieOff d).recordFault d f).gateActions fun n => n / 16 == d := rfl

theorem State.latchLegFault_eq (s : State) (n : Nat) (f : Fld) (soft : Option Nat) :
    s.latchLegFault n f soft = ((s.gatesOffAt n soft).recordFault (n / 16) f).gateActions (· == n) := rfl

/-- The latch of a fault of a die: a bit of the DRV block beside FAULT and FLT_CNT. -/
structure FaultLatch (d : Nat) (f : Fld) : Prop where
  width : f.width = 1
  blk : f.blk = 7
  cnt : f.key ≠ (Reg.DRV_DIE_CNT_FLT_CNT d).key
  status : f.key ≠ Reg.DRV_STATUS_FAULT.key

theorem FaultLatch.of_die : ∀ d : Fin 4, FaultLatch d (Reg.DRV_DIE_STATUS_VUV d) ∧ FaultLatch d (Reg.DRV_DIE_STATUS_OT d) ∧
    FaultLatch d (Reg.DRV_DIE_STATUS_LINKF d) := by
  have h : ∀ d : Fin 4, ∀ f ∈ [Reg.DRV_DIE_STATUS_VUV d, Reg.DRV_DIE_STATUS_OT d, Reg.DRV_DIE_STATUS_LINKF d],
      f.width = 1 ∧ f.blk = 7 ∧
      f.key ≠ (Reg.DRV_DIE_CNT_FLT_CNT d).key ∧ f.key ≠ Reg.DRV_STATUS_FAULT.key := by decide
  have latch (d : Fin 4) {f : Fld}
      (hf : f ∈ [Reg.DRV_DIE_STATUS_VUV d, Reg.DRV_DIE_STATUS_OT d, Reg.DRV_DIE_STATUS_LINKF d]) : FaultLatch d f := by
    obtain ⟨hw, hb, hc, hs⟩ := h d f hf
    exact ⟨hw, hb, hc, hs⟩
  exact fun d => ⟨latch d (by simp), latch d (by simp), latch d (by simp)⟩

theorem FaultLatch.of_leg (n : Fin 64) : FaultLatch (n / 16) (Reg.DRV_LEG_STATUS_SC n) := by
  have h : ∀ n : Fin 64, (Reg.DRV_LEG_STATUS_SC n).blk = 7 ∧
      (Reg.DRV_LEG_STATUS_SC n).key ≠ (Reg.DRV_DIE_CNT_FLT_CNT (n / 16)).key ∧
      (Reg.DRV_LEG_STATUS_SC n).key ≠ Reg.DRV_STATUS_FAULT.key := by decide
  obtain ⟨hb, hc, hs⟩ := h n
  exact ⟨rfl, hb, hc, hs⟩

/-- What the latching of a fault leaves: the latch, the count, the drive records as the gates turned off left them, and every field beside
those of the record and of the fault actions. -/
structure Latched (s u t : State) (d : Nat) (f : Fld) : Prop where
  flag : t.on f = true
  cnt : t.fld (Reg.DRV_DIE_CNT_FLT_CNT d) = s.counted (Reg.DRV_DIE_CNT_FLT_CNT d)
  drv : t.drv = u.drv
  fields : Beside [3, 5, 6, 8, 11, 12] [f, Reg.DRV_DIE_CNT_FLT_CNT d, Reg.DRV_STATUS_FAULT, Reg.TWN_STATUS_HO_BUSY] s t

/-- The fault actions and the trips leave the fields of the DRV block. -/
theorem Beside.drvFld {s t : State} (h : Acts s t) {f : Fld} (hf : f.blk = 7) : t.fld f = s.fld f :=
  h.fld f (by rw [hf]; decide) fun g hg hk => by
    have hb : f.blk = g.blk := by rw [Fld.blk, Fld.blk, hk]
    rw [List.mem_singleton.1 hg, hf] at hb
    exact absurd hb (by decide)

/-- A fault that is recorded once the gates are off, and the fault actions that follow. -/
theorem State.recordFault_latched {s u : State} {d : Fin 4} {f : Fld} (hu : u.regs = s.regs) (hf : FaultLatch d f) (p : Nat → Bool) :
    Latched s u ((u.recordFault d f).gateActions p) d f := by
  have hdrv : ((u.recordFault d f).gateActions p).drv = (u.recordFault d f).drv := (State.gateActions_in _ p).frame .drv (by decide)
  refine ⟨?_, ?_, hdrv.trans (u.recordFault_drv d f), ?_⟩
  · rw [State.on, (State.gateActions_acts _ p).drvFld hf.blk]
    exact u.recordFault_on hf.width hf.cnt hf.status
  · rw [(State.gateActions_acts _ p).drvFld (fltCnt_key d).2, u.recordFault_cnt d hf.cnt]
    exact State.counted_congr (State.fld_congr hu _)
  · exact (((Beside.refl s).same hu).trans (u.recordFault_beside d f _ _)).trans ((State.gateActions_acts _ p).mono (by simp) (by simp))

theorem State.latchDieFault_latched (s : State) {d : Fin 4} {f : Fld} (hf : FaultLatch d f) :
    Latched s (s.dieOff d) (s.latchDieFault d f) d f := State.recordFault_latched (s.dieOff_regs d) hf _

/-- Every leg of the die is dark once a die fault has latched (R251). -/
theorem Latched.dark {s t v : State} {d e : Nat} {f : Fld} (h : Latched s (v.dieOff e) t d f) : ∀ j, j < 16 → Dark t (16 * e + j) :=
  fun j hj => (v.dieOff_dark e j hj).same h.drv

theorem Latched.ddie {s t v : State} {d e : Nat} {f : Fld} (h : Latched s (v.dieOff e) t d f) (k : Nat) : t.ddie k = v.ddie k :=
  (State.ddie_congr h.drv k).trans (v.dieOff_ddie e k)

end Sys2Proof.Machine
end

/-! A paired module that stands down. -/

section
open Sys2Proof Sys2Proof.Machine

namespace Sys2Proof.Machine

/-! A paired module that stands down (R358). -/

/-- The fields beside those of its legs' chains that a module which stands down writes. -/
def standFlds : List Fld :=
  [Reg.TWN_STATUS_ROLE, Reg.TWN_STATUS_READY, Reg.TWN_STATUS_HO_BUSY, Reg.TWN_STATUS_STANDDN_S] ++
    (List.range 64).map Reg.DRV_LEG_STATUS_ROLE

/-- The step of standing down for one leg. -/
theorem State.standLeg_beside (s : State) (n : Fin 64) :
    Beside [3, 5, 6, 8, 11, 12] standFlds s (((s.legOff n).cutLeg n).releaseLeg n) := by
  have hcut : Beside [3, 5, 6, 8, 11, 12] standFlds s ((s.legOff n).cutLeg n) :=
    ((s.legOff_acts n).mono (by simp) (by simp [standFlds])).within (State.cutLeg_in _ n) (by decide)
  have hrole : Reg.DRV_LEG_STATUS_ROLE n ∈ standFlds := by
    simp only [standFlds, List.mem_append, List.mem_map, List.mem_range]
    exact .inr ⟨n, n.isLt, rfl⟩
  exact .ite (hcut.within (State.setDleg_in ..) (by decide))
    (((hcut.within (State.gatesOff_in ..) (by decide)).within (State.setDleg_in ..) (by decide)).setListed hrole 1)

theorem State.standDown_beside (s : State) : Beside [3, 5, 6, 8, 11, 12] standFlds s s.standDown := by
  unfold State.standDown
  extract_lets t u _
  have ht : Beside [3, 5, 6, 8, 11, 12] standFlds s t := .forIdx (fun n v => v.standLeg_beside n) (.refl s)
  have hu : Beside [3, 5, 6, 8, 11, 12] standFlds s u :=
    ((ht.setListed (f := Reg.TWN_STATUS_ROLE) (by simp [standFlds]) roleLOST).setListed
      (f := Reg.TWN_STATUS_READY) (by simp [standFlds]) 0).setListed
      (f := Reg.TWN_STATUS_HO_BUSY) (by simp [standFlds]) 0
  clear_value u
  split
  · refine Beside.trans (hu.same (u := { u with twn := _ }) rfl) ?_
    exact ((Beside.refl _).setListed (f := Reg.TWN_STATUS_STANDDN_S) (by simp [standFlds]) _).same rfl
  · exact .refl s

theorem Dark.cutLeg {s : State} {n : Nat} (h : Dark s n) (m : Nat) : Dark (s.cutLeg m) n := by
  unfold State.cutLeg
  extract_lets r
  have hset (x : LegRun) : Dark (s.setLeg m x) n := h.same (s.setLeg_drv m x)
  exact (hset _).gatesOffAt m none

theorem Dark.releaseLeg {s : State} {n : Nat} (h : Dark s n) (m : Nat) : Dark (s.releaseLeg m) n := by
  unfold State.releaseLeg
  split
  · exact h.keepGates m rfl rfl
  · have hset (b : Bool) : Dark ((s.gatesOff m).setDleg m { (s.gatesOff m).dleg m with relPend := b }) n :=
      (h.gatesOffAt m none).keepGates m rfl rfl
    exact (hset false).same (State.setFld_drv ..)

theorem Dark.standLeg {s : State} {n : Nat} (h : Dark s n) (m : Nat) : Dark (((s.legOff m).cutLeg m).releaseLeg m) n := by
  have hoff : Dark (s.legOff m) n := h.same ((s.legOff_in m).frame .drv (by decide))
  exact (hoff.cutLeg m).releaseLeg m

theorem Dark.standDown {s : State} {n : Nat} (h : Dark s n) : Dark s.standDown n := by
  unfold State.standDown
  extract_lets t u _
  have ht : Dark t n := forIdx_induct (P := fun v => Dark v n) (fun m v hv => hv.standLeg m) h
  have hu : Dark u n := ht.same (by simp [u])
  clear_value u
  split
  · exact hu.same rfl
  · exact h

theorem State.cutLeg_ddie (s : State) (n d : Nat) : (s.cutLeg n).ddie d = s.ddie d := by
  unfold State.cutLeg
  extract_lets r
  have hset (x : LegRun) : (s.setLeg n x).ddie d = s.ddie d := State.ddie_congr (s.setLeg_drv n x) d
  exact (State.gatesOffAt_ddie ..).trans (hset _)

theorem State.releaseLeg_ddie (s : State) (n d : Nat) : (s.releaseLeg n).ddie d = s.ddie d := by
  unfold State.releaseLeg
  split
  · exact State.setDleg_ddie ..
  · rw [State.ddie_congr (State.setFld_drv ..), State.setDleg_ddie]
    exact s.gatesOffAt_ddie n none d

theorem State.standDown_ddie (s : State) (d : Nat) : s.standDown.ddie d = s.ddie d := by
  have hleg (v : State) (n : Nat) : (((v.legOff n).cutLeg n).releaseLeg n).ddie d = v.ddie d :=
    ((State.releaseLeg_ddie ..).trans (State.cutLeg_ddie ..)).trans (State.ddie_congr ((v.legOff_in n).frame .drv (by decide)) d)
  unfold State.standDown
  extract_lets t u _
  have ht : t.ddie d = s.ddie d := forIdx_induct (P := fun v : State => v.ddie d = s.ddie d) (fun n v hv => (hleg v n).trans hv) rfl
  have hu : u.ddie d = s.ddie d := (State.ddie_congr (by simp [u]) d).trans ht
  clear_value u
  split
  · exact hu
  · rfl

/-- A paired module that is not LOST yet becomes LOST, with STANDDN_S (R358). -/
theorem State.standDown_lost {s : State} (hp : s.on Reg.TWN_CTRL_PAIR_EN = true) (hr : s.role ≠ roleLOST) :
    s.standDown.role = roleLOST ∧ s.standDown.on Reg.TWN_STATUS_STANDDN_S = true := by
  unfold State.standDown
  extract_lets t u _
  rw [if_pos ⟨hp, hr⟩]
  have hu : u.fld Reg.TWN_STATUS_ROLE = roleLOST := by
    rw [State.fld_setFld_other _ _ (by decide), State.fld_setFld_other _ _ (by decide), State.fld_setFld_same]
    rfl
  clear_value u
  exact ⟨(State.fld_raise_other _ (by decide)).trans hu, State.on_raise_same _ rfl⟩

/-! The loss of a drive link's clock (R22, R251, R358). -/

/-- What a die's link loss records before its fault latches. -/
def State.linkLost (s : State) (d : Nat) : State :=
  (((s.setDdie d { s.ddie d with link := false }).raiseBit Reg.SYS_DIE_STATUS_DLINK_S d).count
    Reg.SYS_LINK_ERR_CNT_DLINK_ERR_CNT).setFld Reg.SYS_DIE_STATUS_DRV_UP (clearBit (s.fld Reg.SYS_DIE_STATUS_DRV_UP) d)

/-- The fields of the record of a link loss. -/
def linkFlds : List Fld := [Reg.SYS_DIE_STATUS_DLINK_S, Reg.SYS_LINK_ERR_CNT_DLINK_ERR_CNT, Reg.SYS_DIE_STATUS_DRV_UP]

theorem State.linkLost_fields (s : State) (d : Nat) : OnlyFlds linkFlds s (s.linkLost d) := by
  have hlink : OnlyFlds linkFlds s (s.setDdie d { s.ddie d with link := false }) := (OnlyFlds.refl _ s).same (State.setDdie_regs ..)
  exact ((hlink.raiseBit (by simp [linkFlds]) d).count (by simp [linkFlds])).setFld (by simp [linkFlds]) _

theorem State.linkLost_record (s : State) (d : Fin 4) :
    bitOf ((s.linkLost d).fld Reg.SYS_DIE_STATUS_DLINK_S) d = true ∧
    (s.linkLost d).fld Reg.SYS_LINK_ERR_CNT_DLINK_ERR_CNT = s.counted Reg.SYS_LINK_ERR_CNT_DLINK_ERR_CNT ∧
    bitOf ((s.linkLost d).fld Reg.SYS_DIE_STATUS_DRV_UP) d = false := by
  unfold State.linkLost
  refine ⟨?_, ?_, ?_⟩
  · rw [State.fld_setFld_other _ _ (by decide), State.fld_count_other _ (by decide), State.fld_raiseBit, if_pos rfl]
    exact (bitOf_mod d.isLt _).trans (bitOf_setBit_same _ _)
  · rw [State.fld_setFld_other _ _ (by decide), State.fld_count_same]
    exact State.counted_congr (State.fld_raiseBit_other _ _ (by decide))
  · rw [State.fld_setFld_same]
    exact (bitOf_mod d.isLt _).trans (bitOf_clearBit_same _ _)

theorem State.linkLost_drv (s : State) (d : Nat) : (s.linkLost d).drv = (s.setDdie d { s.ddie d with link := false }).drv :=
  (State.setFld_drv ..).trans ((State.count_drv ..).trans (State.raiseBit_drv ..))

theorem State.linkLost_ddie (s : State) (d : Nat) : ((s.linkLost d).ddie d).link = false := by
  rw [State.ddie_congr (s.linkLost_drv d), State.ddie_setDdie_same]

/-- Where the link fault is not latched yet, it latches, and a paired module stands down. -/
theorem State.dlinkLoss_eq {s : State} {d : Fin 4} (h : s.on (Reg.DRV_DIE_STATUS_LINKF d) = false) :
    s.dlinkLoss d = ((s.linkLost d).latchDieFault d (Reg.DRV_DIE_STATUS_LINKF d)).standDown := by
  have hkey : ∀ d : Fin 4, ∀ g ∈ linkFlds, (Reg.DRV_DIE_STATUS_LINKF d).key ≠ g.key := by decide
  have hoff : (s.linkLost d).on (Reg.DRV_DIE_STATUS_LINKF d) = false := by
    rw [State.on, s.linkLost_fields d _ (hkey d)]; exact h
  show (ite _ _ _ : State).standDown = _
  rw [if_neg]
  · rfl
  · exact ne_true_of_eq_false hoff

/-- The fields of a link loss stand beside those that a fault of a die writes, and beside those of standing down. -/
theorem linkFlds_spared : ∀ d : Fin 4, ∀ f ∈ Reg.TWN_CTRL_PAIR_EN :: Reg.TWN_STATUS_ROLE :: linkFlds,
    f.blk ∉ [3, 5, 6, 8, 11, 12] ∧
    ∀ g ∈ [Reg.DRV_DIE_STATUS_LINKF d, Reg.DRV_DIE_CNT_FLT_CNT d, Reg.DRV_STATUS_FAULT, Reg.TWN_STATUS_HO_BUSY], f.key ≠ g.key := by
  decide

theorem standFlds_spare : ∀ d : Fin 4, ∀ f ∈ Reg.DRV_DIE_STATUS_LINKF d :: Reg.DRV_DIE_CNT_FLT_CNT d :: linkFlds,
    f.blk ∉ [3, 5, 6, 8, 11, 12] ∧
    ∀ g ∈ standFlds, f.key ≠ g.key := by decide

end Sys2Proof.Machine
end

/-! Drive dies whose faults have ended. -/

section
open Sys2Proof Sys2Proof.Machine

namespace Sys2Proof.Machine

/-! A die whose latched faults have ended (R252, R256). -/

/-- A die without a latched fault, of its own or of its legs, whose lockouts are locked. -/
structure Fresh (t : State) (d : Nat) : Prop where
  die : t.dieFault d = false
  legs : ∀ j, j < 16 → t.legFault (16 * d + j) = false ∧ (t.dleg (16 * d + j)).locked = true

/-- The latches of a leg and of a die. -/
def legLatches (n : Nat) : List Fld :=
  [Reg.DRV_LEG_STATUS_SC n, Reg.DRV_LEG_STATUS_GSTUCK n, Reg.DRV_LEG_STATUS_GLOW n, Reg.DRV_LEG_STATUS_UVLAT n]

def dieLatches (d : Nat) : List Fld := [Reg.DRV_DIE_STATUS_VUV d, Reg.DRV_DIE_STATUS_OT d, Reg.DRV_DIE_STATUS_LINKF d]

theorem State.legFault_iff (s : State) (n : Nat) : s.legFault n = false ↔ ∀ f ∈ legLatches n, s.on f = false := by
  simp [State.legFault, legLatches, and_assoc]

theorem State.dieFault_iff (s : State) (d : Nat) : s.dieFault d = false ↔ ∀ f ∈ dieLatches d, s.on f = false := by
  simp [State.dieFault, dieLatches, and_assoc]

/-- Fields are all written 0. -/
def State.clearFlds (s : State) (l : List Fld) : State := l.foldl (fun t f => t.setFld f 0) s

/-- Fields that are all written 0 read 0, and stay 0 where others are. -/
theorem State.clearFlds_off {l : List Fld} {s : State} {g : Fld} (h : g ∈ l ∨ s.on g = false) : (s.clearFlds l).on g = false := by
  induction l generalizing s with
  | nil => exact h.resolve_left (List.not_mem_nil)
  | cons f l ih =>
    refine ih ?_
    rcases h with h | h
    · rcases List.mem_cons.1 h with rfl | h
      · exact .inr (s.on_setFld_zero g)
      · exact .inl h
    · exact .inr (State.off_setFld_zero f h)

/-- The step of `freshDie` for one leg. -/
def State.freshLeg (t : State) (n : Nat) : State :=
  let u := t.clearFlds (legLatches n)
  u.setDleg n { u.dleg n with locked := true, bsuvFrom := none }

theorem State.freshLeg_fld (t : State) (n : Nat) (f : Fld) : (t.freshLeg n).fld f = (t.clearFlds (legLatches n)).fld f :=
  State.setDleg_fld ..

theorem State.freshLeg_on (t : State) (n : Nat) (f : Fld) : (t.freshLeg n).on f = (t.clearFlds (legLatches n)).on f := by
  rw [State.on, State.freshLeg_fld]; rfl

/-- Every leg of a die is made fresh. -/
def State.freshLegs (s : State) (d : Nat) : State := forIdx 16 (fun j t => t.freshLeg (16 * d + j)) s

theorem State.freshDie_eq (s : State) (d : Nat) : s.freshDie d = (s.freshLegs d).clearFlds (dieLatches d) := rfl

theorem State.clearFlds_drv (s : State) (l : List Fld) : (s.clearFlds l).drv = s.drv :=
  foldl_induct (P := fun t : State => t.drv = s.drv) (fun _ _ h => h) rfl

theorem State.clearFlds_only (s : State) (l : List Fld) : OnlyFlds l s (s.clearFlds l) :=
  List.foldlRecOn _ _ (OnlyFlds.refl l s) fun _ ht _ hf => ht.setFld hf 0

theorem State.dleg_congr {s t : State} (h : t.drv = s.drv) (n : Nat) : t.dleg n = s.dleg n := by unfold State.dleg; rw [h]

theorem State.freshLeg_ddie (t : State) (n e : Nat) : (t.freshLeg n).ddie e = t.ddie e :=
  (State.setDleg_ddie ..).trans (State.ddie_congr (t.clearFlds_drv (legLatches n)) e)

/-- A leg that is made fresh has no latched fault and is locked. -/
theorem State.freshLeg_same (t : State) (n : Nat) : (t.freshLeg n).legFault n = false ∧ ((t.freshLeg n).dleg n).locked = true := by
  refine ⟨(State.legFault_iff _ n).2 fun f hf => ?_, ?_⟩
  · rw [State.freshLeg_on]
    exact State.clearFlds_off (.inl hf)
  · unfold State.freshLeg
    rw [State.dleg_setDleg_same]

theorem State.freshLeg_keeps {t : State} {m : Nat} (n : Nat) (h : t.legFault m = false ∧ (t.dleg m).locked = true) :
    (t.freshLeg n).legFault m = false ∧ ((t.freshLeg n).dleg m).locked = true := by
  by_cases hm : m = n
  · subst hm
    exact t.freshLeg_same m
  · obtain ⟨hfault, hlock⟩ := h
    refine ⟨(State.legFault_iff _ m).2 fun f hf => ?_, ?_⟩
    · rw [State.freshLeg_on]
      exact State.clearFlds_off (.inr ((t.legFault_iff m).1 hfault f hf))
    · unfold State.freshLeg
      rwa [State.dleg_setDleg_other _ _ hm, State.dleg_congr (State.clearFlds_drv ..)]

theorem State.freshLeg_scNow (t : State) (n m : Nat) : ((t.freshLeg n).dleg m).scNow = (t.dleg m).scNow := by
  have hu := t.clearFlds_drv (legLatches n)
  unfold State.freshLeg
  by_cases hm : m = n
  · rw [hm, State.dleg_setDleg_same, State.dleg_congr hu]
  · rw [State.dleg_setDleg_other _ _ hm, State.dleg_congr hu]

/-- The latches of a die's legs stand above the registers of the dies. -/
theorem legLatches_high (n : Nat) : ∀ f ∈ legLatches n, 0x38800 ≤ f.key := by
  simp only [legLatches, List.forall_mem_cons, Fld.key, Reg.DRV_LEG_STATUS_SC, Reg.DRV_LEG_STATUS_GSTUCK, Reg.DRV_LEG_STATUS_GLOW,
    Reg.DRV_LEG_STATUS_UVLAT, List.not_mem_nil, false_implies, implies_true, and_true]
  omega

theorem State.freshLegs_fresh (s : State) (d : Nat) :
    ∀ j, j < 16 → (s.freshLegs d).legFault (16 * d + j) = false ∧ ((s.freshLegs d).dleg (16 * d + j)).locked = true :=
  forIdx_each (Q := fun j (t : State) => t.legFault (16 * d + j) = false ∧ (t.dleg (16 * d + j)).locked = true)
    (fun j t _ => t.freshLeg_same (16 * d + j)) fun _ k _ h => State.freshLeg_keeps (16 * d + k) h

theorem State.freshLegs_ddie (s : State) (d e : Nat) : (s.freshLegs d).ddie e = s.ddie e :=
  forIdx_induct (P := fun t : State => t.ddie e = s.ddie e) (fun j t h => (t.freshLeg_ddie (16 * d + j) e).trans h) rfl

theorem State.freshLegs_scNow (s : State) (d m : Nat) : ((s.freshLegs d).dleg m).scNow = (s.dleg m).scNow :=
  forIdx_induct (P := fun t : State => (t.dleg m).scNow = (s.dleg m).scNow) (fun j t h => (t.freshLeg_scNow (16 * d + j) m).trans h) rfl

/-- Below the registers of the legs no field changes as they are made fresh. -/
theorem State.freshLegs_low (s : State) (d : Nat) {f : Fld} (hf : f.key < 0x38800) : (s.freshLegs d).fld f = s.fld f :=
  forIdx_induct (P := fun t : State => t.fld f = s.fld f) (fun j t h => (t.freshLeg_fld _ f).trans ((t.clearFlds_only _ f fun g hg hk =>
    absurd (legLatches_high _ g hg) (by omega)).trans h)) rfl

theorem State.freshDie_drv (s : State) (d : Nat) : (s.freshDie d).drv = (s.freshLegs d).drv := (s.freshLegs d).clearFlds_drv (dieLatches d)

theorem State.freshDie_fresh (s : State) (d : Nat) : Fresh (s.freshDie d) d := by
  rw [State.freshDie_eq]
  refine ⟨(State.dieFault_iff _ d).2 fun f hf => State.clearFlds_off (.inl hf), fun j hj => ?_⟩
  obtain ⟨hfault, hlock⟩ := s.freshLegs_fresh d j hj
  refine ⟨(State.legFault_iff _ _).2 fun f hf => State.clearFlds_off (.inr ((State.legFault_iff _ _).1 hfault f hf)), ?_⟩
  rwa [State.dleg_congr (State.clearFlds_drv ..)]

theorem State.freshDie_ddie (s : State) (d e : Nat) : (s.freshDie d).ddie e = s.ddie e :=
  (State.ddie_congr (s.freshDie_drv d) e).trans (s.freshLegs_ddie d e)

theorem State.freshDie_scNow (s : State) (d m : Nat) : ((s.freshDie d).dleg m).scNow = (s.dleg m).scNow :=
  (congrArg DrvLeg.scNow (State.dleg_congr (s.freshDie_drv d) m)).trans (s.freshLegs_scNow d m)

/-- Below the registers of the legs, a die that is made fresh changes its own latches alone. -/
theorem State.freshDie_low (s : State) (d : Nat) {f : Fld} (hf : f.key < 0x38800) (hd : ∀ g ∈ dieLatches d, f.key ≠ g.key) :
    (s.freshDie d).fld f = s.fld f := ((s.freshLegs d).clearFlds_only (dieLatches d) f hd).trans (s.freshLegs_low d hf)

/-- A change of fields of the dies beside the latches, which leaves the drive records, leaves a fresh die fresh. -/
theorem Fresh.fields {s t : State} {d : Nat} {l : List Fld} (h : Fresh s d) (hl : OnlyFlds l s t) (hdrv : t.drv = s.drv)
    (hlow : ∀ g ∈ l, g.key < 0x38800 ∧ ∀ f ∈ dieLatches d, f.key ≠ g.key) : Fresh t d := by
  refine ⟨(State.dieFault_iff t d).2 fun f hf => ?_, fun j hj => ⟨(State.legFault_iff t _).2 fun f hf => ?_, ?_⟩⟩
  · rw [State.on, hl f fun g hg => (hlow g hg).2 f hf]
    exact (State.dieFault_iff s d).1 h.die f hf
  · rw [State.on, hl f fun g hg hk => ?_]
    · exact (State.legFault_iff s _).1 (h.legs j hj).1 f hf
    · have := legLatches_high _ f hf
      have := (hlow g hg).1
      omega
  · rw [State.dleg_congr hdrv]
    exact (h.legs j hj).2

/-- FAULT of a die without a fault reads 0 (R259). -/
theorem Fresh.status {s : State} {d : Fin 4} (h : Fresh s d) : bitOf ((s.noteFault d).fld Reg.DRV_STATUS_FAULT) d = false := by
  have hany : (anyIdx 16 fun j => s.legFault (16 * d + j)) = false := by
    rw [anyIdx, List.any_eq_false]
    intro j hj
    rw [(h.legs j (List.mem_range.1 hj)).1]
    exact Bool.false_ne_true
  unfold State.noteFault
  rw [h.die, hany, State.fld_setFld_same]
  exact (bitOf_mod d.isLt _).trans (bitOf_clearBit_same _ _)

theorem status_low : ∀ d : Fin 4, ∀ g ∈ [Reg.DRV_STATUS_FAULT, Reg.DRV_STATUS_CLR_S, Reg.DRV_DIE_CNT_CLR_CNT d],
    g.key < 0x38800 ∧ ∀ f ∈ dieLatches d, f.key ≠ g.key := by decide

theorem Fresh.noteFault {s : State} {d : Fin 4} (h : Fresh s d) : Fresh (s.noteFault d) d :=
  h.fields (s.noteFault_fields d) rfl fun g hg => status_low d g (by simp [List.mem_singleton.1 hg])

/-! DRVENd rises (R252). -/

/-- What a rise of DRVENd with the link's clock and a cool die leaves before it clears. -/
def State.drvEnabled (s : State) (d : Nat) : State :=
  let t := (s.drawFree.2.setDdie d { s.ddie d with en := true, lowAt := none, link := true, hot := false }).setFld
    Reg.DRV_STATUS_EN (setBit (s.fld Reg.DRV_STATUS_EN) d)
  if s.dieTrained then t.setFld Reg.SYS_DIE_STATUS_DRV_UP (setBit (s.fld Reg.SYS_DIE_STATUS_DRV_UP) d) else t

theorem State.drvenRise_eq {s : State} {d : Nat} (h : (s.ddie d).en = false) :
    s.drvenRise d true false =
      if clears (s.now - (s.ddie d).lowAt.getD 0) s.drawFree.1 then ((s.drvEnabled d).drvClear d).relatch d else s.drvEnabled d := by
  unfold State.drvenRise
  extract_lets r len w t u
  rw [if_neg (by rw [h]; exact Bool.false_ne_true)]
  have hu : u = s.drvEnabled d := by simp only [u, Bool.true_and]; rfl
  rw [hu]

theorem State.drvEnabled_drv (s : State) (d : Nat) :
    (s.drvEnabled d).drv = (s.setDdie d { s.ddie d with en := true, lowAt := none, link := true, hot := false }).drv := by
  unfold State.drvEnabled
  extract_lets _ t
  split <;> rfl

theorem State.drvEnabled_ddie (s : State) (d : Nat) :
    (s.drvEnabled d).ddie d = { s.ddie d with en := true, lowAt := none, link := true, hot := false } :=
  (State.ddie_congr (s.drvEnabled_drv d) d).trans (s.ddie_setDdie_same d _)

theorem State.drvEnabled_dleg (s : State) (d n : Nat) : (s.drvEnabled d).dleg n = s.dleg n := State.dleg_congr (s.drvEnabled_drv d) n

theorem State.drvEnabled_fields (s : State) (d : Nat) : OnlyFlds [Reg.DRV_STATUS_EN, Reg.SYS_DIE_STATUS_DRV_UP] s (s.drvEnabled d) := by
  unfold State.drvEnabled
  extract_lets _ t
  have ht : OnlyFlds [Reg.DRV_STATUS_EN, Reg.SYS_DIE_STATUS_DRV_UP] s t :=
    ((OnlyFlds.refl _ s).same (u := s.drawFree.2.setDdie d _) rfl).setFld (by simp) _
  split
  · exact ht.setFld (by simp) _
  · exact ht

/-- Where no cause of a fault persists, none latches again (R252). -/
theorem State.relatch_none {s : State} {d : Nat} (hv : (s.ddie d).supply = true) (hh : (s.ddie d).hot = false) (hl : (s.ddie d).link = true)
    (hsc : ∀ j, j < 16 → (s.dleg (16 * d + j)).scNow = false) : s.relatch d = s := by
  unfold State.relatch
  simp only [hv, hh, hl, Bool.not_true, Bool.and_false, Bool.false_eq_true, if_false, if_true]
  refine forIdx_induct_lt (P := fun t => t = s) (fun j t hj ht => ?_) rfl
  rw [ht, hsc j hj, Bool.false_and, if_neg Bool.false_ne_true]

/-- A clear before FAULT follows it: no latched fault, CLR_CNT and CLR_S. -/
def State.cleared (s : State) (d : Nat) : State := ((s.freshDie d).count (Reg.DRV_DIE_CNT_CLR_CNT d)).raise Reg.DRV_STATUS_CLR_S

theorem State.cleared_fields (s : State) (d : Nat) :
    OnlyFlds [Reg.DRV_STATUS_CLR_S, Reg.DRV_DIE_CNT_CLR_CNT d] (s.freshDie d) (s.cleared d) :=
  ((OnlyFlds.refl _ _).count (by simp)).raise (by simp)

theorem State.cleared_drv (s : State) (d : Nat) : (s.cleared d).drv = (s.freshDie d).drv := (State.raise_drv ..).trans (State.count_drv ..)

theorem State.cleared_fresh (s : State) (d : Fin 4) : Fresh (s.cleared d) d :=
  (s.freshDie_fresh d).fields (s.cleared_fields d) (s.cleared_drv d) fun g hg => status_low d g (List.mem_cons_of_mem _ hg)

theorem clrCnt_key : ∀ d : Fin 4, (Reg.DRV_DIE_CNT_CLR_CNT d).key ≠ Reg.DRV_STATUS_CLR_S.key ∧
    (Reg.DRV_DIE_CNT_CLR_CNT d).key ≠ Reg.DRV_STATUS_FAULT.key := by decide

theorem State.cleared_cnt (s : State) (d : Fin 4) :
    (s.cleared d).fld (Reg.DRV_DIE_CNT_CLR_CNT d) = s.counted (Reg.DRV_DIE_CNT_CLR_CNT d) := by
  obtain ⟨hlow, hlatch⟩ := status_low d (Reg.DRV_DIE_CNT_CLR_CNT d) (by simp)
  refine (State.fld_raise_other _ (clrCnt_key d).1).trans ((State.fld_count_same ..).trans ?_)
  exact State.counted_congr (s.freshDie_low d hlow fun f hf => (hlatch f hf).symm)

/-- A clear through DRVENd (R252): no latched fault, CLR_CNT, CLR_S, FAULT. -/
theorem State.drvClear_spec (s : State) (d : Fin 4) :
    Fresh (s.drvClear d) d ∧ (s.drvClear d).fld (Reg.DRV_DIE_CNT_CLR_CNT d) = s.counted (Reg.DRV_DIE_CNT_CLR_CNT d) ∧
    (s.drvClear d).on Reg.DRV_STATUS_CLR_S = true ∧ bitOf ((s.drvClear d).fld Reg.DRV_STATUS_FAULT) d = false := by
  have hstatus := (s.cleared d).noteFault_fields d
  refine ⟨(s.cleared_fresh d).noteFault, ?_, ?_, (s.cleared_fresh d).status⟩
  · exact (hstatus _ (by simpa using (clrCnt_key d).2)).trans (s.cleared_cnt d)
  · have hfld : (s.drvClear d).fld Reg.DRV_STATUS_CLR_S = (s.cleared d).fld Reg.DRV_STATUS_CLR_S := hstatus _ (by decide)
    rw [State.on, hfld]
    exact State.on_raise_same _ rfl

theorem State.drvClear_drv (s : State) (d : Nat) : (s.drvClear d).drv = (s.freshDie d).drv :=
  (State.noteFault_drv ..).trans (s.cleared_drv d)

/-! The supply of a die (R251, R256). -/

theorem State.dieUp_ddie (s : State) (d : Nat) : (s.dieUp d).ddie d = { s.ddie d with supply := true, risen := true } :=
  s.ddie_setDdie_same d _

/-- A die that starts afresh. -/
theorem State.dieStart_spec (s : State) (d : Fin 4) :
    Fresh (s.dieStart d) d ∧ (s.dieStart d).ddie d = { s.ddie d with supply := true, risen := true } :=
  ⟨((s.dieUp d).freshDie_fresh d).noteFault, (State.ddie_congr (State.noteFault_drv ..) d).trans
    (((s.dieUp d).freshDie_ddie d d).trans (s.dieUp_ddie d))⟩

theorem State.vuvNow_eq {s : State} {d : Nat} {r : DrvDie} (h : s.ddie d = r) : s.vuvNow d = !r.supply := by unfold State.vuvNow; rw [h]

/-! A short circuit (R250). -/

/-- A source's latching leaves the conditions that are live. -/
theorem State.latchSource_live (s : State) (k : Nat) : (s.latchSource k).trp.live = s.trp.live := by
  have hset : (s.setLatch' k).trp.live = s.trp.live := by
    unfold State.setLatch'
    have hforce (u : State) : u.settleForcing.trp = u.trp := u.settleForcing_in.frame .trp (by decide)
    rw [hforce]
    rfl
  have hcycle : (s.setLatch' k).noteCycle.trp = (s.setLatch' k).trp := (State.noteCycle_in _).frame .trp (by decide)
  have htrip (b : Bool) : ((s.setLatch' k).noteTrip k b).trp = (s.setLatch' k).trp := (State.noteTrip_in _ k b).frame .trp (by decide)
  unfold State.latchSource
  split
  · rfl
  · split
    · exact (congrArg TrpRun.live (State.raise_trp ..)).trans hset
    · split
      · exact (congrArg TrpRun.live hcycle).trans hset
      · exact (congrArg TrpRun.live (htrip _)).trans hset

/-- A source whose condition begins is live (R225). -/
theorem State.sourceLive_contains (s : State) (k : Nat) : (s.sourceLive k true).trp.live.contains k = true := by
  unfold State.sourceLive
  rw [if_pos rfl, State.latchSource_live]
  generalize (if s.trp.live.contains k = true then s else s.mark (markBegun k)) = t
  show (if t.trp.live.contains k then t.trp.live else k :: t.trp.live).contains k = true
  split
  · assumption
  · simp

theorem State.shortCircuit_eq {s : State} {n : Fin 64} (hd : s.direct n = true) (he : s.on (Reg.DRV_LEG_CFG_SC_EN n) = true)
    (hv : (s.ddie (n / 16)).supply = true) (hoff : s.on (Reg.DRV_LEG_STATUS_SC n) = false) :
    s.shortCircuit n true = ((s.setDleg n { s.dleg n with scNow := true }).latchLegFault n (Reg.DRV_LEG_STATUS_SC n)
      (some (State.dieCfg (s.setDleg n { s.dleg n with scNow := true }) n).soft)).sourceLive (16 + n) true := by
  have hon : (s.setDleg n { s.dleg n with scNow := true }).on (Reg.DRV_LEG_STATUS_SC n) = false := hoff
  unfold State.shortCircuit
  simp only [hd, he, hv, hon, Bool.and_self, Bool.true_or, if_true, Bool.false_eq_true, if_false]

end Sys2Proof.Machine
end

/-! O46: the events of a drive die. -/

section
open Sys2Proof Sys2Proof.Machine

namespace Sys2Proof.Machine

/-- DRVENd falls (R23). -/
theorem State.drvenLow_spec (s : State) (d : Fin 4) :
    ((s.drvenLow d).ddie d).en = false ∧ (∀ j, j < 16 → Dark (s.drvenLow d) (16 * d + j)) ∧
    bitOf ((s.drvenLow d).fld Reg.DRV_STATUS_EN) d = false ∧ OnlyFlds [Reg.DRV_STATUS_EN] s (s.drvenLow d) ∧
    ((s.ddie d).en = true → ((s.drvenLow d).ddie d).lowAt = some s.now) := by
  set r : DrvDie := { s.ddie d with en := false, lowAt := if (s.ddie d).en then some s.now else (s.ddie d).lowAt } with hr
  have heq : s.drvenLow d = ((s.dieOff d).setDdie d r).setFld Reg.DRV_STATUS_EN (clearBit (s.fld Reg.DRV_STATUS_EN) d) := rfl
  have hdie : (s.drvenLow d).ddie d = r := by
    rw [heq, State.ddie_congr (State.setFld_drv ..), State.ddie_setDdie_same]
  have hreg : OnlyFlds [Reg.DRV_STATUS_EN] s ((s.dieOff d).setDdie d r) :=
    (OnlyFlds.refl _ s).same ((State.setDdie_regs ..).trans (s.dieOff_regs d))
  refine ⟨by rw [hdie], fun j hj => ?_, ?_, ?_, fun he => ?_⟩
  · rw [heq]
    exact ((s.dieOff_dark d j hj).setDdie d r).same (State.setFld_drv ..)
  · rw [heq, State.fld_setFld_same]
    exact (bitOf_mod d.isLt _).trans (bitOf_clearBit_same _ _)
  · rw [heq]
    exact hreg.setFld (List.mem_singleton.2 rfl) _
  · rw [hdie]
    exact if_pos he

/-- The loss of a link whose fault is not latched (R22, R251, R358). -/
theorem State.dlinkLoss_spec {s : State} {d : Fin 4} (h : s.on (Reg.DRV_DIE_STATUS_LINKF d) = false) :
    ((s.dlinkLoss d).ddie d).link = false ∧ (∀ j, j < 16 → Dark (s.dlinkLoss d) (16 * d + j)) ∧
    (s.dlinkLoss d).on (Reg.DRV_DIE_STATUS_LINKF d) = true ∧ bitOf ((s.dlinkLoss d).fld Reg.SYS_DIE_STATUS_DLINK_S) d = true ∧
    (s.dlinkLoss d).fld Reg.SYS_LINK_ERR_CNT_DLINK_ERR_CNT = s.counted Reg.SYS_LINK_ERR_CNT_DLINK_ERR_CNT ∧
    bitOf ((s.dlinkLoss d).fld Reg.SYS_DIE_STATUS_DRV_UP) d = false ∧
    (s.dlinkLoss d).fld (Reg.DRV_DIE_CNT_FLT_CNT d) = s.counted (Reg.DRV_DIE_CNT_FLT_CNT d) ∧
    (s.on Reg.TWN_CTRL_PAIR_EN = true → s.role ≠ roleLOST →
      (s.dlinkLoss d).role = roleLOST ∧ (s.dlinkLoss d).on Reg.TWN_STATUS_STANDDN_S = true) := by
  have hcnt : ∀ d : Fin 4, ∀ g ∈ linkFlds, (Reg.DRV_DIE_CNT_FLT_CNT d).key ≠ g.key := by decide
  have hpair : ∀ f ∈ [Reg.TWN_CTRL_PAIR_EN, Reg.TWN_STATUS_ROLE], ∀ g ∈ linkFlds, f.key ≠ g.key := by decide
  obtain ⟨-, -, hlinkf⟩ := FaultLatch.of_die d
  have hl := (s.linkLost d).latchDieFault_latched hlinkf
  set w := (s.linkLost d).latchDieFault d (Reg.DRV_DIE_STATUS_LINKF d) with hw
  rw [State.dlinkLoss_eq h, ← hw]
  have latched {f : Fld} (hf : f ∈ Reg.TWN_CTRL_PAIR_EN :: Reg.TWN_STATUS_ROLE :: linkFlds) : w.fld f = (s.linkLost d).fld f :=
    hl.fields.fld f (linkFlds_spared d f hf).1 (linkFlds_spared d f hf).2
  have stood {f : Fld} (hf : f ∈ Reg.DRV_DIE_STATUS_LINKF d :: Reg.DRV_DIE_CNT_FLT_CNT d :: linkFlds) : w.standDown.fld f = w.fld f :=
    w.standDown_beside.fld f (standFlds_spare d f hf).1 (standFlds_spare d f hf).2
  obtain ⟨hbit, herr, hup⟩ := s.linkLost_record d
  refine ⟨?_, fun j hj => (hl.dark j hj).standDown, ?_, ?_, ?_, ?_, ?_, fun hp hr => ?_⟩
  · rw [State.standDown_ddie, hl.ddie]
    exact s.linkLost_ddie d
  · rw [State.on, stood (by simp)]
    exact hl.flag
  · rwa [stood (by simp [linkFlds]), latched (by simp [linkFlds])]
  · rwa [stood (by simp [linkFlds]), latched (by simp [linkFlds])]
  · rwa [stood (by simp [linkFlds]), latched (by simp [linkFlds])]
  · rw [stood (by simp), hl.cnt]
    exact State.counted_congr (s.linkLost_fields d _ (hcnt d))
  · refine State.standDown_lost ?_ ?_
    · rw [State.on, latched (by simp), s.linkLost_fields d _ (hpair _ (by simp))]
      exact hp
    · rw [State.role, latched (by simp), s.linkLost_fields d _ (hpair _ (by simp))]
      exact hr

/-- A rise of DRVENd that clears, where no cause of a fault persists (R252). -/
theorem State.drvenRise_clears {s : State} {d : Fin 4} {a : Nat} (he : (s.ddie d).en = false) (ha : (s.ddie d).lowAt = some a)
    (hlen : 800 ≤ s.now - a) (hv : (s.ddie d).supply = true) (hsc : ∀ j, j < 16 → (s.dleg (16 * d + j)).scNow = false) :
    s.drvenRise d true false = (s.drvEnabled d).drvClear d := by
  have hclears : clears (s.now - (s.ddie d).lowAt.getD 0) s.drawFree.1 = true := by
    rw [ha]
    simp [clears, hlen]
  have hdie : ((s.drvEnabled d).drvClear d).ddie d = { s.ddie d with en := true, lowAt := none, link := true, hot := false } :=
    (State.ddie_congr (State.drvClear_drv ..) d).trans ((State.freshDie_ddie ..).trans (s.drvEnabled_ddie d))
  have hleg (n : Nat) : (((s.drvEnabled d).drvClear d).dleg n).scNow = (s.dleg n).scNow := by
    rw [State.dleg_congr (State.drvClear_drv ..), State.freshDie_scNow, State.drvEnabled_dleg]
  rw [State.drvenRise_eq he, if_pos hclears]
  exact State.relatch_none (by rw [hdie]; exact hv) (by rw [hdie]) (by rw [hdie]) fun j hj => (hleg _).trans (hsc j hj)

/-- A low interval below 1.4 µs clears nothing (R252). -/
theorem State.drvenRise_short {s : State} {d : Fin 4} {a : Nat} (he : (s.ddie d).en = false) (ha : (s.ddie d).lowAt = some a)
    (hlen : s.now - a < 560) : s.drvenRise d true false = s.drvEnabled d := by
  have hclears : clears (s.now - (s.ddie d).lowAt.getD 0) s.drawFree.1 = false := by
    rw [ha]
    simp only [clears, Option.getD_some, decide_eq_false (show ¬ 800 ≤ s.now - a by omega),
      decide_eq_false (show ¬ 560 ≤ s.now - a by omega),
      Bool.false_and, Bool.or_self]
  rw [State.drvenRise_eq he, hclears, if_neg Bool.false_ne_true]

theorem State.drvEnabled_counted (s : State) (d : Fin 4) :
    (s.drvEnabled d).counted (Reg.DRV_DIE_CNT_CLR_CNT d) = s.counted (Reg.DRV_DIE_CNT_CLR_CNT d) := by
  have hkey : ∀ d : Fin 4, ∀ g ∈ [Reg.DRV_STATUS_EN, Reg.SYS_DIE_STATUS_DRV_UP], (Reg.DRV_DIE_CNT_CLR_CNT d).key ≠ g.key := by
    decide
  exact State.counted_congr (s.drvEnabled_fields d _ (hkey d))

/-- A supply that falls after it had risen, where its fault is not latched (R251). -/
theorem State.drvVuv_risen {s : State} {d : Fin 4} (hr : (s.ddie d).risen = true) (h : s.on (Reg.DRV_DIE_STATUS_VUV d) = false) :
    s.drvVuv d = (s.setDdie d { s.ddie d with supply := false }).latchDieFault d (Reg.DRV_DIE_STATUS_VUV d) := by
  unfold State.drvVuv
  rw [hr, h]
  rfl

theorem State.drvVuv_first {s : State} {d : Fin 4} (hr : (s.ddie d).risen = false) :
    s.drvVuv d = (s.setDdie d { s.ddie d with supply := false }).dieOff d := by
  unfold State.drvVuv
  rw [hr]
  rfl

theorem State.drvOt_eq {s : State} {d : Fin 4} (h : s.on (Reg.DRV_DIE_STATUS_OT d) = false) :
    s.drvOt d = (s.setDdie d { s.ddie d with hot := true }).latchDieFault d (Reg.DRV_DIE_STATUS_OT d) := by
  unfold State.drvOt
  exact if_neg (ne_true_of_eq_false h)

/-- A supply that rises again either leaves the registers or starts the die afresh (R251, R256). -/
theorem State.drvRise_again {s : State} {d : Fin 4} (hr : (s.ddie d).risen = true) (hs : (s.ddie d).supply = false) :
    ((s.drvRise d).ddie d).supply = true ∧ ((s.drvRise d).regs = s.regs ∨ Fresh (s.drvRise d) d) := by
  obtain ⟨hfresh, hdie⟩ := s.drawFree.2.dieStart_spec d
  have hup := s.drawFree.2.dieUp_ddie d
  unfold State.drvRise
  extract_lets w
  rw [hr, hs, if_neg (by decide), if_neg (by decide)]
  split
  · exact ⟨by rw [hdie], .inr hfresh⟩
  · exact ⟨by rw [hup], .inl rfl⟩

/-- A short circuit of a leg whose fault is not latched (R250). -/
theorem State.shortCircuit_spec {s : State} {n : Fin 64} (hd : s.direct n = true) (he : s.on (Reg.DRV_LEG_CFG_SC_EN n) = true)
    (hv : (s.ddie (n / 16)).supply = true) (hoff : s.on (Reg.DRV_LEG_STATUS_SC n) = false) :
    (s.shortCircuit n true).on (Reg.DRV_LEG_STATUS_SC n) = true ∧ Dark (s.shortCircuit n true) n ∧
    (s.shortCircuit n true).trp.live.contains (16 + n.val) = true ∧
    (s.shortCircuit n true).fld (Reg.DRV_DIE_CNT_FLT_CNT (n / 16)) = s.counted (Reg.DRV_DIE_CNT_FLT_CNT (n / 16)) := by
  have hdie : n.val / 16 < 4 := by omega
  have hlatch := FaultLatch.of_leg n
  rw [State.shortCircuit_eq hd he hv hoff]
  set t := s.setDleg n { s.dleg n with scNow := true }
  have hregs : t.regs = s.regs := State.setDleg_regs ..
  set soft := some (t.dieCfg n).soft
  have hl : Latched t (t.gatesOffAt n soft) (t.latchLegFault n (Reg.DRV_LEG_STATUS_SC n) soft) (n / 16) (Reg.DRV_LEG_STATUS_SC n) :=
    State.recordFault_latched (d := ⟨n / 16, hdie⟩) (State.setDleg_regs ..) hlatch _
  have hlive := (t.latchLegFault n (Reg.DRV_LEG_STATUS_SC n) soft).sourceLive_acts (16 + n) true
  refine ⟨?_, ?_, State.sourceLive_contains .., ?_⟩
  · rw [State.on, hlive.drvFld hlatch.blk]
    exact hl.flag
  · exact (t.gatesOffAt_dark n soft).same (((State.sourceLive_in ..).frame .drv (by decide)).trans hl.drv)
  · rw [hlive.drvFld (fltCnt_key ⟨n / 16, hdie⟩).2, hl.cnt]
    exact State.counted_congr (State.fld_congr hregs _)

end Sys2Proof.Machine

/-- Settles O46: each command turns the gates off or clears by its own equation, and the fault actions, the trip and the standing down that
follow leave the fields and the gates of the die. -/
theorem driveDieFaultsAndClears : Obligations.DriveDieFaultsAndClears := by
  refine ⟨fun s d => ⟨_, rfl, s.drvenLow_spec d⟩, fun s d h => ⟨_, rfl, State.dlinkLoss_spec h⟩,
    fun s d a he ha => ⟨fun hlen hv hsc => ?_, fun hlen => ?_⟩,
    fun s d => ⟨fun hr h => ?_, fun hr => ?_, fun h => ?_, fun hr hs => ?_, fun hr hs => ?_, fun hr => ?_⟩,
    fun s n hdir hen hv hoff => ?_⟩
  · obtain ⟨hfresh, hcnt, hclr, hstatus⟩ := (s.drvEnabled d).drvClear_spec d
    have hdie : ((s.drvEnabled d).drvClear d).ddie d = { s.ddie d with en := true, lowAt := none, link := true, hot := false } :=
      (State.ddie_congr (State.drvClear_drv ..) d).trans ((State.freshDie_ddie ..).trans (s.drvEnabled_ddie d))
    refine ⟨_, congrArg Host.Outcome.next (State.drvenRise_clears he ha hlen hv hsc), ?_, hfresh.die, hfresh.legs, ?_, hclr, hstatus⟩
    · rw [hdie]
    · exact hcnt.trans (s.drvEnabled_counted d)
  · exact ⟨_, congrArg Host.Outcome.next (State.drvenRise_short he ha hlen), by rw [State.drvEnabled_ddie], s.drvEnabled_fields d⟩
  · have hl := (s.setDdie d { s.ddie d with supply := false }).latchDieFault_latched (FaultLatch.of_die d).1
    have hdie := (hl.ddie d).trans (s.ddie_setDdie_same d _)
    exact ⟨_, congrArg Host.Outcome.next (State.drvVuv_risen hr h), hl.dark, hl.flag, State.vuvNow_eq hdie,
      by rw [hdie], by rw [hdie]; exact hr, hl.cnt⟩
  · refine ⟨_, congrArg Host.Outcome.next (State.drvVuv_first hr), State.dieOff_dark _ d, ?_,
      (State.dieOff_regs ..).trans (State.setDdie_regs ..)⟩
    exact State.vuvNow_eq ((State.dieOff_ddie ..).trans (s.ddie_setDdie_same d _))
  · have hl := (s.setDdie d { s.ddie d with hot := true }).latchDieFault_latched (FaultLatch.of_die d).2.1
    exact ⟨_, congrArg Host.Outcome.next (State.drvOt_eq h), hl.dark, hl.flag, hl.cnt⟩
  · have hrise : s.drvRise d = s := by
      unfold State.drvRise
      rw [hr, hs]
      rfl
    exact congrArg Host.Outcome.next hrise
  · obtain ⟨hsup, hrest⟩ := State.drvRise_again hr hs
    refine ⟨_, rfl, hsup, ?_, hrest.imp_right fun h => ⟨h.die, h.legs⟩⟩
    rw [State.vuvNow, hsup]
    rfl
  · obtain ⟨hfresh, hdie⟩ := s.dieStart_spec d
    have hrise : s.drvRise d = s.dieStart d := by
      unfold State.drvRise
      exact if_pos hr
    exact ⟨_, congrArg Host.Outcome.next hrise, by rw [hdie], by rw [hdie], State.vuvNow_eq hdie, hfresh.die, hfresh.legs⟩
  · obtain ⟨hon, hdark, hlive, hcnt⟩ := State.shortCircuit_spec hdir hen hv hoff
    exact ⟨_, rfl, hon, hdark.1, hdark.2, hlive, hcnt⟩

end

/-! Passes of a converter: how they begin, slip and end, and the requests of injected sequences. -/

section
open Sys2Proof Sys2Proof.Machine

namespace Sys2Proof.Machine

variable {s t : State} {c : Nat}

/-! A pass begins and ends. -/

theorem State.conv_congr (h : t.adc = s.adc) (c : Nat) : t.conv c = s.conv c := by
  unfold State.conv
  rw [h]

theorem State.releaseHeld_conv (s : State) (c : Nat) : (s.releaseHeld c).conv c = { s.conv c with held := none } := by
  unfold State.releaseHeld
  split
  next h => rw [← h]
  next =>
    split
    · exact s.conv_setConv_same c _
    · exact s.conv_setConv_same c _

theorem State.releaseHeld_regs (s : State) (c : Nat) : (s.releaseHeld c).regs = s.regs := by
  unfold State.releaseHeld
  split
  · rfl
  · split <;> rfl

theorem State.beginSeq_conv (s : State) (c n : Nat) (inj : Bool) : (s.beginSeq c n inj).conv c =
    { s.conv c with busy := true, held := none, passStart := n, slot := 0, injRun := inj, slipped := false,
                    passes := if inj then (s.conv c).passes else (s.conv c).passes + 1 } := by
  unfold State.beginSeq
  rw [State.conv_setConv_same, s.releaseHeld_conv c]

theorem State.beginSeq_regs (s : State) (c n : Nat) (inj : Bool) : (s.beginSeq c n inj).regs = s.regs := s.releaseHeld_regs c

theorem State.slotsNow_congr (hheld : (t.conv c).held = (s.conv c).held) (hinj : (t.conv c).injRun = (s.conv c).injRun)
    (hsched : t.adc.sched = s.adc.sched) : t.slotsNow c = s.slotsNow c := by
  unfold State.slotsNow State.passSched
  rw [hheld, hinj, hsched]

theorem State.passFld_congr (hheld : (t.conv c).held = (s.conv c).held) {f : Fld} (hf : t.fld f = s.fld f) :
    t.passFld c f = s.passFld c f := by
  unfold State.passFld
  rw [hheld, hf]

/-- The next slot hangs on the pass and on OWDIV. -/
theorem State.nextSlot_congr (hheld : (t.conv c).held = (s.conv c).held) (hinj : (t.conv c).injRun = (s.conv c).injRun)
    (hpass : (t.conv c).passes = (s.conv c).passes) (hsched : t.adc.sched = s.adc.sched)
    (hdiv : t.fld Reg.ADC_OW_CFG_OWDIV = s.fld Reg.ADC_OW_CFG_OWDIV) (k : Nat) : t.nextSlot c k = s.nextSlot c k := by
  unfold State.nextSlot
  rw [State.slotsNow_congr hheld hinj hsched, State.passFld_congr hheld hdiv, hpass]

/-- A sequence that converts after its last slot is still within its slots' time. -/
theorem State.converting_last (h : s.converting c = true) (hnone : s.nextSlot c (s.conv c).slot = none) : s.now < s.passEnd c + 5 := by
  unfold State.converting at h
  simpa [hnone] using (Bool.and_eq_true_iff.1 h).2

/-- The end of a sequence with a slipped pass is the start of that pass (R182). -/
theorem State.endSeq_slipped (hslip : (s.conv c).slipped = true) (hnone : s.nextSlot c (s.conv c).slot = none) :
    (((s.endSeq c).conv c).busy = true ∧ ((s.endSeq c).conv c).slipped = false ∧ ((s.endSeq c).conv c).slot = 0 ∧
      ((s.endSeq c).conv c).passStart = s.passEnd c) ∧ (s.endSeq c).regs = s.regs := by
  unfold State.endSeq
  extract_lets r e u _ t
  have hu : u.regs = s.regs := by
    show (if s.now < e + 5 then s else s.releaseHeld c).regs = s.regs
    split
    · rfl
    · exact s.releaseHeld_regs c
  rw [if_pos (by rw [hslip, hnone]; rfl), State.beginSeq_conv, State.beginSeq_regs]
  exact ⟨⟨rfl, rfl, rfl, rfl⟩, hu⟩

/-- The items of a converter outlive the end of its sequence. -/
theorem State.endSeq_queue (s : State) (c : Nat) : ((s.endSeq c).conv c).queue = (s.conv c).queue := by
  unfold State.endSeq
  extract_lets r e u _ t
  have hu : (u.conv c).queue = (s.conv c).queue := by
    show ((if s.now < e + 5 then s else s.releaseHeld c).conv c).queue = (s.conv c).queue
    split
    · rfl
    · rw [s.releaseHeld_conv c]
  have ht : (t.conv c).queue = (s.conv c).queue := by
    rw [u.conv_setConv_same c _]
    exact hu
  split
  · rw [State.beginSeq_conv, State.conv_setConv_same]
    exact ht
  · exact ht

/-! A start instant. -/

/-- The record of a slipped pass (R182). -/
def State.slip (s : State) (c : Nat) : State :=
  (((s.setConv c { s.conv c with slipped := true }).raiseBit Reg.ADC_SLIP_S c).raise Reg.ADC_STATUS_SLIP_S).count Reg.ADC_CNT_B_SLIP_CNT

theorem State.slip_conv (s : State) (c : Nat) : (s.slip c).conv c = { s.conv c with slipped := true } :=
  (State.conv_congr (t := s.slip c) (s := s.setConv c _) (by
    unfold State.slip
    simp only [State.count_adc, State.raise_adc, State.raiseBit_adc]) c).trans (s.conv_setConv_same c _)

theorem State.slip_fields (s : State) (c : Nat) :
    OnlyFlds [Reg.ADC_SLIP_S, Reg.ADC_STATUS_SLIP_S, Reg.ADC_CNT_B_SLIP_CNT] s (s.slip c) :=
  (((OnlyFlds.refl _ (s.setConv c { s.conv c with slipped := true })).raiseBit (f := Reg.ADC_SLIP_S) (by simp) c).raise
    (f := Reg.ADC_STATUS_SLIP_S) (by simp)).count (f := Reg.ADC_CNT_B_SLIP_CNT) (by simp)

theorem State.slip_nextSlot (s : State) (c k : Nat) : (s.slip c).nextSlot c k = s.nextSlot c k := by
  have h := s.slip_conv c
  exact State.nextSlot_congr (s := s) (t := s.slip c) (by rw [h]) (by rw [h]) (by rw [h]) rfl
    (s.slip_fields c Reg.ADC_OW_CFG_OWDIV (by decide)) k

theorem State.slip_passEnd (s : State) (c : Nat) : (s.slip c).passEnd c = s.passEnd c := by
  have h := s.slip_conv c
  unfold State.passEnd
  rw [State.slotsNow_congr (t := s.slip c) (s := s) (by rw [h]) (by rw [h]) rfl, h]

theorem State.slip_marks (s : State) (c : Fin 32) :
    (s.slip c).on Reg.ADC_STATUS_SLIP_S = true ∧ bitOf ((s.slip c).fld Reg.ADC_SLIP_S) c = true ∧
    (s.slip c).fld Reg.ADC_CNT_B_SLIP_CNT = s.counted Reg.ADC_CNT_B_SLIP_CNT := by
  unfold State.slip
  refine ⟨?_, ?_, ?_⟩
  · unfold State.on
    rw [State.fld_count_other _ (by decide)]
    exact State.on_raise_same _ (by decide)
  · rw [State.fld_count_other _ (by decide), State.fld_raise_other _ (by decide), State.fld_raiseBit, if_pos rfl,
      bitOf_mod (by exact c.isLt), bitOf_setBit_same]
  · rw [State.fld_count_same]
    exact State.counted_congr ((State.fld_raise_other _ (by decide)).trans (State.fld_raiseBit_other _ _ (by decide)))

theorem State.scheduleStart_idle (hstart : s.startNow c = true) (hmark : s.marked (0x1000 + c) = false) (h : s.converting c = false) :
    s.scheduleStart c = (s.mark (0x1000 + c)).beginSeq c s.now false := by
  have ht : (s.mark (0x1000 + c)).converting c = false := h
  unfold State.scheduleStart
  simp [hstart, hmark, ht]
  rfl

theorem State.scheduleStart_busy (hstart : s.startNow c = true) (hmark : s.marked (0x1000 + c) = false) (h : s.converting c = true) :
    s.scheduleStart c = if (s.nextSlot c (s.conv c).slot).isNone then ((s.mark (0x1000 + c)).slip c).endSeq c
      else (s.mark (0x1000 + c)).slip c := by
  have ht : (s.mark (0x1000 + c)).converting c = true := h
  have hslot : ((s.mark (0x1000 + c)).slip c).nextSlot c (((s.mark (0x1000 + c)).slip c).conv c).slot =
      s.nextSlot c (s.conv c).slot := by
    rw [State.slip_conv]
    exact State.slip_nextSlot ..
  unfold State.scheduleStart
  rw [if_neg (by simp [hstart, hmark])]
  extract_lets t u
  rw [if_pos ht, ← hslot]
  rfl

end Sys2Proof.Machine

end

/-! Injected sequences of a converter. -/

section
open Sys2Proof Sys2Proof.Machine

namespace Sys2Proof.Machine

variable {s t : State}

/-- A fold over an index range whose other steps do nothing is its one step. -/
theorem forIdx_single {σ : Type} {f : Nat → σ → σ} {c n : Nat} (hc : c < n) (hf : ∀ k t, k ≠ c → f k t = t) (s : σ) :
    forIdx n f s = f c s := by
  have hkeep : forIdx c f s = s := forIdx_induct_lt (P := (· = s)) (fun k t hk ht => (hf k t (Nat.ne_of_lt hk)).trans ht) rfl
  induction n with
  | zero => exact absurd hc (Nat.not_lt_zero c)
  | succ n ih =>
    rw [forIdx_succ]
    rcases Nat.lt_succ_iff_lt_or_eq.1 hc with h | rfl
    · rw [ih h, hf n _ (Nat.ne_of_gt h)]
    · rw [hkeep]

theorem bitOf_two_pow (c k : Nat) : bitOf (2 ^ c) k = decide (c = k) := by
  rw [bitOf_eq_testBit, Nat.testBit_two_pow]

/-- A word of one converter asks that converter alone, where the source is its own. -/
theorem State.injectWord_single (s : State) (host : Bool) (c : Fin 32) (hsrc : (if host then (s.convRec c).injSrc == 9 else
      decide (1 ≤ (s.convRec c).injSrc) && decide ((s.convRec c).injSrc ≤ 8) && s.ticksNow ((s.convRec c).injSrc - 1)) = true) :
    s.injectWord host (2 ^ c.val) = s.injectRequest c := by
  unfold State.injectWord
  rw [forIdx_single c.isLt fun k t hk => ?_]
  · simp only [bitOf_two_pow, decide_true, Bool.true_and]
    exact if_pos hsrc
  · simp only [bitOf_two_pow, decide_eq_false hk.symm, Bool.false_and]
    exact if_neg Bool.false_ne_true

theorem State.injectRequest_asks {c : Nat} (h : (s.conv c).injPend = false) :
    s.injectRequest c = s.setConv c { s.conv c with injPend := true } := by
  unfold State.injectRequest
  simp [h]

theorem State.injectRequest_overrun {c : Nat} (h : (s.conv c).injPend = true) :
    s.injectRequest c = (s.raise Reg.ADC_STATUS_INJOVR_S).count Reg.ADC_CNT_C_INJOVR_CNT := by
  unfold State.injectRequest
  exact if_pos h

@[simp] theorem State.noteWrite_adc (s : State) (p : Port) (a : Nat) : (s.noteWrite p a).adc = s.adc := by
  unfold State.noteWrite
  split <;> rfl

theorem State.convRec_congr (h : t.adc = s.adc) (c : Nat) : t.convRec c = s.convRec c := by
  unfold State.convRec
  rw [h]

/-- A port that takes the write asks the converter of the word (R183). -/
theorem State.injectKick {p : Port} {c : Fin 32} {m : Word} (ht : s.Takes p Reg.ADC_INJ_KICK.addr) (hm : m.toNat = 2 ^ c.val)
    (hsrc : (s.convRec c).injSrc = 9) :
    exec (.injectRequest (some p) m) s = .next ((s.noteWrite p Reg.ADC_INJ_KICK.addr).injectRequest c) := by
  have hword := State.injectWord_single (s.noteWrite p Reg.ADC_INJ_KICK.addr) true c
    (by rw [State.convRec_congr (s.noteWrite_adc ..), hsrc]; rfl)
  exact congrArg Host.Outcome.next ((State.portCmd_takes ht ..).trans (by rw [hm, hword]))

/-- A timer that ticks asks the converter of the word (R183, R202). -/
theorem State.injectTick {c : Fin 32} {k : Fin 8} {m : Word} (hm : m.toNat = 2 ^ c.val) (hsrc : (s.convRec c).injSrc = k.val + 1)
    (htick : s.ticksNow k = true) : exec (.injectRequest none m) s = .next (s.injectRequest c) := by
  have hword := s.injectWord_single false c (by
    rw [hsrc]
    simp only [Bool.false_eq_true, if_false, Nat.add_sub_cancel, htick, Bool.and_true, Bool.and_eq_true, decide_eq_true_eq]
    omega)
  exact congrArg Host.Outcome.next (show s.injectWord false m.toNat = _ by rw [hm, hword])

/-- What a converter that starts an injected sequence was before. -/
theorem execInjectedStart_takes {c : Fin 32} (hp : (s.conv c).injPend = true) (hb : s.converting c = false)
    (hs : (s.conv c).slipped = false) (hf : s.injFits c = true) : exec (.injectedStart c) s =
      .next (if (s.convRec c).injCnt = 0 then s.setConv c { s.conv c with injPend := false }
        else (s.setConv c { s.conv c with injPend := false }).beginSeq c s.now true) :=
  congrArg Host.Outcome.next (if_pos ⟨hp, hb, hs, hf⟩)

end Sys2Proof.Machine

end

/-! The conversion that completes an entry. -/

section
open Sys2Proof Sys2Proof.Machine

namespace Sys2Proof.Machine

variable {s t : State} {c : Nat}

/-! What a conversion with a plain code leaves of its pass. -/

/-- Of a converter's pass, all that the result of a conversion hangs on is as it was. -/
structure SamePass (s t : State) (c : Nat) : Prop where
  held : (t.conv c).held = (s.conv c).held
  start : (t.conv c).passStart = (s.conv c).passStart
  queue : (t.conv c).queue = (s.conv c).queue
  entry : t.adc.entry = s.adc.entry
  sched : t.adc.sched = s.adc.sched
  clk : t.clk = s.clk
  chart : t.chart = s.chart

theorem SamePass.refl (s : State) (c : Nat) : SamePass s s c := ⟨rfl, rfl, rfl, rfl, rfl, rfl, rfl⟩

theorem SamePass.trans {u : State} (h : SamePass s t c) (h' : SamePass t u c) : SamePass s u c :=
  ⟨h'.held.trans h.held, h'.start.trans h.start, h'.queue.trans h.queue, h'.entry.trans h.entry, h'.sched.trans h.sched,
    h'.clk.trans h.clk, h'.chart.trans h.chart⟩

theorem SamePass.setConv {r : ConvRun} (hheld : r.held = (s.conv c).held) (hstart : r.passStart = (s.conv c).passStart)
    (hqueue : r.queue = (s.conv c).queue) : SamePass s (s.setConv c r) c := by
  refine ⟨?_, ?_, ?_, rfl, rfl, rfl, rfl⟩ <;> rwa [State.conv_setConv_same]

theorem SamePass.passSched (h : SamePass s t c) : t.passSched c = s.passSched c := by
  unfold State.passSched
  rw [h.held, h.sched]

theorem clearBit_of_clear {n k : Nat} (h : bitOf n k = false) : clearBit n k = n := by
  unfold clearBit
  rw [h]
  rfl

/-- A check that passes leaves the pass, and every bit of a field of 32 as it was, where the converter had not failed. -/
theorem State.convCheck_passes (h : bitOf (s.fld Reg.ADC_CONVF_NOW) c = false) : SamePass s (s.convCheck c false) c ∧
    OnlyFlds [Reg.ADC_CONVF_NOW] s (s.convCheck c false) ∧
    (s.convCheck c false).fld Reg.ADC_CONVF_NOW % 2 ^ 32 = s.fld Reg.ADC_CONVF_NOW % 2 ^ 32 := by
  unfold State.convCheck
  rw [if_neg Bool.false_ne_true, clearBit_of_clear h]
  extract_lets n _ t
  have ht : SamePass s t c := SamePass.setConv rfl rfl rfl
  split
  · refine ⟨ht.trans ⟨rfl, rfl, rfl, rfl, rfl, rfl, rfl⟩, (OnlyFlds.refl _ t).setFld (f := Reg.ADC_CONVF_NOW) (by simp) _, ?_⟩
    rw [State.fld_setFld_same]
    exact Nat.mod_mod _ _
  · exact ⟨ht, OnlyFlds.refl _ t, rfl⟩

theorem State.overRange_code (s : State) (i : Option Nat) (v : BitVec 16) : SamePass s (s.overRange i (.code v)) c ∧
    OnlyFlds [Reg.ADC_CNT_A_ORNG_CNT] s (s.overRange i (.code v)) := by
  unfold State.overRange
  dsimp only
  split
  · exact ⟨⟨rfl, rfl, rfl, rfl, rfl, rfl, rfl⟩, (OnlyFlds.refl _ s).count (by simp)⟩
  · exact ⟨SamePass.refl s c, OnlyFlds.refl _ s⟩

theorem State.tagRun_same (s : State) (c : Nat) (x : Sampled) : SamePass s (s.tagRun c x) c := SamePass.setConv rfl rfl rfl

/-- The machine after the checks and records of a conversion with a plain code. -/
def State.checked (s : State) (c : Nat) (i : Option Nat) (v : BitVec 16) : State :=
  ((s.convCheck c false).overRange i (.code v)).tagRun c (.code v)

theorem State.checked_same (h : bitOf (s.fld Reg.ADC_CONVF_NOW) c = false) (i : Option Nat) (v : BitVec 16) :
    SamePass s (s.checked c i v) c :=
  ((State.convCheck_passes h).1.trans (State.overRange_code _ i v).1).trans (State.tagRun_same ..)

theorem State.checked_fld (h : bitOf (s.fld Reg.ADC_CONVF_NOW) c = false) (i : Option Nat) (v : BitVec 16) {f : Fld}
    (hf : f.key ≠ Reg.ADC_CNT_A_ORNG_CNT.key) : (s.checked c i v).fld f % 2 ^ 32 = s.fld f % 2 ^ 32 ∧
    (f.key ≠ Reg.ADC_CONVF_NOW.key → (s.checked c i v).fld f = s.fld f) := by
  obtain ⟨-, honly, hnow⟩ := State.convCheck_passes h
  have hrange : (s.checked c i v).fld f = (s.convCheck c false).fld f :=
    (State.overRange_code (c := c) _ i v).2 f (by simpa using hf)
  refine ⟨?_, fun hk => hrange.trans (honly f (by simpa using hk))⟩
  rw [hrange]
  by_cases hk : f.key = Reg.ADC_CONVF_NOW.key
  · unfold State.fld at hnow ⊢
    rw [hk]
    exact hnow
  · rw [honly f (by simpa using hk)]

theorem calFld_spared (n : Nat) : ∀ f ∈ [Reg.ADC_CAL_OFS n, Reg.ADC_CAL_G n],
    f.key ≠ Reg.ADC_CNT_A_ORNG_CNT.key ∧ f.key ≠ Reg.ADC_CONVF_NOW.key := by
  simp only [Fld.key, Reg.ADC_CAL_OFS, Reg.ADC_CAL_G, Reg.ADC_CNT_A_ORNG_CNT, Reg.ADC_CONVF_NOW, List.forall_mem_cons,
    List.not_mem_nil, false_imp_iff, implies_true, and_true]
  omega

theorem inv_spared (n : Nat) : (Reg.ADC_INV n).key ≠ Reg.ADC_CNT_A_ORNG_CNT.key := by
  simp only [Fld.key, Reg.ADC_INV, Reg.ADC_CNT_A_ORNG_CNT]
  omega

/-- The code of a sum is as it was before the conversion's records (R186). -/
theorem State.checked_finishCode (h : bitOf (s.fld Reg.ADC_CONVF_NOW) c = false) (j : Option Nat) (v : BitVec 16) (i : Option Nat)
    (a : Int) : (s.checked c j v).finishCode c i a = s.finishCode c i a := by
  cases i with
  | none => rfl
  | some n =>
    have hheld := (State.checked_same h j v).held
    have hcal : ∀ f ∈ [Reg.ADC_CAL_OFS n, Reg.ADC_CAL_G n], (s.checked c j v).passFld c f = s.passFld c f := fun f hf =>
      State.passFld_congr hheld ((State.checked_fld h j v (calFld_spared n f hf).1).2 (calFld_spared n f hf).2)
    have hinv : bitOf ((s.checked c j v).passFld c (Reg.ADC_INV (n / 32))) (n % 32) =
        bitOf (s.passFld c (Reg.ADC_INV (n / 32))) (n % 32) := by
      unfold State.passFld
      rw [hheld]
      split
      · rfl
      · rw [← bitOf_mod (w := 32) (Nat.mod_lt n (by decide)), (State.checked_fld h j v (inv_spared (n / 32))).1,
          bitOf_mod (Nat.mod_lt n (by decide))]
    unfold State.finishCode
    dsimp only
    rw [hinv, hcal (Reg.ADC_CAL_OFS n) (by simp), hcal (Reg.ADC_CAL_G n) (by simp)]

/-! An entry that has its samples. -/

theorem roundShift_zero (n : Int) : roundShift n 0 = n := by
  unfold roundShift roundDiv
  split <;> omega

theorem State.calTake_same (s : State) (c e : Nat) (x : EntryRun) : SamePass s (s.calTake e x) c := by
  unfold State.calTake
  split
  · exact .refl s c
  · split
    · exact .refl s c
    · split <;> exact ⟨rfl, rfl, rfl, rfl, rfl, rfl, rfl⟩

/-- An entry that has its samples queues its item (R184 to R186). -/
theorem State.finishEntry_queue (hclash : s.queueClash c = false) (r : EntRec) (x : EntryRun) (stamp : Nat) (hx : x.invalid = false) :
    ∃ it : Item, ((s.finishEntry c r x stamp).conv c).queue = (s.conv c).queue ++ [it] ∧ it.entry = r.entry ∧
      it.code = unsignedOf 16 (s.finishCode c ((s.passSched c).inputOf r) (roundShift x.sum r.shift)).1 ∧ it.stamp = stamp ∧
      it.inval = x.inval ∧ it.opn = x.opn ∧ it.input = (s.passSched c).inputOf r ∧ it.stream = r.stream ∧
      it.orng = (x.orng || (s.finishCode c ((s.passSched c).inputOf r) (roundShift x.sum r.shift)).2) := by
  unfold State.finishEntry
  extract_lets d _ img a f item t _ t1
  have ht : SamePass s t c := s.calTake_same c r.entry x
  have hfree : t.queueClash c = false := by
    unfold State.queueClash State.now at hclash ⊢
    rwa [ht.clk, ht.chart]
  have hqueue : (t1.conv c).queue = (t.conv c).queue ++ [item] := by
    show ((if t.queueClash c then t else t.setConv c { t.conv c with queue := (t.conv c).queue ++ [item] }).conv c).queue = _
    rw [if_neg (by rw [hfree]; exact Bool.false_ne_true), State.conv_setConv_same]
  refine ⟨item, hqueue.trans (by rw [ht.queue]), rfl, ?_, rfl, rfl, rfl, rfl, rfl, ?_⟩
  · show (if x.invalid = true then 0x8000 else unsignedOf 16 f.1) = _
    rw [hx]
    rfl
  · show (x.orng || (!x.invalid && f.2)) = _
    rw [hx]
    rfl

/-- The one sample of an entry without averaging completes it (R184). -/
theorem State.collect_single {w : Nat} {r : EntRec} (hent : (s.passSched c).ent (slotEntry w) = some r) (hnm : r.nm1 = 0)
    (hnew : tabGet {} s.adc.entry (entryKey c r.entry) = ({} : EntryRun)) (k : Nat) (m : Sample) (xtalk pllsw : Bool) :
    s.collect c w k m xtalk pllsw false = s.finishEntry c r
      { sum := m.code, cnt := 1, invalid := m.bad, orng := m.orng, xtalk := xtalk, pllsw := pllsw, opn := false, inval := m.bad }
      (slotStamp (s.conv c).passStart k) := by
  unfold State.collect
  simp [hent, hnew, hnm]

theorem sampleOf_code {v : BitVec 16} (h : v ≠ 0x8000#16) : sampleOf (.code v) = { code := v.toInt, orng := fullScale v } := if_neg h

/-- A conversion on an internal input collects its code after its checks (R184). -/
theorem State.convert_code {k : Nat} {v : BitVec 16} (hch : slotCh ((s.slotsNow c).getD k 7) < 2)
    (hok : bitOf (s.fld Reg.ADC_CONVF_NOW) c = false) (hv : v ≠ 0x8000#16) : ∃ i xtalk pllsw, s.convert c k (.code v) =
      (s.checked c i v).collect c ((s.slotsNow c).getD k 7) k { code := v.toInt, orng := fullScale v } xtalk pllsw false := by
  unfold State.convert
  extract_lets w i failing m xtalk pllsw s1 ext opn raw _ s2
  have hs1 : s1 = s.checked c i v := rfl
  have hm : m = { code := v.toInt, orng := fullScale v } := by
    have hfail : failing = false := by
      show (bitOf (s.fld Reg.ADC_CONVF_NOW) c || false) = false
      rw [hok]; rfl
    show (if failing then { bad := true } else sampleOf (.code v)) = _
    rw [hfail, sampleOf_code hv]
    rfl
  have hw : slotCh w < 2 := hch
  have hopn : opn = false := by
    show ((slotCh w == 2 || slotCh w == 3) && s1.isOpen ext) = false
    rw [beq_false_of_ne (by omega), beq_false_of_ne (by omega)]
    rfl
  have hs2 : s2 = s1 := if_neg (by omega)
  refine ⟨i, xtalk, pllsw, ?_⟩
  rw [if_neg (by omega), hs2, hs1, hm, hopn]

/-- A conversion that completes its entry (R179, R184 to R186, R190). -/
theorem State.conversion_completes {k : Nat} {v : BitVec 16} {r : EntRec} (hslot : s.nextSlot c (s.conv c).slot = some k)
    (hbusy : (s.conv c).busy = true) (htime : (s.conv c).passStart + 85 + 80 * k ≤ s.now)
    (hch : slotCh ((s.slotsNow c).getD k 7) < 2) (hok : bitOf (s.fld Reg.ADC_CONVF_NOW) c = false) (hv : v ≠ 0x8000#16)
    (hent : (s.passSched c).ent (slotEntry ((s.slotsNow c).getD k 7)) = some r) (hnm : r.nm1 = 0) (hshift : r.shift = 0)
    (hnew : tabGet {} s.adc.entry (entryKey c r.entry) = ({} : EntryRun)) (hclash : s.queueClash c = false) :
    ∃ x : Item, ((s.conversion c (.code v)).conv c).queue = (s.conv c).queue ++ [x] ∧ x.entry = r.entry ∧
      x.code = unsignedOf 16 (s.finishCode c ((s.passSched c).inputOf r) v.toInt).1 ∧ x.stamp = slotStamp (s.conv c).passStart k ∧
      x.inval = false ∧ x.opn = false ∧ x.input = (s.passSched c).inputOf r ∧ x.stream = r.stream ∧
      x.orng = (fullScale v || (s.finishCode c ((s.passSched c).inputOf r) v.toInt).2) := by
  obtain ⟨i, xtalk, pllsw, hconv⟩ := State.convert_code hch hok hv
  have hsame := State.checked_same hok i v
  have hcode := State.checked_finishCode hok i v ((s.passSched c).inputOf r) v.toInt
  have hfree : (s.checked c i v).queueClash c = false := by
    unfold State.queueClash State.now at hclash ⊢
    rwa [hsame.clk, hsame.chart]
  rw [State.collect_single (by rwa [hsame.passSched]) hnm (by rwa [hsame.entry]), hsame.start] at hconv
  obtain ⟨x, hx⟩ := State.finishEntry_queue hfree r
    { sum := v.toInt, cnt := 1, invalid := false, orng := fullScale v, xtalk := xtalk, pllsw := pllsw, opn := false, inval := false }
    (slotStamp (s.conv c).passStart k) rfl
  rw [hshift, roundShift_zero, hsame.passSched, hcode, hsame.queue, ← hconv] at hx
  have hqueue : ((s.conversion c (.code v)).conv c).queue = ((s.convert c k (.code v)).conv c).queue := by
    unfold State.conversion
    rw [hslot]
    dsimp only
    rw [if_pos ⟨hbusy, htime⟩, State.endSeq_queue, State.conv_setConv_same]
  rw [hqueue]
  exact ⟨x, hx⟩

end Sys2Proof.Machine

end

/-! What a sample makes Contour's probes and the breaker readings write. -/

section
open Sys2Proof Sys2Proof.Machine

namespace Sys2Proof.Machine

variable {s : State}

/-! Contour takes a sample within the fields of the CTR block. -/

theorem State.crossing_ctr (s : State) (p n : Nat) (falling : Bool) : Beside [11] [] s (s.crossing p n falling) := s.ctrPush_ctr ..

theorem State.probeCross_ctr (s : State) (p : Nat) (x : Int) (stamp : Nat) (ok : Bool) :
    Beside [11] [] s (s.probeCross p x stamp ok) := by
  have hset (r : ProbeRun) : Beside [11] [] s (s.setProbe p r) := (Beside.refl s).same rfl
  unfold State.probeCross
  extract_lets r hy up down t
  have ht : Beside [11] [] s t := hset _
  refine .ite ?_ (hset _)
  split
  · exact ht
  · exact .ite (ht.trans (State.crossing_ctr ..)) (.ite (ht.trans (State.crossing_ctr ..)) ht)

theorem State.seqSample_ctr (s : State) (k : Fin 4) (p : Nat) (x : Int) (ok tag : Bool) :
    Beside [11] [] s (s.seqSample k p x ok tag) := by
  have hset (r : SeqRun) : Beside [11] [] s (s.setSeq k r) := (Beside.refl s).same rfl
  unfold State.seqSample
  extract_lets j c lv hy r armed past back put hit
  have hput (b gap : Bool) : Beside [11] [] s (put b gap) := hset _
  refine .ite (.refl s) (.ite (.refl s) (.ite (.ite (hput _ _) (.ite (.ite (hput _ _) ?_) (hput _ _))) (.ite (hset _) (.ite ?_ (.refl s)))))
  · exact (hput _ _).trans (State.seqOccur_ctr ..)
  · exact State.seqOccur_ctr ..

theorem State.recSample_ctr (s : State) (k p stamp val : Nat) (orng xtalk pllsw inval : Bool) :
    Beside [11] [] s (s.recSample k p stamp val orng xtalk pllsw inval) := by
  unfold State.recSample
  extract_lets st r first t
  have ht : Beside [11] [] s t := .ite ((Beside.refl s).same rfl) (.refl s)
  exact .ite (ht.trans (State.ctrPush_ctr ..)) (.refl s)

theorem State.tuneSample_ctr (s : State) (p : Nat) (x : Int) (stamp : Nat) (ok : Bool) : Beside [11] [] s (s.tuneSample p x stamp ok) := by
  unfold State.tuneSample
  refine .ite (.refl s) (Beside.forIdx (fun g t => ?_) (.refl s))
  extract_lets d u
  have hu : Beside [11] [] t u := .ite ((Beside.refl t).same rfl) (.refl t)
  exact .ite (.ite (hu.same rfl) hu) (.refl t)

theorem State.probeTake_ctr (s : State) (p val stamp : Nat) (orng xtalk pllsw bad : Bool) :
    Beside [11] [] s (s.probeTake p val stamp orng xtalk pllsw bad) := by
  unfold State.probeTake
  extract_lets inval tag ok x s1 s2 s3
  have h1 : Beside [11] [] s s1 := .ite (.ite ((Beside.refl s).same rfl) (.refl s)) (.refl s)
  have h2 : Beside [11] [] s s2 := .ite (h1.trans (State.probeCross_ctr ..)) (.ite h1 (h1.same rfl))
  have h3 : Beside [11] [] s s3 := h2.forIdx fun k u => u.seqSample_ctr k p x ok (inval || tag)
  exact (h3.forIdx fun k u => u.recSample_ctr k p stamp val orng xtalk pllsw inval).trans (State.tuneSample_ctr ..)

theorem State.probeSource_ctr (s : State) (kind id port val stamp : Nat) (orng xtalk pllsw bad : Bool) :
    Beside [11] [] s (s.probeSource kind id port val stamp orng xtalk pllsw bad) :=
  .ite (Beside.forIdx (fun _ _ => .ite (State.probeTake_ctr ..) (.refl _)) (.refl s)) (.refl s)

/-! A breaker reading writes its group's BRKINV_S alone. -/

theorem brkinv_blk : ∀ g : Fin 8, (Reg.GFM_EVT_STATUS_BRKINV_S g).blk = 3 := by decide

theorem State.brkWatch_gfm (s : State) (g : Fin 8) : Beside [3] [] s (s.brkWatch g) := by
  have hset (r : GroupRun) : Beside [3] [] s (s.setGrp g r) := (Beside.refl s).same rfl
  unfold State.brkWatch
  extract_lets r
  refine .ite ((hset _).raise (by simp [brkinv_blk g])) ?_
  split
  · exact hset _
  · exact hset _

theorem State.brkResult_gfm (s : State) (i : Nat) : Beside [3] [] s (s.brkResult i) :=
  Beside.forIdx (fun g u => .ite (u.brkWatch_gfm g) (.refl u)) (.refl s)

end Sys2Proof.Machine

end

/-! Items of a converter's queue and their results. -/

section
open Sys2Proof Sys2Proof.Machine

namespace Sys2Proof.Machine

variable {s t : State}

/-! The head of a queue. -/

theorem tabDel_tabDel {α : Type} (m : Tab α) (n : Nat) : tabDel (tabDel m n) n = tabDel m n := by
  induction m with
  | nil => rfl
  | cons e m ih =>
    obtain ⟨k, v⟩ := e
    by_cases h : k = n
    · simp only [tabDel, h, if_true, ih]
    · simp only [tabDel, h, if_false, ih]

theorem tabDel_tabIns {α : Type} (m : Tab α) (n : Nat) (x : α) : tabDel (tabIns m n x) n = tabDel m n := by
  induction m with
  | nil => simp [tabIns, tabDel]
  | cons e m ih =>
    obtain ⟨k, v⟩ := e
    unfold tabIns
    split
    · simp [tabDel]
    · by_cases hk : k = n
      · simp only [tabDel, hk, if_true, ih]
      · simp only [tabDel, hk, if_false, ih]

/-- The last entry of a key counts. -/
theorem tabSet_tabSet {α : Type} [DecidableEq α] (d : α) (m : Tab α) (n : Nat) (a b : α) :
    tabSet d (tabSet d m n a) n b = tabSet d m n b := by
  have hdel : tabDel (tabSet d m n a) n = tabDel m n := by
    unfold tabSet tabPut
    split
    · exact tabDel_tabDel m n
    · rw [tabDel_tabIns, tabDel_tabDel]
  rw [tabSet, tabPut, hdel]
  rfl

theorem State.setConv_setConv (s : State) (c : Nat) (a b : ConvRun) : (s.setConv c a).setConv c b = s.setConv c b := by
  unfold State.setConv
  rw [tabSet_tabSet]

theorem State.setConv_raise (s : State) (c : Nat) (r : ConvRun) (f : Fld) : (s.setConv c r).raise f = (s.raise f).setConv c r := rfl

theorem State.setConv_count (s : State) (c : Nat) (r : ConvRun) (f : Fld) : (s.setConv c r).count f = (s.count f).setConv c r := rfl

theorem execConverterResultItem_first (h : s.awaits Instr.beforeTrigger = false) (c : Fin 32) (parity : Bool) :
    exec (.converterResultItem c parity) s = .next (s.takeItem c parity) := by
  refine congrArg Host.Outcome.next ?_
  unfold State.inOrder
  rw [h]
  rfl

theorem State.takeItem_waits {c : Nat} (h : s.convReset c = true ∨ (s.conv c).queue = []) (parity : Bool) : s.takeItem c parity = s := by
  unfold State.takeItem
  split
  · rfl
  next hq => exact if_pos (h.resolve_right (by simp [hq]))

/-- The item at the head of a queue leaves it (R189). -/
theorem State.takeItem_head {c : Nat} {x : Item} {q : List Item} (hq : (s.conv c).queue = x :: q) (hr : s.convReset c = false)
    (parity : Bool) : s.takeItem c parity = if parity then (s.setConv c { s.conv c with queue := q }).deliverItem c x
      else (((s.setConv c { s.conv c with queue := q }).raise Reg.SYS_DIE_STATUS_ALINK_S).count
        Reg.SYS_LINK_ERR_CNT_ALINK_ERR_CNT).deliverItem c { x with code := 0x8000, inval := true } := by
  unfold State.takeItem
  rw [hq]
  dsimp only
  rw [if_neg (by rw [hr]; exact Bool.false_ne_true)]

/-- An item that fails its parity check is as one that came invalid (R21). -/
theorem State.takeItem_parity {c : Nat} {x : Item} {q : List Item} (hq : (s.conv c).queue = x :: q) (hr : s.convReset c = false) :
    s.takeItem c false = (((s.setConv c { s.conv c with queue := { x with code := 0x8000, inval := true } :: q }).raise
      Reg.SYS_DIE_STATUS_ALINK_S).count Reg.SYS_LINK_ERR_CNT_ALINK_ERR_CNT).takeItem c true := by
  set y : Item := { x with code := 0x8000, inval := true }
  set u := (s.raise Reg.SYS_DIE_STATUS_ALINK_S).count Reg.SYS_LINK_ERR_CNT_ALINK_ERR_CNT with hu
  have hreset : (u.setConv c { s.conv c with queue := y :: q }).convReset c = false := hr
  rw [State.takeItem_head hq hr]
  simp only [State.setConv_raise, State.setConv_count, ← hu, Bool.false_eq_true, if_false]
  rw [State.takeItem_head (by rw [State.conv_setConv_same]) hreset, if_pos rfl, State.conv_setConv_same, State.setConv_setConv]

/-! A result shows in ADC_RES (R193). -/

theorem State.showResult_fld (s : State) (x : Item) :
    (s.showResult x).fld (Reg.ADC_RES_CODE x.entry) = x.code % 2 ^ 16 ∧
    (s.showResult x).fld (Reg.ADC_RES_SEQ x.entry) = (s.fld (Reg.ADC_RES_SEQ x.entry) + 1) % 2 ^ 8 := by
  have hkey : ∀ f ∈ [Reg.ADC_RES_ORNG x.entry, Reg.ADC_RES_XTALK x.entry, Reg.ADC_RES_PLLSW x.entry, Reg.ADC_RES_OPEN x.entry,
      Reg.ADC_RES_INVAL x.entry, Reg.ADC_RES_SEQ x.entry], (Reg.ADC_RES_CODE x.entry).key ≠ f.key := by
    simp [Fld.key, Reg.ADC_RES_CODE, Reg.ADC_RES_ORNG, Reg.ADC_RES_XTALK, Reg.ADC_RES_PLLSW, Reg.ADC_RES_OPEN, Reg.ADC_RES_INVAL,
      Reg.ADC_RES_SEQ]
  unfold State.showResult
  refine ⟨?_, State.fld_setFld_same ..⟩
  rw [State.fld_setFld_other _ _ (hkey _ (by simp)), State.fld_setFld_other _ _ (hkey _ (by simp)),
    State.fld_setFld_other _ _ (hkey _ (by simp)), State.fld_setFld_other _ _ (hkey _ (by simp)),
    State.fld_setFld_other _ _ (hkey _ (by simp)), State.fld_setFld_other _ _ (hkey _ (by simp)), State.fld_setFld_same]
  rfl

theorem res_blk {e : Nat} (he : e < 512) : (Reg.ADC_RES_CODE e).blk = 5 ∧ (Reg.ADC_RES_SEQ e).blk = 5 := by
  simp only [Fld.blk, Fld.key, Reg.ADC_RES_CODE, Reg.ADC_RES_SEQ]
  omega

/-- A plain item: valid, without a tag, of the active schedule, and not streamed. -/
structure Item.Plain (x : Item) (s : State) : Prop where
  orng : x.orng = false
  xtalk : x.xtalk = false
  pllsw : x.pllsw = false
  gen : x.gen = s.stg.gen
  stream : x.stream = false
  value : isNav (scaleCode x.code x.ks) = false

theorem State.routesOf_congr (h : t.stg = s.stg) (n : Nat) : t.routesOf n = s.routesOf n := by
  unfold State.routesOf
  rw [h]

theorem State.triggered_congr (h : t.eng = s.eng) (trig src : Nat) : t.triggered trig src = s.triggered trig src := by
  unfold State.triggered
  simp only [State.cfg_congr h]

/-- A plain item that no route takes and that triggers no context shows in ADC_RES and in its entry's value, and its converter keeps the
rest of its record (R189, R193). -/
theorem State.deliverItem_plain {x : Item} (hx : x.Plain s)
    (hroutes : ((s.routesOf 0).filter fun r => r.srcKind == 0 && r.srcId == x.entry) = []) (htrig : s.triggered 1 x.entry = []) (c : Nat) :
    (s.deliverItem c x).adc.conv = s.adc.conv ∧
    tabGet navN (s.deliverItem c x).adc.entryVal x.entry = scaleCode x.code x.ks ∧
    Beside [3, 11] [] (s.showResult x) (s.deliverItem c x) := by
  obtain ⟨horng, hxtalk, hpllsw, hgen, hstream, hval⟩ := hx
  unfold State.deliverItem
  extract_lets e v old s1 s2 last seen vals _ s3 s3b s4 s5 s6
  have hold : old = false := by
    show (x.gen != s.stg.gen) = false
    rw [hgen]
    exact bne_self_eq_false _
  have hs2 : s2 = s1 := if_neg (by rw [horng]; exact Bool.false_ne_true)
  have hin2 : Within [.regs] s s2 := hs2 ▸ s.showResult_in x
  have hregs : s3.regs = (s.showResult x).regs := show s2.regs = _ by rw [hs2]
  clear_value s2
  have heng : s3.eng = s.eng := hin2.frame .eng (by decide)
  have hstg : s3.stg = s.stg := hin2.frame .stg (by decide)
  have hadc2 : s2.adc = s.adc := hin2.frame .adc (by decide)
  have hconv : s3.adc.conv = s.adc.conv := show s2.adc.conv = _ by rw [hadc2]
  have hvals : tabGet navN s3.adc.entryVal e = v := by
    show tabGet navN (if old then s2.adc.entryVal else tabSet navN s2.adc.entryVal e v) e = v
    rw [hold]
    exact tabGet_set_same ..
  clear_value s3
  have h3b : Within [.regs, .grid] s3 s3b ∧ Beside [3, 11] [] s3 s3b := by
    show Within _ s3 (match x.input with | some i => s3.brkResult i | none => s3) ∧
      Beside _ _ s3 (match x.input with | some i => s3.brkResult i | none => s3)
    cases x.input with
    | none => exact ⟨Within.refl .., .refl s3⟩
    | some i => exact ⟨s3.brkResult_in i, (s3.brkResult_gfm i).mono (by decide) (by simp)⟩
  obtain ⟨hin3, hbes3⟩ := h3b
  clear_value s3b
  have h4 : s4 = s3b := by
    show (if old then s3b else _) = s3b
    rw [hold, State.routesOf_congr ((hin3.frame .stg (by decide)).trans hstg), hroutes]
    rfl
  have hnone : (isNav v || x.orng || x.xtalk || x.pllsw) = false := by rw [hval, horng, hxtalk, hpllsw]; rfl
  have h5 : s5 = s3b.probeSource 0 e 0 v x.stamp x.orng x.xtalk x.pllsw (x.opn || x.inval) := by
    show (s4.burstSample e (isNav v || x.orng || x.xtalk || x.pllsw)).probeSource .. = _
    rw [hnone, h4]
    rfl
  have hin5 : Within [.regs, .ctr, .snd] s3b s5 := h5 ▸ State.probeSource_in ..
  have hbes5 : Beside [3, 11] [] s3b s5 := h5 ▸ (State.probeSource_ctr ..).mono (by decide) (by simp)
  clear_value s5
  have h6 : s6 = s5 := if_neg (by rw [hstream]; exact Bool.false_ne_true)
  have hadc : s5.adc = s3.adc := (hin5.frame .adc (by decide)).trans (hin3.frame .adc (by decide))
  have hlast : s5.triggerAll 1 e = s5 := by
    unfold State.triggerAll
    rw [State.triggered_congr ((hin5.frame .eng (by decide)).trans ((hin3.frame .eng (by decide)).trans heng)), htrig]
    rfl
  rw [hold, if_neg Bool.false_ne_true, h6, hlast, hadc]
  exact ⟨hconv, hvals, (((Beside.refl _).same hregs).trans hbes3).trans hbes5⟩

end Sys2Proof.Machine

end

/-! O42: from a start instant to a result. -/

section
open Sys2Proof Sys2Proof.Machine

namespace Sys2Proof.Machine

variable {s : State}

/-- A start instant while a sequence converts slips, or starts the next pass where the sequence has converted its last slot (R180, R182). -/
theorem State.scheduleStart_slips {c : Fin 32} (hstart : s.startNow c = true) (hmark : s.marked (0x1000 + c.val) = false)
    (h : s.converting c = true) :
    ((s.nextSlot c (s.conv c).slot).isSome = true →
      ((s.scheduleStart c).conv c).slipped = true ∧ ((s.scheduleStart c).conv c).passStart = (s.conv c).passStart) ∧
    (s.nextSlot c (s.conv c).slot = none → ((s.scheduleStart c).conv c).busy = true ∧ ((s.scheduleStart c).conv c).slipped = false ∧
      ((s.scheduleStart c).conv c).slot = 0 ∧ ((s.scheduleStart c).conv c).passStart = s.passEnd c) ∧
    (s.scheduleStart c).regs = ((s.mark (0x1000 + c.val)).slip c).regs := by
  have heq := State.scheduleStart_busy hstart hmark h
  have hconv := (s.mark (0x1000 + c.val)).slip_conv c
  have hend := (s.mark (0x1000 + c.val)).slip_passEnd c
  have hslot := (s.mark (0x1000 + c.val)).slip_nextSlot c (s.conv c).slot
  set u := (s.mark (0x1000 + c.val)).slip c
  rcases hnext : s.nextSlot c (s.conv c).slot with _ | k
  · rw [hnext] at heq
    obtain ⟨⟨hbusy, hslip, hzero, hat⟩, hregs⟩ := State.endSeq_slipped (s := u) (c := c) (by rw [hconv])
      (by rw [hconv]; exact hslot.trans hnext)
    rw [show s.scheduleStart c = u.endSeq c from heq]
    exact ⟨fun h => absurd h Bool.false_ne_true, fun _ => ⟨hbusy, hslip, hzero, hat.trans hend⟩, hregs⟩
  · rw [hnext] at heq
    rw [show s.scheduleStart c = u from heq, hconv]
    exact ⟨fun _ => ⟨rfl, rfl⟩, fun h => (Option.some_ne_none k h).elim, rfl⟩

/-- A plain item at the head of its queue becomes a result (R188, R189, R193). -/
theorem State.takeItem_plain {c : Nat} {x : Item} {q : List Item} (hq : (s.conv c).queue = x :: q) (hr : s.convReset c = false)
    (hx : x.Plain s) (he : x.entry < 512) (hcode : x.code < 2 ^ 16)
    (hroutes : ((s.routesOf 0).filter fun r => r.srcKind == 0 && r.srcId == x.entry) = []) (htrig : s.triggered 1 x.entry = []) :
    ((s.takeItem c true).conv c).queue = q ∧ (s.takeItem c true).fld (Reg.ADC_RES_CODE x.entry) = x.code ∧
    tabGet navN (s.takeItem c true).adc.entryVal x.entry = scaleCode x.code x.ks ∧
    (s.takeItem c true).fld (Reg.ADC_RES_SEQ x.entry) = (s.fld (Reg.ADC_RES_SEQ x.entry) + 1) % 2 ^ 8 := by
  rw [State.takeItem_head hq hr, if_pos rfl]
  set t := s.setConv c { s.conv c with queue := q } with ht
  have hplain : x.Plain t := ⟨hx.orng, hx.xtalk, hx.pllsw, hx.gen, hx.stream, hx.value⟩
  obtain ⟨hconv, hval, hbes⟩ := State.deliverItem_plain hplain ((State.routesOf_congr (t := t) (s := s) rfl 0).symm ▸ hroutes)
    ((State.triggered_congr (t := t) (s := s) rfl 1 x.entry).trans htrig) c
  obtain ⟨hres, hseq⟩ := t.showResult_fld x
  obtain ⟨hb, hb'⟩ := res_blk he
  refine ⟨?_, ?_, hval, ?_⟩
  · unfold State.conv
    rw [hconv]
    exact congrArg ConvRun.queue (s.conv_setConv_same c { s.conv c with queue := q })
  · rw [hbes.fld _ (by simp [hb]) (by simp), hres, Nat.mod_eq_of_lt hcode]
  · rw [hbes.fld _ (by simp [hb']) (by simp), hseq, ht, State.setConv_fld]

end Sys2Proof.Machine

/-- Settles O42, stage by stage: the start or slip of a pass, the request and start of an injected sequence, the conversion that completes
its entry, and the item at the head of a queue. -/
theorem conversionsBecomeResults : Obligations.ConversionsBecomeResults := by
  refine ⟨fun s c hstart hmark => ⟨fun h => ?_, fun h => ?_⟩, fun s p c m ht hm hsrc => ⟨fun h => ?_, fun h => ?_⟩,
    fun s c k m hm hsrc htick h => ?_, fun s c hp hb hs hcnt hf => ?_, fun s c hp hb hs hcnt hf => ?_,
    fun s c k v r hslot hbusy htime hch hok hv hent hnm hshift hnew hclash => ?_, fun s c parity hfirst h => ?_,
    fun s c x q hq hr hfirst => ?_, fun s c x q hq hr he hcode hfirst _ ho hx hp hg hst hroutes htrig hval => ?_, fun ks => if_pos rfl⟩
  · refine ⟨_, congrArg Host.Outcome.next (State.scheduleStart_idle hstart hmark h), ?_⟩
    rw [State.beginSeq_conv]
    exact ⟨rfl, rfl, rfl, rfl, rfl, State.beginSeq_regs ..⟩
  · obtain ⟨hsome, hnone, hregs⟩ := State.scheduleStart_slips hstart hmark h
    obtain ⟨hflag, hbit, hcnt⟩ := (s.mark (0x1000 + c.val)).slip_marks c
    have hfld := State.fld_congr hregs
    refine ⟨_, rfl, hsome, hnone, ?_, ?_, ?_, fun f hf => (hfld f).trans ((s.mark (0x1000 + c.val)).slip_fields c f hf)⟩
    · exact (congrArg (· == 1) (hfld _)).trans hflag
    · rw [hfld]
      exact hbit
    · exact (hfld _).trans hcnt
  · have hconv := State.conv_congr (s.noteWrite_adc p Reg.ADC_INJ_KICK.addr)
    refine ⟨_, (State.injectKick ht hm hsrc).trans (congrArg Host.Outcome.next (State.injectRequest_asks (by rwa [hconv]))), ?_, ?_, ?_⟩
    · rw [State.conv_setConv_same]
    · exact (s.noteWrite_fields p Reg.ADC_INJ_KICK.addr).same rfl
    · exact fun d hd => (State.conv_setConv_other _ _ hd).trans (hconv d)
  · have hconv := State.conv_congr (s.noteWrite_adc p Reg.ADC_INJ_KICK.addr)
    refine ⟨_, (State.injectKick ht hm hsrc).trans (congrArg Host.Outcome.next (State.injectRequest_overrun (by rwa [hconv]))),
      s.noteWrite_adc .., ?_, ?_⟩
    · unfold State.on
      rw [State.fld_count_other _ (by decide)]
      exact State.on_raise_same _ (by decide)
    · rw [State.fld_count_same]
      exact State.counted_congr ((State.fld_raise_other _ (by decide)).trans (s.noteWrite_fld p _ (by decide)))
  · refine ⟨_, (State.injectTick hm hsrc htick).trans (congrArg Host.Outcome.next (State.injectRequest_asks h)), ?_, rfl⟩
    rw [State.conv_setConv_same]
  · refine ⟨_, (execInjectedStart_takes hp hb hs hf).trans (congrArg Host.Outcome.next (if_neg (Nat.ne_of_gt hcnt))), ?_⟩
    rw [State.beginSeq_conv, State.conv_setConv_same]
    exact ⟨rfl, rfl, rfl, rfl, State.beginSeq_regs ..⟩
  · refine ⟨_, (execInjectedStart_takes hp hb hs hf).trans (congrArg Host.Outcome.next (if_pos hcnt)), ?_, ?_, rfl,
      fun d hd => s.conv_setConv_other _ hd⟩
    · rw [State.conv_setConv_same]
    · rw [State.conv_setConv_same]
  · obtain ⟨x, hx⟩ := State.conversion_completes hslot hbusy htime hch hok hv hent hnm hshift hnew hclash
    exact ⟨_, x, rfl, hx⟩
  · rw [execConverterResultItem_first hfirst, State.takeItem_waits h]
  · rw [execConverterResultItem_first hfirst, State.takeItem_parity hq hr]
    refine (execConverterResultItem_first ?_ c true).symm
    exact hfirst
  · exact ⟨_, execConverterResultItem_first hfirst c true,
      State.takeItem_plain hq hr ⟨ho, hx, hp, hg, hst, hval⟩ he hcode hroutes htrig⟩

end

/-! Reads that latch a group of words. -/

section
open Sys2Proof Sys2Proof.Machine

namespace Sys2Proof.Machine

/-- A read of one register word at an address that answers (R407). -/
theorem State.readOne_answers {s : State} {a : Nat} (hans : s.answersAt a = true) (ha : a < 0x10000) (p : Port) :
    s.readOne p a = (s.readReg p a).1.answer p 0 [(s.readReg p a).2] 0 := by
  unfold State.readOne State.readWord
  rw [hans, if_neg (by decide), if_pos ha]

/-- Once PLL-C has locked every address answers (R412). -/
theorem State.answersAt_locked {s : State} (h : s.clk.locked = true) (a : Nat) : s.answersAt a = true := by
  unfold State.answersAt
  rw [h, Bool.true_or]

theorem State.latchAt_answer (s : State) (p q : Port) (flags : Nat) (words : List Nat) (mask a : Nat) :
    (s.answer p flags words mask).latchAt q a = s.latchAt q a := rfl

/-- A port latches `n` words that follow one another from the address `b`. -/
def State.latchWords (s : State) (p : Port) (b n : Nat) (w : Nat → Nat) : State := forIdx n (fun i t => t.setLatch p (b + 4 * i) (w i)) s

theorem State.latchWords_eq (s : State) (p : Port) (b n : Nat) (w : Nat → Nat) : ∃ l, s.latchWords p b n w = { s with latch := l } := by
  unfold State.latchWords
  refine forIdx_induct (P := fun t : State => ∃ l, t = { s with latch := l }) (fun i t ht => ?_) ⟨s.latch, rfl⟩
  obtain ⟨l, rfl⟩ := ht
  exact ⟨_, rfl⟩

theorem State.latchAt_latchWords_other (s : State) {p q : Port} {a b n : Nat} (w : Nat → Nat) (ha : a < 65536) (hb : b + 4 * n ≤ 65536)
    (h : q ≠ p ∨ ∀ i, i < n → a ≠ b + 4 * i) : (s.latchWords p b n w).latchAt q a = s.latchAt q a :=
  forIdx_induct_lt (P := fun t : State => t.latchAt q a = s.latchAt q a)
    (fun i t hi ht => (t.latchAt_setLatch_other (w i) (by omega) ha (h.imp_right fun h => h i hi)).trans ht) rfl

theorem State.latchAt_latchWords_same (s : State) (p : Port) {b n : Nat} (w : Nat → Nat) (hb : b + 4 * n ≤ 65536) :
    ∀ i, i < n → (s.latchWords p b n w).latchAt p (b + 4 * i) = w i := by
  induction n with
  | zero => exact fun i hi => absurd hi (Nat.not_lt_zero i)
  | succ n ih =>
    intro i hi
    unfold State.latchWords at ih ⊢
    rw [forIdx_succ]
    rcases Nat.lt_succ_iff_lt_or_eq.1 hi with h | rfl
    · exact (State.latchAt_setLatch_other _ _ (by omega) (by omega) (.inr (by omega))).trans (ih (by omega) i h)
    · exact State.latchAt_setLatch_same ..

/-- A port latches `n` words that follow the word `hi` in the word behind `a`, and notes at `a` that it holds them (R55). -/
def State.latchSnap (s : State) (p : Port) (a hi n : Nat) (w : Nat → Nat) : State :=
  ((s.setLatch p a 1).setLatch p (a + 4) hi).latchWords p (a + 8) n w

section
variable (s : State) (p : Port) {a n : Nat} (hi : Nat) (w : Nat → Nat)

theorem State.latchSnap_eq (a n : Nat) : ∃ l, s.latchSnap p a hi n w = { s with latch := l } := by
  obtain ⟨l, hl⟩ := State.latchWords_eq ((s.setLatch p a 1).setLatch p (a + 4) hi) p (a + 8) n w
  exact ⟨l, hl⟩

variable (ha : a + 8 + 4 * n ≤ 65536)
include ha

theorem State.latchAt_latchSnap_hi : (s.latchSnap p a hi n w).latchAt p (a + 4) = hi := by
  unfold State.latchSnap
  rw [State.latchAt_latchWords_other _ w (by omega) (by omega) (.inr fun i _ => by omega), State.latchAt_setLatch_same]

theorem State.latchAt_latchSnap_word : ∀ i, i < n → (s.latchSnap p a hi n w).latchAt p (a + 8 + 4 * i) = w i :=
  State.latchAt_latchWords_same _ p w (by omega)

theorem State.latchAt_latchSnap_other {q : Port} {b : Nat} (hb : b < 65536) (hq : q ≠ p) :
    (s.latchSnap p a hi n w).latchAt q b = s.latchAt q b := by
  unfold State.latchSnap
  rw [State.latchAt_latchWords_other _ w hb (by omega) (.inl hq), State.latchAt_setLatch_other _ _ (by omega) hb (.inl hq),
    State.latchAt_setLatch_other _ _ (by omega) hb (.inl hq)]

end

/-- A read of SNAP_LO latches the live registers of its group with the chart time (R55). -/
theorem State.readReg_snapLo (s : State) (p : Port) (g : Fin 8) : let a := (Reg.GFM_SNAP_LO g).addr
    s.readReg p a = (s.latchSnap p a (s.now / 2 ^ 32) 11 (fun i => s.plainWord (a + 8 + 4 * i)), s.now % 2 ^ 32) := by
  intro a
  have haddr : a / 4096 = 3 ∧ a % 0x200 = 0xA0 := by simp only [a, Reg.GFM_SNAP_LO]; omega
  have hlo : isLo a = false := by revert g; decide
  unfold State.readReg State.readLatch
  rw [if_pos haddr, if_neg (by simp [hlo]), if_pos haddr]
  rfl

/-- A read of SEC_RTC_LO latches the upper word of the RTC (R393). -/
theorem State.readReg_rtcLo (s : State) (p : Port) : s.readReg p Reg.SEC_RTC_LO.addr =
    (s.setLatch p Reg.SEC_RTC_HI.addr (s.rtcWide / 2 ^ 32), s.rtcWide % 2 ^ 32) := by
  have hlatch : s.readLatch p Reg.SEC_RTC_LO.addr = s.setLatch p Reg.SEC_RTC_HI.addr (s.rtcWide / 2 ^ 32) := by
    unfold State.readLatch
    rw [if_pos (by decide)]; rfl
  have hview : s.portView p Reg.SEC_RTC_LO.addr = s.rtcWide % 2 ^ 32 := by
    unfold State.portView
    rw [if_neg (by decide), if_neg (by decide), if_neg (by decide), if_neg (by decide)]; rfl
  unfold State.readReg
  rw [if_neg (by decide), if_neg (by decide), if_neg (fun h => absurd h.1 (by decide)), hlatch, hview]

theorem State.rawWord_tally (s : State) (g : Fin 8) : s.rawWord (Reg.SEC_TALLY_G_E_EXP_LO g).addr = s.tallyWord g 0 := by
  fin_cases g <;> rfl

/-- Where the E_EXP words stand. -/
theorem eExpLo_addr : ∀ g : Fin 8, let a := (Reg.SEC_TALLY_G_E_EXP_LO g).addr
    (0xF200 ≤ a ∧ a < 0xF400 ∧ a % 64 = 0 ∧ (a - 0xF200) / 64 = g ∧ ¬ a / 4096 = 3) ∧
    isLo a = false ∧ isLo (a - 4) = false ∧ isSnap a = false ∧ a ≠ Reg.SYS_DRAM_PAGE_PAGE.addr ∧ a ≠ Reg.STG_PEEK_DATA.addr ∧
    a ≠ Reg.SYS_BOOT_STATUS_PHASE.addr := by decide

/-- A read of E_EXP_LO latches the Tally words behind it (R403). -/
theorem State.readReg_eExpLo (s : State) (p : Port) (g : Fin 8) : let a := (Reg.SEC_TALLY_G_E_EXP_LO g).addr
    s.readReg p a = (s.latchWords p (a + 4) 10 (fun i => s.tallyWord g (i + 1)), s.tallyWord g 0) := by
  intro a
  obtain ⟨⟨hlow, hhigh, hword, hgroup, hgfm⟩, hlo, hlo4, hsnap, hpage, hpeek, hphase⟩ := eExpLo_addr g
  have hlatch : s.readLatch p a = s.latchWords p (a + 4) 10 (fun i => s.tallyWord g (i + 1)) := by
    unfold State.readLatch
    rw [if_neg (by simp [a, hlo]), if_neg (fun h => hgfm h.1), if_pos ⟨hlow, hhigh, hword⟩, hgroup]
    rfl
  have hview : s.portView p a = s.tallyWord g 0 := by
    unfold State.portView
    rw [if_neg hpage, if_neg (by simp [a, hlo4]), if_neg (by simp [a, hsnap]), if_neg (fun h => h.2.2 hword), s.rawWord_tally g]
  unfold State.readReg
  rw [if_neg (fun h => hgfm h.1), if_neg hpeek, if_neg (fun h => hphase h.1), hlatch, hview]

/-- A read of a register word that is taken at once is answered with the word (R407, R416). -/
theorem State.readCmd_answers {s : State} {p : Port} {a v : Nat} {u : State} (h : s.Listens p) (hlock : s.clk.locked = true)
    (ha : a < 0x10000) (hread : s.readReg p a = (u, v)) (c : Instr) :
    s.frameCmd p c (fun t => t.readOne p a) = u.answer p 0 [v] 0 := by
  rw [State.frameCmd_listens h, State.readOne_answers (State.answersAt_locked hlock a) ha, hread]

/-- What an answer leaves of what a read has latched. -/
theorem State.answer_latched {s : State} {l : Tab Nat} {u : State} (hu : u = { s with latch := l }) (p : Port) (v : Nat) :
    (u.answer p 0 [v] 0).regs = s.regs ∧
    ((u.answer p 0 [v] 0).port p).reply = some { status := s.statusByte 0, words := [v], mask := 0 } := by
  subst hu
  exact ⟨rfl, State.reply_answer ..⟩

end Sys2Proof.Machine

/-- Settles O12: each read answers at once, as the port listens, with what the read of its word latches and returns. -/
theorem snapshotReadsLatchTheirGroup : Obligations.SnapshotReadsLatchTheirGroup := by
  intro s p h hlock
  refine ⟨fun g => ?_, ?_, fun g => ?_⟩
  · have haddr : (Reg.GFM_SNAP_LO g).addr + 8 + 4 * 11 ≤ 65536 := by simp only [Reg.GFM_SNAP_LO]; omega
    have hhi : (Reg.GFM_SNAP_HI g).addr = (Reg.GFM_SNAP_LO g).addr + 4 := by simp only [Reg.GFM_SNAP_HI, Reg.GFM_SNAP_LO]; omega
    obtain ⟨l, hl⟩ := s.latchSnap_eq p (s.now / 2 ^ 32) (fun i => s.plainWord ((Reg.GFM_SNAP_LO g).addr + 8 + 4 * i)) (Reg.GFM_SNAP_LO g).addr 11
    obtain ⟨hregs, hreply⟩ := State.answer_latched hl p (s.now % 2 ^ 32)
    refine ⟨_, congrArg Host.Outcome.next (State.readCmd_answers h hlock (by omega) (s.readReg_snapLo p g) _), hreply, ?_, ?_, hregs, ?_⟩
    · rw [hhi, State.latchAt_answer]
      exact s.latchAt_latchSnap_hi p _ _ haddr
    · exact fun i hi => (State.latchAt_answer ..).trans (s.latchAt_latchSnap_word p _ _ haddr i hi)
    · exact fun b hb q hq => (State.latchAt_answer ..).trans (s.latchAt_latchSnap_other p _ _ haddr hb hq)
  · obtain ⟨hregs, hreply⟩ :=
      State.answer_latched (u := s.setLatch p Reg.SEC_RTC_HI.addr (s.rtcWide / 2 ^ 32)) rfl p (s.rtcWide % 2 ^ 32)
    exact ⟨_, congrArg Host.Outcome.next (State.readCmd_answers h hlock (by decide) (s.readReg_rtcLo p) _),
      (State.latchAt_answer ..).trans (State.latchAt_setLatch_same ..), hregs, hreply⟩
  · have haddr : (Reg.SEC_TALLY_G_E_EXP_LO g).addr + 4 + 4 * 10 ≤ 65536 := by simp only [Reg.SEC_TALLY_G_E_EXP_LO]; omega
    obtain ⟨l, hl⟩ := s.latchWords_eq p ((Reg.SEC_TALLY_G_E_EXP_LO g).addr + 4) 10 fun i => s.tallyWord g (i + 1)
    obtain ⟨hregs, hreply⟩ := State.answer_latched hl p (s.tallyWord g 0)
    exact ⟨_, congrArg Host.Outcome.next (State.readCmd_answers h hlock (by omega) (s.readReg_eExpLo p g) _), hregs, hreply,
      fun i hi => (State.latchAt_answer ..).trans (s.latchAt_latchWords_same p _ haddr i hi)⟩

end

/-! Commands that write a GFM register, and the ranges of the set-points. -/

section
open Sys2Proof Sys2Proof.Machine

namespace Sys2Proof.Machine

/-! What the note of a write leaves for the checks of a GFM command. -/

theorem State.noteWrite_fld_block (s : State) (p : Port) (a : Nat) {f : Fld} (h : f.blk ≠ 0) : (s.noteWrite p a).fld f = s.fld f :=
  s.noteWrite_fld p a fun hk => h (by rw [Fld.blk, hk]; rfl)

theorem State.noteWrite_on_block (s : State) (p : Port) (a : Nat) {f : Fld} (h : f.blk ≠ 0) : (s.noteWrite p a).on f = s.on f := by
  unfold State.on
  rw [s.noteWrite_fld_block p a h]

theorem State.noteWrite_stg (s : State) (p : Port) (a : Nat) : (s.noteWrite p a).stg = s.stg := (s.noteWrite_in p a).frame .stg (by decide)

theorem State.noteWrite_role (s : State) (p : Port) (a : Nat) : (s.noteWrite p a).role = s.role := s.noteWrite_fld p a (by decide)

theorem State.controlled_congr {s t : State} (h : t.stg = s.stg) (g : Nat) : t.controlled g = s.controlled g := by
  unfold State.controlled State.groupRec
  rw [h]

theorem State.gfmOpen_congr {s t : State} (h : t.stg = s.stg) (g : Nat) : t.gfmOpen g = s.gfmOpen g := by
  unfold State.gfmOpen
  rw [State.controlled_congr h, h]

/-- A GFM command whose write is taken does its body, or is refused where the group takes no writes or the module is a STANDBY (R34, R353). -/
theorem State.gfmCmd_takes {s : State} {p : Port} {a : Nat} (h : s.Takes p a) (c : Instr) (g : Nat) (body : State → State) :
    s.gfmCmd c p g a body =
      if s.gfmOpen g = true ∧ s.role ≠ roleSTANDBY then body (s.noteWrite p a) else (s.noteWrite p a).refuse p a := by
  unfold State.gfmCmd
  rw [State.portCmd_takes h, State.gfmOpen_congr (s.noteWrite_stg p a), s.noteWrite_role]
  simp only [Bool.and_eq_true, bne_iff_ne]

/-- The fields that the range of a set-point goes by (R53). -/
def spBounds (g : Nat) : List Fld :=
  [Reg.GFM_PQMAX_PMAX g, Reg.GFM_PQMAX_QMAX g, Reg.GFM_FLIM_FMIN g, Reg.GFM_FLIM_FMAX g, Reg.GFM_CFG_FNOM g, Reg.GFM_ELIM_EMIN g,
    Reg.GFM_ELIM_EMAX g]

theorem spBounds_blk : ∀ g : Fin 8, ∀ f ∈ spBounds g, f.blk ≠ 0 := by decide

theorem State.spOk_congr {s t : State} {g : Nat} (h : ∀ f ∈ spBounds g, t.fld f = s.fld f) (k v : Nat) : t.spOk k g v = s.spOk k g v := by
  have hrange : t.spRange k g = s.spRange k g := by
    simp only [spBounds, List.forall_mem_cons] at h
    obtain ⟨hp, hq, hfmin, hfmax, hfnom, hemin, hemax, -⟩ := h
    unfold State.spRange State.centiHz State.fB fNom
    dsimp only
    rw [hp, hq, hfmin, hfmax, hfnom, hemin, hemax]
  unfold State.spOk
  rw [hrange]

theorem spField_width (k g : Nat) : (spField k g).width = 32 := by
  unfold spField
  split <;> rfl

/-- A set-point of a write that is noted: in its range it takes the value, and outside it is refused (R53). -/
theorem State.setpoint_noted (s : State) (p : Port) (g : Fin 8) (k a : Nat) (v : Nat) : (s.noteWrite p a).setpoint p k g v =
    if s.spOk k g v = true then (s.noteWrite p a).setFld (spField k g) v else (s.noteWrite p a).refuse p (spField k g).addr := by
  unfold State.setpoint
  rw [State.spOk_congr fun f hf => s.noteWrite_fld_block p a (spBounds_blk g f hf)]

/-- What a set-point register takes by the write of a port. -/
theorem State.setpoint_sets (s : State) (p : Port) (k g a : Nat) (v : Word) : let t := (s.noteWrite p a).setFld (spField k g) v.toNat
    t.fld (spField k g) = v.toNat ∧ OnlyFlds [spField k g, Reg.SYS_EVENT_PORTCOL_S] s t ∧ Within [.regs] s t :=
  ⟨s.setFld_noted_value p (by rw [spField_width]; exact v.isLt), s.setFld_noted ..⟩

theorem secSrc_blk : ∀ g : Fin 8, (Reg.GFM_CTRL_SEC_SRC g).blk ≠ 0 := by decide

/-- A command that writes a set-point (R53). -/
theorem execSetpointWrite_takes {s : State} {p : Port} {g : Fin 8} {k : Fin 4} (h : s.Takes p (spField k g).addr) (v : Word) :
    let u := s.noteWrite p (spField k g).addr
    exec (.setpointWrite p g k v) s = .next (if (s.gfmOpen g = true ∧ s.role ≠ roleSTANDBY) ∧ s.spOk k g v.toNat = true
      then u.setFld (spField k g) v.toNat else u.refuse p (spField k g).addr) := by
  intro u
  refine congrArg Host.Outcome.next ((State.gfmCmd_takes h _ g _).trans ?_)
  rw [s.setpoint_noted p g, ← ite_and]

/-- A command by which a port writes a secondary offset (R53, R54). -/
theorem execSecOffsetWrite_port {s : State} {p : Port} {g : Fin 8} {dv : Bool} (h : s.Takes p (spField (if dv then 5 else 4) g).addr)
    (v : Word) : let f := spField (if dv then 5 else 4) g
    exec (.secOffsetWrite (some p) g dv v) s = .next (if s.gfmOpen g = true ∧ s.role ≠ roleSTANDBY then
        if s.on (Reg.GFM_CTRL_SEC_SRC g) = true then (s.noteWrite p f.addr).refuse p f.addr
        else if s.spOk (if dv then 5 else 4) g v.toNat = true then (s.noteWrite p f.addr).setFld f v.toNat
        else (s.noteWrite p f.addr).refuse p f.addr
      else (s.noteWrite p f.addr).refuse p f.addr) := by
  intro f
  refine congrArg Host.Outcome.next ((State.gfmCmd_takes h _ g _).trans ?_)
  unfold State.secWrite
  rw [s.noteWrite_on_block p _ (secSrc_blk g), s.setpoint_noted p g]

/-- A secondary offset in its range by the Bearing protocol (R54). -/
theorem execSecOffsetWrite_bearing {s : State} {g : Fin 8} {dv : Bool} {v : Word} (hok : s.spOk (if dv then 5 else 4) g v.toNat = true) :
    exec (.secOffsetWrite none g dv v) s = .next (if s.gfmOpen g = true ∧ s.on (Reg.GFM_CTRL_SEC_SRC g) = true
      then s.setFld (spField (if dv then 5 else 4) g) v.toNat else s.raise Reg.SYS_EVENT_WRREJ_S) := by
  refine congrArg Host.Outcome.next ?_
  unfold State.secBearing State.secMay
  simp only [hok, Bool.and_true, Bool.and_eq_true]
  split <;> rfl

/-- The range of a secondary offset is fixed (R53). -/
theorem State.spOk_secondary (s : State) (g : Nat) (v : Nat) :
    (s.spOk 4 g v = true ↔ -tenThou 500 ≤ wInt v ∧ wInt v ≤ tenThou 500) ∧
    (s.spOk 5 g v = true ↔ -tenThou 1000 ≤ wInt v ∧ wInt v ≤ tenThou 1000) := by
  unfold State.spOk State.spRange
  simp only [Bool.and_eq_true, decide_eq_true_eq, and_self]

end Sys2Proof.Machine

/-- Settles O17: a write that is taken acts on the state that notes it, where the range and the source stand as before. -/
theorem setPointsAndOffsetsKeepTheirSource : Obligations.SetPointsAndOffsetsKeepTheirSource := by
  refine ⟨fun s p g k v h => ?_, fun s g dv v => ?_, fun s g v => s.spOk_secondary g v⟩
  · rw [execSetpointWrite_takes h v]
    refine ⟨fun hopen hrole hok => ?_, fun hbar => ?_⟩
    · rw [if_pos ⟨⟨hopen, hrole⟩, hok⟩]
      exact ⟨_, rfl, s.setpoint_sets ..⟩
    · rw [if_neg (by rintro ⟨⟨hopen, hrole⟩, hok⟩; simp [hopen, hrole, hok] at hbar)]
      exact ⟨_, rfl, .of_refuse ..⟩
  · intro f hok
    refine ⟨fun p h hopen hrole => ?_, fun hsrc hopen => ?_, fun hbar => ?_⟩
    · rw [execSecOffsetWrite_port h v, if_pos ⟨hopen, hrole⟩]
      refine ⟨fun hports => ?_, fun hbearing => ?_⟩
      · rw [if_neg (by simp [hports]), if_pos hok]
        exact ⟨_, rfl, s.setpoint_sets ..⟩
      · rw [if_pos hbearing]
        exact ⟨_, rfl, .of_refuse ..⟩
    · rw [execSecOffsetWrite_bearing hok, if_pos ⟨hopen, hsrc⟩]
      refine ⟨_, rfl, ?_, (OnlyFlds.refl _ s).setFld (by simp [f]) _, s.setFld_in ..⟩
      rw [State.fld_setFld_same, spField_width]
      exact Nat.mod_eq_of_lt v.isLt
    · rw [execSecOffsetWrite_bearing hok, if_neg (by rintro ⟨hopen, hsrc⟩; simp [hopen, hsrc] at hbar)]
      exact ⟨_, rfl, s.on_raise_same rfl, (OnlyFlds.refl _ s).raise (by simp), s.raise_in _⟩

end

/-! The change of a group's mode, with what it stops of the group's injector and node. -/

section
open Sys2Proof Sys2Proof.Machine

namespace Sys2Proof.Machine

theorem OnlyFlds.ite {c : Prop} [Decidable c] {l : List Fld} {s t u : State} (h : OnlyFlds l s t) (h' : OnlyFlds l s u) :
    OnlyFlds l s (if c then t else u) := by
  split
  · exact h
  · exact h'

/-- Listed fields that lie in the blocks need no list. -/
theorem Beside.absorb {bs bs' : List Nat} {l l' : List Fld} {s t : State} (h : Beside bs l s t) (hb : ∀ b ∈ bs, b ∈ bs')
    (hl : ∀ f ∈ l, f.blk ∈ bs') : Beside bs' l' s t :=
  ⟨fun f hf _ => h.fld f (fun hm => hf (hb _ hm)) fun q hq hk => hf (by rw [Fld.blk, hk]; exact hl q hq)⟩

theorem OnlyFlds.beside {l l' : List Fld} {bs : List Nat} {s t : State} (h : OnlyFlds l s t) (hl : ∀ f ∈ l, f.blk ∈ bs) :
    Beside bs l' s t := Beside.absorb (bs := []) ⟨fun f _ hf => h f hf⟩ (fun _ hb => nomatch hb) hl

theorem Beside.onlyBlocks {bs : List Nat} {s t : State} (h : Beside bs [] s t) : OnlyBlocks bs s t :=
  fun f hf => h.fld f hf fun _ hq => nomatch hq

/-- The fields of a group's injector and node, and of a polarity check, that a change of the group's mode may write (R327, R331, R336). -/
def soundFlds (g : Nat) : List Fld :=
  [Reg.SND_G_STATUS_STATE g, Reg.SND_G_INJ_A g, Reg.SND_G_INJ_B g, Reg.SND_G_STATUS_ABORT_S g, Reg.SND_G_CNT_ABORT_CNT g,
    Reg.BRG_G_STATUS_TXSTATE g, Reg.BRG_G_STATUS_TXFAIL_S g, Reg.ADC_POL_STAT_BUSY, Reg.ADC_POL_STAT_VERDICT, Reg.ADC_STATUS_POLDONE_S]

theorem soundFlds_blk : ∀ g : Fin 8, ∀ f ∈ soundFlds g, f.blk ∈ [5, 12] := by decide

theorem State.genRest_fields (s : State) (g : Nat) : OnlyFlds (soundFlds g) s (s.genRest g) := by
  unfold State.genRest
  extract_lets t
  have ht : OnlyFlds (soundFlds g) s t := ((OnlyFlds.refl _ s).setFld (by simp [soundFlds]) 0).setFld (by simp [soundFlds]) 0
  unfold State.setGenState
  extract_lets u
  have hu : OnlyFlds (soundFlds g) s u := (ht.same rfl).setFld (by simp [soundFlds]) _
  refine .ite ?_ hu
  exact (((hu.same (u := { u with adc := { u.adc with pol := none } }) rfl).setFld (by simp [soundFlds]) 0).setFld
    (by simp [soundFlds]) 3).raise (by simp [soundFlds])

/-- The generator rests after a change beside the register fields. -/
theorem State.genRest_fields_of_regs {s u : State} (hu : u.regs = s.regs) (g : Nat) : OnlyFlds (soundFlds g) s (u.genRest g) :=
  ((OnlyFlds.refl _ s).same hu).trans (u.genRest_fields g)

theorem State.abandonBurst_fields (s : State) (g : Nat) : OnlyFlds (soundFlds g) s (s.abandonBurst g) := by
  have hrest : OnlyFlds (soundFlds g) s (s.burstRest g) := by
    unfold State.burstRest
    extract_lets d
    have hd : d.2.regs = s.regs := rfl
    exact .ite (State.genRest_fields_of_regs (u := d.2.setGen g _) hd g) (s.genRest_fields g)
  exact .ite ((hrest.raise (by simp [soundFlds])).count (by simp [soundFlds])) (.refl _ s)

theorem State.stopFrame_fields (s : State) (g : Nat) : OnlyFlds (soundFlds g) s (s.stopFrame g) := by
  unfold State.stopFrame
  split
  · exact .refl _ s
  · extract_lets _ t
    have ht : OnlyFlds (soundFlds g) s t := (State.genRest_fields_of_regs rfl g).raise (by simp [soundFlds])
    have hnote {u : State} (hu : u.regs = t.regs) : OnlyFlds (soundFlds g) s (u.noteTx g) := (ht.same hu).setFld (by simp [soundFlds]) _
    exact .ite (hnote rfl) (hnote rfl)

theorem State.soundLeave_fields (s : State) (g : Nat) : OnlyFlds (soundFlds g) s (s.soundLeave g) :=
  (s.abandonBurst_fields g).trans (State.stopFrame_fields _ g)

/-- A change to ISLAND or CONNECTED writes the mode alone (R58, R327). -/
theorem State.setMode_live (s : State) (g : Nat) {m : Nat} (hm : m = mISLAND ∨ m = mCONNECTED) :
    (s.setMode g m).regs = (s.setFld (Reg.GFM_EVT_STATUS_MODE g) m).regs := by
  unfold State.setMode
  rw [if_pos hm]
  split <;> rfl

theorem State.setMode_beside (s : State) (g : Fin 8) (m : Nat) : Beside [5, 12] [Reg.GFM_EVT_STATUS_MODE g] s (s.setMode g m) := by
  have hfield : Beside [5, 12] [Reg.GFM_EVT_STATUS_MODE g] s (s.setFld (Reg.GFM_EVT_STATUS_MODE g) m) :=
    (Beside.refl s).setListed (by simp) m
  unfold State.setMode
  exact .ite (.ite hfield (hfield.same rfl)) (hfield.trans ((State.soundLeave_fields _ g).beside (soundFlds_blk g)))

theorem State.setMode_grp (s : State) (g m h : Nat) : (s.setMode g m).grp h = s.grp h := by
  unfold State.grp
  rw [(s.setMode_in g m).frame .grid (by decide)]

theorem State.mode_setMode_lt (s : State) (g : Fin 8) {m : Nat} (hm : m < 8) : (s.setMode g m).mode g = m := by
  by_cases hlive : m = mISLAND ∨ m = mCONNECTED
  · exact (State.fld_congr (s.setMode_live g hlive) _).trans ((s.fld_setFld_same ..).trans (Nat.mod_eq_of_lt hm))
  · exact (s.mode_setMode g m (not_or.1 hlive)).trans (Nat.mod_eq_of_lt hm)

/-- A field of the GFM block other than the mode. -/
theorem State.setMode_fld (s : State) {g : Fin 8} (m : Nat) {f : Fld} (hb : f.blk ∉ [5, 12]) (hf : f.key ≠ (Reg.GFM_EVT_STATUS_MODE g).key) :
    (s.setMode g m).fld f = s.fld f := (s.setMode_beside g m).fld f hb (by simpa using hf)

end Sys2Proof.Machine

end

/-! The start of a group. -/

section
open Sys2Proof Sys2Proof.Machine

namespace Sys2Proof.Machine

/-- What a start of a group asks for (R51, R353, R369). -/
def State.mayStart (s : State) (g : Nat) : Prop :=
  s.controlled g = true ∧ s.basesUnset g = false ∧ s.armed = true ∧ s.role ≠ roleSTANDBY ∧ s.sdcRun = true

/-- The fields that a start goes by (R51, R64, R73). -/
def startFlds (g : Nat) : List Fld :=
  [Reg.GFM_BASE_V g, Reg.GFM_BASE_I g, Reg.GFM_BASE_DC g, Reg.GFM_LF_LF g, Reg.GFM_CF_CF g, Reg.GFM_EVT_STATUS_MODE g, Reg.GFM_ILIM_IST g,
    Reg.GFM_VDC_MEAS g, Reg.GFM_BS_CFG_VDC_MIN g, Reg.GFM_BS_RAMP_VSTART g]

theorem startFlds_blk : ∀ g : Fin 8, ∀ f ∈ startFlds g, f.blk ≠ 0 := by decide

theorem State.mayStart_noteWrite (s : State) (p : Port) (a : Nat) (g : Fin 8) : (s.noteWrite p a).mayStart g ↔ s.mayStart g := by
  have hcom {f : Fld} (hf : f.blk ≠ 0) : (s.noteWrite p a).comFld f = s.comFld f := by
    unfold State.comFld
    rw [s.noteWrite_com, s.noteWrite_fld_block p a hf]
  have hblk := startFlds_blk g
  simp only [startFlds, List.forall_mem_cons] at hblk
  obtain ⟨hv, hi, hdc, hlf, hcf, -⟩ := hblk
  have hbases : (s.noteWrite p a).basesUnset g = s.basesUnset g := by
    unfold State.basesUnset
    simp only [List.any_cons, List.any_nil, hcom hv, hcom hi, hcom hdc, hcom hlf, hcom hcf]
  have harmed : (s.noteWrite p a).armed = s.armed := by
    unfold State.armed State.on
    rw [s.noteWrite_fld p a (by decide), s.noteWrite_fld p a (by decide)]
  have hsdc : (s.noteWrite p a).sdcRun = s.sdcRun := by
    unfold State.sdcRun
    rw [s.noteWrite_fld p a (by decide)]
  unfold State.mayStart
  rw [State.controlled_congr (s.noteWrite_stg p a), hbases, harmed, s.noteWrite_role, hsdc]

theorem State.mode_noteWrite (s : State) (p : Port) (a : Nat) (g : Fin 8) : (s.noteWrite p a).mode g = s.mode g :=
  s.noteWrite_fld_block p a (startFlds_blk g _ (by simp [startFlds]))

theorem State.grp_noteWrite (s : State) (p : Port) (a g : Nat) : (s.noteWrite p a).grp g = s.grp g := by
  unfold State.grp
  rw [s.noteWrite_grid]

/-- A start that is not allowed, or that meets a stop in progress, is refused (R51, R86). -/
theorem State.groupStart_barred {s : State} {g : Nat} (h : ¬ s.mayStart g ∨ s.mode g = mSTOPPING) (p : Port) :
    s.groupStart p g = s.refuse p (Reg.GFM_CTRL_EN g).addr := by
  unfold State.groupStart
  refine if_pos ?_
  by_contra hc
  simp only [Bool.or_eq_true, Bool.not_eq_true', beq_iff_eq, not_or, Bool.not_eq_true, Bool.not_eq_false] at hc
  obtain ⟨⟨⟨⟨⟨hctl, hbases⟩, harmed⟩, hmode⟩, hrole⟩, hsdc⟩ := hc
  exact h.elim (fun hmay => hmay ⟨hctl, hbases, harmed, hrole, hsdc⟩) hmode

/-- A start of a group that is OFF goes by its terminals (R51, R73). -/
theorem State.groupStart_off {s : State} {g : Nat} (h : s.mayStart g) (hm : s.mode g = mOFF) (p : Port) :
    s.groupStart p g = if pu ≤ 2 * (s.grp g).trkT.v then s.liveStart g else s.deadStart g := by
  obtain ⟨hctl, hbases, harmed, hrole, hsdc⟩ := h
  unfold State.groupStart
  rw [if_neg (by simp [hctl, hbases, harmed, hrole, hsdc, hm, mOFF, mSTOPPING]), if_neg (not_not_intro hm)]

theorem runFlds_keys : ∀ g : Fin 8, (Reg.GFM_CTRL_EN g).key ≠ (Reg.GFM_STATUS_RUN g).key ∧
    (Reg.GFM_CTRL_EN g).key ≠ (Reg.GFM_ILIM_NOW g).key ∧ (Reg.GFM_STATUS_RUN g).key ≠ (Reg.GFM_ILIM_NOW g).key ∧
    ∀ f ∈ [Reg.GFM_CTRL_EN g, Reg.GFM_STATUS_RUN g, Reg.GFM_ILIM_NOW g], (Reg.GFM_EVT_STATUS_MODE g).key ≠ f.key := by decide

/-- What a running group shows (R51, R64). -/
theorem State.setRunning_shows (s : State) (g : Fin 8) : (s.setRunning g).on (Reg.GFM_CTRL_EN g) = true ∧
    (s.setRunning g).on (Reg.GFM_STATUS_RUN g) = true ∧ (s.setRunning g).fld (Reg.GFM_ILIM_NOW g) = unsignedOf 32 (s.grp g).ilim % 2 ^ 32 := by
  obtain ⟨hrun, hilim, hrunIlim, -⟩ := runFlds_keys g
  unfold State.setRunning
  refine ⟨?_, ?_, State.fld_setFld_same ..⟩
  · exact (State.on_setFld_other _ _ hilim).trans ((State.on_setFld_other _ _ hrun).trans (s.on_setFld_one rfl))
  · exact (State.on_setFld_other _ _ hrunIlim).trans (State.on_setFld_one _ rfl)

theorem State.setRunning_fields (s : State) (g : Nat) :
    OnlyFlds [Reg.GFM_CTRL_EN g, Reg.GFM_STATUS_RUN g, Reg.GFM_ILIM_NOW g] s (s.setRunning g) :=
  (((OnlyFlds.refl _ s).setFld (by simp) 1).setFld (by simp) 1).setFld (by simp) _

theorem State.mode_setRunning (s : State) (g : Fin 8) : (s.setRunning g).mode g = s.mode g :=
  s.setRunning_fields g _ (runFlds_keys g).2.2.2

theorem roundDiv_mul (x : Int) {d : Nat} (hd : 0 < d) : roundDiv (x * d) d = x := by
  have hquot : (2 * (x * d).natAbs + d) / (2 * d) = x.natAbs := by
    rw [Int.natAbs_mul, Int.natAbs_natCast, show 2 * (x.natAbs * d) + d = d + 2 * d * x.natAbs by ring,
      Nat.add_mul_div_left _ _ (by omega), Nat.div_eq_of_lt (by omega), Nat.zero_add]
  unfold roundDiv
  rw [hquot]
  rcases le_or_gt 0 x with hx | hx
  · rw [if_pos (mul_nonneg hx (by omega)), Int.natAbs_of_nonneg hx]
  · rw [if_neg (not_le.2 (mul_neg_of_neg_of_pos hx (by omega)))]
    omega

/-- A governor at rest gives the value at which it rests (R51). -/
theorem Gov.out_at (x : Int) : (Gov.at x).out = x := roundDiv_mul x (d := 2 ^ 28) (by decide)

/-- A group that starts with a record `r` in a mode (R51). -/
def State.started (s : State) (g : Nat) (r : GroupRun) (m : Nat) : State := ((s.setGrp g r).setMode g m).setRunning g

section
variable (s : State) (r : GroupRun) (m : Nat)

theorem State.started_grp (g : Nat) : (s.started g r m).grp g = r := (State.setMode_grp ..).trans (s.grp_setGrp_same g r)

theorem State.started_grp_other {g h : Nat} (hne : h ≠ g) : (s.started g r m).grp h = s.grp h :=
  (State.setMode_grp ..).trans (s.grp_setGrp_other r hne)

variable (g : Fin 8)

/-- What a group shows that has started (R51, R59, R64). -/
theorem State.started_shows (hm : m < 8) : (s.started g r m).on (Reg.GFM_CTRL_EN g) = true ∧
    (s.started g r m).on (Reg.GFM_STATUS_RUN g) = true ∧ (s.started g r m).mode g = m ∧
    (s.started g r m).fld (Reg.GFM_ILIM_NOW g) = unsignedOf 32 r.ilim % 2 ^ 32 := by
  obtain ⟨hen, hrun, hilim⟩ := ((s.setGrp g r).setMode g m).setRunning_shows g
  refine ⟨hen, hrun, (State.mode_setRunning ..).trans (State.mode_setMode_lt _ g hm), hilim.trans ?_⟩
  rw [State.setMode_grp, State.grp_setGrp_same]

theorem State.started_fields (hm : m = mISLAND ∨ m = mCONNECTED) :
    OnlyFlds [Reg.GFM_CTRL_EN g, Reg.GFM_STATUS_RUN g, Reg.GFM_EVT_STATUS_MODE g, Reg.GFM_ILIM_NOW g] s (s.started g r m) := by
  have hmode : OnlyFlds [Reg.GFM_EVT_STATUS_MODE g] s ((s.setGrp g r).setMode g m) :=
    (((OnlyFlds.refl _ s).same (u := s.setGrp g r) rfl).setFld (by simp) m).same (State.setMode_live _ g hm)
  exact (hmode.mono (by simp)).trans ((State.setRunning_fields _ g).mono (by simp))

theorem startedFlds_blk : ∀ g : Fin 8, ∀ f ∈ [Reg.GFM_EVT_STATUS_MODE g, Reg.GFM_CTRL_EN g, Reg.GFM_STATUS_RUN g, Reg.GFM_ILIM_NOW g],
    f.blk ∈ [0, 3, 5, 12] := by decide

theorem State.started_blocks : Beside [0, 3, 5, 12] [] s (s.started g r m) := by
  have hblk := startedFlds_blk g
  have hmode : Beside [0, 3, 5, 12] [] (s.setGrp g r) ((s.setGrp g r).setMode g m) :=
    (State.setMode_beside ..).absorb (by decide) fun f hf => hblk f (by simp_all)
  have hset : Beside [0, 3, 5, 12] [] s (s.setGrp g r) := (Beside.refl s).same rfl
  exact (hset.trans hmode).trans ((State.setRunning_fields _ g).beside fun f hf => hblk f (List.mem_cons_of_mem _ hf))

end

/-- The record with which a live start leaves its group (R51). -/
def State.liveRec (s : State) (g : Nat) : GroupRun :=
  let r := s.startRec g
  { r with omega := r.trkT.f, omegaD := r.trkT.f, theta := r.trkT.th, eRef := r.trkT.v, govF := Gov.at r.trkT.f, govV := Gov.at r.trkT.v }

theorem State.liveRec_shows {s : State} {g : Nat} {r : GroupRun} (h : s.grp g = r) : let x := s.liveRec g
    x.omega = r.trkT.f ∧ x.theta = r.trkT.th ∧ x.eRef = r.trkT.v ∧ x.govP = Gov.at 0 ∧ x.govQ = Gov.at 0 ∧ x.govF = Gov.at r.trkT.f ∧
      x.govV = Gov.at r.trkT.v ∧ x.ilim = milli (s.fld (Reg.GFM_ILIM_IST g)) := by
  subst h
  exact ⟨rfl, rfl, rfl, rfl, rfl, rfl, rfl, rfl⟩

/-- A start with live terminals enters the mode that the breaker gives it, with the record of R51 (R51, R59). -/
theorem State.liveStart_shows {s : State} {g : Fin 8} {r : GroupRun} (h : s.grp g = r) : let t := s.liveStart g
    (t.on (Reg.GFM_CTRL_EN g) = true ∧ t.on (Reg.GFM_STATUS_RUN g) = true ∧ t.mode g = (if r.brkClosed then mCONNECTED else mISLAND) ∧
      t.fld (Reg.GFM_ILIM_NOW g) = unsignedOf 32 (s.liveRec g).ilim % 2 ^ 32) ∧
    t.grp g = s.liveRec g ∧ (∀ k, k ≠ g.val → t.grp k = s.grp k) ∧
    OnlyFlds [Reg.GFM_CTRL_EN g, Reg.GFM_STATUS_RUN g, Reg.GFM_EVT_STATUS_MODE g, Reg.GFM_ILIM_NOW g] s t := by
  subst h
  intro t
  have hstarts : t = s.started g (s.liveRec g) (if (s.grp g).brkClosed then mCONNECTED else mISLAND) := rfl
  have hlive : (if (s.grp g).brkClosed then mCONNECTED else mISLAND) = mISLAND ∨
      (if (s.grp g).brkClosed then mCONNECTED else mISLAND) = mCONNECTED := by
    split
    · exact .inr rfl
    · exact .inl rfl
  rw [hstarts]
  exact ⟨s.started_shows _ _ g (by split <;> decide), s.started_grp .., fun k hk => s.started_grp_other _ _ hk, s.started_fields _ _ g hlive⟩

theorem failFlds_keys : ∀ g : Fin 8, ∀ f ∈ [Reg.GFM_EVT_STATUS_BSFAIL_S g, Reg.GFM_CTRL_EN g], f.blk ∉ [5, 12] ∧
    f.key ≠ (Reg.GFM_EVT_STATUS_MODE g).key := by decide

theorem bsfail_key : ∀ g : Fin 8, (Reg.GFM_EVT_STATUS_BSFAIL_S g).key ≠ (Reg.GFM_CTRL_EN g).key := by decide

/-- A black start on a low DC bus fails (R73). -/
theorem State.deadStart_low {s : State} {g : Fin 8} (h : s.sfld (Reg.GFM_VDC_MEAS g) < milli (s.fld (Reg.GFM_BS_CFG_VDC_MIN g))) :
    (s.deadStart g).on (Reg.GFM_EVT_STATUS_BSFAIL_S g) = true ∧ (s.deadStart g).on (Reg.GFM_CTRL_EN g) = false ∧
      (s.deadStart g).mode g = mOFF ∧ (s.deadStart g).grid = s.grid := by
  have hfails : s.deadStart g = ((s.raise (Reg.GFM_EVT_STATUS_BSFAIL_S g)).setFld (Reg.GFM_CTRL_EN g) 0).setMode g mOFF := if_pos h
  have hkept {f : Fld} (u : State) (hf : f ∈ [Reg.GFM_EVT_STATUS_BSFAIL_S g, Reg.GFM_CTRL_EN g]) : (u.setMode g mOFF).on f = u.on f :=
    congrArg (· == 1) (u.setMode_fld mOFF (failFlds_keys g f hf).1 (failFlds_keys g f hf).2)
  rw [hfails]
  refine ⟨?_, ?_, State.mode_setMode_lt _ g (by decide), (State.setMode_in ..).frame .grid (by decide)⟩
  · exact (hkept _ (by simp)).trans ((State.on_setFld_other _ _ (bsfail_key g)).trans (s.on_raise_same rfl))
  · exact (hkept _ (by simp)).trans (State.on_setFld_zero ..)

/-- A black start begins with E at VSTART, θ at 0 and ω where the governor of F stands (R73). -/
theorem State.deadStart_black {s : State} {g : Fin 8} (h : milli (s.fld (Reg.GFM_BS_CFG_VDC_MIN g)) ≤ s.sfld (Reg.GFM_VDC_MEAS g)) :
    let t := s.deadStart g
    t.mode g = mBLACK ∧ t.on (Reg.GFM_CTRL_EN g) = true ∧ (t.grp g).theta = 0 ∧
      (t.grp g).eRef = milli (s.fld (Reg.GFM_BS_RAMP_VSTART g)) ∧ (t.grp g).omega = (t.grp g).govF.out ∧ Beside [0, 3, 5, 12] [] s t := by
  obtain ⟨r, hr, htheta, heRef, homega⟩ : ∃ r : GroupRun, s.deadStart g = s.started g r mBLACK ∧ r.theta = 0 ∧
      r.eRef = milli (s.fld (Reg.GFM_BS_RAMP_VSTART g)) ∧ r.omega = r.govF.out :=
    ⟨_, if_neg (not_lt.2 h), rfl, rfl, (Gov.out_at _).symm⟩
  obtain ⟨hen, -, hmode, -⟩ := s.started_shows r mBLACK g (by decide)
  intro t
  have ht : t = s.started g r mBLACK := hr
  rw [ht, s.started_grp r mBLACK g]
  exact ⟨hmode, hen, htheta, heRef, homega, s.started_blocks r mBLACK g⟩

end Sys2Proof.Machine

end

/-! The controlled stop of a group. -/

section
open Sys2Proof Sys2Proof.Machine

namespace Sys2Proof.Machine

/-- A stop that is asked for where none can begin leaves the group as it is, but for the action that had asked for it (R86). -/
theorem State.beginStop_rests {s : State} {g : Nat} (h : s.mode g = mOFF ∨ s.mode g = mSTOPPING) :
    s.beginStop g = s.setGrp g { s.grp g with stopAct := false } := if_pos h

theorem State.beginStop_ride {s : State} {g : Nat} (h : s.mode g = mRIDE) :
    (s.beginStop g).mode g = mRIDE ∧ ((s.beginStop g).grp g).stopInRide = true := by
  unfold State.beginStop
  extract_lets r t
  have ht : t.mode g = mRIDE := h
  rw [ht, if_neg (by decide), if_pos rfl]
  exact ⟨ht, congrArg GroupRun.stopInRide (State.grp_setGrp_same ..)⟩

/-- The first step of a stop from a mode that runs (R86). -/
theorem State.beginStop_runs {s : State} {g : Fin 8}
    (h : s.mode g = mISLAND ∨ s.mode g = mCONNECTED ∨ s.mode g = mSYNCING ∨ s.mode g = mBLACK) :
    (s.beginStop g).mode g = mSTOPPING ∧ ∃ r, (s.beginStop g).grp g = r ∧ r.stopPhase = 1 ∧ r.stopFrom = s.mode g ∧ r.stopAt = s.now ∧
      r.omega = (s.grp g).omega := by
  unfold State.beginStop
  extract_lets r t
  have ht : t.mode g = s.mode g := rfl
  have hruns : ¬ (t.mode g = mOFF ∨ t.mode g = mSTOPPING) ∧ t.mode g ≠ mRIDE := by
    rw [ht]
    rcases h with h | h | h | h <;> rw [h] <;> decide
  rw [if_neg hruns.1, if_neg hruns.2]
  have hgrp : t.grp g = { s.grp g with stopAct := false } := s.grp_setGrp_same ..
  have homega : (t.grp g).omega = (s.grp g).omega := (congrArg GroupRun.omega hgrp).trans rfl
  exact ⟨State.mode_setMode_lt _ g (by decide), _, (State.setMode_grp ..).trans (State.grp_setGrp_same ..), rfl, rfl, rfl, homega⟩

/-- The wait of the first step ends (R86). -/
theorem State.stopProceed_waiting {s : State} {g : Nat} (hm : s.mode g = mSTOPPING) (hp : (s.grp g).stopPhase = 1) :
    (s.stopProceed g).regs = s.regs ∧ ((s.stopProceed g).grp g).stopPhase =
      if (s.grp g).stopFrom = mISLAND ∨ (s.grp g).stopFrom = mSYNCING ∨ (s.grp g).stopFrom = mBLACK then 2 else 3 := by
  unfold State.stopProceed
  extract_lets r ramp
  rw [if_pos ⟨hm, hp⟩]
  exact ⟨rfl, congrArg GroupRun.stopPhase (State.grp_setGrp_same ..)⟩

theorem allIdx_of_forall {n : Nat} {p : Nat → Bool} (h : ∀ k, k < n → p k = true) : allIdx n p = true :=
  List.all_eq_true.2 fun k hk => h k (List.mem_range.1 hk)

/-! Legs that turn off at their period starts. -/

/-- A leg is off, or held at its safe level by a trip (R222, R228). -/
def Rests (t : State) (n : Nat) : Prop := t.fld (Reg.PWM_LEG_STATUS_STATE n) = legOFF ∨ t.fld (Reg.PWM_LEG_STATUS_STATE n) = legFORCED

theorem legState_key_carry (n m : Nat) : (Reg.PWM_LEG_STATUS_STATE n).key ≠ (Reg.PWM_LEG_CARRY m).key := by
  simp only [Fld.key, Reg.PWM_LEG_STATUS_STATE, Reg.PWM_LEG_CARRY]; omega

theorem legState_key_inj {n m : Nat} (h : n ≠ m) : (Reg.PWM_LEG_STATUS_STATE n).key ≠ (Reg.PWM_LEG_STATUS_STATE m).key := by
  simp only [Fld.key, Reg.PWM_LEG_STATUS_STATE]; omega

theorem State.legOff_fields (s : State) (n : Nat) : OnlyFlds [Reg.PWM_LEG_STATUS_STATE n, Reg.PWM_LEG_CARRY n] s (s.legOff n) := by
  unfold State.legOff
  extract_lets _ r hiOff loOff t
  exact .ite (((OnlyFlds.refl _ s).same rfl).setFld (by simp) 0)
    ((((OnlyFlds.refl _ s).same (u := t) rfl).setFld (by simp) legOFF).setFld (by simp) 0)

theorem State.legOff_rests (s : State) (n : Nat) : Rests (s.legOff n) n := by
  have hkey := legState_key_carry n n
  unfold State.legOff
  extract_lets _ r hiOff loOff t
  by_cases hf : s.fld (Reg.PWM_LEG_STATUS_STATE n) = legFORCED
  · rw [if_pos hf]
    exact .inr ((State.fld_setFld_other _ _ hkey).trans hf)
  · rw [if_neg hf]
    exact .inl ((State.fld_setFld_other _ _ hkey).trans (State.fld_setFld_same ..))

theorem Rests.legOff {s : State} {n : Nat} (h : Rests s n) (m : Nat) : Rests (s.legOff m) n := by
  by_cases hnm : n = m
  · subst hnm
    exact s.legOff_rests n
  · have hsame : (s.legOff m).fld (Reg.PWM_LEG_STATUS_STATE n) = s.fld (Reg.PWM_LEG_STATUS_STATE n) :=
      s.legOff_fields m _ (by simpa using ⟨legState_key_inj hnm, legState_key_carry n m⟩)
    unfold Rests
    rwa [hsame]

theorem State.legOff_legIn (s : State) (n g m : Nat) : (s.legOff n).legIn g m = s.legIn g m := by
  unfold State.legIn State.legRec
  rw [(s.legOff_in n).frame .stg (by decide)]

theorem State.legOff_now (s : State) (n : Nat) : (s.legOff n).now = s.now := congrArg BitVec.toNat ((s.legOff_in n).frame .chart (by decide))

/-- A leg that turns off keeps its carrier. -/
theorem State.legOff_car (s : State) (n m : Nat) : ((s.legOff n).leg m).car = (s.leg m).car := by
  have hset (r : LegRun) (hr : r.car = (s.leg n).car) : ((s.setLeg n r).leg m).car = (s.leg m).car := by
    by_cases h : m = n
    · subst h
      rw [State.leg_setLeg_same, hr]
    · rw [State.leg_setLeg_other _ _ h]
  unfold State.legOff
  extract_lets _ r hiOff loOff t
  split
  · exact hset _ rfl
  · exact hset _ rfl

theorem State.legOff_atStart (s : State) (n m : Nat) : (s.legOff n).atStart m = s.atStart m := by
  unfold State.atStart
  rw [s.legOff_car, s.legOff_now]

/-- One leg of a stopping group at a tick (R86). -/
def State.stopLeg (g n : Nat) (u : State) : State := if u.legIn g n && u.atStart n then u.legOff n else u

/-- The legs of a stopping group at a tick (R86). -/
def State.stopLegsPass (s : State) (g : Nat) : State := forIdx 64 (State.stopLeg g) s

/-- What a leg that turns off leaves as it is, a leg that does not keeps too. -/
theorem State.stopLeg_keeps {P : State → Prop} (hP : ∀ n (u : State), P u → P (u.legOff n)) (g n : Nat) {u : State} (hu : P u) :
    P (u.stopLeg g n) := by
  unfold State.stopLeg
  split
  · exact hP n u hu
  · exact hu

/-- What every leg that turns off leaves as it is, the pass leaves too. -/
theorem State.stopLegsPass_induct {P : State → Prop} (hP : ∀ n (u : State), P u → P (u.legOff n)) (g : Nat) {s : State} (hs : P s) :
    P (s.stopLegsPass g) := forIdx_induct (fun n _ hu => State.stopLeg_keeps hP g n hu) hs

theorem State.stopLegsPass_legIn (s : State) (g n : Nat) : (s.stopLegsPass g).legIn g n = s.legIn g n :=
  State.stopLegsPass_induct (P := fun u : State => u.legIn g n = s.legIn g n) (fun m u hu => (u.legOff_legIn m g n).trans hu) g rfl

theorem State.stopLegsPass_atStart (s : State) (g n : Nat) : (s.stopLegsPass g).atStart n = s.atStart n :=
  State.stopLegsPass_induct (P := fun u : State => u.atStart n = s.atStart n) (fun m u hu => (u.legOff_atStart m n).trans hu) g rfl

/-- Every leg of the group that is at a period start is off after the pass. -/
theorem State.stopLegsPass_rests {s : State} {g n : Nat} (hn : n < 64) (hin : s.legIn g n = true) (hstart : s.atStart n = true) :
    Rests (s.stopLegsPass g) n := by
  have hpass : (s.stopLegsPass g).legIn g n = true → (s.stopLegsPass g).atStart n = true → Rests (s.stopLegsPass g) n := by
    refine forIdx_each (Q := fun k u => u.legIn g k = true → u.atStart k = true → Rests u k) (fun k u _ => ?_) (fun j k u hu => ?_) n hn
    · unfold State.stopLeg
      split
      · exact fun _ _ => u.legOff_rests k
      · next h => exact fun hi hs => absurd (by rw [hi, hs]; rfl) h
    · refine State.stopLeg_keeps (P := fun u => u.legIn g j = true → u.atStart j = true → Rests u j) (fun m u hu => ?_) g k hu
      rw [u.legOff_legIn, u.legOff_atStart]
      exact fun hi hs => (hu hi hs).legOff m
  exact hpass ((s.stopLegsPass_legIn g n).trans hin) ((s.stopLegsPass_atStart g n).trans hstart)

theorem legFlds_pwm : ∀ n : Fin 64, ∀ f ∈ [Reg.PWM_LEG_STATUS_STATE n, Reg.PWM_LEG_CARRY n], f.blk ∈ [6] := by decide

theorem State.stopLegsPass_blocks (s : State) (g : Nat) : Beside [6] [] s (s.stopLegsPass g) :=
  .forIdx (fun n u => .ite ((u.legOff_fields n).beside (legFlds_pwm n)) (.refl u)) (.refl s)

/-! The group comes to rest. -/

/-- The fields that a group's rest writes beside those of its injector and node (R77, R86). -/
def restFlds (g : Nat) : List Fld :=
  [Reg.GFM_EVT_STATUS_MODE g, Reg.GFM_CTRL_EN g, Reg.GFM_STATUS_RUN g, Reg.GFM_EVT_STATUS_REC g, Reg.GFM_RESID_A g, Reg.GFM_RESID_B g,
    Reg.GFM_RESID_C g]

theorem restFlds_blk : ∀ g : Fin 8, ∀ f ∈ restFlds g, f.blk ∈ [3, 5, 12] := by decide

theorem restFlds_keys : ∀ g : Fin 8, (Reg.GFM_EVT_STATUS_MODE g).key ≠ (Reg.GFM_CTRL_EN g).key ∧
    (Reg.GFM_EVT_STATUS_MODE g).key ≠ (Reg.GFM_STATUS_RUN g).key ∧ (Reg.GFM_EVT_STATUS_MODE g).key ≠ (Reg.GFM_EVT_STATUS_REC g).key ∧
    (Reg.GFM_CTRL_EN g).key ≠ (Reg.GFM_STATUS_RUN g).key ∧ (Reg.GFM_CTRL_EN g).key ≠ (Reg.GFM_EVT_STATUS_REC g).key ∧
    (Reg.GFM_STATUS_RUN g).key ≠ (Reg.GFM_EVT_STATUS_REC g).key := by decide

theorem State.groupRest_shows (s : State) (g : Fin 8) : let t := s.groupRest g
    t.mode g = mOFF ∧ t.on (Reg.GFM_CTRL_EN g) = false ∧ t.on (Reg.GFM_STATUS_RUN g) = false ∧ (t.grp g).syncClose = false := by
  obtain ⟨hmodeEn, hmodeRun, hmodeRec, henRun, henRec, hrunRec⟩ := restFlds_keys g
  unfold State.groupRest
  extract_lets _ r t
  refine ⟨?_, ?_, ?_, ?_⟩
  · exact (State.fld_setFld_other _ _ hmodeRec).trans ((State.fld_setFld_other _ _ hmodeRun).trans
      ((State.fld_setFld_other _ _ hmodeEn).trans (State.mode_setMode_lt _ g (by decide))))
  · exact (State.on_setFld_other _ _ henRec).trans ((State.on_setFld_other _ _ henRun).trans (State.on_setFld_zero ..))
  · exact (State.on_setFld_other _ _ hrunRec).trans (State.on_setFld_zero ..)
  · exact congrArg GroupRun.syncClose ((State.setMode_grp ..).trans (s.grp_setGrp_same g r))

theorem State.groupRest_blocks (s : State) (g : Fin 8) : Beside [3, 5, 12] [] s ((s.storeFlux g).groupRest g) := by
  have hrest {f : Fld} (hf : f ∈ restFlds g := by simp [restFlds]) : f.blk ∈ [3, 5, 12] := restFlds_blk g f hf
  have hflux : Beside [3, 5, 12] [] s (s.storeFlux g) :=
    (((Beside.refl s).setFld (f := Reg.GFM_RESID_A g) hrest _).setFld (f := Reg.GFM_RESID_B g) hrest _).setFld (f := Reg.GFM_RESID_C g) hrest _
  unfold State.groupRest
  extract_lets _ r
  have hset : Beside [3, 5, 12] [] s ((s.storeFlux g).setGrp g r) := hflux.same rfl
  have hmode : Beside [3, 5, 12] [] s (((s.storeFlux g).setGrp g r).setMode g mOFF) :=
    hset.trans ((State.setMode_beside ..).absorb (by decide) fun f hf => restFlds_blk g f (by simp_all [restFlds]))
  exact ((hmode.setFld (f := Reg.GFM_CTRL_EN g) hrest _).setFld (f := Reg.GFM_STATUS_RUN g) hrest _).setFld
    (f := Reg.GFM_EVT_STATUS_REC g) hrest _

/-- The group is OFF once all its legs are off (R86). -/
theorem State.stopLegs_done {s : State} {g : Nat} (h : ∀ n, n < 64 → s.legIn g n = true → s.atStart n = true) :
    s.stopLegs g = ((s.stopLegsPass g).storeFlux g).groupRest g := by
  unfold State.stopLegs
  extract_lets t
  have ht : t = s.stopLegsPass g := rfl
  clear_value t
  have hrest (n : Nat) (hn : n < 64) (hin : t.legIn g n = true) : Rests t n := by
    rw [ht, State.stopLegsPass_legIn] at hin
    rw [ht]
    exact State.stopLegsPass_rests hn hin (h n hn hin)
  rw [if_pos, ht]
  refine allIdx_of_forall fun n hn => ?_
  simp only [Bool.or_eq_true, Bool.not_eq_true', beq_iff_eq]
  cases hin : t.legIn g n with
  | false => exact .inl (.inl rfl)
  | true => exact (hrest n hn hin).imp_left .inr

theorem legState_blk : ∀ n : Fin 64, (Reg.PWM_LEG_STATUS_STATE n).blk ∉ [3, 5, 12] := by decide

end Sys2Proof.Machine

end

section
open Sys2Proof Sys2Proof.Machine

namespace Sys2Proof.Machine

theorem State.noteWrite_now (s : State) (p : Port) (a : Nat) : (s.noteWrite p a).now = s.now :=
  congrArg BitVec.toNat ((s.noteWrite_in p a).frame .chart (by decide))

/-! The commands of a start and a stop, where their write of EN is taken. -/

theorem execGroupStart_takes {s : State} {p : Port} {g : Fin 8} (h : s.Takes p (Reg.GFM_CTRL_EN g).addr) :
    exec (.groupStart p g) s = .next ((s.noteWrite p (Reg.GFM_CTRL_EN g).addr).groupStart p g) :=
  congrArg Host.Outcome.next (State.portCmd_takes h _ _)

theorem execGroupStop_takes {s : State} {p : Port} {g : Fin 8} (h : s.Takes p (Reg.GFM_CTRL_EN g).addr) (hopen : s.gfmOpen g = true)
    (hrole : s.role ≠ roleSTANDBY) : exec (.groupStop p g) s = .next ((s.noteWrite p (Reg.GFM_CTRL_EN g).addr).beginStop g) :=
  congrArg Host.Outcome.next ((State.gfmCmd_takes h _ g _).trans (if_pos ⟨hopen, hrole⟩))

end Sys2Proof.Machine

/-- Settles O18: a start or stop acts on the state that notes its write; the start's record, the steps of a stop and the legs' period starts
are taken one by one. -/
theorem groupsStartAndStop : Obligations.GroupsStartAndStop := by
  refine ⟨fun s p g h => ?_, fun s p g h hopen hrole => ?_, fun s g hm hphase => ⟨fun hlate => ?_, fun hearly => ?_⟩,
    fun s g hm hphase hstart => ?_⟩
  · intro r may
    rw [execGroupStart_takes h]
    obtain ⟨u, hu⟩ : ∃ u, u = s.noteWrite p (Reg.GFM_CTRL_EN g).addr := ⟨_, rfl⟩
    have hmay : u.mayStart g ↔ may := hu ▸ s.mayStart_noteWrite ..
    have hmode : u.mode g = s.mode g := hu ▸ s.mode_noteWrite ..
    have hgrp (k : Nat) : u.grp k = s.grp k := hu ▸ s.grp_noteWrite ..
    have hnote : OnlyFlds [Reg.SYS_EVENT_PORTCOL_S] s u := hu ▸ s.noteWrite_fields p _
    have hfld {f : Fld} (hf : f ∈ startFlds g := by simp [startFlds]) : u.fld f = s.fld f :=
      hu ▸ s.noteWrite_fld_block p _ (startFlds_blk g f hf)
    have hgoes (hm : may) (hoff : s.mode g = mOFF) : u.groupStart p g = if pu ≤ 2 * r.trkT.v then u.liveStart g else u.deadStart g := by
      rw [State.groupStart_off (hmay.2 hm) (hmode.trans hoff), hgrp]
    have hvdc : u.sfld (Reg.GFM_VDC_MEAS g) = s.sfld (Reg.GFM_VDC_MEAS g) := congrArg (signedOf _) hfld
    rw [← hu]
    refine ⟨fun hbar => ?_, fun hm hoff hlive => ?_, fun hm hoff hdead hlow => ?_, fun hm hoff hdead hhigh => ?_⟩
    · rw [State.groupStart_barred (hbar.imp (mt hmay.1) hmode.trans), hu]
      exact ⟨_, rfl, .of_refuse ..⟩
    · rw [hgoes hm hoff, if_pos hlive]
      obtain ⟨⟨hen, hrun, hmode', hilim⟩, hrec, hothers, hfields⟩ := State.liveStart_shows (hgrp g)
      obtain ⟨homega, htheta, heRef, hgovP, hgovQ, hgovF, hgovV, hist⟩ := State.liveRec_shows (hgrp g)
      refine ⟨_, rfl, hen, hrun, hmode', ?_⟩
      rw [hrec]
      exact ⟨homega, htheta, heRef, hgovP, hgovQ, hgovF, hgovV, fun k hk => (hothers k hk).trans (hgrp k), hilim,
        hist.trans (congrArg milli hfld), (hnote.mono (by simp)).trans (hfields.mono (by simp))⟩
    · rw [hgoes hm hoff, if_neg (not_le.2 hdead)]
      obtain ⟨hfail, hen, hoff', hgrid⟩ := State.deadStart_low (s := u) (g := g) (by rwa [hvdc, hfld])
      exact ⟨_, rfl, hfail, hen, hoff', hgrid.trans (hu ▸ s.noteWrite_grid ..)⟩
    · rw [hgoes hm hoff, if_neg (not_le.2 hdead)]
      obtain ⟨hblack, hen, htheta, heRef, homega, hblocks⟩ := State.deadStart_black (s := u) (g := g) (by rwa [hvdc, hfld])
      exact ⟨_, rfl, hblack, hen, htheta, heRef.trans (congrArg milli hfld), homega, ((hnote.beside (by decide)).trans hblocks).onlyBlocks⟩
  · rw [execGroupStop_takes h hopen hrole]
    have hmode := s.mode_noteWrite p (Reg.GFM_CTRL_EN g).addr g
    have hgrp := s.grp_noteWrite p (Reg.GFM_CTRL_EN g).addr g
    refine ⟨fun hrest => ?_, fun hride => ?_, fun hruns => ?_⟩
    · rw [State.beginStop_rests (by rwa [hmode]), hgrp]
      exact ⟨_, rfl, rfl, State.grp_setGrp_same .., (State.setGrp_in ..).thn (by decide) ((s.noteWrite_in p _).mono (by decide))⟩
    · exact ⟨_, rfl, State.beginStop_ride (hmode.trans hride)⟩
    · rw [← hmode] at hruns ⊢
      obtain ⟨hstop, r, hr, hphase, hfrom, hat, homega⟩ := State.beginStop_runs hruns
      refine ⟨_, rfl, hstop, ?_⟩
      rw [hr]
      exact ⟨hphase, hfrom, hat.trans (s.noteWrite_now ..), homega.trans (congrArg GroupRun.omega hgrp)⟩
  · exact ⟨_, congrArg Host.Outcome.next (if_pos ⟨hm, hphase, hlate⟩), State.stopProceed_waiting hm hphase⟩
  · exact congrArg Host.Outcome.next (if_neg fun hc => absurd hc.2.2 (not_le.2 hearly))
  · obtain ⟨hoff, hen, hrun, hclose⟩ := ((s.stopLegsPass g).storeFlux g).groupRest_shows g
    have hrest := (s.stopLegsPass g).groupRest_blocks g
    refine ⟨_, congrArg Host.Outcome.next ((if_pos ⟨hm, hphase⟩).trans (State.stopLegs_done hstart)), hoff, hen, hrun, hclose, ?_, ?_⟩
    · exact (((s.stopLegsPass_blocks g).mono (by decide) (by simp)).trans (hrest.mono (by decide) (by simp))).onlyBlocks
    · intro n hn hin
      rw [hrest.fld _ (legState_blk ⟨n, hn⟩) (by simp)]
      exact State.stopLegsPass_rests hn hin (hstart n hn hin)

end

/-! The fault action LOG, and a breaker that closes without permissive. -/

section
open Sys2Proof Sys2Proof.Machine

namespace Sys2Proof.Machine

/-- Of a group's record, what its rotor and governors go by (R38, R49): the control states that a change of its breaker does not touch (R79). -/
def GroupRun.SameControl (r x : GroupRun) : Prop :=
  x.omega = r.omega ∧ x.omegaD = r.omegaD ∧ x.theta = r.theta ∧ x.govP = r.govP ∧ x.govQ = r.govQ ∧ x.govF = r.govF ∧ x.govV = r.govV ∧
    x.eRef = r.eRef

theorem GroupRun.SameControl.refl (r : GroupRun) : r.SameControl r := ⟨rfl, rfl, rfl, rfl, rfl, rfl, rfl, rfl⟩

theorem GroupRun.SameControl.trans {r x y : GroupRun} (h : r.SameControl x) (h' : x.SameControl y) : r.SameControl y := by
  obtain ⟨homega, homegaD, htheta, hgovP, hgovQ, hgovF, hgovV, heRef⟩ := h
  obtain ⟨homega', homegaD', htheta', hgovP', hgovQ', hgovF', hgovV', heRef'⟩ := h'
  exact ⟨homega'.trans homega, homegaD'.trans homegaD, htheta'.trans htheta, hgovP'.trans hgovP, hgovQ'.trans hgovQ, hgovF'.trans hgovF,
    hgovV'.trans hgovV, heRef'.trans heRef⟩

/-- A group's record that notes the severity and the instant of an action (R89). -/
def GroupRun.noted (r : GroupRun) (n a : Nat) : GroupRun := { r with faTick := n, faAt := a }

theorem GroupRun.noted_self (r : GroupRun) : r.noted r.faTick r.faAt = r := rfl

theorem GroupRun.SameControl.noted (r : GroupRun) (n a : Nat) : r.SameControl (r.noted n a) := .refl r

theorem State.grp_congr {s t : State} (h : t.grid = s.grid) (g : Nat) : t.grp g = s.grp g := by
  unfold State.grp
  rw [h]

/-- A listed sticky bit. -/
theorem Beside.raiseListed {bs : List Nat} {l : List Fld} {s t : State} (h : Beside bs l s t) {f : Fld} (hf : f ∈ l) :
    Beside bs l s (t.raise f) := (h.setListed hf _).same rfl

/-- A listed stamp. -/
theorem Beside.stampListed {bs : List Nat} {l : List Fld} {s t : State} (h : Beside bs l s t) {lo hi : Fld} (hlo : lo ∈ l) (hhi : hi ∈ l)
    (v : Nat) : Beside bs l s (t.stamp lo hi v) := (h.setListed hlo _).setListed hhi _

theorem Beside.setGrp {bs : List Nat} {l : List Fld} {s t : State} (h : Beside bs l s t) (g : Nat) (r : GroupRun) :
    Beside bs l s (t.setGrp g r) := h.same rfl

theorem State.ctrEvent_grid (s : State) (e : Nat) : (s.ctrEvent e).grid = s.grid := (s.ctrEvent_in e).frame .grid (by decide)

theorem State.dropHo_grid (s : State) (g code : Nat) : (s.dropHo g code).grid = s.grid := (s.dropHo_in g code).frame .grid (by decide)

/-- The fields of the record of a fault action, beside its source, and the hand-over that it may end (R88, R89). -/
def recordFlds (g : Nat) : List Fld :=
  [Reg.GFM_EVT_STATUS_FA_S g, Reg.GFM_FA_STAMP_LO g, Reg.GFM_FA_STAMP_HI g, Reg.TWN_STATUS_HO_BUSY]

theorem source_record : ∀ g : Fin 8, (Reg.GFM_FA_LAST_SOURCE g).blk ∉ [11] ∧ ∀ f ∈ recordFlds g, (Reg.GFM_FA_LAST_SOURCE g).key ≠ f.key := by
  decide

/-- What the fault action LOG does (R88): it records, and of the group's record it touches only what R89 goes by. -/
structure LogsFault (g src : Nat) (s t : State) : Prop where
  source : t.fld (Reg.GFM_FA_LAST_SOURCE g) = src % 2 ^ 8
  fields : Beside [11] (Reg.GFM_FA_LAST_ACTION g :: Reg.GFM_FA_LAST_SOURCE g :: recordFlds g) s t
  record : ∃ n a, t.grp g = (s.grp g).noted n a

theorem State.dropHo_beside (s : State) (g code : Nat) : Beside [] [Reg.TWN_STATUS_HO_BUSY] s (s.dropHo g code) := by
  unfold State.dropHo
  extract_lets less _ t
  have ht : Beside [] [Reg.TWN_STATUS_HO_BUSY] s t := .ite ((Beside.refl s).same rfl) (.refl s)
  exact .ite ((ht.setListed (by simp) 0).same rfl) ht

/-- To the action LOG only a hand-over can give way (R89). -/
theorem State.giveWay_of_log (s : State) (g : Nat) :
    Beside [] [Reg.TWN_STATUS_HO_BUSY] s (s.giveWay g 0) ∧ (s.giveWay g 0).grid = s.grid := by
  have hgives : s.giveWay g 0 = s.dropHo g 0 := rfl
  rw [hgives]
  exact ⟨s.dropHo_beside g 0, s.dropHo_grid g 0⟩

theorem State.faultAction_logs {s : State} {g : Fin 8} {src : Nat} (h : s.actionOf g src = 0) : LogsFault g src s (s.faultAction g src) := by
  unfold State.faultAction
  rw [h]
  extract_lets _ s1 s2 _ s4
  rw [State.runAction_log]
  have h1 : Beside [] [Reg.GFM_FA_LAST_ACTION g, Reg.GFM_FA_LAST_SOURCE g] s s1 :=
    ((Beside.refl s).setListed (by simp) 0).setListed (by simp) src
  have h2 : Beside [11] (recordFlds g) s1 s2 :=
    ((Beside.refl s1).raiseListed (by simp [recordFlds])).stampListed (by simp [recordFlds]) (by simp [recordFlds]) _
  obtain ⟨hgives, hkept⟩ := (s2.ctrEvent 2).giveWay_of_log g
  have h4 : Beside [11] (recordFlds g) s1 s4 :=
    (h2.trans ((s2.ctrEvent_ctr 2).mono (by simp) (by simp))).trans (hgives.mono (by simp) (by simp [recordFlds]))
  have hgrid2 : s2.grid = s.grid := by simp [s2, s1]
  have hgrid : s4.grid = s.grid := hkept.trans ((s2.ctrEvent_grid 2).trans hgrid2)
  have hlogs {t : State} (ht : Beside [11] (recordFlds g) s1 t) (hr : ∃ n a, t.grp g = (s.grp g).noted n a) :
      LogsFault g src s t :=
    ⟨(ht.fld _ (source_record g).1 (source_record g).2).trans (State.fld_setFld_same ..),
      (h1.mono (by simp) (by simp)).trans (ht.mono (by simp) (fun _ hf => by simp [hf])), hr⟩
  clear_value s4
  have hsame {t : State} (ht : Beside [11] (recordFlds g) s1 t) (hg : t.grid = s.grid) : LogsFault g src s t :=
    hlogs ht ⟨_, _, (State.grp_congr hg g).trans (GroupRun.noted_self _).symm⟩
  split
  · exact hsame (.refl s1) (by simp [s1])
  split
  · exact hsame (h2.same rfl) hgrid2
  · refine hlogs (h4.setGrp g _) ?_
    rw [← State.grp_congr hgrid]
    exact ⟨_, _, State.grp_setGrp_same ..⟩

theorem unsync_keys : ∀ g : Fin 8, ∀ f ∈ [Reg.GFM_EVT_STATUS_UNSYNC_S g, Reg.GFM_EVT_STATUS_MODE g], f.blk ∉ [11] ∧
    ∀ q ∈ Reg.GFM_FA_LAST_ACTION g :: Reg.GFM_FA_LAST_SOURCE g :: recordFlds g, f.key ≠ q.key := by decide

theorem mode_unsync_key : ∀ g : Fin 8, (Reg.GFM_EVT_STATUS_MODE g).key ≠ (Reg.GFM_EVT_STATUS_UNSYNC_S g).key := by decide

/-- A breaker that closes without permissive is recorded where the image gives source 0x0A the action LOG (R85, R88). -/
theorem State.unsync_logs {s : State} {g : Fin 8} (h : s.actionOf g 0x0A = 0) : let t := s.unsync g
    t.on (Reg.GFM_EVT_STATUS_UNSYNC_S g) = true ∧ t.mode g = s.mode g ∧ t.fld (Reg.GFM_FA_LAST_SOURCE g) = 0x0A ∧
      ∃ n a, t.grp g = (s.grp g).noted n a := by
  intro t
  have hlogs : LogsFault g 0x0A (s.raise (Reg.GFM_EVT_STATUS_UNSYNC_S g)) t := State.faultAction_logs h
  have hkept {f : Fld} (hf : f ∈ [Reg.GFM_EVT_STATUS_UNSYNC_S g, Reg.GFM_EVT_STATUS_MODE g]) :
      t.fld f = (s.raise (Reg.GFM_EVT_STATUS_UNSYNC_S g)).fld f :=
    hlogs.fields.fld f (unsync_keys g f hf).1 (unsync_keys g f hf).2
  refine ⟨?_, ?_, hlogs.source, hlogs.record⟩
  · exact (congrArg (· == 1) (hkept (by simp))).trans (s.on_raise_same rfl)
  · exact (hkept (by simp)).trans (s.fld_setFld_other _ (mode_unsync_key g))

end Sys2Proof.Machine
end

/-! The changes of a breaker's state. -/

section
open Sys2Proof Sys2Proof.Machine

namespace Sys2Proof.Machine

/-- The record of a group whose breaker input has a valid code (R78). -/
def GroupRun.heard (r : GroupRun) : GroupRun := { r with brkInvalid := false }

/-- A breaker reading like the one before it is taken without a new debounce (R78). -/
theorem State.brkWatch_steady {s : State} {g : Nat} (hbad : s.brkBad g = false) (hread : s.brkReading g = some (s.grp g).brkRaw) :
    s.brkWatch g = s.setGrp g (s.grp g).heard := by
  unfold State.brkWatch
  rw [if_neg (Bool.eq_false_iff.1 hbad), hread]
  simp only [if_pos]
  rfl

/-- The state on which a steady reading acts differs from the first in the group's record alone. -/
theorem execBreakerStateChange_due {s : State} {g : Fin 8} (hbad : s.brkBad g = false) (hread : s.brkReading g = some (s.grp g).brkRaw)
    (hdeb : (s.grp g).brkSince + msCycles (s.fld (Reg.GFM_BRK_TDEB g)) ≤ s.now) (hnew : (s.grp g).brkRaw ≠ (s.grp g).brkClosed) :
    let u := s.setGrp g (s.grp g).heard
    exec (.breakerStateChange g) s = .next (if (s.grp g).brkRaw then u.brkCloses g else u.brkOpens g) := by
  intro u
  have hu : u.grp g = (s.grp g).heard := s.grp_setGrp_same ..
  refine congrArg Host.Outcome.next ?_
  rw [State.brkWatch_steady hbad hread]
  refine (if_pos (?_ : (u.grp g).brkRaw ≠ (u.grp g).brkClosed ∧ (u.grp g).brkInvalid = false ∧ _)).trans ?_
  · rw [hu]
    exact ⟨hnew, rfl, hdeb⟩
  · rw [hu]
    rfl

/-- The record of a group whose breaker has opened on the grid (R79). -/
def GroupRun.opened (r : GroupRun) : GroupRun :=
  { r with brkClosed := false, gridTime := 0, gridBack := false, syncClose := false, pulse := false, closeWait := false }

theorem gridloss_key : ∀ g : Fin 8, (Reg.GFM_EVT_STATUS_MODE g).key ≠ (Reg.GFM_EVT_STATUS_GRIDLOSS_S g).key := by decide

section
variable {s : State} {g : Fin 8}

/-- The breaker opens in CONNECTED (R79). -/
theorem State.brkOpens_connected (hm : s.mode g = mCONNECTED) : let t := s.brkOpens g
    (t.grp g).brkClosed = false ∧ (t.grp g).syncClose = false ∧ t.on (Reg.GFM_EVT_STATUS_GRIDLOSS_S g) = true ∧ t.mode g = mISLAND ∧
      (s.grp g).SameControl (t.grp g) ∧ OnlyFlds [Reg.GFM_EVT_STATUS_GRIDLOSS_S g, Reg.GFM_EVT_STATUS_MODE g] s t := by
  obtain ⟨u, hu⟩ : ∃ u, u = (s.setGrp g (s.grp g).opened).setMode g mISLAND := ⟨_, rfl⟩
  have hgrp : u.grp g = (s.grp g).opened := hu ▸ (State.setMode_grp ..).trans (s.grp_setGrp_same ..)
  have hmode : u.mode g = mISLAND := hu ▸ State.mode_setMode_lt _ g (by decide)
  have hfields : OnlyFlds [Reg.GFM_EVT_STATUS_GRIDLOSS_S g, Reg.GFM_EVT_STATUS_MODE g] s u :=
    hu ▸ (((OnlyFlds.refl _ s).same (u := s.setGrp g (s.grp g).opened) rfl).setFld (by simp) mISLAND).same
      (State.setMode_live _ g (.inl rfl))
  have hopens : s.brkOpens g = u.raise (Reg.GFM_EVT_STATUS_GRIDLOSS_S g) := hu ▸ if_pos hm
  rw [hopens]
  intro t
  have ht : t.grp g = (s.grp g).opened := hgrp
  rw [ht]
  exact ⟨rfl, rfl, u.on_raise_same rfl, (u.fld_setFld_other _ (gridloss_key g)).trans hmode, .refl _, hfields.raise (by simp)⟩

/-- The breaker opens in RIDE that was entered from CONNECTED (R79). -/
theorem State.brkOpens_ride (hm : s.mode g = mRIDE) (hfrom : (s.grp g).rideFrom = mCONNECTED) : let t := s.brkOpens g
    (t.grp g).syncClose = false ∧ t.on (Reg.GFM_EVT_STATUS_GRIDLOSS_S g) = true ∧ t.mode g = mRIDE ∧ (t.grp g).rideFrom = mISLAND ∧
      (s.grp g).SameControl (t.grp g) ∧ OnlyFlds [Reg.GFM_EVT_STATUS_GRIDLOSS_S g] s t := by
  obtain ⟨u, hu⟩ : ∃ u, u = s.setGrp g { (s.grp g).opened with rideFrom := mISLAND } := ⟨_, rfl⟩
  have hregs : u.regs = s.regs := hu ▸ rfl
  have hmode : u.mode g = mRIDE := (State.fld_congr hregs _).trans hm
  have hopens : s.brkOpens g = u.raise (Reg.GFM_EVT_STATUS_GRIDLOSS_S g) :=
    hu ▸ (if_neg (by rw [hm]; decide)).trans (if_pos ⟨hm, hfrom⟩)
  have hgrp : u.grp g = { (s.grp g).opened with rideFrom := mISLAND } := hu ▸ s.grp_setGrp_same ..
  have hkept : (s.grp g).SameControl { (s.grp g).opened with rideFrom := mISLAND } := ⟨rfl, rfl, rfl, rfl, rfl, rfl, rfl, rfl⟩
  rw [hopens]
  intro t
  have ht : t.grp g = { (s.grp g).opened with rideFrom := mISLAND } := hgrp
  rw [ht]
  exact ⟨rfl, u.on_raise_same rfl, (u.fld_setFld_other _ (gridloss_key g)).trans hmode, rfl, hkept,
    ((OnlyFlds.refl _ s).same hregs).raise (by simp)⟩

/-- The breaker closes in SYNCING under SYNC_CLOSE (R84). -/
theorem State.brkCloses_synced (hm : s.mode g = mSYNCING) (hclose : (s.grp g).syncClose = true) : let t := s.brkCloses g
    (t.grp g).brkClosed = true ∧ t.mode g = mCONNECTED ∧ (s.grp g).SameControl (t.grp g) ∧ OnlyFlds [Reg.GFM_EVT_STATUS_MODE g] s t := by
  have hcloses : s.brkCloses g = (s.setGrp g { s.grp g with brkClosed := true, closeWait := false }).setMode g mCONNECTED :=
    (if_pos hm).trans (if_pos hclose)
  rw [hcloses]
  intro t
  have ht : t.grp g = { s.grp g with brkClosed := true, closeWait := false } := (State.setMode_grp ..).trans (s.grp_setGrp_same ..)
  rw [ht]
  exact ⟨rfl, State.mode_setMode_lt _ g (by decide), .refl _, ((OnlyFlds.refl _ s).setFld (by simp) mCONNECTED).same
    (State.setMode_live _ g (.inr rfl))⟩

/-- A group that enters CONNECTED with a record, its breaker having closed without permissive (R85). -/
theorem State.unsync_connected (hact : s.actionOf g 0x0A = 0) {r : GroupRun} (hr : (s.grp g).SameControl r) :
    let t := ((s.setGrp g r).setMode g mCONNECTED).unsync g
    t.on (Reg.GFM_EVT_STATUS_UNSYNC_S g) = true ∧ t.mode g = mCONNECTED ∧ t.fld (Reg.GFM_FA_LAST_SOURCE g) = 0x0A ∧
      (t.grp g).closeWait = r.closeWait ∧ (s.grp g).SameControl (t.grp g) := by
  have hstg : ((s.setGrp g r).setMode g mCONNECTED).stg = s.stg := (State.setMode_in ..).frame .stg (by decide)
  obtain ⟨hflag, hmode, hsource, n, a, hgrp⟩ := State.unsync_logs ((State.actionOf_congr hstg g 0x0A).trans hact)
  have hr' : ((s.setGrp g r).setMode g mCONNECTED).grp g = r := (State.setMode_grp ..).trans (s.grp_setGrp_same g r)
  rw [hr'] at hgrp
  intro t
  refine ⟨hflag, hmode.trans (State.mode_setMode_lt _ g (by decide)), hsource, ?_⟩
  rw [hgrp]
  exact ⟨rfl, hr.trans (.noted r n a)⟩

/-- The breaker closes in SYNCING while SYNC_CLOSE is low (R85). -/
theorem State.brkCloses_syncing (hm : s.mode g = mSYNCING) (hclose : (s.grp g).syncClose = false) :
    s.brkCloses g = ((s.setGrp g { s.grp g with brkClosed := true, closeWait := false }).setMode g mCONNECTED).unsync g :=
  (if_pos hm).trans (if_neg (Bool.eq_false_iff.1 hclose))

/-- The breaker closes in ISLAND (R85). -/
theorem State.brkCloses_island (hm : s.mode g = mISLAND) :
    s.brkCloses g = ((s.setGrp g { s.grp g with brkClosed := true }).setMode g mCONNECTED).unsync g :=
  (if_neg (by rw [hm]; decide)).trans (if_pos hm)

end

end Sys2Proof.Machine

/-- Settles O20: a steady reading acts on a state that differs in the group's record alone, where the change goes by the group's mode. -/
theorem breakerChangesMoveTheMode : Obligations.BreakerChangesMoveTheMode := by
  intro s g r hbad hdeb kept
  have hdue {b : Bool} (hread : s.brkReading g = some b) (hraw : r.brkRaw = b) (hclosed : r.brkClosed = !b) :
      ∃ u : State, u.regs = s.regs ∧ u.stg = s.stg ∧ u.grp g = r.heard ∧
        exec (.breakerStateChange g) s = .next (if b then u.brkCloses g else u.brkOpens g) := by
    subst hraw
    exact ⟨s.setGrp g r.heard, rfl, rfl, s.grp_setGrp_same .., execBreakerStateChange_due hbad hread hdeb (by simp [r, hclosed])⟩
  refine ⟨fun hread hraw hclosed => ?_, fun hread hraw hclosed => ?_⟩
  · obtain ⟨u, hregs, -, hgrp, hexec⟩ := hdue hread hraw hclosed
    have hmode : u.mode g = s.mode g := State.fld_congr hregs _
    have hcontrol : r.SameControl (u.grp g) := hgrp ▸ .refl r
    rw [hexec]
    refine ⟨fun hm => ?_, fun hm hfrom => ?_⟩
    · obtain ⟨hopen, hlow, hloss, hisland, hkept, hfields⟩ := State.brkOpens_connected (hmode.trans hm)
      exact ⟨_, rfl, hopen, hlow, hloss, hisland, hcontrol.trans hkept, ((OnlyFlds.refl _ s).same hregs).trans hfields⟩
    · obtain ⟨hlow, hloss, hride, hback, hkept, hfields⟩ := State.brkOpens_ride (hmode.trans hm) (by rwa [hgrp])
      exact ⟨_, rfl, hlow, hloss, hride, hback, hcontrol.trans hkept, ((OnlyFlds.refl _ s).same hregs).trans hfields⟩
  · obtain ⟨u, hregs, hstg, hgrp, hexec⟩ := hdue hread hraw hclosed
    have hmode : u.mode g = s.mode g := State.fld_congr hregs _
    have hcontrol : r.SameControl (u.grp g) := hgrp ▸ .refl r
    have hsync (b : Bool) (hclose : r.syncClose = b) : (u.grp g).syncClose = b := by rwa [hgrp]
    have hlog (hact : s.actionOf g 0x0A = 0) : u.actionOf g 0x0A = 0 := (State.actionOf_congr hstg g 0x0A).trans hact
    rw [hexec]
    refine ⟨fun hm hclose => ?_, fun hm hclose hact => ?_, fun hm hact => ?_⟩
    · obtain ⟨hshut, hconn, hkept, hfields⟩ := State.brkCloses_synced (hmode.trans hm) (hsync true hclose)
      exact ⟨_, rfl, hshut, hconn, hcontrol.trans hkept, ((OnlyFlds.refl _ s).same hregs).trans hfields⟩
    · rw [if_pos rfl, State.brkCloses_syncing (hmode.trans hm) (hsync false hclose)]
      obtain ⟨hflag, hconn, hsource, hwait, hkept⟩ := State.unsync_connected (hlog hact)
        (r := { u.grp g with brkClosed := true, closeWait := false }) (.refl _)
      exact ⟨_, rfl, hflag, hconn, hsource, hwait, hcontrol.trans hkept⟩
    · rw [if_pos rfl, State.brkCloses_island (hmode.trans hm)]
      obtain ⟨hflag, hconn, hsource, -, hkept⟩ := State.unsync_connected (hlog hact) (r := { u.grp g with brkClosed := true }) (.refl _)
      exact ⟨_, rfl, hflag, hconn, hsource, hcontrol.trans hkept⟩

end

/-! The steps of a resynchronisation. -/

section
open Sys2Proof Sys2Proof.Machine

namespace Sys2Proof.Machine

/-! ARM (R62, R80, R83). -/

theorem syncAuto_blk : ∀ g : Fin 8, (Reg.GFM_SYNC_CTRL_AUTO g).blk ≠ 0 := by decide

theorem arm_keys : ∀ g : Fin 8, (Reg.GFM_SYNC_CTRL_AUTO g).key ≠ (Reg.GFM_SYNC_CTRL_ARM g).key ∧
    (Reg.GFM_EVT_STATUS_MODE g).key ≠ (Reg.GFM_SYNC_CTRL_ARM g).key ∧ (Reg.GFM_SYNC_CTRL_ARM g).blk ∉ [5, 12] := by decide

theorem State.gridSet_congr {s t : State} (h : t.stg = s.stg) (g : Nat) : t.gridSet g = s.gridSet g := by
  unfold State.gridSet State.groupRec
  rw [h]

section
variable {s : State} {p : Port} {g : Fin 8} (h : s.Takes p (Reg.GFM_SYNC_CTRL_ARM g).addr) (hopen : s.gfmOpen g = true)
  (hrole : s.role ≠ roleSTANDBY)
include h hopen hrole

/-- A write of 1 to ARM that is taken (R62, R80). -/
theorem execSyncArm_takes : let u := s.noteWrite p (Reg.GFM_SYNC_CTRL_ARM g).addr
    exec (.syncArm p g) s = .next (if s.gridSet g = true then if s.mode g = mCONNECTED then u else u.setFld (Reg.GFM_SYNC_CTRL_ARM g) 1
      else u.refuse p (Reg.GFM_SYNC_CTRL_ARM g).addr) := by
  intro u
  refine congrArg Host.Outcome.next ((State.gfmCmd_takes h _ g _).trans ((if_pos ⟨hopen, hrole⟩).trans ?_))
  unfold State.syncArm
  rw [State.gridSet_congr (s.noteWrite_stg p _), s.mode_noteWrite]
  cases s.gridSet g <;> rfl

theorem execSyncDisarm_takes :
    exec (.syncDisarm p g) s = .next ((s.noteWrite p (Reg.GFM_SYNC_CTRL_ARM g).addr).syncDisarm g) :=
  congrArg Host.Outcome.next ((State.gfmCmd_takes h _ g _).trans (if_pos ⟨hopen, hrole⟩))

end

section
variable {s : State} {g : Fin 8}

theorem State.syncDisarm_auto (hauto : s.on (Reg.GFM_SYNC_CTRL_AUTO g) = true) :
    s.syncDisarm g = s.setFld (Reg.GFM_SYNC_CTRL_ARM g) 0 :=
  if_pos ((s.on_setFld_other 0 (arm_keys g).1).trans hauto)

/-- ARM written 0 without AUTO ends SYNCING (R83). -/
theorem State.syncDisarm_syncing (hauto : s.on (Reg.GFM_SYNC_CTRL_AUTO g) = false) (hm : s.mode g = mSYNCING) : let t := s.syncDisarm g
    t.on (Reg.GFM_SYNC_CTRL_ARM g) = false ∧ t.mode g = mISLAND ∧ (t.grp g).syncClose = false ∧
      OnlyFlds [Reg.GFM_SYNC_CTRL_ARM g, Reg.GFM_EVT_STATUS_MODE g] s t := by
  obtain ⟨hautoKey, hmodeKey, harmBlk⟩ := arm_keys g
  have hmode : (s.setFld (Reg.GFM_SYNC_CTRL_ARM g) 0).mode g = mSYNCING := (s.fld_setFld_other 0 hmodeKey).trans hm
  unfold State.syncDisarm
  extract_lets t _ u t'
  have ht' : t' = u.setMode g mISLAND :=
    (if_neg (by rw [s.on_setFld_other 0 hautoKey, hauto]; decide)).trans (if_pos hmode)
  have hgrp : (u.setMode g mISLAND).grp g = u.grp g := u.setMode_grp ..
  have hfields : OnlyFlds [Reg.GFM_SYNC_CTRL_ARM g, Reg.GFM_EVT_STATUS_MODE g] s (u.setMode g mISLAND) :=
    ((((OnlyFlds.refl _ s).setFld (by simp) 0).same (u := u) rfl).setFld (by simp) mISLAND).same (u.setMode_live g (.inl rfl))
  rw [ht', hgrp]
  refine ⟨?_, u.mode_setMode_lt g (by decide), congrArg GroupRun.syncClose (t.grp_setGrp_same ..), hfields⟩
  exact (congrArg (· == 1) (u.setMode_fld mISLAND harmBlk hmodeKey.symm)).trans (s.on_setFld_zero _)

end

/-! The return of the grid (R80). -/

theorem gridret_keys : ∀ g : Fin 8, (Reg.GFM_EVT_STATUS_MODE g).key ≠ (Reg.GFM_EVT_STATUS_GRIDRET_S g).key ∧
    (Reg.GFM_SYNC_CTRL_AUTO g).key ≠ (Reg.GFM_EVT_STATUS_GRIDRET_S g).key ∧
    (Reg.GFM_SYNC_CTRL_ARM g).key ≠ (Reg.GFM_EVT_STATUS_GRIDRET_S g).key ∧ (Reg.GFM_EVT_STATUS_GRIDRET_S g).blk ∉ [5, 12] := by decide

theorem State.enterSync_shows (s : State) (g : Fin 8) : (s.enterSync g).mode g = mSYNCING ∧
    ((s.enterSync g).grp g).gridBack = (s.grp g).gridBack ∧
    ∀ f : Fld, f.blk ∉ [5, 12] → f.key ≠ (Reg.GFM_EVT_STATUS_MODE g).key → (s.enterSync g).fld f = s.fld f :=
  ⟨State.mode_setMode_lt _ g (by decide),
    (congrArg GroupRun.gridBack ((State.setMode_grp ..).trans (s.grp_setGrp_same ..))).trans rfl, fun _ hb hk => State.setMode_fld _ _ hb hk⟩

/-- The state in which a grid has returned, before a resynchronisation that is asked for begins (R80). -/
def State.gridNoted (s : State) (g : Nat) : State :=
  (s.setGrp g { s.grp g with gridBack := true }).raise (Reg.GFM_EVT_STATUS_GRIDRET_S g)

theorem State.syncAsked_gridNoted (s : State) (g : Fin 8) : (s.gridNoted g).syncAsked g = s.syncAsked g := by
  obtain ⟨-, hauto, harm, -⟩ := gridret_keys g
  exact congrArg₂ (· || ·) (State.on_raise_other _ hauto) (State.on_raise_other _ harm)

theorem execGridReturned_back {s : State} {g : Fin 8} (hm : s.mode g = mISLAND) (hopen : (s.grp g).brkClosed = false)
    (hback : (s.grp g).gridBack = false)
    (hheld : heldFor (s.grp g).gridTime (msTicks (100 * s.fld (Reg.GFM_GRID_QUAL_TQUAL g))) = true) :
    exec (.gridReturned g) s = .next (if s.syncAsked g then (s.gridNoted g).enterSync g else s.gridNoted g) := by
  rw [← s.syncAsked_gridNoted g]
  exact congrArg Host.Outcome.next (if_pos ⟨hm, hopen, hback, hheld⟩)

/-! SYNC_CLOSE (R82 to R84). -/

/-- The record of a group whose SYNC_CLOSE rises (R82, R83). -/
def State.closing (s : State) (g : Nat) : GroupRun :=
  { s.grp g with syncClose := true, closeAt := s.now, closeWait := true, pulse := s.pulseMode g }

theorem State.fld_stamp_other (s : State) {lo hi f : Fld} (v : Nat) (hlo : f.key ≠ lo.key) (hhi : f.key ≠ hi.key) :
    (s.stamp lo hi v).fld f = s.fld f := by
  rw [State.fld_stamp, if_neg hhi, if_neg hlo]

/-- Chart time in a pair of words (R10, R11). -/
theorem State.stamp_shows (s : State) {lo hi : Fld} {v : Nat} (hv : v < 2 ^ 64) (hne : lo.key ≠ hi.key) (hlo : lo.width = 32)
    (hhi : hi.width = 32) : (s.stamp lo hi v).fld lo = v % 2 ^ 32 ∧ (s.stamp lo hi v).fld hi = v / 2 ^ 32 := by
  rw [State.fld_stamp, State.fld_stamp, if_neg hne, if_pos rfl, if_pos rfl, hlo, hhi]
  exact ⟨Nat.mod_mod _ _, Nat.mod_eq_of_lt (by omega)⟩

theorem close_keys : ∀ g : Fin 8, (∀ f ∈ [Reg.GFM_EVT_STATUS_CLOSE_S g, Reg.GFM_EVT_CNT_CLOSE_CNT g],
      f.key ≠ (Reg.GFM_CLOSE_STAMP_LO g).key ∧ f.key ≠ (Reg.GFM_CLOSE_STAMP_HI g).key) ∧
    (Reg.GFM_EVT_STATUS_CLOSE_S g).key ≠ (Reg.GFM_EVT_CNT_CLOSE_CNT g).key ∧
    (Reg.GFM_CLOSE_STAMP_LO g).key ≠ (Reg.GFM_CLOSE_STAMP_HI g).key := by decide

/-- The record of a SYNC_CLOSE that rises (R82). -/
def State.closeRecord (s : State) (g : Nat) : State :=
  ((s.raise (Reg.GFM_EVT_STATUS_CLOSE_S g)).count (Reg.GFM_EVT_CNT_CLOSE_CNT g)).stamp (Reg.GFM_CLOSE_STAMP_LO g) (Reg.GFM_CLOSE_STAMP_HI g)
    s.now

theorem State.closeRecord_grp (s : State) (g h : Nat) : (s.closeRecord g).grp h = s.grp h := by
  unfold State.grp
  simp [State.closeRecord]

theorem State.closeRecord_shows (s : State) (g : Fin 8) : let t := s.closeRecord g
    t.on (Reg.GFM_EVT_STATUS_CLOSE_S g) = true ∧ t.fld (Reg.GFM_EVT_CNT_CLOSE_CNT g) = s.counted (Reg.GFM_EVT_CNT_CLOSE_CNT g) ∧
      t.fld (Reg.GFM_CLOSE_STAMP_LO g) = s.now % 2 ^ 32 ∧ t.fld (Reg.GFM_CLOSE_STAMP_HI g) = s.now / 2 ^ 32 ∧
      OnlyFlds [Reg.GFM_EVT_STATUS_CLOSE_S g, Reg.GFM_EVT_CNT_CLOSE_CNT g, Reg.GFM_CLOSE_STAMP_LO g, Reg.GFM_CLOSE_STAMP_HI g] s t := by
  obtain ⟨hstamp, hcnt, hpair⟩ := close_keys g
  have hbefore {u : State} {f : Fld} (hf : f ∈ [Reg.GFM_EVT_STATUS_CLOSE_S g, Reg.GFM_EVT_CNT_CLOSE_CNT g]) :
      (u.stamp (Reg.GFM_CLOSE_STAMP_LO g) (Reg.GFM_CLOSE_STAMP_HI g) s.now).fld f = u.fld f :=
    u.fld_stamp_other _ (hstamp f hf).1 (hstamp f hf).2
  obtain ⟨hlo, hhi⟩ := State.stamp_shows ((s.raise (Reg.GFM_EVT_STATUS_CLOSE_S g)).count (Reg.GFM_EVT_CNT_CLOSE_CNT g)) s.chart.isLt hpair
    rfl rfl
  refine ⟨?_, ?_, hlo, hhi, ?_⟩
  · exact (congrArg (· == 1) ((hbefore (by simp)).trans (State.fld_count_other _ hcnt))).trans (s.on_raise_same rfl)
  · exact (hbefore (by simp)).trans ((State.fld_count_same ..).trans (State.counted_congr (s.fld_raise_other hcnt.symm)))
  · exact ((((OnlyFlds.refl _ s).raise (by simp)).count (by simp)).setFld (by simp) _).setFld (by simp) _

/-- The record of a group whose breaker did not close in time (R84). -/
def GroupRun.closeFailed (r : GroupRun) : GroupRun := { r with closeWait := false, syncClose := false, pulse := false, dwell := 0 }

theorem closefail_key : ∀ g : Fin 8, (Reg.GFM_EVT_STATUS_MODE g).key ≠ (Reg.GFM_EVT_STATUS_CLOSEFAIL_S g).key := by decide

end Sys2Proof.Machine

/-- Settles O19, step by step: ARM written 1 and 0, the grid's return, and SYNC_CLOSE as it rises, falls and fails. -/
theorem resynchronisationStepByStep : Obligations.ResynchronisationStepByStep := by
  refine ⟨fun s p g h hopen hrole => ?_, fun s g hm hbrk hback hheld => ?_, fun s g => ?_, fun s g hpulse hend => ?_,
    fun s g hm hwait => ?_⟩
  · rw [execSyncArm_takes h hopen hrole, execSyncDisarm_takes h hopen hrole]
    have hkept := s.noteWrite_on_block p (Reg.GFM_SYNC_CTRL_ARM g).addr (syncAuto_blk g)
    refine ⟨fun hset => ?_, fun hset hm => ?_, fun hset hm => ?_, fun hauto => ?_, fun hauto hm => ?_⟩
    · rw [if_neg (Bool.eq_false_iff.1 hset)]
      exact ⟨_, rfl, .of_refuse ..⟩
    · rw [if_pos hset, if_pos hm]
    · rw [if_pos hset, if_neg hm]
      exact ⟨_, rfl, State.on_setFld_one _ rfl, s.setFld_noted ..⟩
    · rw [State.syncDisarm_auto (hkept.trans hauto)]
      exact ⟨_, rfl, State.on_setFld_zero .., (s.setFld_noted ..).1, s.noteWrite_grid ..⟩
    · obtain ⟨harm, hisland, hlow, hfields⟩ := State.syncDisarm_syncing (hkept.trans hauto) ((s.mode_noteWrite ..).trans hm)
      exact ⟨_, rfl, harm, hisland, hlow, ((s.noteWrite_fields p _).mono (by simp)).trans (hfields.mono (by simp))⟩
  · rw [execGridReturned_back hm hbrk hback hheld]
    obtain ⟨hmodeKey, -, -, hblk⟩ := gridret_keys g
    have hflag : (s.gridNoted g).on (Reg.GFM_EVT_STATUS_GRIDRET_S g) = true := State.on_raise_same _ rfl
    have hnoted : ((s.gridNoted g).grp g).gridBack = true := congrArg GroupRun.gridBack (s.grp_setGrp_same ..)
    refine ⟨_, rfl, ?_⟩
    change _ ∧ _ ∧ _ = if s.syncAsked g then mSYNCING else mISLAND
    split
    · obtain ⟨hsync, hkept, hfield⟩ := (s.gridNoted g).enterSync_shows g
      exact ⟨(congrArg (· == 1) (hfield _ hblk hmodeKey.symm)).trans hflag, hkept.trans hnoted, hsync⟩
    · exact ⟨hflag, hnoted, (State.fld_raise_other _ hmodeKey).trans hm⟩
  · intro r hm hlow hwait hvalid hrole hdwell
    have hgrp : ((s.setGrp g (s.closing g)).closeRecord g).grp g = s.closing g := (State.closeRecord_grp ..).trans (s.grp_setGrp_same ..)
    refine ⟨(s.setGrp g (s.closing g)).closeRecord g, congrArg Host.Outcome.next (if_pos ⟨hm, hlow, .inl hwait, hvalid, hrole, hdwell⟩), ?_⟩
    rw [hgrp]
    exact ⟨rfl, rfl, rfl, State.closeRecord_shows ..⟩
  · refine ⟨_, congrArg Host.Outcome.next (if_pos ⟨hpulse, hend⟩), ?_⟩
    rw [State.grp_setGrp_same]
    exact ⟨rfl, rfl, rfl⟩
  · refine ⟨fun hdue => ?_, fun hend hdue => ?_, fun hearly => ?_⟩
    · exact congrArg Host.Outcome.next (if_neg fun hc => absurd (hdue.symm.trans hc.2.2.2) (by decide))
    · have hgrp : ((s.setGrp g (s.grp g).closeFailed).raise (Reg.GFM_EVT_STATUS_CLOSEFAIL_S g)).grp g = (s.grp g).closeFailed :=
        s.grp_setGrp_same ..
      refine ⟨(s.setGrp g (s.grp g).closeFailed).raise (Reg.GFM_EVT_STATUS_CLOSEFAIL_S g),
        congrArg Host.Outcome.next (if_pos ⟨hm, hwait, hend, hdue⟩), State.on_raise_same _ rfl, ?_⟩
      rw [hgrp]
      exact ⟨rfl, rfl, (State.fld_raise_other _ (closefail_key g)).trans hm, ((OnlyFlds.refl _ s).same rfl).raise (by simp)⟩
    · exact congrArg Host.Outcome.next (if_neg fun hc => absurd hc.2.2.1 (not_le.2 hearly))

end

/-! A stop that an action asks for while one waits for RIDE to end. -/

section
open Sys2Proof Sys2Proof.Machine

namespace Sys2Proof.Machine

/-- A stop that an action asks for does not begin where one waits for RIDE to end, whatever the group's mode (R86, R88). -/
theorem State.stopByAction_waiting {s : State} {g : Nat} (h : (s.grp g).stopInRide = true) : s.stopByAction g = s :=
  if_pos (.inr (.inr h))

/-- What the action STOP may write besides what the stop itself does (R88, R89). -/
def stopRecordFlds (g : Nat) : List Fld :=
  Reg.GFM_FA_LAST_ACTION g :: Reg.GFM_FA_LAST_SOURCE g :: Reg.GFM_ILIM_NOW g :: recordFlds g

theorem mode_stopRecord : ∀ g : Fin 8, (Reg.GFM_EVT_STATUS_MODE g).blk ∉ [11] ∧
    ∀ f ∈ stopRecordFlds g, (Reg.GFM_EVT_STATUS_MODE g).key ≠ f.key := by decide

theorem State.undoDerate_keeps (s : State) (g : Nat) : Beside [] [Reg.GFM_ILIM_NOW g] s (s.undoDerate g) ∧
    ((s.undoDerate g).grp g).stopInRide = (s.grp g).stopInRide := by
  unfold State.undoDerate
  split
  · exact ⟨.refl s, rfl⟩
  · have hset (r : GroupRun) : Beside [] [Reg.GFM_ILIM_NOW g] s (s.setGrp g r) := (Beside.refl s).same rfl
    exact ⟨(hset _).setListed (by simp) _, (congrArg GroupRun.stopInRide (s.grp_setGrp_same ..)).trans rfl⟩

/-- To the action STOP a DERATE of the same tick gives way, and a hand-over (R89). -/
theorem State.giveWay_of_stop (s : State) (g : Nat) : Beside [] [Reg.GFM_ILIM_NOW g, Reg.TWN_STATUS_HO_BUSY] s (s.giveWay g 3) ∧
    ((s.giveWay g 3).grp g).stopInRide = (s.grp g).stopInRide := by
  have hgives : s.giveWay g 3 = (s.undoDerate g).dropHo g 3 := rfl
  obtain ⟨hfields, hkept⟩ := s.undoDerate_keeps g
  rw [hgives, State.grp_congr (State.dropHo_grid _ g 3)]
  exact ⟨(hfields.mono (by simp) (by simp)).trans ((State.dropHo_beside _ g 3).mono (by simp) (by simp)), hkept⟩

theorem State.runAction_stop (s : State) (g : Nat) : s.runAction g 3 = s.stopByAction g := rfl

/-- The action STOP leaves the mode of a group of which a stop waits for RIDE to end. -/
theorem State.mode_faultAction_stop_waiting {s : State} {g : Fin 8} {src : Nat} (hact : s.actionOf g src = 3)
    (hwait : (s.grp g).stopInRide = true) : (s.faultAction g src).mode g = s.mode g := by
  unfold State.faultAction
  rw [hact]
  extract_lets _ s1 s2 _ s4
  have h1 : Beside [11] (stopRecordFlds g) s s1 :=
    ((Beside.refl s).setListed (by simp [stopRecordFlds]) 3).setListed (by simp [stopRecordFlds]) src
  have h2 : Beside [11] (stopRecordFlds g) s s2 :=
    (h1.raiseListed (by simp [stopRecordFlds, recordFlds])).stampListed (by simp [stopRecordFlds, recordFlds])
      (by simp [stopRecordFlds, recordFlds]) _
  obtain ⟨hgives, hkept⟩ := (s2.ctrEvent 2).giveWay_of_stop g
  have hevent : (s2.ctrEvent 2).grp g = s.grp g := State.grp_congr ((s2.ctrEvent_grid 2).trans (by simp [s2, s1])) g
  have h4 : Beside [11] (stopRecordFlds g) s s4 :=
    (h2.trans ((s2.ctrEvent_ctr 2).mono (by simp) (by simp))).trans (hgives.mono (by simp) (by simp [stopRecordFlds, recordFlds]))
  have hwait4 : (s4.grp g).stopInRide = true := hkept.trans ((congrArg GroupRun.stopInRide hevent).trans hwait)
  clear_value s4
  have hmode {t : State} (ht : Beside [11] (stopRecordFlds g) s t) : t.mode g = s.mode g :=
    ht.fld _ (mode_stopRecord g).1 (mode_stopRecord g).2
  have hstop {r : GroupRun} (hr : r.stopInRide = true) : ((s4.setGrp g r).runAction g 3).mode g = s.mode g := by
    rw [State.runAction_stop, State.stopByAction_waiting ((congrArg GroupRun.stopInRide (s4.grp_setGrp_same g r)).trans hr)]
    exact hmode (h4.setGrp g r)
  split
  · exact hmode h1
  split
  · exact hmode (h2.same rfl)
  · exact hstop hwait4

/-- The DC bus has been low for 10 ms (R66). -/
theorem execDcBusLowTimeout_acts {s : State} {g : Fin 8} {t0 : Nat} (hlow : (s.grp g).vdcLow = some t0) (hnew : (s.grp g).vdcDone = false)
    (hrun : s.on (Reg.GFM_STATUS_RUN g) = true) (htime : t0 + msCycles 10 ≤ s.now) :
    exec (.dcBusLowTimeout g) s = .next ((s.setGrp g { s.grp g with vdcDone := true }).faultAction g 9) := by
  refine congrArg Host.Outcome.next ?_
  split
  · next h => exact absurd (hlow.symm.trans h) (by simp)
  · next t h =>
    obtain rfl : t0 = t := Option.some.inj (hlow.symm.trans h)
    exact if_pos ⟨hrun, hnew, htime⟩

/-- An image that gives source 0x09 of group 0 the action STOP (R66, R144). -/
def stopsOnLowBus : Img := { fault := List.replicate 9 0 ++ [3] }

/-- Group 0 runs in ISLAND on a DC bus that has been low for 10 ms, and its record still holds a stop that waits for RIDE to end. -/
def islandStopWaits : State :=
  { ((State.reset.setFld Reg.TWN_STATUS_ROLE roleSOLO).setFld (Reg.GFM_STATUS_RUN 0) 1).setFld (Reg.GFM_EVT_STATUS_MODE 0) mISLAND with
    chart := 4000000, grid := [(0, { vdcLow := some 0, stopInRide := true })],
    stg := { State.reset.stg with active := some stopsOnLowBus } }

theorem islandStopWaits_bus : (islandStopWaits.grp 0).vdcLow = some 0 ∧ (islandStopWaits.grp 0).vdcDone = false ∧
    (islandStopWaits.grp 0).stopInRide = true ∧ 0 + msCycles 10 ≤ islandStopWaits.now ∧ islandStopWaits.actionOf 0 9 = 3 := by decide

theorem islandStopWaits_runs : islandStopWaits.on (Reg.GFM_STATUS_RUN 0) = true ∧ islandStopWaits.mode 0 = mISLAND ∧
    islandStopWaits.role ≠ roleSTANDBY := by decide

theorem islandStopWaits_progress : islandStopWaits.inProgress 0 = 3 := by decide

end Sys2Proof.Machine

/-- Refutes O21: the action STOP for a low DC bus does not stop a group in ISLAND whose record still holds a stop that waits for RIDE to
end, as `stopByAction` takes that stop for one in progress whatever the mode. The flag can stand so in a standby: `followGroup` (R352) takes
MODE from the frame of the active module and leaves the flag. -/
theorem not_groupTimersRunTheirActions : ¬ Obligations.GroupTimersRunTheirActions := by
  intro h
  obtain ⟨hlow, hnew, hwait, htime, hstop⟩ := islandStopWaits_bus
  obtain ⟨hrun, hisland, hrole⟩ := islandStopWaits_runs
  have hsevere : islandStopWaits.inProgress 0 ≤ severity (islandStopWaits.actionOf 0 9) := by
    rw [hstop, islandStopWaits_progress]; decide
  obtain ⟨t, ht, -, -, -, hstops, -⟩ := h.1 islandStopWaits 0 0 hlow hnew hrun htime hrole hsevere
  have hacts := execDcBusLowTimeout_acts (g := 0) hlow hnew hrun htime
  obtain rfl := Host.Outcome.next.inj (hacts.symm.trans ht)
  have hstill := State.mode_faultAction_stop_waiting (s := islandStopWaits.setGrp 0 { islandStopWaits.grp 0 with vdcDone := true })
    (g := 0) (src := 9) hstop ((congrArg GroupRun.stopInRide (islandStopWaits.grp_setGrp_same ..)).trans hwait)
  exact absurd ((hstops hstop hisland).1.symm.trans (hstill.trans hisland)) (by decide)

end

/-! Operation words. -/

section
open Sys2Proof Sys2Proof.Machine

namespace Sys2Proof.Machine

theorem OpWord.wf_iff (o : OpWord) : o.wf = true ↔ o.op ≤ 0x21 ∧ o.d < 32 ∧ o.a < 32 ∧ o.b < 32 ∧ o.imm < 1024 := by
  simp only [OpWord.wf, Bool.and_eq_true, decide_eq_true_eq, and_assoc]

theorem asNat_lt (b : Bool) : asNat b < 2 := by cases b <;> decide

theorem bitOf_eq_decide (n k : Nat) : bitOf n k = decide (n / 2 ^ k % 2 = 1) := rfl

theorem asNat_bitOf (n k : Nat) : asNat (bitOf n k) = n / 2 ^ k % 2 := by
  rw [bitOf_eq_decide, asNat]
  split <;> simp_all

theorem decide_asNat (b : Bool) : decide (asNat b = 1) = b := by cases b <;> rfl

/-- The fields stand side by side below 2^32 (R101). -/
theorem encodeOp_lt {o : OpWord} (h : o.wf = true) : encodeOp o < 2 ^ 32 := by
  obtain ⟨hop, hd, ha, hb, himm⟩ := o.wf_iff.1 h
  have heob := asNat_lt o.eob
  unfold encodeOp
  omega

theorem decodeOp_encodeOp {o : OpWord} (h : o.wf = true) : decodeOp (encodeOp o) = o := by
  obtain ⟨hop, hd, ha, hb, himm⟩ := o.wf_iff.1 h
  have heob := asNat_lt o.eob
  obtain ⟨op, d, a, b, eob, imm⟩ := o
  simp only [decodeOp, encodeOp, bitOf_eq_decide, OpWord.mk.injEq] at *
  refine ⟨?_, ?_, ?_, ?_, ?_, ?_⟩
  case refine_5 =>
    have hbit : (op * 2 ^ 26 + d * 2 ^ 21 + a * 2 ^ 16 + b * 2 ^ 11 + asNat eob * 2 ^ 10 + imm) / 2 ^ 10 % 2 = asNat eob := by omega
    rw [hbit, decide_asNat]
  all_goals omega

theorem encodeOp_decodeOp {w : Nat} (h : w < 2 ^ 32) : encodeOp (decodeOp w) = w := by
  simp only [encodeOp, decodeOp, asNat_bitOf]
  omega

end Sys2Proof.Machine

/-- Settles O41: each field of R101 is a digit of the word in a mixed radix, so that division reads what the sum spells. -/
theorem operationWordsRoundTrip : Obligations.OperationWordsRoundTrip :=
  ⟨fun _ h => ⟨decodeOp_encodeOp h, encodeOp_lt h⟩, fun _ h => encodeOp_decodeOp h⟩

end

/-! MIN, MAX, LIMIT, SEL, WRAP and SQRT. -/

section
open Sys2Proof Sys2Proof.Machine

namespace Sys2Proof.Machine

/-- A word that is not NaV lies within the symmetric range (R5, R6). -/
theorem wInt_bounds {w : Nat} (hw : w < 2 ^ 32) (hn : isNav w = false) : satFloor ≤ wInt w ∧ wInt w ≤ satCeiling := by
  simp only [isNav, navN, beq_eq_false_iff_ne] at hn
  simp only [wInt, signedOf, satFloor, satCeiling]
  split <;> omega

theorem unsignedOf_wInt {w : Nat} (hw : w < 2 ^ 32) : unsignedOf 32 (wInt w) = w := by
  simp only [unsignedOf, wInt, signedOf]
  split <;> omega

theorem wInt_nav_neg {w : Nat} (h : isNav w = true) : wInt w < 0 := by
  obtain rfl : w = navN := by simpa [isNav] using h
  decide

/-- Within the symmetric range saturation changes nothing (R5). -/
theorem satN_of_bounds {i : Int} (h : satFloor ≤ i ∧ i ≤ satCeiling) : satN i = unsignedOf 32 i ∧ satActs i = false := by
  obtain ⟨hlo, hhi⟩ := h
  have hclamp : clampInt i = i := by
    unfold clampInt
    split
    · omega
    · split <;> omega
  rw [satN, hclamp, satActs, decide_eq_false (by omega), decide_eq_false (by omega)]
  exact ⟨rfl, rfl⟩

theorem State.reg_bounds (s : State) (n : Nat) {r : Nat} (h : isNav (s.reg n r) = false) :
    satFloor ≤ wInt (s.reg n r) ∧ wInt (s.reg n r) ≤ satCeiling := wInt_bounds (s.reg_lt n r) h

theorem WritesReg.of_plain (s : State) (n d w : Nat) : WritesReg s ((s.advance n).setReg n d w) n d w false :=
  .of_setReg s n d w false

/-- A two-operand operation whose result stays within the range of its operands writes the word itself (R99, R100). -/
theorem WritesReg.of_binary_bounded (s : State) (n : Nat) (o : OpWord) (f : Int → Int → Int) {w : Nat}
    (hw : isNav (s.reg n o.a) = false → isNav (s.reg n o.b) = false →
      (satFloor ≤ f (wInt (s.reg n o.a)) (wInt (s.reg n o.b)) ∧ f (wInt (s.reg n o.a)) (wInt (s.reg n o.b)) ≤ satCeiling) ∧
        unsignedOf 32 (f (wInt (s.reg n o.a)) (wInt (s.reg n o.b))) = w) :
    WritesReg s ((s.advance n).binary n o f) n o.d (if isNav (s.reg n o.a) || isNav (s.reg n o.b) then navN else w) false := by
  have hexact := WritesExact.of_binary s n o f
  unfold WritesExact at hexact
  cases ha : isNav (s.reg n o.a) <;> cases hb : isNav (s.reg n o.b) <;> rw [ha, hb] at hexact
  case false.false =>
    obtain ⟨hin, rfl⟩ := hw ha hb
    obtain ⟨hword, hsat⟩ := satN_of_bounds hin
    rw [hword, hsat] at hexact
    exact hexact
  all_goals exact hexact

theorem WritesReg.of_min (s : State) (n : Nat) (o : OpWord) :
    WritesReg s ((s.advance n).binary n o fun x y => if x ≤ y then x else y) n o.d
      (if isNav (s.reg n o.a) || isNav (s.reg n o.b) then navN
        else if wInt (s.reg n o.a) ≤ wInt (s.reg n o.b) then s.reg n o.a else s.reg n o.b) false := by
  refine .of_binary_bounded s n o _ fun ha hb => ?_
  split
  · exact ⟨s.reg_bounds n ha, unsignedOf_wInt (s.reg_lt ..)⟩
  · exact ⟨s.reg_bounds n hb, unsignedOf_wInt (s.reg_lt ..)⟩

theorem WritesReg.of_max (s : State) (n : Nat) (o : OpWord) :
    WritesReg s ((s.advance n).binary n o fun x y => if x ≤ y then y else x) n o.d
      (if isNav (s.reg n o.a) || isNav (s.reg n o.b) then navN
        else if wInt (s.reg n o.a) ≤ wInt (s.reg n o.b) then s.reg n o.b else s.reg n o.a) false := by
  refine .of_binary_bounded s n o _ fun ha hb => ?_
  split
  · exact ⟨s.reg_bounds n hb, unsignedOf_wInt (s.reg_lt ..)⟩
  · exact ⟨s.reg_bounds n ha, unsignedOf_wInt (s.reg_lt ..)⟩

theorem limitTo_bounds {x b : Int} (hx : satFloor ≤ x ∧ x ≤ satCeiling) (hb : 0 ≤ b ∧ b ≤ satCeiling) :
    satFloor ≤ limitTo x b ∧ limitTo x b ≤ satCeiling := by
  unfold limitTo satFloor satCeiling at *
  split
  · omega
  · split <;> omega

/-- The body of LIMIT: a bound that is negative, as NaV is, gives NaV (R100). -/
theorem WritesReg.of_limit (s : State) (n : Nat) (o : OpWord) :
    WritesReg s (if wInt (s.reg n o.b) < 0 then (s.advance n).setReg n o.d navN else (s.advance n).binary n o limitTo) n o.d
      (if isNav (s.reg n o.a) || isNav (s.reg n o.b) || decide (wInt (s.reg n o.b) < 0) then navN
        else unsignedOf 32 (limitTo (wInt (s.reg n o.a)) (wInt (s.reg n o.b)))) false := by
  by_cases hneg : wInt (s.reg n o.b) < 0
  · rw [if_pos hneg, decide_eq_true hneg, Bool.or_true]
    exact .of_plain ..
  · rw [if_neg hneg, decide_eq_false hneg, Bool.or_false]
    exact .of_binary_bounded s n o _ fun ha hb =>
      ⟨limitTo_bounds (s.reg_bounds n ha) ⟨not_lt.1 hneg, (s.reg_bounds n hb).2⟩, rfl⟩

/-- An angle wrapped into [−π, +π) differs by whole turns (R3, R102). -/
theorem wrapAngle_spec (x : Int) : -piQ28 ≤ wrapAngle x ∧ wrapAngle x < piQ28 ∧ ∃ k : Int, wrapAngle x = x + k * (2 * piQ28) := by
  have hdiv := Int.emod_add_mul_ediv (x + piQ28) (2 * piQ28)
  have hnonneg := Int.emod_nonneg (x + piQ28) (b := 2 * piQ28) (by decide)
  have hlt := Int.emod_lt_of_pos (x + piQ28) (b := 2 * piQ28) (by decide)
  refine ⟨?_, ?_, -((x + piQ28) / (2 * piQ28)), ?_⟩ <;> unfold wrapAngle
  · omega
  · omega
  · linarith

end Sys2Proof.Machine

/-- Settles O28: no result of these operations leaves the range of the operands, so that saturation never acts. -/
theorem selectingOpsNeverSaturate : Obligations.SelectingOpsNeverSaturate := by
  intro s c n o h
  refine ⟨fun hop => ?_, fun hop => ?_, fun hop => ?_, fun hop => ⟨fun ⟨hvalid, hneg⟩ => ?_, fun hcond => ?_⟩, fun hop => ?_, fun hop => ?_⟩
  · exact State.issueOp_answers h hop _ (.of_min s n o)
  · exact State.issueOp_answers h hop _ (.of_max s n o)
  · exact State.issueOp_answers h hop _ (.of_limit s n o)
  · obtain ⟨t, ht, rfl⟩ := State.issueOp_answers (P := (· = s.advance n)) h hop (fun n o t =>
      if isNav (t.reg n o.a) then t.setReg n o.d navN else if wInt (t.reg n o.a) < 0 then t else t.setReg n o.d (t.reg n o.b)) (by
        rw [State.advance_reg, hvalid, if_neg Bool.false_ne_true, if_pos hneg])
    exact ht
  · refine State.issueOp_answers h hop _ ?_
    rw [State.advance_reg]
    cases hnav : isNav (s.reg n o.a)
    case true => exact .of_plain ..
    case false =>
      have hpos : ¬ wInt (s.reg n o.a) < 0 := not_lt.2 (hcond.resolve_left (Bool.eq_false_iff.1 hnav))
      rw [if_neg Bool.false_ne_true, if_neg Bool.false_ne_true, if_neg hpos]
      exact .of_plain ..
  · obtain ⟨hlo, hhi, hturns⟩ := wrapAngle_spec (wInt (s.reg n o.a))
    refine State.issueOp_answers h hop _ ⟨_, hlo, hhi, hturns, ?_⟩
    rw [State.advance_reg]
    split <;> exact .of_plain ..
  · refine State.issueOp_answers h hop _ ?_
    rw [State.advance_reg]
    split <;> exact .of_plain ..

end

/-! SINCOS. -/

section
open Sys2Proof Sys2Proof.Machine

namespace Sys2Proof.Machine

/-- The free error of SINCOS is within the bound of R102. -/
theorem sincosDev_bound (w which : Nat) : (sincosDev w which).natAbs ≤ 79 := by
  unfold sincosDev sincosErr
  omega

theorem sinOf_near (w : Nat) : (sinOf w - sinRef (wInt w)).natAbs ≤ 79 := by
  rw [sinOf, add_sub_cancel_left]
  exact sincosDev_bound w 0

theorem cosOf_near (w : Nat) : (cosOf w - cosRef (wInt w)).natAbs ≤ 79 := by
  rw [cosOf, add_sub_cancel_left]
  exact sincosDev_bound w 1

/-- The two registers of a pair below register 31 are two. -/
theorem State.bankKey_pair (s : State) (n : Nat) {d : Nat} (_hd : d < 31) : s.bankKey n d ≠ s.bankKey n (d + 1) := by
  unfold State.bankKey
  omega

/-- What an operation does that writes the pair of registers `d` and `d + 1`. -/
structure WritesPair (s t : State) (n d u v : Nat) : Prop where
  accs : t.eng.accs = s.eng.accs
  st : t.eng.st = s.eng.st
  ctx : t.ctx n = (s.advance n).ctx n
  fields : OnlyFlds [] s t
  others : ∀ m r, s.bankKey m r ≠ s.bankKey n d → s.bankKey m r ≠ s.bankKey n (d + 1) → t.reg m r = s.reg m r
  first : t.reg n d = u % 2 ^ 32
  second : t.reg n (d + 1) = v % 2 ^ 32

theorem WritesPair.of_setReg (s : State) (n : Nat) {d : Nat} (hd : d < 31) (u v : Nat) :
    WritesPair s (((s.advance n).setReg n d u).setReg n (d + 1) v) n d u v where
  accs := rfl
  st := rfl
  ctx := rfl
  fields := fun _ _ => rfl
  others := fun _ _ h h' => (((s.advance n).setReg n d u).reg_setReg_other v h').trans ((s.advance n).reg_setReg_other u h)
  first := (((s.advance n).setReg n d u).reg_setReg_other v (s.bankKey_pair n hd)).trans ((s.advance n).reg_setReg_same n d u)
  second := ((s.advance n).setReg n d u).reg_setReg_same n (d + 1) v

end Sys2Proof.Machine

/-- Settles O29: both words are the reference and a free error that its definition bounds. -/
theorem sincosWritesSineAndCosine : Obligations.SincosWritesSineAndCosine := by
  intro s c n o h hop hd
  refine State.issueOp_answers h hop _ ?_
  dsimp only
  rw [State.advance_reg]
  cases hnav : isNav (s.reg n o.a)
  case true =>
    rw [if_pos rfl]
    obtain ⟨haccs, hst, hctx, hfields, hothers, hfirst, hsecond⟩ := WritesPair.of_setReg s n hd navN navN
    exact ⟨haccs, hst, hctx, hfields, hothers, fun _ => ⟨hfirst, hsecond⟩, nofun⟩
  case false =>
    rw [if_neg Bool.false_ne_true]
    obtain ⟨haccs, hst, hctx, hfields, hothers, hfirst, hsecond⟩ := WritesPair.of_setReg s n hd
      (unsignedOf 32 (sinOf (s.reg n o.a))) (unsignedOf 32 (cosOf (s.reg n o.a)))
    exact ⟨haccs, hst, hctx, hfields, hothers, nofun, fun _ => ⟨_, _, sinOf_near _, cosOf_near _, hfirst, hsecond⟩⟩

end

/-! CLR, MUL, MAC and MSU. -/

section
open Sys2Proof Sys2Proof.Machine

namespace Sys2Proof.Machine

/-- What an operation does that adds an aligned product to an accumulator, or leaves it where an operand is NaV (R97, R100). -/
def AddsToAcc (s t : State) (n i : Nat) (nav : Bool) (v : Int) : Prop :=
  ∃ z, WritesAcc s t n i z (!nav && decide (accClamp v ≠ v)) ∧ z.nav = ((s.acc n i).nav || nav) ∧
    z.val = if nav then (s.acc n i).val else accClamp v

theorem AddsToAcc.of_accumulate (s : State) (n i : Nat) (nav : Bool) (p : Int) :
    AddsToAcc s ((s.advance n).accumulate n i nav p) n i nav ((s.acc n i).val + p) := by
  unfold State.accumulate
  rw [State.advance_acc]
  cases nav
  · rw [if_neg Bool.false_ne_true]
    exact ⟨{ s.acc n i with val := accClamp ((s.acc n i).val + p) }, .of_setAcc s n i _ _, (Bool.or_false _).symm,
      (if_neg Bool.false_ne_true).symm⟩
  · rw [if_pos rfl]
    exact ⟨{ s.acc n i with nav := true }, .of_setAcc s n i _ false, (Bool.or_true _).symm, (if_pos rfl).symm⟩

/-- What an operation does that replaces an accumulator by an aligned product (R97, R100). -/
def LoadsAcc (s t : State) (n i : Nat) (nav : Bool) (p : Int) : Prop :=
  ∃ z, WritesAcc s t n i z (!nav && decide (accClamp p ≠ p)) ∧ z.nav = nav ∧ (nav = false → z.val = accClamp p)

theorem LoadsAcc.of_loadAcc (s : State) (n i : Nat) (nav : Bool) (p : Int) :
    LoadsAcc s ((s.advance n).loadAcc n i nav p) n i nav p :=
  ⟨_, .of_setAcc s n i { val := if nav then 0 else accClamp p, nav := nav } _, rfl, fun h => if_neg (Bool.eq_false_iff.1 h)⟩

/-- Two words within the symmetric range have a product within the bound of an accumulator (R97). -/
theorem accClamp_mul {x y : Int} (hx : satFloor ≤ x ∧ x ≤ satCeiling) (hy : satFloor ≤ y ∧ y ≤ satCeiling) : accClamp (x * y) = x * y := by
  have hbound : |x * y| ≤ 0x7FFFFFFF * 0x7FFFFFFF := by
    rw [abs_mul]
    exact mul_le_mul (abs_le.2 hx) (abs_le.2 hy) (abs_nonneg y) (by decide)
  obtain ⟨hlo, hhi⟩ := abs_le.1 hbound
  unfold accClamp accLimit
  rw [if_neg (by omega), if_neg (by omega)]

theorem State.regProd_bounded {s : State} {n ra rb : Nat} (h : (isNav (s.reg n ra) || isNav (s.reg n rb)) = false) :
    accClamp (wInt (s.reg n ra) * wInt (s.reg n rb)) = wInt (s.reg n ra) * wInt (s.reg n rb) := by
  obtain ⟨ha, hb⟩ := Bool.or_eq_false_iff.1 h
  exact accClamp_mul (s.reg_bounds n ha) (s.reg_bounds n hb)

/-- The product of two registers replaces an accumulator, and the bound never acts (R97). -/
theorem LoadsAcc.unbounded {s t : State} {n i ra rb : Nat}
    (h : LoadsAcc s t n i (isNav (s.reg n ra) || isNav (s.reg n rb)) (wInt (s.reg n ra) * wInt (s.reg n rb))) :
    ∃ z, WritesAcc s t n i z false ∧ z.nav = (isNav (s.reg n ra) || isNav (s.reg n rb)) ∧
      ((isNav (s.reg n ra) || isNav (s.reg n rb)) = false → z.val = wInt (s.reg n ra) * wInt (s.reg n rb)) := by
  obtain ⟨z, hz, hnav, hval⟩ := h
  refine ⟨z, ?_, hnav, fun hvalid => (hval hvalid).trans (State.regProd_bounded hvalid)⟩
  cases hvalid : isNav (s.reg n ra) || isNav (s.reg n rb) <;> rw [hvalid] at hz
  · rwa [State.regProd_bounded hvalid, decide_eq_false (not_not.2 rfl)] at hz
  · exact hz

end Sys2Proof.Machine

/-- Settles O30: each body replaces an accumulator or adds to it, and a product of two registers stays far within the bound. -/
theorem registerProductsAccumulate : Obligations.RegisterProductsAccumulate := by
  intro s c n o h
  refine ⟨fun hop => ?_, fun hop => ?_, fun hop => ?_, fun hop => ?_⟩
  · exact State.issueOp_answers h hop _ (WritesAcc.of_setAcc s n (o.imm % 2) {} false)
  · exact State.issueOp_answers h hop _ (LoadsAcc.of_loadAcc s n (o.imm % 2) _ _).unbounded
  · exact State.issueOp_answers h hop _ (AddsToAcc.of_accumulate s n (o.imm % 2) _ _)
  · refine State.issueOp_answers h hop _ ?_
    rw [sub_eq_add_neg]
    exact AddsToAcc.of_accumulate s n (o.imm % 2) _ _

end

/-! What an operation's move leaves of its context, and the reads of cell memory with their checks. -/

section
open Sys2Proof Sys2Proof.Machine

namespace Sys2Proof.Machine

/-- A context past an operation: its position, its repetition, its boundary and its first issue (R104 to R106). -/
theorem State.advance_ctx_same (s : State) (n : Nat) : (s.advance n).ctx n =
    { s.ctx n with pc := (nextPos (s.curOp n) (s.ctx n).pc (s.ctx n).rep).1, rep := (nextPos (s.curOp n) (s.ctx n).pc (s.ctx n).rep).2.1,
                   boundary := (nextPos (s.curOp n) (s.ctx n).pc (s.ctx n).rep).2.2,
                   firstIssue := some ((s.ctx n).firstIssue.getD s.now) } := State.ctx_setCtx_same ..

@[simp] theorem State.advance_cellOf (s : State) (n m : Nat) : (s.advance n).cellOf m = s.cellOf m := rfl
@[simp] theorem State.advance_cfmap (s : State) (n m : Nat) : (s.advance n).cfmap m = s.cfmap m := rfl

@[simp] theorem State.advance_onOld (s : State) (n : Nat) : (s.advance n).onOld n = s.onOld n := by
  unfold State.onOld
  rw [State.advance_ctx_same]

@[simp] theorem State.advance_coefWord (s : State) (n i : Nat) : (s.advance n).coefWord n i = s.coefWord n i := by
  unfold State.coefWord
  rw [State.advance_onOld]
  rfl

/-- A read of a sound word records nothing (R94). -/
theorem State.eccRead_ok (s : State) (c addr : Nat) (stg : Bool) {w : MWord} (h : w.ecc = .ok) : s.eccRead c addr stg w = s := by
  unfold State.eccRead
  rw [h]

theorem MWord.ne_bad_of_ok {w : MWord} (h : w.ecc = .ok) : w.ecc ≠ .bad := by rw [h]; exact Ecc.noConfusion

theorem MWord.operand_ok {w : MWord} (h : w.ecc = .ok) : w.operand = w.val := if_neg (MWord.ne_bad_of_ok h)

theorem MWord.operand_bad {w : MWord} (h : w.ecc = .bad) : w.operand = navN := if_pos h

theorem State.readCoef_ok {s : State} {n i : Nat} (h : (s.coefWord n i).ecc = .ok) : s.readCoef n i = ((s.coefWord n i).val, s) :=
  Prod.ext (MWord.operand_ok h) ((if_neg (MWord.ne_bad_of_ok h)).trans (s.eccRead_ok _ _ _ h))

theorem State.readSt_ok {s : State} {n i : Nat} (h : (s.stWord (s.cellOf n) i).ecc = .ok) :
    s.readSt n i = ((s.stWord (s.cellOf n) i).val, s) :=
  Prod.ext (MWord.operand_ok h) ((if_neg (MWord.ne_bad_of_ok h)).trans (s.eccRead_ok _ _ _ h))

theorem State.coefProd_ok {s : State} {n i : Nat} (h : (s.coefWord n i).ecc = .ok) (ra : Nat) : s.coefProd n ra i =
    (isNav (s.reg n ra) || isNav (s.coefWord n i).val,
      alignCoef (wInt (s.reg n ra)) (wInt (s.coefWord n i).val) (segFormat (s.cfmap n) i), s) := by
  unfold State.coefProd
  rw [State.readCoef_ok h]

/-- The product that an operation takes with a sound coefficient word (R93, R97). -/
theorem State.coefProd_advance {s : State} {n i : Nat} (h : (s.coefWord n i).ecc = .ok) (ra : Nat) : (s.advance n).coefProd n ra i =
    (isNav (s.reg n ra) || isNav (s.coefWord n i).val,
      alignCoef (wInt (s.reg n ra)) (wInt (s.coefWord n i).val) (segFormat (s.cfmap n) i), s.advance n) := by
  rw [State.coefProd_ok ((congrArg MWord.ecc (s.advance_coefWord n i)).trans h), State.advance_coefWord]
  rfl

theorem State.noteFound_regs (s : State) (addr : Nat) (stg : Bool) : (s.noteFound addr stg).regs = s.regs := by
  unfold State.noteFound; split <;> rfl

/-- The engine after a read has found an error (R94, R95): the word stands in the list of what has been found. -/
theorem State.noteFound_eng (s : State) (addr : Nat) (stg : Bool) :
    (s.noteFound addr stg).eng = { s.eng with found := (s.noteFound addr stg).eng.found } ∧
      (s.noteFound addr stg).eng.found.contains (foundId addr stg) = true := by
  unfold State.noteFound
  split
  · next h => exact ⟨rfl, h⟩
  · exact ⟨rfl, by simp⟩

/-- What a read of a poisoned word records (R94). -/
structure FindsBad (s t : State) (c addr : Nat) (stg : Bool) : Prop where
  flag : t.on Reg.GRT_STATUS_UE_S = true
  cell : t.on (Reg.GRT_CELL_STATUS_UE_S c) = true
  address : t.fld Reg.GRT_UE_ADDR = addr % 2 ^ 32
  engine : t.eng = { s.eng with found := t.eng.found }
  found : t.eng.found.contains (foundId addr stg) = true

theorem cellUe_keys (c : Nat) : Reg.GRT_STATUS_UE_S.key ≠ (Reg.GRT_CELL_STATUS_UE_S c).key ∧
    (Reg.GRT_CELL_STATUS_UE_S c).key ≠ Reg.GRT_UE_ADDR.key ∧ Reg.GRT_STATUS_UE_S.key ≠ Reg.GRT_UE_ADDR.key := by
  simp only [Fld.key, Reg.GRT_STATUS_UE_S, Reg.GRT_CELL_STATUS_UE_S, Reg.GRT_UE_ADDR]
  omega

theorem FindsBad.of_eccRead (s : State) (c addr : Nat) (stg : Bool) {w : MWord} (h : w.ecc = .bad) :
    FindsBad s (s.eccRead c addr stg w) c addr stg := by
  obtain ⟨hflag, hcell, haddr⟩ := cellUe_keys c
  obtain ⟨heng, hfound⟩ := s.noteFound_eng addr stg
  unfold State.eccRead
  rw [h]
  refine ⟨?_, ?_, State.fld_setFld_same .., heng, hfound⟩
  · rw [State.on, State.fld_setFld_other _ _ haddr]
    exact (State.on_raise_other _ hflag).trans (State.on_raise_same _ rfl)
  · rw [State.on, State.fld_setFld_other _ _ hcell]
    exact State.on_raise_same _ rfl

theorem pois_keys (n : Nat) : ∀ f ∈ [Reg.GRT_STATUS_UE_S, Reg.GRT_UE_ADDR], f.key ≠ (Reg.GRT_CTX_STATUS_POIS_S n).key := by
  simp [Fld.key, Reg.GRT_STATUS_UE_S, Reg.GRT_UE_ADDR, Reg.GRT_CTX_STATUS_POIS_S]
  omega

/-- What an operation's read of a poisoned word gives and records (R94, R100). -/
structure ReadsPoison (s : State) (r : Nat × State) (n addr : Nat) : Prop where
  operand : r.1 = navN
  pois : r.2.on (Reg.GRT_CTX_STATUS_POIS_S (n % 128)) = true
  flag : r.2.on Reg.GRT_STATUS_UE_S = true
  address : r.2.fld Reg.GRT_UE_ADDR = addr % 2 ^ 32
  engine : r.2.eng = { s.eng with found := r.2.eng.found }

theorem FindsBad.readsPoison {s t : State} {c addr : Nat} {stg : Bool} (h : FindsBad s t c addr stg) {w : MWord} (hw : w.ecc = .bad) (n : Nat) :
    ReadsPoison s (w.operand, t.raise (Reg.GRT_CTX_STATUS_POIS_S (n % 128))) n addr where
  operand := MWord.operand_bad hw
  pois := t.on_raise_same rfl
  flag := (t.on_raise_other (pois_keys (n % 128) _ (by simp))).trans h.flag
  address := (t.fld_raise_other (pois_keys (n % 128) _ (by simp))).trans h.address
  engine := h.engine

theorem ReadsPoison.of_readCoef {s : State} {n i : Nat} (h : (s.coefWord n i).ecc = .bad) :
    ReadsPoison s (s.readCoef n i) n (coefAddr (s.cellOf n) (i % 1024)) := by
  have hstate : (s.readCoef n i).2 = State.raise _ (Reg.GRT_CTX_STATUS_POIS_S (n % 128)) := if_pos h
  rw [← Prod.eta (s.readCoef n i), hstate]
  exact (FindsBad.of_eccRead s _ _ _ h).readsPoison h n

theorem ReadsPoison.of_readSt {s : State} {n i : Nat} (h : (s.stWord (s.cellOf n) i).ecc = .bad) :
    ReadsPoison s (s.readSt n i) n (stAddr (s.cellOf n) (i % 512)) := by
  have hstate : (s.readSt n i).2 = State.raise _ (Reg.GRT_CTX_STATUS_POIS_S (n % 128)) := if_pos h
  rw [← Prod.eta (s.readSt n i), hstate]
  exact (FindsBad.of_eccRead s _ _ _ h).readsPoison h n

end Sys2Proof.Machine
end

/-! MULC, MACC and MSUC. -/

section
open Sys2Proof Sys2Proof.Machine

namespace Sys2Proof.Machine

/-- With a NaV operand an accumulation sets the NaV flag and nothing else (R100). -/
theorem State.accumulate_nav (s : State) (n i : Nat) (p : Int) : s.accumulate n i true p = s.setAcc n i { s.acc n i with nav := true } := by
  unfold State.accumulate
  exact if_pos rfl

theorem State.coefProd_poisoned {s : State} {n ra i : Nat} (h : ReadsPoison s (s.readCoef n i) n (coefAddr (s.cellOf n) (i % 1024))) :
    (s.coefProd n ra i).1 = true ∧ (s.coefProd n ra i).2.2 = (s.readCoef n i).2 := by
  refine ⟨?_, rfl⟩
  show (isNav (s.reg n ra) || isNav (s.readCoef n i).1) = true
  rw [h.operand]
  exact Bool.or_true _

end Sys2Proof.Machine

/-- Settles O31: a sound word gives its aligned product and leaves the state, a poisoned one is NaV and is recorded. -/
theorem coefficientProductsAccumulate : Obligations.CoefficientProductsAccumulate := by
  intro s c n o h
  refine ⟨fun hok => ⟨fun hop => ?_, fun hop => ?_, fun hop => ?_⟩, fun hbad hop => ?_⟩
  · refine State.issueOp_answers h hop _ ?_
    rw [State.coefProd_advance hok]
    exact LoadsAcc.of_loadAcc s n (o.d % 2) _ _
  · refine State.issueOp_answers h hop _ ?_
    rw [State.coefProd_advance hok]
    exact AddsToAcc.of_accumulate s n (o.d % 2) _ _
  · refine State.issueOp_answers h hop _ ?_
    rw [State.coefProd_advance hok, sub_eq_add_neg]
    exact AddsToAcc.of_accumulate s n (o.d % 2) _ _
  · refine State.issueOp_answers h hop _ ?_
    have hread := ReadsPoison.of_readCoef ((congrArg MWord.ecc (s.advance_coefWord n o.imm)).trans hbad)
    obtain ⟨hnav, hstate⟩ := State.coefProd_poisoned (ra := o.a) hread
    dsimp only
    rw [hnav, hstate, State.accumulate_nav]
    exact ⟨congrArg Acc.nav (State.acc_setAcc_same ..), hread.pois, hread.flag⟩

end

/-! MAC2, MACC2 and RND. -/

section
open Sys2Proof Sys2Proof.Machine

namespace Sys2Proof.Machine

/-- The magnitude of a rounded quotient, and the quotient's distance from the exact one (R98). -/
theorem roundDiv_magnitude (x : Int) (d : Nat) : (roundDiv x d).natAbs = (2 * x.natAbs + d) / (2 * d) ∧
    (roundDiv x d * d - x).natAbs = (((2 * x.natAbs + d) / (2 * d) * d : Nat) - (x.natAbs : Int)).natAbs := by
  unfold roundDiv
  generalize (2 * x.natAbs + d) / (2 * d) = r
  rw [Nat.cast_mul]
  split
  · exact ⟨Int.natAbs_natCast r, by congr 2; omega⟩
  · refine ⟨by rw [Int.natAbs_neg, Int.natAbs_natCast], ?_⟩
    rw [← Int.natAbs_neg]
    congr 1
    rw [neg_mul]
    omega

/-- Rounding to nearest, with ties away from zero (R98). -/
theorem roundDiv_nearest (x : Int) {d : Nat} (hd : 0 < d) : 2 * (roundDiv x d * d - x).natAbs ≤ d ∧
    (2 * (roundDiv x d * d - x).natAbs = d → x.natAbs < (roundDiv x d).natAbs * d) := by
  obtain ⟨habs, hdist⟩ := roundDiv_magnitude x d
  rw [habs, hdist]
  have hlow := Nat.div_mul_le_self (2 * x.natAbs + d) (2 * d)
  have hhigh := Nat.lt_div_mul_add (a := 2 * x.natAbs + d) (b := 2 * d) (by omega)
  rw [mul_left_comm] at hlow hhigh
  generalize (2 * x.natAbs + d) / (2 * d) * d = y at *
  omega

theorem State.acc_congr {s t : State} (h : t.eng = s.eng) (n i : Nat) : t.acc n i = s.acc n i := by
  unfold State.acc State.cellOf State.prio State.cfg
  rw [h]

/-- An accumulator after an aligned product has joined it (R97, R100). -/
def Acc.joined (a : Acc) (nav : Bool) (p : Int) : Acc := if nav then { a with nav := true } else { a with val := accClamp (a.val + p) }

theorem State.accumulate_acc_same (s : State) (n i : Nat) (nav : Bool) (p : Int) :
    (s.accumulate n i nav p).acc n i = (s.acc n i).joined nav p := by
  unfold State.accumulate Acc.joined
  cases nav
  · rw [if_neg Bool.false_ne_true, if_neg Bool.false_ne_true, State.acc_congr (State.asatFlag_eng ..)]
    exact State.acc_setAcc_same s n i _
  · rw [if_pos rfl, if_pos rfl]
    exact State.acc_setAcc_same s n i _

/-- What an accumulation leaves: the memories and the banks, the other accumulator, and every field but ASAT_S. -/
theorem State.accumulate_frame (s : State) (n i : Nat) (nav : Bool) (p : Int) : let t := s.accumulate n i nav p
    t.eng = { s.eng with accs := t.eng.accs } ∧ OnlyFlds [Reg.GRT_CTX_STATUS_ASAT_S (n % 128)] s t ∧
      ∀ j, j ≠ i → t.acc n j = s.acc n j := by
  have hset (a : Acc) (sat : Bool) : let t := (s.setAcc n i a).asatFlag n sat
      t.eng = { s.eng with accs := t.eng.accs } ∧ OnlyFlds [Reg.GRT_CTX_STATUS_ASAT_S (n % 128)] s t ∧
        ∀ j, j ≠ i → t.acc n j = s.acc n j := by
    refine ⟨?_, ?_, fun j hj => ?_⟩
    · rw [State.asatFlag_eng]; rfl
    · cases sat
      · exact fun _ _ => rfl
      · exact ((OnlyFlds.refl _ s).same (u := s.setAcc n i a) rfl).trans fun f hf => State.fld_raise_other _ (hf _ (by simp))
    · rw [State.acc_congr (State.asatFlag_eng ..)]
      exact tabGet_set_other _ _ s.eng.accs a fun h => hj (Nat.add_left_cancel h)
  unfold State.accumulate
  cases nav
  · exact hset _ _
  · exact hset _ false

/-- What two accumulations in a row do, one to each accumulator (R97, R102). -/
structure AccumulatesBoth (s t : State) (n : Nat) (nav0 nav1 : Bool) (p0 p1 : Int) : Prop where
  fields : OnlyFlds [Reg.GRT_CTX_STATUS_ASAT_S (n % 128)] s t
  banks : t.eng.banks = s.eng.banks
  first : t.acc n 0 = (s.acc n 0).joined nav0 p0
  second : t.acc n 1 = (s.acc n 1).joined nav1 p1

theorem AccumulatesBoth.of_accumulate (s : State) (n : Nat) (nav0 nav1 : Bool) (p0 p1 : Int) :
    AccumulatesBoth s (((s.advance n).accumulate n 0 nav0 p0).accumulate n 1 nav1 p1) n nav0 nav1 p0 p1 := by
  obtain ⟨heng, hfields, hothers⟩ := (s.advance n).accumulate_frame n 0 nav0 p0
  obtain ⟨heng', hfields', hothers'⟩ := ((s.advance n).accumulate n 0 nav0 p0).accumulate_frame n 1 nav1 p1
  refine ⟨((OnlyFlds.refl _ s).same (u := s.advance n) rfl).trans (hfields.trans hfields'), ?_, ?_, ?_⟩
  · rw [heng', heng]; rfl
  · rw [hothers' 0 (by decide), State.accumulate_acc_same, State.advance_acc]
  · rw [State.accumulate_acc_same, hothers 1 (by decide), State.advance_acc]

/-- A product with a sound coefficient word, after an accumulation (R93, R97). -/
theorem State.coefProd_accumulate {s : State} {n i : Nat} (h : (s.coefWord n i).ecc = .ok) (ra j : Nat) (nav : Bool) (p : Int) :
    (s.accumulate n j nav p).coefProd n ra i = (isNav (s.reg n ra) || isNav (s.coefWord n i).val,
      alignCoef (wInt (s.reg n ra)) (wInt (s.coefWord n i).val) (segFormat (s.cfmap n) i), s.accumulate n j nav p) := by
  obtain ⟨heng, -, -⟩ := s.accumulate_frame n j nav p
  have hcoef : (s.accumulate n j nav p).coefWord n i = s.coefWord n i := by
    unfold State.coefWord State.onOld State.ctx State.cellOf State.cfg
    rw [heng]
  have hreg : (s.accumulate n j nav p).reg n ra = s.reg n ra := by
    unfold State.reg State.bankKey State.cellOf State.prio State.cfg
    rw [heng]
  have hmap : (s.accumulate n j nav p).cfmap n = s.cfmap n := by
    unfold State.cfmap State.cellOf State.cfg
    rw [heng]
  rw [State.coefProd_ok ((congrArg MWord.ecc hcoef).trans h), hcoef, hreg, hmap]

theorem WritesExact.of_rnd (s : State) (n d i code : Nat) :
    WritesExact s ((s.advance n).rnd n d i code) n d (s.acc n i).nav (roundShift (s.acc n i).val (56 - fracBits code)) :=
  .of_result s n d _ _

end Sys2Proof.Machine

/-- Settles O32: the quotient's magnitude is that of the magnitudes, and the two accumulations touch one accumulator each. -/
theorem pairProductsAndRounding : Obligations.PairProductsAndRounding := by
  refine ⟨fun x k => ?_, fun s c n o h => ⟨fun hop => ?_, fun hop h0 h1 => ?_, fun hop => ?_⟩⟩
  · exact_mod_cast roundDiv_nearest x (Nat.two_pow_pos k)
  · refine State.issueOp_answers h hop _ ?_
    obtain ⟨hfields, hbanks, hfirst, hsecond⟩ := AccumulatesBoth.of_accumulate s n _ _ _ _
    exact ⟨hfields, hbanks, hfirst, hsecond⟩
  · refine State.issueOp_answers h hop _ ?_
    have h1' := (congrArg MWord.ecc (s.advance_coefWord n (o.imm + 1))).trans h1
    dsimp only
    rw [State.coefProd_advance h0, State.coefProd_accumulate h1', State.advance_coefWord]
    obtain ⟨hfields, hbanks, hfirst, hsecond⟩ := AccumulatesBoth.of_accumulate s n _ _ _ _
    exact ⟨hfields, hbanks, hfirst, hsecond⟩
  · exact State.issueOp_answers h hop _ (.of_rnd s n o.d (o.imm / 4 % 2) (o.imm % 4))

end

/-! LDC, LDS, STS and IN. -/

section
open Sys2Proof Sys2Proof.Machine

namespace Sys2Proof.Machine

theorem State.stWord_setSt_same (s : State) (c i : Nat) (w : MWord) : (s.setSt c i w).stWord c i = w := tabGet_set_same _ _ _ _

/-- A store that no host word of the C-cycle meets (R102): the word, and nothing else in the memories, banks and registers. -/
theorem State.store_free {s : State} {n i : Nat} (h : s.eng.expNow.contains (s.cellOf n * 512 + i % 512) = false) (w : Nat) :
    let t := s.store n i w
    t.stWord (s.cellOf n) i = { val := w } ∧ (∀ j, j ≠ s.cellOf n * 512 + i % 512 → tabGet {} t.eng.st j = tabGet {} s.eng.st j) ∧
      t.eng.banks = s.eng.banks ∧ t.eng.accs = s.eng.accs ∧ t.regs = s.regs := by
  have hstore : s.store n i w =
      { s with eng := { s.eng with stsNow := (s.cellOf n * 512 + i % 512, n) :: s.eng.stsNow } }.setSt (s.cellOf n) i { val := w } :=
    if_neg (Bool.eq_false_iff.1 h)
  dsimp only
  rw [hstore]
  exact ⟨State.stWord_setSt_same .., fun j hj => tabGet_set_other _ _ _ _ hj, rfl, rfl, rfl⟩

/-- A store that meets a host word of the C-cycle leaves it, with COLLIDE_S (R174). -/
theorem State.store_collides {s : State} {n i : Nat} (h : s.eng.expNow.contains (s.cellOf n * 512 + i % 512) = true) (w : Nat) :
    (s.store n i w).eng.st = s.eng.st ∧ (s.store n i w).on (Reg.GRT_CTX_STATUS_COLLIDE_S (n % 128)) = true := by
  have hstore : s.store n i w =
      { s with eng := { s.eng with stsNow := (s.cellOf n * 512 + i % 512, n) :: s.eng.stsNow } }.raise
        (Reg.GRT_CTX_STATUS_COLLIDE_S (n % 128)) := if_pos h
  rw [hstore]
  exact ⟨rfl, State.on_raise_same _ rfl⟩

/-- What an input port gives does not change as the context moves on (R103). -/
theorem State.advance_inWord (s : State) (n p : Nat) : (s.advance n).inWord n p = s.inWord n p := by
  unfold State.inWord
  rw [State.advance_ctx_same]
  rfl

theorem State.inWord_snap {p : Nat} (h : p < 32) (s : State) (n : Nat) : s.inWord n p = tabGet navN s.eng.snap (n * 32 + p) := if_pos h

end Sys2Proof.Machine

/-- Settles O33: a sound read leaves the state, a poisoned one records itself, and a store goes by the host words of its C-cycle. -/
theorem loadsStoresAndInputs : Obligations.LoadsStoresAndInputs := by
  intro s c n o h
  refine ⟨fun hop hok => ?_, fun hop hok => ?_, fun hop hbad => ?_, fun hop hfree => ?_, fun hop hmet => ?_, fun hop hport => ?_,
    fun hop hport => ?_, fun hop hport => ?_⟩
  · refine State.issueOp_answers h hop _ ?_
    rw [State.readCoef_ok ((congrArg MWord.ecc (s.advance_coefWord n o.imm)).trans hok), State.advance_coefWord]
    exact .of_plain ..
  · refine State.issueOp_answers h hop _ ?_
    rw [State.readSt_ok (s := s.advance n) hok]
    exact .of_plain ..
  · refine State.issueOp_answers h hop _ ?_
    have hread := ReadsPoison.of_readSt (s := s.advance n) hbad
    exact ⟨by rw [hread.operand]; exact State.reg_setReg_same .., hread.pois, hread.address⟩
  · exact State.issueOp_answers h hop _ (State.store_free (s := s.advance n) hfree _)
  · exact State.issueOp_answers h hop _ (State.store_collides (s := s.advance n) hmet _)
  all_goals
    refine State.issueOp_answers h hop _ ?_
    rw [State.advance_inWord]
  · rw [State.inWord_snap hport]
    exact .of_plain ..
  · rw [hport]
    exact .of_plain ..
  · rw [hport]
    exact .of_plain ..

end

/-! The end of an execution, and the miss of a deadline. -/

section
open Sys2Proof Sys2Proof.Machine

namespace Sys2Proof.Machine

/-- A miss is counted outside the engine (R117, R120). -/
theorem State.countMiss_eng (s : State) (n : Nat) : (s.countMiss n).eng = s.eng := (s.countMiss_in n).frame .eng (by decide)

/-- A miss of the execution in progress marks its context and leaves the rest of the engine (R117). -/
theorem State.missExec_eng (s : State) (n : Nat) : ∃ r : CtxRun, r = { s.ctx n with missed := true } ∧
    ((s.missExec n).eng = s.eng ∧ s.ctx n = r ∨ (s.missExec n).eng = (s.setCtx n r).eng) := by
  unfold State.missExec
  refine ⟨_, rfl, ?_⟩
  split
  · next h => exact .inl ⟨rfl, by rw [← h]⟩
  · exact .inr (State.countMiss_eng ..)

/-- A missed execution is marked so, and its context is otherwise as it was (R117). -/
theorem State.missExec_ctx (s : State) (n : Nat) : (s.missExec n).ctx n = { s.ctx n with missed := true } := by
  obtain ⟨r, rfl, ⟨heng, hctx⟩ | heng⟩ := s.missExec_eng n
  · rw [State.ctx_congr heng]; exact hctx
  · rw [State.ctx_congr heng]; exact State.ctx_setCtx_same ..

/-- Two states agree on what an engine holds beside its contexts' records, its taps and its state memory. -/
structure SameBanks (s t : State) : Prop where
  banks : t.eng.banks = s.eng.banks
  accs : t.eng.accs = s.eng.accs
  cfgs : t.eng.cfgs = s.eng.cfgs

theorem SameBanks.refl (s : State) : SameBanks s s := ⟨rfl, rfl, rfl⟩

theorem SameBanks.trans {s t u : State} (h : SameBanks s t) (h' : SameBanks t u) : SameBanks s u :=
  ⟨h'.banks.trans h.banks, h'.accs.trans h.accs, h'.cfgs.trans h.cfgs⟩

theorem SameBanks.of_eng {s t : State} (h : t.eng = s.eng) : SameBanks s t := by
  constructor <;> rw [h]

theorem SameBanks.cellOf {s t : State} (h : SameBanks s t) (n : Nat) : t.cellOf n = s.cellOf n := by
  unfold State.cellOf State.cfg
  rw [h.cfgs]

theorem State.missExec_banks (s : State) (n : Nat) : SameBanks s (s.missExec n) ∧ (s.missExec n).eng.st = s.eng.st := by
  obtain ⟨r, -, ⟨heng, -⟩ | heng⟩ := s.missExec_eng n
  · exact ⟨.of_eng heng, by rw [heng]⟩
  · exact ⟨⟨by rw [heng]; rfl, by rw [heng]; rfl, by rw [heng]; rfl⟩, by rw [heng]; rfl⟩

/-- The corrections that wait land in state memory alone (R352). -/
theorem State.landCorr_eng (s : State) (n : Nat) :
    (s.landCorr n).eng = { s.eng with st := (s.landCorr n).eng.st } ∧ (s.landCorr n).regs = s.regs :=
  foldl_induct (P := fun u : State => u.eng = { s.eng with st := u.eng.st } ∧ u.regs = s.regs)
    (fun u _ ⟨heng, hregs⟩ => ⟨by unfold State.correct; rw [heng], hregs⟩) ⟨rfl, rfl⟩

/-- What a context leaves as its cell lets it go: it is idle, the cell free, and the banks and registers as they were. -/
structure Released (s t : State) (n : Nat) : Prop where
  idle : (t.ctx n).phase = .idle
  free : t.runs (s.cellOf n) = none
  banks : SameBanks s t
  regs : t.regs = s.regs

theorem Released.of_release (s : State) (n : Nat) : Released s (s.release n) n := by
  let r : CtxRun := { s.ctx n with phase := .idle, rep := none, boundary := true, doneTrig := (s.ctx n).trigAt }
  let u := (s.setCtx n r).setRuns (s.cellOf n) none
  have hrelease : s.release n = u.landCorr n := rfl
  obtain ⟨heng, hregs⟩ := u.landCorr_eng n
  have hctx : (u.landCorr n).ctx n = r := by
    unfold State.ctx
    rw [heng]
    exact State.ctx_setCtx_same ..
  have hruns : (u.landCorr n).runs (s.cellOf n) = none := by
    unfold State.runs
    rw [heng]
    exact (s.setCtx n r).runs_setRuns_same (s.cellOf n) none
  rw [hrelease]
  exact ⟨by rw [hctx], hruns, ⟨by rw [heng]; rfl, by rw [heng]; rfl, by rw [heng]; rfl⟩, hregs⟩

/-- A release after changes that leave the banks. -/
theorem Released.after {s t u : State} {n : Nat} (h : Released t u n) (hb : SameBanks s t) :
    (u.ctx n).phase = .idle ∧ u.runs (s.cellOf n) = none ∧ SameBanks s u :=
  ⟨h.idle, hb.cellOf n ▸ h.free, hb.trans h.banks⟩

/-- What the taps write: their queue and counters, TRDROP_CNT and TRGAP_S (R125, R127). -/
structure TapsOnly (s t : State) : Prop where
  engine : t.eng = { s.eng with tapQ := t.eng.tapQ, tapGap := t.eng.tapGap, tapCnt := t.eng.tapCnt }
  fields : OnlyFlds [Reg.GRT_TRACE_CNT_TRDROP_CNT, Reg.GRT_STATUS_TRGAP_S] s t

theorem TapsOnly.refl (s : State) : TapsOnly s s := ⟨rfl, .refl _ s⟩

theorem TapsOnly.trans {s t u : State} (h : TapsOnly s t) (h' : TapsOnly t u) : TapsOnly s u :=
  ⟨h'.engine.trans (by rw [h.engine]), h.fields.trans h'.fields⟩

theorem State.tapWord_state (s : State) (n src sel : Nat) : (s.tapWord n src sel).2.eng = s.eng ∧ (s.tapWord n src sel).2.regs = s.regs := by
  unfold State.tapWord
  split
  · exact ⟨rfl, rfl⟩
  · split <;> exact ⟨rfl, rfl⟩

theorem State.tapPush_taps (s : State) (c k n : Nat) : TapsOnly s (s.tapPush c k n) := by
  unfold State.tapPush
  split
  · obtain ⟨heng, hregs⟩ := s.tapWord_state n (s.fld (Reg.GRT_TAP_SRC c k)) (s.fld (Reg.GRT_TAP_SEL c k))
    exact ⟨by dsimp only; rw [heng], (OnlyFlds.refl _ s).same hregs⟩
  · exact ⟨rfl, (((OnlyFlds.refl _ s).count (by simp)).raise (by simp)).same rfl⟩

theorem State.taps_only (s : State) (n : Nat) : TapsOnly s (s.taps n) := by
  refine forIdx_induct (P := TapsOnly s) (fun k t ht => ht.trans ?_) (.refl s)
  have hcount (x : Tab Nat) : TapsOnly t { t with eng := { t.eng with tapCnt := x } } := ⟨rfl, fun _ _ => rfl⟩
  split
  · extract_lets i
    split
    · exact (hcount _).trans (State.tapPush_taps ..)
    · exact hcount _
  · exact .refl t

theorem TapsOnly.banks {s t : State} (h : TapsOnly s t) : SameBanks s t := by
  constructor <;> rw [h.engine]

theorem State.lastLen_state (s : State) (n : Nat) : (s.lastLen n).2.eng = s.eng ∧ (s.lastLen n).2.regs = s.regs := by
  unfold State.lastLen
  extract_lets r l
  split <;> exact ⟨rfl, rfl⟩

/-- The state of an execution at its END, once it has been judged (R116, R117). -/
def State.judged (s : State) (n : Nat) : State :=
  let s1 := if s.enabled n && decide ((s.ctx n).deadline < s.now) then s.missExec n else s
  if s.enabled n && !(s1.ctx n).missed then
    (s1.setCtx n { s1.ctx n with clrAt := s.now + 1, clrRun := s1.fld (Reg.GRT_CTX_STATUS_MISS_RUN (n % 128)) }).setFld
      (Reg.GRT_CTX_STATUS_MISS_RUN (n % 128)) 0
  else s1

/-- The state of a judged execution whose length and taps are recorded (R106, R125). -/
def State.endRecorded (s : State) (n : Nat) : State :=
  ((s.lastLen n).2.setFld (Reg.GRT_CTX_LEN_LAST (n % 128)) (s.lastLen n).1).taps n

theorem State.endExec_eq (s : State) (n : Nat) : s.endExec n = ((s.judged n).endRecorded n).release n := rfl

theorem State.judged_banks (s : State) (n : Nat) : SameBanks s (s.judged n) := by
  unfold State.judged
  extract_lets s1
  have h1 : SameBanks s s1 := by
    unfold s1
    split
    · exact (s.missExec_banks n).1
    · exact .refl s
  clear_value s1
  split
  · exact h1.trans ⟨rfl, rfl, rfl⟩
  · exact h1

/-- An execution on time leaves MISS_RUN at 0 (R116). -/
theorem State.judged_onTime {s : State} {n : Nat} (hen : s.enabled n = true) (htime : s.now ≤ (s.ctx n).deadline)
    (hmiss : (s.ctx n).missed = false) : (s.judged n).fld (Reg.GRT_CTX_STATUS_MISS_RUN (n % 128)) = 0 := by
  unfold State.judged
  extract_lets s1
  have h1 : s1 = s := if_neg (by rw [hen, decide_eq_false (not_lt.2 htime)]; exact Bool.false_ne_true)
  rw [h1, if_pos (by rw [hen, hmiss]; rfl)]
  exact State.fld_setFld_same ..

theorem State.endRecorded_banks (s : State) (n : Nat) : SameBanks s (s.endRecorded n) := by
  obtain ⟨heng, -⟩ := s.lastLen_state n
  have hset : SameBanks s ((s.lastLen n).2.setFld (Reg.GRT_CTX_LEN_LAST (n % 128)) (s.lastLen n).1) := .of_eng heng
  exact hset.trans (State.taps_only _ n).banks

theorem missRun_key_ne (m : Nat) (hm : m < 128) : ∀ f ∈ [Reg.GRT_TRACE_CNT_TRDROP_CNT, Reg.GRT_STATUS_TRGAP_S, Reg.GRT_CTX_LEN_LAST m],
    (Reg.GRT_CTX_STATUS_MISS_RUN m).key ≠ f.key := by
  simp [Fld.key, Reg.GRT_CTX_STATUS_MISS_RUN, Reg.GRT_TRACE_CNT_TRDROP_CNT, Reg.GRT_STATUS_TRGAP_S, Reg.GRT_CTX_LEN_LAST]
  omega

/-- The records of an END leave MISS_RUN. -/
theorem State.endRecorded_missRun (s : State) (n : Nat) :
    (s.endRecorded n).fld (Reg.GRT_CTX_STATUS_MISS_RUN (n % 128)) = s.fld (Reg.GRT_CTX_STATUS_MISS_RUN (n % 128)) := by
  have hkey := missRun_key_ne (n % 128) (Nat.mod_lt n (by decide))
  obtain ⟨-, hregs⟩ := s.lastLen_state n
  calc (s.endRecorded n).fld (Reg.GRT_CTX_STATUS_MISS_RUN (n % 128))
      = ((s.lastLen n).2.setFld (Reg.GRT_CTX_LEN_LAST (n % 128)) (s.lastLen n).1).fld (Reg.GRT_CTX_STATUS_MISS_RUN (n % 128)) :=
        (State.taps_only _ n).fields _ fun f hf => hkey f (by simp at hf ⊢; tauto)
    _ = (s.lastLen n).2.fld (Reg.GRT_CTX_STATUS_MISS_RUN (n % 128)) := State.fld_setFld_other _ _ (hkey _ (by simp))
    _ = s.fld (Reg.GRT_CTX_STATUS_MISS_RUN (n % 128)) := State.fld_congr hregs _

/-- What END does with its context, its cell and its banks (R102). -/
theorem State.endExec_shows (s : State) (n : Nat) : ((s.endExec n).ctx n).phase = .idle ∧ (s.endExec n).runs (s.cellOf n) = none ∧
    (s.endExec n).eng.banks = s.eng.banks ∧ (s.endExec n).eng.accs = s.eng.accs := by
  rw [State.endExec_eq]
  obtain ⟨hidle, hfree, hbanks⟩ := (Released.of_release ((s.judged n).endRecorded n) n).after
    ((s.judged_banks n).trans ((s.judged n).endRecorded_banks n))
  exact ⟨hidle, hfree, hbanks.banks, hbanks.accs⟩

theorem State.endExec_missRun (s : State) (n : Nat) :
    (s.endExec n).fld (Reg.GRT_CTX_STATUS_MISS_RUN (n % 128)) = (s.judged n).fld (Reg.GRT_CTX_STATUS_MISS_RUN (n % 128)) := by
  rw [State.endExec_eq, State.fld_congr (Released.of_release _ n).regs, State.endRecorded_missRun]

end Sys2Proof.Machine
end

/-! NOP, REP, FLAG and END. -/

section
open Sys2Proof Sys2Proof.Machine

namespace Sys2Proof.Machine

theorem State.Issues.code {s : State} {c n : Nat} {o : OpWord} (h : s.Issues c n o) : (s.curOp n).op = o.op := by rw [h.spells]

/-- REP opens a repetition behind itself (R105). -/
theorem nextPos_rep {o : OpWord} (h : o.op = opREP) (pc : Nat) (rep : Option RepRun) :
    nextPos o pc rep = (pc + 1, some ⟨pc + 1, o.a + 1, o.b, 0, o.imm % 256 + 1⟩, o.bounds) := if_pos h

/-- REP's own IMM is no address that a repetition steps (R105). -/
theorem stepImm_rep {o : OpWord} (h : o.op = opREP) (rep : Option RepRun) : stepImm o rep = o.imm := by
  unfold stepImm
  split
  · rfl
  · rw [h]; exact if_neg (by decide)

theorem State.advance_setCtx (s : State) (n : Nat) : s.advance n = s.setCtx n ((s.advance n).ctx n) := by
  rw [State.advance_ctx_same]
  rfl

/-- A repetition opens as REP issues (R105). -/
theorem State.advance_rep {s : State} {c n : Nat} {o : OpWord} (h : s.Issues c n o) (hop : o.op = opREP) :
    ((s.advance n).ctx n).pc = (s.ctx n).pc + 1 ∧
      ((s.advance n).ctx n).rep = some { start := (s.ctx n).pc + 1, len := o.a + 1, step := o.b, pass := 0, total := o.imm % 256 + 1 } := by
  have hcur : (s.curOp n).op = opREP := h.code.trans hop
  rw [State.advance_ctx_same, nextPos_rep hcur, h.spells, stepImm_rep hcur]
  exact ⟨rfl, rfl⟩

/-- FLAG sets its bit where the status destination has one W1C field that holds it (R102, R103, R436). -/
theorem State.flagBit_one {s : State} {n b : Nat} {r : RouteRec} {q : Row}
    (hr : ((s.routesOf n).filter fun r => r.srcKind == 3 && r.srcId == n % 128 && r.dstKind == 2) = [r])
    (hq : (rowsAt r.regAddr).find? (fun q => q.acc == .w1c && decide (q.lo ≤ b) && decide (b < q.lo + q.width)) = some q) :
    s.flagBit n b = s.raiseBit (q.fld r.regAddr) (b - q.lo) := by
  unfold State.flagBit
  rw [hr, List.foldl_cons, List.foldl_nil, hq]

end Sys2Proof.Machine

/-- Settles O35: each body is a move, one bit, or the END that judges, records and releases. -/
theorem controlOpsMoveOn : Obligations.ControlOpsMoveOn := by
  intro s c n o h
  have hissues {code : Nat} (hop : o.op = code) (body : Nat → OpWord → State → State) :
      (Host.Outcome.next (s.issueOp c code body) : Host.Outcome State Fault Refusal) = .next (body n o (s.advance n)) := by
    rw [← hop, State.issueOp_issues h]
  refine ⟨fun hop => ?_, fun hop => ?_, fun hop hzero => ?_, fun hop hbit r q hr hq => ?_, fun hop => ?_, fun hop hen htime hmiss => ?_⟩
  · exact hissues hop _
  · exact State.issueOp_answers h hop _ ⟨s.advance_setCtx n, State.advance_rep h hop⟩
  · exact (hissues hop _).trans (congrArg Host.Outcome.next (if_pos hzero))
  · exact (hissues hop _).trans (congrArg Host.Outcome.next ((if_neg hbit).trans (State.flagBit_one (s := s.advance n) hr hq)))
  · exact State.issueOp_answers h hop _ (State.endExec_shows (s.advance n) n)
  · refine State.issueOp_answers h hop _ ?_
    rw [State.endExec_missRun]
    refine State.judged_onTime (s := s.advance n) hen ?_ ?_
    · rw [State.advance_ctx_same]; exact htime
    · rw [State.advance_ctx_same]; exact hmiss

end

/-! FETCH, WAITF and FETCH_COMPLETE. -/

section
open Sys2Proof Sys2Proof.Machine

namespace Sys2Proof.Machine

section
variable {α : Type}

theorem tabDel_of_not_key {m : Tab α} {n : Nat} (h : ∀ e ∈ m, e.1 ≠ n) : tabDel m n = m := by
  induction m with
  | nil => rfl
  | cons e m ih =>
    obtain ⟨k, v⟩ := e
    rw [tabDel, if_neg (h (k, v) List.mem_cons_self), ih fun e he => h e (List.mem_cons_of_mem _ he)]

theorem tabDel_ins_same (m : Tab α) (n : Nat) (x : α) : tabDel (tabIns m n x) n = tabDel m n := by
  induction m with
  | nil => exact if_pos rfl
  | cons e m ih =>
    obtain ⟨k, v⟩ := e
    rw [tabIns]
    split
    · exact if_pos rfl
    · rw [tabDel, tabDel, ih]

/-- A key's entry goes, whatever stood there before. -/
theorem tabDel_set_same [DecidableEq α] (d : α) (m : Tab α) (n : Nat) (x : α) : tabDel (tabSet d m n x) n = tabDel m n := by
  have hdel : tabDel (tabDel m n) n = tabDel m n := tabDel_of_not_key (not_key_tabDel m n)
  unfold tabSet tabPut
  split
  · exact hdel
  · rw [tabDel_ins_same, hdel]

/-- Of two writes of one key the second stands. -/
theorem tabSet_set_same [DecidableEq α] (d : α) (m : Tab α) (n : Nat) (x y : α) : tabSet d (tabSet d m n x) n y = tabSet d m n y := by
  have hdel := tabDel_set_same d m n x
  rw [tabSet, tabPut, hdel]
  rfl

/-- An entry of a table after a write is the one written, or one of another key that stood before. -/
theorem mem_tabSet [DecidableEq α] {d : α} {m : Tab α} {n : Nat} {x : α} {e : Nat × α} (h : e ∈ tabSet d m n x) :
    e = (n, x) ∨ (e ∈ m ∧ e.1 ≠ n) := by
  have hold {e : Nat × α} (h : e ∈ tabDel m n) : e ∈ m ∧ e.1 ≠ n := ⟨(tabDel_sublist m n).subset h, not_key_tabDel m n e h⟩
  unfold tabSet tabPut at h
  split at h
  · exact .inr (hold h)
  · exact (mem_tabIns h).imp_right hold

end

theorem State.setCtx_setCtx (s : State) (n : Nat) (q r : CtxRun) : (s.setCtx n q).setCtx n r = s.setCtx n r := by
  unfold State.setCtx
  rw [tabSet_set_same]

@[simp] theorem State.ctx_setRuns (s : State) (c : Nat) (x : Option Nat) (n : Nat) : (s.setRuns c x).ctx n = s.ctx n := rfl

/-- The parts of a context that its move past an operation leaves (R104, R105). -/
theorem State.advance_ctx_keeps (s : State) (n : Nat) : ((s.advance n).ctx n).trigAt = (s.ctx n).trigAt ∧
    ((s.advance n).ctx n).faulted = (s.ctx n).faulted ∧ ((s.advance n).ctx n).phase = (s.ctx n).phase := by
  rw [State.advance_ctx_same]
  exact ⟨rfl, rfl, rfl⟩

theorem State.advance_fetching (s : State) (n : Nat) : (s.advance n).fetching n = s.fetching n := by
  unfold State.fetching
  rw [s.advance_ctx_keeps n |>.1]
  rfl

/-- A context that issues is running. -/
theorem State.Issues.running {s : State} {c n : Nat} {o : OpWord} (h : s.Issues c n o) : (s.ctx n).phase = .running := by
  have hissuer := h.issuer
  unfold State.issuer at hissuer
  split at hissuer
  · cases hissuer
  · next m _ =>
    split at hissuer
    · next hrun => exact Option.some.inj hissuer ▸ hrun.1
    · cases hissuer

/-- A fetch joins the work of its context's channel (R123). -/
theorem State.startFetch_joins {s : State} {n ch : Nat} (h : s.fetchCh n = some ch) (hrun : (s.dch ch).halted = false) (o : OpWord) :
    s.startFetch n o = s.setDch ch { s.dch ch with jobs := (s.dch ch).jobs ++
      [{ ctx := n, trigAt := (s.ctx n).trigAt, addr := s.reg n o.a, words := o.b + 1, dest := o.imm % 512 }] } := by
  unfold State.startFetch
  rw [h]
  exact if_neg (Bool.eq_false_iff.1 hrun)

/-- The three outcomes of WAITF (R123, R124). -/
theorem State.waitFetch_passes {s : State} {n : Nat} (hok : (s.ctx n).faulted = false) (hdone : s.fetching n = false) :
    s.waitFetch n = s.setCtx n { s.ctx n with boundary := true } := by
  unfold State.waitFetch
  exact (if_neg (Bool.eq_false_iff.1 hok)).trans (if_neg (Bool.eq_false_iff.1 hdone))

theorem State.waitFetch_waits {s : State} {n : Nat} (hok : (s.ctx n).faulted = false) (hbusy : s.fetching n = true) :
    s.waitFetch n = (s.setCtx n { s.ctx n with phase := .waiting, pausedAt := s.now, boundary := true }).setRuns (s.cellOf n) none := by
  unfold State.waitFetch
  exact (if_neg (Bool.eq_false_iff.1 hok)).trans (if_pos hbusy)

theorem State.waitFetch_faults {s : State} {n : Nat} (hbad : (s.ctx n).faulted = true) : s.waitFetch n = s.fetchFaultEnd n := by
  unfold State.waitFetch
  exact if_pos hbad

/-- With the last fetch of every channel gone, no context's fetch is pending. -/
theorem State.fetching_setDch_none {s : State} {c : Nat} {r : DmaCh} (hr : r.jobs = []) (hothers : ∀ e ∈ s.mem.ch, e.1 ≠ c → e.2.jobs = [])
    (n : Nat) : (s.setDch c r).fetching n = false := by
  refine List.any_eq_false.2 fun e he => ?_
  have hjobs : e.2.jobs = [] := by
    rcases mem_tabSet he with rfl | ⟨hmem, hne⟩
    · exact hr
    · exact hothers e hmem hne
  rw [hjobs]
  exact Bool.false_ne_true

theorem State.fetchDone_last {s : State} {c : Nat} {j : FetchJob} (hjobs : (s.dch c).jobs = [j]) (hall : j.words ≤ j.done)
    (hwait : (s.ctx j.ctx).phase = .waiting) (hothers : ∀ e ∈ s.mem.ch, e.1 ≠ c → e.2.jobs = []) :
    s.fetchDone c = (s.setDch c { s.dch c with jobs := [] }).setCtx j.ctx { s.ctx j.ctx with phase := .again, readyAt := s.now } := by
  unfold State.fetchDone
  rw [hjobs]
  exact (if_pos hall).trans (if_pos ⟨hwait, State.fetching_setDch_none rfl hothers j.ctx⟩)

end Sys2Proof.Machine

/-- Settles O36: the move of the context leaves what a fetch and WAITF go by, and the last fetch to complete leaves none pending. -/
theorem fetchAndWait : Obligations.FetchAndWait := by
  refine ⟨fun s c n o h => ?_, fun s c j hjobs hall hwait hothers _ => ?_⟩
  · obtain ⟨htrig, hfault, hphase⟩ := s.advance_ctx_keeps n
    refine ⟨fun hop ch hch hrun => ?_, fun hop hok hdone => ?_, fun hop hok hbusy => ?_, fun hop hbad => ?_⟩
    · have hissue : s.issueOp c opFETCH (fun n o t => t.startFetch n o) = (s.advance n).startFetch n o := by
        rw [← hop, State.issueOp_issues h]
      exact congrArg Host.Outcome.next (hissue.trans (by rw [State.startFetch_joins (s := s.advance n) hch hrun, htrig]; rfl))
    · refine State.issueOp_answers h hop _ ?_
      rw [State.waitFetch_passes (hfault.trans hok) (s.advance_fetching n |>.trans hdone), State.ctx_setCtx_same]
      refine ⟨?_, hphase.trans h.running, rfl⟩
      rw [s.advance_setCtx n, State.setCtx_setCtx, State.ctx_setCtx_same]
    · refine State.issueOp_answers h hop _ ?_
      rw [State.waitFetch_waits (hfault.trans hok) (s.advance_fetching n |>.trans hbusy), State.ctx_setRuns, State.ctx_setCtx_same]
      exact ⟨rfl, State.runs_setRuns_same .., rfl⟩
    · refine State.issueOp_answers h hop _ ?_
      rw [State.waitFetch_faults (hfault.trans hbad)]
      have hmiss := (((s.advance n).raise (Reg.GRT_CTX_STATUS_DMAF_S (n % 128))).missExec_banks n).1
      obtain ⟨hidle, hfree, -⟩ := (Released.of_release _ n).after hmiss
      exact ⟨hidle, hfree⟩
  · refine ⟨_, congrArg Host.Outcome.next (State.fetchDone_last hjobs hall hwait hothers), ?_, ?_, rfl⟩
    · exact congrArg DmaCh.jobs (State.dch_setDch_same s c _)
    · exact congrArg CtxRun.phase (State.ctx_setCtx_same (s.setDch c _) j.ctx _)

end

/-! Triggers, deadlines and the watchdog. -/

section
open Sys2Proof Sys2Proof.Machine

namespace Sys2Proof.Machine

/-- What a context that becomes ready shows (R107, R122): only its own record in the engine changes. -/
structure BeginsReady (s t : State) (n : Nat) : Prop where
  phase : (t.ctx n).phase = .ready
  trigAt : (t.ctx n).trigAt = s.now
  weight : cfgTrig (s.cfg n) = 3 → (t.ctx n).w = 0x10000000#32
  engine : t.eng = { s.eng with ctx := t.eng.ctx }

theorem BeginsReady.of_beginReady (s : State) (n : Nat) : BeginsReady s (s.beginReady n) n := by
  unfold State.beginReady
  extract_lets r one w t
  have heng : (if w.2 then t.raise (Reg.GRT_CTX_STATUS_TICKW_S (n % 128)) else t).eng = t.eng := by split <;> rfl
  have hctx : t.ctx n = _ := State.ctx_setCtx_same ..
  have hone (h : cfgTrig (s.cfg n) = 3) : w = (0x10000000, false) := if_pos (by simp [one, h])
  rw [← State.ctx_congr heng n] at hctx
  refine ⟨by rw [hctx], by rw [hctx], fun h => by rw [hctx, hone h], ?_⟩
  rw [heng]
  rfl

/-- A trigger of an enabled context that is idle and does not retire makes it ready (R107, R110). -/
theorem State.trigger_idle {s : State} {n : Nat} (hdef : cfgDefined (s.cfg n) = true) (hen : s.enabled n = true)
    (hret : s.stg.retire.contains n = false) (hidle : (s.ctx n).phase = .idle) : s.trigger n = s.beginReady n := by
  unfold State.trigger
  rw [hdef, hen, hret, if_neg (by decide), if_neg Bool.false_ne_true, if_pos hidle]

/-- A context that a timer triggers is defined (R107). -/
theorem State.defined_of_triggered {s : State} {trig src n : Nat} (h : n ∈ s.triggered trig src) : cfgDefined (s.cfg n) = true := by
  unfold State.triggered at h
  simp only [List.mem_filter, Bool.and_eq_true] at h
  exact h.2.1.1

/-- A timer at its due instant advances by its period and triggers its one context (R108). -/
theorem State.timerTick_due {s : State} {k n : Nat} (hper : s.fld (Reg.GRT_TMR_PERIOD k) ≠ 0) (hnow : s.now ≠ 0)
    (hdue : tabGet 0 s.eng.timerNext k = s.now) (hone : s.triggered 0 k = [n]) : s.timerTick k =
      { s with eng := { s.eng with timerNext := tabSet 0 s.eng.timerNext k (s.now + s.fld (Reg.GRT_TMR_PERIOD k)) } }.trigger n := by
  have hskip : ¬ (s.fld (Reg.GRT_TMR_PERIOD k) = 0 ∨ s.now = 0 ∨ s.now < s.now ∨ (s.now - s.now) % s.fld (Reg.GRT_TMR_PERIOD k) ≠ 0) := by
    simp [hper, hnow]
  unfold State.timerTick
  rw [hdue]
  refine (if_neg hskip).trans ?_
  unfold State.triggerAll
  exact congrArg (List.foldl State.trigger _) hone

theorem State.enabled_noteWrite (s : State) (p : Port) (a n : Nat) : (s.noteWrite p a).enabled n = s.enabled n := by
  unfold State.enabled State.on
  rw [s.noteWrite_fld p a (ctxEn_key_ne_portcol n)]

/-- A deadline that passes marks the execution as missed, and leaves the rest of the engine (R117). -/
theorem State.deadlineExpiry_misses {s : State} {n : Nat} (hbusy : (s.ctx n).phase ≠ .idle) (hlate : (s.ctx n).deadline < s.now)
    (hen : s.enabled n = true) : s.deadlineExpiry n = s.missExec n := if_pos ⟨hbusy, hlate, hen⟩

/-- The first miss that the watchdog counts, 1.5 × TICK_NOM after the last trigger (R119). -/
theorem State.watchdog_first {s : State} {n f : Nat} (hlast : (s.ctx n).lastTrig = some f) (hdef : cfgDefined (s.cfg n) = true)
    (hen : s.enabled n = true) (htrig : cfgTrig (s.cfg n) = 2) (hnom : s.tickNom n ≠ 0) (hnone : (s.ctx n).wdMisses = 0)
    (hdue : 2 * f + 3 * s.tickNom n ≤ 2 * s.now) :
    s.watchdog n = ((s.setCtx n { s.ctx n with wdMisses := (s.ctx n).wdMisses + 1 }).raise (Reg.GRT_CTX_STATUS_TRGLOST_S n)).countMiss n := by
  unfold State.watchdog
  extract_lets r nom watched
  have hwatched : watched = true := by simp [watched, hdef, hen, htrig]
  have hr : r.wdMisses = 0 := hnone
  split
  · next h => cases hlast.symm.trans h
  · next t h =>
    obtain rfl : f = t := Option.some.inj (hlast.symm.trans h)
    have hpast : (watched && nom != 0 && decide (2 * f + 3 * nom + 2 * r.wdMisses * nom ≤ 2 * s.now)) = true := by
      simp [hwatched, hr, nom, hnom, hdue]
    rw [if_pos hpast, if_pos hr]

end Sys2Proof.Machine

/-- Settles O37: a trigger of an idle context begins it, and a miss is counted outside the engine. -/
theorem triggersMakeContextsReady : Obligations.TriggersMakeContextsReady := by
  refine ⟨fun s k n hper hnow hdue hfirst hone hen hret hidle => ?_, fun s p n h hdef htrig hen hret hidle => ?_, fun s p n h htrig => ?_,
    fun s n hbusy hlate hen => ?_, fun s n f hlast hdef hen htrig hnom hnone hdue => ?_⟩
  · have hdef := State.defined_of_triggered (hone ▸ List.mem_singleton_self n)
    refine ⟨_, congrArg Host.Outcome.next ((if_neg (Bool.eq_false_iff.1 hfirst)).trans ((State.timerTick_due hper hnow hdue hone).trans
      (State.trigger_idle (s := { s with eng := { s.eng with timerNext := _ } }) hdef hen hret hidle))), ?_⟩
    obtain ⟨hphase, htrig, -, heng⟩ := BeginsReady.of_beginReady
      { s with eng := { s.eng with timerNext := tabSet 0 s.eng.timerNext k (s.now + s.fld (Reg.GRT_TMR_PERIOD k)) } } n
    refine ⟨?_, hphase, htrig, ?_⟩
    · rw [heng]; exact tabGet_set_same ..
    · rw [heng]
  · have heng := s.noteWrite_eng p addrKick
    have hkick : (s.noteWrite p addrKick).kick p n = (s.noteWrite p addrKick).trigger n :=
      if_pos (by rw [State.cfg_congr heng, hdef, htrig]; rfl)
    have htrigger : (s.noteWrite p addrKick).trigger n = (s.noteWrite p addrKick).beginReady n := by
      refine State.trigger_idle ?_ ((s.enabled_noteWrite ..).trans hen) ?_ ?_
      · rw [State.cfg_congr heng]; exact hdef
      · rw [State.noteWrite_stg]; exact hret
      · rw [State.ctx_congr heng]; exact hidle
    obtain ⟨hphase, hat, hweight, -⟩ := BeginsReady.of_beginReady (s.noteWrite p addrKick) n
    exact ⟨_, congrArg Host.Outcome.next ((State.portCmd_takes h _ _).trans (hkick.trans htrigger)), hphase,
      hweight (by rw [State.cfg_congr heng]; exact htrig), hat.trans (s.noteWrite_now ..)⟩
  · refine congrArg Host.Outcome.next ((State.portCmd_takes h _ _).trans (if_neg ?_))
    rw [State.cfg_congr (s.noteWrite_eng ..)]
    simp [htrig]
  · obtain ⟨hbanks, hst⟩ := s.missExec_banks n
    refine ⟨_, congrArg Host.Outcome.next (State.deadlineExpiry_misses hbusy hlate hen), ?_⟩
    rw [State.missExec_ctx]
    exact ⟨rfl, rfl, hbanks.banks, hst⟩
  · refine ⟨_, congrArg Host.Outcome.next (State.watchdog_first hlast hdef hen htrig hnom hnone hdue), ?_⟩
    have heng := State.countMiss_eng
      ((s.setCtx n { s.ctx n with wdMisses := (s.ctx n).wdMisses + 1 }).raise (Reg.GRT_CTX_STATUS_TRGLOST_S n)) n
    have hctx := (State.ctx_congr heng n).trans (State.ctx_setCtx_same s n _)
    rw [hctx, heng, hnone]
    exact ⟨rfl, rfl, rfl⟩

end

/-! Dispatch and pre-emption. -/

section
open Sys2Proof Sys2Proof.Machine

namespace Sys2Proof.Machine

/-- The port words go by the routes, the register fields and the input ports. -/
theorem State.portWord_congr {s t : State} (hstg : t.stg = s.stg) (hregs : t.regs = s.regs) (hports : t.eng.inPorts = s.eng.inPorts) (n q : Nat) :
    t.portWord n q = s.portWord n q := by
  unfold State.portWord State.routesOf State.plainWord
  simp only [State.fld_congr hregs, hstg, hports]

/-- What the snapshot of a context's input ports changes (R109). -/
structure Snapped (s t : State) : Prop where
  engine : t.eng = { s.eng with snap := t.eng.snap }
  regs : t.regs = s.regs
  stg : t.stg = s.stg

theorem Snapped.portWord {s t : State} (h : Snapped s t) (n q : Nat) : t.portWord n q = s.portWord n q :=
  State.portWord_congr h.stg h.regs (by rw [h.engine]) n q

/-- One input port's word in the snapshot of a context (R109). -/
def State.takePort (n p : Nat) (t : State) : State :=
  { t with eng := { t.eng with snap := tabSet navN t.eng.snap (n * 32 + p) (t.portWord n p) } }

/-- The ports that a snapshot has reached show their words as they stand (R109). -/
theorem State.takePorts_show (s : State) (n m : Nat) : Snapped s (forIdx m (State.takePort n) s) ∧
    ∀ q, q < m → tabGet navN (forIdx m (State.takePort n) s).eng.snap (n * 32 + q) = s.portWord n q := by
  induction m with
  | zero => exact ⟨⟨rfl, rfl, rfl⟩, fun q hq => absurd hq (Nat.not_lt_zero q)⟩
  | succ m ih =>
    obtain ⟨hkept, htaken⟩ := ih
    rw [forIdx_succ]
    generalize forIdx m (State.takePort n) s = u at hkept htaken
    have heng : (State.takePort n m u).eng = { u.eng with snap := tabSet navN u.eng.snap (n * 32 + m) (u.portWord n m) } := rfl
    refine ⟨⟨by rw [heng, hkept.engine], hkept.regs, hkept.stg⟩, fun q hq => ?_⟩
    rw [heng]
    rcases Nat.lt_succ_iff_lt_or_eq.1 hq with hlt | rfl
    · exact (tabGet_set_other _ _ _ _ (by omega)).trans (htaken q hlt)
    · exact (tabGet_set_same ..).trans (hkept.portWord n q)

theorem State.snapshot_shows (s : State) (n : Nat) : Snapped s (s.snapshot n) ∧
    ∀ q, q < 32 → tabGet navN (s.snapshot n).eng.snap (n * 32 + q) = s.portWord n q := s.takePorts_show n 32

theorem State.keepOwn_frame (s : State) (n : Nat) : (s.keepOwn n).eng = s.eng ∧ (s.keepOwn n).regs = s.regs ∧ (s.keepOwn n).stg = s.stg := by
  unfold State.keepOwn
  split <;> exact ⟨rfl, rfl, rfl⟩

theorem State.bumpless_none {s : State} {n : Nat} (h : (s.ctx n).bump = false) : s.bumpless n = s := if_neg (Bool.eq_false_iff.1 h)

/-- A context starts on its cell at the entry of its program, with its ports taken (R109, R114). -/
structure Starts (s t : State) (n : Nat) : Prop where
  runs : t.runs (s.cellOf n) = some n
  phase : (t.ctx n).phase = .running
  entry : (t.ctx n).pc = cfgEntry (s.cfg n)
  banks : t.eng.banks = s.eng.banks
  regs : t.regs = s.regs
  ports : ∀ q, q < 32 → tabGet navN t.eng.snap (n * 32 + q) = s.portWord n q

theorem Starts.of_startCtx {s : State} {n : Nat} (hbump : (s.ctx n).bump = false) : Starts s (s.startCtx n) n := by
  unfold State.startCtx
  extract_lets _ s0 s1
  obtain ⟨hkeng, hkregs, hkstg⟩ := s0.keepOwn_frame n
  obtain ⟨hsnap, hports⟩ := (s0.keepOwn n).snapshot_shows n
  have heng : ((s0.keepOwn n).snapshot n).eng = { s0.eng with snap := ((s0.keepOwn n).snapshot n).eng.snap } := by
    rw [hsnap.engine, hkeng]
  have hctx : ((s0.keepOwn n).snapshot n).ctx n = { s.ctx n with old := false } := by
    unfold State.ctx
    rw [heng]
    exact State.ctx_setCtx_same s n _
  have hs1 : s1 = (s0.keepOwn n).snapshot n := State.bumpless_none (by rw [hctx]; exact hbump)
  have hcfg : s1.cfg n = s.cfg n := by
    rw [hs1]
    unfold State.cfg
    rw [heng]
    rfl
  have hcell : s1.cellOf n = s.cellOf n := congrArg cfgCell hcfg
  have hregs : s1.regs = s.regs := by rw [hs1, hsnap.regs, hkregs]; rfl
  have hbanks : s1.eng.banks = s.eng.banks := by rw [hs1, heng]; rfl
  have hport (q : Nat) : (s0.keepOwn n).portWord n q = s.portWord n q := State.portWord_congr hkstg hkregs (by rw [hkeng]) n q
  have htaken (q : Nat) (hq : q < 32) : tabGet navN s1.eng.snap (n * 32 + q) = s.portWord n q := by
    rw [hs1]
    exact (hports q hq).trans (hport q)
  clear_value s1
  rw [hcell, hcfg]
  refine ⟨State.runs_setRuns_same .., ?_, ?_, hbanks, hregs, htaken⟩
  · rw [State.ctx_setRuns, State.ctx_setCtx_same]
  · rw [State.ctx_setRuns, State.ctx_setCtx_same]

/-- A table lists what it reads, where it does not read its default. -/
theorem mem_of_tabFind {α : Type} {m : Tab α} {n : Nat} {x : α} (h : tabFind m n = some x) : (n, x) ∈ m := by
  induction m with
  | nil => cases h
  | cons e m ih =>
    obtain ⟨k, v⟩ := e
    rw [tabFind] at h
    split at h
    · next hk => exact hk ▸ Option.some.inj h ▸ List.mem_cons_self
    · exact List.mem_cons_of_mem _ (ih h)

theorem State.mem_inPhase {s : State} {c n : Nat} {p : Phase} : n ∈ s.inPhase c p ↔ s.cellOf n = c ∧ ∃ r, (n, r) ∈ s.eng.ctx ∧ r.phase = p := by
  unfold State.inPhase
  simp only [List.mem_map, List.mem_filter, Bool.and_eq_true, beq_iff_eq, Prod.exists]
  constructor
  · rintro ⟨m, r, ⟨hmem, hphase, hcell⟩, rfl⟩
    exact ⟨hcell, r, hmem, hphase⟩
  · rintro ⟨hcell, r, hmem, hphase⟩
    exact ⟨n, r, ⟨hmem, hphase, hcell⟩, rfl⟩

/-- With no context of a cell in a phase, the cell's contexts are in others. -/
theorem State.phase_ne {s : State} {c n : Nat} {p : Phase} (hnone : s.inPhase c p = []) (hcell : s.cellOf n = c) (hp : p ≠ .idle) :
    (s.ctx n).phase ≠ p := by
  intro hphase
  unfold State.ctx tabGet at hphase
  cases hfind : tabFind s.eng.ctx n with
  | none => rw [hfind] at hphase; exact hp hphase.symm
  | some r =>
    rw [hfind] at hphase
    have hmem : n ∈ s.inPhase c p := State.mem_inPhase.2 ⟨hcell, r, mem_of_tabFind hfind, hphase⟩
    rw [hnone] at hmem
    cases hmem

/-- No bank of a cell is held where no context of the cell is pre-empted, waits or is ready again (R111, R123). -/
theorem State.bankHeld_none {s : State} {c : Nat} (hpre : s.inPhase c .preempted = []) (hwait : s.inPhase c .waiting = [])
    (hagain : s.inPhase c .again = []) (lvl : Nat) : s.bankHeld c lvl = false := by
  refine List.any_eq_false.2 fun ⟨m, r⟩ hmem => ?_
  have hnot {p : Phase} (hnone : s.inPhase c p = []) : ¬ (r.phase = p ∧ s.cellOf m = c) := fun ⟨hp, hcell⟩ => by
    have := State.mem_inPhase.2 ⟨hcell, r, hmem, hp⟩
    rw [hnone] at this
    cases this
  have h1 := hnot hpre
  have h2 := hnot hwait
  have h3 := hnot hagain
  simp only [Bool.and_eq_true, Bool.or_eq_true, beq_iff_eq]
  tauto

/-- A free cell starts its one ready context, where nothing else waits on it (R111, R112). -/
theorem State.dispatch_one {s : State} {c n : Nat} (hfree : s.runs c = none) (hready : s.inPhase c .ready = [n])
    (hpre : s.inPhase c .preempted = []) (hwait : s.inPhase c .waiting = []) (hagain : s.inPhase c .again = []) (hcell : s.cellOf n = c) :
    s.dispatch c = s.startCtx n := by
  unfold State.dispatch
  rw [hfree, hready, hpre, hagain]
  have hheld : [n].filter (fun m => !s.bankHeld c (s.prio m)) = [n] := by
    simp [State.bankHeld_none hpre hwait hagain]
  rw [hheld]
  exact if_neg (State.phase_ne hagain hcell (by decide))

/-- A running context at a boundary gives way to a ready one of a higher level (R112). -/
theorem State.preempt_gives {s : State} {c n : Nat} (hruns : s.runs c = some n) (hbound : (s.ctx n).boundary = true)
    (hhigher : s.higherReady n = true) :
    s.preempt c = (s.setCtx n { s.ctx n with phase := .preempted, pausedAt := s.now }).setRuns c none := by
  unfold State.preempt
  rw [hruns]
  exact if_pos (by rw [hbound, hhigher]; rfl)

theorem State.preempt_keeps {s : State} {c n : Nat} (hruns : s.runs c = some n) (hnot : (s.ctx n).boundary = false ∨ s.higherReady n = false) :
    s.preempt c = s := by
  unfold State.preempt
  rw [hruns]
  exact if_neg (by rcases hnot with h | h <;> simp [h])

end Sys2Proof.Machine

/-- Settles O38: nothing holds a bank of the free cell, and a start takes the ports before it changes anything else that they show. -/
theorem dispatchAndPreemption : Obligations.DispatchAndPreemption := by
  refine ⟨fun s c n hfree hready hpre hwait hagain hcell hbump hfirst => ?_, fun s c n hruns hbound hhigher => ?_, fun s c n hruns hnot => ?_⟩
  · obtain ⟨hruns, hphase, hentry, hbanks, hregs, hports⟩ := Starts.of_startCtx hbump
    exact ⟨_, congrArg Host.Outcome.next ((if_neg (Bool.eq_false_iff.1 hfirst)).trans
      (State.dispatch_one hfree hready hpre hwait hagain hcell)), hcell ▸ hruns, hphase, hentry, hbanks, hregs, hports⟩
  · refine ⟨_, congrArg Host.Outcome.next (State.preempt_gives hruns hbound hhigher), State.runs_setRuns_same .., ?_⟩
    rw [State.ctx_setRuns, State.ctx_setCtx_same]
    exact ⟨rfl, rfl, rfl⟩
  · exact congrArg Host.Outcome.next (State.preempt_keeps hruns hnot)

end

/-! The words of cell memory: write-back, sweep, mirror and expert writes. -/

section
open Sys2Proof Sys2Proof.Machine

namespace Sys2Proof.Machine

/-! ECC_WRITEBACK and the sweep. -/

theorem State.memWord_setMem_same (s : State) (c : Nat) (m : CellMem) (stg : Bool) (i : Nat) (w : MWord) :
    (s.setMem c m stg i w).memWord c m stg i = w := by
  cases m with
  | coef => cases stg <;> exact tabGet_set_same _ _ _ _
  | st => exact State.stWord_setSt_same ..
  | bun => cases stg <;> exact tabGet_set_same _ _ _ _

theorem State.setMem_regs (s : State) (c : Nat) (m : CellMem) (stg : Bool) (i : Nat) (w : MWord) : (s.setMem c m stg i w).regs = s.regs := by
  cases m <;> cases stg <;> rfl

theorem State.oldBack_regs (s : State) (c : Nat) (m : CellMem) (i : Nat) : (s.oldBack c m i).regs = s.regs := by
  cases m <;> rfl

/-- The record that a read has found an error in a word ends (R94). -/
def State.endFound (s : State) (id : Nat) : State := { s with eng := { s.eng with found := s.eng.found.filter (· != id) } }

theorem State.memWord_endFound (s : State) (id c : Nat) (m : CellMem) (stg : Bool) (i : Nat) :
    (s.endFound id).memWord c m stg i = s.memWord c m stg i := by
  cases m <;> rfl

theorem State.endFound_found (s : State) (id : Nat) : (s.endFound id).eng.found.contains id = false := by
  simp [State.endFound]

theorem State.eccWriteback_eq {s : State} {c : Nat} {m : CellMem} {stg : Bool} {i : Nat}
    (hfound : s.eng.found.contains (foundId (memAddr c m i) (stg && m != .st)) = true) (hsingle : (s.memWord c m stg i).ecc = .single) :
    s.eccWriteback c m stg i = ((if stg then s.oldBack c m i else s).setMem c m stg i { s.memWord c m stg i with ecc := .ok }).endFound
      (foundId (memAddr c m i) (stg && m != .st)) := by
  have hok : (s.memWord c m stg i).ecc ≠ .bad := by rw [hsingle]; exact Ecc.noConfusion
  unfold State.eccWriteback
  refine (if_pos hfound).trans ((if_neg hok).trans ?_)
  exact congrArg (State.endFound · _) (if_pos hsingle)

/-- A corrected word is written back, and its record ends (R94). -/
theorem State.eccWriteback_single {s : State} {c : Nat} {m : CellMem} {stg : Bool} {i : Nat}
    (hfound : s.eng.found.contains (foundId (memAddr c m i) (stg && m != .st)) = true) (hsingle : (s.memWord c m stg i).ecc = .single) :
    let t := s.eccWriteback c m stg i
    t.memWord c m stg i = { val := (s.memWord c m stg i).val, ecc := .ok } ∧
      t.eng.found.contains (foundId (memAddr c m i) (stg && m != .st)) = false ∧ t.regs = s.regs := by
  have hregs : (if stg then s.oldBack c m i else s).regs = s.regs := by
    split
    · exact s.oldBack_regs c m i
    · rfl
  dsimp only
  rw [State.eccWriteback_eq hfound hsingle, State.memWord_endFound, State.memWord_setMem_same]
  exact ⟨rfl, State.endFound_found .., (State.setMem_regs ..).trans hregs⟩

theorem State.eccWriteback_none {s : State} {c : Nat} {m : CellMem} {stg : Bool} {i : Nat}
    (h : s.eng.found.contains (foundId (memAddr c m i) (stg && m != .st)) = false) : s.eccWriteback c m stg i = s :=
  if_neg (Bool.eq_false_iff.1 h)

theorem State.sweepRead_on {s : State} (h : s.on Reg.GRT_CTRL_SWEEP_EN = true) (c : Nat) (m : CellMem) (stg : Bool) (i : Nat) :
    s.sweepRead c m stg i = s.eccRead c (memAddr c m i) (stg && m != .st) (s.memWord c m stg i) := if_pos h

/-! MIRROR_REPAIR. -/

/-- A pattern without an error is clean, with or without a marked die (R284, R287). -/
theorem verdict_zero (lost : Option Nat) : verdict lost 0 = .clean 0 := by
  cases lost <;> rfl

/-- The decoder leaves a beat without an error as it is (R284). -/
theorem State.judge_clean {s : State} {b : Nat} (h : tabGet 0 s.mem.flips b = 0) : s.judge b = (s, 0, s.mem.plist.contains (b / 8)) := by
  unfold State.judge
  dsimp only
  rw [h, verdict_zero]

/-- A beat of a listed block is poisoned, whatever the decoder finds (R289). -/
theorem State.judge_listed {s : State} {b : Nat} (h : s.mem.plist.contains (b / 8) = true) : (s.judge b).2.2 = true := by
  unfold State.judge
  dsimp only
  split
  · exact h
  · exact h
  · rfl

theorem State.wordBad_coef {s : State} {c i : Nat} (h : (tabGet {} s.eng.coef (c * 1024 + i % 1024)).ecc = .bad) :
    s.wordBad c false false i = true := decide_eq_true h

/-- A repair that may run goes by the verdict on the mirror word (R95, R290). -/
theorem State.mirrorRepair_runs {s : State} {c i : Nat} (hbad : (tabGet {} s.eng.coef (c * 1024 + i % 1024)).ecc = .bad)
    (hready : s.coreReady (s.mirrorAddr c false false i) 4 = true)
    (hfound : s.eng.found.contains (foundId (coefAddr c (i % 1024)) false) = true) (soft : Bool) :
    s.mirrorRepair c false false i soft =
      let m := if soft then (s.coreDone.noteUe (s.mirrorAddr c false false i / 8), true) else s.coreDone.mirrorRead c false false i
      if m.2 then m.1.raise Reg.MEM_STATUS_MIRUE_S else m.1.mirrorFix c false false i := by
  unfold State.mirrorRepair
  refine (if_neg ?_).trans (if_neg (by rw [hready]; decide))
  rw [State.wordBad_coef hbad]
  exact fun h => h.elim (by decide) fun h => Bool.false_ne_true (h.symm.trans hfound)

/-- A poisoned coefficient word takes the value of its mirror word (R95), and no other word changes. -/
theorem State.mirrorFix_coef {s : State} {c i : Nat} (hbad : (tabGet {} s.eng.coef (c * 1024 + i % 1024)).ecc = .bad) :
    let t := s.mirrorFix c false false i
    tabGet {} t.eng.coef (c * 1024 + i % 1024) = { val := (tabGet {} s.eng.coef (c * 1024 + i % 1024)).val, ecc := .ok } ∧
      t.regs = s.regs ∧ ∀ k, k ≠ c * 1024 + i % 1024 → tabGet {} t.eng.coef k = tabGet {} s.eng.coef k := by
  have hfix : (s.mirrorFix c false false i).eng.coef = tabSet {} s.eng.coef (c * 1024 + i % 1024)
      { tabGet {} s.eng.coef (c * 1024 + i % 1024) with ecc := .ok } := if_pos hbad
  dsimp only
  rw [hfix]
  exact ⟨tabGet_set_same .., rfl, fun k hk => tabGet_set_other _ _ _ _ hk⟩

/-- With a sound mirror word the repair restores the word (R95). -/
theorem State.mirrorRepair_restores {s : State} {c i : Nat} (hbad : (tabGet {} s.eng.coef (c * 1024 + i % 1024)).ecc = .bad)
    (hready : s.coreReady (s.mirrorAddr c false false i) 4 = true)
    (hfound : s.eng.found.contains (foundId (coefAddr c (i % 1024)) false) = true)
    (hclean : tabGet 0 s.mem.flips (s.mirrorAddr c false false i / 8) = 0)
    (hfree : s.mem.plist.contains (s.mirrorAddr c false false i / 8 / 8) = false) :
    s.mirrorRepair c false false i false = s.coreDone.mirrorFix c false false i := by
  have hread : s.coreDone.mirrorRead c false false i = (s.coreDone, false) := by
    have hjudge := State.judge_clean (s := s.coreDone) (b := s.coreDone.mirrorAddr c false false i / 8) hclean
    unfold State.mirrorRead
    dsimp only
    rw [hjudge]
    exact congrArg (Prod.mk _) hfree
  rw [State.mirrorRepair_runs hbad hready hfound, if_neg Bool.false_ne_true, hread]
  rfl

/-- With a poisoned mirror word the repair records it and leaves the engine (R290). -/
theorem State.mirrorRepair_poisoned {s : State} {c i : Nat} (hbad : (tabGet {} s.eng.coef (c * 1024 + i % 1024)).ecc = .bad)
    (hready : s.coreReady (s.mirrorAddr c false false i) 4 = true)
    (hfound : s.eng.found.contains (foundId (coefAddr c (i % 1024)) false) = true) {soft : Bool}
    (hmirror : soft = true ∨ s.mem.plist.contains (s.mirrorAddr c false false i / 8 / 8) = true) :
    (s.mirrorRepair c false false i soft).on Reg.MEM_STATUS_MIRUE_S = true ∧ (s.mirrorRepair c false false i soft).eng = s.eng := by
  have hbeat : ∃ u : State, u.eng = s.eng ∧
      (if soft then (s.coreDone.noteUe (s.mirrorAddr c false false i / 8), true) else s.coreDone.mirrorRead c false false i) = (u, true) := by
    cases soft with
    | true => exact ⟨_, (State.noteUe_in s.coreDone _).frame .eng (by decide), if_pos rfl⟩
    | false =>
      have hlisted := State.judge_listed (s := s.coreDone) (hmirror.resolve_left Bool.false_ne_true)
      exact ⟨_, (State.judge_in s.coreDone _).frame .eng (by decide), congrArg (Prod.mk _) hlisted⟩
  obtain ⟨u, heng, hu⟩ := hbeat
  rw [State.mirrorRepair_runs hbad hready hfound, hu]
  exact ⟨State.on_raise_same u rfl, heng⟩

/-! Expert writes. -/

theorem State.stagedOwn_noteWrite (s : State) (p : Port) (a c i : Nat) (m : CellMem) : (s.noteWrite p a).stagedOwn c i m = s.stagedOwn c i m := by
  unfold State.stagedOwn State.stgState
  rw [State.noteWrite_stg, s.noteWrite_fld p a (by decide)]

theorem State.cellInUse_noteWrite (s : State) (p : Port) (a c : Nat) : (s.noteWrite p a).cellInUse c = s.cellInUse c := by
  have heng := s.noteWrite_eng p a
  unfold State.cellInUse State.cellOf State.cfg State.on
  rw [heng]
  simp only [s.noteWrite_fld p a (ctxEn_key_ne_portcol _)]

/-- A rewrite of a mirror word leaves the engine (R95, R289). -/
theorem State.mirrorWrite_eng (s : State) (c : Nat) (bun stg : Bool) (i : Nat) : (s.mirrorWrite c bun stg i).eng = s.eng :=
  (s.mirrorWrite_in c bun stg i).frame .eng (by decide)

theorem coefOffset {c i o : Nat} (ho : o = c * 0x2000 + i) (hi : i < 1024) : (0x100000 + 4 * o - 0x100000) / 0x8000 = c ∧
    (0x100000 + 4 * o - 0x100000) % 0x8000 < 0x1000 ∧ (0x100000 + 4 * o - 0x100000) % 0x8000 / 4 = i := by omega

theorem bundleOffset {c i o : Nat} (ho : o = c * 0x2000 + 0x800 + i) (hi : i < 512) : (0x100000 + 4 * o - 0x100000) / 0x8000 = c ∧
    0x2000 ≤ (0x100000 + 4 * o - 0x100000) % 0x8000 ∧ (0x100000 + 4 * o - 0x100000) % 0x8000 < 0x2800 := by omega

/-- An expert write of a coefficient word that the host supplies lands in both copies, and their mirror words are rewritten (R170). -/
theorem State.expertCell_coef {s : State} {c i o : Nat} (ho : o = c * 0x2000 + i) (hi : i < 1024) (hexp : s.expertStart = true)
    (hown : s.stagedOwn c i .coef = false) (p : Port) (w : Nat) : s.expertCell p (0x100000 + 4 * o) w =
      ((((s.setMem c .coef false i { val := w }).mirrorWrite c false false i).setMem c .coef true i { val := w }).mirrorWrite c false true i) := by
  obtain ⟨hc, hlow, hword⟩ := coefOffset ho hi
  unfold State.expertCell
  dsimp only
  rw [hexp, hc, hword, if_neg (by decide), if_pos hlow, hown]
  rfl

/-- An expert write in bundle memory of a cell that an enabled context uses is refused (R96). -/
theorem State.expertCell_inUse {s : State} {c i o : Nat} (ho : o = c * 0x2000 + 0x800 + i) (hi : i < 512) (hexp : s.expertStart = true)
    (huse : s.cellInUse c = true) (p : Port) (w : Nat) :
    s.expertCell p (0x100000 + 4 * o) w = s.refuse p (0x100000 + 4 * o) := by
  obtain ⟨hc, hlow, hhigh⟩ := bundleOffset ho hi
  unfold State.expertCell
  rw [hexp, hc, if_neg (by decide), if_neg (by omega), if_neg (by omega), if_pos ⟨hlow, hhigh⟩]
  exact if_pos huse

/-- What an expert write of a coefficient word leaves in the engine. -/
theorem State.expertCell_coef_shows (s : State) (c i w : Nat) :
    let t := (((s.setMem c .coef false i { val := w }).mirrorWrite c false false i).setMem c .coef true i { val := w }).mirrorWrite c false true i
    t.memWord c .coef false i = { val := w } ∧ t.memWord c .coef true i = { val := w } ∧ t.eng.st = s.eng.st ∧ t.eng.banks = s.eng.banks := by
  extract_lets t
  have heng : t.eng = { s.eng with coef := tabSet {} s.eng.coef (c * 1024 + i % 1024) { val := w },
                                   coefStg := tabSet {} s.eng.coefStg (c * 1024 + i % 1024) { val := w } } := by
    have hset (u : State) : (u.setMem c .coef true i { val := w }).eng =
        { u.eng with coefStg := tabSet {} u.eng.coefStg (c * 1024 + i % 1024) { val := w } } := rfl
    rw [State.mirrorWrite_eng, hset, State.mirrorWrite_eng]
    rfl
  have hcoef (stg : Bool) : t.memWord c .coef stg i = tabGet {} (if stg then t.eng.coefStg else t.eng.coef) (c * 1024 + i % 1024) := rfl
  rw [hcoef, hcoef, heng]
  exact ⟨tabGet_set_same .., tabGet_set_same .., rfl, rfl⟩

end Sys2Proof.Machine

/-- Settles O40: the sweep and the write-back go by the read of a word, the repair by the verdict on its mirror word, and an expert write by its
offset in the window of its cell. -/
theorem cellMemoryCare : Obligations.CellMemoryCare := by
  refine ⟨fun s c m stg i => ⟨fun hfound hsingle => ?_, fun hnone => ?_⟩, fun s c m stg i hsweep => ⟨fun hok => ?_, fun hbad => ?_⟩,
    fun s c i hbad hready hfound => ⟨fun hclean hfree => ?_, fun soft hmirror => ?_⟩, fun s p c i w o ho h hexp hown => ?_,
    fun s p c i w o ho h hexp huse => ?_⟩
  · exact ⟨_, rfl, State.eccWriteback_single hfound hsingle⟩
  · exact congrArg Host.Outcome.next (State.eccWriteback_none hnone)
  · exact congrArg Host.Outcome.next ((State.sweepRead_on hsweep ..).trans (State.eccRead_ok _ _ _ _ hok))
  · obtain ⟨hflag, hcell, haddr, heng, hfound⟩ := FindsBad.of_eccRead s c (memAddr c m i) (stg && m != .st) hbad
    exact ⟨_, congrArg Host.Outcome.next (State.sweepRead_on hsweep ..), hflag, hcell, haddr, heng, hfound⟩
  · have hi : i.val % 1024 = i.val := Nat.mod_eq_of_lt i.isLt
    rw [← hi] at hbad hfound
    have hfix := State.mirrorFix_coef (s := s.coreDone) hbad
    rw [hi] at hfix
    exact ⟨_, congrArg Host.Outcome.next (State.mirrorRepair_restores hbad hready hfound hclean hfree), hfix⟩
  · have hi : i.val % 1024 = i.val := Nat.mod_eq_of_lt i.isLt
    rw [← hi] at hbad hfound
    exact ⟨_, rfl, State.mirrorRepair_poisoned hbad hready hfound hmirror⟩
  · have hwrite := State.expertCell_coef (s := s.noteWrite p (0x100000 + 4 * o.val)) ho i.isLt ((s.noteWrite_expertStart ..).trans hexp)
      ((s.stagedOwn_noteWrite ..).trans hown) p w.toNat
    obtain ⟨hact, hstg, hst, hbanks⟩ := (s.noteWrite p (0x100000 + 4 * o.val)).expertCell_coef_shows c i w.toNat
    rw [State.noteWrite_eng] at hst hbanks
    exact ⟨_, congrArg Host.Outcome.next ((State.portCmd_takes h _ _).trans hwrite), hact, hstg, hst, hbanks⟩
  · exact congrArg Host.Outcome.next ((State.portCmd_takes h _ _).trans (State.expertCell_inUse ho i.isLt
      ((s.noteWrite_expertStart p _).trans hexp) ((s.cellInUse_noteWrite p _ c).trans huse) p w.toNat))

end

/-! The changes of the clocks of domains A and M, and the spreading of PLL-C. -/

section
open Sys2Proof Sys2Proof.Machine

namespace Sys2Proof.Machine

/-! Domain A. -/

/-- Whether a conversion is in progress goes by the converter's record, the schedule in force, OWDIV and the time (R179, R198). -/
structure SamePassing (s t : State) : Prop where
  sched : t.adc.sched = s.adc.sched
  owdiv : t.fld Reg.ADC_OW_CFG_OWDIV = s.fld Reg.ADC_OW_CFG_OWDIV
  now : t.now = s.now

theorem SamePassing.inConversion {s t : State} (h : SamePassing s t) {c : Nat} (hc : t.conv c = s.conv c) : t.inConversion c = s.inConversion c := by
  unfold State.inConversion State.nextSlot State.slotsNow State.passSched State.passFld
  rw [hc, h.sched, h.owdiv, h.now]

/-- The tags of one converter (R198). -/
def State.tagConv (c : Nat) (t : State) : State := t.setConv c { t.conv c with swLeft := if t.inConversion c then 5 else 4 }

/-- The converters below `m` carry the tags of a change of clock, and the others are as they were (R198). -/
structure TaggedBelow (m : Nat) (s t : State) : Prop where
  passing : SamePassing s t
  regs : t.regs = s.regs
  rest : ∀ c, m ≤ c → t.conv c = s.conv c
  tags : ∀ c, c < m → (t.conv c).swLeft = if s.inConversion c then 5 else 4

theorem TaggedBelow.succ {m : Nat} {s t : State} (h : TaggedBelow m s t) : TaggedBelow (m + 1) s (State.tagConv m t) := by
  have hother {c : Nat} (hc : c ≠ m) : (State.tagConv m t).conv c = t.conv c := State.conv_setConv_other t _ hc
  refine ⟨⟨h.passing.sched, h.passing.owdiv, h.passing.now⟩, h.regs, fun c hc => ?_, fun c hc => ?_⟩
  · rw [hother (by omega)]
    exact h.rest c (by omega)
  · rcases Nat.lt_succ_iff_lt_or_eq.1 hc with hlt | rfl
    · rw [hother (by omega)]
      exact h.tags c hlt
    · unfold State.tagConv
      rw [State.conv_setConv_same, h.passing.inConversion (h.rest c le_rfl)]

theorem State.tagConvs_tag (s : State) (m : Nat) : TaggedBelow m s (forIdx m State.tagConv s) := by
  induction m with
  | zero => exact ⟨⟨rfl, rfl, rfl⟩, rfl, fun _ _ => rfl, fun c hc => absurd hc (Nat.not_lt_zero c)⟩
  | succ m ih =>
    rw [forIdx_succ]
    exact ih.succ

/-- What a change of domain A's clock shows: every converter is tagged, and PLLSW_S is set (R198). -/
structure Tagged (s t : State) : Prop where
  raised : t.on Reg.ADC_STATUS_PLLSW_S = true
  only : OnlyFlds [Reg.ADC_STATUS_PLLSW_S] s t
  tags : ∀ c, c < 32 → (t.conv c).swLeft = if s.inConversion c then 5 else 4

theorem TaggedBelow.raise {s t : State} (h : TaggedBelow 32 s t) : Tagged s (t.raise Reg.ADC_STATUS_PLLSW_S) :=
  ⟨State.on_raise_same t rfl, ((OnlyFlds.refl _ s).same h.regs).raise (by simp), h.tags⟩

theorem State.tagSwitch_tags (s : State) : Tagged s s.tagSwitch := (s.tagConvs_tag 32).raise

/-- Domain A goes back to its own clock (R198, R273). -/
theorem State.switchback_shows (s : State) : let t := (s.setFld Reg.CLK_STATUS_A_ALT 0).tagSwitch
    t.on Reg.CLK_STATUS_A_ALT = false ∧ t.on Reg.ADC_STATUS_PLLSW_S = true ∧ OnlyFlds [Reg.CLK_STATUS_A_ALT, Reg.ADC_STATUS_PLLSW_S] s t ∧
      ∀ c, c < 32 → (t.conv c).swLeft = if s.inConversion c then 5 else 4 := by
  have hset : SamePassing s (s.setFld Reg.CLK_STATUS_A_ALT 0) := ⟨rfl, State.fld_setFld_other _ _ (by decide), rfl⟩
  obtain ⟨hraised, honly, htags⟩ := (s.setFld Reg.CLK_STATUS_A_ALT 0).tagSwitch_tags
  refine ⟨?_, hraised, fun f hf => ?_, fun c hc => ?_⟩
  · rw [State.on, honly _ (by decide), State.fld_setFld_same]
    rfl
  · rw [honly f fun g hg => hf g (List.mem_cons_of_mem _ hg)]
    exact State.fld_setFld_other _ _ (hf _ List.mem_cons_self)
  · rw [htags c hc, hset.inConversion rfl]

/-! Domain M. -/

theorem tabFind_map {α β : Type} (g : α → β) (m : Tab α) (n : Nat) : tabFind (m.map fun e => (e.1, g e.2)) n = (tabFind m n).map g := by
  induction m with
  | nil => rfl
  | cons e m ih =>
    obtain ⟨k, v⟩ := e
    rw [List.map_cons, tabFind, tabFind]
    split
    · rfl
    · exact ih

/-- A channel whose request stood still for a while (R306). -/
def DmaCh.pause (d : Nat) (r : DmaCh) : DmaCh := { r with flight := r.flight.map fun f => { f with paused := f.paused + d } }

theorem State.endRefresh_ch (s : State) : s.endRefresh.mem.ch = s.mem.ch.map fun e => (e.1, e.2.pause (s.now - s.mem.srFrom.getD s.now)) := rfl

/-- The clock of a request that is under way stands still while the DRAM refreshes itself (R274, R306). -/
theorem State.endRefresh_flight {s : State} {a c : Nat} {f : Flight} (hfrom : s.mem.srFrom = some a) (hf : (s.dch c).flight = some f) :
    (s.endRefresh.dch c).flight = some { f with paused := f.paused + (s.now - a) } := by
  unfold State.dch tabGet at hf ⊢
  rw [State.endRefresh_ch, tabFind_map, hfrom]
  cases hfind : tabFind s.mem.ch c with
  | none => rw [hfind] at hf; cases hf
  | some r =>
    rw [hfind] at hf
    exact congrArg (Option.map fun f : Flight => { f with paused := f.paused + (s.now - a) }) hf

/-! Spreading. -/

theorem ratio_keys : (Reg.CLK_PLL_NINT_NINT 0).key ≠ (Reg.CLK_PLL_NFRAC_NFRAC 0).key ∧ (Reg.CLK_PLL_NINT_NINT 0).key ≠ Reg.GRT_TICKW.key ∧
    (Reg.CLK_PLL_NFRAC_NFRAC 0).key ≠ Reg.GRT_TICKW.key := by decide

/-- What a new ratio of PLL-C shows (R121, R263). -/
theorem State.setRatioC_shows (s : State) (n : Nat) : let t := s.setRatioC n
    t.fld (Reg.CLK_PLL_NINT_NINT 0) = n / 2 ^ 24 % 2 ^ (Reg.CLK_PLL_NINT_NINT 0).width ∧ t.fld (Reg.CLK_PLL_NFRAC_NFRAC 0) = n % 2 ^ 24 ∧
      t.eng.rho = (roundDiv ((4800000 * 2 ^ 48 : Nat) : Int) (s.refKhz * n)).toNat ∧ t.fld Reg.GRT_TICKW = t.eng.rho * 16 % 2 ^ 32 ∧
      t.eng = { s.eng with rho := t.eng.rho } ∧
      OnlyFlds [Reg.CLK_PLL_NINT_NINT 0, Reg.CLK_PLL_NFRAC_NFRAC 0, Reg.GRT_TICKW] s t := by
  obtain ⟨hfrac, hint, htick⟩ := ratio_keys
  have hfld (f : Fld) : (s.setRatioC n).fld f =
      ((s.setRatio 0 n).setFld Reg.GRT_TICKW ((roundDiv ((4800000 * 2 ^ 48 : Nat) : Int) (s.refKhz * n)).toNat * 16)).fld f := rfl
  refine ⟨?_, ?_, rfl, ?_, rfl, ?_⟩
  · rw [hfld, State.fld_setFld_other _ _ hint]
    exact (State.fld_setFld_other _ _ hfrac).trans (State.fld_setFld_same ..)
  · rw [hfld, State.fld_setFld_other _ _ htick]
    exact State.fld_setFld_same ..
  · rw [hfld, State.fld_setFld_same]
    rfl
  · have hset := (((OnlyFlds.refl [Reg.CLK_PLL_NINT_NINT 0, Reg.CLK_PLL_NFRAC_NFRAC 0, Reg.GRT_TICKW] s).setFld
      (f := Reg.CLK_PLL_NINT_NINT 0) (by simp) (n / 2 ^ 24)).setFld (f := Reg.CLK_PLL_NFRAC_NFRAC 0) (by simp) n).setFld
      (f := Reg.GRT_TICKW) (by simp) ((roundDiv ((4800000 * 2 ^ 48 : Nat) : Int) (s.refKhz * n)).toNat * 16)
    exact hset.same rfl

/-- A step of the profile goes to its value there (R268). -/
theorem State.spreadStep_profile {s : State} (hon : s.on Reg.CLK_STATUS_SPREAD_ON = true) (hcatch : s.clk.catching = false) :
    s.spreadStep = { s.setRatioC (s.profRatio s.profPos) with clk := { s.clk with catching := false } } := by
  unfold State.spreadStep
  rw [hon, hcatch]
  exact if_neg fun h => Bool.false_ne_true h.1

theorem spreadKey_en : spreadKey Reg.CLK_SPREAD_EN.key = true := by decide

/-- A committed change of EN alone takes effect (R167). -/
theorem State.takeCom_en {s : State} {v : Nat} (hcom : s.regs.com = [(Reg.CLK_SPREAD_EN.key, v)]) :
    (s.takeCom spreadKey).regs.com = [] ∧ (s.takeCom spreadKey).fld Reg.CLK_SPREAD_EN = v := by
  have htake : s.takeCom spreadKey = { s with
      regs := { s.regs with com := [], eff := tabSet (resetOf Reg.CLK_SPREAD_EN.key) s.regs.eff Reg.CLK_SPREAD_EN.key v } } := by
    have hrest : (s.regs.com.filter fun e => !spreadKey e.1) = [] := by simp [hcom, spreadKey_en]
    have htaken : (s.regs.com.filter fun e => spreadKey e.1) = [(Reg.CLK_SPREAD_EN.key, v)] := by simp [hcom, spreadKey_en]
    unfold State.takeCom
    rw [hrest, htaken]
    rfl
  rw [htake]
  exact ⟨rfl, tabGet_set_same ..⟩

theorem spread_keys : Reg.CLK_SPREAD_EN.key ≠ Reg.CLK_STATUS_SPREAD_ON.key ∧
    ∀ f ∈ [Reg.CLK_SPREAD_EN, Reg.CLK_STATUS_SPREAD_ON],
      ∀ g ∈ [Reg.CLK_PLL_NINT_NINT 0, Reg.CLK_PLL_NFRAC_NFRAC 0, Reg.GRT_TICKW], f.key ≠ g.key := by decide

/-- A profile of start `t`, before the ratio follows it (R269). -/
def State.beginProfile (s : State) (t : Nat) : State :=
  ({ s with clk := { s.clk with profile := t } }).setFld Reg.CLK_STATUS_SPREAD_ON (s.fld Reg.CLK_SPREAD_EN)

theorem State.startProfile_eq (s : State) (t : Nat) : s.startProfile t =
    if s.clk.catching then s.beginProfile t else (s.beginProfile t).setRatioC (nomRatio s.refKhz) := rfl

/-- A profile begins with q = 0 where EN is 1, and spreading ends where it is 0 (R269). -/
theorem State.startProfile_shows {s : State} (h : s.fld Reg.CLK_SPREAD_EN < 2) (t : Nat) :
    (s.startProfile t).regs.com = s.regs.com ∧ (s.startProfile t).fld Reg.CLK_SPREAD_EN = s.fld Reg.CLK_SPREAD_EN ∧
      (s.startProfile t).fld Reg.CLK_STATUS_SPREAD_ON = s.fld Reg.CLK_SPREAD_EN ∧ (s.startProfile t).clk.profile = t := by
  obtain ⟨hen, hratio⟩ := spread_keys
  have hkept : (s.beginProfile t).fld Reg.CLK_SPREAD_EN = s.fld Reg.CLK_SPREAD_EN := State.fld_setFld_other _ _ hen
  have hon : (s.beginProfile t).fld Reg.CLK_STATUS_SPREAD_ON = s.fld Reg.CLK_SPREAD_EN :=
    (State.fld_setFld_same ..).trans (Nat.mod_eq_of_lt h)
  rw [State.startProfile_eq]
  split
  · exact ⟨rfl, hkept, hon, rfl⟩
  · obtain ⟨-, -, -, -, -, honly⟩ := (s.beginProfile t).setRatioC_shows (nomRatio s.refKhz)
    exact ⟨rfl, (honly _ (hratio _ (by simp))).trans hkept, (honly _ (hratio _ (by simp))).trans hon, rfl⟩

end Sys2Proof.Machine

/-- Settles O48, cause by cause: the tags reach each converter once, and a ratio of PLL-C leaves every field but its own. -/
theorem domainChangesAndSpreading : Obligations.DomainChangesAndSpreading := by
  refine ⟨fun s hlocked hdue hlost => ?_, fun s halt hlock => ⟨fun hlate => ?_, fun hearly => ?_⟩, fun s hloss hsr => ?_,
    fun s a hsr hlock hstby hfrom => ?_, fun s hon hlock hpos hcatch => ?_, fun s v hcom hv hlock hpos => ?_⟩
  · exact ⟨_, congrArg Host.Outcome.next (if_pos ⟨hlocked, hdue, hlost⟩), State.on_setFld_one _ rfl,
      (OnlyFlds.refl _ s).setFld (by simp) 1, s.setFld_in _ 1⟩
  · exact ⟨_, congrArg Host.Outcome.next (if_pos ⟨halt, hlock, hlate⟩), s.switchback_shows⟩
  · exact congrArg Host.Outcome.next (if_neg fun h => absurd h.2.2 (not_le.2 hearly))
  · exact ⟨_, congrArg Host.Outcome.next (if_pos ⟨hloss, hsr⟩), State.on_setFld_one s rfl, rfl, rfl, (OnlyFlds.refl _ s).setFld (by simp) 1⟩
  · exact ⟨_, congrArg Host.Outcome.next (if_pos ⟨hsr, hlock, hstby⟩), State.on_setFld_zero _ _, rfl,
      ((OnlyFlds.refl _ s).same (u := s.endRefresh) rfl).setFld (by simp) 0, rfl, fun c f hf => State.endRefresh_flight hfrom hf⟩
  · exact ⟨_, congrArg Host.Outcome.next ((if_pos ⟨.inl hon, hlock, hpos⟩).trans (State.spreadStep_profile hon hcatch)),
      s.setRatioC_shows _⟩
  · have hwaits : (s.regs.com.any fun e => spreadKey e.1) = true := by simp [hcom, spreadKey_en]
    obtain ⟨hnone, hen⟩ := State.takeCom_en hcom
    obtain ⟨hcom', hkept, hshown, hprofile⟩ := State.startProfile_shows (s := s.takeCom spreadKey) (by rw [hen]; exact hv) s.now
    exact ⟨_, congrArg Host.Outcome.next (if_pos ⟨hwaits, hlock, hpos⟩), hcom'.trans hnone, hkept.trans hen, hshown.trans hen, hprofile⟩

end

/-! The image store: a slot under verification, what the checks give, the image that loads, and the end of a swap. -/

section
open Sys2Proof Sys2Proof.Machine

namespace Sys2Proof.Machine

/-! VERIFY and DISCARD, on the state that notes the write. -/

/-- An image is on its way, or the slot holds the active one: VERIFY is refused (R151). -/
def State.SlotTaken (s : State) (slot : Fin 4) : Prop :=
  2 ≤ s.fld Reg.STG_ATL_STATUS_STATE ∨ (s.stg.active.isSome = true ∧ s.fld Reg.STG_ATL_STATUS_ACT_SLOT = slot.val)

theorem State.slotTaken_noteWrite (s : State) (p : Port) (a : Nat) (slot : Fin 4) : (s.noteWrite p a).SlotTaken slot ↔ s.SlotTaken slot := by
  unfold State.SlotTaken
  rw [State.noteWrite_stg, State.noteWrite_fld_block _ _ _ (by decide), State.noteWrite_fld_block _ _ _ (by decide)]

theorem State.imageVerify_refuses {s : State} {slot : Fin 4} (h : s.SlotTaken slot) (p : Port) :
    s.imageVerify p slot = s.refuse p Reg.STG_ATL_CTRL_SLOT.addr := if_pos h

/-- VERIFY locks the slot and begins the checks (R149, R151). -/
theorem State.imageVerify_locks {s : State} {slot : Fin 4} (h : ¬ s.SlotTaken slot) (p : Port) :
    let t := s.imageVerify p slot
    t.fld Reg.STG_ATL_STATUS_STATE = 2 ∧ t.fld Reg.STG_ATL_STATUS_STG_SLOT = slot.val ∧
      OnlyFlds [Reg.STG_ATL_CTRL_SLOT, Reg.STG_ATL_STATUS_STG_SLOT, Reg.STG_ATL_STATUS_STATE] s t := by
  have heq : s.imageVerify p slot =
      ((s.setFld Reg.STG_ATL_CTRL_SLOT slot).setFld Reg.STG_ATL_STATUS_STG_SLOT slot).setFld Reg.STG_ATL_STATUS_STATE 2 := if_neg h
  rw [heq]
  refine ⟨State.fld_setFld_same .., ?_, (((OnlyFlds.refl _ s).setFld (by simp) _).setFld (by simp) _).setFld (by simp) _⟩
  rw [State.fld_setFld_other _ _ (by decide), State.fld_setFld_same]
  exact Nat.mod_eq_of_lt slot.isLt

/-- The state of the image store without a staged image: IDLE, or EMPTY before the first image (R149, R151). -/
theorem State.fld_setFld_rest (s : State) (b : Bool) :
    (s.setFld Reg.STG_ATL_STATUS_STATE (if b then 1 else 0)).fld Reg.STG_ATL_STATUS_STATE = if b then 1 else 0 := by
  rw [State.fld_setFld_same]
  cases b <;> rfl

theorem exec_imageVerify_takes {s : State} {p : Port} (h : s.Takes p Reg.STG_ATL_CTRL_SLOT.addr) (slot : Fin 4) :
    exec (.imageVerify p slot) s = .next ((s.noteWrite p Reg.STG_ATL_CTRL_SLOT.addr).imageVerify p slot) :=
  congrArg Host.Outcome.next (State.portCmd_takes h _ _)

/-- An image is staged that no commit holds: DISCARD is taken (R151). -/
def State.MayDiscard (s : State) : Prop := s.fld Reg.STG_ATL_STATUS_STATE = 4 ∧ s.stgState ≠ sPENDING ∧ s.stgState ≠ sAPPLYING

theorem State.mayDiscard_noteWrite (s : State) (p : Port) (a : Nat) : (s.noteWrite p a).MayDiscard ↔ s.MayDiscard := by
  unfold State.MayDiscard State.stgState
  rw [State.noteWrite_fld_block _ _ _ (by decide), State.noteWrite_fld_block _ _ _ (by decide)]

theorem State.imageDiscard_refuses {s : State} (h : ¬ s.MayDiscard) (p : Port) :
    s.imageDiscard p = s.refuse p Reg.STG_ATL_CTRL_DISCARD.addr := if_neg h

/-- DISCARD returns the staged image and leaves the draft (R151). -/
theorem State.imageDiscard_returns {s : State} (h : s.MayDiscard) (p : Port) :
    let t := s.imageDiscard p
    t.stg.staged = none ∧ t.fld Reg.STG_ATL_STATUS_STATE = (if s.stg.active.isSome then 1 else 0) ∧ t.regs.shadow = s.regs.shadow ∧
      OnlyFlds [Reg.STG_ATL_STATUS_STATE] s t := by
  have heq : s.imageDiscard p = { s.setFld Reg.STG_ATL_STATUS_STATE (if s.stg.active.isSome then 1 else 0) with
      stg := { s.stg with staged := none } } := if_pos h
  rw [heq]
  exact ⟨rfl, s.fld_setFld_rest _, rfl, ((OnlyFlds.refl _ s).setFld (by simp) _).same rfl⟩

theorem exec_imageDiscard_takes {s : State} {p : Port} (h : s.Takes p Reg.STG_ATL_CTRL_DISCARD.addr) :
    exec (.imageDiscard p) s = .next ((s.noteWrite p Reg.STG_ATL_CTRL_DISCARD.addr).imageDiscard p) :=
  congrArg Host.Outcome.next (State.portCmd_takes h _ _)

/-! The end of a verification. -/

/-- A verification that cannot run yet waits; the wait for an entry is counted once (R295, R302). -/
theorem State.coreStall_waits (s : State) : s.coreStall.stg = s.stg ∧ OnlyFlds [Reg.MEM_TRK_STALL_CNT_B_STALL] s s.coreStall := by
  unfold State.coreStall
  split
  · exact ⟨rfl, .refl _ s⟩
  · exact ⟨rfl, ((OnlyFlds.refl _ s).same rfl).count (by simp)⟩

/-- A failed verification reports its result and leaves the images (R149, R150). -/
theorem State.verifyFail_reports (s : State) (result sheet : Nat) : let t := s.verifyFail result sheet
    t.on Reg.STG_ATL_STATUS_FAIL_S = true ∧ t.fld Reg.STG_ATL_STATUS_STATE = (if s.stg.active.isSome then 1 else 0) ∧
      t.fld Reg.STG_ATL_STATUS_RESULT = result % 2 ^ Reg.STG_ATL_STATUS_RESULT.width ∧ t.stg = s.stg := by
  refine ⟨State.on_raise_same _ rfl, ?_, ?_, rfl⟩ <;> unfold State.verifyFail <;> rw [State.fld_raise_other _ (by decide)]
  · rw [State.fld_setFld_other _ _ (by decide), State.fld_setFld_other _ _ (by decide)]
    exact s.fld_setFld_rest _
  · rw [State.fld_setFld_other _ _ (by decide), State.fld_setFld_same]

/-- What the checks of steps 2 to 5 of R149 give for the slot under verification. -/
def State.slotCheck (s : State) : State × Checked := s.checkImage (0x100000 * s.fld Reg.STG_ATL_STATUS_STG_SLOT)

/-- What steps 6 and 7 of R149 judge, where the image of the slot has passed the checks before them. -/
def State.slotSurv (s : State) : Surv := { st := s.slotCheck.1, img := s.slotCheck.2.img, staged := true, swap := false }

/-- The checks read the slot and leave the images. -/
theorem State.slotCheck_stg (s : State) : s.slotCheck.1.stg = s.stg := (s.checkImage_in _).frame .stg (by decide)

theorem State.verifySlot_fails {s : State} (h : s.slotCheck.2.result ≠ 0) :
    s.verifySlot = s.slotCheck.1.verifyFail s.slotCheck.2.result s.slotCheck.2.sheet := if_pos h

/-- The staging copies are filled, and the image loads (step 8 of R149). -/
def State.beginLoad (s : State) (v : Surv) : State :=
  { s.survPass v with stg := { (s.survPass v).stg with loading := some v.img } }.setFld Reg.STG_ATL_STATUS_STATE 3

theorem State.verifySlot_passes {s : State} (h : s.slotCheck.2.result = 0) (hcheck : s.slotSurv.check = none)
    (hswap : (s.slotCheck.1.armed && s.slotSurv.swapChecks.isSome) = false) :
    s.verifySlot = s.slotCheck.1.beginLoad s.slotSurv := by
  have hnone : (if s.slotCheck.1.armed then s.slotSurv.swapChecks else none) = none := by
    cases harmed : s.slotCheck.1.armed with
    | false => rfl
    | true =>
      rw [harmed, Bool.true_and] at hswap
      exact Option.isNone_iff_eq_none.1 (Option.isSome_eq_false_iff.1 hswap)
  unfold State.verifySlot
  refine (if_neg (not_not_intro h)).trans ?_
  extract_lets v
  have hsurv : v.check = none := hcheck
  have hchecks : (if (s.checkImage (0x100000 * s.fld Reg.STG_ATL_STATUS_STG_SLOT)).1.armed then v.swapChecks else none) = none := hnone
  rw [hsurv, hchecks]
  rfl

/-- A survey that passes leaves the image that is staged (R164). -/
theorem State.survPass_staged (s : State) (v : Surv) : (s.survPass v).stg.staged = s.stg.staged := by
  unfold State.survPass
  extract_lets s0 s1
  have hs1 : s1.stg = s.stg := (v.figures_in _).frame .stg (by decide)
  split
  · rw [hs1]
  · rw [(State.mirrorFill_in _).frame .stg (by decide)]
    show s1.stg.staged = s.stg.staged
    rw [hs1]

theorem State.beginLoad_shows (s : State) (v : Surv) : let t := s.beginLoad v
    t.fld Reg.STG_ATL_STATUS_STATE = 3 ∧ t.stg.loading = some v.img ∧ t.stg.staged = s.stg.staged :=
  ⟨State.fld_setFld_same .., rfl, s.survPass_staged v⟩

/-- The end of a verification outside a boot, where DRAM serves the core and where it does not (R149, R295). -/
theorem exec_imageVerifyDone_ready {s : State} (h2 : s.fld Reg.STG_ATL_STATUS_STATE = 2) (h4 : s.fld Reg.SYS_BOOT_STATUS_PHASE ≠ 4)
    (hready : s.coreReady (0x100000 * s.fld Reg.STG_ATL_STATUS_STG_SLOT) 0x100000 = true) :
    exec .imageVerifyDone s = .next s.coreDone.verifySlot :=
  congrArg Host.Outcome.next ((if_pos ⟨h2, h4⟩).trans (if_pos hready))

theorem exec_imageVerifyDone_waits {s : State} (h2 : s.fld Reg.STG_ATL_STATUS_STATE = 2) (h4 : s.fld Reg.SYS_BOOT_STATUS_PHASE ≠ 4)
    (hready : s.coreReady (0x100000 * s.fld Reg.STG_ATL_STATUS_STG_SLOT) 0x100000 = false) :
    exec .imageVerifyDone s = .next s.coreStall :=
  congrArg Host.Outcome.next ((if_pos ⟨h2, h4⟩).trans (if_neg (by rw [hready]; decide)))

theorem exec_imageVerifyDone_stays {s : State} (h : s.fld Reg.STG_ATL_STATUS_STATE ≠ 2 ∨ s.fld Reg.SYS_BOOT_STATUS_PHASE = 4) :
    exec .imageVerifyDone s = .next s :=
  congrArg Host.Outcome.next (if_neg fun hc => h.elim (fun h2 => h2 hc.1) hc.2)

/-! The image that loads. -/

/-- The staging copies hold the image (step 9 of R149). -/
theorem State.loadNext_stages {s : State} {i : Img} (h : s.stg.loading = some i) : let t := s.loadNext
    t.fld Reg.STG_ATL_STATUS_STATE = 4 ∧ t.fld Reg.STG_ATL_STATUS_RESULT = 0 ∧ t.stg.loading = none ∧ t.stg.staged = some i ∧
      t.fld Reg.STG_ATL_STG_ID_LO = i.idLo % 2 ^ 32 ∧ t.fld Reg.STG_ATL_STG_ID_HI = i.idHi % 2 ^ 32 := by
  unfold State.loadNext
  rw [h]
  refine ⟨?_, ?_, rfl, rfl, ?_, State.fld_setFld_same ..⟩ <;> rw [State.fld_setFld_other _ _ (by decide)]
  · rw [State.fld_setFld_other _ _ (by decide), State.fld_setFld_other _ _ (by decide), State.fld_setFld_other _ _ (by decide)]
    exact State.fld_setFld_same ..
  · rw [State.fld_setFld_other _ _ (by decide), State.fld_setFld_other _ _ (by decide)]
    exact State.fld_setFld_same ..
  · exact State.fld_setFld_same ..

theorem State.noteDrain_loading (s : State) : s.noteDrain.stg.loading = s.stg.loading := by
  unfold State.noteDrain
  split <;> rfl

/-- The clock leaves the image that loads. -/
theorem State.clockTick_loading (s : State) : s.clockTick.stg.loading = s.stg.loading := by
  have hisland : s.clockTick.stg = s.noteDrain.refWait.passCycle.clearCycle.stg := (State.islandTick_in _).frame .stg (by decide)
  have hwait : s.noteDrain.refWait.stg = s.noteDrain.stg := (State.refWait_in _).frame .stg (by decide)
  rw [hisland]
  show s.noteDrain.refWait.stg.loading = s.stg.loading
  rw [hwait, State.noteDrain_loading]

/-- The units leave the image that loads until their last step, which stages it. -/
theorem State.unitsTick_loads (s : State) : ∃ u : State, u.stg = s.stg ∧ s.unitsTick = u.loadNext := by
  have hin : Within [.regs, .drafts, .pwm, .drv, .twn] s s.takePwm.runEdges.holdSinks.noteDigests :=
    (State.noteDigests_in _).thn (by decide) <| (State.holdSinks_in _).thn (by decide) <|
      (State.runEdges_in _).thn (by decide) (s.takePwm_in.mono (by decide))
  exact ⟨_, hin.frame .stg (by decide), rfl⟩

/-! The end of a swap. -/

theorem State.takeDigests_regs (s : State) : s.takeDigests.regs = s.regs := by
  unfold State.takeDigests
  split <;> rfl

/-- The old copies become the staging copies, and nothing of the retiring image is kept (R153). -/
def State.dropOld (s : State) : State :=
  { s with
    eng := { s.eng with
      coefStg := s.eng.coefOld, bunStg := s.eng.bunOld, ctx := s.eng.ctx.filter fun x => decide (x.1 < 128),
      cfgs := s.eng.cfgs.filter fun x => decide (x.1 < 128), cfmaps := s.eng.cfmaps.filter fun x => decide (x.1 < 32),
      snap := s.eng.snap.filter fun x => decide (x.1 < 4096), outPorts := s.eng.outPorts.filter fun x => decide (x.1 < 4096) }
    stg := { s.stg with retiring := none } }

/-- The record of a swap that has ended (R153). -/
def State.noteSwap (s : State) : State :=
  ((s.setFld Reg.STG_ATL_STATUS_STATE 1).raise Reg.STG_ATL_STATUS_SWAP_S).count Reg.STG_ATL_SWAP_CNT_SWAP_CNT

theorem State.swapComplete_eq {s : State} (h5 : s.fld Reg.STG_ATL_STATUS_STATE = 5) (hold : s.oldRuns = false) :
    s.swapComplete = s.dropOld.takeSlot.takeDigests.noteSwap := if_pos ⟨h5, hold⟩

theorem State.swapComplete_waits {s : State} (hold : s.oldRuns = true) : s.swapComplete = s :=
  if_neg fun h => absurd (h.2.symm.trans hold) (by decide)

theorem State.noteSwap_shows (s : State) : let t := s.noteSwap
    t.fld Reg.STG_ATL_STATUS_STATE = 1 ∧ t.on Reg.STG_ATL_STATUS_SWAP_S = true ∧
      t.fld Reg.STG_ATL_SWAP_CNT_SWAP_CNT = s.counted Reg.STG_ATL_SWAP_CNT_SWAP_CNT ∧
      OnlyFlds [Reg.STG_ATL_STATUS_STATE, Reg.STG_ATL_STATUS_SWAP_S, Reg.STG_ATL_SWAP_CNT_SWAP_CNT] s t := by
  unfold State.noteSwap
  refine ⟨?_, ?_, (State.fld_count_same ..).trans (State.counted_congr ?_),
    (((OnlyFlds.refl _ s).setFld (by simp) _).raise (by simp)).count (by simp)⟩
  · rw [State.fld_count_other _ (by decide), State.fld_raise_other _ (by decide)]
    exact State.fld_setFld_same ..
  · rw [State.on, State.fld_count_other _ (by decide)]
    exact State.on_raise_same _ rfl
  · rw [State.fld_raise_other _ (by decide), State.fld_setFld_other _ _ (by decide)]

theorem State.noteSwap_eng (s : State) : s.noteSwap.eng = s.eng := rfl
theorem State.noteSwap_stg (s : State) : s.noteSwap.stg = s.stg := rfl

/-- The slot, the digests and the images as the swap leaves them: the staged slot is the active one (R153). -/
theorem State.dropOld_takes (s : State) : let u := s.dropOld.takeSlot.takeDigests
    u.fld Reg.STG_ATL_STATUS_ACT_SLOT = s.fld Reg.STG_ATL_STATUS_STG_SLOT % 4 ∧ OnlyFlds [Reg.STG_ATL_STATUS_ACT_SLOT] s u ∧
      u.eng = s.dropOld.eng ∧ u.stg = s.dropOld.stg := by
  refine ⟨?_, ?_, (State.takeDigests_in _).frame .eng (by decide), (State.takeDigests_in _).frame .stg (by decide)⟩
  · rw [State.fld_congr (State.takeDigests_regs _)]
    exact State.fld_setFld_same ..
  · exact (((OnlyFlds.refl _ s).same (u := s.dropOld) rfl).setFld (by simp) _).same (State.takeDigests_regs _)

end Sys2Proof.Machine

/-- Settles O23, command by command: VERIFY and DISCARD act on the state that notes their write, a verification ends by what its checks give,
an image that loads is staged by the last of the units in a C-cycle, and a swap ends once no old execution runs. -/
theorem imagesAreVerifiedStagedAndSwapped : Obligations.ImagesAreVerifiedStagedAndSwapped := by
  refine ⟨fun s p slot ht => ?_, fun s h => exec_imageVerifyDone_stays h, fun s h2 hready => ?_, fun s h2 h4 hready => ⟨fun hfail => ?_,
    fun hpass hcheck hswap => ?_⟩, fun s i hload hp hl hheld hq hop hlog => ?_, fun s p ht => ?_, fun s h5 => ⟨fun hold => ?_, fun hold => ?_⟩⟩
  · refine ⟨fun h => ⟨_, exec_imageVerify_takes ht slot, ?_⟩, fun h => ⟨_, exec_imageVerify_takes ht slot, ?_⟩⟩
    · rw [State.imageVerify_refuses ((s.slotTaken_noteWrite p _ slot).2 h)]
      exact .of_refuse ..
    · obtain ⟨hstate, hslot, honly⟩ := State.imageVerify_locks (mt (s.slotTaken_noteWrite p Reg.STG_ATL_CTRL_SLOT.addr slot).1 h) p
      exact ⟨hstate, hslot, (State.imageVerify_in ..).thn (by decide) (s.noteWrite_in ..),
        ((s.noteWrite_fields p _).mono (by simp)).trans (honly.mono (by simp))⟩
  · by_cases h4 : s.fld Reg.SYS_BOOT_STATUS_PHASE = 4
    · exact ⟨s, exec_imageVerifyDone_stays (.inr h4), h2, rfl, .refl _ s⟩
    · obtain ⟨hstg, honly⟩ := s.coreStall_waits
      exact ⟨_, exec_imageVerifyDone_waits h2 h4 hready, (honly _ (by decide)).trans h2, hstg, honly⟩
  · obtain ⟨hflag, hstate, hresult, hstg⟩ := s.coreDone.slotCheck.1.verifyFail_reports s.coreDone.slotCheck.2.result s.coreDone.slotCheck.2.sheet
    rw [State.slotCheck_stg] at hstate hstg
    rw [exec_imageVerifyDone_ready h2 h4 hready, State.verifySlot_fails hfail]
    exact ⟨_, rfl, hflag, hstate, hresult, hstg⟩
  · obtain ⟨hstate, hloading, hstaged⟩ := s.coreDone.slotCheck.1.beginLoad_shows s.coreDone.slotSurv
    rw [State.slotCheck_stg] at hstaged
    rw [exec_imageVerifyDone_ready h2 h4 hready, State.verifySlot_passes hpass hcheck hswap]
    exact ⟨_, rfl, hstate, hloading, hstaged⟩
  · obtain ⟨u, hu, hunits⟩ := s.clockTick.unitsTick_loads
    obtain ⟨hstate, hresult, hnone, hstaged, hlo, hhi⟩ :=
      State.loadNext_stages ((congrArg StgRun.loading hu).trans (s.clockTick_loading.trans hload))
    rw [step_tick hp hl, State.tick_idle hheld hq hop hlog, hunits]
    refine ⟨_, rfl, ?_, ?_, hnone, hstaged, ?_, ?_⟩ <;> rw [State.fld_setFld_other _ _ (by decide)] <;> assumption
  · refine ⟨fun h => ⟨_, exec_imageDiscard_takes ht, ?_⟩, fun h => ⟨_, exec_imageDiscard_takes ht, ?_⟩⟩
    · obtain ⟨hstaged, hstate, hshadow, honly⟩ :=
        State.imageDiscard_returns ((s.mayDiscard_noteWrite p Reg.STG_ATL_CTRL_DISCARD.addr).2 h) p
      rw [State.noteWrite_stg] at hstate
      exact ⟨hstaged, hstate, hshadow.trans (s.noteWrite_shadow ..),
        ((s.noteWrite_fields p _).mono (by simp)).trans (honly.mono (by simp))⟩
    · rw [State.imageDiscard_refuses (mt (s.mayDiscard_noteWrite p _).1 h)]
      exact .of_refuse ..
  · obtain ⟨hslot, htaken, heng, hstg⟩ := s.dropOld_takes
    obtain ⟨hstate, hflag, hcount, honly⟩ := s.dropOld.takeSlot.takeDigests.noteSwap_shows
    have hexec : exec .swapComplete s = .next s.dropOld.takeSlot.takeDigests.noteSwap :=
      congrArg Host.Outcome.next (State.swapComplete_eq h5 hold)
    have hengs := (State.noteSwap_eng _).trans heng
    exact ⟨_, hexec, hstate, hflag, (honly _ (by decide)).trans hslot, hcount.trans (State.counted_congr (htaken _ (by decide))),
      congrArg EngRun.coefStg hengs, congrArg EngRun.bunStg hengs, congrArg StgRun.retiring ((State.noteSwap_stg _).trans hstg),
      (congrArg EngRun.coef hengs).trans rfl, (congrArg EngRun.st hengs).trans rfl, (htaken.mono (by simp)).trans (honly.mono (by simp))⟩
  · exact congrArg Host.Outcome.next (State.swapComplete_waits hold)

end

/-! Drafts: what a discard, a clear and an append leave, and where they are refused. -/

section
open Sys2Proof Sys2Proof.Machine

namespace Sys2Proof.Machine

theorem State.noteWrite_stgState (s : State) (p : Port) (a : Nat) : (s.noteWrite p a).stgState = s.stgState :=
  s.noteWrite_fld_block p a (by decide)

/-- What a command changes on the state that notes its write, seen from the state before it. -/
theorem OnlyFlds.noted {l : List Fld} {s t : State} {p : Port} {a : Nat} (h : OnlyFlds l (s.noteWrite p a) t) :
    OnlyFlds (l ++ [Reg.SYS_EVENT_PORTCOL_S]) s t :=
  ((s.noteWrite_fields p a).mono (List.subset_append_right _ _)).trans (h.mono (List.subset_append_left _ _))

/-- A field is read from the values in effect alone (R157). -/
theorem State.fld_congr_eff {s t : State} (h : t.regs.eff = s.regs.eff) (f : Fld) : t.fld f = s.fld f := by unfold State.fld; rw [h]

theorem OnlyFlds.of_eff {l : List Fld} {s t : State} (h : t.regs.eff = s.regs.eff) : OnlyFlds l s t := fun f _ => State.fld_congr_eff h f

/-! DISCARD. -/

theorem exec_draftDiscard_takes {s : State} {p : Port} (h : s.Takes p addrStgCtrl) :
    exec (.draftDiscard p) s = .next ((s.noteWrite p addrStgCtrl).draftDiscard p) := congrArg Host.Outcome.next (State.portCmd_takes h _ _)

/-- The draft is emptied: the shadows equal the committed values, and no entry is held (R161). -/
def State.dropDraft (s : State) : State := { s with regs := { s.regs with shadow := [] }, stg := { s.stg with cdraft := [] } }

theorem State.draftDiscard_empties {s : State} (h : s.stgState = sDRAFTING ∨ s.stgState = sSURVEYED) (p : Port) :
    let t := s.draftDiscard p
    t.stgState = sIDLE ∧ t.regs.shadow = [] ∧ t.stg.cdraft = [] ∧ t.regs.com = s.regs.com ∧
      OnlyFlds [Reg.STG_STATUS_STATE, Reg.STG_CDRAFT_CNT_CNT] s t := by
  have heq : s.draftDiscard p = (s.dropDraft.setFld Reg.STG_CDRAFT_CNT_CNT 0).setFld Reg.STG_STATUS_STATE sIDLE := if_pos h
  rw [heq]
  exact ⟨State.fld_setFld_same .., rfl, rfl, rfl, ((OnlyFlds.of_eff (t := s.dropDraft) rfl).setFld (by simp) 0).setFld (by simp) _⟩

/-- A pending commit is not discarded as a draft. -/
theorem State.not_drafting_of_pending {s : State} (h : s.stgState = sPENDING) : ¬ (s.stgState = sDRAFTING ∨ s.stgState = sSURVEYED) := by
  rw [h]; decide

/-- DISCARD cancels a pending commit in time and keeps the draft and the staged image (R161). -/
theorem State.draftDiscard_cancels {s : State} (h : s.stgState = sPENDING) (hearly : s.now + 4000 ≤ s.stg.commitAt) (p : Port) :
    let t := s.draftDiscard p
    t.stgState = sSURVEYED ∧ t.regs.shadow = s.regs.shadow ∧ t.stg.staged = s.stg.staged ∧ OnlyFlds [Reg.STG_STATUS_STATE] s t := by
  have heq : s.draftDiscard p = { s.setFld Reg.STG_STATUS_STATE sSURVEYED with stg := { s.stg with withImg := false } } :=
    (if_neg (State.not_drafting_of_pending h)).trans (if_pos ⟨h, hearly⟩)
  rw [heq]
  exact ⟨State.fld_setFld_same .., rfl, rfl, ((OnlyFlds.refl _ s).setFld (by simp) _).same rfl⟩

theorem State.draftDiscard_refuses {s : State} (h : s.stgState = sPENDING) (hlate : s.stg.commitAt < s.now + 4000) (p : Port) :
    s.draftDiscard p = s.refuse p addrStgCtrl :=
  (if_neg (State.not_drafting_of_pending h)).trans (if_neg fun hc => absurd hc.2 (not_le.2 hlate))

/-! CDRAFT_CLR. -/

theorem exec_cdraftClear_takes {s : State} {p : Port} (h : s.Takes p addrStgCtrl) :
    exec (.cdraftClear p) s = .next ((s.noteWrite p addrStgCtrl).cdraftClear p) := congrArg Host.Outcome.next (State.portCmd_takes h _ _)

/-- No coefficient entry is held, and the register counts none. -/
def State.clearEntries (s : State) : State := ({ s with stg := { s.stg with cdraft := [] } }).setFld Reg.STG_CDRAFT_CNT_CNT 0

theorem State.cdraftClear_empties {s : State} (h : s.locked = false) (p : Port) :
    let t := s.cdraftClear p
    t.stg.cdraft = [] ∧ t.fld Reg.STG_CDRAFT_CNT_CNT = 0 ∧ t.regs.shadow = s.regs.shadow ∧
      OnlyFlds [Reg.STG_STATUS_STATE, Reg.STG_CDRAFT_CNT_CNT] s t := by
  have heq : s.cdraftClear p = if s.stg.cdraft.isEmpty then s.clearEntries else s.clearEntries.stgRest :=
    if_neg (by rw [h]; exact Bool.false_ne_true)
  have hcnt : s.clearEntries.fld Reg.STG_CDRAFT_CNT_CNT = 0 := State.fld_setFld_same ..
  have honly : OnlyFlds [Reg.STG_STATUS_STATE, Reg.STG_CDRAFT_CNT_CNT] s s.clearEntries :=
    ((OnlyFlds.refl _ s).same rfl).setFld (by simp) 0
  rw [heq]
  split
  · exact ⟨rfl, hcnt, rfl, honly⟩
  · exact ⟨rfl, (State.fld_setFld_other _ _ (by decide)).trans hcnt, rfl, honly.setFld (by simp) _⟩

theorem State.cdraftClear_refuses {s : State} (h : s.locked = true) (p : Port) : s.cdraftClear p = s.refuse p addrStgCtrl := if_pos h

/-! The append of an entry. -/

theorem exec_cdraftAppend_takes {s : State} {p : Port} (h : s.Takes p Reg.STG_CDRAFT_DATA.addr) (w : Word) :
    exec (.cdraftAppend p w) s = .next ((s.noteWrite p Reg.STG_CDRAFT_DATA.addr).cdraftAppend p w.toNat) :=
  congrArg Host.Outcome.next (State.portCmd_takes h _ _)

/-- An expert append finds room outside the lock (R159, R162). -/
def State.MayAppend (s : State) : Prop := s.expertStart = true ∧ s.locked = false ∧ s.stg.cdraft.length < 256

theorem State.mayAppend_noteWrite (s : State) (p : Port) (a : Nat) : (s.noteWrite p a).MayAppend ↔ s.MayAppend := by
  unfold State.MayAppend
  rw [State.noteWrite_expertStart, State.locked_noteWrite, State.noteWrite_stg]

theorem State.not_mayAppend_iff (s : State) :
    (!s.expertStart || s.locked || decide (256 ≤ s.stg.cdraft.length)) = true ↔ ¬ s.MayAppend := by
  unfold State.MayAppend
  cases s.expertStart <;> cases s.locked <;> simp

theorem State.cdraftAppend_refuses {s : State} (h : ¬ s.MayAppend) (p : Port) (w : Nat) :
    s.cdraftAppend p w = s.refuse p Reg.STG_CDRAFT_DATA.addr := if_pos (s.not_mayAppend_iff.2 h)

/-- An append adds its entry, and moves the address and the count on (R162). -/
theorem State.cdraftAppend_adds {s : State} (h : s.MayAppend) (p : Port) (w : Nat) : let t := s.cdraftAppend p w
    t.stg.cdraft = s.stg.cdraft ++ [(s.fld Reg.STG_CDRAFT_ADDR, w)] ∧
      t.fld Reg.STG_CDRAFT_ADDR = (s.fld Reg.STG_CDRAFT_ADDR + 4) % 2 ^ 32 ∧ t.fld Reg.STG_CDRAFT_CNT_CNT = s.stg.cdraft.length + 1 ∧
      t.stgState = sDRAFTING ∧ t.eng = s.eng ∧ OnlyFlds [Reg.STG_CDRAFT_ADDR, Reg.STG_CDRAFT_CNT_CNT, Reg.STG_STATUS_STATE] s t := by
  obtain ⟨-, -, hroom⟩ := id h
  unfold State.cdraftAppend
  rw [if_neg (mt s.not_mayAppend_iff.1 (not_not_intro h))]
  refine ⟨rfl, ?_, ?_, State.fld_setFld_same .., rfl, ((((OnlyFlds.refl _ s).same rfl).setFld (by simp) _).setFld (by simp) _).setFld (by simp) _⟩
  · rw [State.fld_setFld_other _ _ (by decide), State.fld_setFld_other _ _ (by decide)]
    exact State.fld_setFld_same ..
  · rw [State.fld_setFld_other _ _ (by decide), State.fld_setFld_same]
    exact Nat.mod_eq_of_lt (by show _ < 2 ^ 9; omega)

end Sys2Proof.Machine

/-- Settles O25: each command acts on the state that notes its write, where the staging state, the lock and the entries are those before it. -/
theorem draftsAreHeldAndDiscarded : Obligations.DraftsAreHeldAndDiscarded := by
  refine ⟨fun s p ht => ?_, fun s p w ht => ?_⟩
  · have hstate := s.noteWrite_stgState p addrStgCtrl
    have hstg := s.noteWrite_stg p addrStgCtrl
    have hnow := s.noteWrite_now p addrStgCtrl
    have hlock := s.locked_noteWrite p addrStgCtrl
    refine ⟨fun h => ⟨_, exec_draftDiscard_takes ht, ?_⟩, fun h hearly => ⟨_, exec_draftDiscard_takes ht, ?_⟩,
      fun h hlate => ⟨_, exec_draftDiscard_takes ht, ?_⟩, fun h => ⟨_, exec_cdraftClear_takes ht, ?_⟩,
      fun h => ⟨_, exec_cdraftClear_takes ht, ?_⟩⟩
    · obtain ⟨hidle, hshadow, hentries, hcom, honly⟩ := State.draftDiscard_empties (by rwa [hstate]) p
      exact ⟨hidle, hshadow, hentries, hcom.trans (s.noteWrite_com ..), honly.noted⟩
    · obtain ⟨hback, hshadow, hstaged, honly⟩ := State.draftDiscard_cancels (by rwa [hstate]) (by rwa [hnow, hstg]) p
      exact ⟨hback, hshadow.trans (s.noteWrite_shadow ..), hstaged.trans (congrArg StgRun.staged hstg), honly.noted⟩
    · rw [State.draftDiscard_refuses (by rwa [hstate]) (by rwa [hnow, hstg])]
      exact .of_refuse ..
    · obtain ⟨hentries, hcnt, hshadow, honly⟩ := State.cdraftClear_empties (hlock.trans h) p
      exact ⟨hentries, hcnt, hshadow.trans (s.noteWrite_shadow ..), honly.noted⟩
    · rw [State.cdraftClear_refuses (hlock.trans h)]
      exact .of_refuse ..
  · have hmay := s.mayAppend_noteWrite p Reg.STG_CDRAFT_DATA.addr
    have haddr : (s.noteWrite p Reg.STG_CDRAFT_DATA.addr).fld Reg.STG_CDRAFT_ADDR = s.fld Reg.STG_CDRAFT_ADDR :=
      s.noteWrite_fld_block p _ (by decide)
    refine ⟨fun hok => ⟨_, exec_cdraftAppend_takes ht w, ?_⟩, fun hno => ⟨_, exec_cdraftAppend_takes ht w, ?_⟩⟩
    · obtain ⟨hentries, hnext, hcnt, hstate, heng, honly⟩ := State.cdraftAppend_adds (hmay.2 hok) p w.toNat
      rw [haddr, s.noteWrite_stg] at hentries
      rw [haddr] at hnext
      rw [s.noteWrite_stg] at hcnt
      exact ⟨hentries, hnext, hcnt, hstate, heng.trans (s.noteWrite_eng ..), honly.noted⟩
    · rw [State.cdraftAppend_refuses (mt hmay.1 hno)]
      exact ⟨s.noteWrite_stg .., .of_refuse ..⟩

end

/-! Surveys: their start, what stands behind them, their verdicts, and the commit instant. -/

section
open Sys2Proof Sys2Proof.Machine

namespace Sys2Proof.Machine

/-! SURVEY and GO, on the state that notes the write. -/

theorem exec_survey_takes {s : State} {p : Port} (h : s.Takes p addrStgCtrl) :
    exec (.survey p) s = .next ((s.noteWrite p addrStgCtrl).survey p) := congrArg Host.Outcome.next (State.portCmd_takes h _ _)

theorem exec_commitGo_takes {s : State} {p : Port} (h : s.Takes p addrStgCtrl) :
    exec (.commitGo p) s = .next ((s.noteWrite p addrStgCtrl).commitGo p) := congrArg Host.Outcome.next (State.portCmd_takes h _ _)

/-- A survey begins and locks the shadow bank (R159, R164). -/
theorem State.startSurvey_shows (s : State) (go : Bool) : let t := s.startSurvey go
    t.stgState = sSURVEYING ∧ t.locked = true ∧ t.stg.go = go ∧ t.regs.shadow = s.regs.shadow ∧ OnlyFlds [Reg.STG_STATUS_STATE] s t := by
  have hstate : (s.startSurvey go).stgState = sSURVEYING := State.fld_setFld_same ..
  refine ⟨hstate, ?_, rfl, rfl, ((OnlyFlds.refl _ s).setFld (by simp) _).same rfl⟩
  unfold State.locked
  rw [hstate]
  simp

/-- The states in which SURVEY is taken (R164). -/
def State.MaySurvey (s : State) : Prop := s.stgState = sIDLE ∨ s.stgState = sDRAFTING ∨ s.stgState = sSURVEYED

theorem State.survey_starts {s : State} (h : s.MaySurvey) (p : Port) : s.survey p = s.startSurvey false := if_pos h

theorem State.survey_refuses {s : State} (h : ¬ s.MaySurvey) (p : Port) : s.survey p = s.refuse p addrStgCtrl := if_neg h

/-- Where GO is taken: with a draft or a staged image (R165), no CARRIER commit of a paired module (R354), and no hand-over announced
(R359). -/
def State.MayGo (s : State) : Prop :=
  (s.stgState = sDRAFTING ∨ s.stgState = sSURVEYED ∨ (s.stgState = sIDLE ∧ s.stg.staged.isSome = true)) ∧
    (s.on Reg.TWN_CTRL_PAIR_EN = false ∨ s.fld Reg.STG_COMMIT_CFG_MODE ≠ 0) ∧ s.on Reg.TWN_STATUS_HO_BUSY = false

theorem State.mayGo_noteWrite (s : State) (p : Port) (a : Nat) : (s.noteWrite p a).MayGo ↔ s.MayGo := by
  unfold State.MayGo
  rw [s.noteWrite_stgState, s.noteWrite_stg, s.noteWrite_fld_block p a (by decide), s.noteWrite_on_block p a (by decide),
    s.noteWrite_on_block p a (by decide)]

theorem State.mayGo_iff (s : State) :
    ((s.stgState == sDRAFTING || s.stgState == sSURVEYED || (s.stgState == sIDLE && s.stg.staged.isSome)) &&
      !(s.on Reg.TWN_CTRL_PAIR_EN && s.fld Reg.STG_COMMIT_CFG_MODE == 0) && !s.on Reg.TWN_STATUS_HO_BUSY) = true ↔ s.MayGo := by
  simp [State.MayGo, Bool.and_eq_true, Bool.or_eq_true, and_assoc, or_assoc]

theorem State.commitGo_starts {s : State} (h : s.MayGo) (p : Port) : s.commitGo p = s.startSurvey true := if_pos (s.mayGo_iff.2 h)

theorem State.commitGo_refuses {s : State} (h : ¬ s.MayGo) (p : Port) : s.commitGo p = s.refuse p addrStgCtrl := if_neg (mt s.mayGo_iff.1 h)

/-- GO is refused from SURVEY to the end of a commit (R165). -/
theorem State.not_mayGo_of_busy {s : State} (h : s.stgState = sSURVEYING ∨ s.stgState = sPENDING ∨ s.stgState = sAPPLYING) : ¬ s.MayGo := by
  rintro ⟨hstate, -⟩
  rcases h with h | h | h <;> rw [h] at hstate <;> simp [sIDLE, sDRAFTING, sSURVEYING, sSURVEYED, sPENDING, sAPPLYING] at hstate

/-! A write that stands behind a command of its C-cycle. -/

theorem State.awaits_of_pending {s : State} {c : Instr} {q : Instr → Bool} (hc : c ∈ s.pending) (hq : q c = true) : s.awaits q = true :=
  List.any_eq_true.2 ⟨c, List.mem_append_left _ hc, hq⟩

theorem State.inOrder_putOff {s : State} {q : Instr → Bool} (h : s.awaits q = true) (c : Instr) (body : State → State) :
    s.inOrder c q body = s.putOff c := if_pos h

/-- SURVEY and GO act before a write of a draft (R159). -/
theorem Instr.beforeWrite_of_asksSurvey {i : Instr} (hi : i.asksSurvey = true) (p : Port) {a : Nat} (ha : a ≠ addrStgCtrl)
    (hd : draftsAt a = true) : i.beforeWrite p a = true := by
  have hne : (a != Reg.STG_CTRL_SURVEY.addr) = true := bne_iff_ne.2 ha
  simp [Instr.beforeWrite, hi, hd, hne]

theorem exec_registerWrite_behind_survey {s : State} {i : Instr} (hi : i ∈ s.pending) (hasks : i.asksSurvey = true) (p : Port)
    {a : Fin 0x4000} (ha : 4 * a.val ≠ addrStgCtrl) (hd : draftsAt (4 * a.val) = true) (v : Word) :
    exec (.registerWrite p a v) s = .next { s with later := s.later ++ [.registerWrite p a v] } := by
  have hbefore : i.beforeFrame (.registerWrite p a v) = true :=
    (beforeFrame_registerWrite i p a v ha).trans (Instr.beforeWrite_of_asksSurvey hasks p ha hd)
  exact congrArg Host.Outcome.next (State.inOrder_putOff (State.awaits_of_pending hi hbefore) _ _)

/-! What a survey records. -/

/-- The fields that a failed survey writes beside the state. -/
def survFailFlds : List Fld :=
  [Reg.STG_SURV_RESULT_CODE, Reg.STG_SURV_RESULT_CELL, Reg.STG_SURV_RESULT_CTX, Reg.STG_SURV_RESULT_IMAGE, Reg.STG_SURV_ADDR,
    Reg.STG_STATUS_SURVFAIL_S]

/-- A failed survey reports its finding (R164). -/
theorem State.survFail_reports (s : State) (image : Bool) (f : SurvFail) : let t := s.survFail image f
    t.on Reg.STG_STATUS_SURVFAIL_S = true ∧ t.fld Reg.STG_SURV_RESULT_CODE = f.code % 2 ^ Reg.STG_SURV_RESULT_CODE.width ∧
      t.fld Reg.STG_SURV_ADDR = f.addr % 2 ^ 32 ∧ OnlyFlds survFailFlds s t := by
  unfold State.survFail
  extract_lets img
  refine ⟨State.on_raise_same _ rfl, ?_, ?_, ?_⟩
  · rw [State.fld_raise_other _ (by decide), State.fld_setFld_other _ _ (by decide), State.fld_setFld_other _ _ (by decide),
      State.fld_setFld_other _ _ (by decide), State.fld_setFld_other _ _ (by decide), State.fld_setFld_same]
  · rw [State.fld_raise_other _ (by decide), State.fld_setFld_same]; rfl
  · exact ((((((OnlyFlds.refl _ s).setFld (by simp [survFailFlds]) _).setFld (by simp [survFailFlds]) _).setFld (by simp [survFailFlds]) _).setFld
      (by simp [survFailFlds]) _).setFld (by simp [survFailFlds]) _).raise (by simp [survFailFlds])

/-- The record of a survey that passes: CODE 0x00 and SURVOK_S (R164). -/
def State.recordPass (s : State) : State :=
  (((((s.setFld Reg.STG_SURV_RESULT_CODE 0).setFld Reg.STG_SURV_RESULT_CELL 0).setFld Reg.STG_SURV_RESULT_CTX 0).setFld
    Reg.STG_SURV_RESULT_IMAGE 0).setFld Reg.STG_SURV_ADDR 0).raise Reg.STG_STATUS_SURVOK_S

theorem State.recordPass_shows (s : State) : let t := s.recordPass
    t.on Reg.STG_STATUS_SURVOK_S = true ∧ t.fld Reg.STG_SURV_RESULT_CODE = 0 := by
  refine ⟨State.on_raise_same _ rfl, ?_⟩
  unfold State.recordPass
  rw [State.fld_raise_other _ (by decide), State.fld_setFld_other _ _ (by decide), State.fld_setFld_other _ _ (by decide),
    State.fld_setFld_other _ _ (by decide), State.fld_setFld_other _ _ (by decide), State.fld_setFld_same]
  rfl

/-- The figures of a survey stand in the GRT block and above (R106, R131). -/
theorem Surv.figures_frame (v : Surv) (g : Nat) (t : State) : TickFrame [] g t (v.figures t) := by
  unfold Surv.figures
  extract_lets l t1
  have ht1 : TickFrame [] g t t1 :=
    .forIdx (fun c u => (TickFrame.refl [] g u).setHigh (by show 0x20000 ≤ (0x4c00 + 0x4 * c) * 8 + 0; omega) _) (.refl [] g t)
  refine foldl_induct (P := TickFrame [] g t) (fun u x hu => hu.trans ?_) ht1
  split
  · exact (TickFrame.refl [] g u).setHigh (by show 0x20000 ≤ (0x4c80 + 0x4 * x.ent.ctx) * 8 + 0; omega) _
  · exact u.drawFree_frame.setHigh (by show 0x20000 ≤ (0x4c80 + 0x4 * x.ent.ctx) * 8 + 0; omega) _

theorem State.mirrorFill_frame (s : State) (g : Nat) : TickFrame [] g s s.mirrorFill := by
  refine TickFrame.setHigh (f := Reg.MEM_PL_CNT_USED) ?_ (by decide) _
  exact (TickFrame.refl [] g s).same rfl rfl rfl

/-- A survey that passes fills the staging copies alone of the cell memories (R163), and of the fields below the GRT block it writes its
record alone. -/
structure Passed (s t : State) : Prop where
  coef : t.eng.coef = s.eng.coef
  bun : t.eng.bun = s.eng.bun
  low : ∀ f : Fld, f.key < 0x20000 → t.fld f = s.recordPass.fld f
  frame : Within [.regs, .eng, .stg, .mem] s t

theorem State.survPass_passed (s : State) (v : Surv) : Passed s (s.survPass v) := by
  have hin := s.survPass_in v
  have hfig := v.figures_frame 0 s.recordPass
  have heng : (v.figures s.recordPass).eng = s.eng := (v.figures_in _).frame .eng (by decide)
  have hcoef : (v.figures s.recordPass).eng.coef = s.eng.coef := congrArg EngRun.coef heng
  have hbun : (v.figures s.recordPass).eng.bun = s.eng.bun := congrArg EngRun.bun heng
  have hlow : ∀ f : Fld, f.key < 0x20000 → (v.figures s.recordPass).fld f = s.recordPass.fld f :=
    fun f hf => hfig.fields f hf fun _ hq => nomatch hq
  revert hin
  unfold State.survPass
  extract_lets s0 s1
  split
  · exact fun hin => ⟨hcoef, hbun, hlow, hin⟩
  · exact fun hin => ⟨hcoef, hbun, fun f hf => ((State.mirrorFill_frame _ 0).fields f hf fun _ hq => nomatch hq).trans (hlow f hf), hin⟩

/-! The end of a survey. -/

/-- The survey's GO is spent. -/
def State.dropGo (s : State) : State := { s with stg := { s.stg with go := false } }

/-- The state after a survey that has passed (R164). -/
def State.surveyed (s : State) : State := (s.survPass s.surv).setFld Reg.STG_STATUS_STATE sSURVEYED

theorem State.surveyed_passed (s : State) :
    s.surveyed.stgState = sSURVEYED ∧ s.surveyed.eng.coef = s.eng.coef ∧ s.surveyed.eng.bun = s.eng.bun ∧
      s.surveyed.on Reg.STG_STATUS_SURVOK_S = true ∧ s.surveyed.fld Reg.STG_SURV_RESULT_CODE = 0 ∧
      Within [.regs, .eng, .stg, .mem] s s.surveyed := by
  have hp := s.survPass_passed s.surv
  obtain ⟨hok, hcode⟩ := s.recordPass_shows
  refine ⟨State.fld_setFld_same .., hp.coef, hp.bun, ?_, ?_, (State.setFld_in ..).thn (by decide) hp.frame⟩
  · unfold State.surveyed
    rw [State.on_setFld_other _ _ (by decide), State.on, hp.low _ (by decide)]
    exact hok
  · unfold State.surveyed
    rw [State.fld_setFld_other _ _ (by decide), hp.low _ (by decide), hcode]

theorem State.surveyDone_fails {s : State} {f : SurvFail} (h : s.stgState = sSURVEYING) (hc : s.surv.check = some f) :
    s.surveyDone = (s.survFail s.surv.staged f).dropGo.stgRest := by
  unfold State.surveyDone
  simp only [h, hc, ne_eq, not_true_eq_false, if_false]
  rfl

theorem State.surveyDone_passes {s : State} (h : s.stgState = sSURVEYING) (hc : s.surv.check = none) (hgo : s.stg.go = false) :
    s.surveyDone = s.surveyed := by
  unfold State.surveyDone
  simp only [h, hc, hgo, ne_eq, not_true_eq_false, if_false, Bool.false_eq_true]
  rfl

theorem State.surveyDone_late {s : State} (h : s.stgState = sSURVEYING) (hc : s.surv.check = none) (hgo : s.stg.go = true)
    (hfix : s.fixInstant = none) :
    s.surveyDone = (s.surveyed.raise Reg.STG_STATUS_LATE_S).dropGo := by
  unfold State.surveyDone
  simp only [h, hc, hgo, hfix, ne_eq, not_true_eq_false, if_false, if_true]
  rfl

/-- A commit at `T` is pending (R165). -/
def State.pend (s : State) (T : Nat) (img : Bool) : State := { s with stg := { s.stg with commitAt := T, withImg := img, go := false } }

theorem State.surveyDone_pends {s : State} {T : Nat} (h : s.stgState = sSURVEYING) (hc : s.surv.check = none) (hgo : s.stg.go = true)
    (hfix : s.fixInstant = some T) :
    s.surveyDone = (if s.fld Reg.STG_COMMIT_CFG_MODE = 0 then (s.surveyed.pend T s.surv.staged).stamp Reg.STG_COMMIT_AT_LO Reg.STG_COMMIT_AT_HI T
      else s.surveyed.pend T s.surv.staged).setFld Reg.STG_STATUS_STATE sPENDING := by
  unfold State.surveyDone
  simp only [h, hc, hgo, hfix, ne_eq, not_true_eq_false, if_false, if_true]
  rfl

/-- The staging process at rest drafts while a draft is held (R158). -/
theorem State.stgState_stgRest (s : State) :
    s.stgRest.stgState = if s.regs.shadow.isEmpty && s.stg.cdraft.isEmpty then sIDLE else sDRAFTING := by
  unfold State.stgState State.stgRest
  rw [State.fld_setFld_same]
  exact Nat.mod_eq_of_lt (by split <;> decide)

/-- A failed survey returns the state (R164). -/
theorem State.surveyDone_returns {s : State} {f : SurvFail} (h : s.stgState = sSURVEYING) (hc : s.surv.check = some f) :
    let t := s.surveyDone
    t.on Reg.STG_STATUS_SURVFAIL_S = true ∧ t.fld Reg.STG_SURV_RESULT_CODE = f.code % 2 ^ Reg.STG_SURV_RESULT_CODE.width ∧
      t.fld Reg.STG_SURV_ADDR = f.addr % 2 ^ 32 ∧
      t.stgState = (if s.regs.shadow.isEmpty && s.stg.cdraft.isEmpty then sIDLE else sDRAFTING) ∧ t.eng = s.eng ∧
      OnlyFlds (survFailFlds ++ [Reg.STG_STATUS_STATE]) s t := by
  obtain ⟨hflag, hcode, haddr, honly⟩ := s.survFail_reports s.surv.staged f
  have hin := s.survFail_in s.surv.staged f
  have heng : (s.survFail s.surv.staged f).eng = s.eng := hin.frame .eng (by decide)
  have hstg : (s.survFail s.surv.staged f).stg = s.stg := hin.frame .stg (by decide)
  have hshadow : (s.survFail s.surv.staged f).regs.shadow = s.regs.shadow := (hin.frame .drafts (by decide)).2
  rw [State.surveyDone_fails h hc, ← hstg, ← hshadow]
  generalize s.survFail s.surv.staged f = u at hflag hcode haddr honly heng
  have hgone : OnlyFlds (survFailFlds ++ [Reg.STG_STATUS_STATE]) s u.dropGo := (honly.mono (List.subset_append_left _ _)).same rfl
  exact ⟨(State.on_setFld_other u.dropGo _ (by decide)).trans hflag, (State.fld_setFld_other u.dropGo _ (by decide)).trans hcode,
    (State.fld_setFld_other u.dropGo _ (by decide)).trans haddr, u.dropGo.stgState_stgRest, heng, hgone.setFld (by simp) _⟩

/-- A commit that is fixed is pending, with its instant shown where a carrier fixed it (R165, R166). -/
theorem State.surveyDone_commits {s : State} {T : Nat} (h : s.stgState = sSURVEYING) (hc : s.surv.check = none) (hgo : s.stg.go = true)
    (hfix : s.fixInstant = some T) : let t := s.surveyDone
    t.stgState = sPENDING ∧ t.stg.commitAt = T ∧ t.eng.coef = s.eng.coef ∧
      (s.fld Reg.STG_COMMIT_CFG_MODE = 0 → t.fld Reg.STG_COMMIT_AT_LO = T % 2 ^ 32) := by
  obtain ⟨-, hcoef, -⟩ := s.surveyed_passed
  rw [State.surveyDone_pends h hc hgo hfix]
  by_cases hmode : s.fld Reg.STG_COMMIT_CFG_MODE = 0
  · rw [if_pos hmode]
    refine ⟨State.fld_setFld_same .., rfl, hcoef, fun _ => ?_⟩
    rw [State.fld_setFld_other _ _ (by decide), State.fld_stamp, if_neg (by decide), if_pos rfl]
    exact Nat.mod_mod _ _
  · rw [if_neg hmode]
    exact ⟨State.fld_setFld_same .., rfl, hcoef, fun hm => absurd hm hmode⟩

/-- A commit without an instant left is late, and the draft stays surveyed (R166). -/
theorem State.surveyDone_tooLate {s : State} (h : s.stgState = sSURVEYING) (hc : s.surv.check = none) (hgo : s.stg.go = true)
    (hfix : s.fixInstant = none) : let t := s.surveyDone
    t.stgState = sSURVEYED ∧ t.on Reg.STG_STATUS_LATE_S = true := by
  obtain ⟨hstate, -⟩ := s.surveyed_passed
  rw [State.surveyDone_late h hc hgo hfix]
  exact ⟨(State.fld_raise_other s.surveyed (by decide)).trans hstate, State.on_raise_same s.surveyed rfl⟩

/-- In STAMP mode the instant is that of STG_COMMIT_AT, 40,000 C-cycles ahead at the least (R166). -/
theorem State.fixInstant_stamp {s : State} (hmode : s.fld Reg.STG_COMMIT_CFG_MODE = 1) (hrole : s.role ≠ roleSTANDBY) :
    let T := s.fld Reg.STG_COMMIT_AT_LO + 2 ^ 32 * s.fld Reg.STG_COMMIT_AT_HI
    s.fixInstant = if s.now + 40000 ≤ T then some T else none := by
  unfold State.fixInstant State.ownTime
  rw [if_neg (by rw [hmode]; decide), if_neg hrole]

end Sys2Proof.Machine

/-- Settles O24: SURVEY and GO act on the state that notes their write, and the end of a survey by what it finds and by the instant that it
can fix. -/
theorem surveysJudgeTheDraft : Obligations.SurveysJudgeTheDraft := by
  refine ⟨fun s p ht => ?_, fun s p q a v ha hd hpending => ?_, fun s h => ⟨fun f hc => ?_, fun hc hgo => ?_, fun hc hgo T hfix => ?_,
    fun hc hgo hfix => ?_⟩, fun s hmode hrole => State.fixInstant_stamp hmode hrole⟩
  · have hmay : (s.noteWrite p addrStgCtrl).MaySurvey ↔ s.MaySurvey := by unfold State.MaySurvey; rw [s.noteWrite_stgState]
    have hgo := s.mayGo_noteWrite p addrStgCtrl
    refine ⟨fun hok => ⟨_, exec_survey_takes ht, ?_⟩, fun hno => ⟨_, exec_survey_takes ht, ?_⟩, fun hok => ⟨_, exec_commitGo_takes ht, ?_⟩,
      fun hbusy => ⟨_, exec_commitGo_takes ht, ?_⟩⟩
    · rw [State.survey_starts (hmay.2 hok)]
      obtain ⟨hstate, hlocked, hgo, hshadow, honly⟩ := (s.noteWrite p addrStgCtrl).startSurvey_shows false
      exact ⟨hstate, hlocked, hgo, hshadow.trans (s.noteWrite_shadow ..), honly.noted⟩
    · rw [State.survey_refuses (mt hmay.1 hno)]
      exact .of_refuse ..
    · rw [State.commitGo_starts (hgo.2 hok)]
      obtain ⟨hstate, hlocked, hgo, -, honly⟩ := (s.noteWrite p addrStgCtrl).startSurvey_shows true
      exact ⟨hstate, hlocked, hgo, honly.noted⟩
    · rw [State.commitGo_refuses (mt hgo.1 (State.not_mayGo_of_busy hbusy))]
      exact .of_refuse ..
  · rcases hpending with hq | hq
    · exact exec_registerWrite_behind_survey hq rfl p ha hd v
    · exact exec_registerWrite_behind_survey hq rfl p ha hd v
  · exact ⟨_, rfl, State.surveyDone_returns h hc⟩
  · obtain ⟨hstate, hcoef, hbun, hok, hcode, hin⟩ := s.surveyed_passed
    exact ⟨_, congrArg Host.Outcome.next (State.surveyDone_passes h hc hgo), hstate, hok, hcode, hcoef, hbun,
      (hin.frame .drafts (by decide)).2, hin.frame .grid (by decide), hin.frame .pwm (by decide)⟩
  · exact ⟨_, rfl, State.surveyDone_commits h hc hgo hfix⟩
  · exact ⟨_, rfl, State.surveyDone_tooLate h hc hgo hfix⟩

end

/-! Calibration and polarity checks. -/

section
open Sys2Proof Sys2Proof.Machine

namespace Sys2Proof.Machine

/-! A write of which the action is refused (R15). -/

theorem State.refuse_records (s : State) (p : Port) (a : Nat) : let t := s.refuse p a
    t.on Reg.SYS_EVENT_WRREJ_S = true ∧ t.fld Reg.SYS_REJ_ADDR = a % 2 ^ 32 ∧ t.fld Reg.SYS_REJ_INFO_PORT = Port.code p ∧
      t.fld Reg.SYS_REJ_INFO_VALID = 1 := by
  unfold State.refuse
  refine ⟨?_, ?_, ?_, ?_⟩
  · rw [State.on_setFld_other _ _ (by decide), State.on_setFld_other _ _ (by decide), State.on_setFld_other _ _ (by decide)]
    exact s.on_raise_same rfl
  · rw [State.fld_setFld_other _ _ (by decide), State.fld_setFld_other _ _ (by decide), State.fld_setFld_same]; rfl
  · rw [State.fld_setFld_other _ _ (by decide), State.fld_setFld_same]
    cases p <;> rfl
  · rw [State.fld_setFld_same]; rfl

/-- The record of an action that is refused after its write was noted and gave some fields their values. -/
theorem RefusesField.of_refuse {s u : State} {p : Port} {a : Nat} {fs : List Fld} (h : OnlyFlds fs (s.noteWrite p a) u)
    (hin : Within [.regs] (s.noteWrite p a) u) : RefusesField s (u.refuse p a) p a fs := by
  obtain ⟨hflag, haddr, hport, hvalid⟩ := u.refuse_records p a
  exact ⟨hflag, haddr, hport, hvalid, ((s.noteWrite_fields p a).mono (by simp)).trans
    ((h.mono (List.subset_append_right _ _)).trans ((u.refuse_fields p a).mono (by simp))),
    (u.refuse_in p a).thn (by decide) (hin.thn (by decide) (s.noteWrite_in p a))⟩

/-! The command word of a calibration. -/

theorem exec_calZero_takes {s : State} {p : Port} (h : s.Takes p Reg.ADC_CAL_CMD_START.addr) (i : Fin 128) (n : Fin 8) :
    exec (.calZero p i n) s = .next ((s.noteWrite p Reg.ADC_CAL_CMD_START.addr).calMeasure p i 0 n) :=
  congrArg Host.Outcome.next (State.portCmd_takes h _ _)

theorem exec_calSpan_takes {s : State} {p : Port} (h : s.Takes p Reg.ADC_CAL_CMD_START.addr) (i : Fin 128) (n : Fin 8) :
    exec (.calSpan p i n) s = .next ((s.noteWrite p Reg.ADC_CAL_CMD_START.addr).calMeasure p i 1 n) :=
  congrArg Host.Outcome.next (State.portCmd_takes h _ _)

theorem exec_calCompute_takes {s : State} {p : Port} (h : s.Takes p Reg.ADC_CAL_CMD_START.addr) (i : Fin 128) (n : Fin 8) :
    exec (.calCompute p i n) s = .next ((s.noteWrite p Reg.ADC_CAL_CMD_START.addr).calDraft p i n) :=
  congrArg Host.Outcome.next (State.portCmd_takes h _ _)

/-- The fields of ADC_CAL_CMD that a write sets. -/
def calCmdFlds : List Fld := [Reg.ADC_CAL_CMD_INPUT, Reg.ADC_CAL_CMD_POINT, Reg.ADC_CAL_CMD_NLOG]

/-- The fields that a command of a calibration may write. -/
def calFlds : List Fld :=
  calCmdFlds ++ [Reg.ADC_CAL_STAT_STATE, Reg.ADC_CAL_STAT_FAIL, Reg.ADC_STATUS_CALFAIL_S, Reg.ADC_STATUS_CALDONE_S, Reg.STG_STATUS_STATE]

theorem State.calFields_only (s : State) (i pt n : Nat) : OnlyFlds calCmdFlds s (s.calFields i pt n) :=
  (((OnlyFlds.refl _ s).setFld (by simp [calCmdFlds]) _).setFld (by simp [calCmdFlds]) _).setFld (by simp [calCmdFlds]) _

theorem State.calFields_shows (s : State) (i : Fin 128) {pt : Nat} (hpt : pt < 4) (n : Fin 8) : let t := s.calFields i pt n
    t.fld Reg.ADC_CAL_CMD_INPUT = i.val ∧ t.fld Reg.ADC_CAL_CMD_POINT = pt ∧ t.fld Reg.ADC_CAL_CMD_NLOG = n.val := by
  unfold State.calFields
  refine ⟨?_, ?_, ?_⟩
  · rw [State.fld_setFld_other _ _ (by decide), State.fld_setFld_other _ _ (by decide), State.fld_setFld_same]
    exact Nat.mod_eq_of_lt i.isLt
  · rw [State.fld_setFld_other _ _ (by decide), State.fld_setFld_same]
    exact Nat.mod_eq_of_lt hpt
  · rw [State.fld_setFld_same]
    exact Nat.mod_eq_of_lt n.isLt

/-- A refused action leaves the command word as the write gave it (R15). -/
theorem State.calFields_refused (s : State) (p : Port) (i : Fin 128) {pt : Nat} (hpt : pt < 4) (n : Fin 8) :
    let a := Reg.ADC_CAL_CMD_START.addr
    let t := ((s.noteWrite p a).calFields i pt n).refuse p a
    RefusesField s t p a calCmdFlds ∧ t.fld Reg.ADC_CAL_CMD_INPUT = i.val ∧ t.fld Reg.ADC_CAL_CMD_POINT = pt ∧
      t.fld Reg.ADC_CAL_CMD_NLOG = n.val := by
  intro a t
  obtain ⟨hinput, hpoint, hnlog⟩ := (s.noteWrite p a).calFields_shows i hpt n
  have hkept := ((s.noteWrite p a).calFields i pt n).refuse_fields p a
  exact ⟨.of_refuse (State.calFields_only _ _ _ _) (State.calFields_in ..), (hkept _ (by decide)).trans hinput, (hkept _ (by decide)).trans hpoint,
    (hkept _ (by decide)).trans hnlog⟩

/-! ZERO and SPAN. -/

theorem State.calEntry_congr {s t : State} (h : t.adc = s.adc) (i : Nat) : t.calEntry i = s.calEntry i := by
  unfold State.calEntry; rw [h]

/-- A step that fails names its reason and ends the measurement (R207). -/
theorem State.calFail_shows (s : State) {code : Nat} (hcode : code < 16) : let t := s.calFail code
    t.fld Reg.ADC_CAL_STAT_STATE = 3 ∧ t.fld Reg.ADC_CAL_STAT_FAIL = code ∧ t.on Reg.ADC_STATUS_CALFAIL_S = true ∧ t.adc.cal = none ∧
      t.regs.shadow = s.regs.shadow ∧
      OnlyFlds [Reg.ADC_CAL_STAT_STATE, Reg.ADC_CAL_STAT_FAIL, Reg.ADC_STATUS_CALFAIL_S] s t := by
  unfold State.calFail
  refine ⟨?_, ?_, State.on_raise_same _ rfl, rfl, rfl,
    ((((OnlyFlds.refl _ s).same (u := { s with adc := { s.adc with cal := none } }) rfl).setFld (by simp) _).setFld (by simp) _).raise (by simp)⟩
  · rw [State.fld_raise_other _ (by decide), State.fld_setFld_other _ _ (by decide), State.fld_setFld_same]; rfl
  · rw [State.fld_raise_other _ (by decide), State.fld_setFld_same]
    exact Nat.mod_eq_of_lt hcode

/-- The measurement that ZERO or SPAN begins (R206). -/
def calBegun (i pt n : Nat) (r : EntRec) : CalRun :=
  { input := i, span := decide (pt = 1), left := 2 ^ n, need := 2 ^ n, shift := r.shift, entry := r.entry }

def State.beginCal (s : State) (m : CalRun) : State :=
  ({ s with adc := { s.adc with cal := some m } }.setFld Reg.ADC_CAL_STAT_STATE 1).setFld Reg.ADC_CAL_STAT_FAIL 0

theorem State.beginCal_shows (s : State) (m : CalRun) : let t := s.beginCal m
    t.fld Reg.ADC_CAL_STAT_STATE = 1 ∧ t.adc.cal = some m ∧ OnlyFlds [Reg.ADC_CAL_STAT_STATE, Reg.ADC_CAL_STAT_FAIL] s t :=
  ⟨(State.fld_setFld_other _ _ (by decide)).trans (State.fld_setFld_same ..), rfl,
    (((OnlyFlds.refl _ s).same (u := { s with adc := { s.adc with cal := some m } }) rfl).setFld (by simp) _).setFld (by simp) _⟩

theorem State.calMeasure_refuses {s : State} (h : s.fld Reg.ADC_CAL_STAT_STATE = 1) (p : Port) (i pt n : Nat) :
    s.calMeasure p i pt n = (s.calFields i pt n).refuse p Reg.ADC_CAL_CMD_START.addr := if_pos h

theorem State.calMeasure_free {s : State} (h : s.fld Reg.ADC_CAL_STAT_STATE ≠ 1) (p : Port) (i pt n : Nat) :
    s.calMeasure p i pt n = match s.calEntry i with
      | none => (s.calFields i pt n).calFail 1
      | some r => (s.calFields i pt n).beginCal (calBegun i pt n r) := by
  have hentry : (s.calFields i pt n).calEntry i = s.calEntry i := State.calEntry_congr rfl i
  unfold State.calMeasure
  rw [← hentry]
  exact if_neg h

/-- ZERO and SPAN measure the lowest entry of the input, and fail without one (R206, R207). -/
theorem State.calMeasure_shows {s : State} (h : s.fld Reg.ADC_CAL_STAT_STATE ≠ 1) (p : Port) (i pt n : Nat) : let t := s.calMeasure p i pt n
    (∀ r, s.calEntry i = some r → t.fld Reg.ADC_CAL_STAT_STATE = 1 ∧ t.adc.cal = some (calBegun i pt n r)) ∧
      (s.calEntry i = none → t.fld Reg.ADC_CAL_STAT_STATE = 3 ∧ t.fld Reg.ADC_CAL_STAT_FAIL = 1 ∧ t.on Reg.ADC_STATUS_CALFAIL_S = true ∧
        t.adc.cal = none) ∧
      OnlyFlds calFlds s t := by
  have hcmd : OnlyFlds calFlds s (s.calFields i pt n) := (s.calFields_only i pt n).mono (List.subset_append_left _ _)
  rw [State.calMeasure_free h]
  cases hentry : s.calEntry i with
  | none =>
    obtain ⟨hstate, hreason, hflag, hcal, -, honly⟩ := (s.calFields i pt n).calFail_shows (code := 1) (by decide)
    exact ⟨fun r hr => (nomatch hr), fun _ => ⟨hstate, hreason, hflag, hcal⟩, hcmd.trans (honly.mono (by simp [calFlds]))⟩
  | some r =>
    obtain ⟨hstate, hcal, honly⟩ := (s.calFields i pt n).beginCal_shows (calBegun i pt n r)
    refine ⟨fun q hq => ?_, fun hnone => (nomatch hnone), hcmd.trans (honly.mono (by simp [calFlds]))⟩
    cases hq
    exact ⟨hstate, hcal⟩

/-! COMPUTE. -/

theorem State.calCompute_congr {s t : State} (h : t.adc = s.adc)
    (hf : ∀ f ∈ [Reg.ADC_CAL_M0, Reg.ADC_CAL_M1, Reg.ADC_CAL_REF], t.fld f = s.fld f) (i : Nat) : t.calCompute i = s.calCompute i := by
  unfold State.calCompute State.sfld
  rw [State.calEntry_congr h, h, hf _ (by simp), hf _ (by simp), hf _ (by simp)]

/-- The reasons of COMPUTE are codes of FAIL (R207). -/
theorem State.calCompute_code (s : State) (i : Nat) : (s.calCompute i).1 < 16 := by
  unfold State.calCompute
  dsimp only
  repeat' split
  all_goals simp only [Nat.reduceLT, Nat.ofNat_pos]

/-- The drafts of COMPUTE (R207). -/
def State.draftCal (s : State) (i : Nat) (ofs g : Int) : State :=
  (s.draftFld (Reg.ADC_CAL_OFS i) (unsignedOf 16 ofs)).draftFld (Reg.ADC_CAL_G i) (unsignedOf 16 g)

/-- The record of COMPUTE where it drafts (R207). -/
def State.calDrafted (s : State) : State :=
  ((s.stgRest.setFld Reg.ADC_CAL_STAT_STATE 2).setFld Reg.ADC_CAL_STAT_FAIL 0).raise Reg.ADC_STATUS_CALDONE_S

theorem State.calDraft_refuses {s : State} (h : s.fld Reg.ADC_CAL_STAT_STATE = 1 ∨ s.locked = true) (p : Port) (i n : Nat) :
    s.calDraft p i n = (s.calFields i 2 n).refuse p Reg.ADC_CAL_CMD_START.addr := if_pos h

theorem State.calDraft_free {s : State} (h : s.fld Reg.ADC_CAL_STAT_STATE ≠ 1) (hl : s.locked = false) (p : Port) (i n : Nat) :
    s.calDraft p i n = if (s.calCompute i).1 ≠ 0 then (s.calFields i 2 n).calFail (s.calCompute i).1
      else ((s.calFields i 2 n).draftCal i (s.calCompute i).2.1 (s.calCompute i).2.2).calDrafted := by
  have hcompute : (s.calFields i 2 n).calCompute i = s.calCompute i :=
    State.calCompute_congr (s := s) (t := s.calFields i 2 n) rfl (fun f hf => s.calFields_only i 2 n f (by revert f; decide)) i
  unfold State.calDraft
  rw [← hcompute]
  exact if_neg (by rintro (hb | hb); exacts [h hb, absurd (hl.symm.trans hb) (by decide)])

theorem calDraft_keys (i : Nat) : (Reg.ADC_CAL_OFS i).key ≠ (Reg.ADC_CAL_G i).key ∧
    ∀ f ∈ [Reg.ADC_CAL_OFS i, Reg.ADC_CAL_G i], f.key ≠ Reg.STG_STATUS_STATE.key ∧ f.key ≠ Reg.ADC_CAL_STAT_STATE.key ∧
      f.key ≠ Reg.ADC_CAL_STAT_FAIL.key ∧ f.key ≠ Reg.ADC_STATUS_CALDONE_S.key := by
  simp only [Fld.key, Reg.ADC_CAL_OFS, Reg.ADC_CAL_G, Reg.STG_STATUS_STATE, Reg.ADC_CAL_STAT_STATE, Reg.ADC_CAL_STAT_FAIL,
    Reg.ADC_STATUS_CALDONE_S, List.forall_mem_cons, List.not_mem_nil, false_imp_iff, implies_true, and_true]
  omega

theorem State.shadowFld_raise_other (s : State) {f g : Fld} (h : g.key ≠ f.key) : (s.raise f).shadowFld g = s.shadowFld g :=
  s.shadowFld_setFld_other _ h

/-- The record leaves the drafts. -/
theorem State.calDrafted_shadow (s : State) {i : Nat} {f : Fld} (hf : f ∈ [Reg.ADC_CAL_OFS i, Reg.ADC_CAL_G i]) :
    s.calDrafted.shadowFld f = s.shadowFld f := by
  obtain ⟨-, hkeys⟩ := calDraft_keys i
  obtain ⟨hstg, hstate, hfail, hdone⟩ := hkeys f hf
  unfold State.calDrafted State.stgRest
  rw [State.shadowFld_raise_other _ hdone, State.shadowFld_setFld_other _ _ hfail, State.shadowFld_setFld_other _ _ hstate,
    State.shadowFld_setFld_other _ _ hstg]

theorem State.calDrafted_shows (s : State) : let t := s.calDrafted
    t.on Reg.ADC_STATUS_CALDONE_S = true ∧ t.fld Reg.ADC_CAL_STAT_STATE = 2 ∧
      OnlyFlds [Reg.ADC_CAL_STAT_STATE, Reg.ADC_CAL_STAT_FAIL, Reg.ADC_STATUS_CALDONE_S, Reg.STG_STATUS_STATE] s t := by
  unfold State.calDrafted
  refine ⟨State.on_raise_same _ rfl, ?_, ?_⟩
  · rw [State.fld_raise_other _ (by decide), State.fld_setFld_other _ _ (by decide), State.fld_setFld_same]; rfl
  · unfold State.stgRest
    exact ((((OnlyFlds.refl _ s).setFld (by simp) _).setFld (by simp) _).setFld (by simp) _).raise (by simp)

/-- COMPUTE drafts OFS and G, or names the reason of its failure (R207). -/
theorem State.calDraft_shows {s : State} (h : s.fld Reg.ADC_CAL_STAT_STATE ≠ 1) (hl : s.locked = false) (p : Port) (i n : Nat) :
    let t := s.calDraft p i n
    OnlyFlds calFlds s t ∧
      ((s.calCompute i).1 = 0 → t.shadowFld (Reg.ADC_CAL_OFS i) = unsignedOf 16 (s.calCompute i).2.1 % 2 ^ 16 ∧
        t.shadowFld (Reg.ADC_CAL_G i) = unsignedOf 16 (s.calCompute i).2.2 % 2 ^ 16 ∧ t.on Reg.ADC_STATUS_CALDONE_S = true ∧
        t.fld Reg.ADC_CAL_STAT_STATE = 2) ∧
      ((s.calCompute i).1 ≠ 0 → t.fld Reg.ADC_CAL_STAT_FAIL = (s.calCompute i).1 ∧ t.fld Reg.ADC_CAL_STAT_STATE = 3 ∧
        t.regs.shadow = s.regs.shadow) := by
  have hcmd : OnlyFlds calFlds s (s.calFields i 2 n) := (s.calFields_only i 2 n).mono (List.subset_append_left _ _)
  rw [State.calDraft_free h hl]
  by_cases hcode : (s.calCompute i).1 = 0
  · rw [if_neg (not_not_intro hcode)]
    obtain ⟨hdone, hstate, honly⟩ := ((s.calFields i 2 n).draftCal i (s.calCompute i).2.1 (s.calCompute i).2.2).calDrafted_shows
    have hdraft : OnlyFlds calFlds (s.calFields i 2 n) ((s.calFields i 2 n).draftCal i (s.calCompute i).2.1 (s.calCompute i).2.2) :=
      .of_eff rfl
    refine ⟨(hcmd.trans hdraft).trans (honly.mono (by simp [calFlds])), fun _ => ⟨?_, ?_, hdone, hstate⟩, fun hne => absurd hcode hne⟩
    · rw [State.calDrafted_shadow _ (i := i) (by simp)]
      exact (State.shadowFld_draftFld_other _ _ (calDraft_keys i).1).trans (State.shadowFld_draftFld_same ..)
    · rw [State.calDrafted_shadow _ (i := i) (by simp)]
      exact State.shadowFld_draftFld_same ..
  · rw [if_pos hcode]
    obtain ⟨hstate, hreason, -, -, hshadow, honly⟩ := (s.calFields i 2 n).calFail_shows (s.calCompute_code i)
    exact ⟨hcmd.trans (honly.mono (by simp [calFlds])), fun hzero => absurd hzero hcode, fun _ => ⟨hreason, hstate, hshadow⟩⟩

/-! The end of a measurement. -/

theorem exec_calMeasureDone_eq {s : State} {m : CalRun} (h : s.adc.cal = some m) :
    exec .calMeasureDone s = .next (if m.bad then s.calFail 2 else if m.left = 0 then s.calDone m else s) := by
  show Host.Outcome.next _ = _
  rw [h]

/-- The register of a point (R206). -/
def calPoint (span : Bool) : Fld := if span then Reg.ADC_CAL_M1 else Reg.ADC_CAL_M0

theorem calPoint_keys : ∀ span, (calPoint span).width = 32 ∧ (calPoint span).key ≠ Reg.ADC_CAL_STAT_STATE.key ∧
    (calPoint span).key ≠ Reg.ADC_STATUS_CALDONE_S.key := by decide

/-- A measurement that ends gives its point, and the input holds it (R206). -/
theorem State.calDone_shows (s : State) (m : CalRun) : let t := s.calDone m
    t.fld Reg.ADC_CAL_STAT_STATE = 2 ∧ t.adc.cal = none ∧ t.on Reg.ADC_STATUS_CALDONE_S = true ∧
      t.fld (calPoint m.span) = unsignedOf 32 (roundDiv (8 * m.total) (m.need * 2 ^ m.shift)) % 2 ^ 32 ∧
      m.input ∈ (if m.span then t.adc.spanDone else t.adc.zeroDone) := by
  have hput (l : List Nat) : m.input ∈ (if l.contains m.input then l else m.input :: l) := by
    split
    · next hin => exact List.contains_iff_mem.1 hin
    · exact List.mem_cons_self ..
  unfold State.calDone
  extract_lets v put t
  refine ⟨?_, rfl, State.on_raise_same _ rfl, ?_, ?_⟩
  · rw [State.fld_raise_other _ (by decide), State.fld_setFld_same]; rfl
  · obtain ⟨hwidth, hstate, hdone⟩ := calPoint_keys m.span
    rw [State.fld_raise_other _ hdone, State.fld_setFld_other _ _ hstate, ← hwidth]
    exact State.fld_setFld_same ..
  · show m.input ∈ (if m.span then (if m.span then put s.adc.spanDone else s.adc.spanDone)
      else (if m.span then s.adc.zeroDone else put s.adc.zeroDone))
    cases m.span with
    | true => exact hput s.adc.spanDone
    | false => exact hput s.adc.zeroDone

/-! The start of a polarity check. -/

theorem exec_polarityCheck_takes {s : State} {p : Port} (h : s.Takes p Reg.ADC_POL_CFG_START.addr) (i : Fin 128) (kind : Bool) (ref : Fin 128)
    (w : Fin 16) : exec (.polarityCheck p i kind ref w) s = .next ((s.noteWrite p Reg.ADC_POL_CFG_START.addr).polWrite p i kind ref w true) :=
  congrArg Host.Outcome.next (State.portCmd_takes h _ _)

/-- A polarity check may start: W in its range, none under way, and for a generator one that feeds (R208, R331). -/
def State.MayCheck (s : State) (kind : Bool) (ref w : Nat) : Prop :=
  8 ≤ w ∧ s.on Reg.ADC_POL_STAT_BUSY = false ∧ (kind = true → ref < 8 ∧ (s.genState ref = gBURST ∨ s.genState ref = gTUNE))

theorem genState_blk : ∀ g : Fin 128, (Reg.SND_G_STATUS_STATE g).blk ≠ 0 := by decide

theorem State.mayCheck_noteWrite (s : State) (p : Port) (a : Nat) (kind : Bool) (ref : Fin 128) (w : Nat) :
    (s.noteWrite p a).MayCheck kind ref w ↔ s.MayCheck kind ref w := by
  unfold State.MayCheck State.genState
  rw [s.noteWrite_on_block p a (by decide), s.noteWrite_fld_block p a (genState_blk ref)]

/-- The fields of ADC_POL_CFG but W, as a write leaves them. -/
def State.polSource (s : State) (i : Nat) (kind : Bool) (ref : Nat) : State :=
  ((s.setFld Reg.ADC_POL_CFG_INPUT i).setFld Reg.ADC_POL_CFG_REF_KIND (asNat kind)).setFld Reg.ADC_POL_CFG_REF ref

/-- The fields of ADC_POL_CFG. -/
def polCfgFlds : List Fld := [Reg.ADC_POL_CFG_INPUT, Reg.ADC_POL_CFG_REF_KIND, Reg.ADC_POL_CFG_REF, Reg.ADC_POL_CFG_W]

theorem State.polSource_only (s : State) (i : Nat) (kind : Bool) (ref : Nat) : OnlyFlds polCfgFlds s (s.polSource i kind ref) :=
  (((OnlyFlds.refl _ s).setFld (by simp [polCfgFlds]) _).setFld (by simp [polCfgFlds]) _).setFld (by simp [polCfgFlds]) _

theorem State.polSource_in (s : State) (i : Nat) (kind : Bool) (ref : Nat) : Within [.regs] s (s.polSource i kind ref) :=
  (State.setFld_in ..).thn (by decide) ((State.setFld_in ..).thn (by decide) (s.setFld_in ..))

theorem State.polSource_w (s : State) (i : Nat) (kind : Bool) (ref : Nat) :
    (s.polSource i kind ref).fld Reg.ADC_POL_CFG_W = s.fld Reg.ADC_POL_CFG_W := by
  unfold State.polSource
  rw [State.fld_setFld_other _ _ (by decide), State.fld_setFld_other _ _ (by decide), State.fld_setFld_other _ _ (by decide)]

theorem State.polFields_wide {w : Nat} (h : 8 ≤ w) (s : State) (p : Port) (i : Nat) (kind : Bool) (ref : Nat) :
    s.polFields p i kind ref w = (s.polSource i kind ref).setFld Reg.ADC_POL_CFG_W w := if_neg (not_lt.2 h)

theorem State.polWrite_narrow {w : Nat} (h : w < 8) (s : State) (p : Port) (i : Nat) (kind : Bool) (ref : Nat) :
    s.polWrite p i kind ref w true = (s.polSource i kind ref).refuse p Reg.ADC_POL_CFG_START.addr := by
  unfold State.polWrite State.polFields
  extract_lets gen u t
  rw [if_pos (.inr h)]
  exact if_pos h

/-- What bars a check whose W is in its range (R208, R331). -/
theorem State.not_mayCheck_iff {w : Nat} (h : 8 ≤ w) (s : State) (kind : Bool) (ref : Nat) :
    (s.on Reg.ADC_POL_STAT_BUSY = true ∨ (kind = true ∧ (8 ≤ ref ∨ (s.genState ref ≠ gBURST ∧ s.genState ref ≠ gTUNE)))) ↔
      ¬ s.MayCheck kind ref w := by
  unfold State.MayCheck
  rw [← Bool.not_eq_true]
  by_cases hk : kind = true
  · simp only [hk, h, true_and, true_imp_iff, ← not_lt]
    tauto
  · simp only [hk, h, true_and]
    tauto

theorem State.polWrite_barred {w : Nat} (h : 8 ≤ w) {s : State} {kind : Bool} {ref : Nat} (hno : ¬ s.MayCheck kind ref w) (p : Port) (i : Nat) :
    s.polWrite p i kind ref w true = ((s.polSource i kind ref).setFld Reg.ADC_POL_CFG_W w).refuse p Reg.ADC_POL_CFG_START.addr := by
  unfold State.polWrite
  rw [State.polFields_wide h]
  extract_lets gen t
  rw [if_neg (by simp [h]), if_pos ((State.not_mayCheck_iff h s kind ref).2 hno)]

/-- The check that a START begins (R208). -/
def polBegun (s : State) (i : Nat) (kind : Bool) (ref w : Nat) : PolRun :=
  { input := i, refKind := asNat kind, ref := ref, need := 2 ^ w, next := s.now + 10000 }

def State.beginPol (s : State) (r : PolRun) : State :=
  ({ s with adc := { s.adc with pol := some r } }.setFld Reg.ADC_POL_STAT_BUSY 1).setFld Reg.ADC_POL_STAT_VERDICT 0

theorem State.beginPol_shows (s : State) (r : PolRun) : let t := s.beginPol r
    t.on Reg.ADC_POL_STAT_BUSY = true ∧ t.fld Reg.ADC_POL_STAT_VERDICT = 0 ∧ t.adc.pol = some r :=
  ⟨(State.on_setFld_other _ _ (by decide)).trans (State.on_setFld_one _ rfl), State.fld_setFld_same .., rfl⟩

theorem State.polWrite_starts {s : State} {kind : Bool} {ref w : Nat} (h : s.MayCheck kind ref w) (p : Port) (i : Nat) :
    s.polWrite p i kind ref w true = ((s.polSource i kind ref).setFld Reg.ADC_POL_CFG_W w).beginPol (polBegun s i kind ref w) := by
  obtain ⟨hw, -⟩ := id h
  unfold State.polWrite
  rw [State.polFields_wide hw]
  extract_lets gen t
  rw [if_neg (by simp [hw]), if_neg fun hbar => (State.not_mayCheck_iff hw s kind ref).1 hbar h]
  rfl

/-- A START that is refused: W below 8 keeps the field, and else the fields take their values all the same (R15, R208). -/
theorem State.polWrite_refuses {s : State} {p : Port} {kind : Bool} {ref w : Nat} (hw : w < 16)
    (hno : ¬ (s.noteWrite p Reg.ADC_POL_CFG_START.addr).MayCheck kind ref w) (i : Nat) :
    let t := (s.noteWrite p Reg.ADC_POL_CFG_START.addr).polWrite p i kind ref w true
    RefusesField s t p Reg.ADC_POL_CFG_START.addr polCfgFlds ∧
      t.fld Reg.ADC_POL_CFG_W = (if w < 8 then s.fld Reg.ADC_POL_CFG_W else w) := by
  set u := s.noteWrite p Reg.ADC_POL_CFG_START.addr with hu
  have honly := u.polSource_only i kind ref
  have hin := u.polSource_in i kind ref
  by_cases hnarrow : w < 8
  · rw [State.polWrite_narrow hnarrow, if_pos hnarrow]
    refine ⟨.of_refuse honly hin, ?_⟩
    rw [State.refuse_fields _ p _ _ (by decide), State.polSource_w]
    exact s.noteWrite_fld_block p _ (by decide)
  · rw [State.polWrite_barred (not_lt.1 hnarrow) hno, if_neg hnarrow]
    refine ⟨.of_refuse (honly.setFld (by simp [polCfgFlds]) _) ((State.setFld_in ..).thn (by decide) hin), ?_⟩
    rw [State.refuse_fields _ p _ _ (by decide), State.fld_setFld_same]
    exact Nat.mod_eq_of_lt hw

/-! The samples and the verdict. -/

theorem exec_polaritySample_due {s : State} {r : PolRun} (h : s.adc.pol = some r) (hmore : r.n < r.need) (hdue : r.next ≤ s.now) :
    exec .polaritySample s = .next (s.polSample r) := by
  show Host.Outcome.next (match s.adc.pol with | none => s | some r => _) = _
  rw [h]
  exact congrArg Host.Outcome.next (if_pos ⟨hmore, hdue⟩)

/-- A tick takes its two values, or begins the count again (R208). -/
theorem State.polSample_shows (s : State) (r : PolRun) : ∃ q, (s.polSample r).adc.pol = some q ∧ (s.polSample r).regs = s.regs ∧
    q.next = r.next + 10000 ∧
    (∀ x y, s.polPair r = some (x, y) → q.n = r.n + 1 ∧ q.sx = r.sx + x ∧ q.sr = r.sr + y ∧ q.sxr = r.sxr + x * y) ∧
    (s.polPair r = none → q.n = 0 ∧ q.sx = 0) := by
  unfold State.polSample
  cases hpair : s.polPair r with
  | none => exact ⟨_, rfl, rfl, rfl, fun _ _ h => (nomatch h), fun _ => ⟨rfl, rfl⟩⟩
  | some z =>
    refine ⟨_, rfl, rfl, rfl, fun x y h => ?_, fun h => (nomatch h)⟩
    cases h
    exact ⟨rfl, rfl, rfl, rfl⟩

theorem exec_polarityDone_eq {s : State} {r : PolRun} (h : s.adc.pol = some r) :
    exec .polarityDone s = .next (if r.need ≤ r.n then s.polDone r else s) := by
  show Host.Outcome.next (match s.adc.pol with | none => s | some r => _) = _
  rw [h]

theorem verdictOf_lt (c : Int) : verdictOf c < 4 := by
  unfold verdictOf
  split
  · decide
  · split <;> decide

/-- The report of CORR and of the verdict by it (R208). -/
def State.polReport (s : State) (c : Int) : State :=
  ((({ s with adc := { s.adc with pol := none } }.setSfld Reg.ADC_POL_CORR c).setFld Reg.ADC_POL_STAT_BUSY 0).setFld Reg.ADC_POL_STAT_VERDICT
    (verdictOf c)).raise Reg.ADC_STATUS_POLDONE_S

theorem State.polDone_eq (s : State) (r : PolRun) : s.polDone r = match r.corr with
    | some c => s.polReport c
    | none => s.drawFree.2.polReport (Config.freeWord s.free).toInt := by
  unfold State.polDone
  cases r.corr <;> rfl

theorem State.polReport_shows (s : State) (c : Int) : let t := s.polReport c
    t.adc.pol = none ∧ t.on Reg.ADC_POL_STAT_BUSY = false ∧ t.on Reg.ADC_STATUS_POLDONE_S = true ∧
      t.fld Reg.ADC_POL_CORR = unsignedOf 32 c % 2 ^ 32 ∧ t.fld Reg.ADC_POL_STAT_VERDICT = verdictOf c := by
  unfold State.polReport
  refine ⟨rfl, ?_, State.on_raise_same _ rfl, ?_, ?_⟩
  · rw [State.on_raise_other _ (by decide), State.on_setFld_other _ _ (by decide)]
    exact State.on_setFld_zero ..
  · rw [State.fld_raise_other _ (by decide), State.fld_setFld_other _ _ (by decide), State.fld_setFld_other _ _ (by decide),
      State.fld_setSfld, if_pos rfl]
    rfl
  · rw [State.fld_raise_other _ (by decide), State.fld_setFld_same]
    exact Nat.mod_eq_of_lt (verdictOf_lt c)

/-- The end of a check: CORR of the samples, or a free value where they stand still, and the verdict by it (R208). -/
theorem State.polDone_shows (s : State) (r : PolRun) : let t := s.polDone r
    t.adc.pol = none ∧ t.on Reg.ADC_POL_STAT_BUSY = false ∧ t.on Reg.ADC_STATUS_POLDONE_S = true ∧
      (∀ c, r.corr = some c → t.fld Reg.ADC_POL_CORR = unsignedOf 32 c % 2 ^ 32 ∧ t.fld Reg.ADC_POL_STAT_VERDICT = verdictOf c) ∧
      (r.corr = none → t.fld Reg.ADC_POL_STAT_VERDICT = verdictOf (Config.freeWord s.free).toInt) := by
  rw [State.polDone_eq]
  cases hcorr : r.corr with
  | some c =>
    obtain ⟨hpol, hbusy, hdone, hvalue, hverdict⟩ := s.polReport_shows c
    refine ⟨hpol, hbusy, hdone, fun d hd => ?_, fun hnone => (nomatch hnone)⟩
    cases hd
    exact ⟨hvalue, hverdict⟩
  | none =>
    obtain ⟨hpol, hbusy, hdone, -, hverdict⟩ := s.drawFree.2.polReport_shows (Config.freeWord s.free).toInt
    exact ⟨hpol, hbusy, hdone, fun d hd => (nomatch hd), fun _ => hverdict⟩

end Sys2Proof.Machine

/-- Settles O43: the commands act on the state that notes their write, where the entries, the points and the lock are those before it; the ends go
by the record of the measurement and of the check. -/
theorem calibrationAndPolarityChecks : Obligations.CalibrationAndPolarityChecks := by
  refine ⟨?_, fun s m hm => ?_, fun s p i ref kind w ht => ?_, fun s r hr => ?_⟩
  · intro s p i n ht busy begun none' flds
    set u := s.noteWrite p Reg.ADC_CAL_CMD_START.addr with hu
    have hbusy : u.fld Reg.ADC_CAL_STAT_STATE = s.fld Reg.ADC_CAL_STAT_STATE := s.noteWrite_fld_block p _ (by decide)
    have hlock : u.locked = s.locked := s.locked_noteWrite ..
    have hentry : u.calEntry i = s.calEntry i := State.calEntry_congr (s.noteWrite_adc ..) i
    have hcompute : u.calCompute i = s.calCompute i :=
      State.calCompute_congr (s.noteWrite_adc ..) (fun f hf => s.noteWrite_fld_block p _ (by revert f; decide)) i
    have hmeasure (hfree : ¬ busy) (pt : Nat) := State.calMeasure_shows (s := u) (by rwa [hbusy]) p i pt n
    refine ⟨fun hfree => ⟨_, exec_calZero_takes ht i n, ?_⟩, fun hfree => ⟨_, exec_calSpan_takes ht i n, ?_⟩,
      fun hb => ⟨_, exec_calZero_takes ht i n, ?_⟩,
      fun hb => ⟨_, exec_calSpan_takes ht i n, ?_⟩, fun hb => ⟨_, exec_calCompute_takes ht i n, ?_⟩,
      fun hfree hl => ⟨_, exec_calCompute_takes ht i n, ?_⟩⟩
    · obtain ⟨hbegun, hnone, honly⟩ := hmeasure hfree 0
      exact ⟨fun r hr => hbegun r (hentry.trans hr), fun hr => hnone (hentry.trans hr), honly.noted⟩
    · obtain ⟨hbegun, hnone, honly⟩ := hmeasure hfree 1
      exact ⟨fun r hr => hbegun r (hentry.trans hr), fun hr => hnone (hentry.trans hr), honly.noted⟩
    · rw [State.calMeasure_refuses (hbusy.trans hb)]
      exact s.calFields_refused p i (by decide) n
    · rw [State.calMeasure_refuses (hbusy.trans hb)]
      exact s.calFields_refused p i (by decide) n
    · rw [State.calDraft_refuses (hb.imp hbusy.trans hlock.trans)]
      exact s.calFields_refused p i (by decide) n
    · obtain ⟨honly, hdrafts, hfails⟩ := State.calDraft_shows (s := u) (by rwa [hbusy]) (hlock.trans hl) p i n
      rw [hcompute] at hdrafts hfails
      refine ⟨honly.noted, hdrafts, fun hcode => ?_⟩
      obtain ⟨hreason, hstate, hshadow⟩ := hfails hcode
      exact ⟨hreason, hstate, hshadow.trans (s.noteWrite_shadow ..)⟩
  · rw [exec_calMeasureDone_eq hm]
    refine ⟨fun hbad => ?_, fun hgood hall => ?_, fun hgood hleft => ?_⟩
    · rw [if_pos hbad]
      obtain ⟨hstate, hreason, -, hcal, -⟩ := s.calFail_shows (code := 2) (by decide)
      exact ⟨_, rfl, hstate, hreason, hcal⟩
    · rw [if_neg (by simp [hgood]), if_pos hall]
      exact ⟨_, rfl, s.calDone_shows m⟩
    · rw [if_neg (by simp [hgood]), if_neg hleft]
  · have hmay := s.mayCheck_noteWrite p Reg.ADC_POL_CFG_START.addr kind ref w
    refine ⟨fun hok => ⟨_, exec_polarityCheck_takes ht i kind ref w, ?_⟩, fun hno => ⟨_, exec_polarityCheck_takes ht i kind ref w, ?_⟩⟩
    · rw [State.polWrite_starts (hmay.2 hok)]
      obtain ⟨hbusy, hverdict, hpol⟩ := State.beginPol_shows _ (polBegun (s.noteWrite p Reg.ADC_POL_CFG_START.addr) i kind ref w)
      exact ⟨hbusy, hverdict, hpol.trans (by rw [polBegun, s.noteWrite_now])⟩
    · exact State.polWrite_refuses w.isLt (mt hmay.1 hno) i
  · rw [exec_polarityDone_eq hr]
    refine ⟨fun hmore hdue => ?_, fun hall => ?_, fun hmore => ?_⟩
    · obtain ⟨q, hq⟩ := s.polSample_shows r
      exact ⟨_, q, exec_polaritySample_due hr hmore hdue, hq⟩
    · rw [if_pos hall]
      exact ⟨_, rfl, s.polDone_shows r⟩
    · rw [if_neg (not_le.2 hmore)]

end

/-! Committed values that take effect. -/

section
open Sys2Proof Sys2Proof.Machine

namespace Sys2Proof.Machine

variable {s t u : State}

/-- A committed value takes effect (R167). -/
def State.takeOne (t : State) (e : Nat × Nat) : State :=
  { t with regs := { t.regs with eff := tabSet (resetOf e.1) t.regs.eff e.1 e.2 } }

theorem State.takeCom_eq (s : State) (p : Nat → Bool) : s.takeCom p = (s.regs.com.filter fun e => p e.1).foldl State.takeOne
    { s with regs := { s.regs with com := s.regs.com.filter fun e => !p e.1 } } := rfl

theorem State.takeCom_shadow (s : State) (p : Nat → Bool) : (s.takeCom p).regs.shadow = s.regs.shadow :=
  foldl_induct (P := fun t : State => t.regs.shadow = s.regs.shadow) (fun _ _ h => h) rfl

theorem State.takeCom_eng (s : State) (p : Nat → Bool) : (s.takeCom p).eng = s.eng := (s.takeCom_in p).frame .eng (by decide)

/-- A field whose key is not picked keeps its value in effect. -/
theorem State.takeCom_fld_other (s : State) {p : Nat → Bool} {f : Fld} (h : p f.key = false) : (s.takeCom p).fld f = s.fld f := by
  have hstep (t : State) (e : Nat × Nat) (he : e ∈ s.regs.com.filter fun e => p e.1) : (t.takeOne e).fld f = t.fld f :=
    tabGet_set_other _ _ _ _ fun hk => by
      have hp : p e.1 = true := (List.mem_filter.1 he).2
      rw [← hk, h] at hp
      exact Bool.false_ne_true hp
  rw [State.takeCom_eq]
  exact List.foldlRecOn (motive := fun t : State => t.fld f = s.fld f) _ _ rfl fun t ht e he => (hstep t e he).trans ht

/-- The one committed value that waits takes effect, where its key is picked. -/
theorem State.takeCom_single {k v : Nat} {p : Nat → Bool} (hcom : s.regs.com = [(k, v)]) (hp : p k = true) :
    s.takeCom p = { s with regs := { s.regs with com := [], eff := tabSet (resetOf k) s.regs.eff k v } } := by
  have hrest : (s.regs.com.filter fun e => !p e.1) = [] := by simp [hcom, hp]
  have htaken : (s.regs.com.filter fun e => p e.1) = [(k, v)] := by simp [hcom, hp]
  rw [State.takeCom_eq, hrest, htaken]
  rfl

theorem Beside.takeCom {bs : List Nat} {l : List Fld} {p : Nat → Bool} (hp : ∀ k, p k = true → k / 32768 ∈ bs) :
    Beside bs l s (s.takeCom p) :=
  ⟨fun f hf _ => s.takeCom_fld_other (Bool.eq_false_iff.2 fun h => hf (hp f.key h))⟩

end Sys2Proof.Machine

end

/-! What follows a commit: the fields that its consequences may write. -/

section
open Sys2Proof Sys2Proof.Machine

namespace Sys2Proof.Machine

variable (t s : State)

/-- What a move of the clocks may write: fields of the CLK block, GRT_TICKW and PLLSW_S. -/
abbrev MovesClocks (s t : State) : Prop := Beside [1, 4, 5] [] s t

theorem pllFlds_blk : ∀ p : Fin 3, ∀ f ∈ [Reg.CLK_PLL_STATUS_BAND p, Reg.CLK_PLL_STATUS_STATE p, Reg.CLK_PLL_NINT_NINT p,
    Reg.CLK_PLL_NFRAC_NFRAC p], f.blk ∈ [1, 4, 5] := by decide

theorem pllFld_blk (p : Fin 3) {f : Fld} (hf : f ∈ [Reg.CLK_PLL_STATUS_BAND p, Reg.CLK_PLL_STATUS_STATE p, Reg.CLK_PLL_NINT_NINT p,
    Reg.CLK_PLL_NFRAC_NFRAC p] := by simp) : f.blk ∈ [1, 4, 5] := pllFlds_blk p f hf

theorem State.startHop_clocks (p : Fin 3) : MovesClocks s (s.startHop p) := by
  unfold State.startHop
  extract_lets kept d k src clk t
  have ht : MovesClocks s t := (Beside.refl s).same rfl
  exact .ite (.ite ht ((ht.setFld (pllFld_blk p) _).setFld (pllFld_blk p) 2)) (.ite (.refl s) ((Beside.refl s).setFld (pllFld_blk p) 1))

theorem State.setRatio_clocks (p : Fin 3) (n : Nat) : MovesClocks s (s.setRatio p n) :=
  ((Beside.refl s).setFld (f := Reg.CLK_PLL_NINT_NINT p) (pllFld_blk p) _).setFld (f := Reg.CLK_PLL_NFRAC_NFRAC p) (pllFld_blk p) _

theorem State.holdC_clocks : MovesClocks s s.holdC :=
  .ite (((((Beside.refl s).setFld (f := Reg.CLK_PLL_STATUS_STATE 0) (by decide) 4).setFld (f := Reg.CLK_STATUS_LOCK_C) (by decide) 0).setFld
    (f := Reg.CLK_STATUS_HOLD) (by decide) 1).same rfl) (.refl s)

theorem State.askAlt_clocks : MovesClocks s s.askAlt :=
  ((Beside.refl s).same (u := { s with clk := { s.clk with altDue := true } }) rfl).trans ((State.tagSwitch_tags _).only.beside (by decide))

/-- PLL-A moves by a hop, or waits for the reference (R261, R264). -/
theorem State.moveA_clocks : MovesClocks s s.moveA := by
  have hlock : MovesClocks s (s.setFld Reg.CLK_STATUS_LOCK_A 0) := (Beside.refl s).setFld (by decide) 0
  unfold State.moveA
  extract_lets u clk t
  have hu : MovesClocks s u := hlock.setFld (f := Reg.CLK_PLL_STATUS_STATE 1) (by decide) 0
  have hstill : MovesClocks s { u with clk := { u.clk with hop := tabDel u.clk.hop 1 } } := hu.same rfl
  have ht : MovesClocks s t := .ite (hlock.trans (State.startHop_clocks _ 1)) (hstill.trans (State.askAlt_clocks _))
  exact ht.trans (State.setRatio_clocks _ 1 _)

theorem State.waitM_clocks : MovesClocks s s.waitM :=
  .same (.setFld (.setFld (.refl s) (f := Reg.CLK_STATUS_LOCK_M) (by decide) 0) (f := Reg.CLK_PLL_STATUS_STATE 2) (by decide) 0) rfl

theorem State.moveM_clocks : MovesClocks s s.moveM := by
  have hlock : MovesClocks s (s.setFld Reg.CLK_STATUS_LOCK_M 0) := (Beside.refl s).setFld (by decide) 0
  unfold State.moveM
  extract_lets t
  have ht : MovesClocks s t := .ite (hlock.trans (State.startHop_clocks _ 2)) s.waitM_clocks
  exact ht.trans (State.setRatio_clocks _ 2 _)

theorem State.hopAll_clocks (src : Nat) : MovesClocks s (s.hopAll src) := by
  unfold State.hopAll
  extract_lets t h clk c
  have ht : MovesClocks s t := ((Beside.refl s).setFld (by decide) _).setFld (by decide) _
  have hh : MovesClocks s h := ht.trans t.holdC_clocks
  have hc : MovesClocks s c := .ite (hh.trans (h.startHop_clocks 0)) (hh.same rfl)
  exact .ite (hc.trans c.moveA_clocks) ((hc.trans c.moveA_clocks).trans (State.moveM_clocks _))

theorem State.startProfile_clocks (n : Nat) : MovesClocks s (s.startProfile n) := by
  have hbegin : MovesClocks s (s.beginProfile n) :=
    ((Beside.refl s).same (u := { s with clk := { s.clk with profile := n } }) rfl).setFld (by decide) _
  obtain ⟨-, -, -, -, -, honly⟩ := (s.beginProfile n).setRatioC_shows (nomRatio s.refKhz)
  rw [State.startProfile_eq]
  exact .ite hbegin (hbegin.trans (honly.beside (by decide)))

theorem State.followRef_clocks : MovesClocks t (t.followRef s) := by
  unfold State.followRef
  extract_lets moved named all u
  have hu : MovesClocks t u := .ite (t.hopAll_clocks _) (.refl t)
  exact .ite (hu.trans u.moveM_clocks) hu

theorem State.followClocks_clocks : MovesClocks t (t.followClocks s) := by
  unfold State.followClocks
  extract_lets u v
  have hv : MovesClocks t v := .ite ((t.followRef_clocks s).trans (State.startProfile_clocks _ _)) (t.followRef_clocks s)
  exact .forIdx (fun p w => .ite ((Beside.refl w).same rfl) (.refl w)) hv

/-- What the generators, the nodes and the role may write as they follow a commit. -/
abbrev MovesUnits (s t : State) : Prop := Beside [5, 7, 12, 13] [] s t

theorem State.followSilence_units : MovesUnits t (t.followSilence s) := (Beside.refl t).within (t.followSilence_in s) (by decide)

theorem State.followNodes_units : MovesUnits t (t.followNodes s) := (Beside.refl t).within (t.followNodes_in s) (by decide)

theorem State.followSounding_units : MovesUnits t t.followSounding := by
  unfold State.followSounding
  refine .forIdx (fun g u => ?_) (.refl t)
  extract_lets en d drawn gen v
  have hv : MovesUnits u v := (Beside.refl u).same (by
    simp only [v]
    split
    · rfl
    · split <;> rfl)
  have hrest : Beside [5, 12] [] v (v.genRest g) := (v.genRest_fields g).beside (soundFlds_blk g)
  exact .ite (hv.trans (hrest.mono (by decide) (by simp))) hv

theorem legRole_blk : ∀ n : Fin 64, (Reg.DRV_LEG_STATUS_ROLE n).blk ∈ [5, 7, 12, 13] := by decide

theorem Beside.setDleg {bs : List Nat} {l : List Fld} {s t : State} (h : Beside bs l s t) (n : Nat) (r : DrvLeg) :
    Beside bs l s (t.setDleg n r) := h.same rfl

theorem State.driveLeg_units (n : Fin 64) : MovesUnits s (s.driveLeg n) := by
  have hoff : MovesUnits s (s.gatesOff n) := (Beside.refl s).within (s.gatesOff_in n) (by decide)
  exact .setFld (.setDleg hoff _ _) (legRole_blk n) 0

theorem State.followPair_units : MovesUnits t (t.followPair s) := by
  unfold State.followPair
  extract_lets u solo twn
  have hu : MovesUnits t u := .forIdx (fun n w => w.driveLeg_units n) (.refl t)
  have hsolo : MovesUnits t solo := hu.setFld (by decide) roleSOLO
  exact .ite (hsolo.same rfl) (.refl t)

/-- What follows from committed fields beside the clocks (R414, R325, R337, R343). -/
def State.followUnits (t s : State) : State := (((t.followSilence s).followSounding).followNodes s).followPair s

theorem State.followCommit_eq : t.followCommit s = (t.followClocks s).followUnits s := rfl

theorem State.followUnits_units : MovesUnits t (t.followUnits s) :=
  (((t.followSilence_units s).trans (State.followSounding_units _)).trans (State.followNodes_units _ _)).trans (State.followPair_units _ _)

theorem State.followUnits_in : Within [.regs, .adc, .drv, .twn, .snd, .host] t (t.followUnits s) :=
  (State.followPair_in _ s).thn (by decide) <| (State.followNodes_in _ s).thn (by decide) <| (State.followSounding_in _).thn (by decide) <|
    (t.followSilence_in s).mono (by decide)

theorem State.followCommit_fields : Beside [1, 4, 5, 7, 12, 13] [] t (t.followCommit s) := by
  have hclocks : Beside [1, 4, 5, 7, 12, 13] [] t (t.followClocks s) := (t.followClocks_clocks s).mono (by decide) (by simp)
  rw [State.followCommit_eq]
  exact hclocks.trans ((State.followUnits_units _ s).mono (by decide) (by simp))

end Sys2Proof.Machine

end

/-! What a commit has put into effect, through the steps that follow it. -/

section
open Sys2Proof Sys2Proof.Machine

namespace Sys2Proof.Machine

/-- The sticky bits of the groups that the steps after a commit may set. -/
def stickyGfm : List Fld := (List.finRange 8).flatMap fun g : Fin 8 => [Reg.GFM_STATUS_RETUNE_S g, Reg.GFM_EVT_STATUS_BRKINV_S g]

theorem stickyGfm_mem (g : Fin 8) : Reg.GFM_STATUS_RETUNE_S g ∈ stickyGfm ∧ Reg.GFM_EVT_STATUS_BRKINV_S g ∈ stickyGfm :=
  ⟨List.mem_flatMap.2 ⟨g, List.mem_finRange g, by simp⟩, List.mem_flatMap.2 ⟨g, List.mem_finRange g, by simp⟩⟩

/-- The cell memories, the shadows, and the fields of the SYS, STG and GFM blocks but those bits, as the commit has placed them. -/
structure KeepsCommitted (s t : State) : Prop where
  coef : t.eng.coef = s.eng.coef
  bun : t.eng.bun = s.eng.bun
  st : t.eng.st = s.eng.st
  shadow : t.regs.shadow = s.regs.shadow
  fields : Beside [1, 4, 5, 6, 7, 11, 12, 13] stickyGfm s t

theorem KeepsCommitted.refl (s : State) : KeepsCommitted s s := ⟨rfl, rfl, rfl, rfl, .refl s⟩

variable {t s u : State}

theorem KeepsCommitted.trans (h : KeepsCommitted s t) (h' : KeepsCommitted t u) : KeepsCommitted s u :=
  ⟨h'.coef.trans h.coef, h'.bun.trans h.bun, h'.st.trans h.st, h'.shadow.trans h.shadow, h.fields.trans h'.fields⟩

theorem KeepsCommitted.ite {c : Prop} [Decidable c] (h : KeepsCommitted s t) (h' : KeepsCommitted s u) : KeepsCommitted s (if c then t else u) := by
  split
  · exact h
  · exact h'

theorem KeepsCommitted.forIdx {n : Nat} {f : Nat → State → State} (hf : ∀ (k : Fin n) u, KeepsCommitted u (f k u)) (h : KeepsCommitted s t) :
    KeepsCommitted s (forIdx n f t) := forIdx_induct_lt (P := KeepsCommitted s) (fun k u hk hu => hu.trans (hf ⟨k, hk⟩ u)) h

theorem Beside.setLeg {bs : List Nat} {l : List Fld} (h : Beside bs l s t) (n : Nat) (r : LegRun) : Beside bs l s (t.setLeg n r) := h.same rfl

/-- A step that leaves the engine and the drafts, by the fields that it writes. -/
theorem KeepsCommitted.of_within {ps : List Part} (h : Within ps s t) (he : Part.eng ∉ ps) (hd : Part.drafts ∉ ps)
    (hf : Beside [1, 4, 5, 6, 7, 11, 12, 13] stickyGfm s t) : KeepsCommitted s t := by
  have heng : t.eng = s.eng := h.frame .eng he
  exact ⟨congrArg EngRun.coef heng, congrArg EngRun.bun heng, congrArg EngRun.st heng, (h.frame .drafts hd).2, hf⟩

/-- A step that leaves the registers too. -/
theorem KeepsCommitted.of_frame {ps : List Part} (h : Within ps s t) (he : Part.eng ∉ ps) (hd : Part.drafts ∉ ps) (hr : Part.regs ∉ ps) :
    KeepsCommitted s t := .of_within h he hd ((Beside.refl s).within h hr)

variable (t s) (T : Nat)

/-! The carriers, the timers, the recorders, the impedances and the bumpless steps. -/

theorem State.recastAll_keeps : KeepsCommitted t (t.recastAll s T) := .of_frame (t.recastAll_in s T) (by decide) (by decide) (by decide)

theorem State.retime_keeps : KeepsCommitted t (t.retime s T) :=
  .forIdx (fun _ u => .ite ⟨rfl, rfl, rfl, rfl, (Beside.refl u).same rfl⟩ (.refl u)) (.refl t)

theorem rstate_blk : ∀ k : Fin 4, (Reg.CTR_SEQ_STATUS_RSTATE k).blk ∈ [11] := by decide

theorem State.resetRecorders_ctr : Beside [11] [] t (t.resetRecorders s) := by
  unfold State.resetRecorders
  extract_lets keys probes hit
  exact .forIdx (fun k u => .ite (((Beside.refl u).setFld (rstate_blk k) _).trans (State.seqEnter_ctr _ k 0)) (.refl u)) (.refl t)

theorem State.resetRecorders_keeps : KeepsCommitted t (t.resetRecorders s) :=
  .of_within (t.resetRecorders_in s) (by decide) (by decide) (Beside.mono (bs := [11]) (l := []) (t.resetRecorders_ctr s) (by decide) (by simp))

theorem State.forgetCal_keeps : KeepsCommitted t (t.forgetCal s) := .of_frame (t.forgetCal_in s) (by decide) (by decide) (by decide)

theorem State.setEff_fields (g : Fin 8) (z : Int × Int) : Beside [] stickyGfm s (s.setEff g z) := by
  have hset (r : GroupRun) : Beside [] stickyGfm s (s.setGrp g r) := (Beside.refl s).same rfl
  exact .ite ((hset _).raiseListed (stickyGfm_mem g).1) (hset _)

theorem State.revalueZ_keeps (g : Fin 8) : KeepsCommitted t (t.revalueZ s g) :=
  .of_within (t.revalueZ_in s g) (by decide) (by decide) <| Beside.mono (bs := []) (l := stickyGfm)
    (.ite ((t.setEff_fields g _).same rfl) (.ite (t.setEff_fields g _) (.refl t))) (by simp) fun _ h => h

theorem State.dueBumps_keeps : KeepsCommitted s s.dueBumps :=
  foldl_induct (P := KeepsCommitted s) (fun u _ h => h.trans ⟨rfl, rfl, rfl, rfl, (Beside.refl u).same rfl⟩)
    ⟨rfl, rfl, rfl, rfl, (Beside.refl s).same rfl⟩

/-! The fields of the carrier groups and legs (R212). -/

theorem keyIn_blk {lo hi k : Nat} (h : keyIn lo hi k = true) (hlo : 0x6000 ≤ lo) (hhi : hi ≤ 0x7000) : k / 32768 = 6 := by
  obtain ⟨hge, hlt⟩ := Bool.and_eq_true_iff.1 h
  have hge' : lo ≤ k / 32 * 4 := of_decide_eq_true hge
  have hlt' : k / 32 * 4 < hi := of_decide_eq_true hlt
  omega

theorem cgKeys_blk (g : Fin 8) (k : Nat) (h : cgKeys g k = true) : k / 32768 = 6 := keyIn_blk h (by omega) (by omega)

theorem legKeys_blk (n : Fin 64) (k : Nat) (h : legKeys n k = true) : k / 32768 = 6 := keyIn_blk h (by omega) (by omega)

theorem State.takeCom_keeps {p : Nat → Bool} (hp : ∀ k, p k = true → k / 32768 = 6) : KeepsCommitted s (s.takeCom p) := by
  have heng := s.takeCom_eng p
  exact ⟨congrArg EngRun.coef heng, congrArg EngRun.bun heng, congrArg EngRun.st heng, s.takeCom_shadow p,
    .takeCom fun k hk => by rw [hp k hk]; decide⟩

theorem legCarry_blk : ∀ n : Fin 64, (Reg.PWM_LEG_CARRY n).blk ∈ [1, 4, 5, 6, 7, 11, 12, 13] := by decide

theorem State.dropCarries_keeps (g : Nat) : KeepsCommitted t (t.dropCarries s g) :=
  .of_within (t.dropCarries_in s g) (by decide) (by decide) <|
    .ite (.refl t) (.forIdx (fun n u => .ite (.setFld (.setLeg (.refl u) _ _) (legCarry_blk n) 0) (.refl u)) (.refl t))

theorem State.takePwm_keeps : KeepsCommitted s s.takePwm := by
  refine .forIdx (fun n u => .ite ?_ (.refl u)) (.forIdx (fun g u => .ite ?_ (.refl u)) (.refl s))
  · exact (u.takeCom_keeps (legKeys_blk n)).trans ⟨rfl, rfl, rfl, rfl, (Beside.refl _).same rfl⟩
  · exact ((u.takeCom_keeps (cgKeys_blk g)).trans (State.dropCarries_keeps _ u g)).trans ⟨rfl, rfl, rfl, rfl, (Beside.refl _).same rfl⟩

theorem State.relay_keeps : KeepsCommitted s s.relay := .of_frame s.relay_in (by decide) (by decide) (by decide)

/-! The consequences of committed fields, and the breakers. -/

theorem State.startProfile_keeps (n : Nat) : KeepsCommitted s (s.startProfile n) := by
  have hf : Beside [1, 4, 5, 6, 7, 11, 12, 13] stickyGfm s (s.startProfile n) :=
    Beside.mono (bs := [1, 4, 5]) (l := []) (s.startProfile_clocks n) (by decide) (by simp)
  revert hf
  rw [State.startProfile_eq]
  split
  · exact fun hf => ⟨rfl, rfl, rfl, rfl, hf⟩
  · exact fun hf => ⟨rfl, rfl, rfl, rfl, hf⟩

theorem State.followClocks_keeps : KeepsCommitted t (t.followClocks s) := by
  have href : KeepsCommitted t (t.followRef s) :=
    .of_within (t.followRef_in s) (by decide) (by decide) (Beside.mono (bs := [1, 4, 5]) (l := []) (t.followRef_clocks s) (by decide) (by simp))
  unfold State.followClocks
  extract_lets u v
  have hv : KeepsCommitted t v := .ite (href.trans (State.startProfile_keeps _ _)) href
  exact .forIdx (fun _ w => .ite ⟨rfl, rfl, rfl, rfl, (Beside.refl w).same rfl⟩ (.refl w)) hv

theorem State.followCommit_keeps : KeepsCommitted t (t.followCommit s) :=
  (t.followClocks_keeps s).trans (.of_within (State.followUnits_in _ s) (by decide) (by decide)
    (Beside.mono (bs := [5, 7, 12, 13]) (l := []) (State.followUnits_units _ s) (by decide) (by simp)))

theorem State.brkWatch_fields (g : Fin 8) : Beside [] stickyGfm s (s.brkWatch g) := by
  unfold State.brkWatch
  refine .ite (.raiseListed (.setGrp (.refl s) _ _) (stickyGfm_mem g).2) ?_
  split
  · exact (Beside.refl s).same rfl
  · exact (Beside.refl s).same rfl

theorem State.brkAll_keeps : KeepsCommitted s s.brkAll :=
  .of_within s.brkAll_in (by decide) (by decide) <| .forIdx (fun g u => (u.brkWatch_fields g).mono (by simp) fun _ h => h) (.refl s)

theorem State.takeDigests_keeps : KeepsCommitted s s.takeDigests := .of_frame s.takeDigests_in (by decide) (by decide) (by decide)

end Sys2Proof.Machine

end

/-! A commit without an image. -/

section
open Sys2Proof Sys2Proof.Machine

namespace Sys2Proof.Machine

/-- What a commit notes before it applies: the groups whose measurement chain it changes (R399). -/
def State.chainNoted (s : State) : State :=
  let t := forIdx 8 (fun g t => if s.chainChanges g then t.calChange g else t) s
  if anyIdx 8 s.chainChanges then t.sealOp 3 else t

theorem State.chainNoted_in (s : State) : Within [.regs, .mem, .sec] s s.chainNoted := by
  have hnotes : Within [.regs, .mem, .sec] s (forIdx 8 (fun g t => if s.chainChanges g then t.calChange g else t) s) :=
    .forIdx (fun g u hu => .ite ((u.calChange_in g).thn (by decide) hu) hu) (.refl _ s)
  exact .ite ((State.sealOp_in _ 3).thn (by decide) hnotes) hnotes

/-- The drafts become the committed values, and those of domain C take effect (R167). -/
def State.draftsTaken (s : State) : State := s.shadowsToCom.takeCom s.atOnce

theorem State.draftsTaken_shows (s : State) : s.draftsTaken.regs.shadow = [] ∧ s.draftsTaken.eng = s.eng :=
  ⟨State.takeCom_shadow .., State.takeCom_eng ..⟩

/-- A field of domain C takes effect with the commit. -/
theorem State.draftsTaken_fld {s : State} {f : Fld} {v : Nat} (hcom : s.regs.com = []) (hshadow : s.regs.shadow = [(f.key, v)])
    (hdom : domOf f.key = some .c) : s.draftsTaken.fld f = v := by
  have hwaits : s.shadowsToCom.regs.com = [(f.key, v)] := by
    unfold State.shadowsToCom
    rw [hcom, hshadow]
    rfl
  have hpicked : s.atOnce f.key = true := by unfold State.atOnce; rw [hdom]
  unfold State.draftsTaken
  rw [State.takeCom_single hwaits hpicked]
  exact tabGet_set_same ..

/-- Another state of the staging process. -/
def State.withStg (s : State) (x : StgRun) : State := { s with stg := x }

theorem State.fld_withStg (s : State) (x : StgRun) (f : Fld) : (s.withStg x).fld f = s.fld f := rfl

theorem State.on_withStg (s : State) (x : StgRun) (f : Fld) : (s.withStg x).on f = s.on f := rfl

theorem OnlyFlds.withStg {l : List Fld} {s t : State} (h : OnlyFlds l s t) (x : StgRun) : OnlyFlds l s (t.withStg x) := h

theorem KeepsCommitted.withStg {s t : State} (h : KeepsCommitted s t) (x : StgRun) : KeepsCommitted s (t.withStg x) :=
  ⟨h.coef, h.bun, h.st, h.shadow, h.fields.same rfl⟩

/-- The carriers, timers, recorders, calibrations and impedances follow a commit at `T`, from the state `s` before it. -/
def State.recast (u s : State) (T : Nat) : State :=
  forIdx 8 (fun g w => w.revalueZ s g) ((((u.recastAll s T).retime s T).resetRecorders s).forgetCal s)

theorem State.recast_keeps (u s : State) (T : Nat) : KeepsCommitted u (u.recast s T) :=
  .forIdx (fun g w => w.revalueZ_keeps s g)
    ((((u.recastAll_keeps s T).trans (State.retime_keeps ..)).trans (State.resetRecorders_keeps ..)).trans (State.forgetCal_keeps ..))

/-- The staging process holds nothing of a commit any more. -/
def StgRun.spent (x : StgRun) : StgRun := { x with cdraft := [], waiting := false, retire := [], withImg := false, go := false }

/-- The bumpless steps and the carriers' values take effect, and the staging process is spent. -/
def State.carryOver (u : State) : State := u.dueBumps.takePwm.relay.withStg u.dueBumps.stg.spent

theorem State.carryOver_keeps (u : State) : KeepsCommitted u u.carryOver :=
  ((u.dueBumps_keeps.trans (State.takePwm_keeps _)).trans (State.relay_keeps _)).withStg _

/-- What follows a commit at `T`, from the state `s` before it (R108, R168, R207, R212, R324). -/
def State.settleCommit (u s : State) (T : Nat) : State := (((u.recast s T).carryOver.followCommit s).brkAll).takeDigests

theorem State.settleCommit_keeps (u s : State) (T : Nat) : KeepsCommitted u (u.settleCommit s T) :=
  ((((u.recast_keeps s T).trans (State.carryOver_keeps _)).trans (State.followCommit_keeps ..)).trans (State.brkAll_keeps _)).trans
    (State.takeDigests_keeps _)

theorem State.settleCommit_cdraft (u s : State) (T : Nat) : (u.settleCommit s T).stg.cdraft = [] := by
  have hin (w : State) : Within [.regs, .grid, .eng, .clk, .adc, .drv, .twn, .snd, .host] w ((w.followCommit s).brkAll).takeDigests :=
    (State.takeDigests_in _).thn (by decide) <| (State.brkAll_in _).thn (by decide) <| (w.followCommit_in s).mono (by decide)
  have hspent : (u.recast s T).carryOver.stg.cdraft = [] := rfl
  unfold State.settleCommit
  generalize (u.recast s T).carryOver = w at hspent
  exact (congrArg StgRun.cdraft ((hin w).frame .stg (by decide))).trans hspent

/-- The record of a commit (R168). -/
def State.recordCommit (t : State) (T : Nat) : State :=
  (((t.stamp Reg.STG_DONE_STAMP_LO Reg.STG_DONE_STAMP_HI T).raise Reg.STG_STATUS_COMMIT_S).count Reg.STG_CNT_COMMIT_CNT).stgRest

theorem State.recordCommit_shows {s : State} (hshadow : s.regs.shadow = []) (hentries : s.stg.cdraft = []) (T : Nat) : let t := s.recordCommit T
    t.stgState = sIDLE ∧ t.on Reg.STG_STATUS_COMMIT_S = true ∧ t.fld Reg.STG_DONE_STAMP_LO = T % 2 ^ 32 ∧ t.regs.shadow = [] ∧
      t.stg = s.stg ∧ t.eng = s.eng ∧ Beside [2] [] s t := by
  refine ⟨?_, ?_, ?_, hshadow, rfl, rfl, ?_⟩
  · have hidle : (if s.regs.shadow.isEmpty && s.stg.cdraft.isEmpty then sIDLE else sDRAFTING) = sIDLE := by rw [hshadow, hentries]; rfl
    exact (State.stgState_stgRest _).trans hidle
  · unfold State.recordCommit State.stgRest
    rw [State.on_setFld_other _ _ (by decide), State.on, State.fld_count_other _ (by decide)]
    exact State.on_raise_same _ rfl
  · unfold State.recordCommit State.stgRest
    rw [State.fld_setFld_other _ _ (by decide), State.fld_count_other _ (by decide), State.fld_raise_other _ (by decide), State.fld_stamp,
      if_neg (by decide), if_pos rfl]
    exact Nat.mod_mod _ _
  · exact ((((Beside.refl s).stamp (by decide) (by decide) T).raise (by decide)).count (by decide)).setFld (by decide) _

/-- The state of a commit before its drafts are taken, with its image loaded. -/
def State.imageTaken (t : State) (T : Nat) : State := if t.stg.withImg && t.stg.staged.isSome then t.swapImage T else t

theorem State.applyCommit_eq (s : State) (T : Nat) :
    s.applyCommit T = (((s.chainNoted.imageTaken T).draftsTaken.flip.settleCommit s T).recordCommit T) := rfl

theorem State.applyCommit_plain {s : State} (h : s.stg.withImg = false) (T : Nat) :
    s.applyCommit T = (s.chainNoted.draftsTaken.flip.settleCommit s T).recordCommit T := by
  have hstg : s.chainNoted.stg = s.stg := s.chainNoted_in.frame .stg (by decide)
  have hplain : s.chainNoted.imageTaken T = s.chainNoted := if_neg (by rw [hstg, h]; exact Bool.false_ne_true)
  rw [State.applyCommit_eq, hplain]

/-- A commit that is due and takes no image applies at its instant, and no entry is counted any more. -/
theorem State.applyDue_plain {s : State} (h : s.stg.withImg = false) :
    s.applyDue = (s.applyCommit s.stg.commitAt).setFld Reg.STG_CDRAFT_CNT_CNT 0 :=
  if_neg (by unfold State.swapHeld; rw [h]; exact Bool.false_ne_true)

/-- A commit without an image: its drafts are in effect in domain C, the copies of the cells have changed places, and it is recorded. -/
theorem State.applyDue_shows {s : State} (h : s.stg.withImg = false) : let t := s.applyDue
    t.stgState = sIDLE ∧ t.on Reg.STG_STATUS_COMMIT_S = true ∧ t.regs.shadow = [] ∧ t.stg.cdraft = [] ∧
      t.fld Reg.STG_DONE_STAMP_LO = s.stg.commitAt % 2 ^ 32 ∧ t.fld Reg.STG_CDRAFT_CNT_CNT = 0 ∧
      t.eng.coef = s.eng.coefStg ∧ t.eng.bun = s.eng.bunStg ∧ t.eng.st = s.eng.st ∧
      Beside [1, 2, 4, 5, 6, 7, 11, 12, 13] stickyGfm s.chainNoted.draftsTaken t := by
  obtain ⟨hnone, hcells⟩ := s.chainNoted.draftsTaken_shows
  have heng : s.chainNoted.draftsTaken.eng = s.eng := hcells.trans (s.chainNoted_in.frame .eng (by decide))
  rw [State.applyDue_plain h, State.applyCommit_plain h]
  generalize s.chainNoted.draftsTaken = d at hnone heng
  have hkeep := d.flip.settleCommit_keeps s s.stg.commitAt
  have hcoef : (d.flip.settleCommit s s.stg.commitAt).eng.coef = s.eng.coefStg := hkeep.coef.trans (congrArg EngRun.coefStg heng)
  have hbun : (d.flip.settleCommit s s.stg.commitAt).eng.bun = s.eng.bunStg := hkeep.bun.trans (congrArg EngRun.bunStg heng)
  have hstill : d.flip.eng.st = d.eng.st := rfl
  have hst : (d.flip.settleCommit s s.stg.commitAt).eng.st = s.eng.st := hkeep.st.trans (hstill.trans (congrArg EngRun.st heng))
  have hshadow : (d.flip.settleCommit s s.stg.commitAt).regs.shadow = [] := hkeep.shadow.trans hnone
  have hflip : Beside [1, 2, 4, 5, 6, 7, 11, 12, 13] stickyGfm d d.flip := (Beside.refl d).same rfl
  have hfields := hflip.trans (hkeep.fields.mono (by decide) fun _ hf => hf)
  have hentries := d.flip.settleCommit_cdraft s s.stg.commitAt
  generalize d.flip.settleCommit s s.stg.commitAt = w at hcoef hbun hst hshadow hfields hentries
  obtain ⟨hstate, hflag, hstamp, hshadow', hstg, hkept, honly⟩ := State.recordCommit_shows hshadow hentries s.stg.commitAt
  generalize w.recordCommit s.stg.commitAt = r at hstate hflag hstamp hshadow' hstg hkept honly
  exact ⟨(State.fld_setFld_other _ _ (by decide)).trans hstate, (State.on_setFld_other _ _ (by decide)).trans hflag, hshadow',
    (congrArg StgRun.cdraft hstg).trans hentries, (State.fld_setFld_other _ _ (by decide)).trans hstamp, State.fld_setFld_same ..,
    (congrArg EngRun.coef hkept).trans hcoef, (congrArg EngRun.bun hkept).trans hbun, (congrArg EngRun.st hkept).trans hst,
    (hfields.trans (honly.mono (by decide) (by simp))).setFld (by decide) 0⟩

theorem droop_dom : ∀ g : Fin 8, domOf (Reg.GFM_DROOP_MP g).key = some .c := by decide

theorem droop_spared : ∀ g : Fin 8, (Reg.GFM_DROOP_MP g).blk ∉ [1, 2, 4, 5, 6, 7, 11, 12, 13] ∧
    ∀ f ∈ stickyGfm, (Reg.GFM_DROOP_MP g).key ≠ f.key := by decide

/-- A drafted droop is in effect after the commit (R167). -/
theorem State.applyDue_droop {s : State} (h : s.stg.withImg = false) {g : Fin 8} {v : Nat} (hcom : s.regs.com = [])
    (hshadow : s.regs.shadow = [((Reg.GFM_DROOP_MP g).key, v)]) : s.applyDue.fld (Reg.GFM_DROOP_MP g) = v := by
  obtain ⟨-, -, -, -, -, -, -, -, -, hfields⟩ := State.applyDue_shows h
  obtain ⟨hblk, hkeys⟩ := droop_spared g
  obtain ⟨hcom', hshadow'⟩ := s.chainNoted_in.frame .drafts (by decide)
  rw [hfields.fld _ hblk hkeys]
  exact State.draftsTaken_fld (hcom'.trans hcom) (hshadow'.trans hshadow) (droop_dom g)

/-! The instant of a commit, the wait for fetches, and its end. -/

theorem State.noteDrain_of_not_applying {s : State} (h : s.stgState ≠ sAPPLYING) : s.noteDrain = s :=
  if_neg (by simp [h])

theorem State.noteDrain_of_late {s : State} (h : s.stg.commitAt + 20000 < s.now) : s.noteDrain = s :=
  if_neg (by simp [not_le.2 h])

theorem State.noteDrain_of_pending {s : State} (h : s.stgState = sPENDING) : s.noteDrain = s :=
  State.noteDrain_of_not_applying (by rw [h]; decide)

theorem State.commitApply_early {s : State} (h : s.stgState = sPENDING) (hearly : s.now < s.stg.commitAt) : s.commitApply = s := by
  unfold State.commitApply
  rw [State.noteDrain_of_pending h]
  simp [h, not_le.2 hearly, sPENDING, sAPPLYING]

/-- A commit waits for the fetches of the contexts that retire (R169). -/
def State.waitFetches (s : State) : State :=
  ((s.setFld Reg.STG_STATUS_STATE sAPPLYING).raise Reg.STG_STATUS_DELAY_S).withStg { s.stg with waiting := true, retire := s.retiringCtxs }

theorem State.commitApply_due {s : State} (h : s.stgState = sPENDING) (hdue : s.stg.commitAt ≤ s.now) :
    s.commitApply = if s.retiringCtxs.any s.fetchBusy then s.waitFetches else s.applyDue := by
  unfold State.commitApply
  rw [State.noteDrain_of_pending h]
  exact if_pos ⟨h, decide_eq_true hdue⟩

theorem State.retiringCtxs_plain {s : State} (h : s.stg.withImg = false) : s.retiringCtxs = [] := by
  unfold State.retiringCtxs
  split
  · exact if_neg (by rw [h]; exact Bool.false_ne_true)
  · rfl

theorem State.waitFetches_shows (s : State) : let t := s.waitFetches
    t.stgState = sAPPLYING ∧ t.on Reg.STG_STATUS_DELAY_S = true ∧ t.stg.waiting = true ∧ t.stg.active = s.stg.active ∧
      t.regs.shadow = s.regs.shadow ∧ OnlyFlds [Reg.STG_STATUS_STATE, Reg.STG_STATUS_DELAY_S] s t := by
  unfold State.waitFetches
  refine ⟨?_, ?_, rfl, rfl, rfl, .withStg (((OnlyFlds.refl _ s).setFld (by simp) _).raise (by simp)) _⟩
  · rw [State.stgState, State.fld_withStg, State.fld_raise_other _ (by decide), State.fld_setFld_same]; rfl
  · rw [State.on_withStg]
    exact State.on_raise_same _ rfl

/-- What a deferral records (R169). -/
def State.noteDefer (s : State) : State :=
  ((s.setFld Reg.STG_STATUS_STATE sSURVEYED).raise Reg.STG_STATUS_DEFER_S).count Reg.STG_CNT_DEFER_CNT

theorem State.deferCommit_eq (s : State) :
    s.deferCommit = s.noteDefer.withStg { s.noteDefer.stg with waiting := false, retire := [], withImg := false } := rfl

/-- A deferred commit is surveyed still, with its staged image (R169). -/
theorem State.deferCommit_shows (s : State) : let t := s.deferCommit
    t.stgState = sSURVEYED ∧ t.on Reg.STG_STATUS_DEFER_S = true ∧ t.fld Reg.STG_CNT_DEFER_CNT = s.counted Reg.STG_CNT_DEFER_CNT ∧
      t.stg.waiting = false ∧ t.stg.staged = s.stg.staged ∧ t.regs.shadow = s.regs.shadow ∧
      OnlyFlds [Reg.STG_STATUS_STATE, Reg.STG_STATUS_DEFER_S, Reg.STG_CNT_DEFER_CNT] s t := by
  rw [State.deferCommit_eq]
  refine ⟨?_, ?_, ?_, rfl, rfl, rfl, .withStg ((((OnlyFlds.refl _ s).setFld (by simp) _).raise (by simp)).count (by simp)) _⟩
  · rw [State.stgState, State.fld_withStg, State.noteDefer, State.fld_count_other _ (by decide), State.fld_raise_other _ (by decide),
      State.fld_setFld_same]
    rfl
  · rw [State.on_withStg, State.noteDefer, State.on, State.fld_count_other _ (by decide)]
    exact State.on_raise_same _ rfl
  · rw [State.fld_withStg, State.noteDefer, State.fld_count_same]
    exact State.counted_congr ((State.fld_raise_other _ (by decide)).trans (State.fld_setFld_other _ _ (by decide)))

theorem State.commitDefer_late {s : State} (h : s.stgState = sAPPLYING) (hw : s.stg.waiting = true) (hlate : s.stg.commitAt + 20000 < s.now) :
    s.commitDefer = s.deferCommit := by
  unfold State.commitDefer
  rw [State.noteDrain_of_late hlate]
  exact if_pos ⟨h, hw, hlate⟩

/-! A committed value of the host interface. -/

theorem silMs_dom : domOf Reg.SYS_HOST_CFG_SIL_MS.key = some .h := by decide

/-- The silence timer begins to run as SIL_MS comes into effect while armed (R414). -/
theorem State.followSilence_begins {s t : State} (hold : s.fld Reg.SYS_HOST_CFG_SIL_MS = 0) (hnew : t.fld Reg.SYS_HOST_CFG_SIL_MS ≠ 0)
    (harmed : t.armed = true) : (t.followSilence s).host.silFrom = some t.now := by
  unfold State.followSilence
  extract_lets a b
  rw [if_neg hnew, if_pos ⟨hold, harmed⟩]

theorem State.armed_congr_fld {s t : State} (hphase : t.fld Reg.SYS_BOOT_STATUS_PHASE = s.fld Reg.SYS_BOOT_STATUS_PHASE)
    (hready : t.fld Reg.SYS_STBY_STAT_READY = s.fld Reg.SYS_STBY_STAT_READY) : t.armed = s.armed := by
  unfold State.armed State.on
  rw [hphase, hready]

/-- What follows a value of SIL_MS that comes into effect while armed. -/
theorem State.followCommit_silence {s t : State} (hold : s.fld Reg.SYS_HOST_CFG_SIL_MS = 0) (hnew : t.fld Reg.SYS_HOST_CFG_SIL_MS ≠ 0)
    (harmed : t.armed = true) : (t.followCommit s).host.silFrom = some t.now := by
  have hclocks := t.followClocks_clocks s
  have hin := t.followClocks_in s
  have hsil : (t.followClocks s).fld Reg.SYS_HOST_CFG_SIL_MS ≠ 0 := by rwa [hclocks.fld _ (by decide) (by simp)]
  have harmed' : (t.followClocks s).armed = true :=
    (State.armed_congr_fld (hclocks.fld _ (by decide) (by simp)) (hclocks.fld _ (by decide) (by simp))).trans harmed
  have hnow : (t.followClocks s).now = t.now := congrArg BitVec.toNat (hin.frame .chart (by decide))
  have hrest : Within [.regs, .adc, .drv, .twn, .snd] ((t.followClocks s).followSilence s) (t.followCommit s) :=
    (State.followPair_in _ s).thn (by decide) <| (State.followNodes_in _ s).thn (by decide) <| (State.followSounding_in _).mono (by decide)
  rw [congrArg HostRun.silFrom (hrest.frame .host (by decide)), State.followSilence_begins hold hsil harmed', hnow]

/-- A committed SIL_MS is in effect when the strobe reaches the host interface (R167). -/
theorem State.takeHost_silMs {s : State} {v : Nat} (hcom : s.regs.com = [(Reg.SYS_HOST_CFG_SIL_MS.key, v)]) : let t := s.domainApply 2
    t.fld Reg.SYS_HOST_CFG_SIL_MS = v ∧ t.regs.com = [] ∧ t.now = s.now ∧ t.armed = s.armed := by
  intro t
  have ht : t = { s with regs := { s.regs with
      com := [], eff := tabSet (resetOf Reg.SYS_HOST_CFG_SIL_MS.key) s.regs.eff Reg.SYS_HOST_CFG_SIL_MS.key v } } :=
    State.takeCom_single (p := fun k => domOf k == some .h) hcom (by rw [silMs_dom]; rfl)
  rw [ht]
  exact ⟨tabGet_set_same .., rfl, rfl, State.armed_congr_fld (tabGet_set_other _ _ _ _ (by decide)) (tabGet_set_other _ _ _ _ (by decide))⟩

theorem exec_commitDomainApply_host (s : State) : exec (.commitDomainApply 2) s = .next ((s.domainApply 2).followCommit s) := rfl

/-- A committed SIL_MS is in effect once the strobe has reached the host interface, and the silence timer begins (R167, R414). -/
theorem State.applyHost_silMs {s : State} {v : Nat} (hcom : s.regs.com = [(Reg.SYS_HOST_CFG_SIL_MS.key, v)]) (harmed : s.armed = true)
    (hold : s.fld Reg.SYS_HOST_CFG_SIL_MS = 0) (hv : v ≠ 0) : let t := (s.domainApply 2).followCommit s
    t.fld Reg.SYS_HOST_CFG_SIL_MS = v ∧ t.regs.com = [] ∧ t.host.silFrom = some s.now := by
  obtain ⟨hsil, hnone, hnow, harm⟩ := State.takeHost_silMs hcom
  generalize s.domainApply 2 = u at hsil hnone hnow harm
  have hfld := (State.followCommit_fields u s).fld Reg.SYS_HOST_CFG_SIL_MS (by decide) (by simp)
  have hcom' := ((u.followCommit_in s).frame .drafts (by decide)).1
  rw [← hnow]
  exact ⟨hfld.trans hsil, hcom'.trans hnone, State.followCommit_silence hold (ne_of_eq_of_ne hsil hv) (harm.trans harmed)⟩

end Sys2Proof.Machine

/-- Settles O26: a due commit is its drafts in effect, its flip and what follows them, which leaves both; a wait, a deferral and a value of
another domain change what their rule names. -/
theorem commitsApplyAtTheirInstant : Obligations.CommitsApplyAtTheirInstant := by
  refine ⟨fun s h hearly => congrArg Host.Outcome.next (State.commitApply_early h hearly), fun s hpending => ⟨fun p o w => ?_, fun n => ?_⟩,
    fun s h hdue hplain => ?_, fun s h hdue hbusy => ?_, fun s h hw hlate => ?_, fun s v hcom _ harmed hold hv => ?_⟩
  · have hbefore : Instr.commitApply.beforeWrite p (0x100000 + 4 * o.val) = true := by simp [Instr.beforeWrite]
    exact congrArg Host.Outcome.next (State.inOrder_putOff (State.awaits_of_pending hpending hbefore) _ _)
  · exact congrArg Host.Outcome.next (State.inOrder_putOff (State.awaits_of_pending hpending rfl) _ _)
  · have hexec : s.commitApply = s.applyDue := by
      rw [State.commitApply_due h hdue, State.retiringCtxs_plain hplain]
      rfl
    obtain ⟨hstate, hflag, hshadow, hentries, hstamp, hcnt, hcoef, hbun, hst, -⟩ := State.applyDue_shows hplain
    exact ⟨_, congrArg Host.Outcome.next hexec, hstate, hflag, hshadow, hentries, hstamp, hcnt, hcoef, hbun, hst,
      fun g v hcom hdraft _ => State.applyDue_droop hplain hcom hdraft⟩
  · exact ⟨_, congrArg Host.Outcome.next ((State.commitApply_due h hdue).trans (if_pos hbusy)), s.waitFetches_shows⟩
  · exact ⟨_, congrArg Host.Outcome.next (State.commitDefer_late h hw hlate), s.deferCommit_shows⟩
  · exact ⟨_, exec_commitDomainApply_host s, State.applyHost_silMs hcom harmed hold hv⟩

end

/-! A leg whose carrier group is not one of the eight. -/

section
open Sys2Proof Sys2Proof.Machine

namespace Sys2Proof.Machine

/-- An image that uses leg 1 alone, in logic mode, in carrier group `cgrp`. A GROUP sheet spells the groups 0 to 7 alone (R138), but the record
holds any number. -/
def oneLegImg (cgrp : Nat) : Img := { legs := [{ leg := 1, used := true, logic := true, cgrp := cgrp }] }

/-- An armed module at a period start of leg 1, which is OFF, may switch, and holds a duty of 1/320, whose high-side pulse is shorter than its
chain emits in a group with this MINP (R218). -/
def shortPulseLeg (cgrp : Nat) : State :=
  let s := (((State.reset.setFld Reg.SYS_BOOT_STATUS_PHASE 6).setFld (Reg.PWM_RUN 0) 2).setFld (Reg.PWM_CG_MINP_MINP cgrp) 512).setLeg 1
    { shadow := 0x000CCCCD, got := true }
  { s with chart := 12000, stg := { s.stg with active := some (oneLegImg cgrp) }, pwm := { s.pwm with running := true } }

theorem shortPulseLeg_atUpdate : let s := shortPulseLeg 24
    s.pwm.running = true ∧ (s.legRec 1).used = true ∧ (s.legRec 1).logic = true ∧ ((s.leg 1).car.at s.now).isUpdate s.now = true ∧
      s.marked 1 = false ∧ s.awaits Instr.beforeUpdate = false := by decide

theorem shortPulseLeg_mayLeaveOff : let s := shortPulseLeg 24
    s.fld (Reg.PWM_LEG_STATUS_STATE 1) = legOFF ∧ s.armed = true ∧ s.permits 1 = true ∧ (s.leg 1).got = true ∧ s.twn.waitFrom = none ∧
      s.twn.settleTo ≤ s.now := by decide

/-- The first window omits the pulse. In group 7 the leg is ACTIVE and OMIT_CNT reads 1; OMIT_CNT of a group 24 would be the word 0x6418, which
is STATUS of leg 1 and begins with STATE (R236), so that the count raises ACTIVE to FORCED. -/
theorem shortPulseLeg_state :
    ((shortPulseLeg 7).legUpdate 1).fld (Reg.PWM_LEG_STATUS_STATE 1) = legACTIVE ∧
    ((shortPulseLeg 7).legUpdate 1).fld (Reg.PWM_CG_CNT_OMIT_CNT 7) = 1 ∧
    ((shortPulseLeg 24).legUpdate 1).fld (Reg.PWM_LEG_STATUS_STATE 1) = legFORCED := by decide

/-- An update point of a leg behind which nothing of its C-cycle waits acts at once. -/
theorem execUpdatePoint_leg {s : State} (h : s.awaits Instr.beforeUpdate = false) (n : Fin 64) :
    exec (.updatePoint ⟨n.val, by omega⟩) s = .next (s.legUpdate n) :=
  congrArg Host.Outcome.next <| (if_neg (by simp [h])).trans (if_pos n.isLt)

end Sys2Proof.Machine

/-- Refutes O44: a logic-mode leg of a carrier group 24 does not come from OFF to ACTIVE where its first window omits a pulse, as the omission is
counted in the word that holds its STATE, which then reads FORCED. No image that the model parses names such a group: the clause
needs a hypothesis that the leg's carrier group is one of the eight. -/
theorem not_updatePointsAndTrips : ¬ Obligations.UpdatePointsAndTrips := by
  intro h
  obtain ⟨hrun, hused, hlogic, hpoint, hmark, hfirst⟩ := shortPulseLeg_atUpdate
  obtain ⟨hoff, harmed, hpermits, hgot, hwait, hsettled⟩ := shortPulseLeg_mayLeaveOff
  obtain ⟨-, -, hforced⟩ := shortPulseLeg_state
  obtain ⟨t, ht, -, hleaves, -⟩ := h.2.1 (shortPulseLeg 24) 1 hrun hused hpoint hmark hfirst
  obtain rfl := Host.Outcome.next.inj ((execUpdatePoint_leg hfirst 1).symm.trans ht)
  have hactive := (hleaves hoff harmed hpermits hgot hwait hsettled).trans (if_pos hlogic)
  exact absurd (hforced.symm.trans hactive) (by decide)

end

/-! Gates of a leg: turn-ons and turn-offs, the committed fields that an edge brings into effect, and the events of a leg. -/

section
open Sys2Proof Sys2Proof.Machine

namespace Sys2Proof.Machine

/-! One gate of a leg's record. -/

theorem DrvLeg.gate_setGate (r : DrvLeg) (high : Bool) (g : Gate) : (r.setGate high g).gate high = g := by cases high <;> rfl

/-- A switch that begins to turn on is on from that instant. -/
theorem DrvLeg.begin_on (r : DrvLeg) (high : Bool) (t c : Nat) :
    (r.begin high t c).gate high = .on ∧ (r.begin high t c).onAt high = some t := by
  cases high <;> exact ⟨rfl, rfl⟩

/-- A switch that turns off leaves the other as it is. -/
theorem DrvLeg.quit_gate (r : DrvLeg) (high : Bool) (t c : Nat) :
    (r.quit high t c).gate high = .off ∧ (r.quit high t c).gate (!high) = r.gate (!high) := by
  cases high
  · exact r.quit_low t c
  · exact r.quit_high t c

theorem DrvLeg.quit_locked (r : DrvLeg) (high : Bool) (t c : Nat) : (r.quit high t c).locked = r.locked := by
  unfold DrvLeg.quit
  split <;> split <;> rfl

/-! A command edge (R249). -/

/-- The record of a leg at whose edge no committed field is due. -/
def DrvLeg.settled (r : DrvLeg) : DrvLeg := { r with cfgDue := false, dieOld := none }

theorem State.legEdge_settled {s : State} {n : Nat} (h : (s.dleg n).cfgDue = false) : s.legEdge n = s.setDleg n (s.dleg n).settled :=
  if_neg (ne_true_of_eq_false h)

/-- The command lines of a leg are the pulse generator's (R216). -/
theorem State.cmd_congr {s t : State} (h : t.pwm = s.pwm) (n : Nat) (high : Bool) : t.cmd n high = s.cmd n high := by
  unfold State.cmd State.leg
  rw [h]

theorem State.legEdge_cmd (s : State) (n : Nat) (high : Bool) : (s.legEdge n).cmd n high = s.cmd n high :=
  State.cmd_congr ((s.legEdge_in n).frame .pwm (by decide)) n high

theorem strNow_drvKey : ∀ n : Fin 64, drvKey n (Reg.DRV_LEG_STR_NOW n).key = true ∧ drvKey n Reg.SDC_STATUS_STATE.key = false := by
  decide

/-- An edge of a leg leaves every field beside the registers of the leg. -/
theorem State.legEdge_fld (s : State) (n : Fin 64) {f : Fld} (h : drvKey n f.key = false) : (s.legEdge n).fld f = s.fld f := by
  unfold State.legEdge
  extract_lets r t hit u
  have hu : u.fld f = s.fld f := t.takeCom_fld_other h
  have hkey : f.key ≠ (Reg.DRV_LEG_STR_NOW n).key := fun hk => by
    rw [hk, (strNow_drvKey n).1] at h
    exact Bool.false_ne_true h.symm
  split
  · split
    · exact (State.mark_fld ..).trans ((u.fld_setFld_other _ hkey).trans hu)
    · exact hu
  · rfl

theorem State.legEdge_sdcRun (s : State) (n : Fin 64) : (s.legEdge n).sdcRun = s.sdcRun := by
  unfold State.sdcRun
  rw [s.legEdge_fld n (strNow_drvKey n).2]

/-- A leg with a committed strength that takes effect at this edge: STR and STR_NOW hold it, and the reload is marked (R249, R258). -/
structure Reloaded (t : State) (n v : Nat) : Prop where
  str : t.fld (Reg.DRV_LEG_STR n) = v
  now : t.fld (Reg.DRV_LEG_STR_NOW n) = v
  com : t.regs.com = []
  mark : t.marked (markReload n) = true

theorem Reloaded.setDleg {t : State} {n v : Nat} (h : Reloaded t n v) (m : Nat) (r : DrvLeg) : Reloaded (t.setDleg m r) n v :=
  ⟨h.str, h.now, h.com, h.mark⟩

theorem State.marked_mark (s : State) (k : Nat) : (s.mark k).marked k = true := by
  unfold State.marked State.mark State.note
  split
  · assumption
  · simp

theorem str_keys : ∀ n : Fin 64, drvKey n (Reg.DRV_LEG_STR n).key = true ∧ (Reg.DRV_LEG_STR n).key ≠ (Reg.DRV_LEG_STR_NOW n).key := by
  decide

/-- Where STR alone is committed, the edge loads it into STR_NOW (R249). -/
theorem State.legEdge_reloads {s : State} {n : Fin 64} {v : Nat} (hdue : (s.dleg n).cfgDue = true)
    (hcom : s.regs.com = [((Reg.DRV_LEG_STR n).key, v)]) (hv : v < 2 ^ 16) : Reloaded (s.legEdge n) n v := by
  obtain ⟨hpick, hother⟩ := str_keys n
  unfold State.legEdge
  extract_lets r t hit u
  have hhit : hit = true := by simp [hit, hcom]
  have hu : u = { t with regs := { t.regs with com := [], eff := tabSet _ t.regs.eff (Reg.DRV_LEG_STR n).key v } } :=
    State.takeCom_single hcom hpick
  have hstr : u.fld (Reg.DRV_LEG_STR n) = v := by
    rw [hu]
    exact tabGet_set_same ..
  rw [if_pos hdue, if_pos hhit, hstr]
  refine ⟨?_, ?_, ?_, State.marked_mark ..⟩
  · exact (u.fld_setFld_other v hother).trans hstr
  · exact (u.fld_setFld_same ..).trans (Nat.mod_eq_of_lt hv)
  · exact congrArg (fun w : State => w.regs.com) hu

/-! A turn-on edge (R239, R244, R245). -/

section turnOn
variable {s : State} {n : Fin 64} {high : Bool}

/-- The safe-disconnect lines hold the leg off (R365). -/
theorem State.turnOn_held (clear : Bool) (hcmd : s.cmd n high = true) (hoff : (s.dleg n).gate high = .off) (hrun : s.sdcRun = false) :
    s.turnOn n high clear = s.legEdge n := by
  simp [State.turnOn, hcmd, hoff, s.legEdge_sdcRun n, hrun]

/-- With both commands on the interlock acts (R244). -/
theorem State.turnOn_overlap (clear : Bool) (hcmd : s.cmd n high = true) (hoff : (s.dleg n).gate high = .off) (hrun : s.sdcRun = true)
    (hother : s.cmd n (!high) = true) : s.turnOn n high clear = (s.legEdge n).interlock n := by
  simp [State.turnOn, hcmd, hoff, s.legEdge_sdcRun n, hrun, State.legEdge_cmd, hother]

/-- The drive die of a direct-mode leg lets its gates turn on: no fault, no lockout, and the leg drives (R23, R242, R251, R255). -/
structure State.Drives (s : State) (n : Nat) : Prop where
  direct : s.direct n = true
  ready : s.dieReady (n / 16) = true
  fault : s.legFault n = false
  unlocked : (s.dleg n).locked = false
  follows : (s.dleg n).bsuvFrom = none
  role : s.fld (Reg.DRV_LEG_STATUS_ROLE n) = 0

theorem State.Drives.settled {m : Nat} (h : s.Drives m) : (s.setDleg m (s.dleg m).settled).Drives m where
  direct := h.direct
  ready := h.ready
  fault := h.fault
  unlocked := by rw [State.dleg_setDleg_same]; exact h.unlocked
  follows := by rw [State.dleg_setDleg_same]; exact h.follows
  role := h.role

/-- One command alone begins a turn-on where the opposite gate is off, and else its wait (R245). -/
theorem State.turnOn_alone (clear : Bool) (hcmd : s.cmd n high = true) (hoff : (s.dleg n).gate high = .off) (hrun : s.sdcRun = true)
    (hother : s.cmd n (!high) = false) (h : (s.legEdge n).Drives n) : s.turnOn n high clear =
      if clear then (s.legEdge n).begin n high
      else (s.legEdge n).setDleg n { ((s.legEdge n).dleg n).setGate high .waiting with cmdAt := (s.legEdge n).now } := by
  simp [State.turnOn, hcmd, hoff, s.legEdge_sdcRun n, hrun, State.legEdge_cmd, hother, h.direct, h.ready, h.fault, h.unlocked, h.follows,
    h.role]

end turnOn

/-- A switch that begins to turn on is on from 20 ns on, and no register changes (R245). -/
theorem State.begin_spec (s : State) (n : Nat) (high : Bool) :
    ((s.begin n high).dleg n).gate high = .on ∧ ((s.begin n high).dleg n).onAt high = some (s.now + 8) ∧ (s.begin n high).regs = s.regs := by
  unfold State.begin
  rw [State.dleg_setDleg_same]
  obtain ⟨hon, hat⟩ := ((s.dleg n).clamped (!high)).begin_on high (s.now + turnOnDelay) (s.strNow n (if high then 0 else 2))
  exact ⟨hon, hat, rfl⟩

/-- A turn-on edge of a leg that may turn on, at which no committed field is due. -/
theorem State.turnOn_spec {s : State} {n : Fin 64} {high : Bool} (clear : Bool) (hcmd : s.cmd n high = true)
    (hoff : (s.dleg n).gate high = .off) (hdue : (s.dleg n).cfgDue = false) (hrun : s.sdcRun = true) (hother : s.cmd n (!high) = false)
    (h : s.Drives n) : ((s.turnOn n high clear).dleg n).gate high = (if clear then .on else .waiting) ∧
      (clear = true → ((s.turnOn n high clear).dleg n).onAt high = some (s.now + 8)) ∧
      (clear = false → ((s.turnOn n high clear).dleg n).cmdAt = s.now) ∧ (s.turnOn n high clear).regs = s.regs := by
  have hedge := State.legEdge_settled hdue
  rw [State.turnOn_alone clear hcmd hoff hrun hother (hedge ▸ h.settled), hedge]
  cases clear with
  | true =>
    obtain ⟨hon, hat, hregs⟩ := State.begin_spec (s.setDleg n (s.dleg n).settled) n high
    exact ⟨hon, fun _ => hat, fun h => absurd h.symm Bool.false_ne_true, hregs⟩
  | false =>
    refine ⟨?_, fun h => absurd h Bool.false_ne_true, fun _ => ?_, rfl⟩
    · rw [if_neg Bool.false_ne_true, State.dleg_setDleg_same]
      exact DrvLeg.gate_setGate _ high .waiting
    · rw [if_neg Bool.false_ne_true, State.dleg_setDleg_same]
      rfl

/-! The sticky bits of a leg and of the DRV block, with a count (R16, R17, R259). -/

section
variable (s : State) {f g c : Fld}

/-- A sticky bit of a leg is set, and its bit of DRV_STATUS. -/
theorem State.raise_raise_on (hw : f.width = 1) (hg : f.key ≠ g.key) : ((s.raise f).raise g).on f = true :=
  (State.on_raise_other _ hg).trans (s.on_raise_same hw)

/-- An event of a leg: its sticky bits and its count. -/
def State.noteEvent (f g c : Fld) : State := ((s.raise f).raise g).count c

/-- The keys of a leg's event: its bit, the bit of DRV_STATUS and its count differ. -/
structure EventFlds (f g c : Fld) : Prop where
  width : f.width = 1
  status : f.key ≠ g.key
  bit : f.key ≠ c.key
  cnt : c.key ≠ g.key

theorem State.noteEvent_on (h : EventFlds f g c) : (s.noteEvent f g c).on f = true := by
  have hfld : (s.noteEvent f g c).fld f = ((s.raise f).raise g).fld f := State.fld_count_other _ h.bit
  rw [State.on, hfld]
  exact s.raise_raise_on h.width h.status

theorem State.noteEvent_cnt (h : EventFlds f g c) : (s.noteEvent f g c).fld c = s.counted c :=
  (State.fld_count_same _ c).trans
    (State.counted_congr ((State.fld_raise_other _ h.cnt).trans (State.fld_raise_other _ h.bit.symm)))

theorem State.noteEvent_drv : (s.noteEvent f g c).drv = s.drv :=
  (State.count_drv ..).trans ((State.raise_drv ..).trans (State.raise_drv ..))

end

theorem EventFlds.of_leg (n : Fin 64) :
    EventFlds (Reg.DRV_LEG_STATUS_ILK_S n) Reg.DRV_STATUS_ILK_S (Reg.DRV_LEG_CNT_ILK_CNT n) ∧
    EventFlds (Reg.DRV_LEG_STATUS_BSUV_S n) Reg.DRV_STATUS_BSUV_S (Reg.DRV_LEG_CNT_BSUV_CNT n) := by
  have hilk : ∀ n : Fin 64, (Reg.DRV_LEG_STATUS_ILK_S n).key ≠ Reg.DRV_STATUS_ILK_S.key ∧
      (Reg.DRV_LEG_STATUS_ILK_S n).key ≠ (Reg.DRV_LEG_CNT_ILK_CNT n).key ∧
      (Reg.DRV_LEG_CNT_ILK_CNT n).key ≠ Reg.DRV_STATUS_ILK_S.key := by decide
  have hbsuv : ∀ n : Fin 64, (Reg.DRV_LEG_STATUS_BSUV_S n).key ≠ Reg.DRV_STATUS_BSUV_S.key ∧
      (Reg.DRV_LEG_STATUS_BSUV_S n).key ≠ (Reg.DRV_LEG_CNT_BSUV_CNT n).key ∧
      (Reg.DRV_LEG_CNT_BSUV_CNT n).key ≠ Reg.DRV_STATUS_BSUV_S.key := by decide
  obtain ⟨hi, hib, hic⟩ := hilk n
  obtain ⟨hb, hbb, hbc⟩ := hbsuv n
  exact ⟨⟨rfl, hi, hib, hic⟩, ⟨rfl, hb, hbb, hbc⟩⟩

/-- Both gates off, with an overlap in progress (R244). -/
def State.overlapped (s : State) (n : Nat) : State := (s.gatesOff n).setDleg n { (s.gatesOff n).dleg n with overlap := true }

theorem State.overlapped_regs (s : State) (n : Nat) : (s.overlapped n).regs = s.regs :=
  (State.setDleg_regs ..).trans (State.setDleg_regs ..)

theorem State.interlock_eq {s : State} {n : Nat} (hnew : (s.dleg n).overlap = false) (hrole : s.fld (Reg.DRV_LEG_STATUS_ROLE n) = 0) :
    s.interlock n = (s.overlapped n).noteEvent (Reg.DRV_LEG_STATUS_ILK_S n) Reg.DRV_STATUS_ILK_S (Reg.DRV_LEG_CNT_ILK_CNT n) := by
  have hdrives : (s.overlapped n).fld (Reg.DRV_LEG_STATUS_ROLE n) ≠ 1 := by
    rw [State.fld_congr (s.overlapped_regs n), hrole]
    exact Nat.zero_ne_one
  exact (if_neg (ne_true_of_eq_false hnew)).trans (if_neg hdrives)

/-- An overlap that begins on a leg that drives turns both switches off, with ILK_S and ILK_CNT (R244). -/
theorem State.interlock_spec {s : State} {n : Fin 64} (hnew : (s.dleg n).overlap = false) (hrole : s.fld (Reg.DRV_LEG_STATUS_ROLE n) = 0) :
    Dark (s.interlock n) n ∧ (s.interlock n).on (Reg.DRV_LEG_STATUS_ILK_S n) = true ∧
    (s.interlock n).fld (Reg.DRV_LEG_CNT_ILK_CNT n) = s.counted (Reg.DRV_LEG_CNT_ILK_CNT n) := by
  have hflds := (EventFlds.of_leg n).1
  have hdark : Dark (s.overlapped n) n := (s.gatesOffAt_dark n none).keepGates n rfl rfl
  rw [State.interlock_eq hnew hrole]
  exact ⟨hdark.same (State.noteEvent_drv _), State.noteEvent_on _ hflds,
    (State.noteEvent_cnt _ hflds).trans (State.counted_congr (State.fld_congr (s.overlapped_regs n) _))⟩

/-! A turn-off edge (R216, R239, R249). -/

theorem State.turnOff_eq {s : State} {n : Nat} {high : Bool} (h : s.cmd n high = false) : s.turnOff n high = (s.legEdge n).setDleg n
    { ((s.legEdge n).dleg n).quit high (s.legEdge n).now ((s.legEdge n).strNow n (if high then 1 else 3)) with overlap := false } :=
  if_neg (ne_true_of_eq_false h)

/-- A turn-off turns its switch off, and leaves the other as the edge left it. -/
theorem State.turnOff_gate {s : State} {n : Nat} {high : Bool} (h : s.cmd n high = false) :
    ((s.turnOff n high).dleg n).gate high = .off ∧ ((s.turnOff n high).dleg n).gate (!high) = ((s.legEdge n).dleg n).gate (!high) := by
  rw [State.turnOff_eq h, State.dleg_setDleg_same]
  exact ((s.legEdge n).dleg n).quit_gate high (s.legEdge n).now ((s.legEdge n).strNow n (if high then 1 else 3))

/-! The logic pins (R29, R33, R216). -/

theorem State.logicPin_unarmed {s : State} (h : s.armed = false) (n : Nat) (high : Bool) : s.logicPin n high = false := by
  rw [State.logicPin, h, Bool.false_and, Bool.false_and, Bool.false_and]

theorem State.logicPin_armed {s : State} {n : Nat} (harmed : s.armed = true) (hused : (s.legRec n).used = true)
    (hlogic : (s.legRec n).logic = true) (high : Bool) : s.logicPin n high =
      (decide ((s.dleg n).gate high = .on) != s.on (if high then Reg.PWM_LEG_CTRL_INV_H n else Reg.PWM_LEG_CTRL_INV_L n)) := by
  rw [State.logicPin, harmed, hused, hlogic, Bool.true_and, Bool.true_and, Bool.true_and]

end Sys2Proof.Machine
end

/-! Faults of a leg and the bootstrap lockout. -/

section
open Sys2Proof Sys2Proof.Machine

namespace Sys2Proof.Machine

/-! The confirmation of a turn-on (R245). -/

theorem gwait_keys : ∀ n : Fin 64, (Reg.DRV_LEG_STATUS_GWAIT_S n).key ≠ Reg.DRV_STATUS_GWAIT_S.key := by decide

/-- A turn-on that is confirmed in time begins 20 ns later, and shows GWAIT_S where it waited for more than 10 ns. -/
theorem State.confirmed_spec {s : State} {n : Fin 64} {high : Bool} (hwait : (s.dleg n).gate high = .waiting)
    (htime : s.now < (s.dleg n).cmdAt + s.gcw n) :
    ((s.confirmed n high).dleg n).gate high = .on ∧ ((s.confirmed n high).dleg n).onAt high = some (s.now + 8) ∧
    ((s.dleg n).cmdAt + 4 < s.now → (s.confirmed n high).on (Reg.DRV_LEG_STATUS_GWAIT_S n) = true) ∧
    (s.now ≤ (s.dleg n).cmdAt + 4 → (s.confirmed n high).regs = s.regs) := by
  obtain ⟨hon, hat, hregs⟩ := s.begin_spec n high
  unfold State.confirmed
  extract_lets r t
  rw [if_pos ⟨hwait, htime⟩]
  split
  · next hlate =>
    have hdleg : ((t.raise (Reg.DRV_LEG_STATUS_GWAIT_S n)).raise Reg.DRV_STATUS_GWAIT_S).dleg n = t.dleg n :=
      State.dleg_congr ((State.raise_drv ..).trans (State.raise_drv ..)) n
    rw [hdleg]
    exact ⟨hon, hat, fun _ => t.raise_raise_on rfl (gwait_keys n), fun h => absurd hlate (Nat.not_lt.2 h)⟩
  · next hprompt => exact ⟨hon, hat, fun h => absurd h hprompt, fun _ => hregs⟩

/-! A fault of a leg that latches (R243, R245, R246, R259). -/

/-- What the latching of a leg's fault shows: the latch, both gates off, FLT_CNT and the die's bit of FAULT. -/
structure LegFaulted (s t : State) (n : Nat) (f : Fld) : Prop where
  flag : t.on f = true
  dark : Dark t n
  cnt : t.fld (Reg.DRV_DIE_CNT_FLT_CNT (n / 16)) = s.counted (Reg.DRV_DIE_CNT_FLT_CNT (n / 16))
  status : bitOf (t.fld Reg.DRV_STATUS_FAULT) (n / 16) = true

theorem FaultLatch.of_legLatch (n : Fin 64) {f : Fld} (hf : f ∈ legLatches n) : FaultLatch (n / 16) f := by
  have h : ∀ n : Fin 64, ∀ f ∈ legLatches n, f.width = 1 ∧ f.blk = 7 ∧ f.key ≠ (Reg.DRV_DIE_CNT_FLT_CNT (n / 16)).key ∧
      f.key ≠ Reg.DRV_STATUS_FAULT.key := by decide
  obtain ⟨hw, hb, hc, hs⟩ := h n f hf
  exact ⟨hw, hb, hc, hs⟩

/-- FAULT of a die shows a latch of any of its legs (R259). -/
theorem State.noteFault_shows {s : State} {n : Fin 64} {f : Fld} (hf : f ∈ legLatches n) (hon : s.on f = true) :
    bitOf ((s.noteFault (n / 16)).fld Reg.DRV_STATUS_FAULT) (n / 16) = true := by
  have hleg : s.legFault (16 * (n / 16) + n % 16) = true := by
    rw [Nat.div_add_mod, ← Bool.not_eq_false, State.legFault_iff]
    exact fun h => ne_true_of_eq_false (h f hf) hon
  have hany : (anyIdx 16 fun j => s.legFault (16 * (n / 16) + j)) = true :=
    List.any_eq_true.2 ⟨_, List.mem_range.2 (Nat.mod_lt _ (by decide)), hleg⟩
  unfold State.noteFault
  extract_lets fault
  have hfault : fault = true := by simp only [fault, hany, Bool.or_true]
  rw [hfault, if_pos rfl, State.fld_setFld_same]
  exact (bitOf_mod (show n.val / 16 < 4 by omega) _).trans (bitOf_setBit_same _ _)

theorem State.latchLegFault_faulted (s : State) (n : Fin 64) {f : Fld} (hf : f ∈ legLatches n) (soft : Option Nat) :
    LegFaulted s (s.latchLegFault n f soft) n f := by
  have hdie : n.val / 16 < 4 := by omega
  have hlatch := FaultLatch.of_legLatch n hf
  have hl : Latched s (s.gatesOffAt n soft) (s.latchLegFault n f soft) (n / 16) f :=
    State.recordFault_latched (d := ⟨n / 16, hdie⟩) (State.setDleg_regs ..) hlatch _
  refine ⟨hl.flag, (s.gatesOffAt_dark n soft).same hl.drv, hl.cnt, ?_⟩
  rw [State.latchLegFault_eq, (State.gateActions_acts _ _).drvFld (f := Reg.DRV_STATUS_FAULT) (by decide)]
  refine State.noteFault_shows hf ?_
  rw [State.on, State.fld_count_other _ hlatch.cnt]
  exact State.on_setFld_one _ hlatch.width

/-- A wait that ends unconfirmed latches GSTUCK (R245). -/
theorem State.confirmTimeout_eq {s : State} {n : Nat} {high : Bool} (hwait : (s.dleg n).gate high = .waiting)
    (htime : (s.dleg n).cmdAt + s.gcw n ≤ s.now) : s.confirmTimeout n high = s.latchLegFault n (Reg.DRV_LEG_STATUS_GSTUCK n) none :=
  if_pos ⟨hwait, htime⟩

/-- A gate of a leg that drives, and that does not rise within GCW, latches GLOW (R246). -/
theorem State.lowTimeout_eq {s : State} {n b : Nat} {high : Bool} (hdir : s.direct n = true) (hon : (s.dleg n).gate high = .on)
    (hat : (s.dleg n).onAt high = some b) (htime : b + s.gcw n ≤ s.now) (hrole : s.fld (Reg.DRV_LEG_STATUS_ROLE n) = 0) :
    s.lowTimeout n high = s.latchLegFault n (Reg.DRV_LEG_STATUS_GLOW n) none :=
  if_pos ⟨hdir, hon, by rw [hat]; exact htime, hrole⟩

/-! The bootstrap lockout (R242, R243). -/

theorem State.gatesOffAt_locked (s : State) (n : Nat) (soft : Option Nat) : ((s.gatesOffAt n soft).dleg n).locked = (s.dleg n).locked := by
  unfold State.gatesOffAt
  rw [State.dleg_setDleg_same, DrvLeg.quit_locked, DrvLeg.quit_locked]

/-- Both gates off, with the first undervoltage of a run noted (R242, R243). -/
def State.floated (s : State) (n : Nat) : State :=
  (s.gatesOff n).setDleg n { (s.gatesOff n).dleg n with bsuvFrom := some ((s.dleg n).bsuvFrom.getD s.now) }

theorem State.floated_regs (s : State) (n : Nat) : (s.floated n).regs = s.regs :=
  (State.setDleg_regs ..).trans (State.setDleg_regs ..)

theorem State.bsuv_eq (s : State) (n : Nat) : s.bsuv n =
    (s.floated n).noteEvent (Reg.DRV_LEG_STATUS_BSUV_S n) Reg.DRV_STATUS_BSUV_S (Reg.DRV_LEG_CNT_BSUV_CNT n) := rfl

/-- A bootstrap undervoltage: the leg floats with its lockout as it was, with BSUV_S and BSUV_CNT. -/
theorem State.bsuv_spec (s : State) (n : Fin 64) :
    Dark (s.bsuv n) n ∧ ((s.bsuv n).dleg n).locked = (s.dleg n).locked ∧ (s.bsuv n).on (Reg.DRV_LEG_STATUS_BSUV_S n) = true ∧
    (s.bsuv n).fld (Reg.DRV_LEG_CNT_BSUV_CNT n) = s.counted (Reg.DRV_LEG_CNT_BSUV_CNT n) := by
  have hflds := (EventFlds.of_leg n).2
  have hdark : Dark (s.floated n) n := (s.gatesOffAt_dark n none).keepGates n rfl rfl
  rw [State.bsuv_eq]
  refine ⟨hdark.same (State.noteEvent_drv _), ?_, State.noteEvent_on _ hflds,
    (State.noteEvent_cnt _ hflds).trans (State.counted_congr (State.fld_congr (s.floated_regs n) _))⟩
  rw [State.dleg_congr (State.noteEvent_drv _), State.floated, State.dleg_setDleg_same]
  exact s.gatesOffAt_locked n none

/-- An undervoltage leaves the modes of the legs, which the image gives (R29). -/
theorem State.bsuv_direct (s : State) (n m : Nat) : (s.bsuv n).direct m = s.direct m := by
  have hstg : (s.bsuv n).stg = s.stg := (s.bsuv_in n).frame .stg (by decide)
  unfold State.direct State.legRec
  rw [hstg]

theorem State.bsuv_cmd (s : State) (n m : Nat) (high : Bool) : (s.bsuv n).cmd m high = s.cmd m high :=
  State.cmd_congr ((s.bsuv_in n).frame .pwm (by decide)) m high

theorem State.unlock_spec (s : State) (n : Nat) : ((s.unlock n).dleg n).locked = false ∧ ((s.unlock n).dleg n).bsuvFrom = none ∧
    (s.unlock n).bsuvNow n = false ∧ (s.unlock n).regs = s.regs := by
  have hdleg : (s.unlock n).dleg n = { s.dleg n with locked := false, bsuvFrom := none } := State.dleg_setDleg_same ..
  refine ⟨by rw [hdleg], by rw [hdleg], ?_, rfl⟩
  rw [State.bsuvNow, hdleg, Bool.and_false, Bool.false_and]

/-- A lockout that locks with the high side off. -/
theorem State.lock_quiet {s : State} {n : Nat} (h : s.cmd n true = false) : s.lock n = s.setDleg n { s.dleg n with locked := true } :=
  if_neg (by rw [h, Bool.and_false]; exact Bool.false_ne_true)

/-- A lockout that locks with the high side of a direct-mode leg commanded on is an undervoltage. -/
theorem State.lock_bsuv {s : State} {n : Nat} (hdir : s.direct n = true) (hcmd : s.cmd n true = true) :
    s.lock n = (s.setDleg n { s.dleg n with locked := true }).bsuv n :=
  if_pos (by rw [hdir, hcmd]; rfl)

theorem State.lock_spec {s : State} {n : Fin 64} (hdir : s.direct n = true) (hcmd : s.cmd n true = true) :
    ((s.lock n).dleg n).locked = true ∧ Dark (s.lock n) n ∧ (s.lock n).on (Reg.DRV_LEG_STATUS_BSUV_S n) = true ∧
    (s.lock n).bsuvNow n = true ∧ (s.lock n).fld (Reg.DRV_LEG_CNT_BSUV_CNT n) = s.counted (Reg.DRV_LEG_CNT_BSUV_CNT n) := by
  rw [State.lock_bsuv hdir hcmd]
  set t := s.setDleg n { s.dleg n with locked := true }
  obtain ⟨hdark, hlock, hon, hcnt⟩ := t.bsuv_spec n
  have hlocked : ((t.bsuv n).dleg n).locked = true := by rw [hlock, State.dleg_setDleg_same]
  refine ⟨hlocked, hdark, hon, ?_, hcnt⟩
  rw [State.bsuvNow, hlocked, State.bsuv_direct, State.bsuv_cmd, Bool.and_true]
  exact (congrArg₂ Bool.and hdir hcmd).trans (Bool.and_self true)

/-- A bootstrap that stays low for BSUV_T latches UVLAT (R243). -/
theorem State.bsuvTimeout_due {s : State} {n t0 : Nat} (hfrom : (s.dleg n).bsuvFrom = some t0) (hlock : (s.dleg n).locked = true)
    (htime : t0 + msCycles (s.dieCfg n).bsuvT ≤ s.now) :
    s.bsuvTimeout n = (s.setDleg n { s.dleg n with bsuvFrom := none }).latchLegFault n (Reg.DRV_LEG_STATUS_UVLAT n) none := by
  unfold State.bsuvTimeout
  rw [hfrom]
  exact if_pos ⟨hlock, htime⟩

theorem State.bsuvTimeout_early {s : State} {n t0 : Nat} (hfrom : (s.dleg n).bsuvFrom = some t0)
    (htime : s.now < t0 + msCycles (s.dieCfg n).bsuvT) : s.bsuvTimeout n = s := by
  unfold State.bsuvTimeout
  rw [hfrom]
  exact if_neg fun h => absurd h.2 (Nat.not_le.2 htime)

/-! A release that waits (R255). -/

theorem State.legRelease_eq {s : State} {n : Nat} (hpend : (s.dleg n).relPend = true) (hhi : s.cmd n true = false)
    (hlo : s.cmd n false = false) : s.legRelease n =
      ((s.gatesOff n).setDleg n { (s.gatesOff n).dleg n with relPend := false }).setFld (Reg.DRV_LEG_STATUS_ROLE n) 1 := by
  have hcmds : ¬ ((s.leg n).hiCmd || (s.leg n).loCmd) = true := by
    rw [show (s.leg n).hiCmd = false from hhi, show (s.leg n).loCmd = false from hlo]
    exact Bool.false_ne_true
  exact (if_pos hpend).trans (if_neg hcmds)

theorem State.legRelease_spec {s : State} {n : Nat} (hpend : (s.dleg n).relPend = true) (hhi : s.cmd n true = false)
    (hlo : s.cmd n false = false) : (s.legRelease n).fld (Reg.DRV_LEG_STATUS_ROLE n) = 1 ∧ ((s.legRelease n).dleg n).relPend = false ∧
      Dark (s.legRelease n) n ∧ OnlyFlds [Reg.DRV_LEG_STATUS_ROLE n] s (s.legRelease n) := by
  rw [State.legRelease_eq hpend hhi hlo]
  have hdark : Dark ((s.gatesOff n).setDleg n { (s.gatesOff n).dleg n with relPend := false }) n :=
    (s.gatesOffAt_dark n none).keepGates n rfl rfl
  have hregs : ((s.gatesOff n).setDleg n { (s.gatesOff n).dleg n with relPend := false }).regs = s.regs :=
    (State.setDleg_regs ..).trans (State.setDleg_regs ..)
  refine ⟨(State.fld_setFld_same ..).trans rfl, ?_, hdark.same (State.setFld_drv ..),
    ((OnlyFlds.refl _ s).same hregs).setFld (List.mem_singleton.2 rfl) 1⟩
  rw [State.dleg_congr (State.setFld_drv ..), State.dleg_setDleg_same]

end Sys2Proof.Machine
end

/-! Times of edges and strengths. -/

section
open Sys2Proof Sys2Proof.Machine

namespace Sys2Proof.Machine

/-! The edge timer (R247). -/

/-- The field that reports the latest edge of a direction. -/
def lastEdge (n : Nat) (rising : Bool) : Fld := if rising then Reg.DRV_LEG_EDGE_LAST_RISE n else Reg.DRV_LEG_EDGE_LAST_FALL n

theorem lastEdge_width (n : Nat) (rising : Bool) : (lastEdge n rising).width = 16 := by cases rising <;> rfl

/-- A time outside 1 ns to 250 ns is discarded. -/
theorem State.swEdge_discards (s : State) (n : Nat) (rising : Bool) {q : Nat} (h : q < 4 ∨ 1000 < q) : s.swEdge n rising q = s :=
  if_pos (h.imp_right .inl)

/-- A time that is measured changes, beside EDGE_LAST, the credits alone. -/
theorem State.swEdge_regs {s : State} {n q : Nat} (rising : Bool) (hdir : s.direct n = true) (hlo : 4 ≤ q) (hhi : q ≤ 1000) :
    (s.swEdge n rising q).regs = (s.setFld (lastEdge n rising) q).regs := by
  unfold State.swEdge
  rw [if_neg (by simp only [hdir, Bool.true_eq_false, or_false]; omega)]
  extract_lets t
  split
  · rfl
  · split <;> rfl

/-- A time is credited by the begin of its transition. -/
theorem State.swEdge_credits {s : State} {n q k : Nat} {rising : Bool} (hdir : s.direct n = true) (hlo : 4 ≤ q) (hhi : q ≤ 1000)
    (hcode : s.creditOf n rising (10 * s.now - q) = some k) (hen : s.on (Reg.DRV_LEG_CFG_ADAPT_EN n) = true) :
    ((s.swEdge n rising q).dleg n).credits = (s.dleg n).credits.set k
      { cnt := ((s.dleg n).credits.getD k {}).cnt + 1, sum := ((s.dleg n).credits.getD k {}).sum + q } := by
  unfold State.swEdge
  rw [if_neg (by simp only [hdir, Bool.true_eq_false, or_false]; omega), hcode]
  simp only [hen, if_true]
  rw [State.dleg_setDleg_same, State.dleg_congr (State.setFld_drv ..)]

/-- What an entry of a list reads once it has been replaced. -/
theorem getD_set_same {α : Type} {l : List α} {k : Nat} (h : k < l.length) (a d : α) : (l.set k a).getD k d = a := by
  simp [List.getD, h]

/-! The adjustment of a strength code (R248, R249). -/

/-- The state of a leg once the credits of a code have been taken. -/
def State.creditsTaken (s : State) (n k : Nat) : State := s.setDleg n { s.dleg n with credits := (s.dleg n).credits.set k {} }

theorem State.creditsTaken_credits {s : State} {n k : Nat} (h : k < (s.dleg n).credits.length) :
    ((s.creditsTaken n k).dleg n).credits.getD k {} = ({} : Credit) := by
  unfold State.creditsTaken
  rw [State.dleg_setDleg_same]
  exact getD_set_same h _ _

/-- An adjustment has 2^AVG credited edges of its code, by ADAPT_EN. -/
structure State.Adapts (s : State) (n k : Nat) : Prop where
  enabled : s.on (Reg.DRV_LEG_CFG_ADAPT_EN n) = true
  window : 2 ^ (s.dieCfg n).avg ≤ ((s.dleg n).credits.getD k {}).cnt

/-- Twice TSW over the credited edges, in the units of their times, and the sum of their times. -/
def State.goal (s : State) (n k : Nat) : Nat := ((s.dleg n).credits.getD k {}).cnt * 2 * s.fld (Reg.DRV_LEG_CFG_TSW n)
def State.spent (s : State) (n k : Nat) : Nat := ((s.dleg n).credits.getD k {}).sum

/-- An adjustment that the bound prevents (R248). -/
def State.atLimit (s : State) (n : Nat) : State := (s.raise (Reg.DRV_LEG_STATUS_ADLIM_S n)).raise Reg.DRV_STATUS_ADLIM_S

section
variable {s : State} {n k : Nat}

theorem State.Adapts.proceeds (h : s.Adapts n k) :
    ¬ (s.on (Reg.DRV_LEG_CFG_ADAPT_EN n) = false ∨ ((s.dleg n).credits.getD k {}).cnt < 2 ^ (s.dieCfg n).avg) := by
  rintro (hoff | hfew)
  · exact ne_true_of_eq_false hoff h.enabled
  · exact absurd h.window (Nat.not_le.2 hfew)

/-- The step of an edge at which the codes are reloaded is discarded (R258). -/
theorem State.adaptStep_reloaded (h : s.Adapts n k) (hmark : s.marked (markReload n) = true) : s.adaptStep n k = s.creditsTaken n k :=
  (if_neg h.proceeds).trans (if_pos hmark)

/-- Where the edges were too slow, the code rises by 1 within its limit. -/
theorem State.adaptStep_slow (h : s.Adapts n k) (hmark : s.marked (markReload n) = false)
    (hslow : s.goal n k * (16 + (s.dieCfg n).band) < s.spent n k * 16) : s.adaptStep n k =
      if s.strNow n k < s.fld (Reg.DRV_LEG_STR_SMAX n) then (s.creditsTaken n k).setStrNow n k (s.strNow n k + 1)
      else (s.creditsTaken n k).atLimit n :=
  (if_neg h.proceeds).trans ((if_neg (ne_true_of_eq_false hmark)).trans (if_pos hslow))

/-- Where the edges were within the band, the code is kept. -/
theorem State.adaptStep_kept (h : s.Adapts n k) (hmark : s.marked (markReload n) = false)
    (hslow : s.spent n k * 16 ≤ s.goal n k * (16 + (s.dieCfg n).band))
    (hfast : s.goal n k * (16 - (s.dieCfg n).band) ≤ s.spent n k * 16) : s.adaptStep n k = s.creditsTaken n k :=
  (if_neg h.proceeds).trans ((if_neg (ne_true_of_eq_false hmark)).trans ((if_neg (Nat.not_lt.2 hslow)).trans (if_neg (Nat.not_lt.2 hfast))))

end

/-- One hexadecimal digit of a word of four is replaced by one that is not greater than 15. -/
theorem digit_replaced {x v : Nat} (k : Fin 4) (hx : x < 2 ^ 16) (hv : v < 16) :
    (x - x / 16 ^ k.val % 16 * 16 ^ k.val + v % 16 * 16 ^ k.val) % 2 ^ 16 / 16 ^ k.val % 16 = v := by
  fin_cases k <;> simp only [Nat.reducePow] at * <;> omega

/-- A code that is set reads so in STR_NOW (R259). -/
theorem State.strNow_setStrNow {s : State} {n v : Nat} (k : Fin 4) (hx : s.fld (Reg.DRV_LEG_STR_NOW n) < 2 ^ 16) (hv : v < 16) :
    (s.setStrNow n k v).strNow n k = v := by
  unfold State.strNow State.setStrNow
  rw [State.fld_setFld_same]
  exact digit_replaced k hx hv

theorem State.setStrNow_fields (s : State) (n k v : Nat) : OnlyFlds [Reg.DRV_LEG_STR_NOW n] s (s.setStrNow n k v) :=
  (OnlyFlds.refl _ s).setFld (List.mem_singleton.2 rfl) _

theorem adlim_keys : ∀ n : Fin 64, (Reg.DRV_LEG_STATUS_ADLIM_S n).key ≠ Reg.DRV_STATUS_ADLIM_S.key ∧
    (Reg.DRV_LEG_STR_NOW n).key ≠ (Reg.DRV_LEG_STATUS_ADLIM_S n).key ∧
    (Reg.DRV_LEG_STR_NOW n).key ≠ Reg.DRV_STATUS_ADLIM_S.key := by decide

/-- The bound sets ADLIM_S and keeps the codes. -/
theorem State.atLimit_spec (s : State) (n : Fin 64) : (s.atLimit n).fld (Reg.DRV_LEG_STR_NOW n) = s.fld (Reg.DRV_LEG_STR_NOW n) ∧
    (s.atLimit n).on (Reg.DRV_LEG_STATUS_ADLIM_S n) = true := by
  obtain ⟨hbit, hleg, hstatus⟩ := adlim_keys n
  exact ⟨(State.fld_raise_other _ hstatus).trans (State.fld_raise_other _ hleg), s.raise_raise_on rfl hbit⟩

end Sys2Proof.Machine

/-- Settles O45: each command acts by its own equation, a fault of a leg latches as one record, and the adjustment of a code replaces one digit
of STR_NOW. -/
theorem gatesAndTheirStrength : Obligations.GatesAndTheirStrength := by
  refine ⟨fun s n high clear hcmd hoff => ⟨fun hrun => ?_, fun hdue =>
      ⟨fun hrun hother hdir hready hfault hlock hfrom hrole => ?_, fun hrun hother hnew hrole => ?_⟩⟩,
    fun s n high => ⟨fun h => s.logicPin_unarmed h n high, fun ha hu hl => State.logicPin_armed ha hu hl high,
      fun hcmd hdue v hcom hv => ?_, fun hcmd hdue => ?_, fun hwait htime => ⟨_, rfl, State.confirmed_spec hwait htime⟩,
      fun hwait htime => ?_, fun hdir hon b hat htime hrole => ?_⟩,
    fun s n => ⟨⟨_, rfl, s.unlock_spec n⟩, fun hcmd => ?_, fun hdir hcmd => ?_,
      fun t0 hfrom hlock => ⟨fun htime => ?_, fun htime => ?_⟩, fun hpend hhi hlo => ?_⟩,
    fun s n rising q hdir => ⟨fun hlo hhi => ?_, fun h => ?_⟩,
    fun s n k hen => ?_⟩
  · exact congrArg Host.Outcome.next (State.turnOn_held clear hcmd hoff hrun)
  · exact ⟨_, rfl, State.turnOn_spec clear hcmd hoff hdue hrun hother ⟨hdir, hready, hfault, hlock, hfrom, hrole⟩⟩
  · have hedge := State.legEdge_settled hdue
    obtain ⟨hdark, hon, hcnt⟩ := State.interlock_spec (s := s.setDleg n (s.dleg n).settled) (n := n)
      (by rw [State.dleg_setDleg_same]; exact hnew) hrole
    exact ⟨_, congrArg Host.Outcome.next ((State.turnOn_overlap clear hcmd hoff hrun hother).trans (by rw [hedge])),
      hdark.1, hdark.2, hon, hcnt⟩
  · have hload := (State.legEdge_reloads hdue hcom hv).setDleg n
      { ((s.legEdge n).dleg n).quit high (s.legEdge n).now ((s.legEdge n).strNow n (if high then 1 else 3)) with overlap := false }
    rw [← State.turnOff_eq hcmd] at hload
    exact ⟨_, rfl, hload.str, hload.now, hload.com, hload.mark, (State.turnOff_gate hcmd).1⟩
  · obtain ⟨hgate, hother⟩ := State.turnOff_gate hcmd
    have hedge := State.legEdge_settled hdue
    refine ⟨_, rfl, hgate, hother.trans ?_, ?_⟩
    · rw [hedge, State.dleg_setDleg_same]
      rfl
    · rw [State.turnOff_eq hcmd, hedge]
      rfl
  · have h := s.latchLegFault_faulted n (f := Reg.DRV_LEG_STATUS_GSTUCK n) (by simp [legLatches]) none
    exact ⟨_, congrArg Host.Outcome.next (State.confirmTimeout_eq hwait htime), h.flag, h.dark.1, h.dark.2, h.cnt, h.status⟩
  · have h := s.latchLegFault_faulted n (f := Reg.DRV_LEG_STATUS_GLOW n) (by simp [legLatches]) none
    exact ⟨_, congrArg Host.Outcome.next (State.lowTimeout_eq hdir hon hat htime hrole), h.flag, h.dark.1, h.dark.2, h.cnt⟩
  · exact ⟨_, congrArg Host.Outcome.next (State.lock_quiet hcmd), by rw [State.dleg_setDleg_same], rfl⟩
  · obtain ⟨hlock, hdark, hon, hnow, hcnt⟩ := State.lock_spec hdir hcmd
    exact ⟨_, rfl, hlock, hdark.1, hdark.2, hon, hnow, hcnt⟩
  · have h := (s.setDleg n { s.dleg n with bsuvFrom := none }).latchLegFault_faulted n (f := Reg.DRV_LEG_STATUS_UVLAT n)
      (by simp [legLatches]) none
    exact ⟨_, congrArg Host.Outcome.next (State.bsuvTimeout_due hfrom hlock htime), h.flag, h.dark.1, h.dark.2, h.cnt⟩
  · exact congrArg Host.Outcome.next (State.bsuvTimeout_early hfrom htime)
  · obtain ⟨hrole, hdone, hdark, honly⟩ := State.legRelease_spec hpend hhi hlo
    exact ⟨_, rfl, hrole, hdone, hdark.1, hdark.2, honly⟩
  · have hregs := State.swEdge_regs rising hdir hlo hhi
    refine ⟨_, rfl, ?_, ((OnlyFlds.refl _ s).setFld (List.mem_singleton.2 rfl) q.val).same hregs, fun k hcode hadapt hk => ?_⟩
    · refine (State.fld_congr hregs _).trans ((State.fld_setFld_same ..).trans ?_)
      rw [lastEdge_width]
      exact Nat.mod_eq_of_lt q.isLt
    · rw [State.swEdge_credits hdir hlo hhi hcode hadapt]
      exact getD_set_same hk _ _
  · exact congrArg Host.Outcome.next (s.swEdge_discards n rising h)
  · intro c goal band hwindow hword
    have h : s.Adapts n k := ⟨hen, hwindow⟩
    refine ⟨fun hmark => ⟨_, congrArg Host.Outcome.next (State.adaptStep_reloaded h hmark), rfl⟩,
      fun hmark => ⟨fun hslow hmax h15 => ?_, fun hslow hmax => ?_, fun hslow hfast => ?_⟩⟩
    · have hstep := (State.adaptStep_slow h hmark hslow).trans (if_pos hmax)
      exact ⟨_, congrArg Host.Outcome.next hstep, State.strNow_setStrNow k hword (by omega),
        ((OnlyFlds.refl _ s).same (u := s.creditsTaken n k) rfl).trans (State.setStrNow_fields _ _ _ _)⟩
    · have hstep := (State.adaptStep_slow h hmark hslow).trans (if_neg (Nat.not_lt.2 hmax))
      exact ⟨_, congrArg Host.Outcome.next hstep, (s.creditsTaken n k).atLimit_spec n⟩
    · have hstep := State.adaptStep_kept h hmark hslow hfast
      exact ⟨_, congrArg Host.Outcome.next hstep, rfl, State.creditsTaken_credits⟩

end

/-! Fast hops, holdover and the moves of the PLLs to another reference. -/

section
open Sys2Proof Sys2Proof.Machine

namespace Sys2Proof.Machine

variable {s t u : State}

/-- The fields of a PLL that a hop or a search writes (R265, R266). -/
def hopFlds (p : Nat) : List Fld := [Reg.CLK_PLL_STATUS_BAND p, Reg.CLK_PLL_STATUS_STATE p]

/-- What the start of a hop or of a search shows: the PLL's band and state, and the record of the hop (R265, R266). -/
structure Hops (p : Nat) (s t : State) : Prop where
  fields : OnlyFlds (hopFlds p) s t
  clock : ∃ h e, t.clk = { s.clk with hop := h, hopEnt := e }
  frame : Within [.regs, .clk] s t

theorem OnlyFlds.on {l : List Fld} (h : OnlyFlds l s t) {f : Fld} (hf : ∀ g ∈ l, f.key ≠ g.key) : t.on f = s.on f :=
  congrArg (· == 1) (h f hf)

theorem Hops.refl (p : Nat) (s : State) : Hops p s s := ⟨.refl _ s, ⟨_, _, rfl⟩, .refl _ s⟩

theorem Hops.holdAt (h : Hops p s t) : t.clk.holdAt = s.clk.holdAt := by
  obtain ⟨_, _, hclk⟩ := h.clock
  rw [hclk]

theorem Hops.lossM (h : Hops p s t) : t.clk.lossM = s.clk.lossM := by
  obtain ⟨_, _, hclk⟩ := h.clock
  rw [hclk]

theorem State.startHop_hops (s : State) (p : Nat) : Hops p s (s.startHop p) := by
  refine ⟨?_, ?_, s.startHop_in p⟩ <;> unfold State.startHop <;> extract_lets kept d k src clk t
  · have ht : OnlyFlds (hopFlds p) s t := (OnlyFlds.refl _ s).same rfl
    split
    · split
      · exact ht
      · exact (ht.setFld (by simp [hopFlds]) _).setFld (by simp [hopFlds]) 2
    · split
      · exact .refl _ s
      · exact (OnlyFlds.refl _ s).setFld (by simp [hopFlds]) 1
  · split <;> split <;> exact ⟨_, _, rfl⟩

/-- PLL-C once locked keeps its band and its state (R265). -/
theorem State.startHop_kept (h : s.clk.locked = true) : (s.startHop 0).regs = s.regs := by
  unfold State.startHop
  extract_lets kept d k src clk t
  have hkept : kept = true := h
  rw [if_pos hkept, if_pos hkept]
  split <;> rfl

theorem State.setRatio_fields (s : State) (p n : Nat) : OnlyFlds [Reg.CLK_PLL_NINT_NINT p, Reg.CLK_PLL_NFRAC_NFRAC p] s (s.setRatio p n) :=
  ((OnlyFlds.refl _ s).setFld (by simp) _).setFld (by simp) n

/-- The fields that a move of PLL-A and one of PLL-M write (R261, R264, R273). -/
def moveAFlds : List Fld :=
  [Reg.CLK_STATUS_LOCK_A, Reg.CLK_PLL_STATUS_BAND 1, Reg.CLK_PLL_STATUS_STATE 1, Reg.CLK_PLL_NINT_NINT 1, Reg.CLK_PLL_NFRAC_NFRAC 1,
    Reg.ADC_STATUS_PLLSW_S]

def moveMFlds : List Fld :=
  [Reg.CLK_STATUS_LOCK_M, Reg.CLK_PLL_STATUS_BAND 2, Reg.CLK_PLL_STATUS_STATE 2, Reg.CLK_PLL_NINT_NINT 2, Reg.CLK_PLL_NFRAC_NFRAC 2]

theorem State.askAlt_tags (s : State) : Tagged { s with clk := { s.clk with altDue := true } } s.askAlt := State.tagSwitch_tags _

theorem State.askAlt_clk (s : State) : s.askAlt.clk = { s.clk with altDue := true } :=
  (State.tagSwitch_in { s with clk := { s.clk with altDue := true } }).frame .clk (by decide)

theorem State.askAlt_fields (s : State) : OnlyFlds [Reg.ADC_STATUS_PLLSW_S] s s.askAlt :=
  ((OnlyFlds.refl _ s).same (u := { s with clk := { s.clk with altDue := true } }) rfl).trans s.askAlt_tags.only

/-- Domain A without lock: PLL-A hops, or waits for its reference (R261, R271). -/
theorem State.moveA_shows (s : State) : OnlyFlds moveAFlds s s.moveA ∧ s.moveA.on Reg.CLK_STATUS_LOCK_A = false ∧
    s.moveA.clk.holdAt = s.clk.holdAt := by
  have hset : OnlyFlds moveAFlds s (s.setFld Reg.CLK_STATUS_LOCK_A 0) := (OnlyFlds.refl _ s).setFld (by simp [moveAFlds]) 0
  have hoff : (s.setFld Reg.CLK_STATUS_LOCK_A 0).on Reg.CLK_STATUS_LOCK_A = false := State.on_setFld_zero s _
  unfold State.moveA
  extract_lets u clk t
  have ht : OnlyFlds moveAFlds.tail (s.setFld Reg.CLK_STATUS_LOCK_A 0) t ∧ t.clk.holdAt = s.clk.holdAt := by
    unfold t
    split
    · have hhop := (s.setFld Reg.CLK_STATUS_LOCK_A 0).startHop_hops 1
      exact ⟨hhop.fields.mono (by decide), hhop.holdAt⟩
    · have hu : OnlyFlds moveAFlds.tail (s.setFld Reg.CLK_STATUS_LOCK_A 0) { u with clk := clk } :=
        ((OnlyFlds.refl _ _).setFld (by decide) 0).same rfl
      exact ⟨hu.trans ((State.askAlt_fields _).mono (by decide)), (congrArg ClkRun.holdAt (State.askAlt_clk _)).trans rfl⟩
  have hrest := ht.1.trans ((t.setRatio_fields 1 (nomRatio t.refKhz)).mono (by decide))
  refine ⟨hset.trans (hrest.mono (by decide)), ?_, ht.2⟩
  exact (hrest.on (by decide)).trans hoff

theorem State.moveM_shows (s : State) : OnlyFlds moveMFlds s s.moveM ∧ s.moveM.clk.holdAt = s.clk.holdAt := by
  have hset : OnlyFlds moveMFlds s (s.setFld Reg.CLK_STATUS_LOCK_M 0) := (OnlyFlds.refl _ s).setFld (by decide) 0
  unfold State.moveM
  extract_lets t
  have ht : OnlyFlds moveMFlds s t ∧ t.clk.holdAt = s.clk.holdAt := by
    unfold t
    split
    · have hhop := (s.setFld Reg.CLK_STATUS_LOCK_M 0).startHop_hops 2
      exact ⟨hset.trans (hhop.fields.mono (by decide)), hhop.holdAt⟩
    · exact ⟨(hset.setFld (f := Reg.CLK_PLL_STATUS_STATE 2) (by decide) 0).same rfl, rfl⟩
  exact ⟨ht.1.trans ((t.setRatio_fields 2 t.ratioM).mono (by decide)), ht.2⟩

/-- The fields that PLL-C's holdover writes (R272). -/
def holdFlds : List Fld := [Reg.CLK_PLL_STATUS_STATE 0, Reg.CLK_STATUS_LOCK_C, Reg.CLK_STATUS_HOLD]

/-- PLL-C that had its lock holds its ratio (R272). -/
theorem State.holdC_locked (h : s.fld (Reg.CLK_PLL_STATUS_STATE 0) = 3) : s.holdC =
    { ((s.setFld (Reg.CLK_PLL_STATUS_STATE 0) 4).setFld Reg.CLK_STATUS_LOCK_C 0).setFld Reg.CLK_STATUS_HOLD 1 with
      clk := { s.clk with holdAt := s.now } } := if_pos h

theorem State.holdC_unlocked (h : s.fld (Reg.CLK_PLL_STATUS_STATE 0) ≠ 3) : s.holdC = s := if_neg h

theorem State.holdC_holds (h : s.fld (Reg.CLK_PLL_STATUS_STATE 0) = 3) : s.holdC.fld (Reg.CLK_PLL_STATUS_STATE 0) = 4 ∧
    s.holdC.on Reg.CLK_STATUS_LOCK_C = false ∧ s.holdC.on Reg.CLK_STATUS_HOLD = true ∧
    s.holdC.clk = { s.clk with holdAt := s.now } := by
  rw [State.holdC_locked h]
  refine ⟨?_, ?_, State.on_setFld_one _ rfl, rfl⟩
  · exact (State.fld_setFld_other _ _ (by decide)).trans ((State.fld_setFld_other _ _ (by decide)).trans (State.fld_setFld_same ..))
  · exact (State.on_setFld_other _ _ (by decide)).trans (State.on_setFld_zero _ _)

theorem State.holdC_fields (s : State) : OnlyFlds holdFlds s s.holdC := by
  by_cases h : s.fld (Reg.CLK_PLL_STATUS_STATE 0) = 3
  · rw [State.holdC_locked h]
    exact (((OnlyFlds.refl holdFlds s).setFld (by decide) 4).setFld (by decide) 0).setFld (by decide) 1 |>.same rfl
  · rw [State.holdC_unlocked h]
    exact .refl _ s

/-- The state of a move of all PLLs as PLL-C goes to holdover (R261). -/
def State.refTaken (s : State) (src : Nat) : State :=
  (s.setFld Reg.CLK_STATUS_REF_ACT src).setFld Reg.CLK_STATUS_REF_OK (asNat (src == 0 && s.clk.xtal))

/-- What all PLLs may write beside PLL-C's holdover as they leave a reference (R261). -/
def leaveFlds : List Fld := hopFlds 0 ++ moveAFlds ++ moveMFlds

/-- After PLL-C's holdover only hops follow, and domain A is without lock (R261, R264). -/
theorem State.hopAll_leaves (s : State) (src : Nat) : OnlyFlds leaveFlds (s.refTaken src).holdC (s.hopAll src) ∧
    (s.hopAll src).on Reg.CLK_STATUS_LOCK_A = false ∧ (s.hopAll src).clk.holdAt = (s.refTaken src).holdC.clk.holdAt := by
  unfold State.hopAll
  extract_lets t h clk c
  have hc : OnlyFlds leaveFlds h c ∧ c.clk.holdAt = h.clk.holdAt := by
    unfold c
    split
    · exact ⟨(h.startHop_hops 0).fields.mono (by decide), (h.startHop_hops 0).holdAt⟩
    · exact ⟨(OnlyFlds.refl _ h).same rfl, rfl⟩
  obtain ⟨hA, hoff, hholdA⟩ := c.moveA_shows
  obtain ⟨hM, hholdM⟩ := c.moveA.moveM_shows
  have hca := hc.1.trans (hA.mono (by decide))
  split
  · exact ⟨hca, hoff, hholdA.trans hc.2⟩
  · exact ⟨hca.trans (hM.mono (by decide)), (hM.on (by decide)).trans hoff, hholdM.trans (hholdA.trans hc.2)⟩

end Sys2Proof.Machine

end

/-! Losses of the reference and of a lock. -/

section
open Sys2Proof Sys2Proof.Machine

namespace Sys2Proof.Machine

variable {s t u : State}

/-- The fields of the measurement (R260, R275). -/
def measuredFlds : List Fld := [Reg.CLK_REF_MEAS_REF_KHZ, Reg.CLK_REF_MEAS_K_KHZ]

theorem State.measured_fields (s : State) (f k : Nat) : OnlyFlds measuredFlds s (s.measured f k) :=
  ((OnlyFlds.refl measuredFlds s).setFld (by decide) f).setFld (by decide) k

theorem State.measured_refKhz (s : State) (f : Fin 65536) (k : Nat) : (s.measured f k).fld Reg.CLK_REF_MEAS_REF_KHZ = f.val :=
  (State.fld_setFld_other _ _ (by decide)).trans ((State.fld_setFld_same ..).trans (Nat.mod_eq_of_lt f.isLt))

/-- The reference in use is invalid, and its loss is recorded (R260). -/
def State.refOut (s : State) : State := (s.setFld Reg.CLK_STATUS_REF_OK 0).raise Reg.CLK_STATUS_REFLOSS_S

theorem State.refOut_fields (s : State) : OnlyFlds [Reg.CLK_STATUS_REF_OK, Reg.CLK_STATUS_REFLOSS_S] s s.refOut :=
  ((OnlyFlds.refl _ s).setFld (by simp) 0).raise (by simp)

/-- With FALLBACK the PLLs go over to the crystal, after the marks of those that had their lock (R262). -/
theorem State.refLoss_falls (hact : s.on Reg.CLK_STATUS_REF_ACT = true) (hfall : s.on Reg.CLK_REF_CFG_FALLBACK = true) :
    ∃ u : State, (u.regs = s.refOut.regs ∧ u.clk = s.clk ∧ u.now = s.now) ∧ s.refLoss = (u.raise Reg.CLK_STATUS_FALLBK_S).hopAll 0 := by
  refine ⟨forIdx 3 (fun p u => if u.fld (Reg.CLK_PLL_STATUS_STATE p) = 3 then u.mark (markFell p) else u) s.refOut, ?_, ?_⟩
  · exact forIdx_induct (P := fun t : State => t.regs = s.refOut.regs ∧ t.clk = s.clk ∧ t.now = s.now)
      (fun _ _ h => by split <;> exact h) ⟨rfl, rfl, rfl⟩
  · unfold State.refLoss
    rw [hact, hfall]
    exact if_pos rfl

theorem State.refLoss_stays (h : s.on Reg.CLK_STATUS_REF_ACT = false ∨ s.on Reg.CLK_REF_CFG_FALLBACK = false) : s.refLoss = s.refOut :=
  if_neg (by rcases h with h | h <;> simp [h])

/-- A fallback as PLL-C goes to holdover (R262). -/
def State.fallen (u : State) : State := (u.raise Reg.CLK_STATUS_FALLBK_S).refTaken 0

/-- The fields that a fallback writes before the holdover. -/
def fallenFlds : List Fld := [Reg.CLK_STATUS_FALLBK_S, Reg.CLK_STATUS_REF_ACT, Reg.CLK_STATUS_REF_OK]

theorem State.fallen_fields (u : State) : OnlyFlds fallenFlds u u.fallen :=
  (((OnlyFlds.refl fallenFlds u).raise (f := Reg.CLK_STATUS_FALLBK_S) (by decide)).setFld (f := Reg.CLK_STATUS_REF_ACT) (by decide) 0).setFld
    (f := Reg.CLK_STATUS_REF_OK) (by decide) _

/-- What a fallback records before the holdover (R262). -/
theorem State.fallen_shows (u : State) : u.fallen.on Reg.CLK_STATUS_REF_ACT = false ∧ u.fallen.on Reg.CLK_STATUS_FALLBK_S = true ∧
    u.fallen.on Reg.CLK_STATUS_REF_OK = u.clk.xtal := by
  refine ⟨(State.on_setFld_other _ _ (by decide)).trans (State.on_setFld_zero _ _), ?_, ?_⟩
  · exact (State.on_setFld_other _ _ (by decide)).trans ((State.on_setFld_other _ _ (by decide)).trans (State.on_raise_same _ rfl))
  · rw [State.fallen, State.refTaken, State.on, State.fld_setFld_same]
    change (asNat u.clk.xtal % 2 ^ 1 == 1) = u.clk.xtal
    cases u.clk.xtal <;> rfl

theorem fallback_keys : (∀ f ∈ [Reg.CLK_STATUS_REF_ACT, Reg.CLK_STATUS_FALLBK_S, Reg.CLK_STATUS_REFLOSS_S, Reg.CLK_STATUS_REF_OK,
      Reg.CLK_REF_MEAS_REF_KHZ], ∀ g ∈ leaveFlds ++ holdFlds, f.key ≠ g.key) ∧
    ∀ f ∈ [Reg.CLK_STATUS_HOLD, Reg.CLK_STATUS_LOCK_C], ∀ g ∈ leaveFlds, f.key ≠ g.key := by decide

/-- The PLLs leave a lost reference for the crystal (R262, R272). -/
theorem State.refLoss_fallback (hact : s.on Reg.CLK_STATUS_REF_ACT = true) (hfall : s.on Reg.CLK_REF_CFG_FALLBACK = true) :
    let t := s.refLoss
    t.on Reg.CLK_STATUS_REFLOSS_S = true ∧ t.fld Reg.CLK_REF_MEAS_REF_KHZ = s.fld Reg.CLK_REF_MEAS_REF_KHZ ∧
      t.on Reg.CLK_STATUS_REF_ACT = false ∧ t.on Reg.CLK_STATUS_FALLBK_S = true ∧ t.on Reg.CLK_STATUS_REF_OK = s.clk.xtal ∧
      t.on Reg.CLK_STATUS_LOCK_A = false ∧
      (s.fld (Reg.CLK_PLL_STATUS_STATE 0) = 3 → t.on Reg.CLK_STATUS_HOLD = true ∧ t.on Reg.CLK_STATUS_LOCK_C = false ∧
        t.clk.holdAt = s.now) ∧
      (s.fld (Reg.CLK_PLL_STATUS_STATE 0) ≠ 3 → t.clk.holdAt = s.clk.holdAt) := by
  intro t
  obtain ⟨u, ⟨hregs, hclk, hnow⟩, ht⟩ := State.refLoss_falls hact hfall
  have hu : OnlyFlds [Reg.CLK_STATUS_REF_OK, Reg.CLK_STATUS_REFLOSS_S] s u := s.refOut_fields.same hregs
  have hrefloss : u.on Reg.CLK_STATUS_REFLOSS_S = true :=
    (congrArg (· == 1) (State.fld_congr hregs _)).trans (State.on_raise_same _ rfl)
  obtain ⟨hleave, hlockA, hholdAt⟩ := (u.raise Reg.CLK_STATUS_FALLBK_S).hopAll_leaves 0
  rw [← ht] at hleave hlockA hholdAt
  obtain ⟨hrefAct, hfallbk, hrefOk⟩ := u.fallen_shows
  obtain ⟨hbefore, hafter⟩ := fallback_keys
  have hsince : OnlyFlds (leaveFlds ++ holdFlds) u.fallen t := (u.fallen.holdC_fields.mono fun _ => List.mem_append_right _).trans
    (hleave.mono fun _ => List.mem_append_left _)
  have hstate : u.fallen.fld (Reg.CLK_PLL_STATUS_STATE 0) = s.fld (Reg.CLK_PLL_STATUS_STATE 0) :=
    (u.fallen_fields _ (by decide)).trans (hu _ (by decide))
  refine ⟨?_, ?_, (hsince.on (hbefore _ (by simp))).trans hrefAct, (hsince.on (hbefore _ (by simp))).trans hfallbk,
    (hsince.on (hbefore _ (by simp))).trans (hrefOk.trans (congrArg ClkRun.xtal hclk)), hlockA, fun hlock => ?_, fun hlock => ?_⟩
  · exact (hsince.on (hbefore _ (by simp))).trans ((u.fallen_fields.on (by decide)).trans hrefloss)
  · exact (hsince _ (hbefore _ (by simp))).trans ((u.fallen_fields _ (by decide)).trans (hu _ (by decide)))
  · obtain ⟨-, hoff, hhold, hclkH⟩ := State.holdC_holds (hstate.trans hlock)
    exact ⟨(hleave.on (hafter _ (by simp))).trans hhold, (hleave.on (hafter _ (by simp))).trans hoff,
      hholdAt.trans ((congrArg ClkRun.holdAt hclkH).trans hnow)⟩
  · have hkept : u.fallen.holdC = u.fallen := State.holdC_unlocked fun h => hlock (hstate.symm.trans h)
    exact hholdAt.trans ((congrArg (fun x : State => x.clk.holdAt) hkept).trans (congrArg ClkRun.holdAt hclk))

theorem State.refLoss_kept (h : s.on Reg.CLK_STATUS_REF_ACT = false ∨ s.on Reg.CLK_REF_CFG_FALLBACK = false) :
    let t := s.refLoss
    t.on Reg.CLK_STATUS_REFLOSS_S = true ∧ t.on Reg.CLK_STATUS_REF_OK = false ∧
      OnlyFlds [Reg.CLK_STATUS_REF_OK, Reg.CLK_STATUS_REFLOSS_S] s t := by
  rw [State.refLoss_stays h]
  exact ⟨State.on_raise_same _ rfl, (State.on_raise_other _ (by decide)).trans (State.on_setFld_zero _ _), s.refOut_fields⟩

theorem pllState_keys : ∀ p q : Fin 3, p ≠ q → ∀ g ∈ hopFlds q, (Reg.CLK_PLL_STATUS_STATE p).key ≠ g.key := by decide

theorem relock_keys : ∀ q : Fin 3, ∀ f ∈ [Reg.CLK_STATUS_REF_OK, Reg.CLK_REF_MEAS_REF_KHZ], ∀ g ∈ hopFlds q, f.key ≠ g.key := by decide

/-- A relock leaves the record of the reference, and the PLLs that have their lock (R271). -/
structure KeepsLocks (s t : State) : Prop where
  ref : ∀ f ∈ [Reg.CLK_STATUS_REF_OK, Reg.CLK_REF_MEAS_REF_KHZ], t.fld f = s.fld f
  locks : ∀ p : Fin 3, s.fld (Reg.CLK_PLL_STATUS_STATE p) = 3 → t.fld (Reg.CLK_PLL_STATUS_STATE p) = 3

theorem KeepsLocks.startHop (h : KeepsLocks s t) (q : Fin 3) (hq : t.fld (Reg.CLK_PLL_STATUS_STATE q) ≠ 3) :
    KeepsLocks s (t.startHop q) := by
  have hhop := (t.startHop_hops q).fields
  refine ⟨fun f hf => (hhop f (relock_keys q f hf)).trans (h.ref f hf), fun p hp => ?_⟩
  have hne : p ≠ q := fun heq => hq (heq ▸ h.locks p hp)
  exact (hhop _ (pllState_keys p q hne)).trans (h.locks p hp)

theorem State.relock_keeps (s : State) : KeepsLocks s s.relock := by
  unfold State.relock
  refine forIdx_induct_lt (P := KeepsLocks s) (fun q t hq h => ?_) ⟨fun _ _ => rfl, fun _ h => h⟩
  split
  · next hfree => exact h.startHop ⟨q, hq⟩ hfree.1
  · exact h

theorem execReferenceValid_new {f k : Fin 65536} (hr : s.refInRange f = true) (hok : s.on Reg.CLK_STATUS_REF_OK = false) :
    exec (.referenceValid f k) s = .next ((s.measured f k).setFld Reg.CLK_STATUS_REF_OK 1).relock := by
  change Host.Outcome.next (s.refValid f k) = _
  unfold State.refValid
  rw [hr, hok]
  rfl

/-- What a PLL that had its lock loses with it (R271 to R274). -/
def State.lossOf (s : State) (p : Fin 3) : State :=
  match p with
  | 0 => s.lossC
  | 1 => s.lossA
  | 2 => s.lossM

/-- A PLL that loses its lock on a valid reference begins a hop at once (R271). -/
theorem State.pllLoss_hops {p : Fin 3} (h : s.fld (Reg.CLK_PLL_STATUS_STATE p) = 3) :
    s.pllLoss p false = (s.lossOf p).mark (markLoss p) ∨ s.pllLoss p false = ((s.lossOf p).mark (markLoss p)).startHop p := by
  have hp : s.pllLoss p false = let u := (s.lossOf p).mark (markLoss p)
      if (u.on Reg.CLK_STATUS_REF_OK && !false) || (p.val == 2 && u.on Reg.CLK_M_CFG_M_SRC) then u.startHop p else u := by
    unfold State.pllLoss
    rw [if_neg (fun h => Bool.false_ne_true h.1), if_neg (not_not_intro h)]
    match p with
    | 0 | 1 | 2 => rfl
  rw [hp]
  dsimp only
  split
  · exact .inr rfl
  · exact .inl rfl

theorem State.pllLoss_shows {p : Fin 3} (h : s.fld (Reg.CLK_PLL_STATUS_STATE p) = 3) : Hops p (s.lossOf p) (s.pllLoss p false) := by
  have hmark : Hops p (s.lossOf p) ((s.lossOf p).mark (markLoss p)) :=
    ⟨(OnlyFlds.refl _ _).same rfl, ⟨_, _, rfl⟩, (State.mark_in _ _).mono (by decide)⟩
  rcases State.pllLoss_hops h with heq | heq
  · exact heq ▸ hmark
  · have hhop := ((s.lossOf p).mark (markLoss p)).startHop_hops p
    rw [heq]
    exact ⟨hhop.fields, hhop.clock, hhop.frame.thn (by decide) hmark.frame⟩

/-- The sticky bit and the counter of a PLL's losses of lock (R271). -/
def lolFld (p : Fin 3) : Fld :=
  match p with
  | 0 => Reg.CLK_STATUS_LOL_C_S
  | 1 => Reg.CLK_STATUS_LOL_A_S
  | 2 => Reg.CLK_STATUS_LOL_M_S

def lolCnt (p : Fin 3) : Fld :=
  match p with
  | 0 => Reg.CLK_CNT_LOLC_CNT
  | 1 => Reg.CLK_CNT_LOLA_CNT
  | 2 => Reg.CLK_CNT_LOLM_CNT

theorem lol_keys : ∀ p : Fin 3, (lolFld p).width = 1 ∧ (lolFld p).key ≠ (lolCnt p).key := by decide

/-- A loss of lock is recorded and counted (R271). -/
theorem State.noteLoss_shows (s : State) (p : Fin 3) : (s.noteLoss p).on (lolFld p) = true ∧
    (s.noteLoss p).fld (lolCnt p) = s.counted (lolCnt p) ∧ OnlyFlds [lolFld p, lolCnt p] s (s.noteLoss p) := by
  obtain ⟨hwidth, hkey⟩ := lol_keys p
  have heq : s.noteLoss p = (s.raise (lolFld p)).count (lolCnt p) := by
    match p with
    | 0 | 1 | 2 => rfl
  rw [heq]
  refine ⟨?_, ?_, ((OnlyFlds.refl _ s).raise (by simp)).count (by simp)⟩
  · rw [State.on, State.fld_count_other _ hkey]
    exact State.on_raise_same s hwidth
  · exact (State.fld_count_same ..).trans (State.counted_congr (State.fld_raise_other _ hkey.symm))

theorem loss_keys : (∀ f ∈ holdFlds, ∀ g ∈ [lolFld 0, lolCnt 0], f.key ≠ g.key) ∧
    ∀ p : Fin 3, ∀ g ∈ [Reg.ADC_STATUS_PLLSW_S] ++ hopFlds p, (lolFld p).key ≠ g.key ∧ (lolCnt p).key ≠ g.key := by decide

/-- PLL-C's loss of lock (R271, R272). -/
theorem State.lossC_shows (h : s.fld (Reg.CLK_PLL_STATUS_STATE 0) = 3) :
    s.lossC.fld (Reg.CLK_PLL_STATUS_STATE 0) = 4 ∧ s.lossC.on Reg.CLK_STATUS_LOCK_C = false ∧ s.lossC.on Reg.CLK_STATUS_HOLD = true ∧
      s.lossC.on Reg.CLK_STATUS_LOL_C_S = true ∧ s.lossC.fld Reg.CLK_CNT_LOLC_CNT = s.counted Reg.CLK_CNT_LOLC_CNT ∧
      s.lossC.clk = { s.clk with holdAt := s.now } := by
  obtain ⟨hstate, hlock, hhold, hclk⟩ := State.holdC_holds h
  obtain ⟨hlol, hcnt, honly⟩ := s.holdC.noteLoss_shows 0
  obtain ⟨hkeys, -⟩ := loss_keys
  exact ⟨(honly _ (hkeys _ (by simp [holdFlds]))).trans hstate, (honly.on (hkeys _ (by simp [holdFlds]))).trans hlock,
    (honly.on (hkeys _ (by simp [holdFlds]))).trans hhold, hlol, hcnt.trans (State.counted_congr (s.holdC_fields _ (by decide))), hclk⟩

/-- PLL-C's loss of lock with the start of its hop: its state and its band are those of the holdover (R265, R272). -/
theorem State.pllLoss_kept (h : s.fld (Reg.CLK_PLL_STATUS_STATE 0) = 3) (hlocked : s.clk.locked = true) :
    (s.pllLoss 0 false).regs = s.lossC.regs := by
  obtain ⟨-, -, -, -, -, hclk⟩ := State.lossC_shows h
  rcases State.pllLoss_hops (p := 0) h with heq | heq
  · exact (congrArg State.regs heq).trans rfl
  · refine (congrArg State.regs heq).trans (State.startHop_kept ?_)
    exact (congrArg ClkRun.locked hclk).trans hlocked

/-- A PLL that loses its lock as its reference goes: it waits (R271). -/
def State.unlocked (s : State) (p : Nat) (lock : Fld) : State := (s.setFld lock 0).setFld (Reg.CLK_PLL_STATUS_STATE p) 0

theorem State.unlocked_fields (s : State) (p : Nat) (lock : Fld) : OnlyFlds [lock, Reg.CLK_PLL_STATUS_STATE p] s (s.unlocked p lock) :=
  ((OnlyFlds.refl _ s).setFld (by simp) 0).setFld (by simp) 0

theorem State.unlocked_off (s : State) (p : Nat) {lock : Fld} (h : lock.key ≠ (Reg.CLK_PLL_STATUS_STATE p).key) :
    (s.unlocked p lock).on lock = false := (State.on_setFld_other _ _ h).trans (State.on_setFld_zero s lock)

/-- PLL-A's loss of lock (R198, R271, R273). -/
theorem State.lossA_shows (s : State) : s.lossA.on Reg.CLK_STATUS_LOCK_A = false ∧ s.lossA.on Reg.CLK_STATUS_LOL_A_S = true ∧
    s.lossA.on Reg.ADC_STATUS_PLLSW_S = true ∧ s.lossA.fld Reg.CLK_CNT_LOLA_CNT = s.counted Reg.CLK_CNT_LOLA_CNT ∧
    ∀ c, c < 32 → (s.lossA.conv c).swLeft = if s.inConversion c then 5 else 4 := by
  have hunlocked := s.unlocked_fields 1 Reg.CLK_STATUS_LOCK_A
  obtain ⟨hlol, hcnt, hnote⟩ := (s.unlocked 1 Reg.CLK_STATUS_LOCK_A).noteLoss_shows 1
  have hask := ((s.unlocked 1 Reg.CLK_STATUS_LOCK_A).noteLoss 1).askAlt_fields
  obtain ⟨hraised, -, htags⟩ := ((s.unlocked 1 Reg.CLK_STATUS_LOCK_A).noteLoss 1).askAlt_tags
  have hpass : SamePassing s
      { (s.unlocked 1 Reg.CLK_STATUS_LOCK_A).noteLoss 1 with clk := { s.clk with altDue := true } } :=
    ⟨rfl, (hnote _ (by decide)).trans (hunlocked _ (by decide)), rfl⟩
  refine ⟨?_, (hask.on (by decide)).trans hlol, hraised, ?_, fun c hc => (htags c hc).trans (by rw [← hpass.inConversion rfl]; rfl)⟩
  · exact (hask.on (by decide)).trans ((hnote.on (by decide)).trans (s.unlocked_off 1 (by decide)))
  · exact (hask _ (by decide)).trans (hcnt.trans (State.counted_congr (hunlocked _ (by decide))))

/-- PLL-M's loss of lock (R271, R274). -/
theorem State.lossM_shows (s : State) : s.lossM.on Reg.CLK_STATUS_LOCK_M = false ∧ s.lossM.on Reg.CLK_STATUS_LOL_M_S = true ∧
    s.lossM.clk.lossM = some s.now ∧ s.lossM.fld Reg.CLK_CNT_LOLM_CNT = s.counted Reg.CLK_CNT_LOLM_CNT := by
  obtain ⟨hlol, hcnt, hnote⟩ := (s.unlocked 2 Reg.CLK_STATUS_LOCK_M).noteLoss_shows 2
  refine ⟨(hnote.on (by decide)).trans (s.unlocked_off 2 (by decide)), hlol, rfl, ?_⟩
  exact hcnt.trans (State.counted_congr (s.unlocked_fields 2 Reg.CLK_STATUS_LOCK_M _ (by decide)))

end Sys2Proof.Machine

end

/-! Locks, hops that fail, and the end of a holdover. -/

section
open Sys2Proof Sys2Proof.Machine

namespace Sys2Proof.Machine

variable {s t u : State}

theorem leastBy_mem {f : Nat → Nat} {l : List Nat} {k : Nat} (h : leastBy f l = some k) : k ∈ l := by
  refine List.foldlRecOn (motive := fun m : Option Nat => ∀ k, m = some k → k ∈ l) _ _ (fun _ h => by cases h) (fun m hm j hj k hk => ?_) k h
  match m with
  | none => exact Option.some.inj hk ▸ hj
  | some i =>
    dsimp only at hk
    split at hk
    · exact Option.some.inj hk ▸ hj
    · exact hm k hk

theorem bandSlots_lt (p : Nat) : ∀ k ∈ bandSlots p, k < 16 := by
  unfold bandSlots
  split
  · decide
  · split <;> decide

/-- A lock is recorded in one of the entries of the band table (R266). -/
theorem State.bandFor_lt (s : State) (p t : Nat) : s.bandFor p t < 16 := by
  unfold State.bandFor
  split
  · next k hk =>
    have hlt : k < 16 := bandSlots_lt p k (List.mem_filter.1 (leastBy_mem hk)).1
    split
    · exact hlt
    · generalize hl : leastBy _ (bandSlots p) = l
      match l with
      | none => exact hlt
      | some j => exact bandSlots_lt p j (leastBy_mem hl)
  · unfold bandSlots
    split
    · decide
    · split <;> decide

/-- The fields of an entry of the band table (R266). -/
def bandFlds (k : Nat) : List Fld :=
  [Reg.CLK_BAND_BAND k, Reg.CLK_BAND_TEMP k, Reg.CLK_BAND_COARSE k, Reg.CLK_BAND_PLL k, Reg.CLK_BAND_VALID k]

theorem State.recordBand_fields (s : State) (p band coarse t : Nat) :
    OnlyFlds (bandFlds (s.bandFor p t)) s (s.recordBand p band coarse t) := by
  unfold State.recordBand
  extract_lets k clk u
  have hu : OnlyFlds (bandFlds k) s u := (OnlyFlds.refl _ s).same rfl
  exact ((((hu.setFld (by simp [bandFlds]) band).setFld (by simp [bandFlds]) t).setFld (by simp [bandFlds]) coarse).setFld
    (by simp [bandFlds]) p).setFld (by simp [bandFlds]) 1

/-- The state and the band of a PLL that has locked, with their record (R265, R266). -/
def State.banded (s : State) (p b : Nat) : State := (s.setFld (Reg.CLK_PLL_STATUS_STATE p) 3).setFld (Reg.CLK_PLL_STATUS_BAND p) b

/-- A hop has ended (R266). -/
def State.hopDone (s : State) (p : Nat) : State := { s with clk := { s.clk with hop := tabDel s.clk.hop p } }

/-- A PLL that has locked, before its domain follows (R265 to R267). -/
def State.relocked (s : State) (p b coarse t : Nat) : State := (((s.banded p b).recordBand p b coarse t).hopDone p).loadSeed p

/-- What follows a PLL's lock (R268, R272 to R274). -/
def State.lockOf (s : State) (p : Fin 3) : State :=
  match p with
  | 0 => s.lockC
  | 1 => s.lockA
  | 2 => s.lockM

theorem State.pllLock_locks {p : Fin 3} (hstate : s.fld (Reg.CLK_PLL_STATUS_STATE p) ≠ 3) (href : s.on Reg.CLK_STATUS_REF_OK = true)
    (hloss : s.marked (markLoss p) = false) (hvoid : s.marked (markVoidLoss p) = false) (band coarse t : Nat) :
    ∃ b, s.pllLock p band coarse t = (s.relocked p b coarse t).lockOf p := by
  unfold State.pllLock
  rw [if_neg (fun h => h.elim hstate fun h => by rw [href] at h; cases h.1), hloss, hvoid, if_neg Bool.false_ne_true,
    if_neg Bool.false_ne_true]
  match p with
  | 0 | 1 | 2 => exact ⟨_, rfl⟩

theorem band_keys : ∀ p : Fin 3, ∀ k : Fin 16, ∀ g ∈ bandFlds k,
    (Reg.CLK_PLL_STATUS_STATE p).key ≠ g.key ∧ (Reg.CLK_DITHER_SEED p).key ≠ g.key := by decide

theorem seed_keys : ∀ p : Fin 3, (Reg.CLK_PLL_STATUS_STATE p).key ≠ (Reg.CLK_PLL_STATUS_BAND p).key ∧
    (Reg.CLK_DITHER_SEED p).key ≠ (Reg.CLK_PLL_STATUS_BAND p).key ∧ (Reg.CLK_DITHER_SEED p).key ≠ (Reg.CLK_PLL_STATUS_STATE p).key := by decide

theorem State.loadSeed_hopDone (s : State) (p : Nat) : ((s.hopDone p).loadSeed p).regs = s.regs ∧ ((s.hopDone p).loadSeed p).chart = s.chart ∧
    ((s.hopDone p).loadSeed p).clk.seeds = tabPut s.clk.seeds p (s.fld (Reg.CLK_DITHER_SEED p)) := ⟨rfl, rfl, rfl⟩

/-- A PLL that locks is in its locked state and has loaded its seed (R265, R267). -/
theorem State.relocked_shows (s : State) (p : Fin 3) (b coarse t : Nat) :
    (s.relocked p b coarse t).fld (Reg.CLK_PLL_STATUS_STATE p) = 3 ∧
      tabFind (s.relocked p b coarse t).clk.seeds p.val = some (s.fld (Reg.CLK_DITHER_SEED p)) ∧ (s.relocked p b coarse t).now = s.now := by
  obtain ⟨hstate, hseed, hboth⟩ := seed_keys p
  have hrec := (s.banded p b).recordBand_fields p b coarse t
  have hkeys := band_keys p ⟨_, (s.banded p b).bandFor_lt p t⟩
  obtain ⟨hregs, hchart, hseeds⟩ := ((s.banded p b).recordBand p b coarse t).loadSeed_hopDone p
  unfold State.relocked
  refine ⟨?_, ?_, congrArg BitVec.toNat (hchart.trans (((s.banded p b).recordBand_in p b coarse t).frame .chart (by decide)))⟩
  · rw [State.fld_congr hregs, hrec _ fun g hg => (hkeys g hg).1]
    exact (State.fld_setFld_other _ _ hstate).trans (State.fld_setFld_same ..)
  · rw [hseeds, tabFind_put_same, hrec _ fun g hg => (hkeys g hg).2]
    exact congrArg some ((State.fld_setFld_other _ _ hseed).trans (State.fld_setFld_other _ _ hboth))

/-- The fields that PLL-C's ratio and its spreading write (R121, R263, R269). -/
def ratioFlds : List Fld := [Reg.CLK_PLL_NINT_NINT 0, Reg.CLK_PLL_NFRAC_NFRAC 0, Reg.GRT_TICKW, Reg.CLK_STATUS_SPREAD_ON]

/-- What a new ratio of PLL-C leaves: the other fields, the first lock and the seeds. -/
structure NewRatio (s t : State) : Prop where
  fields : OnlyFlds ratioFlds s t
  locked : t.clk.locked = s.clk.locked
  seeds : t.clk.seeds = s.clk.seeds

theorem State.setRatioC_new (s : State) (n : Nat) : NewRatio s (s.setRatioC n) := by
  obtain ⟨-, -, -, -, -, honly⟩ := s.setRatioC_shows n
  exact ⟨honly.mono (by decide), rfl, rfl⟩

theorem State.startProfile_new (s : State) (n : Nat) : NewRatio s (s.startProfile n) := by
  have hbegin : NewRatio s (s.beginProfile n) :=
    ⟨((OnlyFlds.refl _ s).same (u := { s with clk := { s.clk with profile := n } }) rfl).setFld (by decide) _, rfl, rfl⟩
  have hratio := (s.beginProfile n).setRatioC_new (nomRatio s.refKhz)
  rw [State.startProfile_eq]
  split
  · exact hbegin
  · exact ⟨hbegin.fields.trans hratio.fields, hratio.locked.trans hbegin.locked, hratio.seeds.trans hbegin.seeds⟩

theorem State.carryRatio_new (s : State) : NewRatio s s.carryRatio := by
  unfold State.carryRatio
  split
  · exact ⟨.refl _ s, rfl, rfl⟩
  · exact s.setRatioC_new _

/-- PLL-C is locked and leaves its holdover; its ratio follows (R268, R272). -/
theorem State.lockC_shows (s : State) : s.lockC.on Reg.CLK_STATUS_LOCK_C = true ∧ s.lockC.on Reg.CLK_STATUS_HOLD = false ∧
    s.lockC.clk.locked = true ∧ s.lockC.clk.seeds = s.clk.seeds ∧
    s.lockC.fld (Reg.CLK_PLL_STATUS_STATE 0) = s.fld (Reg.CLK_PLL_STATUS_STATE 0) := by
  unfold State.lockC
  extract_lets t clk twn u
  have hlock : u.on Reg.CLK_STATUS_LOCK_C = true := (State.on_setFld_other _ _ (by decide)).trans (State.on_setFld_one s rfl)
  have hhold : u.on Reg.CLK_STATUS_HOLD = false := State.on_setFld_zero _ _
  have hstate : u.fld (Reg.CLK_PLL_STATUS_STATE 0) = s.fld (Reg.CLK_PLL_STATUS_STATE 0) :=
    (State.fld_setFld_other _ _ (by decide)).trans (State.fld_setFld_other s _ (by decide))
  have hnew {v : State} (h : NewRatio u v) : v.on Reg.CLK_STATUS_LOCK_C = true ∧ v.on Reg.CLK_STATUS_HOLD = false ∧
      v.clk.locked = true ∧ v.clk.seeds = s.clk.seeds ∧ v.fld (Reg.CLK_PLL_STATUS_STATE 0) = s.fld (Reg.CLK_PLL_STATUS_STATE 0) :=
    ⟨(h.fields.on (by decide)).trans hlock, (h.fields.on (by decide)).trans hhold, h.locked, h.seeds,
      (h.fields _ (by decide)).trans hstate⟩
  split
  · exact hnew (u.setRatioC_new _)
  · split
    · exact hnew (u.startProfile_new _)
    · split
      · exact hnew u.carryRatio_new
      · exact hnew (u.setRatioC_new _)

/-- PLL-A and PLL-M are locked (R273, R274). -/
theorem State.lockA_shows (s : State) : s.lockA.on Reg.CLK_STATUS_LOCK_A = true ∧ s.lockA.clk.lockA = s.now ∧
    s.lockA.clk.seeds = s.clk.seeds ∧ s.lockA.fld (Reg.CLK_PLL_STATUS_STATE 1) = s.fld (Reg.CLK_PLL_STATUS_STATE 1) := by
  have hratio := (s.setFld Reg.CLK_STATUS_LOCK_A 1).setRatio_fields 1 (nomRatio s.refKhz)
  exact ⟨(hratio.on (by decide)).trans (State.on_setFld_one s rfl), rfl, rfl,
    (hratio _ (by decide)).trans (State.fld_setFld_other s _ (by decide))⟩

theorem State.lockM_shows (s : State) : s.lockM.on Reg.CLK_STATUS_LOCK_M = true ∧ s.lockM.clk.lossM = none ∧
    s.lockM.clk.seeds = s.clk.seeds ∧ s.lockM.fld (Reg.CLK_PLL_STATUS_STATE 2) = s.fld (Reg.CLK_PLL_STATUS_STATE 2) := by
  have hratio := (s.setFld Reg.CLK_STATUS_LOCK_M 1).setRatio_fields 2 s.ratioM
  exact ⟨(hratio.on (by decide)).trans (State.on_setFld_one s rfl), rfl, rfl,
    (hratio _ (by decide)).trans (State.fld_setFld_other s _ (by decide))⟩

/-- A lock of a PLL sets its bit and keeps its state and its seed (R265, R267). -/
theorem State.lockOf_shows (s : State) (p : Fin 3) : let t := s.lockOf p
    t.fld (Reg.CLK_PLL_STATUS_STATE p) = s.fld (Reg.CLK_PLL_STATUS_STATE p) ∧
      (p.val = 0 → t.on Reg.CLK_STATUS_LOCK_C = true ∧ t.on Reg.CLK_STATUS_HOLD = false ∧ t.clk.locked = true) ∧
      (p.val = 1 → t.on Reg.CLK_STATUS_LOCK_A = true ∧ t.clk.lockA = s.now) ∧
      (p.val = 2 → t.on Reg.CLK_STATUS_LOCK_M = true ∧ t.clk.lossM = none) ∧ t.clk.seeds = s.clk.seeds := by
  match p with
  | 0 =>
    obtain ⟨hlock, hhold, hlocked, hseeds, hstate⟩ := s.lockC_shows
    exact ⟨hstate, fun _ => ⟨hlock, hhold, hlocked⟩, fun h => absurd h (by decide), fun h => absurd h (by decide), hseeds⟩
  | 1 =>
    obtain ⟨hlock, hat, hseeds, hstate⟩ := s.lockA_shows
    exact ⟨hstate, fun h => absurd h (by decide), fun _ => ⟨hlock, hat⟩, fun h => absurd h (by decide), hseeds⟩
  | 2 =>
    obtain ⟨hlock, hloss, hseeds, hstate⟩ := s.lockM_shows
    exact ⟨hstate, fun h => absurd h (by decide), fun h => absurd h (by decide), fun _ => ⟨hlock, hloss⟩, hseeds⟩

/-- A hop that has failed, before its PLL searches (R266). -/
def State.hopVoid (s : State) (p : Nat) : State :=
  ({ s with clk := { s.clk with hop := tabDel s.clk.hop p } }.raise Reg.CLK_STATUS_HOPFAIL_S).setFld
    (Reg.CLK_BAND_VALID (tabGet 0 s.clk.hopEnt p)) 0

theorem State.hopVoid_shows (s : State) (p : Nat) : (s.hopVoid p).on Reg.CLK_STATUS_HOPFAIL_S = true ∧
    tabGet 0 (s.hopVoid p).clk.hop p = 0 ∧ (s.hopVoid p).on (Reg.CLK_BAND_VALID (tabGet 0 s.clk.hopEnt p)) = false := by
  have hkey : Reg.CLK_STATUS_HOPFAIL_S.key ≠ (Reg.CLK_BAND_VALID (tabGet 0 s.clk.hopEnt p)).key := by
    change 0x1004 * 8 + 22 ≠ (0x1080 + 0x4 * tabGet 0 s.clk.hopEnt p) * 8 + 26
    omega
  refine ⟨(State.on_setFld_other _ _ hkey).trans (State.on_raise_same _ rfl), ?_, State.on_setFld_zero _ _⟩
  exact congrArg (Option.getD · 0) (tabFind_del_same s.clk.hop p)

/-- What the search of a PLL writes, and PLLSW_S where domain A is to change its clock. -/
def searchFlds (p : Nat) : List Fld := [Reg.CLK_PLL_STATUS_STATE p, Reg.ADC_STATUS_PLLSW_S]

/-- A PLL whose hop has failed searches, but PLL-C once locked (R266). -/
theorem State.hopFail_shows (s : State) (p : Nat) : OnlyFlds (searchFlds p) (s.hopVoid p) (s.hopFail p) ∧
    (s.hopFail p).clk.hop = (s.hopVoid p).clk.hop ∧ (p ≠ 0 ∨ s.clk.locked = false →
      (Reg.CLK_PLL_STATUS_STATE p).key ≠ Reg.ADC_STATUS_PLLSW_S.key → (s.hopFail p).fld (Reg.CLK_PLL_STATUS_STATE p) = 1) := by
  unfold State.hopFail
  extract_lets k clk u v
  have hv : OnlyFlds (searchFlds p) u v := (OnlyFlds.refl _ u).setFld (by simp [searchFlds]) 1
  have hstate : v.fld (Reg.CLK_PLL_STATUS_STATE p) = 1 := State.fld_setFld_same ..
  split
  · next hkept => exact ⟨.refl _ u, rfl, fun h => by rcases h with h | h <;> simp [hkept] at h⟩
  · split
    · exact ⟨hv.trans (v.askAlt_fields.mono (by simp [searchFlds])), (congrArg ClkRun.hop v.askAlt_clk).trans rfl,
        fun _ hkey => (v.askAlt_fields _ (by simpa using hkey)).trans hstate⟩
    · split
      · exact ⟨hv.same rfl, rfl, fun _ _ => hstate⟩
      · exact ⟨hv, rfl, fun _ _ => hstate⟩

theorem search_keys : ∀ p : Fin 3, (Reg.CLK_PLL_STATUS_STATE p).key ≠ Reg.ADC_STATUS_PLLSW_S.key ∧
    ∀ g ∈ searchFlds p, Reg.CLK_STATUS_HOPFAIL_S.key ≠ g.key ∧ ∀ k : Fin 16, (Reg.CLK_BAND_VALID k).key ≠ g.key := by decide

/-- A holdover that ends, before its groups act (R272). -/
def State.holdEnd (s : State) : State := (s.setFld (Reg.CLK_PLL_STATUS_STATE 0) 5).raise Reg.CLK_STATUS_HOLDX_S

/-- A group that the image has acts on a source (R88). -/
def State.groupFault (src g : Nat) (u : State) : State := if (u.groupRec g).isSome then u.faultAction g src else u

theorem execHoldoverExpiry_due (h : s.fld (Reg.CLK_PLL_STATUS_STATE 0) = 4) (hdue : s.clk.holdAt + 800000 ≤ s.now) :
    exec .holdoverExpiry s = .next (forIdx 8 (State.groupFault 6) s.holdEnd) := congrArg Host.Outcome.next (if_pos ⟨h, hdue⟩)

theorem State.groupFaults_acts (s : State) (src : Nat) : Acts s (forIdx 8 (State.groupFault src) s) :=
  .forIdx (fun g u => .ite (u.faultAction_acts g src) (.refl u)) (.refl s)

/-- The groups below `m` have recorded a source whose action is LOG everywhere, and no group has left its mode (R88). -/
structure LoggedBelow (m src : Nat) (s t : State) : Prop where
  stg : t.stg = s.stg
  modes : ∀ g : Fin 8, t.mode g = s.mode g
  sources : ∀ g : Fin 8, g.val < m → (s.groupRec g).isSome = true → t.fld (Reg.GFM_FA_LAST_SOURCE g) = src % 2 ^ 8

theorem logged_keys : ∀ g h : Fin 8, (Reg.GFM_EVT_STATUS_MODE g).blk ∉ [11] ∧ (Reg.GFM_FA_LAST_SOURCE g).blk ∉ [11] ∧
    ∀ f ∈ Reg.GFM_FA_LAST_ACTION h :: Reg.GFM_FA_LAST_SOURCE h :: recordFlds h,
      (Reg.GFM_EVT_STATUS_MODE g).key ≠ f.key ∧ (g ≠ h → (Reg.GFM_FA_LAST_SOURCE g).key ≠ f.key) := by decide

theorem LoggedBelow.succ {src : Nat} {h : Fin 8} (hlog : LoggedBelow h src s t) (hact : s.actionOf h src = 0) :
    LoggedBelow (h + 1) src s (State.groupFault src h t) := by
  have hrec : t.groupRec h = s.groupRec h := by
    unfold State.groupRec
    rw [hlog.stg]
  unfold State.groupFault
  split
  · have hf := State.faultAction_logs ((State.actionOf_congr hlog.stg h src).trans hact)
    refine ⟨((t.faultAction_in h src).frame .stg (by decide)).trans hlog.stg, fun g => ?_, fun g hg hsome => ?_⟩
    · obtain ⟨hblk, -, hkeys⟩ := logged_keys g h
      exact (hf.fields.fld _ hblk fun f hm => (hkeys f hm).1).trans (hlog.modes g)
    · by_cases hgh : g = h
      · exact hgh ▸ hf.source
      · obtain ⟨-, hblk, hkeys⟩ := logged_keys g h
        have hlt : g.val < h.val := by
          have : g.val ≠ h.val := fun heq => hgh (Fin.ext heq)
          omega
        exact (hf.fields.fld _ hblk fun f hm => (hkeys f hm).2 hgh).trans (hlog.sources g hlt hsome)
  · next hnone =>
    refine ⟨hlog.stg, hlog.modes, fun g hg hsome => ?_⟩
    have hgh : g.val ≠ h.val := fun heq => hnone (by rw [hrec, ← heq, hsome])
    exact hlog.sources g (by omega) hsome

theorem State.groupFaults_log {src : Nat} (hact : ∀ g, g < 8 → s.actionOf g src = 0) {m : Nat} (hm : m ≤ 8) :
    LoggedBelow m src s (forIdx m (State.groupFault src) s) := by
  induction m with
  | zero => exact ⟨rfl, fun _ => rfl, fun g hg => absurd hg (Nat.not_lt_zero g)⟩
  | succ m ih =>
    rw [forIdx_succ]
    exact (ih (by omega)).succ (h := ⟨m, by omega⟩) (hact m (by omega))

theorem holdEnd_keys : (∀ f ∈ [Reg.CLK_PLL_STATUS_STATE 0, Reg.CLK_STATUS_HOLDX_S], f.blk ∉ [3, 5, 6, 8, 11, 12] ∧
      f.key ≠ Reg.TWN_STATUS_HO_BUSY.key) ∧
    ∀ g : Fin 8, ∀ f ∈ [Reg.CLK_PLL_STATUS_STATE 0, Reg.CLK_STATUS_HOLDX_S], (Reg.GFM_EVT_STATUS_MODE g).key ≠ f.key := by decide

theorem State.holdEnd_fields (s : State) : OnlyFlds [Reg.CLK_PLL_STATUS_STATE 0, Reg.CLK_STATUS_HOLDX_S] s s.holdEnd :=
  ((OnlyFlds.refl _ s).setFld (by simp) 5).raise (by simp)

theorem State.holdEnd_shows (s : State) : s.holdEnd.fld (Reg.CLK_PLL_STATUS_STATE 0) = 5 ∧ s.holdEnd.on Reg.CLK_STATUS_HOLDX_S = true :=
  ⟨(State.fld_raise_other _ (by decide)).trans (State.fld_setFld_same ..), State.on_raise_same _ rfl⟩

/-- The band table without an entry (R266). -/
def State.bandsCleared (s : State) : State := forIdx 16 (fun k t => t.setFld (Reg.CLK_BAND_VALID k) 0) s

theorem State.bandsCleared_fields (s : State) : OnlyFlds ((List.range 16).map Reg.CLK_BAND_VALID) s s.bandsCleared :=
  forIdx_induct_lt (P := OnlyFlds ((List.range 16).map Reg.CLK_BAND_VALID) s)
    (fun _ _ hk h => h.setFld (List.mem_map_of_mem (List.mem_range.2 hk)) 0) (.refl _ s)

theorem State.bandsCleared_off (s : State) : ∀ k, k < 16 → s.bandsCleared.on (Reg.CLK_BAND_VALID k) = false :=
  forIdx_each (Q := fun k t => State.on t (Reg.CLK_BAND_VALID k) = false) (fun _ t _ => State.on_setFld_zero t _)
    fun _ _ _ h => State.off_setFld_zero _ h

theorem State.bandClear_armed (h : s.armed = true) (p : Port) : s.bandClear p = s.refuse p Reg.CLK_BAND_CTRL_CLEAR.addr := if_pos h

theorem State.bandClear_unarmed (h : s.armed = false) (p : Port) : s.bandClear p = s.bandsCleared := if_neg (by rw [h]; decide)

theorem State.noteWrite_armed (s : State) (p : Port) (a : Nat) : (s.noteWrite p a).armed = s.armed :=
  State.armed_congr_fld (s.noteWrite_fld p a (by decide)) (s.noteWrite_fld p a (by decide))

end Sys2Proof.Machine
/-- Settles O47, event by event: a loss, a fallback and a lock write fields of their own PLL alone, and the hops that follow them no more. -/
theorem referencesAndLocks : Obligations.ReferencesAndLocks := by
  refine ⟨fun s f k hok => ?_, fun s f k => ⟨fun hr => ?_, fun hr hok => ?_⟩, fun s f k hr hok => ?_, fun s hlock hlocked => ?_,
    fun s hlock => ?_, fun s hlock => ?_, fun s p b co c hstate => ⟨fun hloss => ?_, fun href hloss hvoid => ?_, fun href hp => ?_⟩,
    fun s p c h hhop hdue => ?_, fun s hstate => ⟨fun hdue => ?_, fun hearly => ?_⟩, fun s p htakes => ⟨fun harmed => ?_, fun harmed => ?_⟩⟩
  · have hmeas := s.measured_fields f k
    have hact := hmeas.on (f := Reg.CLK_STATUS_REF_ACT) (by decide)
    have hfall := hmeas.on (f := Reg.CLK_REF_CFG_FALLBACK) (by decide)
    have hin : Within [.regs, .clk, .adc] s (s.measured f k).refLoss := (State.refLoss_in _).thn (by decide) ((s.measured_in f k).mono (by decide))
    refine ⟨_, congrArg Host.Outcome.next (if_pos hok), ?_⟩
    by_cases h : s.on Reg.CLK_STATUS_REF_ACT = true ∧ s.on Reg.CLK_REF_CFG_FALLBACK = true
    · obtain ⟨hrefloss, hkhz, hrefAct, hfallbk, hrefOk, hlockA, hheld, hfree⟩ :=
        State.refLoss_fallback (hact.trans h.1) (hfall.trans h.2)
      have hstate : (s.measured f k).fld (Reg.CLK_PLL_STATUS_STATE 0) = s.fld (Reg.CLK_PLL_STATUS_STATE 0) := hmeas _ (by decide)
      rw [hstate] at hheld hfree
      exact ⟨hrefloss, hkhz.trans (s.measured_refKhz f k), fun _ _ => ⟨hrefAct, hfallbk, hrefOk, hlockA, hheld, hfree⟩,
        fun hno => by simp [h] at hno, hin⟩
    · have hno : s.on Reg.CLK_STATUS_REF_ACT = false ∨ s.on Reg.CLK_REF_CFG_FALLBACK = false := by
        rwa [Bool.eq_false_iff, Bool.eq_false_iff, ← not_and_or]
      obtain ⟨hrefloss, hrefOk, honly⟩ := State.refLoss_kept (s := s.measured f k) (hno.imp hact.trans hfall.trans)
      exact ⟨hrefloss, (honly _ (by decide)).trans (s.measured_refKhz f k), fun ha hf => absurd ⟨ha, hf⟩ h,
        fun _ => ⟨hrefOk, (honly _ (by decide)).trans (hmeas _ (by decide))⟩, hin⟩
  · exact congrArg Host.Outcome.next (if_pos hr)
  · exact congrArg Host.Outcome.next ((if_neg (by rw [hr]; decide)).trans (if_pos hok))
  · obtain ⟨href, hlocks⟩ := ((s.measured f k).setFld Reg.CLK_STATUS_REF_OK 1).relock_keeps
    have hset : OnlyFlds (Reg.CLK_STATUS_REF_OK :: measuredFlds) s ((s.measured f k).setFld Reg.CLK_STATUS_REF_OK 1) :=
      ((s.measured_fields f k).mono fun _ => List.mem_cons_of_mem _).setFld List.mem_cons_self 1
    have hkeys : ∀ p : Fin 3, ∀ g ∈ Reg.CLK_STATUS_REF_OK :: measuredFlds, (Reg.CLK_PLL_STATUS_STATE p).key ≠ g.key := by decide
    refine ⟨_, execReferenceValid_new hr hok, ?_, ?_, fun p hp hstate => hlocks ⟨p, hp⟩ ((hset _ (hkeys ⟨p, hp⟩)).trans hstate)⟩
    · exact (congrArg (· == 1) (href _ (by simp))).trans (State.on_setFld_one _ rfl)
    · exact (href _ (by simp)).trans ((State.fld_setFld_other _ _ (by decide)).trans (s.measured_refKhz f k))
  · obtain ⟨hstate, hoff, hhold, hlol, hcnt, hclk⟩ := State.lossC_shows hlock
    have hregs := State.pllLoss_kept hlock hlocked
    have hkept (f : Fld) : (s.pllLoss 0 false).fld f = s.lossC.fld f := State.fld_congr hregs f
    have hon (f : Fld) : (s.pllLoss 0 false).on f = s.lossC.on f := congrArg (· == 1) (hkept f)
    exact ⟨_, rfl, (hkept _).trans hstate, (hon _).trans hoff, (hon _).trans hhold,
      (State.pllLoss_shows (p := 0) hlock).holdAt.trans (congrArg ClkRun.holdAt hclk), (hon _).trans hlol, (hkept _).trans hcnt,
      congrArg EngRun.rho ((s.pllLoss_in 0 false).frame .eng (by decide))⟩
  · obtain ⟨hoff, hlol, hpllsw, hcnt, htags⟩ := s.lossA_shows
    have hhop := State.pllLoss_shows (p := 1) hlock
    exact ⟨_, rfl, (hhop.fields.on (by decide)).trans hoff, (hhop.fields.on (by decide)).trans hlol,
      (hhop.fields.on (by decide)).trans hpllsw, (hhop.fields _ (by decide)).trans hcnt,
      fun c hc => (congrArg ConvRun.swLeft (State.conv_congr (hhop.frame.frame .adc (by decide)) c)).trans (htags c hc)⟩
  · obtain ⟨hoff, hlol, hloss, hcnt⟩ := s.lossM_shows
    have hhop := State.pllLoss_shows (p := 2) hlock
    exact ⟨_, rfl, (hhop.fields.on (by decide)).trans hoff, (hhop.fields.on (by decide)).trans hlol, hhop.lossM.trans hloss,
      (hhop.fields _ (by decide)).trans hcnt⟩
  · refine congrArg Host.Outcome.next ?_
    unfold State.pllLock
    rw [if_pos hloss, ite_self]
  · obtain ⟨b', hlock⟩ := State.pllLock_locks hstate href hloss hvoid b co c
    obtain ⟨hlocked, hseed, hnow⟩ := s.relocked_shows p b' co c
    obtain ⟨hkept, hC, hA, hM, hseeds⟩ := (s.relocked p b' co c).lockOf_shows p
    rw [hnow] at hA
    exact ⟨_, congrArg Host.Outcome.next hlock, hkept.trans hlocked, hC, hA, hM, hseeds ▸ hseed⟩
  · exact congrArg Host.Outcome.next (if_pos (.inr ⟨href, fun h => hp h.1⟩))
  · have hfail : exec (.fastHopTimeout p c) s = .next (s.hopFail p) :=
      congrArg Host.Outcome.next (if_pos ⟨by rw [hhop]; omega, by rw [hhop]; exact hdue⟩)
    obtain ⟨hraised, hgone, hoff⟩ := s.hopVoid_shows p
    obtain ⟨honly, hhopEq, hsearch⟩ := s.hopFail_shows p
    obtain ⟨hkey, hkeys⟩ := search_keys p
    refine ⟨_, hfail, (honly.on fun g hg => (hkeys g hg).1).trans hraised, (congrArg (tabGet 0 · p.val) hhopEq).trans hgone,
      fun h => hsearch h hkey, fun hk => ?_⟩
    exact (honly.on fun g hg => (hkeys g hg).2 ⟨_, hk⟩).trans hoff
  · obtain ⟨hended, hholdx⟩ := s.holdEnd_shows
    obtain ⟨hbeside, hmodes⟩ := holdEnd_keys
    have hacts := s.holdEnd.groupFaults_acts 6
    have hkept {f : Fld} (hf : f ∈ [Reg.CLK_PLL_STATUS_STATE 0, Reg.CLK_STATUS_HOLDX_S]) :
        (forIdx 8 (State.groupFault 6) s.holdEnd).fld f = s.holdEnd.fld f :=
      hacts.fld _ (hbeside f hf).1 (by simpa using (hbeside f hf).2)
    refine ⟨_, execHoldoverExpiry_due hstate hdue, (hkept (by simp)).trans hended, (congrArg (· == 1) (hkept (by simp))).trans hholdx,
      fun hlog g hg hsome => ?_⟩
    have hlogged := State.groupFaults_log (s := s.holdEnd) (src := 6) hlog le_rfl
    exact ⟨hlogged.sources ⟨g, hg⟩ hg hsome, (hlogged.modes ⟨g, hg⟩).trans (s.holdEnd_fields _ (hmodes ⟨g, hg⟩))⟩
  · exact congrArg Host.Outcome.next (if_neg fun h => absurd h.2 (not_le.2 hearly))
  · have hbody := State.bandClear_armed ((s.noteWrite_armed p Reg.CLK_BAND_CTRL_CLEAR.addr).trans harmed) p
    exact ⟨_, congrArg Host.Outcome.next ((State.portCmd_takes htakes _ _).trans hbody), .of_refuse s p _⟩
  · have hbody := State.bandClear_unarmed ((s.noteWrite_armed p Reg.CLK_BAND_CTRL_CLEAR.addr).trans harmed) p
    exact ⟨_, congrArg Host.Outcome.next ((State.portCmd_takes htakes _ _).trans hbody), State.bandsCleared_off _,
      (State.bandsCleared_fields _).noted⟩

end

/-! Requests that come to the tracker. -/

section
open Sys2Proof Sys2Proof.Machine

namespace Sys2Proof.Machine

variable {s t u : State} {c : Nat}

/-! The C-to-M queues. -/

/-- The C-to-M queues hold other requesters (R280). -/
def State.requeued (s : State) (m : Tab (List Nat)) : State := { s with mem := { s.mem with reqQ := m } }

@[simp] theorem State.requeued_room (s : State) (m : Tab (List Nat)) (cls : Nat) : (s.requeued m).room cls = s.room cls := rfl
@[simp] theorem State.requeued_regs (s : State) (m : Tab (List Nat)) : (s.requeued m).regs = s.regs := rfl
@[simp] theorem State.requeued_memRuns (s : State) (m : Tab (List Nat)) : (s.requeued m).memRuns = s.memRuns := rfl

theorem State.dch_congr (h : t.mem = s.mem) (k : Nat) : t.dch k = s.dch k := by
  unfold State.dch
  rw [h]

theorem State.joinQueue_requeued (s : State) (cls r : Nat) : ∃ m, s.joinQueue cls r = s.requeued m := by
  unfold State.joinQueue
  dsimp only
  split
  · exact ⟨s.mem.reqQ, rfl⟩
  · exact ⟨_, rfl⟩

@[simp] theorem State.leaveQueue_dch (s : State) (cls r k : Nat) : (s.leaveQueue cls r).dch k = s.dch k := rfl

/-- The fields in which the tracker shows what it holds (R312). -/
def trkFlds : List Fld := [Reg.MEM_TRK_A_USED, Reg.MEM_TRK_B_USED, Reg.MEM_TRK_C_USED]

@[simp] theorem State.noteTracker_dch (s : State) (k : Nat) : s.noteTracker.dch k = s.dch k := rfl

theorem State.noteTracker_fields (s : State) : OnlyFlds trkFlds s s.noteTracker :=
  (((OnlyFlds.refl trkFlds s).setFld (by simp [trkFlds]) _).setFld (by simp [trkFlds]) _).setFld (by simp [trkFlds]) _

/-! What a channel's request goes by. -/

/-- Two states agree on what a request of a channel is and where it goes (R295 to R300). -/
structure SameAsk (c : Nat) (s t : State) : Prop where
  cls : t.reqClass c = s.reqClass c
  kind : t.chKind c = s.chKind c
  dom : t.chDom c = s.chDom c
  copy : (t.dch c).copy = (s.dch c).copy
  jobs : (t.dch c).jobs = (s.dch c).jobs
  images : t.stg = s.stg
  now : t.now = s.now

theorem SameAsk.trans (h : SameAsk c s t) (h' : SameAsk c t u) : SameAsk c s u :=
  ⟨h'.cls.trans h.cls, h'.kind.trans h.kind, h'.dom.trans h.dom, h'.copy.trans h.copy, h'.jobs.trans h.jobs, h'.images.trans h.images,
    h'.now.trans h.now⟩

theorem State.requeued_sameAsk (s : State) (m : Tab (List Nat)) (c : Nat) : SameAsk c s (s.requeued m) := ⟨rfl, rfl, rfl, rfl, rfl, rfl, rfl⟩

theorem SameAsk.flightOf (h : SameAsk c s t) (q : Ask) (n : Nat) (bs : List (Nat × Nat)) : t.flightOf c q n bs = s.flightOf c q n bs := by
  unfold State.flightOf
  rw [h.cls, h.kind, h.copy, h.jobs, h.now]

theorem SameAsk.badAsk (h : SameAsk c s t) (q : Ask) : t.badAsk c q = s.badAsk c q := by
  unfold State.badAsk
  rw [h.kind, h.copy]

theorem State.translateBeats_congr (h : t.stg = s.stg) (d : Nat) (write : Bool) (bs : List (Nat × Nat)) :
    t.translateBeats d write bs = s.translateBeats d write bs := by
  have hone (a : Nat) : t.translate d a write = s.translate d a write := by
    unfold State.translate State.regions
    rw [h]
  induction bs with
  | nil => rfl
  | cons b bs ih => simp only [State.translateBeats, hone, ih]

theorem SameAsk.translateBeats (h : SameAsk c s t) (write : Bool) (bs : List (Nat × Nat)) :
    t.translateBeats (t.chDom c) write bs = s.translateBeats (s.chDom c) write bs := by
  rw [h.dom, State.translateBeats_congr h.images]

/-- A channel that asks runs and has no request under way (R296). -/
theorem State.ask_free {q : Ask} (h : s.ask c = some q) : (s.dch c).flight = none := by
  unfold State.ask at h
  dsimp only at h
  split at h
  · cases h
  · next hfree =>
    rw [Bool.or_eq_true, not_or] at hfree
    simpa using hfree.2

/-- A channel that asks without a fetch and without a chain is a stream, whose last write is readable (R297). -/
theorem State.ask_wrote {q : Ask} (h : s.ask c = some q) (hjobs : (s.dch c).jobs = []) (hcopy : (s.dch c).copy = none) :
    (s.dch c).wrote = 0 := by
  unfold State.ask at h
  dsimp only at h
  rw [hjobs, hcopy] at h
  split at h
  · cases h
  · split at h
    · cases h
    · split at h
      · cases h
      · split at h
        · split at h
          · cases h
          · next hwrote => exact not_not.1 hwrote
        · cases h

/-! The stall of a request (R302). -/

/-- The counters of stalls (R302). -/
def stallFlds : List Fld := [Reg.MEM_TRK_STALL_CNT_B_STALL, Reg.MEM_TRK_STALL_CNT_C_STALL]

theorem State.countStall_fields (s : State) (cls : Nat) : OnlyFlds stallFlds s (s.countStall cls) := by
  unfold State.countStall
  split
  · exact (OnlyFlds.refl _ s).count (by simp [stallFlds])
  · exact (OnlyFlds.refl _ s).count (by simp [stallFlds])
  · exact .refl _ s

theorem State.countStall_mem (s : State) (cls : Nat) : (s.countStall cls).mem = s.mem := (s.countStall_in cls).frame .mem (by decide)

theorem State.stallCh_dch (s : State) (c : Nat) : (s.stallCh c).dch c = { s.dch c with stalled := true } := by
  unfold State.stallCh
  split
  · next h => rw [← h]
  · exact (State.dch_congr (State.countStall_mem ..) c).trans (State.dch_setDch_same ..)

theorem State.stallCh_fields (s : State) (c : Nat) : OnlyFlds stallFlds s (s.stallCh c) := by
  unfold State.stallCh
  split
  · exact .refl _ s
  · exact ((OnlyFlds.refl _ s).same (u := s.setDch c { s.dch c with stalled := true }) rfl).trans (State.countStall_fields _ _)

/-- A request that had not stalled is counted in its class (R302). -/
theorem State.stallCh_first (h : (s.dch c).stalled = false) :
    s.stallCh c = (s.setDch c { s.dch c with stalled := true }).countStall (s.reqClass c) := if_neg (by rw [h]; decide)

theorem State.stallCh_again (h : (s.dch c).stalled = true) : s.stallCh c = s := if_pos h

theorem config_keys : ∀ c : Fin 32, ∀ f ∈ [Reg.DMA_CH_CFG_CLASS c, Reg.DMA_CH_CFG_KIND c, Reg.DMA_CH_CFG_DOM c], ∀ g ∈ stallFlds,
    f.key ≠ g.key := by decide

theorem State.stallCh_sameAsk (s : State) (c : Fin 32) : SameAsk c s (s.stallCh c) := by
  have hfld {f : Fld} (hf : f ∈ [Reg.DMA_CH_CFG_CLASS c, Reg.DMA_CH_CFG_KIND c, Reg.DMA_CH_CFG_DOM c]) : (s.stallCh c).fld f = s.fld f :=
    s.stallCh_fields c _ (config_keys c f hf)
  have hin := s.stallCh_in c
  refine ⟨?_, hfld (by simp), hfld (by simp), by rw [State.stallCh_dch], by rw [State.stallCh_dch], hin.frame .stg (by decide),
    congrArg BitVec.toNat (hin.frame .chart (by decide))⟩
  unfold State.reqClass
  rw [if_pos c.isLt, if_pos c.isLt]
  exact hfld (by simp)

/-! The fault of a channel (R305). -/

/-- A channel halts and leaves its queue. -/
def State.haltCh (s : State) (c : Nat) : State :=
  (s.setDch c { s.dch c with halted := true, flight := none, jobs := [], wrote := 0, stalled := false }).leaveQueue (s.reqClass c) c

theorem State.haltCh_dch (s : State) (c : Nat) : (s.haltCh c).dch c =
    { s.dch c with halted := true, flight := none, jobs := [], wrote := 0, stalled := false } := by
  unfold State.haltCh
  rw [State.leaveQueue_dch, State.dch_setDch_same]

/-- The place of a fault: what of its record follows the address and the cause. -/
def State.faultPlace (s : State) (c dom beat ctx now : Nat) : State :=
  ((((((s.setFld (Reg.DMA_CH_FAULT_INFO_DOM c) dom).setFld (Reg.DMA_CH_FAULT_INFO_BEAT c) beat).setFld (Reg.DMA_CH_FAULT_INFO_CTX c) ctx).stamp
    (Reg.DMA_CH_FAULT_STAMP_LO c) (Reg.DMA_CH_FAULT_STAMP_HI c) now).raiseBit Reg.DMA_FAULT_S c).count
    (Reg.DMA_CH_CNT_FLT_CNT c)).noteTracker

/-- The address and the cause of a fault. -/
def State.faultCause (s : State) (c cause vaddr : Nat) : State :=
  (s.setFld (Reg.DMA_CH_FAULT_ADDR c) vaddr).setFld (Reg.DMA_CH_FAULT_INFO_CAUSE c) cause

theorem State.dmaFault_eq (s : State) (c cause vaddr beat : Nat) : ∃ ctx, s.dmaFault c cause vaddr beat =
    (s.dch c).jobs.foldl State.faultJob (((s.haltCh c).faultCause c cause vaddr).faultPlace c (s.chDom c) beat ctx s.now) := ⟨_, rfl⟩

/-- The fields of the record of a fault behind its address and cause. -/
def placeFlds (c : Nat) : List Fld :=
  [Reg.DMA_CH_FAULT_INFO_DOM c, Reg.DMA_CH_FAULT_INFO_BEAT c, Reg.DMA_CH_FAULT_INFO_CTX c, Reg.DMA_CH_FAULT_STAMP_LO c,
    Reg.DMA_CH_FAULT_STAMP_HI c, Reg.DMA_FAULT_S, Reg.DMA_CH_CNT_FLT_CNT c] ++ trkFlds

theorem State.faultPlace_fields (s : State) (c dom beat ctx now : Nat) : OnlyFlds (placeFlds c) s (s.faultPlace c dom beat ctx now) := by
  have hinfo := (((OnlyFlds.refl (placeFlds c) s).setFld (f := Reg.DMA_CH_FAULT_INFO_DOM c) (by simp [placeFlds]) dom).setFld
    (f := Reg.DMA_CH_FAULT_INFO_BEAT c) (by simp [placeFlds]) beat).setFld (f := Reg.DMA_CH_FAULT_INFO_CTX c) (by simp [placeFlds]) ctx
  have hstamp := (hinfo.setFld (f := Reg.DMA_CH_FAULT_STAMP_LO c) (by simp [placeFlds]) (now % 2 ^ 32)).setFld
    (f := Reg.DMA_CH_FAULT_STAMP_HI c) (by simp [placeFlds]) (now / 2 ^ 32)
  exact ((hstamp.raiseBit (f := Reg.DMA_FAULT_S) (by simp [placeFlds]) c).count (f := Reg.DMA_CH_CNT_FLT_CNT c) (by simp [placeFlds])).trans
    ((State.noteTracker_fields _).mono fun _ => List.mem_append_right _)

theorem fault_keys : ∀ c : Fin 32, (Reg.DMA_CH_FAULT_ADDR c).key ≠ (Reg.DMA_CH_FAULT_INFO_CAUSE c).key ∧
    ∀ g ∈ placeFlds c, (Reg.DMA_CH_FAULT_ADDR c).key ≠ g.key ∧ (Reg.DMA_CH_FAULT_INFO_CAUSE c).key ≠ g.key := by decide

/-- The fetches of a channel that meet its fault leave memory (R124). -/
theorem State.faultJobs_mem (s : State) (l : List FetchJob) : (l.foldl State.faultJob s).mem = s.mem :=
  foldl_induct (P := fun t : State => t.mem = s.mem) (fun t j h => ((t.faultJob_in j).frame .mem (by decide)).trans h) rfl

theorem State.dmaFault_mem (s : State) (c cause vaddr beat : Nat) : (s.dmaFault c cause vaddr beat).mem = (s.haltCh c).mem := by
  obtain ⟨ctx, heq⟩ := s.dmaFault_eq c cause vaddr beat
  rw [heq, State.faultJobs_mem]
  rfl

/-- A channel that faults is halted without a request (R305). -/
theorem State.dmaFault_dch (s : State) (c cause vaddr beat : Nat) : (s.dmaFault c cause vaddr beat).dch c =
    { s.dch c with halted := true, flight := none, jobs := [], wrote := 0, stalled := false } :=
  (State.dch_congr (s.dmaFault_mem c cause vaddr beat) c).trans (s.haltCh_dch c)

/-- The record of a fault of a channel without fetches (R305). -/
theorem State.dmaFault_shows {c : Fin 32} (hjobs : (s.dch c).jobs = []) (cause vaddr beat : Nat) : let t := s.dmaFault c cause vaddr beat
    (t.dch c).halted = true ∧ t.fld (Reg.DMA_CH_FAULT_ADDR c) = vaddr % 2 ^ 32 ∧
      t.fld (Reg.DMA_CH_FAULT_INFO_CAUSE c) = cause % 2 ^ (Reg.DMA_CH_FAULT_INFO_CAUSE c).width ∧ t.mem.dram = s.mem.dram := by
  obtain ⟨ctx, heq⟩ := s.dmaFault_eq c cause vaddr beat
  obtain ⟨hkey, hplace⟩ := fault_keys c
  have honly := ((s.haltCh c).faultCause c cause vaddr).faultPlace_fields c (s.chDom c) beat ctx s.now
  rw [hjobs] at heq
  refine ⟨by rw [State.dmaFault_dch], ?_, ?_, by rw [State.dmaFault_mem]; rfl⟩
  · rw [heq, List.foldl_nil, honly _ fun g hg => (hplace g hg).1]
    exact (State.fld_setFld_other _ _ hkey).trans (State.fld_setFld_same ..)
  · rw [heq, List.foldl_nil, honly _ fun g hg => (hplace g hg).2]
    exact State.fld_setFld_same ..

/-- A request that faults before any of its beats writes no record (R305). -/
theorem State.askFault_none (h : (s.dch c).wrote = 0) (q : Ask) (cause vaddr beat : Nat) :
    s.askFault c q cause vaddr beat = s.dmaFault c cause vaddr beat := by
  have hwritten : s.streamWritten c = s := by
    unfold State.streamWritten
    rw [h]
    rfl
  unfold State.askFault
  rw [h, List.take_zero]
  exact congrArg (fun u : State => u.dmaFault c cause vaddr beat) hwritten

/-! A request takes its entries (R302). -/

/-- A request that takes all that it wants leaves its queue (R302). -/
def State.letGo (s : State) (c : Nat) (q : Ask) (n : Nat) : State :=
  if blocksOf q.vaddr q.len ≤ n then (s.setDch c { s.dch c with stalled := false }).leaveQueue (s.reqClass c) c else s

theorem State.letGo_all {q : Ask} {n : Nat} (h : blocksOf q.vaddr q.len ≤ n) :
    s.letGo c q n = (s.setDch c { s.dch c with stalled := false }).leaveQueue (s.reqClass c) c := if_pos h

theorem State.letGo_part {q : Ask} {n : Nat} (h : n < blocksOf q.vaddr q.len) : s.letGo c q n = s := if_neg (Nat.not_le.2 h)

theorem State.letGo_regs (s : State) (c : Nat) (q : Ask) (n : Nat) : (s.letGo c q n).regs = s.regs := by
  unfold State.letGo
  split <;> rfl

theorem State.accept_takes {q : Ask} {bs : List (Nat × Nat)} (hbad : s.badAsk c q = none)
    (htr : s.translateBeats (s.chDom c) q.write (beatsOf 33 q.vaddr q.len) = (bs, none)) (n : Nat) :
    s.accept c q n = ((s.letGo c q n).setDch c { (s.letGo c q n).dch c with flight := some (s.flightOf c q n bs) }).noteTracker := by
  unfold State.accept
  rw [hbad]
  dsimp only
  rw [htr]
  rfl

/-- A request that takes entries stands in the tracker with its translated beats, and of the fields only the tracker's counts change. -/
theorem State.accept_shows {q : Ask} {bs : List (Nat × Nat)} (hbad : s.badAsk c q = none)
    (htr : s.translateBeats (s.chDom c) q.write (beatsOf 33 q.vaddr q.len) = (bs, none)) (n : Nat) :
    ((s.accept c q n).dch c).flight = some (s.flightOf c q n bs) ∧ ((s.accept c q n).dch c).stalled = ((s.letGo c q n).dch c).stalled ∧
      OnlyFlds trkFlds s (s.accept c q n) := by
  rw [State.accept_takes hbad htr, State.noteTracker_dch, State.dch_setDch_same]
  exact ⟨rfl, rfl, ((OnlyFlds.refl _ s).same (s.letGo_regs c q n)).trans (State.noteTracker_fields _)⟩

/-- An address outside its domain at the first beat of a stream's request halts the channel (R300, R305). -/
theorem State.accept_faults {q : Ask} {a e : Nat} (hbad : s.badAsk c q = none)
    (htr : s.translateBeats (s.chDom c) q.write (beatsOf 33 q.vaddr q.len) = ([], some (a, e))) (hwrote : (s.dch c).wrote = 0)
    (hcopy : (s.dch c).copy = none) {n : Nat} (hn : blocksOf q.vaddr q.len ≤ n) :
    s.accept c q n = (s.letGo c q n).dmaFault c e a 0 := by
  have hdch : (s.letGo c q n).dch c = { s.dch c with stalled := false } := by
    rw [State.letGo_all hn]
    exact State.dch_setDch_same ..
  have hflush : (s.letGo c q n).flushCopy c = s.letGo c q n := by
    unfold State.flushCopy
    rw [hdch, hcopy]
  have hfault := State.askFault_none (s := s.letGo c q n) (c := c) (by rw [hdch]; exact hwrote) q e a 0
  have hland : (s.letGo c q n).landBeats c q [] = (s.letGo c q n, 0, 0) := by
    unfold State.landBeats
    exact if_pos rfl
  unfold State.accept
  rw [hbad]
  dsimp only
  rw [htr]
  dsimp only
  rw [← State.letGo, hland]
  dsimp only
  rw [hflush, ite_self]
  exact (if_pos rfl).trans hfault

/-! The request of a channel comes to the tracker (R302). -/

/-- A channel's request stands at the head of its queue, which passes it. -/
structure State.AtTracker (s : State) (c : Nat) (q : Ask) : Prop where
  asks : s.ask c = some q
  kept : s.queueClash (31 + s.reqClass c) = false
  open_ : s.queueReset (31 + s.reqClass c) = false
  runs : s.memRuns = true
  head : (s.joinQueue (s.reqClass c) c).atHead (s.reqClass c) c = true

theorem State.acceptCh_asks {q : Ask} (h : s.ask c = some q) : s.acceptCh c =
    if s.queueClash (31 + s.reqClass c) then s.dmaFault c 5 q.vaddr 0
    else if s.queueReset (31 + s.reqClass c) then s
    else
      let t := s.joinQueue (s.reqClass c) c
      if !t.memRuns || !t.atHead (s.reqClass c) c then t
      else
        let k := t.room (s.reqClass c)
        let u := if k < blocksOf q.vaddr q.len then t.stallCh c else t
        if k = 0 then u else u.accept c q (min k (blocksOf q.vaddr q.len)) := by
  unfold State.acceptCh
  dsimp only
  rw [State.ask_free h, h]
  rfl

theorem State.acceptCh_silent (hfree : (s.dch c).flight = none) (h : s.ask c = none) : s.acceptCh c = s := by
  unfold State.acceptCh
  dsimp only
  rw [hfree, h]
  rfl

theorem State.acceptCh_lost {q : Ask} (h : s.ask c = some q) (hclash : s.queueClash (31 + s.reqClass c) = true) :
    s.acceptCh c = s.dmaFault c 5 q.vaddr 0 := (State.acceptCh_asks h).trans (if_pos hclash)

theorem State.acceptCh_full {q : Ask} (h : s.ask c = some q) (hclash : s.queueClash (31 + s.reqClass c) = false)
    (hreset : s.queueReset (31 + s.reqClass c) = true) : s.acceptCh c = s :=
  (State.acceptCh_asks h).trans ((if_neg (Bool.eq_false_iff.1 hclash)).trans (if_pos hreset))

theorem State.acceptCh_waits {q : Ask} (h : s.ask c = some q) (hclash : s.queueClash (31 + s.reqClass c) = false)
    (hreset : s.queueReset (31 + s.reqClass c) = false)
    (hwait : s.memRuns = false ∨ (s.joinQueue (s.reqClass c) c).atHead (s.reqClass c) c = false) :
    s.acceptCh c = s.joinQueue (s.reqClass c) c := by
  refine (State.acceptCh_asks h).trans ((if_neg (Bool.eq_false_iff.1 hclash)).trans ((if_neg (Bool.eq_false_iff.1 hreset)).trans (if_pos ?_)))
  obtain ⟨m, hjoin⟩ := s.joinQueue_requeued (s.reqClass c) c
  rcases hwait with hruns | hhead
  · rw [hjoin, State.requeued_memRuns, hruns]
    rfl
  · rw [hhead]
    exact Bool.or_true _

namespace State.AtTracker

variable {q : Ask} (h : s.AtTracker c q)
include h

theorem acceptCh : s.acceptCh c =
    let u := if s.room (s.reqClass c) < blocksOf q.vaddr q.len then (s.joinQueue (s.reqClass c) c).stallCh c else s.joinQueue (s.reqClass c) c
    if s.room (s.reqClass c) = 0 then u else u.accept c q (min (s.room (s.reqClass c)) (blocksOf q.vaddr q.len)) := by
  obtain ⟨m, hjoin⟩ := s.joinQueue_requeued (s.reqClass c) c
  have hpass : ¬ (!(s.joinQueue (s.reqClass c) c).memRuns || !(s.joinQueue (s.reqClass c) c).atHead (s.reqClass c) c) = true := by
    rw [h.head, hjoin, State.requeued_memRuns, h.runs]
    decide
  have hroom : (s.joinQueue (s.reqClass c) c).room (s.reqClass c) = s.room (s.reqClass c) := by rw [hjoin, State.requeued_room]
  refine (State.acceptCh_asks h.asks).trans ((if_neg (Bool.eq_false_iff.1 h.kept)).trans
    ((if_neg (Bool.eq_false_iff.1 h.open_)).trans ((if_neg hpass).trans ?_)))
  dsimp only
  rw [hroom]

/-- The three outcomes at the head of a queue: room for all, room for a part, and none (R302). -/
theorem acceptCh_all (hroom : 0 < s.room (s.reqClass c)) (hfit : blocksOf q.vaddr q.len ≤ s.room (s.reqClass c)) :
    s.acceptCh c = (s.joinQueue (s.reqClass c) c).accept c q (blocksOf q.vaddr q.len) := by
  rw [h.acceptCh, if_neg (Nat.not_lt.2 hfit), Nat.min_eq_right hfit]
  exact if_neg hroom.ne'

theorem acceptCh_part (hroom : 0 < s.room (s.reqClass c)) (hfit : s.room (s.reqClass c) < blocksOf q.vaddr q.len) :
    s.acceptCh c = ((s.joinQueue (s.reqClass c) c).stallCh c).accept c q (s.room (s.reqClass c)) := by
  rw [h.acceptCh, if_pos hfit, Nat.min_eq_left hfit.le]
  exact if_neg hroom.ne'

theorem acceptCh_none (hroom : s.room (s.reqClass c) = 0) : s.acceptCh c = (s.joinQueue (s.reqClass c) c).stallCh c := by
  rw [h.acceptCh, hroom]
  exact (if_pos rfl).trans (if_pos (Nat.succ_pos _))

end State.AtTracker

section
variable {c : Fin 32} {q : Ask} (h : s.AtTracker c q)
include h

/-- With room for all its entries a request stands in the tracker, and has not stalled (R302). -/
theorem State.AtTracker.takes_all (hroom : 0 < s.room (s.reqClass c)) (hfit : blocksOf q.vaddr q.len ≤ s.room (s.reqClass c))
    (hbad : s.badAsk c q = none) {bs : List (Nat × Nat)}
    (htr : s.translateBeats (s.chDom c) q.write (beatsOf 33 q.vaddr q.len) = (bs, none)) : let t := s.acceptCh c
    (t.dch c).flight = some (s.flightOf c q (blocksOf q.vaddr q.len) bs) ∧ (t.dch c).stalled = false ∧ OnlyFlds trkFlds s t := by
  obtain ⟨m, hjoin⟩ := s.joinQueue_requeued (s.reqClass c) c
  have hsame := s.requeued_sameAsk m c
  obtain ⟨hflight, hstall, honly⟩ := State.accept_shows ((hsame.badAsk q).trans hbad) ((hsame.translateBeats ..).trans htr)
    (blocksOf q.vaddr q.len)
  have heq := h.acceptCh_all hroom hfit
  rw [hjoin] at heq
  dsimp only
  rw [heq]
  refine ⟨hflight.trans (by rw [hsame.flightOf]), hstall.trans ?_, ((OnlyFlds.refl _ s).same (State.requeued_regs s m)).trans honly⟩
  rw [State.letGo_all le_rfl, State.leaveQueue_dch, State.dch_setDch_same]

/-- With room for a part of its entries it takes that part, and has stalled (R302). -/
theorem State.AtTracker.takes_part (hroom : 0 < s.room (s.reqClass c)) (hfit : s.room (s.reqClass c) < blocksOf q.vaddr q.len)
    (hbad : s.badAsk c q = none) {bs : List (Nat × Nat)}
    (htr : s.translateBeats (s.chDom c) q.write (beatsOf 33 q.vaddr q.len) = (bs, none)) : let t := s.acceptCh c
    (t.dch c).flight = some (s.flightOf c q (s.room (s.reqClass c)) bs) ∧ (t.dch c).stalled = true := by
  obtain ⟨m, hjoin⟩ := s.joinQueue_requeued (s.reqClass c) c
  have hsame := (s.requeued_sameAsk m c).trans ((s.requeued m).stallCh_sameAsk c)
  obtain ⟨hflight, hstall, -⟩ := State.accept_shows ((hsame.badAsk q).trans hbad) ((hsame.translateBeats ..).trans htr)
    (s.room (s.reqClass c))
  have heq := h.acceptCh_part hroom hfit
  rw [hjoin] at heq
  dsimp only
  rw [heq]
  refine ⟨hflight.trans (by rw [hsame.flightOf]), hstall.trans ?_⟩
  rw [State.letGo_part hfit, State.stallCh_dch]

/-- An address outside its domain halts a stream before it writes (R300, R305). -/
theorem State.AtTracker.faults (hroom : 0 < s.room (s.reqClass c)) (hfit : blocksOf q.vaddr q.len ≤ s.room (s.reqClass c))
    (hbad : s.badAsk c q = none) {a e : Nat}
    (htr : s.translateBeats (s.chDom c) q.write (beatsOf 33 q.vaddr q.len) = ([], some (a, e))) (hjobs : (s.dch c).jobs = [])
    (hcopy : (s.dch c).copy = none) : let t := s.acceptCh c
    (t.dch c).halted = true ∧ t.fld (Reg.DMA_CH_FAULT_ADDR c) = a % 2 ^ 32 ∧
      t.fld (Reg.DMA_CH_FAULT_INFO_CAUSE c) = e % 2 ^ (Reg.DMA_CH_FAULT_INFO_CAUSE c).width ∧ t.mem.dram = s.mem.dram := by
  obtain ⟨m, hjoin⟩ := s.joinQueue_requeued (s.reqClass c) c
  have hsame := s.requeued_sameAsk m c
  have hwrote : ((s.requeued m).dch c).wrote = 0 := State.ask_wrote h.asks hjobs hcopy
  have heq := h.acceptCh_all hroom hfit
  rw [hjoin, State.accept_faults ((hsame.badAsk q).trans hbad) ((hsame.translateBeats ..).trans htr) hwrote hcopy le_rfl,
    State.letGo_all le_rfl] at heq
  dsimp only
  rw [heq]
  refine State.dmaFault_shows ?_ e a 0
  rw [State.leaveQueue_dch, State.dch_setDch_same]
  exact hjobs

/-- Without room a request stalls, which is counted once (R302). -/
theorem State.AtTracker.stalls (hroom : s.room (s.reqClass c) = 0) (hfirst : (s.dch c).stalled = false) : let t := s.acceptCh c
    (t.dch c).stalled = true ∧ (t.dch c).flight = none ∧
      (s.reqClass c = 2 → t.fld Reg.MEM_TRK_STALL_CNT_B_STALL = s.counted Reg.MEM_TRK_STALL_CNT_B_STALL) ∧ OnlyFlds stallFlds s t := by
  obtain ⟨m, hjoin⟩ := s.joinQueue_requeued (s.reqClass c) c
  have heq := h.acceptCh_none hroom
  have hdch := (s.requeued m).stallCh_dch c
  rw [hjoin] at heq
  dsimp only
  rw [heq, hdch]
  refine ⟨rfl, State.ask_free h.asks, fun hcls => ?_, (s.requeued m).stallCh_fields c⟩
  have hclass : (s.requeued m).reqClass c = 2 := hcls
  rw [State.stallCh_first (s := s.requeued m) hfirst, hclass]
  exact State.fld_count_same ..

theorem State.AtTracker.waits (hroom : s.room (s.reqClass c) = 0) (hagain : (s.dch c).stalled = true) :
    s.acceptCh c = s.joinQueue (s.reqClass c) c := by
  obtain ⟨m, hjoin⟩ := s.joinQueue_requeued (s.reqClass c) c
  rw [h.acceptCh_none hroom, hjoin]
  exact State.stallCh_again hagain

end

/-- A request that still wants entries takes what has come free (R302). -/
theorem State.fill_takes {r : Nat} {f : Flight} (h : (s.dch r).flight = some f) (hsome : 0 < min f.want (s.room f.cls)) :
    ((s.fill r).dch r).flight =
      some { f with left := f.left + min f.want (s.room f.cls), want := f.want - min f.want (s.room f.cls) } ∧ (s.fill r).regs = s.regs := by
  unfold State.fill
  rw [h]
  dsimp only
  rw [if_neg hsome.ne']
  split
  · exact ⟨congrArg DmaCh.flight (State.dch_setDch_same ..), rfl⟩
  · exact ⟨congrArg DmaCh.flight (State.dch_setDch_same ..), rfl⟩

theorem State.acceptCh_fills {f : Flight} (h : (s.dch c).flight = some f) (hruns : s.memRuns = true)
    (hreset : s.queueReset (31 + s.reqClass c) = false) : s.acceptCh c = (s.fill c).noteTracker := by
  unfold State.acceptCh
  dsimp only
  rw [h, hruns, hreset]
  rfl

end Sys2Proof.Machine

end

/-! Command slots, and requests that complete. -/

section
open Sys2Proof Sys2Proof.Machine

namespace Sys2Proof.Machine

variable {s t u : State} {c : Nat}

/-! The next command slot (R303). -/

theorem State.nextOf_eq (s : State) (cls : Nat) : s.nextOf cls =
    ((List.range 34).find? fun k => s.servable cls ((tabGet 0 s.mem.rr cls + k) % 34)).map fun k => (tabGet 0 s.mem.rr cls + k) % 34 :=
  List.find?_map ..

/-- Every requester has a place in the round of a class. -/
theorem round_place {p r : Nat} (hr : r < 34) : (r + 34 - p % 34) % 34 < 34 ∧ (p + (r + 34 - p % 34) % 34) % 34 = r := by omega

/-- A class serves nobody where it has nobody to serve (R303). -/
theorem State.nextOf_none {cls : Nat} : s.nextOf cls = none ↔ ∀ r, r < 34 → s.servable cls r = false := by
  rw [State.nextOf_eq, Option.map_eq_none_iff, List.find?_eq_none]
  refine ⟨fun h r hr => ?_, fun h k _ => by simp [h _ (Nat.mod_lt _ (by decide))]⟩
  obtain ⟨hk, heq⟩ := round_place (p := tabGet 0 s.mem.rr cls) hr
  have hno := h _ (List.mem_range.2 hk)
  rw [heq] at hno
  exact Bool.eq_false_iff.2 hno

/-- A class serves the first requester in its round that it can serve (R303). -/
theorem State.nextOf_some {cls q : Nat} (h : s.nextOf cls = some q) : q < 34 ∧ s.servable cls q = true ∧
    ∀ u, u < (q + 34 - tabGet 0 s.mem.rr cls % 34) % 34 → s.servable cls ((tabGet 0 s.mem.rr cls + u) % 34) = false := by
  rw [State.nextOf_eq] at h
  obtain ⟨k, hk, rfl⟩ := Option.map_eq_some_iff.1 h
  obtain ⟨hserve, hmem, hbefore⟩ := List.find?_range_eq_some.1 hk
  have hk34 : k < 34 := List.mem_range.1 hmem
  refine ⟨Nat.mod_lt _ (by decide), hserve, fun u hu => ?_⟩
  have hu' : u < k := by omega
  simpa using hbefore u hu'

theorem State.nextServed_cases {cls q : Nat} (h : s.nextServed = some (cls, q)) : s.nextOf cls = some q ∧
    ∀ k, 1 ≤ k → k < cls → s.nextOf k = none := by
  unfold State.nextServed at h
  split at h
  · next h1 =>
    obtain ⟨rfl, rfl⟩ := Prod.mk.inj (Option.some.inj h)
    exact ⟨h1, fun k hk hlt => by omega⟩
  · next h1 h2 =>
    obtain ⟨rfl, rfl⟩ := Prod.mk.inj (Option.some.inj h)
    refine ⟨h2, fun k hk hlt => ?_⟩
    obtain rfl : k = 1 := by omega
    exact h1
  · next h1 h2 h3 =>
    obtain ⟨rfl, rfl⟩ := Prod.mk.inj (Option.some.inj h)
    refine ⟨h3, fun k hk hlt => ?_⟩
    obtain rfl | rfl : k = 1 ∨ k = 2 := by omega
    · exact h1
    · exact h2
  · cases h

/-- Where one requester alone can be served, the next slot is its (R303). -/
theorem State.nextServed_only {cls q : Nat} (hcls : 1 ≤ cls ∧ cls ≤ 3) (hq : q < 34) (hserve : s.servable cls q = true)
    (honly : ∀ k r, r < 34 → s.servable k r = true → k = cls ∧ r = q) : s.nextServed = some (cls, q) := by
  have hnone {k : Nat} (hk : k ≠ cls) : s.nextOf k = none :=
    State.nextOf_none.2 fun r hr => Bool.eq_false_iff.2 fun h => hk (honly k r hr h).1
  have hsome : s.nextOf cls = some q := by
    cases h : s.nextOf cls with
    | none => exact absurd (State.nextOf_none.1 h q hq) (by rw [hserve]; decide)
    | some r =>
      obtain ⟨hr, hserved, -⟩ := State.nextOf_some h
      rw [(honly cls r hr hserved).2]
  unfold State.nextServed
  obtain ⟨hlow, hhigh⟩ := hcls
  obtain rfl | rfl | rfl : cls = 1 ∨ cls = 2 ∨ cls = 3 := by omega
  · rw [hsome]
  · rw [hnone (by decide : 1 ≠ 2), hsome]
  · rw [hnone (by decide : 1 ≠ 3), hnone (by decide : 2 ≠ 3), hsome]

/-! What a command slot moves: requests, rounds and queues alone. -/

/-- A slot changes nothing but the channels' requests, the rounds and the queues; a channel without old requests gets none (R302, R303). -/
structure Slots (s t : State) : Prop where
  moves : ∃ ch rr q, t = { s with mem := { s.mem with ch := ch, rr := rr, reqQ := q } }
  orphans : ∀ c, (s.dch c).orphans = [] → (t.dch c).orphans = []

theorem Slots.refl (s : State) : Slots s s := ⟨⟨s.mem.ch, s.mem.rr, s.mem.reqQ, rfl⟩, fun _ h => h⟩

theorem Slots.trans (h : Slots s t) (h' : Slots t u) : Slots s u := by
  obtain ⟨ch, rr, q, rfl⟩ := h.moves
  obtain ⟨ch', rr', q', rfl⟩ := h'.moves
  exact ⟨⟨ch', rr', q', rfl⟩, fun c hc => h'.orphans c (h.orphans c hc)⟩

theorem Slots.requeued (s : State) (m : Tab (List Nat)) : Slots s (s.requeued m) := ⟨⟨s.mem.ch, s.mem.rr, m, rfl⟩, fun _ h => h⟩

theorem Slots.setDch (s : State) (r : Nat) {x : DmaCh} (hx : (s.dch r).orphans = [] → x.orphans = []) : Slots s (s.setDch r x) := by
  refine ⟨⟨_, s.mem.rr, s.mem.reqQ, rfl⟩, fun c hc => ?_⟩
  by_cases h : c = r
  · subst h
    rw [State.dch_setDch_same]
    exact hx hc
  · rwa [State.dch_setDch_other _ _ h]

theorem State.fill_slots (s : State) (r : Nat) : Slots s (s.fill r) := by
  unfold State.fill
  split
  · exact .refl s
  · dsimp only
    split
    · exact .refl s
    · split
      · refine Slots.trans (t := s.setDch r _) (Slots.setDch s r ?_) (.requeued _ _)
        exact fun h => h
      · exact Slots.setDch s r fun h => h

theorem State.fillHeads_slots (s : State) : Slots s s.fillHeads := by
  unfold State.fillHeads
  refine forIdx_induct (P := Slots s) (fun k t h => ?_) (.refl s)
  split
  · exact h.trans (t.fill_slots _)
  · exact h

/-- The slot's own step: an entry of a requester is served, and its class goes round (R303). -/
def State.slotTaken (s : State) (cls r : Nat) (f : Flight) : State :=
  { s.setDch r ((s.dch r).setFront { f with left := f.left - 1 }) with
    mem := { (s.setDch r ((s.dch r).setFront { f with left := f.left - 1 })).mem with
      rr := tabSet 0 (s.setDch r ((s.dch r).setFront { f with left := f.left - 1 })).mem.rr cls ((r + 1) % 34) } }

theorem State.serveOne_front {cls r : Nat} {f : Flight} (h : (s.dch r).front = some f) :
    s.serveOne cls r = (s.slotTaken cls r f).fillHeads := by
  unfold State.serveOne
  rw [h]
  rfl

theorem DmaCh.setFront_orphans {r : DmaCh} (h : r.orphans = []) (f : Flight) : r.setFront f = { r with flight := some f } := by
  unfold DmaCh.setFront
  rw [h]

theorem State.slotTaken_dch (s : State) (cls r : Nat) (f : Flight) (k : Nat) :
    (s.slotTaken cls r f).dch k = (s.setDch r ((s.dch r).setFront { f with left := f.left - 1 })).dch k := rfl

theorem State.slotTaken_slots (s : State) (cls r : Nat) (f : Flight) : Slots s (s.slotTaken cls r f) := by
  have hset := Slots.setDch s r (x := (s.dch r).setFront { f with left := f.left - 1 }) fun h => by
    rw [DmaCh.setFront_orphans h]
    exact h
  exact ⟨⟨_, _, s.mem.reqQ, rfl⟩, hset.orphans⟩

theorem State.serveOne_slots (s : State) (cls r : Nat) : Slots s (s.serveOne cls r) := by
  cases h : (s.dch r).front with
  | none =>
    unfold State.serveOne
    rw [h]
    exact .refl s
  | some f =>
    rw [State.serveOne_front h]
    exact (s.slotTaken_slots cls r f).trans (State.fillHeads_slots _)

theorem State.serveTo_slots (r n : Nat) : ∀ s t : State, s.serveTo r n = some t → Slots s t := by
  induction n with
  | zero => exact fun s t h => by cases h
  | succ n ih =>
    intro s t h
    unfold State.serveTo at h
    split at h
    · cases h
    · next cls q _ =>
      dsimp only at h
      split at h
      · split at h
        · exact Option.some.inj h ▸ s.serveOne_slots cls q
        · cases h
      · exact (s.serveOne_slots cls q).trans (ih _ t h)

/-! A request alone in the tracker (R302, R303). -/

/-- A request takes no entry where it wants none. -/
theorem State.fill_still {r : Nat} (h : ∀ f, (s.dch r).flight = some f → f.want = 0) : s.fill r = s := by
  unfold State.fill
  split
  · rfl
  · next f hf =>
    rw [h f hf, Nat.zero_min]
    exact if_pos rfl

theorem State.fill_dch_other {r k : Nat} (h : k ≠ r) : (s.fill r).dch k = s.dch k := by
  unfold State.fill
  split
  · rfl
  · dsimp only
    split
    · rfl
    · split
      · exact State.dch_setDch_other _ _ h
      · exact State.dch_setDch_other _ _ h

/-- Where no requester wants an entry, the requests stay as they are. -/
theorem State.fillHeads_still (h : ∀ q, q < 34 → ∀ f, (s.dch q).flight = some f → f.want = 0) {q : Nat} (hq : q < 34) :
    s.fillHeads.dch q = s.dch q := by
  have hall : ∀ q, q < 34 → s.fillHeads.dch q = s.dch q := by
    unfold State.fillHeads
    refine forIdx_induct (P := fun t : State => ∀ q, q < 34 → t.dch q = s.dch q) (fun k t ht q hq => ?_) fun _ _ => rfl
    split
    · next r _ =>
      by_cases hr : r < 34
      · rw [State.fill_still fun f hf => h r hr f (ht r hr ▸ hf)]
        exact ht q hq
      · exact (State.fill_dch_other (by omega)).trans (ht q hq)
    · exact ht q hq
  exact hall q hq

/-- A requester's request is alone in the tracker and has all its entries, in blocks that no move holds. -/
structure Alone (s : State) (c : Nat) (f : Flight) : Prop where
  index : c < 34
  flight : (s.dch c).flight = some f
  young : (s.dch c).orphans = []
  full : f.want = 0
  low : 1 ≤ f.cls
  high : f.cls ≤ 3
  still : (f.beats.any fun b => s.moving b.1) = false
  others : ∀ q, q < 34 → q ≠ c → (s.dch q).flights = []

theorem DmaCh.front_of_flight {r : DmaCh} {f : Flight} (h : r.flight = some f) (ho : r.orphans = []) : r.front = some f := by
  unfold DmaCh.front DmaCh.flights
  rw [h, ho]
  rfl

namespace Alone

variable {f : Flight} (h : Alone s c f)
include h

theorem front : (s.dch c).front = some f := DmaCh.front_of_flight h.flight h.young

theorem servable_iff (k r : Nat) (hr : r < 34) : s.servable k r = true ↔ (k = f.cls ∧ r = c) ∧ 0 < f.left := by
  unfold State.servable
  by_cases hrc : r = c
  · subst hrc
    have hmoves : (f.beats.any fun b => s.mem.moves.any fun m => m.block == b.1 / 8192 && decide (m.at0 < f.takenAt)) = false := by
      refine List.any_eq_false.2 fun b hb hm => ?_
      obtain ⟨m, hmem, hm⟩ := List.any_eq_true.1 hm
      exact List.any_eq_false.1 h.still b hb (List.any_eq_true.2 ⟨m, hmem, (Bool.and_eq_true_iff.1 hm).1⟩)
    rw [h.front]
    simp only [hmoves, Bool.not_false, Bool.and_true, Bool.and_eq_true, beq_iff_eq, decide_eq_true_eq, and_true]
    exact and_congr_left' eq_comm
  · have hnone : (s.dch r).front = none := congrArg List.head? (h.others r hr hrc)
    rw [hnone]
    simp [hrc]

theorem nextServed (hleft : 0 < f.left) : s.nextServed = some (f.cls, c) :=
  State.nextServed_only ⟨h.low, h.high⟩ h.index ((h.servable_iff _ c h.index).2 ⟨⟨rfl, rfl⟩, hleft⟩)
    fun k r hr hserve => ((h.servable_iff k r hr).1 hserve).1

/-- A slot serves one of its entries, and it stays alone. -/
theorem serveOne : Alone (s.serveOne f.cls c) c { f with left := f.left - 1 } := by
  have hfree {q : Nat} (hq : q < 34) (hne : q ≠ c) : (s.dch q).flight = none := by
    have hnil := h.others q hq hne
    unfold DmaCh.flights at hnil
    cases hf : (s.dch q).flight with
    | none => rfl
    | some g =>
      rw [hf] at hnil
      simp at hnil
  have htaken : (s.slotTaken f.cls c f).dch c = { s.dch c with flight := some { f with left := f.left - 1 } } := by
    rw [State.slotTaken_dch, State.dch_setDch_same, DmaCh.setFront_orphans h.young]
  have hother {q : Nat} (hne : q ≠ c) : (s.slotTaken f.cls c f).dch q = s.dch q := by
    rw [State.slotTaken_dch, State.dch_setDch_other _ _ hne]
  have hwant : ∀ q, q < 34 → ∀ g, ((s.slotTaken f.cls c f).dch q).flight = some g → g.want = 0 := by
    intro q hq g hg
    by_cases hne : q = c
    · subst hne
      rw [htaken] at hg
      exact Option.some.inj hg ▸ h.full
    · rw [hother hne, hfree hq hne] at hg
      cases hg
  have hmoves : (s.serveOne f.cls c).mem.moves = s.mem.moves := by
    obtain ⟨_, _, _, heq⟩ := (s.serveOne_slots f.cls c).moves
    rw [heq]
  have hdch {q : Nat} (hq : q < 34) : (s.serveOne f.cls c).dch q = (s.slotTaken f.cls c f).dch q := by
    rw [State.serveOne_front h.front, State.fillHeads_still hwant hq]
  refine ⟨h.index, ?_, ?_, h.full, h.low, h.high, ?_, fun q hq hne => ?_⟩
  · rw [hdch h.index, htaken]
  · rw [hdch h.index, htaken]
    exact h.young
  · unfold State.moving
    rw [hmoves]
    exact h.still
  · rw [hdch hq, hother hne]
    exact h.others q hq hne

end Alone

/-- The command slots serve a request that is alone to its last entry (R302, R303). -/
theorem Alone.serveTo (n : Nat) : ∀ {s : State} {f : Flight}, Alone s c f → 0 < f.left → f.left ≤ n → (s.serveTo c n).isSome = true := by
  induction n with
  | zero => exact fun _ hpos hle => absurd hle (Nat.not_le.2 hpos)
  | succ n ih =>
    intro s f h hpos hle
    have hnext := h.serveOne
    unfold State.serveTo
    rw [h.nextServed hpos]
    dsimp only
    rw [hnext.front]
    by_cases hlast : f.left = 1
    · have hserved : Option.map Flight.served (some { f with left := f.left - 1 }) = some true := by
        simp [Flight.served, hlast, h.full]
      rw [if_pos hserved, if_pos rfl]
      rfl
    · have hserved : Option.map Flight.served (some { f with left := f.left - 1 }) ≠ some true := by
        simp [Flight.served, h.full]
        omega
      rw [if_neg hserved]
      exact ih hnext (by dsimp only; omega) (by dsimp only; omega)

/-! What reads and writes of memory leave of the channels' records. -/

/-- A change that leaves the channels' records. -/
def SameCh (s t : State) : Prop := t.mem.ch = s.mem.ch

theorem SameCh.trans (h : SameCh s t) (h' : SameCh t u) : SameCh s u := Eq.trans h' h

theorem SameCh.dch (h : SameCh s t) (k : Nat) : t.dch k = s.dch k := by
  unfold State.dch
  rw [h]

/-- A record of the decoder changes of memory the windows' counts alone (R284, R287). -/
theorem State.noteUe_mem (s : State) (b : Nat) : ∃ w, (s.noteUe b).mem = { s.mem with dieWin := w } := by
  unfold State.noteUe
  dsimp only
  split
  · exact ⟨s.mem.dieWin, rfl⟩
  · exact foldl_induct (P := fun t : State => ∃ w, t.mem = { s.mem with dieWin := w })
      (fun t d ⟨w, h⟩ => ⟨_, by unfold State.countWin; rw [h]⟩) ⟨s.mem.dieWin, rfl⟩

theorem State.judge_mem (s : State) (b : Nat) : ∃ w, (s.judge b).1.mem = { s.mem with dieWin := w } := by
  unfold State.judge
  dsimp only
  split
  · exact ⟨s.mem.dieWin, rfl⟩
  · exact ⟨_, rfl⟩
  · exact s.noteUe_mem b

theorem State.judge_ch (s : State) (b : Nat) : SameCh s (s.judge b).1 := by
  obtain ⟨_, h⟩ := s.judge_mem b
  unfold SameCh
  rw [h]

theorem State.readBeats_ch (bs : List (Nat × Nat)) : ∀ s : State, SameCh s (s.readBeats bs).1 := by
  induction bs with
  | nil => exact fun _ => rfl
  | cons b bs ih => exact fun s => (s.judge_ch (b.1 / 8)).trans (ih _)

theorem State.remakeBlock_ch (s : State) (k : Nat) : SameCh s (s.remakeBlock k).1 := by
  unfold State.remakeBlock
  refine foldl_induct (P := fun y : State × Bool => SameCh s y.1) (fun y i h => ?_) rfl
  dsimp only
  split
  · exact h
  · exact Eq.trans (foldl_induct (P := fun m : MemRun => m.ch = (y.1.judge (8 * k + i)).1.mem.ch) (fun _ _ hm => hm) rfl)
      (h.trans (y.1.judge_ch (8 * k + i)))

theorem State.poisonBlock_ch (s : State) (k : Nat) : SameCh s (s.poisonBlock k) := by
  unfold State.poisonBlock
  split <;> rfl

theorem State.writeBlock_ch {a : Nat} {bytes : List Nat} {poison : Bool} (h : s.writeBlock a bytes poison = some t) : SameCh s t := by
  unfold State.writeBlock at h
  extract_lets k full need s1 s2 m m2 at h
  split at h
  · cases h
  · have h1 : SameCh s s1 := by
      unfold s1
      split
      · rfl
      · exact s.remakeBlock_ch k
    have h2 : SameCh s s2 := by
      unfold s2
      split
      · exact h1.trans (s1.poisonBlock_ch k)
      · exact h1
    have hm : m.ch = s.mem.ch := foldl_induct (P := fun m : MemRun => m.ch = s.mem.ch) (fun _ _ hm => hm) h2
    have hm2 : m2.ch = s.mem.ch := by
      unfold m2
      split <;> exact hm
    exact Option.some.inj h ▸ hm2

theorem State.writeBytes_ch (n : Nat) : ∀ (s : State) (a : Nat) (bytes : List Nat) (bad : List Bool), SameCh s (s.writeBytes n a bytes bad).1 := by
  induction n with
  | zero => exact fun _ _ _ _ => rfl
  | succ n ih =>
    intro s a bytes bad
    unfold State.writeBytes
    split
    · rfl
    · dsimp only
      split
      · rfl
      · next t ht => exact (State.writeBlock_ch ht).trans (ih t _ _ _)

/-! A request completes (R303). -/

/-- A channel's request is gone, whatever its beats do (R284, R297, R298). -/
theorem State.landBeats_flight {s : State} {c : Nat} (h : (s.dch c).flight = none) (q : Ask) (bs : List (Nat × Nat)) :
    ((s.landBeats c q bs).1.dch c).flight = none := by
  have hset {t : State} {r : DmaCh} (hr : r.flight = none) : ((t.setDch c r).dch c).flight = none := by
    rw [State.dch_setDch_same]
    exact hr
  have hread : (s.readBeats bs).1.dch c = s.dch c := (State.readBeats_ch bs s).dch c
  have hwritten (n a : Nat) (bytes : List Nat) (bad : List Bool) : ((s.writeBytes n a bytes bad).1.dch c).flight = none := by
    rw [(State.writeBytes_ch n s a bytes bad).dch c]
    exact h
  unfold State.landBeats
  dsimp only
  split
  · exact h
  · split
    · split
      · exact h
      · refine hset ?_
        rw [State.dch_congr ((State.landWords_in ..).frame .mem (by decide)), hread]
        exact h
    · split
      · split
        · exact h
        · split
          · exact hset (hwritten ..)
          · split
            · split
              · rw [hread]
                exact h
              · split
                · rw [hread]
                  exact h
                · exact hset h
            · exact hset h
      · exact hset (hwritten ..)

theorem State.completeCh_unserved (h : s.serveTo c 96 = none) : s.completeCh c = s := by
  unfold State.completeCh
  rw [h]

theorem State.completeCh_held {f : Flight} (hfront : (s.dch c).front = some f) (hruns : s.memRuns = true)
    (hclash : s.queueClash (34 + f.cls) = false) (hreset : s.queueReset (34 + f.cls) = true) : s.completeCh c = s := by
  cases hserve : s.serveTo c 96 with
  | none => exact State.completeCh_unserved hserve
  | some t =>
    unfold State.completeCh
    rw [hserve, hfront]
    dsimp only
    rw [hruns, hclash, hreset]
    rfl

/-- The request of a channel without old requests completes as its beats act. -/
theorem State.completeCh_lands {f : Flight} (hserve : s.serveTo c 96 = some t) (hfront : (s.dch c).front = some f) (hyoung : (s.dch c).orphans = [])
    (hruns : s.memRuns = true) (hclash : s.queueClash (34 + f.cls) = false) (hreset : s.queueReset (34 + f.cls) = false) :
    s.completeCh c = let x := (t.setDch c { t.dch c with flight := none }).landBeats c f.ask f.beats
      if x.2.2 = 0 then (if t.chKind c = kSTREAM then (x.1.dropRecs c f.srcs).noteTracker else x.1.noteTracker)
      else x.1.askFault c f.ask x.2.2 (f.vaddr + x.2.1) (beatsOf 33 f.vaddr x.2.1).length := by
  have horphans : (t.dch c).orphans = [] := (State.serveTo_slots c 96 s t hserve).orphans c hyoung
  unfold State.completeCh
  rw [hserve, hfront]
  dsimp only
  rw [hruns, hclash, hreset, horphans]
  rfl

/-- A request that completes leaves the tracker (R303, R305). -/
theorem State.completeCh_leaves {f : Flight} (hserve : (s.serveTo c 96).isSome = true) (hfront : (s.dch c).front = some f)
    (hyoung : (s.dch c).orphans = []) (hruns : s.memRuns = true) (hclash : s.queueClash (34 + f.cls) = false)
    (hreset : s.queueReset (34 + f.cls) = false) : ((s.completeCh c).dch c).flight = none := by
  obtain ⟨t, ht⟩ := Option.isSome_iff_exists.1 hserve
  have hland := State.landBeats_flight (s := t.setDch c { t.dch c with flight := none }) (c := c)
    (by rw [State.dch_setDch_same]) f.ask f.beats
  rw [State.completeCh_lands ht hfront hyoung hruns hclash hreset]
  dsimp only
  split
  · split
    · rw [State.noteTracker_dch, State.dch_congr ((State.dropRecs_in ..).frame .mem (by decide))]
      exact hland
    · rw [State.noteTracker_dch]
      exact hland
  · unfold State.askFault
    rw [State.dmaFault_dch]

end Sys2Proof.Machine

end

/-! The windows of the ports. -/

section
open Sys2Proof Sys2Proof.Machine

namespace Sys2Proof.Machine

variable {s t u : State} {p : Port} {f : WinFrame}

theorem reqPort_portReq (p : Port) : reqPort (portReq p) = p := by
  cases p <;> rfl

theorem portReq_above (p : Port) : ¬ portReq p < 32 := by
  cases p <;> decide

/-- The class of a window is fixed (R295, R416). -/
theorem State.reqClass_portReq (s t : State) (p : Port) : t.reqClass (portReq p) = s.reqClass (portReq p) := by
  cases p <;> rfl

/-! A frame takes its entries (R302). -/

/-- The request of a window frame that has taken its first `n` entries (R302). -/
def WinFrame.request (f : WinFrame) (cls n now : Nat) : Flight :=
  { cls := cls, entries := f.blocks, left := n, want := f.blocks - n, takenAt := now, write := f.write,
    beats := f.addrs.map fun (a : Nat) => (a, 4) }

theorem State.winFlight_flight (s : State) (p : Port) (f : WinFrame) (n : Nat) :
    ((s.winFlight p f n).dch (portReq p)).flight = some (f.request (s.reqClass (portReq p)) n s.now) := by
  unfold State.winFlight
  split
  · exact congrArg DmaCh.flight (State.dch_setDch_same ..)
  · exact congrArg DmaCh.flight (State.dch_setDch_same ..)

/-- A window frame at the head of its queue takes the entries that are free (R302). -/
theorem State.winAccept_takes (hframe : (s.port p).frame = some f) (hfree : (s.dch (portReq p)).flight = none) (hruns : s.memRuns = true)
    (hclash : s.queueClash (31 + s.reqClass (portReq p)) = false) (hreset : s.queueReset (31 + s.reqClass (portReq p)) = false)
    (hhead : (s.joinQueue (s.reqClass (portReq p)) (portReq p)).atHead (s.reqClass (portReq p)) (portReq p) = true)
    (hroom : 0 < s.room (s.reqClass (portReq p))) : ((s.winAccept p).dch (portReq p)).flight =
      some (f.request (s.reqClass (portReq p)) (min (s.room (s.reqClass (portReq p))) f.blocks) s.now) := by
  obtain ⟨m, hjoin⟩ := s.joinQueue_requeued (s.reqClass (portReq p)) (portReq p)
  have hstall : ((s.requeued m).winStall p f).now = s.now :=
    congrArg BitVec.toNat (((s.requeued m).winStall_in p f).frame .chart (by decide))
  rw [hjoin] at hhead
  unfold State.winAccept
  dsimp only
  rw [hframe, hfree, hjoin, hclash, hreset]
  dsimp only
  rw [State.requeued_memRuns, State.requeued_room, hruns, hhead]
  simp only [Option.isSome_none, Bool.false_eq_true, if_false, Bool.not_true, Bool.or_self, if_neg hroom.ne']
  rw [State.winFlight_flight, State.reqClass_portReq s]
  split
  · rw [hstall]
  · rfl

/-! A read of the window (R283, R284, R411). -/

theorem State.judgeAll_mem (l : List Nat) : ∀ s : State, ∃ w, (s.judgeAll l).1.mem = { s.mem with dieWin := w } := by
  induction l with
  | nil => exact fun s => ⟨s.mem.dieWin, rfl⟩
  | cons b l ih =>
    intro s
    obtain ⟨_, hjudge⟩ := s.judge_mem b
    obtain ⟨w, hrest⟩ := ih (s.judge b).1
    exact ⟨w, hrest.trans (by rw [hjudge])⟩

/-- A beat without an error is delivered as it is, in whatever company it is judged (R284). -/
theorem State.judgeAll_clean (l : List Nat) : ∀ s : State, ∀ e ∈ (s.judgeAll l).2, tabGet 0 s.mem.flips e.1 = 0 → e.2.1 = 0 := by
  induction l with
  | nil => exact fun _ _ he => absurd he List.not_mem_nil
  | cons b l ih =>
    intro s e he hclean
    obtain ⟨_, hjudge⟩ := s.judge_mem b
    rcases List.mem_cons.1 he with rfl | hrest
    · exact congrArg (fun j : State × Nat × Bool => j.2.1) (State.judge_clean hclean)
    · exact ih (s.judge b).1 e hrest (by rw [hjudge]; exact hclean)

theorem State.dataByte_clean (s : State) (a : Nat) : s.dataByte 0 a = s.dram a := by
  have hsymbol : symbolOf 0 (a % 8) = 0 := by simp [symbolOf]
  unfold State.dataByte
  rw [hsymbol]
  exact Nat.xor_zero _

/-- The words of a read whose beats have no error (R411). -/
theorem State.winRead_words {l : List Nat} (h : ∀ a ∈ l, tabGet 0 s.mem.flips (a / 8) = 0) :
    (s.winRead l).2.1 = l.map fun a => leWord [s.dram a, s.dram (a + 1), s.dram (a + 2), s.dram (a + 3)] := by
  unfold State.winRead
  refine List.map_congr_left fun a ha => ?_
  generalize ((l.map (· / 64)).dedup.map fun k => (List.range 8).map fun i => 8 * k + i).flatten = beats
  have hleft : (((((s.judgeAll beats).2.find? fun e => e.1 == a / 8).map (·.2)).getD (0, false))).1 = 0 := by
    cases hfind : (s.judgeAll beats).2.find? fun e => e.1 == a / 8 with
    | none => rfl
    | some e =>
      have hbeat : e.1 = a / 8 := by simpa using List.find?_some hfind
      exact State.judgeAll_clean beats s e (List.mem_of_find?_eq_some hfind) (by rw [hbeat]; exact h a ha)
  dsimp only
  rw [hleft]
  exact congrArg leWord (List.map_congr_left fun i _ => s.dataByte_clean (a + i))

theorem State.winRead_ch (s : State) (l : List Nat) : SameCh s (s.winRead l).1 := by
  obtain ⟨_, h⟩ := s.judgeAll_mem (((l.map (· / 64)).dedup.map fun k => (List.range 8).map fun i => 8 * k + i).flatten)
  unfold State.winRead SameCh
  dsimp only
  rw [h]

/-! A write of one word of the window (R289, R411). -/

theorem MemRun.put_get (m : MemRun) (a v x : Nat) : tabGet 0 (m.put a v).dram x = if x = a then v % 256 else tabGet 0 m.dram x := by
  unfold MemRun.put
  split
  · next h => rw [h, tabGet_set_same]
  · next h => exact tabGet_set_other _ _ _ _ h

/-- The bytes of a word stand in memory, lowest first. -/
def MemRun.putWord (m : MemRun) (a v : Nat) : MemRun :=
  (((m.put a (v % 256)).put (a + 1) (v / 256 % 256)).put (a + 2) (v / 256 / 256 % 256)).put (a + 3) (v / 256 / 256 / 256 % 256)

theorem MemRun.putWord_inside (m : MemRun) (a v : Nat) {i : Nat} (hi : i < 4) : tabGet 0 (m.putWord a v).dram (a + i) = v / 256 ^ i % 256 := by
  unfold MemRun.putWord
  simp only [MemRun.put_get]
  obtain rfl | rfl | rfl | rfl : i = 0 ∨ i = 1 ∨ i = 2 ∨ i = 3 := by omega
  · simp
  · simp
  · simp [Nat.div_div_eq_div_mul]
  · simp [Nat.div_div_eq_div_mul]

theorem MemRun.putWord_outside (m : MemRun) (a v : Nat) {x : Nat} (hx : x < a ∨ a + 4 ≤ x) :
    tabGet 0 (m.putWord a v).dram x = tabGet 0 m.dram x := by
  unfold MemRun.putWord
  simp only [MemRun.put_get]
  rw [if_neg (by omega), if_neg (by omega), if_neg (by omega), if_neg (by omega)]

/-- The beats of a block have no error. -/
def State.BlockClean (s : State) (k : Nat) : Prop := ∀ i, i < 8 → tabGet 0 s.mem.flips (8 * k + i) = 0

theorem State.BlockClean.good {k : Nat} (h : s.BlockClean k) : s.blockBad k = false := by
  unfold State.blockBad anyIdx
  refine List.any_eq_false.2 fun i hi => ?_
  rw [h i (List.mem_range.1 hi), verdict_zero]
  exact Bool.false_ne_true

theorem State.BlockClean.remakeBlock {k : Nat} (h : s.BlockClean k) : s.remakeBlock k = (s, false) := by
  unfold State.remakeBlock
  refine List.foldlRecOn (motive := fun y : State × Bool => y = (s, false)) _ _ rfl fun y hy i hi => ?_
  subst hy
  exact if_pos (h i (List.mem_range.1 hi))

/-- A word lands in a block without errors (R289). -/
theorem State.BlockClean.writeBlock {a : Nat} (h : s.BlockClean (a / 64)) (v : Nat) :
    s.writeBlock a (leBytes 4 v) false = some { s with mem := s.mem.putWord a v } := by
  unfold State.writeBlock
  dsimp only
  rw [h.good, h.remakeBlock]
  rfl

/-- A write of an aligned word carries that word (R411). -/
theorem State.BlockClean.winWrite {a v : Nat} (h : s.BlockClean (a / 64)) (haddrs : f.addrs = [a]) (hwords : f.words = [v]) (hal : a % 4 = 0)
    (p : Port) : s.winWrite p f = { s with mem := s.mem.putWord a v } := by
  have hlen : (leBytes 4 v).take (64 - a % 64) = leBytes 4 v := List.take_of_length_le (by change 4 ≤ 64 - a % 64; omega)
  unfold State.winWrite
  rw [haddrs, hwords]
  refine (if_pos rfl).trans ?_
  change s.winBlocks p 1 a (leBytes 4 v) = _
  unfold State.winBlocks
  refine (if_neg Bool.false_ne_true).trans ?_
  dsimp only
  rw [hlen, h.writeBlock]
  rfl

/-! A frame is served (R303, R410). -/

/-- The request of a window leaves the tracker. -/
def State.winServed (s : State) (p : Port) : State := (s.setDch (portReq p) {}).noteTracker

theorem State.winServed_dch (s : State) (p : Port) : (s.winServed p).dch (portReq p) = {} := by
  rw [State.winServed, State.noteTracker_dch, State.dch_setDch_same]

/-- A slot and the end of a request leave what memory holds. -/
theorem Slots.winServed (h : Slots s t) (p : Port) : (t.winServed p).mem.dram = s.mem.dram ∧ (t.winServed p).mem.flips = s.mem.flips := by
  obtain ⟨_, _, _, rfl⟩ := h.moves
  exact ⟨rfl, rfl⟩

/-- The request of a window leaves the tracker, and its frame has met no refusal yet. -/
def State.winOpened (s : State) (p : Port) : State := { s.winServed p with refusedNow := false }

/-- A word of the window stands in memory. -/
def State.wordWritten (s : State) (a v : Nat) : State := { s with mem := s.mem.putWord a v }

/-- A frame that is served as the queues run. -/
structure State.Served (s : State) (p : Port) (f : WinFrame) (t : State) : Prop where
  slots : s.serveTo (portReq p) 96 = some t
  frame : (s.port p).frame = some f
  runs : s.memRuns = true
  kept : s.queueClash (34 + s.reqClass (portReq p)) = false
  open_ : s.queueReset (34 + s.reqClass (portReq p)) = false

theorem State.Served.reads (h : s.Served p f t) (hread : f.write = false) :
    s.winComplete p = ((t.winServed p).winRead f.addrs).1.winAnswer p f
      (if ((t.winServed p).winRead f.addrs).2.2.any id then stPOISON else 0) ((t.winServed p).winRead f.addrs).2.1
      (maskOf ((t.winServed p).winRead f.addrs).2.2) := by
  unfold State.winComplete
  rw [h.slots, h.frame]
  dsimp only
  rw [h.runs, h.kept, h.open_, hread]
  rfl

theorem State.Served.writes (h : s.Served p f t) (hwrite : f.write = true) :
    s.winComplete p = ((t.winOpened p).winWrite p f).winAnswer p f
      (if ((t.winOpened p).winWrite p f).refusedNow then stREFUSED else 0) [] 0 := by
  unfold State.winComplete
  rw [h.slots, h.frame]
  dsimp only
  rw [h.runs, h.kept, h.open_, hwrite]
  rfl

/-- A word written into a block without errors is answered without a refusal. -/
theorem State.Served.writesWord (h : s.Served p f t) (hwrite : f.write = true) {a v : Nat} (haddrs : f.addrs = [a]) (hwords : f.words = [v])
    (hal : a % 4 = 0) (hclean : (t.winOpened p).BlockClean (a / 64)) :
    s.winComplete p = ((t.winOpened p).wordWritten a v).winAnswer p f 0 [] 0 := by
  have hword : (t.winOpened p).winWrite p f = (t.winOpened p).wordWritten a v := hclean.winWrite haddrs hwords hal p
  rw [h.writes hwrite, hword]
  rfl

/-- The response of a frame that is awaited (R407). -/
theorem State.winAnswer_shows (h : f.silent = false) (s : State) (p : Port) (flags : Nat) (words : List Nat) (mask : Nat) :
    let t := s.winAnswer p f flags words mask
    t.port p = { reply := some { status := s.statusByte flags, words := words, mask := mask }, frame := none } ∧ t.mem = s.mem := by
  have heq : s.winAnswer p f flags words mask = s.answer p flags words mask := if_neg (by rw [h]; decide)
  rw [heq]
  exact ⟨State.port_setPort_same .., rfl⟩

/-- A read whose beats have no error answers with what memory holds, and the window is free again (R410, R411). -/
theorem State.Served.reads_shows (h : s.Served p f t) (hread : f.write = false) (hawaited : f.silent = false)
    (hclean : ∀ a ∈ f.addrs, tabGet 0 s.mem.flips (a / 8) = 0) :
    ∃ w, ((s.winComplete p).port p).frame = none ∧ ((s.winComplete p).dch (portReq p)).flight = none ∧
      ((s.winComplete p).port p).reply = some w ∧
      w.words = f.addrs.map (fun a => leWord [s.dram a, s.dram (a + 1), s.dram (a + 2), s.dram (a + 3)]) := by
  obtain ⟨hdram, hflips⟩ := (State.serveTo_slots _ _ s t h.slots).winServed p
  have hwords := State.winRead_words (s := t.winServed p) (l := f.addrs) fun a ha => by rw [hflips]; exact hclean a ha
  rw [h.reads hread]
  obtain ⟨hport, hmem⟩ := State.winAnswer_shows hawaited ((t.winServed p).winRead f.addrs).1 p
    (if ((t.winServed p).winRead f.addrs).2.2.any id then stPOISON else 0) ((t.winServed p).winRead f.addrs).2.1
    (maskOf ((t.winServed p).winRead f.addrs).2.2)
  refine ⟨_, congrArg PortRun.frame hport, ?_, congrArg PortRun.reply hport, hwords.trans ?_⟩
  · rw [State.dch_congr hmem, (State.winRead_ch _ _).dch, State.winServed_dch]
  · unfold State.dram
    rw [hdram]

/-- A word written into a block without errors stands there alone, and the window is free again (R289, R410). -/
theorem State.Served.writesWord_shows (h : s.Served p f t) (hwrite : f.write = true) (hawaited : f.silent = false) {a v : Nat}
    (haddrs : f.addrs = [a]) (hwords : f.words = [v]) (hal : a % 4 = 0) (hclean : s.BlockClean (a / 64)) :
    (∀ i, i < 4 → (s.winComplete p).dram (a + i) = v / 256 ^ i % 256) ∧ (∀ x, x < a ∨ a + 4 ≤ x → (s.winComplete p).dram x = s.dram x) ∧
      ((s.winComplete p).port p).frame = none ∧ ((s.winComplete p).dch (portReq p)).flight = none := by
  obtain ⟨hdram, hflips⟩ := (State.serveTo_slots _ _ s t h.slots).winServed p
  have hblock : (t.winOpened p).BlockClean (a / 64) := fun i hi =>
    (congrArg (fun m => tabGet 0 m (8 * (a / 64) + i)) hflips).trans (hclean i hi)
  obtain ⟨hport, hmem⟩ := State.winAnswer_shows hawaited ((t.winOpened p).wordWritten a v) p 0 [] 0
  rw [h.writesWord hwrite haddrs hwords hal hblock]
  refine ⟨fun i hi => ?_, fun x hx => ?_, congrArg PortRun.frame hport, ?_⟩
  · unfold State.dram
    rw [hmem]
    exact MemRun.putWord_inside _ a _ hi
  · unfold State.dram
    rw [hmem]
    exact (MemRun.putWord_outside _ a _ hx).trans (congrArg (fun m => tabGet 0 m x) hdram)
  · rw [State.dch_congr hmem]
    exact congrArg DmaCh.flight (t.winServed_dch p)

theorem execDmaRequestAccept_port {r : Fin 34} (h : r.val = portReq p) (s : State) : exec (.dmaRequestAccept r) s = .next (s.winAccept p) := by
  have hport : reqPort r = p := by rw [h, reqPort_portReq]
  exact congrArg Host.Outcome.next ((if_neg (by rw [h]; exact portReq_above p)).trans (by rw [hport]))

theorem execDmaRequestComplete_port {r : Fin 34} (h : r.val = portReq p) (s : State) :
    exec (.dmaRequestComplete r) s = .next (s.winComplete p) := by
  have hport : reqPort r = p := by rw [h, reqPort_portReq]
  exact congrArg Host.Outcome.next ((if_neg (by rw [h]; exact portReq_above p)).trans (by rw [hport]))

end Sys2Proof.Machine

end

/-! Errors of the dual-clock queues. -/

section
open Sys2Proof Sys2Proof.Machine

namespace Sys2Proof.Machine

variable {s t : State}

/-- The fields of the record of a queue error, beside the bit of the queue (R278). -/
def qerrFlds : List Fld := [Reg.CLK_STATUS_QERR_S, Reg.CLK_CNT_QERR_CNT, Reg.CLK_QERR_QNUM, Reg.CLK_QERR_VALID]

/-- The record of a queue error behind the bit of the queue. -/
def State.qerrCounted (s : State) (q : Nat) : State :=
  (((s.raise Reg.CLK_STATUS_QERR_S).count Reg.CLK_CNT_QERR_CNT).setFld Reg.CLK_QERR_QNUM q).setFld Reg.CLK_QERR_VALID 1

theorem State.qerrCounted_fields (s : State) (q : Nat) : OnlyFlds qerrFlds s (s.qerrCounted q) :=
  ((((OnlyFlds.refl qerrFlds s).raise (f := Reg.CLK_STATUS_QERR_S) (by decide)).count (f := Reg.CLK_CNT_QERR_CNT) (by decide)).setFld
    (f := Reg.CLK_QERR_QNUM) (by decide) q).setFld (f := Reg.CLK_QERR_VALID) (by decide) 1

theorem State.qerrCounted_shows (s : State) {q : Nat} (hq : q < 64) : (s.qerrCounted q).on Reg.CLK_STATUS_QERR_S = true ∧
    (s.qerrCounted q).fld Reg.CLK_CNT_QERR_CNT = s.counted Reg.CLK_CNT_QERR_CNT ∧ (s.qerrCounted q).fld Reg.CLK_QERR_QNUM = q ∧
    (s.qerrCounted q).fld Reg.CLK_QERR_VALID = 1 := by
  refine ⟨?_, ?_, ?_, State.fld_setFld_same ..⟩
  · rw [State.on, State.qerrCounted, State.fld_setFld_other _ _ (by decide), State.fld_setFld_other _ _ (by decide),
      State.fld_count_other _ (by decide)]
    exact State.on_raise_same _ rfl
  · rw [State.qerrCounted, State.fld_setFld_other _ _ (by decide), State.fld_setFld_other _ _ (by decide), State.fld_count_same]
    exact State.counted_congr (State.fld_raise_other _ (by decide))
  · exact (State.fld_setFld_other _ _ (by decide)).trans ((State.fld_setFld_same ..).trans (Nat.mod_eq_of_lt hq))

/-- The word and the place of the bit of a queue (R278). -/
def qerrBit (q : Nat) : Fld × Nat := if q < 32 then (Reg.CLK_QERR_Q0, q) else (Reg.CLK_QERR_Q1, q - 32)

theorem State.noteQerr_regs (s : State) (q : Nat) :
    (s.noteQerr q).regs = ((s.raiseBit (qerrBit q).1 (qerrBit q).2).qerrCounted q).regs := by
  unfold State.noteQerr qerrBit
  split <;> rfl

theorem bitOf_raiseBit_same (s : State) {f : Fld} {b : Nat} (h : b < f.width) : bitOf ((s.raiseBit f b).fld f) b = true := by
  rw [State.fld_raiseBit, if_pos rfl, bitOf_mod h, bitOf_setBit_same]

theorem qerrBit_keys (q : Nat) : (∀ g ∈ qerrFlds, (qerrBit q).1.key ≠ g.key) ∧ (q < 45 → (qerrBit q).2 < (qerrBit q).1.width) := by
  have hkeys : ∀ f ∈ [Reg.CLK_QERR_Q0, Reg.CLK_QERR_Q1], ∀ g ∈ qerrFlds, f.key ≠ g.key := by decide
  unfold qerrBit
  split
  · next h => exact ⟨hkeys _ (by simp), fun _ => h⟩
  · refine ⟨hkeys _ (by simp), fun h => ?_⟩
    change q - 32 < 13
    omega

/-- A queue error is recorded (R278). -/
theorem State.noteQerr_shows (s : State) {q : Nat} (hq : q < 45) : let t := s.noteQerr q
    bitOf (t.fld (qerrBit q).1) (qerrBit q).2 = true ∧ t.on Reg.CLK_STATUS_QERR_S = true ∧
      t.fld Reg.CLK_CNT_QERR_CNT = s.counted Reg.CLK_CNT_QERR_CNT ∧ t.fld Reg.CLK_QERR_QNUM = q ∧ t.fld Reg.CLK_QERR_VALID = 1 ∧
      OnlyFlds ((qerrBit q).1 :: qerrFlds) s t := by
  intro t
  obtain ⟨hkeys, hwidth⟩ := qerrBit_keys q
  let u := s.raiseBit (qerrBit q).1 (qerrBit q).2
  have hfld (f : Fld) : t.fld f = (u.qerrCounted q).fld f := State.fld_congr (s.noteQerr_regs q) f
  obtain ⟨hraised, hcnt, hnum, hvalid⟩ := u.qerrCounted_shows (q := q) (by omega)
  have hkept {f : Fld} (hf : f ∈ qerrFlds) : u.fld f = s.fld f := State.fld_raiseBit_other s _ (hkeys f hf).symm
  have honly : OnlyFlds ((qerrBit q).1 :: qerrFlds) s u := (OnlyFlds.refl _ s).raiseBit List.mem_cons_self _
  refine ⟨?_, (congrArg (· == 1) (hfld _)).trans hraised, (hfld _).trans (hcnt.trans (State.counted_congr (hkept (by simp [qerrFlds])))),
    (hfld _).trans hnum, (hfld _).trans hvalid, ?_⟩
  · rw [hfld, u.qerrCounted_fields q _ hkeys]
    exact bitOf_raiseBit_same s (hwidth hq)
  · exact (honly.trans ((u.qerrCounted_fields q).mono fun _ => List.mem_cons_of_mem _)).same (s.noteQerr_regs q)

theorem State.noteQerr_conv (s : State) (q c : Nat) : (s.noteQerr q).conv c = s.conv c :=
  State.conv_congr ((s.noteQerr_in q).frame .adc (by decide)) c

/-- The items in the queue of a converter are lost; those behind it stay (R280). -/
theorem State.loseItems_shows (s : State) (c : Nat) : ((s.loseItems c).conv c).queue = (s.conv c).queue.drop convDepth ∧
    (s.loseItems c).regs = s.regs :=
  ⟨congrArg ConvRun.queue (State.conv_setConv_same s c { s.conv c with queue := (s.conv c).queue.drop convDepth }), rfl⟩

theorem State.queueUsers_converter (s : State) {q : Nat} (h : q < 32) (lost : Bool) : s.queueUsers q lost = s.loseItems q := if_pos h

theorem State.queueUsers_twin (s : State) (lost : Bool) :
    s.queueUsers 40 lost = (s.raise Reg.TWN_STATUS_LINKERR_S).count Reg.TWN_CNT_LINKERR_CNT := rfl

theorem State.queueUsers_core (s : State) {q : Nat} (h : q = 42 ∨ q = 43) (lost : Bool) :
    s.queueUsers q lost = if lost then s.raise Reg.SYS_EVENT_HKACC_S else s := by
  rcases h with rfl | rfl <;> cases lost <;> rfl

/-- An error of a converter's queue is recorded, and its items are lost (R278, R280). -/
theorem State.queueError_converter (s : State) {q : Nat} (lost : Bool) (hq : q < 32) : let t := (s.noteQerr q).queueUsers q lost
    bitOf (t.fld Reg.CLK_QERR_Q0) q = true ∧ (t.conv q).queue = (s.conv q).queue.drop convDepth ∧ t.on Reg.CLK_STATUS_QERR_S = true ∧
      t.fld Reg.CLK_CNT_QERR_CNT = s.counted Reg.CLK_CNT_QERR_CNT ∧ t.fld Reg.CLK_QERR_QNUM = q ∧ t.fld Reg.CLK_QERR_VALID = 1 ∧
      OnlyFlds (Reg.CLK_QERR_Q0 :: qerrFlds) s t := by
  obtain ⟨hbit, hraised, hcnt, hnum, hvalid, honly⟩ := s.noteQerr_shows (q := q) (by omega)
  obtain ⟨hqueue, hregs⟩ := (s.noteQerr q).loseItems_shows q
  have hplace : qerrBit q = (Reg.CLK_QERR_Q0, q) := if_pos hq
  rw [hplace] at hbit honly
  rw [State.queueUsers_converter _ hq]
  have hfld (f : Fld) : ((s.noteQerr q).loseItems q).fld f = (s.noteQerr q).fld f := State.fld_congr hregs f
  exact ⟨by rw [hfld]; exact hbit, hqueue.trans (by rw [State.noteQerr_conv]), (congrArg (· == 1) (hfld _)).trans hraised,
    (hfld _).trans hcnt, (hfld _).trans hnum, (hfld _).trans hvalid, honly.same hregs⟩

/-- An error of the queue of a twin's link counts as one of the link (R278, R280). -/
theorem State.queueError_twin (s : State) (lost : Bool) : let t := (s.noteQerr 40).queueUsers 40 lost
    bitOf (t.fld Reg.CLK_QERR_Q1) 8 = true ∧ t.on Reg.TWN_STATUS_LINKERR_S = true ∧
      t.fld Reg.TWN_CNT_LINKERR_CNT = s.counted Reg.TWN_CNT_LINKERR_CNT := by
  obtain ⟨hbit, -, -, -, -, honly⟩ := s.noteQerr_shows (q := 40) (by decide)
  have hplace : qerrBit 40 = (Reg.CLK_QERR_Q1, 8) := rfl
  rw [hplace] at hbit honly
  rw [State.queueUsers_twin]
  refine ⟨?_, ?_, ?_⟩
  · rw [State.fld_count_other _ (by decide), State.fld_raise_other _ (by decide)]
    exact hbit
  · rw [State.on, State.fld_count_other _ (by decide)]
    exact State.on_raise_same _ rfl
  · exact (State.fld_count_same ..).trans
      (State.counted_congr ((State.fld_raise_other _ (by decide)).trans (honly _ (by decide))))

/-- An error of a queue of the core that loses an access is an event (R280). -/
theorem State.queueError_core (s : State) {q : Nat} (lost : Bool) (hq : q = 42 ∨ q = 43) :
    ((s.noteQerr q).queueUsers q lost).on Reg.SYS_EVENT_HKACC_S = (s.on Reg.SYS_EVENT_HKACC_S || lost) := by
  obtain ⟨-, -, -, -, -, honly⟩ := s.noteQerr_shows (q := q) (by omega)
  have hplace : (qerrBit q).1 = Reg.CLK_QERR_Q1 := congrArg Prod.fst (if_neg (by omega))
  have hkeys : ∀ g ∈ Reg.CLK_QERR_Q1 :: qerrFlds, Reg.SYS_EVENT_HKACC_S.key ≠ g.key := by decide
  rw [hplace] at honly
  have hkept : (s.noteQerr q).on Reg.SYS_EVENT_HKACC_S = s.on Reg.SYS_EVENT_HKACC_S := honly.on hkeys
  rw [State.queueUsers_core _ hq]
  cases lost with
  | true => exact (State.on_raise_same _ rfl).trans (Bool.or_true _).symm
  | false => exact hkept.trans (Bool.or_false _).symm

end Sys2Proof.Machine

/-- Settles O52: the head of a queue by the room of its class, the slots by the first requester that each class can serve, a window's frame
by the beats of its blocks, and a queue error by its record and the users of that queue. -/
theorem theTrackerServesItsRequesters : Obligations.TheTrackerServesItsRequesters := by
  refine ⟨fun s c => ⟨fun hfree hnone => ?_, fun q hask => ⟨fun hclash hjobs => ?_, fun hclash hreset => ?_, fun hclash hreset hwait => ?_,
      fun hclash hreset hruns hhead => ?_⟩⟩, fun s c f hf hruns hreset hsome => ?_,
    fun s c => ⟨fun hnone => ?_, fun f hf hyoung hruns hclash => ⟨fun hreset => ?_, fun hreset hserve => ?_,
      fun hleft hmost hfull hlow hhigh hstill hothers => ?_⟩⟩, fun s cls q h => ?_,
    fun s p f hframe hruns hyoung => ⟨fun hfree hclash hreset hhead hroom => ?_,
      fun q _ hclash hreset hserve hawaited => ⟨fun hread hclean => ?_, fun a v hwrite haddrs hwords hal hclean => ?_⟩⟩,
    fun s q lost => ⟨_, rfl, fun hq => ?_, fun hq => ?_, fun hq => ?_⟩⟩
  · exact congrArg Host.Outcome.next ((if_pos c.isLt).trans (State.acceptCh_silent hfree hnone))
  · obtain ⟨hhalt, haddr, hcause, -⟩ := State.dmaFault_shows hjobs 5 q.vaddr 0
    exact ⟨_, congrArg Host.Outcome.next ((if_pos c.isLt).trans (State.acceptCh_lost hask hclash)), hhalt, hcause, haddr⟩
  · exact congrArg Host.Outcome.next ((if_pos c.isLt).trans (State.acceptCh_full hask hclash hreset))
  · exact congrArg Host.Outcome.next ((if_pos c.isLt).trans (State.acceptCh_waits hask hclash hreset hwait))
  · have hat : s.AtTracker c q := ⟨hask, hclash, hreset, hruns, hhead⟩
    have haccept : exec (.dmaRequestAccept ⟨c.val, by omega⟩) s = .next (s.acceptCh c) := congrArg Host.Outcome.next (if_pos c.isLt)
    exact ⟨fun hroom hfit hbad _ htr => ⟨_, haccept, hat.takes_all hroom hfit hbad htr⟩,
      fun hroom hfit hbad _ htr => ⟨_, haccept, hat.takes_part hroom hfit hbad htr⟩,
      fun hroom hfit hbad _ _ htr hjobs hcopy => ⟨_, haccept, hat.faults hroom hfit hbad htr hjobs hcopy⟩,
      fun hroom hfirst => ⟨_, haccept, hat.stalls hroom hfirst⟩,
      fun hroom hagain => haccept.trans (congrArg Host.Outcome.next (hat.waits hroom hagain))⟩
  · obtain ⟨hflight, hregs⟩ := State.fill_takes hf hsome
    have hfill := State.acceptCh_fills hf hruns hreset
    exact ⟨_, congrArg Host.Outcome.next ((if_pos c.isLt).trans hfill), hflight,
      ((OnlyFlds.refl _ s).same hregs).trans (State.noteTracker_fields _)⟩
  · exact congrArg Host.Outcome.next ((if_pos c.isLt).trans (State.completeCh_unserved hnone))
  · have hfront := DmaCh.front_of_flight hf hyoung
    exact congrArg Host.Outcome.next ((if_pos c.isLt).trans (State.completeCh_held hfront hruns hclash hreset))
  · have hfront := DmaCh.front_of_flight hf hyoung
    exact ⟨_, congrArg Host.Outcome.next (if_pos c.isLt), State.completeCh_leaves hserve hfront hyoung hruns hclash hreset⟩
  · have halone : Alone s c f := ⟨by omega, hf, hyoung, hfull, hlow, hhigh, hstill, hothers⟩
    exact halone.serveTo 96 hleft hmost
  · obtain ⟨hnext, hlower⟩ := State.nextServed_cases h
    obtain ⟨-, hserve, hbefore⟩ := State.nextOf_some hnext
    exact ⟨hserve, fun k r hk hlt hr => State.nextOf_none.1 (hlower k hk hlt) r hr, hbefore⟩
  · exact ⟨_, execDmaRequestAccept_port rfl s, State.winAccept_takes hframe hfree hruns hclash hreset hhead hroom⟩
  · obtain ⟨t, ht⟩ := Option.isSome_iff_exists.1 hserve
    obtain ⟨w, hshows⟩ := State.Served.reads_shows ⟨ht, hframe, hruns, hclash, hreset⟩ hread hawaited hclean
    exact ⟨_, w, execDmaRequestComplete_port rfl s, hshows⟩
  · obtain ⟨t, ht⟩ := Option.isSome_iff_exists.1 hserve
    exact ⟨_, execDmaRequestComplete_port rfl s,
      State.Served.writesWord_shows ⟨ht, hframe, hruns, hclash, hreset⟩ hwrite hawaited haddrs hwords hal hclean⟩
  · exact s.queueError_converter lost hq
  · rw [hq]
    exact s.queueError_twin lost
  · exact s.queueError_core lost hq

end

/-! Bytes written within one block of DRAM, and the poison list. -/

section
open Sys2Proof Sys2Proof.Machine

namespace Sys2Proof.Machine

variable {s t : State} {a k : Nat} {bytes : List Nat} {poison : Bool}

/-! A run of bytes. -/

/-- The bytes of a list stand in memory from `a` on. -/
def MemRun.putBytes (m : MemRun) (a : Nat) (bytes : List Nat) : MemRun :=
  (bytes.zip (List.range bytes.length)).foldl (fun r (v, i) => r.put (a + i) v) m

theorem MemRun.putBytes_concat (m : MemRun) (a : Nat) (bytes : List Nat) (v : Nat) :
    m.putBytes a (bytes ++ [v]) = (m.putBytes a bytes).put (a + bytes.length) v := by
  have hzip : (bytes ++ [v]).zip (List.range (bytes ++ [v]).length) = bytes.zip (List.range bytes.length) ++ [(v, bytes.length)] := by
    rw [List.length_append, List.length_singleton, List.range_succ, List.zip_append List.length_range.symm]
    rfl
  unfold MemRun.putBytes
  rw [hzip, List.foldl_append]
  rfl

theorem MemRun.putBytes_outside (m : MemRun) (a : Nat) (bytes : List Nat) {x : Nat} (hx : x < a ∨ a + bytes.length ≤ x) :
    tabGet 0 (m.putBytes a bytes).dram x = tabGet 0 m.dram x := by
  induction bytes using List.reverseRecOn with
  | nil => rfl
  | append_singleton bytes v ih =>
    rw [List.length_append, List.length_singleton] at hx
    rw [MemRun.putBytes_concat, MemRun.put_get, if_neg (by omega), ih (by omega)]

theorem MemRun.putBytes_inside (m : MemRun) (a : Nat) (bytes : List Nat) {i v : Nat} (h : bytes[i]? = some v) :
    tabGet 0 (m.putBytes a bytes).dram (a + i) = v % 256 := by
  induction bytes using List.reverseRecOn with
  | nil => exact absurd h (by simp)
  | append_singleton bytes w ih =>
    rw [MemRun.putBytes_concat, MemRun.put_get]
    rcases Nat.lt_trichotomy i bytes.length with hlow | rfl | hhigh
    · rw [List.getElem?_append_left hlow] at h
      rw [if_neg (by omega), ih h]
    · rw [List.getElem?_concat_length] at h
      rw [if_pos rfl, Option.some.inj h]
    · rw [List.getElem?_eq_none (by simp; omega)] at h
      cases h

/-- A run of bytes is written into the data alone. -/
theorem MemRun.putBytes_plist (m : MemRun) (a : Nat) (bytes : List Nat) : (m.putBytes a bytes).plist = m.plist :=
  foldl_induct (P := fun r : MemRun => r.plist = m.plist) (fun _ _ h => h) rfl

/-! Fresh check symbols. -/

/-- Every beat of a block has fresh check symbols (R289). -/
def MemRun.freshChecks (m : MemRun) (k : Nat) : MemRun :=
  { m with flips := (List.range 8).foldl (fun f i => tabSet 0 f (8 * k + i) 0) m.flips }

theorem tabGet_clear_zero {m : Tab Nat} (b : Nat) {n : Nat} (h : tabGet 0 m n = 0) : tabGet 0 (tabSet 0 m b 0) n = 0 := by
  by_cases hn : n = b
  · rw [hn, tabGet_set_same]
  · rw [tabGet_set_other _ _ _ _ hn, h]

theorem foldl_clear_zero (b : Nat) {i : Nat} (l : List Nat) (h : i ∈ l) :
    ∀ m : Tab Nat, tabGet 0 (l.foldl (fun f j => tabSet 0 f (b + j) 0) m) (b + i) = 0 := by
  have hkeep (l : List Nat) {m : Tab Nat} (hm : tabGet 0 m (b + i) = 0) :
      tabGet 0 (l.foldl (fun f j => tabSet 0 f (b + j) 0) m) (b + i) = 0 :=
    foldl_induct (P := fun f : Tab Nat => tabGet 0 f (b + i) = 0) (fun _ j hf => tabGet_clear_zero (b + j) hf) hm
  induction l with
  | nil => exact absurd h List.not_mem_nil
  | cons j l ih =>
    rcases List.mem_cons.1 h with rfl | hl
    · exact fun m => hkeep l (tabGet_set_same ..)
    · exact fun m => ih hl _

theorem MemRun.freshChecks_clean (m : MemRun) (k : Nat) {i : Nat} (h : i < 8) : tabGet 0 (m.freshChecks k).flips (8 * k + i) = 0 :=
  foldl_clear_zero (8 * k) _ (List.mem_range.2 h) m.flips

/-! A block that is remade, that enters the poison list, and that leaves it. -/

/-- A write of the bytes of a beat leaves every other. -/
theorem foldl_putBeat_outside (m : MemRun) (b : Nat) (v : Nat → Nat) {x : Nat} (hx : x / 8 ≠ b) :
    tabGet 0 ((List.range 8).foldl (fun r i => r.put (8 * b + i) (v i)) m).dram x = tabGet 0 m.dram x := by
  refine List.foldlRecOn (motive := fun r : MemRun => tabGet 0 r.dram x = tabGet 0 m.dram x) _ _ rfl fun r hr i hi => ?_
  have hlt := List.mem_range.1 hi
  rw [MemRun.put_get, if_neg (by omega), hr]

/-- A block is remade within its own bytes (R284, R289). -/
theorem State.remakeBlock_dram_other (s : State) {k x : Nat} (hx : x / 64 ≠ k) : (s.remakeBlock k).1.dram x = s.dram x := by
  unfold State.remakeBlock
  refine List.foldlRecOn (motive := fun y : State × Bool => y.1.dram x = s.dram x) _ _ rfl fun y hy i hi => ?_
  have hlt := List.mem_range.1 hi
  dsimp only
  split
  · exact hy
  · obtain ⟨_, hjudge⟩ := y.1.judge_mem (8 * k + i)
    have hbeat := foldl_putBeat_outside (y.1.judge (8 * k + i)).1.mem (8 * k + i)
      (fun j => y.1.dataByte (y.1.judge (8 * k + i)).2.1 (8 * (8 * k + i) + j)) (x := x) (by omega)
    exact hbeat.trans ((by rw [hjudge] : tabGet 0 (y.1.judge (8 * k + i)).1.mem.dram x = tabGet 0 y.1.mem.dram x).trans hy)

@[simp] theorem State.cureBlock_dram (s : State) (k x : Nat) : (s.cureBlock k).dram x = s.dram x := rfl

theorem State.cureBlock_unlisted (s : State) (k : Nat) : (s.cureBlock k).mem.plist.contains k = false := by
  simp [State.cureBlock]

@[simp] theorem State.poisonBlock_dram (s : State) (k x : Nat) : (s.poisonBlock k).dram x = s.dram x := by
  unfold State.poisonBlock
  split <;> rfl

theorem State.poisonBlock_listed (s : State) (k : Nat) : (s.poisonBlock k).mem.plist.contains k = true := by
  unfold State.poisonBlock
  split
  · next h => exact h
  · simp

/-! A write within one block (R289). -/

/-- Whether a write of `n` bytes leaves its block in the poison list: of poisoned data, or of a part of a block with an uncorrectable
beat (R289). -/
def State.leavesPoison (s : State) (k n : Nat) (poison : Bool) : Bool := poison || (!decide (n = 64) && s.blockBad k)

/-- A block is ready for `n` bytes: a full write cures it, a partial one remakes it, and where the write leaves poison it is listed. -/
def State.readied (s : State) (k n : Nat) (poison : Bool) : State :=
  let u := if decide (n = 64) = true then s.cureBlock k else (s.remakeBlock k).1
  if s.leavesPoison k n poison = true then u.poisonBlock k else u

/-- The bytes stand in their block, and a full write has fresh check symbols. -/
def MemRun.filled (m : MemRun) (a : Nat) (bytes : List Nat) : MemRun :=
  if decide (bytes.length = 64) = true then (m.putBytes a bytes).freshChecks (a / 64) else m.putBytes a bytes

theorem State.writeBlock_eq (s : State) (a : Nat) (bytes : List Nat) (poison : Bool) : s.writeBlock a bytes poison =
    if (s.leavesPoison (a / 64) bytes.length poison && !s.mayPoison (a / 64)) = true then none
    else some { s.readied (a / 64) bytes.length poison with mem := (s.readied (a / 64) bytes.length poison).mem.filled a bytes } := rfl

theorem State.writeBlock_lands (h : s.writeBlock a bytes poison = some t) :
    t.mem = (s.readied (a / 64) bytes.length poison).mem.filled a bytes := by
  rw [State.writeBlock_eq] at h
  split at h
  · cases h
  · rw [← Option.some.inj h]

/-- A write that needs room in a full list does not land, and every other does (R289). -/
theorem State.writeBlock_eq_none_iff (s : State) (a : Nat) (bytes : List Nat) (poison : Bool) : s.writeBlock a bytes poison = none ↔
    (poison = true ∨ bytes.length ≠ 64 ∧ s.blockBad (a / 64) = true) ∧ s.mem.plist.contains (a / 64) = false ∧
      64 ≤ s.mem.plist.length := by
  have hneed : s.leavesPoison (a / 64) bytes.length poison = true ↔ poison = true ∨ bytes.length ≠ 64 ∧ s.blockBad (a / 64) = true := by
    simp [State.leavesPoison]
  have hroom : s.mayPoison (a / 64) = false ↔ s.mem.plist.contains (a / 64) = false ∧ 64 ≤ s.mem.plist.length := by
    simp [State.mayPoison]
  rw [State.writeBlock_eq, ite_eq_left_iff, ← hneed, ← hroom]
  simp

theorem MemRun.filled_dram (m : MemRun) (a : Nat) (bytes : List Nat) : (m.filled a bytes).dram = (m.putBytes a bytes).dram := by
  unfold MemRun.filled
  split <;> rfl

theorem MemRun.filled_plist (m : MemRun) (a : Nat) (bytes : List Nat) : (m.filled a bytes).plist = m.plist := by
  unfold MemRun.filled
  split <;> exact m.putBytes_plist a bytes

theorem MemRun.filled_full (m : MemRun) (a : Nat) (h : bytes.length = 64) : m.filled a bytes = (m.putBytes a bytes).freshChecks (a / 64) :=
  if_pos (decide_eq_true h)

/-- A block is readied within its own bytes. -/
theorem State.readied_dram_other (s : State) (n : Nat) (poison : Bool) {x : Nat} (hx : x / 64 ≠ k) :
    (s.readied k n poison).dram x = s.dram x := by
  have hmade : (if decide (n = 64) = true then s.cureBlock k else (s.remakeBlock k).1).dram x = s.dram x := by
    split
    · rfl
    · exact s.remakeBlock_dram_other hx
  unfold State.readied
  dsimp only
  split
  · rw [State.poisonBlock_dram, hmade]
  · exact hmade

/-- A block without errors keeps its bytes as it is readied. -/
theorem State.BlockClean.readied (h : s.BlockClean k) (n : Nat) (poison : Bool) (x : Nat) : (s.readied k n poison).dram x = s.dram x := by
  unfold State.readied
  rw [h.remakeBlock]
  dsimp only
  split <;> split <;> simp

theorem State.readied_poisoned (s : State) (k n : Nat) : (s.readied k n true).mem.plist.contains k = true := State.poisonBlock_listed ..

theorem State.readied_full (s : State) (k : Nat) : s.readied k 64 false = s.cureBlock k := rfl

/-- The bytes of a write stand where they were written (R288). -/
theorem State.writeBlock_bytes (h : s.writeBlock a bytes poison = some t) {i v : Nat} (hv : bytes[i]? = some v) : t.dram (a + i) = v % 256 := by
  unfold State.dram
  rw [State.writeBlock_lands h, MemRun.filled_dram]
  exact MemRun.putBytes_inside _ _ _ hv

/-- The bytes beside those of a write are as the readied block holds them. -/
theorem State.writeBlock_beside (h : s.writeBlock a bytes poison = some t) {x : Nat} (hx : x < a ∨ a + bytes.length ≤ x) :
    t.dram x = (s.readied (a / 64) bytes.length poison).dram x := by
  unfold State.dram
  rw [State.writeBlock_lands h, MemRun.filled_dram]
  exact MemRun.putBytes_outside _ _ _ hx

theorem State.writeBlock_other (h : s.writeBlock a bytes poison = some t) (hfit : a % 64 + bytes.length ≤ 64) {x : Nat} (hx : x / 64 ≠ a / 64) :
    t.dram x = s.dram x :=
  (State.writeBlock_beside h (by omega)).trans (s.readied_dram_other _ _ hx)

/-- Poisoned data enters the poison list (R289). -/
theorem State.writeBlock_poisoned (h : s.writeBlock a bytes true = some t) : t.mem.plist.contains (a / 64) = true := by
  rw [State.writeBlock_lands h, MemRun.filled_plist]
  exact s.readied_poisoned ..

/-- A full write cures its block (R289). -/
theorem State.writeBlock_cures (h : s.writeBlock a bytes false = some t) (hfull : bytes.length = 64) :
    t.mem.plist.contains (a / 64) = false ∧ ∀ i, i < 8 → tabGet 0 t.mem.flips (8 * (a / 64) + i) = 0 := by
  have hmem := State.writeBlock_lands h
  rw [hfull, State.readied_full] at hmem
  rw [hmem]
  refine ⟨?_, fun i hi => ?_⟩
  · rw [MemRun.filled_plist]
    exact s.cureBlock_unlisted _
  · rw [MemRun.filled_full _ _ hfull]
    exact MemRun.freshChecks_clean _ _ hi

/-! A read within one beat. -/

/-- A beat without errors is read as it was written, with its block's poison (R288). -/
theorem State.readBeat_clean (n : Nat) (h : tabGet 0 s.mem.flips (a / 8) = 0) :
    s.readBeat a n = (s, (List.range n).map (fun i => s.dram (a + i)), s.mem.plist.contains (a / 64)) := by
  have hblock : a / 8 / 8 = a / 64 := Nat.div_div_eq_div_mul ..
  unfold State.readBeat
  rw [State.judge_clean h, hblock]
  simp only [State.dataByte_clean]

end Sys2Proof.Machine

/-- Settles O50: a write readies its block, within that block alone, and then places its bytes; a clean beat is read as it stands. -/
theorem bytesLandInTheirBlocks : Obligations.BytesLandInTheirBlocks := by
  refine ⟨fun s t a bytes poison hfit h => ⟨fun i v hv => ?_, fun x hx => ?_, fun hclean x hx => ?_, ?_, ?_, ?_⟩, ?_, ?_⟩
  · exact State.writeBlock_bytes h hv
  · exact State.writeBlock_other h hfit hx
  · exact (State.writeBlock_beside h hx).trans (State.BlockClean.readied hclean ..)
  · rintro rfl
    exact State.writeBlock_poisoned h
  · rintro hfull rfl
    exact State.writeBlock_cures h hfull
  · exact s.writeBlock_in a bytes poison h
  · exact State.writeBlock_eq_none_iff
  · exact fun s a n hclean => State.readBeat_clean n hclean

end

/-! Dies of protected memory: training, marks, and the decoder's verdicts. -/

section
open Sys2Proof Sys2Proof.Machine

namespace Sys2Proof.Machine

variable {s : State}

/-! Marked dies (R286, R287). -/

theorem State.lostDie_none (h : s.on Reg.MEM_STATUS_LOST = false) : s.lostDie = none := if_neg (by rw [h]; exact Bool.false_ne_true)

/-- The fields of the mark of a die. -/
def lostFlds : List Fld := [Reg.MEM_STATUS_LOST, Reg.MEM_STATUS_LOST_DIE, Reg.MEM_STATUS_LOST_S]

theorem State.loseDie_fields (s : State) (d : Nat) : OnlyFlds lostFlds s (s.loseDie d) :=
  (((OnlyFlds.refl _ s).setFld (by simp [lostFlds]) _).setFld (by simp [lostFlds]) _).raise (by simp [lostFlds])

theorem State.loseDie_marks (s : State) {d : Nat} (hd : d < 10) :
    (s.loseDie d).lostDie = some d ∧ (s.loseDie d).on Reg.MEM_STATUS_LOST_S = true := by
  have hlost : (s.loseDie d).on Reg.MEM_STATUS_LOST = true := by
    unfold State.loseDie
    rw [State.on_raise_other _ (by decide), State.on_setFld_other _ _ (by decide), State.on_setFld_one _ rfl]
  have hdie : (s.loseDie d).fld Reg.MEM_STATUS_LOST_DIE = d := by
    unfold State.loseDie
    rw [State.fld_raise_other _ (by decide), State.fld_setFld_same]
    exact Nat.mod_eq_of_lt (by change d < 16; omega)
  refine ⟨?_, State.on_raise_same _ rfl⟩
  unfold State.lostDie
  rw [if_pos hlost, hdie]

theorem State.lost_noteWrite (s : State) (p : Port) (a : Nat) : (s.noteWrite p a).on Reg.MEM_STATUS_LOST = s.on Reg.MEM_STATUS_LOST :=
  s.noteWrite_on_block p a (by decide)

theorem exec_dieMark_takes {p : Port} (h : s.Takes p Reg.MEM_DIE_CTRL_DIE.addr) (d : Fin 16) :
    exec (.dieMark p d) s = .next ((s.noteWrite p Reg.MEM_DIE_CTRL_DIE.addr).markDie p d) := congrArg Host.Outcome.next (State.portCmd_takes h _ _)

theorem exec_dieUnmark_takes {p : Port} (h : s.Takes p Reg.MEM_DIE_CTRL_DIE.addr) :
    exec (.dieUnmark p) s = .next ((s.noteWrite p Reg.MEM_DIE_CTRL_DIE.addr).unmarkDie p) := congrArg Host.Outcome.next (State.portCmd_takes h _ _)

/-- A die is marked by hand where no other is (R287). -/
theorem State.markDie_marks {d : Nat} (hd : d < 10) (h : s.on Reg.MEM_STATUS_LOST = false) (p : Port) : let t := s.markDie p d
    t.lostDie = some d ∧ t.on Reg.MEM_STATUS_LOST_S = true ∧ OnlyFlds (Reg.MEM_DIE_CTRL_DIE :: lostFlds) s t := by
  have heq : s.markDie p d = (s.setFld Reg.MEM_DIE_CTRL_DIE d).loseDie d :=
    if_neg (not_or.2 ⟨by omega, by rw [h]; exact Bool.false_ne_true⟩)
  obtain ⟨hdie, hflag⟩ := (s.setFld Reg.MEM_DIE_CTRL_DIE d).loseDie_marks hd
  rw [heq]
  exact ⟨hdie, hflag, ((OnlyFlds.refl _ s).setFld (by simp) _).trans ((State.loseDie_fields _ d).mono fun _ => List.mem_cons_of_mem _)⟩

theorem State.markDie_refuses {d : Nat} (h : 10 ≤ d ∨ s.on Reg.MEM_STATUS_LOST = true) (p : Port) :
    s.markDie p d = s.refuse p Reg.MEM_DIE_CTRL_DIE.addr := if_pos h

/-- A marked die is unmarked (R287). -/
theorem State.unmarkDie_unmarks (h : s.on Reg.MEM_STATUS_LOST = true) (p : Port) : let t := s.unmarkDie p
    t.lostDie = none ∧ OnlyFlds [Reg.MEM_STATUS_LOST, Reg.MEM_STATUS_LOST_DIE, Reg.MEM_STATUS_LOST2] s t := by
  have heq : s.unmarkDie p =
      ((s.setFld Reg.MEM_STATUS_LOST 0).setFld Reg.MEM_STATUS_LOST_DIE 0).setFld Reg.MEM_STATUS_LOST2 0 := if_pos h
  rw [heq]
  refine ⟨State.lostDie_none ?_, (((OnlyFlds.refl _ s).setFld (by simp) _).setFld (by simp) _).setFld (by simp) _⟩
  exact State.off_setFld_zero _ (State.off_setFld_zero _ (s.on_setFld_zero _))

theorem State.unmarkDie_refuses (h : s.on Reg.MEM_STATUS_LOST = false) (p : Port) :
    s.unmarkDie p = s.refuse p Reg.MEM_DIE_CTRL_DIE.addr := if_neg (by rw [h]; exact Bool.false_ne_true)

/-! The training of the channel and the fill of DRAM (R286, R421). -/

/-- The channel is up from `now` on, and the links that train before it (R33). -/
def State.memUp (s : State) (now : Nat) : State :=
  ({ s with mem := { s.mem with winFrom := now } }.linksUp.setFld Reg.MEM_STATUS_INIT_DONE 1).setFld Reg.SYS_DIE_STATUS_MEM_UP 1

/-- The fields that show a channel that has trained. -/
def memUpFlds : List Fld := [Reg.MEM_STATUS_INIT_DONE, Reg.SYS_DIE_STATUS_MEM_UP, Reg.SYS_DIE_STATUS_CNV_UP, Reg.SYS_DIE_STATUS_DRV_UP]

theorem State.memUp_fields (s : State) (now : Nat) : OnlyFlds memUpFlds s (s.memUp now) :=
  ((((OnlyFlds.same (.refl memUpFlds s) rfl).setFld (by simp [memUpFlds]) _).setFld (by simp [memUpFlds]) _).setFld
    (by simp [memUpFlds]) _).setFld (by simp [memUpFlds]) _

theorem State.memUp_shows (s : State) (now : Nat) : let t := s.memUp now
    t.on Reg.MEM_STATUS_INIT_DONE = true ∧ t.on Reg.SYS_DIE_STATUS_CNV_UP = true ∧ t.fld Reg.SYS_DIE_STATUS_DRV_UP = 15 ∧
      t.on Reg.SYS_DIE_STATUS_MEM_UP = true := by
  unfold State.memUp State.linksUp
  refine ⟨?_, ?_, ?_, State.on_setFld_one _ rfl⟩
  · rw [State.on_setFld_other _ _ (by decide)]
    exact State.on_setFld_one _ rfl
  · rw [State.on_setFld_other _ _ (by decide), State.on_setFld_other _ _ (by decide), State.on_setFld_other _ _ (by decide)]
    exact State.on_setFld_one _ rfl
  · rw [State.fld_setFld_other _ _ (by decide), State.fld_setFld_other _ _ (by decide)]
    exact State.fld_setFld_same ..

/-- The channel trains in LINKS, once, and a POWER_ON reset fills DRAM (R286, R421). -/
theorem execMemInitDone_trains (hnew : s.on Reg.MEM_STATUS_INIT_DONE = false) (hphase : s.fld Reg.SYS_BOOT_STATUS_PHASE = 2)
    (lost : Option (Fin 10)) : exec (.memInitDone lost) s = .next
      (let u := (if s.fld Reg.SYS_RESET_CAUSE_KIND = 0 then s.fillDram else s).memUp s.now
       match lost with
       | none => u
       | some d => u.loseDie d) :=
  congrArg Host.Outcome.next (if_neg (not_or.2 ⟨by rw [hnew]; exact Bool.false_ne_true, not_not_intro hphase⟩))

/-- The fill leaves zeros without poison or errors (R286). -/
theorem State.fillDram_shows (s : State) : let t := s.fillDram
    (∀ a, t.dram a = 0) ∧ t.mem.plist = [] ∧ t.mem.flips = [] ∧ t.fld Reg.MEM_PL_CNT_USED = 0 ∧ OnlyFlds [Reg.MEM_PL_CNT_USED] s t :=
  ⟨fun _ => rfl, rfl, rfl, State.fld_setFld_same .., (OnlyFlds.same (.refl _ s) rfl).setFld (by simp) _⟩

/-! The windows in which corrections are counted (R287). -/

/-- The indexes of the ten dies at which a test holds for one alone. -/
theorem filter_dies_eq_single {p : Nat → Bool} (d : Fin 10) (h : ∀ e, e < 10 → (p e = true ↔ e = d.val)) :
    (List.range 10).filter p = [d.val] := by
  have hone : ∀ d : Fin 10, (List.range 10).filter (· == d.val) = [d.val] := by decide
  rw [← hone d]
  refine List.filter_congr fun e he => Bool.eq_iff_iff.2 ?_
  rw [h e (List.mem_range.1 he), beq_iff_eq]

/-- The counts of a window are taken anew. -/
def State.nextWindow (s : State) : State := { s with mem := { s.mem with dieWin := [], winFrom := s.mem.winFrom + dieWindow } }

theorem execDieCeWindow_waits (h : s.now < s.mem.winFrom + 400000000) : exec .dieCeWindow s = .next s :=
  congrArg Host.Outcome.next (if_neg (Nat.not_le.2 h))

theorem execDieCeWindow_quiet (h : s.mem.winFrom + 400000000 ≤ s.now)
    (hquiet : ∀ e, e < 10 → tabGet 0 s.mem.dieWin e < s.fld Reg.MEM_LOST_CFG_THR) : exec .dieCeWindow s = .next s.nextWindow := by
  have hworst : s.worstDies = [] := by
    refine List.filter_eq_nil_iff.2 fun e he => ?_
    rw [decide_eq_false (Nat.not_le.2 (hquiet e (List.mem_range.1 he)))]
    exact Bool.false_ne_true
  refine congrArg Host.Outcome.next ((if_pos h).trans ?_)
  rw [hworst]
  rfl

/-- The one die whose corrections have reached THR is marked at the end of its window (R287). -/
theorem execDieCeWindow_marks (h : s.mem.winFrom + 400000000 ≤ s.now) (hlost : s.on Reg.MEM_STATUS_LOST = false)
    (hauto : s.on Reg.MEM_CTRL_AUTO_LOST = true) {d : Fin 10}
    (hworst : ∀ e, e < 10 → (s.fld Reg.MEM_LOST_CFG_THR ≤ tabGet 0 s.mem.dieWin e ↔ e = d.val)) :
    exec .dieCeWindow s = .next (s.nextWindow.loseDie d) := by
  have hnone := State.lostDie_none hlost
  have hdies : s.worstDies = [d.val] := by
    refine filter_dies_eq_single d fun e he => ?_
    rw [hnone, ← hworst e he]
    simp
  refine congrArg Host.Outcome.next ((if_pos h).trans ?_)
  rw [hdies, hnone]
  exact if_pos hauto

/-! Verdicts (R284, R287). -/

theorem symbolOf_same {x : Nat} (hx : x < 256) (d : Nat) : symbolOf (x * 256 ^ d) d = x := by
  unfold symbolOf
  rw [Nat.mul_div_cancel _ (by positivity), Nat.mod_eq_of_lt hx]

theorem symbolOf_other {x d e : Nat} (hx : x < 256) (h : e ≠ d) : symbolOf (x * 256 ^ d) e = 0 := by
  unfold symbolOf
  rcases Nat.lt_or_gt_of_ne h with hlow | hhigh
  · obtain ⟨k, rfl⟩ : ∃ k, d = k + 1 + e := ⟨d - e - 1, by omega⟩
    rw [pow_add, ← mul_assoc, Nat.mul_div_cancel _ (by positivity), pow_succ, ← mul_assoc, Nat.mul_mod_left]
  · have hlt : x * 256 ^ d < 256 ^ e :=
      calc x * 256 ^ d < 256 * 256 ^ d := Nat.mul_lt_mul_of_pos_right hx (by positivity)
        _ = 256 ^ (d + 1) := by rw [pow_succ, mul_comm]
        _ ≤ 256 ^ e := Nat.pow_le_pow_right (by decide) hhigh
    rw [Nat.div_eq_of_lt hlt]

/-- A pattern in one symbol is the error of one die. -/
theorem wrongDies_single (d : Fin 10) {x : Nat} (hpos : 0 < x) (hx : x < 256) : wrongDies (x * 256 ^ d.val) = [d.val] := by
  refine filter_dies_eq_single d fun e _ => ?_
  rw [bne_iff_ne]
  by_cases h : e = d.val
  · rw [h, symbolOf_same hx]
    exact iff_of_true hpos.ne' rfl
  · rw [symbolOf_other hx h]
    exact iff_of_false (not_not_intro rfl) h

/-- An error in one symbol is corrected (R284). -/
theorem verdict_single (d : Fin 10) {x : Nat} (hpos : 0 < x) (hx : x < 256) : verdict none (x * 256 ^ d.val) = .corrected d 0 := by
  unfold verdict
  rw [wrongDies_single d hpos hx]

/-- The errors of a marked die count as none (R287). -/
theorem verdict_marked (d : Fin 10) {x : Nat} (hpos : 0 < x) (hx : x < 256) : verdict (some d.val) (x * 256 ^ d.val) = .clean 0 := by
  unfold verdict
  rw [wrongDies_single d hpos hx]
  simp

/-- The second of two symbols in error is one of the dies. -/
theorem mem_wrongDies_pair {d : Nat} {e : Fin 10} (h : e.val ≠ d) {x y : Nat} (hx : x < 256) (hpos : 0 < y) (hy : y < 256) :
    e.val ∈ wrongDies (x * 256 ^ d + y * 256 ^ e.val) := by
  have hfirst : x * 256 ^ d / 256 ^ e.val % 256 = 0 := symbolOf_other hx h
  have hsymbol : symbolOf (x * 256 ^ d + y * 256 ^ e.val) e = y := by
    unfold symbolOf
    rw [Nat.add_mul_div_right _ _ (by positivity), Nat.add_mod, hfirst, Nat.zero_add, Nat.mod_mod, Nat.mod_eq_of_lt hy]
  refine List.mem_filter.2 ⟨List.mem_range.2 e.isLt, ?_⟩
  rw [hsymbol, bne_iff_ne]
  exact hpos.ne'

/-- Beside a marked die, an error of another is uncorrectable (R287). -/
theorem verdict_beside {d e : Fin 10} (h : d ≠ e) {x y : Nat} (hx : x < 256) (hpos : 0 < y) (hy : y < 256) :
    verdict (some d.val) (x * 256 ^ d.val + y * 256 ^ e.val) = .bad := by
  have hne : e.val ≠ d.val := fun he => h (Fin.ext he.symm)
  refine if_neg fun hall => hne ?_
  exact beq_iff_eq.1 (List.all_eq_true.1 hall e.val (mem_wrongDies_pair hne hx hpos hy))

end Sys2Proof.Machine

end

/-! The patrol, errata moves and injected masks. -/

section
open Sys2Proof Sys2Proof.Machine

namespace Sys2Proof.Machine

variable {s t : State} {b k : Nat} {j : Fin 8} {d : Fin 10}

/-! A corrected beat (R284, R291). -/

theorem State.noteCe_fields (s : State) (d : Nat) : OnlyFlds [Reg.MEM_STATUS_CE_S, Reg.MEM_CE_CNT, dieCnt d] s (s.noteCe d) := by
  have hcounted : OnlyFlds [Reg.MEM_STATUS_CE_S, Reg.MEM_CE_CNT, dieCnt d] s
      (((s.raise Reg.MEM_STATUS_CE_S).count Reg.MEM_CE_CNT).count (dieCnt d)) :=
    (((OnlyFlds.refl _ s).raise (by simp)).count (by simp)).count (by simp)
  exact hcounted.same rfl

theorem dieCnt_keys : ∀ d : Fin 10, ∀ f ∈ [Reg.MEM_STATUS_CE_S, Reg.MEM_CE_CNT, Reg.MEM_SCRUB_POS_BLOCK], (dieCnt d).key ≠ f.key := by decide

/-- A correction is flagged and counted, for the memory and for its die (R284). -/
theorem State.noteCe_shows (s : State) (d : Fin 10) : let t := s.noteCe d
    t.on Reg.MEM_STATUS_CE_S = true ∧ t.fld Reg.MEM_CE_CNT = s.counted Reg.MEM_CE_CNT ∧ t.fld (dieCnt d) = s.counted (dieCnt d) := by
  have hkey {f : Fld} (hf : f ∈ [Reg.MEM_STATUS_CE_S, Reg.MEM_CE_CNT, Reg.MEM_SCRUB_POS_BLOCK]) : (dieCnt d).key ≠ f.key := dieCnt_keys d f hf
  have hwin (u : State) (f : Fld) : (u.countWin d).fld f = u.fld f := rfl
  unfold State.noteCe State.on
  simp only [hwin]
  refine ⟨?_, ?_, ?_⟩
  · rw [State.fld_count_other _ (hkey (by simp)).symm, State.fld_count_other _ (by decide)]
    exact State.on_raise_same s rfl
  · rw [State.fld_count_other _ (hkey (by simp)).symm, State.fld_count_same]
    exact State.counted_congr (State.fld_raise_other _ (by decide))
  · rw [State.fld_count_same]
    exact State.counted_congr ((State.fld_count_other _ (hkey (by simp))).trans (State.fld_raise_other _ (hkey (by simp))))

/-! A block of which one beat is in error (R284, R291). -/

/-- A beat stands as delivered, with fresh check symbols. -/
def State.remakeBeat (s : State) (b : Nat) : State :=
  let mem := (List.range 8).foldl (fun r x => r.put (8 * b + x) (s.dataByte (s.judge b).2.1 (8 * b + x))) (s.judge b).1.mem
  { (s.judge b).1 with mem := { mem with flips := tabSet 0 mem.flips b 0 } }

theorem State.remakeBeat_flips (s : State) (b : Nat) : (s.remakeBeat b).mem.flips = tabSet 0 s.mem.flips b 0 := by
  obtain ⟨_, hjudge⟩ := s.judge_mem b
  have hput : ((List.range 8).foldl (fun r x => r.put (8 * b + x) (s.dataByte (s.judge b).2.1 (8 * b + x))) (s.judge b).1.mem).flips =
      s.mem.flips := foldl_induct (P := fun r : MemRun => r.flips = s.mem.flips) (fun _ _ h => h) (by rw [hjudge])
  exact congrArg (fun f => tabSet 0 f b 0) hput

/-- Of the steps of a fold only one changes the value. -/
theorem foldl_once {σ β : Type} {f : σ → β → σ} {s : σ} {j : β} {l : List β} (hl : l.Nodup) (hj : j ∈ l)
    (hbefore : ∀ i ∈ l, i ≠ j → f s i = s) (hafter : ∀ i ∈ l, i ≠ j → f (f s j) i = f s j) : l.foldl f s = f s j := by
  induction l with
  | nil => exact absurd hj List.not_mem_nil
  | cons i l ih =>
    obtain ⟨hi, hrest⟩ := List.nodup_cons.1 hl
    rw [List.foldl_cons]
    by_cases h : i = j
    · subst h
      refine List.foldlRecOn (motive := fun y => y = f s i) _ _ rfl fun y hy k hk => ?_
      rw [hy]
      exact hafter k (List.mem_cons_of_mem _ hk) fun hki => hi (hki ▸ hk)
    · rw [hbefore i List.mem_cons_self h]
      exact ih hrest ((List.mem_cons.1 hj).resolve_left (Ne.symm h)) (fun k hk => hbefore k (List.mem_cons_of_mem _ hk))
        fun k hk => hafter k (List.mem_cons_of_mem _ hk)

/-- One beat alone of a block has an error pattern, `m`. -/
structure State.OneBad (s : State) (k : Nat) (j : Fin 8) (m : Nat) : Prop where
  bad : tabGet 0 s.mem.flips (8 * k + j.val) = m
  wrong : m ≠ 0
  others : ∀ i, i < 8 → i ≠ j.val → tabGet 0 s.mem.flips (8 * k + i) = 0

theorem State.OneBad.remakeBlock {m : Nat} (h : s.OneBad k j m) : (s.remakeBlock k).1 = s.remakeBeat (8 * k + j.val) := by
  have hbad : tabGet 0 s.mem.flips (8 * k + j.val) ≠ 0 := by rw [h.bad]; exact h.wrong
  unfold State.remakeBlock
  refine (congrArg Prod.fst (foldl_once (j := j.val) List.nodup_range (List.mem_range.2 j.isLt) (fun i hi hne => ?_) fun i hi hne => ?_)).trans ?_
  · exact if_pos (h.others i (List.mem_range.1 hi) hne)
  · dsimp only
    rw [if_neg hbad]
    refine if_pos ?_
    change tabGet 0 (s.remakeBeat (8 * k + j.val)).mem.flips (8 * k + i) = 0
    rw [State.remakeBeat_flips]
    exact tabGet_clear_zero _ (h.others i (List.mem_range.1 hi) hne)
  · dsimp only
    rw [if_neg hbad]
    rfl

/-- Whether a verdict is a correction. -/
def Verdict.isCorrected : Verdict → Bool
  | .corrected _ _ => true
  | _ => false

/-- Whether a scrub read of a block corrects a beat (R291). -/
def State.scrubHit (s : State) (k : Nat) : Bool := anyIdx 8 fun i => (verdict s.lostDie (tabGet 0 s.mem.flips (8 * k + i))).isCorrected

/-- A block that has been corrected counts for its pass (R293). -/
def State.scrubCounted (s : State) (k : Nat) : State := { s with mem := { s.mem with hits := k :: s.mem.hits } }

theorem State.scrubBlock_eq (s : State) (k : Nat) : s.scrubBlock k =
    let t := if s.scrubHit k && !s.blockBad k then (s.remakeBlock k).1 else (List.range 8).foldl (fun u i => (u.judge (8 * k + i)).1) s
    if s.scrubHit k then t.scrubCounted k else t := rfl

/-- The patrol reads a block without errors and leaves it (R291). -/
theorem State.BlockClean.scrubBlock (h : s.BlockClean k) : s.scrubBlock k = s := by
  have hhit : s.scrubHit k = false := by
    refine List.any_eq_false.2 fun i hi => ?_
    rw [h i (List.mem_range.1 hi), verdict_zero]
    exact Bool.false_ne_true
  have hread : (List.range 8).foldl (fun u i => (u.judge (8 * k + i)).1) s = s := by
    refine List.foldlRecOn (motive := fun u : State => u = s) _ _ rfl fun u hu i hi => ?_
    rw [hu, State.judge_clean (h i (List.mem_range.1 hi))]
  rw [State.scrubBlock_eq, hhit, hread]
  rfl

/-- A block of which one beat alone has a correctable error is written back (R291). -/
theorem State.OneBad.scrubBlock {m : Nat} (h : s.OneBad k j m) {l : Nat} (hv : verdict s.lostDie m = .corrected d l) :
    s.scrubBlock k = (s.remakeBeat (8 * k + j.val)).scrubCounted k := by
  have hhit : s.scrubHit k = true := List.any_eq_true.2 ⟨j.val, List.mem_range.2 j.isLt, by rw [h.bad, hv]; rfl⟩
  have hgood : s.blockBad k = false := by
    refine List.any_eq_false.2 fun i hi => ?_
    by_cases hij : i = j.val
    · rw [hij, h.bad, hv]
      exact Bool.false_ne_true
    · rw [h.others i (List.mem_range.1 hi) hij, verdict_zero]
      exact Bool.false_ne_true
  rw [State.scrubBlock_eq, hhit, hgood, h.remakeBlock]
  rfl

/-- The patrol writes a corrected block back, with fresh check symbols, and records the correction (R284, R291). -/
theorem State.OneBad.scrubBlock_shows {m : Nat} (h : s.OneBad k j m) (hv : verdict s.lostDie m = .corrected d 0) : let t := s.scrubBlock k
    t.regs = (s.noteCe d).regs ∧ tabGet 0 t.mem.flips (8 * k + j.val) = 0 := by
  have hjudge : (s.judge (8 * k + j.val)).1 = s.noteCe d := by
    unfold State.judge
    dsimp only
    rw [h.bad, hv]
  have hregs : (s.remakeBeat (8 * k + j.val)).regs = (s.judge (8 * k + j.val)).1.regs := rfl
  rw [h.scrubBlock hv]
  refine ⟨hregs.trans (by rw [hjudge]), ?_⟩
  change tabGet 0 (s.remakeBeat (8 * k + j.val)).mem.flips (8 * k + j.val) = 0
  rw [State.remakeBeat_flips, tabGet_set_same]

/-! The patrol (R291). -/

theorem execScrubRead_waits (h : s.on Reg.MEM_CTRL_SCRUB_EN = false ∨ s.memRuns = false ∨ s.scrubDue = false ∨ s.scrubSlot = false) :
    exec .scrubRead s = .next s := by
  refine congrArg Host.Outcome.next (if_neg ?_)
  simp only [Bool.and_eq_true]
  rcases h with h | h | h | h <;> simp [h]

/-- The patrol reads its block and moves on (R291). -/
theorem execScrubRead_reads (hen : s.on Reg.MEM_CTRL_SCRUB_EN = true) (hruns : s.memRuns = true) (hdue : s.scrubDue = true)
    (hslot : s.scrubSlot = true) (hnext : s.fld Reg.MEM_SCRUB_POS_BLOCK + 1 < 2 ^ 26)
    (htarget : s.scrubTarget (s.fld Reg.MEM_SCRUB_POS_BLOCK) = some b) (hstill : s.moving (64 * b) = false) :
    exec .scrubRead s = .next ((s.scrubBlock b).setFld Reg.MEM_SCRUB_POS_BLOCK (s.fld Reg.MEM_SCRUB_POS_BLOCK + 1)) := by
  refine congrArg Host.Outcome.next ((if_pos ?_).trans ?_)
  · rw [hen, hruns, hdue, hslot, htarget]
    simp [hstill]
  · dsimp only
    rw [if_neg hnext.ne, htarget, Nat.mod_eq_of_lt hnext]

theorem State.scrubPos_set (s : State) {v : Nat} (h : v < 2 ^ 26) : (s.setFld Reg.MEM_SCRUB_POS_BLOCK v).fld Reg.MEM_SCRUB_POS_BLOCK = v :=
  (s.fld_setFld_same _ _).trans (Nat.mod_eq_of_lt h)

/-- A corrected block as the patrol leaves it, and its position (R284, R291). -/
theorem State.OneBad.patrol_shows {m : Nat} (h : s.OneBad k j m) (hv : verdict s.lostDie m = .corrected d 0) (v : Nat) :
    let t := (s.scrubBlock k).setFld Reg.MEM_SCRUB_POS_BLOCK v
    t.on Reg.MEM_STATUS_CE_S = true ∧ t.fld Reg.MEM_CE_CNT = s.counted Reg.MEM_CE_CNT ∧ t.fld (dieCnt d) = s.counted (dieCnt d) ∧
      tabGet 0 t.mem.flips (8 * k + j.val) = 0 ∧
      OnlyFlds [Reg.MEM_SCRUB_POS_BLOCK, Reg.MEM_STATUS_CE_S, Reg.MEM_CE_CNT, dieCnt d] s t := by
  obtain ⟨hregs, hflips⟩ := h.scrubBlock_shows hv
  obtain ⟨hflag, hcnt, hdie⟩ := s.noteCe_shows d
  have hfld (f : Fld) : (s.scrubBlock k).fld f = (s.noteCe d).fld f := State.fld_congr hregs f
  refine ⟨?_, ?_, ?_, hflips, (((s.noteCe_fields d).same hregs).mono fun _ => List.mem_cons_of_mem _).setFld (by simp) v⟩
  · rw [State.on_setFld_other _ _ (by decide)]
    exact (congrArg (· == 1) (hfld _)).trans hflag
  · rw [State.fld_setFld_other _ _ (by decide), hfld, hcnt]
  · rw [State.fld_setFld_other _ _ (dieCnt_keys d _ (by simp)), hfld, hdie]

/-! Entries of the errata table (R292, R293). -/

/-- The fields that a write of ADD or REMOVE may set before it acts. -/
def errataAskFlds : List Fld := [Reg.MEM_ERRATA_CTRL_BLOCK, Reg.SYS_EVENT_PORTCOL_S]

theorem errata_keys (k : Nat) : ∀ g ∈ errataAskFlds,
    (Reg.MEM_ERRATA_VALID k).key ≠ g.key ∧ (Reg.MEM_ERRATA_BLOCK k).key ≠ g.key := by
  simp [errataAskFlds, Reg.MEM_ERRATA_VALID, Reg.MEM_ERRATA_BLOCK, Reg.MEM_ERRATA_CTRL_BLOCK, Reg.SYS_EVENT_PORTCOL_S, Fld.key]
  omega

/-- The errata table is read from its own fields. -/
theorem State.errataOf_congr (h : OnlyFlds errataAskFlds s t) (b : Nat) :
    t.errataOf b = s.errataOf b := by
  unfold State.errataOf State.on
  simp only [h _ fun g hg => (errata_keys _ g hg).1, h _ fun g hg => (errata_keys _ g hg).2]

theorem State.errataFree_congr (h : OnlyFlds errataAskFlds s t) (hmem : t.mem = s.mem) :
    t.errataFree = s.errataFree := by
  unfold State.errataFree State.on
  simp only [h _ fun g hg => (errata_keys _ g hg).1, hmem]

theorem State.moving_congr (h : t.mem = s.mem) (a : Nat) : t.moving a = s.moving a := by
  unfold State.moving
  rw [h]

theorem State.noteWrite_mem (s : State) (p : Port) (a : Nat) : (s.noteWrite p a).mem = s.mem := (s.noteWrite_in p a).frame .mem (by decide)

/-- A move is asked for. -/
def State.moved (s : State) (m : Move) : State := { s with mem := { s.mem with moves := s.mem.moves ++ [m] } }

/-- ADD begins the move of a block that has no entry, where one is free (R293). -/
theorem State.errataAdd_begins (h : s.errataOf b = none) (hstill : s.moving (b * 8192) = false) (hlow : b < spareBlock)
    (hfree : s.errataFree = some k) (auto : Bool) :
    s.errataAdd b auto = (s.moved { k := k, block := b, auto := auto, at0 := s.now }, true) := by
  unfold State.errataAdd
  rw [h, hstill, decide_eq_false (Nat.not_le.2 hlow), hfree]
  rfl

theorem State.errataAdd_refuses (h : (s.errataOf b).isSome = true ∨ spareBlock ≤ b ∨ s.errataFree = none) (auto : Bool) :
    ∃ u : State, s.errataAdd b auto = (u, false) ∧ u.mem = s.mem := by
  unfold State.errataAdd
  split
  · exact ⟨s, rfl, rfl⟩
  · next hmay =>
    simp only [Bool.or_eq_true, decide_eq_true_eq, not_or] at hmay
    obtain ⟨⟨hnew, -⟩, hlow⟩ := hmay
    have hfull : s.errataFree = none := (h.resolve_left hnew).resolve_left hlow
    rw [hfull]
    exact ⟨_, rfl, rfl⟩

/-- A write of ADD or REMOVE is noted and names its block (R293). -/
def State.errataAsked (s : State) (p : Port) (b : Nat) : State :=
  (s.noteWrite p Reg.MEM_ERRATA_CTRL_BLOCK.addr).setFld Reg.MEM_ERRATA_CTRL_BLOCK b

theorem State.errataAsked_fields (s : State) (p : Port) (b : Nat) : OnlyFlds errataAskFlds s (s.errataAsked p b) :=
  ((s.noteWrite_fields p _).mono (by simp [errataAskFlds])).setFld (by simp [errataAskFlds]) _

theorem State.errataAsked_mem (s : State) (p : Port) (b : Nat) : (s.errataAsked p b).mem = s.mem := s.noteWrite_mem p _

theorem State.errataWrite_begins (h : s.errataOf b = none) (hstill : s.moving (b * 8192) = false) (hlow : b < spareBlock)
    (hfree : s.errataFree = some k) (p : Port) : (s.noteWrite p Reg.MEM_ERRATA_CTRL_BLOCK.addr).errataWrite p b =
      (s.errataAsked p b).moved { k := k, block := b, auto := false, at0 := s.now } := by
  have hfields := s.errataAsked_fields p b
  have hmem := s.errataAsked_mem p b
  have hnow : (s.errataAsked p b).now = s.now := s.noteWrite_now p _
  have hadd := State.errataAdd_begins ((State.errataOf_congr hfields b).trans h) ((State.moving_congr hmem _).trans hstill) hlow
    ((State.errataFree_congr hfields hmem).trans hfree) false
  rw [hnow] at hadd
  exact congrArg (fun r : State × Bool => if r.2 then r.1 else r.1.refuse p Reg.MEM_ERRATA_CTRL_BLOCK.addr) hadd

theorem State.errataWrite_refuses (h : (s.errataOf b).isSome = true ∨ spareBlock ≤ b ∨ s.errataFree = none) (p : Port) :
    let t := (s.noteWrite p Reg.MEM_ERRATA_CTRL_BLOCK.addr).errataWrite p b
    t.on Reg.SYS_EVENT_WRREJ_S = true ∧ t.mem = s.mem := by
  have hfields := s.errataAsked_fields p b
  have hmem := s.errataAsked_mem p b
  rw [← State.errataOf_congr hfields, ← State.errataFree_congr hfields hmem] at h
  obtain ⟨u, hadd, hu⟩ := State.errataAdd_refuses h false
  have heq : (s.noteWrite p Reg.MEM_ERRATA_CTRL_BLOCK.addr).errataWrite p b = u.refuse p Reg.MEM_ERRATA_CTRL_BLOCK.addr :=
    congrArg (fun r : State × Bool => if r.2 then r.1 else r.1.refuse p Reg.MEM_ERRATA_CTRL_BLOCK.addr) hadd
  rw [heq]
  exact ⟨(u.refuse_records p _).1, hu.trans hmem⟩

theorem exec_errataAdd_takes {p : Port} (h : s.Takes p Reg.MEM_ERRATA_CTRL_BLOCK.addr) (b : Fin 0x80000) :
    exec (.errataAdd p b) s = .next ((s.noteWrite p Reg.MEM_ERRATA_CTRL_BLOCK.addr).errataWrite p b) :=
  congrArg Host.Outcome.next (State.portCmd_takes h _ _)

theorem exec_errataRemove_takes {p : Port} (h : s.Takes p Reg.MEM_ERRATA_CTRL_BLOCK.addr) (b : Fin 0x80000) :
    exec (.errataRemove p b) s = .next ((s.noteWrite p Reg.MEM_ERRATA_CTRL_BLOCK.addr).errataRemove b) :=
  congrArg Host.Outcome.next (State.portCmd_takes h _ _)

/-- REMOVE begins the move back of a block that has an entry (R293). -/
theorem State.errataRemove_begins (h : s.errataOf b = some k) (hstill : s.moving (b * 8192) = false) :
    s.errataRemove b = (s.setFld Reg.MEM_ERRATA_CTRL_BLOCK b).moved { k := k, block := b, back := true, at0 := s.now } := by
  unfold State.errataRemove
  rw [h, hstill]
  rfl

/-! The end of a move (R293, R311). -/

/-- A move leaves the queue of moves and writes its entry (R293). -/
def State.entered (s : State) (m : Move) : State :=
  if m.back then
    ((s.setFld (Reg.MEM_ERRATA_VALID m.k) 0).setFld (Reg.MEM_ERRATA_AUTO m.k) 0).setFld (Reg.MEM_ERRATA_BLOCK m.k) 0
  else
    (((s.setFld (Reg.MEM_ERRATA_BLOCK m.k) m.block).setFld (Reg.MEM_ERRATA_AUTO m.k) (asNat m.auto)).setFld
      (Reg.MEM_ERRATA_VALID m.k) 1).raise Reg.MEM_STATUS_ERRADD_S

theorem execErrataMoveDone_waits {m : Move} {ms : List Move} (h : s.mem.moves = m :: ms) (hburst : s.burstIn m = true) :
    exec .errataMoveDone s = .next s := by
  change Host.Outcome.next _ = _
  rw [h]
  exact congrArg Host.Outcome.next (if_pos (by rw [hburst, Bool.or_true]))

theorem execErrataMoveDone_ends {m : Move} {ms : List Move} (h : s.mem.moves = m :: ms) (hruns : s.memRuns = true)
    (hburst : s.burstIn m = false) (hclean : s.flippedBlocks m.block = []) :
    exec .errataMoveDone s = .next (State.entered { s with mem := { s.mem with moves := ms } } m) := by
  change Host.Outcome.next _ = _
  rw [h]
  refine congrArg Host.Outcome.next ((if_neg (by rw [hruns, hburst]; exact Bool.false_ne_true)).trans ?_)
  rw [hclean]
  rfl

/-- The fields of an entry and the flag of a new one. -/
def entryFlds (k : Nat) : List Fld := [Reg.MEM_ERRATA_VALID k, Reg.MEM_ERRATA_BLOCK k, Reg.MEM_ERRATA_AUTO k, Reg.MEM_STATUS_ERRADD_S]

theorem entry_keys : ∀ k : Fin 16,
    (∀ g ∈ [Reg.MEM_ERRATA_BLOCK k, Reg.MEM_ERRATA_AUTO k, Reg.MEM_STATUS_ERRADD_S], (Reg.MEM_ERRATA_VALID k).key ≠ g.key) ∧
    (∀ g ∈ [Reg.MEM_ERRATA_VALID k, Reg.MEM_ERRATA_AUTO k, Reg.MEM_STATUS_ERRADD_S], (Reg.MEM_ERRATA_BLOCK k).key ≠ g.key) ∧
    ∀ g ∈ [Reg.MEM_ERRATA_VALID k, Reg.MEM_STATUS_ERRADD_S], (Reg.MEM_ERRATA_AUTO k).key ≠ g.key := by decide

theorem State.entered_fields (s : State) (m : Move) : OnlyFlds (entryFlds m.k) s (s.entered m) := by
  unfold State.entered
  split
  · exact (((OnlyFlds.refl _ s).setFld (by simp [entryFlds]) _).setFld (by simp [entryFlds]) _).setFld (by simp [entryFlds]) _
  · exact ((((OnlyFlds.refl _ s).setFld (by simp [entryFlds]) _).setFld (by simp [entryFlds]) _).setFld (by simp [entryFlds]) _).raise
      (by simp [entryFlds])

/-- A move that ends gives its entry, or takes it back (R293). -/
theorem State.entered_shows (s : State) {m : Move} (hk : m.k < 16) (hb : m.block < 0x80000) : let t := s.entered m
    t.mem = s.mem ∧ t.on (Reg.MEM_ERRATA_VALID m.k) = !m.back ∧
      (m.back = false → t.fld (Reg.MEM_ERRATA_BLOCK m.k) = m.block ∧ t.on (Reg.MEM_ERRATA_AUTO m.k) = m.auto ∧
        t.on Reg.MEM_STATUS_ERRADD_S = true) := by
  obtain ⟨hvalid, hblock, hauto⟩ := entry_keys ⟨m.k, hk⟩
  unfold State.entered
  cases hback : m.back with
  | true =>
    refine ⟨rfl, ?_, fun h => absurd h (by decide)⟩
    exact State.off_setFld_zero _ (State.off_setFld_zero _ (s.on_setFld_zero _))
  | false =>
    refine ⟨rfl, ?_, fun _ => ⟨?_, ?_, State.on_raise_same _ rfl⟩⟩
    · exact (State.on_raise_other _ (hvalid _ (by simp))).trans (State.on_setFld_one _ rfl)
    · refine (State.fld_raise_other _ (hblock _ (by simp))).trans ?_
      rw [State.fld_setFld_other _ _ (hblock _ (by simp)), State.fld_setFld_other _ _ (hblock _ (by simp)), State.fld_setFld_same]
      exact Nat.mod_eq_of_lt hb
    · refine (State.on_raise_other _ (hauto _ (by simp))).trans ?_
      rw [State.on_setFld_other _ _ (hauto _ (by simp)), State.on, State.fld_setFld_same]
      cases m.auto <;> rfl

/-! Injected masks (R294). -/

/-- A mask waits to be injected in a beat. -/
def State.injecting (s : State) (b m : Nat) : State := { s with mem := { s.mem with inj := some (b, m) } }

/-- The mask that the registers give (R294). -/
def State.injMask (s : State) : Nat := s.fld Reg.MEM_FLIP0 + s.fld Reg.MEM_FLIP1 * 2 ^ 32 + s.fld Reg.MEM_FLIP2_MASK * 2 ^ 64

theorem State.injMask_noteWrite (s : State) (p : Port) (a : Nat) : (s.noteWrite p a).injMask = s.injMask := by
  unfold State.injMask
  rw [State.noteWrite_fld_block _ _ _ (by decide), State.noteWrite_fld_block _ _ _ (by decide), State.noteWrite_fld_block _ _ _ (by decide)]

theorem State.checkerGo_injects (hlow : 0x01000000 ≤ s.fld Reg.MEM_INJ_ADDR) (hhigh : s.fld Reg.MEM_INJ_ADDR < 0xFFFE0000) (p : Port) :
    s.checkerGo p = s.injecting (s.fld Reg.MEM_INJ_ADDR / 8) s.injMask :=
  if_neg (not_or.2 ⟨Nat.not_lt.2 hlow, Nat.not_le.2 hhigh⟩)

theorem State.checkerGo_refuses (h : s.fld Reg.MEM_INJ_ADDR < 0x01000000 ∨ 0xFFFE0000 ≤ s.fld Reg.MEM_INJ_ADDR) (p : Port) :
    s.checkerGo p = s.refuse p Reg.MEM_INJ_CTRL_GO.addr := if_pos h

/-- GO acts where EXPERT_EN was 1 as the cycle began (R434). -/
theorem exec_checkerInject_takes {p : Port} (h : s.Takes p Reg.MEM_INJ_CTRL_GO.addr) : exec (.checkerInject p) s =
    .next (if s.expertStart = true then (s.noteWrite p Reg.MEM_INJ_CTRL_GO.addr).checkerGo p
      else (s.noteWrite p Reg.MEM_INJ_CTRL_GO.addr).refuse p Reg.MEM_INJ_CTRL_GO.addr) := by
  refine congrArg Host.Outcome.next ((State.portCmd_takes h _ _).trans ?_)
  rw [State.noteWrite_expertStart]

theorem execCheckerInjectDone_waits {m : Nat} (h : s.mem.inj = some (b, m)) (hmoving : s.moving (8 * b) = true) :
    exec .checkerInjectDone s = .next s := by
  change Host.Outcome.next _ = _
  rw [h]
  exact congrArg Host.Outcome.next (if_pos (by rw [hmoving, Bool.or_true]))

/-- The mask stands in its beat, and no other has changed. -/
def State.injected (s : State) (b m : Nat) : State :=
  { s with mem := { s.mem with inj := none, flips := tabSet 0 s.mem.flips b m } }.raise Reg.MEM_STATUS_INJ_S

theorem execCheckerInjectDone_injects {m : Nat} (h : s.mem.inj = some (b, m)) (hruns : s.memRuns = true)
    (hstill : s.moving (8 * b) = false) (hclean : s.BlockClean (b / 8)) : exec .checkerInjectDone s = .next (s.injected b m) := by
  change Host.Outcome.next _ = _
  rw [h]
  refine congrArg Host.Outcome.next ((if_neg (by rw [hruns, hstill]; exact Bool.false_ne_true)).trans ?_)
  rw [hclean.remakeBlock]
  rfl

end Sys2Proof.Machine

/-- Settles O49: each command by what it leaves of the state that notes its write; the patrol by the one beat of a block that is in error, a move and
a mask by what stands in the way of them. -/
theorem memoryIsKeptAndRepaired : Obligations.MemoryIsKeptAndRepaired := by
  refine ⟨fun s hnew hphase => ⟨fun hkind => ?_, fun hkind => ?_, fun d => ?_⟩,
    fun s p d ht => ?_,
    fun s d hend hlost => ⟨fun hauto hworst => ?_, fun hquiet => ?_⟩, fun s hopen => execDieCeWindow_waits hopen,
    fun d e x y hx hx' hy hy' => ?_,
    fun s => ⟨execScrubRead_waits, fun b hen hruns hdue hslot hnext htarget hstill => ⟨fun hclean => ?_, fun j d x hpos hx hlost hbad hothers => ?_⟩⟩,
    fun s p b ht hstill => ⟨fun hnone hlow k hfree => ?_, fun hno => ?_, fun k hk => ?_⟩,
    fun s m ms hmoves hburst => execErrataMoveDone_waits hmoves hburst, fun s m ms hmoves hruns hburst hk hb hclean => ?_,
    fun s p ht => ⟨fun hexp hlow hhigh => ?_, fun hno => ?_⟩, fun s b m hinj hmoving => execCheckerInjectDone_waits hinj hmoving,
    fun s b m hinj hruns hstill hclean => ?_⟩
  · have hexec := execMemInitDone_trains hnew hphase none
    rw [if_pos hkind] at hexec
    obtain ⟨hzero, hplist, hflips, hused, hfill⟩ := s.fillDram_shows
    obtain ⟨hdone, hcnv, hdrv, hmem⟩ := s.fillDram.memUp_shows s.now
    have hup := s.fillDram.memUp_fields s.now
    exact ⟨_, hexec, hdone, hzero, hplist, hflips, (hup _ (by decide)).trans hused, hcnv, hdrv, hmem,
      (hfill.mono (by simp)).trans (hup.mono (by simp [memUpFlds]))⟩
  · have hexec := execMemInitDone_trains hnew hphase none
    rw [if_neg hkind] at hexec
    obtain ⟨hdone, -⟩ := s.memUp_shows s.now
    exact ⟨_, hexec, hdone, rfl, (s.memUp_fields s.now).mono (by simp [memUpFlds])⟩
  · generalize hu : (if s.fld Reg.SYS_RESET_CAUSE_KIND = 0 then s.fillDram else s).memUp s.now = u
    have hexec := execMemInitDone_trains hnew hphase (some d)
    rw [hu] at hexec
    obtain ⟨hdone, -⟩ := (if s.fld Reg.SYS_RESET_CAUSE_KIND = 0 then s.fillDram else s).memUp_shows s.now
    rw [hu] at hdone
    obtain ⟨hdie, hflag⟩ := u.loseDie_marks d.isLt
    exact ⟨_, hexec, ((u.loseDie_fields d).on (by decide)).trans hdone, hdie, hflag⟩
  · have hkept := s.lost_noteWrite p Reg.MEM_DIE_CTRL_DIE.addr
    refine ⟨fun hd hlost => ?_, fun hno => ?_, fun hlost => ?_, fun hlost => ?_⟩
    · obtain ⟨hdie, hflag, honly⟩ := State.markDie_marks hd (hkept.trans hlost) p
      exact ⟨_, exec_dieMark_takes ht d, hdie, hflag, honly.noted⟩
    · have hrefuses := State.markDie_refuses (hno.imp_right hkept.trans) p
      exact ⟨_, (exec_dieMark_takes ht d).trans (congrArg Host.Outcome.next hrefuses), .of_refuse ..⟩
    · obtain ⟨hnone, honly⟩ := State.unmarkDie_unmarks (hkept.trans hlost) p
      exact ⟨_, exec_dieUnmark_takes ht, hnone, honly.noted⟩
    · have hrefuses := State.unmarkDie_refuses (hkept.trans hlost) p
      exact ⟨_, (exec_dieUnmark_takes ht).trans (congrArg Host.Outcome.next hrefuses), .of_refuse ..⟩
  · exact ⟨_, execDieCeWindow_marks hend hlost hauto hworst, (s.nextWindow.loseDie_marks d.isLt).1, rfl, rfl,
      (s.nextWindow.loseDie_fields d).on (by decide)⟩
  · exact ⟨_, execDieCeWindow_quiet hend hquiet, rfl, rfl⟩
  · exact ⟨verdict_single d hx hx', verdict_zero none, verdict_marked d hx hx', fun hne => verdict_beside hne hx' hy hy'⟩
  · have hread := execScrubRead_reads hen hruns hdue hslot hnext htarget hstill
    rw [State.BlockClean.scrubBlock hclean] at hread
    exact ⟨_, hread, s.scrubPos_set hnext, rfl, (OnlyFlds.refl _ s).setFld (by simp) _⟩
  · have hone : s.OneBad b j (x * 256 ^ d.val) := ⟨hbad, by positivity, hothers⟩
    have hv : verdict s.lostDie (x * 256 ^ d.val) = .corrected d 0 := by
      rw [State.lostDie_none hlost]
      exact verdict_single d hpos hx
    exact ⟨_, execScrubRead_reads hen hruns hdue hslot hnext htarget hstill, hone.patrol_shows hv _⟩
  · exact ⟨_, (exec_errataAdd_takes ht b).trans (congrArg Host.Outcome.next (State.errataWrite_begins hnone hstill hlow hfree p)),
      congrArg (fun m : MemRun => m.moves ++ _) (s.errataAsked_mem p b), (s.errataAsked_fields p b).same rfl⟩
  · obtain ⟨hflag, hmem⟩ := State.errataWrite_refuses hno p
    exact ⟨_, exec_errataAdd_takes ht b, hflag, hmem⟩
  · have hnote := (s.noteWrite_fields p Reg.MEM_ERRATA_CTRL_BLOCK.addr).mono (l' := errataAskFlds) (by simp [errataAskFlds])
    have hmem := s.noteWrite_mem p Reg.MEM_ERRATA_CTRL_BLOCK.addr
    have hbegins := State.errataRemove_begins ((State.errataOf_congr hnote b).trans hk) ((State.moving_congr hmem _).trans hstill)
    rw [State.noteWrite_now] at hbegins
    exact ⟨_, (exec_errataRemove_takes ht b).trans (congrArg Host.Outcome.next hbegins),
      congrArg (fun m : MemRun => m.moves ++ _) (s.errataAsked_mem p b), (s.errataAsked_fields p b).same rfl⟩
  · obtain ⟨hmem, hvalid, hentry⟩ := State.entered_shows { s with mem := { s.mem with moves := ms } } hk hb
    exact ⟨_, execErrataMoveDone_ends hmoves hruns hburst hclean, hmem, hvalid, hentry,
      (OnlyFlds.same (.refl (entryFlds m.k) s) rfl).trans (State.entered_fields _ m)⟩
  · have haddr : (s.noteWrite p Reg.MEM_INJ_CTRL_GO.addr).fld Reg.MEM_INJ_ADDR = s.fld Reg.MEM_INJ_ADDR := s.noteWrite_fld_block p _ (by decide)
    have hdram := congrArg MemRun.dram (s.noteWrite_mem p Reg.MEM_INJ_CTRL_GO.addr)
    have hgo := State.checkerGo_injects (s := s.noteWrite p Reg.MEM_INJ_CTRL_GO.addr) (by rwa [haddr]) (by rwa [haddr]) p
    rw [haddr, State.injMask_noteWrite] at hgo
    have hexec := exec_checkerInject_takes ht
    rw [if_pos hexp, hgo] at hexec
    exact ⟨_, hexec, rfl, hdram, (s.noteWrite_fields p _).same rfl⟩
  · have haddr : (s.noteWrite p Reg.MEM_INJ_CTRL_GO.addr).fld Reg.MEM_INJ_ADDR = s.fld Reg.MEM_INJ_ADDR := s.noteWrite_fld_block p _ (by decide)
    have hrefuses : (if s.expertStart = true then (s.noteWrite p Reg.MEM_INJ_CTRL_GO.addr).checkerGo p
        else (s.noteWrite p Reg.MEM_INJ_CTRL_GO.addr).refuse p Reg.MEM_INJ_CTRL_GO.addr) =
        (s.noteWrite p Reg.MEM_INJ_CTRL_GO.addr).refuse p Reg.MEM_INJ_CTRL_GO.addr := by
      split
      · next hexp =>
        exact State.checkerGo_refuses (by rw [haddr]; exact hno.resolve_left (by rw [hexp]; decide)) p
      · rfl
    exact ⟨_, (exec_checkerInject_takes ht).trans (congrArg Host.Outcome.next hrefuses), .of_refuse ..⟩
  · exact ⟨_, execCheckerInjectDone_injects hinj hruns hstill hclean, tabGet_set_same .., rfl, State.on_raise_same _ rfl, rfl,
      (OnlyFlds.same (.refl _ s) rfl).raise (by simp)⟩

end

/-! DMA channels: START and RESUME, descriptors, stream records, and faults. -/

section
open Sys2Proof Sys2Proof.Machine

namespace Sys2Proof.Machine

variable {s t : State} {c : Fin 32}

/-! START and RESUME on the state that notes the write (R296, R307). -/

/-- The fields of a channel that START and RESUME go by. -/
def chReadFlds (c : Nat) : List Fld :=
  [Reg.DMA_CH_CFG_KIND c, Reg.DMA_CH_DESC c, Reg.DMA_CH_FAULT_STAMP_LO c, Reg.DMA_CH_FAULT_STAMP_HI c]

theorem chRead_blocks : ∀ c : Fin 32, ∀ f ∈ chReadFlds c, f.blk ≠ 0 := by decide

theorem State.noteWrite_chRead (s : State) (p : Port) (a : Nat) (c : Fin 32) {f : Fld} (h : f ∈ chReadFlds c) :
    (s.noteWrite p a).fld f = s.fld f := s.noteWrite_fld_block p a (chRead_blocks c f h)

theorem State.noteWrite_dch (s : State) (p : Port) (a k : Nat) : (s.noteWrite p a).dch k = s.dch k := State.dch_congr (s.noteWrite_mem p a) k

theorem State.chKind_noteWrite (s : State) (p : Port) (a : Nat) (c : Fin 32) : (s.noteWrite p a).chKind c = s.chKind c :=
  s.noteWrite_chRead p a c (by simp [chReadFlds])

theorem State.faultAt_noteWrite (s : State) (p : Port) (a : Nat) (c : Fin 32) : (s.noteWrite p a).faultAt c = s.faultAt c := by
  unfold State.faultAt
  rw [s.noteWrite_chRead p a c (by simp [chReadFlds]), s.noteWrite_chRead p a c (by simp [chReadFlds])]

/-- Whether a COPY channel has work is told by its record alone (R296, R298). -/
theorem State.chState_copy {c : Nat} (h : s.chKind c = kCOPY) (hkind : t.chKind c = s.chKind c) (hch : t.dch c = s.dch c) :
    t.chState c = s.chState c := by
  have hask : t.ask c = s.ask c := by
    unfold State.ask
    rw [hkind, hch, h]
    rfl
  unfold State.chState
  rw [hkind, hch, hask, h]
  rfl

/-- A channel's START finds an idle COPY channel (R296). -/
def State.MayCopy (s : State) (c : Nat) : Prop := s.chKind c = kCOPY ∧ s.chState c = 0

theorem State.mayCopy_noteWrite (s : State) (p : Port) (a : Nat) (c : Fin 32) : (s.noteWrite p a).MayCopy c ↔ s.MayCopy c := by
  have hkind := s.chKind_noteWrite p a c
  unfold State.MayCopy
  rw [hkind]
  exact and_congr_right fun h => by rw [State.chState_copy h hkind (s.noteWrite_dch p a c)]

theorem State.copyStart_begins {c : Nat} (h : s.MayCopy c) (p : Port) :
    s.copyStart p c = s.setDch c { s.dch c with copy := some { desc := s.fld (Reg.DMA_CH_DESC c) } } := if_pos h

theorem State.copyStart_refuses {c : Nat} (h : ¬ s.MayCopy c) (p : Port) : s.copyStart p c = s.refuse p (addrCtrl c) := if_neg h

theorem exec_copyStart_takes {p : Port} (h : s.Takes p (addrCtrl c)) :
    exec (.copyStart p c) s = .next ((s.noteWrite p (addrCtrl c)).copyStart p c) := congrArg Host.Outcome.next (State.portCmd_takes h _ _)

theorem exec_dmaResume_takes {p : Port} (h : s.Takes p (addrCtrl c)) :
    exec (.dmaResume p c) s = .next ((s.noteWrite p (addrCtrl c)).dmaResume p c) := congrArg Host.Outcome.next (State.portCmd_takes h _ _)

theorem State.dmaResume_resumes {c : Nat} (h : (s.dch c).halted = true) (hat : s.faultAt c ≠ s.now) (p : Port) :
    s.dmaResume p c = s.resume c := (if_pos h).trans (if_neg hat)

/-- A fault of the same C-cycle wins (R311). -/
theorem State.dmaResume_loses {c : Nat} (h : (s.dch c).halted = true) (hat : s.faultAt c = s.now) (p : Port) :
    s.dmaResume p c = s := (if_pos h).trans (if_pos hat)

theorem State.dmaResume_refuses {c : Nat} (h : (s.dch c).halted = false) (p : Port) : s.dmaResume p c = s.refuse p (addrCtrl c) :=
  if_neg (by rw [h]; exact Bool.false_ne_true)

theorem State.resume_dch (s : State) (c : Nat) : (s.resume c).dch c = { s.dch c with halted := false, stalled := false } :=
  State.dch_setDch_same ..

/-! Descriptors (R298). -/

/-- A finished descriptor is counted, and the next is read, or none (R298). -/
def State.described (s : State) (c : Nat) (k : CopyRun) : State :=
  (s.setDch c { s.dch c with copy := if k.last then none else some { desc := k.next } }).count (Reg.DMA_CH_CNT_DONE_CNT c)

theorem execCopyDescriptorDone_counts {k : CopyRun} (h : (s.dch c).copy = some k) (hphase : k.phase = 3) (hruns : (s.dch c).halted = false) :
    exec (.copyDescriptorDone c) s = .next (s.described c k) := by
  change Host.Outcome.next _ = _
  rw [h]
  exact congrArg Host.Outcome.next (if_pos ⟨hphase, hruns⟩)

theorem State.described_shows (s : State) (c : Nat) (k : CopyRun) : let t := s.described c k
    t.fld (Reg.DMA_CH_CNT_DONE_CNT c) = s.counted (Reg.DMA_CH_CNT_DONE_CNT c) ∧
      (t.dch c).copy = (if k.last then none else some { desc := k.next }) ∧ OnlyFlds [Reg.DMA_CH_CNT_DONE_CNT c] s t :=
  ⟨State.fld_count_same .., congrArg DmaCh.copy (State.dch_setDch_same s c _), (OnlyFlds.same (.refl _ s) rfl).count (by simp)⟩

/-! Stream records (R297). -/

/-- Where WPTR comes to stand after the records of a completed write. -/
def State.wptrNext (s : State) (c : Nat) : Nat := (s.fld (Reg.DMA_CH_WPTR c) + 16 * (s.dch c).wrote) % s.fld (Reg.DMA_CH_SIZE c)

/-- Where the reader of a channel stands. -/
def State.rptrAt (s : State) (c : Nat) : Nat := s.fld (Reg.DMA_CH_RPTR c) / 16 * 16

/-- Whether the records of a completed write pass the reader of an overwriting channel (R297). -/
def State.laps (s : State) (c : Nat) : Bool :=
  s.on (Reg.DMA_CH_CTRL_MODE c) &&
    lapped (s.dch c).full (s.fld (Reg.DMA_CH_WPTR c)) (16 * (s.dch c).wrote) (s.rptrAt c) (s.fld (Reg.DMA_CH_SIZE c))

/-- The records of a completed write become readable. -/
def State.wptrMoved (s : State) (c : Nat) : State :=
  (s.setDch c { s.dch c with wrote := 0, full := s.wptrNext c == s.rptrAt c && !s.laps c }).setFld (Reg.DMA_CH_WPTR c) (s.wptrNext c)

/-- The reader that was lapped goes on behind the records written last (R297). -/
def State.rptrLapped (s : State) (c r : Nat) : State :=
  ((s.setFld (Reg.DMA_CH_RPTR c) r).raise (Reg.DMA_CH_STATUS_LAP_S c)).count (Reg.DMA_CH_CNT2_LAP_CNT c)

theorem State.streamWritten_none {c : Nat} (h : (s.dch c).wrote = 0) : s.streamWritten c = s := if_pos (by rw [h])

theorem State.streamWritten_eq {c : Nat} (hn : 0 < 16 * (s.dch c).wrote) (hsize : 0 < s.fld (Reg.DMA_CH_SIZE c)) :
    s.streamWritten c = if s.laps c = true then
      (s.wptrMoved c).rptrLapped c ((s.fld (Reg.DMA_CH_WPTR c) + 16 * (s.dch c).wrote + 16) % s.fld (Reg.DMA_CH_SIZE c))
    else s.wptrMoved c := by
  have hnext : (if s.fld (Reg.DMA_CH_SIZE c) = 0 then s.fld (Reg.DMA_CH_WPTR c) + 16 * (s.dch c).wrote
      else (s.fld (Reg.DMA_CH_WPTR c) + 16 * (s.dch c).wrote) % s.fld (Reg.DMA_CH_SIZE c)) = s.wptrNext c := if_neg hsize.ne'
  unfold State.streamWritten
  dsimp only
  rw [if_neg hn.ne', hnext]
  rfl

theorem State.wptrMoved_shows {c : Nat} (hsize : 0 < s.fld (Reg.DMA_CH_SIZE c)) (hsize' : s.fld (Reg.DMA_CH_SIZE c) < 2 ^ 32) :
    let t := s.wptrMoved c
    t.fld (Reg.DMA_CH_WPTR c) = s.wptrNext c ∧ (t.dch c).wrote = 0 ∧ (t.dch c).full = (s.wptrNext c == s.rptrAt c && !s.laps c) ∧
      OnlyFlds [Reg.DMA_CH_WPTR c] s t := by
  have hch : (s.wptrMoved c).dch c = { s.dch c with wrote := 0, full := s.wptrNext c == s.rptrAt c && !s.laps c } :=
    State.dch_setDch_same s c _
  have hlt : s.wptrNext c < 2 ^ 32 := (Nat.mod_lt _ hsize).trans hsize'
  exact ⟨(State.fld_setFld_same ..).trans (Nat.mod_eq_of_lt hlt), congrArg DmaCh.wrote hch, congrArg DmaCh.full hch,
    (OnlyFlds.same (.refl _ s) rfl).setFld (by simp) _⟩

theorem lap_keys : ∀ c : Fin 32,
    (∀ g ∈ [Reg.DMA_CH_RPTR c, Reg.DMA_CH_STATUS_LAP_S c, Reg.DMA_CH_CNT2_LAP_CNT c], (Reg.DMA_CH_WPTR c).key ≠ g.key) ∧
    (∀ g ∈ [Reg.DMA_CH_STATUS_LAP_S c, Reg.DMA_CH_CNT2_LAP_CNT c], (Reg.DMA_CH_RPTR c).key ≠ g.key) ∧
    (Reg.DMA_CH_STATUS_LAP_S c).key ≠ (Reg.DMA_CH_CNT2_LAP_CNT c).key := by decide

/-- A lap moves the reader and is flagged and counted (R297). -/
theorem State.rptrLapped_shows (s : State) (c : Fin 32) {r : Nat} (hr : r < 2 ^ 32) : let t := s.rptrLapped c r
    t.fld (Reg.DMA_CH_WPTR c) = s.fld (Reg.DMA_CH_WPTR c) ∧ t.fld (Reg.DMA_CH_RPTR c) = r ∧ t.on (Reg.DMA_CH_STATUS_LAP_S c) = true ∧
      t.fld (Reg.DMA_CH_CNT2_LAP_CNT c) = s.counted (Reg.DMA_CH_CNT2_LAP_CNT c) := by
  obtain ⟨hw, hr', hflag⟩ := lap_keys c
  unfold State.rptrLapped
  refine ⟨?_, ?_, ?_, ?_⟩
  · rw [State.fld_count_other _ (hw _ (by simp)), State.fld_raise_other _ (hw _ (by simp)), State.fld_setFld_other _ _ (hw _ (by simp))]
  · rw [State.fld_count_other _ (hr' _ (by simp)), State.fld_raise_other _ (hr' _ (by simp)), State.fld_setFld_same]
    exact Nat.mod_eq_of_lt hr
  · rw [State.on, State.fld_count_other _ hflag]
    exact State.on_raise_same _ rfl
  · rw [State.fld_count_same]
    exact State.counted_congr ((State.fld_raise_other _ hflag.symm).trans (State.fld_setFld_other _ _ (hr' _ (by simp)).symm))

/-- The records of a write that stays behind the reader become readable (R297). -/
theorem State.streamWritten_behind {c : Nat} (hn : 0 < 16 * (s.dch c).wrote) (hsize : 0 < s.fld (Reg.DMA_CH_SIZE c))
    (hsize' : s.fld (Reg.DMA_CH_SIZE c) < 2 ^ 32) (hlap : s.laps c = false) : let t := s.streamWritten c
    t.fld (Reg.DMA_CH_WPTR c) = s.wptrNext c ∧ (t.dch c).wrote = 0 ∧ (t.dch c).full = decide (s.wptrNext c = s.rptrAt c) ∧
      OnlyFlds [Reg.DMA_CH_WPTR c] s t := by
  obtain ⟨hw, hwrote, hfull, honly⟩ := State.wptrMoved_shows hsize hsize'
  rw [State.streamWritten_eq hn hsize, if_neg (by rw [hlap]; exact Bool.false_ne_true)]
  refine ⟨hw, hwrote, hfull.trans ?_, honly⟩
  rw [hlap, Bool.not_false, Bool.and_true]
  rfl

/-- The records of a write that passes the reader of an overwriting channel lap it (R297). -/
theorem State.streamWritten_laps (hn : 0 < 16 * (s.dch c).wrote) (hsize : 0 < s.fld (Reg.DMA_CH_SIZE c))
    (hsize' : s.fld (Reg.DMA_CH_SIZE c) < 2 ^ 32) (hlap : s.laps c = true) : let t := s.streamWritten c
    t.fld (Reg.DMA_CH_WPTR c) = s.wptrNext c ∧
      t.fld (Reg.DMA_CH_RPTR c) = (s.fld (Reg.DMA_CH_WPTR c) + 16 * (s.dch c).wrote + 16) % s.fld (Reg.DMA_CH_SIZE c) ∧
      t.on (Reg.DMA_CH_STATUS_LAP_S c) = true ∧ t.fld (Reg.DMA_CH_CNT2_LAP_CNT c) = s.counted (Reg.DMA_CH_CNT2_LAP_CNT c) := by
  obtain ⟨hw, -, -, honly⟩ := State.wptrMoved_shows hsize hsize'
  obtain ⟨hkeys, -⟩ := lap_keys c
  obtain ⟨hkept, hr, hflag, hcnt⟩ := (s.wptrMoved c).rptrLapped_shows c
    ((Nat.mod_lt (s.fld (Reg.DMA_CH_WPTR c) + 16 * (s.dch c).wrote + 16) hsize).trans hsize')
  rw [State.streamWritten_eq hn hsize, if_pos hlap]
  exact ⟨hkept.trans hw, hr, hflag, hcnt.trans (State.counted_congr (honly _ fun g hg => List.mem_singleton.1 hg ▸ (hkeys _ (by simp)).symm))⟩

/-! A request without a completion (R305, R306). -/

theorem place_keys : ∀ c : Fin 32,
    (∀ g ∈ [Reg.DMA_CH_FAULT_STAMP_HI c, Reg.DMA_FAULT_S, Reg.DMA_CH_CNT_FLT_CNT c] ++ trkFlds, (Reg.DMA_CH_FAULT_STAMP_LO c).key ≠ g.key) ∧
    (∀ g ∈ Reg.DMA_CH_CNT_FLT_CNT c :: trkFlds, Reg.DMA_FAULT_S.key ≠ g.key) ∧
    (∀ g ∈ trkFlds, (Reg.DMA_CH_CNT_FLT_CNT c).key ≠ g.key) ∧
    ∀ g ∈ [Reg.DMA_CH_FAULT_INFO_DOM c, Reg.DMA_CH_FAULT_INFO_BEAT c, Reg.DMA_CH_FAULT_INFO_CTX c, Reg.DMA_CH_FAULT_STAMP_LO c,
      Reg.DMA_CH_FAULT_STAMP_HI c, Reg.DMA_FAULT_S, Reg.DMA_CH_FAULT_ADDR c, Reg.DMA_CH_FAULT_INFO_CAUSE c],
      (Reg.DMA_CH_CNT_FLT_CNT c).key ≠ g.key := by decide

/-- The time, the bit and the count of a fault (R305). -/
theorem State.faultPlace_shows (s : State) (c : Fin 32) (dom beat ctx now : Nat) : let t := s.faultPlace c dom beat ctx now
    t.fld (Reg.DMA_CH_FAULT_STAMP_LO c) = now % 2 ^ 32 ∧ bitOf (t.fld Reg.DMA_FAULT_S) c = true ∧
      t.fld (Reg.DMA_CH_CNT_FLT_CNT c) = s.counted (Reg.DMA_CH_CNT_FLT_CNT c) := by
  obtain ⟨hlo, hbit, hcnt, hcnt'⟩ := place_keys c
  unfold State.faultPlace
  refine ⟨?_, ?_, ?_⟩
  · rw [State.noteTracker_fields _ _ fun g hg => hlo g (by simp [hg]), State.fld_count_other _ (hlo _ (by simp)),
      State.fld_raiseBit_other _ _ (hlo _ (by simp)), State.fld_stamp, if_neg (hlo _ (by simp)), if_pos rfl]
    exact Nat.mod_mod ..
  · rw [State.noteTracker_fields _ _ fun g hg => hbit g (by simp [hg]), State.fld_count_other _ (hbit _ (by simp))]
    exact bitOf_raiseBit_same _ c.isLt
  · rw [State.noteTracker_fields _ _ hcnt, State.fld_count_same]
    refine State.counted_congr ?_
    rw [State.fld_raiseBit_other _ _ (hcnt' _ (by simp)), State.fld_stamp_other _ _ (hcnt' _ (by simp)) (hcnt' _ (by simp)),
      State.fld_setFld_other _ _ (hcnt' _ (by simp)), State.fld_setFld_other _ _ (hcnt' _ (by simp)),
      State.fld_setFld_other _ _ (hcnt' _ (by simp))]

theorem fault_blocks : ∀ c : Fin 32, ∀ f ∈ Reg.DMA_CH_FAULT_ADDR c :: Reg.DMA_CH_FAULT_INFO_CAUSE c :: placeFlds c, f.blk ∈ [9, 10] := by decide

/-- The time, the bit and the count of the fault of a channel without fetches, and the blocks that its record lies in (R305). -/
theorem State.dmaFault_records (hjobs : (s.dch c).jobs = []) (cause vaddr beat : Nat) : let t := s.dmaFault c cause vaddr beat
    t.fld (Reg.DMA_CH_FAULT_STAMP_LO c) = s.now % 2 ^ 32 ∧ bitOf (t.fld Reg.DMA_FAULT_S) c = true ∧
      t.fld (Reg.DMA_CH_CNT_FLT_CNT c) = s.counted (Reg.DMA_CH_CNT_FLT_CNT c) ∧ OnlyBlocks [9, 10] s t := by
  obtain ⟨ctx, heq⟩ := s.dmaFault_eq c cause vaddr beat
  rw [hjobs, List.foldl_nil] at heq
  obtain ⟨hlo, hbit, hcnt⟩ := ((s.haltCh c).faultCause c cause vaddr).faultPlace_shows c (s.chDom c) beat ctx s.now
  obtain ⟨-, -, -, hkeys⟩ := place_keys c
  have hcause : ((s.haltCh c).faultCause c cause vaddr).fld (Reg.DMA_CH_CNT_FLT_CNT c) = s.fld (Reg.DMA_CH_CNT_FLT_CNT c) :=
    (State.fld_setFld_other _ _ (hkeys _ (by simp))).trans (State.fld_setFld_other _ _ (hkeys _ (by simp)))
  have honly : OnlyFlds (Reg.DMA_CH_FAULT_ADDR c :: Reg.DMA_CH_FAULT_INFO_CAUSE c :: placeFlds c) s
      ((s.haltCh c).faultCause c cause vaddr) :=
    ((OnlyFlds.same (.refl _ s) (u := s.haltCh c) rfl).setFld (by simp) _).setFld (by simp) _
  have hplace := ((s.haltCh c).faultCause c cause vaddr).faultPlace_fields c (s.chDom c) beat ctx s.now
  rw [heq]
  exact ⟨hlo, hbit, hcnt.trans (State.counted_congr hcause),
    ((honly.trans (hplace.mono fun _ hf => List.mem_cons_of_mem _ (List.mem_cons_of_mem _ hf))).beside (fault_blocks c)).onlyBlocks⟩

/-- When the request of a channel has waited for TMO (R306). -/
def State.dueAt (s : State) (c : Nat) (f : Flight) : Nat := f.takenAt + f.paused + usCycles (s.fld (Reg.DMA_CH_CTRL_TMO c))

theorem execDmaTimeout_faults {f : Flight} (h : (s.dch c).flight = some f) (hsr : s.on Reg.CLK_STATUS_M_SR = false)
    (hdue : s.dueAt c f ≤ s.now) : exec (.dmaTimeout c) s = .next (s.dmaFault c 4 f.vaddr 0) := by
  change Host.Outcome.next _ = _
  rw [h]
  exact congrArg Host.Outcome.next (if_pos ⟨hsr, hdue⟩)

theorem execDmaTimeout_waits {f : Flight} (h : (s.dch c).flight = some f) (hearly : s.now < s.dueAt c f) :
    exec (.dmaTimeout c) s = .next s := by
  change Host.Outcome.next _ = _
  rw [h]
  exact congrArg Host.Outcome.next (if_neg fun hc => Nat.not_le.2 hearly hc.2)

/-! ARES (R307). -/

theorem execDmaAutoResume_resumes (h : (s.dch c).halted = true) (hares : s.on (Reg.DMA_CH_CFG_ARES c) = true)
    (hcause : s.fld (Reg.DMA_CH_FAULT_INFO_CAUSE c) = 4 ∨ s.fld (Reg.DMA_CH_FAULT_INFO_CAUSE c) = 5)
    (hdue : s.faultAt c + 400000 ≤ s.now) : exec (.dmaAutoResume c) s = .next ((s.resume c).count Reg.DMA_CNT_ARES_CNT) :=
  congrArg Host.Outcome.next (if_pos ⟨h, hares, hcause, hdue⟩)

theorem execDmaAutoResume_waits (hearly : s.now < s.faultAt c + 400000) : exec (.dmaAutoResume c) s = .next s :=
  congrArg Host.Outcome.next (if_neg fun ⟨_, _, _, hdue⟩ => Nat.not_le.2 hearly hdue)

/-- Only a fault of cause TIMEOUT or QERR resumes by itself (R307). -/
theorem execDmaAutoResume_stays (hcause : s.fld (Reg.DMA_CH_FAULT_INFO_CAUSE c) < 4 ∨ 5 < s.fld (Reg.DMA_CH_FAULT_INFO_CAUSE c)) :
    exec (.dmaAutoResume c) s = .next s :=
  congrArg Host.Outcome.next (if_neg fun ⟨_, _, hres, _⟩ => by omega)

end Sys2Proof.Machine

/-- Settles O51: START and RESUME act on the state that notes their write, where the channel's record is that before it; records by whether they
lap the reader, a request by the time it has waited, and ARES by the cause and the time of the fault. -/
theorem dmaChannelsRunHaltAndResume : Obligations.DmaChannelsRunHaltAndResume := by
  refine ⟨fun s p c ht => ?_, fun s c k hk hphase hruns => ?_, fun s c => ⟨fun hnone => ?_, fun hn hsize hsize' hbehind => ?_,
      fun hn hsize hsize' hmode hlap => ?_⟩, fun s c f hf hsr => ⟨fun hdue => ?_, fun hearly => execDmaTimeout_waits hf hearly⟩,
    fun s c hhalt hares => ⟨fun hcause => ⟨fun hdue => ?_, fun hearly => execDmaAutoResume_waits hearly⟩, fun hcause =>
      execDmaAutoResume_stays hcause⟩⟩
  · have hnote := s.noteWrite_fields p (addrCtrl c)
    have hmay := s.mayCopy_noteWrite p (addrCtrl c) c
    have hch := s.noteWrite_dch p (addrCtrl c) c
    have hat := s.faultAt_noteWrite p (addrCtrl c) c
    have hnow := s.noteWrite_now p (addrCtrl c)
    refine ⟨fun hkind hidle => ?_, fun hno => ?_, fun hhalt hold => ?_, fun hhalt hnew => ?_, fun hruns => ?_⟩
    · have hdesc : (s.noteWrite p (addrCtrl c)).fld (Reg.DMA_CH_DESC c) = s.fld (Reg.DMA_CH_DESC c) :=
        s.noteWrite_chRead p _ c (by simp [chReadFlds])
      have hstart := State.copyStart_begins (hmay.2 ⟨hkind, hidle⟩) p
      rw [hdesc] at hstart
      exact ⟨_, (exec_copyStart_takes ht).trans (congrArg Host.Outcome.next hstart), congrArg DmaCh.copy (State.dch_setDch_same ..),
        hnote.same rfl⟩
    · have hrefuses := State.copyStart_refuses (mt hmay.1 fun h => hno.elim (absurd h.1) (absurd h.2)) p
      exact ⟨_, (exec_copyStart_takes ht).trans (congrArg Host.Outcome.next hrefuses), .of_refuse ..⟩
    · have hres := State.dmaResume_resumes (hch ▸ hhalt) (by rwa [hat, hnow]) p
      exact ⟨_, (exec_dmaResume_takes ht).trans (congrArg Host.Outcome.next hres), (State.resume_dch ..).trans (by rw [hch]),
        hnote.same rfl⟩
    · have hlost := State.dmaResume_loses (hch ▸ hhalt) (by rwa [hat, hnow]) p
      exact ⟨_, (exec_dmaResume_takes ht).trans (congrArg Host.Outcome.next hlost), s.noteWrite_mem p _, hnote⟩
    · have hrefuses := State.dmaResume_refuses (hch ▸ hruns) p
      exact ⟨_, (exec_dmaResume_takes ht).trans (congrArg Host.Outcome.next hrefuses), .of_refuse ..⟩
  · exact ⟨_, execCopyDescriptorDone_counts hk hphase hruns, s.described_shows c k⟩
  · exact congrArg Host.Outcome.next (State.streamWritten_none hnone)
  · have hlap : s.laps c = false := Bool.and_eq_false_iff.2 hbehind
    exact ⟨_, rfl, State.streamWritten_behind hn hsize hsize' hlap⟩
  · have hlap' : s.laps c = true := Bool.and_eq_true_iff.2 ⟨hmode, hlap⟩
    exact ⟨_, rfl, State.streamWritten_laps hn hsize hsize' hlap'⟩
  · have hch := s.dmaFault_dch c 4 f.vaddr 0
    refine ⟨_, execDmaTimeout_faults hf hsr hdue, congrArg DmaCh.halted hch, congrArg DmaCh.flight hch, congrArg DmaCh.jobs hch, fun hjobs => ?_⟩
    obtain ⟨-, haddr, hcause, -⟩ := State.dmaFault_shows hjobs 4 f.vaddr 0
    obtain ⟨hlo, hbit, hcnt, honly⟩ := State.dmaFault_records hjobs 4 f.vaddr 0
    exact ⟨hcause, haddr, hlo, hbit, hcnt, honly⟩
  · have hch : ((s.resume c).count Reg.DMA_CNT_ARES_CNT).dch c = _ := s.resume_dch c
    exact ⟨_, execDmaAutoResume_resumes hhalt hares hcause hdue, congrArg DmaCh.halted hch, State.fld_count_same ..,
      (OnlyFlds.same (.refl _ s) rfl).count (by simp)⟩

end
